-- ==== Sys2Proof/Word.lean ====
section
/-! DEFINITION. The word types of the DG128 and their plainest arithmetic (R8-R11 of 00_scope.md). -/

namespace Sys2Proof

/-- A 64-bit register or in-memory word, bit 0 least significant (R10, R11). -/
abbrev Word := BitVec 64

/-- One byte of a payload or of a wire format (R11, R12). -/
abbrev Byte := BitVec 8

/-- A 32-bit ring position or packet sequence number, which wraps modulo 2^32 (R33, R200). -/
abbrev Pos := BitVec 32

end Sys2Proof
end

