-- ==== Sys2Proof/Machine/RegTable.lean ====
section
/-! DEFINITION. The register map of BAR0: one name per register, where it lies, its fields with their access codes, and its
reset value. It follows the register tables of the chapters, R13-R17 of 00_scope.md and R539-R553 of 22_register_conventions.md. -/

namespace Sys2Proof

/-- The register blocks of R542, in the order of their gates (R478). -/
inductive Block where
  | sys | clk | pwr | flt | cnt | gte | sec | cmd | lck | hif | xlt | qmg | mtc | rma | trn | chr | eng | qos | rte | swc | llr | lns | mem
  deriving DecidableEq, Repr

/-- Every register the manual defines, by its own name. -/
inductive Reg where
  | qmgCtrl | qmgPrefetch | qmgEvictCtrl | qmgPinLimit | qmgCacheStatus | qmgCqStallTmo
  | qmgErrQid | qmgPondQuota | qmgPondUsed | qmgEpWeight | qmgQstatSel | qmgQstat
  | qmgEqPi | qmgEqCi | mtcCtrl | mtcUnexpSize | mtcOvflSize | mtcUnexpTmo
  | mtcUsage | mtcErrCtx | mtcCtxSel | mtcCtxStat | mtcUnitOcc | rmaCtrl
  | rmaAtomicCtrl | rmaDeregTmo | rmaKeyringSize | rmaEvtHoldoff | rmaRegionCount | rmaErr
  | rmaErrAddr | rmaKeySel | rmaKeyStat | xltCtrl | xltInvalStatus | xltFaultInfo
  | xltFaultVa | xltFaultEntry | xltAsidSel | xltAsidStat | xltAsidRoot | xltDevwinBase
  | xltDevwinLimit | trnCtrl | trnRto | trnRetry | trnNotnow | trnAck
  | trnPeerCfg | trnHold | trnOplogSize | trnIncarnation | trnPeerCount | trnErr
  | trnOpenCount | trnPeerSel | trnPeerStat | trnPeerPsn | chrCtrl | chrAccWidth
  | chrGroupCount | chrErr | chrGroupSel | chrGroupStat | chrGroupMembers | lckCtrl
  | lckInheritWeight | lckVarSize | lckCount | lckLockSel | lckLockStat | lckLockWait
  | rteDims | rteRouteCtrl | rteCvecPeriod | rteCvecThresh | rteMapCtrl | rtePortUsable
  | rteErr | rteNorouteCnt | rteHoplimitCnt | rteExcAddMatch | rteExcAddAction | rteExcStatus
  | rteExcDel | rteLineTable | rteExcMatch | rteExcAction | swcFwdMode | swcVcReserve
  | swcIntReserve | swcSharedCtrl | swcResidueTmo | swcMarkProfile | swcAudit | swcOcc
  | swcErr | swcStompCnt | swcDropCnt | swcMirrorDropCnt | swcLeakCnt | swcMirrorCtrl
  | swcMirrorFlow | qosQuantum | qosTc0Scale | qosCcCtrl | qosCcRate | qosWheelStat
  | qosSampleCtrl | qosPolMap | qosShapeMap | qosShape | qosQsampleSel | qosQsample
  | qosQsampleLast | qosPolRate | qosPolBurst | qosPolCtrl | qosPolStat | llrCtrl
  | llrCreditTmo | llrGrace | llrErrWindow | llrReplayLimit | llrReplayTmo | llrWindow
  | llrAck | llrAudit | llrBrdSpill | llrEthCtrl | llrEthPfc | llrStatus
  | llrSeq | llrErr | llrCredit | llrCrcErrCnt | llrReplayCnt | llrDownCnt
  | llrFlushCnt | llrStompRxCnt | llrEthDropCnt | lnsCtrl | lnsTxEq | lnsAcq
  | lnsPortCtrl | lnsStatus | lnsPartner | lnsCoef | lnsEyeCtrl | lnsEye
  | lnsTest | lnsTestUser | lnsFecInj | lnsFecCorrCnt | lnsFecUncorrCnt | lnsChkBitsCnt
  | lnsChkErrCnt | lnsLocklossCnt | lnsAcqFailCnt | hifLinkCtrl | hifLinkStatus | hifAtomicCap
  | hifFlrDrain | hifMsixAlloc | hifFuncStatus | hifErr | hifDbErrCnt | hifLinkdownCnt
  | hifFlrCnt | hifPoisonCnt | hifCplTmoCnt | hifSem | pwrBudget | pwrBudgetClass
  | pwrRampLimit | pwrBcaCtrl | pwrBcaMap | pwrBcaStatus | pwrArbCtrl | pwrArbStatus
  | pwrPred | pwrTherm | pwrTemp | pwrEst | pwrDispatchFactor | pwrDomainState
  | pwrNoticeCnt | pwrClassChgCnt | pwrWakeCnt | sysCtrl | sysStatus | sysBootCount
  | sysResetCause | clkStatus | clkMonCtrl | clkMonSel | clkMon | clkOutCtrl
  | clkTimeCtrl | clkTimeStatus | clkDtime | clkDtimeSet | cmdRingBase | cmdStatusBase
  | cmdPi | cmdCi | cmdErr | cmdHingeStatus | cmdActiveGen | cmdFabCtrl
  | cmdFwStatus | cmdFabDropCnt | gteRuleSel | gteRuleW | gteViolPend | gteViolCnt
  | gteHostwinBase | gteHostwinLimit | gteViolInfo | gteViolAddr | gteViolLen | secLock
  | secCtrl | secStatus | secDebug | secFuse | secAuditCtrl | secAuditStatus
  | secAuditRec | fltFirstLo | fltFirstHi | fltOverflow | fltPinMask | fltClassCnt
  | fltPend | fltSvcCtrl | fltRetiredMpe | fltRetired | fltMigrate | fltMemtest
  | cntDumpBase | cntDumpPeriod | cntDumpStatus | cntReadSel | cntRead | cntSampleBase
  | cntSampleCtrl | cntSampleMask | cntSamplePi | cntSampleCi | cntTelemRx | sysId
  | sysRev | sysSerial | sysAccErr | sysScratch
  deriving DecidableEq, Repr

/-- The access codes of R15. -/
inductive Access where
  | ro | rw | w1c | w1s | wo | rwl
  deriving DecidableEq, Repr

/-- One field of a register: bits [hi:lo], its access code, and whether it carries RS (R15, R16). -/
structure FieldDef where
  hi : Nat
  lo : Nat
  acc : Access
  rs : Bool
  deriving DecidableEq, Repr

/-- Which instances of its block hold a register (R541). -/
inductive Presence where
  | all | first | everyFourth
  deriving DecidableEq, Repr

/-- Where a register lies in its block (R13): element k of an array, lo ≤ k < n1 * n2, is at
off + st1 * (k / n2) + st2 * (k % n2). -/
structure RegDef where
  block : Block
  off : Nat
  lo : Nat
  n1 : Nat
  st1 : Nat
  n2 : Nat
  st2 : Nat
  cs : Bool
  present : Presence
  fields : List FieldDef
  deriving DecidableEq, Repr

/-- The register tables of all chapters (R75, R133, R163, R188, R226, R253, R271, R298, R319, R334, R364, R385, R405, R428,
R449, R450, R475, R503, R504, R526, R538, R553). -/
def Reg.info : Reg → RegDef
  | .qmgCtrl => ⟨.qmg, 0x0, 0, 1, 0, 1, 0, true, .all,
      [⟨0, 0, .rw, false⟩]⟩
  | .qmgPrefetch => ⟨.qmg, 0x8, 0, 1, 0, 1, 0, true, .all,
      [⟨31, 16, .rw, false⟩, ⟨11, 8, .rw, false⟩, ⟨4, 0, .rw, false⟩]⟩
  | .qmgEvictCtrl => ⟨.qmg, 0x10, 0, 1, 0, 1, 0, true, .all,
      [⟨63, 32, .rw, false⟩, ⟨31, 0, .rw, false⟩]⟩
  | .qmgPinLimit => ⟨.qmg, 0x18, 0, 1, 0, 1, 0, true, .all,
      [⟨14, 0, .rw, false⟩]⟩
  | .qmgCacheStatus => ⟨.qmg, 0x20, 0, 1, 0, 1, 0, false, .all,
      [⟨47, 32, .ro, false⟩, ⟨31, 16, .ro, false⟩, ⟨15, 0, .ro, false⟩]⟩
  | .qmgCqStallTmo => ⟨.qmg, 0x28, 0, 1, 0, 1, 0, true, .all,
      [⟨19, 0, .rw, false⟩]⟩
  | .qmgErrQid => ⟨.qmg, 0x30, 0, 1, 0, 1, 0, false, .all,
      [⟨63, 63, .w1c, false⟩, ⟨19, 0, .ro, false⟩]⟩
  | .qmgPondQuota => ⟨.qmg, 0x40, 0, 7, 8, 1, 0, true, .all,
      [⟨15, 0, .rw, false⟩]⟩
  | .qmgPondUsed => ⟨.qmg, 0x80, 0, 7, 8, 1, 0, false, .all,
      [⟨15, 0, .ro, false⟩]⟩
  | .qmgEpWeight => ⟨.qmg, 0x100, 0, 8, 8, 1, 0, true, .all,
      [⟨7, 0, .rw, false⟩]⟩
  | .qmgQstatSel => ⟨.qmg, 0x200, 0, 1, 0, 1, 0, false, .all,
      [⟨19, 0, .rw, false⟩]⟩
  | .qmgQstat => ⟨.qmg, 0x208, 0, 1, 0, 1, 0, false, .all,
      [⟨63, 32, .ro, false⟩, ⟨6, 4, .ro, false⟩, ⟨2, 0, .ro, false⟩]⟩
  | .qmgEqPi => ⟨.qmg, 0x10000, 1, 4096, 16, 1, 0, false, .all,
      [⟨31, 0, .ro, true⟩]⟩
  | .qmgEqCi => ⟨.qmg, 0x10008, 1, 4096, 16, 1, 0, false, .all,
      [⟨63, 63, .w1c, true⟩, ⟨31, 0, .rw, true⟩]⟩
  | .mtcCtrl => ⟨.mtc, 0x0, 0, 1, 0, 1, 0, true, .all,
      [⟨42, 32, .rw, false⟩, ⟨14, 0, .rw, false⟩]⟩
  | .mtcUnexpSize => ⟨.mtc, 0x8, 0, 1, 0, 1, 0, true, .all,
      [⟨13, 0, .rw, false⟩]⟩
  | .mtcOvflSize => ⟨.mtc, 0x10, 0, 1, 0, 1, 0, true, .all,
      [⟨10, 0, .rw, false⟩]⟩
  | .mtcUnexpTmo => ⟨.mtc, 0x18, 0, 1, 0, 1, 0, true, .all,
      [⟨19, 0, .rw, false⟩]⟩
  | .mtcUsage => ⟨.mtc, 0x20, 0, 1, 0, 1, 0, false, .all,
      [⟨63, 32, .ro, false⟩, ⟨31, 0, .ro, false⟩]⟩
  | .mtcErrCtx => ⟨.mtc, 0x28, 0, 1, 0, 1, 0, false, .all,
      [⟨63, 63, .w1c, false⟩, ⟨15, 0, .ro, false⟩]⟩
  | .mtcCtxSel => ⟨.mtc, 0x40, 0, 1, 0, 1, 0, false, .all,
      [⟨15, 0, .rw, false⟩]⟩
  | .mtcCtxStat => ⟨.mtc, 0x48, 0, 1, 0, 1, 0, false, .all,
      [⟨63, 36, .ro, false⟩, ⟨35, 8, .ro, false⟩, ⟨7, 3, .ro, false⟩, ⟨2, 0, .ro, false⟩]⟩
  | .mtcUnitOcc => ⟨.mtc, 0x100, 0, 24, 8, 1, 0, false, .all,
      [⟨63, 32, .ro, false⟩, ⟨13, 0, .ro, false⟩]⟩
  | .rmaCtrl => ⟨.rma, 0x0, 0, 1, 0, 1, 0, true, .all,
      [⟨0, 0, .rw, false⟩]⟩
  | .rmaAtomicCtrl => ⟨.rma, 0x8, 0, 1, 0, 1, 0, true, .all,
      [⟨15, 0, .rw, false⟩]⟩
  | .rmaDeregTmo => ⟨.rma, 0x10, 0, 1, 0, 1, 0, true, .all,
      [⟨19, 0, .rw, false⟩]⟩
  | .rmaKeyringSize => ⟨.rma, 0x18, 0, 1, 0, 1, 0, true, .all,
      [⟨8, 0, .rw, false⟩]⟩
  | .rmaEvtHoldoff => ⟨.rma, 0x20, 0, 1, 0, 1, 0, true, .all,
      [⟨19, 0, .rw, false⟩]⟩
  | .rmaRegionCount => ⟨.rma, 0x28, 0, 1, 0, 1, 0, false, .all,
      [⟨24, 0, .ro, true⟩]⟩
  | .rmaErr => ⟨.rma, 0x30, 0, 1, 0, 1, 0, false, .all,
      [⟨63, 63, .w1c, false⟩, ⟨62, 60, .ro, false⟩, ⟨58, 32, .ro, false⟩, ⟨31, 0, .ro, false⟩]⟩
  | .rmaErrAddr => ⟨.rma, 0x38, 0, 1, 0, 1, 0, false, .all,
      [⟨63, 0, .ro, false⟩]⟩
  | .rmaKeySel => ⟨.rma, 0x40, 0, 1, 0, 1, 0, false, .all,
      [⟨23, 0, .rw, false⟩]⟩
  | .rmaKeyStat => ⟨.rma, 0x48, 0, 1, 0, 1, 0, false, .all,
      [⟨47, 16, .ro, false⟩, ⟨15, 8, .ro, false⟩, ⟨1, 0, .ro, false⟩]⟩
  | .xltCtrl => ⟨.xlt, 0x0, 0, 1, 0, 1, 0, true, .all,
      [⟨23, 16, .rw, false⟩, ⟨14, 8, .rw, false⟩, ⟨0, 0, .rw, false⟩]⟩
  | .xltInvalStatus => ⟨.xlt, 0x8, 0, 1, 0, 1, 0, false, .all,
      [⟨63, 32, .ro, false⟩, ⟨4, 0, .ro, false⟩]⟩
  | .xltFaultInfo => ⟨.xlt, 0x10, 0, 1, 0, 1, 0, false, .all,
      [⟨63, 63, .w1c, false⟩, ⟨62, 60, .ro, false⟩, ⟨59, 56, .ro, false⟩, ⟨24, 24, .ro, false⟩, ⟨23, 16, .ro, false⟩, ⟨15, 0, .ro, false⟩]⟩
  | .xltFaultVa => ⟨.xlt, 0x18, 0, 1, 0, 1, 0, false, .all,
      [⟨63, 0, .ro, false⟩]⟩
  | .xltFaultEntry => ⟨.xlt, 0x20, 0, 1, 0, 1, 0, false, .all,
      [⟨51, 0, .ro, false⟩]⟩
  | .xltAsidSel => ⟨.xlt, 0x40, 0, 1, 0, 1, 0, false, .all,
      [⟨15, 0, .rw, false⟩]⟩
  | .xltAsidStat => ⟨.xlt, 0x48, 0, 1, 0, 1, 0, false, .all,
      [⟨63, 48, .ro, false⟩, ⟨47, 36, .ro, false⟩, ⟨10, 8, .ro, false⟩, ⟨5, 4, .ro, false⟩, ⟨3, 1, .ro, false⟩, ⟨0, 0, .ro, false⟩]⟩
  | .xltAsidRoot => ⟨.xlt, 0x50, 0, 1, 0, 1, 0, false, .all,
      [⟨51, 12, .ro, false⟩]⟩
  | .xltDevwinBase => ⟨.xlt, 0x100, 0, 32, 16, 1, 0, true, .all,
      [⟨51, 12, .rw, false⟩, ⟨11, 4, .rw, false⟩, ⟨0, 0, .rw, false⟩]⟩
  | .xltDevwinLimit => ⟨.xlt, 0x108, 0, 32, 16, 1, 0, true, .all,
      [⟨51, 12, .rw, false⟩]⟩
  | .trnCtrl => ⟨.trn, 0x0, 0, 1, 0, 1, 0, true, .all,
      [⟨15, 3, .rw, false⟩, ⟨2, 0, .rw, false⟩]⟩
  | .trnRto => ⟨.trn, 0x8, 0, 1, 0, 1, 0, true, .all,
      [⟨47, 32, .rw, false⟩, ⟨31, 16, .rw, false⟩, ⟨15, 0, .rw, false⟩]⟩
  | .trnRetry => ⟨.trn, 0x10, 0, 1, 0, 1, 0, true, .all,
      [⟨27, 8, .rw, false⟩, ⟨7, 0, .rw, false⟩]⟩
  | .trnNotnow => ⟨.trn, 0x18, 0, 1, 0, 1, 0, true, .all,
      [⟨63, 44, .rw, false⟩, ⟨31, 16, .rw, false⟩, ⟨15, 0, .rw, false⟩]⟩
  | .trnAck => ⟨.trn, 0x20, 0, 1, 0, 1, 0, true, .all,
      [⟨47, 32, .rw, false⟩, ⟨31, 16, .rw, false⟩, ⟨7, 0, .rw, false⟩]⟩
  | .trnPeerCfg => ⟨.trn, 0x28, 0, 1, 0, 1, 0, true, .all,
      [⟨47, 32, .rw, false⟩, ⟨22, 0, .rw, false⟩]⟩
  | .trnHold => ⟨.trn, 0x30, 0, 1, 0, 1, 0, true, .all,
      [⟨47, 32, .rw, false⟩, ⟨19, 0, .rw, false⟩]⟩
  | .trnOplogSize => ⟨.trn, 0x38, 0, 1, 0, 1, 0, true, .all,
      [⟨11, 0, .rw, false⟩]⟩
  | .trnIncarnation => ⟨.trn, 0x40, 0, 1, 0, 1, 0, false, .all,
      [⟨31, 0, .ro, true⟩]⟩
  | .trnPeerCount => ⟨.trn, 0x48, 0, 1, 0, 1, 0, false, .all,
      [⟨54, 32, .ro, true⟩, ⟨16, 0, .ro, false⟩]⟩
  | .trnErr => ⟨.trn, 0x50, 0, 1, 0, 1, 0, false, .all,
      [⟨63, 63, .w1c, false⟩, ⟨62, 60, .ro, false⟩, ⟨59, 57, .ro, false⟩, ⟨56, 55, .ro, false⟩, ⟨53, 27, .ro, false⟩]⟩
  | .trnOpenCount => ⟨.trn, 0x58, 0, 1, 0, 1, 0, false, .all,
      [⟨63, 0, .ro, true⟩]⟩
  | .trnPeerSel => ⟨.trn, 0x60, 0, 1, 0, 1, 0, false, .all,
      [⟨31, 29, .rw, false⟩, ⟨28, 27, .rw, false⟩, ⟨26, 0, .rw, false⟩]⟩
  | .trnPeerStat => ⟨.trn, 0x68, 0, 1, 0, 1, 0, false, .all,
      [⟨63, 61, .ro, false⟩, ⟨60, 60, .ro, false⟩, ⟨44, 32, .ro, false⟩, ⟨31, 0, .ro, false⟩]⟩
  | .trnPeerPsn => ⟨.trn, 0x70, 0, 1, 0, 1, 0, false, .all,
      [⟨63, 32, .ro, false⟩, ⟨31, 0, .ro, false⟩]⟩
  | .chrCtrl => ⟨.chr, 0x0, 0, 1, 0, 1, 0, true, .all,
      [⟨47, 32, .rw, false⟩, ⟨31, 24, .rw, false⟩, ⟨23, 8, .rw, false⟩, ⟨7, 4, .rw, false⟩, ⟨3, 0, .rw, false⟩]⟩
  | .chrAccWidth => ⟨.chr, 0x8, 0, 1, 0, 1, 0, true, .all,
      [⟨31, 0, .rw, false⟩]⟩
  | .chrGroupCount => ⟨.chr, 0x10, 0, 1, 0, 1, 0, false, .all,
      [⟨44, 32, .ro, true⟩, ⟨12, 0, .ro, true⟩]⟩
  | .chrErr => ⟨.chr, 0x18, 0, 1, 0, 1, 0, false, .all,
      [⟨63, 63, .w1c, false⟩, ⟨62, 60, .ro, false⟩, ⟨59, 48, .ro, false⟩, ⟨26, 0, .ro, false⟩]⟩
  | .chrGroupSel => ⟨.chr, 0x40, 0, 1, 0, 1, 0, false, .all,
      [⟨11, 0, .rw, false⟩]⟩
  | .chrGroupStat => ⟨.chr, 0x48, 0, 1, 0, 1, 0, false, .all,
      [⟨63, 32, .ro, false⟩, ⟨31, 29, .ro, false⟩, ⟨28, 28, .ro, false⟩, ⟨27, 27, .ro, false⟩, ⟨26, 24, .ro, false⟩, ⟨23, 16, .ro, false⟩, ⟨15, 0, .ro, false⟩]⟩
  | .chrGroupMembers => ⟨.chr, 0x50, 0, 1, 0, 1, 0, false, .all,
      [⟨50, 32, .ro, false⟩, ⟨18, 0, .ro, false⟩]⟩
  | .lckCtrl => ⟨.lck, 0x0, 0, 1, 0, 1, 0, true, .all,
      [⟨1, 1, .rw, false⟩, ⟨0, 0, .rw, false⟩]⟩
  | .lckInheritWeight => ⟨.lck, 0x8, 0, 2, 8, 1, 0, true, .all,
      [⟨63, 0, .rw, false⟩]⟩
  | .lckVarSize => ⟨.lck, 0x18, 0, 1, 0, 1, 0, true, .all,
      [⟨10, 0, .rw, false⟩]⟩
  | .lckCount => ⟨.lck, 0x20, 0, 1, 0, 1, 0, false, .all,
      [⟨61, 40, .ro, true⟩, ⟨34, 20, .ro, true⟩, ⟨14, 0, .ro, true⟩]⟩
  | .lckLockSel => ⟨.lck, 0x40, 0, 1, 0, 1, 0, false, .all,
      [⟨13, 0, .rw, false⟩]⟩
  | .lckLockStat => ⟨.lck, 0x48, 0, 1, 0, 1, 0, false, .all,
      [⟨63, 61, .ro, false⟩, ⟨60, 60, .ro, false⟩, ⟨59, 56, .ro, false⟩, ⟨55, 52, .ro, false⟩, ⟨51, 40, .ro, false⟩, ⟨26, 0, .ro, false⟩]⟩
  | .lckLockWait => ⟨.lck, 0x50, 0, 1, 0, 1, 0, false, .all,
      [⟨63, 48, .ro, false⟩, ⟨21, 0, .ro, false⟩]⟩
  | .rteDims => ⟨.rte, 0x0, 0, 1, 0, 1, 0, true, .all,
      [⟨59, 54, .rw, false⟩, ⟨53, 48, .rw, false⟩, ⟨47, 42, .rw, false⟩, ⟨41, 36, .rw, false⟩, ⟨33, 32, .rw, false⟩, ⟨23, 0, .rw, false⟩]⟩
  | .rteRouteCtrl => ⟨.rte, 0x8, 0, 1, 0, 1, 0, true, .all,
      [⟨63, 48, .rw, false⟩, ⟨47, 44, .rw, false⟩, ⟨43, 40, .rw, false⟩, ⟨39, 32, .rw, false⟩, ⟨31, 24, .rw, false⟩, ⟨23, 16, .rw, false⟩, ⟨2, 0, .rw, false⟩]⟩
  | .rteCvecPeriod => ⟨.rte, 0x10, 0, 1, 0, 1, 0, true, .all,
      [⟨15, 0, .rw, false⟩]⟩
  | .rteCvecThresh => ⟨.rte, 0x18, 0, 1, 0, 1, 0, true, .all,
      [⟨39, 20, .rw, false⟩, ⟨19, 0, .rw, false⟩]⟩
  | .rteMapCtrl => ⟨.rte, 0x20, 0, 1, 0, 1, 0, true, .all,
      [⟨63, 63, .rw, false⟩, ⟨47, 32, .rw, false⟩, ⟨31, 0, .rw, false⟩]⟩
  | .rtePortUsable => ⟨.rte, 0x40, 0, 2, 8, 1, 0, false, .all,
      [⟨63, 0, .ro, false⟩]⟩
  | .rteErr => ⟨.rte, 0x50, 0, 1, 0, 1, 0, false, .all,
      [⟨63, 63, .w1c, false⟩, ⟨62, 60, .ro, false⟩, ⟨58, 56, .ro, false⟩, ⟨26, 0, .ro, false⟩]⟩
  | .rteNorouteCnt => ⟨.rte, 0x58, 0, 1, 0, 1, 0, false, .all,
      [⟨63, 63, .w1c, false⟩, ⟨47, 0, .ro, false⟩]⟩
  | .rteHoplimitCnt => ⟨.rte, 0x60, 0, 1, 0, 1, 0, false, .all,
      [⟨63, 63, .w1c, false⟩, ⟨47, 0, .ro, false⟩]⟩
  | .rteExcAddMatch => ⟨.rte, 0x80, 0, 1, 0, 1, 0, false, .all,
      [⟨58, 32, .rw, false⟩, ⟨26, 0, .rw, false⟩]⟩
  | .rteExcAddAction => ⟨.rte, 0x88, 0, 1, 0, 1, 0, false, .all,
      [⟨9, 8, .wo, false⟩, ⟨7, 6, .wo, false⟩, ⟨5, 0, .wo, false⟩]⟩
  | .rteExcStatus => ⟨.rte, 0x90, 0, 1, 0, 1, 0, false, .all,
      [⟨63, 63, .w1c, false⟩, ⟨62, 62, .w1c, false⟩, ⟨44, 32, .ro, true⟩, ⟨11, 0, .ro, false⟩]⟩
  | .rteExcDel => ⟨.rte, 0x98, 0, 1, 0, 1, 0, false, .all,
      [⟨11, 0, .wo, false⟩]⟩
  | .rteLineTable => ⟨.rte, 0x1000, 0, 4, 512, 64, 8, true, .all,
      [⟨31, 31, .rw, false⟩, ⟨30, 24, .rw, false⟩, ⟨23, 23, .rw, false⟩, ⟨22, 16, .rw, false⟩, ⟨15, 15, .rw, false⟩, ⟨14, 8, .rw, false⟩, ⟨7, 7, .rw, false⟩, ⟨6, 0, .rw, false⟩]⟩
  | .rteExcMatch => ⟨.rte, 0x10000, 0, 4096, 16, 1, 0, false, .all,
      [⟨58, 32, .ro, true⟩, ⟨26, 0, .ro, true⟩]⟩
  | .rteExcAction => ⟨.rte, 0x10008, 0, 4096, 16, 1, 0, false, .all,
      [⟨63, 63, .ro, true⟩, ⟨9, 8, .ro, true⟩, ⟨7, 6, .ro, true⟩, ⟨5, 0, .ro, true⟩]⟩
  | .swcFwdMode => ⟨.swc, 0x0, 0, 16, 8, 1, 0, true, .all,
      [⟨2, 0, .rw, false⟩]⟩
  | .swcVcReserve => ⟨.swc, 0x80, 0, 2, 8, 1, 0, true, .all,
      [⟨63, 0, .rw, false⟩]⟩
  | .swcIntReserve => ⟨.swc, 0x90, 0, 2, 8, 1, 0, true, .all,
      [⟨63, 0, .rw, false⟩]⟩
  | .swcSharedCtrl => ⟨.swc, 0xA0, 0, 1, 0, 1, 0, true, .all,
      [⟨63, 32, .rw, false⟩, ⟨17, 0, .rw, false⟩]⟩
  | .swcResidueTmo => ⟨.swc, 0xA8, 0, 1, 0, 1, 0, true, .all,
      [⟨19, 0, .rw, false⟩]⟩
  | .swcMarkProfile => ⟨.swc, 0x100, 0, 8, 32, 3, 8, true, .all,
      [⟨63, 62, .rw, false⟩, ⟨55, 48, .rw, false⟩, ⟨39, 20, .rw, false⟩, ⟨19, 0, .rw, false⟩]⟩
  | .swcAudit => ⟨.swc, 0x200, 0, 1, 0, 1, 0, true, .all,
      [⟨63, 63, .rw, false⟩, ⟨15, 0, .rw, false⟩]⟩
  | .swcOcc => ⟨.swc, 0x208, 0, 1, 0, 1, 0, false, .all,
      [⟨49, 32, .ro, false⟩, ⟨17, 0, .ro, false⟩]⟩
  | .swcErr => ⟨.swc, 0x210, 0, 1, 0, 1, 0, false, .all,
      [⟨63, 63, .w1c, false⟩, ⟨62, 60, .ro, false⟩, ⟨38, 32, .ro, false⟩, ⟨16, 0, .ro, false⟩]⟩
  | .swcStompCnt => ⟨.swc, 0x220, 0, 1, 0, 1, 0, false, .all,
      [⟨63, 63, .w1c, false⟩, ⟨47, 0, .ro, false⟩]⟩
  | .swcDropCnt => ⟨.swc, 0x228, 0, 1, 0, 1, 0, false, .all,
      [⟨63, 63, .w1c, false⟩, ⟨47, 0, .ro, false⟩]⟩
  | .swcMirrorDropCnt => ⟨.swc, 0x230, 0, 1, 0, 1, 0, false, .all,
      [⟨63, 63, .w1c, false⟩, ⟨47, 0, .ro, false⟩]⟩
  | .swcLeakCnt => ⟨.swc, 0x238, 0, 1, 0, 1, 0, false, .all,
      [⟨63, 63, .w1c, false⟩, ⟨47, 0, .ro, false⟩]⟩
  | .swcMirrorCtrl => ⟨.swc, 0x400, 0, 4, 16, 1, 0, true, .first,
      [⟨63, 63, .rw, false⟩, ⟨62, 61, .rw, false⟩, ⟨60, 60, .rw, false⟩, ⟨59, 52, .rw, false⟩, ⟨51, 45, .rw, false⟩, ⟨44, 44, .rw, false⟩, ⟨43, 37, .rw, false⟩, ⟨32, 13, .rw, false⟩, ⟨12, 0, .rw, false⟩]⟩
  | .swcMirrorFlow => ⟨.swc, 0x408, 0, 4, 16, 1, 0, true, .first,
      [⟨58, 32, .rw, false⟩, ⟨31, 31, .rw, false⟩, ⟨26, 0, .rw, false⟩]⟩
  | .qosQuantum => ⟨.qos, 0x0, 0, 1, 0, 1, 0, true, .all,
      [⟨47, 32, .rw, false⟩, ⟨31, 16, .rw, false⟩, ⟨15, 0, .rw, false⟩]⟩
  | .qosTc0Scale => ⟨.qos, 0x8, 0, 1, 0, 1, 0, true, .all,
      [⟨31, 0, .rw, false⟩]⟩
  | .qosCcCtrl => ⟨.qos, 0x10, 0, 1, 0, 1, 0, true, .all,
      [⟨63, 63, .rw, false⟩, ⟨55, 48, .rw, false⟩, ⟨39, 32, .rw, false⟩, ⟨23, 16, .rw, false⟩, ⟨15, 0, .rw, false⟩]⟩
  | .qosCcRate => ⟨.qos, 0x18, 0, 1, 0, 1, 0, true, .all,
      [⟨52, 32, .rw, false⟩, ⟨20, 0, .rw, false⟩]⟩
  | .qosWheelStat => ⟨.qos, 0x20, 0, 1, 0, 1, 0, false, .all,
      [⟨63, 32, .ro, false⟩, ⟨31, 0, .ro, false⟩]⟩
  | .qosSampleCtrl => ⟨.qos, 0x28, 0, 1, 0, 1, 0, true, .all,
      [⟨63, 63, .rw, false⟩, ⟨15, 0, .rw, false⟩]⟩
  | .qosPolMap => ⟨.qos, 0x40, 0, 8, 8, 1, 0, true, .all,
      [⟨15, 15, .rw, false⟩, ⟨8, 0, .rw, false⟩, ⟨31, 31, .rw, false⟩, ⟨24, 16, .rw, false⟩, ⟨47, 47, .rw, false⟩, ⟨40, 32, .rw, false⟩]⟩
  | .qosShapeMap => ⟨.qos, 0x100, 0, 8, 8, 1, 0, true, .all,
      [⟨7, 7, .rw, false⟩, ⟨5, 0, .rw, false⟩, ⟨15, 15, .rw, false⟩, ⟨13, 8, .rw, false⟩, ⟨23, 23, .rw, false⟩, ⟨21, 16, .rw, false⟩]⟩
  | .qosShape => ⟨.qos, 0x200, 0, 64, 8, 1, 0, true, .all,
      [⟨63, 56, .rw, false⟩, ⟨51, 32, .rw, false⟩, ⟨20, 0, .rw, false⟩]⟩
  | .qosQsampleSel => ⟨.qos, 0x300, 0, 1, 0, 1, 0, false, .all,
      [⟨63, 63, .wo, false⟩, ⟨9, 3, .rw, false⟩, ⟨2, 0, .rw, false⟩]⟩
  | .qosQsample => ⟨.qos, 0x308, 0, 1, 0, 1, 0, false, .all,
      [⟨63, 32, .ro, false⟩, ⟨17, 0, .ro, false⟩]⟩
  | .qosQsampleLast => ⟨.qos, 0x310, 0, 1, 0, 1, 0, false, .all,
      [⟨63, 32, .ro, false⟩, ⟨17, 0, .ro, false⟩]⟩
  | .qosPolRate => ⟨.qos, 0x10000, 0, 512, 32, 1, 0, true, .all,
      [⟨52, 32, .rw, false⟩, ⟨20, 0, .rw, false⟩]⟩
  | .qosPolBurst => ⟨.qos, 0x10008, 0, 512, 32, 1, 0, true, .all,
      [⟨51, 32, .rw, false⟩, ⟨19, 0, .rw, false⟩]⟩
  | .qosPolCtrl => ⟨.qos, 0x10010, 0, 512, 32, 1, 0, true, .all,
      [⟨25, 17, .rw, false⟩, ⟨16, 16, .rw, false⟩, ⟨15, 8, .rw, false⟩, ⟨3, 3, .rw, false⟩, ⟨2, 2, .rw, false⟩, ⟨1, 0, .rw, false⟩]⟩
  | .qosPolStat => ⟨.qos, 0x10018, 0, 512, 32, 1, 0, false, .all,
      [⟨63, 32, .ro, false⟩, ⟨31, 0, .ro, false⟩]⟩
  | .llrCtrl => ⟨.llr, 0x0, 0, 1, 0, 1, 0, true, .all,
      [⟨8, 8, .rw, false⟩, ⟨5, 4, .rw, false⟩, ⟨2, 2, .rw, false⟩, ⟨1, 0, .rw, false⟩]⟩
  | .llrCreditTmo => ⟨.llr, 0x8, 0, 1, 0, 1, 0, true, .all,
      [⟨19, 0, .rw, false⟩]⟩
  | .llrGrace => ⟨.llr, 0x10, 0, 1, 0, 1, 0, true, .all,
      [⟨19, 0, .rw, false⟩]⟩
  | .llrErrWindow => ⟨.llr, 0x18, 0, 1, 0, 1, 0, true, .all,
      [⟨47, 32, .rw, false⟩, ⟨19, 0, .rw, false⟩]⟩
  | .llrReplayLimit => ⟨.llr, 0x20, 0, 1, 0, 1, 0, true, .all,
      [⟨47, 40, .rw, false⟩, ⟨13, 0, .rw, false⟩]⟩
  | .llrReplayTmo => ⟨.llr, 0x28, 0, 1, 0, 1, 0, true, .all,
      [⟨19, 0, .rw, false⟩]⟩
  | .llrWindow => ⟨.llr, 0x30, 0, 1, 0, 1, 0, true, .all,
      [⟨14, 0, .rw, false⟩]⟩
  | .llrAck => ⟨.llr, 0x38, 0, 1, 0, 1, 0, true, .all,
      [⟨47, 40, .rw, false⟩, ⟨15, 0, .rw, false⟩]⟩
  | .llrAudit => ⟨.llr, 0x40, 0, 1, 0, 1, 0, true, .all,
      [⟨63, 63, .rw, false⟩, ⟨7, 0, .rw, false⟩]⟩
  | .llrBrdSpill => ⟨.llr, 0x48, 0, 1, 0, 1, 0, true, .all,
      [⟨15, 0, .rw, false⟩]⟩
  | .llrEthCtrl => ⟨.llr, 0x50, 0, 1, 0, 1, 0, true, .all,
      [⟨63, 56, .rw, false⟩, ⟨54, 52, .rw, false⟩, ⟨51, 32, .rw, false⟩, ⟨19, 0, .rw, false⟩]⟩
  | .llrEthPfc => ⟨.llr, 0x58, 0, 1, 0, 1, 0, true, .all,
      [⟨51, 32, .rw, false⟩, ⟨19, 0, .rw, false⟩]⟩
  | .llrStatus => ⟨.llr, 0x100, 0, 1, 0, 1, 0, false, .all,
      [⟨63, 61, .ro, false⟩, ⟨60, 58, .ro, false⟩, ⟨46, 32, .ro, false⟩, ⟨13, 0, .ro, false⟩]⟩
  | .llrSeq => ⟨.llr, 0x108, 0, 1, 0, 1, 0, false, .all,
      [⟨63, 48, .ro, false⟩, ⟨47, 32, .ro, false⟩, ⟨31, 16, .ro, false⟩]⟩
  | .llrErr => ⟨.llr, 0x110, 0, 1, 0, 1, 0, false, .all,
      [⟨63, 63, .w1c, false⟩, ⟨62, 59, .ro, false⟩, ⟨58, 56, .ro, false⟩, ⟨47, 0, .ro, false⟩]⟩
  | .llrCredit => ⟨.llr, 0x200, 0, 8, 8, 1, 0, false, .all,
      [⟨55, 32, .ro, false⟩, ⟨23, 0, .ro, false⟩]⟩
  | .llrCrcErrCnt => ⟨.llr, 0x300, 0, 1, 0, 1, 0, false, .all,
      [⟨63, 63, .w1c, false⟩, ⟨47, 0, .ro, false⟩]⟩
  | .llrReplayCnt => ⟨.llr, 0x308, 0, 1, 0, 1, 0, false, .all,
      [⟨63, 63, .w1c, false⟩, ⟨47, 0, .ro, false⟩]⟩
  | .llrDownCnt => ⟨.llr, 0x310, 0, 1, 0, 1, 0, false, .all,
      [⟨63, 63, .w1c, false⟩, ⟨47, 0, .ro, false⟩]⟩
  | .llrFlushCnt => ⟨.llr, 0x318, 0, 1, 0, 1, 0, false, .all,
      [⟨63, 63, .w1c, false⟩, ⟨47, 0, .ro, false⟩]⟩
  | .llrStompRxCnt => ⟨.llr, 0x320, 0, 1, 0, 1, 0, false, .all,
      [⟨63, 63, .w1c, false⟩, ⟨47, 0, .ro, false⟩]⟩
  | .llrEthDropCnt => ⟨.llr, 0x328, 0, 1, 0, 1, 0, false, .all,
      [⟨63, 63, .w1c, false⟩, ⟨47, 0, .ro, false⟩]⟩
  | .lnsCtrl => ⟨.lns, 0x0, 0, 1, 0, 1, 0, true, .all,
      [⟨8, 8, .rw, false⟩, ⟨5, 5, .rw, false⟩, ⟨4, 4, .rw, false⟩]⟩
  | .lnsTxEq => ⟨.lns, 0x8, 0, 1, 0, 1, 0, true, .all,
      [⟨31, 0, .rw, false⟩]⟩
  | .lnsAcq => ⟨.lns, 0x10, 0, 1, 0, 1, 0, true, .all,
      [⟨63, 48, .rw, false⟩, ⟨47, 32, .rw, false⟩, ⟨31, 24, .rw, false⟩, ⟨23, 16, .rw, false⟩]⟩
  | .lnsPortCtrl => ⟨.lns, 0x18, 0, 1, 0, 1, 0, true, .everyFourth,
      [⟨63, 63, .rw, false⟩, ⟨47, 32, .rw, false⟩, ⟨31, 16, .rw, false⟩, ⟨15, 0, .rw, false⟩]⟩
  | .lnsStatus => ⟨.lns, 0x20, 0, 1, 0, 1, 0, false, .all,
      [⟨63, 60, .ro, false⟩, ⟨59, 59, .ro, false⟩, ⟨58, 58, .ro, false⟩, ⟨57, 57, .ro, false⟩, ⟨56, 56, .ro, false⟩, ⟨55, 55, .ro, false⟩, ⟨54, 54, .ro, false⟩, ⟨53, 52, .ro, false⟩]⟩
  | .lnsPartner => ⟨.lns, 0x28, 0, 1, 0, 1, 0, false, .everyFourth,
      [⟨63, 63, .ro, false⟩, ⟨55, 32, .ro, false⟩, ⟨11, 8, .ro, false⟩, ⟨6, 0, .ro, false⟩]⟩
  | .lnsCoef => ⟨.lns, 0x30, 0, 1, 0, 1, 0, false, .all,
      [⟨63, 56, .ro, false⟩, ⟨55, 48, .ro, false⟩, ⟨0, 0, .ro, false⟩]⟩
  | .lnsEyeCtrl => ⟨.lns, 0x38, 0, 1, 0, 1, 0, false, .all,
      [⟨63, 63, .w1s, false⟩, ⟨62, 62, .ro, false⟩, ⟨61, 60, .rw, false⟩, ⟨7, 0, .rw, false⟩]⟩
  | .lnsEye => ⟨.lns, 0x40, 0, 1, 0, 1, 0, false, .all,
      [⟨63, 48, .ro, false⟩, ⟨31, 16, .ro, false⟩, ⟨15, 0, .ro, false⟩]⟩
  | .lnsTest => ⟨.lns, 0x80, 0, 1, 0, 1, 0, false, .all,
      [⟨63, 60, .rw, false⟩, ⟨59, 56, .rw, false⟩, ⟨55, 54, .rw, false⟩, ⟨53, 53, .w1s, false⟩, ⟨31, 0, .rw, false⟩]⟩
  | .lnsTestUser => ⟨.lns, 0x88, 0, 1, 0, 1, 0, false, .all,
      [⟨63, 0, .rw, false⟩]⟩
  | .lnsFecInj => ⟨.lns, 0x90, 0, 1, 0, 1, 0, false, .all,
      [⟨63, 63, .rwl, false⟩, ⟨52, 48, .rwl, false⟩, ⟨31, 0, .rwl, false⟩]⟩
  | .lnsFecCorrCnt => ⟨.lns, 0x100, 0, 1, 0, 1, 0, false, .all,
      [⟨63, 63, .w1c, false⟩, ⟨47, 0, .ro, false⟩]⟩
  | .lnsFecUncorrCnt => ⟨.lns, 0x108, 0, 1, 0, 1, 0, false, .all,
      [⟨63, 63, .w1c, false⟩, ⟨47, 0, .ro, false⟩]⟩
  | .lnsChkBitsCnt => ⟨.lns, 0x110, 0, 1, 0, 1, 0, false, .all,
      [⟨63, 63, .w1c, false⟩, ⟨47, 0, .ro, false⟩]⟩
  | .lnsChkErrCnt => ⟨.lns, 0x118, 0, 1, 0, 1, 0, false, .all,
      [⟨63, 63, .w1c, false⟩, ⟨47, 0, .ro, false⟩]⟩
  | .lnsLocklossCnt => ⟨.lns, 0x120, 0, 1, 0, 1, 0, false, .all,
      [⟨63, 63, .w1c, false⟩, ⟨47, 0, .ro, false⟩]⟩
  | .lnsAcqFailCnt => ⟨.lns, 0x128, 0, 1, 0, 1, 0, false, .all,
      [⟨63, 63, .w1c, false⟩, ⟨47, 0, .ro, false⟩]⟩
  | .hifLinkCtrl => ⟨.hif, 0x0, 0, 1, 0, 1, 0, false, .all,
      [⟨8, 8, .rw, false⟩, ⟨3, 2, .rw, false⟩, ⟨0, 0, .w1s, false⟩]⟩
  | .hifLinkStatus => ⟨.hif, 0x8, 0, 1, 0, 1, 0, false, .all,
      [⟨63, 63, .ro, false⟩, ⟨62, 60, .ro, false⟩, ⟨59, 56, .ro, false⟩, ⟨55, 55, .ro, false⟩, ⟨54, 54, .ro, false⟩, ⟨53, 53, .ro, false⟩, ⟨15, 0, .ro, false⟩]⟩
  | .hifAtomicCap => ⟨.hif, 0x10, 0, 1, 0, 1, 0, false, .all,
      [⟨2, 2, .rw, false⟩, ⟨1, 1, .rw, false⟩, ⟨0, 0, .rw, false⟩]⟩
  | .hifFlrDrain => ⟨.hif, 0x18, 0, 1, 0, 1, 0, false, .all,
      [⟨6, 0, .rw, false⟩]⟩
  | .hifMsixAlloc => ⟨.hif, 0x20, 0, 1, 0, 1, 0, false, .all,
      [⟨28, 16, .rw, false⟩, ⟨11, 0, .rw, false⟩]⟩
  | .hifFuncStatus => ⟨.hif, 0x28, 0, 1, 0, 1, 0, false, .all,
      [⟨63, 63, .ro, false⟩, ⟨55, 48, .ro, false⟩, ⟨31, 0, .ro, false⟩]⟩
  | .hifErr => ⟨.hif, 0x30, 0, 1, 0, 1, 0, false, .all,
      [⟨63, 63, .w1c, false⟩, ⟨62, 60, .ro, false⟩, ⟨55, 48, .ro, false⟩, ⟨47, 0, .ro, false⟩]⟩
  | .hifDbErrCnt => ⟨.hif, 0x100, 0, 1, 0, 1, 0, false, .all,
      [⟨63, 63, .w1c, false⟩, ⟨47, 0, .ro, false⟩]⟩
  | .hifLinkdownCnt => ⟨.hif, 0x108, 0, 1, 0, 1, 0, false, .all,
      [⟨63, 63, .w1c, false⟩, ⟨47, 0, .ro, false⟩]⟩
  | .hifFlrCnt => ⟨.hif, 0x110, 0, 1, 0, 1, 0, false, .all,
      [⟨63, 63, .w1c, false⟩, ⟨47, 0, .ro, false⟩]⟩
  | .hifPoisonCnt => ⟨.hif, 0x118, 0, 1, 0, 1, 0, false, .all,
      [⟨63, 63, .w1c, false⟩, ⟨47, 0, .ro, false⟩]⟩
  | .hifCplTmoCnt => ⟨.hif, 0x120, 0, 1, 0, 1, 0, false, .all,
      [⟨63, 63, .w1c, false⟩, ⟨47, 0, .ro, false⟩]⟩
  | .hifSem => ⟨.hif, 0x800, 0, 64, 8, 1, 0, false, .first,
      [⟨63, 0, .rw, false⟩]⟩
  | .pwrBudget => ⟨.pwr, 0x0, 0, 1, 0, 1, 0, true, .all,
      [⟨63, 56, .rw, false⟩, ⟨55, 48, .rw, false⟩, ⟨43, 40, .rw, false⟩, ⟨25, 16, .rw, false⟩, ⟨11, 0, .rw, false⟩]⟩
  | .pwrBudgetClass => ⟨.pwr, 0x8, 0, 1, 0, 1, 0, false, .all,
      [⟨34, 32, .ro, true⟩, ⟨26, 24, .ro, false⟩, ⟨18, 16, .ro, false⟩, ⟨10, 8, .rw, true⟩, ⟨2, 0, .ro, false⟩]⟩
  | .pwrRampLimit => ⟨.pwr, 0x10, 0, 1, 0, 1, 0, true, .all,
      [⟨63, 48, .rw, false⟩, ⟨47, 40, .rw, false⟩, ⟨39, 32, .rw, false⟩, ⟨23, 16, .rw, false⟩, ⟨7, 0, .rw, false⟩]⟩
  | .pwrBcaCtrl => ⟨.pwr, 0x18, 0, 1, 0, 1, 0, true, .all,
      [⟨47, 32, .rw, false⟩, ⟨15, 0, .rw, false⟩]⟩
  | .pwrBcaMap => ⟨.pwr, 0x20, 0, 1, 0, 1, 0, true, .all,
      [⟨31, 0, .rw, false⟩]⟩
  | .pwrBcaStatus => ⟨.pwr, 0x28, 0, 1, 0, 1, 0, false, .all,
      [⟨63, 63, .w1c, false⟩, ⟨10, 8, .ro, false⟩, ⟨3, 3, .ro, false⟩, ⟨2, 0, .ro, false⟩]⟩
  | .pwrArbCtrl => ⟨.pwr, 0x30, 0, 1, 0, 1, 0, true, .all,
      [⟨47, 32, .rw, false⟩, ⟨15, 0, .rw, false⟩]⟩
  | .pwrArbStatus => ⟨.pwr, 0x38, 0, 1, 0, 1, 0, false, .all,
      [⟨63, 63, .ro, false⟩, ⟨47, 32, .ro, false⟩, ⟨11, 0, .ro, false⟩]⟩
  | .pwrPred => ⟨.pwr, 0x40, 0, 1, 0, 1, 0, true, .all,
      [⟨63, 63, .rw, false⟩, ⟨36, 32, .rw, false⟩, ⟨31, 16, .rw, false⟩, ⟨15, 0, .rw, false⟩]⟩
  | .pwrTherm => ⟨.pwr, 0x48, 0, 1, 0, 1, 0, true, .all,
      [⟨63, 56, .ro, false⟩, ⟨39, 32, .rw, false⟩, ⟨23, 16, .rw, false⟩, ⟨7, 0, .rw, false⟩]⟩
  | .pwrTemp => ⟨.pwr, 0x50, 0, 1, 0, 1, 0, false, .all,
      [⟨23, 16, .ro, false⟩, ⟨15, 0, .ro, false⟩]⟩
  | .pwrEst => ⟨.pwr, 0x58, 0, 1, 0, 1, 0, false, .all,
      [⟨41, 32, .ro, false⟩, ⟨11, 0, .ro, false⟩]⟩
  | .pwrDispatchFactor => ⟨.pwr, 0x60, 0, 3, 8, 1, 0, true, .all,
      [⟨31, 0, .rw, false⟩]⟩
  | .pwrDomainState => ⟨.pwr, 0x80, 0, 2, 8, 1, 0, false, .all,
      [⟨63, 0, .ro, false⟩]⟩
  | .pwrNoticeCnt => ⟨.pwr, 0x100, 0, 1, 0, 1, 0, false, .all,
      [⟨63, 63, .w1c, false⟩, ⟨47, 0, .ro, false⟩]⟩
  | .pwrClassChgCnt => ⟨.pwr, 0x108, 0, 1, 0, 1, 0, false, .all,
      [⟨63, 63, .w1c, false⟩, ⟨47, 0, .ro, false⟩]⟩
  | .pwrWakeCnt => ⟨.pwr, 0x110, 0, 1, 0, 1, 0, false, .all,
      [⟨63, 63, .w1c, false⟩, ⟨47, 0, .ro, false⟩]⟩
  | .sysCtrl => ⟨.sys, 0x10, 0, 1, 0, 1, 0, false, .all,
      [⟨8, 8, .ro, false⟩, ⟨2, 2, .rw, true⟩, ⟨1, 1, .rw, true⟩, ⟨0, 0, .w1s, false⟩]⟩
  | .sysStatus => ⟨.sys, 0x18, 0, 1, 0, 1, 0, false, .all,
      [⟨15, 8, .ro, false⟩, ⟨3, 0, .ro, false⟩]⟩
  | .sysBootCount => ⟨.sys, 0x20, 0, 1, 0, 1, 0, false, .all,
      [⟨31, 0, .ro, true⟩]⟩
  | .sysResetCause => ⟨.sys, 0x28, 0, 1, 0, 1, 0, false, .all,
      [⟨47, 16, .ro, true⟩, ⟨2, 0, .ro, true⟩]⟩
  | .clkStatus => ⟨.clk, 0x0, 0, 1, 0, 1, 0, false, .all,
      [⟨63, 63, .ro, false⟩, ⟨62, 62, .w1c, false⟩, ⟨7, 0, .ro, false⟩]⟩
  | .clkMonCtrl => ⟨.clk, 0x8, 0, 1, 0, 1, 0, true, .all,
      [⟨31, 16, .rw, false⟩, ⟨15, 0, .rw, false⟩]⟩
  | .clkMonSel => ⟨.clk, 0x10, 0, 1, 0, 1, 0, false, .all,
      [⟨7, 0, .rw, false⟩]⟩
  | .clkMon => ⟨.clk, 0x18, 0, 1, 0, 1, 0, false, .all,
      [⟨63, 62, .ro, false⟩, ⟨23, 0, .ro, false⟩]⟩
  | .clkOutCtrl => ⟨.clk, 0x20, 0, 1, 0, 1, 0, true, .all,
      [⟨63, 63, .rw, false⟩, ⟨47, 32, .rw, false⟩, ⟨7, 0, .rw, false⟩]⟩
  | .clkTimeCtrl => ⟨.clk, 0x28, 0, 1, 0, 1, 0, true, .all,
      [⟨63, 56, .rw, false⟩, ⟨47, 32, .rw, false⟩, ⟨31, 16, .rw, false⟩, ⟨14, 8, .rw, false⟩, ⟨1, 0, .rw, false⟩]⟩
  | .clkTimeStatus => ⟨.clk, 0x30, 0, 1, 0, 1, 0, false, .all,
      [⟨63, 62, .ro, false⟩, ⟨59, 56, .ro, false⟩, ⟨55, 32, .ro, false⟩, ⟨31, 0, .ro, false⟩]⟩
  | .clkDtime => ⟨.clk, 0x38, 0, 1, 0, 1, 0, false, .all,
      [⟨63, 0, .ro, false⟩]⟩
  | .clkDtimeSet => ⟨.clk, 0x40, 0, 1, 0, 1, 0, false, .all,
      [⟨63, 0, .wo, false⟩]⟩
  | .cmdRingBase => ⟨.cmd, 0x0, 0, 1, 0, 1, 0, false, .all,
      [⟨63, 63, .rw, true⟩, ⟨62, 59, .rw, true⟩, ⟨58, 56, .rw, true⟩, ⟨51, 12, .rw, true⟩]⟩
  | .cmdStatusBase => ⟨.cmd, 0x8, 0, 1, 0, 1, 0, false, .all,
      [⟨51, 12, .rw, true⟩]⟩
  | .cmdPi => ⟨.cmd, 0x10, 0, 1, 0, 1, 0, false, .all,
      [⟨31, 0, .rw, true⟩]⟩
  | .cmdCi => ⟨.cmd, 0x18, 0, 1, 0, 1, 0, false, .all,
      [⟨38, 32, .ro, false⟩, ⟨31, 0, .ro, true⟩]⟩
  | .cmdErr => ⟨.cmd, 0x20, 0, 1, 0, 1, 0, false, .all,
      [⟨63, 63, .w1c, false⟩, ⟨62, 61, .ro, false⟩, ⟨55, 48, .ro, false⟩, ⟨47, 40, .ro, false⟩, ⟨31, 0, .ro, false⟩]⟩
  | .cmdHingeStatus => ⟨.cmd, 0x28, 0, 1, 0, 1, 0, false, .all,
      [⟨63, 63, .w1c, false⟩, ⟨62, 60, .ro, true⟩, ⟨59, 59, .ro, true⟩, ⟨31, 0, .ro, false⟩]⟩
  | .cmdActiveGen => ⟨.cmd, 0x30, 0, 1, 0, 1, 0, false, .all,
      [⟨63, 0, .ro, true⟩]⟩
  | .cmdFabCtrl => ⟨.cmd, 0x38, 0, 1, 0, 1, 0, false, .all,
      [⟨63, 63, .rwl, true⟩, ⟨51, 32, .rwl, true⟩, ⟨26, 0, .rwl, true⟩]⟩
  | .cmdFwStatus => ⟨.cmd, 0x40, 0, 1, 0, 1, 0, false, .all,
      [⟨63, 32, .ro, false⟩, ⟨2, 2, .ro, true⟩, ⟨0, 0, .ro, false⟩]⟩
  | .cmdFabDropCnt => ⟨.cmd, 0x100, 0, 1, 0, 1, 0, false, .all,
      [⟨63, 63, .w1c, false⟩, ⟨47, 0, .ro, false⟩]⟩
  | .gteRuleSel => ⟨.gte, 0x0, 0, 1, 0, 1, 0, false, .all,
      [⟨14, 8, .rw, false⟩, ⟨5, 0, .rw, false⟩]⟩
  | .gteRuleW => ⟨.gte, 0x8, 0, 6, 8, 1, 0, false, .all,
      [⟨63, 0, .ro, false⟩]⟩
  | .gteViolPend => ⟨.gte, 0x40, 0, 2, 8, 1, 0, false, .all,
      [⟨63, 0, .ro, false⟩]⟩
  | .gteViolCnt => ⟨.gte, 0x50, 0, 1, 0, 1, 0, false, .all,
      [⟨63, 63, .w1c, false⟩, ⟨47, 0, .ro, false⟩]⟩
  | .gteHostwinBase => ⟨.gte, 0x100, 0, 64, 16, 1, 0, false, .all,
      [⟨63, 63, .rwl, true⟩, ⟨51, 12, .rwl, true⟩]⟩
  | .gteHostwinLimit => ⟨.gte, 0x108, 0, 64, 16, 1, 0, false, .all,
      [⟨51, 12, .rwl, true⟩]⟩
  | .gteViolInfo => ⟨.gte, 0x1000, 0, 128, 32, 1, 0, false, .all,
      [⟨63, 63, .w1c, false⟩, ⟨62, 61, .ro, false⟩, ⟨60, 60, .ro, false⟩, ⟨59, 48, .ro, false⟩, ⟨37, 32, .ro, false⟩, ⟨15, 0, .ro, false⟩]⟩
  | .gteViolAddr => ⟨.gte, 0x1008, 0, 128, 32, 1, 0, false, .all,
      [⟨63, 0, .ro, false⟩]⟩
  | .gteViolLen => ⟨.gte, 0x1010, 0, 128, 32, 1, 0, false, .all,
      [⟨63, 0, .ro, false⟩]⟩
  | .secLock => ⟨.sec, 0x0, 0, 1, 0, 1, 0, false, .all,
      [⟨0, 0, .w1s, true⟩]⟩
  | .secCtrl => ⟨.sec, 0x8, 0, 1, 0, 1, 0, false, .all,
      [⟨15, 8, .rwl, true⟩, ⟨3, 3, .rwl, true⟩, ⟨2, 2, .rwl, true⟩, ⟨1, 1, .rwl, true⟩]⟩
  | .secStatus => ⟨.sec, 0x10, 0, 1, 0, 1, 0, false, .all,
      [⟨63, 63, .ro, false⟩, ⟨62, 62, .ro, false⟩, ⟨61, 61, .ro, false⟩, ⟨60, 60, .ro, false⟩, ⟨59, 52, .ro, false⟩, ⟨12, 0, .ro, true⟩]⟩
  | .secDebug => ⟨.sec, 0x18, 0, 1, 0, 1, 0, false, .all,
      [⟨0, 0, .rwl, true⟩]⟩
  | .secFuse => ⟨.sec, 0x20, 0, 1, 0, 1, 0, false, .all,
      [⟨63, 63, .ro, false⟩, ⟨62, 59, .ro, false⟩, ⟨58, 52, .ro, false⟩, ⟨51, 47, .ro, false⟩]⟩
  | .secAuditCtrl => ⟨.sec, 0x28, 0, 1, 0, 1, 0, false, .all,
      [⟨63, 63, .w1s, false⟩, ⟨8, 8, .rwl, true⟩, ⟨4, 0, .rwl, true⟩]⟩
  | .secAuditStatus => ⟨.sec, 0x30, 0, 1, 0, 1, 0, false, .all,
      [⟨60, 48, .ro, true⟩, ⟨47, 32, .ro, true⟩, ⟨31, 0, .ro, true⟩]⟩
  | .secAuditRec => ⟨.sec, 0x40, 0, 4, 8, 1, 0, false, .all,
      [⟨63, 0, .ro, false⟩]⟩
  | .fltFirstLo => ⟨.flt, 0x0, 0, 1, 0, 1, 0, false, .all,
      [⟨62, 60, .ro, true⟩, ⟨59, 52, .ro, true⟩, ⟨51, 0, .ro, true⟩]⟩
  | .fltFirstHi => ⟨.flt, 0x8, 0, 1, 0, 1, 0, false, .all,
      [⟨63, 63, .w1c, true⟩, ⟨59, 48, .ro, true⟩, ⟨47, 0, .ro, true⟩]⟩
  | .fltOverflow => ⟨.flt, 0x10, 0, 1, 0, 1, 0, false, .all,
      [⟨63, 63, .w1c, true⟩, ⟨31, 0, .ro, true⟩]⟩
  | .fltPinMask => ⟨.flt, 0x18, 0, 1, 0, 1, 0, false, .all,
      [⟨4, 4, .ro, false⟩, ⟨3, 0, .rwl, true⟩]⟩
  | .fltClassCnt => ⟨.flt, 0x20, 0, 5, 8, 1, 0, false, .all,
      [⟨31, 0, .ro, true⟩]⟩
  | .fltPend => ⟨.flt, 0x50, 0, 4, 8, 1, 0, false, .all,
      [⟨63, 0, .ro, true⟩]⟩
  | .fltSvcCtrl => ⟨.flt, 0x80, 0, 1, 0, 1, 0, false, .all,
      [⟨63, 63, .rw, false⟩, ⟨62, 62, .rw, false⟩, ⟨47, 32, .rw, false⟩, ⟨31, 16, .rw, false⟩, ⟨15, 0, .rw, false⟩]⟩
  | .fltRetiredMpe => ⟨.flt, 0x90, 0, 2, 8, 1, 0, false, .all,
      [⟨63, 0, .ro, true⟩]⟩
  | .fltRetired => ⟨.flt, 0xA0, 0, 1, 0, 1, 0, false, .all,
      [⟨39, 32, .ro, true⟩, ⟨31, 0, .ro, true⟩]⟩
  | .fltMigrate => ⟨.flt, 0xA8, 0, 1, 0, 1, 0, false, .all,
      [⟨63, 63, .ro, false⟩, ⟨36, 32, .ro, false⟩, ⟨31, 0, .ro, false⟩]⟩
  | .fltMemtest => ⟨.flt, 0xB0, 0, 1, 0, 1, 0, false, .all,
      [⟨63, 63, .w1s, false⟩, ⟨62, 62, .ro, false⟩, ⟨61, 61, .ro, false⟩, ⟨36, 32, .rw, false⟩, ⟨31, 16, .ro, false⟩, ⟨15, 0, .ro, false⟩]⟩
  | .cntDumpBase => ⟨.cnt, 0x0, 0, 1, 0, 1, 0, false, .all,
      [⟨63, 63, .rw, true⟩, ⟨62, 59, .rw, true⟩, ⟨58, 56, .rw, true⟩, ⟨51, 12, .rw, true⟩]⟩
  | .cntDumpPeriod => ⟨.cnt, 0x8, 0, 1, 0, 1, 0, false, .all,
      [⟨63, 63, .rw, true⟩, ⟨43, 32, .rw, true⟩, ⟨31, 0, .rw, true⟩]⟩
  | .cntDumpStatus => ⟨.cnt, 0x10, 0, 1, 0, 1, 0, false, .all,
      [⟨63, 32, .ro, false⟩, ⟨31, 0, .ro, false⟩]⟩
  | .cntReadSel => ⟨.cnt, 0x20, 0, 1, 0, 1, 0, false, .all,
      [⟨13, 0, .rw, false⟩]⟩
  | .cntRead => ⟨.cnt, 0x28, 0, 1, 0, 1, 0, false, .all,
      [⟨63, 63, .w1c, false⟩, ⟨47, 0, .ro, false⟩]⟩
  | .cntSampleBase => ⟨.cnt, 0x40, 0, 1, 0, 1, 0, false, .all,
      [⟨63, 63, .rw, false⟩, ⟨62, 59, .rw, false⟩, ⟨58, 56, .rw, false⟩, ⟨51, 12, .rw, false⟩]⟩
  | .cntSampleCtrl => ⟨.cnt, 0x48, 0, 1, 0, 1, 0, false, .all,
      [⟨63, 60, .rw, false⟩, ⟨59, 48, .rw, false⟩, ⟨47, 47, .rw, false⟩, ⟨46, 32, .rw, false⟩, ⟨31, 0, .rw, false⟩]⟩
  | .cntSampleMask => ⟨.cnt, 0x50, 0, 2, 8, 1, 0, false, .all,
      [⟨63, 0, .rw, false⟩]⟩
  | .cntSamplePi => ⟨.cnt, 0x60, 0, 1, 0, 1, 0, false, .all,
      [⟨31, 0, .ro, false⟩]⟩
  | .cntSampleCi => ⟨.cnt, 0x68, 0, 1, 0, 1, 0, false, .all,
      [⟨31, 0, .rw, false⟩]⟩
  | .cntTelemRx => ⟨.cnt, 0x80, 0, 8, 8, 1, 0, false, .all,
      [⟨63, 63, .rw, false⟩, ⟨19, 0, .rw, false⟩]⟩
  | .sysId => ⟨.sys, 0x0, 0, 1, 0, 1, 0, false, .all,
      [⟨39, 32, .ro, false⟩, ⟨31, 16, .ro, false⟩, ⟨15, 0, .ro, false⟩]⟩
  | .sysRev => ⟨.sys, 0x8, 0, 1, 0, 1, 0, false, .all,
      [⟨31, 24, .ro, false⟩, ⟨23, 16, .ro, false⟩, ⟨15, 0, .ro, false⟩]⟩
  | .sysSerial => ⟨.sys, 0x30, 0, 1, 0, 1, 0, false, .all,
      [⟨63, 0, .ro, false⟩]⟩
  | .sysAccErr => ⟨.sys, 0x38, 0, 1, 0, 1, 0, false, .all,
      [⟨63, 63, .w1c, false⟩, ⟨62, 60, .ro, false⟩, ⟨55, 53, .ro, false⟩, ⟨52, 52, .ro, false⟩, ⟨27, 0, .ro, false⟩]⟩
  | .sysScratch => ⟨.sys, 0x40, 0, 4, 8, 1, 0, false, .all,
      [⟨63, 0, .rw, true⟩]⟩

/-- The Reset column: the value of element k after cold reset (R16). Fuse and flash values are named in the log (4, 5, 6). -/
def Reg.reset (r : Reg) (k : Nat) : Nat :=
  match r with
  | .qmgCtrl => 1
  | .qmgPrefetch => 0xc80410
  | .qmgEvictCtrl => 0x20000000100
  | .qmgPinLimit => 0x1000
  | .qmgCacheStatus => 0
  | .qmgCqStallTmo => 0x3e8
  | .qmgErrQid => 0
  | .qmgPondQuota => (match k with | 0 => 8192 | 1 => 2048 | 2 => 8192 | 3 => 2048 | 4 => 4096 | 5 => 2048 | _ => 4096)
  | .qmgPondUsed => 0
  | .qmgEpWeight => 0x10
  | .qmgQstatSel => 0
  | .qmgQstat => 0
  | .qmgEqPi => 0
  | .qmgEqCi => 0
  | .mtcCtrl => 0x4000002000
  | .mtcUnexpSize => 0x400
  | .mtcOvflSize => 0x100
  | .mtcUnexpTmo => 0x2710
  | .mtcUsage => 0
  | .mtcErrCtx => 0
  | .mtcCtxSel => 0
  | .mtcCtxStat => 0
  | .mtcUnitOcc => 0
  | .rmaCtrl => 0
  | .rmaAtomicCtrl => 0
  | .rmaDeregTmo => 0x3e8
  | .rmaKeyringSize => 0x40
  | .rmaEvtHoldoff => 0x64
  | .rmaRegionCount => 0
  | .rmaErr => 0
  | .rmaErrAddr => 0
  | .rmaKeySel => 0
  | .rmaKeyStat => 0
  | .xltCtrl => 0x81001
  | .xltInvalStatus => 0
  | .xltFaultInfo => 0
  | .xltFaultVa => 0
  | .xltFaultEntry => 0
  | .xltAsidSel => 0
  | .xltAsidStat => 0
  | .xltAsidRoot => 0
  | .xltDevwinBase => 0
  | .xltDevwinLimit => 0
  | .trnCtrl => 0x8000
  | .trnRto => 0x1f4000140005
  | .trnRetry => 0x271010
  | .trnNotnow => 0x186a0000010003e8
  | .trnAck => 0x7d003e80010
  | .trnPeerCfg => 0x6400400000
  | .trnHold => 0x80000010000
  | .trnOplogSize => 0x400
  | .trnIncarnation => 0
  | .trnPeerCount => 0
  | .trnErr => 0
  | .trnOpenCount => 0
  | .trnPeerSel => 0
  | .trnPeerStat => 0
  | .trnPeerPsn => 0
  | .chrCtrl => 0x141003e848
  | .chrAccWidth => 0x33221100
  | .chrGroupCount => 0
  | .chrErr => 0
  | .chrGroupSel => 0
  | .chrGroupStat => 0
  | .chrGroupMembers => 0
  | .lckCtrl => 3
  | .lckInheritWeight => (if k = 0 then 0x8070605040302010 else 0xFFF0E0D0C0B0A090)
  | .lckVarSize => 0x10
  | .lckCount => 0
  | .lckLockSel => 0
  | .lckLockStat => 0
  | .lckLockWait => 0
  | .rteDims => 0
  | .rteRouteCtrl => 0x1f4c42008040007
  | .rteCvecPeriod => 0x1f4
  | .rteCvecThresh => 0x20000040
  | .rteMapCtrl => 0x6400000000
  | .rtePortUsable => 0
  | .rteErr => 0
  | .rteNorouteCnt => 0
  | .rteHoplimitCnt => 0
  | .rteExcAddMatch => 0
  | .rteExcAddAction => 0
  | .rteExcStatus => 0
  | .rteExcDel => 0
  | .rteLineTable => 0
  | .rteExcMatch => 0
  | .rteExcAction => 0
  | .swcFwdMode => 0
  | .swcVcReserve => (if k = 0 then 0x0040018000400180 else 0x0021004000400200)
  | .swcIntReserve => (if k = 0 then 0x0040010000400100 else 0x0040008000400200)
  | .swcSharedCtrl => 0x4457565600008000
  | .swcResidueTmo => 0x3e8
  | .swcMarkProfile => (match k % 3 with | 0 => 256 + 2048 * 2^20 + 64 * 2^48 | 1 => 128 + 1024 * 2^20 + 128 * 2^48 | _ => 64 + 512 * 2^20 + 192 * 2^48)
  | .swcAudit => 0x800000000000000a
  | .swcOcc => 0x2000000000000
  | .swcErr => 0
  | .swcStompCnt => 0
  | .swcDropCnt => 0
  | .swcMirrorDropCnt => 0
  | .swcLeakCnt => 0
  | .swcMirrorCtrl => 0
  | .swcMirrorFlow => 0
  | .qosQuantum => 0x200020002000
  | .qosTc0Scale => 0x12446688
  | .qosCcCtrl => 0x8020000400081f40
  | .qosCcRate => 0xc3500000003e8
  | .qosWheelStat => 0xffffffff
  | .qosSampleCtrl => 0x80000000000003e8
  | .qosPolMap => 0
  | .qosShapeMap => 0
  | .qosShape => 0x4000000000
  | .qosQsampleSel => 0
  | .qosQsample => 0
  | .qosQsampleLast => 0
  | .qosPolRate => 0
  | .qosPolBurst => 0x4000000040
  | .qosPolCtrl => 0
  | .qosPolStat => 0
  | .llrCtrl => 0x100
  | .llrCreditTmo => 0xc8
  | .llrGrace => 0x64
  | .llrErrWindow => 0x40000003e8
  | .llrReplayLimit => 0x80000000800
  | .llrReplayTmo => 0xfa0
  | .llrWindow => 0x7fff
  | .llrAck => 0x100000000028
  | .llrAudit => 0x8000000000000010
  | .llrBrdSpill => 0x1000
  | .llrEthCtrl => 0
  | .llrEthPfc => 0x40000000200
  | .llrStatus => 0
  | .llrSeq => 0
  | .llrErr => 0
  | .llrCredit => 0
  | .llrCrcErrCnt => 0
  | .llrReplayCnt => 0
  | .llrDownCnt => 0
  | .llrFlushCnt => 0
  | .llrStompRxCnt => 0
  | .llrEthDropCnt => 0
  | .lnsCtrl => 0x20
  | .lnsTxEq => 0xf834fc
  | .lnsAcq => 0xc8003203020000
  | .lnsPortCtrl => 0x3e800140050
  | .lnsStatus => 0x30000000000000
  | .lnsPartner => 0
  | .lnsCoef => 0
  | .lnsEyeCtrl => 0x1000000000000018
  | .lnsEye => 0
  | .lnsTest => 0
  | .lnsTestUser => 0
  | .lnsFecInj => 0x10000000f4240
  | .lnsFecCorrCnt => 0
  | .lnsFecUncorrCnt => 0
  | .lnsChkBitsCnt => 0
  | .lnsChkErrCnt => 0
  | .lnsLocklossCnt => 0
  | .lnsAcqFailCnt => 0
  | .hifLinkCtrl => 0x100
  | .hifLinkStatus => 0
  | .hifAtomicCap => 0
  | .hifFlrDrain => 0x50
  | .hifMsixAlloc => 0x100000f
  | .hifFuncStatus => 0
  | .hifErr => 0
  | .hifDbErrCnt => 0
  | .hifLinkdownCnt => 0
  | .hifFlrCnt => 0
  | .hifPoisonCnt => 0
  | .hifCplTmoCnt => 0
  | .hifSem => 0
  | .pwrBudget => 0xa140500028002f8
  | .pwrBudgetClass => 0
  | .pwrRampLimit => 0x7d0050a00140028
  | .pwrBcaCtrl => 0x6400000032
  | .pwrBcaMap => 0x1234def
  | .pwrBcaStatus => 0
  | .pwrArbCtrl => 0xa00000064
  | .pwrArbStatus => 0x50
  | .pwrPred => 0x8000001f4e2001f4
  | .pwrTherm => 0x7300006400050064
  | .pwrTemp => 0
  | .pwrEst => 0
  | .pwrDispatchFactor => (if k = 0 then 0x12446688 else 0x88888888)
  | .pwrDomainState => 0
  | .pwrNoticeCnt => 0
  | .pwrClassChgCnt => 0
  | .pwrWakeCnt => 0
  | .sysCtrl => 2
  | .sysStatus => 0
  | .sysBootCount => 0
  | .sysResetCause => 0
  | .clkStatus => 0
  | .clkMonCtrl => 0x640064
  | .clkMonSel => 2
  | .clkMon => 0
  | .clkOutCtrl => 0
  | .clkTimeCtrl => 0xc80003e8000a0000
  | .clkTimeStatus => 0
  | .clkDtime => 0
  | .clkDtimeSet => 0
  | .cmdRingBase => 0x4000000000000000
  | .cmdStatusBase => 0
  | .cmdPi => 0
  | .cmdCi => 0
  | .cmdErr => 0
  | .cmdHingeStatus => 0
  | .cmdActiveGen => 0
  | .cmdFabCtrl => 0x271000000000
  | .cmdFwStatus => 0
  | .cmdFabDropCnt => 0
  | .gteRuleSel => 0
  | .gteRuleW => 0
  | .gteViolPend => 0
  | .gteViolCnt => 0
  | .gteHostwinBase => 0
  | .gteHostwinLimit => 0
  | .gteViolInfo => 0
  | .gteViolAddr => 0
  | .gteViolLen => 0
  | .secLock => 0
  | .secCtrl => 4
  | .secStatus => 0
  | .secDebug => 0
  | .secFuse => 2^63
  | .secAuditCtrl => 0x1c
  | .secAuditStatus => 0
  | .secAuditRec => 0
  | .fltFirstLo => 0
  | .fltFirstHi => 0
  | .fltOverflow => 0
  | .fltPinMask => 0x1c
  | .fltClassCnt => 0
  | .fltPend => 0
  | .fltSvcCtrl => 0xc00003e8003c0064
  | .fltRetiredMpe => 0
  | .fltRetired => 0
  | .fltMigrate => 0
  | .fltMemtest => 0
  | .cntDumpBase => 0
  | .cntDumpPeriod => 0xf4240
  | .cntDumpStatus => 0
  | .cntReadSel => 0
  | .cntRead => 0
  | .cntSampleBase => 0x5000000000000000
  | .cntSampleCtrl => 0x40000f4240
  | .cntSampleMask => 0
  | .cntSamplePi => 0
  | .cntSampleCi => 0
  | .cntTelemRx => 0
  | .sysId => 0x5401281f6c
  | .sysRev => 0xa1010100
  | .sysSerial => 1
  | .sysAccErr => 0
  | .sysScratch => 0

/-- The registers of block SYS. -/
def regsOfSys : List Reg :=
  [.sysCtrl, .sysStatus, .sysBootCount, .sysResetCause, .sysId, .sysRev, .sysSerial, .sysAccErr, .sysScratch]

/-- The registers of block CLK. -/
def regsOfClk : List Reg :=
  [.clkStatus, .clkMonCtrl, .clkMonSel, .clkMon, .clkOutCtrl, .clkTimeCtrl, .clkTimeStatus, .clkDtime, .clkDtimeSet]

/-- The registers of block PWR. -/
def regsOfPwr : List Reg :=
  [.pwrBudget, .pwrBudgetClass, .pwrRampLimit, .pwrBcaCtrl, .pwrBcaMap, .pwrBcaStatus, .pwrArbCtrl, .pwrArbStatus, .pwrPred, .pwrTherm, .pwrTemp, .pwrEst, .pwrDispatchFactor, .pwrDomainState, .pwrNoticeCnt, .pwrClassChgCnt, .pwrWakeCnt]

/-- The registers of block FLT. -/
def regsOfFlt : List Reg :=
  [.fltFirstLo, .fltFirstHi, .fltOverflow, .fltPinMask, .fltClassCnt, .fltPend, .fltSvcCtrl, .fltRetiredMpe, .fltRetired, .fltMigrate, .fltMemtest]

/-- The registers of block CNT. -/
def regsOfCnt : List Reg :=
  [.cntDumpBase, .cntDumpPeriod, .cntDumpStatus, .cntReadSel, .cntRead, .cntSampleBase, .cntSampleCtrl, .cntSampleMask, .cntSamplePi, .cntSampleCi, .cntTelemRx]

/-- The registers of block GTE. -/
def regsOfGte : List Reg :=
  [.gteRuleSel, .gteRuleW, .gteViolPend, .gteViolCnt, .gteHostwinBase, .gteHostwinLimit, .gteViolInfo, .gteViolAddr, .gteViolLen]

/-- The registers of block SEC. -/
def regsOfSec : List Reg :=
  [.secLock, .secCtrl, .secStatus, .secDebug, .secFuse, .secAuditCtrl, .secAuditStatus, .secAuditRec]

/-- The registers of block CMD. -/
def regsOfCmd : List Reg :=
  [.cmdRingBase, .cmdStatusBase, .cmdPi, .cmdCi, .cmdErr, .cmdHingeStatus, .cmdActiveGen, .cmdFabCtrl, .cmdFwStatus, .cmdFabDropCnt]

/-- The registers of block LCK. -/
def regsOfLck : List Reg :=
  [.lckCtrl, .lckInheritWeight, .lckVarSize, .lckCount, .lckLockSel, .lckLockStat, .lckLockWait]

/-- The registers of block HIF. -/
def regsOfHif : List Reg :=
  [.hifLinkCtrl, .hifLinkStatus, .hifAtomicCap, .hifFlrDrain, .hifMsixAlloc, .hifFuncStatus, .hifErr, .hifDbErrCnt, .hifLinkdownCnt, .hifFlrCnt, .hifPoisonCnt, .hifCplTmoCnt, .hifSem]

/-- The registers of block XLT. -/
def regsOfXlt : List Reg :=
  [.xltCtrl, .xltInvalStatus, .xltFaultInfo, .xltFaultVa, .xltFaultEntry, .xltAsidSel, .xltAsidStat, .xltAsidRoot, .xltDevwinBase, .xltDevwinLimit]

/-- The registers of block QMG. -/
def regsOfQmg : List Reg :=
  [.qmgCtrl, .qmgPrefetch, .qmgEvictCtrl, .qmgPinLimit, .qmgCacheStatus, .qmgCqStallTmo, .qmgErrQid, .qmgPondQuota, .qmgPondUsed, .qmgEpWeight, .qmgQstatSel, .qmgQstat, .qmgEqPi, .qmgEqCi]

/-- The registers of block MTC. -/
def regsOfMtc : List Reg :=
  [.mtcCtrl, .mtcUnexpSize, .mtcOvflSize, .mtcUnexpTmo, .mtcUsage, .mtcErrCtx, .mtcCtxSel, .mtcCtxStat, .mtcUnitOcc]

/-- The registers of block RMA. -/
def regsOfRma : List Reg :=
  [.rmaCtrl, .rmaAtomicCtrl, .rmaDeregTmo, .rmaKeyringSize, .rmaEvtHoldoff, .rmaRegionCount, .rmaErr, .rmaErrAddr, .rmaKeySel, .rmaKeyStat]

/-- The registers of block TRN. -/
def regsOfTrn : List Reg :=
  [.trnCtrl, .trnRto, .trnRetry, .trnNotnow, .trnAck, .trnPeerCfg, .trnHold, .trnOplogSize, .trnIncarnation, .trnPeerCount, .trnErr, .trnOpenCount, .trnPeerSel, .trnPeerStat, .trnPeerPsn]

/-- The registers of block CHR. -/
def regsOfChr : List Reg :=
  [.chrCtrl, .chrAccWidth, .chrGroupCount, .chrErr, .chrGroupSel, .chrGroupStat, .chrGroupMembers]

/-- The registers of block QOS. The offsets of QOS_SHAPE[32-34] are also those of the QSAMPLE registers: the active view shows the
latter, the shadow view the former (log 50). -/
def regsOfQos : List Reg :=
  [.qosQuantum, .qosTc0Scale, .qosCcCtrl, .qosCcRate, .qosWheelStat, .qosSampleCtrl, .qosPolMap, .qosShapeMap, .qosQsampleSel, .qosQsample, .qosQsampleLast, .qosShape, .qosPolRate, .qosPolBurst, .qosPolCtrl, .qosPolStat]

/-- The registers of block RTE. -/
def regsOfRte : List Reg :=
  [.rteDims, .rteRouteCtrl, .rteCvecPeriod, .rteCvecThresh, .rteMapCtrl, .rtePortUsable, .rteErr, .rteNorouteCnt, .rteHoplimitCnt, .rteExcAddMatch, .rteExcAddAction, .rteExcStatus, .rteExcDel, .rteLineTable, .rteExcMatch, .rteExcAction]

/-- The registers of block SWC. -/
def regsOfSwc : List Reg :=
  [.swcFwdMode, .swcVcReserve, .swcIntReserve, .swcSharedCtrl, .swcResidueTmo, .swcMarkProfile, .swcAudit, .swcOcc, .swcErr, .swcStompCnt, .swcDropCnt, .swcMirrorDropCnt, .swcLeakCnt, .swcMirrorCtrl, .swcMirrorFlow]

/-- The registers of block LLR. -/
def regsOfLlr : List Reg :=
  [.llrCtrl, .llrCreditTmo, .llrGrace, .llrErrWindow, .llrReplayLimit, .llrReplayTmo, .llrWindow, .llrAck, .llrAudit, .llrBrdSpill, .llrEthCtrl, .llrEthPfc, .llrStatus, .llrSeq, .llrErr, .llrCredit, .llrCrcErrCnt, .llrReplayCnt, .llrDownCnt, .llrFlushCnt, .llrStompRxCnt, .llrEthDropCnt]

/-- The registers of block LNS. -/
def regsOfLns : List Reg :=
  [.lnsCtrl, .lnsTxEq, .lnsAcq, .lnsPortCtrl, .lnsStatus, .lnsPartner, .lnsCoef, .lnsEyeCtrl, .lnsEye, .lnsTest, .lnsTestUser, .lnsFecInj, .lnsFecCorrCnt, .lnsFecUncorrCnt, .lnsChkBitsCnt, .lnsChkErrCnt, .lnsLocklossCnt, .lnsAcqFailCnt]

/-- The registers of a block (ENG and MEM hold none, R543). -/
def Block.regs : Block → List Reg
  | .sys => regsOfSys
  | .clk => regsOfClk
  | .pwr => regsOfPwr
  | .flt => regsOfFlt
  | .cnt => regsOfCnt
  | .gte => regsOfGte
  | .sec => regsOfSec
  | .cmd => regsOfCmd
  | .lck => regsOfLck
  | .hif => regsOfHif
  | .xlt => regsOfXlt
  | .qmg => regsOfQmg
  | .mtc => regsOfMtc
  | .rma => regsOfRma
  | .trn => regsOfTrn
  | .chr => regsOfChr
  | .eng => []
  | .qos => regsOfQos
  | .rte => regsOfRte
  | .swc => regsOfSwc
  | .llr => regsOfLlr
  | .lns => regsOfLns
  | .mem => []

/-- The gate that checks a block, also its block code in fault messages (R478, R506, R542). -/
def Block.code : Block → Nat
  | .sys => 0x00
  | .clk => 0x01
  | .pwr => 0x02
  | .flt => 0x03
  | .cnt => 0x04
  | .gte => 0x05
  | .sec => 0x06
  | .cmd => 0x07
  | .lck => 0x08
  | .hif => 0x09
  | .xlt => 0x0A
  | .qmg => 0x0B
  | .mtc => 0x0C
  | .rma => 0x0D
  | .trn => 0x0E
  | .chr => 0x0F
  | .eng => 0x10
  | .qos => 0x11
  | .rte => 0x12
  | .swc => 0x13
  | .llr => 0x14
  | .lns => 0x15
  | .mem => 0x16

/-- Base, last offset of the span, instances and stride of a block (R542). -/
structure BlockMap where
  base : Nat
  last : Nat
  insts : Nat
  stride : Nat
  deriving DecidableEq, Repr

def Block.map : Block → BlockMap
  | .sys => ⟨0x0, 0xFFFF, 1, 0x0⟩
  | .clk => ⟨0x10000, 0x1FFFF, 1, 0x0⟩
  | .pwr => ⟨0x20000, 0x2FFFF, 1, 0x0⟩
  | .flt => ⟨0x30000, 0x3FFFF, 1, 0x0⟩
  | .cnt => ⟨0x40000, 0x4FFFF, 1, 0x0⟩
  | .gte => ⟨0x50000, 0x5FFFF, 1, 0x0⟩
  | .sec => ⟨0x60000, 0x6FFFF, 1, 0x0⟩
  | .cmd => ⟨0x70000, 0x7FFFF, 1, 0x0⟩
  | .lck => ⟨0x80000, 0xFFFFF, 1, 0x0⟩
  | .hif => ⟨0x100000, 0x1FFFFF, 8, 0x10000⟩
  | .xlt => ⟨0x200000, 0x2FFFFF, 1, 0x0⟩
  | .qmg => ⟨0x300000, 0x3FFFFF, 1, 0x0⟩
  | .mtc => ⟨0x400000, 0x4FFFFF, 1, 0x0⟩
  | .rma => ⟨0x500000, 0x5FFFFF, 1, 0x0⟩
  | .trn => ⟨0x600000, 0x6FFFFF, 1, 0x0⟩
  | .chr => ⟨0x700000, 0x7FFFFF, 1, 0x0⟩
  | .eng => ⟨0x800000, 0x8FFFFF, 1, 0x0⟩
  | .qos => ⟨0x900000, 0x9FFFFF, 1, 0x0⟩
  | .rte => ⟨0xA00000, 0xBFFFFF, 1, 0x0⟩
  | .swc => ⟨0xC00000, 0xFFFFFF, 8, 0x20000⟩
  | .llr => ⟨0x1000000, 0x1FFFFFF, 128, 0x4000⟩
  | .lns => ⟨0x2000000, 0x2FFFFFF, 512, 0x1000⟩
  | .mem => ⟨0x3000000, 0x7FFFFFF, 1, 0x0⟩

def allBlocks : List Block :=
  [.sys, .clk, .pwr, .flt, .cnt, .gte, .sec, .cmd, .lck, .hif, .xlt, .qmg, .mtc, .rma, .trn, .chr, .eng, .qos, .rte, .swc, .llr, .lns, .mem]

end Sys2Proof
end

