-- ==== Sys2Proof/Types.lean ====
section
/-! DEFINITION. The plain data that commands carry and that State holds in common: packets, command words, host read results. -/

namespace Sys2Proof

/-- A fabric address, bits [26:0]: endpoint in [26:24], coordinates in [23:0] (R272). -/
abbrev Fa := Nat

/-- What a host read, or an AtomicOp, brings back (R399, R460, R581, R586). -/
inductive HostResult where
  | data (bytes : List Byte)      -- the bytes read, or the value an AtomicOp returns, byte 0 first
  | poisoned
  | timedOut
  | unsupported                   -- Unsupported Request or Completer Abort
  | cut (bytes : List Byte) (timedOut : Bool)   -- the first bytes came; the completion after them was poisoned, or timed out
  | faulted (level cause addr : Nat)   -- for the table that CMD_CHORUS_CREATE reads: its translation ends in a fault of R177, at an address
  deriving DecidableEq, Repr

/-- A command as it stands on the admin ring, without its OPCODE (which the row of the table gives, unless it is a reserved one): word 0 of
R457 and the parameter words of R459. -/
structure CmdArgs where
  remote : Bool
  fence : Bool
  rsv : Nat            -- word 0 bits [53:52]
  mid : Nat            -- FUNC_MID
  target : Nat         -- TARGET_COORD
  tag : Nat
  badOp : Option Nat   -- the OPCODE that word 0 holds, when it is one that R459 reserves; else the row gives it
  w1 : Word
  w2 : Word
  w3 : Word
  w4 : Word
  w5 : Word
  w6 : Word
  w7 : Word
  deriving DecidableEq, Repr

/-- A firmware image: its bytes, the 512-byte header first (R487). -/
structure ImageInfo where
  bytes : List Byte
  deriving DecidableEq, Repr

/-- What the environment brings to a command beside its words (log 2): host memory that the command reads, and the results of a
test. -/
structure CmdEnv where
  read : HostResult
  count : Nat          -- frames compared
  errors : Nat         -- of them, those that failed
  segs : List (Nat × Nat)   -- the bus ranges of the member table of CMD_CHORUS_CREATE
  slow : Bool          -- the command is still at work when the step that begins it ends
  deriving DecidableEq, Repr

/-- The traffic class field of a routing part: TC0-TC2, or 3 for control packets (R275). -/
abbrev Tc := Nat

/-- An entry of a function's MSI-X table (R391, R394). -/
structure MsixEntry where
  vec : Nat
  addr : Nat
  data : Nat
  masked : Bool
  deriving DecidableEq, Repr

/-- What the host programs into the configuration space and MSI-X table of a function of a port that it brings up (log 2). -/
structure FuncCfg where
  msix : Bool          -- MSI-X enabled
  table : List MsixEntry
  atomicEn : Bool      -- AtomicOp Requester Enable
  tags10 : Bool        -- 10-Bit Tag Requester Enable
  maxPayload : Nat     -- Max_Payload_Size, as its field codes it
  maxRead : Nat        -- Max_Read_Request_Size, as its field codes it
  cplTmo : Nat         -- Completion Timeout Value
  d3hot : Bool         -- the function is in D3hot
  deriving DecidableEq, Repr

/-- The peer state a packet or operation belongs to (R189): local endpoint, remote fabric address, traffic class. -/
structure PeerKey where
  ep : Nat
  fa : Fa
  tc : Tc
  deriving DecidableEq, Repr

/-- A fabric packet (R195): the fields of its routing part that endpoints use, its transport part (R195, R199), its
operation header or control body, and its payload. Switch and link fields are added by `Flit`. -/
structure Packet where
  src : Fa
  dst : Fa
  tc : Tc                -- class of the peer state concerned; for a control packet T0[33:32]
  ptype : Nat            -- R196
  first : Bool
  last : Bool
  retx : Bool
  prot : Bool
  immValid : Bool
  solicited : Bool
  kind : Bool
  aux : Nat              -- T0[51:32]
  psn : Pos              -- T0[31:0]
  pkey : Nat
  group : Nat
  srcInc : Nat           -- data packets: 16 bits; control packets: the full incarnation of T1[63:32]
  dstInc : Nat
  e0 : Word              -- operation header or control body word 0
  e1 : Word
  data : List Byte
  sealed : List Byte     -- payload protection: the enciphered payload and the integrity tag (R221)
  marked : Bool          -- congestion mark of R314
  lockUnit : Bool        -- the lock unit originated it: it is not policed (R329)
  deriving DecidableEq, Repr

/-- What a packet in the switch core carries (R195, R275, R305). -/
inductive Body where
  | packet (p : Packet)             -- a transport packet
  | words (ws : List Word)          -- VC7 contents from byte 16 on
  | frame (bytes : List Byte)       -- an Ethernet frame
  deriving DecidableEq, Repr

/-- A packet in the switch core: its routing part (R275), its length L (R300), its RETX bit and partition key, its contents. -/
structure SwPkt where
  dst : Fa
  src : Fa
  vc : Nat                 -- on a service port, the priority
  tc : Tc
  pin : Bool
  salt : Nat
  detoured : Nat
  ce : Bool
  mcast : Bool
  mdim : Nat
  mtype : Nat
  hops : Nat
  len : Nat
  retx : Bool
  pkey : Option Nat
  body : Body
  deriving DecidableEq, Repr

/-- Source of a packet in the switch core (R299). -/
inductive Source where
  | port (p : Nat) | ep (e : Nat) | cluster (c : Nat) | mgmt
  deriving DecidableEq, Repr

/-- Where an output queue leads (R299, R320). -/
inductive Output where
  | port (p : Nat) | ep (e : Nat) | cluster (c : Nat) | mgmt
  deriving DecidableEq, Repr

/-- A marker block as received or sent (R339, R368). -/
structure Marker where
  sync : Bool              -- SYNC matches
  count : Nat              -- SB_COUNT
  prev : Nat               -- SB_COUNT of the marker before it in the stream
  gap : Nat                -- bytes from that marker to this one
  map : Nat                -- LANE_MAP
  quiet : Bool             -- QUIET_REQ
  port : Nat
  coord : Nat
  grant : List Nat         -- GRANTED of VC0-VC7
  audit : Option (Nat × Nat × Nat)   -- AUDIT_VC, AUDIT_SEQ, AUDIT_CONSUMED
  crcOk : Bool             -- MCRC passes
  deriving DecidableEq, Repr

/-- ARG of an INIT or INIT_ACK (R337, R356). -/
structure LinkInit where
  rxExpected : Nat
  txOldest : Nat
  mode : Nat
  txFresh : Bool
  rxValid : Bool
  deriving DecidableEq, Repr

/-- A marker block as received, and the codewords that came since the last one: lane of the port, PAM4 levels (R339, R366). -/
structure MarkerBlock where
  marker : Marker
  words : List (Nat × List Int)
  deriving DecidableEq, Repr

/-- How a received frame checks (R337, R342, R343). -/
inductive FrameCheck where
  | good | badHeader | badTrailer | stomp
  deriving DecidableEq, Repr

/-- What boot finds (R442, R446-R448, R488): the strap, whether REFCLK is judged present, whether it is lost before the firmware runs,
whether the clocks are good, whether flash can be read, whether the known-answer tests pass (R489), the images of both slots, whether the
boot counter is written and read back, whether HBM trains. -/
structure Boot where
  sel : Nat
  refOk : Bool
  refLost : Bool
  clocksOk : Bool
  flashOk : Bool
  katOk : Bool
  image0 : ImageInfo
  image1 : ImageInfo
  counterOk : Bool
  hbmOk : Bool
  deriving DecidableEq, Repr

/-- One row of a fragment table or slot of a CONT entry (R82). -/
structure Frag where
  addr : Nat
  key : Nat
  fin : Bool             -- END
  len : Nat
  deriving DecidableEq, Repr

/-- A translated piece: bus address, length, page TYPE (R167). -/
structure Seg where
  bus : Nat
  len : Nat
  type : Nat
  deriving DecidableEq, Repr

/-- The translation of the extents of an access as far as it has come (R148, R483): virtual ranges still to translate, the
pieces of the range in progress, and those of the ranges that are done. -/
structure XProg where
  todo : List (Nat × Nat)
  acc : List Seg
  segs : List Seg
  deriving DecidableEq, Repr

/-- PTYPE codes of R196. -/
inductive PType where
  | send | tsend | put | get | atomic | withdraw | lock | chorus
  | getResp | atomicResp | fin | status | lockResp
  | ack | nack | notNow | refuse | resync
  | openReq | openAck | openNak | closeReq | closeAck | closeNak
  deriving DecidableEq, Repr

/-- The code of a packet type (R196). -/
def PType.code : PType → Nat
  | .send => 0x01 | .tsend => 0x02 | .put => 0x03 | .get => 0x04 | .atomic => 0x05
  | .withdraw => 0x06 | .lock => 0x07 | .chorus => 0x08
  | .getResp => 0x10 | .atomicResp => 0x11 | .fin => 0x12 | .status => 0x13 | .lockResp => 0x14
  | .ack => 0x15 | .nack => 0x16 | .notNow => 0x17 | .refuse => 0x18 | .resync => 0x19
  | .openReq => 0x1A | .openAck => 0x1B | .openNak => 0x1C
  | .closeReq => 0x1D | .closeAck => 0x1E | .closeNak => 0x1F

end Sys2Proof
end

