-- ==== Sys2Proof/Syntax.lean ====
section
/-! DEFINITION. The commands and events of the DG128: one constructor per row of spec/opcode_table.json, with the operands
that the outside world brings (log 2). -/

namespace Sys2Proof

inductive Instr where
  /-- Admin command that changes nothing and completes OK with RESULT0 0 (R459). -/
  | cmdNop (env : CmdEnv) (a : CmdArgs)
  /-- Command that writes the 256-byte record of a queue, region, partition, ASID, context, group, lock, peer state or the device (R459). -/
  | cmdQuery (env : CmdEnv) (a : CmdArgs)
  /-- Command that sets an endpoint's asynchronous EQ and its event mask (R96). -/
  | cmdEndpointConfig (env : CmdEnv) (a : CmdArgs)
  /-- Command that creates a partition under a 16-bit key, with optional payload protection and a dispatch weight (R134). -/
  | cmdPartitionCreate (env : CmdEnv) (a : CmdArgs)
  /-- Command that destroys a partition, failing while any of its regions, queues, ASIDs or match contexts exist (R136). -/
  | cmdPartitionDestroy (env : CmdEnv) (a : CmdArgs)
  /-- Command that creates an address space with fixed host port, levels, root, AD mode, partition and group (R164). -/
  | cmdAsidCreate (env : CmdEnv) (a : CmdArgs)
  /-- Command that destroys an ASID, failing while regions or live queues use it, and invalidates its cache entries (R186). -/
  | cmdAsidDestroy (env : CmdEnv) (a : CmdArgs)
  /-- Command that creates an EQ, SQ, SRQ or CQ, writes its context with positions 0 and assigns a home cluster (R73). -/
  | cmdQueueCreate (env : CmdEnv) (a : CmdArgs)
  /-- CMD_QUEUE_MODIFY with ACTION 0x0, which changes bound EQ, weight, burst, traffic class or PIN (R32). -/
  | cmdQueueModifyAttributes (env : CmdEnv) (a : CmdArgs)
  /-- CMD_QUEUE_MODIFY with STOP, which ends prefetch and dispatch and moves the queue to STOPPED (R73). -/
  | cmdQueueModifyStop (env : CmdEnv) (a : CmdArgs)
  /-- CMD_QUEUE_MODIFY with START, which returns a stopped queue to ACTIVE and starts a prefetch run (R73). -/
  | cmdQueueModifyStart (env : CmdEnv) (a : CmdArgs)
  /-- CMD_QUEUE_MODIFY with RECOVER, which sets positions and returns a queue in ERROR to ACTIVE when no job is outstanding (R73). -/
  | cmdQueueModifyRecover (env : CmdEnv) (a : CmdArgs)
  /-- Command that drops unaccepted entries and moves the queue to DRAINING until its accepted jobs end (R73). -/
  | cmdQueueDestroy (env : CmdEnv) (a : CmdArgs)
  /-- Command that evicts a queue context through the journal to the context store (R59). -/
  | cmdQueueEvict (env : CmdEnv) (a : CmdArgs)
  /-- Command that allocates a keyring entry for a region, walking every page when PIN is set, and returns its key (R139). -/
  | cmdRegionRegister (env : CmdEnv) (a : CmdArgs)
  /-- Command that invalidates every key of a region and completes when no checked operation references it (R143). -/
  | cmdRegionDeregister (env : CmdEnv) (a : CmdArgs)
  /-- Command that removes translations of a range, ASID or all ASIDs from every TLB and optionally the walk caches (R182). -/
  | cmdXltInval (env : CmdEnv) (a : CmdArgs)
  /-- Command that creates an ACTIVE match context with empty lists, a quota, an EQ and a home match unit (R132). -/
  | cmdMatchContextCreate (env : CmdEnv) (a : CmdArgs)
  /-- Command that cancels posted receives and unmatched RTSs of a context and drains it to UNUSED (R132). -/
  | cmdMatchContextDestroy (env : CmdEnv) (a : CmdArgs)
  /-- Command that installs a chorus group from its member table and joins the tree toward its parent (R228). -/
  | cmdChorusCreate (env : CmdEnv) (a : CmdArgs)
  /-- Command that removes a group's local members and moves the group to LEAVING (R236). -/
  | cmdChorusDestroy (env : CmdEnv) (a : CmdArgs)
  /-- Command that allocates a run of hardware locks to a partition (R254). -/
  | cmdLockAlloc (env : CmdEnv) (a : CmdArgs)
  /-- CMD_LOCK_ALLOC with W1[0] set, which allocates and zeroes device-variable slots for a partition (R268). -/
  | cmdLockAllocVariables (env : CmdEnv) (a : CmdArgs)
  /-- Command that returns free locks to UNALLOCATED and fails on a held lock (R257). -/
  | cmdLockFree (env : CmdEnv) (a : CmdArgs)
  /-- CMD_LOCK_FREE with FORCE, which cancels waiters, clears the owner as a holder reset and unallocates the lock (R263). -/
  | cmdLockFreeForce (env : CmdEnv) (a : CmdArgs)
  /-- CMD_LOCK_FREE with W1[0] set, which returns device-variable slots (R254). -/
  | cmdLockFreeVariables (env : CmdEnv) (a : CmdArgs)
  /-- Command that replaces one gate rule as a whole and completes when no access checked against the old rule remains (R486). -/
  | cmdGateWrite (env : CmdEnv) (a : CmdArgs)
  /-- Command that checks a shadow image and applies its WRITE and FILL records to the shadow set (R469). -/
  | cmdShadowLoad (env : CmdEnv) (a : CmdArgs)
  /-- Command that validates the shadow set and exchanges active and shadow banks at the commit word (R470). -/
  | cmdHinge (env : CmdEnv) (a : CmdArgs)
  /-- CMD_HINGE with VALIDATE_ONLY, which validates the shadow set without committing it (R470). -/
  | cmdHingeValidateOnly (env : CmdEnv) (a : CmdArgs)
  /-- Command that makes a fabric port unusable for routing while leaving its link UP (R357). -/
  | cmdPortFence (env : CmdEnv) (a : CmdArgs)
  /-- Command that returns a fenced port to use (R521). -/
  | cmdPortUnfence (env : CmdEnv) (a : CmdArgs)
  /-- Command that takes a fenced port down and runs a PRBS31 frame test, local, remote or against the partner (R521). -/
  | cmdPortTest (env : CmdEnv) (a : CmdArgs)
  /-- CMD_PORT_TEST with STOP, which ends the test, returns the frames compared and retrains the port (R521). -/
  | cmdPortTestStop (env : CmdEnv) (a : CmdArgs)
  /-- Command that puts a lane in TEST and applies the LNS_TEST generator, checker and loopback settings (R381). -/
  | cmdLaneTest (env : CmdEnv) (a : CmdArgs)
  /-- CMD_LANE_TEST with STOP, which returns bits compared and errors and sends the lane to FAST (R371). -/
  | cmdLaneTestStop (env : CmdEnv) (a : CmdArgs)
  /-- Command that retires an MPE or a chorus cluster and re-homes its work (R518). -/
  | cmdEngineRetire (env : CmdEnv) (a : CmdArgs)
  /-- Command that returns a retired engine to service under leave (R518). -/
  | cmdEngineRestore (env : CmdEnv) (a : CmdArgs)
  /-- Command that retires an HBM pseudo-channel pair and migrates its lines (R523). -/
  | cmdMemChannelRetire (env : CmdEnv) (a : CmdArgs)
  /-- Command that sets the counter dump enable, area, period and host port (R531). -/
  | cmdCounterDumpConfig (env : CmdEnv) (a : CmdArgs)
  /-- Command that reads, authenticates and writes a firmware image into a flash slot that is not running (R473). -/
  | cmdFwStage (env : CmdEnv) (a : CmdArgs)
  /-- Command that makes a flash slot the one that boot loads (R474). -/
  | cmdFwActivate (env : CmdEnv) (a : CmdArgs)
  /-- CMD_FW_ACTIVATE with NOW, which authenticates and copies the image to HBM and performs a warm reset with cause 0x6 (R474). -/
  | cmdFwActivateNow (env : CmdEnv) (a : CmdArgs)
  /-- CMD_KEY_INSTALL of kind 0x1, which unwraps and seals the owner key after zeroizing partition and fabric keys (R492). -/
  | cmdKeyInstallOwner (env : CmdEnv) (a : CmdArgs)
  /-- CMD_KEY_INSTALL of kind 0x2, which installs a partition key wrapped under the owner key (R492). -/
  | cmdKeyInstallPartition (env : CmdEnv) (a : CmdArgs)
  /-- CMD_KEY_INSTALL of kind 0x3, which installs the fabric management key (R492). -/
  | cmdKeyInstallFabric (env : CmdEnv) (a : CmdArgs)
  /-- CMD_KEY_INSTALL of kind 0x8, which zeroizes one partition key (R492). -/
  | cmdKeyZeroizePartition (env : CmdEnv) (a : CmdArgs)
  /-- CMD_KEY_INSTALL of kind 0x9, which zeroizes the fabric key (R492). -/
  | cmdKeyZeroizeFabric (env : CmdEnv) (a : CmdArgs)
  /-- CMD_KEY_INSTALL of kind 0xA, which zeroizes the key store and erases the sealed owner key (R492). -/
  | cmdKeyZeroizeAll (env : CmdEnv) (a : CmdArgs)
  /-- Command that clears pending fault bits, class counters and, with CLEAR_FIRST, the latch and overflow (R510). -/
  | cmdFaultClear (env : CmdEnv) (a : CmdArgs)
  /-- Write of CMD_PI that advances the admin producer position under the doorbell rules (R452). -/
  | cmdPiWrite (port fn : Nat) (value : Word)
  /-- Write of CMD_RING_BASE.EN that enables the admin ring and zeroes CMD_PI and CMD_CI, or stops taking commands (R451). -/
  | cmdRingEnable (port fn : Nat) (value : Word)
  /-- MCTP message of KIND 0x01 carrying a command, answered with KIND 0x81 and its status (R462). -/
  | mctpCommand (op : Nat) (seq : Nat) (a : CmdArgs) (env : CmdEnv)
  /-- MCTP message of KIND 0x02, answered with KIND 0x82, then a warm reset with cause 0x3 (R462). -/
  | mctpWarmResetRequest (seq : Nat)
  /-- MCTP message of KIND 0x03 delivering part of a firmware image at boot with BOOT_SEL 0b10 (R488). -/
  | mctpFirmwareImage (seq : Nat) (bytes : List Byte) (final : Bool) (image : ImageInfo)
  /-- A VC7 command packet is executed when enabled, from the fabric manager and with a valid tag, or discarded and counted (R465). -/
  | commandPacketArrival (src : Nat) (seq : Nat) (op : Nat) (a : CmdArgs) (tagOk : Bool) (env : CmdEnv)
  /-- The status packet of a REMOTE command is written into its local status slot (R464). -/
  | remoteStatusArrival (src : Nat) (seq : Nat) (ws : List Word) (tagOk : Bool)
  /-- CMD_FAB_CTRL.TMO passes without a remote status and the command completes with TIMEOUT (R464). -/
  | remoteCommandTimeout (seq : Nat)
  /-- PRODUCE doorbell that raises an SQ or SRQ's known producer position and starts a prefetch run (R39). -/
  | doorbellProduce (port fn : Nat) (page offset : Nat) (value : Word)
  /-- CONSUME doorbell that raises a CQ's consumer position and frees slots (R39). -/
  | doorbellConsume (port fn : Nat) (page offset : Nat) (value : Word)
  /-- ARM doorbell that requests one CQ_NOTIFY on the next completion (R97). -/
  | doorbellArm (port fn : Nat) (page offset : Nat) (value : Word)
  /-- ARM_SOLICITED doorbell that requests one CQ_NOTIFY on the next solicited completion (R97). -/
  | doorbellArmSolicited (port fn : Nat) (page offset : Nat) (value : Word)
  /-- A BAR2 write of wrong size, to a foreign queue or a non-queue QID is ignored, counted and captured (R393). -/
  | bar2WriteRefused (port fn : Nat) (page offset : Nat) (len : Nat) (value : Word)
  /-- A ring read returns and the leading written entries are taken; unwritten ones are discarded for a re-read (R47). -/
  | prefetchReadComplete (id : Nat) (result : HostResult)
  /-- REFETCH_GAP passes and the queue re-reads from its first unwritten entry (R48). -/
  | refetchGapExpiry (qid : Nat)
  /-- A free MPE slot takes work chosen by weighted round robin over endpoints, partitions and ready queues (R51). -/
  | jobDispatch
  /-- Descriptor that completes OK with no other effect (R77). -/
  | nop (qid : Nat)
  /-- Descriptor that sends a message to the next entry of a target SRQ (R151). -/
  | send (qid : Nat)
  /-- Descriptor that sends a tagged message eagerly or as an RTS (R116). -/
  | tsend (qid : Nat)
  /-- Descriptor that writes local or inline data into a remote region (R149). -/
  | put (qid : Nat)
  /-- Descriptor that reads a remote region into a local buffer (R149). -/
  | get (qid : Nat)
  /-- Descriptor that performs an 8- or 16-byte atomic on a remote region or device variable (R153). -/
  | atomic (qid : Nat)
  /-- SRQ descriptor that offers a buffer to the next arriving SEND (R151). -/
  | recv (qid : Nat)
  /-- Descriptor that posts a tagged receive, matching the oldest suitable unexpected message or joining a list (R113). -/
  | trecv (qid : Nat)
  /-- Descriptor that removes a still-posted receive of the same SQ (R126). -/
  | tcancel (qid : Nat)
  /-- Descriptor that contributes to the next collective of a chorus group (R238). -/
  | chorus (qid : Nat)
  /-- Descriptor that sends an ACQUIRE LOCK packet to the lock's device (R256). -/
  | lockAcquire (qid : Nat)
  /-- Descriptor that, after all earlier jobs complete, sends a RELEASE LOCK packet (R258). -/
  | lockRelease (qid : Nat)
  /-- A SEND on the service port's TX_QID transmits one Ethernet frame (R361). -/
  | ethernetFrameTransmit (port : Nat)
  /-- Write of QMG_EQ_CI that advances an EQ's consumer position or clears OVERFLOW and rearms MSI-X (R44). -/
  | qmgEqCiWrite (port fn : Nat) (q : Nat) (value : Word)
  /-- Free cache entries fall below LOW_WATER and LRU contexts are evicted to HIGH_WATER (R57). -/
  | contextEvictionStart (qid : Nat)
  /-- The context reaches its home and the journal slot retires, starting any waiting fetch (R59). -/
  | contextEvictionComplete (qid : Nat)
  /-- A fetched context becomes resident and its parked packets are released in order (R63). -/
  | contextFetchComplete (qid : Nat) (eccError : Bool)
  /-- A fetched peer state becomes resident; waiting operations and parked packets proceed (R190). -/
  | peerFetchComplete (k : PeerKey) (eccError : Bool)
  /-- A CQ refusal period reaches QMG_CQ_STALL_TMO, moving the CQ to ERROR with a CQ_OVERRUN event (R69). -/
  | cqStallTimeout (qid : Nat)
  /-- A PSN-consuming packet reaches transport and is classified, held, admitted, recorded and delivered (R203). -/
  | dataPacketArrival (p : Packet) (tagOk : Bool) (vc : Nat)
  /-- A multicast RESULT is classified on its flow, acknowledged, forwarded down and written to local members (R247). -/
  | resultArrival (p : Packet) (tagOk : Bool)
  /-- A RESULT_ACK frees RESULTs from the log once every named child has acknowledged (R247). -/
  | resultAckArrival (p : Packet)
  /-- RESULT_RETX passes and the RESULT is multicast again to children that have not acknowledged (R247). -/
  | resultRetxExpiry (group dim : Nat)
  /-- JOIN_TMO passes with an expected JOIN or the local creation missing, declaring a loss (R235). -/
  | joinTimeout (group : Nat)
  /-- Once every contribution of a chunk has arrived, the node reduces it and sends it to its parent or rounds it at the root (R231). -/
  | chunkReduction (group opseq block idx : Nat)
  /-- An ACK frees acknowledged packets, takes an RTT sample, echoes CE_COUNT and completes operations (R208). -/
  | ackArrival (p : Packet)
  /-- A NACK acknowledges up to HEAD and retransmits each MISSING PSN once (R212). -/
  | nackArrival (p : Packet)
  /-- A NOT_NOW holds the refused PSN for a doubling backoff, abandoning the flow after TRN_NOTNOW.TMO (R214). -/
  | notNowArrival (p : Packet)
  /-- A REFUSE with DEVICE_HALTED completes operations above HEAD with DEVICE_HALTED (R210). -/
  | refuseArrival (p : Packet)
  /-- A RESYNC for an outstanding PSN abandons the send half with PEER_RESTARTED (R219). -/
  | resyncArrival (p : Packet)
  /-- An OPEN_REQ resets or keeps the receive half and is answered OPEN_ACK or OPEN_NAK (R193). -/
  | openReqArrival (p : Packet)
  /-- An OPEN_ACK records the remote incarnation and opens the send half (R193). -/
  | openAckArrival (p : Packet)
  /-- An OPEN_NAK makes the sender resend OPEN_REQ after the not-now backoff (R193). -/
  | openNakArrival (p : Packet)
  /-- No OPEN answer within the retransmit timeout resends OPEN_REQ; UNREACH_TMO ends it with PEER_UNREACHABLE (R192). -/
  | openTimeout (k : PeerKey)
  /-- A CLOSE_REQ frees the peer state with CLOSE_ACK when idle and matching, else CLOSE_NAK (R191). -/
  | closeReqArrival (p : Packet)
  /-- A CLOSE_ACK frees the peer state (R191). -/
  | closeAckArrival (p : Packet)
  /-- A CLOSE_NAK leaves the peer state and the next candidate is tried (R191). -/
  | closeNakArrival (p : Packet)
  /-- No CLOSE answer within the retransmit timeout leaves the peer state in place (R191). -/
  | closeTimeout (k : PeerKey)
  /-- The retransmit timer expires and unheld outstanding packets are resent with RETX and the timeout doubled (R211). -/
  | retransmitTimeout (k : PeerKey)
  /-- TRN_ACK.DELAY passes since the earliest unacknowledged delivery and an ACK is sent (R206). -/
  | ackDelayExpiry (k : PeerKey)
  /-- HEAD + 1 stays missing for NACK_DELAY and one NACK is sent (R206). -/
  | nackDelayExpiry (k : PeerKey)
  /-- A refused PSN's backoff ends and it is retransmitted (R214). -/
  | notNowBackoffExpiry (k : PeerKey) (psn : Pos)
  /-- A send half without a route for UNREACH_TMO is abandoned with PEER_UNREACHABLE (R295). -/
  | unreachTimeout (k : PeerKey)
  /-- A context refuses arrivals for MTC_UNEXP_TMO and moves to ERROR with MTC_OVERFLOW (R129). -/
  | mtcUnexpTimeout (ctx : Nat)
  /-- RMA_DEREG_TMO passes and remaining operations on a deregistered region are abandoned (R143). -/
  | deregTimeout (index : Nat)
  /-- A wheel entry falls due and the SQ or send half releases its next packet, advancing its eligible times (R324). -/
  | timingWheelDue (qid : Nat) (k : PeerKey)
  /-- A deferred red packet is released yellow once its bucket holds its length (R331). -/
  | policerDeferRelease (ep tc : Nat)
  /-- INC_PERIOD passes without marks and the peer rate rises by INC (R327). -/
  | ccIncreasePeriod (k : PeerKey)
  /-- Each fabric VC queue's depth and head delay are sampled into its meters and sums (R333). -/
  | queueSamplePeriod
  /-- Write of QOS_QSAMPLE_SEL with CLR that zeroes the selected queue's maxima (R333). -/
  | qsampleClear (port fn : Nat) (value : Word)
  /-- A walk's table-entry read returns and the walk continues, maps or faults (R169). -/
  | pageTableReadComplete (id : Nat) (result : HostResult)
  /-- An A/D compare-and-swap completes and the translation is cached or the entry re-examined (R172). -/
  | adUpdateCasComplete (id : Nat) (result : HostResult)
  /-- All 40 units acknowledge an invalidation and CMD_XLT_INVAL completes (R183). -/
  | invalidationAcknowledged (id : Nat)
  /-- A PCIe AtomicOp for an ATOMIC completes and the loop ends, retries or fails (R153). -/
  | hostAtomicopComplete (id : Nat) (result : HostResult)
  /-- A host read of payload, fragment table or region returns and the operation proceeds (R149). -/
  | hostReadComplete (id : Nat) (result : HostResult)
  /-- A non-posted host request exceeds its completion timeout and fails under R399 or R586 (R581). -/
  | completionTimeout (id : Nat)
  /-- A received write or request with poisoned data is discarded and HIF_POISONED reported (R399). -/
  | poisonedWriteReceived (port fn : Nat) (addr : Nat)
  /-- A host AtomicOp to HIF_SEM completes atomically; other AtomicOps get Unsupported Request (R397). -/
  | hifSemAtomicop (port fn : Nat) (off kind : Nat) (operand compare : Nat)
  /-- An FLR moves the function's queues to ERROR, deregisters regions, releases locks and starts the drain (R400). -/
  | functionLevelReset (port fn : Nat)
  /-- Clearing VF Enable resets every VF of the port (R400). -/
  | vfEnableClear (port : Nat)
  /-- PERST_N[h] low resets every function of host port Hh (R400). -/
  | perstAssert (port : Nat)
  /-- A PCIe hot reset performs a port reset of every function (R400). -/
  | hotReset (port : Nat)
  /-- A host link going down is reported and handled as a port reset, then retrained (R404). -/
  | hifLinkDown (port : Nat)
  /-- The drain ends with no work left; translations removed, configuration space reset, DRAINING cleared (R401). -/
  | flrDrainEnd (mid : Nat)
  /-- HIF_FLR_DRAIN passes with work outstanding, which is abandoned and reported (R402). -/
  | flrDrainLimit (mid : Nat)
  /-- Write of HIF_LINK_CTRL.RETRAIN that starts link retraining (R404). -/
  | hifLinkRetrain (port fn : Nat) (host : Nat) (value : Word)
  /-- An SPDM message over DOE or MCTP is answered by MGC firmware, including IDE_KM within a session (R494). -/
  | spdmRequest (chan : Nat) (req : Nat) (ok : Bool)
  /-- A packet's first cell is written, charged to its reservation, routed and queued to its outputs (R302). -/
  | switchPacketArrival (src : Source) (seq : Nat) (p : SwPkt) (mcast : Option (Nat × List Nat))
  /-- When shared cells free, a packet's charge moves from its reservation to the shared pool and credit returns (R302). -/
  | sharedPoolTransfer (slice : Nat)
  /-- A packet without adaptive credit for ESC_WAIT moves to its class's escape VC (R281). -/
  | escapeWaitExpiry (port pid : Nat)
  /-- An output that can start a frame picks VC7, VC6 or a data class by DRR and sends its head packet (R320). -/
  | egressFrameStart (out : Output) (ecc cell : Nat)
  /-- A multicast residue copy waits SWC_RESIDUE_TMO, is discarded and its port fenced (R310). -/
  | residueTimeout (port pid : Nat)
  /-- A slice's audit pass finds leaked or double cells and repairs and reports them (R316). -/
  | auditPass (slice : Nat) (leaked doubled : List Nat)
  /-- Every RTE_CVEC_PERIOD the line congestion vector is multicast on each line (R287). -/
  | cvecPeriodExpiry
  /-- A neighbour's vector is kept if its sequence number is newer (R289). -/
  | cvecArrival (src : Fa) (seq : Nat) (ws : List Word)
  /-- Every RTE_MAP_CTRL.PERIOD a congestion map record is sent to the collector (R297). -/
  | mapPeriodExpiry
  /-- Write of RTE_EXC_ADD_ACTION that adds an exception entry in the lowest free slot (R294). -/
  | rteExcAdd (port fn : Nat) (value : Word)
  /-- Write of RTE_EXC_DEL that frees an exception slot (R294). -/
  | rteExcDel (port fn : Nat) (value : Word)
  /-- A DATA frame is accepted in sequence, discarded as duplicate, or triggers a REPLAY_REQ (R342). -/
  | linkDataFrameReceive (port seq : Nat) (ack : Option Nat) (p : SwPkt) (check : FrameCheck)
  /-- An ACK_SEQ frees covered frames from the replay window or signals a sequence violation (R344). -/
  | linkAckReceive (port seq : Nat)
  /-- A REPLAY_REQ acknowledges s − 1 and replays from s (R344). -/
  | replayReqReceive (port : Nat) (seq : Nat)
  /-- A marker block updates credit grants, audits and quiet requests (R339). -/
  | markerBlockReceive (port : Nat) (b : MarkerBlock)
  /-- LLR_REPLAY_TMO passes without progress and outstanding frames are replayed (R346). -/
  | linkReplayTimeout (port : Nat)
  /-- e does not advance for LLR_REPLAY_TMO after a REPLAY_REQ and it is resent (R342). -/
  | replayReqResend (port : Nat)
  /-- An acceptance is pending with no DATA frame within LLR_ACK.IDLE and an ACK frame is sent (R345). -/
  | standaloneAckIdle (port : Nat)
  /-- A VC lacks credit for LLR_CREDIT_TMO and the link goes down with LLR_CREDIT_TIMEOUT (R352). -/
  | creditTimeout (port vc : Nat)
  /-- Errors reach LIMIT within one window and the link goes down with LLR_ERROR_RATE (R354). -/
  | errorWindowLimit (port : Nat)
  /-- An INIT resets, flushes or replays link state and is answered with INIT_ACK (R356). -/
  | initReceive (port : Nat) (f : LinkInit)
  /-- An INIT_ACK replays from RX_EXPECTED and brings the port UP (R353). -/
  | initAckReceive (port : Nat) (f : LinkInit)
  /-- Every 1 µs in INIT an INIT frame is sent (R353). -/
  | initSendTimer (port : Nat)
  /-- LLR_GRACE passes since link-down and the port is flushed (R353). -/
  | graceExpiry (port : Nat)
  /-- A service-port frame is prioritised, charged and placed into the RX SRQ or discarded (R362). -/
  | ethernetFrameReceive (port : Nat) (bytes : List Byte) (fcsOk : Bool)
  /-- A received PFC frame pauses the named priorities for their quanta (R363). -/
  | pfcFrameReceive (port : Nat) (quanta : List (Nat × Nat))
  /-- Every 32,768 quanta above XON the PFC frame is repeated; below XON a quanta-0 frame is sent (R363). -/
  | pfcRefresh (port prio : Nat)
  /-- A training frame locks the receiver, sends RX_READY, and after 8 frames makes the lane READY (R370). -/
  | trainingFrameReceive (lane : Nat) (status : Nat) (sync : Bool) (inverted : Bool)
  /-- Valid alignment markers on the lane map form port lock, the lanes-locked event of the link (R369). -/
  | portLockFormed (port : Nat) (m : Marker)
  /-- Four marker blocks in a row missing or failing lose port lock (R369). -/
  | portLockLoss (port : Nat)
  /-- DEGRADE_WAIT passes since the first READY lane and port lock forms on the READY lanes (R373). -/
  | degradeWaitExpiry (port : Nat)
  /-- REJOIN_WAIT passes in GRACE and port lock forms on the remaining lanes (R373). -/
  | rejoinWaitExpiry (port : Nat)
  /-- A receiver loses lock with signal present, reports LNS_LOCK_LOST and silences its transmitter (R371). -/
  | laneLockLoss (lane : Nat)
  /-- Loss of signal outside quiet sends the lane to FAST (R371). -/
  | laneSignalLoss (lane : Nat)
  /-- QUIET_HOLD passes and the lane sends training frames (R371). -/
  | quietHoldExpiry (lane : Nat)
  /-- FAST_TMO passes, leave is requested and the lane starts full adaptation (R371). -/
  | fastTmoExpiry (lane : Nat)
  /-- FULL_TMO passes; the failure is counted and after MAX_FULL the lane FAILS (R371). -/
  | fullTmoExpiry (lane : Nat)
  /-- A port idle for QUIET_IDLE starts the quiet exchange with QUIET_REQ (R379). -/
  | quietIdleExpiry (port : Nat)
  /-- Signal detect or a frame to send wakes a quiet lane into FAST (R380). -/
  | quietWake (port : Nat)
  /-- Write of LNS_EYE_CTRL.START that starts an eye measurement (R384). -/
  | eyeMeasureStart (port fn : Nat) (lane : Nat) (value : Word)
  /-- The eye measurement completes, DONE sets and LNS_EYE holds the result (R384). -/
  | eyeMeasureDone (lane : Nat) (snr height width : Nat)
  /-- Write of LNS_TEST.INJ_ONCE that inverts one generated bit (R382). -/
  | injOnce (port fn : Nat) (lane : Nat) (value : Word)
  /-- The arbiter grants the head request when its step fits the credit, starting the operation (R412). -/
  | leaveGrant (demand : List Nat)
  /-- NOTICE_HOLD after the last grant under notice, RAMP_N returns high (R415). -/
  | noticeHoldExpiry
  /-- A request waiting PWR_ARB_CTRL.AGE becomes priority 0 (R413). -/
  | arbAgeExpiry
  /-- At T less the exit time a sleeping domain begins its exit so it is ON at T (R408). -/
  | predictorExitStart (dom : Nat)
  /-- A domain reaches ON and the operations waiting for it request leave (R406). -/
  | domainExitComplete (dom : Nat)
  /-- Demand below the next lower level for ACT_DECAY lowers the activity level by one (R414). -/
  | activityDecayExpiry (dom : Nat)
  /-- A new BCA code stable for DEBOUNCE or RELAX is taken, setting BCA_FLOOR and HOLD (R419). -/
  | bcaCodeChange (code : Nat)
  /-- Every STEP_US the power floor moves by the estimate against the limits (R420). -/
  | powerFloorStep (watts amps : Nat)
  /-- The estimate exceeds its limit for VIOL_MS at class 7; priorities 1–3 are held (R421). -/
  | pwrBudgetViolation
  /-- Every PWR_THERM.STEP the thermal floor moves with Tj and THERM_WARN may be reported (R422). -/
  | thermFloorStep (sensors : List Int)
  /-- A sensor at 115 °C for 1 µs drives THERMTRIP_N low, stops transmitters and turns domains OFF (R423). -/
  | thermTrip (sensor : Nat)
  /-- A rail out of range for 1 µs is reported as a C3 fault (R424). -/
  | pwrRailFault (rail : Nat) (above : Bool)
  /-- Two good 10 µs counts judge REFCLK present and AON switches to it (R430). -/
  | refclkPresent
  /-- REFCLK is lost; PLLs hold, the device quiesces and waits (R433). -/
  | clkRefLost
  /-- REFCLK present again for 1 ms completes a warm reset with cause 0x5 (R433). -/
  | refclkReturn
  /-- Two passing windows judge a derived clock good and release its islands (R431). -/
  | clockJudgedGood (clock : Nat) (ppm : Int)
  /-- Two failing windows judge a clock failed and stop its islands (R432). -/
  | clkOutOfWindow (clock : Nat) (ppm : Int)
  /-- A follower sends DELAY_REQ on its parent port every PERIOD_US (R437). -/
  | timeExchangePeriod
  /-- A DELAY_REQ is answered with DELAY_RESP carrying timestamps, stratum and LOCKED (R438). -/
  | delayReqReceive (port : Nat) (seq ta : Nat)
  /-- A follower computes delay and offset and steps or slews DTIME (R439). -/
  | delayRespReceive (port : Nat) (seq ta tb tc stratum : Nat) (locked : Bool)
  /-- Eight periods without an answer, or a port not UP, move a locked follower to HOLDOVER (R439). -/
  | timeHoldover
  /-- Write of CLK_DTIME_SET that steps DTIME in FREE or MASTER role (R437). -/
  | clkDtimeSetWrite (port fn : Nat) (value : Word)
  /-- PWR_OK rising begins a power-on reset (R440). -/
  | powerOnReset
  /-- RESET_N low for 1 µs or PWR_OK falling stops every transmitter and resets the device (R440). -/
  | coldReset (pwrOk : Bool)
  /-- RESET_N rising runs clock judging, firmware load, boot counter, memory training and RUN (R448). -/
  | coldStart (b : Boot)
  /-- Write of SYS_CTRL.WARM_RESET, or another cause, begins WARM_QUIESCE and takes every port down (R443). -/
  | warmResetRequest (port fn : Nat) (value : Word)
  /-- Host requests complete or time out; dirty state is written through the journal and HBM self-refreshes (R443). -/
  | warmQuiesceDone
  /-- With clocks judged, HBM leaves self-refresh, firmware is checked, the journal replayed and lanes acquire (R443). -/
  | warmRestore (clocksOk fwOk : Bool) (lost : List Nat) (b : Boot)
  /-- When prior ports are UP or 50 ms pass, queues resume and ENDPOINT_RESUMED is written (R445). -/
  | endpointResume
  /-- No packet or operation of the former set remains and the shadow becomes PREVIOUS (R588). -/
  | shadowRetireComplete
  /-- A shadow-view write updates a CS register's shadow copy, or is dropped while validating or retiring (R466). -/
  | shadowViewWrite (port fn : Nat) (off len : Nat) (value : Word)
  /-- A BAR0 write to a register without a row of its own updates its fields under their access codes (R15). -/
  | registerWrite (port fn : Nat) (off len : Nat) (value : Word)
  /-- Write of SEC_LOCK that makes every RWL field read-only until cold reset (R501). -/
  | secLockWrite (port fn : Nat) (value : Word)
  /-- Write of SEC_AUDIT_CTRL.ADVANCE that releases the oldest unread audit record (R498). -/
  | auditAdvance (port fn : Nat) (value : Word)
  /-- A debug unlock attempt is granted after zeroizing keys, or refused and counted (R500). -/
  | debugUnlock (ok : Bool)
  /-- TAMPER_N low or a voltage excursion zeroizes keys, stops transmitters and deadbolts the device (R499). -/
  | secTamper (cause : Nat)
  /-- A key check value mismatch, self-test or entropy failure triggers the tamper response (R493). -/
  | secKeyIntegrity (cause : Nat)
  /-- An engine without progress for WDOG_US reports ENG_HANG and is retired or reloaded (R518). -/
  | engineWatchdogExpiry (code : Nat)
  /-- A hung management core is restarted by another and its commands complete as cut (R520). -/
  | mgcHang (n : Nat)
  /-- A channel reaching MEM_THRESH errors per second or not answering starts retirement of its pair (R523). -/
  | memAutoRetire (channel : Nat) (dead : Bool)
  /-- The last line of a retiring pair moves and MEM_CHANNEL_RETIRED is reported (R523). -/
  | memMigrationComplete
  /-- Write of FLT_MEMTEST.START that starts a row-by-row test of a pseudo-channel (R524). -/
  | memtestStart (port fn : Nat) (value : Word)
  /-- The channel test ends with rows repaired or the pair retired and DONE set (R524). -/
  | memtestDone (failed repaired : Nat)
  /-- A bank's transparent self-test runs and replaces failing rows with spares (R525). -/
  | sramBistRotation (block inst bank : Nat) (rows : List (Nat × Bool)) (cells : List Nat)
  /-- DTIME reaching a multiple of the dump period snapshots every counter and writes a record (R530). -/
  | counterSnapshot
  /-- A record's word 0 is written last and the optional MSI-X vector sent (R531). -/
  | dumpWriteComplete
  /-- An engine's event count reaches INTERVAL and a capture becomes pending (R534). -/
  | sampleCrossing (code : Nat)
  /-- At the end of the next work step the sample is written to the sample ring (R535). -/
  | sampleCapture (code obj : Nat)
  /-- Write of CNT_SAMPLE_CI that frees sample records and rearms the vector (R535). -/
  | cntSampleCiWrite (port fn : Nat) (value : Word)
  /-- Write of CNT_SAMPLE_BASE.EN from 0 to 1 that zeroes the sample ring positions (R538). -/
  | cntSampleEnable (port fn : Nat) (value : Word)
  /-- A telemetry packet at its collector is placed into the configured SRQ or discarded (R537). -/
  | telemetryArrival (ep : Nat) (src : Fa) (ws : List Word)
  /-- After a PWR_RAIL_FAULT, every rail has been back in range for 1 ms and the automatic warm reset of R514 begins (R573). -/
  | railRestored
  /-- PERST_N[h] rises and host port Hh leaves reset and begins link training (R448). -/
  | perstDeassert (port : Nat)
  /-- A host link training attempt ends, with the link in L0 (HIF_LINK_STATUS.UP) or failed and reported as HIF_LINK_DOWN under R388 (R386). -/
  | hifLinkTrained (port : Nat) (rate width : Nat) (reversed : Bool) (cfg : FuncCfg)
  /-- Setting VF Enable in the PF creates the VFs and fixes each VF's MSI-X table size (R395). -/
  | vfEnableSet (port numVfs : Nat) (cfg : FuncCfg)
  /-- The quanta of a received PFC frame run out and the paused priority of the service port becomes ready again (R363). -/
  | pfcPauseExpiry (port prio : Nat)
  /-- Loss of any lane in use on an Ethernet service port takes the port down (R377). -/
  | ethernetPortDown (port : Nat)
  /-- At each 4,096-byte superblock boundary a port sends a marker block carrying GRANTED, any audit and QUIET_REQ (R339). -/
  | markerBlockSend (port : Nat)
  /-- After an OPEN_NAK, the not-now backoff ends and the OPENING send half resends its OPEN_REQ (R192). -/
  | openBackoffExpiry (k : PeerKey)
  deriving DecidableEq, Repr

end Sys2Proof
end

