-- ==== Sys2Proof/Machine/Crypto.lean ====
section
/-! DEFINITION. The ciphers and hashes that the spec names: AES-256 in counter mode with GHASH (AES-256-GCM), SHA-384, HMAC-SHA-384 and the
SP 800-108 counter mode over it (R221, R490, R491, R497). -/

namespace Sys2Proof.Machine

/-! ### AES-256 (R221, R491) -/

/-- Multiply by x in the field of AES. -/
def xtime (a : Byte) : Byte := (a <<< 1) ^^^ (if a.msb then 0x1B else 0)

/-- Multiply in the field of AES, by the low n bits of b. -/
def aesMul (a b : Byte) : Nat → Byte
  | 0 => 0
  | n + 1 => (if b.getLsbD 0 then a else 0) ^^^ aesMul (xtime a) (b >>> 1) n

/-- The inverse in the field of AES, 0 for 0: the power 254. -/
def aesInv (a : Byte) : Byte :=
  let sq (x : Byte) : Byte := aesMul x x 8
  let mul (x y : Byte) : Byte := aesMul x y 8
  let a3 := mul (sq a) a
  let a7 := mul (sq a3) a
  let a15 := mul (sq a7) a
  let a31 := mul (sq a15) a
  let a63 := mul (sq a31) a
  let a127 := mul (sq a63) a
  sq a127

/-- The substitution of AES. -/
def sbox (a : Byte) : Byte :=
  let b := aesInv a
  b ^^^ b.rotateLeft 1 ^^^ b.rotateLeft 2 ^^^ b.rotateLeft 3 ^^^ b.rotateLeft 4 ^^^ 0x63

def xorBytes (a b : List Byte) : List Byte := (a.zip b).map (fun x => x.1 ^^^ x.2)

/-- The words of the AES-256 key schedule, newest first, until 60 stand: word i is built on words i - 1 and i - 8. -/
def aesSchedule : Nat → Byte → List (List Byte) → List (List Byte)
  | 0, _, ws => ws
  | n + 1, rc, ws =>
    let i := ws.length
    let last := ws.headD []
    let back := (ws[7]?).getD []
    let t :=
      if i % 8 = 0 then
        let r := (last.drop 1 ++ last.take 1).map sbox
        xorBytes r [rc, 0, 0, 0]
      else if i % 8 = 4 then last.map sbox
      else last
    aesSchedule n (if i % 8 = 0 then xtime rc else rc) (xorBytes back t :: ws)

/-- The 15 round keys of a 32-byte key. -/
def aesKeys (key : List Byte) : List (List Byte) :=
  let first := (List.range 8).map (fun i => (key.drop (4 * i)).take 4)
  let ws := (aesSchedule 52 1 first.reverse).reverse
  (List.range 15).map (fun r => ((ws.drop (4 * r)).take 4).flatten)

/-- ShiftRows on a block of 16 bytes in column order. -/
def shiftRows (b : List Byte) : List Byte :=
  (List.range 16).map (fun i => (b[(i / 4 * 4 + i % 4 * 5) % 16]?).getD 0)

/-- MixColumns on one column. -/
def mixColumn (col : List Byte) : List Byte :=
  let at_ (i : Nat) : Byte := (col[i % 4]?).getD 0
  (List.range 4).map (fun i => xtime (at_ i) ^^^ xtime (at_ (i + 1)) ^^^ at_ (i + 1) ^^^ at_ (i + 2) ^^^ at_ (i + 3))

def mixColumns (b : List Byte) : List Byte := (List.range 4).flatMap (fun i => mixColumn ((b.drop (4 * i)).take 4))

/-- The rounds of AES after the first key: the last one mixes no columns. -/
def aesRounds : List (List Byte) → List Byte → List Byte
  | [], b => b
  | k :: ks, b =>
    let b := shiftRows (b.map sbox)
    aesRounds ks (xorBytes (if ks.isEmpty then b else mixColumns b) k)

/-- Encipher one block of 16 bytes under a 32-byte key. -/
def aesBlock (key block : List Byte) : List Byte :=
  match aesKeys key with
  | [] => block
  | k :: ks => aesRounds ks (xorBytes block k)

/-! ### Galois/Counter Mode (R221, R491) -/

/-- A number of n bytes, most significant first. -/
def beBytes (n v : Nat) : List Byte := (List.range n).map (fun i => BitVec.ofNat 8 (v / 256 ^ (n - 1 - i)))

/-- The number that bytes spell, most significant first. -/
def ofBe (bs : List Byte) : Nat := bs.foldl (fun v b => 256 * v + b.toNat) 0

/-- A number of n bytes, least significant first (R11). -/
def leBytes (n v : Nat) : List Byte := (beBytes n v).reverse

/-- Multiply in the field of GHASH: bit 0 of a block is the most significant bit of its first byte. -/
def ghMul : Nat → BitVec 128 → BitVec 128 → BitVec 128 → BitVec 128
  | 0, _, _, z => z
  | n + 1, x, v, z =>
    ghMul n (x <<< 1) ((v >>> 1) ^^^ (if v.getLsbD 0 then BitVec.ofNat 128 (0xE1 * 2 ^ 120) else 0)) (if x.msb then z ^^^ v else z)

/-- GHASH over blocks under a hash key. -/
def ghash (h : BitVec 128) (l : List (BitVec 128)) : BitVec 128 := l.foldl (fun y x => ghMul 128 (y ^^^ x) h 0) 0

/-- Bytes as blocks of 16, the last one filled with zeros. -/
def gcmBlocks (bs : List Byte) : List (BitVec 128) :=
  (List.range ((bs.length + 15) / 16)).map (fun i =>
    let b := (bs.drop (16 * i)).take 16
    BitVec.ofNat 128 (ofBe (b ++ List.replicate (16 - b.length) 0)))

/-- Block i of the key stream of a 12-byte nonce; block 1 serves the tag. -/
def gcmStream (key nonce : List Byte) (i : Nat) : List Byte := aesBlock key (nonce ++ beBytes 4 i)

/-- Encipher or decipher a payload under AES-256-GCM. -/
def gcmCrypt (key nonce bs : List Byte) : List Byte :=
  xorBytes bs ((List.range ((bs.length + 15) / 16)).flatMap (fun i => gcmStream key nonce (i + 2)))

/-- The 16-byte tag of AES-256-GCM over authenticated bytes and the enciphered payload. -/
def gcmTag (key nonce aad cipher : List Byte) : List Byte :=
  let h := BitVec.ofNat 128 (ofBe (aesBlock key (List.replicate 16 0)))
  let lens := BitVec.ofNat 128 (8 * aad.length * 2 ^ 64 + 8 * cipher.length)
  xorBytes (beBytes 16 (ghash h (gcmBlocks aad ++ gcmBlocks cipher ++ [lens])).toNat) (gcmStream key nonce 1)

/-! ### SHA-384 (R488, R497) -/

/-- The largest r with r ^ k at most v, among numbers of n bits more than r. -/
def rootBits (k v : Nat) : Nat → Nat → Nat
  | 0, r => r
  | n + 1, r => rootBits k v n (if (r + 2 ^ n) ^ k ≤ v then r + 2 ^ n else r)

/-- A number has no divisor from d on, up to n of them. -/
def noDivisor (v : Nat) : Nat → Nat → Bool
  | 0, _ => true
  | n + 1, d => (decide (v < d * d)) || (decide (v % d ≠ 0) && noDivisor v n (d + 1))

/-- The primes below 410, of which the hash takes the first 80. -/
def primes : List Nat := (List.range 410).filter (fun v => decide (2 ≤ v) && noDivisor v 20 2)

/-- The round constants: the first 64 fractional bits of the cube roots of the primes. -/
def shaK : List (BitVec 64) := (primes.take 80).map (fun p => BitVec.ofNat 64 (rootBits 3 (p * 2 ^ 192) 68 0))

/-- The initial value of SHA-384: the first 64 fractional bits of the square roots of the ninth to the sixteenth prime. -/
def sha384Init : List (BitVec 64) := ((primes.drop 8).take 8).map (fun p => BitVec.ofNat 64 (rootBits 2 (p * 2 ^ 128) 68 0))

/-- The schedule of a block, newest first, n words further. -/
def shaSchedule : Nat → List (BitVec 64) → List (BitVec 64)
  | 0, ws => ws
  | n + 1, ws =>
    let w (i : Nat) : BitVec 64 := (ws[i]?).getD 0
    let s0 := (w 14).rotateRight 1 ^^^ (w 14).rotateRight 8 ^^^ (w 14) >>> 7
    let s1 := (w 1).rotateRight 19 ^^^ (w 1).rotateRight 61 ^^^ (w 1) >>> 6
    shaSchedule n ((w 15 + s0 + w 6 + s1) :: ws)

/-- One round of SHA-384 on its eight words, for a constant and a word of the schedule. -/
def shaRound (h : List (BitVec 64)) (k w : BitVec 64) : List (BitVec 64) :=
  match h with
  | [a, b, c, d, e, f, g, x] =>
    let s1 := e.rotateRight 14 ^^^ e.rotateRight 18 ^^^ e.rotateRight 41
    let ch := (e &&& f) ^^^ (~~~e &&& g)
    let t1 := x + s1 + ch + k + w
    let s0 := a.rotateRight 28 ^^^ a.rotateRight 34 ^^^ a.rotateRight 39
    let maj := (a &&& b) ^^^ (a &&& c) ^^^ (b &&& c)
    [t1 + (s0 + maj), a, b, c, d + t1, e, f, g]
  | l => l

/-- Take one block of 128 bytes. -/
def shaBlock (h : List (BitVec 64)) (block : List Byte) : List (BitVec 64) :=
  let first := (List.range 16).map (fun i => BitVec.ofNat 64 (ofBe ((block.drop (8 * i)).take 8)))
  let ws := (shaSchedule 64 first.reverse).reverse
  let last := (shaK.zip ws).foldl (fun h x => shaRound h x.1 x.2) h
  (h.zip last).map (fun x => x.1 + x.2)

/-- SHA-384 of a message. -/
def sha384 (m : List Byte) : List Byte :=
  let fill := (128 - (m.length + 17) % 128) % 128
  let padded := m ++ 0x80 :: List.replicate fill 0 ++ beBytes 16 (8 * m.length)
  let h := (List.range (padded.length / 128)).foldl (fun h i => shaBlock h ((padded.drop (128 * i)).take 128)) sha384Init
  (h.flatMap (fun w => beBytes 8 w.toNat)).take 48

/-- HMAC-SHA-384 under a key. -/
def hmac384 (key m : List Byte) : List Byte :=
  let k := if 128 < key.length then sha384 key else key
  let k := k ++ List.replicate (128 - k.length) 0
  sha384 (k.map (· ^^^ 0x5C) ++ sha384 (k.map (· ^^^ 0x36) ++ m))

/-- A 256-bit key derived by SP 800-108 in counter mode: one block is enough. The fixed input beside the counter is given (log 145). -/
def derive256 (key input : List Byte) : List Byte := (hmac384 key (beBytes 4 1 ++ input)).take 32

end Sys2Proof.Machine
end

