-- ==== Sys2Proof/Config.lean ====
section
/-! DEFINITION. What an implementation fixes and what the spec leaves open: constants with a value where the spec gives one,
and free values (no body) where it gives none. -/

namespace Sys2Proof.Config

/-- The initial PSN that the DRBG gives to the n-th value drawn (R194): a free value (log 3). -/
opaque drbgPsn : Nat → Pos

/-- A choice that is not architectural, as the n-th value drawn (R115, R175, R280, R285, R314): a free value (log 3). -/
opaque freeNat : Nat → Nat

/-- A word the spec leaves open, as the n-th value drawn: what the answer to an SPDM challenge holds (R494): a free value (log 3). -/
opaque freeWord : Nat → Word

/-- The hash of SRC_FA, DST_FA, TC and SALT, with a port of the hop, that chooses among parallel links of a pinned hop: the usable port of
largest hash is taken (R285, log 151). The hash is a free value (log 3). -/
opaque pinHash : Nat → Nat → Nat → Nat → Nat → Nat

/-- The device-unique key: fuses set at manufacture that only the SEC engines read (R490): a free value (log 145). -/
opaque duk : List Byte

/-- The nonce under which the owner key is sealed in flash, which the spec does not give (R490): a free value (log 145). -/
opaque sealNonce : List Byte

/-- The digest of the boot ROM, measurement 1, and the identity certificate kept in flash: the manufacturer's, constants of a part (R494):
free values (log 52). -/
opaque romDigest : List Byte
opaque certificate : List Word

/-- The fixed input of an SP 800-108 derivation, its label, context and length: R221, R491 and R497 name the key and what the context
holds, and give neither a label nor an encoding. First argument: 0 to unwrap a key, 1 for the payloads of a peer state, 2 for the audit
log, 3 for the identity key, 4 for the wrap key, 5 to seal the owner key, 6 for the key that ECDH gives. A free value (log 145). -/
opaque kdfInput : Nat → List Nat → List Byte

/-- Word i of the integrity tag of R465, under the fabric management key, of a command packet to an endpoint with the words given. The key is
not in the model: a free value (log 160). -/
opaque commandTag : Nat → List Word → Nat → Word

/-- Lines of a pair still to move at a time, in tenths of a nanosecond, while it migrates: the spec gives a typical duration alone (R523).
A free value, bounded where it is read (log 161). -/
opaque linesLeft : Nat → Nat

/-- Bit i of the test sequence SSPRQ, which the spec names without giving it (R385): a free value (log 3). -/
opaque ssprq : Nat → Bool

/-- Bit errors that the checker of a lane finds between two moments in a signal that its own generator does not send: they are the partner's
and the wire's (R382). A free value, bounded where it is read (log 3). -/
opaque chkErrors : Nat → Nat → Nat → Nat

/-- The full rate of frame starts or dispatches of the unit of a domain, in 100 ns: the spec gives none (R414, log 192). -/
opaque fullRate : Nat → Nat

/-- PCI vendor, device and family of SYS_ID (R553). -/
def sysId : Nat := 0x5401281F6C

/-- One REFCLK cycle in tenths of a nanosecond (R429, R436). -/
def refCycle : Nat := 64

/-- Entries of the context cache (R57). -/
def contextCache : Nat := 32768

/-- Entries of the pending-doorbell buffer (R42). -/
def doorbellBuffer : Nat := 8192

/-- Entries of the peer cache (R190). -/
def peerCache : Nat := 65536

/-- Cells of the pond (R63). -/
def pondCells : Nat := 32768

/-- On-chip entries of a match unit (R115). -/
def matchEntries : Nat := 8192

/-- Entries of the waiter area (R259). -/
def waiterArea : Nat := 2097152

/-- Held-lock records (R265). -/
def heldRecords : Nat := 1048576

end Sys2Proof.Config
end

