-- ==== Sys2Proof/Machine/StCore.lean ====
section
/-! DEFINITION. State of the device as a whole: outputs, register values, time, resets, faults, security, commands, counters
(chapters 17-22). Plain data only. -/

namespace Sys2Proof.Machine

/-- Register values by active-view offset, rising, holding only values that differ from the Reset column. -/
abbrev RegFile := List (Nat × Word)

/-- What the device puts out, oldest first (log 2). -/
inductive Out where
  /-- a packet handed to the switch core by an endpoint or internal source -/
  | packet (p : Packet)
  /-- one packet multicast on a line to some of its routers (R290) -/
  | multicast (dim : Nat) (dests : List Nat) (p : Packet)
  /-- payload bytes at a bus address, with the Relaxed Ordering and No Snoop attributes (R157, R158, R167) -/
  | place (port : Nat) (mid : Nat) (addr : Nat) (bytes : List Byte) (relaxed noSnoop : Bool)
  /-- a record or status at a bus address of a host port, one write, Relaxed Ordering clear, with the No Snoop attribute (R37, R98,
  R167) -/
  | record (port : Nat) (mid : Nat) (addr : Nat) (ws : List Word) (noSnoop : Bool)
  /-- a write with Relaxed Ordering set to a bus address (R531) -/
  | bulk (port : Nat) (mid : Nat) (addr : Nat) (ws : List Word)
  /-- host requests, Relaxed Ordering clear, with the No Snoop attribute (R167) -/
  | hostRead (id : Nat) (port : Nat) (addr : Nat) (len : Nat) (noSnoop : Bool)
  | hostCas (id : Nat) (port : Nat) (addr : Nat) (compare : Nat) (swap : Nat) (width : Nat) (noSnoop : Bool)
  | hostFetchAdd (id : Nat) (port : Nat) (addr : Nat) (operand : Nat) (noSnoop : Bool)
  | msix (port : Nat) (fn : Nat) (vector : Nat) (addr : Nat) (data : Nat)
  /-- answer to a host request: data, or Unsupported Request -/
  | hostReply (port : Nat) (value : Option (List Byte))
  /-- answer to an MCTP message: KIND, SEQ and the status words (R462) -/
  | mctp (kind : Nat) (seq : Nat) (ws : List Word)
  /-- a VC7 command or status packet (R465) -/
  | command (dst : Nat) (ws : List Word)
  /-- a configuration request of a host port answered with Request Retry Status (R448) -/
  | configRetry (port : Nat)
  /-- a telemetry or congestion vector packet: MTYPE, destination or port, words (R288, R536) -/
  | vc7 (mtype : Nat) (dst : Nat) (ws : List Word)
  /-- a DATA frame on a port: its VC, SEQ and packet, whether it ends with the stomp marker, and its bytes (R307, R337) -/
  | frame (port : Nat) (vc : Nat) (seq : Nat) (p : SwPkt) (stomp : Bool) (bytes : List Byte)
  /-- link control: INIT, INIT_ACK, REPLAY_REQ, ACK frames and marker blocks, by kind with their words -/
  | link (port : Nat) (kind : Nat) (ws : List Word)
  /-- an Ethernet frame on a service port -/
  | ether (port : Nat) (prio : Nat) (bytes : List Byte)
  /-- a PFC frame: quanta per priority (R363) -/
  | pfc (port : Nat) (quanta : List (Nat × Nat))
  /-- a packet delivered by the switch to an endpoint or the management logic (R284) -/
  | deliver (sink : Output) (p : SwPkt)
  /-- a codeword on a lane: its PAM4 levels, first sent first (R366, R367) -/
  | codeword (lane : Nat) (levels : List Int)
  /-- a training frame on a lane: its 8,192 bits, and the taps PRE2, PRE1, MAIN and POST1 of the preset it is sent at (R370) -/
  | train (lane : Nat) (bits : List Bool) (taps : List Int)
  /-- from now on the generator of a lane in TEST sends what LNS_TEST and LNS_TEST_USER select (R382) -/
  | pattern (lane : Nat) (test user : Nat)
  /-- from now on a port under test sends frames of PRBS31 payload on its lanes (R521) -/
  | testFrames (port : Nat)
  /-- from now on a lane in TEST sends the data that it receives: loopback 0x3 (R382) -/
  | looped (lane : Nat)
  /-- one generated bit is inverted on a lane (R382) -/
  | inverted (lane : Nat)
  /-- transmitters stopped (R433, R440, R499) -/
  | silence
  | spdm (chan : Nat) (kind : Nat) (ws : List Word)
  deriving DecidableEq, Repr

/-- A memory request that waits for its host port (R409, R495), and the keyring entries into whose regions it writes (R143). -/
structure HeldOut where
  out : Out
  regions : List Nat
  deriving DecidableEq, Repr

/-- A clock monitor (R431, CLK_MON.STATE). -/
structure Monitor where
  src : Nat
  state : Nat          -- 0 not running, 1 judging, 2 good, 3 failed
  ppm : Int
  since : Nat          -- when it came into this state: its windows run from then on
  deriving DecidableEq, Repr

/-- Time and clocks (R430-R439). -/
structure Clk where
  now : Nat            -- tenths of a nanosecond since power-on; every timer counts in it
  dtime : Nat          -- DTIME, in units of 2^-16 ns
  slew : Int           -- in ppm
  refOk : Bool
  refAt : Nat          -- when REFCLK was last judged present (R433)
  refWait : Bool       -- REFCLK was lost while the device ran and has not been back for 1 ms (R433)
  monitors : List Monitor
  tState : Nat         -- time state (CLK_TIME_STATUS.STATE)
  stratum : Nat
  delay : Int
  offset : Int
  exchAt : Nat         -- when the last exchange period began
  seq : Nat            -- SEQ of the last DELAY_REQ
  reqAt : Nat          -- its T_A
  waiting : Bool       -- an answer is due
  runLength : Nat      -- consecutive answers of the kind counted in R439
  missed : Nat         -- periods without an answer
  outAt : Nat          -- until when CLKOUT stays low after a change of its setting (R435)
  deriving DecidableEq, Repr

/-- The stages of SYS_STATUS.STAGE (R449). -/
inductive Stage where
  | rom | clocks | fwLoad | counter | memory | run | warmQuiesce | warmRestore | error
  deriving DecidableEq, Repr

def Stage.code : Stage → Nat
  | .rom => 0 | .clocks => 1 | .fwLoad => 2 | .counter => 3 | .memory => 4 | .run => 5
  | .warmQuiesce => 6 | .warmRestore => 7 | .error => 0xF

/-- Deadbolt causes (R423, R499). -/
inductive Deadbolt where
  | none | thermal | tamper
  deriving DecidableEq, Repr

/-- Resets and boot (R440-R448). -/
structure Sys where
  stage : Stage
  error : Nat
  halt : Bool
  bootCount : Nat
  resetCause : Nat
  warmCount : Nat
  flashCount : Nat          -- boot counter in flash (R446)
  deadbolt : Deadbolt
  pwrOk : Bool
  pwrAt : Nat               -- when PWR_OK last rose (R571)
  resetN : Bool
  bootSel : Nat
  faultNForced : Bool       -- FAULT_N held low under R448 or R499
  railFault : Bool
  slots : List ImageInfo    -- flash slots 0 and 1
  running : Nat             -- RUNNING_SLOT
  runVersion : Nat
  runHeader : List Byte     -- header of the running image (R494)
  nextSlot : Nat
  hbmImage : Option ImageInfo -- image copied to HBM by CMD_FW_ACTIVATE with NOW
  portsBefore : List Nat    -- ports UP before the warm reset (R445)
  acqAt : Nat               -- when lane acquisition began
  mctpImage : Nat           -- next SEQ of a KIND 0x03 transfer
  mctpBytes : List Byte     -- what has come in it (R488)
  boot : Option (Nat × Boot) -- the slot tried first, and what a boot that is held or waits for its image over MCTP will find (R442, R447)
  silenced : Bool           -- every fabric and host transmitter stopped
  quiesced : Bool           -- a warm reset has quiesced, and the HBM is in self-refresh (R443)
  deriving DecidableEq, Repr

/-- An audit record (R497): its four words. -/
structure AuditRec where
  event : Nat
  mid : Nat
  seq : Nat
  detail : Word
  time : Nat
  chain : Word              -- word 3
  deriving DecidableEq, Repr

/-- Keys, audit log, debug, SPDM (R490-R504). -/
structure Sec where
  ownerKey : Bool
  fabricKey : Bool
  partKeys : List Nat
  keyBits : List (Nat × List Byte)   -- the keys held: of partitions by number, the sealed owner key, the fabric key (R490)
  unread : List AuditRec    -- oldest first, at most 4,096
  lost : Nat
  nextSeq : Nat
  lastMac : Word            -- word 3 of the record written last (R497)
  lossNoted : Bool          -- a loss happened since the last record written
  debugUnlocked : Bool
  fails : Nat               -- SEC_STATUS.UNLOCK_FAILS: refusals in a row
  unlockShut : Bool         -- eight refusals in a row were reached: every attempt is refused until cold reset (R500)
  sessions : List Nat       -- SPDM channels with a secured session: host port, or 0xFF for MCTP
  svn : Nat
  revoke : Nat
  rootHash : List (List Byte)   -- fuses ROOT_HASH[0-3] (R488)
  tamperCount : Nat
  secureBoot : Bool
  uid : Nat
  bootSelCold : Nat
  deriving DecidableEq, Repr

/-- A gate rule (R479). -/
structure GateRule where
  gate : Nat
  rule : Nat
  w0 : Word
  base : Nat
  limit : Nat
  deriving DecidableEq, Repr

/-- An engine (R518): code as in CMD_ENGINE_RETIRE, MGCn as 0x68 + n. Engines not listed are active. -/
structure Engine where
  code : Nat
  retired : Bool
  deriving DecidableEq, Repr

/-- Device memory service (R522-R525). -/
structure Mem where
  retiredPairs : List Nat
  migrating : Option (Nat × Bool)      -- channel being retired, automatically?
  remaining : Nat          -- lines of the pair at the start of its migration, the most that REMAINING can show (R523)
  testing : Option Nat
  lostCells : List (Nat × Nat)         -- slice, cell lost to a failing SRAM row
  deriving DecidableEq, Repr

/-- Where a command came from (R454). -/
inductive Channel where
  | ring (pos : Pos)
  | mctp (seq : Nat)
  | packet (src : Nat) (seq : Nat)
  deriving DecidableEq, Repr

/-- A command begun and not completed (R453), with what it waits for. -/
structure Begun where
  chan : Channel
  opcode : Nat
  tag : Nat
  mid : Nat
  obj : Nat × Nat × Nat    -- kind, first and last number of the object it names (R454)
  deriving DecidableEq, Repr

/-- A command that takes longer than the step that began it: CMD_SHADOW_LOAD, CMD_HINGE, CMD_PORT_TEST, CMD_FW_STAGE (R470-R473, R521).
A reset can cut it (R472). -/
structure Working where
  begun : Begun
  env : CmdEnv
  args : CmdArgs
  start : Nat              -- when it began
  prior : Nat              -- SHADOW_STATE then
  committed : Option (Nat × Nat)   -- a hinge past its commit point: the new generation, and DTIME of the commit
  deriving DecidableEq, Repr

/-- A REMOTE command sent and not answered (R464). -/
structure RemoteCmd where
  seq : Nat
  pos : Pos                -- its ring position
  deadline : Nat
  opcode : Nat
  tag : Nat
  mid : Nat
  target : Nat             -- TARGET_COORD
  obj : Nat × Nat × Nat    -- the object it names there (R454)
  deriving DecidableEq, Repr

/-- A command that reached the management firmware over MCTP or in a command packet and must wait to begin (R454, R462, R465, log 63). -/
structure OutsideCmd where
  chan : Channel
  op : Nat
  env : CmdEnv
  args : CmdArgs
  deriving DecidableEq, Repr

/-- A CMD_GATE_WRITE that waits until no access checked against the former rule remains unissued: the jobs and the operations at the
target that had such accesses on a host port (R486). -/
structure GateWait where
  cmd : Begun
  port : Nat
  jobs : List Nat
  ops : List (PeerKey × Pos)
  resends : List (PeerKey × Pos)
  detail : Nat             -- DETAIL of its audit event (R497)
  deriving DecidableEq, Repr

/-- The command interpreter and configuration sets (R451-R475). -/
structure Cmd where
  next : Pos               -- next ring position to begin
  doneAhead : List Pos     -- positions completed above CMD_CI
  begun : List Begun
  remote : List RemoteCmd
  outside : List OutsideCmd    -- in the order in which they came (R454)
  gateWaits : List GateWait
  working : List Working
  nextSeq : Nat
  shadow : Nat             -- SHADOW_STATE
  bank : Bool              -- ACTIVE_BANK
  gen : Nat                -- CMD_ACTIVE_GEN
  under : Bool             -- a step works under the former set for what was looked up under it (R28, R471); clear between steps
  deriving DecidableEq, Repr

/-- An event counter (R527, R528), by index (R529). Counters not listed are 0 with OVF clear. -/
structure Counter where
  index : Nat
  count : Nat
  ovf : Bool
  deriving DecidableEq, Repr

/-- The dump engine and engine samples (R530-R535). -/
structure Dump where
  lastT : Nat              -- last multiple taken, in ns of DTIME
  nextSeq : Nat
  skipped : Nat
  skippedSince : Nat       -- snapshots skipped that no record has carried
  carried : Nat            -- those that the record being written carries
  writing : Option (Nat × Nat)     -- host port and slot address of the record being written (R531)
  pendingCap : List (Nat × Nat)    -- engine code, DTIME of the crossing
  sPi : Pos
  sCi : Pos
  vecArmed : Bool
  deriving DecidableEq, Repr

end Sys2Proof.Machine
end

