-- ==== Sys2Proof/Machine/StEndpoint.lean ====
section
/-! DEFINITION. State of the endpoint side: queues and their contexts, jobs, regions, address spaces, translation caches,
walks, peer states, target operations, host ports. Plain data only (chapters 02, 03, 05, 06, 07, 15). -/

namespace Sys2Proof.Machine

/-- Queue kinds of R31 other than the admin queue. -/
inductive QKind where
  | eq | sq | srq | cq
  deriving DecidableEq, Repr

/-- Queue states of R73; a queue that is UNUSED is not listed. -/
inductive QState where
  | active | stopped | error | draining
  deriving DecidableEq, Repr

/-- Residency of a queue context (R57, QMG_QSTAT.RESIDENCY). -/
inductive Residency where
  | evicted | resident | evicting | fetching
  deriving DecidableEq, Repr

/-- Attributes held in the context (R32), fixed or changed by CMD_QUEUE_MODIFY. -/
structure QAttr where
  mid : Nat
  ep : Nat
  asid : Nat
  pkey : Nat
  group : Nat
  base : Nat
  k : Nat
  chain : Bool
  cq : Nat
  eq : Nat
  weight : Nat
  burst : Nat
  tc : Tc
  pin : Bool
  vector : Nat
  home : Nat
  deriving DecidableEq, Repr

/-- A ring entry taken by prefetch and not yet accepted (R47, R49): its position and its eight words; no words mark the position of
a failed read (R399). -/
structure Entry where
  pos : Pos
  ws : List Word
  deriving DecidableEq, Repr

/-- A ring read outstanding (R47): its host request, first position, number of entries, and what came for it ahead of an older
read. -/
structure RingRead where
  id : Nat                 -- its host request
  pos : Pos
  n : Nat
  result : Option HostResult
  dead : Bool              -- discarded: it is outstanding still, and brings nothing (R47)
  deriving DecidableEq, Repr

/-- Prefetch of an SQ or SRQ (R46-R48). -/
structure Fetch where
  known : Pos              -- known producer position (R39)
  pos : Pos                -- fetch position
  running : Bool
  misses : Nat
  reads : List RingRead    -- at most two outstanding, oldest first; those that are discarded stand first
  single : Bool            -- one read at a time until a read returns written entries alone
  waitGap : Bool           -- waiting for REFETCH_GAP
  held : Option Pos        -- waiting at a position under R181
  taken : List Entry
  deriving DecidableEq, Repr

/-- An event record (R95) before its slot and PHASE are known. -/
structure Event where
  kind : Nat
  qid : Nat
  subject : Nat            -- the port, peer FA, ASID or fault kind by which the hold-off knows it (R161)
  data0 : Word
  data1 : Word
  time : Nat
  deriving DecidableEq, Repr

/-- An event and where it goes (R96): the EQ bound to its queue, or 0 for the asynchronous EQ of an endpoint. -/
structure BoundEvent where
  eq : Nat
  ep : Nat
  event : Event
  deriving DecidableEq, Repr

/-- A completion record (R87) before its slot and PHASE are known. -/
structure CqRec where
  wrId : Nat
  data : Word
  imm : Option (BitVec 32)
  bytes : Nat
  solicited : Bool
  batch : Bool
  status : Nat
  opcode : Nat
  peerFa : Nat
  qid : Nat
  ciLo : Option Nat        -- given for a malformed entry (R71), else the consumer position when written
  after : List BoundEvent  -- the events that are written behind it (R71, R99, R399)
  deriving DecidableEq, Repr

/-- The CQ and EQ side of a queue. -/
structure Sink where
  pi : Pos                       -- producer position of a CQ (an EQ's is QMG_EQ_PI)
  ci : Pos                       -- consumer position of a CQ
  reserved : Nat                 -- reserved slots (R53)
  refusal : Option Nat           -- start of the refusal period (R69)
  armed : Option (Bool × Pos)    -- ARM_SOLICITED?, armed position (R97)
  recWait : List CqRec           -- records waiting for translation (R181) or a halt (R72)
  slotWait : List CqRec          -- records of malformed entries waiting for a slot (R71)
  recHeld : Bool                 -- a record write faulted and waits for CMD_XLT_INVAL
  solicitedAt : List Pos         -- positions of solicited records written and not consumed (R97)
  evWait : List Event            -- EQ: events waiting for a walk or for START, in order
  lost : Nat                     -- EQ: events lost since OVERFLOW was set (R44)
  vecReady : Bool                -- EQ: the next record sends the MSI-X message (R394)
  deriving DecidableEq, Repr

/-- What the context store holds of a queue (R57-R61): a cached context that differs from it is dirty. -/
structure QImage where
  attr : QAttr
  state : QState
  ci : Pos
  sinkPi : Pos
  sinkCi : Pos
  deriving DecidableEq, Repr

/-- A queue (R31-R33, R73). `ci` is the consumer position of an SQ or SRQ. -/
structure Queue where
  qid : Nat
  kind : QKind
  attr : QAttr
  state : QState
  ci : Pos
  fetch : Fetch
  sink : Sink
  resid : Residency
  lastUse : Nat
  due : Bool                     -- evicted when its entry of the wheel fell due: its fetch is wanted (R323)
  drainEvt : Bool                -- a QUEUE_DRAINED event is due (R583)
  saved : QImage                 -- its context as last written to the store
  te : Nat                       -- eligible time of a shaped SQ, in ns of DTIME (R324)
  reset : Bool                   -- moved to ERROR by a function reset: no records (R73, R400)
  deriving DecidableEq, Repr

/-- Data of a PUT or a message that is delivered and translated, and whose writes wait for earlier ones (R157, R158). -/
structure HeldPut where
  off : Nat
  segs : List Seg
  data : List Byte
  deriving DecidableEq, Repr

/-- What a job is doing. -/
inductive JobPhase where
  | accepted        -- waiting to start (R584)
  | xlate           -- local translations
  | readFtab        -- fragment table being read (R83)
  | readData        -- payload being read
  | sent            -- packets handed to transport
  | waiting         -- waiting for a receive, a match, a lock or a collective
  | ended
  deriving DecidableEq, Repr

/-- An accepted job (R54, R55), with the operation record of R215. -/
structure Job where
  jid : Nat
  qid : Nat
  mid : Nat
  ep : Nat
  asid : Nat
  pkey : Nat
  group : Nat
  tc : Tc
  ws : List Word           -- W0-W7 of the FIRST entry
  frags : List Frag        -- local fragments of a chain or table
  firstPos : Pos
  phase : JobPhase
  status : Nat             -- completion status once ended (R94)
  data : Word              -- DATA of the record
  bytes : Nat              -- BYTE_COUNT
  imm : Option (BitVec 32)
  solicited : Bool
  peerFa : Nat
  recOp : Nat              -- OPCODE of the record
  buf : List Byte          -- fragment table or payload read so far, or an atomic's fetched value
  todo : List Seg          -- pieces still to read
  xp : XProg               -- local translation
  rts : Bool               -- a TSEND that travels as an RTS, chosen when it was looked up (R116, R471)
  late : List HeldPut      -- of a receive: writes that wait for earlier ones (R157, R158)
  cqe : Bool               -- CQE of its LAST entry
  checked : Bool           -- the local checks of R147 passed
  psnFirst : Option Pos
  psnLast : Option Pos
  fence : Option Pos       -- reverse PSN to be delivered before OK (R208)
  acked : Bool             -- the LAST packet is covered
  logBytes : Nat           -- operation log use (R215)
  engine : Nat
  gen : Nat                -- configuration generation it was looked up under (R471)
  due : Option Nat         -- of a RECV_IMM that has not started: the status with which it ends once it has (R152, R584)
  deriving DecidableEq, Repr

/-- Keyring entry states of R138. -/
inductive KeyState where
  | free | valid | draining
  deriving DecidableEq, Repr

/-- A keyring entry (R137, R138). Entries not listed are FREE with variant 0 and have never been used. -/
structure Region where
  index : Nat
  variant : Nat
  state : KeyState
  ep : Nat
  mid : Nat
  pkey : Nat
  group : Nat
  asid : Nat
  base : Nat
  length : Nat
  localWrite : Bool
  rRead : Bool
  rWrite : Bool
  rAtomic : Bool
  scopeGroup : Bool
  pin : Bool
  deregAt : Nat            -- when DRAINING began
  deriving DecidableEq, Repr

/-- A partition (R134). -/
structure Partition where
  pkey : Nat
  protect : Bool
  weight : Nat
  deriving DecidableEq, Repr

/-- An address space (R164). -/
structure Asid where
  asid : Nat
  mid : Nat
  host : Nat
  levels : Nat
  root : Nat
  adMode : Nat
  pkey : Nat
  group : Nat
  deriving DecidableEq, Repr

/-- Where a cached translation sits (R175). -/
inductive TlbPlace where
  | second (host : Nat) | fetch (unit : Nat) | data (unit : Nat)
  deriving DecidableEq, Repr

/-- A cached leaf translation (R173, R175). -/
structure TlbEntry where
  place : TlbPlace
  asid : Nat
  va : Nat
  size : Nat               -- bytes: 4 KiB, 2 MiB or 1 GiB
  bus : Nat
  type : Nat
  write : Bool
  dirty : Bool
  entryAddr : Nat
  entry : Word
  level : Nat
  deriving DecidableEq, Repr

/-- A cached non-leaf entry (R175, R176). -/
structure WcEntry where
  host : Nat
  asid : Nat
  level : Nat
  vaHigh : Nat             -- VA bits above the entry's level
  table : Nat
  deriving DecidableEq, Repr

/-- Who waits for a translation. -/
inductive Waiter where
  | ring (qid : Nat) (pos : Pos)   -- a ring read at a position
  | job (jid : Nat)
  | cqRec (qid : Nat)
  | evRec (qid : Nat)
  | target (peer : PeerKey) (psn : Pos)
  | resend (peer : PeerKey) (psn : Pos)
  | pin (tok : Nat)
  deriving DecidableEq, Repr

/-- A walk in progress or waiting for MAX_WALKS (R169, R171, R172). -/
structure Walk where
  id : Nat
  host : Nat
  asid : Nat
  va : Nat
  write : Bool
  unit : Nat
  fetch : Bool
  level : Nat
  table : Nat
  active : Bool            -- counted against MAX_WALKS
  cas : Option (Word × Nat)   -- A/D update: entry compared, attempts made
  casAddr : Nat
  stale : Bool             -- covered by an invalidation: start again (R184)
  waiters : List Waiter
  readers : List Waiter    -- accesses that only read and share a walk for a write (R171)
  seen : List WcEntry      -- non-leaf entries read, cached when the walk ends in a mapping (R175, R178)
  cached : Bool            -- no walk, but the D update of a cached translation (R173)
  gen : Nat                -- configuration generation in which it began (R188)
  deriving DecidableEq, Repr

/-- The scope of an invalidation (R182). -/
structure InvalScope where
  kind : Nat               -- 0 RANGE, 1 ASID, 2 GLOBAL
  asid : Nat
  base : Nat
  pages : Nat
  wc : Bool
  deriving DecidableEq, Repr

/-- An invalidation in progress or waiting (R183, R185), with the channel of the command that asked for it. -/
structure Inval where
  id : Nat
  chan : Channel
  scope : InvalScope
  started : Bool
  waited : Bool            -- it was one of those that had to wait, and completes in order
  applied : Bool           -- the units were awake, and the entries are gone
  acked : Bool             -- all units have acknowledged it
  deriving DecidableEq, Repr

/-- What an outstanding host request is for (R399). -/
inductive ReqFor where
  | ring (qid : Nat) (pos : Pos) (n : Nat)
  | ftab (jid : Nat)
  | payload (jid : Nat)
  | atomicBlock (jid : Nat)
  | target (peer : PeerKey) (psn : Pos)
  | atomicRead (peer : PeerKey) (psn : Pos)
  | walk (wid : Nat)
  | adCas (wid : Nat)
  | atomicOp (peer : PeerKey) (psn : Pos) (old : Nat) (n : Nat)
  | rendezvous (jid : Nat)
  | resend (peer : PeerKey) (psn : Pos)
  | admin (pos : Pos)
  deriving DecidableEq, Repr

/-- A non-posted request of a host port, outstanding or waiting for a tag (R387, R581). -/
structure HostReq where
  id : Nat
  port : Nat
  mid : Nat
  addr : Nat
  len : Nat
  use : ReqFor
  held : List Out          -- its parts that wait because as many requests are outstanding as may be (R386, R387)
  live : Nat               -- parts that have been issued
  at_ : Nat                -- when the first of them was (R581)
  deriving DecidableEq, Repr

/-- Send-half states of R192. -/
inductive SendState where
  | closed | opening | opened
  deriving DecidableEq, Repr

/-- Which operation a packet belongs to. -/
inductive OpRef where
  | job (jid : Nat)
  | response (reqPsn : Pos)      -- GET_RESP, ATOMIC_RESP, FIN, STATUS of a request of the peer
  | lock (lockNo : Nat)          -- LOCK_RESP and lock releases of R265
  | chorus (group : Nat)
  | withdraw
  | rndv (rts : Pos)             -- a remote read of a rendezvous, or its FIN (R120)
  deriving DecidableEq, Repr

/-- Where the payload of a packet was read from, so that a retransmission can read it again (R215, R216): the accessor, the keyring entry of
a GET's region, the virtual ranges, and how many bytes of the payload stand before those read. -/
structure DataSource where
  asid : Nat
  mid : Nat
  pkey : Nat
  port : Nat
  unit : Nat
  region : Option Nat
  exts : List (Nat × Nat)
  keep : Nat
  deriving DecidableEq, Repr

/-- The retransmission of a packet that is due: its payload is read again first, and it goes out when its turn comes (R211, R215, R325). -/
inductive Again where
  | no
  | translating (xp : XProg)
  | reading (left : List Seg) (data : List Byte)
  | ready (data : List Byte)
  deriving DecidableEq, Repr

/-- A packet in flight or waiting to be sent (R200, R211-R214). -/
structure OutPkt where
  pkt : Packet
  epoch : Nat                    -- epoch of its PSN (R200, R221)
  op : OpRef
  sentAt : Nat
  sent : Bool
  retried : Bool
  holdUntil : Option Nat         -- not-now backoff (R214)
  refusedAt : Option Nat         -- start of the refusal period
  backoff : Nat                  -- last backoff in ns, 0 for none
  src : Option DataSource            -- none for a payload that the operation record holds
  again : Again
  deriving DecidableEq, Repr

/-- The send half of a peer state (R190). Times in tenths of a nanosecond. -/
structure SendHalf where
  state : SendState
  openNum : Nat
  nextPsn : Pos
  initPsn : Pos
  epoch : Nat
  srtt : Option Nat
  rttvar : Nat
  timeouts : Nat                 -- consecutive
  timerAt : Option Nat           -- when the retransmit timer started
  openedAt : Nat                 -- when OPENING began
  openBackoff : Nat
  openHold : Bool                -- waiting for the backoff of an OPEN_NAK
  noRoute : Option Nat           -- since when no route exists (R295)
  out : List OutPkt              -- unacknowledged, PSN order
  queue : List OutPkt            -- numbered and not yet sent
  haltHead : Option Pos          -- after a REFUSE (R219): PSNs from initPsn on belong to the flow to be reopened
  deriving DecidableEq, Repr

/-- The open operation of a receive half (R190, R202). -/
structure OpenOp where
  first : Pos
  last : Pos
  status : Nat
  deriving DecidableEq, Repr

/-- A held packet (R202), with the configuration generation of its first lookup (R28) and the stored packet whose cells it holds, when
it came through a slice (R304). -/
structure HeldPkt where
  pkt : Packet
  gen : Nat
  pid : Option Nat
  deriving DecidableEq, Repr

/-- The receive half of a peer state (R190). -/
structure RecvHalf where
  remoteOpen : Nat
  head : Pos
  map : BitVec 256
  op : Option OpenOp
  epoch : Nat
  unacked : Nat                  -- deliveries since the last ACK
  unackedAt : Option Nat
  ceCount : Nat
  gapAt : Option Nat             -- since when HEAD + 1 is missing
  nacked : Option Pos            -- HEAD value for which a NACK was sent
  held : List HeldPkt
  refused : Option (Pos × Pos)   -- first and last PSN of the eager message whose first packet found no room (R128)
  behind : Bool                  -- a PUT or SEND waits for the start of an earlier GET or ATOMIC (R156)
  deriving DecidableEq, Repr

/-- A protection key in use for a partition in one direction: the context it was derived under (R190, R221). -/
structure PeerKeyUse where
  pkey : Nat
  sending : Bool
  context : List Nat
  deriving DecidableEq, Repr

/-- A peer state (R189). -/
structure Peer where
  key : PeerKey
  remoteInc : Option Nat
  toldRestart : Bool             -- PEER_RESTARTED written for a change whose incarnation is not recorded yet (R160)
  path : Option Nat              -- pinned path (R27)
  send : Option SendHalf
  recv : Option RecvHalf
  resident : Residency
  lastUse : Nat
  due : Bool                     -- evicted when its entry of the wheel fell due: its fetch is wanted (R323)
  closing : Option Nat           -- when the CLOSE_REQ was sent that is outstanding (R191)
  rate : Nat                     -- peer rate of R327, in Mb/s
  lastDec : Option Nat
  lastMark : Option Nat
  eligible : Nat                 -- tp of R324
  keys : List PeerKeyUse         -- protection keys in use
  deriving DecidableEq, Repr

/-- An operation of a peer in progress at the target (R147, R149-R153). -/
structure TargetOp where
  peer : PeerKey
  psn : Pos
  last : Pos
  ptype : Nat
  status : Nat
  region : Option Nat            -- keyring index it references (R143)
  mid : Nat
  asid : Nat
  addr : Nat
  len : Nat
  placed : Nat
  recv : Option Nat              -- the job of the SRQ entry it consumed or reserved
  imm : Option (BitVec 32)
  subop : Nat
  width : Nat
  operand : Nat
  compare : Nat
  issued : Bool                  -- host request of a GET or ATOMIC issued
  tries : Nat                    -- compare-and-swaps issued (R153)
  seen : Nat                     -- value last seen
  todo : List Seg                -- pieces still to read
  xp : XProg                     -- translation of the target extent
  bus : Nat                      -- bus address of an atomic
  late : List HeldPut            -- writes that wait for earlier ones, in rising offset
  data : List Byte               -- data read for a GET
  answered : Bool                -- a STATUS has been sent
  pkey : Nat
  group : Nat
  gen : Nat                      -- configuration generation under which it was looked up (R471)
  deriving DecidableEq, Repr

/-- An event suppressed or written lately: EQ, kind, subject, time (R161). -/
structure Holdoff where
  eq : Nat
  kind : Nat
  subject : Nat
  at_ : Nat
  deriving DecidableEq, Repr

/-- A parked packet (R63). -/
structure Parked where
  pkt : Packet
  tagOk : Bool
  vc : Nat
  cells : Nat
  needs : List Nat               -- the queue contexts that it needs (R64)
  gen : Nat                      -- configuration generation of its first lookup (R28)
  deriving DecidableEq, Repr

/-- How a packet reaches an endpoint: as one that consumes a PSN, as a control packet, as a RESULT (R199, R247). -/
inductive ArrivalKind where
  | data | control | result
  deriving DecidableEq, Repr

/-- A packet that waits until sleeping domains are ON (R409). -/
structure Sleeper where
  pkt : Packet
  tagOk : Bool
  vc : Nat
  kind : ArrivalKind
  doms : List Nat                -- the domains that handle it
  gen : Nat                      -- configuration generation of its first lookup (R28)
  deriving DecidableEq, Repr

/-- The doorbells held for a queue that is not resident, merged into one entry: OP and POSITION, in order (R42). -/
structure HeldDb where
  qid : Nat
  words : List (Nat × Pos)
  deriving DecidableEq, Repr

/-- A posted write of a host port, to BAR2 or to BAR0 (R42, R393). -/
inductive PostedWrite where
  | bar2 (fn page offset len : Nat) (value : Word)
  | bar0 (fn off len : Nat) (value : Word)
  deriving DecidableEq, Repr

/-- One function of a host port (R389, R394-R396, R400-R403). -/
structure Func where
  mid : Nat
  msixEnable : Bool
  table : List MsixEntry         -- entries that the host has written (R391)
  msixPending : List Nat
  tableSize : Nat
  atomicEn : Bool                -- AtomicOp Requester Enable
  tags10 : Bool                  -- 10-Bit Tag Requester Enable (R387)
  maxPayload : Nat               -- bytes of a write at most (R386)
  maxRead : Nat                  -- bytes of a read request at most (R386)
  cplTmo : Nat                   -- Completion Timeout Value (R581)
  d3hot : Bool
  draining : Option Nat          -- when its drain began
  deriving DecidableEq, Repr

/-- A host port (R386-R405). -/
structure HostPort where
  up : Bool
  rate : Nat
  width : Nat
  reversed : Bool
  ide : Bool
  vfEnable : Bool
  numVfs : Nat
  vfTable : Nat                  -- MSI-X table size of a VF, fixed when VF Enable is set (R395)
  pfTable : Nat                  -- MSI-X table size of the PF since its last reset
  inReset : Bool                 -- PERST_N low
  funcs : List Func
  training : Bool
  retraining : Bool              -- training again from L0, which is no port reset (R405)
  deriving DecidableEq, Repr

/-- Weighted round robin of dispatch (R51): at each level, the members chosen in this round, least recently chosen first, with the
descriptors that each has taken. A partition of an endpoint is 2^16 times the endpoint plus its key. -/
structure Wrr where
  eps : List (Nat × Nat)
  parts : List (Nat × Nat)
  queues : List (Nat × Nat)
  deriving DecidableEq, Repr

/-- A posted receive (R111): its posting sequence, its job, and what it matches (R105). -/
structure Posted where
  seq : Nat
  jid : Nat
  qid : Nat
  wrId : Nat
  src : Fa
  tag : Word
  anySrc : Bool
  anyTag : Bool
  deriving DecidableEq, Repr

/-- A stored unexpected message (R118): its match fields, and its payload or fragment list so far. -/
structure Unexp where
  seq : Nat
  peer : PeerKey
  psn : Pos
  last : Pos
  tag : Word
  rts : Bool
  len : Nat
  imm : Option (BitVec 32)
  solicited : Bool
  pkey : Nat
  group : Nat
  data : List Byte
  whole : Bool
  claimed : Option Nat           -- job of the TRECV that matched it before its last packet came
  deriving DecidableEq, Repr

/-- Match context states of R132 other than UNUSED. -/
inductive CtxState where
  | active | error | draining
  deriving DecidableEq, Repr

/-- A match context (R101, R107, R111). `posted` and `unexp` are in increasing posting sequence. -/
structure MatchCtx where
  num : Nat
  mid : Nat
  ep : Nat
  pkey : Nat
  home : Nat
  quota : Nat                    -- KiB
  eq : Nat
  state : CtxState
  nextSeq : Nat
  posted : List Posted
  unexp : List Unexp
  refusedAt : Option Nat         -- R129
  deriving DecidableEq, Repr

/-- A remote read of a rendezvous: its PSN once it is sent, the buffer offset of its data, its length, and the bytes placed. -/
structure RndvRead where
  psn : Option Pos
  off : Nat
  len : Nat
  placed : Nat
  deriving DecidableEq, Repr

/-- A rendezvous in progress at the target (R120). -/
structure Rndv where
  peer : PeerKey
  rts : Pos
  ctx : Nat
  jid : Nat
  len : Nat                      -- length of the message
  frags : List Frag              -- fragments not yet read
  fragOff : Nat                  -- bytes of the first of them already requested
  want : Nat                     -- bytes still to request
  off : Nat                      -- receive-buffer offset of the next request
  reads : List RndvRead          -- outstanding, oldest first
  placed : Nat
  status : Nat                   -- status of the TRECV so far
  finStatus : Nat                -- status the FIN carries
  pkey : Nat
  group : Nat                    -- of the receive, which its reads carry (R135)
  rtsGroup : Nat                 -- of the RTS, which its FIN carries (R135)
  deriving DecidableEq, Repr

/-- A waiter of a lock (R259). -/
structure LockWaiter where
  fa : Fa
  mid : Nat
  prio : Nat
  peer : PeerKey
  reqPsn : Pos
  group : Nat
  deriving DecidableEq, Repr

/-- A lock that is not UNALLOCATED (R254, R257). -/
structure Lock where
  num : Nat
  pkey : Nat
  mid : Nat                      -- function that allocated it (R458)
  owner : Option LockWaiter
  abandoned : Bool
  waiters : List LockWaiter      -- descending priority, arrival order within one
  inherited : Option Nat         -- inherited priority last sent (R261)
  deriving DecidableEq, Repr

/-- A held-lock record of a requester (R265). -/
structure LockRec where
  ep : Nat
  fa : Fa
  tc : Tc
  lock : Nat
  mid : Nat
  pkey : Nat
  group : Nat
  jid : Nat
  psn : Option Pos
  granted : Bool
  reset : Bool
  leaving : Bool                  -- its RESET_RELEASE is on the way (R265)
  endFence : Option (Option Pos)  -- that is acknowledged: the reverse PSN to be delivered before it counts as delivered (R208, R262)
  deriving DecidableEq, Repr

/-- An inheritance weight in force (R262). -/
structure Boost where
  mid : Nat
  fa : Fa
  lock : Nat
  prio : Nat
  deriving DecidableEq, Repr

/-- Group states of R236 other than UNUSED. -/
inductive GroupState where
  | joining | active | failed | leaving
  deriving DecidableEq, Repr

/-- A fixed-point accumulator (R243). -/
structure Acc where
  v : Int
  nan : Bool
  pinf : Bool
  ninf : Bool
  allNegz : Bool
  deriving DecidableEq, Repr

/-- The value of one element while it is reduced. -/
inductive Elem where
  | word (v : Nat)               -- integer value, or a float under MIN and MAX
  | pair (v : Nat) (loc : Nat)   -- MINLOC, MAXLOC
  | acc (a : Acc)                -- floating-point SUM
  deriving DecidableEq, Repr

/-- A chunk of an operation at a node (R231, R240, R252). -/
structure Chunk where
  block : Nat                    -- rank whose block it belongs to (ALLGATHER, REDUCE_SCATTER), else 0
  idx : Nat
  lastc : Bool
  attempt : Nat                  -- ATTEMPT that contributions of children must carry
  upAttempt : Nat                -- ATTEMPT that its own CONTRIB carries
  from_ : List Nat               -- whole contributions: 2 * rank of a local member, or 2 * child coordinates + 1
  part : List (Nat × Nat)        -- contributor and elements received of a contribution in several packets
  vals : List Elem
  bytes : List Byte              -- GATHER data
  elems : Option Nat             -- elements of the first whole contribution that carries data (R238)
  poison : Bool
  forwarded : Bool
  gen : Nat                      -- configuration generation under which it was begun (R588)
  deriving DecidableEq, Repr

/-- A result chunk that reached the node: block, index, LASTC, poisoned, data. -/
structure ResultChunk where
  block : Nat
  idx : Nat
  lastc : Bool
  poison : Bool
  data : Option (List Byte)      -- none for a RESULT that carries no data
  down : Bool                    -- it came as a RESULT, or was made at the tree root, and not only in a RELAY (R232)
  deriving DecidableEq, Repr

/-- A member's CHORUS job within an operation. -/
structure MemberOp where
  jid : Nat
  rank : Nat
  data : List Byte               -- its send buffer
  ready : Bool                   -- the send buffer has been read
  todo : List (Nat × Nat)        -- chunks still to contribute: block, index
  got : List (Nat × Nat)         -- result chunks written: block, index
  written : Nat
  failed : Option Nat            -- status of a failed check, read or result write, or of poison (R241, R251)
  sendFailed : Bool              -- what it has not given goes up as POISON (R241)
  lost : Bool                    -- it ends without results, in its turn (R236, R249)
  ended : Bool
  deriving DecidableEq, Repr

/-- A contribution to a chunk that waits for CHUNKS_IN_FLIGHT (R240): its sender, whether it is a RELAY, and the configuration generation
of its first lookup (R588). -/
structure LaterPart where
  peer : PeerKey
  pkt : Packet
  relay : Bool
  gen : Nat
  deriving DecidableEq, Repr

/-- A collective operation at a node (R238). -/
structure ChorusOp where
  opseq : Nat
  coll : Nat
  oper : Nat
  dtype : Nat
  root : Nat
  given : Option (Nat × Nat)     -- COUNT and ROOT of the first local member's descriptor (R238)
  last : Option Nat              -- index of the last chunk of the operation or block, once a contribution has shown it (R238)
  top : Nat                      -- chunk indices that contributions have shown, all below this
  asked : List ((Nat × Nat) × Nat)   -- block and index of chunks not begun, and the ATTEMPT that a REPLAY asked for (R252)
  later : List LaterPart         -- contributions to chunks that wait for CHUNKS_IN_FLIGHT (R240)
  chunks : List Chunk            -- in progress
  results : List ResultChunk
  members : List MemberOp
  deriving DecidableEq, Repr

/-- A RESULT kept until every named child has acknowledged it (R247). -/
structure ResultLog where
  psn : Pos
  opseq : Nat
  pkt : Packet
  epoch : Nat                    -- epoch of its PSN (R221)
  left : List Nat                -- children that have not acknowledged
  sentAt : Nat
  deriving DecidableEq, Repr

/-- A multicast flow of a node, per dimension (R247). -/
structure McFlow where
  dim : Nat
  openNum : Nat
  next : Pos
  epoch : Nat
  log : List ResultLog
  misses : List (Nat × Nat)      -- child, and consecutive resends to it without an acknowledgement (R248)
  deriving DecidableEq, Repr

/-- A chorus group at this device (R227-R236). -/
structure Group where
  num : Nat
  pkey : Nat
  owner : Option Nat              -- function whose CMD_CHORUS_CREATE installed or attached it here (R458); none for transit alone
  treeRoot : Option Nat           -- TREE_ROOT as that command gave it
  crc : Word
  rootFa : Fa
  total : Nat
  state : GroupState
  home : Nat
  locals : List (Nat × Nat × Fa)  -- attached members: rank, QID, FA
  ranks : List (Nat × Fa)         -- router coordinates of every rank, when the table was read here
  expectLocal : Nat
  children : List Nat             -- coordinates of children that joined
  expectChildren : Nat
  waiting : List PeerKey          -- children waiting for JOIN_ACK
  child : Option (Nat × Nat)      -- children and members of the parent, told in JOIN; none when not known
  named : List Nat                -- coordinates of the children that the member table gives, when read here
  flows : List McFlow
  head : Pos                      -- HEAD of the flow from the parent
  headEpoch : Nat                 -- its epoch (R247)
  parentOpen : Nat
  nextOpseq : List (Nat × Nat)    -- rank, next OPSEQ
  done : Nat                      -- oldest OPSEQ not completed
  ahead : List Nat                -- OPSEQs above it that are completed
  down : List (ChorusOp × ResultChunk × Nat)   -- result chunks still to be passed down, with the fields of their operation and the
                                               -- configuration generation they were looked up under (R231, R247, R588)
  ops : List ChorusOp
  activeAt : Nat
  failedAt : Nat                  -- when the group entered FAILED (R249)
  deriving DecidableEq, Repr

/-- A run of device-variable slots allocated to a partition (R268). -/
structure VarRun where
  first : Nat
  count : Nat
  pkey : Nat
  mid : Nat                       -- function that allocated it (R458)
  deriving DecidableEq, Repr

/-- A chorus packet kept in the operation log, or a value fetched by an ATOMIC (R215, R247). -/
structure LogItem where
  peer : PeerKey
  psn : Pos
  bytes : Nat
  deriving DecidableEq, Repr

end Sys2Proof.Machine
end

