-- ==== Sys2Proof/Machine/StFabric.lean ====
section
/-! DEFINITION. State of the router side: routing, switch slices, link layer, lanes, traffic scheduling, power
(chapters 10-14, 16). Plain data only. Ports, lanes, outputs, policers and the like are listed once they differ from their
reset value. -/

namespace Sys2Proof.Machine

/-! ### Switch core and routing (chapters 10, 11, 12) -/

/-- A packet stored in a slice: its cells and what they are charged to (R300-R304). -/
structure Stored where
  pid : Nat
  slice : Nat
  src : Source
  vc : Nat                 -- VC, or the priority of a service-port frame, whose reservation it is charged to
  cells : Nat
  whole : Bool             -- stored whole; false while only its head has arrived (R306)
  seq : Nat                -- link SEQ of a packet whose head has arrived
  shared : Bool            -- charged to the shared pool (R302)
  ended : Bool             -- the ingress charge has ended (R303)
  mcast : Bool             -- a line multicast: charged to its source's reservation until its residue is gone (R309)
  gen : Nat                -- configuration generation of its lookup (R28)
  deriving DecidableEq, Repr

/-- A packet queued at an output: what will be sent, when it was queued, since when no candidate has had credit (R281). -/
structure QEntry where
  pid : Nat
  pkt : SwPkt
  since : Nat
  wait : Option Nat
  color : Nat              -- 0 green, 1 yellow, 2 red (R313)
  avoid : Option Nat       -- first-hop port to avoid (R283)
  detour : Option Nat      -- dimension of a non-minimal hop (R276)
  residue : Bool           -- a multicast copy (R309)
  mirror : Bool
  job : Option Nat         -- the SEND whose frame it is (R361)
  begun : Bool             -- its frame has begun cut-through, before the packet is whole
  stalled : Bool           -- its wait for replay-pool cells has been counted (R303)
  deriving DecidableEq, Repr

/-- An output: its queues, in the order of queueing, and its deficit round robin (R308, R320). -/
structure Egress where
  out : Output
  q : List QEntry
  deficit : List Nat       -- TC0, TC1, TC2
  visited : List Bool
  cur : Nat                -- class being visited
  deriving DecidableEq, Repr

/-- An exception entry (R292). -/
structure ExcEntry where
  slot : Nat
  mask : Nat
  value : Nat
  action : Nat
  dim : Nat
  coord : Nat
  deriving DecidableEq, Repr

/-- The latest congestion vector of a line neighbour (R289). -/
structure Vector_ where
  dim : Nat
  coord : Nat
  seq : Nat
  at_ : Nat
  ws : List Word           -- 8 words
  deriving DecidableEq, Repr

/-- Levels of a policer's buckets in 1/8000 of a byte, when it last refilled (R330). -/
structure Policer where
  num : Nat
  c : Nat
  ep : Nat
  at_ : Nat
  deriving DecidableEq, Repr

/-- Packets of an endpoint and class waiting at injection (R331). -/
structure Deferred where
  ep : Nat
  tc : Nat
  wait : Option (Nat × Nat × Nat)   -- policer that defers the first of them, policers its chain may still take, generation of its chain (R331, R332)
  pkts : List SwPkt
  deriving DecidableEq, Repr

/-- A packet of a chorus cluster or the management logic that waits for its source's reservation: one packet, or a line multicast with
its dimension and recipients, or a time message for a port (R290, R302, R305, R438). -/
structure Inject where
  src : Source
  pkt : SwPkt
  mcast : Option (Nat × List Nat)
  port : Option Nat
  deriving DecidableEq, Repr

/-- A stored CONTRIB whose operands a chorus engine has still to read (R304): the chunk it belongs to, and its sender and PSN. -/
structure Operand where
  pid : Nat
  group : Nat
  opseq : Nat
  block : Nat
  idx : Nat
  peer : PeerKey
  psn : Pos
  deriving DecidableEq, Repr

/-- Queue sampling of a port and VC (R333): last and largest. -/
structure Sample where
  port : Nat
  vc : Nat
  depth : Nat
  delay : Nat
  maxDepth : Nat
  maxDelay : Nat
  deriving DecidableEq, Repr

/-- The port that a packet of a send half last left by (R213, R283). -/
structure FirstHop where
  peer : PeerKey
  psn : Pos
  port : Nat
  deriving DecidableEq, Repr

/-! ### Link layer (chapter 13) -/

/-- Link states (R353). -/
inductive LinkState where
  | disabled | training | init | up | grace
  deriving DecidableEq, Repr

def LinkState.code : LinkState → Nat
  | .disabled => 0 | .training => 1 | .init => 2 | .up => 3 | .grace => 4

/-- A frame of a replay window (R341). -/
structure WinEntry where
  seq : Nat
  pid : Nat
  cells : Nat
  pkt : SwPkt
  spilled : Bool           -- its cells are in the spill area (R359)
  deriving DecidableEq, Repr

/-- A first transmission in the bytes that a port has yet to send: where its header begins, its SEQ, VC and cells (R351). -/
structure TxHead where
  at_ : Nat
  seq : Nat
  vc : Nat
  cells : Nat
  deriving DecidableEq, Repr

/-- A fabric or service port (R335-R363, R369, R373, R379). -/
structure Port where
  num : Nat
  state : LinkState
  map : Nat                -- lanes in use, a bit per lane
  locked : Bool            -- port lock held
  missed : Nat             -- marker blocks missed or failed in a row
  fenced : Bool
  testing : Bool           -- CMD_PORT_TEST in progress
  next : Nat
  oldest : Nat
  fresh : Bool
  rxValid : Bool
  expected : Nat
  consumed : List Nat      -- per VC, modulo 2^24
  creditIn : List Nat      -- latest GRANTED received
  granted : List Nat
  grantedSent : List Nat
  received : List Nat
  ackPending : Bool
  accepted : Nat           -- BRODANATER frames since the last ACK
  ackAt : Nat              -- when the pending acceptance came
  reqFor : Option Nat      -- SEQ of the last REPLAY_REQ
  reqAt : Nat
  replays : Nat            -- in a row without progress
  timerAt : Nat            -- later of last progress and last replay start
  win : List WinEntry      -- SEQ order
  blocked : List (Nat × Nat)     -- VC and since when its head lacks credit (R352)
  downAt : Option Nat      -- when the link was declared down, until it flushes or is up again (R353)
  errors : Nat
  errAt : Nat              -- start of the error window
  markers : Nat            -- marker blocks since the last audit sent
  auditVc : Nat
  audits : List (Nat × Nat × Nat)   -- pending: VC, SEQ, CONSUMED
  sbCount : Nat            -- superblocks sent
  quietReq : Bool
  quietSeen : Nat          -- marker blocks with QUIET_REQ in a row
  quiet : Bool
  busyAt : Nat             -- last time it was not idle (R379)
  readyAt : Option Nat     -- when the first lane became READY (R373)
  partner : Option (Nat × Nat × Nat)   -- COORD, PORT, LANE_MAP
  initAt : Nat             -- when the last INIT was sent
  started : Bool           -- a superblock has been begun on the lanes in use
  tx : List Byte           -- bytes of frames that no superblock has carried yet (R335)
  bits : List Bool         -- bits of the port's stream that no codeword message has taken yet (R367)
  msgs : Nat               -- codeword messages cut since the port took its lane map (R367)
  pace : Nat               -- until when the packet-byte limit holds back DATA frames, in 1/30 of 0.1 ns (R336)
  again : Nat              -- frames at the end of `win` that the running replay has not sent yet (R346)
  heads : List TxHead      -- first transmissions whose headers no superblock has carried yet (R351)
  sbSeen : Option Nat      -- SB_COUNT of the last valid marker received under port lock (R369)
  lostAt : Nat             -- when the link was last declared down (R373)
  wakeAt : Option Nat      -- when the wake of a quiet port began (R380)
  paused : List (Nat × Nat)      -- service port: priority and end of its pause (R363)
  xoff : List (Nat × Nat)        -- priorities with XOFF sent, and when
  deriving DecidableEq, Repr

/-- The state of a port at reset (R353). -/
def Port.reset (n : Nat) : Port :=
  { num := n, state := .disabled, map := 0, locked := false, missed := 0, fenced := false, testing := false, next := 0, oldest := 0,
    fresh := true, rxValid := false, expected := 0, consumed := List.replicate 8 0, creditIn := List.replicate 8 0,
    granted := List.replicate 8 0, grantedSent := List.replicate 8 0, received := List.replicate 8 0, ackPending := false,
    accepted := 0, ackAt := 0, reqFor := none, reqAt := 0, replays := 0, timerAt := 0, win := [], blocked := [], downAt := none,
    errors := 0, errAt := 0, markers := 0, auditVc := 0, audits := [], sbCount := 0, quietReq := false, quietSeen := 0,
    quiet := false, busyAt := 0, readyAt := none, partner := none, initAt := 0, started := false,
    tx := [], bits := [], msgs := 0, pace := 0, again := 0, heads := [], sbSeen := none, lostAt := 0, wakeAt := none, paused := [], xoff := [] }

/-! ### Lanes (chapter 14) -/

/-- Lane states (R371). -/
inductive LaneState where
  | off | full | fast | ready | active | quiet | test | failed
  deriving DecidableEq, Repr

def LaneState.code : LaneState → Nat
  | .off => 0 | .full => 1 | .fast => 2 | .ready => 3 | .active => 4 | .quiet => 5 | .test => 6 | .failed => 7

/-- The checker of a lane compares since a moment: bits in a millisecond, whether it checks the lane's own generator, and the period at which
that inverts a bit (R382). -/
structure ChkRun where
  since : Nat
  rate : Nat
  own : Bool
  period : Nat
  deriving DecidableEq, Repr

/-- A fabric lane (R371, R376, R384). -/
structure Lane where
  num : Nat
  state : LaneState
  since : Nat              -- entry into the state
  locked : Bool            -- own receiver locked
  partner : Bool           -- RX_READY 1 received
  readyRun : Nat           -- consecutive frames with RX_READY 1
  signal : Bool
  silent : Bool            -- transmitter quiet for QUIET_HOLD
  leave : Bool             -- leave for full acquisition asked and not granted
  fails : Nat
  coef : Bool              -- frozen coefficients held
  inverted : Bool
  miswire : Bool
  eye : Bool               -- measurement in progress
  coded : Nat              -- codewords sent since the last one that injection corrupted (R383)
  trained : Nat            -- training frames sent, modulo 8191: where PRBS13 goes on (R370)
  once : Nat               -- bits that INJ_ONCE has inverted since the checker began (R382)
  chk : Option ChkRun      -- the checker compares (R382)
  chkBits : Nat            -- bits compared and errors of this test before that
  chkErrs : Nat
  deriving DecidableEq, Repr

/-- A lane at reset: OFF, nothing known (R371, R376). -/
def Lane.reset (n : Nat) : Lane :=
  { num := n, state := .off, since := 0, locked := false, partner := false, readyRun := 0, signal := false, silent := false,
    leave := false, fails := 0, coef := false, inverted := false, miswire := false, eye := false, coded := 0,
    trained := 0, once := 0, chk := none, chkBits := 0, chkErrs := 0 }

/-! ### Power (chapter 16) -/

/-- Domain states (R406). -/
inductive DomState where
  | on | gated | retention | off
  deriving DecidableEq, Repr

def DomState.code : DomState → Nat
  | .on => 0 | .gated => 1 | .retention => 2 | .off => 3

/-- What asks for leave (R411). -/
inductive LeaveOp where
  | slice (n : Nat)        -- activity level of a slice
  | pair (dom : Nat)       -- activity level of an engine or chorus cluster pair
  | exit (dom : Nat)       -- domain exit
  | lane (l : Nat)         -- full acquisition
  | width (cc : Nat)       -- accumulation width doubled
  | restore (code : Nat)   -- CMD_ENGINE_RESTORE
  | laneTest (l : Nat)
  | memTest (ch : Nat)
  deriving DecidableEq, Repr

/-- A request for leave (R411-R413, R419). -/
structure LeaveReq where
  op : LeaveOp
  prio : Nat
  step : Nat               -- in 0.25 A
  at_ : Nat                -- when it asked
  heldFor : Nat            -- time spent held, not counted toward AGE
  heldAt : Option Nat      -- held since
  aged : Bool              -- counts as priority 0
  deriving DecidableEq, Repr

/-- A domain that is not ON, or on its way there (R406-R409). -/
structure Domain where
  num : Nat
  state : DomState
  exiting : Option Nat     -- when its granted exit began
  due : Option Nat         -- T chosen by the predictor
  waiting : List LeaveReq  -- requests of operations that wait for it to be ON
  deriving DecidableEq, Repr

/-- The activity of a unit: its level, the 100 ns window of its last frame start or dispatch and how many that window has, when the next one
may follow at the earliest, and when demand was last at least the rate of the next lower level (R414). -/
structure Activity where
  dom : Nat
  level : Nat
  win : Nat
  count : Nat
  next : Nat
  demandAt : Nat
  deriving DecidableEq, Repr

/-- The power unit (R406-R427). The credit counts 0.1 mA, so that RATE A/µs adds RATE in 0.1 ns. -/
structure Pwr where
  domains : List Domain
  reqs : List LeaveReq     -- in order of request
  credit : Nat
  creditAt : Nat
  grants : List (Nat × Nat)       -- time and step of the grants of the last microsecond
  rampLow : Option Nat     -- since when RAMP_N is low
  notice : Option LeaveOp  -- the request that waits for NOTICE_LEAD
  noticeGrant : Option Nat -- last grant under notice
  levels : List Activity   -- the units that are not at level 0 with nothing issued
  bcaRaw : Nat
  bcaCode : Nat
  bcaOk : Bool             -- a code has been taken since the last reset (R426)
  estWatts : Nat
  estAmps : Nat
  powerFloor : Nat
  overAt : Option Nat      -- since when the estimate exceeds a limit at class 7
  violated : Bool          -- R421 holds priorities 1-3
  sensors : List Int       -- readings in 1/8 °C
  warned : Bool            -- Tj has not been below WARN - HYST since the last THERM_WARN
  cls : Nat                -- class in force
  widths : List (Nat × Nat)       -- chorus cluster and doublings withheld, where leave is still due
  deriving DecidableEq, Repr

/-- The port that pinned packets of a flow take at this router (R27, R285). -/
structure PinPath where
  src : Fa
  dst : Fa
  tc : Nat
  salt : Nat
  port : Nat
  deriving DecidableEq, Repr

/-- The power unit at reset: C is BURST (R426, R428). -/
def Pwr.reset : Pwr :=
  { domains := [], reqs := [], credit := 200000, creditAt := 0, grants := [], rampLow := none, notice := none, noticeGrant := none,
    levels := [], bcaRaw := 0, bcaCode := 0, bcaOk := false, estWatts := 0, estAmps := 0, powerFloor := 0, overAt := none,
    violated := false, sensors := List.replicate 16 0, warned := false, cls := 0, widths := [] }

/-! ### The router side -/

structure Fabric where
  stored : List Stored
  nextPid : Nat
  egress : List Egress
  exc : List ExcEntry
  vectors : List Vector_
  vecSeq : Nat
  vecLast : List Word      -- the vector last computed (R288, R536)
  mapSeq : Nat
  policers : List Policer
  deferred : List Deferred
  inject : List Inject
  handed : List (Nat × Packet)    -- stored packets handed to an endpoint that transport has not taken yet (R304)
  passing : List (Nat × Packet)   -- other packets handed over that have not arrived yet: configuration generation of the first lookup (R28)
  operands : List Operand
  samples : List Sample
  hops : List FirstHop
  pins : List PinPath
  ticks : List (Nat × Nat)        -- periodic events: code, and when each last fell due
  dead : List Nat          -- slices stopped by an uncorrectable error of their control state (R514)
  suspects : List (Nat × Nat)     -- slice and cell found leaked in one audit pass (R316)
  ports : List Port
  lanes : List Lane
  pwr : Pwr
  deriving DecidableEq, Repr

def Fabric.reset : Fabric :=
  { stored := [], nextPid := 1, egress := [], exc := [], vectors := [], vecSeq := 0, vecLast := [], mapSeq := 0, policers := [], deferred := [],
    inject := [], handed := [], passing := [], operands := [],
    samples := [], hops := [], pins := [], ticks := [], dead := [], suspects := [], ports := [], lanes := [], pwr := .reset }

end Sys2Proof.Machine
end

