-- ==== Sys2Proof/Machine/State.lean ====
section
/-! DEFINITION. The state of the whole device, its reset value, and the reasons a step can stop. -/

namespace Sys2Proof.Machine

/-- Why a step stops with a fault. -/
inductive Fault where
  /-- Raised by no meaning: an operand that names an instance past the part's count stands for one that it has, as a free value
  (log 128). Safe. -/
  | noInstance (what : String)
  deriving DecidableEq, Repr

/-- Why a step is refused. -/
inductive Refusal where
  /-- Raised by an arm of exec whose command has no meaning yet, under its mnemonic. Safe. -/
  | notModelled (mnemonic : String)
  deriving DecidableEq, Repr

/-- Queue manager: contexts, pond, doorbells, eviction, dispatch (chapter 02). -/
structure Qmg where
  queues : List Queue
  pond : List Parked
  asleep : List Sleeper            -- packets that wait for domains to be ON, in arrival order (R409)
  heldDb : List HeldDb
  stalled : List (Nat × PostedWrite)   -- posted writes of host ports whose posted credit is withheld, in order (R42)
  journal : List Nat               -- QIDs with an unretired journal slot (R59)
  wrr : Wrr
  jobs : List Job                  -- accepted and not yet reported, in acceptance order
  nextJid : Nat
  useClock : Nat                   -- least-recently-used stamp
  evictRun : Bool                  -- eviction began below LOW_WATER and has not reached HIGH_WATER (R57)
  epEq : List (Nat × Word)         -- per endpoint: asynchronous EQ (0 none) and event mask (R96)
  holdoffs : List Holdoff
  deriving DecidableEq, Repr

/-- Translation (chapter 06). -/
structure Xlt where
  asids : List Asid
  tlb : List TlbEntry
  wc : List WcEntry
  walks : List Walk
  nextWalk : Nat
  invals : List Inval              -- in progress and waiting, oldest first
  invalDone : Nat
  nextInval : Nat
  pinned : List (Nat × Pos × Region × Nat)   -- CMD_REGION_REGISTER with PIN: token, ring position, entry, next address to walk
  nextTok : Nat
  lastFault : Nat                  -- level and cause of the last walk fault, as DETAIL shows them (R460)
  faulted : List Waiter            -- waiters whose walk faulted and that have not taken the fault (R178)
  deriving DecidableEq, Repr

/-- Host ports and their outstanding requests (chapter 15). -/
structure Hif where
  ports : List HostPort
  reqs : List HostReq
  nextReq : Nat
  deriving DecidableEq, Repr

/-- Remote memory (chapter 05). -/
structure Rma where
  partitions : List Partition
  regions : List Region            -- entries that have ever been used
  fresh : Nat                      -- lowest index never used; fresh entries are older than freed ones
  freed : List Nat                 -- freed entries, longest free first (R139)
  targets : List TargetOp
  deriving DecidableEq, Repr

/-- Transport (chapter 07). -/
structure Trn where
  peers : List Peer
  openCount : Nat
  logItems : List LogItem
  waiting : List (PeerKey × List OutPkt)   -- operations that wait for a peer state to be created (R190, R191)
  opens : List Packet              -- OPEN_REQs that wait for the answer to a CLOSE_REQ (R193)
  deriving DecidableEq, Repr

/-- Matching (chapter 04), locks (chapter 09) and chorus groups (chapter 08). -/
structure Svc where
  ctxs : List MatchCtx
  unexpLost : Nat                  -- unexpected eager messages discarded at destruction (R132)
  rndvs : List Rndv
  locks : List Lock
  lockRecs : List LockRec
  boosts : List Boost
  varRuns : List VarRun
  vars : List (Nat × Nat)          -- slot and value where it is not 0
  groups : List Group
  frames : List (Nat × Nat × List Byte)   -- frames being placed into an SRQ entry: job, stored packet, bytes (R362)
  deriving DecidableEq, Repr

/-- The whole device, and the queue of commands that wait. -/
structure State where
  pending : List Instr
  out : List Out                   -- what the device put out, oldest first (log 2)
  heldOut : List HeldOut           -- memory requests that wait for their port: for its IDE stream, or for its islands (R409, R495)
  freeCtr : Nat                    -- free values drawn so far (log 3)
  clk : Clk
  sys : Sys
  regs : RegFile                   -- registers without a shadow copy
  bank0 : RegFile                  -- the two banks of the CS registers
  bank1 : RegFile
  sec : Sec
  gates : List GateRule            -- rules that differ from their reset value (R480)
  pend : List Nat                  -- pending fault kinds (R510)
  engines : List Engine
  mem : Mem
  cmd : Cmd
  counters : List Counter
  dump : Dump
  hif : Hif
  qmg : Qmg
  xlt : Xlt
  rma : Rma
  trn : Trn
  svc : Svc
  fab : Fabric
  deriving DecidableEq, Repr

/-- A host port at reset: link down, PERST_N low (log 6). -/
def HostPort.reset : HostPort :=
  { up := false, rate := 0, width := 0, reversed := false, ide := false, vfEnable := false, numVfs := 0, vfTable := 0,
    pfTable := 256, inReset := true, funcs := [], training := false, retraining := false }

/-- Device-level pieces at reset (R440, R448, R449; logs 4, 5, 6). -/
def Sys.reset : Sys :=
  { stage := .rom, error := 0, halt := false, bootCount := 0, resetCause := 0, warmCount := 0, flashCount := 0,
    deadbolt := .none, pwrOk := true, pwrAt := 0, resetN := false, bootSel := 0, faultNForced := false, railFault := false,
    slots := [⟨[]⟩, ⟨[]⟩], running := 0, runVersion := 0, runHeader := [], nextSlot := 0, hbmImage := none,
    portsBefore := [], acqAt := 0, mctpImage := 0, mctpBytes := [], boot := none, silenced := false, quiesced := false }

def Clk.reset : Clk :=
  { now := 0, dtime := 0, slew := 0, refOk := false, refAt := 0, refWait := false, monitors := [], tState := 0, stratum := 0,
    delay := 0, offset := 0, exchAt := 0, seq := 0, reqAt := 0, waiting := false, runLength := 0, missed := 0, outAt := 0 }

def Sec.reset : Sec :=
  { ownerKey := false, fabricKey := false, partKeys := [], keyBits := [], unread := [], lost := 0, nextSeq := 0, lastMac := 0, lossNoted := false,
    debugUnlocked := false, fails := 0, unlockShut := false, sessions := [], svn := 0, revoke := 0, rootHash := [[], [], [], []], tamperCount := 0,
    secureBoot := true, uid := 1, bootSelCold := 0 }

def Cmd.reset : Cmd :=
  { next := 0, doneAhead := [], begun := [], remote := [], outside := [], gateWaits := [], working := [], nextSeq := 0, shadow := 0, bank := false, gen := 0, under := false }

def Mem.reset : Mem :=
  { retiredPairs := [], migrating := none, remaining := 0, testing := none, lostCells := [] }

def Dump.reset : Dump :=
  { lastT := 0, nextSeq := 0, skipped := 0, skippedSince := 0, carried := 0, writing := none, pendingCap := [], sPi := 0, sCi := 0, vecArmed := true }

def Qmg.reset : Qmg :=
  { queues := [], pond := [], asleep := [], heldDb := [], stalled := [], journal := [],
    wrr := { eps := [], parts := [], queues := [] },
    jobs := [], nextJid := 1, useClock := 0, evictRun := false, epEq := List.replicate 8 (0, 0), holdoffs := [] }

def Xlt.reset : Xlt :=
  { asids := [], tlb := [], wc := [], walks := [], nextWalk := 1, invals := [], invalDone := 0, nextInval := 1, pinned := [],
    nextTok := 1, lastFault := 0, faulted := [] }

def Hif.reset : Hif := { ports := List.replicate 8 HostPort.reset, reqs := [], nextReq := 1 }
def Rma.reset : Rma := { partitions := [], regions := [], fresh := 1, freed := [], targets := [] }
def Trn.reset : Trn := { peers := [], openCount := 0, logItems := [], waiting := [], opens := [] }
def Svc.reset : Svc :=
  { ctxs := [], unexpLost := 0, rndvs := [], locks := [], lockRecs := [], boosts := [], varRuns := [], vars := [], groups := [], frames := [] }

/-- The machine right after a cold reset, before RESET_N rises (R16, R440, R441, R448, R449). -/
def State.reset : State :=
  { pending := [], out := [], heldOut := [], freeCtr := 0, clk := .reset, sys := .reset, regs := [], bank0 := [], bank1 := [],
    sec := .reset, gates := [], pend := [], engines := [], mem := .reset, cmd := .reset, counters := [], dump := .reset,
    hif := .reset, qmg := .reset, xlt := .reset, rma := .reset, trn := .reset, svc := .reset, fab := .reset }

end Sys2Proof.Machine
end

