-- ==== Sys2Proof/Machine/Ops.lean ====
section
/-! DEFINITION. The named operations over State: register values and their two banks, time, counters, outputs, free values,
and the list helpers all families use. -/

namespace Sys2Proof.Machine

/-! ### Lists -/

/-- Apply f to every element that satisfies p. -/
def updAll {α : Type} (p : α → Bool) (f : α → α) : List α → List α
  | [] => []
  | a :: l => (if p a then f a else a) :: updAll p f l

/-- Apply f to the first element that satisfies p. -/
def updFirst {α : Type} (p : α → Bool) (f : α → α) : List α → List α
  | [] => []
  | a :: l => if p a then f a :: l else a :: updFirst p f l

/-- Value of the first pair with key k. -/
def assoc {α β : Type} [DecidableEq α] (k : α) : List (α × β) → Option β
  | [] => none
  | (a, b) :: l => if a = k then some b else assoc k l

/-- Set the value of key k, at the front when it is new. -/
def assocSet {α β : Type} [DecidableEq α] (k : α) (v : β) (l : List (α × β)) : List (α × β) :=
  (k, v) :: l.filter (fun x => x.1 ≠ k)

/-- Sum of a measure over a list. -/
def sumBy {α : Type} (f : α → Nat) : List α → Nat
  | [] => 0
  | a :: l => f a + sumBy f l

/-! ### Bits -/

/-- Bits [hi:lo] of a number (R10). -/
def bits (w hi lo : Nat) : Nat := w / 2 ^ lo % 2 ^ (hi + 1 - lo)

/-- Bit i of a number. -/
def bit (w i : Nat) : Bool := w / 2 ^ i % 2 = 1

/-- A number with bits [hi:lo] replaced by v. -/
def putBits (w hi lo v : Nat) : Nat :=
  w - bits w hi lo * 2 ^ lo + v % 2 ^ (hi + 1 - lo) * 2 ^ lo

/-- The field v placed at bit lo. -/
def at_ (lo v : Nat) : Nat := v * 2 ^ lo

/-- 1 for true. -/
def b1 (b : Bool) : Nat := if b then 1 else 0

/-- The word of a number. -/
def word (n : Nat) : Word := BitVec.ofNat 64 n

/-! ### Register values (R13, R14, R540) -/

/-- The value stored at an offset. -/
def rfGet : RegFile → Nat → Option Word
  | [], _ => none
  | (a, v) :: l, x => if a = x then some v else if x < a then none else rfGet l x

/-- Remove the entry of an offset. -/
def rfErase : RegFile → Nat → RegFile
  | [], _ => []
  | (a, v) :: l, x => if a = x then l else if x < a then (a, v) :: l else (a, v) :: rfErase l x

/-- Insert in rising order. -/
def rfInsert : RegFile → Nat → Word → RegFile
  | [], x, w => [(x, w)]
  | (a, v) :: l, x, w =>
    if a = x then (x, w) :: l else if x < a then (x, w) :: (a, v) :: l else (a, v) :: rfInsert l x w

/-- Store v at x; the reset value d is never listed. -/
def rfPut (f : RegFile) (x : Nat) (v d : Word) : RegFile :=
  if v = d then rfErase f x else rfInsert f x v

/-- The canonical form of a register file: offsets strictly rising above lo. -/
def rfRising : Nat → RegFile → Bool
  | _, [] => true
  | lo, (a, _) :: l => decide (lo ≤ a) && rfRising (a + 1) l

/-- The registers are held in one canonical form: offsets strictly rising in each file. -/
def State.regsRising (s : State) : Bool := rfRising 0 s.regs && rfRising 0 s.bank0 && rfRising 0 s.bank1

/-- Active-view offset of element k of a register in instance i of its block (R13). -/
def regAddr (r : Reg) (i k : Nat) : Nat :=
  let d := r.info
  let m := d.block.map
  m.base + i * m.stride + d.off + d.st1 * (k / d.n2) + d.st2 * (k % d.n2)

/-- The bank that the commit word selects, or the other one (R466, R470). -/
def State.bank (s : State) (active : Bool) : RegFile :=
  if s.cmd.bank = active then s.bank1 else s.bank0

/-- The state as what was looked up under a generation sees its configuration set: the other bank, when that is not the generation in
force (R28, R471, R588). -/
def State.view (s : State) (gen : Nat) : State :=
  if gen = s.cmd.gen then s else { s with cmd := { s.cmd with bank := !s.cmd.bank, gen := gen, under := !s.cmd.under } }

/-- The generation in force, also where a step works under the former one. -/
def State.liveGen (s : State) : Nat := if s.cmd.under then (s.cmd.gen + 1) % 2 ^ 64 else s.cmd.gen

/-- Do something under the configuration set of a generation (R28, R471). -/
def asOf (gen : Nat) (f : State → State) (s : State) : State :=
  if gen = s.cmd.gen then f s
  else
    let t := f (s.view gen)
    { t with cmd := { t.cmd with bank := s.cmd.bank, gen := s.cmd.gen, under := s.cmd.under } }

/-- The stored value of a register: in the active bank for a CS register. -/
def State.raw (s : State) (r : Reg) (i k : Nat) : Nat :=
  match rfGet (if r.info.cs then s.bank true else s.regs) (regAddr r i k) with
  | some v => v.toNat
  | none => r.reset k

/-- The shadow copy of a CS register (R14, R466). -/
def State.shadowRaw (s : State) (r : Reg) (i k : Nat) : Nat :=
  match rfGet (s.bank false) (regAddr r i k) with
  | some v => v.toNat
  | none => r.reset k

/-- Bits [hi:lo] of a register in force. -/
def State.fld (s : State) (r : Reg) (k hi lo : Nat) : Nat := bits (s.raw r 0 k) hi lo

/-- Bits [hi:lo] of a register of instance i. -/
def State.fldI (s : State) (r : Reg) (i k hi lo : Nat) : Nat := bits (s.raw r i k) hi lo

/-- Store a register that has no shadow copy. -/
def State.setReg (s : State) (r : Reg) (i k : Nat) (v : Nat) : State :=
  { s with regs := rfPut s.regs (regAddr r i k) (word v) (word (r.reset k)) }

/-- Replace one bank. -/
def State.setBank (s : State) (active : Bool) (f : RegFile) : State :=
  if s.cmd.bank = active then { s with bank1 := f } else { s with bank0 := f }

/-- Store the shadow copy of a CS register. -/
def State.setShadow (s : State) (r : Reg) (i k : Nat) (v : Nat) : State :=
  s.setBank false (rfPut (s.bank false) (regAddr r i k) (word v) (word (r.reset k)))

/-- Capture into a register whose bit 63 is VALID: taken while VALID is 0, held while it is 1 (R549). -/
def State.capture (s : State) (r : Reg) (i k : Nat) (v : Nat) : State :=
  if bit (s.raw r i k) 63 then s else s.setReg r i k (v % 2 ^ 63 + 2 ^ 63)

/-- A field taken as 1 when it is 0. -/
def atLeast1 (n : Nat) : Nat := if n = 0 then 1 else n

/-- A value taken as the nearer bound. -/
def clamp (lo hi n : Nat) : Nat := if n < lo then lo else if hi < n then hi else n

/-! ### Time (R436) -/

/-- Tenths of a nanosecond in n nanoseconds, microseconds, milliseconds. -/
def ns (n : Nat) : Nat := n * 10
def us (n : Nat) : Nat := n * 10000
def ms (n : Nat) : Nat := n * 10000000

/-- DTIME in nanoseconds (R436). -/
def State.dtimeNs (s : State) : Nat := s.clk.dtime / 65536 % 2 ^ 64

/-- Let d tenths of a nanosecond pass: DTIME advances with its slew and never runs backward (R436, R439). -/
def State.advance (s : State) (d : Nat) : State :=
  let inc := (d * 65536 * (1000000 + s.clk.slew).toNat) / 10000000
  { s with clk := { s.clk with now := s.clk.now + d, dtime := (s.clk.dtime + inc) % 2 ^ 80 } }

/-- Let time pass until t, if it has not (log 8). -/
def State.advanceTo (s : State) (t : Nat) : State := s.advance (t - s.clk.now)

/-! ### Outputs and free values -/

/-- The host port on which an output is a memory request of the device. -/
def Out.hostPort : Out → Option Nat
  | .place p .. | .record p .. | .bulk p .. | .msix p .. => some p
  | .hostRead _ p .. | .hostCas _ p .. | .hostFetchAdd _ p .. => some p
  | _ => none

/-- A host port issues no memory request: SEC_CTRL.IDE_REQ is set and its IDE link stream is not active (R495). -/
def State.ideHolds (s : State) (h : Nat) : Bool := bit (s.raw .secCtrl 0 0) (8 + h) && !(s.hif.ports[h]?).elim false (·.ide)

/-- A domain is CLOCK-GATED or in RETENTION, or on its way from there (R406). -/
def State.sleeps (s : State) (n : Nat) : Bool :=
  s.fab.pwr.domains.any (fun d => d.num = n && (d.state == .gated || d.state == .retention))

/-- A host port issues no memory request now: it waits for IDE, or its islands sleep (R409, R495; log 158). -/
def State.portHolds (s : State) (h : Nat) : Bool := s.ideHolds h || s.sleeps (40 + h / 2)

/-- The host request that an output is a part of. -/
def Out.reqId : Out → Option Nat
  | .hostRead id .. | .hostCas id .. | .hostFetchAdd id .. => some id
  | _ => none

/-- Put one thing out, or keep a memory request until its port may issue it (R409, R495). `regions` are the keyring entries into whose
regions it writes. -/
def State.emitInto (s : State) (regions : List Nat) (o : Out) : State :=
  if o.hostPort.elim false s.portHolds then { s with heldOut := s.heldOut ++ [{ out := o, regions := regions }] } else { s with out := s.out ++ [o] }

/-- Put one thing out that writes into no region. -/
def State.emit (s : State) (o : Out) : State := s.emitInto [] o

/-- Put several things out. -/
def State.emits (s : State) (regions : List Nat) (l : List Out) : State := l.foldl (fun s o => s.emitInto regions o) s

/-- What ports that may issue requests again had kept goes out (R409, R495). -/
def releaseHeld (s : State) : State :=
  let go := fun (h : HeldOut) => !h.out.hostPort.elim false s.portHolds
  { s with out := s.out ++ (s.heldOut.filter go).map (·.out), heldOut := s.heldOut.filter (fun h => !go h) }

/-- A host request has parts that have not gone out: they wait for a tag, or for their port (R387, R409, R495). -/
def State.unissuedReq (s : State) (r : HostReq) : Bool :=
  !r.held.isEmpty || s.heldOut.any (fun h => decide (h.out.reqId = some r.id))

/-- The parts of a host request that wait for their port are not issued any more. -/
def dropHeldReq (id : Nat) (s : State) : State := { s with heldOut := s.heldOut.filter (fun h => decide (h.out.reqId ≠ some id)) }

/-- Draw a free number (log 3). -/
def State.drawNat (s : State) : Nat × State := (Config.freeNat s.freeCtr, { s with freeCtr := s.freeCtr + 1 })

/-- Draw a free word (log 3). -/
def State.drawWord (s : State) : Word × State := (Config.freeWord s.freeCtr, { s with freeCtr := s.freeCtr + 1 })

/-- Draw an initial PSN (R194). -/
def State.drawPsn (s : State) : Pos × State := (Config.drbgPsn s.freeCtr, { s with freeCtr := s.freeCtr + 1 })

/-! ### Event counters (R527-R529) -/

/-- Add to the counter of an index: modulo 2^48, setting OVF on a carry (R528). -/
def countIn (l : List Counter) (i n : Nat) : List Counter :=
  match l.find? (fun c => c.index = i) with
  | some c =>
    { index := i, count := (c.count + n) % 2 ^ 48, ovf := c.ovf || decide (2 ^ 48 ≤ c.count + n) }
      :: l.filter (fun c => c.index ≠ i)
  | none => { index := i, count := n % 2 ^ 48, ovf := decide (2 ^ 48 ≤ n) } :: l

/-- Count n at an index (R529). -/
def State.count (s : State) (i n : Nat) : State := { s with counters := countIn s.counters i n }

/-- The counter of an index: 0 where none is listed. -/
def State.counter (s : State) (i : Nat) : Counter :=
  (s.counters.find? (fun c => c.index = i)).getD ⟨i, 0, false⟩

/-- What the checker of a lane has compared since it began: bits, and errors. Those of a signal that is not the lane's own are a free value
(R382, log 3). The clock counts in tenths of a nanosecond. -/
def Lane.chkNow (x : Lane) (now : Nat) : Nat × Nat :=
  match x.chk with
  | none => (0, 0)
  | some c =>
    let n := (now - c.since) * c.rate / 10000000
    (n, if c.own then min n (x.once + if c.period = 0 then 0 else n / c.period) else Config.chkErrors x.num c.since now % (n + 1))

/-- What a counter of a lane's checker has on top of what is counted, while it compares (R382). -/
def State.chkLive (s : State) (i : Nat) : Nat :=
  if i < 1024 ∨ 4096 ≤ i then 0
  else
    match s.fab.lanes.find? (fun x => x.num = (i - 1024) / 6), (i - 1024) % 6 with
    | some x, 2 => (x.chkNow s.clk.now).1
    | some x, 3 => (x.chkNow s.clk.now).2
    | _, _ => 0

/-- The counter as its register shows it: OVF in bit 63, COUNT in [47:0]. -/
def State.counterWord (s : State) (i : Nat) : Nat :=
  let c := s.counter i
  let n := c.count + s.chkLive i
  n % 2 ^ 48 + at_ 63 (b1 (c.ovf || decide (2 ^ 48 ≤ n)))

/-- Clear OVF of an index. -/
def State.clearOvf (s : State) (i : Nat) : State :=
  { s with counters := updAll (fun c => c.index = i) (fun c => { c with ovf := false }) s.counters }

/-- The index of an endpoint counter (R529). -/
def cntEp (e k : Nat) : Nat := 64 + 16 * e + k
/-- The index of a host port counter. -/
def cntHif (h k : Nat) : Nat := 192 + 5 * h + k
/-- The index of a port counter. -/
def cntPort (p k : Nat) : Nat := 256 + 6 * p + k
/-- The index of a lane counter. -/
def cntLane (l k : Nat) : Nat := 1024 + 6 * l + k
/-- The index of a slice counter. -/
def cntSlice (n k : Nat) : Nat := 16 + 4 * n + k
/-- The index of a port and VC counter. -/
def cntVc (p v k : Nat) : Nat := 4096 + 32 * p + 4 * v + k
/-- The index of a port and VC queue sample sum. -/
def cntSample (p v k : Nat) : Nat := 8192 + 24 * p + 3 * v + k

/-- The counter index behind a register with fields OVF and COUNT (R529). -/
def counterIndexOf (r : Reg) (i : Nat) : Option Nat :=
  match r with
  | .swcStompCnt => some (cntSlice i 0)
  | .swcDropCnt => some (cntSlice i 1)
  | .swcMirrorDropCnt => some (cntSlice i 2)
  | .swcLeakCnt => some (cntSlice i 3)
  | .rteNorouteCnt => some 48
  | .rteHoplimitCnt => some 49
  | .pwrNoticeCnt => some 50
  | .pwrClassChgCnt => some 51
  | .pwrWakeCnt => some 52
  | .gteViolCnt => some 53
  | .cmdFabDropCnt => some 54
  | .hifDbErrCnt => some (cntHif i 0)
  | .hifLinkdownCnt => some (cntHif i 1)
  | .hifFlrCnt => some (cntHif i 2)
  | .hifPoisonCnt => some (cntHif i 3)
  | .hifCplTmoCnt => some (cntHif i 4)
  | .llrCrcErrCnt => some (cntPort i 0)
  | .llrReplayCnt => some (cntPort i 1)
  | .llrDownCnt => some (cntPort i 2)
  | .llrFlushCnt => some (cntPort i 3)
  | .llrStompRxCnt => some (cntPort i 4)
  | .llrEthDropCnt => some (cntPort i 5)
  | .lnsFecCorrCnt => some (cntLane i 0)
  | .lnsFecUncorrCnt => some (cntLane i 1)
  | .lnsChkBitsCnt => some (cntLane i 2)
  | .lnsChkErrCnt => some (cntLane i 3)
  | .lnsLocklossCnt => some (cntLane i 4)
  | .lnsAcqFailCnt => some (cntLane i 5)
  | _ => none

/-- The queue of a QID, unless UNUSED. -/
def State.queue? (s : State) (q : Nat) : Option Queue := s.qmg.queues.find? (fun x => x.qid = q)

/-- A job by its number. -/
def State.job? (s : State) (jid : Nat) : Option Job := s.qmg.jobs.find? (fun j => j.jid = jid)

/-- The SQ whose job a packet belongs to. -/
def State.opQueue (s : State) (op : OpRef) : Option Queue :=
  match op with
  | .job jid => (s.job? jid).bind (fun j => s.queue? j.qid)
  | _ => none

/-! ### Conditions of the device -/

/-- The device runs: STAGE is RUN and no deadbolt holds it (R448, R499). -/
def State.running (s : State) : Bool := decide (s.sys.stage = .run) && decide (s.sys.deadbolt = .none)

/-- The device is powered and no deadbolt holds it (R423, R440, R499). -/
def State.alive (s : State) : Bool := s.sys.pwrOk && decide (s.sys.deadbolt = .none)

/-- The endpoint side works: running and not halted (R72). -/
def State.epUp (s : State) : Bool := s.running && !s.sys.halt

/-- A PLL of a core die has failed: the die forwards nothing until a warm reset (R432). The memory PLL serves the HBM controller of CD0,
the management PLL the management cores of CD1 (R21). -/
def State.dieStopped (s : State) (die : Nat) : Bool :=
  s.clk.monitors.any (fun m => decide (m.state = 3) && (m.src == 2 + die || m.src == 4 + die || m.src == 7 - die))

/-- A step that happens only while the device runs; otherwise nothing changes (log 9). -/
def whenRunning (f : State → State) (s : State) : State := if s.running then f s else s

/-- The fabric side works: the device runs, or a warm reset restores and its ports acquire (R443). -/
def State.fabRunning (s : State) : Bool :=
  (decide (s.sys.stage = .run) || decide (s.sys.stage = .warmRestore)) && decide (s.sys.deadbolt = .none)

/-- A step of the fabric side (log 9). -/
def whenFab (f : State → State) (s : State) : State := if s.fabRunning then f s else s

/-- A step of the endpoint side: nothing happens while it is halted (R72, log 9). -/
def whenEp (f : State → State) (s : State) : State := if s.epUp then f s else s

/-- The value of an operand that names an instance or a case: the spec gives no event for a value outside its range, so such an operand
stands for one inside it that is a free value, `of` the number drawn (DESIGN CHOICE, log 128). -/
def pickOf (ok : Bool) (n : Nat) (of : Nat → Nat) (s : State) : Nat × State :=
  if ok then (n, s) else (of s.drawNat.1, s.drawNat.2)

/-- The instance that an operand names, of `count` that the part has (log 128). -/
def instOf (count n : Nat) (s : State) : Nat × State := pickOf (decide (n < count)) n (· % count) s

/-- A step on one of the instances of the part. -/
def onInstance (count n : Nat) (f : Nat → State → State) (s : State) : Host.Outcome State Fault Refusal :=
  .next (f (instOf count n s).1 (instOf count n s).2)

end Sys2Proof.Machine
end

