-- ==== Sys2Proof/Machine/Flags.lean ====
section
/-! DEFINITION. The fault hub, the audit log and the capture registers: what a report sets (R497, R498, R505-R512), and the
status codes of completions and commands (R94, R461). -/

namespace Sys2Proof.Machine

/-! ### Completion statuses (R94) -/
def stOk : Nat := 0x00
def stTruncated : Nat := 0x01
def stCanceled : Nat := 0x02
def stProtection : Nat := 0x03
def stKeyInvalid : Nat := 0x04
def stRange : Nat := 0x05
def stXltFault : Nat := 0x06
def stQueueError : Nat := 0x07
def stPeerUnreachable : Nat := 0x08
def stPeerRestarted : Nat := 0x09
def stMemberLost : Nat := 0x0A
def stRetryExceeded : Nat := 0x0B
def stDeviceHalted : Nat := 0x0C
def stAtomicUnsupported : Nat := 0x0D

/-! ### Command statuses (R461) -/
def csOk : Nat := 0x00
def csMalformed : Nat := 0x01
def csInvalid : Nat := 0x02
def csNotFound : Nat := 0x03
def csBusy : Nat := 0x04
def csNoResource : Nat := 0x05
def csProtection : Nat := 0x06
def csValidation : Nat := 0x07
def csAuthFailed : Nat := 0x08
def csXltFault : Nat := 0x09
def csReset : Nat := 0x0A
def csTimeout : Nat := 0x0B
def csPeer : Nat := 0x0C
def csHwFailure : Nat := 0x0D

/-! ### Fault kinds (R507) -/

/-- A fault kind of the table of R507. -/
inductive FKind where
  | lnsLockLost | lnsDegraded | llrCreditTimeout | llrCreditAudit | llrErrorRate | llrReplayLimit | llrSeqViolation
  | swcCellLeak | swcResidueStall | swcEccUncorrected | rteNoRoute | rteExceptionFull | trnRetryExceeded | trnPeerRestart
  | qmgMalformed | qmgContextEcc | cmdMalformed | xltWalkFault | xltWalkDevice | xltAdUpdateFail | gteViolation
  | mtcOverflow | chrMemberLost | lckAbandoned | engHang | memEccCorrected | memEccUncorrected | memChannelRetired
  | sramEccCorrected | pwrRailFault | pwrBudgetViolation | thermWarn | thermTrip | clkRefLost | clkOutOfWindow
  | secFwAuthFail | secTamper | secKeyIntegrity | hifLinkDown | hifPoisoned
  deriving DecidableEq, Repr

/-- The code of a kind. -/
def FKind.code : FKind → Nat
  | .lnsLockLost => 0x01 | .lnsDegraded => 0x02 | .llrCreditTimeout => 0x10 | .llrCreditAudit => 0x11
  | .llrErrorRate => 0x12 | .llrReplayLimit => 0x13 | .llrSeqViolation => 0x14 | .swcCellLeak => 0x20
  | .swcResidueStall => 0x21 | .swcEccUncorrected => 0x22 | .rteNoRoute => 0x28 | .rteExceptionFull => 0x29
  | .trnRetryExceeded => 0x30 | .trnPeerRestart => 0x31 | .qmgMalformed => 0x38 | .qmgContextEcc => 0x39
  | .cmdMalformed => 0x40 | .xltWalkFault => 0x48 | .xltWalkDevice => 0x49 | .xltAdUpdateFail => 0x4A
  | .gteViolation => 0x50 | .mtcOverflow => 0x58 | .chrMemberLost => 0x60 | .lckAbandoned => 0x68 | .engHang => 0x70
  | .memEccCorrected => 0x78 | .memEccUncorrected => 0x79 | .memChannelRetired => 0x7A | .sramEccCorrected => 0x80
  | .pwrRailFault => 0x88 | .pwrBudgetViolation => 0x89 | .thermWarn => 0x8A | .thermTrip => 0x8B | .clkRefLost => 0x90
  | .clkOutOfWindow => 0x91 | .secFwAuthFail => 0x98 | .secTamper => 0x99 | .secKeyIntegrity => 0x9A
  | .hifLinkDown => 0xA0 | .hifPoisoned => 0xA1

/-- The class of a kind, C0 to C4 (R507). -/
def FKind.cls : FKind → Nat
  | .lckAbandoned | .memEccCorrected | .sramEccCorrected => 0
  | .swcCellLeak | .rteNoRoute | .trnRetryExceeded | .trnPeerRestart | .qmgMalformed | .xltWalkFault | .xltWalkDevice
  | .xltAdUpdateFail | .gteViolation | .mtcOverflow | .chrMemberLost | .hifPoisoned => 1
  | .swcEccUncorrected | .cmdMalformed | .memEccUncorrected | .pwrRailFault | .clkRefLost | .clkOutOfWindow
  | .secFwAuthFail => 3
  | .thermTrip | .secTamper | .secKeyIntegrity => 4
  | .lnsLockLost | .lnsDegraded | .llrCreditTimeout | .llrCreditAudit | .llrErrorRate | .llrReplayLimit
  | .llrSeqViolation | .swcResidueStall | .rteExceptionFull | .qmgContextEcc | .engHang | .memChannelRetired
  | .pwrBudgetViolation | .thermWarn | .hifLinkDown => 2

/-- The class of a kind code; 0 for a reserved code. -/
def classOfCode (c : Nat) : Nat :=
  if c = 0x68 ∨ c = 0x78 ∨ c = 0x80 then 0
  else if c = 0x8B ∨ c = 0x99 ∨ c = 0x9A then 4
  else if c = 0x22 ∨ c = 0x40 ∨ c = 0x79 ∨ c = 0x88 ∨ c = 0x90 ∨ c = 0x91 ∨ c = 0x98 then 3
  else if c = 0x20 ∨ c = 0x28 ∨ c = 0x30 ∨ c = 0x31 ∨ c = 0x38 ∨ c = 0x48 ∨ c = 0x49 ∨ c = 0x4A ∨ c = 0x50 ∨ c = 0x58
    ∨ c = 0x60 ∨ c = 0xA1 then 1
  else 2

/-! ### Audit log (R497, R498) -/

/-- The words of an audit record (R497). -/
def auditWord (r : AuditRec) (i : Nat) : Nat :=
  match i with
  | 0 => at_ 48 r.event + at_ 36 r.mid + r.seq
  | 1 => r.detail.toNat
  | 2 => r.time
  | _ => r.chain.toNat

/-- Numbers of the keys beside those of the partitions: the owner key and the fabric management key (R490). -/
def ownerKeyNum : Nat := 0x10000
def fabricKeyNum : Nat := 0x10001

/-- The owner key as it lies sealed in flash, and what opens it again: AES-256-GCM under a key derived from the device-unique key (R490). -/
def sealOwner (bs : List Byte) : List Byte := gcmCrypt (derive256 Config.duk (Config.kdfInput 5 [])) Config.sealNonce bs

/-- The device-unique key can be used: the response to tampering blocks every path to it, until a power cycle (R499). -/
def State.dukOpen (s : State) : Bool := decide (s.sys.deadbolt ≠ .tamper)

/-- The bits of a key that is held, 32 bytes (R490); the sealed owner key cannot be opened without the device-unique key (R499). -/
def State.keyOf (s : State) (k : Nat) : List Byte :=
  let bs := (assoc k s.sec.keyBits).getD []
  if k ≠ ownerKeyNum then bs else if s.dukOpen then sealOwner bs else []

/-- Word 3 of an audit record: the first 64 bits of the HMAC over its words and the record before; 0 while no owner key is installed
(R497). The bytes of a word are taken least significant first (DESIGN CHOICE, log 145). -/
def auditMac (r : AuditRec) (s : State) : Word :=
  if !s.sec.ownerKey then 0
  else
    let key := derive256 (s.keyOf ownerKeyNum) (Config.kdfInput 2 [])
    let m := [auditWord r 0, auditWord r 1, auditWord r 2, s.sec.lastMac.toNat].flatMap (leBytes 8)
    word (ofBe ((hmac384 key m).take 8).reverse)

/-- Append one record whose EVENT and DETAIL are given (R497). -/
def auditPush (event mid : Nat) (detail : Word) (s : State) : State :=
  let r : AuditRec := { event := event, mid := mid, seq := s.sec.nextSeq, detail := detail, time := s.dtimeNs, chain := 0 }
  let mac := auditMac r s
  { s with sec := { s.sec with unread := s.sec.unread ++ [{ r with chain := mac }], nextSeq := (s.sec.nextSeq + 1) % 2 ^ 32, lastMac := mac } }

/-- The log holds 4,096 unread records. -/
def State.auditFull (s : State) : Bool := decide (4096 ≤ s.sec.unread.length)

/-- FULL_ACTION of SEC_AUDIT_CTRL. -/
def State.auditStops (s : State) : Bool := decide (s.fld .secAuditCtrl 0 8 8 = 1)

/-- Every command fails with BUSY: with FULL_ACTION 1 a full log has discarded a record, and none has been released since (R498). -/
def State.auditBlocks (s : State) : Bool := s.auditFull && s.auditStops && s.sec.lossNoted

/-- Add 1 to LOST, saturating (R498, R527). -/
def auditLose (s : State) : State :=
  { s with sec := { s.sec with lost := min 65535 (s.sec.lost + 1), lossNoted := true } }

/-- Write a record: on a full log the oldest is overwritten or the new one discarded (R498). -/
def auditStore (event mid : Nat) (detail : Word) (s : State) : State :=
  if s.auditFull then
    if s.auditStops then auditLose s
    else
      let s := auditLose s
      auditPush event mid detail { s with sec := { s.sec with unread := s.sec.unread.drop 1 } }
  else auditPush event mid detail s

/-- Record an audit event; the first record written after a loss is EVENT 0x0060 (R498). -/
def audit (event mid : Nat) (detail : Nat) (s : State) : State :=
  let s :=
    if s.sec.lossNoted && !(s.auditFull && s.auditStops) then
      auditStore 0x0060 mid (word s.sec.lost) { s with sec := { s.sec with lossNoted := false } }
    else s
  auditStore event mid (word detail) s

/-- An SPDM secured session of a channel ends (R494, R497). -/
def endSession (c : Nat) (s : State) : State :=
  if c ∈ s.sec.sessions then audit 0x0071 0 c { s with sec := { s.sec with sessions := s.sec.sessions.filter (· ≠ c) } } else s

/-! ### The fault hub (R505-R512) -/

/-- Low word of a fault message (R505). -/
def faultLo (k : FKind) (addr : Nat) : Nat := at_ 60 k.cls + at_ 52 k.code + addr % 2 ^ 52

/-- High word of a fault message: SOURCE in [59:48], TIME in [47:0] (R505). -/
def faultHi (source inst time : Nat) : Nat := at_ 55 (source % 32) + at_ 48 (inst % 128) + time % 2 ^ 48

/-- Of two messages of one cycle the first goes before the second: the higher class, then the lower KIND, then the lower SOURCE (R508). -/
def hubBefore (lo hi lo' hi' : Nat) : Bool :=
  let c := bits lo 63 60
  let c' := bits lo' 63 60
  let k := bits lo 59 52
  let k' := bits lo' 59 52
  decide (c' < c) || (decide (c = c') && (decide (k < k') || (decide (k = k') && decide (bits hi 59 48 < bits hi' 59 48))))

/-- Latch the message, or count the one that is not latched; messages of one DTIME are of one cycle (R508, log 163). -/
def hubLatch (lo hi : Nat) (s : State) : State :=
  let lo' := s.raw .fltFirstLo 0 0
  let hi' := s.raw .fltFirstHi 0 0
  let latch : State := (s.setReg .fltFirstLo 0 0 lo).setReg .fltFirstHi 0 0 (2 ^ 63 + hi)
  if bit hi' 63 then
    let s := if bits hi 47 0 = bits hi' 47 0 ∧ hubBefore lo hi lo' hi' then latch else s
    s.setReg .fltOverflow 0 0 (2 ^ 63 + min (2 ^ 32 - 1) (s.fld .fltOverflow 0 31 0 + 1))
  else latch

/-- Count the class and set the pending bit (R509, R510). -/
def hubCount (k : FKind) (s : State) : State :=
  let s := s.setReg .fltClassCnt 0 k.cls (min (2 ^ 32 - 1) (s.fld .fltClassCnt k.cls 31 0 + 1))
  { s with pend := if k.code ∈ s.pend then s.pend else k.code :: s.pend }

/-- What the hub does with every message: latch, counters, pending bit, audit record (R508-R512). -/
def hubTake (k : FKind) (source inst addr : Nat) (s : State) : State :=
  let lo := faultLo k addr
  let s := hubCount k (hubLatch lo (faultHi source inst s.dtimeNs) s)
  if bit (s.fld .secAuditCtrl 0 4 0) k.cls then audit 0x0040 0 lo s else s

/-- FAULT_N is low: a pending kind of a selected class, a boot error, or a tamper response (R511, R448, R499). -/
def State.faultLow (s : State) : Bool :=
  s.sys.faultNForced
    || s.pend.any (fun c => decide (classOfCode c = 4) || bit (s.fld .fltPinMask 0 3 0) (classOfCode c))

end Sys2Proof.Machine
end

