-- ==== Sys2Proof/Machine/Operands.lean ====
section
/-! DEFINITION. The layouts of what software and the wire exchange with the device: descriptors, completion and event records,
command statuses, doorbells, fragments, payload bytes (R34, R38, R76-R87, R95, R457-R460). -/

namespace Sys2Proof.Machine

/-- The bytes that a host read brought before it failed, if it did (R399). -/
def came : HostResult → List Byte
  | .data bs => bs
  | .cut bs _ => bs
  | _ => []

/-! ### Bytes (R11) -/

/-- n bytes of a number, byte 0 first. -/
def toBytes : Nat → Nat → List Byte
  | 0, _ => []
  | n + 1, v => BitVec.ofNat 8 v :: toBytes n (v / 256)

/-- The number of little-endian bytes. -/
def ofBytes : List Byte → Nat
  | [] => 0
  | b :: l => b.toNat + 256 * ofBytes l

/-- Little-endian 64-bit words of bytes (R11), n of them. -/
def wordsOf : Nat → List Byte → List Word
  | 0, _ => []
  | n + 1, l => word (ofBytes (l.take 8)) :: wordsOf n (l.drop 8)

/-- The bytes of words. -/
def bytesOf (ws : List Word) : List Byte := ws.flatMap (fun w => toBytes 8 w.toNat)

/-! ### Positions and phase (R33, R34) -/

/-- Ring index of a position in a ring of 2^k entries. -/
def ringIndex (p : Pos) (k : Nat) : Nat := p.toNat % 2 ^ k

/-- The phase bit that an entry at a position carries when written: 1 on even laps. -/
def phaseOf (p : Pos) (k : Nat) : Bool := decide (p.toNat / 2 ^ k % 2 = 0)

/-- The distance a − b modulo 2^32. -/
def dist (a b : Pos) : Nat := (a - b).toNat

/-! ### Descriptor fields (R76-R79) -/

/-- Word i of an entry; 0 when the entry is shorter. -/
def wd (ws : List Word) (i : Nat) : Nat := (ws[i]?).elim 0 (·.toNat)

def dPhase (ws : List Word) : Bool := bit (wd ws 0) 63
def dFirst (ws : List Word) : Bool := bit (wd ws 0) 62
def dLast (ws : List Word) : Bool := bit (wd ws 0) 61
def dCqe (ws : List Word) : Bool := bit (wd ws 0) 60
def dFence (ws : List Word) : Bool := bit (wd ws 0) 59
def dSolicited (ws : List Word) : Bool := bit (wd ws 0) 58
def dImm (ws : List Word) : Bool := bit (wd ws 0) 57
def dInline (ws : List Word) : Bool := bit (wd ws 0) 56
def dFtab (ws : List Word) : Bool := bit (wd ws 0) 55
def dOp (ws : List Word) : Nat := bits (wd ws 0) 52 48
def dWrId (ws : List Word) : Nat := bits (wd ws 0) 47 0
def dPeer (ws : List Word) : Nat := bits (wd ws 1) 63 32
def dLen (ws : List Word) : Nat := bits (wd ws 1) 31 0
def dLaddr (ws : List Word) : Nat := wd ws 2
def dLkey (ws : List Word) : Nat := bits (wd ws 3) 63 32
def dImmData (ws : List Word) : Nat := bits (wd ws 3) 31 0
def dW4 (ws : List Word) : Nat := wd ws 4
def dRkey (ws : List Word) : Nat := bits (wd ws 5) 63 32
def dW5lo (ws : List Word) : Nat := bits (wd ws 5) 31 0
def dTqid (ws : List Word) : Nat := bits (wd ws 5) 19 0
def dCtx (ws : List Word) : Nat := bits (wd ws 5) 15 0
def dSubop (ws : List Word) : Nat := bits (wd ws 5) 31 28
def dWidthCode (ws : List Word) : Nat := bits (wd ws 5) 27 24
def dAnyTag (ws : List Word) : Bool := bit (wd ws 5) 29
def dAnySource (ws : List Word) : Bool := bit (wd ws 5) 28
def dColl (ws : List Word) : Nat := bits (wd ws 5) 31 28
def dOper (ws : List Word) : Nat := bits (wd ws 5) 27 24
def dDtype (ws : List Word) : Nat := bits (wd ws 5) 23 20
def dGroup (ws : List Word) : Nat := bits (wd ws 5) 11 0
def dPrio (ws : List Word) : Nat := bits (wd ws 5) 31 28
def dLock (ws : List Word) : Nat := bits (wd ws 5) 13 0

/-- Opcodes of R77. -/
def opNop : Nat := 0x00
def opSend : Nat := 0x01
def opTsend : Nat := 0x02
def opPut : Nat := 0x03
def opGet : Nat := 0x04
def opAtomic : Nat := 0x05
def opRecv : Nat := 0x06
def opTrecv : Nat := 0x07
def opTcancel : Nat := 0x08
def opChorus : Nat := 0x09
def opLockAcquire : Nat := 0x0A
def opLockRelease : Nat := 0x0B
def opRecvImm : Nat := 0x10
def opCont : Nat := 0x1F

/-- Inline payload: bytes 48 to 48 + LENGTH − 1 (R81). -/
def dInlineData (ws : List Word) : List Byte := (bytesOf ((ws.drop 6).take 2)).take (dLen ws)

/-- The two words of a fragment entry (R82). -/
def fragOf (w0 w1 : Nat) : Frag := { addr := w0, key := bits w1 63 32, fin := bit w1 31, len := bits w1 30 0 }

/-- The words of a fragment entry. -/
def fragWords (f : Frag) : List Word := [word f.addr, word (at_ 32 f.key + at_ 31 (b1 f.fin) + f.len)]

/-- The three fragment slots of a CONT entry (R78, R84). -/
def contSlots (ws : List Word) : List Frag :=
  [fragOf (wd ws 2) (wd ws 3), fragOf (wd ws 4) (wd ws 5), fragOf (wd ws 6) (wd ws 7)]

/-- A slot that is all zero. -/
def Frag.isZero (f : Frag) : Bool := decide (f = { addr := 0, key := 0, fin := false, len := 0 })

/-- The fragments up to and including the one that carries END, and those after it; none when no END. -/
def splitEnd : List Frag → Option (List Frag × List Frag)
  | [] => none
  | f :: l => if f.fin then some ([f], l) else (splitEnd l).map (fun (a, b) => (f :: a, b))

/-- Fragments of the entries of a table, in order. -/
def fragsOf : List Word → List Frag
  | w0 :: w1 :: l => fragOf w0.toNat w1.toNat :: fragsOf l
  | _ => []

/-! ### Malformed descriptors (R70, R83-R86, R587) -/

/-- Word 4 must be 0 unless the opcode uses it (R78). -/
def w4Used (op : Nat) : Bool := op == opTsend || op == opPut || op == opGet || op == opAtomic || op == opTrecv
  || op == opTcancel || op == opChorus

/-- The fields that R76, R78 and R79 require to be 0, and the encodings of W5, for a FIRST entry. A field that the table of R78 names for
the opcode may hold anything where the entry does not use it. Bits that stand beside a named sub-field of R78 or R79, with no name and no
dash of their own, must be 0 too (DESIGN CHOICE, log 129). -/
def fieldsBad (ws : List Word) : Bool :=
  let op := dOp ws
  let w1hi := dPeer ws
  let w3lo := dImmData ws
  let w5lo := dW5lo ws
  let data := op == opSend || op == opTsend || op == opPut
  let peered := data || op == opGet || op == opAtomic || op == opTrecv || op == opLockAcquire || op == opLockRelease
  let lens := data || op == opGet || op == opRecv || op == opTrecv || op == opChorus
  let buffered := lens || op == opAtomic
  let immOk := data || op == opAtomic
  decide (bits (wd ws 0) 54 53 ≠ 0)
    || (peered && decide (w1hi / 2 ^ 27 ≠ 0))
    || (op == opChorus && decide (w1hi / 2 ^ 18 ≠ 0))
    || (!peered && !(op == opChorus) && decide (w1hi ≠ 0))
    || (!lens && decide (dLen ws ≠ 0))
    || (!buffered && decide (dLaddr ws ≠ 0 ∨ dLkey ws ≠ 0))
    || (!immOk && decide (w3lo ≠ 0))
    || (!w4Used op && decide (dW4 ws ≠ 0))
    || (op == opTcancel && decide (dW4 ws / 2 ^ 48 ≠ 0))
    || (!(op == opPut || op == opGet || op == opAtomic || op == opChorus) && decide (dRkey ws ≠ 0))
    || (!data && !(op == opAtomic) && decide (wd ws 6 ≠ 0 ∨ wd ws 7 ≠ 0))
    -- W5[31:0] by opcode (R79)
    || (op == opSend && decide (w5lo / 2 ^ 20 ≠ 0))
    || (op == opPut && decide (w5lo / 2 ^ 20 ≠ 0 ∨ (!dImm ws ∧ w5lo ≠ 0)))
    || (op == opAtomic && decide (dSubop ws > 5 ∨ dWidthCode ws > 1 ∨ bits w5lo 23 20 ≠ 0 ∨ (!dImm ws ∧ dTqid ws ≠ 0)))
    || (op == opTsend && decide (w5lo / 2 ^ 16 ≠ 0))
    || (op == opTrecv && decide (bits w5lo 31 30 ≠ 0 ∨ bits w5lo 27 16 ≠ 0))
    || (op == opTcancel && decide (w5lo / 2 ^ 16 ≠ 0))
    || (op == opChorus && decide (dColl ws > 5 ∨ dOper ws > 7 ∨ dDtype ws > 7 ∨ bits w5lo 19 12 ≠ 0))
    || (op == opLockAcquire && decide (bits w5lo 27 14 ≠ 0))
    || (op == opLockRelease && decide (w5lo / 2 ^ 14 ≠ 0))
    || ((op == opNop || op == opGet || op == opRecv) && decide (w5lo ≠ 0))

/-- An opcode may appear on a queue kind (R77). -/
def opAllowed (srq : Bool) (op : Nat) : Bool :=
  if srq then op == opRecv || op == opCont
  else decide (op ≤ 0x05) || (decide (0x07 ≤ op) && decide (op ≤ 0x0B)) || op == opCont

/-- Opcodes that may have CONT entries or a fragment table (R83, R84). -/
def opFragments (op : Nat) : Bool :=
  op == opSend || op == opTsend || op == opPut || op == opGet || op == opRecv || op == opTrecv

/-- A FIRST entry is malformed by itself (R86), on a queue of the given kind and job mode. -/
def firstMalformed (srq chain : Bool) (ws : List Word) : Bool :=
  let op := dOp ws
  let data := op == opSend || op == opTsend || op == opPut
  !opAllowed srq op || op == opCont || fieldsBad ws
    || (op != opChorus && decide (dLen ws ≥ 2 ^ 31))
    || (dInline ws && (decide (dLen ws > 16) || dFtab ws || !data))
    || (dImm ws && !(data || op == opAtomic))
    || ((op == opPut || op == opAtomic) && dImm ws && decide (dTqid ws = 0))
    || (op == opSend && decide (dTqid ws = 0))
    || (dFtab ws && (chain || !opFragments op || decide (dLaddr ws % 16 ≠ 0)))
    || (op == opAtomic && decide (dW4 ws % (if dWidthCode ws = 1 then 16 else 8) ≠ 0))
    || (op == opChorus && decide (4 ≤ dDtype ws ∧ 3 ≤ dOper ws ∧ dOper ws ≤ 5))
    || !dFirst ws || (!chain && !dLast ws)

/-- A CONT entry breaks R76 or R84 by itself: its opcode, its WR_ID, FIRST set, reserved or flag bits, or W1 not 0. -/
def contMalformed (wrId : Nat) (ws : List Word) : Bool :=
  !(dOp ws == opCont) || decide (dWrId ws ≠ wrId) || dFirst ws || decide (bits (wd ws 0) 54 53 ≠ 0)
    || dInline ws || dFtab ws || decide (wd ws 1 ≠ 0)

/-- The fragments of a chain, or none when its slots break R82, R84 or R86: END missing, a used slot of LEN 0, a slot after END
that is not zero, or lengths that do not sum to LENGTH. -/
def chainFrags (first : List Word) (conts : List (List Word)) : Option (List Frag) :=
  match splitEnd (conts.flatMap contSlots) with
  | none => none
  | some (used, rest) =>
    if used.all (fun f => decide (f.len ≠ 0)) && rest.all Frag.isZero && decide (sumBy (·.len) used = dLen first) then some used
    else none

/-- The fragments of a table (R83), or none when it is inconsistent. -/
def tableFrags (len : Nat) (ws : List Word) : Option (List Frag) :=
  match splitEnd ((fragsOf ws).take 256) with
  | none => none
  | some (used, _) =>
    if used.all (fun f => decide (f.len ≠ 0)) && decide (sumBy (·.len) used = len) then some used else none

/-! ### Records -/

/-- The four words of a completion record (R87). -/
def cqWords (r : CqRec) (ciLo : Nat) (phase : Bool) : List Word :=
  [ word (at_ 48 (ciLo % 2 ^ 16) + r.wrId % 2 ^ 48),
    r.data,
    word (at_ 32 ((r.imm.map (·.toNat)).getD 0) + r.bytes % 2 ^ 32),
    word (at_ 63 (b1 phase) + at_ 62 (b1 r.imm.isSome) + at_ 61 (b1 r.solicited) + at_ 60 (b1 r.batch)
      + at_ 52 r.status + at_ 47 r.opcode + at_ 20 (r.peerFa % 2 ^ 27) + r.qid) ]

/-- The four words of an event record (R95). -/
def evWords (e : Event) (phase : Bool) : List Word :=
  [e.data0, e.data1, word e.time, word (at_ 63 (b1 phase) + at_ 48 e.kind + e.qid)]

/-- The four words of a command status (R460). -/
def statusWords (r0 r1 time opcode status detail tag : Nat) (phase : Bool) : List Word :=
  [ word r0, word r1, word time,
    word (at_ 63 (b1 phase) + at_ 48 opcode + at_ 40 status + at_ 16 (detail % 2 ^ 24) + tag) ]

/-- Event kinds (R96). -/
def evCqNotify : Nat := 0x01
def evQueueError : Nat := 0x02
def evCqOverrun : Nat := 0x03
def evQueueOverflow : Nat := 0x04
def evQueueDrained : Nat := 0x05
def evPortDown : Nat := 0x10
def evPortUp : Nat := 0x11
def evPortDegraded : Nat := 0x12
def evPeerRestarted : Nat := 0x13
def evPeerUnreachable : Nat := 0x14
def evChorusLost : Nat := 0x15
def evLockBoost : Nat := 0x16
def evXltFault : Nat := 0x17
def evDeviceFault : Nat := 0x20
def evResumed : Nat := 0x21

/-! ### Commands (R457) -/

/-- The arguments of a 64-byte command: words 0–7 (R457, R459). -/
def cmdOf (ws : List Word) : CmdArgs :=
  { remote := bit (wd ws 0) 55, fence := bit (wd ws 0) 54, rsv := bits (wd ws 0) 53 52, mid := bits (wd ws 0) 51 40, target := bits (wd ws 0) 39 16, tag := bits (wd ws 0) 15 0, badOp := some (bits (wd ws 0) 63 56), w1 := word (wd ws 1), w2 := word (wd ws 2), w3 := word (wd ws 3), w4 := word (wd ws 4), w5 := word (wd ws 5), w6 := word (wd ws 6), w7 := word (wd ws 7) }

/-- OPCODE of a command. -/
def cmdOpcode (ws : List Word) : Nat := bits (wd ws 0) 63 56

/-- The parameter words W1–W7. -/
def argWords (a : CmdArgs) : List Word := [a.w1, a.w2, a.w3, a.w4, a.w5, a.w6, a.w7]

/-- The eight words of a command under an opcode. -/
def cmdWords (op : Nat) (a : CmdArgs) : List Word :=
  word (at_ 56 op + at_ 55 (b1 a.remote) + at_ 54 (b1 a.fence) + at_ 52 a.rsv + at_ 40 a.mid + at_ 16 a.target + a.tag)
    :: [a.w1, a.w2, a.w3, a.w4, a.w5, a.w6, a.w7]

/-- The words of a command packet beyond its routing part: KIND and the sequence number, a zero word, the command or the status, and the
integrity tag (R465). -/
def commandWords (dst kind seq : Nat) (ws : List Word) : List Word :=
  let body := word (at_ 56 kind + seq) :: (0 : Word) :: ws
  body ++ [Config.commandTag dst body 0, Config.commandTag dst body 1]

end Sys2Proof.Machine
end

