-- ==== Sys2Proof/Machine/Wire.lean ====
section
/-! DEFINITION. The bytes of what the device sends on the fabric: packets and link frames (R195, R275, R300, R337, R338). -/

namespace Sys2Proof.Machine

/-! ### Packets (R195, R275, R300) -/

/-- Bytes of a packet on the wire (R195, R300). -/
def pktLen (p : Packet) : Nat :=
  32 + (if p.first || decide (0x15 ≤ p.ptype) || (p.ptype == 0x03 && p.last && p.data.isEmpty) then 16 else 0) + p.data.length
    + (if p.prot then 16 else 0)

/-- Cells of 128 bytes that a packet takes. -/
def pktCells (p : Packet) : Nat := (pktLen p + 127) / 128

/-- A packet has an operation header or a control body (R197, R199). -/
def hasHeader (p : Packet) : Bool := p.first || decide (0x15 ≤ p.ptype) || (p.ptype == 0x03 && p.last && p.data.isEmpty)

/-- The transport part of a packet, and the operation header or control body that follows it (R195-R199). -/
def transportHead (p : Packet) : List Byte :=
  let t0 := at_ 59 p.ptype + at_ 58 (b1 p.first) + at_ 57 (b1 p.last) + at_ 56 (b1 p.retx) + at_ 55 (b1 p.prot)
    + at_ 54 (b1 p.immValid) + at_ 53 (b1 p.solicited) + at_ 52 (b1 p.kind) + at_ 32 p.aux + p.psn.toNat
  let ctl := decide (0x15 ≤ p.ptype)
  let t1 := if ctl then at_ 32 p.srcInc + p.dstInc % 65536
    else at_ 48 p.pkey + at_ 36 p.group + at_ 16 (p.srcInc % 65536) + p.dstInc % 65536
  let t0 := if ctl then at_ 59 p.ptype + at_ 32 p.tc + p.psn.toNat else t0
  toBytes 8 t0 ++ toBytes 8 t1 ++ (if hasHeader p then toBytes 8 p.e0.toNat ++ toBytes 8 p.e1.toNat else [])

/-- Bytes of the transport part and what follows it: under payload protection the enciphered payload and its tag (R195, R221). -/
def transportBytes (p : Packet) : List Byte := transportHead p ++ (if p.prot then p.sealed else p.data)

/-- Word 1 of a routing part (R275). -/
def routingWord1 (p : SwPkt) : Nat :=
  at_ 61 p.vc + at_ 59 p.tc + at_ 58 (b1 p.pin) + at_ 56 (p.salt % 4) + at_ 52 p.detoured + at_ 51 (b1 p.ce) + at_ 50 (b1 p.mcast)
    + at_ 48 p.mdim + at_ 44 p.mtype + at_ 40 p.hops

/-- The bytes of a packet (R195, R275). -/
def swBytes (p : SwPkt) : List Byte :=
  match p.body with
  | .frame b => b
  | .packet q => toBytes 8 (at_ 32 p.dst + p.src) ++ toBytes 8 (routingWord1 p) ++ transportBytes q
  | .words ws => toBytes 8 (at_ 32 p.dst + p.src) ++ toBytes 8 (routingWord1 p) ++ bytesOf ws

/-! ### CRCs (R338) -/

/-- A CRC of a width without reflection or final XOR, over bits given first-sent first (R338). -/
def crcBits (width poly : Nat) : Nat → List Bool → Nat
  | r, [] => r
  | r, b :: l =>
    let top := bit r (width - 1)
    let r' := (2 * r) % 2 ^ width
    crcBits width poly (if top != b then Nat.xor r' poly else r') l

def bitsOf (bs : List Byte) : List Bool := bs.flatMap (fun b => (List.range 8).map (fun i => b.getLsbD (7 - i)))

/-- HCRC of a link header whose CRC field is 0: bytes 0-13. -/
def hcrc (h0 h1 : Nat) : Nat := crcBits 16 0x8BB7 0xFFFF (bitsOf (toBytes 8 h0 ++ (toBytes 8 h1).take 6))

/-- FCRC and MCRC (R338). -/
def fcrc (bs : List Byte) : Nat := crcBits 32 0x1EDC6F41 0xFFFFFFFF (bitsOf bs)

/-- The FCS of an Ethernet frame, first byte sent first: the CRC-32 of IEEE 802.3, each byte least significant bit first (R360, R361). -/
def ethFcs (b : List Byte) : List Byte :=
  let r := crcBits 32 0x04C11DB7 0xFFFFFFFF (b.flatMap (fun x => (List.range 8).map (fun i => x.getLsbD i)))
  (List.range 4).map (fun i => BitVec.ofNat 8 (sumBy (fun j => b1 (!bit r (31 - 8 * i - j)) * 2 ^ j) (List.range 8)))

/-! ### Data frames (R337) -/

/-- The bytes of a DATA frame: link header, with ACK_SEQ where ACK_V is 1, the packet zero-padded to a multiple of 8 bytes, and the
trailer, which ends GOOD or with the stomp marker. -/
def frameBytes (vc seq : Nat) (ack : Option Nat) (p : SwPkt) (stomp : Bool) : List Byte :=
  let h0 := at_ 57 vc + at_ 56 (b1 ack.isSome) + at_ 40 seq + at_ 24 (ack.getD 0) + p.len % 8192
  let body := swBytes p
  let f := toBytes 8 h0 ++ toBytes 8 (at_ 48 (hcrc h0 0)) ++ body ++ List.replicate ((8 - body.length % 8) % 8) 0
  f ++ toBytes 8 (at_ 32 (fcrc f) + at_ 24 (if stomp then 0x5A else 0xA5))

end Sys2Proof.Machine
end

