-- ==== Sys2Proof/Machine/Coding.lean ====
section
/-! DEFINITION. The lane coding of THEDEX and BRODANATER ports: the Reed-Solomon codes, scrambling, PAM4 symbols, training frames and
test patterns (R366, R370, R382). -/

namespace Sys2Proof.Machine

/-! ### GF(2^10) (R366) -/

/-- Multiply by α: the root of x^10 + x^3 + 1. -/
def gfStep (a : Nat) : Nat := if 1024 ≤ 2 * a then Nat.xor (2 * a) 0x409 else 2 * a

/-- a times the low n bits of b. -/
def gfMulBits : Nat → Nat → Nat → Nat
  | 0, _, _ => 0
  | n + 1, a, b => Nat.xor (if b % 2 = 1 then a else 0) (gfMulBits n (gfStep a) (b / 2))

def gfMul (a b : Nat) : Nat := gfMulBits 10 a b

/-- α to the power i. -/
def gfExp : Nat → Nat
  | 0 => 1
  | i + 1 => gfStep (gfExp i)

/-- The inverse: a to the power 1022. -/
def gfInvFrom : Nat → Nat → Nat
  | 0, _ => 1
  | n + 1, a => gfMul a (gfInvFrom n (gfMul a a))

def gfInv (a : Nat) : Nat := gfInvFrom 9 (gfMul a a)

/-- Sum of two polynomials of the same number of coefficients. -/
def gfAdd (p q : List Nat) : List Nat := List.zipWith Nat.xor p q

/-- Value of a polynomial, highest coefficient first. -/
def gfEval (p : List Nat) (x : Nat) : Nat := p.foldl (fun v c => Nat.xor (gfMul v x) c) 0

/-! ### The Reed-Solomon codes (R366) -/

/-- Parameters n and k of a code: RS(272,258) or RS(544,514). -/
def rsN (short : Bool) : Nat := if short then 272 else 544
def rsK (short : Bool) : Nat := if short then 258 else 514

/-- The generator polynomial with roots α^0 to α^(m-1), highest coefficient first. -/
def rsGenerator : Nat → List Nat
  | 0 => [1]
  | m + 1 => let g := rsGenerator m; gfAdd (g ++ [0]) (0 :: g.map (gfMul (gfExp m)))

/-- The m parity symbols of a message. -/
def rsParity (m : Nat) (msg : List Nat) : List Nat :=
  let g := (rsGenerator m).drop 1
  msg.foldl (fun r c =>
    let fb := Nat.xor (r.headD 0) c
    gfAdd (r.drop 1 ++ [0]) (g.map (gfMul fb))) (List.replicate m 0)

/-- The systematic codeword of a message. -/
def rsEncode (short : Bool) (msg : List Nat) : List Nat := msg ++ rsParity (rsN short - rsK short) msg

/-- The m syndromes of a received word. -/
def rsSyndromes (m : Nat) (w : List Nat) : List Nat := (List.range m).map (fun i => gfEval w (gfExp i))

/-- State of the Berlekamp-Massey algorithm: locator and its predecessor, lowest coefficient first, the number of errors, the last
discrepancy that was not 0, and the steps since. -/
structure Massey where
  c : List Nat
  b : List Nat
  l : Nat
  d : Nat
  m : Nat
  deriving DecidableEq, Repr

/-- p + k x^j q, lowest coefficient first. -/
def gfAddShift (p q : List Nat) (k j : Nat) : List Nat :=
  let t := List.replicate j 0 ++ q.map (gfMul k)
  (List.range (max p.length t.length)).map (fun i => Nat.xor ((p[i]?).getD 0) ((t[i]?).getD 0))

/-- One step of the algorithm, for syndrome number n. -/
def masseyStep (syn : List Nat) (x : Massey) (n : Nat) : Massey :=
  let d := (List.range (x.l + 1)).foldl
    (fun v i => if i ≤ n then Nat.xor v (gfMul ((x.c[i]?).getD 0) ((syn[n - i]?).getD 0)) else v) 0
  if d = 0 then { x with m := x.m + 1 }
  else
    let c := gfAddShift x.c x.b (gfMul d (gfInv x.d)) x.m
    if 2 * x.l ≤ n then { c := c, b := x.c, l := n + 1 - x.l, d := d, m := 1 } else { x with c := c, m := x.m + 1 }

/-- The error locator of some syndromes. -/
def rsLocator (syn : List Nat) : Massey :=
  (List.range syn.length).foldl (masseyStep syn) { c := [1], b := [1], l := 0, d := 1, m := 1 }

/-- Correct a received word: its codeword and the number of symbols corrected, or none when it has more errors than the code corrects. -/
def rsDecode (short : Bool) (w : List Nat) : Option (List Nat × Nat) :=
  let n := rsN short
  let m := n - rsK short
  let syn := rsSyndromes m w
  if w.length ≠ n then none
  else if syn.all (· = 0) then some (w, 0)
  else
    let x := rsLocator syn
    let omega := (List.range m).map (fun i =>
      (List.range (i + 1)).foldl (fun v j => Nat.xor v (gfMul ((x.c[j]?).getD 0) ((syn[i - j]?).getD 0))) 0)
    let slope := (List.range x.c.length).map (fun i => if i % 2 = 0 then (x.c[i + 1]?).getD 0 else 0)
    let fix := w.zipIdx.map (fun (a, i) =>
      let z := gfInv (gfExp (n - 1 - i))
      if gfEval x.c.reverse z = 0 then
        (Nat.xor a (gfMul (gfMul (gfExp (n - 1 - i)) (gfEval omega.reverse z)) (gfInv (gfEval slope.reverse z))), true)
      else (a, false))
    let v := fix.map (·.1)
    let k := (fix.filter (·.2)).length
    if k = x.l && decide (2 * k ≤ m) && (rsSyndromes m v).all (· = 0) then some (v, k) else none

/-! ### Bits, scrambling, symbols (R366) -/

/-- Ten bits of a symbol, the most significant first (log 155). -/
def symbolBits (a : Nat) : List Bool := (List.range 10).map (fun i => bit a (9 - i))

/-- The number that some bits spell, the most significant first. -/
def bitsNat (l : List Bool) : Nat := l.foldl (fun v b => 2 * v + b1 b) 0

/-- Cut a list into pieces of n items, the last of them shorter or empty left out. -/
def pieces {α : Type} (n : Nat) : Nat → List α → List (List α)
  | 0, _ => []
  | k + 1, l => if l.length < n ∨ n = 0 then [] else l.take n :: pieces n k (l.drop n)

/-- Bits of a shift-register sequence with taps at delays a > b (and more), from a register that holds the last bits, latest first. -/
def prbsFrom (taps : List Nat) : Nat → List Bool → List Bool
  | 0, _ => []
  | n + 1, reg =>
    let x := taps.foldl (fun v t => v != (reg[t - 1]?).getD false) false
    x :: prbsFrom taps n (x :: reg.take 31)

/-- The first n bits of PRBS31 from all ones. -/
def prbs31 (n : Nat) : List Bool := prbsFrom [31, 28] n (List.replicate 31 true)

/-- XOR with PRBS31 from its start. -/
def scramble (l : List Bool) : List Bool := List.zipWith (fun a b => a != b) l (prbs31 l.length)

/-- PAM4 level of a pair of bits, the first-sent one more significant. -/
def pam4 : Bool → Bool → Int
  | false, false => -3
  | false, true => -1
  | true, true => 1
  | true, false => 3

/-- The pair of bits of a PAM4 level. -/
def pam4Bits (v : Int) : List Bool := if v ≤ -2 then [false, false] else if v < 0 then [false, true] else if v < 2 then [true, true] else [true, false]

/-- The levels of some bits. -/
def pam4All : List Bool → List Int
  | a :: b :: l => pam4 a b :: pam4All l
  | _ => []

/-- The levels that a lane sends for a codeword. -/
def laneLevels (w : List Nat) : List Int := pam4All (scramble (w.flatMap symbolBits))

/-- The codeword symbols of received levels. -/
def laneSymbols (n : Nat) (l : List Int) : List Nat := (pieces 10 n (scramble (l.flatMap pam4Bits))).map bitsNat

/-! ### Training frames (R370) -/

/-- SCRC of a status word: over its bits 31-16. -/
def trainCrc (w : Nat) : Nat := crcBits 16 0x8BB7 0xFFFF ((List.range 16).map (fun i => bit w (31 - i)))

/-- The status word of a training frame: TAG, LANE, RX_READY, RATE and SCRC. -/
def trainStatus (lane : Nat) (ready : Bool) (rate : Nat) : Nat :=
  let hi := at_ 28 0xA + at_ 26 (lane % 4) + at_ 25 (b1 ready) + at_ 23 rate
  hi + trainCrc hi

/-- A received status word is one of a training frame at a rate: TAG, RATE and SCRC are right. -/
def trainGood (rate w : Nat) : Bool := decide (bits w 31 28 = 0xA) && decide (bits w 24 23 = rate) && decide (w % 65536 = trainCrc w)

/-- The 8,192 bits of a training frame: the sync word, the status word, each from its most significant bit (log 155), and 8,128 bits of
PRBS13, which goes on where the frame before it, number k, stopped. -/
def trainFrame (lane : Nat) (ready : Bool) (rate k : Nat) : List Bool :=
  let w := at_ 32 0xF0F03C3C + trainStatus lane ready rate
  let i := 8128 * k % 8191
  (List.range 64).map (fun j => bit w (63 - j)) ++ (prbsFrom [13, 12, 2, 1] (i + 8128) (List.replicate 31 true)).drop i

/-! ### Test patterns (R382) -/

/-- Taps of the PRBS generators by GEN code 1 to 6. -/
def testTaps : Nat → List Nat
  | 1 => [7, 6]
  | 2 => [9, 5]
  | 3 => [13, 12, 2, 1]
  | 4 => [15, 14]
  | 5 => [23, 18]
  | _ => [31, 28]

end Sys2Proof.Machine
end

