-- ==== Sys2Proof/Machine/FabOps.lean ====
section
/-! DEFINITION. Operations on the router side that several families share: ports and lanes by number, the cell accounts of a
slice, references to stored packets, the flush of a port (R299-R304, R335, R353, R355). -/

namespace Sys2Proof.Machine

/-! ### Ports, lanes, outputs -/

/-- The shared buffer updated. -/
def updFab (f : Fabric → Fabric) (s : State) : State := { s with fab := f s.fab }

/-- A periodic event falls due a period after the last of its kind: time passes until then. The phase of the first is not architectural
(DESIGN CHOICE, log 183). -/
def tick (code period : Nat) (s : State) : State :=
  let s := (assoc code s.fab.ticks).elim s (fun t => s.advanceTo (t + period))
  updFab (fun f => { f with ticks := assocSet code s.clk.now f.ticks }) s

/-- A fabric or service port by number. -/
def State.port (s : State) (n : Nat) : Port := (s.fab.ports.find? (fun p => p.num = n)).getD (Port.reset n)

def updFport (n : Nat) (f : Port → Port) (s : State) : State :=
  updFab (fun x => { x with ports := f (s.port n) :: x.ports.filter (fun p => p.num ≠ n) }) s

/-- A fabric lane by number. -/
def State.lane (s : State) (n : Nat) : Lane := (s.fab.lanes.find? (fun l => l.num = n)).getD (Lane.reset n)

def updLane (n : Nat) (f : Lane → Lane) (s : State) : State :=
  updFab (fun x => { x with lanes := f (s.lane n) :: x.lanes.filter (fun l => l.num ≠ n) }) s

/-- The modes of LLR_CTRL.MODE: 0 THEDEX, 1 BRODANATER, 2 ETHERNET (R335). -/
def modeOf (ctrl : Nat) : Nat := if bits ctrl 1 0 = 3 then 0 else bits ctrl 1 0

def State.mode (s : State) (n : Nat) : Nat := modeOf (s.raw .llrCtrl n 0)
def State.ethPort (s : State) (n : Nat) : Bool := decide (s.mode n = 2)
def State.portEnabled (s : State) (n : Nat) : Bool := decide (s.fldI .llrCtrl n 0 8 8 = 1)

/-- An Ethernet service port in service: enabled, with its lanes locked (R360, R377). -/
def State.ethUp (s : State) (n : Nat) : Bool := s.ethPort n && decide ((s.port n).state = .up)

/-- SEQ numbers of a port: modulo M (R340). -/
def State.seqMod (s : State) (n : Nat) : Nat := if s.mode n = 1 then 1024 else 65536

/-- (a - b) modulo m. -/
def subMod (m a b : Nat) : Nat := (a % m + m - b % m) % m

/-- Lanes in a map. -/
def mapCount (m : Nat) : Nat := sumBy (fun i => b1 (bit m i)) (List.range 4)

/-- An output's queues. -/
def State.egress (s : State) (o : Output) : Egress :=
  (s.fab.egress.find? (fun e => e.out = o)).getD
    { out := o, q := [], deficit := [0, 0, 0], visited := [false, false, false], cur := 2 }

def updEgress (o : Output) (f : Egress → Egress) (s : State) : State :=
  updFab (fun x => { x with egress := f (s.egress o) :: x.egress.filter (fun e => e.out ≠ o) }) s

/-- Replace item i of a list. -/
def setNth {α : Type} (i : Nat) (v : α) : List α → List α
  | [] => []
  | a :: l => match i with
    | 0 => v :: l
    | i + 1 => a :: setNth i v l

/-- Item i of a list of numbers; 0 beyond its end. -/
def nth (l : List Nat) (i : Nat) : Nat := (l[i]?).getD 0

/-! ### Cells and accounts (R300-R303) -/

/-- Cells of 128 bytes. -/
def cellsOf (len : Nat) : Nat := (len + 127) / 128

/-- Slice that serves a source (R299). -/
def sliceOf : Source → Nat
  | .port p => p / 16
  | .ep e => e
  | .cluster c => c
  | .mgmt => 7

/-- Slice of an output (R299). -/
def outSlice : Output → Nat
  | .port p => p / 16
  | .ep e => e
  | .cluster c => c
  | .mgmt => 7

/-- Cells reserved for a VC on each fabric port of a slice. -/
def State.vcReserve (s : State) (n v : Nat) : Nat :=
  max 33 (s.fldI .swcVcReserve n (v / 4) (16 * (v % 4) + 15) (16 * (v % 4)))

/-- Cells reserved for a VC for each internal source of a slice. -/
def State.intReserve (s : State) (n v : Nat) : Nat :=
  max 33 (s.fldI .swcIntReserve n (v / 4) (16 * (v % 4) + 15) (16 * (v % 4)))

/-- The reservation of a source for a VC. -/
def State.reserve (s : State) (src : Source) (v : Nat) : Nat :=
  match src with
  | .port p => s.vcReserve (p / 16) v
  | .ep e => s.intReserve e v
  | .cluster c => s.intReserve c v
  | .mgmt => if v = 7 then s.intReserve 7 7 else 0

/-- Cells of a slice's reservations and replay pool. -/
def State.reservedCells (s : State) (n : Nat) : Nat :=
  16 * sumBy (s.vcReserve n) (List.range 8) + 2 * sumBy (s.intReserve n) (List.range 8)
    + (if n = 7 then s.intReserve 7 7 else 0) + s.fldI .swcSharedCtrl n 0 17 0

/-- Cells of a slice that no failing row has taken (R525). -/
def State.sliceCells (s : State) (n : Nat) : Nat := 131072 - (s.mem.lostCells.filter (fun c => c.1 = n)).length

/-- The shared pool of a slice: all remaining cells (R301). -/
def State.sharedSize (s : State) (n : Nat) : Nat := s.sliceCells n - s.reservedCells n

/-- Cells that transport holds for an endpoint, of packets that came to it by no slice; the cells of the others stay where they are stored
(R202, R301, R304). -/
def State.holdCells (s : State) (ep : Nat) : Nat :=
  sumBy (fun p =>
    if p.key.ep = ep then p.recv.elim 0 (fun r => sumBy (fun q => if q.pid.isNone then pktCells q.pkt else 0) r.held) else 0)
    s.trn.peers

/-- A mirror copy of a packet exists, in a queue or on its way into an SRQ entry (R304, R311). -/
def State.mirrorRef (s : State) (pid : Nat) : Bool :=
  s.fab.egress.any (fun e => e.q.any (fun x => x.pid = pid && x.mirror))
    || s.svc.frames.any (fun f => f.2.1 = pid && s.qmg.jobs.any (fun j => decide (j.jid = f.1) && j.phase != .ended))

/-- Cells charged to the shared pool of a slice: packets, what mirror copies keep of others, and the hold. -/
def State.sharedUsed (s : State) (n : Nat) : Nat :=
  sumBy (fun x => if x.slice = n && ((x.shared && !x.ended) || s.mirrorRef x.pid) then x.cells else 0) s.fab.stored + s.holdCells n

/-- Shared cells that packets of a VC take in a slice. -/
def State.sharedVc (s : State) (n v : Nat) : Nat :=
  sumBy (fun x => if x.slice = n && x.shared && !x.ended && decide (x.vc = v) then x.cells else 0) s.fab.stored

/-- Cells charged to the replay pool of a slice: packets whose ingress charge has ended (R303). -/
def State.replayUsed (s : State) (n : Nat) : Nat :=
  sumBy (fun x => if x.slice = n && x.ended then x.cells else 0) s.fab.stored

/-- Cells of a reservation in use. -/
def State.reserveUsed (s : State) (src : Source) (v : Nat) : Nat :=
  sumBy (fun x => if decide (x.src = src) && decide (x.vc = v) && !x.shared && !x.ended then x.cells else 0) s.fab.stored

/-- Cells that reservations and the replay pool of a slice hold above their present sizes, after a hinge lowered them (R318). -/
def State.excess (s : State) (n : Nat) : Nat :=
  let keys := ((s.fab.stored.filter (fun x => x.slice = n && !x.shared && !x.ended)).map (fun x => (x.src, x.vc))).eraseDups
  sumBy (fun k => s.reserveUsed k.1 k.2 - s.reserve k.1 k.2) keys + (s.replayUsed n - s.fldI .swcSharedCtrl n 0 17 0)

/-- Cells of a slice that an audit pass has found neither free nor referenced, and has not yet declared leaked (R316). -/
def State.astray (s : State) (n : Nat) : Nat := (s.fab.suspects.filter (fun c => c.1 = n)).length

/-- Free cells of the shared pool: what the unused parts of the reservations do not need (R301). -/
def State.sharedFree (s : State) (n : Nat) : Nat := s.sharedSize n - s.sharedUsed n - s.excess n - s.astray n

/-- Cells in use in a slice, and its free list. -/
def State.usedCells (s : State) (n : Nat) : Nat :=
  sumBy (fun x => if x.slice = n then x.cells else 0) s.fab.stored + s.holdCells n

def State.freeCells (s : State) (n : Nat) : Nat := s.sliceCells n - s.usedCells n - s.astray n

/-- A charge may move to the shared pool (R302). -/
def State.shareOk (s : State) (n v cells : Nat) : Bool :=
  decide (cells ≤ s.sharedFree n)
    && decide (s.sharedVc n v * 64 < 2 ^ min 9 (s.fldI .swcSharedCtrl n 0 (4 * v + 35) (4 * v + 32)) * s.sharedFree n)

/-- Credit that a fabric port has granted for a VC and that no accepted frame has used (R349). -/
def State.creditOut (s : State) (p v : Nat) : Nat := subMod (2 ^ 24) (nth (s.port p).granted v) (nth (s.port p).received v)

/-- Cells of a fabric port's reservation that no whole packet takes. -/
def State.reserveLeft (s : State) (p v : Nat) : Nat :=
  s.reserve (.port p) v
    - sumBy (fun x => if decide (x.src = .port p) && decide (x.vc = v) && x.whole && !x.shared && !x.ended then x.cells else 0) s.fab.stored

/-- Cells of a fabric port's credit on a VC that no packet takes yet, the head of one that has arrived apart. -/
def State.promised (s : State) (p v : Nat) : Nat :=
  s.creditOut p v - sumBy (fun x => if decide (x.src = .port p) && decide (x.vc = v) && !x.whole then x.cells else 0) s.fab.stored

/-- Free cells of a slice that its ports' credit has not promised to a partner. -/
def State.slack (s : State) (n : Nat) : Nat :=
  s.freeCells n - sumBy (fun p => sumBy (s.promised (16 * n + p)) (List.range 8)) (List.range 16)

/-- The shared pool of a slice is over its size, after a hinge raised reservations (R301, R318). -/
def State.overdrawn (s : State) (n : Nat) : Bool := decide (s.sharedSize n < s.sharedUsed n + s.excess n + s.astray n)

/-- Return credit to the upstream router: what the reservation has left and is not granted yet, so cells above a lowered
reservation return none (R302, R318, R349). While the shared pool is over its size after a hinge raised reservations, no more than
the free list can honour (R301). -/
def grantCells (src : Source) (v : Nat) (s : State) : State :=
  match src with
  | .port p =>
    let want := s.reserveLeft p v - s.creditOut p v
    let n := p / 16
    let more := if want = 0 ∨ !s.overdrawn n then want else min want (s.slack n)
    if more = 0 then s else updFport p (fun x => { x with granted := setNth v ((nth x.granted v + more) % 2 ^ 24) x.granted }) s
  | _ => s

/-- Try to move one packet's charge to the shared pool (R302); a line multicast stays on its source's reservation (R309). Credit for a
packet that is not whole yet returns when it is accepted. -/
def shareOne (x : Stored) (s : State) : State :=
  if !x.shared && !x.ended && !x.mcast && s.shareOk x.slice x.vc x.cells then
    let s := updFab (fun f => { f with stored := updFirst (fun y => y.pid = x.pid) (fun y => { y with shared := true }) f.stored }) s
    if x.whole then grantCells x.src x.vc s else s
  else s

/-! ### References (R303, R304) -/

/-- A packet waits in an egress queue, copies for a mirror apart (R303, R311). -/
def State.queuedRef (s : State) (pid : Nat) : Bool := s.fab.egress.any (fun e => e.q.any (fun x => x.pid = pid && !x.mirror))

/-- A replay window holds the packet's cells. -/
def State.replayRef (s : State) (pid : Nat) : Bool := s.fab.ports.any (fun p => p.win.any (fun w => w.pid = pid && !w.spilled))

/-- The OPSEQ of a group that 32 bits of it stand for: the one nearest to the oldest not completed (R238, R247). -/
def Group.seq (g : Group) (v : Nat) : Nat :=
  let d := (v % 2 ^ 32 + (2 ^ 32 - g.done % 2 ^ 32)) % 2 ^ 32
  if d < 2 ^ 31 ∨ g.done + d < 2 ^ 32 then g.done + d else g.done + d - 2 ^ 32

/-- A chorus engine has still to read a stored CONTRIB: its chunk is not reduced yet, or the packet waits for its chunk. -/
def State.operandLive (s : State) (o : Operand) : Bool :=
  s.svc.groups.any (fun g => g.num = o.group && g.ops.any (fun x => x.opseq = g.seq o.opseq
    && (x.chunks.any (fun c => c.block = o.block && c.idx = o.idx && !c.forwarded)
      || x.later.any (fun y => decide (y.peer = o.peer) && decide (y.pkt.psn = o.psn)))))

/-- The endpoint side holds a stored packet: handed over and not taken yet, in the hold of transport, or an operand that is still to be
read (R304). -/
def State.holdRef (s : State) (pid : Nat) : Bool :=
  s.fab.handed.any (fun h => h.1 = pid)
    || s.trn.peers.any (fun p => p.recv.elim false (fun r => r.held.any (fun q => q.pid = some pid)))
    || s.fab.operands.any (fun o => o.pid = pid && s.operandLive o)

/-- A packet's charge moves where its last reference asks: to the replay pool, or for the endpoint side to the shared pool when that has
the cells (R301, R303). -/
def recharge (x : Stored) (replay : Bool) (s : State) : State :=
  let put (f : Stored → Stored) (s : State) : State :=
    updFab (fun b => { b with stored := updFirst (fun y => y.pid = x.pid) f b.stored }) s
  let s' := if replay then put (fun y => { y with ended := true }) s else put (fun y => { y with shared := true }) s
  if x.ended || x.shared then (if replay then s' else s)
  else if !replay && decide (s.sharedFree x.slice < x.cells) then s
  else grantCells x.src x.vc s'

/-- A packet of which only mirror copies are left is charged to the shared pool, which has kept the cells for them (R303, R304, R311). -/
def mirrorCharge (x : Stored) (s : State) : State :=
  if x.shared && !x.ended then s
  else
    let s := updFab (fun b => { b with stored := updFirst (fun y => y.pid = x.pid) (fun y => { y with shared := true, ended := false }) b.stored }) s
    if x.ended || x.shared then s else grantCells x.src x.vc s

/-- End the ingress charges of packets that have left every queue, and free the cells that nothing references (R303, R304). -/
def settleOne (x : Stored) (s : State) : State :=
  if !x.whole || s.queuedRef x.pid then s
  else if s.replayRef x.pid then recharge x true s
  else if s.mirrorRef x.pid then mirrorCharge x s
  else if s.holdRef x.pid then recharge x false s
  else
    let s := updFab (fun f => { f with stored := f.stored.filter (fun y => y.pid ≠ x.pid), operands := f.operands.filter (fun o => o.pid ≠ x.pid) }) s
    if x.ended || x.shared then s else grantCells x.src x.vc s

def settleCells (s : State) : State := s.fab.stored.foldl (fun s x => settleOne x s) s

/-! ### Usable ports (R278) and flush (R355) -/

/-- The ports of a line table word (R277). -/
def linePorts (w : Nat) : List Nat :=
  (List.range 4).filterMap (fun i => if bit w (8 * i + 7) then some (bits w (8 * i + 6) (8 * i)) else none)

/-- Dimensions in use; 0 while RTE_DIMS is unconfigured (R272). -/
def ndimOf (w : Nat) : Nat := if w = 0 then 0 else bits w 33 32 + 1
def lenOf (w d : Nat) : Nat := bits w (41 + 6 * d) (36 + 6 * d) + 1
def coordOf (fa d : Nat) : Nat := bits fa (6 * d + 5) (6 * d)

def State.dims (s : State) : Nat := s.raw .rteDims 0 0

/-- Ports of the line table entry for coordinate c on the line of dimension d, ignored entries apart (R277). -/
def State.lineTo (s : State) (d c : Nat) : List Nat :=
  let w := s.dims
  if ndimOf w ≤ d ∨ lenOf w d ≤ c ∨ coordOf w d = c then [] else linePorts (s.raw .rteLineTable 0 (64 * d + c))

/-- A port is listed in an entry that is not ignored. -/
def State.listed (s : State) (p : Nat) : Bool :=
  (List.range (ndimOf s.dims)).any (fun d => (List.range (lenOf s.dims d)).any (fun c => (s.lineTo d c).contains p))

/-- A port is usable (R278). -/
def State.usable (s : State) (p : Nat) : Bool :=
  decide ((s.port p).state = .up) && !(s.port p).fenced && !s.ethPort p && s.listed p

/-- Fabric ports that are UP. -/
def State.upPorts (s : State) : List Nat :=
  (s.fab.ports.filter (fun p => decide (p.state = .up) && !s.ethPort p.num)).map (·.num)

/-- ACK_SEQ that a port sends: e - 1 (R345). -/
def State.ackSeq (s : State) (n : Nat) : Nat := subMod (s.seqMod n) (s.port n).expected 1

/-- Put a DATA frame out. In THEDEX mode it carries the current ACK_SEQ, which serves a pending acknowledgement; its packet bytes count
toward the port's limit of 200 Gb/s for each lane in use (R336, R345, log 154). -/
def sendFrame (n seq : Nat) (p : SwPkt) (stomp : Bool) (s : State) : State :=
  let thedex := decide (s.mode n = 0)
  let ack := if thedex then some (s.ackSeq n) else none
  updFport n (fun x => { x with
    ackPending := x.ackPending && (stomp || !thedex)
    tx := x.tx ++ frameBytes p.vc seq ack p stomp
    pace := if thedex then max x.pace (30 * s.clk.now) + 12 * p.len / atLeast1 (mapCount x.map) else x.pace })
    (s.emit (.frame n p.vc seq p stomp (frameBytes p.vc seq ack p stomp)))

/-- Drop a packet whose head alone has arrived on a port: entries that have not begun leave their queues; a frame that has begun
ends with the stomp marker, under the SEQ that it began with and that the next frame takes again (R307, R340). -/
def dropPartial (x : Stored) (s : State) : State :=
  let begun := s.fab.egress.flatMap (fun e => match e.out with
    | .port p => (e.q.filter (fun q => q.pid = x.pid && q.begun)).map (fun q => (p, q))
    | _ => [])
  let s := begun.foldl (fun s b =>
    (sendFrame b.1 (s.port b.1).next b.2.pkt true s).count (cntSlice x.slice 0) 1) s
  updFab (fun f => { f with
    stored := f.stored.filter (fun y => y.pid ≠ x.pid)
    egress := f.egress.map (fun e => { e with q := e.q.filter (fun q => q.pid ≠ x.pid) }) }) s

/-- Drop every packet of a port that is not whole. -/
def dropPartials (p : Nat) (s : State) : State :=
  (s.fab.stored.filter (fun x => decide (x.src = .port p) && !x.whole)).foldl (fun s x => dropPartial x s) s

/-- Flush a port: its queue and replay references, the transmit direction fresh, the receive state discarded (R355). The partner's
GRANTED is taken as 0 until its next marker block (log 40). -/
def flushPort (n : Nat) (s : State) : State :=
  let p := s.port n
  let k := (s.egress (.port n)).q.length + p.win.length
  let s := dropPartials n s
  let s := updEgress (.port n) (fun e => { e with q := [] }) s
  let s := updFport n (fun p => { p with
    next := 0, oldest := 0, fresh := true, rxValid := false, consumed := List.replicate 8 0, creditIn := List.replicate 8 0,
    win := [], again := 0, heads := [], ackPending := false, accepted := 0, reqFor := none, replays := 0, blocked := [], audits := [] }) s
  settleCells (s.count (cntPort n 3) k)

/-- Take every fabric port down without grace (R443): it flushes and waits for its lanes. -/
def portsDownAll (s : State) : State :=
  (s.fab.ports.filter (fun p => decide (p.state ≠ .disabled))).foldl
    (fun s p =>
      let s := flushPort p.num (if p.state = .up then s.count (cntPort p.num 2) 1 else s)
      updFport p.num (fun p => { p with state := .training, locked := false, map := 0, readyAt := none, quiet := false, quietReq := false, quietSeen := 0, wakeAt := none, downAt := none }) s)
    s

/-- A slice is stopped by an uncorrectable error of its control state (R514). -/
def State.sliceDead (s : State) (n : Nat) : Bool := s.fab.dead.contains n

end Sys2Proof.Machine
end

