-- ==== Sys2Proof/Machine/Gate.lean ====
section
/-! DEFINITION. Target gates: rules, the byte-by-byte decision, captures (R476-R486). -/

namespace Sys2Proof.Machine

/-- An access as a gate sees it (R481): the MID and partition key it carries, and whether it writes. -/
structure Access_ where
  mid : Nat
  pkey : Option Nat
  write : Bool
  deriving DecidableEq, Repr

/-- Word 0 of a rule at reset: rule 63 has EN, ALLOW, RD and WR set, the others are disabled (R480). -/
def ruleReset (rule : Nat) : Nat := if rule = 63 then 0xF000000000000000 else 0

/-- A rule of a gate as it stands. -/
def State.rule (s : State) (gate rule : Nat) : GateRule :=
  (s.gates.find? (fun r => r.gate = gate && r.rule = rule)).getD
    { gate := gate, rule := rule, w0 := word (ruleReset rule), base := 0, limit := if rule = 63 then 2 ^ 64 - 1 else 0 }

/-- A rule applies to an access (R481). -/
def ruleApplies (r : GateRule) (x : Access_) : Bool :=
  let w := r.w0.toNat
  bit w 63 && decide (x.mid &&& bits w 55 44 = bits w 43 32)
    && (!bit w 31 || decide (x.pkey = some (bits w 15 0)))
    && (if x.write then bit w 60 else bit w 61)

/-- The lower-numbered of two rules. -/
def lowerRule (a : Option GateRule) (r : GateRule) : Option GateRule :=
  match a with
  | none => some r
  | some q => if r.rule < q.rule then some r else some q

/-- The rule that decides byte b: the lowest that applies and holds it, rule 63 at worst (R481). Rules at their reset value
other than rule 63 are disabled and apply to nothing. -/
def State.decider (s : State) (gate b : Nat) (x : Access_) : GateRule :=
  ((s.gates.filter (fun r => r.gate = gate && ruleApplies r x && decide (r.base ≤ b) && decide (b ≤ r.limit))).foldl
    lowerRule none).getD (s.rule gate 63)

/-- A host-memory window covers byte b (R478); other gates cover every byte. -/
def State.covers (s : State) (gate b : Nat) : Bool :=
  if gate < 0x40 then true
  else
    let n := gate - 0x40
    bit (s.raw .gteHostwinBase 0 n) 63 && decide (at_ 12 (s.fld .gteHostwinBase n 51 12) ≤ b)
      && decide (b ≤ at_ 12 (s.fld .gteHostwinLimit n 51 12) + 0xFFF)

/-- The bytes of [a, a + len) at which a gate's decision can change: the first byte, the bounds of rules and of the window. -/
def State.edges (s : State) (gate a len : Nat) : List Nat :=
  let l := (s.gates.filter (fun r => r.gate = gate)).flatMap (fun r => [r.base, r.limit + 1])
  let l := if gate < 0x40 then l else at_ 12 (s.fld .gteHostwinBase (gate - 0x40) 51 12) :: l
  a :: l.filter (fun b => decide (a ≤ b) && decide (b < a + len))

/-- The least number of a list. -/
def least : List Nat → Option Nat
  | [] => none
  | a :: l => match least l with
    | none => some a
    | some b => some (min a b)

/-- The rule that decided the lowest refused byte of an access, or none when every byte is permitted (R481, R482). A range of length 0 has
no byte to check. -/
def State.gateRefusesAny (s : State) (gate : Nat) (segs : List (Nat × Nat)) (x : Access_) : Option Nat :=
  (least ((segs.flatMap (fun g => if g.2 = 0 then [] else s.edges gate g.1 g.2)).filter
    (fun b => s.covers gate b && !bit (s.decider gate b x).w0.toNat 62))).map (fun b => (s.decider gate b x).rule)

/-- The same of an access to one range. -/
def State.gateRefuses (s : State) (gate a len : Nat) (x : Access_) : Option Nat := s.gateRefusesAny gate [(a, len)] x

/-- Capture and report a refusal (R484). kind: 0 read, 1 write, 2 atomic, 3 command. -/
def gateViolation (gate a len rule kind : Nat) (x : Access_) (s : State) : State :=
  let s :=
    if bit (s.raw .gteViolInfo 0 gate) 63 then s
    else
      let info := 2 ^ 63 + at_ 61 kind + at_ 60 (b1 x.pkey.isSome) + at_ 48 x.mid + at_ 32 rule + x.pkey.getD 0
      ((s.setReg .gteViolInfo 0 gate info).setReg .gteViolAddr 0 gate a).setReg .gteViolLen 0 gate len
  hubTake .gteViolation 0x05 gate a (s.count 53 1)

/-- Check one access, which may lie in several ranges, at one gate. An atomic is checked once as a read and once as a write (R481). A refusal
captures the first byte of the whole access and its length (R484). -/
def gateCheckAll (gate : Nat) (segs : List (Nat × Nat)) (kind : Nat) (mid : Nat) (pkey : Option Nat) (s : State) : Option Nat × State :=
  let x (w : Bool) : Access_ := { mid := mid, pkey := pkey, write := w }
  let a := (segs.head?).elim 0 (·.1)
  let len := sumBy (·.2) segs
  let first := if kind = 0 ∨ kind = 2 then s.gateRefusesAny gate segs (x false) else none
  match first with
  | some r => (some r, gateViolation gate a len r kind (x false) s)
  | none =>
    if kind = 0 then (none, s)
    else
      match s.gateRefusesAny gate segs (x true) with
      | some r => (some r, gateViolation gate a len r kind (x true) s)
      | none => (none, s)

/-- Check an access to one range at one gate. -/
def gateCheck (gate a len kind : Nat) (mid : Nat) (pkey : Option Nat) (s : State) : Option Nat × State :=
  gateCheckAll gate [(a, len)] kind mid pkey s

/-- Check an access to host memory at every enabled window of its port (R478, R482, R483): the segments are the bus ranges of its whole
extent, and it is one access, whatever their number. Each refusing gate captures the refusal. The answer is the first gate that refuses and
its deciding rule, in the layout of DETAIL (R460), or none when every gate permits every byte. -/
def hostRefusal (port kind : Nat) (mid : Nat) (pkey : Option Nat) (segs : List (Nat × Nat)) (s : State) : Option Nat × State :=
  (List.range 8).foldl
    (fun acc w =>
      let gate := 0x40 + 8 * port + w
      let (r, s) := gateCheckAll gate segs kind mid pkey acc.2
      (acc.1.orElse (fun _ => r.map (fun rule => at_ 8 gate + rule)), s))
    (none, s)

/-- Every gate permits every byte of an access to host memory (R482). -/
def hostGates (port kind : Nat) (mid : Nat) (pkey : Option Nat) (segs : List (Nat × Nat)) (s : State) : Bool × State :=
  let (r, s) := hostRefusal port kind mid pkey segs s
  (r.isNone, s)

/-! ### Device memory (R476-R478, R485) -/

/-- An access of one of the device's own agents to its store in device memory, with the key of the partition whose object it is for (R477),
checked at the gates of both channels of the pair that
holds the line (R478, R522). Where a store lies is not stated: pair and address are free values (log 17). The answer is the pair and the
address of an access that is refused and therefore not made. While no rule of these gates differs from its reset value, every access is
permitted. -/
def hbmRefusal (mid kind len : Nat) (pkey : Option Nat) (s : State) : Option (Nat × Nat) × State :=
  if !s.gates.any (fun r => decide (0x20 ≤ r.gate) && decide (r.gate < 0x40)) then (none, s)
  else
    let (p, s) := s.drawNat
    let (a, s) := s.drawNat
    let pair := p % 16
    let addr := a % (24 * 2 ^ 30)
    let (x, s) := gateCheck (0x20 + 2 * pair) addr len kind mid pkey s
    let (y, s) := gateCheck (0x21 + 2 * pair) addr len kind mid pkey s
    (if x.isSome || y.isSome then some (pair, addr) else none, s)

end Sys2Proof.Machine
end

