-- ==== Sys2Proof/Machine/Xlt.lean ====
section
/-! DEFINITION. Address translation: caches, walks, A/D updates, faults (R164-R188). -/

namespace Sys2Proof.Machine

/-- What a translation answers. -/
inductive XRes where
  | hit (segs : List Seg)
  | pending
  | fault
  deriving DecidableEq, Repr

/-- Fault causes of R177. -/
inductive XCause where
  | notPresent | malformed | permission | addressSize | deviceTable | adUpdate | adRequired | hostRead
  deriving DecidableEq, Repr

def XCause.code : XCause → Nat
  | .notPresent => 0 | .malformed => 1 | .permission => 2 | .addressSize => 3 | .deviceTable => 4 | .adUpdate => 5
  | .adRequired => 6 | .hostRead => 7

/-- The cause of a code. -/
def xcauseOf (n : Nat) : XCause :=
  ([.notPresent, .malformed, .permission, .addressSize, .deviceTable, .adUpdate, .adRequired, .hostRead][n % 8]?).getD .notPresent

/-- The attributes of an address space. -/
def State.asid? (s : State) (n : Nat) : Option Asid := s.xlt.asids.find? (fun a => a.asid = n)

/-- Virtual address width by table depth (R164). -/
def vaBits (levels : Nat) : Nat := 12 + 9 * levels

/-- Index of a virtual address at a level (R166). -/
def vaIndex (va lvl : Nat) : Nat := va / 2 ^ (12 + 9 * (lvl - 1)) % 512

/-- Bytes mapped by a leaf at a level. -/
def pageSize (lvl : Nat) : Nat := 2 ^ (12 + 9 * (lvl - 1))

/-- An address lies in an enabled device-type window of a host port (R170). -/
def State.deviceWindow (s : State) (host a : Nat) : Bool :=
  (List.range 32).any (fun w =>
    let b := s.raw .xltDevwinBase 0 w
    bit b 0 && bit b (4 + host) && decide (bits b 51 12 ≤ a / 4096)
      && decide (a / 4096 ≤ s.fld .xltDevwinLimit w 51 12))

/-- A present entry is malformed at its level (R168). -/
def pteMalformed (e lvl : Nat) : Bool :=
  bit e 63
    || (bit e 3 && decide (4 ≤ lvl))
    || (!bit e 3 && decide (lvl = 1))
    || (bit e 3 && decide (lvl = 2) && decide (bits e 20 12 ≠ 0))
    || (bit e 3 && decide (lvl = 3) && decide (bits e 29 12 ≠ 0))
    || (bit e 3 && decide (bits e 7 6 = 3))
    || (bit e 3 && bit e 2 && !bit e 1)

/-- A non-leaf entry's table, or a leaf's page (R167). -/
def pteAddr (e : Nat) : Nat := at_ 12 (bits e 51 12)

/-- A position lies below the known producer position. -/
def Fetch.below (f : Fetch) (p : Pos) : Bool := decide (dist f.known p ≠ 0) && decide (dist f.known p < 2 ^ 31)

/-- Ring reads whose entries will be taken. -/
def Fetch.live (f : Fetch) : List RingRead := f.reads.filter (fun r => !r.dead)

/-- The reads of the run are discarded: what has returned is gone, and each of the others is outstanding until it returns (R47). -/
def Fetch.discard (f : Fetch) : Fetch :=
  { f with reads := (f.reads.filter (fun r => r.result.isNone)).map (fun r => { r with dead := true }) }

/-- The next position to read, behind the reads outstanding. -/
def Fetch.next (f : Fetch) : Pos :=
  match f.live.getLast? with
  | some r => r.pos + BitVec.ofNat 32 r.n
  | none => f.pos

/-- A position whose fault would only count as a miss: the report of its walk is left out (R180). -/
def ringMiss (s : State) (w : Waiter) : Bool :=
  match w with
  | .ring qid pos => (s.queue? qid).elim true (fun q => !q.fetch.below pos)
  | _ => false

/-- Everyone who waits for a walk. -/
def Walk.all (w : Walk) : List Waiter := w.waiters ++ w.readers

/-- Capture the first translation fault in XLT_FAULT_INFO, XLT_FAULT_VA and XLT_FAULT_ENTRY (R177), and what the last was. -/
def captureFault (c : XCause) (lvl addr va asid unit : Nat) (write : Bool) (s : State) : State :=
  let s := { s with xlt := { s.xlt with lastFault := at_ 4 lvl + c.code } }
  if bit (s.raw .xltFaultInfo 0 0) 63 then s
  else
    let info := 2 ^ 63 + at_ 60 lvl + at_ 56 c.code + at_ 24 (b1 write) + at_ 16 unit + asid
    ((s.setReg .xltFaultInfo 0 0 info).setReg .xltFaultVa 0 0 va).setReg .xltFaultEntry 0 0 (addr % 2 ^ 52)

/-- Report a translation fault of the kind of its cause and capture the first one (R177). -/
def reportFault (c : XCause) (lvl addr va asid unit host : Nat) (write : Bool) (s : State) : State :=
  let kind : FKind := match c with
    | .deviceTable => .xltWalkDevice
    | .adUpdate => .xltAdUpdateFail
    | .hostRead => .hifPoisoned
    | _ => .xltWalkFault
  let s := captureFault c lvl addr va asid unit write s
  hubTake kind (if c = .hostRead then 0x09 else 0x0A) (if c = .hostRead then host else unit)
    (at_ 3 (bits addr 51 3) + lvl) s

/-- Report the fault of a walk, unless every access behind it was a ring read that only misses (R177, R180). -/
def reportWalkFault (c : XCause) (lvl addr : Nat) (w : Walk) (s : State) : State :=
  if !w.all.isEmpty && w.all.all (ringMiss s) then s else reportFault c lvl addr w.va w.asid w.unit w.host w.write s

/-- Entries that a structure holds (R175). -/
def TlbPlace.size : TlbPlace → Nat
  | .second _ => 8192
  | .fetch _ => 64
  | .data _ => 128

/-- Keep the first n entries of one place. -/
def keepPlace (p : TlbPlace) : Nat → List TlbEntry → List TlbEntry
  | _, [] => []
  | n, e :: l =>
    if e.place = p then (if n = 0 then keepPlace p 0 l else e :: keepPlace p (n - 1) l) else e :: keepPlace p n l

/-- Put a translation into a structure, the newest first; the oldest leaves a full one (R175, log 10). -/
def tlbFill (e : TlbEntry) (l : List TlbEntry) : List TlbEntry :=
  keepPlace e.place e.place.size
    (e :: l.filter (fun x => !(x.place = e.place && x.asid = e.asid && x.va = e.va && x.size = e.size)))

/-- The cached translation of an address in one structure. -/
def tlbFind (p : TlbPlace) (asid va : Nat) (l : List TlbEntry) : Option TlbEntry :=
  l.find? (fun e => e.place = p && e.asid = asid && decide (e.va ≤ va) && decide (va < e.va + e.size))

/-- The structure of an engine cluster that an access uses (R175). -/
def clusterPlace (unit : Nat) (fetch : Bool) : TlbPlace := if fetch then .fetch unit else .data unit

/-- Non-posted requests that may be outstanding on a port when one of a MID is issued, by its function's 10-Bit Tag Requester Enable, for an
agent that of the PF (R387; DESIGN CHOICE for an agent, log 119). -/
def State.tagLimit (s : State) (port mid : Nat) : Nat :=
  if ((s.hif.ports[port]?).elim false (fun p => p.funcs.any (fun f => decide (f.mid = (if mid / 256 = port then mid else 256 * port)) && f.tags10))) then 768 else 256

/-- Requests of a MID that may be issued on a port now (R387). -/
def State.tagsFree (s : State) (port mid : Nat) : Nat :=
  s.tagLimit port mid - sumBy (·.live) (s.hif.reqs.filter (fun r => r.port = port))

/-- Max_Read_Request_Size of the function that a request of a MID names (R386; for an agent, that of the PF). -/
def State.maxRead (s : State) (port mid : Nat) : Nat :=
  ((s.hif.ports[port]?).bind (fun p => p.funcs.find? (fun f => f.mid = (if mid / 256 = port then mid else 256 * port)))).elim 512 (·.maxRead)

/-- Bytes [a, a + len) in parts of at most n bytes, none of which crosses a 4 KiB boundary (R386). -/
def readPieces (n : Nat) : Nat → Nat → Nat → List (Nat × Nat)
  | 0, a, len => [(a, len)]
  | fuel + 1, a, len =>
    let k := min n (4096 - a % 4096)
    if len ≤ k then [(a, len)] else (a, k) :: readPieces n fuel (a + k) (len - k)

/-- The requests that a host request goes out as: a read in parts of Max_Read_Request_Size (R386), under one number. -/
def readParts (n : Nat) : Out → List Out
  | .hostRead id port a len ns => (readPieces n (len / 128 + 2) a len).map (fun x => .hostRead id port x.1 x.2 ns)
  | o => [o]

/-- Issue a non-posted host request and remember what it is for; where as many are outstanding on the port as may be, it waits (R387, R581).
A warm reset issues none (R443). -/
def issueReq (port mid addr len : Nat) (use : ReqFor) (o : Nat → Out) (s : State) : State :=
  if !s.running then s else
  let id := s.hif.nextReq
  let parts := readParts (s.maxRead port mid) (o id)
  let go := parts.take (s.tagsFree port mid)
  let r : HostReq := { id := id, port := port, mid := mid, addr := addr, len := len, use := use, held := parts.drop go.length, live := go.length, at_ := s.clk.now }
  { s with hif := { s.hif with reqs := s.hif.reqs ++ [r], nextReq := id + 1 } }.emits [] go

/-- Requests that wait on a port go out, oldest first, as far as their limits let them (R387). -/
def issueNext (port : Nat) (s : State) : State :=
  if !s.running then s else
  (s.hif.reqs.filter (fun r => r.port = port)).foldl
    (fun s r =>
      let go := r.held.take (s.tagsFree port r.mid)
      if go.isEmpty then s
      else
        let upd := fun (x : HostReq) => { x with held := r.held.drop go.length, live := r.live + go.length, at_ := if r.live = 0 then s.clk.now else r.at_ }
        { s with hif := { s.hif with reqs := updAll (fun x => x.id = r.id) upd s.hif.reqs } }.emits [] go) s

/-- Requests that use the translation of an address. -/
def ReqFor.translated : ReqFor → Bool
  | .walk _ | .admin _ => false
  | _ => true

/-- The function for which an output was issued to a host port, when it is a write or belongs to a request of a kind. -/
def State.outMid (s : State) (kind : ReqFor → Bool) : Out → Option Nat
  | .place _ mid .. | .record _ mid .. | .bulk _ mid .. => some mid
  | .hostRead id .. | .hostCas id .. | .hostFetchAdd id .. => (s.hif.reqs.find? (fun r => r.id = id && kind r.use)).map (·.mid)
  | _ => none

/-- Replace or append a walk. -/
def putWalk (w : Walk) (s : State) : State :=
  if s.xlt.walks.any (fun x => x.id = w.id) then
    { s with xlt := { s.xlt with walks := s.xlt.walks.map (fun x => if x.id = w.id then w else x) } }
  else { s with xlt := { s.xlt with walks := s.xlt.walks ++ [w] } }

/-- Remove a walk. -/
def dropWalk (id : Nat) (s : State) : State :=
  { s with xlt := { s.xlt with walks := s.xlt.walks.filter (fun x => x.id ≠ id) } }

/-- Walks allowed in progress per host island (XLT_CTRL.MAX_WALKS). -/
def State.maxWalks (s : State) : Nat := clamp 1 64 (s.fld .xltCtrl 0 14 8)

/-- The outcome of one stretch of a walk: it reads an entry, or it faults. -/
inductive WalkStep where
  | read (w : Walk) (ea : Nat)
  | fault (c : XCause) (lvl addr : Nat)
  deriving DecidableEq, Repr

/-- Go down from the walk's level while the walk cache has the entry (R169, R176), at most `fuel` levels. -/
def walkDown (s : State) : Nat → Walk → WalkStep
  | 0, w => .read w (w.table + vaIndex w.va w.level * 8)
  | fuel + 1, w =>
    if (s.view w.gen).deviceWindow w.host w.table then .fault .deviceTable w.level w.table
    else
      let ea := w.table + vaIndex w.va w.level * 8
      if w.level ≤ 1 ∨ s.fld .xltCtrl 0 0 0 = 0 then .read w ea
      else
        match s.xlt.wc.find? (fun c => c.host = w.host && c.asid = w.asid && c.level = w.level
            && c.vaHigh = w.va / pageSize w.level) with
        | some c => walkDown s fuel { w with level := w.level - 1, table := c.table, seen := w.seen ++ [c] }
        | none => .read w ea

/-- An access to an entry of a page table is checked at the gates under the MID and partition key of the address space (R477, R482). A refusal
is a walk fault of cause PERMISSION at that entry, with GTE_VIOLATION reported in place of XLT_WALK_FAULT, as R485 has it of a ring read
(DESIGN CHOICE, log 203). Answers whether it is permitted. -/
def tableGate (w : Walk) (lvl ea kind : Nat) (s : State) : Bool × State :=
  match s.asid? w.asid with
  | none => (true, s)
  | some a =>
    match hostGates w.host kind a.mid (some a.pkey) [(ea, 8)] s with
    | (true, s) => (true, s)
    | (false, s) => (false, captureFault .permission lvl ea w.va w.asid w.unit w.write s)

/-- Continue a walk: issue the next table read, or fault. Answers false on a fault, which is reported. -/
def walkGo (w : Walk) (s : State) : Bool × State :=
  match walkDown s 5 w with
  | .read w ea =>
    match tableGate w w.level ea 0 s with
    | (false, s) => (false, dropWalk w.id s)
    | (true, s) =>
      let s := putWalk w s
      (true, issueReq w.host ((s.asid? w.asid).elim 0 (·.mid)) ea 8 (.walk w.id) (fun id => .hostRead id w.host ea 8 false) s)
  | .fault c lvl addr => (false, dropWalk w.id (reportWalkFault c lvl addr w s))

/-- An access joins a walk of its page: one that only reads stands apart in a walk for a write (R171). -/
def Walk.join (w : Walk) (write : Bool) (who : Waiter) : Walk :=
  if who ∈ w.all then w
  else if w.write && !write then { w with readers := w.readers ++ [who] }
  else { w with waiters := w.waiters ++ [who] }

/-- Begin a walk for an access, or join the walk of the same page (R169, R171). Until a walk has ended, the page is its 4 KiB page, whatever
the size of the page that maps it (DESIGN CHOICE, log 172). Answers false when it faults at once. -/
def startWalk (a : Asid) (va : Nat) (write : Bool) (unit : Nat) (fetch : Bool) (who : Waiter) (s : State) : Bool × State :=
  let probe : Walk := { id := 0, host := a.host, asid := a.asid, va := va, write := write, unit := unit, fetch := fetch, level := a.levels, table := a.root, active := true, cas := none, casAddr := 0, stale := false, waiters := [who], readers := [], seen := [], cached := false, gen := s.liveGen }
  if va / 2 ^ vaBits a.levels ≠ 0 then (false, reportWalkFault .addressSize a.levels a.root probe s)
  else
    match s.xlt.walks.find? (fun w => w.host = a.host && w.asid = a.asid && w.va / 4096 = va / 4096 && !w.cached) with
    | some w => (true, putWalk (w.join write who) s)
    | none =>
      let id := s.xlt.nextWalk
      let busy := (s.xlt.walks.filter (fun w => w.host = a.host && w.active)).length
      let w := { probe with id := id, active := decide (busy < s.maxWalks) }
      let s := { s with xlt := { s.xlt with nextWalk := id + 1 } }
      if w.active then walkGo w s else (true, putWalk w s)

/-- Issue the compare-and-swap of an A/D update (R172). Answers false when a gate refuses it. -/
def issueCas (w : Walk) (e need : Nat) (s : State) : Bool × State :=
  match tableGate w w.level w.casAddr 2 s with
  | (false, s) => (false, s)
  | (true, s) =>
    let w := { w with cas := some (word e, (w.cas.map (·.2)).getD 0 + 1) }
    (true, issueReq w.host ((s.asid? w.asid).elim 0 (·.mid)) w.casAddr 8 (.adCas w.id)
      (fun id => .hostCas id w.host w.casAddr e (e ||| need) 8 false) (putWalk w s))

/-- AtomicOp requests are enabled for a function: AtomicOp Requester Enable and CAS64 (R164, R396). -/
def State.atomicOn (s : State) (host mid : Nat) : Bool :=
  bit (s.raw .hifAtomicCap host 0) 1
    && ((s.hif.ports[host]?).elim false (fun p => p.funcs.any (fun f => f.mid = mid && f.atomicEn)))

/-- Begin the D update of a cached translation, or join one under way (R173). An update that belongs to a walk is another: the walk may
have to start again (R184). Answers false when it fails at once. -/
def startDirty (a : Asid) (e : TlbEntry) (va unit : Nat) (fetch : Bool) (who : Waiter) (s : State) : Bool × State :=
  match s.xlt.walks.find? (fun w => w.asid = a.asid && w.casAddr = e.entryAddr && w.cached && !w.stale) with
  | some w => (true, putWalk (w.join true who) s)
  | none =>
    let id := s.xlt.nextWalk
    let w : Walk := { id := id, host := a.host, asid := a.asid, va := va, write := true, unit := unit, fetch := fetch, level := e.level, table := 0, active := false, cas := none, casAddr := e.entryAddr, stale := false, waiters := [who], readers := [], seen := [], cached := true, gen := s.liveGen }
    let s := { s with xlt := { s.xlt with nextWalk := id + 1 } }
    if s.atomicOn a.host a.mid then issueCas w e.entry.toNat 0x30 s
    else (false, reportWalkFault .adUpdate e.level e.entryAddr w s)

/-- Translate one address: cluster TLB, second-level TLB, else a walk (R169, R173, R175). A write that hits a cached translation without W, or
with D clear under REQUIRE, walks anew rather than fault from the cached entry (DESIGN CHOICE, log 198). -/
def translate1 (a : Asid) (va : Nat) (write : Bool) (unit : Nat) (fetch : Bool) (who : Waiter) (s : State) :
    XRes × State :=
  let pl := clusterPlace unit fetch
  let found := (tlbFind pl a.asid va s.xlt.tlb).orElse (fun _ => tlbFind (.second a.host) a.asid va s.xlt.tlb)
  match found with
  | some e =>
    if write && !e.write then
      let (ok, s) := startWalk a va write unit fetch who s
      (if ok then .pending else .fault, s)
    else if write && !e.dirty && decide (a.adMode = 1) then
      let (ok, s) := startDirty a e va unit fetch who s
      (if ok then .pending else .fault, s)
    else if write && !e.dirty && decide (a.adMode = 2) then
      let (ok, s) := startWalk a va write unit fetch who s
      (if ok then .pending else .fault, s)
    else
      let s := { s with xlt := { s.xlt with tlb := tlbFill { e with place := pl } s.xlt.tlb } }
      (.hit [{ bus := e.bus + (va - e.va), len := e.size - (va - e.va), type := e.type }], s)
  | none =>
    let (ok, s) := startWalk a va write unit fetch who s
    (if ok then .pending else .fault, s)

/-- Translate the extent [va, va + len) page by page, stopping at the first page that is not cached (R148, R483). -/
def translateLoop (a : Asid) (write : Bool) (unit : Nat) (fetch : Bool) (who : Waiter) :
    Nat → Nat → Nat → List Seg → State → XRes × State
  | 0, _, _, acc, s => (.hit acc, s)
  | fuel + 1, va, len, acc, s =>
    if len = 0 then (.hit acc, s)
    else
      match translate1 a va write unit fetch who s with
      | (.hit [g], s) =>
        let n := min len g.len
        translateLoop a write unit fetch who fuel (va + n) (len - n) (acc ++ [{ g with len := n }]) s
      | (.hit _, s) => (.fault, s)
      | (r, s) => (r, s)

/-- The walk that someone waited for faulted, and the access has not ended yet (R178). -/
def State.walkFaulted (s : State) (who : Waiter) : Bool := decide (who ∈ s.xlt.faulted)

def clearFaulted (who : Waiter) (s : State) : State :=
  { s with xlt := { s.xlt with faulted := s.xlt.faulted.filter (· ≠ who) } }

/-- Translate an extent of an address space for an access. An ASID that does not exist answers a fault with no report. -/
def translate (asid va len : Nat) (write : Bool) (unit : Nat) (fetch : Bool) (who : Waiter) (s : State) : XRes × State :=
  match s.asid? asid with
  | none => (.fault, s)
  | some a =>
    if s.walkFaulted who then (.fault, clearFaulted who s)
    else translateLoop a write unit fetch who (len / 4096 + 2) va len [] s

/-- The bus ranges of translated pieces. -/
def ranges (l : List Seg) : List (Nat × Nat) := l.map (fun g => (g.bus, g.len))

/-- A ring read or record write that a gate refuses is captured as a translation fault of cause PERMISSION on its page, whose translation has
just been used (R485). -/
def captureRefused (asid va unit : Nat) (write : Bool) (s : State) : State :=
  let e := tlbFind (clusterPlace unit true) asid va s.xlt.tlb
  captureFault .permission (e.elim 1 (·.level)) (e.elim 0 (·.entryAddr)) va asid unit write s

/-- A scope covers an address of an ASID (R182). -/
def InvalScope.covers (c : InvalScope) (asid va size : Nat) : Bool :=
  match c.kind with
  | 0 => decide (asid = c.asid) && decide (va < c.base + 4096 * c.pages) && decide (c.base < va + size)
  | 1 => decide (asid = c.asid)
  | _ => true

/-- The page of a walk, first address and bytes: of the D update of a cached translation, its whole page; else the 4 KiB page, since no
leaf has been reached. -/
def Walk.page (w : Walk) : Nat × Nat :=
  let n := if w.cached then pageSize w.level else 4096
  (w.va / n * n, n)

/-- An invalidation takes a walk-cache entry away: with WC, one of an address that the scope covers. -/
def InvalScope.takes (c : InvalScope) (e : WcEntry) : Bool := c.wc && c.covers e.asid (e.vaHigh * pageSize e.level) (pageSize e.level)

/-- Remove the translations of a scope from every TLB and, with WC, from every walk cache; mark covered walks, and those that used an entry
that goes, to start again, and covered D updates to leave nothing cached (R182-R184). -/
def invalApply (c : InvalScope) (s : State) : State :=
  { s with xlt := { s.xlt with
      tlb := s.xlt.tlb.filter (fun e => !c.covers e.asid e.va e.size)
      wc := s.xlt.wc.filter (fun e => !c.takes e)
      walks := updAll (fun w => c.covers w.asid w.page.1 w.page.2 || w.seen.any c.takes) (fun w => { w with stale := true }) s.xlt.walks } }

/-- Every cache is empty after a reset (R165). -/
def xltEmpty (x : Xlt) : Xlt := { x with tlb := [], wc := [], walks := [], faulted := [], invals := [], invalDone := 0 }

end Sys2Proof.Machine
end

