-- ==== Sys2Proof/Machine/Event.lean ====
section
/-! DEFINITION. Queues by QID, event queues and their interrupts, asynchronous events, and reporting of faults with what their
class does (R43-R45, R95-R97, R160, R161, R181, R394, R512-R514). -/

namespace Sys2Proof.Machine

/-! ### Queues -/

/-- Change the queue of a QID. -/
def updQueue (q : Nat) (f : Queue → Queue) (s : State) : State :=
  { s with qmg := { s.qmg with queues := updAll (fun x => x.qid = q) f s.qmg.queues } }

/-- Change the CQ and EQ side of a queue. -/
def updSink (q : Nat) (f : Sink → Sink) (s : State) : State := updQueue q (fun x => { x with sink := f x.sink }) s

/-- Change the prefetch side of a queue. -/
def updFetch (q : Nat) (f : Fetch → Fetch) (s : State) : State := updQueue q (fun x => { x with fetch := f x.fetch }) s

/-- Producer position of an EQ (QMG_EQ_PI). -/
def State.eqPi (s : State) (q : Nat) : Pos := BitVec.ofNat 32 (s.raw .qmgEqPi 0 q)

/-- Consumer position of an EQ (QMG_EQ_CI.CI). -/
def State.eqCi (s : State) (q : Nat) : Pos := BitVec.ofNat 32 (s.raw .qmgEqCi 0 q)

/-- QMG_EQ_CI.OVERFLOW. -/
def State.eqOverflow (s : State) (q : Nat) : Bool := bit (s.raw .qmgEqCi 0 q) 63

/-- A queue's ring size. -/
def Queue.size (q : Queue) : Nat := 2 ^ q.attr.k

/-- The context of a queue as the store holds it (R57). -/
def Queue.image (q : Queue) : QImage := { attr := q.attr, state := q.state, ci := q.ci, sinkPi := q.sink.pi, sinkCi := q.sink.ci }

/-- A cached context is dirty: it differs from what the store holds (R61). -/
def Queue.dirty (q : Queue) : Bool := q.resid == .resident && decide (q.image ≠ q.saved)

/-! ### Functions of a host port (R389) -/

/-- Host port of a function's MID. -/
def midPort (mid : Nat) : Nat := mid / 256

/-- The function of a MID. -/
def State.func? (s : State) (mid : Nat) : Option Func :=
  (s.hif.ports[midPort mid]?).bind (fun p => p.funcs.find? (fun f => f.mid = mid))

/-- Change one host port. -/
def updPort (h : Nat) (f : HostPort → HostPort) (s : State) : State :=
  { s with hif := { s.hif with ports := s.hif.ports.modify h f } }

/-- Change the function of a MID. -/
def updFunc (mid : Nat) (f : Func → Func) (s : State) : State :=
  updPort (midPort mid) (fun p => { p with funcs := updAll (fun x => x.mid = mid) f p.funcs }) s

/-- A function is in reset: its port is, or it drains (R400-R403). -/
def State.funcInReset (s : State) (mid : Nat) : Bool :=
  ((s.hif.ports[midPort mid]?).elim false (·.inReset)) || ((s.func? mid).elim false (·.draining.isSome))

/-! ### Event queues (R43-R45, R394) -/

/-- An entry of a function's MSI-X table; one that the host has not written is masked (R391; PRESUMED, log 180). -/
def Func.entry (f : Func) (v : Nat) : MsixEntry :=
  (f.table.find? (fun e => e.vec = v)).getD { vec := v, addr := 0, data := 0, masked := true }

/-- Send the message of a vector of a function, or set the pending bit of a masked one (R394). -/
def vectorMsix (mid vector : Nat) (s : State) : State :=
  match s.func? mid with
  | none => s
  | some f =>
    if !f.msixEnable || decide (f.tableSize ≤ vector) then s
    else if (f.entry vector).masked then updFunc mid (fun f => { f with msixPending := vector :: f.msixPending.filter (· ≠ vector) }) s
    else s.emit (.msix (midPort mid) (mid % 256) vector (f.entry vector).addr (f.entry vector).data)

/-- Send the MSI-X message of an EQ (R394). -/
def sendMsix (q : Queue) (s : State) : State := vectorMsix q.attr.mid q.attr.vector s

/-- The host writes an entry of a function's MSI-X table: a pending vector that is not masked any more sends its message (R391, R394). -/
def msixWrite (mid : Nat) (e : MsixEntry) (s : State) : State :=
  let s := updFunc mid (fun f => { f with table := e :: f.table.filter (fun x => x.vec ≠ e.vec) }) s
  if (s.func? mid).elim false (fun f => decide (e.vec ∈ f.msixPending) && !e.masked && f.msixEnable) then
    vectorMsix mid e.vec (updFunc mid (fun f => { f with msixPending := f.msixPending.filter (· ≠ e.vec) }) s)
  else s

/-- Count one event discarded or suppressed at an endpoint (R529, counter 12). -/
def dropEvent (ep : Nat) (s : State) : State := s.count (cntEp ep 12) 1

/-- Lose an event on an EQ: OVERFLOW is set and the loss counted; a QUEUE_OVERFLOW event that is lost gives back the losses it
carried (R44, R181). -/
def eqLose (q : Queue) (e : Event) (s : State) : State :=
  let n := 1 + (if e.kind = evQueueOverflow ∧ e.qid = q.qid then e.data0.toNat else 0)
  dropEvent q.attr.ep
    (updSink q.qid (fun k => { k with lost := min (2 ^ 64 - 1) (k.lost + n) })
      (s.setReg .qmgEqCi 0 q.qid (2 ^ 63 + s.raw .qmgEqCi 0 q.qid % 2 ^ 32)))

/-- Write an event record at the producer position of an EQ whose slot is translated: the record, QMG_EQ_PI, then the first
interrupt since the last write of QMG_EQ_CI (R37, R43, R394). -/
def eqRecord (q : Queue) (g : Seg) (e : Event) (s : State) : State :=
  let pi := s.eqPi q.qid
  let s := s.emit (.record q.attr.ep q.attr.mid g.bus (evWords e (phaseOf pi q.attr.k)) (decide (g.type = 1)))
  let s := s.setReg .qmgEqPi 0 q.qid (pi + 1).toNat
  if q.sink.vecReady then sendMsix q (updSink q.qid (fun k => { k with vecReady := false }) s) else s

/-- The bus address of a slot of a queue's ring, when it can be written: a fault of its translation or a gate's refusal answers
false (R181, R485). -/
def ringSlot (q : Queue) (pos : Pos) (entry : Nat) (who : Waiter) (s : State) : XRes × State :=
  match translate q.attr.asid (q.attr.base + entry * ringIndex pos q.attr.k) entry true q.attr.home true who s with
  | (.hit segs, s) =>
    match hostGates q.attr.ep 1 q.attr.mid (some q.attr.pkey) (ranges segs) s with
    | (true, s) => (.hit segs, s)
    | (false, s) => (.fault, captureRefused q.attr.asid (q.attr.base + entry * ringIndex pos q.attr.k) q.attr.home true s)
  | (r, s) => (r, s)

/-- An EQ writes no event: its function is in reset, or its state is ERROR or DRAINING (R73, R400). -/
def State.eqShut (s : State) (q : Queue) : Bool := s.funcInReset q.attr.mid || q.state == .error || q.state == .draining

/-- Slots of an EQ that are written and not consumed. -/
def State.eqFilled (s : State) (q : Queue) : Nat := dist (s.eqPi q.qid) (s.eqCi q.qid)

/-- An event finds its EQ full, or OVERFLOW set and its loss not yet told: it is lost (R44). -/
def State.eqFull (s : State) (q : Queue) : Bool :=
  s.eqOverflow q.qid || q.sink.lost != 0 || decide (q.size ≤ s.eqFilled q)

/-- Kinds that the event mask selects: those of the table of R160. -/
def maskedKind (k : Nat) : Bool :=
  k == evPortDown || k == evPortUp || k == evPortDegraded || k == evPeerRestarted || k == evPeerUnreachable || k == evXltFault
    || k == evDeviceFault || k == evResumed

/-- Kinds that the hold-off suppresses (R161). -/
def heldOffKind (k : Nat) : Bool := maskedKind k && !(k == evPeerRestarted) && !(k == evResumed)

/-- An event of this kind and subject. -/
def Holdoff.same (h : Holdoff) (eq : Nat) (e : Event) : Bool := h.eq == eq && h.kind == e.kind && h.subject == e.subject

/-- An event of the same kind and subject has been written to the EQ less than RMA_EVT_HOLDOFF before (R161). -/
def State.heldOff (s : State) (eq : Nat) (e : Event) : Bool :=
  heldOffKind e.kind
    && s.qmg.holdoffs.any (fun h => h.same eq e && decide (s.clk.now < h.at_ + us (s.fld .rmaEvtHoldoff 0 19 0)))

/-- An event has been written: its hold-off begins (R161). -/
def noteWritten (eq : Nat) (e : Event) (s : State) : State :=
  if heldOffKind e.kind then
    { s with qmg := { s.qmg with
      holdoffs := { eq := eq, kind := e.kind, subject := e.subject, at_ := s.clk.now } :: s.qmg.holdoffs.filter (fun h => !h.same eq e) } }
  else s

/-- Write events in their order, until one must wait for its host port, for the translation of its slot or for START. Whether the EQ is
full, and whether the hold-off suppresses an event, is judged when its turn comes (DESIGN CHOICE, log 124); a fault loses it and those
behind it (R43, R44, R161, R181). -/
def eqDrain (qid : Nat) : List Event → State → State
  | [], s => s
  | e :: l, s =>
    match s.queue? qid with
    | none => s
    | some q =>
      if s.eqShut q then dropEvent q.attr.ep (eqDrain qid l s)
      else if q.state == .stopped then updSink qid (fun k => { k with evWait := k.evWait ++ (e :: l) }) s
      else if s.eqFull q then eqDrain qid l (eqLose q e s)
      else if s.heldOff qid e then eqDrain qid l (dropEvent q.attr.ep s)
      else if s.portHolds q.attr.ep then updSink qid (fun k => { k with evWait := k.evWait ++ (e :: l) }) s
      else
        match ringSlot q (s.eqPi qid) 32 (.evRec qid) s with
        | (.hit (g :: _), s) => eqDrain qid l (noteWritten qid e (eqRecord q g e s))
        | (.pending, s) => updSink qid (fun k => { k with evWait := k.evWait ++ (e :: l) }) s
        | (_, s) => (e :: l).foldl (fun s e => eqLose q e s) s

/-- Write an event to an EQ, behind those that wait there (R43, R44, R181). -/
def eqPut (qid : Nat) (e : Event) (s : State) : State :=
  match s.queue? qid with
  | none => s
  | some q =>
    if s.eqShut q then dropEvent q.attr.ep s
    else if !q.sink.evWait.isEmpty then updSink qid (fun k => { k with evWait := k.evWait ++ [e] }) s
    else if s.eqFull q then eqLose q e s
    else eqDrain qid [e] s

/-- Write the QUEUE_OVERFLOW event once OVERFLOW is clear and a slot is free (R44). -/
def eqFlush (qid : Nat) (s : State) : State :=
  match s.queue? qid with
  | none => s
  | some q =>
    if q.sink.lost = 0 || s.eqOverflow qid || decide (q.size ≤ s.eqFilled q) || !s.epUp then s
    else
      eqPut qid { kind := evQueueOverflow, qid := qid, subject := 0, data0 := word q.sink.lost, data1 := 0, time := s.dtimeNs }
        (updSink qid (fun k => { k with lost := 0 }) s)

/-! ### Events (R96, R160, R161) -/

/-- Asynchronous EQ and event mask of an endpoint. -/
def State.epEvent (s : State) (ep : Nat) : Nat × Word := (s.qmg.epEq[ep]?).getD (0, 0)

/-- Events are written: the endpoint side works, or a warm reset has not quiesced yet (R72, R443). -/
def State.evUp (s : State) : Bool := s.epUp || (decide (s.sys.stage = .warmQuiesce) && !s.sys.quiesced)

/-- The walk that an EQ's oldest event waited for ended: write it and those behind it, or lose it. They wait on while no
event may be written (R72, R181). -/
def eqRetry (qid : Nat) (s : State) : State :=
  match s.queue? qid with
  | none => s
  | some q =>
    if !s.evUp then s else eqDrain qid q.sink.evWait (updSink qid (fun k => { k with evWait := [] }) s)

/-- Host ports may issue requests again: what they had kept goes out, then the events that waited for them (R43, R409, R495). -/
def portsRelease (s : State) : State :=
  (s.qmg.queues.filter (fun q => q.kind == .eq && !q.sink.evWait.isEmpty)).foldl (fun s q => eqRetry q.qid s) (releaseHeld s)

/-- Write an event to the asynchronous EQ of an endpoint, under its mask and the hold-off (R96, R160, R161). Without such an EQ the event
is discarded and counted, whatever the mask says (R96). Nothing is written while the endpoint side is halted (R72). -/
def endpointPut (ep : Nat) (e : Event) (s : State) : State :=
  let (eq, mask) := s.epEvent ep
  if !s.evUp then s
  else if eq = 0 ∨ (s.queue? eq).isNone then dropEvent ep s
  else if maskedKind e.kind && !bit mask.toNat e.kind then s
  else if s.heldOff eq e then dropEvent ep s
  else eqPut eq e s

/-- Write an event of a kind to the asynchronous EQ of an endpoint now; `subject` is the port, peer FA, ASID or fault kind (R96, R161). -/
def endpointEvent (ep kind qid : Nat) (d0 d1 : Nat) (subject : Nat) (s : State) : State :=
  endpointPut ep { kind := kind, qid := qid, subject := subject, data0 := word d0, data1 := word d1, time := s.dtimeNs } s

/-- An event concerning a queue, as it arises now (R95, R96). It goes to the EQ bound now, also where it is written later, behind a record,
and CMD_QUEUE_MODIFY has bound another by then (DESIGN CHOICE, log 196). -/
def eventOf (q : Queue) (kind d0 d1 : Nat) (s : State) : BoundEvent :=
  { eq := q.attr.eq, ep := q.attr.ep, event := { kind := kind, qid := q.qid, subject := 0, data0 := word d0, data1 := word d1, time := s.dtimeNs } }

/-- Write an event concerning a queue to its bound EQ, or to the endpoint's asynchronous EQ when it has none (R96). -/
def putEvent (b : BoundEvent) (s : State) : State :=
  if !s.evUp then s
  else if b.eq ≠ 0 then eqPut b.eq b.event s
  else if b.event.kind = evCqNotify then dropEvent b.ep s
  else endpointPut b.ep b.event s

/-- Write an event concerning a queue now (R96). -/
def queueEvent (q : Queue) (kind : Nat) (d0 d1 : Nat) (s : State) : State := putEvent (eventOf q kind d0 d1 s) s

/-- A QUEUE_DRAINED event of a queue that waits in an EQ is withdrawn: the queue left STOPPED before it was written (R583). -/
def dropDrained (qid : Nat) (s : State) : State :=
  let keep (e : Event) : Bool := !(e.kind == evQueueDrained && e.qid == qid)
  { s with qmg := { s.qmg with queues := s.qmg.queues.map (fun x => { x with sink := { x.sink with evWait := x.sink.evWait.filter keep } }) } }

/-- Write an event to every endpoint's asynchronous EQ (R160). -/
def allEndpoints (kind d0 d1 subject : Nat) (s : State) : State :=
  (List.range 8).foldl (fun s ep => endpointEvent ep kind 0 d0 d1 subject s) s

/-! ### Faults and their classes (R512-R514) -/

/-- The first step of a warm reset: the device quiesces, and every fabric port goes down without grace (R443). No fault took the ports
down: DATA1 of their PORT_DOWN events is 0 (DESIGN CHOICE, log 126). -/
def quiesce (s : State) : State :=
  let up := s.upPorts
  let s := up.foldl (fun s p => allEndpoints evPortDown p 0 p s) s
  portsDownAll { s with sys := { s.sys with stage := .warmQuiesce, portsBefore := up, quiesced := false } }

/-- Begin a warm reset with a cause of R440. During a warm reset or a boot the request is ignored and counted (R442). -/
def beginWarm (cause : Nat) (s : State) : State :=
  let s := { s with sys := { s.sys with warmCount := (s.sys.warmCount + 1) % 2 ^ 32 } }
  if !s.running then s else quiesce { s with sys := { s.sys with resetCause := cause } }

/-- Halt the endpoint side (R72, R514). -/
def haltEp (s : State) : State := { s with sys := { s.sys with halt := true } }

/-- Report a fault: hub, DEVICE_FAULT from class C2 on, and for class C3 the halt and, with AUTO_WARM, a warm reset
(R508-R514). The event of a C3 fault is written before the endpoint side halts. The warm reset of a rail fault waits for the rail
(R573), that of a lost REFCLK for its return (R433). -/
def report (k : FKind) (source inst addr : Nat) (s : State) : State :=
  let hi := faultHi source inst s.dtimeNs
  let s := hubTake k source inst addr s
  let s := if 2 ≤ k.cls then allEndpoints evDeviceFault (faultLo k addr) hi k.code s else s
  if k.cls = 3 then
    let s := haltEp s
    if s.fld .sysCtrl 0 2 2 = 1 ∧ k ≠ .pwrRailFault ∧ k ≠ .clkRefLost then beginWarm 4 s else s
  else s

/-- Device memory whose loss no rule contains cannot be read or written at an address (R485, R515). -/
def memLost (at_ : Nat × Nat) (s : State) : State := report .memEccUncorrected 0x16 (2 * at_.1) at_.2 s

end Sys2Proof.Machine
end

