-- ==== Sys2Proof/Machine/PowerOps.lean ====
section
/-! DEFINITION. Leave, domains and budget classes, as other families use them (R23, R406-R419). -/

namespace Sys2Proof.Machine

def updPwr (f : Pwr → Pwr) (s : State) : State := { s with fab := { s.fab with pwr := f s.fab.pwr } }

/-! ### Domains (R23, R406, R407) -/

/-- Domains of the units (R23). -/
def laneDomain (l : Nat) : Nat := l / 32
def engineDomain (c : Nat) : Nat := 24 + c / 2
def chorusDomain (c : Nat) : Nat := 36 + c / 2
def hostDomain (h : Nat) : Nat := 40 + h / 2

/-- The domain an operation needs ON (R411). -/
def LeaveOp.domain : LeaveOp → Nat
  | .slice n => 16 + n
  | .pair d => d
  | .exit d => d
  | .lane l => laneDomain l
  | .width cc => chorusDomain cc
  | .restore code => if code < 0x60 then engineDomain (code / 4) else chorusDomain (code - 0x60)
  | .laneTest l => laneDomain l
  | .memTest _ => 44

/-- A domain: ON where it is not listed. -/
def State.domain? (s : State) (n : Nat) : Option Domain := s.fab.pwr.domains.find? (fun d => d.num = n)

def State.domainOn (s : State) (n : Nat) : Bool := (s.domain? n).elim true (fun d => decide (d.state = .on))

def updDomain (n : Nat) (f : Domain → Domain) (s : State) : State :=
  updPwr (fun p => { p with domains := updAll (fun d => d.num = n) f p.domains }) s

/-! ### Engines (R518) -/

/-- An engine: active where it is not listed. -/
def State.engine (s : State) (code : Nat) : Engine := (s.engines.find? (fun e => e.code = code)).getD { code := code, retired := false }

def updEngine (code : Nat) (f : Engine → Engine) (s : State) : State :=
  { s with engines := f (s.engine code) :: s.engines.filter (fun e => e.code ≠ code) }

/-! ### Requests (R411, R413, R419, R421) -/

/-- The priority a request counts with (R413). -/
def LeaveReq.rank (r : LeaveReq) : Nat := if r.aged then 0 else r.prio

/-- Field CODE of PWR_BCA_MAP: the floor and HOLD (R419); neither before a code has been taken (log 43). -/
def State.bcaField (s : State) : Nat :=
  let c := s.fab.pwr.bcaCode
  if s.fab.pwr.bcaOk then s.fld .pwrBcaMap 0 (4 * c + 3) (4 * c) else 0

/-- A request is held by the field of the BCA code (R419). -/
def State.bcaHeld (s : State) (r : LeaveReq) : Bool := bit s.bcaField 3 && decide (2 ≤ r.rank)

/-- A request is held (R419, R421). -/
def State.held (s : State) (r : LeaveReq) : Bool := s.bcaHeld r || (s.fab.pwr.violated && decide (1 ≤ r.rank))

/-- A notice ends before its grant once the request behind it is held by a BCA code (R415), or is withdrawn (DEDUCED, log 193). -/
def noticeCheck (s : State) : State :=
  match s.fab.pwr.notice with
  | none => s
  | some o =>
    let recent := s.fab.pwr.noticeGrant.elim false (fun t => decide (s.clk.now < t + us (s.fld .pwrRampLimit 0 47 40)))
    if s.fab.pwr.reqs.any (fun r => r.op = o && !s.bcaHeld r) then s
    else updPwr (fun p => { p with notice := none, rampLow := if recent then p.rampLow else none }) s

/-- Bring the times that requests are held by a BCA code up to date, and the notice with them (R413, R415). -/
def updHolds (s : State) : State :=
  let upd (r : LeaveReq) : LeaveReq :=
    match s.bcaHeld r, r.heldAt with
    | true, none => { r with heldAt := some s.clk.now }
    | false, some t => { r with heldAt := none, heldFor := r.heldFor + (s.clk.now - t) }
    | _, _ => r
  noticeCheck (updPwr (fun p => { p with reqs := p.reqs.map upd }) s)

/-- Withdraw the requests of an operation, those that wait for a domain among them. -/
def dropLeave (op : LeaveOp) (s : State) : State :=
  noticeCheck (updPwr (fun p => { p with
    reqs := p.reqs.filter (fun r => r.op ≠ op)
    domains := p.domains.map (fun d => { d with waiting := d.waiting.filter (fun r => r.op ≠ op) }) }) s)

def leaveReq (op : LeaveOp) (prio step : Nat) (s : State) : LeaveReq :=
  { op := op, prio := prio, step := step, at_ := s.clk.now, heldFor := 0, heldAt := none, aged := false }

/-- Put a request into the order. -/
def enqueueReq (r : LeaveReq) (s : State) : State := updHolds (updPwr (fun p => { p with reqs := p.reqs ++ [r] }) s)

/-- Step of a domain exit, in 0.25 A (R411). -/
def exitStep : DomState → Nat
  | .on => 0 | .gated => 4 | .retention => 8 | .off => 12

/-- A domain that is not ON begins to leave its state: its exit asks for leave once, and takes the priority of the most urgent operation
that needs it (R409, R411). -/
def askExit (n prio : Nat) (s : State) : State :=
  match s.domain? n with
  | none => s
  | some d =>
    if d.state = .on ∨ d.exiting.isSome then s
    else if s.fab.pwr.reqs.any (fun r => r.op = .exit n) then
      updHolds (updPwr (fun p => { p with reqs := updAll (fun r => r.op = .exit n) (fun r => { r with prio := min r.prio prio }) p.reqs }) s)
    else enqueueReq (leaveReq (.exit n) prio (exitStep d.state) s) s

/-- Ask for leave: the exit of the domain first, where one is needed (R411). -/
def askLeave (op : LeaveOp) (prio step : Nat) (s : State) : State :=
  let n := op.domain
  let r := leaveReq op prio step s
  if s.domainOn n then enqueueReq r s
  else askExit n prio (updDomain n (fun d => { d with waiting := d.waiting ++ [r] }) s)

/-- An event that the predictor did not foresee wakes its domain; the exit is counted (R409). A domain that is OFF stays so. -/
def wakeDomain (n : Nat) (s : State) : State :=
  match s.domain? n with
  | none => s
  | some d =>
    if d.state = .on ∨ d.state = .off ∨ d.exiting.isSome then s
    else if s.fab.pwr.reqs.any (fun r => r.op = .exit n) then askExit n 1 s
    else askExit n 1 (s.count 52 1)

/-- Requests for leave of operations that need a domain ON, that for its level apart. -/
def State.domainReqs (s : State) (n : Nat) : List LeaveReq := s.fab.pwr.reqs.filter (fun r => decide (r.op.domain = n) && decide (r.op ≠ .pair n))

/-- A domain leaves ON: its level is 0 and needs no leave any more, and other requests wait until it is ON again (R406, R410, R411,
R414). -/
def leaveOn (n : Nat) (st : DomState) (due : Option Nat) (s : State) : State :=
  noticeCheck (updPwr (fun p => { p with
    domains := { num := n, state := st, exiting := none, due := due, waiting := s.domainReqs n } :: p.domains.filter (fun d => d.num ≠ n)
    reqs := p.reqs.filter (fun r => r.op.domain ≠ n)
    levels := p.levels.filter (fun l => l.dom ≠ n) }) s)

/-! ### Activity levels (R414) -/

/-- The activity of a unit: level 0 with nothing issued where it is not listed. -/
def State.activity (s : State) (d : Nat) : Activity :=
  (s.fab.pwr.levels.find? (fun a => a.dom = d)).getD { dom := d, level := 0, win := 0, count := 0, next := 0, demandAt := 0 }

def setActivity (a : Activity) (s : State) : State :=
  updPwr (fun p => { p with levels := a :: p.levels.filter (fun x => x.dom ≠ a.dom) }) s

/-- Frame starts or dispatches in 100 ns that sixteenths of the full rate allow: at least one, since a single packet or job never waits for
a level. -/
def levelCap (d sixteenths : Nat) : Nat := max 1 (sixteenths * Config.fullRate d / 16)

/-- A unit issues a frame start or a dispatch: once its level allows one in the window of 100 ns, which is counted (R414). -/
def noteStart (d : Nat) (s : State) : State :=
  let s := s.advanceTo (s.activity d).next
  let a := s.activity d
  let w := s.clk.now / ns 100
  let n := (if a.win = w then a.count else 0) + 1
  setActivity { a with
    win := w, count := n, next := if levelCap d (a.level + 1) ≤ n then (w + 1) * ns 100 else 0
    demandAt := if levelCap d a.level ≤ n then s.clk.now else a.demandAt } s

/-- The level of a unit is reached: it asks for the next one (R414). -/
def askLevel (d : Nat) (s : State) : State :=
  let slice := decide (16 ≤ d) && decide (d < 24)
  let pair := decide (24 ≤ d) && decide (d < 40)
  let op : LeaveOp := if slice then .slice (d - 16) else .pair d
  if !(slice || pair) ∨ !s.domainOn d ∨ 15 ≤ (s.activity d).level ∨ s.fab.pwr.reqs.any (fun r => r.op = op) then s
  else askLeave op 0 (if slice then 8 else 2) s

/-- The level of a unit rises by one, under leave (R414). -/
def raiseLevel (d : Nat) (s : State) : State :=
  let a := s.activity d
  setActivity { a with level := min 15 (a.level + 1), next := 0, demandAt := s.clk.now } s

/-- The units whose frame starts or dispatches have reached the rate of their level, in the window of 100 ns that runs or in the one
before it (R414). -/
def State.atLevel (s : State) : List Nat :=
  (s.fab.pwr.levels.filter (fun a => decide (levelCap a.dom (a.level + 1) ≤ a.count) && decide (s.clk.now / ns 100 ≤ a.win + 1))).map (·.dom)

/-! ### Sleep (R408) -/

/-- A packet waits for a domain. -/
def State.packetWaits (s : State) (n : Nat) : Bool := s.qmg.asleep.any (fun x => decide (n ∈ x.doms))

/-- A job that is being parsed, or that reads what it needs before its packets go. -/
def Job.inWork (j : Job) : Bool := j.phase == .accepted || j.phase == .xlate || j.phase == .readFtab || j.phase == .readData

/-- A walk serves a unit of an engine or chorus cluster pair: units 0-23 and 24-31 (R408). -/
def State.walkWaits (s : State) (n : Nat) : Bool := s.xlt.walks.any (fun w => decide (24 + w.unit / 2 = n))

/-- A target operation is being handled: by engine cluster 0 (R408, log 47). -/
def State.targetWaits (s : State) (n : Nat) : Bool := decide (n = 24) && s.rma.targets.any (fun t => !t.answered && (t.issued || !t.todo.isEmpty || !t.xp.todo.isEmpty))

/-- An engine cluster pair has work: a packet, a walk, an operation of a peer, or a queue homed on it that is ready, that prefetches, or
whose job is in work (R408). -/
def State.pairBusy (s : State) (n : Nat) : Bool :=
  s.packetWaits n || s.walkWaits n || s.targetWaits n || s.qmg.queues.any (fun q => (q.kind == .sq || q.kind == .srq) && decide (engineDomain q.attr.home = n)
    && ((q.state == .active && !q.fetch.taken.isEmpty && decide (q.te ≤ s.dtimeNs)) || q.fetch.running
      || s.qmg.jobs.any (fun j => decide (j.qid = q.qid) && j.inWork)))

/-- An operation has operands to work on: contributions not yet forwarded, or a member's data still to give. -/
def ChorusOp.hasWork (o : ChorusOp) : Bool :=
  o.chunks.any (fun c => !c.forwarded && !(c.from_.isEmpty && c.part.isEmpty)) || !o.later.isEmpty
    || o.members.any (fun m => m.ready && !m.todo.isEmpty)

/-- A chorus cluster pair has work: a packet, or an operand of a group homed on it (R408). -/
def State.chorusBusy (s : State) (n : Nat) : Bool :=
  s.packetWaits n || s.walkWaits n || s.svc.groups.any (fun g => decide (chorusDomain g.home = n) && g.ops.any ChorusOp.hasWork)

/-- A host port pair has work: a packet, a request outstanding or waiting, a walk, a link in training (R408). -/
def State.hostBusy (s : State) (n : Nat) : Bool :=
  s.packetWaits n || s.heldOut.any (fun o => o.out.hostPort.elim false (fun h => decide (hostDomain h = n)))
    || s.qmg.queues.any (fun q => q.kind == .eq && q.state == .active && !q.sink.evWait.isEmpty && decide (hostDomain q.attr.ep = n))
    || s.hif.reqs.any (fun r => decide (hostDomain r.port = n)) || s.xlt.walks.any (fun w => decide (hostDomain w.host = n))
    || [0, 1].any (fun i => (s.hif.ports[2 * (n - 40) + i]?).elim false (fun (p : HostPort) => decide (40 ≤ n) && p.training))

/-- The host port of an address space. -/
def State.asidHost (s : State) (a : Nat) : Option Nat := (s.xlt.asids.find? (fun x => x.asid = a)).map (·.host)

/-- The retransmit timeout of a half from its estimate (R211). -/
def State.rto (s : State) (h : SendHalf) : Nat :=
  let lo := us (atLeast1 (s.fld .trnRto 0 15 0))
  let hi := max lo (us (s.fld .trnRto 0 47 32))
  match h.srtt with
  | none => us (atLeast1 (s.fld .trnRto 0 31 16))
  | some m => clamp lo hi (m + 4 * h.rttvar)

/-- The retransmit timeout in force: doubled by each consecutive timeout, up to TRN_RTO.MAX (R211). -/
def State.timeout (s : State) (h : SendHalf) : Nat :=
  if h.timeouts = 0 then s.rto h
  else min (max (us (atLeast1 (s.fld .trnRto 0 15 0))) (us (s.fld .trnRto 0 47 32))) (s.rto h * 2 ^ min h.timeouts 32)

/-- Deadlines of the timers of a chorus cluster pair: resends of results, and the JOIN_TMO of its groups (R235, R247, R408). -/
def State.chorusTimers (s : State) (n : Nat) : List Nat :=
  s.svc.groups.flatMap (fun g =>
    if chorusDomain g.home = n then
      g.flows.flatMap (fun f => f.log.map (fun r => r.sentAt + us (atLeast1 (s.fld .chrCtrl 0 47 32))))
        ++ (if g.state = .active ∧ (g.children.length < g.expectChildren ∨ g.locals.length < g.expectLocal) then
            [g.activeAt + ms (atLeast1 (s.fld .chrCtrl 0 23 8))] else [])
    else [])

/-- The domain of the cluster that works for a packet: the home of its job's queue or of its group, and for what engine cluster 0 sends,
such as a response, that cluster's (R32, R230; log 47). -/
def State.opDomain (s : State) (op : OpRef) : Nat :=
  match op with
  | .chorus g => (s.svc.groups.find? (fun x => x.num = g)).elim 24 (fun x => chorusDomain x.home)
  | _ => (s.opQueue op).elim 24 (fun q => engineDomain q.attr.home)

/-- Deadlines of the send half of a peer state that a cluster pair works for: the retransmit timer, the not-now backoffs of its packets,
the timers of OPENING, and TRN_RETRY.UNREACH_TMO (R192, R211, R214, R295). -/
def State.halfTimers (s : State) (n : Nat) (k : PeerKey) (h : SendHalf) : List Nat :=
  let mine := (h.out ++ h.queue).filter (fun o => decide (s.opDomain o.op = n))
  let waits := s.qmg.jobs.any (fun j => j.phase == .sent && decide (j.ep = k.ep) && decide (j.peerFa = k.fa) && decide (j.tc = k.tc)
    && (s.queue? j.qid).elim false (fun q => decide (engineDomain q.attr.home = n)))
  let unreach := us (atLeast1 (s.fld .trnRetry 0 27 8))
  if mine.isEmpty && !waits then []
  else match h.state with
    | .opening => (h.openedAt + unreach) :: (h.timerAt.map (fun t => t + if h.openHold then ns h.openBackoff else s.rto h)).toList
    | .opened =>
      (if h.out.isEmpty then [] else (h.timerAt.map (fun t => t + s.timeout h)).toList)
        ++ mine.filterMap (·.holdUntil) ++ (h.noRoute.map (fun t => t + unreach)).toList
    | .closed => []

/-- Deadlines of the timers of an engine cluster pair: those of the send halves that it works for, and the refusal periods of its match
contexts (R129, R192, R211, R214, R408; DEDUCED, log 158). -/
def State.engineTimers (s : State) (n : Nat) : List Nat :=
  s.trn.peers.flatMap (fun p => p.send.elim [] (s.halfTimers n p.key))
    ++ s.svc.ctxs.filterMap (fun c =>
      if engineDomain c.home = n then c.refusedAt.map (fun t => t + us (atLeast1 (s.fld .mtcUnexpTmo 0 19 0))) else none)

/-- The earliest known event of a domain: eligible times of its shaped queues, and of the peer states whose endpoint it serves or whose
waiting packets its clusters send or read again, and the timers of its engines, of which one that is due stands at now (R326, R408). In
0.1 ns since power-on. -/
def State.nextEvent (s : State) (n : Nat) : Option Nat :=
  let q := s.qmg.queues.filterMap (fun q =>
    if q.kind == .sq && (decide (engineDomain q.attr.home = n) || decide ((s.asidHost q.attr.asid).map hostDomain = some n)) && decide (s.dtimeNs < q.te) then
      some (s.clk.now + ns (q.te - s.dtimeNs)) else none)
  let p := s.trn.peers.filterMap (fun p =>
    let here := decide (hostDomain p.key.ep = n)
      || (p.send.elim [] (fun h => h.queue ++ h.out.filter (·.again != .no))).any (fun o => decide (s.opDomain o.op = n))
    if p.send.isSome && decide (s.dtimeNs < p.eligible) && here then some (s.clk.now + ns (p.eligible - s.dtimeNs)) else none)
  (q ++ p ++ (s.chorusTimers n ++ s.engineTimers n).map (max s.clk.now)).foldl (fun m t => match m with
    | none => some t
    | some u => some (min u t)) none

/-- The sleep states PWR_PRED.ALLOW permits a domain: CLOCK-GATED, RETENTION (R407, R408). -/
def State.allows (s : State) (n : Nat) : Bool × Bool :=
  let a := s.fld .pwrPred 0 36 32
  if n < 36 then (bit a 0, bit a 1) else if n < 40 then (bit a 2, bit a 3) else (bit a 4, false)

/-- The state that the predictor chooses for an idle domain whose earliest event is at T (R408). -/
def State.sleepChoice (s : State) (n : Nat) (t : Option Nat) : DomState :=
  let d := t.elim (2 ^ 64) (fun t => (t - s.clk.now) / 10)
  let (cg, ret) := s.allows n
  if ret && decide (s.fld .pwrPred 0 31 16 ≤ d) then .retention
  else if cg && decide (s.fld .pwrPred 0 15 0 ≤ d) then .gated
  else .on

/-- An idle domain chooses its sleep state (R408). -/
def domainSleep (n : Nat) (s : State) : State :=
  if n < 24 ∨ 43 < n ∨ s.fld .pwrPred 0 63 63 = 0 ∨ !s.domainOn n ∨ s.pairBusy n ∨ s.chorusBusy n ∨ s.hostBusy n
    ∨ s.xlt.invals.any (fun i => i.started && !i.applied) ∨ !(s.domainReqs n).isEmpty then s
  else
    let t := s.nextEvent n
    let c := s.sleepChoice n t
    if c = .on then s else leaveOn n c t s

/-- T of a sleeping domain has come, and its exit starts; or T has changed, and the predictor, while it is in use, chooses again (R408;
log 158). -/
def domainAgain (n : Nat) (s : State) : State :=
  match s.domain? n with
  | none => s
  | some d =>
    let t := s.nextEvent n
    if !s.sleeps n ∨ d.exiting.isSome ∨ s.fab.pwr.reqs.any (fun r => r.op = .exit n) then s
    else if d.due.elim false (fun t => decide (t ≤ s.clk.now)) then askExit n 1 (updDomain n (fun d => { d with due := none }) s)
    else if d.due = t ∨ s.fld .pwrPred 0 63 63 = 0 then s
    else
      match s.sleepChoice n t with
      | .on => askExit n 1 (updDomain n (fun d => { d with due := none }) s)
      | c => updDomain n (fun d => { d with state := c, due := t }) s

/-- HIF_LINK_CTRL.ENABLE. -/
def State.linkEnabled (s : State) (h : Nat) : Bool := decide (s.fldI .hifLinkCtrl h 0 8 8 = 1)

/-- The link of a port trains while it may, unless its domain is OFF: in the other states its PHY stays clocked (R404, R407). -/
def linkTrain (h : Nat) (s : State) : State :=
  let powered := (s.domain? (hostDomain h)).elim true (fun d => d.state != .off)
  updPort h (fun p => { p with training := s.linkEnabled h && !p.inReset && !p.up && powered }) s

/-- A host port pair whose links are both disabled goes OFF, and its second-level TLBs and walk caches are empty (R407, R410). -/
def hostDomainOff (n : Nat) (s : State) : State :=
  let h := 2 * (n - 40)
  if s.domainOn n && !s.linkEnabled h && !s.linkEnabled (h + 1) then
    let s := leaveOn n .off none s
    let gone := fun (x : Nat) => x == h || x == h + 1
    { s with xlt := { s.xlt with
        tlb := s.xlt.tlb.filter (fun e => match e.place with
          | .second x => !gone x
          | _ => true)
        wc := s.xlt.wc.filter (fun e => !gone e.host) } }
  else s

/-- A chorus cluster pair goes OFF once both clusters are retired, and its TLBs are empty; a restore that waits for leave asks for the
exit (R407, R410, R411, R519). -/
def chorusDomainOff (n : Nat) (s : State) : State :=
  let c := 2 * (n - 36)
  if s.domainOn n && (s.engine (0x60 + c)).retired && (s.engine (0x61 + c)).retired then
    let s := leaveOn n .off none s
    let s : State := { s with xlt := { s.xlt with tlb := s.xlt.tlb.filter (fun e => match e.place with
        | .fetch u | .data u => decide (24 + u / 2 ≠ n)
        | .second _ => true) } }
    ((s.domain? n).elim [] (·.waiting)).foldl (fun s r => match r.op with
      | .restore _ => askExit n r.prio s
      | _ => s) s
  else s

/-- The predictor at work: an idle domain chooses a sleep state, one with work wakes, one whose T has changed chooses again (R408,
R409). -/
def predictor (s : State) : State :=
  ((List.range 20).map (· + 24)).foldl (fun s n =>
    if s.domainOn n then domainSleep n s
    else if s.pairBusy n || s.chorusBusy n || s.hostBusy n then wakeDomain n s else domainAgain n s) s

/-- A lane domain goes OFF once every lane of it is OFF or FAILED, and none asks to acquire (R407, R411, log 42). -/
def laneDomainOff (n : Nat) (s : State) : State :=
  if s.domainOn n && (s.domainReqs n).isEmpty && (List.range 32).all (fun i =>
      decide ((s.lane (32 * n + i)).state = .off) || decide ((s.lane (32 * n + i)).state = .failed)) then
    let s := leaveOn n .off none s
    updFab (fun f => { f with lanes := updAll (fun l => l.num / 32 = n) (fun l => { l with coef := false }) f.lanes }) s
  else s

/-! ### Budget class (R416-R418) -/

def State.bcaFloor (s : State) : Nat := s.bcaField % 8
def State.thermFloor (s : State) : Nat := s.fld .pwrBudgetClass 0 34 32

/-- The class that the floors give (R416). -/
def State.classNow (s : State) : Nat :=
  max (max (s.fld .pwrBudgetClass 0 10 8) s.bcaFloor) (max s.fab.pwr.powerFloor s.thermFloor)

/-- Halvings of 1,024 bits that a class selects (R246). -/
def State.widthCode (s : State) (c : Nat) : Nat := min 3 (s.fld .chrAccWidth 0 (4 * c + 3) (4 * c))

/-- Doublings withheld from a chorus cluster. -/
def State.withheld (s : State) (cc : Nat) : Nat := (assoc cc s.fab.pwr.widths).getD 0

/-- Ask for the doublings of a round: those of clusters that still lack more than r of them (R418). -/
def widthRound (lack : List (Nat × Nat)) (r : Nat) (s : State) : State :=
  lack.foldl (fun s l => if r < l.2 then askLeave (.width l.1) 2 4 s else s) s

/-- Of the width requests of each cluster, keep as many as it still needs, the oldest first (R418). -/
def keepWidths (need : List (Nat × Nat)) : List LeaveReq → List LeaveReq
  | [] => []
  | r :: l =>
    match r.op with
    | .width cc =>
      let k := (assoc cc need).getD 0
      if k = 0 then keepWidths need l else r :: keepWidths (assocSet cc (k - 1) need) l
    | _ => r :: keepWidths need l

/-- The width codes change from those of one class to those of another: narrowing at once, widening under leave; requests that have
become unnecessary are withdrawn. A sleeping cluster takes the new width when it is ON again (R409, R418). -/
def rewidth (old new : Nat) (s : State) : State :=
  let pend (cc : Nat) : Nat := (s.fab.pwr.reqs.filter (fun r => r.op = .width cc)).length
  let plan := (List.range 8).map (fun cc =>
    let cur := old + s.withheld cc
    let need := if s.domainOn (chorusDomain cc) then cur - new else 0
    (cc, need, pend cc))
  let widths := plan.filterMap (fun x => if x.2.1 = 0 then none else some (x.1, x.2.1))
  let s := noticeCheck (updPwr (fun p => { p with widths := widths, reqs := keepWidths (plan.map (fun x => (x.1, x.2.1))) p.reqs }) s)
  let lack := plan.map (fun x => (x.1, x.2.1 - x.2.2))
  (List.range 3).foldl (fun s r => widthRound lack r s) s

/-- Bring the class in force up to date; each change is counted; an excess of R421 ends with class 7 (R416, R421). -/
def reclass (s : State) : State :=
  let c := s.classNow
  let o := s.fab.pwr.cls
  if c = o then s
  else
    let s := (updPwr (fun p => { p with cls := c, overAt := if c = 7 then p.overAt else none }) s).count 51 1
    updHolds (rewidth (s.widthCode o) (s.widthCode c) s)

end Sys2Proof.Machine
end

