-- ==== Sys2Proof/Machine/Admin.lean ====
section
/-! DEFINITION. The life of a command: what makes it malformed, when it may begin, how it completes (R452-R465, R475, R498). -/

namespace Sys2Proof.Machine

/-- How the body of a command leaves it: completed with STATUS, DETAIL, RESULT0 and RESULT1, in progress until something else completes it,
or still at work. -/
inductive CmdEnd where
  | done (status detail r0 r1 : Nat)
  | wait
  | work
  deriving DecidableEq, Repr

def CmdEnd.ok : CmdEnd := .done csOk 0 0 0
def CmdEnd.result (r0 : Nat) : CmdEnd := .done csOk 0 r0 0
def CmdEnd.fail (status : Nat) : CmdEnd := .done status 0 0 0

/-- The body of a command: what it does once it has begun. -/
abbrev CmdBody := CmdEnv → CmdArgs → Begun → State → CmdEnd × State

/-- Opcodes permitted over MCTP, in command packets and with REMOTE (R463). -/
def outsideOp (op : Nat) : Bool :=
  op == 0x00 || op == 0x01 || op == 0x38 || op == 0x39 || op == 0x3A || op == 0x3B || op == 0x3C || op == 0x3D || op == 0x3E
    || op == 0x49 || op == 0x31 || op == 0x42

/-- OPCODE values that R459 reserves. -/
def reservedOp (op : Nat) : Bool :=
  decide (0x4A ≤ op) || [(0x03, 0x07), (0x0C, 0x0F), (0x14, 0x17), (0x1B, 0x1F), (0x24, 0x27), (0x2B, 0x2F), (0x32, 0x37), (0x3F, 0x3F), (0x43, 0x47)].any
    (fun r => decide (r.1 ≤ op) && decide (op ≤ r.2))

/-- The OPCODE of a command on the admin ring: the row's, or the reserved one that its word 0 holds (R456). -/
def opcodeOf (row : Nat) (a : CmdArgs) : Nat := if a.badOp.elim false reservedOp then a.badOp.getD row else row

/-- Commands that begin alone (R454). -/
def aloneOp (op : Nat) : Bool := op == 0x30 || op == 0x31 || op == 0x41 || op == 0x42 || op == 0x48

/-- Ring size exponent, CMD_RING_BASE.LOG2_SIZE. -/
def State.ringK (s : State) : Nat := clamp 4 12 (s.fld .cmdRingBase 0 62 59)
def State.cmdPi (s : State) : Pos := BitVec.ofNat 32 (s.raw .cmdPi 0 0)
def State.cmdCi (s : State) : Pos := BitVec.ofNat 32 (s.raw .cmdCi 0 0)

/-- Bus address of the command at a ring position (R451). -/
def State.ringAddr (s : State) (p : Pos) : Nat := at_ 12 (s.fld .cmdRingBase 0 51 12) + 64 * ringIndex p s.ringK

/-- Bus address of the status of a ring position (R451). -/
def State.statusAddr (s : State) (p : Pos) : Nat := at_ 12 (s.fld .cmdStatusBase 0 51 12) + 32 * ringIndex p s.ringK

/-- Capture into CMD_ERR (R475). -/
def cmdErr (chan op status pos : Nat) (s : State) : State :=
  s.capture .cmdErr 0 0 (at_ 61 chan + at_ 48 op + at_ 40 status + pos % 2 ^ 32)

/-- Channel code and position or SEQ of a command (R475). -/
def Channel.code : Channel → Nat × Nat
  | .ring p => (0, p.toNat)
  | .mctp q => (1, q)
  | .packet _ q => (2, q)

/-- Advance past positions that completed ahead. -/
def ciAfter : Nat → List Pos → Pos → Pos × List Pos
  | 0, l, p => (p, l)
  | n + 1, l, p => if p ∈ l then ciAfter n (l.filter (· ≠ p)) (p + 1) else (p, l)

/-- A ring position completed: CMD_CI becomes the oldest position not completed (R455). -/
def ringDone (p : Pos) (s : State) : State :=
  let (ci, rest) := ciAfter (s.cmd.doneAhead.length + 1) (p :: s.cmd.doneAhead) s.cmdCi
  { (s.setReg .cmdCi 0 0 ci.toNat) with cmd := { s.cmd with doneAhead := rest } }

/-- Put the answer of a command on its channel: one write into its status slot, an MCTP answer or a status packet (R455, R460,
R462, R465). A status write that a gate refuses is not made (log 21). -/
def answer (chan : Channel) (mid : Nat) (ws : Bool → List Word) (s : State) : State :=
  match chan with
  | .ring p =>
    let host := s.fld .cmdRingBase 0 58 56
    let (ok, s) := hostGates host 1 mid none [(s.statusAddr p, 32)] s
    let s := if ok then s.emit (.record host mid (s.statusAddr p) (ws (phaseOf p s.ringK)) false) else s
    ringDone p s
  | .mctp q => s.emit (.mctp 0x81 q (ws false))
  | .packet src q => s.emit (.command src (commandWords src 0x81 q (ws false)))

/-- Complete a command (R455, R460, R461). RESULT0 and RESULT1 are 0 unless the status is OK or VALIDATION gives RESULT1. -/
def completeCmd (b : Begun) (status detail r0 r1 : Nat) (s : State) : State :=
  let s := { s with cmd := { s.cmd with begun := s.cmd.begun.erase b, working := s.cmd.working.filter (fun w => w.begun ≠ b) } }
  let s := if status = csOk then s else cmdErr b.chan.code.1 b.opcode status b.chan.code.2 s
  let t := s.dtimeNs
  answer b.chan b.mid (fun ph => statusWords (if status = csOk then r0 else 0) r1 t b.opcode status detail b.tag ph) s

/-- Complete the first command in progress that satisfies p. -/
def completeWhere (p : Begun → Bool) (status detail r0 r1 : Nat) (s : State) : State :=
  match s.cmd.begun.find? p with
  | some b => completeCmd b status detail r0 r1 s
  | none => s

/-- Two commands name the same object (R454). -/
def sameObj (a b : Nat × Nat × Nat) : Bool := a.1 != 0 && a.1 == b.1 && decide (a.2.1 ≤ b.2.2) && decide (b.2.1 ≤ a.2.2)

/-- The object a command names in W1 (R454): 1 queue, 2 key index, 3 ASID, 4 partition, 5 context, 6 group, 7 locks, 8 variable
slots, 9 port, 10 lane, 11 engine, 12 channel. -/
def objectOf (op : Nat) (a : CmdArgs) : Nat × Nat × Nat :=
  let w := a.w1.toNat
  let one (k n : Nat) : Nat × Nat × Nat := (k, n, n)
  if op = 0x01 then
    let id := bits w 31 0
    match bits w 63 60 with
    | 0 => one 1 (bits id 19 0) | 1 => one 2 (bits id 23 0) | 2 => one 4 (bits id 15 0) | 3 => one 3 (bits id 15 0)
    | 4 => one 5 (bits id 15 0) | 5 => one 6 (bits id 11 0) | 6 => one 7 (bits id 13 0) | _ => (0, 0, 0)
  else if op = 0x02 then one 1 (bits w 51 32)
  else if op = 0x08 ∨ op = 0x09 then one 4 (bits w 15 0)
  else if op = 0x0A ∨ op = 0x0B ∨ op = 0x1A then one 3 (bits w 15 0)
  else if 0x10 ≤ op ∧ op ≤ 0x13 then one 1 (bits w 19 0)
  else if op = 0x18 then (if bits w 23 0 = 0 then (0, 0, 0) else one 2 (bits w 23 0))
  else if op = 0x19 then one 2 (bits w 31 8)
  else if op = 0x20 ∨ op = 0x21 then one 5 (bits w 15 0)
  else if op = 0x22 ∨ op = 0x23 then one 6 (bits w 11 0)
  else if op = 0x28 ∨ op = 0x29 then (if bit w 0 then 8 else 7, a.w2.toNat, a.w2.toNat + (a.w3.toNat - 1))
  else if op = 0x38 ∨ op = 0x39 ∨ op = 0x3A then one 9 (bits w 6 0)
  else if op = 0x3B then one 10 (bits w 8 0)
  else if op = 0x3C ∨ op = 0x3D then one 11 (bits w 7 0)
  else if op = 0x3E then one 12 (bits w 4 0)
  else (0, 0, 0)

/-- A command must wait to begin (R453, R454): 64 are in progress, one that runs alone is, it must run alone or has FENCE and
another has not completed, or an earlier one names its object. `first` says that every earlier ring position has completed. A command
for another router names objects of that router, `target`. -/
def State.blocked (s : State) (op : Nat) (fence first : Bool) (target : Option Nat) (obj : Nat × Nat × Nat) : Bool :=
  decide (64 ≤ s.cmd.begun.length + s.cmd.remote.length)
    || s.cmd.begun.any (fun b => aloneOp b.opcode) || s.cmd.remote.any (fun r => aloneOp r.opcode)
    || ((fence || aloneOp op) && !(first && s.cmd.begun.isEmpty && s.cmd.remote.isEmpty))
    || target.elim (s.cmd.begun.any (fun b => sameObj obj b.obj))
      (fun t => s.cmd.remote.any (fun r => decide (r.target = t) && sameObj obj r.obj))

/-- The domain that holds the object of a command wakes (R409). -/
def wakeForCommand (obj : Nat × Nat × Nat) (s : State) : State :=
  if obj.1 = 1 then (s.queue? obj.2.1).elim s (fun q => wakeDomain (engineDomain q.attr.home) s)
  else if obj.1 = 3 then (s.asidHost obj.2.1).elim s (fun h => wakeDomain (hostDomain h) s)
  else if obj.1 = 5 then (s.svc.ctxs.find? (fun c => c.num = obj.2.1)).elim s (fun c => wakeDomain (engineDomain c.home) s)
  else if obj.1 = 6 then (s.svc.groups.find? (fun g => g.num = obj.2.1)).elim s (fun g => wakeDomain (chorusDomain g.home) s)
  else s

/-- The command came from the admin ring. -/
def Channel.isRing : Channel → Bool
  | .ring _ => true
  | _ => false

/-- What every command passes before it is executed, here or at another router: BUSY while a full audit log stops commands (R498), a
FUNC_MID that is a function's on the admin ring, the command gate on its OPCODE (R458, R478). The status and DETAIL of one that does not
pass. -/
def admitCmd (b : Begun) (s : State) : Option (Nat × Nat) × State :=
  if s.auditBlocks then (some (csBusy, 0), s)
  else if b.chan.isRing && decide (0x800 ≤ b.mid) then (some (csInvalid, 0), s)
  else
    match gateCheck 0x17 b.opcode 1 3 b.mid none s with
    | (some rule, s) => (some (csProtection, at_ 8 0x17 + rule), s)
    | (none, s) => (none, s)

/-- Carry out a command that has begun. One that is still at work when this step ends is kept with what it works on. -/
def beginCmd (op : Nat) (chan : Channel) (env : CmdEnv) (a : CmdArgs) (body : CmdBody) (s : State) : State :=
  let b : Begun := { chan := chan, opcode := op, tag := a.tag, mid := a.mid, obj := objectOf op a }
  let s := { s with cmd := { s.cmd with begun := s.cmd.begun ++ [b] } }
  match admitCmd b s with
  | (some (st, d), s) => completeCmd b st d 0 0 s
  | (none, s) =>
    if !a.remote && a.target ≠ 0 then completeCmd b csInvalid 0 0 0 s
    else
      let w : Working := { begun := b, env := env, args := a, start := s.clk.now, prior := s.cmd.shadow, committed := none }
      match body env a b (wakeForCommand b.obj s) with
      | (.done status detail r0 r1, s) => completeCmd b status detail r0 r1 s
      | (.wait, s) => s
      | (.work, s) => { s with cmd := { s.cmd with working := s.cmd.working ++ [w] } }

/-- The command at the next ring position is malformed: CMD_MALFORMED, and the endpoint side halts (R72, R456). -/
def ringMalformed (op : Nat) (p : Pos) (s : State) : State :=
  report .cmdMalformed 0x07 0 p.toNat (cmdErr 0 op csMalformed p.toNat s)

/-- A command packet to endpoint 0 of the router at TARGET_COORD (R464). -/
def sendPacket (op : Nat) (p : Pos) (a : CmdArgs) (s : State) : State :=
  let q := s.cmd.nextSeq
  let dl := s.clk.now + us (atLeast1 (s.fld .cmdFabCtrl 0 51 32))
  let s := { s with cmd := { s.cmd with nextSeq := (q + 1) % 2 ^ 32, remote := s.cmd.remote ++ ([⟨q, p, dl, op, a.tag, a.mid, a.target, objectOf op a⟩] : List RemoteCmd) } }
  s.emit (.command a.target (commandWords a.target 0x01 q (cmdWords op a)))

/-- Send a REMOTE command as a command packet (R464), when it passes here what every command passes (R458, R478, R498). -/
def sendRemote (op : Nat) (p : Pos) (a : CmdArgs) (s : State) : State :=
  let b : Begun := { chan := .ring p, opcode := op, tag := a.tag, mid := a.mid, obj := objectOf op a }
  match admitCmd b s with
  | (some (st, d), s) => completeCmd b st d 0 0 s
  | (none, s) => sendPacket op p a s

/-- The ring has a command to begin: it is enabled and the next position lies below CMD_PI (R451, R453). -/
def State.ringReady (s : State) : Bool :=
  s.running && decide (s.fld .cmdRingBase 0 63 63 = 1) && decide (dist s.cmdPi s.cmd.next ≠ 0)
    && decide (dist s.cmdPi s.cmd.next < 2 ^ 31)

/-- MID of the management cores, as the one that reads the admin ring carries it (R476, log 209). -/
def mgcMid : Nat := 0x880

/-- A command is malformed on the admin ring (R456). -/
def cmdBad (op : Nat) (a : CmdArgs) : Bool := a.rsv ≠ 0 || reservedOp op || (a.remote && !outsideOp op)

/-- The management firmware reads the command at the next ring position and takes it (R451). False when a gate refuses the read
(R482, log 209). The read is over within the step, so its number is free again. -/
def readRing (s : State) : Bool × State :=
  let host := s.fld .cmdRingBase 0 58 56
  let addr := s.ringAddr s.cmd.next
  let (ok, s) := hostGates host 0 mgcMid none [(addr, 64)] s
  if !ok then (false, s)
  else
    let t : State := { s with cmd := { s.cmd with next := s.cmd.next + 1 } }
    (true, t.emit (.hostRead s.hif.nextReq host addr 64 false))

/-- The management firmware takes the command at the next ring position (R451-R456, R464). Nothing happens while the ring has none, the
command must wait, behind an earlier one or behind one from outside the ring that waits (R454), or the ring cannot be read now. -/
def runRing (row : Nat) (env : CmdEnv) (a : CmdArgs) (body : CmdBody) (s : State) : State :=
  if !s.ringReady then s
  else
    let p := s.cmd.next
    let op := opcodeOf row a
    let host := s.fld .cmdRingBase 0 58 56
    if !cmdBad op a && (!s.cmd.outside.isEmpty
      || s.blocked op a.fence (decide (s.cmdCi = p)) (if a.remote then some a.target else none) (objectOf op a)) then s
    else if s.portHolds host then wakeDomain (hostDomain host) s
    else
      let (ok, s) := readRing s
      if !ok then s
      else if cmdBad op a then ringMalformed op p s
      else if a.remote then sendRemote op p a s
      else beginCmd op (.ring p) env a body s

/-- A bit or field of a parameter word that the table of R459 does not name must be 0: `mask` holds the named bits. -/
def reservedSet (w : Word) (mask : Nat) : Bool := decide (w.toNat &&& (2 ^ 64 - 1 - mask) ≠ 0)

/-- Parameter words that a command does not use are 0. -/
def zeroWords (l : List Word) : Bool := l.all (fun w => w = 0)

/-- Bits [hi:lo] set. -/
def mask (hi lo : Nat) : Nat := 2 ^ (hi + 1) - 2 ^ lo

end Sys2Proof.Machine
end

