-- ==== Sys2Proof/Machine/Complete.lean ====
section
/-! DEFINITION. The end of jobs: completion records and their slots, batch coverage, CQ_NOTIFY, QUEUE_DRAINED, the end of
DRAINING, and queues that enter ERROR (R53, R68-R74, R87-R99, R181, R582-R584). -/

namespace Sys2Proof.Machine

/-! ### Slots of a CQ (R53, R69) -/

/-- Free slots of a CQ: neither written and unconsumed nor reserved. -/
def Queue.cqFree (c : Queue) : Nat := c.size - (dist c.sink.pi c.sink.ci + c.sink.reserved)

/-- Reserve a slot. -/
def cqReserve (cq : Nat) (s : State) : State := updSink cq (fun k => { k with reserved := k.reserved + 1 }) s

/-- A refusal period ends the moment a slot is free (R69). -/
def refusalEnd (cq : Nat) (s : State) : State :=
  updQueue cq (fun c => if 0 < c.cqFree then { c with sink := { c.sink with refusal := none } } else c) s

/-- Release a reserved slot. -/
def cqRelease (cq : Nat) (s : State) : State :=
  refusalEnd cq (updSink cq (fun k => { k with reserved := k.reserved - 1 }) s)

/-- Write CQ_NOTIFY for an armed CQ and disarm it; none while the CQ is in ERROR (R97, R582). -/
def cqNotify (cq : Nat) (s : State) : State :=
  match s.queue? cq with
  | none => s
  | some c =>
    if c.state = .error then s
    else queueEvent c evCqNotify c.sink.pi.toNat 0 (updSink cq (fun k => { k with armed := none }) s)

/-- The events behind a record that has been written, or that is discarded (R71, R99, R582). -/
def recAfter (r : CqRec) (s : State) : State := r.after.foldl (fun s b => putEvent b s) s

/-- The record of a failed job of a queue, or of its malformed entry. -/
def CqRec.failureOf (r : CqRec) (qid : Nat) : Bool := r.qid == qid && r.status != stOk

/-- Put an event behind the last record of a queue's failures among some. -/
def attachLast (qid : Nat) (b : BoundEvent) : List CqRec → List CqRec
  | [] => []
  | r :: l =>
    if r.failureOf qid && !l.any (·.failureOf qid) then { r with after := r.after ++ [b] } :: l else r :: attachLast qid b l

/-- Write a QUEUE_ERROR event of a queue, behind the records of its failures that still wait in its CQ (R96, R99). -/
def queueError (q : Queue) (cause d1 : Nat) (s : State) : State :=
  let b := eventOf q evQueueError cause d1 s
  match s.queue? q.attr.cq with
  | none => putEvent b s
  | some c =>
    if q.kind = .cq ∨ q.kind = .eq then putEvent b s
    else if c.sink.slotWait.any (·.failureOf q.qid) then updSink c.qid (fun k => { k with slotWait := attachLast q.qid b k.slotWait }) s
    else if c.sink.recWait.any (·.failureOf q.qid) then updSink c.qid (fun k => { k with recWait := attachLast q.qid b k.recWait }) s
    else putEvent b s

/-- Write a record at the producer position of a CQ at a bus address, then the events behind it (R37, R71, R87, R97, R99). -/
def cqWrite (c : Queue) (g : Seg) (r : CqRec) (s : State) : State :=
  let ciLo := match r.ciLo with
    | some p => p
    | none => ((s.queue? r.qid).elim 0 (fun q => q.ci.toNat)) % 65536
  let s := s.emit (.record c.attr.ep c.attr.mid g.bus (cqWords r ciLo (phaseOf c.sink.pi c.attr.k)) (decide (g.type = 1)))
  let s := updSink c.qid (fun k => { k with
    pi := k.pi + 1
    reserved := k.reserved - 1
    solicitedAt := if r.solicited then k.solicitedAt ++ [c.sink.pi] else k.solicitedAt }) s
  recAfter r (match c.sink.armed with
    | some (solicitedOnly, _) => if !solicitedOnly || r.solicited then cqNotify c.qid s else s
    | none => s)

/-- The slot of a CQ's next record cannot be translated: the records wait for CMD_XLT_INVAL (R181). -/
def recordFault (c : Queue) (s : State) : State :=
  let s := updSink c.qid (fun k => { k with recHeld := true }) s
  endpointEvent c.attr.ep evXltFault 0 (c.attr.base + 32 * ringIndex c.sink.pi c.attr.k) c.attr.asid c.attr.asid s

/-- Write the records that wait, oldest first, until one must wait for its translation or faults (R181). A CQ in ERROR discards them and
releases their slots (R582). -/
def cqDrain (cq : Nat) : Nat → State → State
  | 0, s => s
  | fuel + 1, s =>
    match s.queue? cq with
    | none => s
    | some c =>
      match c.sink.recWait with
      | [] => s
      | r :: rest =>
        if c.state = .error then
          cqDrain cq fuel (recAfter r (cqRelease cq (updSink cq (fun k => { k with recWait := rest }) s)))
        else if !s.epUp || c.state = .stopped || c.sink.recHeld || s.funcInReset c.attr.mid then s
        else
          match ringSlot c c.sink.pi 32 (.cqRec cq) s with
          | (.hit (g :: _), s) =>
            cqDrain cq fuel (cqWrite c g r (updSink cq (fun k => { k with recWait := rest }) s))
          | (.pending, s) => s
          | (_, s) => recordFault c s

/-- A record is due in a CQ whose slot is reserved (R53, R181, R582). -/
def cqPush (cq : Nat) (r : CqRec) (s : State) : State :=
  match s.queue? cq with
  | none => s
  | some c =>
    let s := updSink cq (fun k => { k with recWait := k.recWait ++ [r] }) s
    cqDrain cq (c.sink.recWait.length + 1) s

/-! ### Malformed entries (R71, R99) -/

/-- Records of malformed entries take the slots that are free, oldest first; a CQ in ERROR discards them (R71, R582). -/
def slotGo (cq : Nat) : Nat → State → State
  | 0, s => s
  | fuel + 1, s =>
    match s.queue? cq with
    | none => s
    | some c =>
      match c.sink.slotWait with
      | [] => s
      | r :: rest =>
        let next := fun s : State => updSink cq (fun k => { k with slotWait := rest }) s
        if c.state = .error then slotGo cq fuel (recAfter r (next s))
        else if c.cqFree = 0 then s
        else slotGo cq fuel (cqPush cq r (cqReserve cq (next s)))

/-- A slot of a CQ may have become free: records of malformed entries that wait for one are written. -/
def cqWake (cq : Nat) (s : State) : State := slotGo cq (((s.queue? cq).elim 0 (fun c => c.sink.slotWait.length)) + 1) s

/-- The record of a malformed entry waits for a slot of the bound CQ; its event stands behind it (R71, R99). -/
def malPush (cq : Nat) (r : CqRec) (s : State) : State :=
  if (s.queue? cq).isNone then recAfter r s
  else cqWake cq (updSink cq (fun k => { k with slotWait := k.slotWait ++ [r] }) s)

/-! ### Outstanding work of a queue -/

/-- Jobs of a queue that have not ended. -/
def State.liveJobs (s : State) (qid : Nat) : List Job := s.qmg.jobs.filter (fun j => j.qid = qid && j.phase != .ended)

def updJob (jid : Nat) (f : Job → Job) (s : State) : State :=
  { s with qmg := { s.qmg with jobs := updAll (fun j => j.jid = jid) f s.qmg.jobs } }

def dropJob (jid : Nat) (s : State) : State :=
  { s with qmg := { s.qmg with jobs := s.qmg.jobs.filter (fun j => j.jid ≠ jid) } }

/-- Free a queue's context and QID (R73). Records of it that still wait keep the consumer position it ended with. -/
def freeQueue (q : Queue) (s : State) : State :=
  let lo := q.ci.toNat % 65536
  let fill := fun r : CqRec => if r.qid = q.qid ∧ r.ciLo = none then { r with ciLo := some lo } else r
  let s := updSink q.attr.cq (fun k => { k with recWait := k.recWait.map fill }) s
  let s := (q.sink.recWait ++ q.sink.slotWait).foldl (fun s r => recAfter r s) s
  { s with qmg := { s.qmg with
      queues := s.qmg.queues.filter (fun x => x.qid ≠ q.qid)
      jobs := s.qmg.jobs.filter (fun j => j.qid ≠ q.qid)
      heldDb := s.qmg.heldDb.filter (fun d => d.qid ≠ q.qid) } }

/-- The CMD_QUEUE_DESTROY that waits for a queue. -/
def isDestroyOf (qid : Nat) (b : Begun) : Bool := b.opcode == 0x12 && decide (b.obj = (1, qid, qid))

/-- The QUEUE_DRAINED event of a queue is not written yet (R583). -/
def State.drainedWaits (s : State) (qid : Nat) : Bool :=
  s.qmg.queues.any (fun e => e.sink.evWait.any (fun x => x.kind == evQueueDrained && x.qid == qid))

/-- After a job of a queue ended: the QUEUE_DRAINED event and, once that is written, the end of DRAINING, when no job is
outstanding (R73, R583). Both wait while no event may be written (R72). -/
def queueIdle (qid : Nat) (s : State) : State :=
  match s.queue? qid with
  | none => s
  | some q =>
    if !(s.liveJobs qid).isEmpty || (q.drainEvt && !s.evUp) then s
    else
      let s := if q.drainEvt then
          queueEvent q evQueueDrained q.ci.toNat 0 (updQueue qid (fun q => { q with drainEvt := false }) s)
        else s
      if q.state = .draining ∧ !s.drainedWaits qid then completeWhere (isDestroyOf qid) csOk 0 0 0 (freeQueue q s) else s

/-- The queues whose QUEUE_DRAINED event is due, and those in DRAINING that may be freed now. -/
def drainsSettle (s : State) : State :=
  (s.qmg.queues.filter (fun q => q.state == .draining || q.drainEvt)).foldl (fun s q => queueIdle q.qid s) s

/-! ### The end of a job (R90-R93) -/

/-- Opcodes that always produce their own record (R90). -/
def aloneRecord (op : Nat) : Bool :=
  op == opRecv || op == opTrecv || op == opTcancel || op == opChorus || op == opLockAcquire || op == opRecvImm

/-- The record of a job (R87). -/
def jobRecord (j : Job) (batch : Bool) : CqRec :=
  { wrId := dWrId j.ws, data := j.data, imm := j.imm, bytes := j.bytes, solicited := j.solicited, batch := batch,
    status := j.status, opcode := j.recOp, peerFa := j.peerFa, qid := j.qid, ciLo := none, after := [] }

/-- A job produces its own record (R90). -/
def Job.alone (j : Job) : Bool := aloneRecord j.recOp || decide (j.status ≠ stOk)

/-- The next batch record of a queue that can be written: the requesting job, whether it covers an earlier one, and the covered
jobs (R91, R92). -/
def batchNext : List Job → List Nat → Option (Job × List Nat)
  | [], _ => none
  | j :: l, covered =>
    if aloneRecord j.recOp then batchNext l covered
    else if j.phase ≠ .ended then none
    else if j.cqe then some (j, covered)
    else batchNext l (j.jid :: covered)

/-- Write every batch record of a queue whose covered jobs have all ended. -/
def batchFlush (qid cq : Nat) : Nat → State → State
  | 0, s => s
  | fuel + 1, s =>
    match batchNext (s.qmg.jobs.filter (fun j => j.qid = qid)) [] with
    | none => s
    | some (j, covered) =>
      let s := { s with qmg := { s.qmg with
        jobs := s.qmg.jobs.filter (fun x => !(x.jid = j.jid) && !(x.jid ∈ covered)) } }
      batchFlush qid cq fuel (cqPush cq (jobRecord j !covered.isEmpty) s)

/-- A job has ended: its record is written with the event behind it, or covered, or its slot released; batches and the queue's own end
follow (R53, R73, R90-R93, R399, R400). -/
def jobEnded (jid : Nat) (after : Option BoundEvent) (s : State) : State :=
  match s.job? jid with
  | none => s
  | some j =>
    match s.queue? j.qid with
    | none => dropJob jid s
    | some q =>
      let cq := q.attr.cq
      let s :=
        if q.reset then cqWake cq (cqRelease cq (dropJob jid s))
        else if j.alone then cqPush cq { jobRecord j false with after := after.toList } (dropJob jid s)
        else if j.cqe then s
        else cqWake cq (cqRelease cq s)
      let s := if q.reset then s else batchFlush j.qid cq (s.qmg.jobs.length + 1) s
      domainSleep (engineDomain q.attr.home) (queueIdle j.qid s)

/-- The refusal periods of packets end, since their operation has ended (R214). -/
def endRefusals (mine : OutPkt → Bool) (s : State) : State :=
  let half := fun (h : SendHalf) => { h with out := updAll mine (fun o => { o with refusedAt := none, backoff := 0 }) h.out }
  { s with trn := { s.trn with peers := s.trn.peers.map (fun p => { p with send := p.send.map half }) } }

/-- End a job with a status and the event that stands behind its record. BYTE_COUNT and DATA are those the job holds. -/
def endJobAfter (jid status : Nat) (after : Option BoundEvent) (s : State) : State :=
  match s.job? jid with
  | none => s
  | some j =>
    if j.phase = .ended then s
    else jobEnded jid after <| endRefusals (fun o => o.op == .job jid) (updJob jid (fun j => { j with phase := .ended, status := status, logBytes := 0 }) s)

/-- End a job with a status. -/
def endJob (jid status : Nat) (s : State) : State := endJobAfter jid status none s

/-- End a job OK with DATA and BYTE_COUNT. -/
def endJobWith (jid status : Nat) (data : Word) (bytes : Nat) (s : State) : State :=
  endJob jid status (updJob jid (fun j => { j with data := data, bytes := bytes }) s)

/-! ### Entering ERROR (R68, R69, R71, R73) -/

/-- The first queue moved to ERROR under R68, R69 or R71 is captured in QMG_ERR_QID, before it moves (R72, R75): one in DRAINING or in
ERROR does not move. -/
def captureFenced (qid : Nat) (s : State) : State :=
  if (s.queue? qid).elim true (fun q => q.state == .draining || q.state == .error) then s else s.capture .qmgErrQid 0 0 qid

/-- A queue enters ERROR: what it fetched and did not accept is dropped, and a CQ discards the records that wait in it (R582). A queue
in DRAINING stays there, as R73 has no such transition, and still owes its QUEUE_DRAINED event (R583). -/
def enterError (qid : Nat) (s : State) : State :=
  match s.queue? qid with
  | none => s
  | some q =>
    let s := updQueue qid (fun q => { q with
      state := if q.state = .draining then .draining else .error
      drainEvt := q.drainEvt && q.state == .draining
      fetch := { q.fetch.discard with running := false, taken := [], held := none, waitGap := false } }) s
    let s := if q.state = .draining then s else dropDrained qid s
    if q.kind = .cq then cqWake qid (cqDrain qid (q.sink.recWait.length + 1) s) else s

/-- A malformed entry at a position (R71, R587): fault, ERROR, record, and the event behind it. -/
def malformedEntry (q : Queue) (ws : List Word) (pos : Pos) (s : State) : State :=
  let s := report .qmgMalformed 0x0B q.attr.ep (q.qid + at_ 20 pos.toNat) s
  let r : CqRec := { wrId := dWrId ws, data := 0, imm := none, bytes := 0, solicited := false, batch := false, status := stQueueError, opcode := dOp ws, peerFa := 0, qid := q.qid, ciLo := some (pos.toNat % 65536), after := [eventOf q evQueueError 1 pos.toNat s] }
  malPush q.attr.cq r (enterError q.qid (captureFenced q.qid s))

/-- A malformed doorbell (R39, R70, R71): fault, ERROR, event with cause 0x2. -/
def malformedDoorbell (q : Queue) (pos : Pos) (s : State) : State :=
  let s := report .qmgMalformed 0x0B q.attr.ep (q.qid + at_ 20 pos.toNat) s
  queueError q 2 pos.toNat (enterError q.qid (captureFenced q.qid s))

end Sys2Proof.Machine
end

