-- ==== Sys2Proof/Machine/Region.lean ====
section
/-! DEFINITION. Keys, access checks, translation of extents with the gates, and the writes that place data
(R137-R148, R157, R158, R162, R483). -/

namespace Sys2Proof.Machine

/-! ### Keys (R137, R145) -/

def State.partition? (s : State) (pkey : Nat) : Option Partition := s.rma.partitions.find? (fun p => p.pkey = pkey)

/-- Entries of the keyring (RMA_KEYRING_SIZE, in units of 65,536). -/
def State.keyringSize (s : State) : Nat := 65536 * clamp 1 256 (s.fld .rmaKeyringSize 0 8 0)

def State.region? (s : State) (i : Nat) : Option Region := s.rma.regions.find? (fun r => r.index = i)

def updRegion (i : Nat) (f : Region → Region) (s : State) : State :=
  { s with rma := { s.rma with regions := updAll (fun r => r.index = i) f s.rma.regions } }

/-- The rights of R137. -/
inductive Right where
  | localRead | localWrite | remoteRead | remoteWrite | remoteAtomic
  deriving DecidableEq, Repr

def Region.has (r : Region) : Right → Bool
  | .localRead => true
  | .localWrite => r.localWrite
  | .remoteRead => r.rRead
  | .remoteWrite => r.rWrite
  | .remoteAtomic => r.rAtomic

/-- Who asks for an access (R145). -/
structure Asker where
  local_ : Option (Nat × Nat)      -- endpoint and ASID of a local access
  pkey : Nat
  group : Nat
  right : Right
  deriving DecidableEq, Repr

/-- The checks of R145 up to the range, in order; the gates follow on bus addresses. -/
def State.keyCheck (s : State) (key a len : Nat) (q : Asker) : Nat × Option Region :=
  let i := key / 256
  if i = 0 ∨ s.keyringSize ≤ i then (stKeyInvalid, none)
  else
    match s.region? i with
    | none => (stKeyInvalid, none)
    | some r =>
      if r.state ≠ .valid ∨ r.variant ≠ key % 256 then (stKeyInvalid, none)
      else if r.pkey ≠ q.pkey then (stProtection, some r)
      else if (match q.local_ with
          | some (ep, asid) => decide (r.ep ≠ ep ∨ r.asid ≠ asid)
          | none => r.scopeGroup && decide (r.group ≠ q.group)) then (stProtection, some r)
      else if !r.has q.right then (stProtection, some r)
      else if a < r.base ∨ r.base + r.length < a + len then (stRange, some r)
      else (stOk, some r)

/-- Capture the first refused remote access (R162). -/
def captureRma (status srcFa key addr : Nat) (s : State) : State :=
  let cause : Option Nat :=
    if status = stKeyInvalid then some 0 else if status = stProtection then some 1 else if status = stRange then some 2
    else if status = stXltFault then some 3 else none
  match cause with
  | none => s
  | some c =>
    if bit (s.raw .rmaErr 0 0) 63 then s
    else (s.capture .rmaErr 0 0 (at_ 60 c + at_ 32 (srcFa % 2 ^ 27) + key)).setReg .rmaErrAddr 0 0 addr

/-! ### Extents -/

/-- What the translation of extents answers. -/
inductive XOut where
  | done | pending | fault | refused
  deriving DecidableEq, Repr

/-- Add a piece, joining pieces that are contiguous on the bus. -/
def addSeg : List Seg → Seg → List Seg
  | [], g => [g]
  | h :: [], g => if h.bus + h.len = g.bus ∧ h.type = g.type then [{ h with len := h.len + g.len }] else [h, g]
  | h :: l, g => h :: addSeg l g

/-- Who accesses memory for an extent. -/
structure Accessor where
  asid : Nat
  mid : Nat
  pkey : Nat
  port : Nat
  kind : Nat          -- 0 read, 1 write, 2 atomic
  unit : Nat
  fetch : Bool
  passed : List Seg   -- pieces of the extent that the gates have permitted already (R486)
  deriving DecidableEq, Repr

/-- A piece lies in one of those of a list. -/
def segWithin (g : Seg) (l : List Seg) : Bool :=
  l.any (fun h => decide (h.type = g.type) && decide (h.bus ≤ g.bus) && decide (g.bus + g.len ≤ h.bus + h.len))

/-- Translate extents page by page and check each whole extent at the gates (R148, R481-R483). What they have permitted when the whole extent
was checked is not checked again when a part of it is translated anew, so that no access is decided by two rules (R486). -/
def xAdvance (x : Accessor) (who : Waiter) : Nat → XProg → State → XOut × XProg × State
  | 0, p, s => (.done, p, s)
  | fuel + 1, p, s =>
    match p.todo with
    | [] => (.done, p, s)
    | (va, len) :: rest =>
      if len = 0 then
        let (ok, s) := hostGates x.port x.kind x.mid (some x.pkey) (ranges (p.acc.filter (fun g => !segWithin g x.passed))) s
        if ok then xAdvance x who fuel { todo := rest, acc := [], segs := p.segs ++ p.acc } s else (.refused, p, s)
      else
        match s.asid? x.asid with
        | none => (.fault, p, s)
        | some a =>
          if s.walkFaulted who then (.fault, p, clearFaulted who s) else
          match translate1 a va (decide (x.kind ≠ 0)) x.unit x.fetch who s with
          | (.hit (g :: _), s) =>
            let n := min len g.len
            xAdvance x who fuel { p with todo := (va + n, len - n) :: rest, acc := addSeg p.acc { g with len := n } } s
          | (.pending, s) => (.pending, p, s)
          | (_, s) => (.fault, p, s)

/-- Steps enough to translate every page and finish every extent. -/
def xFuel (p : XProg) : Nat := sumBy (fun e => e.2 / 4096 + 3) p.todo + 1

def xRun (x : Accessor) (who : Waiter) (p : XProg) (s : State) : XOut × XProg × State := xAdvance x who (xFuel p) p s

/-- A fresh translation of extents. -/
def xStart (l : List (Nat × Nat)) : XProg := { todo := l, acc := [], segs := [] }

/-- The bytes [off, off + n) of pieces, as bus ranges with their TYPE. -/
def sliceSegs : List Seg → Nat → Nat → List Seg
  | [], _, _ => []
  | g :: l, off, n =>
    if n = 0 then []
    else if g.len ≤ off then sliceSegs l (off - g.len) n
    else
      let k := min n (g.len - off)
      { bus := g.bus + off, len := k, type := g.type } :: sliceSegs l 0 (n - k)

/-- Max_Payload_Size of a function (R386). -/
def State.maxPayload (s : State) (mid : Nat) : Nat := (s.func? mid).elim 128 (·.maxPayload)

/-- Pieces cut so that each is one write of at most n bytes (R386). -/
def cutSegs (n : Nat) (l : List Seg) : List Seg :=
  l.flatMap (fun g => (readPieces n (g.len / 128 + 2) g.bus g.len).map (fun x => { g with bus := x.1, len := x.2 }))

/-- Max_Payload_Size of the function that a write of a MID names; for an agent, that of the PF (R386). -/
def State.writePayload (s : State) (port mid : Nat) : Nat := s.maxPayload (if mid / 256 = port then mid else 256 * port)

/-- Words written at a bus address, cut so that each is one write of at most n bytes (R386). -/
def cutWords (n addr : Nat) (ws : List Word) : List (Nat × List Word) :=
  (readPieces n (8 * ws.length / 128 + 2) addr (8 * ws.length)).map (fun x => (x.1, (ws.drop ((x.1 - addr) / 8)).take (x.2 / 8)))

/-- Writes that place bytes over pieces, in increasing address order. `last` marks the write that carries the operation's last
byte, which is issued last with Relaxed Ordering clear (R157, R158); a DEVICE page carries neither attribute (R167). -/
def placeSegs (port mid : Nat) (strict last : Bool) : List Seg → List Byte → List Out
  | [], _ => []
  | g :: l, bs =>
    let final := last && l.isEmpty
    .place port mid g.bus (bs.take g.len) (!strict && !final && decide (g.type ≠ 2)) (decide (g.type = 1))
      :: placeSegs port mid strict last l (bs.drop g.len)

/-- Keep the held writes in rising offset. -/
def addHeld (h : HeldPut) (l : List HeldPut) : List HeldPut :=
  l.filter (fun x => decide (x.off < h.off)) ++ h :: l.filter (fun x => decide (h.off ≤ x.off))

/-- The writes may be issued with `placed` bytes behind them: with STRICT_ORDER 1 when every earlier byte is placed, otherwise
at once but for the write of the last byte, which is issued last (R157, R158). -/
def HeldPut.ready (h : HeldPut) (strict : Bool) (placed len : Nat) : Bool :=
  if strict then decide (h.off = placed) else decide (h.off + h.data.length < len) || decide (h.off = placed)

/-- Issue the held writes that may go: the bytes placed so far, those still held, and the writes. -/
def issueHeld (port mid mps : Nat) (strict : Bool) (len : Nat) : Nat → List HeldPut → Nat × List HeldPut × List Out
  | placed, [] => (placed, [], [])
  | placed, h :: l =>
    if h.ready strict placed len then
      let (n, l, os) := issueHeld port mid mps strict len (placed + h.data.length) l
      (n, l, placeSegs port mid strict (decide (len ≤ h.off + h.data.length)) (cutSegs mps h.segs) h.data ++ os)
    else
      let (n, l, os) := issueHeld port mid mps strict len placed l
      (n, h :: l, os)

/-- RMA_CTRL.STRICT_ORDER. -/
def State.strictOrder (s : State) : Bool := decide (s.fld .rmaCtrl 0 0 0 = 1)

/-- Virtual ranges of fragments that hold the bytes [off, off + n). -/
def fragSlice : List Frag → Nat → Nat → List (Nat × Nat)
  | [], _, _ => []
  | f :: l, off, n =>
    if n = 0 then []
    else if f.len ≤ off then fragSlice l (off - f.len) n
    else
      let k := min n (f.len - off)
      (f.addr + off, k) :: fragSlice l 0 (n - k)

/-! ### Local buffers of a job (R145, R147, R483) -/

/-- Key index of a local buffer. -/
def keyIndex (key : Nat) : Nat := key / 256

/-- The keyring entries of a job's local buffers. -/
def Job.regions (j : Job) : List Nat := (j.frags.map (fun f => keyIndex f.key)).eraseDups

/-- The accessor of a job's local buffers. -/
def jobAccess (j : Job) (home : Nat) (kind : Nat) : Accessor :=
  { asid := j.asid, mid := j.mid, pkey := j.pkey, port := j.ep, kind := kind, unit := home, fetch := false, passed := [] }

/-- A region is deregistered: its keys are stale from now on (R138, R143). -/
def Region.leave (r : Region) (now : Nat) : Region := { r with variant := (r.variant + 1) % 256, state := .draining, deregAt := now }

/-- The first failing key check of fragments. -/
def State.fragCheck (s : State) (j : Job) (right : Right) : List Frag → Nat
  | [] => stOk
  | f :: l =>
    let st := (s.keyCheck f.key f.addr f.len { local_ := some (j.ep, j.asid), pkey := j.pkey, group := j.group, right := right }).1
    if st = stOk then s.fragCheck j right l else st

/-- Cluster that works for a queue: its home (R32). -/
def State.homeOf (s : State) (qid : Nat) : Nat := (s.queue? qid).elim 0 (fun q => q.attr.home)

/-- The cluster whose caches serve a job's local buffers: CC0-CC7 are units 24-31, which serve collectives in the cluster of their group
(R175, R188, R230). -/
def State.unitOf (s : State) (j : Job) : Nat :=
  if j.recOp = opChorus then 24 + ((s.svc.groups.find? (fun g => g.num = dGroup j.ws)).elim 0 (·.home)) else s.homeOf j.qid

/-- Check a job's local fragments once and translate them whole. The answer is a status, or none while a walk is in progress
(R147, R483). -/
def localReady (who : Waiter) (jid : Nat) (write : Bool) (s : State) : Option Nat × State :=
  match s.job? jid with
  | none => (some stOk, s)
  | some j =>
    if j.checked && j.xp.todo.isEmpty then (some stOk, s)
    else
      let st := if j.checked then stOk else s.fragCheck j (if write then .localWrite else .localRead) j.frags
      if st ≠ stOk then (some st, s)
      else
        let xp := if j.checked then j.xp else xStart (j.frags.map (fun f => (f.addr, f.len)))
        let (r, xp, s) := xRun (jobAccess j (s.unitOf j) (if write then 1 else 0)) who xp s
        let s := updJob jid (fun j => { j with checked := true, xp := xp }) s
        match r with
        | .done => (some stOk, s)
        | .pending => (none, s)
        | .fault => (some stXltFault, s)
        | .refused => (some stProtection, s)

/-- Place bytes into a job's local buffer at an offset; the pages are translated afresh for each write (R148). The answer is a
status, or none while a walk is in progress. -/
def placeLocal (jid off : Nat) (bs : List Byte) (last : Bool) (who : Waiter) (s : State) : Option Nat × State :=
  match s.job? jid with
  | none => (some stOk, s)
  | some j =>
    match xRun { jobAccess j (s.unitOf j) 1 with passed := j.xp.segs } who (xStart (fragSlice j.frags off bs.length)) s with
    | (.done, xp, s) => (some stOk, s.emits j.regions (placeSegs j.ep j.mid s.strictOrder last (cutSegs (s.maxPayload j.mid) xp.segs) bs))
    | (.pending, _, s) => (none, s)
    | (.fault, _, s) => (some stXltFault, s)
    | (.refused, _, s) => (some stProtection, s)

/-- Bytes of a job's local fragments. -/
def Job.room (j : Job) : Nat := sumBy (·.len) j.frags

end Sys2Proof.Machine
end

