-- ==== Sys2Proof/Machine/Send.lean ====
section
/-! DEFINITION. The sending side of transport: peer states, opening, PSNs, the window, eligible times, control packets
(R189-R200, R206, R207, R217, R221, R324, R325). -/

namespace Sys2Proof.Machine

/-! ### Names -/

/-- This router's coordinates (RTE_DIMS.COORD). -/
def State.coord (s : State) : Nat := s.fld .rteDims 0 23 0

/-- Fabric address of a local endpoint (R272). -/
def State.ownFa (s : State) (ep : Nat) : Fa := ep * 2 ^ 24 + s.coord

/-- Coordinates and endpoint of a fabric address. -/
def faCoord (fa : Fa) : Nat := fa % 2 ^ 24
def faEp (fa : Fa) : Nat := fa / 2 ^ 24 % 8

/-- The incarnation (TRN_INCARNATION, R217). -/
def State.incarnation (s : State) : Nat := s.sys.bootCount

/-! ### Peer states -/

def State.peer? (s : State) (k : PeerKey) : Option Peer := s.trn.peers.find? (fun p => p.key = k)

def updPeer (k : PeerKey) (f : Peer → Peer) (s : State) : State :=
  { s with trn := { s.trn with peers := updAll (fun p => p.key = k) f s.trn.peers } }

def updSend (k : PeerKey) (f : SendHalf → SendHalf) (s : State) : State :=
  updPeer k (fun p => { p with send := p.send.map f }) s

def updRecv (k : PeerKey) (f : RecvHalf → RecvHalf) (s : State) : State :=
  updPeer k (fun p => { p with recv := p.recv.map f }) s

/-- Peer states the store may hold (TRN_PEER_CFG.LIMIT). -/
def State.peerLimit (s : State) : Nat := clamp 1024 4194304 (s.fld .trnPeerCfg 0 22 0)

/-- Lowest and largest rate of a peer, in Mb/s (R327). -/
def State.rateMin (s : State) : Nat := atLeast1 (s.fld .qosCcRate 0 20 0)
def State.rateMax (s : State) : Nat := max s.rateMin (s.fld .qosCcRate 0 52 32)

/-- Entries of the peer cache in use: peer states resident or being fetched (R190). -/
def State.peersCached (s : State) : Nat := (s.trn.peers.filter (fun p => p.resident != .evicted)).length

/-- The least recently used of some peer states. -/
def oldest : List Peer → Option Peer
  | [] => none
  | p :: l => match oldest l with
    | none => some p
    | some q => if p.lastUse ≤ q.lastUse then some p else some q

/-- Room in the peer cache for one more peer state. A full cache first gives up its least recently used peer state without held packets,
whose contents are in the store (R190; which one is a DESIGN CHOICE, log 144). -/
def peerRoom (s : State) : Bool × State :=
  if s.peersCached < Config.peerCache then (true, s)
  else
    match oldest (s.trn.peers.filter (fun p => p.resident == .resident && p.recv.elim true (fun r => r.held.isEmpty))) with
    | none => (false, s)
    | some p => (true, updPeer p.key (fun p => { p with resident := .evicted }) s)

/-- Start the fetch of a peer state that is in the store alone (R63, R190). -/
def startPeerFetch (k : PeerKey) (s : State) : State :=
  if (s.peer? k).elim false (fun p => p.resident == .evicted) then
    match peerRoom s with
    | (true, s) => updPeer k (fun p => { p with resident := .fetching }) s
    | (false, s) => s
  else s

/-- A new peer state, resident, at the largest rate (R190, R328). -/
def newPeer (k : PeerKey) (s : State) : State :=
  let p : Peer := { key := k, remoteInc := none, toldRestart := false, path := none, send := none, recv := none, resident := .resident, lastUse := s.clk.now, due := false, closing := none, rate := s.rateMax, lastDec := none, lastMark := none, eligible := 0, keys := [] }
  { s with trn := { s.trn with peers := s.trn.peers ++ [p] } }

/-- Times of R190 and R192 that a register gives in ms. -/
def State.peerIdle (s : State) : Nat := ms (atLeast1 (s.fld .trnPeerCfg 0 47 32))

/-- A peer state that may be closed: nothing outstanding, nothing held, idle for TRN_PEER_CFG.IDLE (R191). -/
def State.closable (s : State) (p : Peer) : Bool :=
  p.closing.isNone && decide (p.lastUse + s.peerIdle ≤ s.clk.now)
    && (p.send.elim true (fun h => h.out.isEmpty && h.queue.isEmpty && decide (h.state ≠ .opening)))
    && (p.recv.elim true (fun r => r.held.isEmpty))

/-! ### Control packets (R196, R199) -/

/-- A control packet toward a peer. -/
def control (k : PeerKey) (t : PType) (psn : Nat) (w0 w1 : Nat) (s : State) : Packet :=
  { src := s.ownFa k.ep, dst := k.fa, tc := k.tc, ptype := t.code, first := false, last := false, retx := false, prot := false,
    immValid := false, solicited := false, kind := false, aux := 0, psn := BitVec.ofNat 32 psn, pkey := 0, group := 0,
    srcInc := s.incarnation, dstInc := ((s.peer? k).bind (·.remoteInc)).elim 0 (· % 65536), e0 := word w0, e1 := word w1,
    data := [], sealed := [], marked := false, lockUnit := false }

/-- A peer state is used: a packet was sent or received (R191). -/
def usePeer (k : PeerKey) (s : State) : State := updPeer k (fun p => { p with lastUse := s.clk.now }) s

/-- Packets that ask for a peer state to be freed, or answer: they are no use of it (R191). -/
def closes (t : PType) : Bool := t == .closeReq || t == .closeAck || t == .closeNak

def sendControl (k : PeerKey) (t : PType) (psn : Nat) (w0 w1 : Nat) (s : State) : State :=
  let s := if closes t then s else usePeer k s
  s.emit (.packet (control k t psn w0 w1 s))

/-- Answer a packet whose peer state may not exist: from the addressed endpoint back to the sender (R199, R209, R218). -/
def peerOf (p : Packet) : PeerKey := { ep := faEp p.dst, fa := p.src % 2 ^ 27, tc := p.tc }

/-- Next PSN of the send half toward a peer (R207). -/
def State.fencePsn (s : State) (k : PeerKey) : Option Pos := ((s.peer? k).bind (·.send)).map (·.nextPsn)

/-- Body word 0 of an ACK or NACK (R199, R207, R222). -/
def ackWord (k : PeerKey) (ce : Nat) (s : State) : Nat :=
  match s.fencePsn k with
  | some f => at_ 32 f.toNat + at_ 16 (min 65535 ce) + 1
  | none => at_ 16 (min 65535 ce)

/-- Send an ACK with HEAD; CE_COUNT restarts and nothing is unacknowledged (R206, R222). -/
def sendAck (k : PeerKey) (s : State) : State :=
  match (s.peer? k).bind (·.recv) with
  | none => s
  | some r =>
    updRecv k (fun r => { r with unacked := 0, unackedAt := none, ceCount := 0 })
      (sendControl k .ack r.head.toNat (ackWord k r.ceCount s) 0 s)

/-- PSN HEAD + i is delivered or held. -/
def RecvHalf.has (r : RecvHalf) (i : Nat) : Bool :=
  (decide (1 ≤ i) && decide (i ≤ 256) && r.map.getLsbD (i - 1)) || r.held.any (fun p => dist p.pkt.psn r.head = i)

/-- The greatest distance from HEAD of a PSN delivered or held; 0 when there is none. -/
def RecvHalf.top (r : RecvHalf) : Nat :=
  let h := (r.held.map (fun p => dist p.pkt.psn r.head)).foldl max 0
  (List.range 256).foldl (fun m i => if r.map.getLsbD i then max m (i + 1) else m) h

/-- MISSING of a NACK (R199). -/
def RecvHalf.missing (r : RecvHalf) : Nat :=
  sumBy (fun i => if decide (i + 1 < r.top) && !r.has (i + 1) then 2 ^ i else 0) (List.range 64)

/-- Send the NACK for the current HEAD (R206). -/
def sendNack (k : PeerKey) (s : State) : State :=
  match (s.peer? k).bind (·.recv) with
  | none => s
  | some r =>
    updRecv k (fun r => { r with nacked := some r.head, gapAt := none, unackedAt := none, ceCount := 0 })
      (sendControl k .nack r.head.toNat (ackWord k r.ceCount s) r.missing s)

/-- Reasons of NOT_NOW (R199). -/
def nnPondFull : Nat := 1
def nnHoldFull : Nat := 2
def nnSrqEmpty : Nat := 3
def nnCqFull : Nat := 4
def nnUnexpFull : Nat := 5
def nnSrqStopped : Nat := 6
def nnContextError : Nat := 7

/-- Send NOT_NOW for a PSN, counted at the endpoint (R65, R209, R529). -/
def sendNotNow (k : PeerKey) (psn : Pos) (reason : Nat) (s : State) : State :=
  (sendControl k .notNow psn.toNat reason 0 s).count (cntEp k.ep 6) 1

/-- Send RESYNC for a packet (R218). -/
def sendResync (k : PeerKey) (psn : Pos) (s : State) : State :=
  (sendControl k .resync psn.toNat 0 0 s).count (cntEp k.ep 11) 1

/-! ### Opening (R192-R194) -/

/-- Send the OPEN_REQ of a half in OPENING (R193, R199). -/
def sendOpen (k : PeerKey) (s : State) : State :=
  match (s.peer? k).bind (·.send) with
  | none => s
  | some h =>
    updSend k (fun h => { h with timerAt := some s.clk.now, openHold := false })
      (sendControl k .openReq h.initPsn.toNat h.openNum 0 s)

/-- The first PSN that a half has yet to send. -/
def SendHalf.firstPsn (h : SendHalf) : Pos := (h.queue.head?).elim h.nextPsn (·.pkt.psn)

/-- Put the send half of a peer into OPENING: a new half takes an open number and a PSN of the DRBG, a closed one keeps its
own (R192, R194, R219). -/
def openHalf (k : PeerKey) (s : State) : State :=
  match (s.peer? k).bind (·.send) with
  | some h =>
    if h.state = .closed then
      sendOpen k (updSend k (fun h => { h with
        state := .opening, initPsn := h.firstPsn, openedAt := s.clk.now, openBackoff := 0, timeouts := 0 }) s)
    else s
  | none =>
    let (psn, s) := s.drawPsn
    let h : SendHalf := { state := .opening, openNum := s.trn.openCount, nextPsn := psn, initPsn := psn, epoch := 0, srtt := none, rttvar := 0, timeouts := 0, timerAt := none, openedAt := s.clk.now, openBackoff := 0, openHold := false, noRoute := none, out := [], queue := [], haltHead := none }
    let s := updPeer k (fun p => { p with send := some h }) s
    sendOpen k { s with trn := { s.trn with openCount := s.trn.openCount + 1 } }

/-! ### Packets of an operation -/

/-- A request or response packet before it gets its PSN (R195-R198). -/
def packet0 (t : PType) (pkey group : Nat) (first last : Bool) (data : List Byte) : Packet :=
  { src := 0, dst := 0, tc := 0, ptype := t.code, first := first, last := last, retx := false, prot := false, immValid := false,
    solicited := false, kind := false, aux := 0, psn := 0, pkey := pkey, group := group, srcInc := 0, dstInc := 0, e0 := 0, e1 := 0,
    data := data, sealed := [], marked := false, lockUnit := false }

/-- Data cut into packets of 4,096 bytes, at least one (R198). -/
def cut4096 : Nat → List Byte → List (List Byte)
  | 0, bs => [bs.take 4096]
  | n + 1, bs => if bs.length ≤ 4096 then [bs] else bs.take 4096 :: cut4096 n (bs.drop 4096)

/-- The packets of an operation that carries data: the first has the header words; none is LAST when `more` follows. -/
def dataPackets (t : PType) (pkey group : Nat) (hdr : Packet → Packet) (data : List Byte) (more : Bool) : List Packet :=
  let parts := cut4096 (data.length / 4096) data
  let n := parts.length
  parts.zipIdx.map (fun (b, i) =>
    let p := packet0 t pkey group (i == 0) (i + 1 == n && !more) b
    if i = 0 then hdr p else p)

/-- A packet waiting for its PSN. -/
def waitingPkt (op : OpRef) (p : Packet) : OutPkt :=
  { pkt := p, epoch := 0, op := op, sentAt := 0, sent := false, retried := false, holdUntil := none, refusedAt := none, backoff := 0, src := none, again := .no }

/-- The partition of a packet asks for payload protection (R221). -/
def State.protects (s : State) (pkey : Nat) : Bool := (s.partition? pkey).elim false (·.protect)

/-! ### The wheel (R323-R325) -/

/-- The shaping profile of an SQ: OVERHEAD, BURST in KiB, RATE; none when it is not shaped. -/
def State.shape? (s : State) (q : Queue) : Option (Nat × Nat × Nat) :=
  let m := s.raw .qosShapeMap 0 q.attr.ep
  let t := q.attr.tc
  if bit m (8 * t + 7) then
    let w := s.raw .qosShape 0 (bits m (8 * t + 5) (8 * t))
    if bits w 20 0 = 0 then none else some (bits w 63 56, atLeast1 (bits w 51 32), bits w 20 0)
  else none

/-- A chorus packet between endpoints 0 is never held by the wheel (R325). -/
def wheelFree (op : OpRef) : Bool := match op with
  | .chorus _ => true
  | _ => false

/-- A packet may be released now: te and tp have come (R324, R325). -/
def State.eligible (s : State) (p : Peer) (op : OpRef) : Bool :=
  wheelFree op
    || (decide (p.eligible ≤ s.dtimeNs)
      && ((s.opQueue op).elim true (fun q => (s.shape? q).isNone || decide (q.te ≤ s.dtimeNs))))

/-- Advance te and tp after a release, in the uint64 arithmetic of R324. -/
def afterRelease (k : PeerKey) (op : OpRef) (len : Nat) (s : State) : State :=
  if wheelFree op then s
  else
    let now := s.dtimeNs
    let s := match s.opQueue op with
      | none => s
      | some q => match s.shape? q with
        | none => s
        | some (ovh, burst, rate) =>
          let floor := (now + 2 ^ 64 - burst * 8192000 / rate % 2 ^ 64) % 2 ^ 64
          updQueue q.qid (fun q => { q with te := (max q.te floor + (len + ovh) * 8000 / rate) % 2 ^ 64 }) s
    updPeer k (fun p => if s.fld .qosCcCtrl 0 63 63 = 1 ∧ p.rate < s.rateMax then { p with eligible := (max p.eligible now + len * 8000 / p.rate) % 2 ^ 64 } else p) s

/-! ### Sending (R200) -/

/-- Record the PSN that a packet of an operation takes. -/
def notePsn (k : PeerKey) (op : OpRef) (p : Packet) (s : State) : State :=
  match op with
  | .job jid =>
    let s := updJob jid (fun j => { j with
      psnFirst := if p.first then some p.psn else j.psnFirst
      psnLast := if p.last then some p.psn else j.psnLast }) s
    { s with svc := { s.svc with lockRecs := updAll (fun r => r.jid = jid) (fun r => { r with psn := some p.psn }) s.svc.lockRecs } }
  | .rndv rts =>
    if p.ptype = PType.get.code then
      let upd := fun (r : Rndv) => { r with reads := updFirst (fun x => x.psn.isNone) (fun x => { x with psn := some p.psn }) r.reads }
      { s with svc := { s.svc with rndvs := updAll (fun r => r.rts = rts && r.peer = k) upd s.svc.rndvs } }
    else s
  | _ => s

/-- Give a packet the next PSN of the half and queue it there; the epoch counts a wrap (R200). -/
def numberPkt (k : PeerKey) (o : OutPkt) (s : State) : State :=
  match (s.peer? k).bind (·.send) with
  | none => s
  | some h =>
    let o := { waitingPkt o.op { o.pkt with psn := h.nextPsn } with epoch := h.epoch, src := o.src }
    notePsn k o.op o.pkt (updSend k (fun h => { h with
      nextPsn := h.nextPsn + 1
      epoch := if h.nextPsn = BitVec.allOnes 32 then (h.epoch + 1) % 2 ^ 32 else h.epoch
      queue := h.queue ++ [o] }) s)

/-- Protect the payload of a packet under the key derived for a context: the nonce is the full incarnation, the epoch and the PSN (R221).
While CRYPTO_BYPASS is set the payload goes in clear, with a tag of zeros (R496). -/
def sealPkt (context : List Nat) (epoch : Nat) (p : Packet) (s : State) : Packet :=
  if !p.prot then p
  else if s.fld .secCtrl 0 1 1 = 1 then { p with sealed := p.data ++ List.replicate 16 0 }
  else
    let key := derive256 (s.keyOf p.pkey) (Config.kdfInput 1 context)
    let nonce := [s.incarnation, epoch, p.psn.toNat].flatMap (leBytes 4)
    let cipher := gcmCrypt key nonce p.data
    { p with sealed := cipher ++ gcmTag key nonce (transportHead p) cipher }

/-- A key is used for a packet of a peer state: it takes the place of the one in use for that partition and direction (R190, R221). -/
def useKey (k : PeerKey) (u : PeerKeyUse) (s : State) : State :=
  updPeer k (fun p => if u ∈ p.keys then p else { p with keys := u :: p.keys.filter (fun x => !(x.pkey = u.pkey && x.sending = u.sending)) }) s

/-- The key of a protected packet is gone (R492): nothing is sent, and its job completes with PROTECTION (R493). -/
def keyGone (o : OutPkt) (s : State) : State :=
  match o.op with
  | .job jid => updJob jid (fun j => if j.status = stOk then { j with status := stProtection } else j) s
  | _ => s

/-- A partition with payload protection whose key is not installed (R493). -/
def State.keyMissing (s : State) (pkey : Nat) : Bool := s.protects pkey && !decide (pkey ∈ s.sec.partKeys)

/-- Put one packet out: its receiver's incarnation and its protection are filled in, and it is counted (R195, R529). The key of its
direction of its peer state is derived from both addresses, the class, both incarnations and the open number (R221). -/
def putOut (k : PeerKey) (o : OutPkt) (s : State) : State :=
  let inc := ((s.peer? k).bind (·.remoteInc)).getD 0
  let openNum := ((s.peer? k).bind (·.send)).elim 0 (·.openNum)
  let context := [o.pkt.src, k.fa, k.tc, s.incarnation, inc, openNum]
  let p := sealPkt context o.epoch { o.pkt with dstInc := inc % 65536 } s
  if p.prot && s.keyMissing p.pkey then keyGone o s
  else
  let s := if p.prot then useKey k { pkey := p.pkey, sending := true, context := context } s else s
  (((usePeer k s).emit (.packet p)).count (cntEp k.ep 1) 1).count (cntEp k.ep 2) (pktLen p)

/-- Window of a send half (TRN_CTRL.WINDOW). -/
def State.window (s : State) : Nat :=
  let w := s.fld .trnCtrl 0 15 3
  if w = 0 ∨ 4096 < w then 4096 else w

/-- First transmission of the packet at the head of the queue (R200). -/
def release (k : PeerKey) (o : OutPkt) (s : State) : State :=
  let p := { o.pkt with src := s.ownFa k.ep, dst := k.fa, tc := k.tc, srcInc := s.incarnation % 65536, prot := s.protects o.pkt.pkey }
  let o := { o with pkt := p, sentAt := s.clk.now, sent := true }
  let s := updSend k (fun h => { h with
    queue := h.queue.drop 1
    out := h.out ++ [o]
    timerAt := if h.timerAt.isNone then some s.clk.now else h.timerAt }) s
  afterRelease k o.op (pktLen p) (putOut k o s)

/-- A queued packet may go as far as its half is concerned: after a REFUSE, only the packets of operations that may have been delivered
do, which have the PSNs before the flow that is to be reopened (R219). -/
def SendHalf.mayGo (h : SendHalf) (o : OutPkt) : Bool :=
  h.state == .opened && (h.haltHead.isNone || (decide (dist h.initPsn o.pkt.psn ≠ 0) && decide (dist h.initPsn o.pkt.psn < 2 ^ 31)))

/-- Send a packet of a half again, with its payload as it was read for this (R211-R213, R215). -/
def resend (k : PeerKey) (o : OutPkt) (data : List Byte) (s : State) : State :=
  let s := updSend k (fun h => { h with out := updAll (fun x => x.pkt.psn = o.pkt.psn) (fun x => { x with retried := true, sentAt := s.clk.now, again := .no }) h.out }) s
  let p := { o.pkt with retx := true, data := data }
  afterRelease k o.op (pktLen p) ((putOut k { o with pkt := p } s).count (cntEp k.ep 5) 1)

/-- The retransmission that is next, in PSN order, and its payload, when that is there and the wheel lets it go (R211, R324, R325). -/
def State.nextAgain (s : State) (p : Peer) (h : SendHalf) : Option (OutPkt × List Byte) :=
  match h.out.find? (fun o => o.again != .no) with
  | none => none
  | some o => match o.again with
    | .ready data => if s.eligible p o.op then some (o, data) else none
    | _ => none

/-- Send what the window and the eligible times allow, retransmissions that are due first (R200, R211, R324, R325). -/
def pump (k : PeerKey) : Nat → State → State
  | 0, s => s
  | fuel + 1, s =>
    match s.peer? k with
    | none => s
    | some p =>
      match p.send with
      | none => s
      | some h =>
        if !s.running ∨ p.resident ≠ .resident then s
        else
          match s.nextAgain p h with
          | some (o, data) => pump k fuel (resend k o data s)
          | none =>
            match h.queue with
            | [] => s
            | o :: _ =>
              if h.mayGo o ∧ h.out.length < s.window ∧ s.eligible p o.op then pump k fuel (release k o s) else s

/-- Pump everything that is queued or due again. -/
def pumpAll (k : PeerKey) (s : State) : State :=
  pump k (((s.peer? k).bind (·.send)).elim 0 (fun h => h.queue.length + h.out.length)) s

/-- Ask the least recently used idle peer state's remote endpoint to close, unless another has been asked and has not answered (R191). -/
def askClose (s : State) : State :=
  if s.trn.peers.any (fun p => p.closing.isSome) then s
  else
    match oldest (s.trn.peers.filter s.closable) with
    | none => s
    | some c =>
      let next := c.send.elim 0 (fun h => h.nextPsn.toNat)
      let head := c.recv.elim 0 (fun r => r.head.toNat)
      updPeer c.key (fun p => { p with closing := some s.clk.now }) (sendControl c.key .closeReq next head 0 s)

/-- Can a local operation use the peer state now? One that is not resident is fetched first, and one that is being closed is not used.
A missing one is created; when the store is full a candidate is asked to close, and the operation waits (R190, R191). -/
def peerReady (k : PeerKey) (s : State) : Bool × State :=
  match s.peer? k with
  | some p =>
    if p.closing.isSome then (false, s)
    else if p.resident = .resident then (true, s)
    else (false, startPeerFetch k s)
  | none =>
    if s.trn.peers.length < s.peerLimit then
      match peerRoom s with
      | (true, s) => (true, newPeer k s)
      | (false, s) => (false, s)
    else (false, askClose s)

/-- Can packets be queued toward a peer now? A peer state in the store alone is fetched meanwhile (R63, R190, R191). -/
def peerQueues (k : PeerKey) (s : State) : Bool × State :=
  match s.peer? k with
  | some p => if p.closing.isSome then (false, s) else (true, startPeerFetch k s)
  | none => peerReady k s

/-- Queue packets on the send half toward a peer, opening it when needed: they take their PSNs in the order of
dispatch (R192, R200). Without a peer state they wait for one (R190, R191). -/
def sendOut (k : PeerKey) (l : List OutPkt) (s : State) : State :=
  match peerQueues k s with
  | (false, s) => { s with trn := { s.trn with waiting := s.trn.waiting ++ [(k, l)] } }
  | (true, s) => pumpAll k (l.foldl (fun s o => numberPkt k o s) (openHalf k (usePeer k s)))

/-- Queue packets of an operation whose payload, if any, its record holds (R215). -/
def sendOn (k : PeerKey) (op : OpRef) (ps : List Packet) (s : State) : State := sendOut k (ps.map (waitingPkt op)) s

/-! ### New PSNs (R124, R219) -/

/-- Queue a packet again under a new PSN, given the new PSNs of those before it: the read of a rendezvous takes the new one, a WITHDRAW
names its RTS, and a CANCEL its ACQUIRE, by the new one (R197, R219, R267). -/
def requeueOne (k : PeerKey) (o : OutPkt) (l : List (Pos × Pos)) (s : State) : State :=
  let fresh := fun (r : Rndv) => { r with reads := updAll (fun x => x.psn = some o.pkt.psn) (fun x => { x with psn := none }) r.reads }
  let s := { s with svc := { s.svc with rndvs := updAll (fun r => r.peer = k && decide (o.op = .rndv r.rts)) fresh s.svc.rndvs } }
  let new := fun (w : Word) =>
    let old : Pos := BitVec.ofNat 32 w.toNat
    word ((assoc old l).getD old).toNat
  let pkt :=
    if o.pkt.ptype = PType.withdraw.code then { o.pkt with e0 := new o.pkt.e0 }
    else if o.pkt.ptype = PType.lock.code ∧ bits o.pkt.e0.toNat 63 60 = 2 then { o.pkt with e1 := new o.pkt.e1 }
    else o.pkt
  numberPkt k { o with pkt := pkt } s

/-- Queue packets again under new PSNs (R219). -/
def requeue (k : PeerKey) : List OutPkt → List (Pos × Pos) → State → State
  | [], _, s => s
  | o :: rest, l, s =>
    let new := ((s.peer? k).bind (·.send)).elim o.pkt.psn (·.nextPsn)
    requeue k rest ((o.pkt.psn, new) :: l) (requeueOne k o l s)

/-- A packet of an operation waits to be sent for the first time. -/
def State.unsent (s : State) (k : PeerKey) (op : OpRef) : Bool :=
  ((s.peer? k).bind (·.send)).elim false (fun h => h.queue.any (fun o => o.op == op))

/-- Take the packets of an operation that have not been sent out of what waits; those behind them take their PSNs (R124, R200). -/
def unqueue (k : PeerKey) (op : OpRef) (s : State) : State :=
  let mine := fun (o : OutPkt) => o.op == op
  let cut := fun (x : PeerKey × List OutPkt) => if x.1 = k then (k, x.2.filter (fun o => !mine o)) else x
  let s := { s with trn := { s.trn with waiting := (s.trn.waiting.map cut).filter (fun x => !x.2.isEmpty) } }
  match (s.peer? k).bind (·.send) with
  | none => s
  | some h =>
    match h.queue.dropWhile (fun o => !mine o) with
    | [] => s
    | o :: rest =>
      requeue k (rest.filter (fun o => !mine o)) [] (updSend k (fun h => { h with
        queue := h.queue.takeWhile (fun o => !mine o), nextPsn := o.pkt.psn, epoch := o.epoch }) s)

/-- Operations that wait for a peer state try again. -/
def waitingGo (s : State) : State :=
  s.trn.waiting.foldl (fun s x => sendOut x.1 x.2 s) { s with trn := { s.trn with waiting := [] } }

/-! ### Responses -/

/-- E1 of a response (R197). -/
def respE1 (status len : Nat) : Nat := at_ 56 status + len

/-- A single-packet response for a request (R197, R198). -/
def response (t : PType) (pkey group : Nat) (req : Pos) (status : Nat) (data : List Byte) : Packet :=
  { packet0 t pkey group true true data with e0 := word req.toNat, e1 := word (respE1 status data.length) }

/-- Answer a refused or failed operation with STATUS; the lock unit answers lock requests and atomics on device variables (R209, R329). -/
def sendStatus (k : PeerKey) (req : Pos) (pkey group status : Nat) (lockUnit : Bool) (s : State) : State :=
  sendOn k (.response req) [{ response .status pkey group req status [] with lockUnit := lockUnit }] s

end Sys2Proof.Machine
end

