-- ==== Sys2Proof/Machine/Resend.lean ====
section
/-! DEFINITION. Retransmission: the payload is read again from the buffer that it came from, and then sent (R211-R216). -/

namespace Sys2Proof.Machine

/-- The outstanding packet of a half with a PSN. -/
def State.outPkt? (s : State) (k : PeerKey) (psn : Pos) : Option OutPkt :=
  ((s.peer? k).bind (·.send)).bind (fun h => h.out.find? (fun o => o.pkt.psn = psn))

/-- Note how far the retransmission of a packet has come. -/
def setAgain (k : PeerKey) (psn : Pos) (a : Again) (s : State) : State :=
  updSend k (fun h => { h with out := updAll (fun o => o.pkt.psn = psn) (fun o => { o with again := a }) h.out }) s

/-- The accessor that reads a payload. -/
def DataSource.access (c : DataSource) : Accessor :=
  { asid := c.asid, mid := c.mid, pkey := c.pkey, port := c.port, kind := 0, unit := c.unit, fetch := false, passed := [] }

/-- The payload cannot be read again: a job ends with XLT_FAULT later (R148), and the packet goes out with what it carried before, since its
PSN must be filled; for a GET_RESP R216 states nothing (DESIGN CHOICE, log 147). A fault at an address of a region is told to the region's
endpoint (R160, R179, R399). -/
def rereadFail (k : PeerKey) (o : OutPkt) (fault : Option Nat) (s : State) : State :=
  let s := match o.op with
    | .job jid => updJob jid (fun j => if j.status = stOk then { j with status := stXltFault } else j) s
    | _ => s
  let s := match fault, o.src.bind (fun c => c.region.map (fun i => (c, i))) with
    | some va, some (c, i) => endpointEvent ((s.region? i).elim k.ep (·.ep)) evXltFault 0 va c.asid c.asid s
    | _, _ => s
  pumpAll k (setAgain k o.pkt.psn (.ready o.pkt.data) s)

/-- Read the next piece of a payload, or send the packet when all of it is here (R215). -/
def rereadNext (k : PeerKey) (psn : Pos) (s : State) : State :=
  match s.outPkt? k psn with
  | none => s
  | some o =>
    match o.src, o.again with
    | some c, .reading (g :: rest) data =>
      issueReq c.port c.mid g.bus g.len (.resend k psn) (fun id => .hostRead id c.port g.bus g.len (decide (g.type = 1)))
        (setAgain k psn (.reading rest data) s)
    | some c, .reading [] data => pumpAll k (setAgain k psn (.ready (o.pkt.data.take c.keep ++ data)) s)
    | _, _ => s

/-- Translate the ranges of a payload that is read again (R183, R215): a translation is not kept from the first read. -/
def rereadGo (k : PeerKey) (psn : Pos) (s : State) : State :=
  match s.outPkt? k psn with
  | none => s
  | some o =>
    match o.src, o.again with
    | some c, .translating xp =>
      match xRun c.access (.resend k psn) xp s with
      | (.done, xp, s) => rereadNext k psn (setAgain k psn (.reading xp.segs []) s)
      | (.pending, xp, s) => setAgain k psn (.translating xp) s
      | (.fault, xp, s) => rereadFail k o (some ((xp.todo.head?).elim 0 (·.1))) s
      | (.refused, _, s) => rereadFail k o none s
    | _, _ => s

/-- A piece of a payload has been read again. -/
def rereadData (k : PeerKey) (psn : Pos) (bs : List Byte) (s : State) : State :=
  match s.outPkt? k psn with
  | none => s
  | some o =>
    match o.again with
    | .reading left data => rereadNext k psn (setAgain k psn (.reading left (data ++ bs)) s)
    | _ => s

/-- The address of a byte of some extents, counted from their first. -/
def byteAt : List (Nat × Nat) → Nat → Nat
  | [], _ => 0
  | [x], n => x.1 + n
  | x :: l, n => if n < x.2 then x.1 + n else byteAt l (n - x.2)

/-- A payload could not be read again after the first `came` bytes of a piece (R148, R399). -/
def rereadLost (k : PeerKey) (psn : Pos) (came : Nat) (s : State) : State :=
  match s.outPkt? k psn with
  | none => s
  | some o =>
    match o.again with
    | .reading _ data => rereadFail k o (some (o.src.elim 0 (fun c => byteAt c.exts (data.length + came)))) s
    | _ => s

/-- A packet of a half is to be sent again: its payload is read first, unless its record holds it (R215). -/
def resendStart (k : PeerKey) (s : State) (o : OutPkt) : State :=
  if o.again != .no then s
  else
    let s := updSend k (fun h => { h with out := updAll (fun x => x.pkt.psn = o.pkt.psn) (fun x => { x with holdUntil := none }) h.out }) s
    match o.src with
    | none => setAgain k o.pkt.psn (.ready o.pkt.data) s
    | some c => rereadGo k o.pkt.psn (setAgain k o.pkt.psn (.translating (xStart c.exts)) s)

/-- Send packets of a half again, in PSN order, as the wheel lets them (R211, R325). On a pinned class, packets that have been sent again
before choose, and then pin, a new path for the half (R27, R213). -/
def resendAll (k : PeerKey) (l : List OutPkt) (s : State) : State :=
  let s := if l.any (·.retried) && bit (s.fld .trnCtrl 0 2 0) k.tc then updPeer k (fun p => { p with path := some (p.path.getD 0 + 1) }) s else s
  pumpAll k (l.foldl (resendStart k) s)

/-- The packets of every send half that are not acknowledged. -/
def State.outPkts (s : State) : List OutPkt := s.trn.peers.flatMap (fun p => p.send.elim [] (fun h => h.out ++ h.queue))

/-- Responses that may have to be read again from a region, by their requests: each GET holds the keyring entry until then (R143, R216;
DEDUCED, log 147). -/
def State.resendsFrom (s : State) (i : Nat) : List (PeerKey × OpRef) :=
  let mine (o : OutPkt) : Bool := o.src.elim false (fun c => decide (c.region = some i))
  (s.trn.peers.flatMap (fun p => ((p.send.elim [] (fun h => h.out ++ h.queue)).filter mine).map (fun o => (p.key, o.op)))
    ++ s.trn.waiting.flatMap (fun x => (x.2.filter mine).map (fun o => (x.1, o.op)))).eraseDups

end Sys2Proof.Machine
end

