-- ==== Sys2Proof/Machine/Lock.lean ====
section
/-! DEFINITION. The lock unit, the requester's held-lock records, and device variables (R254-R270). -/

namespace Sys2Proof.Machine

/-! ### Locks on their device -/

def State.lock? (s : State) (n : Nat) : Option Lock := s.svc.locks.find? (fun l => l.num = n)

def updLock (n : Nat) (f : Lock → Lock) (s : State) : State :=
  { s with svc := { s.svc with locks := updAll (fun l => l.num = n) f s.svc.locks } }

/-- Codes of LOCK_RESP (R267). -/
def rkGrant : Nat := 0
def rkGrantAbandoned : Nat := 1
def rkBoost : Nat := 2
def rkCanceled : Nat := 3

/-- Send a LOCK_RESP toward a requester (R267). -/
def sendLockResp (l : Lock) (w : LockWaiter) (kind prio : Nat) (inh : Bool) (req : Nat) (s : State) : State :=
  let e0 := at_ 60 kind + at_ 56 prio + at_ 44 w.mid + at_ 43 (b1 inh) + l.num
  sendOn w.peer (.lock l.num) [{ packet0 .lockResp l.pkey w.group true true [] with lockUnit := true, e0 := word e0, e1 := word req }] s

/-- The inherited priority of a held lock (R261). -/
def Lock.inherits (l : Lock) : Option Nat :=
  match l.owner, l.waiters with
  | some o, w :: _ => if o.prio < w.prio then some w.prio else none
  | _, _ => none

/-- Send BOOST when the inherited priority of the present owner has changed (R261). -/
def boostCheck (n : Nat) (s : State) : State :=
  match s.lock? n with
  | none => s
  | some l =>
    if l.inherits = l.inherited then s
    else
      let s := updLock n (fun l => { l with inherited := l.inherits }) s
      match l.owner with
      | none => s
      | some o =>
        if s.fld .lckCtrl 0 0 0 = 0 then s
        else sendLockResp l o rkBoost (l.inherits.getD 0) l.inherits.isSome 0 s

/-- Insert a waiter: descending priority, arrival order within one (R259). -/
def insertWaiter (w : LockWaiter) : List LockWaiter → List LockWaiter
  | [] => [w]
  | v :: l => if v.prio < w.prio then w :: v :: l else v :: insertWaiter w l

/-- Entries of the waiter area in use (R259). -/
def State.waitersUsed (s : State) : Nat := sumBy (fun l => l.waiters.length) s.svc.locks

/-- Give a lock to a requester: GRANT, or GRANT_ABANDONED (R257, R264). -/
def grant (n : Nat) (w : LockWaiter) (abandoned : Bool) (s : State) : State :=
  match s.lock? n with
  | none => s
  | some l =>
    let s := updLock n (fun l => { l with owner := some w, abandoned := false, inherited := none }) s
    sendLockResp l w (if abandoned then rkGrantAbandoned else rkGrant) 0 false w.reqPsn.toNat s

/-- Pass a lock on: the head waiter becomes owner, or the lock is FREE (R257, R264). -/
def passLock (n : Nat) (abandoned : Bool) (s : State) : State :=
  match s.lock? n with
  | none => s
  | some l =>
    match l.waiters with
    | w :: rest => grant n w abandoned (updLock n (fun l => { l with waiters := rest }) s)
    | [] => updLock n (fun l => { l with owner := none, inherited := none, abandoned := l.abandoned || abandoned }) s

/-- The holder of a lock was reset (R257, R263, R264). -/
def holderReset (n : Nat) (s : State) : State :=
  match s.lock? n with
  | none => s
  | some l => match l.owner with
    | none => s
    | some o => passLock n true (report .lckAbandoned 0x08 0 (at_ 16 o.mid + n) s)

/-- What the lock unit answers a request. -/
inductive LockAns where
  | taken | refused | full
  deriving DecidableEq, Repr

/-- A LOCK request is refused: no such lock, another partition, an acquire by the owner, a release by anyone else
(R254, R257). A RESET_RELEASE from anyone but the owner is ignored instead (R266). -/
def State.lockCheck (s : State) (k : PeerKey) (p : Packet) : LockAns :=
  let e0 := p.e0.toNat
  let kind := bits e0 63 60
  let isOwner := fun (l : Lock) => l.owner.elim false (fun o => o.fa == k.fa && o.mid == bits e0 55 44)
  match s.lock? (bits e0 13 0) with
  | none => if kind = 3 then .taken else .refused
  | some l =>
    if kind = 0 then
      if l.pkey ≠ p.pkey ∨ isOwner l then .refused
      else if l.owner.isSome && decide (Config.waiterArea ≤ s.waitersUsed) then .full
      else .taken
    else if kind = 1 then (if l.pkey ≠ p.pkey ∨ !isOwner l then .refused else .taken)
    else if kind = 2 ∧ l.pkey ≠ p.pkey then .refused
    else if kind = 3 ∧ l.pkey ≠ p.pkey ∧ isOwner l then .refused
    else .taken

/-- Carry out a LOCK request that is not refused (R257, R266). -/
def lockApply (k : PeerKey) (p : Packet) (s : State) : State :=
  let e0 := p.e0.toNat
  let n := bits e0 13 0
  let mid := bits e0 55 44
  match s.lock? n with
  | none => s
  | some l =>
    let isOwner := l.owner.elim false (fun o => o.fa == k.fa && o.mid == mid)
    match bits e0 63 60 with
    | 0 =>
      let w : LockWaiter := { fa := k.fa, mid := mid, prio := bits e0 59 56, peer := k, reqPsn := p.psn, group := p.group }
      if l.owner.isNone then grant n w l.abandoned s
      else boostCheck n (updLock n (fun l => { l with waiters := insertWaiter w l.waiters }) s)
    | 1 => passLock n false s
    | 2 =>
      let req : Pos := BitVec.ofNat 32 p.e1.toNat
      match l.waiters.find? (fun w => w.peer = k && w.reqPsn = req) with
      | none => s
      | some w =>
        let s := updLock n (fun l => { l with waiters := l.waiters.filter (· ≠ w) }) s
        boostCheck n (sendLockResp l w rkCanceled 0 false req.toNat s)
    | 3 => if isOwner then holderReset n s else s
    | _ => s

/-- A LOCK request that is not refused is carried out; one whose lock table entry a gate of device memory refuses has no effect (R485,
R515). -/
def lockRequest (k : PeerKey) (p : Packet) (s : State) : State :=
  match hbmRefusal 0x8A3 2 64 (some p.pkey) s with
  | (some x, s) => memLost x s
  | (none, s) => lockApply k p s

/-- A send half toward an endpoint of a router was abandoned with PEER_RESTARTED: every lock held from there passes on
(R263). -/
def holdersRestarted (fa : Fa) (s : State) : State :=
  (s.svc.locks.filter (fun l => l.owner.elim false (fun o => decide (faCoord o.fa = faCoord fa)))).foldl
    (fun s l => holderReset l.num s) s

/-! ### The requester (R256, R258, R262, R265) -/

/-- LOCK operation header word E0 (R267). -/
def lockE0 (kind prio mid lock : Nat) : Nat := at_ 60 kind + at_ 56 prio + at_ 44 mid + lock

/-- Send RESET_RELEASE or CANCEL for a held-lock record (R265). -/
def sendLockOut (r : LockRec) (kind req : Nat) (s : State) : State :=
  let p := { packet0 .lock r.pkey r.group true true [] with lockUnit := true, e0 := word (lockE0 kind 0 r.mid r.lock), e1 := word req }
  sendOn { ep := r.ep, fa := r.fa, tc := r.tc } (.lock r.lock) [p] s

def dropLockRec (jid : Nat) (s : State) : State :=
  { s with svc := { s.svc with lockRecs := s.svc.lockRecs.filter (fun r => r.jid ≠ jid) } }

/-- The inheritance weight for a lock ends at its holder (R262). -/
def dropBoost (mid : Nat) (fa : Fa) (lock : Nat) (s : State) : State :=
  { s with svc := { s.svc with boosts := s.svc.boosts.filter (fun b => !(b.mid = mid && b.fa = fa && b.lock = lock)) } }

/-- A lock that its holder no longer has is released with RESET_RELEASE; its record and its inheritance weight stay until that is delivered
(R262, R265). -/
def lockLeave (r : LockRec) (s : State) : State :=
  sendLockOut r 3 0 { s with svc := { s.svc with
    lockRecs := updAll (fun x => x.jid = r.jid) (fun x => { x with granted := true, leaving := true }) s.svc.lockRecs } }

/-- A packet of a lock is acknowledged: the RESET_RELEASE of a record has reached its lock, and counts as delivered with its fence (R208). -/
def leaveAcked (k : PeerKey) (p : Packet) (fence : Option Pos) (s : State) : State :=
  let e0 := p.e0.toNat
  if p.ptype ≠ PType.lock.code ∨ bits e0 63 60 ≠ 3 then s
  else
    let hit := fun (r : LockRec) => r.leaving && r.endFence.isNone && r.ep == k.ep && r.fa == k.fa && r.tc == k.tc && r.lock == bits e0 13 0
      && r.mid == bits e0 55 44
    { s with svc := { s.svc with lockRecs := updAll hit (fun r => { r with endFence := some fence }) s.svc.lockRecs } }

/-- The records toward a peer whose RESET_RELEASE has been delivered end, and their inheritance weights (R262, R265). -/
def lockGone (k : PeerKey) (delivered : LockRec → Bool) (s : State) : State :=
  (s.svc.lockRecs.filter (fun r => r.leaving && r.ep == k.ep && r.fa == k.fa && r.tc == k.tc && delivered r)).foldl
    (fun s r => dropLockRec r.jid (dropBoost r.mid r.fa r.lock s)) s

/-- CANCEL for an acquire of a function that was reset, once it has a PSN (R265). -/
def lockCancel (jid : Nat) (s : State) : State :=
  match s.svc.lockRecs.find? (fun r => r.jid = jid) with
  | none => s
  | some r => if r.reset && !r.granted then r.psn.elim s (fun psn => sendLockOut r 2 psn.toNat s) else s


/-- The record of an acquire that has no PSN ends with its job. -/
def dropUnsent (jid : Nat) (s : State) : State :=
  { s with svc := { s.svc with lockRecs := s.svc.lockRecs.filter (fun r => r.jid ≠ jid || r.psn.isSome) } }

/-- The record of an acquire that was answered with a STATUS ends. -/
def dropRefused (k : PeerKey) (req : Pos) (s : State) : State :=
  { s with svc := { s.svc with lockRecs := s.svc.lockRecs.filter (fun r =>
    !(r.ep = k.ep && r.fa = k.fa && r.tc = k.tc && r.psn = some req && !r.granted)) } }

/-- The locks and acquires of a reset function: RESET_RELEASE for each lock held, CANCEL for each acquire that waits, at once or as soon
as it has a PSN (R265). -/
def lockReset (mid : Nat) (s : State) : State :=
  (s.svc.lockRecs.filter (fun r => r.mid = mid)).foldl
    (fun s r =>
      if r.leaving then s
      else if r.granted then lockLeave r s
      else
        lockCancel r.jid { s with svc := { s.svc with
          lockRecs := updAll (fun x => x.jid = r.jid) (fun x => { x with reset := true }) s.svc.lockRecs } })
    s

/-- A LOCK_RESP is delivered (R258, R262, R265). A BOOST wakes the clusters of the queues that it concerns (R409). -/
def lockResp (k : PeerKey) (p : Packet) (s : State) : State :=
  let e0 := p.e0.toNat
  let n := bits e0 13 0
  let mid := bits e0 55 44
  let kind := bits e0 63 60
  if kind = rkBoost then
    let s := dropBoost mid k.fa n s
    if bit e0 43 then
      let s := { s with svc := { s.svc with
        boosts := { mid := mid, fa := k.fa, lock := n, prio := bits e0 59 56 } :: s.svc.boosts } }
      let s : State := (s.qmg.queues.filter (fun q => q.attr.mid = mid && (q.kind == .sq || q.kind == .srq))).foldl (fun s q => wakeDomain (engineDomain q.attr.home) s) s
      if s.fld .lckCtrl 0 1 1 = 1 then endpointEvent k.ep evLockBoost 0 n (at_ 12 (bits e0 59 56) + mid) 0 s else s
    else s
  else
    let req : Pos := BitVec.ofNat 32 p.e1.toNat
    match s.svc.lockRecs.find? (fun r => r.ep = k.ep && r.fa = k.fa && r.tc = k.tc && r.psn = some req && !r.granted) with
    | none => s
    | some r =>
      if kind = rkCanceled then dropLockRec r.jid (endJob r.jid stCanceled s)
      else
        let s := endJobWith r.jid stOk (if kind = rkGrantAbandoned then 1 else 0) 0 s
        if r.reset then lockLeave r s
        else { s with svc := { s.svc with
          lockRecs := updAll (fun x => x.jid = r.jid) (fun x => { x with granted := true }) s.svc.lockRecs } }

/-- Drop the first of a list that a test holds of. -/
def dropFirst {α : Type} (p : α → Bool) : List α → List α
  | [] => []
  | x :: l => if p x then l else x :: dropFirst p l

/-- A LOCK_RELEASE was delivered: the inheritance weight of the lock ends, and its record, the older one where the master has acquired the
lock again meanwhile (R262, R265). -/
def lockReleased (j : Job) (s : State) : State :=
  let n := dLock j.ws
  let mine := fun (r : LockRec) => r.granted && !r.leaving && r.ep = j.ep && r.fa = j.peerFa && r.lock = n && r.mid = j.mid
  dropBoost j.mid j.peerFa n { s with svc := { s.svc with lockRecs := dropFirst mine s.svc.lockRecs } }

/-! ### Device variables (R268-R270) -/

/-- Bytes of the device-variable area. -/
def State.varBytes (s : State) : Nat := min 1024 (s.fld .lckVarSize 0 10 0) * 2 ^ 20

/-- The check of R268. -/
def State.varCheck (s : State) (pkey addr width : Nat) : Nat :=
  if s.varBytes < addr + width then stRange
  else if s.svc.varRuns.any (fun r => decide (r.first ≤ addr / 16) && decide (addr / 16 < r.first + r.count) && r.pkey = pkey)
  then stOk else stProtection

/-- The value that a sub-operation writes over old (R79). -/
def atomicApply (subop width old operand compare : Nat) : Nat :=
  match subop with
  | 0 => (old + operand) % 2 ^ (8 * width)
  | 1 => if old = compare then operand else old
  | 2 => operand
  | 3 => old &&& operand
  | 4 => old ||| operand
  | _ => old ^^^ operand

/-- Perform an atomic on a variable slot and give the fetched value (R269). -/
def varAtomic (addr subop width operand compare : Nat) (s : State) : Nat × State :=
  let slot := addr / 16
  let whole := (assoc slot s.svc.vars).getD 0
  let sh := if width = 8 then 64 * (addr / 8 % 2) else 0
  let old := whole / 2 ^ sh % 2 ^ (8 * width)
  let new := atomicApply subop width old operand compare
  let whole' := whole - old * 2 ^ sh + new * 2 ^ sh
  let rest := s.svc.vars.filter (fun v => v.1 ≠ slot)
  (old, { s with svc := { s.svc with vars := if whole' = 0 then rest else (slot, whole') :: rest } })

end Sys2Proof.Machine
end

