-- ==== Sys2Proof/Machine/Fixed.lean ====
section
/-! DEFINITION. The operators of collectives: element layouts, comparisons, exact accumulation, rounding, and the payload forms
(R237, R242-R245). -/

namespace Sys2Proof.Machine

/-- Element types of R79. -/
def isFloat (dt : Nat) : Bool := decide (4 ≤ dt)

/-- Bytes of a value of a type: 2, 4 or 8. -/
def dtSize (dt : Nat) : Nat :=
  match dt with
  | 0 | 2 | 6 => 4
  | 1 | 3 | 7 => 8
  | _ => 2

/-- MINLOC and MAXLOC reduce pairs. -/
def isPair (oper : Nat) : Bool := oper == 6 || oper == 7

/-- Bytes of an element: 8 for a pair of a 16-bit or 32-bit type, 16 for a 64-bit one. -/
def elemSize (oper dt : Nat) : Nat :=
  if isPair oper then (if dtSize dt = 8 then 16 else 8) else dtSize dt

/-- Exponent and mantissa bits of a floating-point type. -/
def fpBits (dt : Nat) : Nat × Nat :=
  match dt with
  | 4 => (5, 10)
  | 5 => (8, 7)
  | 6 => (8, 23)
  | _ => (11, 52)

def fpWidth (dt : Nat) : Nat := 8 * dtSize dt
def fpSign (dt w : Nat) : Bool := bit w (fpWidth dt - 1)
def fpExp (dt w : Nat) : Nat := w / 2 ^ (fpBits dt).2 % 2 ^ (fpBits dt).1
def fpMant (dt w : Nat) : Nat := w % 2 ^ (fpBits dt).2
/-- Exponent field all ones. -/
def fpTop (dt : Nat) : Nat := 2 ^ (fpBits dt).1 - 1
def fpNan (dt w : Nat) : Bool := decide (fpExp dt w = fpTop dt) && decide (fpMant dt w ≠ 0)
def fpInf (dt w : Nat) : Bool := decide (fpExp dt w = fpTop dt) && decide (fpMant dt w = 0)
def fpZero (dt w : Nat) : Bool := decide (fpExp dt w = 0) && decide (fpMant dt w = 0)

/-- The encoding of plus infinity. -/
def plusInf (dt : Nat) : Nat := fpTop dt * 2 ^ (fpBits dt).2

/-- The canonical NaN (R242). -/
def canonicalNan (dt : Nat) : Nat := plusInf dt + 2 ^ ((fpBits dt).2 - 1)

/-- Sign bit of a type. -/
def signBit (dt : Nat) : Nat := 2 ^ (fpWidth dt - 1)

/-- A finite value in units of the lowest bit weight of R243. -/
def toFixed (dt w : Nat) : Int :=
  let e := fpExp dt w
  let m : Nat := if e = 0 then fpMant dt w else (2 ^ (fpBits dt).2 + fpMant dt w) * 2 ^ (e - 1)
  if fpSign dt w then -(m : Int) else (m : Int)

/-- An accumulator at chunk start (R244). -/
def accZero : Acc := { v := 0, nan := false, pinf := false, ninf := false, allNegz := true }

/-- Add one value (R244). -/
def accAdd (dt : Nat) (a : Acc) (w : Nat) : Acc :=
  if fpNan dt w then { a with nan := true }
  else if fpInf dt w then
    if fpSign dt w then { a with ninf := true, allNegz := false } else { a with pinf := true, allNegz := false }
  else
    { a with allNegz := a.allNegz && fpZero dt w && fpSign dt w, v := a.v + toFixed dt w }

/-- Merge a partial result (R244). -/
def accMerge (a b : Acc) : Acc :=
  { v := a.v + b.v, nan := a.nan || b.nan, pinf := a.pinf || b.pinf, ninf := a.ninf || b.ninf, allNegz := a.allNegz && b.allNegz }

/-- Round a magnitude in units of the lowest bit to the nearest value, ties to even; infinity beyond the largest (R244). -/
def roundMag (dt n : Nat) : Nat :=
  let mb := (fpBits dt).2
  if n < 2 ^ (mb + 1) then n
  else
    let sh := Nat.log2 n - mb
    let q := n / 2 ^ sh
    let r := n % 2 ^ sh
    let half := 2 ^ (sh - 1)
    let q := if half < r ∨ (r = half ∧ q % 2 = 1) then q + 1 else q
    min (plusInf dt) (sh * 2 ^ mb + q)

/-- The single rounding at the tree root (R244). -/
def accRound (dt : Nat) (a : Acc) : Nat :=
  if a.nan ∨ (a.pinf ∧ a.ninf) then canonicalNan dt
  else if a.pinf then plusInf dt
  else if a.ninf then plusInf dt + signBit dt
  else if a.v = 0 then (if a.allNegz then signBit dt else 0)
  else if 0 < a.v then roundMag dt a.v.toNat
  else roundMag dt (-a.v).toNat + signBit dt

/-- A key that orders values of a type; −0 lies below +0 (R242). -/
def orderKey (dt w : Nat) : Int :=
  let width := 8 * dtSize dt
  if isFloat dt then
    (if fpSign dt w then -((w % 2 ^ (width - 1) : Nat) : Int) - 1 else (w : Int))
  else if dt = 0 ∨ dt = 1 then (if bit w (width - 1) then (w : Int) - (2 ^ width : Nat) else (w : Int))
  else (w : Int)

/-- MIN or MAX of two values (R242). -/
def minMax (isMax : Bool) (dt a b : Nat) : Nat :=
  if isFloat dt ∧ (fpNan dt a ∨ fpNan dt b) then canonicalNan dt
  else if isMax then (if orderKey dt a < orderKey dt b then b else a)
  else (if orderKey dt b < orderKey dt a then b else a)

/-- MINLOC or MAXLOC of two pairs (R242). -/
def minMaxLoc (isMax : Bool) (dt : Nat) (a b : Nat × Nat) : Nat × Nat :=
  let na := isFloat dt && fpNan dt a.1
  let nb := isFloat dt && fpNan dt b.1
  if na && nb then (canonicalNan dt, min a.2 b.2)
  else if na then (canonicalNan dt, a.2)
  else if nb then (canonicalNan dt, b.2)
  else if orderKey dt a.1 = orderKey dt b.1 then (a.1, min a.2 b.2)
  else if (orderKey dt a.1 < orderKey dt b.1) = (isMax = false) then a
  else b

/-- Combine two elements (R242, R244). -/
def combine (oper dt : Nat) (a b : Elem) : Elem :=
  match a, b with
  | .acc x, .acc y => .acc (accMerge x y)
  | .pair v l, .pair v' l' =>
    let r := minMaxLoc (oper == 7) dt (v, l) (v', l')
    .pair r.1 r.2
  | .word x, .word y =>
    .word (match oper with
      | 0 => (x + y) % 2 ^ (8 * dtSize dt)
      | 1 => minMax false dt x y
      | 2 => minMax true dt x y
      | 3 => x &&& y
      | 4 => x ||| y
      | _ => x ^^^ y)
  | x, _ => x

/-- An element as a member contributes it: a sum accumulates it, a NaN under MIN and MAX becomes canonical. -/
def ownElem (oper dt : Nat) (bs : List Byte) : Elem :=
  if isPair oper then
    let v := ofBytes (bs.take (dtSize dt))
    let v := if isFloat dt && fpNan dt v then canonicalNan dt else v
    .pair v (ofBytes ((bs.drop (if dtSize dt = 8 then 8 else 4)).take 4))
  else
    let v := ofBytes (bs.take (dtSize dt))
    if oper = 0 ∧ isFloat dt then .acc (accAdd dt accZero v)
    else if isFloat dt && fpNan dt v then .word (canonicalNan dt)
    else .word v

/-- The elements of a buffer, n of them. -/
def ownElems (oper dt : Nat) : Nat → List Byte → List Elem
  | 0, _ => []
  | n + 1, bs =>
    let sz := elemSize oper dt
    ownElem oper dt (bs.take sz) :: ownElems oper dt n (bs.drop sz)

/-- An element in element form, rounded where it was accumulated. -/
def elemBytes (oper dt : Nat) (e : Elem) : List Byte :=
  match e with
  | .word v => toBytes (elemSize oper dt) v
  | .pair v l =>
    if dtSize dt = 8 then toBytes 8 v ++ toBytes 4 l ++ toBytes 4 0 else toBytes 4 v ++ toBytes 4 l
  | .acc a => toBytes (dtSize dt) (accRound dt a)

/-- Slices of an accumulator of a type (R243). -/
def accSlices (dt : Nat) : Nat :=
  match dt with
  | 4 => 1
  | 5 | 6 => 5
  | _ => 34

/-- The two's complement slices of a value, k of them, lowest first. -/
def slicesOf (v : Int) (k : Nat) : List Nat :=
  let n := (v % (2 ^ (64 * k) : Nat)).toNat
  (List.range k).map (fun i => n / 2 ^ (64 * i) % 2 ^ 64)

/-- Number of slices below the first that is not 0. -/
def lowZeros : List Nat → Nat
  | 0 :: l => lowZeros l + 1
  | _ => 0

/-- Smallest count of low slices that sign-extends to the whole. -/
def signCut : Nat → List Nat → Nat
  | 0, _ => 1
  | n + 1, l =>
    -- l holds the n + 1 lowest slices left, highest last
    let top := (l[n]?).getD 0
    let under := (l[n - 1]?).getD 0
    if n ≠ 0 ∧ ((top = 0 ∧ under < 2 ^ 63) ∨ (top = 2 ^ 64 - 1 ∧ 2 ^ 63 ≤ under)) then signCut n l else n + 1

/-- BASE and the slices sent of an accumulator (R245). -/
def sliceForm (dt : Nat) (a : Acc) : Nat × List Nat :=
  let l := slicesOf a.v (accSlices dt)
  if a.v = 0 then (0, [0])
  else
    let base := lowZeros l
    let rest := l.drop base
    (base, rest.take (signCut rest.length rest))

/-- Header of an element in slice form (R245). -/
def sliceHeader (base count : Nat) (a : Acc) : Nat :=
  at_ 10 base + at_ 4 (count - 1) + at_ 3 (b1 a.nan) + at_ 2 (b1 a.pinf) + at_ 1 (b1 a.ninf) + b1 a.allNegz

/-- The value of slices sent from BASE up, sign-extended from the top one. -/
def sliceValue (base : Nat) (l : List Nat) : Int :=
  let n := (l.zipIdx.map (fun (w, i) => w * 2 ^ (64 * i))).foldl (· + ·) 0
  let w := 64 * l.length
  let v : Int := if bit n (w - 1) then (n : Int) - (2 ^ w : Nat) else (n : Int)
  v * (2 ^ (64 * base) : Nat)

/-- Cut elements in slice form into payloads of at most 4,096 bytes of whole elements: elements of each and the payload
(R245). -/
def slicePayload (els : List (Nat × List Nat)) : List Byte :=
  let heads := els.flatMap (fun (h, _) => toBytes 2 h)
  let pad := (8 - heads.length % 8) % 8
  heads ++ List.replicate pad 0 ++ els.flatMap (fun (_, ss) => ss.flatMap (toBytes 8))

/-- Bytes of a slice payload of some elements. -/
def sliceLen (els : List (Nat × List Nat)) : Nat := (2 * els.length + 7) / 8 * 8 + sumBy (fun e => 8 * e.2.length) els

/-- Group elements greedily. -/
def sliceGroups : List (Nat × List Nat) → List (Nat × List Nat) → List (List (Nat × List Nat))
  | cur, [] => if cur.isEmpty then [] else [cur]
  | cur, e :: l =>
    if cur.isEmpty || decide (sliceLen (cur ++ [e]) ≤ 4096) then sliceGroups (cur ++ [e]) l else cur :: sliceGroups [e] l

/-- Payloads of a partial sum in slice form: ELEMS and bytes of each packet. -/
def slicePackets (dt : Nat) (vals : List Elem) : List (Nat × List Byte) :=
  let els := vals.map (fun e => match e with
    | .acc a => let (b, ss) := sliceForm dt a; (sliceHeader b ss.length a, ss)
    | _ => (0, [0]))
  match sliceGroups [] els with
  | [] => [(0, [])]
  | gs => gs.map (fun g => (g.length, slicePayload g))

/-- Read the slices of elements whose headers are given. -/
def readSlices : List Nat → List Byte → List Elem
  | [], _ => []
  | h :: hs, bs =>
    let count := bits h 9 4 + 1
    let ws := (wordsOf count bs).map (·.toNat)
    .acc { v := sliceValue (bits h 15 10) ws, nan := bit h 3, pinf := bit h 2, ninf := bit h 1, allNegz := bit h 0 }
      :: readSlices hs (bs.drop (8 * count))

/-- n two-byte headers. -/
def readHeaders : Nat → List Byte → List Nat
  | 0, _ => []
  | n + 1, bs => ofBytes (bs.take 2) :: readHeaders n (bs.drop 2)

/-- Elements of a payload in slice form (R245). -/
def sliceElems (n : Nat) (bs : List Byte) : List Elem := readSlices (readHeaders n bs) (bs.drop ((2 * n + 7) / 8 * 8))

/-- Elements of a payload in element form as they merge: sums of floating-point types travel in slice form only. -/
def formElems (oper dt n : Nat) (bs : List Byte) : List Elem := ownElems oper dt n bs

end Sys2Proof.Machine
end

