-- ==== Sys2Proof/Machine/Chorus.lean ====
section
/-! DEFINITION. Chorus groups: the tree, joining and leaving, contributions, chunks, results, loss (R227-R252, R290). -/

namespace Sys2Proof.Machine

/-! ### The tree (R230) -/

/-- Dimensions in use (RTE_DIMS, R272). -/
def State.nDims (s : State) : Nat := if s.raw .rteDims 0 0 = 0 then 0 else s.fld .rteDims 0 33 32 + 1

def coordAt (x d : Nat) : Nat := x / 64 ^ d % 64
def setCoord (x d v : Nat) : Nat := x - coordAt x d * 64 ^ d + v * 64 ^ d

/-- The lowest dimension below n in which two routers differ. -/
def firstDiff (n x r : Nat) : Option Nat := (List.range n).find? (fun d => coordAt x d ≠ coordAt r d)

/-- The parent of a router and the dimension of the hop; none at the root (R230). -/
def parentOf (n x r : Nat) : Option (Nat × Nat) :=
  (firstDiff n x r).map (fun d => (setCoord x d (coordAt r d), d))

/-- A router and its ancestors. -/
def ancestors (n r : Nat) : Nat → Nat → List Nat
  | 0, x => [x]
  | fuel + 1, x => match parentOf n x r with
    | none => [x]
    | some (p, _) => x :: ancestors n r fuel p

/-- The nodes of the tree of a member table: its routers and all their ancestors. -/
def treeNodes (n r : Nat) (routers : List Nat) : List Nat := (routers.flatMap (ancestors n r n)).eraseDups

/-- The children of a node. -/
def childrenOf (n r y : Nat) (nodes : List Nat) : List Nat :=
  nodes.filter (fun x => (parentOf n x r).map (·.1) = some y)

/-! ### Groups -/

def State.group? (s : State) (g : Nat) : Option Group := s.svc.groups.find? (fun x => x.num = g)

def updGroup (g : Nat) (f : Group → Group) (s : State) : State :=
  { s with svc := { s.svc with groups := updAll (fun x => x.num = g) f s.svc.groups } }

def Group.op? (g : Group) (q : Nat) : Option ChorusOp := g.ops.find? (fun o => o.opseq = q)

/-- The OPSEQ that 32 bits of it stand for in a group held here. -/
def State.seqIn (s : State) (gn v : Nat) : Nat := (s.group? gn).elim v (fun g => g.seq v)

def updOp (g q : Nat) (f : ChorusOp → ChorusOp) (s : State) : State :=
  updGroup g (fun x => { x with ops := updAll (fun o => o.opseq = q) f x.ops }) s

/-- The peer state of chorus packets between two devices (R247). -/
def chorusPeer (coord : Nat) : PeerKey := { ep := 0, fa := coord, tc := 2 }

/-- CRC-64 of R228: one byte, most significant bit first. -/
def crc64Bits : Nat → Nat → Nat
  | 0, c => c
  | n + 1, c => crc64Bits n (if 2 ^ 63 ≤ c then (c * 2) % 2 ^ 64 ^^^ 0x42F0E1EBA9EA3693 else c * 2)

def crc64 : Nat → List Byte → Nat
  | c, [] => c
  | c, b :: l => crc64 (crc64Bits 8 (c ^^^ (b.toNat * 2 ^ 56))) l

/-- Chorus kinds (R247). -/
def ckJoin : Nat := 0
def ckJoinAck : Nat := 1
def ckJoinNak : Nat := 2
def ckLeave : Nat := 3
def ckContrib : Nat := 4
def ckResult : Nat := 5
def ckResultAck : Nat := 6
def ckRelay : Nat := 7
def ckLost : Nat := 8
def ckReplay : Nat := 9

/-- Header word E0 of a CHORUS packet (R247). -/
def chorusE0 (kind group aux opseq : Nat) : Nat := at_ 60 kind + at_ 48 group + at_ 32 aux + opseq % 2 ^ 32

/-- Header word E1 of a packet that carries a chunk, and of REPLAY (R247). -/
def chorusE1 (op : ChorusOp) (idx : Nat) (lastc : Bool) (elems form root : Nat) : Nat :=
  at_ 45 idx + at_ 44 (b1 lastc) + at_ 32 elems + at_ 28 op.coll + at_ 24 op.oper + at_ 20 op.dtype + at_ 18 form + root

def chorusPacket (pkey e0 e1 : Nat) (data : List Byte) : Packet :=
  { packet0 .chorus pkey 0 true true data with e0 := word e0, e1 := word e1 }

/-- Send a chorus packet of a group to another router over transport (R247). -/
def sendChorus (g : Group) (dest kind aux opseq e1 : Nat) (data : List Byte) (s : State) : State :=
  sendOn (chorusPeer dest) (.chorus g.num) [chorusPacket g.pkey (chorusE0 kind g.num aux opseq) e1 data] s

/-- The parent's coordinates. -/
def Group.parent (g : Group) (s : State) : Option Nat := (parentOf s.nDims s.coord (faCoord g.rootFa)).map (·.1)

/-- This router is the tree root. -/
def Group.isRoot (g : Group) (s : State) : Bool := (g.parent s).isNone

/-- The chorus cluster with the fewest groups among those in service, the lowest-numbered of equals (R229, R519; DESIGN CHOICE, log 199). -/
def State.chorusHome (s : State) : Nat :=
  let live := (List.range 8).filter (fun c => !s.engines.any (fun e => e.code = 0x60 + c && e.retired))
  let load := fun c => (s.svc.groups.filter (fun g => g.home = c)).length
  live.foldl (fun b c => if load c < load b then c else b) (live.headD 0)

/-- The flows of a node: one for each dimension that leads to children, each with an open number (R194, R247). -/
def makeFlows (dims : List Nat) (s : State) : List McFlow × State :=
  dims.foldl
    (fun acc d =>
      let s := acc.2
      let f : McFlow := { dim := d, openNum := s.trn.openCount, next := 0, epoch := 0, log := [], misses := [] }
      (acc.1 ++ [f], { s with trn := { s.trn with openCount := s.trn.openCount + 1 } }))
    ([], s)

/-- Dimensions on whose lines this node's children lie: those below the lowest one in which it differs from the root (R230). -/
def State.childDims (s : State) (rootFa : Fa) : List Nat :=
  List.range ((firstDiff s.nDims s.coord (faCoord rootFa)).getD s.nDims)

/-- Send JOIN to the parent. Children and members of the parent come from the member table; a node that a JOIN installed does not
know them, and they are free values within R230 and R227: JOIN carries them for its recipient alone (R233, R247, log 3). -/
def sendJoin (g : Group) (s : State) : State :=
  match g.parent s with
  | none => s
  | some p =>
    let (kids, mem, s) := match g.child with
      | some (a, b) => (a, b, s)
      | none =>
        let (a, s) := s.drawNat
        let (b, s) := s.drawNat
        (1 + a % 252, b % (g.total + 1), s)
    let data := toBytes 8 (at_ 32 (faCoord g.rootFa) + g.total) ++ toBytes 8 mem
    sendChorus g p ckJoin kids 0 g.crc.toNat data s

/-- Answer a child's JOIN with JOIN_ACK, which carries the open number of the flow on the child's line (R233, R247). -/
def joinAck (g : Group) (child : Nat) (s : State) : State :=
  let d := (firstDiff s.nDims s.coord child).getD 0
  let o := (g.flows.find? (fun f => f.dim = d)).elim 0 (·.openNum)
  sendChorus g child ckJoinAck 0 0 o [] s

def addChild (g child : Nat) (s : State) : State :=
  updGroup g (fun x => { x with children := if child ∈ x.children then x.children else x.children ++ [child] }) s

/-- Free a group's entry. -/
def dropGroup (g : Nat) (s : State) : State :=
  { s with svc := { s.svc with groups := s.svc.groups.filter (fun x => x.num ≠ g) } }

/-- The CMD_CHORUS_CREATE commands that wait for a group. -/
def isCreateOf (g : Nat) (b : Begun) : Bool := b.opcode == 0x22 && decide (b.obj = (6, g, g))

/-- JOINING fails: JOIN_NAK to waiting children, the entry freed, the creation fails (R234). -/
def joinFail (g : Group) (s : State) : State :=
  let s := g.waiting.foldl (fun s w => sendChorus g w.fa ckJoinNak 0 0 0 [] s) s
  completeWhere (isCreateOf g.num) csPeer 0 0 0 (dropGroup g.num s)

/-- The node enters ACTIVE: waiting children are acknowledged and the creation completes (R233-R235). -/
def joinDone (g : Nat) (s : State) : State :=
  let s := updGroup g (fun x => { x with state := .active, activeAt := s.clk.now }) s
  match s.group? g with
  | none => s
  | some x =>
    let s := x.waiting.foldl (fun s w => joinAck x w.fa (addChild g w.fa s)) s
    let s := updGroup g (fun x => { x with waiting := [] }) s
    completeWhere (isCreateOf g) csOk 0 x.home 0 s

/-! ### Sizes (R237, R240) -/

/-- Element size of a collective: pairs only where OPERATOR is used. -/
def chorusElem (coll oper dtype : Nat) : Nat := if coll = 1 ∨ coll = 5 then dtSize dtype else elemSize oper dtype

/-- Bytes of one block: the whole buffer, or one rank's block. -/
def blockBytes (coll oper dtype count : Nat) : Nat := if coll = 0 then 0 else count * chorusElem coll oper dtype

/-- Chunks of a block: at least one. -/
def blockChunks (bytes : Nat) : Nat := max 1 ((bytes + 4095) / 4096)

/-- Bytes of a member's send buffer (R237). -/
def sendBytes (coll oper dtype count root rank total : Nat) : Nat :=
  let b := blockBytes coll oper dtype count
  match coll with
  | 0 => 0
  | 1 => if rank = root then b else 0
  | 4 => total * b
  | _ => b

/-- Bytes of a member's result buffer (R237). -/
def resultBytes (coll oper dtype count root rank total : Nat) : Nat :=
  let b := blockBytes coll oper dtype count
  match coll with
  | 0 => 0
  | 1 => if rank = root then 0 else b
  | 2 => if rank = root then b else 0
  | 5 => total * b
  | _ => b

/-- The chunks that a member contributes: block and index. Where ROOT is no rank, each member of a BROADCAST does (log 200). -/
def memberChunks (coll oper dtype count root rank total : Nat) : List (Nat × Nat) :=
  let n := blockChunks (blockBytes coll oper dtype count)
  match coll with
  | 1 => if rank = root ∨ total ≤ root then (List.range n).map (fun i => (0, i)) else []
  | 4 => (List.range total).flatMap (fun b => (List.range n).map (fun i => (b, i)))
  | 5 => (List.range n).map (fun i => (rank, i))
  | _ => (List.range n).map (fun i => (0, i))

/-- The result chunks that end an operation: block and index. -/
def resultChunks (coll oper dtype count total : Nat) : List (Nat × Nat) :=
  let n := blockChunks (blockBytes coll oper dtype count)
  if coll = 4 ∨ coll = 5 then (List.range total).flatMap (fun b => (List.range n).map (fun i => (b, i)))
  else (List.range n).map (fun i => (0, i))

/-! ### Loss (R248-R250) -/

/-- The job words of a member's collective. -/
def jobColl (j : Job) : Nat × Nat × Nat × Nat × Nat :=
  (dColl j.ws, dOper j.ws, dDtype j.ws, dLen j.ws, dPeer j.ws)

/-- A member's collective ends with a status; BYTE_COUNT is what was written to its result buffer (R239). -/
def endMember (gn q : Nat) (m : MemberOp) (status : Nat) (s : State) : State :=
  let upd := fun (o : ChorusOp) => { o with members := updAll (fun x => x.jid = m.jid) (fun x => { x with ended := true }) o.members }
  endJobWith m.jid status 0 m.written (updOp gn q upd s)

/-- Every result chunk of an operation that a local member has entered is here, so the operation is committed (R250). -/
def ChorusOp.whole (o : ChorusOp) (total : Nat) : Bool :=
  o.given.elim false (fun x => (resultChunks o.coll o.oper o.dtype x.1 total).all (fun c => o.results.any (fun r => r.block = c.1 && r.idx = c.2)))

/-- Everything that an operation needs of this node has been sent up. -/
def ChorusOp.sentUp (o : ChorusOp) : Bool := o.chunks.all (·.forwarded) && o.members.all (fun m => m.todo.isEmpty)

/-- Results of an operation may still complete it after its group failed: every result chunk is here, so it is committed; or the node is
not the tree root, has sent all its part up and still has its parent, so it does not know whether the root committed it (R249, R250; DESIGN
CHOICE, log 148). -/
def opMayEnd (g : Group) (o : ChorusOp) (lostFa : Nat) (s : State) : Bool :=
  o.whole g.total || !(g.isRoot s || !o.sentUp || decide (g.parent s = some (faCoord lostFa)))

/-- The oldest OPSEQ that is not completed at a node, and operations that no member waits for forgotten (R253): each member's collectives
of a group that failed, up to the next one it takes, are completed. -/
def forgetOps (gn : Nat) (s : State) : State :=
  updGroup gn (fun x =>
    let left := x.ops.filter (fun o => o.members.any (fun m => !m.ended))
    let next := match x.locals.map (fun m => (assoc m.1 x.nextOpseq).getD 0) with
      | [] => (x.ops.map (fun o => o.opseq + 1)).foldl max x.done
      | a :: l => l.foldl min a
    { x with ops := left, done := (left.map (·.opseq)).foldl min next, ahead := [] }) s

/-- A member has every result chunk of its operation. -/
def memberDone (total : Nat) (j : Job) (m : MemberOp) : Bool :=
  let (coll, oper, dtype, count, _) := jobColl j
  (resultChunks coll oper dtype count total).all (fun c => decide (c ∈ m.got))

/-- A member's collective has not ended. -/
def State.memberLive (s : State) (m : MemberOp) : Bool := !m.ended && (s.job? m.jid).elim false (fun j => j.phase != .ended)

/-- An earlier collective of a rank has not ended. -/
def State.earlierLive (s : State) (gn q rank : Nat) : Bool :=
  (s.group? gn).elim false (fun g => g.ops.any (fun p => decide (p.opseq < q) && p.members.any (fun x => x.rank = rank && s.memberLive x)))

/-- A member that has all its results, or gets none, completes once its earlier collectives have (R239, R249). -/
def memberEnds (g : Group) (q : Nat) (s : State) (m : MemberOp) : State :=
  match s.job? m.jid with
  | none => s
  | some j =>
    if !s.memberLive m || s.earlierLive g.num q m.rank || !(m.lost || memberDone g.total j m) then s
    else endMember g.num q m (m.failed.getD (if m.lost then stMemberLost else stOk)) s

/-- Every result chunk of an operation has come down: those up to the last of each block. -/
def ChorusOp.full (o : ChorusOp) (total : Nat) : Bool :=
  let got := o.results.filter (·.down)
  let ends := got.filter (·.lastc)
  decide ((if o.coll = 4 ∨ o.coll = 5 then total else 1) ≤ ends.length)
    && ends.all (fun e => (List.range e.idx).all (fun i => got.any (fun r => r.block = e.block && r.idx = i)))

/-- An operation is completed at a node. Members that are still to attach get its results (R235). -/
def Group.closed (x : Group) (o : ChorusOp) : Bool :=
  o.chunks.isEmpty && decide ((if x.state = .leaving then x.locals.length else x.expectLocal) ≤ o.members.length)
    && o.members.all (·.ended) && o.full x.total

/-- The oldest number not in a list, from one on, and what of the list lies above it. -/
def oldestOpen : Nat → List Nat → Nat → Nat × List Nat
  | 0, l, d => (d, l)
  | n + 1, l, d => if d ∈ l then oldestOpen n (l.filter (· ≠ d)) (d + 1) else (d, l)

/-- Complete the members of a group whose operations are done, each rank in OPSEQ order (R239), and forget operations that no
member and no chunk needs. -/
def chorusEnds (gn : Nat) (s : State) : State :=
  match s.group? gn with
  | none => s
  | some g =>
    let s := g.ops.foldl (fun s o => o.members.foldl (memberEnds g o.opseq) s) s
    if g.state = .failed then forgetOps gn s
    else updGroup gn (fun x =>
      let shut := x.ahead ++ (x.ops.filter x.closed).map (·.opseq)
      let (done, ahead) := oldestOpen shut.length shut x.done
      { x with ops := x.ops.filter (fun o => !x.closed o), done := done, ahead := ahead }) s

/-- No more results are awaited for an operation: its members end, and give nothing further (R249). -/
def loseOp (o : ChorusOp) : ChorusOp := { o with members := o.members.map (fun m => { m with lost := true, todo := [] }) }

/-- The operations of a group that are not committed are lost, and their members end in OPSEQ order (R239, R249, R250). -/
def endMembers (g : Group) (lostFa : Nat) (s : State) : State :=
  chorusEnds g.num (g.ops.foldl
    (fun s o => if o.members.all (·.ended) || opMayEnd g o lostFa s then s else updOp g.num o.opseq loseOp s) s)

/-- How long a node of a group that failed waits for the results of operations that its root may have committed: the time after which the
node above gives up resending a RESULT, once for each level of the tree (DESIGN CHOICE, log 148). -/
def State.resultWait (s : State) : Nat :=
  us (atLeast1 (s.fld .chrCtrl 0 47 32) * (atLeast1 (s.fld .chrCtrl 0 31 24) + 1) * (s.nDims + 1))

/-- At a tick, members of a group that failed whose results have not come in time end with MEMBER_LOST (R249, R250). -/
def groupsGiveUp (s : State) : State :=
  (s.svc.groups.filter (fun g => g.state == .failed && decide (g.failedAt + s.resultWait ≤ s.clk.now))).foldl
    (fun s g => chorusEnds g.num (g.ops.foldl
      (fun s o => if o.members.all (·.ended) || o.whole g.total then s else updOp g.num o.opseq loseOp s) s))
    s

/-- Declare a loss, or take one that a neighbour reports (R248, R249). -/
def chorusLoss (gn cause lostFa : Nat) (fromCoord : Option Nat) (s : State) : State :=
  match s.group? gn with
  | none => s
  | some g =>
    if g.state ≠ .active then s
    else
      let near := (g.parent s).toList ++ g.children
      let s := (near.filter (fun c => some c ≠ fromCoord)).foldl
        (fun s c => sendChorus g c ckLost 0 0 (at_ 61 cause + lostFa % 2 ^ 27) [] s) s
      let s := updGroup gn (fun x => { x with state := .failed, failedAt := s.clk.now }) s
      let s := s.capture .chrErr 0 0 (at_ 60 cause + at_ 48 gn + lostFa % 2 ^ 27)
      let s := report .chrMemberLost 0x0F g.home (at_ 39 cause + at_ 27 gn + lostFa % 2 ^ 27) s
      let eps := (g.locals.map (fun m => faEp m.2.2)).eraseDups
      let s := eps.foldl (fun s ep => endpointEvent ep evChorusLost 0 gn (lostFa % 2 ^ 27) 0 s) s
      endMembers g lostFa s

/-- A member's SQ enters ERROR or DRAINING, or its function is reset: each group it belongs to loses it (R248). -/
def memberQueueLost (qid : Nat) (s : State) : State :=
  s.svc.groups.foldl
    (fun s g => match g.locals.find? (fun m => m.2.1 = qid) with
      | some m => chorusLoss g.num 0 m.2.2 none s
      | none => s)
    s

/-- A send half toward another router's endpoint 0 was abandoned (R234, R248). A group that has failed gets no more results then. -/
def chorusPeerLost (coord cause : Nat) (s : State) : State :=
  s.svc.groups.foldl
    (fun s g =>
      if g.state = .joining ∧ g.parent s = some coord then joinFail g s
      else if g.state = .failed ∧ g.parent s = some coord then endMembers g coord s
      else if g.parent s = some coord ∨ coord ∈ g.children then chorusLoss g.num cause coord none s
      else s)
    s

/-- A queue enters ERROR; its groups lose the member (R73, R248). -/
def moveToError (qid : Nat) (s : State) : State := memberQueueLost qid (enterError qid s)

/-! ### Results (R231, R239, R250, R251) -/

/-- Where a result chunk goes in a member's buffer: offset and bytes to write, none when it has no place there (R237). -/
def resultPlace (j : Job) (rank : Nat) (r : ResultChunk) : Option (Nat × List Byte) :=
  let (coll, oper, dtype, count, root) := jobColl j
  match r.data with
  | none => none
  | some d =>
    match coll with
    | 0 => none
    | 1 => if rank = root then none else some (4096 * r.idx, d)
    | 2 => if rank = root then some (4096 * r.idx, d) else none
    | 4 => if r.block = rank then some (4096 * r.idx, d) else none
    | 5 => some (r.block * blockBytes coll oper dtype count + 4096 * r.idx, d)
    | _ => some (4096 * r.idx, d)

/-- Give one result chunk to one member: write its bytes, or note poison or a fault. A write that waits for a walk, or for the member's
send buffer to be read, is made later. REDUCE gives ROOT the data of a RELAY, and the other ranks a RESULT (R232, R239). -/
def giveResult (g q : Nat) (m : MemberOp) (r : ResultChunk) (s : State) : State :=
  let upd := fun (f : MemberOp → MemberOp) (s : State) =>
    updOp g q (fun o => { o with members := updAll (fun x => x.jid = m.jid) f o.members }) s
  let took := fun (x : MemberOp) => { x with got := (r.block, r.idx) :: x.got }
  match s.job? m.jid with
  | none => s
  | some j =>
    let (coll, _, _, _, root) := jobColl j
    if !m.ready then s
    else if r.poison then
      upd (fun x => { took x with failed := if x.failed.isNone then some stMemberLost else x.failed }) s
    else if coll = 2 ∧ (if m.rank = root then r.data.isNone else !r.down) then s
    else
      match resultPlace j m.rank r with
      | none => upd took s
      | some (off, d) =>
        if m.failed.isSome then upd took s
        else
          match placeLocal m.jid off d true (.job m.jid) s with
          | (none, s) => s
          | (some st, s) =>
            if st = stOk then upd (fun x => { took x with written := x.written + d.length }) s
            else upd (fun x => { took x with failed := some st }) s

/-- Give every result of an operation to every member that has not got it. -/
def giveResults (gn q : Nat) (s : State) : State :=
  match (s.group? gn).bind (·.op? q) with
  | none => s
  | some o =>
    let s := o.members.foldl
      (fun s m => o.results.foldl
        (fun s r =>
          let m' := (((s.group? gn).bind (·.op? q)).bind (fun o => o.members.find? (fun x => x.jid = m.jid))).getD m
          if (r.block, r.idx) ∈ m'.got then s else giveResult gn q m' r s)
        s)
      s
    chorusEnds gn s

/-- Add a result chunk to an operation: what a RESULT without data and a RELAY bring is taken together. -/
def addResult (r : ResultChunk) (o : ChorusOp) : ChorusOp :=
  { o with
    chunks := o.chunks.filter (fun c => !(c.block = r.block && c.idx = r.idx))
    results := match o.results.find? (fun x => x.block = r.block && x.idx = r.idx) with
      | some x => { x with data := x.data.orElse (fun _ => r.data), down := x.down || r.down, poison := x.poison || r.poison }
          :: o.results.filter (fun y => !(y.block = r.block && y.idx = r.idx))
      | none => r :: o.results }

/-- Insert an operation by its OPSEQ. -/
def insertOp (o : ChorusOp) : List ChorusOp → List ChorusOp
  | [] => [o]
  | p :: l => if o.opseq < p.opseq then o :: p :: l else p :: insertOp o l

/-- The operation of an OPSEQ, created by whoever reaches the node first (R238). -/
def ensureOp (g q coll oper dtype root : Nat) (s : State) : State :=
  match (s.group? g).bind (·.op? q) with
  | some _ => s
  | none =>
    let o : ChorusOp := { opseq := q, coll := coll, oper := oper, dtype := dtype, root := root, given := none, last := none, top := 0, asked := [], later := [], chunks := [], results := [], members := [] }
    updGroup g (fun x => { x with ops := insertOp o x.ops }) s

/-- Elements of a chunk of an operation by its COUNT (R240). -/
def chunkElems (o : ChorusOp) (count idx : Nat) : Nat :=
  min 4096 (blockBytes o.coll o.oper o.dtype count - 4096 * idx) / chorusElem o.coll o.oper o.dtype

/-- Number of chunks of a block of an operation by its COUNT. -/
def opChunks (o : ChorusOp) (count : Nat) : Nat := blockChunks (blockBytes o.coll o.oper o.dtype count)

/-- Another contribution of an OPSEQ differs from the operation (R238). Where ROOT names a block, a packet does not tell ROOT. -/
def opDiffers (o : ChorusOp) (coll oper dtype root : Nat) : Bool :=
  !(o.coll = coll && o.oper = oper && o.dtype = dtype && (o.root = root || coll == 4 || coll == 5))

/-- A local member's descriptor differs from what the operation has shown: in a field, or in the elements or the number of its chunks
(R238). -/
def jobDiffers (o : ChorusOp) (j : Job) : Bool :=
  let (coll, oper, dtype, count, root) := jobColl j
  opDiffers o coll oper dtype root || o.given.elim false (fun x => decide (x ≠ (count, root)))
    || o.last.elim false (fun l => decide (l + 1 ≠ opChunks o count)) || decide (opChunks o count < o.top)
    || o.chunks.any (fun c => c.elems.elim false (fun n => decide (n ≠ chunkElems o count c.idx)))

/-- A contribution of a child differs from what the operation has shown: in the number of chunks, or, when it is whole and carries data, in
the elements of its chunk (R238). -/
def chunkDiffers (o : ChorusOp) (c : Chunk) (idx : Nat) (lastc whole : Bool) (elems : Option Nat) : Bool :=
  let n := (o.given.map (fun x => opChunks o x.1 - 1)).orElse (fun _ => o.last)
  let known := (o.given.map (fun x => chunkElems o x.1 idx)).orElse (fun _ => c.elems)
  (lastc && n.elim (decide (idx + 1 < o.top)) (fun l => decide (idx ≠ l)))
    || (!lastc && n.elim false (fun l => decide (l < idx) || (whole && decide (idx = l))))
    || (whole && (match elems, known with
      | some a, some b => decide (a ≠ b)
      | _, _ => false))

/-- Keep what a contribution shows of the number of chunks. -/
def noteLast (idx : Nat) (lastc : Bool) (o : ChorusOp) : ChorusOp :=
  { o with last := if lastc then some idx else o.last, top := max o.top (idx + 1) }

/-! ### Contributions (R231, R240, R252) -/

/-- Merge elements into those of a chunk from an offset on. -/
def mergeElems (oper dt : Nat) : Nat → List Elem → List Elem → List Elem
  | _, vs, [] => vs
  | 0, [], es => es
  | 0, v :: vs, e :: es => combine oper dt v e :: mergeElems oper dt 0 vs es
  | off + 1, [], es => mergeElems oper dt off [] es
  | off + 1, v :: vs, es => v :: mergeElems oper dt off vs es

/-- A chunk without contributions. -/
def chunk0 (gen block idx : Nat) (lastc : Bool) : Chunk :=
  { block := block, idx := idx, lastc := lastc, attempt := 0, upAttempt := 0, from_ := [], part := [], vals := [], bytes := [], elems := none,
    poison := false, forwarded := false, gen := gen }

/-- A chunk is begun under a configuration generation, unless it is there: with the ATTEMPT that its parent has asked for (R252). -/
def ensureChunk (gen block idx : Nat) (lastc : Bool) (o : ChorusOp) : ChorusOp :=
  if o.chunks.any (fun c => c.block = block && c.idx = idx) then o
  else { o with
    chunks := o.chunks ++ [{ chunk0 gen block idx lastc with upAttempt := (assoc (block, idx) o.asked).getD 0 }]
    asked := o.asked.filter (fun x => x.1 ≠ (block, idx)) }

def updChunk (block idx : Nat) (f : Chunk → Chunk) (o : ChorusOp) : ChorusOp :=
  { o with chunks := updAll (fun c => c.block = block && c.idx = idx) f o.chunks }

/-- Add a contribution to a chunk. `gather` takes bytes as they are; `whole` says that the contributor has given all of it. -/
def contribute (o : ChorusOp) (who : Nat) (gather poison whole : Bool) (els : List Elem) (bs : List Byte) (c : Chunk) : Chunk :=
  if who ∈ c.from_ then c
  else
    let off := (assoc who c.part).getD 0
    let c := if poison then { c with poison := true }
      else if gather then { c with bytes := bs }
      else { c with vals := mergeElems o.oper o.dtype off c.vals els }
    let n := if gather then bs.length / chorusElem o.coll o.oper o.dtype else off + els.length
    if whole || poison then { c with elems := if poison then c.elems else c.elems.orElse (fun _ => some n), from_ := who :: c.from_, part := c.part.filter (fun p => p.1 ≠ who) }
    else { c with part := assocSet who (off + els.length) c.part }

/-- CHR_CTRL limits (R240). -/
def State.chunksInFlight (s : State) : Nat := atLeast1 (s.fld .chrCtrl 0 3 0)
def State.opsInFlight (s : State) : Nat := clamp 1 8 (s.fld .chrCtrl 0 7 4)

/-- The bytes of one chunk of a member's send buffer. -/
def chunkBytes (o : ChorusOp) (count : Nat) (m : MemberOp) (c : Nat × Nat) : List Byte :=
  let b := blockBytes o.coll o.oper o.dtype count
  let start := (if o.coll = 4 then c.1 * b else 0) + 4096 * c.2
  (m.data.drop start).take (min 4096 (b - 4096 * c.2))

/-- One member contributes what the limit on chunks in progress lets it (R240, R241). -/
def memberGives (gen : Nat) (limit : Nat) (mj : Nat) : Nat → ChorusOp → ChorusOp
  | 0, o => o
  | fuel + 1, o =>
    match o.members.find? (fun x => x.jid = mj) with
    | none => o
    | some m =>
      match m.todo with
      | [] => o
      | c :: rest =>
        let open_ := o.chunks.any (fun x => x.block = c.1 && x.idx = c.2)
        if !m.ready || (!open_ && decide (limit ≤ o.chunks.length)) then o
        else
          let count := o.given.elim 0 (·.1)
          let bs := chunkBytes o count m c
          let gather := o.coll == 1 || o.coll == 5
          let els := if gather || o.coll == 0 then [] else ownElems o.oper o.dtype (bs.length / elemSize o.oper o.dtype) bs
          let o := ensureChunk gen c.1 c.2 (c.2 + 1 == opChunks o count) o
          let o := updChunk c.1 c.2 (contribute o (2 * m.rank) gather m.sendFailed true els bs) o
          memberGives gen limit mj fuel
            { o with members := updAll (fun x => x.jid = mj) (fun x => { x with todo := rest }) o.members }

/-- Every member of an operation contributes what it can. -/
def membersGive (g q : Nat) (s : State) : State :=
  match (s.group? g).bind (·.op? q) with
  | none => s
  | some o =>
    o.members.foldl (fun s m => updOp g q (memberGives s.cmd.gen s.chunksInFlight m.jid m.todo.length) s) s

/-- The send buffer of a member has been read, or its check or read failed: it contributes (R241). -/
def memberReady (jid : Nat) (failed : Option Nat) (data : List Byte) (s : State) : State :=
  s.svc.groups.foldl
    (fun s g => g.ops.foldl
      (fun s o =>
        if o.members.any (fun m => m.jid = jid) then
          let mark := fun (m : MemberOp) => { m with
            ready := true
            data := data
            failed := if m.failed.isNone then failed else m.failed
            sendFailed := m.sendFailed || failed.isSome }
          let s := updOp g.num o.opseq (fun o => { o with members := updAll (fun m => m.jid = jid) mark o.members }) s
          giveResults g.num o.opseq (membersGive g.num o.opseq s)
        else s)
      s)
    s

/-- A member's part in its operation fails from now on: nothing further is written for it, and what it has not given becomes poison (R143,
R241). -/
def memberFail (jid status : Nat) (s : State) : State :=
  s.svc.groups.foldl
    (fun s g => g.ops.foldl
      (fun s o =>
        if o.members.any (fun m => m.jid = jid) then
          let mark := fun (m : MemberOp) => { m with failed := if m.failed.isNone then some status else m.failed, sendFailed := true }
          let s := updOp g.num o.opseq (fun o => { o with members := updAll (fun m => m.jid = jid) mark o.members }) s
          giveResults g.num o.opseq (membersGive g.num o.opseq s)
        else s)
      s)
    s

/-- Every expected child has joined, and the members of the own router are attached (R235). One that leaves expects none. -/
def Group.complete (g : Group) : Bool :=
  g.state == .leaving || (decide (g.locals.length = g.expectLocal) && decide (g.children.length = g.expectChildren))

/-- Every contribution of a chunk has arrived (R231). A broadcast or gathered block has one contributor; the tree root still waits for
the nodes that have yet to join (R235). A node that leaves waits for nothing: it sends POISON (R236). -/
def chunkReady (g : Group) (root : Bool) (o : ChorusOp) (c : Chunk) : Bool :=
  !c.forwarded &&
    (g.state == .leaving || if o.coll = 1 ∨ o.coll = 5 then !c.from_.isEmpty && (!root || g.complete)
     else
      g.complete && g.locals.all (fun m => decide (2 * m.1 ∈ c.from_)) && g.children.all (fun x => decide (2 * x + 1 ∈ c.from_)))

/-! ### Sending chunks and results (R231, R232, R245, R247, R251) -/

/-- FORM of a chunk toward the parent (R245, R247). -/
def chunkForm (o : ChorusOp) (poison : Bool) : Nat :=
  if poison then 3 else if o.coll = 5 ∨ o.coll = 1 then 2 else if o.coll ≠ 0 ∧ o.oper = 0 ∧ isFloat o.dtype then 1 else 0

/-- Form and packets of a chunk's payload toward the parent: FORM, then ELEMS and bytes of each packet (R245). -/
def partialPackets (o : ChorusOp) (c : Chunk) : Nat × List (Nat × List Byte) :=
  let form := chunkForm o c.poison
  (form, match form with
    | 3 => [(0, [])]
    | 2 => [(c.bytes.length / dtSize o.dtype, c.bytes)]
    | 1 => if c.vals.isEmpty then [(0, [])] else slicePackets o.dtype c.vals
    | _ => [(c.vals.length, c.vals.flatMap (elemBytes o.oper o.dtype))])

/-- The data of a result chunk. -/
def resultData (o : ChorusOp) (c : Chunk) : List Byte :=
  if o.coll = 5 ∨ o.coll = 1 then c.bytes else c.vals.flatMap (elemBytes o.oper o.dtype)

/-- The ROOT field of a packet of a chunk: the rank whose block it is where a collective has blocks (R247, log 30). -/
def rootField (o : ChorusOp) (block : Nat) : Nat := if o.coll = 4 ∨ o.coll = 5 then block else o.root

/-- Send the packets of a chunk; LASTC is set on the last of them only (log 30). -/
def sendChunk (g : Group) (o : ChorusOp) (c : Chunk) (kind dest : Nat) (s : State) : State :=
  let (form, ps) := partialPackets o c
  let n := ps.length
  ps.zipIdx.foldl
    (fun s (p, i) =>
      sendChorus g dest kind (if kind = ckContrib then c.upAttempt else 0) o.opseq
        (chorusE1 o c.idx (c.lastc && i + 1 == n) p.1 form (rootField o c.block)) p.2 s)
    s

/-- Multicast a RESULT to the children on each line, highest dimension first, and keep it until each has acknowledged (R231,
R247). -/
def multicastResult (gn : Nat) (o : ChorusOp) (r : ResultChunk) (s : State) : State :=
  match s.group? gn with
  | none => s
  | some g =>
    (List.range s.nDims).reverse.foldl
      (fun s d =>
        let kids := g.children.filter (fun c => firstDiff s.nDims s.coord c = some d)
        match ((s.group? gn).getD g).flows.find? (fun f => f.dim = d) with
        | none => s
        | some f =>
          if kids.isEmpty then s
          else
            let data := if r.poison then [] else r.data.getD []
            let sz := chorusElem o.coll o.oper o.dtype
            let form := if r.poison then 3 else if o.coll = 5 ∨ o.coll = 1 then 2 else 0
            let e1 := chorusE1 o r.idx r.lastc (data.length / sz) form (rootField o r.block)
            let p := { chorusPacket g.pkey (chorusE0 ckResult gn d o.opseq) e1 data with
              src := s.ownFa 0, tc := 2, psn := f.next, srcInc := s.incarnation % 65536, prot := s.protects g.pkey }
            let p := sealPkt [p.src, gn, d, s.incarnation, f.openNum] f.epoch p s
            let keep : ResultLog := { psn := f.next, opseq := o.opseq, pkt := p, epoch := f.epoch, left := kids, sentAt := s.clk.now }
            let f' : McFlow := { f with
              next := f.next + 1
              epoch := if f.next = BitVec.allOnes 32 then (f.epoch + 1) % 2 ^ 32 else f.epoch
              log := f.log ++ [keep] }
            (updGroup gn (fun x => { x with flows := updAll (fun y => y.dim = d) (fun _ => f') x.flows }) s).emit
              (.multicast d kids p))
      s

/-- No flow has more RESULTs outstanding than R247 allows. -/
def Group.flowRoom (g : Group) : Bool := g.flows.all (fun f => decide (f.log.length < 4096))

/-- Pass down the result chunks that wait, oldest first: once every expected child has joined, so that each is named, and while the flows
have room (R231, R235, R247). -/
def downRun (gn : Nat) : Nat → State → State
  | 0, s => s
  | n + 1, s =>
    match s.group? gn with
    | none => s
    | some g =>
      match g.down with
      | [] => s
      | (o, r, _) :: rest =>
        if g.complete && g.flowRoom then downRun gn n (multicastResult gn o r (updGroup gn (fun x => { x with down := rest }) s)) else s

def downGo (gn : Nat) (s : State) : State := downRun gn ((s.group? gn).elim 0 (fun g => g.down.length)) s

/-- A result chunk is to be passed down. -/
def passDown (gn : Nat) (o : ChorusOp) (r : ResultChunk) (s : State) : State :=
  let o := { o with chunks := [], results := [], members := [], later := [] }
  downGo gn (updGroup gn (fun x => { x with down := x.down ++ [(o, r, s.cmd.gen)] }) s)

/-- A result chunk reaches a node: it is passed down, given to local members, and the chunk is no longer in progress (R231). -/
def takeResult (gn : Nat) (o : ChorusOp) (down own : ResultChunk) (s : State) : State :=
  let s := passDown gn o down s
  let s := updOp gn o.opseq (addResult own) s
  giveResults gn o.opseq (membersGive gn o.opseq s)

/-- The router coordinates of a rank, when the member table was read here. -/
def Group.rankRouter (g : Group) (r : Nat) : Option Nat := (assoc r g.ranks)

/-- The reduction of a chunk at a node (CHUNK_REDUCTION, R231, R232, R244, R250, R251). A collective that reaches a node in LEAVING goes on
as POISON (R236). -/
def reduceChunk (gn q block idx : Nat) (s : State) : State :=
  match s.group? gn with
  | none => s
  | some g =>
    match g.op? q with
    | none => s
    | some o =>
      match o.chunks.find? (fun c => c.block = block && c.idx = idx) with
      | none => s
      | some c =>
        let c := { c with poison := c.poison || g.state == .leaving }
        if !chunkReady g (g.isRoot s) o c ∨ g.state = .failed then s
        else if !g.isRoot s then
          let s := updOp gn q (updChunk block idx (fun c => { c with forwarded := true })) s
          match g.parent s with
          | none => s
          | some p =>
            if o.coll = 1 then sendChunk g o c ckRelay (faCoord g.rootFa) s
            else sendChunk g o c ckContrib p s
        else
          let data := resultData o c
          let full : ResultChunk := { block := block, idx := idx, lastc := c.lastc, poison := c.poison, data := some data, down := true }
          if o.coll = 2 then
            let bare : ResultChunk := { full with data := none }
            let here := (g.rankRouter o.root).elim true (fun x => x = s.coord)
            let s := if here || c.poison then s
              else
                let e1 := chorusE1 o idx c.lastc c.vals.length 0 o.root
                sendChorus g ((g.rankRouter o.root).getD 0) ckRelay 0 q e1 data s
            takeResult gn o bare (if here then full else bare) s
          else takeResult gn o full full s

/-! ### A node leaves (R236) -/

/-- A group enters LEAVING: members end the collectives whose results are not all here with MEMBER_LOST, and what they have not given goes
up as POISON (R236). -/
def enterLeaving (gn : Nat) (s : State) : State :=
  let poison := fun (o : ChorusOp) => { o with members := o.members.map (fun m => { m with lost := true, sendFailed := true, ready := true }) }
  let s := updGroup gn (fun x => { x with state := .leaving, ops := x.ops.map (fun o => if o.whole x.total then o else poison o) }) s
  let qs := (s.group? gn).elim [] (fun g => g.ops.map (·.opseq))
  chorusEnds gn (qs.foldl (fun s q => membersGive gn q s) s)

/-- The CMD_CHORUS_DESTROY that waits for a group. -/
def isGroupDestroy (g : Nat) (b : Begun) : Bool := b.opcode == 0x23 && decide (b.obj = (6, g, g))

/-- A node in LEAVING without local members and children sends LEAVE and frees its entry; its destruction completes (R236,
R472). -/
def leaveCheck (gn : Nat) (s : State) : State :=
  match s.group? gn with
  | none => s
  | some g =>
    if g.state = .leaving ∧ g.locals.isEmpty ∧ g.children.isEmpty then
      let s := match g.parent s with
        | some p => sendChorus g p ckLeave 0 0 0 [] s
        | none => s
      completeWhere (isGroupDestroy gn) csOk 0 0 0 (dropGroup gn s)
    else s

/-! ### Chorus packets over transport (R233-R236, R247, R252) -/

/-- A JOIN is delivered (R233-R235). One that reaches a node in FAILED or LEAVING is answered JOIN_NAK (DESIGN CHOICE, log 202). -/
def onJoin (k : PeerKey) (p : Packet) (s : State) : State :=
  let gn := bits p.e0.toNat 59 48
  let kids := bits p.e0.toNat 47 32
  let ws := wordsOf 2 p.data
  let rootFa := bits (wd ws 0) 63 32
  let total := bits (wd ws 0) 31 0
  let child := faCoord k.fa
  let nak := fun s : State =>
    sendOn (chorusPeer child) (.chorus gn) [chorusPacket p.pkey (chorusE0 ckJoinNak gn 0 0) 0 []] s
  match s.group? gn with
  | some g =>
    if g.pkey ≠ p.pkey ∨ g.crc ≠ p.e1 then nak s
    else match g.state with
      | .joining => updGroup gn (fun x => { x with waiting := x.waiting ++ [chorusPeer child] }) s
      | .active => downGo gn (joinAck g child (addChild gn child s))
      | _ => nak s
  | none =>
    if 4096 ≤ s.svc.groups.length then nak s
    else
      let (flows, s) := makeFlows (s.childDims rootFa) s
      let root := (parentOf s.nDims s.coord (faCoord rootFa)).isNone
      let g : Group := { num := gn, pkey := p.pkey, owner := none, treeRoot := none, crc := p.e1, rootFa := rootFa, total := total, state := .joining, home := s.chorusHome, locals := [], ranks := [], expectLocal := bits (wd ws 1) 31 0, children := [], expectChildren := kids, waiting := [chorusPeer child], child := none, named := [], flows := flows, head := BitVec.allOnes 32, headEpoch := 2 ^ 32 - 1, parentOpen := 0, nextOpseq := [], done := 0, ahead := [], down := [], ops := [], activeAt := 0, failedAt := 0 }
      let s := { s with svc := { s.svc with groups := s.svc.groups ++ [g] } }
      if root then joinDone gn s else sendJoin g s

/-- A member contributes to a chunk of an operation. -/
def memberPart (o : ChorusOp) (block : Nat) (m : MemberOp) : Bool :=
  if o.coll = 1 then decide (m.rank = o.root) || m.sendFailed else o.coll != 5 || decide (m.rank = block)

/-- Rebuild a chunk: contributions are taken again, children send theirs again, local members contribute again, and those with a send
buffer read it again first (R252). -/
def rebuildChunk (gn q block idx upAttempt : Nat) (s : State) : State :=
  match s.group? gn with
  | none => s
  | some g =>
    match g.op? q with
    | none => s
    | some o =>
      match o.chunks.find? (fun c => c.block = block && c.idx = idx) with
      | none => s
      | some c =>
        let s := updOp gn q (fun o =>
          let o := updChunk block idx (fun c => { chunk0 s.cmd.gen block idx c.lastc with
            attempt := (c.attempt + 1) % 65536, upAttempt := upAttempt }) o
          { o with members := o.members.map (fun m =>
            if memberPart o block m then
              { m with todo := (block, idx) :: m.todo.filter (· ≠ (block, idx)), ready := m.ready && (m.sendFailed || o.coll == 0), data := [] }
            else m) }) s
        let s := g.children.foldl
          (fun s x => sendChorus g x ckReplay ((c.attempt + 1) % 65536) q
            (chorusE1 o idx c.lastc 0 (chunkForm o false) (rootField o block)) [] s) s
        membersGive gn q s

/-- On resuming, or when a cluster is retired: every chunk not forwarded is rebuilt (R252, R519). -/
def rebuildGroup (gn : Nat) (s : State) : State :=
  match s.group? gn with
  | none => s
  | some g =>
    g.ops.foldl
      (fun s o => (o.chunks.filter (fun c => !c.forwarded)).foldl
        (fun s c => rebuildChunk gn o.opseq c.block c.idx c.upAttempt s) s)
      s

/-- A CONTRIB or RELAY is delivered (R231, R232, R236, R238, R240). -/
def onChunk (k : PeerKey) (p : Packet) (relay : Bool) (s : State) : State :=
  let e0 := p.e0.toNat
  let e1 := p.e1.toNat
  let gn := bits e0 59 48
  let q := s.seqIn gn (bits e0 31 0)
  let coll := bits e1 31 28
  let oper := bits e1 27 24
  let dtype := bits e1 23 20
  let form := bits e1 19 18
  let rt := bits e1 17 0
  let idx := bits e1 63 45
  let lastc := bit e1 44
  let n := bits e1 43 32
  let block := if coll = 4 ∨ coll = 5 then rt else 0
  let child := faCoord k.fa
  match s.group? gn with
  | none => s
  | some g =>
    if g.pkey ≠ p.pkey ∨ (relay && coll == 2 && decide (q < g.done)) ∨ (g.state = .failed ∧ !(relay && coll == 2)) then s
    else
      let s := ensureOp gn q coll oper dtype rt s
      match (s.group? gn).bind (·.op? q) with
      | none => s
      | some o =>
        if opDiffers o coll oper dtype rt then chorusLoss gn 4 child none s
        else if relay && coll == 2 then
          let r : ResultChunk := { block := 0, idx := idx, lastc := lastc, poison := form == 3, data := some p.data, down := false }
          giveResults gn q (updOp gn q (addResult r) s)
        else if !o.chunks.any (fun c => c.block = block && c.idx = idx) ∧ s.chunksInFlight ≤ o.chunks.length then
          updOp gn q (fun o => { o with later := o.later ++ [{ peer := k, pkt := p, relay := relay, gen := s.cmd.gen }] }) s
        else
          let c := (o.chunks.find? (fun c => c.block = block && c.idx = idx)).getD (chunk0 s.cmd.gen block idx lastc)
          let els := if form = 1 then sliceElems n p.data else if form = 0 then formElems oper dtype n p.data else []
          let sofar := n + (assoc (2 * child + 1) c.part).getD 0
          let full := if form = 1 then lastc || decide (4096 / elemSize oper dtype ≤ sofar) else true
          if !relay && c.attempt ≠ bits e0 47 32 then s
          else if g.state = .active ∧ chunkDiffers o c idx lastc full (if form = 3 then none else some sofar) then chorusLoss gn 4 child none s
          else
            updOp gn q (fun o => updChunk block idx (fun c =>
              { contribute o (2 * child + 1) (form == 2) (form == 3) full els p.data c with lastc := c.lastc || lastc })
              (noteLast idx lastc (ensureChunk s.cmd.gen block idx lastc o))) s

/-- Contributions that waited for the limit on chunks in progress are taken, as far as it lets them (R240). -/
def laterGo (gn q : Nat) (s : State) : State :=
  match (s.group? gn).bind (·.op? q) with
  | none => s
  | some o => o.later.foldl (fun s x => asOf x.gen (onChunk x.peer x.pkt x.relay) s) (updOp gn q (fun o => { o with later := [] }) s)

/-- A REPLAY is delivered: a chunk that has been forwarded is rebuilt, any other goes up with the ATTEMPT asked for (R252). -/
def onReplay (p : Packet) (s : State) : State :=
  let e0 := p.e0.toNat
  let e1 := p.e1.toNat
  let gn := bits e0 59 48
  let q := s.seqIn gn (bits e0 31 0)
  let coll := bits e1 31 28
  let block := if coll = 4 ∨ coll = 5 then bits e1 17 0 else 0
  let idx := bits e1 63 45
  let want := bits e0 47 32
  let s := ensureOp gn q coll (bits e1 27 24) (bits e1 23 20) (bits e1 17 0) s
  match (s.group? gn).bind (fun g => (g.op? q).bind (fun o => o.chunks.find? (fun c => c.block = block && c.idx = idx))) with
  | none => updOp gn q (fun o => { o with asked := assocSet (block, idx) want o.asked }) s
  | some c =>
    if c.forwarded then rebuildChunk gn q block idx want s
    else updOp gn q (updChunk block idx (fun c => { c with upAttempt := want })) s

/-- A RESULT_ACK is delivered: RESULTs up to HEAD are acknowledged by that child (R247, R248). -/
def onResultAck (gn dim : Nat) (head : Pos) (child : Nat) (s : State) : State :=
  let covers := fun (r : ResultLog) => decide (dist head r.psn < 2 ^ 31) && decide (child ∈ r.left)
  let settle := fun (r : ResultLog) => if covers r then { r with left := r.left.filter (· ≠ child) } else r
  let ackFlow := fun (f : McFlow) => { f with
    log := (f.log.map settle).filter (fun r => !r.left.isEmpty)
    misses := if f.log.any covers then f.misses.filter (fun x => x.1 ≠ child) else f.misses }
  downGo gn (updGroup gn (fun g => { g with flows := updAll (fun f => f.dim = dim) ackFlow g.flows }) s)

/-- A chorus packet that transport delivers (R247). -/
def onChorus (k : PeerKey) (p : Packet) (s : State) : State :=
  let e0 := p.e0.toNat
  let gn := bits e0 59 48
  let kind := bits e0 63 60
  let c := faCoord k.fa
  if kind = ckJoin then onJoin k p s
  else if kind = ckContrib then onChunk k p false s
  else if kind = ckRelay then onChunk k p true s
  else if kind = ckReplay then onReplay p s
  else if kind = ckResultAck then onResultAck gn (bits e0 47 32) (BitVec.ofNat 32 e0) c s
  else
    match s.group? gn with
    | none => s
    | some g =>
      if g.pkey ≠ p.pkey then s
      else if kind = ckJoinAck then
        if g.state = .joining then downGo gn <| joinDone gn (updGroup gn (fun x => { x with parentOpen := p.e1.toNat }) s) else s
      else if kind = ckJoinNak then (if g.state = .joining then joinFail g s else s)
      else if kind = ckLeave then
        leaveCheck gn (enterLeaving gn (updGroup gn (fun x => { x with children := x.children.filter (· ≠ c) }) s))
      else if kind = ckLost then chorusLoss gn (bits p.e1.toNat 63 61) (bits p.e1.toNat 26 0) (some c) s
      else s

/-! ### Results over the multicast flow (R247) -/

/-- A RESULT arrives on the flow from the parent: taken in PSN order, always answered with RESULT_ACK (R201, R247). -/
def onResult (p : Packet) (s : State) : State :=
  let e0 := p.e0.toNat
  let e1 := p.e1.toNat
  let gn := bits e0 59 48
  let q := s.seqIn gn (bits e0 31 0)
  let coll := bits e1 31 28
  match s.group? gn with
  | none => s
  | some g =>
    match g.parent s with
    | none => s
    | some par =>
      if g.pkey ≠ p.pkey ∨ par ≠ faCoord p.src then s
      else
        let d := dist p.psn g.head
        if 4096 < d ∧ d < 2 ^ 31 then s.count (cntEp 0 9) 1
        else
          let take := decide (d = 1)
          let s := if take then updGroup gn (fun x => { x with
            head := p.psn
            headEpoch := if p.psn = 0 then (x.headEpoch + 1) % 2 ^ 32 else x.headEpoch }) s else s
          let head := if take then p.psn else g.head
          let s := sendChorus g par ckResultAck (bits e0 47 32) head.toNat 0 [] s
          if !take then s
          else
            let s := ensureOp gn q coll (bits e1 27 24) (bits e1 23 20) (bits e1 17 0) s
            match (s.group? gn).bind (·.op? q) with
            | none => s
            | some o =>
              let bare := coll == 0 || coll == 2
              let r : ResultChunk := { block := if coll = 4 ∨ coll = 5 then bits e1 17 0 else 0, idx := bits e1 63 45, lastc := bit e1 44, poison := bits e1 19 18 == 3, data := if bare then none else some p.data, down := true }
              laterGo gn q (takeResult gn o r r s)

/-- The children that a flow resends to count one more resend without an acknowledgement. -/
def addMisses (named : List Nat) (l : List (Nat × Nat)) : List (Nat × Nat) :=
  named.foldl (fun l c => assocSet c ((assoc c l).getD 0 + 1) l) l

/-- Resend the RESULTs of a flow that some children have not acknowledged for RESULT_RETX, and declare the loss of a child that
left RESULT_LIMIT consecutive resends unacknowledged (R247, R248). -/
def resultRetx (gn dim : Nat) (s : State) : State :=
  match (s.group? gn).bind (fun g => g.flows.find? (fun f => f.dim = dim)) with
  | none => s
  | some f =>
    let gap := us (atLeast1 (s.fld .chrCtrl 0 47 32))
    let limit := atLeast1 (s.fld .chrCtrl 0 31 24)
    match f.log with
    | [] => s
    | r :: _ =>
      let s := s.advanceTo (r.sentAt + gap)
      let s := (f.misses.find? (fun x => decide (limit ≤ x.2))).elim s (fun x => chorusLoss gn 3 x.1 none s)
      let due := f.log.filter (fun x => decide (x.sentAt + gap ≤ s.clk.now))
      let s := due.foldl (fun s x =>
        let p := sealPkt [x.pkt.src, gn, dim, s.incarnation, f.openNum] x.epoch { x.pkt with retx := true } s
        if p.prot && s.keyMissing p.pkey then s else s.emit (.multicast dim x.left p)) s
      let again := fun (x : ResultLog) => if x ∈ due then { x with sentAt := s.clk.now } else x
      let logFlow := fun (f : McFlow) => { f with log := f.log.map again, misses := addMisses (due.flatMap (·.left)).eraseDups f.misses }
      updGroup gn (fun g => { g with flows := updAll (fun f => f.dim = dim) logFlow g.flows }) s

/-- Routers that may be children of this node: those on its lines in the dimensions that lead to children (R230). -/
def State.childSpots (s : State) (rootFa : Fa) : List Nat :=
  (s.childDims rootFa).flatMap (fun d =>
    ((List.range (s.fld .rteDims 0 (41 + 6 * d) (36 + 6 * d) + 1)).map (setCoord s.coord d)).filter (· ≠ s.coord))

/-- JOIN_TMO passes with an expected JOIN or the local creation missing (R235, R248). Where the member table was not read here,
which child or which local endpoint is missing is not known: a free value among those that may be (log 3). -/
def joinTimeout (gn : Nat) (s : State) : State :=
  match s.group? gn with
  | none => s
  | some g =>
    if g.state ≠ .active then s
    else if g.children.length < g.expectChildren then
      let s := s.advanceTo (g.activeAt + ms (atLeast1 (s.fld .chrCtrl 0 23 8)))
      match g.named.find? (fun c => !(c ∈ g.children)) with
      | some c => chorusLoss gn 5 c none s
      | none =>
        let (v, s) := s.drawNat
        let spots := (s.childSpots g.rootFa).filter (fun c => !(c ∈ g.children))
        chorusLoss gn 5 ((spots[v % spots.length]?).getD 0) none s
    else if g.locals.length < g.expectLocal then
      let s := s.advanceTo (g.activeAt + ms (atLeast1 (s.fld .chrCtrl 0 23 8)))
      let (v, s) := s.drawNat
      chorusLoss gn 5 (v % 8 * 2 ^ 24 + s.coord) none s
    else s

end Sys2Proof.Machine
end

