-- ==== Sys2Proof/Machine/Match.lean ====
section
/-! DEFINITION. Receives and tag matching: placing messages into receive buffers, posted and unexpected searches, the unexpected
store, rendezvous, cancellation, withdrawal and loss of a context (R89, R101-R132, R585). -/

namespace Sys2Proof.Machine

/-! ### Receive buffers (R89, R148, R157, R585) -/

/-- A receive's own buffer fails: it ends with the status later and places no further byte (R585). -/
def recvFail (jid status : Nat) (s : State) : State := updJob jid (fun j => { j with status := status, late := [] }) s

/-- Place bytes of a message at an offset of a receive job's buffer, which is checked and translated whole before its first byte
(R147, R483). The write of the last byte that is kept goes last, and under STRICT_ORDER all go in increasing order (R157, R158). Bytes
beyond the buffer are discarded. Answers false while a walk is in progress. -/
def recvPlace (jid off len : Nat) (bs : List Byte) (who : Waiter) (s : State) : Bool × State :=
  match s.job? jid with
  | none => (true, s)
  | some j =>
    if j.status ≠ stOk then (true, s)
    else
      match localReady who jid true s with
      | (none, s) => (false, s)
      | (some st, s) =>
        let total := min len j.room
        let part := bs.take (total - off)
        if st ≠ stOk then (true, recvFail jid st s)
        else if part.isEmpty then (true, s)
        else
          match xRun { jobAccess j (s.unitOf j) 1 with passed := ((s.job? jid).getD j).xp.segs } who (xStart (fragSlice j.frags off part.length)) s with
          | (.done, xp, s) =>
            let (n, late, os) := issueHeld j.ep j.mid (s.maxPayload j.mid) s.strictOrder total j.bytes (addHeld { off := off, segs := xp.segs, data := part } j.late)
            (true, updJob jid (fun j => { j with bytes := n, late := late }) (s.emits j.regions os))
          | (.pending, _, s) => (false, s)
          | (.fault, _, s) => (true, recvFail jid stXltFault s)
          | (.refused, _, s) => (true, recvFail jid stProtection s)

/-- The message of a receive job has come whole: it completes, TRUNCATED when the message is longer than the buffer (R89). -/
def recvEnd (jid len : Nat) (s : State) : State :=
  match s.job? jid with
  | none => s
  | some j => endJob jid (if j.status ≠ stOk then j.status else if j.room < len then stTruncated else stOk) s

/-- Write bytes at an offset of stored data. -/
def overlay (old : List Byte) (off : Nat) (bs : List Byte) : List Byte :=
  old.take off ++ List.replicate (off - old.length) 0 ++ bs ++ old.drop (off + bs.length)

/-! ### Contexts and room (R101, R115, R118, R128) -/

def State.ctx? (s : State) (n : Nat) : Option MatchCtx := s.svc.ctxs.find? (fun c => c.num = n)

def updCtx (n : Nat) (f : MatchCtx → MatchCtx) (s : State) : State :=
  { s with svc := { s.svc with ctxs := updAll (fun c => c.num = n) f s.svc.ctxs } }

/-- 256-byte blocks of an unexpected message (R118). -/
def Unexp.blocks (u : Unexp) : Nat := (64 + (if u.rts then u.data.length else u.len) + 255) / 256

def MatchCtx.blocks (c : MatchCtx) : Nat := sumBy Unexp.blocks c.unexp

/-- Entries of a context's lists: one for each posted receive and each unexpected message not yet matched (log 31). -/
def MatchCtx.entries (c : MatchCtx) : Nat := c.posted.length + (c.unexp.filter (fun u => u.claimed.isNone)).length

/-- Entries of a match unit's contexts. -/
def State.unitEntries (s : State) (u : Nat) : Nat := sumBy MatchCtx.entries (s.svc.ctxs.filter (fun c => c.home = u))

/-- Entries of a unit that lie in the overflow area: those beyond its on-chip entries, so that spilled entries come back as soon as it has
room, which the spec leaves open (R115; DESIGN CHOICE, log 134). -/
def State.unitSpilled (s : State) (u : Nat) : Nat := s.unitEntries u - Config.matchEntries

/-- Entries in the overflow area. -/
def State.ovflUsed (s : State) : Nat := sumBy s.unitSpilled (List.range 24)

/-- The match lists of a unit have room for one more entry: on chip, or in the overflow area of 64-byte entries (R115, R128). -/
def State.matchRoom (s : State) (u : Nat) : Bool :=
  decide (s.unitEntries u < Config.matchEntries)
    || decide (s.ovflUsed < 16384 * min 1024 (s.fld .mtcOvflSize 0 10 0))

/-- Blocks of the unexpected store in use. -/
def State.unexpBlocks (s : State) : Nat := sumBy MatchCtx.blocks s.svc.ctxs

/-- An unexpected message of some blocks has room (R118, R128). -/
def State.unexpRoom (s : State) (c : MatchCtx) (blocks : Nat) : Bool :=
  decide (c.blocks + blocks ≤ 4 * c.quota)
    && decide (s.unexpBlocks + blocks ≤ 4096 * min 8192 (s.fld .mtcUnexpSize 0 13 0))
    && s.matchRoom c.home

/-! ### Searches (R105, R107, R112, R113) -/

/-- A message matches a receive (R105). -/
def matches_ (src : Fa) (tag : Word) (r : Posted) : Bool := (r.anySrc || decide (r.src = src)) && (r.anyTag || decide (r.tag = tag))

/-- The oldest posted receive that matches: the lists are in increasing posting sequence (R112). -/
def findPosted (c : MatchCtx) (src : Fa) (tag : Word) : Option Posted := c.posted.find? (matches_ src tag)

/-- The oldest unexpected message that a receive matches (R113). -/
def findUnexp (c : MatchCtx) (r : Posted) : Option Unexp :=
  c.unexp.find? (fun u => u.claimed.isNone && matches_ u.peer.fa u.tag r)

/-! ### Rendezvous (R119-R122) -/

def State.rndv? (s : State) (k : PeerKey) (rts : Pos) : Option Rndv := s.svc.rndvs.find? (fun r => r.peer = k && r.rts = rts)

def updRndv (k : PeerKey) (rts : Pos) (f : Rndv → Rndv) (s : State) : State :=
  { s with svc := { s.svc with rndvs := updAll (fun r => r.peer = k && r.rts = rts) f s.svc.rndvs } }

/-- Answer an RTS with a FIN (R120, R124, R132). -/
def sendFin (k : PeerKey) (rts : Pos) (pkey group status : Nat) (s : State) : State :=
  sendOn k (.rndv rts) [response .fin pkey group rts status []] s

/-- The CMD_MATCH_CONTEXT_DESTROY that waits for a context. -/
def isCtxDestroy (n : Nat) (b : Begun) : Bool := b.opcode == 0x21 && decide (b.obj = (5, n, n))

/-- A context in DRAINING whose last rendezvous has ended is freed, once the eager messages that receives have claimed are whole or lost
(R132; the latter a DESIGN CHOICE, log 179). -/
def ctxDrained (n : Nat) (s : State) : State :=
  match s.ctx? n with
  | none => s
  | some c =>
    if c.state = .draining ∧ c.unexp.isEmpty ∧ !s.svc.rndvs.any (fun r => r.ctx = n) then
      completeWhere (isCtxDestroy n) csOk 0 0 0
        { s with svc := { s.svc with ctxs := s.svc.ctxs.filter (fun c => c.num ≠ n) } }
    else s

/-- RNDV_WINDOW in bytes. -/
def State.rndvWindow (s : State) : Nat := 1024 * clamp 4 1024 (s.fld .mtcCtrl 0 42 32)

/-- Complete a rendezvous whose reads are over: the TRECV's record, then the FIN (R120-R122). -/
def rndvFinish (k : PeerKey) (rts : Pos) (s : State) : State :=
  match s.rndv? k rts with
  | none => s
  | some r =>
    if !r.reads.isEmpty || decide (0 < r.want) then s
    else
      let s := updJob r.jid (fun j => if j.status = stOk then { j with status := r.status } else j) s
      let s := recvEnd r.jid r.len s
      let s := { s with svc := { s.svc with rndvs := s.svc.rndvs.filter (fun x => !(x.peer = k && x.rts = rts)) } }
      ctxDrained r.ctx (sendFin k rts r.pkey r.rtsGroup r.finStatus s)

/-- Issue the reads that RNDV_WINDOW allows: GETs of at most 4,096 bytes, in fragment order (R120). -/
def rndvPump (k : PeerKey) (rts : Pos) : Nat → State → State
  | 0, s => s
  | fuel + 1, s =>
    match s.rndv? k rts with
    | none => s
    | some r =>
      if r.want = 0 then s
      else match r.frags with
      | [] => updRndv k rts (fun r => { r with want := 0 }) s
      | f :: rest =>
        if f.len ≤ r.fragOff then rndvPump k rts fuel (updRndv k rts (fun r => { r with frags := rest, fragOff := 0 }) s)
        else
          let n := min 4096 (min (f.len - r.fragOff) r.want)
          let out := sumBy (fun x => x.len - x.placed) r.reads
          if s.rndvWindow < out + n then s
          else
            let p := { packet0 .get r.pkey r.group true true [] with
              e0 := word (f.addr + r.fragOff), e1 := word (at_ 32 f.key + n) }
            let rd : RndvRead := { psn := none, off := r.off, len := n, placed := 0 }
            let s := updRndv k rts (fun r => { r with
              fragOff := r.fragOff + n
              want := r.want - n
              off := r.off + n
              reads := r.reads ++ [rd] }) s
            rndvPump k rts fuel (sendOn k (.rndv rts) [p] s)

/-- Go on with a rendezvous: the receive buffer is checked and translated whole, then further reads, or its end (R147, R483). A
receive whose buffer fails ends with that status and reads nothing; the FIN carries OK, which R122 states for a translation fault and
leaves open for a key, right, gate or range failure (DESIGN CHOICE, log 135). -/
def rndvGo (k : PeerKey) (rts : Pos) (s : State) : State :=
  match s.rndv? k rts with
  | none => s
  | some r =>
    match (if r.status = stOk then localReady (.job r.jid) r.jid true s else (some stOk, s)) with
    | (none, s) => s
    | (some st, s) =>
      let s := if st = stOk then s else updRndv k rts (fun r => { r with status := st, want := 0 }) s
      rndvFinish k rts (rndvPump k rts (2 * (r.frags.length + r.want / 4096) + 2) s)

/-- A matched RTS starts its rendezvous (R120, R121). -/
def rndvStart (k : PeerKey) (rts : Pos) (ctx jid len : Nat) (list : List Byte) (pkey rtsGroup : Nat) (s : State) : State :=
  match s.job? jid with
  | none => s
  | some j =>
    let frags := (splitEnd (fragsOf (wordsOf (list.length / 8) list))).elim [] (·.1)
    let r : Rndv := { peer := k, rts := rts, ctx := ctx, jid := jid, len := len, frags := frags, fragOff := 0, want := min len j.room, off := 0, reads := [], placed := 0, status := stOk, finStatus := stOk, pkey := pkey, group := j.group, rtsGroup := rtsGroup }
    rndvGo k rts { s with svc := { s.svc with rndvs := s.svc.rndvs ++ [r] } }

/-- The rendezvous read that a response answers. -/
def State.rndvOf (s : State) (k : PeerKey) (req : Pos) : Option Rndv :=
  s.svc.rndvs.find? (fun r => r.peer = k && r.reads.any (fun x => x.psn = some req))

/-- Bytes of a rendezvous read arrive: they are placed in the receive buffer. Answers false while a walk is in progress. -/
def rndvData (k : PeerKey) (req : Pos) (off : Nat) (bs : List Byte) (who : Waiter) (s : State) : Bool × State :=
  match s.rndvOf k req with
  | none => (true, s)
  | some r =>
    match r.reads.find? (fun x => x.psn = some req) with
    | none => (true, s)
    | some rd =>
      match recvPlace r.jid (rd.off + off) r.len bs who s with
      | (false, s) => (false, s)
      | (true, s) =>
        let bad := (s.job? r.jid).elim stOk (·.status)
        (true, updRndv k r.rts (fun r => { r with
          status := if r.status = stOk then bad else r.status
          want := if bad = stOk then r.want else 0
          placed := r.placed + bs.length
          reads := updAll (fun x => x.psn = some req) (fun x => { x with placed := x.placed + bs.length }) r.reads }) s)

/-- A read of a rendezvous has ended with a status: a failed one stops further reads and gives both statuses (R122), and the refusal period
of its packet is over (R214). -/
def rndvReadEnd (k : PeerKey) (req : Pos) (status : Nat) (s : State) : State :=
  match s.rndvOf k req with
  | none => s
  | some r =>
    let ended := fun (o : OutPkt) => { o with refusedAt := none, backoff := 0 }
    let s := updSend k (fun h => { h with out := updAll (fun o => o.pkt.psn = req) ended h.out }) s
    rndvGo k r.rts (updRndv k r.rts (fun r => { r with
      reads := r.reads.filter (fun x => x.psn ≠ some req)
      status := if r.status = stOk then status else r.status
      finStatus := if r.finStatus = stOk then status else r.finStatus
      want := if status = stOk then r.want else 0 }) s)

/-! ### Loss of a context (R129, R130) -/

/-- A context overflowed: fault, capture, ERROR, event, and every posted receive ends with QUEUE_ERROR (R129). -/
def ctxToError (n : Nat) (s : State) : State :=
  match s.ctx? n with
  | none => s
  | some c =>
    let s := s.capture .mtcErrCtx 0 0 n
    let s := report .mtcOverflow 0x0C c.home n s
    let s := updCtx n (fun c => { c with state := .error, posted := [], refusedAt := none }) s
    let ev : Event := { kind := evQueueError, qid := 0, subject := 0, data0 := 5, data1 := word n, time := s.dtimeNs }
    let s := if s.epUp then eqPut c.eq ev s else s
    c.posted.foldl (fun s r => endJob r.jid stQueueError s) s

/-! ### Posts (R103, R113, R118, R126, R130) -/

/-- What a matched receive's record carries of the message (R125). -/
def recvMatched (jid : Nat) (src : Fa) (tag : Word) (imm : Option (BitVec 32)) (sol : Bool) (s : State) : State :=
  (updJob jid (fun j => { j with peerFa := src, data := tag, imm := imm, solicited := sol, phase := .waiting }) s)

/-- Copy a whole unexpected message that a receive claimed into its buffer and free its blocks (R118). Nothing happens while its
last packet has not come, or a walk is in progress. -/
def copyUnexp (jid : Nat) (s : State) : State :=
  match s.svc.ctxs.find? (fun c => c.unexp.any (fun u => u.claimed = some jid)) with
  | none => s
  | some c =>
    match c.unexp.find? (fun u => u.claimed = some jid) with
    | none => s
    | some u =>
      if !u.whole then s
      else
        match recvPlace jid 0 u.len u.data (.job jid) s with
        | (false, s) => s
        | (true, s) =>
          let s := updCtx c.num (fun c => { c with unexp := c.unexp.filter (fun u => u.claimed ≠ some jid) }) s
          ctxDrained c.num (recvEnd jid u.len s)

/-- A TRECV reaches its match unit (R103, R113, R130). One that finds no room takes no value of the posting sequence (R107; DESIGN
CHOICE, log 133). -/
def mtcPost (jid : Nat) (s : State) : State :=
  match s.job? jid with
  | none => s
  | some j =>
    match s.ctx? (dCtx j.ws) with
    | none => endJob jid stProtection s
    | some c =>
      if c.state ≠ .active ∨ c.ep ≠ j.ep then endJob jid stProtection s
      else
        let r : Posted := { seq := c.nextSeq, jid := jid, qid := j.qid, wrId := dWrId j.ws, src := dPeer j.ws, tag := word (dW4 j.ws), anySrc := dAnySource j.ws, anyTag := dAnyTag j.ws }
        let next := fun (c : MatchCtx) => { c with nextSeq := c.nextSeq + 1 }
        match findUnexp c r with
        | some u =>
          let s := recvMatched jid u.peer.fa u.tag u.imm u.solicited (s.count (cntEp c.ep 14) 1)
          if u.rts then
            let s := updCtx c.num (fun c => { next c with unexp := c.unexp.filter (fun x => x.seq ≠ u.seq) }) s
            rndvStart u.peer u.psn c.num jid u.len u.data u.pkey u.group s
          else
            copyUnexp jid (updCtx c.num (fun c => { next c with
              unexp := updAll (fun x => x.seq = u.seq) (fun x => { x with claimed := some jid }) c.unexp }) s)
        | none =>
          if s.matchRoom c.home then
            updCtx c.num (fun c => { next c with posted := c.posted ++ [r] }) (updJob jid (fun j => { j with phase := .waiting }) s)
          else endJob jid stQueueError (ctxToError c.num s)

/-- A TCANCEL reaches its match unit (R103, R126). Of several posted receives with its WR_ID the oldest goes (DESIGN CHOICE, log 136). -/
def mtcCancel (jid : Nat) (s : State) : State :=
  match s.job? jid with
  | none => s
  | some j =>
    match s.ctx? (dCtx j.ws) with
    | none => endJob jid stProtection s
    | some c =>
      if c.state ≠ .active ∨ c.ep ≠ j.ep then endJob jid stProtection s
      else
        match c.posted.find? (fun r => r.qid = j.qid && r.wrId = dW4 j.ws) with
        | none => endJobWith jid stOk 0 0 s
        | some r =>
          let s := updCtx c.num (fun c => { c with posted := c.posted.filter (fun x => x.seq ≠ r.seq) }) s
          endJobWith jid stOk 1 0 (endJob r.jid stCanceled s)

/-! ### Arrivals (R112, R117, R118, R128, R131) -/

/-- What a consumer answers when transport asks for admission of a packet (R203). -/
inductive Adm where
  | take                       -- admitted
  | refuse (status : Nat)      -- admitted, and answered by STATUS
  | notNow (reason : Nat)
  | wait                       -- a translation or a read is in progress
  deriving DecidableEq, Repr

/-- The refusal of a tagged message by its context, or OK (R129, R131). -/
def State.ctxRefusal (s : State) (k : PeerKey) (p : Packet) : Nat :=
  match s.ctx? (p.aux % 65536) with
  | none => stProtection
  | some c =>
    if c.state = .draining ∨ c.ep ≠ k.ep ∨ c.pkey ≠ p.pkey then stProtection
    else if c.state = .error then stQueueError
    else stOk

/-- A tagged message reaches its match unit: it matches the oldest suitable receive, or is stored, or finds no room (R112, R117,
R118, R128). The answer gives the job of the receive it matched. An arrival refused for lack of room takes no value of the posting
sequence (R107; DESIGN CHOICE, log 133). A store that a gate refuses puts the context into ERROR (R485, R515). -/
def tsendSearch (k : PeerKey) (p : Packet) (last : Pos) (s : State) : Option (Option Nat) × State :=
  match s.ctx? (p.aux % 65536) with
  | none => (some none, s)
  | some c =>
    let tag := p.e0
    let len := bits p.e1.toNat 30 0
    let imm : Option (BitVec 32) := if p.immValid then some (BitVec.ofNat 32 (bits p.e1.toNat 63 32)) else none
    match findPosted c k.fa tag with
    | some r =>
      let s := updCtx c.num (fun c => { c with
        nextSeq := c.nextSeq + 1
        refusedAt := none
        posted := c.posted.filter (fun x => x.seq ≠ r.seq) }) s
      let s := recvMatched r.jid k.fa tag imm p.solicited (s.count (cntEp c.ep 14) 1)
      (some (some r.jid), s)
    | none =>
      let u : Unexp := { seq := c.nextSeq, peer := k, psn := p.psn, last := last, tag := tag, rts := p.kind, len := len, imm := imm, solicited := p.solicited, pkey := p.pkey, group := p.group, data := [], whole := p.kind, claimed := none }
      let u := { u with data := if p.kind then p.data else [] }
      if s.unexpRoom c u.blocks then
        match hbmRefusal 0x8A4 1 (max 64 len) (some c.pkey) s with
        | (some _, s) => (none, ctxToError c.num s)
        | (none, s) =>
        let s := updCtx c.num (fun c => { c with nextSeq := c.nextSeq + 1, refusedAt := none, unexp := c.unexp ++ [u] }) s
        (some none, s.count (cntEp c.ep 13) 1)
      else
        (none, updCtx c.num (fun c => { c with refusedAt := if c.refusedAt.isNone then some s.clk.now else c.refusedAt }) s)

/-- Store bytes of an unexpected eager message; its last packet makes it whole, and a receive that claimed it gets it (R118). -/
def unexpData (k : PeerKey) (first : Pos) (off : Nat) (bs : List Byte) (last : Bool) (s : State) : State :=
  match s.svc.ctxs.find? (fun c => c.unexp.any (fun u => u.peer = k && u.psn = first && !u.rts)) with
  | none => s
  | some c =>
    let s := updCtx c.num (fun c => { c with
      unexp := updAll (fun u => u.peer = k && u.psn = first && !u.rts)
        (fun u => { u with data := overlay u.data off bs, whole := u.whole || last }) c.unexp }) s
    match (c.unexp.find? (fun u => u.peer = k && u.psn = first && !u.rts)).bind (·.claimed) with
    | some jid => copyUnexp jid s
    | none => s

/-- A WITHDRAW is delivered: an unmatched RTS is removed and its TSEND ends with CANCELED (R124). -/
def withdrawTarget (k : PeerKey) (p : Packet) (s : State) : State :=
  let rts : Pos := BitVec.ofNat 32 p.e0.toNat
  match s.svc.ctxs.find? (fun c => c.unexp.any (fun u => u.peer = k && u.psn = rts && u.rts)) with
  | none => s
  | some c =>
    match c.unexp.find? (fun u => u.peer = k && u.psn = rts && u.rts) with
    | none => s
    | some u =>
      sendFin k rts u.pkey u.group stCanceled
        (updCtx c.num (fun c => { c with unexp := c.unexp.filter (fun x => x.seq ≠ u.seq) }) s)

/-! ### The sender (R116, R119, R124) -/

/-- EAGER_MAX of this device. -/
def State.eagerMax (s : State) : Nat := min 16384 (s.fld .mtcCtrl 0 14 0)

/-- An entry is a TSEND that travels as an RTS, under the configuration set in force (R116). -/
def State.rtsChoice (s : State) (ws : List Word) : Bool := dOp ws == opTsend && !dInline ws && decide (s.eagerMax < dLen ws)

def Job.peer (j : Job) : PeerKey := { ep := j.ep, fa := j.peerFa, tc := j.tc }

/-- The rendezvous TSENDs of a queue that drains or is reset: one whose RTS has not been sent sends none and ends with CANCELED, the
others are withdrawn (R124). -/
def withdrawRts (qid : Nat) (s : State) : State :=
  ((s.liveJobs qid).filter (·.rts)).foldl
    (fun s j =>
      match (if s.unsent j.peer (.job j.jid) then none else j.psnFirst) with
      | none => endJob j.jid stCanceled (unqueue j.peer (.job j.jid) s)
      | some psn =>
        sendOn j.peer .withdraw [{ packet0 .withdraw j.pkey j.group true true [] with e0 := word psn.toNat }] s)
    s

end Sys2Proof.Machine
end

