-- ==== Sys2Proof/Machine/Abandon.lean ====
section
/-! DEFINITION. Abandoned flows: which operations end with which status, the fault and the event, the restart of the flow
(R192, R210, R219, R248, R263). -/

namespace Sys2Proof.Machine

/-- Opcodes whose jobs send packets on the half toward PEER_FA. -/
def senderOp (op : Nat) : Bool :=
  op == opSend || op == opTsend || op == opPut || op == opGet || op == opAtomic || op == opLockAcquire || op == opLockRelease

/-- Jobs that have handed packets to a send half and have not ended. -/
def State.halfJobs (s : State) (k : PeerKey) : List Job :=
  s.qmg.jobs.filter (fun j => j.phase == .sent && senderOp j.recOp && decide (j.peer = k))

/-- Capture the first abandonment in TRN_ERR (R219). -/
def captureTrn (k : PeerKey) (cause : Nat) (s : State) : State :=
  s.capture .trnErr 0 0 (at_ 60 cause + at_ 57 k.ep + at_ 55 k.tc + at_ 27 (k.fa % 2 ^ 27))

/-- Address field of a transport fault (R507). -/
def peerFault (k : PeerKey) : Nat := k.fa % 2 ^ 27 + at_ 27 k.tc

/-- Advance the next PSN of a half by 2^30 (R219). The epoch counts a wrap (R200). -/
def jumpPsn (h : SendHalf) : SendHalf :=
  { h with
    nextPsn := h.nextPsn + BitVec.ofNat 32 (2 ^ 30)
    epoch := if h.nextPsn.toNat + 2 ^ 30 < 2 ^ 32 then h.epoch else (h.epoch + 1) % 2 ^ 32 }

/-- Open the half again when work waits on it (R219). -/
def reopen (k : PeerKey) (s : State) : State :=
  match (s.peer? k).bind (·.send) with
  | none => s
  | some h => if h.queue.isEmpty then s else openHalf k s

/-- End an operation's job with the status of an abandonment (R219). The record of an acquire that may have reached its lock stays, since
the lock may be granted yet and is released only then (R265); `lost` says which acquires cannot have. One whose key has gone ends with
PROTECTION (R493). -/
def endAbandoned (status : Nat) (lost : Job → Bool) (s : State) (j : Job) : State :=
  let s := endJob j.jid (if j.status = stProtection then stProtection else status) s
  if j.recOp = opLockAcquire ∧ lost j then dropLockRec j.jid s else s

/-- Write PEER_RESTARTED once for a change of incarnation (R160). -/
def tellRestart (k : PeerKey) (s : State) : State :=
  if (s.peer? k).elim false (·.toldRestart) then s
  else
    endpointEvent k.ep evPeerRestarted 0 (k.fa % 2 ^ 27) k.tc k.fa (updPeer k (fun p => { p with toldRestart := true }) s)

/-- The fault and the event of an abandonment: cause 0 RETRY_EXCEEDED, 1 PEER_RESTARTED, 2 PEER_UNREACHABLE (R219). -/
def abandonReport (k : PeerKey) (cause : Nat) (s : State) : State :=
  match cause with
  | 0 => report .trnRetryExceeded 0x0E k.ep (peerFault k) s
  | 1 => tellRestart k (report .trnPeerRestart 0x0E k.ep (peerFault k) s)
  | _ => endpointEvent k.ep evPeerUnreachable 0 (k.fa % 2 ^ 27) k.tc k.fa (report .rteNoRoute 0x0E k.ep (k.fa % 2 ^ 27) s)

/-- The status of an abandonment cause. -/
def abandonStatus (cause : Nat) : Nat :=
  if cause = 0 then stRetryExceeded else if cause = 1 then stPeerRestarted else if cause = 2 then stPeerUnreachable else stDeviceHalted

/-- End the rendezvous reads toward a peer but those that are to go on (R122). -/
def abandonReads (k : PeerKey) (status : Nat) (goOn : RndvRead → Bool) (s : State) : State :=
  (s.svc.rndvs.filter (fun r => r.peer = k)).foldl
    (fun s r =>
      if r.reads.all goOn then s
      else
        rndvGo k r.rts (updRndv k r.rts (fun r => { r with
          reads := r.reads.filter goOn
          status := if r.status = stOk then status else r.status
          finStatus := if r.finStatus = stOk then status else r.finStatus
          want := 0 }) s))
    s

/-- A queued packet is a given read of a rendezvous. -/
def isRead (psn : Option Pos) (o : OutPkt) : Bool := match o.op with
  | .rndv _ => decide (some o.pkt.psn = psn)
  | _ => false

/-- Chorus groups lose the router toward which a half of theirs is abandoned (R248). -/
def chorusHalfLost (k : PeerKey) (cause : Nat) (s : State) : State :=
  if k.ep = 0 ∧ faEp k.fa = 0 ∧ k.tc = 2 then chorusPeerLost (faCoord k.fa) (if cause = 1 then 1 else 2) s else s

/-- Abandon a send half: RETRY_EXCEEDED and PEER_UNREACHABLE end every outstanding and waiting operation, PEER_RESTARTED those
with a packet sent, while the others take new PSNs (R219). Chorus groups and locks take their share (R248, R263). -/
def abandon (k : PeerKey) (cause : Nat) (s : State) : State :=
  match (s.peer? k).bind (·.send) with
  | none => s
  | some h =>
    let sentOnly := decide (cause = 1)
    let status := abandonStatus cause
    let left := if sentOnly then h.queue.dropWhile (fun o => !o.pkt.first) else []
    let dead := (s.halfJobs k).filter (fun j => !left.any (fun o => decide (o.op = .job j.jid)))
    let s := updSend k (fun h => { jumpPsn h with
      state := .closed
      out := []
      queue := []
      timeouts := 0
      timerAt := none
      noRoute := none
      haltHead := none }) s
    let s := abandonReport k cause (captureTrn k cause s)
    let lost := fun (j : Job) => sentOnly || j.psnFirst.isNone || h.queue.any (fun o => decide (o.op = .job j.jid))
    let s := dead.foldl (endAbandoned status lost) s
    let s := lockGone k (fun _ => true) s
    let s := requeue k left [] (abandonReads k status (fun x => left.any (isRead x.psn)) s)
    let s := if cause = 1 then holdersRestarted k.fa s else s
    reopen k (chorusHalfLost k cause s)

/-- OPENING lasted TRN_RETRY.UNREACH_TMO: the operations that wait for the flow end with PEER_UNREACHABLE, and the half is CLOSED; an acquire
that has been delivered waits for its lock (R192, R265). -/
def openFailed (k : PeerKey) (s : State) : State :=
  let queued := ((s.peer? k).bind (·.send)).elim [] (·.queue)
  let waits := (s.halfJobs k).filter (fun j => j.psnFirst.isNone || queued.any (fun o => decide (o.op = .job j.jid)))
  let s := updSend k (fun h => { h with state := .closed, queue := [], timerAt := none, openHold := false }) s
  let s := endpointEvent k.ep evPeerUnreachable 0 (k.fa % 2 ^ 27) k.tc k.fa s
  let s := waits.foldl (endAbandoned stPeerUnreachable (fun _ => true)) s
  let s := abandonReads k stPeerUnreachable (fun _ => false) s
  chorusHalfLost k 2 s

/-! ### A halted peer (R210, R219) -/

/-- A PSN lies above HEAD. -/
def aboveHead (psn head : Pos) : Bool := decide (dist psn head ≠ 0) && decide (dist psn head < 2 ^ 31)

/-- The FIRST PSN of the operation a packet belongs to, as far as it is not acknowledged. -/
def opFirst (out : List OutPkt) (o : OutPkt) : Option Pos :=
  if o.pkt.first then some o.pkt.psn else (out.find? (fun x => decide (x.op = o.op) && x.pkt.first)).map (·.pkt.psn)

/-- A packet's operation was not delivered at the halted target. -/
def goneAt (out : List OutPkt) (head : Pos) (o : OutPkt) : Bool := (opFirst out o).elim false (fun p => aboveHead p head)

/-- Packets above HEAD that carry no operation of a descriptor or rendezvous read: they continue on the new flow (log 32). -/
def survives (o : OutPkt) : Bool :=
  match o.op with
  | .job _ => false
  | .rndv _ => decide (o.pkt.ptype = PType.fin.code)
  | _ => true

/-- The flow toward a halted target is reopened once no operation that may have been delivered remains (R219). -/
def haltCheck (k : PeerKey) (s : State) : State :=
  match (s.peer? k).bind (·.send) with
  | none => s
  | some h =>
    if h.haltHead.isSome ∧ h.out.isEmpty ∧ !h.queue.any h.mayGo
        ∧ !(s.halfJobs k).any (fun j => j.psnFirst.elim false (fun p => aboveHead h.initPsn p)) then
      reopen k (updSend k (fun h => { h with haltHead := none, state := .closed, timerAt := none, timeouts := 0 }) s)
    else s

/-- A REFUSE with DEVICE_HALTED arrived (R210, R219). -/
def refused (k : PeerKey) (head : Pos) (s : State) : State :=
  match (s.peer? k).bind (·.send) with
  | none => s
  | some h =>
    if h.haltHead.isSome ∨ h.state ≠ .opened then s
    else
      let all := h.out ++ h.queue
      let kept := fun (o : OutPkt) => !goneAt all head o
      let gone := all.filter (goneAt all head)
      let dead := (s.halfJobs k).filter (fun j => j.psnFirst.elim false (fun p => aboveHead p head))
      let reads := gone.filter (fun o => !survives o && match o.op with
        | .rndv _ => true
        | _ => false)
      let s := updSend k (fun h =>
        let h := jumpPsn h
        { h with out := h.out.filter kept, queue := h.queue.filter kept, haltHead := some head, initPsn := h.nextPsn }) s
      let s := captureTrn k 3 (requeue k (gone.filter survives) [] s)
      let s := dead.foldl (endAbandoned stDeviceHalted (fun _ => true)) s
      let s := reads.foldl (fun s o => rndvReadEnd k o.pkt.psn stDeviceHalted s) s
      haltCheck k s

end Sys2Proof.Machine
end

