-- ==== Sys2Proof/Machine/Accept.lean ====
section
/-! DEFINITION. Jobs at the head of a ring: what stands there, what acceptance needs and does (R49-R55, R70, R83-R86, R215, R265,
R587). -/

namespace Sys2Proof.Machine

/-- What stands at the head of the entries that prefetch took. -/
inductive Head where
  | none                                                       -- nothing, or a chain that is not whole (R49)
  | bad (ws : List Word) (pos : Pos)                           -- a malformed entry or chain (R71, R587)
  | fail (pos : Pos)                                           -- an entry whose read failed (R399)
  | job (ws : List Word) (conts : List (List Word)) (n : Nat)  -- a job of n entries
  deriving DecidableEq, Repr

/-- Follow the CONT entries of a chain: at most 63 of them (R50, R84, R587). -/
def chainHead (first : Entry) : Nat → List Entry → List (List Word) → Head
  | 0, _, _ => .bad first.ws first.pos
  | _ + 1, [], _ => .none
  | fuel + 1, e :: l, conts =>
    if e.ws = [] then .fail e.pos
    else if contMalformed (dWrId first.ws) e.ws then .bad first.ws first.pos
    else
      let conts := conts ++ [e.ws]
      if dLast e.ws then
        (if (chainFrags first.ws conts).isNone then .bad first.ws first.pos else .job first.ws conts (conts.length + 1))
      else chainHead first fuel l conts

/-- The head of a ring (R49, R70, R84-R86). -/
def headOf (srq chain : Bool) : List Entry → Head
  | [] => .none
  | e :: l =>
    if e.ws = [] then .fail e.pos
    else if firstMalformed srq chain e.ws then .bad e.ws e.pos
    else if dLast e.ws then .job e.ws [] 1
    else if !opFragments (dOp e.ws) then .bad e.ws e.pos
    else chainHead e 63 l []

/-- Local fragments that a job's entries name; a table's are read later (R81-R84). -/
def jobFrags (ws : List Word) (conts : List (List Word)) : List Frag :=
  let op := dOp ws
  if !conts.isEmpty then (chainFrags ws conts).getD []
  else if dInline ws ∨ dFtab ws then []
  else if opFragments op then [{ addr := dLaddr ws, key := dLkey ws, fin := true, len := dLen ws }]
  else if op = opAtomic ∧ dWidthCode ws = 1 then [{ addr := dLaddr ws, key := dLkey ws, fin := true, len := 32 }]
  else []

/-- The data targets in the ring's address space that an entry names by itself. `total` are the members of the group that a CHORUS names,
and `rank` is that of the queue, where it is a member: the member has the result buffer that its collective gives it (R70, R237). -/
def dataTargets (total : Nat) (rank : Option Nat) (ws : List Word) (conts : List (List Word)) : List (Nat × Nat) :=
  let op := dOp ws
  if op = opGet ∨ op = opRecv ∨ op = opTrecv then (jobFrags ws conts).map (fun f => (f.addr, f.len))
  else if op = opAtomic ∧ dWidthCode ws = 1 then [(dLaddr ws, 16)]
  else if op = opChorus then
    [(dW4 ws, rank.elim (blockBytes (dColl ws) (dOper ws) (dDtype ws) (dLen ws))
      (fun r => resultBytes (dColl ws) (dOper ws) (dDtype ws) (dLen ws) (dPeer ws) r total))]
  else []

/-- Members of a group, as far as it is known here. -/
def State.groupTotal (s : State) (g : Nat) : Nat := (s.group? g).elim 1 (·.total)

/-- The rank of a queue in a group of which it is a member here. -/
def State.rankOf (s : State) (g qid : Nat) : Option Nat := ((s.group? g).bind (fun x => x.locals.find? (fun m => m.2.1 = qid))).map (·.1)

/-- An entry names its own queue's ring as a data target (R70). A buffer of no bytes names none, wherever its address lies (DESIGN CHOICE,
log 194). -/
def State.targetsRing (s : State) (q : Queue) (ws : List Word) (conts : List (List Word)) : Bool :=
  (dataTargets (s.groupTotal (dGroup ws)) (s.rankOf (dGroup ws) q.qid) ws conts).any (fun e =>
    decide (e.2 ≠ 0) && decide (e.1 < q.attr.base + 64 * q.size) && decide (q.attr.base < e.1 + e.2))

/-- The Ethernet service port whose TX_QID names an SQ (R361). -/
def State.txPort (s : State) (qid : Nat) : Option Nat :=
  (List.range 128).find? (fun p => s.ethPort p && decide (s.fldI .llrEthCtrl p 0 51 32 = qid))

/-- A SEND on a service port's SQ is malformed: TQID is not 0x8 plus a priority, or IMM is set (R361). -/
def State.txBad (s : State) (q : Queue) (ws : List Word) : Bool :=
  dOp ws == opSend && (s.txPort q.qid).isSome && (decide (dTqid ws / 8 ≠ 1) || dImm ws)

/-- The head of an SQ or SRQ. -/
def State.head (s : State) (q : Queue) : Head :=
  match headOf (q.kind == .srq) q.attr.chain q.fetch.taken with
  | .job ws conts n =>
    if s.targetsRing q ws conts || s.txBad q ws then .bad ws (q.fetch.taken.head?.elim q.ci (·.pos)) else .job ws conts n
  | h => h

/-- An ACTIVE SQ has entries that prefetch took and dispatch is to choose (R51). -/
def State.hasWork (s : State) (q : Queue) : Bool :=
  q.kind == .sq && q.state == .active && match s.head q with
    | .none => false
    | _ => true

/-! ### The operation log (R215, R247) -/

def roundUp (n u : Nat) : Nat := (n + u - 1) / u * u

/-- Jobs that send packets: a collective sends contributions, and a tagged receive the reads of a rendezvous. -/
def logsRecord (op : Nat) : Bool := senderOp op || op == opChorus || op == opTrecv

/-- Bytes of the record of a job that sends packets. -/
def jobLog (op : Nat) (frags : Nat) : Nat := if logsRecord op then roundUp (128 + 16 * (frags - 1)) 64 else 0

/-- Bytes reserved for the record of a job when it is accepted: a fragment table, which is read later, may hold 256 fragments (R83;
DESIGN CHOICE, log 146). -/
def acceptLog (ws : List Word) (conts : List (List Word)) : Nat :=
  jobLog (dOp ws) (if dFtab ws then 256 else (jobFrags ws conts).length)

/-- Bytes of a logged chorus packet. -/
def chorusLog (p : Packet) : Nat := roundUp (64 + pktLen p) 64

def isChorusOut (o : OutPkt) : Bool := match o.op with
  | .chorus _ => true
  | _ => false

/-- Bytes that an atomic in progress at the target will need for the value it fetches. -/
def TargetOp.logNeed (t : TargetOp) : Nat := if t.ptype = PType.atomic.code ∧ t.issued then 64 else 0

/-- Bytes of the operation log in use: job records, fetched values and room kept for them, and chorus packets not yet acknowledged. -/
def State.logUsed (s : State) : Nat :=
  sumBy (·.logBytes) s.qmg.jobs + sumBy (·.bytes) s.trn.logItems + sumBy TargetOp.logNeed s.rma.targets
    + sumBy (fun p => p.send.elim 0 (fun h => sumBy (fun o => if isChorusOut o then chorusLog o.pkt else 0) (h.out ++ h.queue)))
        s.trn.peers
    + sumBy (fun g => sumBy (fun f => sumBy (fun r => chorusLog r.pkt) f.log) g.flows) s.svc.groups

/-- TRN_OPLOG_SIZE in bytes. -/
def State.logSize (s : State) : Nat := clamp 64 2048 (s.fld .trnOplogSize 0 11 0) * 2 ^ 20

/-- CHORUS jobs of a group from one SQ that have been accepted and have not completed (R240). -/
def State.chorusLive (s : State) (qid g : Nat) : Nat :=
  ((s.liveJobs qid).filter (fun j => j.recOp == opChorus && dGroup j.ws == g)).length

/-- Does the job at the head have what acceptance needs beside a CQ slot: room in the operation log, a held-lock record, and the
limit on collectives of its group (R215, R240, R265)? -/
def State.canAccept (s : State) (qid : Nat) (ws : List Word) (conts : List (List Word)) : Bool :=
  let op := dOp ws
  decide (s.logUsed + acceptLog ws conts ≤ s.logSize)
    && (op != opLockAcquire || decide (s.svc.lockRecs.length < Config.heldRecords))
    && (op != opChorus || decide (s.chorusLive qid (dGroup ws) < s.opsInFlight))

/-- The bound CQ lets a job be accepted: it is not in ERROR and has a free slot (R53, R582). -/
def State.cqOpen (s : State) (q : Queue) : Bool :=
  match s.queue? q.attr.cq with
  | none => false
  | some c => decide (c.state ≠ .error) && decide (0 < c.cqFree)

/-- BYTE_COUNT of a job as its entry gives it (R87). -/
def jobBytes (ws : List Word) : Nat :=
  let op := dOp ws
  if op = opSend ∨ op = opTsend ∨ op = opPut ∨ op = opGet then dLen ws
  else if op = opAtomic then (if dWidthCode ws = 1 then 16 else 8)
  else 0

/-- PEER_FA of the record of a job that has met no peer yet: the destination of an initiator's operation (R87). For a receive that ends
with no match, and for a TCANCEL, the spec names no peer: 0 (DESIGN CHOICE, log 130). -/
def jobPeerFa (ws : List Word) : Nat := if senderOp (dOp ws) then dPeer ws % 2 ^ 27 else 0

/-- Accept the job at the head: a CQ slot is reserved, the consumer position passes its last entry, and the job is the device's
(R53-R55, R265). -/
def acceptJob (q : Queue) (ws : List Word) (conts : List (List Word)) (n recOp : Nat) (s : State) : Nat × State :=
  let jid := s.qmg.nextJid
  let frags := jobFrags ws conts
  let j : Job := { jid := jid, qid := q.qid, cqe := dCqe (conts.getLast?.getD ws), mid := q.attr.mid, ep := q.attr.ep, asid := q.attr.asid, pkey := q.attr.pkey, group := q.attr.group, tc := q.attr.tc, ws := ws, frags := frags, firstPos := q.ci, phase := .accepted, status := stOk, data := 0, bytes := jobBytes ws, imm := none, solicited := false, peerFa := jobPeerFa ws, recOp := recOp, buf := [], todo := [], xp := xStart [], rts := s.rtsChoice ws, late := [], checked := false, psnFirst := none, psnLast := none, fence := none, acked := false, logBytes := acceptLog ws conts, engine := q.attr.home, gen := s.cmd.gen, due := none }
  let s := cqReserve q.attr.cq (wakeDomain (engineDomain q.attr.home) s)
  let s := updQueue q.qid (fun q => { q with
    ci := q.ci + BitVec.ofNat 32 n
    fetch := { q.fetch with taken := q.fetch.taken.drop n } }) s
  let s := { s with qmg := { s.qmg with jobs := s.qmg.jobs ++ [j], nextJid := jid + 1 } }
  let s := if dOp ws = opLockAcquire then
      let r : LockRec := { ep := j.ep, fa := j.peerFa, tc := j.tc, lock := dLock ws, mid := j.mid, pkey := j.pkey, group := j.group, jid := jid, psn := none, granted := false, reset := false, leaving := false, endFence := none }
      { s with svc := { s.svc with lockRecs := s.svc.lockRecs ++ [r] } }
    else s
  (jid, s.count (cntEp q.attr.ep 0) 1)

/-- A malformed entry at the head of a queue (R71): its groups lose the member too (R248), and the records of its collectives come before
the QUEUE_ERROR event (R99). -/
def headMalformed (qid : Nat) (ws : List Word) (pos : Pos) (s : State) : State :=
  match s.queue? qid with
  | none => s
  | some q => malformedEntry q ws pos (memberQueueLost qid s)

/-- A failed ring read stands at the head: the queue enters ERROR there, with an event of cause 0x6 and no record (R399). -/
def headFailed (qid : Nat) (pos : Pos) (s : State) : State :=
  match s.queue? qid with
  | none => s
  | some q => queueError q 6 pos.toNat (moveToError qid s)

/-- Act on a failed read that has come to the head of a queue. -/
def headSettle (qid : Nat) (s : State) : State :=
  match s.queue? qid with
  | none => s
  | some q =>
    if q.state = .error ∨ q.state = .draining then s
    else match s.head q with
      | .fail pos => headFailed qid pos s
      | _ => s

end Sys2Proof.Machine
end

