-- ==== Sys2Proof/Machine/Route.lean ====
section
/-! DEFINITION. Routing: where a packet goes next (R272-R296). -/

namespace Sys2Proof.Machine

/-! ### Coordinates (R272, R274) -/

/-- This router's coordinates in dimension d. -/
def State.own (s : State) (d : Nat) : Nat := coordOf s.dims d

/-- An FA is routable (R274). -/
def State.routable (s : State) (fa : Fa) : Bool :=
  decide (fa < 2 ^ 27)
    && (List.range 4).all (fun d =>
      if d < ndimOf s.dims then decide (coordOf fa d < lenOf s.dims d) else decide (coordOf fa d = 0))

/-- Unresolved dimensions, lowest first. -/
def State.unresolved (s : State) (fa : Fa) : List Nat :=
  (List.range (ndimOf s.dims)).filter (fun d => decide (coordOf fa d ≠ s.own d))

/-! ### Exceptions (R292) -/

/-- An entry applies to a destination. -/
def ExcEntry.applies (e : ExcEntry) (fa : Fa) : Bool := decide (fa &&& e.mask = e.value &&& e.mask)

/-- Ports toward coordinate c in dimension d are excluded. -/
def State.excluded (s : State) (fa : Fa) (d c : Nat) : Bool :=
  s.fab.exc.any (fun e => e.applies fa && decide (e.action = 0) && decide (e.dim = d) && decide (e.coord = c))

def State.unreachable (s : State) (fa : Fa) : Bool := s.fab.exc.any (fun e => e.applies fa && decide (e.action = 2))

/-- The ESC_VIA coordinate for dimension d: the applying entry with the lowest index. -/
def State.escVia (s : State) (fa : Fa) (d : Nat) : Option Nat :=
  let l := s.fab.exc.filter (fun e => e.applies fa && decide (e.action = 1) && decide (e.dim = d))
  match least (l.map (·.slot)) with
  | none => none
  | some i => (l.find? (fun e => e.slot = i)).map (·.coord)

/-- Endpoint 0 of the router that a port leads to, by the line tables; without an entry that names the port, this router's own coordinates
stand in, since a time message is not routed (R277, R438; DESIGN CHOICE, log 208). -/
def State.neighbour (s : State) (port : Nat) : Fa :=
  let lines := (List.range (ndimOf s.dims)).flatMap (fun d => (List.range (lenOf s.dims d)).map (fun c => (d, c)))
  (lines.find? (fun x => (s.lineTo x.1 x.2).any (fun p => p = port))).elim s.coord (fun x => putBits s.coord (6 * x.1 + 5) (6 * x.1) x.2)

/-- Candidate ports toward coordinate c on the line of dimension d: usable and not excluded. -/
def State.portsTo (s : State) (fa : Fa) (d c : Nat) : List Nat :=
  if s.excluded fa d c then [] else (s.lineTo d c).filter s.usable

/-! ### Occupancy and congestion (R279, R288, R289) -/

/-- Cells queued to a port on a VC. -/
def State.queuedCells (s : State) (p v : Nat) : Nat :=
  sumBy (fun q => if q.pkt.vc = v then cellsOf q.pkt.len else 0) (s.egress (.port p)).q

/-- Cells queued on the adaptive VCs of a port (R308). -/
def State.adaptiveCells (s : State) (p : Nat) : Nat := s.queuedCells p 0 + s.queuedCells p 2 + s.queuedCells p 4

/-- occ(q) for a VC (R279). -/
def State.occ (s : State) (p v : Nat) : Nat := min 15 (s.queuedCells p v / atLeast1 (s.fld .rteRouteCtrl 0 39 32))

/-- Interval of congestion vectors in ns; 0 stops them. -/
def State.cvecPeriod (s : State) : Nat :=
  let p := s.fld .rteCvecPeriod 0 15 0
  if 0 < p ∧ p < 100 then 100 else p

/-- Level in a vector for dimension e and coordinate c (R288). -/
def vecLevel (ws : List Word) (e c : Nat) : Nat :=
  let i := 128 * e + 2 * c
  bits ((ws[i / 64]?).elim 0 (·.toNat)) (i % 64 + 1) (i % 64)

/-- What the neighbour at k on line d reports toward c on its line e; 2 when its vector is stale or none has come (R289, log 41). -/
def State.level (s : State) (d k e c : Nat) : Nat :=
  match s.fab.vectors.find? (fun v => v.dim = d && v.coord = k) with
  | none => 2
  | some v =>
    if s.clk.now ≤ v.at_ + ns (s.cvecPeriod * atLeast1 (s.fld .rteRouteCtrl 0 43 40)) then vecLevel v.ws e c else 2

/-- onward of R280. -/
def State.onward (s : State) (fa : Fa) (d k : Nat) (rest : List Nat) : Nat :=
  (least (rest.map (fun e => s.level d k e (coordOf fa e)))).getD 0

/-! ### Credit (R349) -/

/-- Cells of credit a port has on a VC. -/
def State.credit (s : State) (p v : Nat) : Nat :=
  subMod (2 ^ 24) (nth (s.port p).creditIn v) (nth (s.port p).consumed v)

/-! ### The adaptive choice (R279-R281, R283) -/

/-- A candidate of R280. -/
structure Cand where
  port : Nat
  cost : Nat
  detour : Option Nat      -- dimension of a non-minimal hop
  deriving DecidableEq, Repr

/-- Candidates of a packet on an adaptive VC (R280). -/
def State.candidates (s : State) (p : SwPkt) : List Cand :=
  let fa := p.dst
  let u := s.unresolved fa
  let v := 2 * p.tc
  let rw := s.fld .rteRouteCtrl 0 23 16
  u.flatMap (fun d =>
    let t := coordOf fa d
    let lv := s.onward fa d t (u.filter (· ≠ d))
    let straight : List Cand :=
      if lv = 3 then [] else (s.portsTo fa d t).map (fun q => { port := q, cost := s.occ q v + rw * lv, detour := none })
    let around : List Cand :=
      if bit (s.fld .rteRouteCtrl 0 2 0) p.tc && !bit p.detoured d then
        (List.range (lenOf s.dims d)).flatMap (fun k =>
          let l := s.level d k d t
          if k = s.own d ∨ k = t ∨ l = 3 then []
          else (s.portsTo fa d k).map (fun q =>
            { port := q, cost := s.occ q v + rw * l + s.fld .rteRouteCtrl 0 31 24, detour := some d }))
      else []
    straight ++ around)

/-- Leave out the port of the previous attempt where another minimal candidate exists (R283). -/
def avoidPort (avoid : Option Nat) (l : List Cand) : List Cand :=
  match avoid with
  | none => l
  | some a =>
    if l.any (fun c => c.detour.isNone && decide (c.port ≠ a)) then l.filter (fun c => !(c.detour.isNone && decide (c.port = a)))
    else l

/-- The candidates of lowest cost. -/
def cheapest (l : List Cand) : List Cand :=
  match least (l.map (·.cost)) with
  | none => []
  | some m => l.filter (fun c => c.cost = m)

/-- The candidates that the packet may be sent on, and whether they have credit for it: the cheapest of those that have, else the cheapest
of all (R281, R283). -/
def State.choices (s : State) (avoid : Option Nat) (p : SwPkt) : List Cand × Bool :=
  let l := avoidPort avoid (s.candidates p)
  let withCredit := l.filter (fun c => decide (cellsOf p.len ≤ s.credit c.port p.vc))
  if withCredit.isEmpty then (cheapest l, false) else (cheapest withCredit, true)

/-- One of a list; the choice among several is not architectural (R280, log 3). -/
def pickOne {α : Type} (l : List α) (s : State) : Option α × State :=
  match l with
  | [] => (none, s)
  | [a] => (some a, s)
  | a :: l =>
    let (n, s) := s.drawNat
    (some (((a :: l)[n % (l.length + 1)]?).getD a), s)

/-- Least occupied of some ports. -/
def State.leastBusy (s : State) (l : List Nat) : List Nat :=
  match least (l.map s.adaptiveCells) with
  | none => []
  | some m => l.filter (fun q => s.adaptiveCells q = m)

/-! ### The escape route and pinned packets (R282, R285) -/

/-- Ports of the escape route, and the dimension of the hop when it is not minimal: toward the destination in the lowest unresolved
dimension, else through an ESC_VIA entry to another coordinate of that line (R276, R282). -/
def State.escapePorts (s : State) (fa : Fa) : List Nat × Option Nat :=
  match s.unresolved fa with
  | [] => ([], none)
  | d :: _ =>
    match s.portsTo fa d (coordOf fa d) with
    | [] => match s.escVia fa d with
      | none => ([], none)
      | some c => (s.portsTo fa d c, if c = coordOf fa d then none else some d)
    | l => (l, none)

/-- A port of the escape route that a retransmission is not to take while another minimal candidate exists is left out (R283, log 152). -/
def State.escapeAvoids (s : State) (avoid : Option Nat) (p : SwPkt) (l : List Nat × Option Nat) : List Nat × Option Nat :=
  match avoid, l.2 with
  | some a, none =>
    let other := l.1.any (fun q => q ≠ a)
      || (decide (p.vc < 6) && (s.candidates p).any (fun c => c.detour.isNone && decide (c.port ≠ a)))
    if other then (l.1.filter (fun q => q ≠ a), none) else l
  | _, _ => l

/-- The port of largest hash among some ports, the first of equals (R285, log 151). -/
def hashedPort (p : SwPkt) : List Nat → Option Nat
  | [] => none
  | q :: l =>
    match hashedPort p l with
    | none => some q
    | some r =>
      if Config.pinHash p.src p.dst p.tc p.salt q < Config.pinHash p.src p.dst p.tc p.salt r then some r else some q

/-- The port that a pinned flow of a SALT has taken here. -/
def State.pinPort (s : State) (p : SwPkt) (salt : Nat) : Option Nat :=
  (s.fab.pins.find? (fun x => x.src = p.src && x.dst = p.dst && x.tc = p.tc && x.salt = salt)).map (·.port)

/-- The port of a pinned packet among the ports of its hop: the flow keeps its own while that is usable, and a new SALT takes another than
the one before it where there is one; else the hash chooses (R27, R285; DEDUCED, log 151). -/
def pinnedPort (p : SwPkt) (l : List Nat) (s : State) : Option Nat × State :=
  match (s.pinPort p (p.salt % 4)).filter (fun q => decide (q ∈ l)) with
  | some q => (some q, s)
  | none =>
    let other := l.filter (fun q => decide (some q ≠ s.pinPort p ((p.salt + 3) % 4)))
    match hashedPort p (if other.isEmpty then l else other) with
    | none => (none, s)
    | some q =>
      let flow (x : PinPath) : Bool := x.src = p.src && x.dst = p.dst && x.tc = p.tc && decide (x.salt = p.salt % 4 ∨ x.salt = (p.salt + 1) % 4)
      let now : PinPath := { src := p.src, dst := p.dst, tc := p.tc, salt := p.salt % 4, port := q }
      (some q, updFab (fun f => { f with pins := now :: f.pins.filter (fun x => !flow x) }) s)

/-- The escape output of a packet and the dimension of a hop that is not minimal: that of its flow for a pinned packet, else least
occupied. -/
def escapePort (avoid : Option Nat) (p : SwPkt) (s : State) : Option (Nat × Option Nat) × State :=
  if p.pin then
    let l := s.escapePorts p.dst
    let (q, s) := pinnedPort p l.1 s
    (q.map (fun q => (q, l.2)), s)
  else
    let l := s.escapeAvoids avoid p (s.escapePorts p.dst)
    let (q, s) := pickOne (s.leastBusy l.1) s
    (q.map (fun q => (q, l.2)), s)

/-! ### The choice for one packet -/

/-- Where a packet goes. -/
inductive Hop where
  | deliver (o : Output)
  | via (port : Nat) (vc : Nat) (detour : Option Nat) (credit : Bool)
  | none (cause : Nat)     -- no route: 0 no candidate, 1 UNREACHABLE, 2 RANGE (R295)
  deriving DecidableEq, Repr

/-- The chorus cluster that takes a packet: a RESULT goes to the home cluster of its group, outside the order of transport (R247, R299,
log 153). -/
def State.resultSink (s : State) (p : SwPkt) : Option Nat :=
  match p.body with
  | .packet q =>
    if q.ptype = PType.chorus.code ∧ bits q.e0.toNat 63 60 = 5 then
      (s.svc.groups.find? (fun g => g.num = bits q.e0.toNat 59 48)).map (·.home)
    else none
  | _ => none

/-- The sink of a packet that has arrived (R284, R299). -/
def State.sinkOf (s : State) (p : SwPkt) : Output :=
  if p.vc = 7 ∧ p.mtype ≠ 3 then .mgmt else (s.resultSink p).elim (.ep (faEp p.dst)) .cluster

/-- The escape hop of a packet on a VC. -/
def escapeHop (avoid : Option Nat) (vc : Nat) (p : SwPkt) (s : State) : Hop × State :=
  match escapePort avoid p s with
  | (none, s) => (.none 0, s)
  | (some q, s) => (.via q.1 vc q.2 (decide (cellsOf p.len ≤ s.credit q.1 vc)), s)

/-- The class's escape VC (R281). -/
def escVc (p : SwPkt) : Nat := if p.vc < 6 then 2 * p.tc + 1 else p.vc

/-- Choose the output of a packet (R274, R280-R285, R292, R295). A time message goes no further than the router that it reaches (R438). -/
def routeHop (avoid : Option Nat) (p : SwPkt) (s : State) : Hop × State :=
  if p.vc = 7 ∧ p.mtype = 2 then (.deliver .mgmt, s)
  else if !s.routable p.dst then (.none 2, s)
  else if s.unreachable p.dst then (.none 1, s)
  else if s.unresolved p.dst = [] then (.deliver (s.sinkOf p), s)
  else if 6 ≤ p.vc ∨ p.vc % 2 = 1 ∨ p.pin then escapeHop none p.vc p s
  else
    let (l, credit) := s.choices avoid p
    match pickOne l s with
    | (some c, s) => (.via c.port p.vc c.detour credit, s)
    | (none, s) => escapeHop avoid (escVc p) p s

/-- HOP_LIMIT in force (R296). -/
def State.hopLimit (s : State) : Nat := max (2 * ndimOf s.dims) (s.fld .rteRouteCtrl 0 47 44)

/-- A transit packet without a route: discarded, counted, captured and reported (R295). -/
def noRouteTransit (cause : Nat) (p : SwPkt) (s : State) : State :=
  let s := s.count 48 1
  let s := s.capture .rteErr 0 0 (at_ 60 cause + at_ 56 p.vc + p.dst % 2 ^ 27)
  report .rteNoRoute 0x12 0 (p.dst % 2 ^ 27) s

end Sys2Proof.Machine
end

