-- ==== Sys2Proof/Machine/Switch.lean ====
section
/-! DEFINITION. The switch core: what a packet is charged to, its queues, marks and copies, and the choice of an output's next
frame (R299-R315, R320-R322, R329-R331). -/

namespace Sys2Proof.Machine

/-! ### Packets of this device (R195, R275, R276, R285) -/

/-- The routing part that the source writes for a transport packet (R275, R276, R285). -/
def swPacket (q : Packet) (s : State) : SwPkt :=
  let ctl := decide (0x15 ≤ q.ptype)
  let k : PeerKey := { ep := faEp q.src, fa := q.dst, tc := q.tc }
  { dst := q.dst, src := q.src, vc := if ctl then 6 else 2 * q.tc, tc := if ctl then 3 else q.tc,
    pin := !ctl && bit (s.fld .trnCtrl 0 2 0) q.tc, salt := ((s.peer? k).bind (·.path)).getD 0 % 4, detoured := 0, ce := false,
    mcast := false, mdim := 0, mtype := 0, hops := 0, len := pktLen q, retx := q.retx,
    pkey := if ctl then none else some q.pkey, body := .packet q }

/-- A VC7 packet of the management logic (R275). -/
def vc7Packet (dst : Fa) (mtype : Nat) (ws : List Word) (s : State) : SwPkt :=
  { dst := dst, src := s.ownFa 0, vc := 7, tc := 3, pin := false, salt := 0, detoured := 0, ce := false, mcast := false, mdim := 0,
    mtype := mtype, hops := 0, len := 16 + 8 * ws.length, retx := false, pkey := none, body := .words ws }

/-! ### Storing (R300-R302) -/

/-- A source's reservation takes some more cells of a VC. While the shared pool is over its size, the free list must have them too
(R301). -/
def State.roomFor (s : State) (src : Source) (v cells : Nat) : Bool :=
  decide (s.reserveUsed src v + cells ≤ s.reserve src v) && (!s.overdrawn (sliceOf src) || decide (cells ≤ s.slack (sliceOf src)))

/-- A fabric port takes a packet: its reservation has room, or credit already granted is honoured (R318, R350). -/
def State.portRoom (s : State) (p v cells : Nat) : Bool := s.roomFor (.port p) v cells || decide (cells ≤ s.creditOut p v)

/-- Write a packet's first cell: the whole packet is charged to its input's reservation, then to the shared pool when that takes
it (R302); a line multicast stays on the reservation (R309). Answers the packet's number. -/
def storePacket (src : Source) (v len : Nat) (whole mcast : Bool) (seq : Nat) (s : State) : Nat × State :=
  let pid := s.fab.nextPid
  let x : Stored := { pid := pid, slice := sliceOf src, src := src, vc := v, cells := cellsOf len, whole := whole, seq := seq, shared := false, ended := false, mcast := mcast, gen := s.cmd.gen }
  let s := updFab (fun f => { f with stored := f.stored ++ [x], nextPid := pid + 1 }) s
  (pid, shareOne x s)

/-! ### Marks (R313-R315) -/

/-- What a profile's probability decides: never, always, or by a source that is not architectural (R314, log 3). -/
def markDraw (w q : Nat) (s : State) : Bool × State :=
  let lo := bits w 19 0
  let hi := max (bits w 39 20) (lo + 1)
  if q < lo then (false, s)
  else if hi ≤ q then (true, s)
  else if bits w 55 48 = 0 ∨ q = lo then (false, s)
  else
    let (n, s) := s.drawNat
    (n % 2 == 1, s)

/-- The profile of a VC and a colour at a port. -/
def State.profile (s : State) (port v color : Nat) : Nat := s.raw .swcMarkProfile (port / 16) (3 * v + color)

/-- A frame that becomes ready ends the exchange toward quiet (R379). -/
def quietEnds (port : Nat) (s : State) : State :=
  if (s.port port).quietReq then updFport port (fun p => { p with quietReq := false, quietSeen := 0 }) s else s

/-- The configuration generation under which a stored packet was first looked up; the one in force for a packet that is not stored (R28). -/
def State.genOfPid (s : State) (pid : Nat) : Nat := (s.fab.stored.find? (fun x => x.pid = pid)).elim s.cmd.gen (·.gen)

/-- Queue a packet to a fabric port: it may be marked, by the profile of its first lookup (R308, R314, R318). -/
def queueAt (port : Nat) (e : QEntry) (s : State) : State :=
  let (mark, s) := if 6 ≤ e.pkt.vc then (false, s)
    else markDraw ((s.view (s.genOfPid e.pid)).profile port e.pkt.vc e.color) (s.queuedCells port e.pkt.vc) s
  let e := if mark then { e with pkt := { e.pkt with ce := true } } else e
  quietEnds port (updEgress (.port port) (fun x => { x with q := x.q ++ [{ e with since := s.clk.now }] }) s)

/-- Bytes of the VLAN tags that stand before the type field of a frame, from an offset on. -/
def vlanBytes (b : List Byte) : Nat → Nat → Nat
  | 0, off => off
  | n + 1, off =>
    let t := ((b[12 + off]?).elim 0 (·.toNat)) * 256 + (b[13 + off]?).elim 0 (·.toNat)
    if t = 0x8100 ∨ t = 0x88A8 then vlanBytes b n (off + 4) else off

/-- The IP ECN field of a frame with ECT set becomes CE: IPv4 or IPv6, behind any VLAN tags; none when ECT is not set (R315). -/
def ecnMark (b : List Byte) : Option (List Byte) :=
  let at8 (i : Nat) : Nat := (b[i]?).elim 0 (·.toNat)
  let off := vlanBytes b (b.length / 4) 0
  let etype := at8 (12 + off) * 256 + at8 (13 + off)
  let put (i v : Nat) := b.take i ++ [BitVec.ofNat 8 v] ++ b.drop (i + 1)
  if etype = 0x0800 then
    let t := at8 (15 + off)
    if t % 4 = 1 ∨ t % 4 = 2 then
      -- the header checksum follows the changed field, in one's complement
      let c := at8 (24 + off) * 256 + at8 (25 + off)
      let d := t / 4 * 4 + 3 - t
      let n := 65535 - (65535 - c + d + (65535 - c + d) / 65536) % 65536
      some (((put (15 + off) (t / 4 * 4 + 3)).take (24 + off)) ++ [BitVec.ofNat 8 (n / 256), BitVec.ofNat 8 n] ++ b.drop (26 + off))
    else if t % 4 = 3 then some b else none
  else if etype = 0x86DD then
    let t := at8 (15 + off)
    let e := t / 16 % 4
    if e = 1 ∨ e = 2 then some (put (15 + off) (t + (3 - e) * 16)) else if e = 3 then some b else none
  else none

/-- Queue a frame to an Ethernet service port: its profile may drop it or mark its ECN field (R315). Answers whether it is queued. -/
def queueEth (port prio : Nat) (e : QEntry) (bytes : List Byte) (s : State) : Bool × State :=
  let w := (s.view (s.genOfPid e.pid)).profile port prio e.color
  let (act, s) := markDraw w (s.queuedCells port prio) s
  let put (b : List Byte) (s : State) : State :=
    let e' : QEntry := { e with pkt := { e.pkt with vc := prio, body := .frame b, len := b.length }, since := s.clk.now }
    updEgress (.port port) (fun x => { x with q := x.q ++ [e'] }) s
  if !act then (true, put bytes s)
  else
    match bits w 63 62 with
    | 1 => (false, s.count (cntSlice (port / 16) 1) 1)
    | 2 => match ecnMark bytes with
      | some b => (true, put b s)
      | none => (false, s.count (cntSlice (port / 16) 1) 1)
    | _ => (true, put bytes s)

/-! ### Mirroring (R311, R312) -/

/-- A mirror session that copies a packet at a port in a direction (0 ingress, 1 egress), unless SEC_CTRL.NO_MIRROR disables all. -/
def State.mirrors (s : State) (i port dir : Nat) (p : SwPkt) : Bool :=
  let w := s.raw .swcMirrorCtrl 0 i
  let d := if bits w 62 61 = 3 then 2 else bits w 62 61
  let f := s.raw .swcMirrorFlow 0 i
  let fa := if bit f 31 then p.src else p.dst
  bit w 63 && !bit (s.raw .secCtrl 0 0) 3 && decide (bits w 51 45 = port) && (d == 2 || d == dir) && bit (bits w 59 52) p.vc
    && (!bit w 60 || decide (fa &&& bits f 58 32 = bits f 26 0 &&& bits f 58 32))
    && (bit w 44 || s.ethPort (bits w 43 37))

/-- A queue entry of a packet. -/
def entry0 (pid : Nat) (p : SwPkt) : QEntry :=
  { pid := pid, pkt := p, since := 0, wait := none, color := 0, avoid := none, detour := none, residue := false, mirror := false, job := none, begun := false, stalled := false }

/-- The slice of a stored packet. -/
def State.sliceOfPid (s : State) (pid : Nat) : Nat := (s.fab.stored.find? (fun x => x.pid = pid)).elim 0 (·.slice)

/-- The shared pool of the slice that holds a packet takes the cells that a mirror copy keeps of it: it is charged for them while the packet is
not (R302, R304, R312; DESIGN CHOICE, log 206). -/
def State.mirrorFits (s : State) (pid : Nat) : Bool :=
  match s.fab.stored.find? (fun x => x.pid = pid) with
  | none => true
  | some x => x.shared || s.mirrorRef pid || decide (x.cells ≤ s.sharedFree x.slice)

/-- Copy a packet to one session's destination, or drop the copy (R311, R312). A copy for an SRQ waits at the sink of the SRQ's
endpoint. -/
def mirrorOne (i pid : Nat) (p : SwPkt) (s : State) : State :=
  let w := s.raw .swcMirrorCtrl 0 i
  let n := bits w 12 0
  let bytes := if n = 0 ∨ 4160 < n then swBytes p else (swBytes p).take n
  let e := { entry0 pid { p with body := .frame bytes, len := bytes.length } with mirror := true }
  let drop := s.count (cntSlice (s.sliceOfPid pid) 2) 1
  if bit w 44 then
    match s.queue? (bits w 32 13) with
    | none => drop
    | some q =>
      if !s.mirrorFits pid || !s.shareOk q.attr.ep p.vc (cellsOf bytes.length) || decide (p.pkey ≠ some q.attr.pkey) then drop
      else
        let e := { e with pkt := { e.pkt with dst := q.qid } }
        updEgress (.ep q.attr.ep) (fun x => { x with q := x.q ++ [{ e with since := s.clk.now }] }) s
  else
    let port := bits w 43 37
    if !s.mirrorFits pid || !s.shareOk (port / 16) p.vc (cellsOf bytes.length) then drop else (queueEth port 0 e bytes s).2

/-- Copy a packet to every session of its configuration set that selects it (R28, R311). -/
def mirrorCopies (port dir pid : Nat) (p : SwPkt) (s : State) : State :=
  asOf (s.genOfPid pid) (fun s => (List.range 4).foldl (fun s i => if s.mirrors i port dir p then mirrorOne i pid p s else s) s) s

/-! ### Lack of credit (R352) -/

/-- First entry of a VC's queue. At an internal sink, copies of mirrored packets come after every packet (R311). -/
def Egress.headOf (e : Egress) (v : Nat) : Option QEntry :=
  match e.out with
  | .port _ => e.q.find? (fun x => x.pkt.vc = v)
  | _ => (e.q.find? (fun x => x.pkt.vc = v && !x.mirror)).orElse (fun _ => e.q.find? (fun x => x.pkt.vc = v))

/-- VCs of a port whose head lacks credit, and since when (R352). -/
def noteBlocked (p : Nat) (s : State) : State :=
  let e := s.egress (.port p)
  let l := (List.range 8).filterMap (fun v =>
    match e.headOf v with
    | none => none
    | some x =>
      if x.begun || decide (cellsOf x.pkt.len ≤ s.credit p v) then none
      else some (v, (assoc v (s.port p).blocked).getD s.clk.now))
  if (s.port p).blocked = l then s else updFport p (fun x => { x with blocked := l }) s

def noteBlockedAll (s : State) : State :=
  s.fab.egress.foldl (fun s x => match x.out with
    | .port p => if s.ethPort p then s else noteBlocked p s
    | _ => s) s

/-! ### Policing (R329-R332) -/

/-- Bucket sizes of a policer, in 1/8000 of a byte. -/
def State.polSize (s : State) (n : Nat) : Nat × Nat :=
  let b := s.raw .qosPolBurst 0 n
  (atLeast1 (bits b 19 0) * 8192000, atLeast1 (bits b 51 32) * 8192000)

/-- A policer's buckets, refilled until now: R Mb/s adds R in 1/8000 of a byte each ns (R330). -/
def State.policer (s : State) (n : Nat) : Policer :=
  let (cs, es) := s.polSize n
  match s.fab.policers.find? (fun p => p.num = n) with
  | none => { num := n, c := cs, ep := es, at_ := s.clk.now }
  | some p =>
    let d := (s.clk.now - p.at_) / 10
    let cir := s.fld .qosPolRate n 20 0
    let pir := s.fld .qosPolRate n 52 32
    let c := min p.c cs
    let e := min p.ep es
    if bits (s.raw .qosPolCtrl 0 n) 1 0 = 1 then
      { p with c := min cs (c + cir * d), ep := min es (e + pir * d), at_ := p.at_ + d * 10 }
    else
      let add := cir * d
      { p with c := min cs (c + add), ep := min es (e + (add - (cs - c))), at_ := p.at_ + d * 10 }

def putPolicer (p : Policer) (s : State) : State :=
  updFab (fun f => { f with policers := p :: f.policers.filter (fun x => x.num ≠ p.num) }) s

/-- Meter one packet at a policer: the colour, the charge, and whether it must wait (RFC 2697 and RFC 2698 as R330 changes them,
R331). -/
def meter (n len color : Nat) (s : State) : Option (Nat × State) :=
  let w := s.raw .qosPolCtrl 0 n
  let p := s.policer n
  let l := (len + bits w 15 8) * 8000
  let inp := if bit w 2 then color else 0
  if bits w 1 0 = 1 then
    let red := decide (p.ep < l) || decide (inp = 2)
    if red then
      if bit w 3 then (if p.ep < l then none else some (1, putPolicer { p with ep := p.ep - l } s)) else some (2, putPolicer p s)
    else if p.c < l ∨ inp = 1 then some (1, putPolicer { p with ep := p.ep - l } s)
    else some (0, putPolicer { p with c := p.c - l, ep := p.ep - l } s)
  else
    if l ≤ p.c ∧ inp = 0 then some (0, putPolicer { p with c := p.c - l } s)
    else if l ≤ p.ep ∧ inp ≤ 1 then some (1, putPolicer { p with ep := p.ep - l } s)
    else if bit w 3 then (if p.ep < l then none else some (1, putPolicer { p with ep := p.ep - l } s))
    else some (2, putPolicer p s)

/-- What policing answers: the colour, or that a policer defers the packet, with the policers its chain may still take (R329, R331). -/
inductive Policed where
  | color (c : Nat)
  | defer (n fuel : Nat)
  deriving DecidableEq, Repr

/-- A chain of at most four policers, as a generation's set lays it: the colour of the last one, or which of them defers the packet
(R329, R331, R332). -/
def chain (gen n len color : Nat) : Nat → State → Policed × State
  | 0, s => (.color color, s)
  | fuel + 1, s =>
    match meter n len color s with
    | none => (.defer n fuel, s)
    | some (c, s) =>
      let w := (s.view gen).raw .qosPolCtrl 0 n
      if bit w 16 then chain gen (bits w 25 17) len c fuel s else (.color c, s)

/-- A packet that a policer defers goes on once its E or P bucket holds the length: it is charged there, yellow, and the rest of its chain
polices it (R331). -/
def chainOn (gen n len fuel : Nat) (s : State) : Policed × State :=
  let p := s.policer n
  let l := (len + bits (s.raw .qosPolCtrl 0 n) 15 8) * 8000
  if p.ep < l then (.defer n fuel, s)
  else
    let s := putPolicer { p with ep := p.ep - l } s
    let w := (s.view gen).raw .qosPolCtrl 0 n
    if bit w 16 then chain gen (bits w 25 17) len 1 fuel s else (.color 1, s)

/-- Police a packet that endpoint e injects; packets of the chorus clusters and the lock unit are green and charged to no bucket (R329). -/
def police (e : Nat) (p : SwPkt) (s : State) : Policed × State :=
  let w := s.raw .qosPolMap 0 e
  match p.body with
  | .packet q =>
    if q.ptype ≤ 0x14 && q.ptype != PType.chorus.code && !q.lockUnit && !q.retx && decide (p.tc < 3) && bit w (16 * p.tc + 15) then
      chain s.cmd.gen (bits w (16 * p.tc + 8) (16 * p.tc)) p.len 0 4 s
    else (.color 0, s)
  | _ => (.color 0, s)

/-- A policer and those behind it in its chain. -/
def State.polChain (s : State) (n : Nat) : Nat → List Nat
  | 0 => []
  | fuel + 1 =>
    let w := s.raw .qosPolCtrl 0 n
    n :: (if bit w 16 then s.polChain (bits w 25 17) fuel else [])

/-- Policers that the maps enable, each with those behind it in its chain (R329, R330). -/
def State.policersOn (s : State) : List Nat :=
  ((List.range 8).flatMap (fun e => (List.range 3).flatMap (fun t =>
    let w := s.raw .qosPolMap 0 e
    if bit w (16 * t + 15) then s.polChain (bits w (16 * t + 8) (16 * t)) 4 else []))).eraseDups

/-- A policer that is enabled for the first time starts with full buckets (R330). -/
def startPolicers (s : State) : State :=
  (s.policersOn.filter (fun n => !s.fab.policers.any (fun p => p.num = n))).foldl (fun s n => putPolicer (s.policer n) s) s

/-- What QOS_POL_STAT shows: the levels of a policer that has been enabled, else 0, its reset value (R330, R334; DESIGN CHOICE, log 186). -/
def State.polStat (s : State) (n : Nat) : Nat :=
  if s.fab.policers.any (fun p => p.num = n) then at_ 32 ((s.policer n).ep / 8000) + (s.policer n).c / 8000 else 0

/-! ### Routing a stored packet to its outputs (R281, R290, R291, R295, R302, R309) -/

/-- The send half whose packet an endpoint injects. -/
def injectKey (p : SwPkt) : Option PeerKey :=
  match p.body with
  | .packet q => if q.ptype ≤ 0x14 ∧ !p.mcast then some { ep := faEp q.src, fa := q.dst, tc := q.tc } else none
  | _ => none

/-- Note that a packet of a send half found no route, or that one that had found a route is sent (R295). -/
def noteRoute (found : Bool) (p : SwPkt) (s : State) : State :=
  match injectKey p with
  | none => s
  | some k => updSend k (fun h => { h with noRoute := if found then none else some (h.noRoute.getD s.clk.now) }) s

/-- The port a packet of a send half last left by (R213). -/
def State.lastHop (s : State) (p : SwPkt) : Option Nat :=
  match injectKey p, p.body with
  | some k, .packet q => if q.retx then (s.fab.hops.find? (fun h => h.peer = k && h.psn = q.psn)).map (·.port) else none
  | _, _ => none

/-- A source other than a fabric port. -/
def internalSource : Source → Bool
  | .port _ => false
  | _ => true

/-- A packet has no route: at its source it is not sent, in transit it is discarded and reported (R295). -/
def noRoute (source : Bool) (cause : Nat) (p : SwPkt) (s : State) : State :=
  if source then noteRoute false p s else noRouteTransit cause p s

/-- A congestion map record of this device (R297). -/
def isMapRecord (source : Bool) (p : SwPkt) : Bool := source && decide (p.vc = 7) && decide (p.mtype = 3)

/-- Queue a stored packet where its route leads (R280-R285, R295). A map record is counted as sent, or as discarded when its collector is
unreachable (R297, R536). -/
def placePacket (source : Bool) (color : Nat) (pid : Nat) (p : SwPkt) (s : State) : State :=
  let avoid := if source then s.lastHop p else none
  let e := { entry0 pid p with color := color, avoid := avoid }
  let sent (s : State) : State := if isMapRecord source p then s.count 2 1 else s
  match routeHop avoid p s with
  | (.deliver o, s) => sent (updEgress o (fun x => { x with q := x.q ++ [{ e with since := s.clk.now }] }) s)
  | (.via port vc d credit, s) =>
    let e := { e with pkt := { p with vc := vc }, detour := d, wait := if credit then none else some s.clk.now }
    sent (queueAt port e s)
  | (.none cause, s) => if isMapRecord source p then s.count 3 1 else noRoute source cause p s

/-- One copy of a line multicast: on a usable port that links to its recipient; a RESULT copy without one is routed; a recipient that is
not routable or UNREACHABLE gets none (R274, R290-R292). -/
def placeCopy (dim : Nat) (pid : Nat) (p : SwPkt) (coord : Nat) (s : State) : State :=
  let p := { p with dst := p.dst / 2 ^ 24 * 2 ^ 24 + coord, mcast := true, mdim := dim }
  let ports := (s.portsTo p.dst dim (coordOf coord dim))
  if !s.routable p.dst ∨ s.unreachable p.dst then s
  else
    match pickOne (s.leastBusy ports) s with
    | (some q, s) => queueAt q { entry0 pid p with residue := true } s
    | (none, s) => if p.vc = 7 then s else placePacket true 0 pid p s

/-! ### Packets that wait in a queue (R281, R295) -/

/-- A queued packet on an adaptive VC is looked up anew as credit and occupancy change, under the configuration set of its first lookup
(R28, R281): it stays where that is among the best choices, or moves; without a candidate it moves to its escape VC; without a route it is
not sent. A packet at a port whose link is not up any more is held there and its wait does not run (R278); at a port that is fenced and up
it drains, or, without credit there, moves to a candidate that has credit, and waits (R281, R286, R357); a pinned packet keeps its port
(R285). Where no candidate has credit its wait runs: at its port while that is a candidate, else at the cheapest. -/
def rewait (port : Nat) (e : QEntry) (s : State) : State :=
  let gen := s.genOfPid e.pid
  if e.begun ∨ e.mirror ∨ e.residue ∨ e.job.isSome ∨ 6 ≤ e.pkt.vc ∨ e.pkt.vc % 2 = 1 then s
  else
    let put (w : Option Nat) (s : State) : State :=
      updEgress (.port port) (fun x => { x with q := updFirst (fun y => y = e) (fun y => { y with wait := w }) x.q }) s
    let hold (s : State) : State := put (some (e.wait.getD s.clk.now)) s
    let out (s : State) : State := updEgress (.port port) (fun x => { x with q := x.q.filter (fun y => y ≠ e) }) s
    let fenced := decide ((s.port port).state = .up) && (s.port port).fenced
    if !(s.view gen).usable port && !fenced then (if e.wait.isNone then s else put none s)
    else if e.pkt.pin then (if cellsOf e.pkt.len ≤ s.credit port e.pkt.vc then put none s else hold s)
    else
      let v := (out s).view gen
      let (l, credit) := v.choices e.avoid e.pkt
      if fenced && decide (cellsOf e.pkt.len ≤ s.credit port e.pkt.vc) then put none s
      else if fenced && !credit then hold s
      else if l.any (fun c => c.port = port && decide (c.detour = e.detour)) && !v.unreachable e.pkt.dst then
        (if credit then put none s else hold s)
      else
        let (hop, v) := routeHop e.avoid e.pkt v
        let s := { s with freeCtr := v.freeCtr }
        match hop with
        | .via q vc d c =>
          let blocked := !c && decide (vc = e.pkt.vc)
          let stays := (avoidPort e.avoid (v.candidates e.pkt)).any (fun x => x.port = port && decide (x.detour = e.detour))
          if blocked && stays then hold s
          else queueAt q { e with pkt := { e.pkt with vc := vc }, wait := if blocked then some (e.wait.getD s.clk.now) else none, detour := d } (out s)
        | .none cause =>
          noRoute ((s.fab.stored.find? (fun x => x.pid = e.pid)).elim true (fun x => internalSource x.src)) cause e.pkt (out s)
        | .deliver _ => s

def rewaitAll (s : State) : State :=
  s.fab.egress.foldl (fun s x => match x.out with
    | .port p => if s.ethPort p then s else x.q.foldl (fun s e => rewait p e s) s
    | _ => s) s

/-! ### Internal sources (R290, R302, R305, R309) -/

/-- A packet of an internal source enters its slice: it is charged, and routed and queued, or one copy for each recipient of a line
multicast; a time message is queued to its port (R438). -/
def injectNow (color : Nat) (x : Inject) (s : State) : State :=
  let (pid, s) := storePacket x.src x.pkt.vc x.pkt.len true x.mcast.isSome 0 s
  match x.mcast, x.port with
  | none, some q => queueAt q (entry0 pid x.pkt) s
  | none, none => placePacket true color pid x.pkt s
  | some (dim, coords), _ => coords.foldl (fun s c => placeCopy dim pid x.pkt c s) s

/-- An earlier packet of the same source and VC waits in a list. -/
def aheadOf (x : Inject) (l : List Inject) : Bool := l.any (fun y => decide (y.src = x.src) && decide (y.pkt.vc = x.pkt.vc))

/-- Packets that wait for a reservation enter as far as it takes them, in order for each source and VC: none is lost for lack of buffer
(R305). -/
def injectGo : List Inject → List Inject → State → State
  | [], kept, s => updFab (fun f => { f with inject := kept }) s
  | x :: rest, kept, s =>
    if aheadOf x kept || s.sliceDead (sliceOf x.src) || !s.roomFor x.src x.pkt.vc (cellsOf x.pkt.len) then injectGo rest (kept ++ [x]) s
    else injectGo rest kept (injectNow 0 x s)

/-- What follows every step of the switch core: charges end, packets that waited for them enter, waits run. -/
def fabSettle (s : State) : State :=
  let s := settleCells s
  noteBlockedAll (rewaitAll (if s.fab.inject.isEmpty then s else injectGo s.fab.inject [] s))

/-- A packet of a chorus cluster or the management logic: it enters, or waits for its reservation (R305). -/
def inject (x : Inject) (s : State) : State := fabSettle (updFab (fun f => { f with inject := f.inject ++ [x] }) s)

/-- A packet from a fabric port is charged, routed and queued (R302). -/
def switchTake (port seq : Nat) (whole : Bool) (p : SwPkt) (s : State) : State :=
  let (pid, s) := storePacket (.port port) p.vc p.len whole false seq s
  let s := mirrorCopies port 0 pid p s
  fabSettle (placePacket false 0 pid p s)

/-- An endpoint's packet enters its slice in its colour. -/
def injectStored (src : Source) (color : Nat) (p : SwPkt) (s : State) : State :=
  fabSettle (injectNow color { src := src, pkt := p, mcast := none, port := none } s)

/-- An endpoint's packet at injection: behind a deferred packet of its class it waits; else it is policed (R331). -/
def injectEp (e : Nat) (p : SwPkt) (s : State) : State :=
  let wait (by_ : Option (Nat × Nat × Nat)) (s : State) : State :=
    updFab (fun f =>
      if f.deferred.any (fun d => d.ep = e && d.tc = p.tc) then
        { f with deferred := updFirst (fun d => d.ep = e && d.tc = p.tc) (fun d => { d with pkts := d.pkts ++ [p] }) f.deferred }
      else { f with deferred := f.deferred ++ [{ ep := e, tc := p.tc, wait := by_, pkts := [p] }] }) s
  if s.fab.deferred.any (fun d => d.ep = e && d.tc = p.tc) || s.sliceDead e then wait none s
  else if !s.roomFor (.ep e) p.vc (cellsOf p.len) then wait none s
  else
    match police e p s with
    | (.defer n fuel, s) => wait (some (n, fuel, s.cmd.gen)) s
    | (.color c, s) => injectStored (.ep e) c p s

/-- The MAC does not transmit the frame of a SEND, which the port discards: it ends with a status that is not OK and that no rule names, a
free value (R94, R315, R317, R361; DESIGN CHOICE, log 184). -/
def ethLost (jid : Nat) (s : State) : State :=
  let (v, s) := s.drawNat
  endJob jid (1 + v % 13) s

/-- A frame of a SEND on a service port's TX_QID is queued there; it waits at the endpoint while the reservation is full (R361). -/
def ethQueue (port prio : Nat) (j : Job) (bytes : List Byte) (s : State) : Bool × State :=
  if !s.roomFor (.ep j.ep) prio (cellsOf bytes.length) then (false, s)
  else
    let p : SwPkt := { dst := 0, src := 0, vc := prio, tc := 3, pin := false, salt := 0, detoured := 0, ce := false, mcast := false, mdim := 0, mtype := 0, hops := 0, len := bytes.length, retx := false, pkey := none, body := .frame bytes }
    let (pid, s) := storePacket (.ep j.ep) prio bytes.length true false 0 s
    let (ok, s) := queueEth port prio { entry0 pid p with job := some j.jid } bytes s
    (true, settleCells (if ok then s else ethLost j.jid s))

/-! ### The next frame of an output (R303, R320-R322, R341) -/

/-- A sent frame stays in a replay window: the output is a fabric port. -/
def State.keepsFrame (s : State) : Output → Bool
  | .port p => !s.ethPort p
  | _ => false

/-- Cells of the replay pool that frames begun cut-through will take (R303, R306). -/
def State.replayPromised (s : State) (n : Nat) : Nat :=
  sumBy (fun x => if x.slice = n && !x.ended && !x.whole && s.fab.egress.any (fun o => o.q.any (fun e => e.pid = x.pid && e.begun)) then x.cells else 0)
    s.fab.stored

/-- The replay pool takes what an output needs of it: the last queue reference of a packet that a replay window holds, or is about to hold,
charges its cells there; a frame that begins cut-through has them kept for it (R303, R306). -/
def State.replayFits (s : State) (o : Output) (e : QEntry) : Bool :=
  match s.fab.stored.find? (fun x => x.pid = e.pid) with
  | none => true
  | some x =>
    let refs := sumBy (fun (o : Egress) => (o.q.filter (fun y => y.pid = e.pid && !y.mirror)).length) s.fab.egress
    e.mirror || (decide (1 < refs) && x.whole) || x.ended || !(s.keepsFrame o || s.replayRef x.pid)
      || decide (s.replayUsed x.slice + s.replayPromised x.slice + x.cells ≤ s.fldI .swcSharedCtrl x.slice 0 17 0)

/-- Outstanding frames of a port (R340). -/
def State.outstanding (s : State) (p : Nat) : Nat := subMod (s.seqMod p) (s.port p).next (s.port p).oldest

/-- LLR_WINDOW.FRAMES, LLR_REPLAY_LIMIT.CELLS in force (R341, R358). -/
def State.frameLimit (s : State) (p : Nat) : Nat :=
  let f := atLeast1 (s.fldI .llrWindow p 0 14 0)
  min (if s.mode p = 1 then min f 511 else f) (s.seqMod p / 2 - 1)

def State.cellLimit (s : State) (p : Nat) : Nat := clamp 33 8192 (s.fldI .llrReplayLimit p 0 13 0)

/-- Cells that a port's replay window holds. -/
def Port.windowCells (p : Port) : Nat := sumBy (fun w => if w.spilled then 0 else w.cells) p.win

/-- Cells a BRODANATER port's spill area still takes (R359). -/
def State.spillFree (s : State) (p : Nat) : Nat :=
  if s.mode p = 1 then s.fldI .llrBrdSpill p 0 15 0 * 8 - sumBy (fun w => if w.spilled then w.cells else 0) (s.port p).win else 0

/-- Spill the oldest frames of a window that are still in cells until `need` cells are released; a frame for which the `free` cells of the
area do not suffice ends it. Answers the window and the cells released (R359). -/
def spillOldest : Nat → Nat → List WinEntry → List WinEntry × Nat
  | _, _, [] => ([], 0)
  | need, free, w :: l =>
    if w.spilled then let r := spillOldest need free l; (w :: r.1, r.2)
    else if need = 0 ∨ free < w.cells then (w :: l, 0)
    else let r := spillOldest (need - w.cells) (free - w.cells) l; ({ w with spilled := true } :: r.1, w.cells + r.2)

/-- The window of a port once room is made for more cells, and the cells released for that (R341, R359). -/
def State.spilledFor (s : State) (p cells : Nat) : List WinEntry × Nat :=
  spillOldest ((s.port p).windowCells + cells - s.cellLimit p) (s.spillFree p) (s.port p).win

/-- The frame fits the replay window, once the oldest frames of a BRODANATER port are spilled where that is needed (R341, R359). -/
def State.windowFits (s : State) (p cells : Nat) : Bool :=
  decide ((s.port p).windowCells + cells ≤ s.cellLimit p + (s.spilledFor p cells).2)

/-- The lane rate of a port in MBd, times its lanes (R306, R336). -/
def State.portRate (s : State) (p : Nat) : Nat :=
  mapCount (s.port p).map * (if s.mode p = 1 then 53125 else 113438)

/-- A packet that is not stored whole yet may go cut-through to a port (R306). -/
def State.cutThrough (s : State) (port : Nat) (x : Stored) (p : SwPkt) : Bool :=
  match x.src with
  | .port i =>
    (decide (6 ≤ p.vc) || !bit ((s.view x.gen).raw .swcFwdMode (i / 16) (i % 16)) p.tc) && decide (s.portRate i ≤ s.portRate port)
      && !s.ethPort i
  | _ => false

/-- An entry's packet is stored whole. -/
def State.wholeEntry (s : State) (e : QEntry) : Bool := (s.fab.stored.find? (fun x => x.pid = e.pid)).elim true (·.whole)

/-- An entry's packet is whole, or may go cut-through. -/
def State.startable? (s : State) (port : Nat) (e : QEntry) : Bool :=
  match s.fab.stored.find? (fun x => x.pid = e.pid) with
  | none => true
  | some x => x.whole || (!e.mirror && s.cutThrough port x e.pkt)

/-- A VC queue's head can go at a fabric port, the replay pool apart (R320, R341, R349). -/
def State.canGo (s : State) (p : Nat) (e : QEntry) : Bool :=
  decide (cellsOf e.pkt.len ≤ s.credit p e.pkt.vc) && decide (s.outstanding p < s.frameLimit p)
    && s.windowFits p (cellsOf e.pkt.len) && s.startable? p e

/-- The head of a VC queue at an output, when it is ready (R320). -/
def State.readyHead (s : State) (o : Output) (v : Nat) : Option QEntry :=
  match (s.egress o).headOf v with
  | none => none
  | some e =>
    match o with
    | .port p => if s.canGo p e && s.replayFits o e then some e else none
    | _ => if s.wholeEntry e && s.replayFits o e then some e else none

/-- Quantum of a class (R321). -/
def State.quantum (s : State) (c : Nat) : Nat :=
  let q := max 64 (s.fld .qosQuantum 0 (16 * c + 15) (16 * c))
  if c = 0 then
    let k := s.fab.pwr.cls
    max 64 (q * clamp 1 8 (s.fld .qosTc0Scale 0 (4 * k + 3) (4 * k)) / 8)
  else q

def nextClass (c : Nat) : Nat := if c = 0 then 2 else c - 1

/-- The deficit round robin over TC2, TC1, TC0: the entry that goes and the output's new deficits (R320). -/
def drr (s : State) (o : Output) : Nat → Egress → Option QEntry × Egress
  | 0, x => (none, x)
  | fuel + 1, x =>
    let c := x.cur
    let seen := (x.visited[c]?).getD false
    let def_ := nth x.deficit c
    let leave (d : Nat) : Egress := { x with deficit := setNth c d x.deficit, visited := setNth c false x.visited, cur := nextClass c }
    match (s.readyHead o (2 * c + 1)).orElse (fun _ => s.readyHead o (2 * c)) with
    | some e =>
      let d := if seen then def_ else min 1048575 (def_ + s.quantum c)
      if e.pkt.len ≤ d then (some e, { x with deficit := setNth c (d - e.pkt.len) x.deficit, visited := setNth c true x.visited })
      else drr s o fuel (leave d)
    | none =>
      let empty := x.q.all (fun e => e.pkt.vc / 2 ≠ c)
      drr s o fuel (leave (if empty then 0 else def_))

/-- The next frame of a fabric port or an internal sink, and the output after the choice (R320). -/
def egressNext (s : State) (o : Output) : Option QEntry × Egress :=
  let x := s.egress o
  match s.readyHead o 7 with
  | some e => (some e, x)
  | none =>
    match s.readyHead o 6 with
    | some e => (some e, x)
    | none => if (List.range 6).any (fun v => (s.readyHead o v).isSome) then drr s o 512 x else (none, x)

/-- The next frame of a service port: strict priority among those not paused whose head is stored whole and not held back by the replay
pool (R303, R306, R322). -/
def ethNext (s : State) (p : Nat) : Option QEntry :=
  let x := s.egress (.port p)
  let paused (v : Nat) : Bool := (s.port p).paused.any (fun a => a.1 = v && decide (s.clk.now < a.2))
  (List.range 8).reverse.findSome? (fun v =>
    if paused v then none else (x.headOf v).filter (fun e => s.wholeEntry e && s.replayFits (.port p) e))

/-- Heads of an output that the replay pool alone holds back: their waits are counted, each once (R303). -/
def noteStalls (o : Output) (s : State) : State :=
  (List.range 8).foldl (fun s v =>
    match (s.egress o).headOf v with
    | none => s
    | some e =>
      let ready := match o with
        | .port p => if s.ethPort p then s.wholeEntry e else s.canGo p e
        | _ => s.wholeEntry e
      if e.stalled || !ready || s.replayFits o e then s
      else (updEgress o (fun x => { x with q := updFirst (fun y => y = e) (fun y => { y with stalled := true }) x.q }) s).count 5 1) s

end Sys2Proof.Machine
end

