-- ==== Sys2Proof/Machine/JobRun.lean ====
section
/-! DEFINITION. What an accepted job does at the initiator: its fragment table, its local checks and reads, and the packets of
each opcode (R79-R84, R116, R119, R147, R180, R197, R198, R237-R241, R258, R493, R584). -/

namespace Sys2Proof.Machine

/-! ### Packets (R197, R198) -/

/-- IMM_DATA of a descriptor, in the upper half of a header word. -/
def immHigh (ws : List Word) : Nat := if dImm ws then at_ 32 (dImmData ws) else 0

/-- The packets of a job's operation, with the payload or operand block that it read. INLINE on the FIRST entry of a chain: the payload is
W6-W7, and the chain's fragments are not used (R81; DESIGN CHOICE against R84, log 131). -/
def jobPackets (j : Job) (rts : Bool) : List Packet :=
  let ws := j.ws
  let op := dOp ws
  let imm := dImm ws
  let data := if dInline ws then dInlineData ws else j.buf
  if op = opSend then
    dataPackets .send j.pkey j.group (fun p => { p with
      immValid := imm
      solicited := dSolicited ws
      aux := dTqid ws
      e0 := word (immHigh ws + dLen ws) }) data false
  else if op = opTsend ∧ rts then
    let list := bytesOf (j.frags.flatMap fragWords)
    [{ packet0 .tsend j.pkey j.group true true list with
      immValid := imm
      solicited := dSolicited ws
      kind := true
      aux := dCtx ws
      e0 := word (dW4 ws)
      e1 := word (immHigh ws + dLen ws) }]
  else if op = opTsend then
    dataPackets .tsend j.pkey j.group (fun p => { p with
      immValid := imm
      solicited := dSolicited ws
      aux := dCtx ws
      e0 := word (dW4 ws)
      e1 := word (immHigh ws + dLen ws) }) data false
  else if op = opPut then
    dataPackets .put j.pkey j.group (fun p => { p with
      immValid := imm
      solicited := dSolicited ws
      aux := if imm then dTqid ws else 0
      e0 := word (dW4 ws)
      e1 := word (at_ 32 (dRkey ws) + dLen ws) }) data imm
      ++ (if imm then [{ packet0 .put j.pkey j.group false true [] with e0 := word (immHigh ws) }] else [])
  else if op = opGet then
    [{ packet0 .get j.pkey j.group true true [] with
      e0 := word (dW4 ws)
      e1 := word (at_ 32 (dRkey ws) + dLen ws) }]
  else if op = opAtomic then
    let wide := dWidthCode ws = 1
    let operands := if wide then j.buf else toBytes 8 (wd ws 6) ++ toBytes 8 (wd ws 7)
    [{ packet0 .atomic j.pkey j.group true true ((if imm then toBytes 8 (dImmData ws) else []) ++ operands) with
      immValid := imm
      solicited := dSolicited ws
      aux := if imm then dTqid ws else 0
      e0 := word (dW4 ws)
      e1 := word (at_ 32 (dRkey ws) + at_ 28 (dSubop ws) + at_ 24 (dWidthCode ws)) }]
  else
    let kind := if op = opLockAcquire then 0 else 1
    [{ packet0 .lock j.pkey j.group true true [] with
      e0 := word (lockE0 kind (if kind = 0 then dPrio ws else 0) j.mid (dLock ws)) }]

/-- A job reads host memory before it sends or contributes (R80, R237). An RTS carries no data of its own (R119). -/
def readsLocal (j : Job) : Bool :=
  let op := j.recOp
  !j.rts && (op == opSend || op == opTsend || op == opPut || op == opChorus || (op == opAtomic && dWidthCode j.ws == 1)) && !dInline j.ws

/-- Where the payload of packet i of a job came from: its local buffer, beside the immediate data of an ATOMIC (R215). -/
def jobSource (j : Job) (unit i : Nat) (p : Packet) : Option DataSource :=
  if !readsLocal j || p.data.isEmpty then none
  else
    let keep := if j.recOp = opAtomic ∧ p.immValid then 8 else 0
    some { asid := j.asid, mid := j.mid, pkey := j.pkey, port := j.ep, unit := unit, region := none, exts := fragSlice j.frags (4096 * i) (p.data.length - keep), keep := keep }

/-- The packets of a job as they wait for their PSNs. -/
def jobOut (j : Job) (unit : Nat) : List OutPkt :=
  (jobPackets j j.rts).zipIdx.map (fun (p, i) => { waitingPkt (.job j.jid) p with src := jobSource j unit i p })

/-- Hand the packets of a job to transport; it waits when the peer state cannot be used yet (R190, R191). -/
def jobSend (jid : Nat) (s : State) : State :=
  match s.job? jid with
  | none => s
  | some j =>
    if s.keyMissing j.pkey then
      let s := endJob jid stProtection s
      if j.recOp = opLockAcquire then dropLockRec jid s else s
    else
    match peerReady j.peer s with
    | (false, s) => s
    | (true, s) => lockCancel jid (sendOut j.peer (jobOut j (s.unitOf j)) (updJob jid (fun j => { j with phase := .sent }) s))

/-- Payload of an Ethernet SEND, padded to 60 bytes (R361). -/
def ethFrame (j : Job) : List Byte :=
  let b := if dInline j.ws then dInlineData j.ws else j.buf
  b ++ List.replicate (60 - b.length) 0

/-- Hand a SEND's frame to its service port (R361). -/
def ethSend (port jid : Nat) (s : State) : State :=
  match s.job? jid with
  | none => s
  | some j =>
    match ethQueue port (dTqid j.ws % 8) j (ethFrame j) s with
    | (true, s) => updJob jid (fun j => if j.phase = .ended then j else { j with phase := .sent }) s
    | (false, s) => s

/-- Place the bytes of a frame into the buffer of its SRQ entry, once that entry's fragments are known, and complete it (R89,
R362). -/
def frameGo (jid : Nat) (s : State) : State :=
  match s.svc.frames.find? (fun f => f.1 = jid) with
  | none => s
  | some (_, _, bs) =>
    let drop (s : State) : State := { s with svc := { s.svc with frames := s.svc.frames.filter (fun f => f.1 ≠ jid) } }
    match s.job? jid with
    | none => drop s
    | some j =>
      if j.phase = .accepted ∨ j.phase = .readFtab then s
      else
        match recvPlace jid 0 bs.length bs (.job jid) s with
        | (false, s) => s
        | (true, s) => settleCells (recvEnd jid bs.length (drop s))

/-! ### Local reads (R147, R180, R399) -/

/-- A request of a job is outstanding. -/
def State.jobReading (s : State) (jid : Nat) : Bool :=
  s.hif.reqs.any (fun r => r.use == .payload jid || r.use == .ftab jid || r.use == .atomicBlock jid)

/-! ### Collectives (R236-R241) -/

/-- Take a member's collective into its operation: the next OPSEQ of its rank, and the chunks it must give (R238). `lost` says that
it ends with MEMBER_LOST in its turn: in a group that failed it gives nothing, and at a node in LEAVING it gives POISON for every chunk
(R236, R249). -/
def chorusEnter (g : Group) (j : Job) (rank : Nat) (failed : Option Nat) (lost : Bool) (s : State) : State :=
  let (coll, oper, dtype, count, root) := jobColl j
  let q := (assoc rank g.nextOpseq).getD 0
  let s := noteStart (chorusDomain g.home) s
  let s := updGroup g.num (fun x => { x with nextOpseq := assocSet rank (q + 1) x.nextOpseq }) s
  let s := ensureOp g.num q coll oper dtype root s
  let todo := if !lost then memberChunks coll oper dtype count root rank g.total
    else if g.state = .leaving then resultChunks coll oper dtype count g.total else []
  let m : MemberOp := { jid := j.jid, rank := rank, data := [], ready := lost, todo := todo, got := [], written := 0, failed := failed, sendFailed := lost, lost := lost, ended := false }
  match (s.group? g.num).bind (·.op? q) with
  | none => s
  | some o =>
    let s := updOp g.num q (fun o => { o with members := o.members ++ [m], given := o.given.orElse (fun _ => some (count, root)) }) s
    let s := if jobDiffers o j then chorusLoss g.num 4 ((g.locals.find? (fun x => x.1 = rank)).elim 0 (fun x => x.2.2)) none s else s
    giveResults g.num q (if lost then membersGive g.num q s else s)

/-- The send buffer check, and the result buffer check, of a member (R237, R241). A ROOT that is no rank, where the collective has one,
fails with RANGE (DESIGN CHOICE, log 200). -/
def chorusCheck (g : Group) (j : Job) (rank : Nat) (s : State) : Option Nat :=
  let (coll, oper, dtype, count, root) := jobColl j
  let sb := sendBytes coll oper dtype count root rank g.total
  let rb := resultBytes coll oper dtype count root rank g.total
  if 2 ^ 31 ≤ sb ∨ 2 ^ 31 ≤ rb ∨ ((coll = 1 ∨ coll = 2) ∧ g.total ≤ root) then some stRange
  else
    let st := if sb = 0 then stOk else s.fragCheck j .localRead [{ addr := dLaddr j.ws, key := dLkey j.ws, fin := true, len := sb }]
    let st := if st ≠ stOk then st
      else if rb = 0 then stOk else s.fragCheck j .localWrite [{ addr := dW4 j.ws, key := dRkey j.ws, fin := true, len := rb }]
    if st = stOk then none else some st

/-- The result buffer of a member's job (R237). -/
def resultFrag (g : Group) (j : Job) (rank : Nat) : List Frag :=
  let (coll, oper, dtype, count, root) := jobColl j
  [{ addr := dW4 j.ws, key := dRkey j.ws, fin := true, len := resultBytes coll oper dtype count root rank g.total }]

/-! ### The run of a job -/

/-- The send buffer of a member has been read: its result buffer is translated and checked whole, before its first byte, and it contributes
(R241, R483). -/
def chorusReady (jid : Nat) (s : State) : State :=
  match s.job? jid with
  | none => s
  | some j =>
    let (r, xp, s) := xRun (jobAccess j (s.unitOf j) 1) (.job jid) j.xp s
    let ends := fun st bs s => memberReady jid st bs (updJob jid (fun j => { j with xp := { xp with todo := [] }, buf := [] }) s)
    match r with
    | .pending => updJob jid (fun j => { j with xp := xp }) s
    | .done => ends none j.buf s
    | .fault => ends (some stXltFault) [] s
    | .refused => ends (some stProtection) [] s

/-- A job's local data is complete: it sends, or it contributes (R231, R241). -/
def jobReady (jid : Nat) (s : State) : State :=
  match s.job? jid with
  | none => s
  | some j =>
    if j.recOp = opChorus then
      let g := s.group? (dGroup j.ws)
      let rank := (g.bind (fun g => g.locals.find? (fun m => m.2.1 = j.qid))).elim 0 (·.1)
      let frags := g.elim [] (fun g => resultFrag g j rank)
      let ranges := (frags.filter (·.len != 0)).map (fun f => (f.addr, f.len))
      chorusReady jid (updJob jid (fun j => { j with phase := .waiting, frags := frags, checked := true, xp := xStart ranges }) s)
    else
      match (if j.recOp = opSend then s.txPort j.qid else none) with
      | some port => ethSend port jid s
      | none => jobSend jid s

/-- A local check or read of a job failed: it ends with the status, or contributes POISON (R147, R148, R241). -/
def jobFailed (jid status : Nat) (s : State) : State :=
  match s.job? jid with
  | none => s
  | some j =>
    if j.recOp = opChorus then memberReady jid (some status) [] (updJob jid (fun j => { j with phase := .waiting, buf := [], todo := [] }) s)
    else endJob jid status s

/-- Issue the next read of a job's local data, or go on when all of it is here. -/
def jobRead (jid : Nat) (s : State) : State :=
  match s.job? jid with
  | none => s
  | some j =>
    if s.jobReading jid then s
    else
      match j.todo with
      | [] => jobReady jid s
      | g :: rest =>
        let use : ReqFor := if j.recOp = opAtomic then .atomicBlock jid else .payload jid
        issueReq j.ep j.mid g.bus g.len use (fun id => .hostRead id j.ep g.bus g.len (decide (g.type = 1))) (updJob jid (fun j => { j with todo := rest }) s)

/-- Check and translate the local buffers of a job whose fragments are known, then read them (R147, R483). -/
def jobLocal (jid : Nat) (s : State) : State :=
  match s.job? jid with
  | none => s
  | some j =>
    let write := j.recOp == opGet || j.recOp == opAtomic
    match localReady (.job jid) jid write s with
    | (none, s) => updJob jid (fun j => { j with phase := .xlate }) s
    | (some st, s) =>
      if st ≠ stOk then jobFailed jid st s
      else
        let segs := (s.job? jid).elim [] (·.xp.segs)
        jobRead jid (updJob jid (fun j => { j with phase := .readData, todo := if readsLocal j then segs else [], buf := [] }) s)

/-- A collective starts (R228, R236, R238, R241). It waits while its group is JOINING. A group that is not held here, or of which the queue
is no member, gives PROTECTION (DESIGN CHOICE, log 201). -/
def chorusStart (jid : Nat) (s : State) : State :=
  match s.job? jid with
  | none => s
  | some j =>
    match s.group? (dGroup j.ws) with
    | none => endJob jid stProtection s
    | some g =>
      match g.locals.find? (fun m => m.2.1 = j.qid) with
      | none => endJob jid stProtection s
      | some (rank, _, _) =>
        if g.pkey ≠ j.pkey then endJob jid stProtection s
        else
          match g.state with
          | .joining => updJob jid (fun j => { j with phase := .waiting }) s
          | .failed | .leaving => chorusEnter g j rank (some stMemberLost) true (updJob jid (fun j => { j with phase := .waiting }) s)
          | .active =>
            let (coll, oper, dtype, count, root) := jobColl j
            let sb := sendBytes coll oper dtype count root rank g.total
            let failed := chorusCheck g j rank s
            let s := updJob jid (fun j => { j with
              phase := .xlate
              checked := failed.isNone && sb == 0
              frags := if sb = 0 then [] else [{ addr := dLaddr j.ws, key := dLkey j.ws, fin := true, len := sb }] }) s
            let s := chorusEnter g j rank failed false s
            match failed with
            | some st => jobFailed jid st s
            | none => jobLocal jid s

/-- A member reads its send buffer again, since a chunk of its operation is rebuilt (R252). -/
def chorusReread (g : Group) (j : Job) (s : State) : State :=
  let rank := (g.locals.find? (fun m => m.2.1 = j.qid)).elim 0 (·.1)
  let (coll, oper, dtype, count, root) := jobColl j
  let sb := sendBytes coll oper dtype count root rank g.total
  jobLocal j.jid (updJob j.jid (fun j => { j with
    phase := .xlate
    checked := sb == 0
    xp := xStart []
    frags := if sb = 0 then [] else [{ addr := dLaddr j.ws, key := dLkey j.ws, fin := true, len := sb }] }) s)

/-- A job whose fragments are known begins its operation. -/
def jobBegin (jid : Nat) (s : State) : State :=
  match s.job? jid with
  | none => s
  | some j =>
    let op := j.recOp
    if op = opNop then endJob jid stOk s
    else if op = opTcancel then mtcCancel jid s
    else if op = opTrecv then mtcPost jid s
    else if op = opRecv ∨ op = opRecvImm then frameGo jid (updJob jid (fun j => { j with phase := .waiting }) s)
    else if op = opSend ∧ (s.txPort j.qid).isSome then
      if dLen j.ws < 14 ∨ 9212 < dLen j.ws then endJob jid stRange s
      else if dInline j.ws ∨ j.frags.isEmpty then jobReady jid (updJob jid (fun j => { j with phase := .readData }) s)
      else jobLocal jid s
    else if s.keyMissing j.pkey then
      let s := endJob jid stProtection s
      if op = opLockAcquire then dropLockRec jid s else s
    else if op = opChorus then chorusStart jid s
    else if j.rts ∧ (s.queue? j.qid).elim true (fun q => q.state == .draining || q.reset) then endJob jid stCanceled s
    else if dInline j.ws ∨ j.frags.isEmpty then jobReady jid (updJob jid (fun j => { j with phase := .readData }) s)
    else jobLocal jid s

/-- Fragment table bytes still to read: the first page's, then the rest (R83). -/
def ftabNext (j : Job) : Nat × Nat :=
  let a := dLaddr j.ws + j.buf.length
  (a, min (4096 - j.buf.length) (4096 - a % 4096))

/-- Read the next part of a job's fragment table (R83, R180, R485). -/
def ftabGo (jid : Nat) (s : State) : State :=
  match s.job? jid with
  | none => s
  | some j =>
    if s.jobReading jid then s
    else
      let (a, n) := ftabNext j
      let s := updJob jid (fun j => { j with phase := .readFtab }) s
      let x : Accessor := { asid := j.asid, mid := j.mid, pkey := j.pkey, port := j.ep, kind := 0, unit := s.homeOf j.qid, fetch := true, passed := [] }
      match xRun x (.job jid) (xStart [(a, n)]) s with
      | (.done, xp, s) =>
        let b := (xp.segs.head?).elim 0 (·.bus)
        let ns := (xp.segs.head?).elim false (fun g => decide (g.type = 1))
        issueReq j.ep j.mid b n (.ftab jid) (fun id => .hostRead id j.ep b n ns) s
      | (.pending, _, s) => s
      | (.fault, _, s) => endJob jid stXltFault s
      | (.refused, _, s) => endJob jid stProtection s

/-- A part of a fragment table has come: the table ends in it, or more is read, or it is inconsistent (R83). -/
def ftabData (jid : Nat) (bs : List Byte) (s : State) : State :=
  let s := updJob jid (fun j => { j with buf := j.buf ++ bs }) s
  match s.job? jid with
  | none => s
  | some j =>
    let ws := wordsOf (j.buf.length / 8) j.buf
    if (splitEnd (fragsOf ws)).isNone ∧ j.buf.length < 4096 then ftabGo jid s
    else
      match tableFrags (dLen j.ws) ws with
      | none => endJob jid stRange s
      | some fs =>
        let log := jobLog j.recOp fs.length
        let s := updJob jid (fun j => { j with frags := fs, buf := [], phase := .xlate, checked := false, logBytes := log }) s
        jobBegin jid s

/-- Start an accepted job, under the configuration set in which it was looked up (R471, R584). -/
def jobStart (jid : Nat) (s : State) : State :=
  match s.job? jid with
  | none => s
  | some j => if j.phase ≠ .accepted then s else asOf j.gen (if dFtab j.ws then ftabGo jid else jobBegin jid) s

/-- A receive of an SRQ may start: the receives accepted before it have started, and where it has FENCE they have completed (R584). -/
def State.recvStartable (s : State) (j : Job) : Bool :=
  let earlier := (s.liveJobs j.qid).takeWhile (fun x => x.jid ≠ j.jid)
  !earlier.any (fun x => x.phase == .accepted) && (!dFence j.ws || earlier.isEmpty)

/-- Start a receive of an SRQ, where it may start. One whose operation has ended meanwhile ends at once (R152, R584). -/
def recvStart (jid : Nat) (s : State) : State :=
  match s.job? jid with
  | none => s
  | some j =>
    if j.phase ≠ .accepted ∨ !s.recvStartable j then s
    else if j.recOp = opRecvImm then
      match j.due with
      | some st => endJob jid st s
      | none => updJob jid (fun j => { j with phase := .waiting }) s
    else jobStart jid s

/-- End the RECV_IMM of an operation; one that has not started yet ends once it has (R152, R584, R585). -/
def recvImmEnd (jid status : Nat) (s : State) : State :=
  match s.job? jid with
  | none => s
  | some j => if j.phase = .accepted then updJob jid (fun j => { j with due := some status }) s else endJob jid status s

/-- Go on with a job after something it waited for, under the configuration set in which it was looked up (R471). -/
def jobResume (jid : Nat) (s : State) : State :=
  match s.job? jid with
  | none => s
  | some j => asOf j.gen (fun s =>
    match j.phase with
    | .readFtab => ftabGo jid s
    | .xlate => if s.jobReading jid then s else jobLocal jid s
    | .readData => jobRead jid s
    | .waiting =>
      if j.recOp = opTrecv then
        match s.svc.rndvs.find? (fun r => r.jid = jid) with
        | some r => rndvGo r.peer r.rts s
        | none => copyUnexp jid s
      else if j.recOp = opChorus then
        match s.group? (dGroup j.ws) with
        | none => s
        | some g =>
          match g.ops.find? (fun o => o.members.any (fun m => m.jid = jid)) with
          | some o =>
            if o.members.any (fun m => m.jid = jid && !m.ready) && !j.xp.todo.isEmpty then chorusReady jid s
            else if o.members.any (fun m => m.jid = jid && !m.ready && !m.sendFailed) then chorusReread g j s
            else giveResults g.num o.opseq s
          | none => chorusStart jid s
      else if j.recOp = opRecv then frameGo jid s
      else s
    | _ => s) s

/-- Peer states whose entry of the wheel fell due while they were evicted are fetched as soon as the cache has room (R190, R323). -/
def peersDue (s : State) : State :=
  (s.trn.peers.filter (fun p => p.due && p.resident == .evicted)).foldl (fun s p => startPeerFetch p.key s) s

/-- Jobs and operations that wait for a peer state try again (R190, R191). -/
def peerWake (s : State) : State :=
  let s := peersDue s
  waitingGo ((s.qmg.jobs.filter (fun j => j.phase == .readData && j.todo.isEmpty && j.recOp != opChorus)).foldl
    (fun s j => if s.jobReading j.jid then s else jobResume j.jid s) s)

/-- Collectives that wait for their group go on (R236). -/
def groupWake (g : Nat) (s : State) : State :=
  (s.qmg.jobs.filter (fun j => j.phase == .waiting && j.recOp == opChorus && dGroup j.ws == g)).foldl
    (fun s j => jobResume j.jid s) s

/-! ### Start order (R258, R584) -/

/-- A job prepares: it has started and not yet handed its packets, its post or its contribution over. -/
def preparing (j : Job) : Bool :=
  j.phase == .xlate || j.phase == .readFtab || j.phase == .readData

/-- The first accepted job of a queue that has not started, when it may start: the jobs of a queue start in ring order, a fenced one
and a LOCK_RELEASE after every earlier job has completed (R258, R584). Without FENCE a job also waits until each one started before it has
handed its packets, its post or its contribution over (DESIGN CHOICE, log 195). -/
def State.startable (s : State) (qid : Nat) : Option Job :=
  let l := s.liveJobs qid
  match l.find? (fun j => j.phase == .accepted) with
  | none => none
  | some j =>
    let earlier := l.takeWhile (fun x => x.jid ≠ j.jid)
    if earlier.any preparing then none
    else if (dFence j.ws || j.recOp == opLockRelease) && !earlier.isEmpty then none
    else some j

end Sys2Proof.Machine
end

