-- ==== Sys2Proof/Machine/Target.lean ====
section
/-! DEFINITION. Operations at the target: SRQ entries for messages and immediate data, PUT, GET and ATOMIC on regions, atomics on
device variables, and what responses do at the initiator (R89, R143-R159, R179, R268, R269, R585, R586). -/

namespace Sys2Proof.Machine

/-! ### Operations in progress -/

def State.target? (s : State) (k : PeerKey) (psn : Pos) : Option TargetOp :=
  s.rma.targets.find? (fun t => t.peer = k && t.psn = psn)

def updTarget (k : PeerKey) (psn : Pos) (f : TargetOp → TargetOp) (s : State) : State :=
  { s with rma := { s.rma with targets := updAll (fun t => t.peer = k && t.psn = psn) f s.rma.targets } }

/-- An operation begins, under the configuration set in force (R471). -/
def addTarget (t : TargetOp) (s : State) : State :=
  { s with rma := { s.rma with targets := s.rma.targets ++ [{ t with gen := s.cmd.gen }] } }

def dropTarget (k : PeerKey) (psn : Pos) (s : State) : State :=
  { s with rma := { s.rma with targets := s.rma.targets.filter (fun t => !(t.peer = k && t.psn = psn)) } }

/-- Packets of an operation, from its FIRST packet (R198). -/
def opPackets (p : Packet) : Nat :=
  let parts := fun (n : Nat) => max 1 ((n + 4095) / 4096)
  if p.ptype = PType.send.code then parts (bits p.e0.toNat 30 0)
  else if p.ptype = PType.tsend.code then (if p.kind then 1 else parts (bits p.e1.toNat 30 0))
  else if p.ptype = PType.put.code then parts (bits p.e1.toNat 30 0) + b1 p.immValid
  else if p.ptype = PType.getResp.code then parts (bits p.e1.toNat 30 0)
  else 1

/-- PSN of an operation's last packet. -/
def opLast (p : Packet) : Pos := p.psn + BitVec.ofNat 32 (opPackets p - 1)

/-- An operation in progress, from its FIRST packet. -/
def target0 (k : PeerKey) (p : Packet) : TargetOp :=
  { peer := k, psn := p.psn, last := opLast p, ptype := p.ptype, status := stOk, region := none, mid := 0, asid := 0, addr := 0, len := 0, placed := 0, recv := none, imm := none, subop := 0, width := 0, operand := 0, compare := 0, issued := false, tries := 0, seen := 0, todo := [], xp := xStart [], bus := 0, late := [], data := [], answered := false, pkey := p.pkey, group := p.group, gen := 0 }

/-! ### SRQ entries (R69, R151, R152, R582, R585) -/

/-- What an SRQ answers when an arrival wants its next entry. -/
inductive SrqAns where
  | got (jid : Nat)
  | refuse (status : Nat)
  | notNow (reason : Nat)
  deriving DecidableEq, Repr

/-- A refusal for lack of a CQ slot; the first begins a refusal period of the CQ (R69). -/
def cqRefuse (cq : Nat) (s : State) : State :=
  updSink cq (fun k => { k with refusal := if k.refusal.isNone then some s.clk.now else k.refusal }) s

/-- Take or reserve the next entry of the target SRQ for an arriving operation (R69, R151, R152, R582). -/
def srqTake (k : PeerKey) (pkey tqid recOp : Nat) (s : State) : SrqAns × State :=
  match s.queue? tqid with
  | none => (.refuse (if 0x1000 ≤ tqid then stQueueError else stProtection), s)
  | some q =>
    if q.kind ≠ .srq ∨ q.attr.ep ≠ k.ep ∨ q.attr.pkey ≠ pkey then (.refuse stProtection, s)
    else if q.state = .error ∨ q.state = .draining then (.refuse stQueueError, s)
    else
      match s.queue? q.attr.cq with
      | none => (.refuse stQueueError, s)
      | some c =>
        if c.state = .error ∨ c.state = .draining then (.refuse stQueueError, s)
        else if q.state = .stopped then (.notNow nnSrqStopped, s)
        else
          match s.head q with
          | .none => (.notNow nnSrqEmpty, s)
          | .bad ws pos => (.refuse stQueueError, headMalformed tqid ws pos s)
          | .fail pos => (.refuse stQueueError, headFailed tqid pos s)
          | .job ws conts n =>
            if c.cqFree = 0 then (.notNow nnCqFull, cqRefuse c.qid s)
            else
              let (jid, s) := acceptJob q ws conts n recOp s
              (.got jid, headSettle tqid s)

/-- Place a frame, a mirror copy or a telemetry packet into the next entry of an SRQ; false when it finds no written entry there and
is discarded (R312, R362, R537). -/
def frameIn (qid pid peerFa : Nat) (bytes : List Byte) (s : State) : Bool × State :=
  match s.queue? qid with
  | none => (false, s)
  | some q =>
    if q.kind ≠ .srq ∨ q.state ≠ .active ∨ !s.cqOpen q ∨ !s.epUp then (false, s)
    else
      match s.head q with
      | .none => (false, s)
      | .bad ws pos => (false, headMalformed qid ws pos s)
      | .fail pos => (false, headFailed qid pos s)
      | .job ws conts n =>
        let (jid, s) := acceptJob q ws conts n opRecv s
        let s := updJob jid (fun j => { j with peerFa := peerFa }) s
        let s := { s with svc := { s.svc with frames := s.svc.frames ++ [(jid, pid, bytes)] } }
        (true, settleCells (headSettle qid (recvStart jid s)))

/-! ### SEND (R151, R585) -/

/-- Place the bytes of a packet of a SEND into the buffer of its SRQ entry, once that entry has started and its fragments are known. -/
def sendPlace (t : TargetOp) (p : Packet) (s : State) : Adm × State :=
  match t.recv with
  | none => (.take, s)
  | some jid =>
    if (s.job? jid).elim false (fun j => j.phase == .accepted || j.phase == .readFtab) then (.wait, s)
    else
      match recvPlace jid (4096 * dist p.psn t.psn) t.len p.data (.target t.peer p.psn) s with
      | (true, s) => (.take, s)
      | (false, s) => (.wait, s)

/-- The FIRST packet of a SEND asks for admission. -/
def sendFirst (k : PeerKey) (p : Packet) (s : State) : Adm × State :=
  match s.target? k p.psn with
  | some t => sendPlace t p s
  | none =>
    match srqTake k p.pkey p.aux opRecv s with
    | (.refuse st, s) => (.refuse st, s)
    | (.notNow r, s) => (.notNow r, s)
    | (.got jid, s) =>
      let imm : Option (BitVec 32) := if p.immValid then some (BitVec.ofNat 32 (bits p.e0.toNat 63 32)) else none
      let s := updJob jid (fun j => { j with peerFa := k.fa, imm := imm, solicited := p.solicited }) s
      let t := { target0 k p with recv := some jid, len := bits p.e0.toNat 30 0, imm := imm }
      sendPlace t p (recvStart jid (addTarget t s))

/-! ### TSEND (R112, R117, R118) -/

/-- Place or store the bytes of an eager message. -/
def tsendPlace (t : TargetOp) (p : Packet) (s : State) : Adm × State :=
  match t.recv with
  | none => (.take, unexpData t.peer t.psn (4096 * dist p.psn t.psn) p.data false s)
  | some jid =>
    match recvPlace jid (4096 * dist p.psn t.psn) t.len p.data (.target t.peer p.psn) s with
    | (true, s) => (.take, s)
    | (false, s) => (.wait, s)

/-- The FIRST packet of a tagged message asks for admission. It matches only in the step that records its PSN (R24): while the buffer of the
receive that it would match is being translated, that receive stays posted. -/
def tsendFirst (k : PeerKey) (p : Packet) (s : State) : Adm × State :=
  match s.target? k p.psn with
  | some t => tsendPlace t p s
  | none =>
    let st := s.ctxRefusal k p
    if st ≠ stOk then (.refuse st, s)
    else
      let len := bits p.e1.toNat 30 0
      let eager := if p.kind then none else (s.ctx? (p.aux % 65536)).bind (fun c => findPosted c k.fa p.e0)
      match eager.elim (true, s) (fun r => recvPlace r.jid 0 len p.data (.target k p.psn) s) with
      | (false, s) => (.wait, s)
      | (true, s) =>
        match tsendSearch k p (opLast p) s with
        | (none, s) => (.notNow nnUnexpFull, s)
        | (some recv, s) =>
          if p.kind then
            match recv with
            | some jid => (.take, rndvStart k p.psn (p.aux % 65536) jid len p.data p.pkey p.group s)
            | none => (.take, s)
          else
            let t := { target0 k p with recv := recv, len := len }
            (.take, if recv.isNone then unexpData k p.psn 0 p.data false (addTarget t s) else addTarget t s)

/-! ### Regions (R145, R148, R162, R179, R483) -/

/-- A translation fault of a target access: the event to the region's endpoint and the capture (R160, R162, R179). -/
def targetFault (t : TargetOp) (va : Nat) (s : State) : State :=
  let ep := ((t.region.bind s.region?).map (·.ep)).getD t.peer.ep
  endpointEvent ep evXltFault 0 va t.asid t.asid s

/-- The accessor of a target operation in its region: the owner's MID and address space on the region's host port. -/
def targetAccess (t : TargetOp) (kind : Nat) : Accessor :=
  { asid := t.asid, mid := t.mid, pkey := t.pkey, port := t.mid / 256, kind := kind, unit := 0, fetch := false, passed := [] }

/-- Check an operation's key and extent, and give the operation (R145). A keyring that a gate of device memory keeps from the unit halts
the endpoint side, and the operation ends as any arriving then (R485, R514, log 17). -/
def regionOp (k : PeerKey) (p : Packet) (len : Nat) (right : Right) (s : State) : Nat × TargetOp × State :=
  let a := p.e0.toNat
  let key := bits p.e1.toNat 63 32
  let (st, r) := s.keyCheck key a len { local_ := none, pkey := p.pkey, group := p.group, right := right }
  let t := { target0 k p with addr := a, len := len, region := some (key / 256), compare := key }
  match hbmRefusal 0x8A5 0 64 (r.map (·.pkey)) s with
  | (some x, s) => (stDeviceHalted, t, memLost x s)
  | (none, s) =>
  match st, r with
  | 0, some r => (stOk, { t with mid := r.mid, asid := r.asid, xp := xStart [(a, len)] }, s)
  | _, _ => (st, t, captureRma st k.fa key a s)

/-- Translate the whole extent of an operation before its first byte moves (R148, R483). -/
def extentReady (t : TargetOp) (kind : Nat) (s : State) : Adm × TargetOp × State :=
  match xRun (targetAccess t kind) (.target t.peer t.psn) t.xp s with
  | (.done, xp, s) => (.take, { t with xp := xp }, s)
  | (.pending, xp, s) => (.wait, { t with xp := xp }, s)
  | (.fault, xp, s) =>
    let va := (xp.todo.head?).elim t.addr (·.1)
    (.refuse stXltFault, { t with xp := xp }, captureRma stXltFault t.peer.fa t.compare t.addr (targetFault t va s))
  | (.refused, xp, s) => (.refuse stProtection, { t with xp := xp }, captureRma stProtection t.peer.fa t.compare t.addr s)

/-- Replace the operation of a peer and PSN, or add it. -/
def putTarget (t : TargetOp) (s : State) : State :=
  if (s.target? t.peer t.psn).isSome then updTarget t.peer t.psn (fun _ => t) s else addTarget t s

/-- Reserve the SRQ entry of an operation with immediate data (R152); a refusal with PROTECTION is captured as one of the access (R162). -/
def immReserve (t : TargetOp) (p : Packet) (s : State) : Adm × TargetOp × State :=
  if !p.immValid || t.recv.isSome then (.take, t, s)
  else
    match srqTake t.peer p.pkey p.aux opRecvImm s with
    | (.refuse st, s) => (.refuse st, t, captureRma st t.peer.fa t.compare t.addr s)
    | (.notNow r, s) => (.notNow r, t, s)
    | (.got jid, s) =>
      let upd := fun (j : Job) => { j with peerFa := t.peer.fa, solicited := p.solicited, data := word t.addr, frags := [], bytes := 0 }
      (.take, { t with recv := some jid }, recvStart jid (updJob jid upd s))

/-- Complete the RECV_IMM of an operation that has ended (R152, R585). -/
def immEnd (t : TargetOp) (imm : Nat) (bytes status : Nat) (s : State) : State :=
  match t.recv with
  | none => s
  | some jid => recvImmEnd jid status (updJob jid (fun j => { j with imm := some (BitVec.ofNat 32 imm), bytes := bytes }) s)

/-- An operation with immediate data fails after it reserved its entry: the entry completes with the status and the bytes placed
(R585). -/
def immFail (t : TargetOp) (status : Nat) (s : State) : State :=
  match t.recv with
  | none => s
  | some jid => recvImmEnd jid status (updJob jid (fun j => { j with imm := t.imm, bytes := t.placed }) s)

/-! ### PUT (R149, R157) -/

/-- Place the bytes of a packet of a PUT; its pages are translated again as part of its admission (R148). -/
def putPlace (t : TargetOp) (p : Packet) (s : State) : Adm × State :=
  if t.status ≠ stOk ∨ p.data.isEmpty then (.take, s)
  else
    let off := 4096 * dist p.psn t.psn
    match xRun { targetAccess t 1 with passed := t.xp.segs } (.target t.peer p.psn) (xStart [(t.addr + off, p.data.length)]) s with
    | (.done, xp, s) =>
      let (n, late, os) := issueHeld (t.mid / 256) t.mid (s.maxPayload t.mid) s.strictOrder t.len t.placed (addHeld { off := off, segs := xp.segs, data := p.data } t.late)
      (.take, updTarget t.peer t.psn (fun t => { t with placed := n, late := late }) (s.emits t.region.toList os))
    | (.pending, _, s) => (.wait, s)
    | (.fault, xp, s) =>
      (.refuse stXltFault, captureRma stXltFault t.peer.fa t.compare t.addr (targetFault t ((xp.todo.head?).elim 0 (·.1)) s))
    | (.refused, _, s) => (.refuse stProtection, captureRma stProtection t.peer.fa t.compare t.addr s)

/-- The FIRST packet of a PUT asks for admission: the checks of R145 first, then the SRQ entry, then the translation of the whole
extent, whose failure completes the entry (R145, R148, R152, R483, R585). -/
def putFirst (k : PeerKey) (p : Packet) (s : State) : Adm × State :=
  let (st, t, s) := match s.target? k p.psn with
    | some t => (stOk, t, s)
    | none => regionOp k p (bits p.e1.toNat 30 0) .remoteWrite s
  if st ≠ stOk then (.refuse st, s)
  else
    match immReserve t p s with
    | (.take, t, s) =>
      match extentReady t 1 s with
      | (.take, t, s) => putPlace t p (putTarget t s)
      | (a, t, s) => (a, putTarget t s)
    | (a, _, s) => (a, s)

/-! ### GET (R149, R159) -/

/-- The FIRST and only packet of a GET asks for admission. -/
def getFirst (k : PeerKey) (p : Packet) (s : State) : Adm × State :=
  let (st, t, s) := match s.target? k p.psn with
    | some t => (stOk, t, s)
    | none => regionOp k p (bits p.e1.toNat 30 0) .remoteRead s
  if st ≠ stOk then (.refuse st, s)
  else
    match extentReady t 0 s with
    | (.take, t, s) => (.take, putTarget { t with todo := t.xp.segs } s)
    | (.wait, t, s) => (.wait, putTarget t s)
    | (a, _, s) => (a, dropTarget k p.psn s)

/-- Read the next part of a GET's region, or send the response when all of it is here (R149). -/
def getGo (k : PeerKey) (psn : Pos) (s : State) : State :=
  match s.target? k psn with
  | none => s
  | some t =>
    match t.todo with
    | g :: rest =>
      issueReq (t.mid / 256) t.mid g.bus g.len (.target k psn) (fun id => .hostRead id (t.mid / 256) g.bus g.len (decide (g.type = 1)))
        (updTarget k psn (fun t => { t with todo := rest, issued := true }) s)
    | [] =>
      let hdr := fun (p : Packet) => { p with e0 := word psn.toNat, e1 := word (respE1 stOk t.data.length) }
      let src := fun (i : Nat) (p : Packet) => if p.data.isEmpty then none
        else some { asid := t.asid, mid := t.mid, pkey := t.pkey, port := t.mid / 256, unit := 0, region := t.region, exts := [(t.addr + 4096 * i, p.data.length)], keep := 0 }
      let out := (dataPackets .getResp t.pkey t.group hdr t.data false).zipIdx.map (fun (p, i) => { waitingPkt (.response psn) p with src := src i p })
      sendOut k out (dropTarget k psn s)

/-! ### ATOMIC (R152-R155, R268, R269, R586) -/

/-- Operand and compare value of an ATOMIC's payload, and its immediate data (R198). -/
def atomicOperands (p : Packet) (width : Nat) : Nat × Nat × Nat :=
  let body := if p.immValid then p.data.drop 8 else p.data
  (ofBytes (body.take width), ofBytes ((body.drop width).take width), if p.immValid then ofBytes (p.data.take 4) else 0)

/-- AtomicOps are enabled for a width at a function's port (R154, R396). -/
def State.atomicWidthOn (s : State) (mid width : Nat) : Bool :=
  let cap := s.raw .hifAtomicCap (mid / 256) 0
  ((s.func? mid).elim false (·.atomicEn)) && (if width = 16 then bit cap 2 else bit cap 0 && bit cap 1)

/-- The FIRST and only packet of an ATOMIC asks for admission. -/
def atomicFirst (k : PeerKey) (p : Packet) (s : State) : Adm × State :=
  let e1 := p.e1.toNat
  let width := if bits e1 27 24 = 1 then 16 else 8
  let (operand, compare, imm) := atomicOperands p width
  let fill := fun (t : TargetOp) => { t with subop := bits e1 31 28, width := width, operand := operand, seen := compare, imm := if p.immValid then some (BitVec.ofNat 32 imm) else none }
  if bits e1 63 32 = 1 then
    let st := s.varCheck p.pkey p.e0.toNat width
    if st ≠ stOk then (.refuse st, captureRma st k.fa 1 p.e0.toNat s)
    else
      match immReserve { target0 k p with addr := p.e0.toNat, len := width, compare := 1 } p s with
      | (.take, t, s) => (.take, putTarget (fill t) s)
      | (a, _, s) => (a, s)
  else
    let (st, t, s) := match s.target? k p.psn with
      | some t => (stOk, t, s)
      | none => regionOp k p width .remoteAtomic s
    if st ≠ stOk then (.refuse st, s)
    else
      match immReserve t p s with
      | (.take, t, s) =>
        match extentReady (if t.width = 0 then fill t else t) 2 s with
        | (.take, t, s) =>
          if !s.atomicWidthOn t.mid width then (.refuse stAtomicUnsupported, putTarget t s)
          else (.take, putTarget { t with bus := (t.xp.segs.head?).elim 0 (·.bus) } s)
        | (a, t, s) => (a, putTarget t s)
      | (a, _, s) => (a, s)

/-- End an ATOMIC at the target: the response, with the fetched value logged, or the STATUS; and its RECV_IMM (R152, R215). -/
def atomicEnd (k : PeerKey) (psn : Pos) (status old : Nat) (s : State) : State :=
  match s.target? k psn with
  | none => s
  | some t =>
    let s := dropTarget k psn s
    let s := immEnd t ((t.imm.map (·.toNat)).getD 0) (if status = stOk then t.width else 0) status s
    if status = stOk then
      let s := { s with trn := { s.trn with logItems := { peer := k, psn := psn, bytes := 64 } :: s.trn.logItems } }
      sendOn k (.response psn) [{ response .atomicResp t.pkey t.group psn stOk (toBytes t.width old) with lockUnit := t.region.isNone }] s
    else sendStatus k psn t.pkey t.group status t.region.isNone s

/-- The page of an atomic's operand carries No Snoop (R167). -/
def TargetOp.noSnoop (t : TargetOp) : Bool := (t.xp.segs.head?).elim false (fun g => decide (g.type = 1))

/-- Issue the next AtomicOp, or first read, of an ATOMIC on host memory (R153), while the width is enabled (R154, R396). -/
def atomicIssue (t : TargetOp) (s : State) : State :=
  if !s.atomicWidthOn t.mid t.width then atomicEnd t.peer t.psn stAtomicUnsupported 0 s else
  let port := t.mid / 256
  let use : ReqFor := .atomicOp t.peer t.psn t.compare t.tries
  let s := updTarget t.peer t.psn (fun t => { t with issued := true }) s
  if t.subop = 0 ∧ t.width = 8 then
    issueReq port t.mid t.bus 8 use (fun id => .hostFetchAdd id port t.bus t.operand t.noSnoop) s
  else if t.subop = 1 then
    issueReq port t.mid t.bus t.width use (fun id => .hostCas id port t.bus t.seen t.operand t.width t.noSnoop) s
  else
    issueReq port t.mid t.bus t.width (.atomicRead t.peer t.psn) (fun id => .hostRead id port t.bus t.width t.noSnoop) s

/-- One compare-and-swap of the loop of R153, from the value last seen, while the width is enabled (R154, R396). -/
def atomicTry (t : TargetOp) (old : Nat) (s : State) : State :=
  if !s.atomicWidthOn t.mid t.width then atomicEnd t.peer t.psn stAtomicUnsupported 0 s else
  let port := t.mid / 256
  let new := atomicApply t.subop t.width old t.operand 0
  let s := updTarget t.peer t.psn (fun t => { t with seen := old, tries := t.tries + 1 }) s
  issueReq port t.mid t.bus t.width (.atomicOp t.peer t.psn old (t.tries + 1)) (fun id => .hostCas id port t.bus old new t.width t.noSnoop) s

/-- An ATOMIC on a region that has passed its checks. -/
def TargetOp.onRegion (t : TargetOp) : Bool :=
  t.ptype == PType.atomic.code && t.region.isSome && t.status == stOk && t.width != 0

/-- An ATOMIC in progress has issued its writes: a single AtomicOp is issued, while a loop has issued its last only when it ends (R153,
R159). -/
def TargetOp.written (t : TargetOp) : Bool := t.issued && ((t.subop == 0 && t.width == 8) || t.subop == 1)

/-- Two atomics on the same block of 16 bytes of one endpoint's memory (R155). -/
def sameBlock (port bus : Nat) (b : TargetOp) : Bool := decide (port = b.mid / 256) && decide (bus / 16 = b.bus / 16)

/-- Uses of a request that is an AtomicOp, or the first read of a loop. -/
def ReqFor.onBlock : ReqFor → Bool
  | .atomicOp .. | .atomicRead .. => true
  | _ => false

/-- The block of an atomic is free: none is in progress there, and no AtomicOp of one that was given up is outstanding (R155). -/
def State.blockFree (s : State) (t : TargetOp) : Bool :=
  !s.rma.targets.any (fun x => x.onRegion && x.issued && sameBlock (x.mid / 256) x.bus t)
    && !s.hif.reqs.any (fun r => r.use.onBlock && sameBlock r.port r.addr t)

/-- An ATOMIC on device variables that has passed its checks (R268). -/
def TargetOp.onVars (t : TargetOp) : Bool := t.ptype == PType.atomic.code && t.region.isNone && t.status == stOk && t.width != 0

/-- The operation log has room for the value that an atomic fetches (R215). -/
def State.valueRoom (s : State) : Bool := decide (s.logUsed + 64 ≤ s.logSize)

/-- A recorded GET or ATOMIC that has not started. -/
def TargetOp.unstarted (t : TargetOp) : Bool :=
  (t.ptype == PType.get.code || t.ptype == PType.atomic.code) && t.answered && !t.issued && t.status == stOk

/-- A packet that opens a PUT or SEND comes before the start of an earlier GET or ATOMIC of its peer state: operations start in PSN order
(R156). -/
def State.mustWait (s : State) (k : PeerKey) (p : Packet) : Bool :=
  (p.ptype == PType.put.code || p.ptype == PType.send.code) && s.rma.targets.any (fun t => decide (t.peer = k) && t.unstarted)

/-- The oldest recorded GET or ATOMIC that may start: an atomic once the log has room for its value (R215); the operations of a peer state
start in PSN order (R156), and a GET or ATOMIC reads after every earlier one has issued its writes (R159); the atomics of one block, or of
one slot of device variables, go one at a time in the order in which they were released (R155, R269). -/
def State.nextTarget (s : State) : Option TargetOp :=
  let l := s.rma.targets
  let before := fun (t : TargetOp) => l.takeWhile (fun x => !(x.peer = t.peer && x.psn = t.psn))
  l.find? (fun t => t.answered && !t.issued && t.status == stOk && t.xp.todo.isEmpty
    && (t.ptype == PType.get.code || ((t.onRegion || t.onVars) && s.valueRoom))
    && !(before t).any (fun x => decide (x.peer = t.peer) && (x.unstarted || (x.onRegion && x.answered && !x.written)))
    && (!t.onVars || !(before t).any (fun x => x.onVars && x.answered && decide (x.addr / 16 = t.addr / 16)))
    && (!t.onRegion || (s.blockFree t && !(before t).any (fun x => x.onRegion && x.answered && sameBlock (x.mid / 256) x.bus t))))

/-- A recorded GET or ATOMIC starts; one on device variables is changed at once (R149, R153, R269). -/
def targetStart (t : TargetOp) (s : State) : State :=
  if t.onVars then
    match hbmRefusal 0x8A3 2 t.width (some t.pkey) s with
    | (some x, s) => atomicEnd t.peer t.psn stDeviceHalted 0 (memLost x s)
    | (none, s) =>
      let (old, s) := varAtomic t.addr t.subop t.width t.operand t.seen s
      atomicEnd t.peer t.psn stOk old s
  else if t.onRegion then atomicIssue t s
  else getGo t.peer t.psn s

/-- Do something for an operation at the target, under the configuration set it was looked up in (R471). -/
def onTarget (k : PeerKey) (psn : Pos) (f : State → State) (s : State) : State :=
  asOf ((s.target? k psn).elim s.cmd.gen (·.gen)) f s

/-- Start every recorded GET and atomic that may start, oldest first. -/
def targetsRun : Nat → State → State
  | 0, s => s
  | n + 1, s =>
    match s.nextTarget with
    | none => s
    | some t => targetsRun n (onTarget t.peer t.psn (targetStart t) s)

/-- Start the recorded GETs and atomics that may start. -/
def targetsGo (s : State) : State := targetsRun (s.rma.targets.length + 1) s

/-- A recorded GET or region ATOMIC whose extent is translated again, since a warm reset emptied every cache (R165, R445), goes on when
that has come; a fault ends it (R148). -/
def targetAgain (k : PeerKey) (psn : Pos) (s : State) : State :=
  match s.target? k psn with
  | none => s
  | some t =>
    if !t.answered || t.issued || t.xp.todo.isEmpty || t.status ≠ stOk || !(t.onRegion || t.ptype == PType.get.code) then s
    else
      match extentReady t (if t.onRegion then 2 else 0) s with
      | (.take, t, s) => targetsGo (putTarget { t with todo := if t.onRegion then [] else t.xp.segs, bus := (t.xp.segs.head?).elim 0 (·.bus) } s)
      | (.refuse st, _, s) =>
        if t.onRegion then atomicEnd k psn st 0 s else sendStatus k psn t.pkey t.group st false (dropTarget k psn s)
      | (_, t, s) => putTarget t s

/-- A GET or an ATOMIC has been recorded: it takes its turn (R153, R155, R159, R269). -/
def targetRecorded (k : PeerKey) (psn : Pos) (s : State) : State := targetsGo (updTarget k psn (fun t => { t with answered := true }) s)

/-! ### Responses at the initiator (R120, R150, R208) -/

/-- The job whose request has a PSN. -/
def State.jobOfReq (s : State) (k : PeerKey) (req : Pos) : Option Job :=
  (s.halfJobs k).find? (fun j => decide (j.psnFirst = some req))

/-- Place the data of a GET_RESP packet (R150). -/
def getRespPlace (t : TargetOp) (p : Packet) (s : State) : Adm × State :=
  let req : Pos := BitVec.ofNat 32 t.operand
  let off := 4096 * dist p.psn t.psn
  match s.jobOfReq t.peer req with
  | some j =>
    if j.recOp ≠ opGet ∨ j.status ≠ stOk ∨ p.data.isEmpty then (.take, s)
    else
      match placeLocal j.jid off p.data (decide (dLen j.ws ≤ off + p.data.length)) (.target t.peer p.psn) s with
      | (none, s) => (.wait, s)
      | (some st, s) => (.take, if st = stOk then s else updJob j.jid (fun j => { j with status := st }) s)
  | none =>
    match rndvData t.peer req off p.data (.target t.peer p.psn) s with
    | (true, s) => (.take, s)
    | (false, s) => (.wait, s)

/-- The FIRST packet of a GET_RESP asks for admission. -/
def getRespFirst (k : PeerKey) (p : Packet) (s : State) : Adm × State :=
  match s.target? k p.psn with
  | some t => getRespPlace t p s
  | none =>
    let t := { target0 k p with operand := bits p.e0.toNat 31 0, status := stOk, len := bits p.e1.toNat 30 0, seen := bits p.e1.toNat 63 56 }
    getRespPlace t p (addTarget t s)

/-- An ATOMIC_RESP asks for admission: a 16-byte value is written over the operand block (R80, R150). -/
def atomicRespPlace (k : PeerKey) (p : Packet) (s : State) : Adm × State :=
  match s.jobOfReq k (BitVec.ofNat 32 p.e0.toNat) with
  | none => (.take, s)
  | some j =>
    if j.recOp ≠ opAtomic then (.take, s)
    else if dWidthCode j.ws = 1 then
      match placeLocal j.jid 0 (p.data.take 16) true (.target k p.psn) s with
      | (none, s) => (.wait, s)
      | (some st, s) => (.take, if st = stOk then s else updJob j.jid (fun j => { j with status := st }) s)
    else (.take, updJob j.jid (fun j => { j with data := word (ofBytes p.data) }) s)

/-- A request of this device has been answered with a status: its job, or the rendezvous read, ends (R122, R208). -/
def requestEnd (k : PeerKey) (req : Pos) (status : Nat) (s : State) : State :=
  match s.jobOfReq k req with
  | some j =>
    let s := endJob j.jid (if status = stOk then j.status else status) s
    haltCheck k (if status ≠ stOk then dropRefused k req s else s)
  | none => rndvReadEnd k req status (if status ≠ stOk then dropRefused k req s else s)

end Sys2Proof.Machine
end

