-- ==== Sys2Proof/Machine/Arrive.lean ====
section
/-! DEFINITION. The receiving side of transport: residency and the pond, classification, the hold, admission, the ledger, delivery,
acknowledgements, and the control packets (R63-R66, R191-R194, R199-R222, R327). -/

namespace Sys2Proof.Machine

/-! ### Completion of acknowledged operations (R208) -/

/-- The receive half has delivered every PSN below a fence. -/
def fenceMet (r : Option RecvHalf) (fence : Pos) : Bool :=
  match r with
  | none => false
  | some r => decide (dist fence (r.head + 1) = 0) || decide (2 ^ 31 ≤ dist fence (r.head + 1))

/-- A job that ends when its packets are acknowledged (R208). -/
def endsByAck (j : Job) : Bool :=
  j.recOp == opSend || j.recOp == opPut || j.recOp == opLockRelease || (j.recOp == opTsend && !j.rts)

/-- Complete the acknowledged operations of a half whose fence is met, in order (R208). -/
def completeAcked (k : PeerKey) (s : State) : State :=
  let r := (s.peer? k).bind (·.recv)
  let due := (s.halfJobs k).filter (fun j => j.acked && endsByAck j && j.fence.elim true (fenceMet r))
  let s := due.foldl
    (fun s j =>
      let s := endJob j.jid j.status s
      if j.recOp = opLockRelease then lockReleased j s else s)
    s
  haltCheck k (lockGone k (fun x => x.endFence.elim false (fun f => f.elim true (fenceMet r))) s)

/-! ### Recording and acknowledging (R201-R206, R222) -/

/-- Advance HEAD over the delivered PSNs that follow it. -/
def advanceHead : Nat → Pos → BitVec 256 → Pos × BitVec 256
  | 0, h, m => (h, m)
  | n + 1, h, m => if m.getLsbD 0 then advanceHead n (h + 1) (m >>> 1) else (h, m)

/-- Record a PSN in the ledger (R203). -/
def RecvHalf.record (r : RecvHalf) (psn : Pos) : RecvHalf :=
  let d := dist psn r.head
  let (h, m) := advanceHead 256 r.head (r.map ||| (1#256 <<< (d - 1)))
  { r with head := h, map := m, gapAt := if h = r.head then r.gapAt else none, epoch := if h.toNat < r.head.toNat then (r.epoch + 1) % 2 ^ 32 else r.epoch }

/-- A held packet may be delivered (R202). -/
def RecvHalf.deliverable (r : RecvHalf) (p : Packet) : Bool :=
  if p.first ∨ p.last then decide (dist p.psn r.head = 1)
  else
    match r.op with
    | none => false
    | some o => decide (dist p.psn o.first < dist o.last o.first) && decide (0 < dist p.psn o.first)
        && decide (dist p.psn r.head ≤ 256)

/-- The deliverable packet of lowest PSN, apart from those that wait for a translation. -/
def RecvHalf.next (r : RecvHalf) (waiting : List Pos) : Option HeldPkt :=
  (r.held.filter (fun p => r.deliverable p.pkt && !(p.pkt.psn ∈ waiting))).foldl
    (fun b p => match b with
      | none => some p
      | some q => if dist p.pkt.psn r.head < dist q.pkt.psn r.head then some p else some q)
    none

/-- Cells held by a receive half, and by the device (R202). -/
def RecvHalf.cells (r : RecvHalf) : Nat := sumBy (fun p => pktCells p.pkt) r.held
def State.heldCells (s : State) : Nat := sumBy (fun p => p.recv.elim 0 RecvHalf.cells) s.trn.peers

/-- The hold has room for a packet: its limits, and for one that is stored in no slice the shared pool of its endpoint's (R202, R301). -/
def State.holdRoom (s : State) (r : RecvHalf) (ep : Nat) (stored : Bool) (p : Packet) : Bool :=
  decide (r.cells + pktCells p ≤ atLeast1 (s.fld .trnHold 0 47 32))
    && decide (s.heldCells + pktCells p ≤ min 262144 (s.fld .trnHold 0 19 0))
    && (stored || decide (pktCells p ≤ s.sharedFree ep))

/-- The acknowledgement rules after a delivery (R206). -/
def ackRules (k : PeerKey) (last : Bool) (s : State) : State :=
  match (s.peer? k).bind (·.recv) with
  | none => s
  | some r =>
    if last || decide (atLeast1 (s.fld .trnAck 0 7 0) ≤ r.unacked) || s.fld .trnAck 0 31 16 = 0 then sendAck k s
    else updRecv k (fun r => { r with unackedAt := if r.unackedAt.isNone then some s.clk.now else r.unackedAt }) s

/-- Keep the time since when HEAD + 1 has been missing behind a later packet (R206). -/
def gapWatch (k : PeerKey) (s : State) : State :=
  updRecv k (fun r =>
    if r.top ≤ 1 ∨ r.has 1 ∨ r.nacked = some r.head then { r with gapAt := none }
    else { r with gapAt := if r.gapAt.isNone then some s.clk.now else r.gapAt }) s

/-! ### Admission and delivery (R203, R209) -/

/-- An operation of the peer is refused with a status: the STATUS takes its PSN before any ACK, and later packets of the operation
place no data (R207, R209). -/
def refuseOp (k : PeerKey) (psn : Pos) (p : Packet) (status : Nat) (s : State) : State :=
  let s := match s.target? k psn with
    | some t =>
      if t.status ≠ stOk then s
      else if t.ptype = PType.put.code ∨ t.ptype = PType.atomic.code then
        immFail t status (updTarget k psn (fun t => { t with status := status, recv := none }) s)
      else updTarget k psn (fun t => { t with status := status }) s
    | none => addTarget { target0 k p with status := status, psn := psn } s
  let unit := decide (p.ptype = PType.lock.code) || (decide (p.ptype = PType.atomic.code) && decide (bits p.e1.toNat 63 32 = 1))
  sendStatus k psn p.pkey p.group status unit s

/-- The consumer's answer to a FIRST packet (R203). -/
def admitFirst (k : PeerKey) (p : Packet) (s : State) : Adm × State :=
  let t := p.ptype
  if s.mustWait k p then (.wait, updRecv k (fun r => { r with behind := true }) s)
  else if t = PType.send.code then sendFirst k p s
  else if t = PType.tsend.code then tsendFirst k p s
  else if t = PType.put.code then putFirst k p s
  else if t = PType.get.code then getFirst k p s
  else if t = PType.atomic.code then atomicFirst k p s
  else if t = PType.lock.code then
    match s.lockCheck k p with
    | .taken => (.take, s)
    | .refused => (.refuse stProtection, s)
    | .full => (.notNow nnHoldFull, s)
  else if t = PType.getResp.code then getRespFirst k p s
  else if t = PType.atomicResp.code then atomicRespPlace k p s
  else (.take, s)

/-- The consumer's answer to any other packet of an open operation (R143, R148, R162). -/
def admitNext (t : TargetOp) (p : Packet) (s : State) : Adm × State :=
  if t.status ≠ stOk then
    (if t.answered then (.take, s)
     else (.refuse t.status, if t.region.isSome then captureRma t.status t.peer.fa t.compare t.addr s else s))
  else if t.ptype = PType.send.code then sendPlace t p s
  else if t.ptype = PType.tsend.code then tsendPlace t p s
  else if t.ptype = PType.put.code then putPlace t p s
  else if t.ptype = PType.getResp.code then getRespPlace t p s
  else (.take, s)

/-- What a delivered FIRST packet does beside placing data. -/
def deliverFirst (k : PeerKey) (p : Packet) (s : State) : State :=
  let t := p.ptype
  let req : Pos := BitVec.ofNat 32 p.e0.toNat
  let status := bits p.e1.toNat 63 56
  if t = PType.get.code then targetRecorded k p.psn s
  else if t = PType.atomic.code then targetRecorded k p.psn s
  else if t = PType.withdraw.code then withdrawTarget k p s
  else if t = PType.lock.code then lockRequest k p s
  else if t = PType.chorus.code then
    let gn := bits p.e0.toNat 59 48
    groupWake gn (onChorus k p s)
  else if t = PType.lockResp.code then haltCheck k (lockResp k p s)
  else if t = PType.atomicResp.code ∨ t = PType.fin.code ∨ t = PType.status.code then requestEnd k req status s
  else s

/-- What the LAST packet of a multi-packet type ends (R89, R117, R149-R152). -/
def deliverLast (k : PeerKey) (t : TargetOp) (p : Packet) (s : State) : State :=
  if t.ptype = PType.send.code then
    dropTarget k t.psn (if t.status = stOk then (t.recv.elim s (fun jid => recvEnd jid t.len s)) else s)
  else if t.ptype = PType.tsend.code then
    let s := dropTarget k t.psn s
    if t.status ≠ stOk then s
    else match t.recv with
    | some jid => recvEnd jid t.len s
    | none => unexpData k t.psn (4096 * dist p.psn t.psn) p.data true s
  else if t.ptype = PType.put.code then
    dropTarget k t.psn (immEnd t (bits p.e0.toNat 63 32) t.placed t.status s)
  else if t.ptype = PType.getResp.code then
    requestEnd k (BitVec.ofNat 32 t.operand) t.seen (dropTarget k t.psn s)
  else if t.status ≠ stOk then dropTarget k t.psn s
  else s

/-- Record a packet, open its operation when it is FIRST, hand it over, and acknowledge (R203, R206-R209). -/
def takePacket (k : PeerKey) (p : Packet) (refusal : Option Nat) (s : State) : State :=
  let first := if p.first then p.psn else (((s.peer? k).bind (·.recv)).bind (·.op)).elim p.psn (·.first)
  let s := updRecv k (fun r =>
    let r := r.record p.psn
    { r with
      op := if p.first then some { first := p.psn, last := opLast p, status := refusal.getD stOk } else r.op
      refused := if p.first then none else r.refused
      unacked := r.unacked + 1
      ceCount := if p.marked then r.ceCount + 1 else r.ceCount }) s
  let s := ((s.count (cntEp k.ep 3) 1).count (cntEp k.ep 4) (pktLen p)).count (cntEp k.ep 15) (b1 p.marked)
  let s := match refusal with
    | some st => updTarget k first (fun t => { t with answered := true }) (refuseOp k first p st s)
    | none => if p.first then deliverFirst k p s else s
  let s := if p.last then
      match s.target? k first with
      | some t => if t.ptype = PType.get.code ∨ t.ptype = PType.atomic.code then
            (if t.status = stOk then s else dropTarget k first s)
          else deliverLast k t p s
      | none => s
    else s
  completeAcked k (gapWatch k (ackRules k p.last s))

/-- A packet belongs to the eager message whose first packet found no room, and comes after that (R128). -/
def RecvHalf.refuses (r : RecvHalf) (psn : Pos) : Bool :=
  r.refused.elim false (fun x => decide (0 < dist psn x.1) && decide (dist psn x.1 ≤ dist x.2 x.1))

/-- Answer a packet with not-now. When it begins an eager message that found no room, the packets of that message that are held are
answered in the same way, and so are those that come before it is sent again (R128). -/
def notNow (k : PeerKey) (p : Packet) (reason : Nat) (s : State) : State :=
  let s := sendNotNow k p.psn reason s
  if reason = nnUnexpFull then
    let s := updRecv k (fun r => { r with refused := some (p.psn, opLast p) }) s
    match (s.peer? k).bind (·.recv) with
    | none => s
    | some r =>
      (r.held.filter (fun x => r.refuses x.pkt.psn)).foldl (fun s x => sendNotNow k x.pkt.psn reason s)
        (updRecv k (fun r => { r with held := r.held.filter (fun x => !r.refuses x.pkt.psn) }) s)
  else s

/-- A CONTRIB that a chorus engine is to read stays in its slice until then (R304). -/
def keepOperand (k : PeerKey) (h : HeldPkt) (s : State) : State :=
  let e0 := h.pkt.e0.toNat
  let e1 := h.pkt.e1.toNat
  let coll := bits e1 31 28
  match h.pid with
  | none => s
  | some pid =>
    if h.pkt.ptype ≠ PType.chorus.code ∨ bits e0 63 60 ≠ ckContrib then s
    else updFab (fun f => { f with operands := f.operands ++ [{ pid := pid, group := bits e0 59 48, opseq := bits e0 31 0, block := if coll = 4 ∨ coll = 5 then bits e1 17 0 else 0, idx := bits e1 63 45, peer := k, psn := h.pkt.psn }] }) s

/-- Ask for the admission of a held packet and act on the answer, under the configuration set of its first lookup (R28, R203). Where a
walk is in progress it stays held. -/
def deliverHeld (k : PeerKey) (h : HeldPkt) (s : State) : State :=
  let p := h.pkt
  let unhold := updRecv k (fun r => { r with held := r.held.filter (fun x => x.pkt.psn ≠ p.psn) })
  let first := if p.first then p.psn else (((s.peer? k).bind (·.recv)).bind (·.op)).elim p.psn (·.first)
  let (a, s) := if p.first then admitFirst k p s
    else match s.target? k first with
      | some t => admitNext t p s
      | none => (.take, s)
  match a with
  | .wait => s
  | .notNow r => notNow k p r (unhold s)
  | .take => takePacket k p none (keepOperand k h (unhold s))
  | .refuse st => takePacket k p (some st) (unhold s)

/-- Deliver what the hold lets deliver, each packet tried once (R203). -/
def drainHold (k : PeerKey) : Nat → List Pos → State → State
  | 0, _, s => s
  | n + 1, tried, s =>
    match ((s.peer? k).bind (·.recv)).bind (fun r => r.next tried) with
    | none => gapWatch k s
    | some p => drainHold k n (p.pkt.psn :: tried) (asOf p.gen (deliverHeld k p) s)

/-- Try again what is held for a peer; the cells of what leaves the hold are freed (R304). While the endpoint side is halted, and from the
start of a warm reset on, nothing held is admitted (R72, R443). -/
def holdRetry (k : PeerKey) (s : State) : State :=
  if !s.epUp then s else
  settleCells (drainHold k (((s.peer? k).bind (·.recv)).elim 0 (fun r => 2 * r.held.length)) [] s)

/-- A packet carries the tag of zeros of a payload sent in clear (R496). -/
def zeroTag (p : Packet) : Bool := decide (16 ≤ p.sealed.length) && (p.sealed.drop (p.sealed.length - 16)).all (· == 0)

/-- A packet fails its check: it should be protected and is not, or its tag fails, is the one of a payload in clear, or has no key to be
checked under; a device under CRYPTO_BYPASS looks at no tag (R209, R221, R493, R496). -/
def State.tagBad (s : State) (p : Packet) (tagOk : Bool) : Bool :=
  (s.protects p.pkey && !p.prot)
    || (p.prot && !decide (s.fld .secCtrl 0 1 1 = 1) && (!tagOk || zeroTag p || s.keyMissing p.pkey))

/-- A PSN-consuming packet reaches transport (R201-R203, R210, R218). -/
def arriveData (p : Packet) (tagOk : Bool) (pid : Option Nat) (s : State) : State :=
  let k := peerOf p
  match (s.peer? k).bind (fun x => x.recv.map (fun r => (x, r))) with
  | none => sendResync k p.psn s
  | some (x, r) =>
    if x.remoteInc.elim true (fun i => decide (i % 65536 ≠ p.srcInc)) || decide (p.dstInc ≠ s.incarnation % 65536) then
      sendResync k p.psn s
    else
      let s := updPeer k (fun x => { x with lastUse := s.clk.now, closing := none }) s
      let d := dist p.psn r.head
      if 4096 < d ∧ d < 2 ^ 31 then s.count (cntEp k.ep 9) 1
      else if s.sys.halt then sendControl k .refuse p.psn.toNat (at_ 32 r.head.toNat + stDeviceHalted) 0 s
      else
        let bad := s.tagBad p tagOk
        let u : PeerKeyUse := { pkey := p.pkey, sending := false, context := [k.fa, s.ownFa k.ep, k.tc, x.remoteInc.getD 0, s.incarnation, r.remoteOpen] }
        let s := if p.prot && !bad then useKey k u s else s
        if bad then s.count (cntEp k.ep 10) 1
        else if d = 0 ∨ 2 ^ 31 ≤ d ∨ r.has d then sendAck k (s.count (cntEp k.ep 8) 1)
        else if r.refuses p.psn then sendNotNow k p.psn nnUnexpFull s
        else if !r.deliverable p && !s.holdRoom r k.ep pid.isSome p then sendNotNow k p.psn nnHoldFull s
        else
          let n := 2 * (r.held.length + 1)
          drainHold k n [] (updRecv k (fun r => { r with held := r.held ++ [{ pkt := p, gen := s.cmd.gen, pid := pid }] }) s)

/-! ### Residency and the pond (R57-R66, R190) -/

/-- The queue contexts that a packet needs: the SRQ it names and that SRQ's CQ, for a packet that opens a SEND or an operation with
immediate data. Tagged packets are matched and delivered for jobs already accepted, responses and LAST packets belong to operations that
were opened before, and VC6 packets work on peer states alone (DESIGN CHOICE, log 168). -/
def neededQueues (p : Packet) (s : State) : List Nat :=
  if p.first ∧ (p.ptype = PType.send.code ∨ (p.immValid ∧ (p.ptype = PType.put.code ∨ p.ptype = PType.atomic.code))) then
    match s.queue? p.aux with
    | none => []
    | some q => [p.aux, q.attr.cq]
  else []

/-- The first of some contexts that is not resident. -/
def State.missingOf (s : State) (l : List Nat) : Option Nat :=
  l.find? (fun q => (s.queue? q).elim false (fun x => x.resid != .resident))

/-- The first context that a packet needs and that is not resident. -/
def missingQueue (p : Packet) (s : State) : Option Nat := s.missingOf (neededQueues p s)

/-- Entries of the context cache in use (R57). -/
def State.cacheUsed (s : State) : Nat := (s.qmg.queues.filter (fun q => q.resid != .evicted)).length

/-- Start the fetch of a context into a free entry of the cache, unless its eviction still runs (R57, R59, R63). Without a free entry it
waits for an eviction. -/
def startFetch (q : Nat) (s : State) : State :=
  if s.cacheUsed < Config.contextCache then updQueue q (fun x => if x.resid = .evicted then { x with resid := .fetching } else x) s
  else s

/-- Stamp contexts that were used. -/
def touch (qs : List Nat) (s : State) : State :=
  qs.foldl (fun s q => updQueue q (fun x => { x with lastUse := s.qmg.useClock }) s)
    { s with qmg := { s.qmg with useClock := s.qmg.useClock + 1 } }

/-- A parked packet stands before a packet: it is of the same peer state or needs a same context, resident by now or not (R64). -/
def behindParked (p : Packet) (s : State) : Bool :=
  let need := neededQueues p s
  s.qmg.pond.any (fun x => decide (peerOf x.pkt = peerOf p) || x.needs.any (fun q => decide (q ∈ need)))

/-- Quota of a VC and cells in use (QMG_POND_QUOTA, QMG_POND_USED). -/
def State.pondQuota (s : State) (vc : Nat) : Nat := s.fld .qmgPondQuota vc 15 0
def State.pondUsed (s : State) (vc : Nat) : Nat := sumBy (·.cells) (s.qmg.pond.filter (fun x => x.vc = vc))

/-- Park a packet, or refuse it when its quota or the pond is full (R63, R65, R66). -/
def park (p : Packet) (tagOk : Bool) (vc : Nat) (needs : List Nat) (peer : Option PeerKey) (s : State) : State :=
  let n := pktCells p
  if s.pondQuota vc < s.pondUsed vc + n ∨ Config.pondCells < sumBy (·.cells) s.qmg.pond + n then
    (if vc = 6 then s.count 1 1 else sendNotNow (peerOf p) p.psn nnPondFull s)
  else
    let x : Parked := { pkt := p, tagOk := tagOk, vc := vc, cells := n, needs := needs, gen := s.cmd.gen }
    let s := { s with qmg := { s.qmg with pond := s.qmg.pond ++ [x] } }
    let s := needs.foldl (fun s q => startFetch q s) s
    (peer.elim s (fun k => startPeerFetch k s)).count 0 1

/-- The peer state of a packet exists and is not resident. -/
def peerAway (k : PeerKey) (s : State) : Bool := (s.peer? k).elim false (fun x => x.resident != .resident)

/-- The configuration generation under which an arriving packet was first looked up: that of the stored packet which it is, or was (R28). -/
def State.arrivalGen (s : State) (p : Packet) : Nat :=
  (s.fab.handed.find? (fun h => { h.2 with marked := p.marked } = p)).elim
    ((s.fab.passing.find? (fun h => h.2 = p)).elim s.cmd.gen (·.1)) (fun h => s.genOfPid h.1)

/-- A packet that needs no store of transport has arrived. -/
def takePassing (p : Packet) (s : State) : State :=
  match s.fab.passing.find? (fun h => h.2 = p) with
  | none => s
  | some h => updFab (fun f => { f with passing := f.passing.erase h }) s

/-- The stored packet that an arriving packet is, when a slice handed it over (R304). -/
def takeHanded (p : Packet) (s : State) : Option Nat × State :=
  match s.fab.handed.find? (fun h => { h.2 with marked := p.marked } = p) with
  | none => (none, s)
  | some h => (some h.1, updFab (fun f => { f with handed := f.handed.filter (fun x => x ≠ h) }) s)

/-- A packet that consumes a PSN arrives at an endpoint: parked or given to transport (R63, R64). While the endpoint side is halted
no queue context is needed: the packet is refused with DEVICE_HALTED as soon as its peer state is there (R72, R210). -/
def dataPacket (p : Packet) (tagOk : Bool) (vc : Nat) (s : State) : State :=
  let k := peerOf p
  let (pid, s) := takeHanded p s
  let away := peerAway k s
  let needs := if s.sys.halt then [] else neededQueues p s
  let parked := if s.sys.halt then s.qmg.pond.any (fun x => decide (peerOf x.pkt = k)) else behindParked p s
  settleCells (if away || (s.missingOf needs).isSome || parked then park p tagOk vc needs (if away then some k else none) s
    else arriveData p tagOk pid (touch (neededQueues p s) s))

/-! ### Acknowledgement at the sender (R208, R211, R214, R327) -/

/-- A PSN is covered by HEAD. -/
def covered (head psn : Pos) : Bool := decide (dist head psn < 2 ^ 31)

/-- Take a round-trip sample (R211). -/
def rttSample (sample : Nat) (h : SendHalf) : SendHalf :=
  match h.srtt with
  | none => { h with srtt := some sample, rttvar := sample / 2 }
  | some m =>
    let dev := if m ≤ sample then sample - m else m - sample
    { h with srtt := some ((7 * m + sample) / 8), rttvar := (3 * h.rttvar + dev) / 4 }

/-- The first transmission time of the newest packet covered that was never retransmitted: an ACK that covers several gives one sample,
from that one (R211; DESIGN CHOICE, log 175). -/
def sampleOf (l : List OutPkt) : Option Nat := (l.reverse.find? (fun o => o.sent && !o.retried)).map (·.sentAt)

/-- Congestion decrease at a non-zero CE_COUNT once DEC_GAP has passed (R327, R328). -/
def congestion (k : PeerKey) (ce : Nat) (s : State) : State :=
  if ce = 0 ∨ s.fld .qosCcCtrl 0 63 63 = 0 then s
  else
    let gap := us (atLeast1 (s.fld .qosCcCtrl 0 39 32))
    let dec := atLeast1 (s.fld .qosCcCtrl 0 55 48)
    updPeer k (fun p =>
      let p := { p with lastMark := some s.clk.now }
      if p.lastDec.elim true (fun t => decide (t + gap ≤ s.clk.now)) then
        { p with rate := max s.rateMin (p.rate * (256 - dec) / 256), lastDec := some s.clk.now }
      else p) s

/-- Packets up to HEAD are acknowledged: they are freed, a sample is taken, the timer restarts, jobs that end by it are noted with
their fence (R208, R211, R214). -/
def ackProgress (k : PeerKey) (head : Pos) (fence : Option Pos) (s : State) : State :=
  match (s.peer? k).bind (·.send) with
  | none => s
  | some h =>
    let done := h.out.filter (fun o => covered head o.pkt.psn)
    let left := h.out.filter (fun o => !covered head o.pkt.psn)
    if done.isEmpty then s
    else
      let s := updSend k (fun h =>
        let h := (sampleOf done).elim h (fun t => rttSample (s.clk.now - t) h)
        { h with out := left, timeouts := 0, timerAt := if left.isEmpty then none else some s.clk.now }) s
      let s := done.foldl
        (fun s o =>
          let s := match o.op with
            | .job jid => if o.pkt.last then updJob jid (fun j => { j with acked := true, fence := fence }) s else s
            | _ => s
          match o.op with
          | .response req =>
            if o.pkt.ptype = PType.atomicResp.code then
              { s with trn := { s.trn with logItems := s.trn.logItems.filter (fun i => !(i.peer = k && i.psn = req)) } }
            else s
          | .lock _ => leaveAcked k o.pkt fence s
          | _ => s)
        s
      pumpAll k (completeAcked k s)

/-- FENCE_PSN of an ACK or NACK body (R199). -/
def fenceOf (p : Packet) : Option Pos :=
  if bit p.e0.toNat 0 then some (BitVec.ofNat 32 (bits p.e0.toNat 63 32)) else none

/-- Outstanding packets that no backoff holds (R211, R214). -/
def SendHalf.active (h : SendHalf) : List OutPkt := h.out.filter (fun o => o.holdUntil.isNone)

/-! ### Control packets (R191-R194, R199, R218-R220) -/

/-- A control packet carries another incarnation than the recorded one (R218). -/
def incDiffers (p : Packet) (s : State) : Bool := ((s.peer? (peerOf p)).bind (·.remoteInc)).elim false (fun i => decide (i ≠ p.srcInc))

/-- The send half is abandoned for a control packet with another incarnation: an open half each time, one that is being opened once for
the change (R218, R219; the latter a DESIGN CHOICE, log 144). -/
def incAbandon (p : Packet) (s : State) : State :=
  let k := peerOf p
  match s.peer? k with
  | none => s
  | some x =>
    match x.send with
    | none => s
    | some h => if h.state = .opened ∨ (h.state = .opening ∧ !x.toldRestart) then abandon k 1 s else s

/-- A control packet of a send half reaches transport, once its incarnation is compared (R218, R219): one that carries another abandons the
half whatever its PSN (DESIGN CHOICE, log 204). Packets for a send half that is not held are ignored (R220). -/
def withSendHalf (p : Packet) (f : PeerKey → SendHalf → State → State) (s : State) : State :=
  if incDiffers p s then incAbandon p s
  else ((s.peer? (peerOf p)).bind (·.send)).elim s (fun h => f (peerOf p) h s)

/-- A packet that asks for a peer state to be freed, or answers, is no use of it (R191). -/
def usesPeer (p : Packet) : Bool := decide (p.ptype < PType.closeReq.code)

/-- A control packet needs its peer state: parked on VC6 while that is away (R63, R66). -/
def controlPacket (f : Packet → State → State) (p : Packet) (s : State) : State :=
  let k := peerOf p
  if peerAway k s || s.qmg.pond.any (fun x => decide (peerOf x.pkt = k)) then
    park p true 6 [] (if peerAway k s then some k else none) s
  else f p (if usesPeer p then usePeer k s else s)

def onAck (p : Packet) (s : State) : State :=
  withSendHalf p (fun k _ s => ackProgress k p.psn (fenceOf p) (congestion k (bits p.e0.toNat 31 16) s)) s

/-- NACK: as an ACK, then each PSN marked in MISSING is retransmitted once, at once (R212), but for one held in its not-now backoff, which
R214 lets go out again when that ends (DESIGN CHOICE, log 176). -/
def onNack (p : Packet) (s : State) : State :=
  withSendHalf p (fun k _ s =>
    let s := ackProgress k p.psn (fenceOf p) (congestion k (bits p.e0.toNat 31 16) s)
    match (s.peer? k).bind (·.send) with
    | none => s
    | some h =>
      resendAll k (h.out.filter (fun o =>
        let i := dist o.pkt.psn p.psn
        decide (1 ≤ i) && decide (i ≤ 64) && bit p.e1.toNat (i - 1) && o.holdUntil.isNone)) s) s

/-- NOT_NOW: the PSN is held for a backoff; a refusal period that has lasted TRN_NOTNOW.TMO abandons the flow (R214). -/
def onNotNow (p : Packet) (s : State) : State :=
  withSendHalf p (fun k h s =>
    let s := s.count (cntEp k.ep 7) 1
    match h.out.find? (fun o => o.pkt.psn = p.psn) with
    | none => s
    | some o =>
      let begun := o.refusedAt.getD s.clk.now
      if begun + us (atLeast1 (s.fld .trnNotnow 0 63 44)) ≤ s.clk.now then abandon k 0 s
      else
        let first := atLeast1 (s.fld .trnNotnow 0 15 0)
        let top := 1000 * atLeast1 (s.fld .trnNotnow 0 31 16)
        let b := if o.backoff = 0 then min first top else min (2 * o.backoff) top
        let held := fun (x : OutPkt) => { x with refusedAt := some begun, backoff := b, holdUntil := some (s.clk.now + ns b), again := .no }
        updSend k (fun h => { h with out := updAll (fun x => x.pkt.psn = p.psn) held h.out }) s) s

/-- REFUSE with DEVICE_HALTED for an outstanding PSN (R210, R219). One for a PSN that is not outstanding is ignored, as R220 says of RESYNC
(DESIGN CHOICE, log 177). -/
def onRefuse (p : Packet) (s : State) : State :=
  withSendHalf p (fun k h s =>
    if h.out.any (fun o => o.pkt.psn = p.psn) then refused k (BitVec.ofNat 32 (bits p.e0.toNat 63 32)) s else s) s

/-- RESYNC for an outstanding PSN abandons the half (R219, R220). -/
def onResync (p : Packet) (s : State) : State :=
  withSendHalf p (fun k h s => if h.out.any (fun o => o.pkt.psn = p.psn) then abandon k 1 s else s) s

/-- Receives whose message's remaining packets can no longer come, since the flow from the peer started afresh (log 33). -/
def dropOpen (k : PeerKey) (status : Nat) (s : State) : State :=
  let gone := fun (t : TargetOp) => t.peer = k && (t.ptype == PType.send.code || t.ptype == PType.tsend.code
    || t.ptype == PType.put.code || t.ptype == PType.getResp.code)
  let l := s.rma.targets.filter gone
  let s := { s with rma := { s.rma with targets := s.rma.targets.filter (fun t => !gone t) } }
  let claimed := (s.svc.ctxs.flatMap (·.unexp)).filter (fun u => u.peer = k && !u.whole)
  let s := { s with svc := { s.svc with ctxs := s.svc.ctxs.map (fun c => { c with unexp := c.unexp.filter (fun u => !(u.peer = k && !u.whole)) }) } }
  let s := claimed.foldl (fun s u => u.claimed.elim s (fun j => endJob j status s)) s
  let s := (s.svc.ctxs.filter (fun c => c.state == .draining)).foldl (fun s c => ctxDrained c.num s) s
  l.foldl (fun s t =>
    if t.ptype = PType.put.code then immFail t status s
    else t.recv.elim s (fun j => endJob j status s)) s

/-- The epoch of a receive half whose HEAD is set to n - 1: that of a flow reopened goes on, and a flow that is new starts at 0 with
PSN n (R194, R200). -/
def openEpoch (old : Option RecvHalf) (n : Pos) : Nat :=
  match old with
  | none => if n = 0 then 2 ^ 32 - 1 else 0
  | some r => if (n - 1).toNat < r.head.toNat then (r.epoch + 1) % 2 ^ 32 else r.epoch

/-- The receive half that an OPEN_REQ begins: HEAD is n - 1, nothing is delivered or held (R193). -/
def openRecv (old : Option RecvHalf) (p : Packet) : RecvHalf :=
  { remoteOpen := p.e0.toNat, head := p.psn - 1, map := 0, op := none, epoch := openEpoch old p.psn, unacked := 0, unackedAt := none, ceCount := 0, gapAt := none, nacked := none, held := [], refused := none, behind := false }

/-- OPEN_REQ for a peer state that exists (R193): a new incarnation abandons the own send half, and all but a duplicate begin the receive
half afresh. -/
def openPeer (p : Packet) (x : Peer) (s : State) : State :=
  let k := peerOf p
  let changed := x.remoteInc.elim false (fun i => decide (i ≠ p.srcInc))
  let anew := changed || x.remoteInc.isNone || x.recv.elim true (fun r => decide (r.remoteOpen ≠ p.e0.toNat))
  let ahead := x.recv.elim false (fun r => decide (1 ≤ dist p.psn (r.head + 1)) && decide (dist p.psn (r.head + 1) < 2 ^ 31))
  let s := updPeer k (fun x => { x with closing := none }) s
  let s := if !changed then s
    else if x.send.isSome then abandon k 1 s
    else tellRestart k s
  let s := if anew || ahead then
      let s := dropOpen k (if changed then stPeerRestarted else stRetryExceeded) s
      updPeer k (fun x => { x with recv := some (openRecv (if anew then none else x.recv) p), remoteInc := some p.srcInc, toldRestart := false }) s
    else s
  sendControl k .openAck p.psn.toNat p.srcInc 0 s

/-- The remote endpoint opens a flow that is new to a peer state which was asked to close: it has freed its own, so this one is freed too
(R191). -/
def closeDone (p : Packet) (s : State) : State :=
  let k := peerOf p
  if (s.peer? k).elim false (fun x => x.closing.isSome && x.recv.elim true (fun r => decide (r.remoteOpen ≠ p.e0.toNat))) then
    { s with trn := { s.trn with peers := s.trn.peers.filter (fun x => x.key ≠ k) } }
  else s

/-- OPEN_REQ (R191-R193). Without a peer state one is created. When the store is full it waits for the answer of a peer state that is asked
to close, and is refused with OPEN_NAK when there is none. -/
def onOpenReq (s : State) (p : Packet) : State :=
  let k := peerOf p
  let s := closeDone p s
  match s.peer? k with
  | some x => openPeer p x s
  | none =>
    match peerReady k s with
    | (true, s) => (s.peer? k).elim s (fun x => openPeer p x s)
    | (false, s) =>
      if s.trn.peers.any (fun x => x.closing.isSome) then
        { s with trn := { s.trn with opens := s.trn.opens.filter (fun q => peerOf q ≠ k) ++ [p] } }
      else sendControl k .openNak p.psn.toNat p.srcInc 0 s

/-- OPEN_REQs that wait are handled again. -/
def opensGo (s : State) : State := s.trn.opens.foldl onOpenReq { s with trn := { s.trn with opens := [] } }

/-- OPEN_ACK for the initial PSN of a half in OPENING (R192, R220). It brings the incarnation to record: another than the one recorded is
reported as a restart, its locks pass on, and the operations that wait, none of which has a packet sent, start (R192, R219, R263; DEDUCED,
log 144). -/
def onOpenAck (p : Packet) (s : State) : State :=
  let k := peerOf p
  match (s.peer? k).bind (·.send) with
  | none => s
  | some h =>
    if h.state ≠ .opening ∨ h.initPsn ≠ p.psn ∨ p.e0.toNat % 2 ^ 32 ≠ s.incarnation then s
    else
      let s := if incDiffers p s then holdersRestarted k.fa s else s
      let s := if incDiffers p s && !(s.peer? k).elim true (·.toldRestart) then chorusHalfLost k 1 (abandonReport k 1 (captureTrn k 1 s)) else s
      let s := updPeer k (fun x => { x with remoteInc := some p.srcInc, toldRestart := false }) s
      let s := updSend k (fun h => { h with state := .opened, timerAt := none, openHold := false, openBackoff := 0, timeouts := 0 }) s
      pumpAll k s

/-- The next backoff of an OPEN_REQ, in ns (R192, R214). -/
def State.openWait (s : State) (h : SendHalf) : Nat :=
  let first := atLeast1 (s.fld .trnNotnow 0 15 0)
  let top := 1000 * atLeast1 (s.fld .trnNotnow 0 31 16)
  if h.openBackoff = 0 then min first top else min (2 * h.openBackoff) top

/-- OPEN_NAK: the OPEN_REQ is sent again after the not-now backoff (R192, R214). -/
def onOpenNak (p : Packet) (s : State) : State :=
  withSendHalf p (fun k h s =>
    if h.state ≠ .opening ∨ h.initPsn ≠ p.psn then s
    else
      let b := s.openWait h
      updSend k (fun h => { h with openBackoff := b, openHold := true, timerAt := some s.clk.now }) s) s

/-- Free a peer state (R191); what waits for one goes on. -/
def freePeer (k : PeerKey) (s : State) : State :=
  opensGo (peerWake { s with trn := { s.trn with peers := s.trn.peers.filter (fun p => p.key ≠ k) } })

/-- What a CLOSE_REQ says of the halves of its sender agrees with a peer state here: the sender's next PSN with the PSN after HEAD, and its
HEAD with the PSN before the next one; 0 stands for a half that does not exist (R191; the 0 a DESIGN CHOICE, log 144). -/
def closeAgrees (x : Peer) (next head : Nat) : Bool :=
  decide (x.recv.elim 0 (fun r => (r.head + 1).toNat) = next) && decide (x.send.elim 0 (fun h => (h.nextPsn - 1).toNat) = head)

/-- CLOSE_REQ: acknowledged when both halves are idle as long and both pairs of PSN values agree (R191). -/
def onCloseReq (p : Packet) (s : State) : State :=
  let k := peerOf p
  let s := if incDiffers p s then incAbandon p s else s
  let idle := (s.peer? k).elim false (fun x => s.closable { x with closing := none } && closeAgrees x p.psn.toNat (p.e0.toNat % 2 ^ 32))
  if idle then freePeer k (sendControl k .closeAck p.psn.toNat p.e0.toNat p.e1.toNat s)
  else sendControl k .closeNak p.psn.toNat p.e0.toNat p.e1.toNat s

/-- The peer state was asked to close and has not been used since. -/
def State.closing (s : State) (k : PeerKey) : Bool := (s.peer? k).elim false (fun x => x.closing.isSome)

/-- An answer echoes what the CLOSE_REQ said: the next PSN and HEAD, which have not changed since (R199). -/
def closeEchoed (x : Peer) (p : Packet) : Bool :=
  decide (x.send.elim 0 (fun h => h.nextPsn.toNat) = p.psn.toNat) && decide (x.recv.elim 0 (fun r => r.head.toNat) = p.e0.toNat)

/-- CLOSE_ACK for a peer state that was asked to close (R191). -/
def onCloseAck (p : Packet) (s : State) : State :=
  let k := peerOf p
  if incDiffers p s then incAbandon p s
  else if s.closing k && (s.peer? k).elim false (fun x => closeEchoed x p) then freePeer k s else s

/-- The peer state stays, and the next candidate is tried when one is needed. The one that stays counts as used just now, so that the
least recently used of the others comes next (R191; DESIGN CHOICE, log 144). -/
def closeFailed (k : PeerKey) (s : State) : State :=
  if s.closing k then opensGo (peerWake (updPeer k (fun x => { x with closing := none, lastUse := s.clk.now }) s)) else s

/-- CLOSE_NAK for a peer state that was asked to close (R191). -/
def onCloseNak (p : Packet) (s : State) : State :=
  let k := peerOf p
  if incDiffers p s then closeFailed k (incAbandon p s)
  else if (s.peer? k).elim false (fun x => closeEchoed x p) then closeFailed k s else s

end Sys2Proof.Machine
end

