-- ==== Sys2Proof/Machine/Fetch.lean ====
section
/-! DEFINITION. Prefetch of rings: runs, reads, taken entries, misses and faults (R39, R46-R48, R180, R181, R399, R485). -/

namespace Sys2Proof.Machine

/-- Raise a queue's known producer position (R39). -/
def Fetch.know (f : Fetch) (p : Pos) : Fetch := if dist p f.known < 2 ^ 31 then { f with known := p } else f

/-- Prefetch of this queue is bounded by the doorbell (R46). -/
def State.bounded (s : State) (q : Queue) : Bool := decide (q.size < 256) || decide (s.fld .qmgCtrl 0 0 0 = 0)

/-- QMG_PREFETCH: CHUNK, REFETCH_LIMIT and REFETCH_GAP. -/
def State.chunk (s : State) : Nat :=
  let c := s.fld .qmgPrefetch 0 4 0
  if c = 0 ∨ 16 < c then 16 else c
def State.refetchLimit (s : State) : Nat := atLeast1 (s.fld .qmgPrefetch 0 11 8)
def State.refetchGap (s : State) : Nat := ns (atLeast1 (s.fld .qmgPrefetch 0 31 16))

/-- A read returned no written entry at the fetch position: idle after REFETCH_LIMIT misses with nothing below the doorbell, else
wait for REFETCH_GAP. Later reads are discarded, and so is what held one of them back (R47, R48). -/
def fetchMiss (qid : Nat) (took : Bool) (s : State) : State :=
  updFetch qid (fun f =>
    let misses := if took then 0 else f.misses + 1
    let f := { f.discard with held := none, single := true, misses := misses }
    if !f.below f.pos && decide (s.refetchLimit ≤ misses) then { f with running := false } else { f with waitGap := true })
    s

/-- A fault of a read beyond the known producer position is a miss; where an older read is outstanding, the run goes on with one read
at a time and comes to the position again (R47, R180). -/
def fetchSkip (qid : Nat) (s : State) : State :=
  if (s.queue? qid).elim true (fun q => q.fetch.live.isEmpty) then fetchMiss qid false s
  else updFetch qid (fun f => { f with single := true }) s

/-- A fault on a ring read at a position: held for CMD_XLT_INVAL when the position lies below the known producer position, else a
miss (R180, R181). -/
def ringFault (q : Queue) (pos : Pos) (s : State) : State :=
  let s := updFetch q.qid (fun f => { f with held := some pos }) s
  endpointEvent q.attr.ep evXltFault 0 (q.attr.base + 64 * ringIndex pos q.attr.k) q.attr.asid q.attr.asid s

/-- Issue the ring reads that a run lets issue (R46-R48), unless the queue's home sleeps (R409). A ring in a page of TYPE DEVICE is not read
beyond its known producer position (R167). -/
def fetchGo (qid : Nat) : Nat → State → State
  | 0, s => s
  | fuel + 1, s =>
    match s.queue? qid with
    | none => s
    | some q =>
      let f := q.fetch
      if q.state ≠ .active ∨ !f.running ∨ f.waitGap ∨ f.held.isSome ∨ !s.epUp ∨ s.sleeps (24 + q.attr.home / 2) ∨ s.funcInReset q.attr.mid
          ∨ (if f.single then 1 else 2) ≤ f.reads.length then s
      else
        let p := f.next
        let avail := if f.below p then dist f.known p else 0
        let bounded := s.bounded q
        if bounded && avail == 0 then (if f.live.isEmpty then updFetch qid (fun f => { f with running := false }) s else s)
        else
          let n := min s.chunk (q.size - ringIndex p q.attr.k)
          let n := if bounded then min n avail else n
          let va := q.attr.base + 64 * ringIndex p q.attr.k
          let isMiss := !f.below p
          match translate q.attr.asid va 64 false q.attr.home true (.ring qid p) s with
          | (.hit (g :: _), s1) =>
            let room := (4096 - va % 4096) / 64
            let n := max 1 (min (if g.type = 2 then min n avail else n) room)
            if g.type = 2 ∧ avail = 0 then (if f.live.isEmpty then updFetch qid (fun f => { f with running := false }) s1 else s1) else
            let (ok, s2) := hostGates q.attr.ep 0 q.attr.mid (some q.attr.pkey) [(g.bus, 64 * n)] s1
            if ok then
              let s := updFetch qid (fun f => { f with reads := f.reads ++ [{ id := s2.hif.nextReq, pos := p, n := n, result := none, dead := false }] }) s2
              fetchGo qid fuel (issueReq q.attr.ep q.attr.mid g.bus (64 * n) (.ring qid p n) (fun id => .hostRead id q.attr.ep g.bus (64 * n) (decide (g.type = 1))) s)
            else if isMiss then fetchSkip qid s2 else ringFault q p (captureRefused q.attr.asid va q.attr.home false s2)
          | (.pending, s1) => s1
          | (_, s1) => if isMiss then fetchSkip qid s1 else ringFault q p s1

/-- Start a run, when the queue is ACTIVE and none is in progress (R46). -/
def startRun (qid : Nat) (s : State) : State :=
  match s.queue? qid with
  | none => s
  | some q =>
    if q.state = .active ∧ !q.fetch.running then
      fetchGo qid 2 (updFetch qid (fun f => { f with running := true, misses := 0, single := false, waitGap := false }) s)
    else if q.state = .active then fetchGo qid 2 s
    else s

/-- The entries of a ring read, eight words each. -/
def ringEntries : Nat → Pos → List Byte → List Entry
  | 0, _, _ => []
  | n + 1, p, bs => { pos := p, ws := wordsOf 8 (bs.take 64) } :: ringEntries n (p + 1) (bs.drop 64)

/-- Take the results that have come, oldest read first: the entries that a failed read brought before its failed completion are taken, and
the failure stands at the position after them (R47, R48, R180, R399). A read that returns written entries alone ends the time of
one read at once, as R47's last sentence says, also where its first one would not let a second read follow in the same run (DESIGN
CHOICE, log 167). -/
def fetchTake (qid : Nat) : Nat → State → State
  | 0, s => s
  | fuel + 1, s =>
    match s.queue? qid with
    | none => s
    | some q =>
      match q.fetch.live with
      | [] => s
      | r :: _ =>
        match r.result with
        | none => s
        | some res =>
          let m := match res with
            | .data _ => r.n
            | _ => min r.n ((came res).length / 64)
          let got := (ringEntries m r.pos (came res)).takeWhile (fun e => dPhase e.ws == phaseOf e.pos q.attr.k)
          let np := r.pos + BitVec.ofNat 32 got.length
          let s := updFetch qid (fun f => { f.know np with pos := np, taken := f.taken ++ got, reads := f.reads.filter (fun x => x.id ≠ r.id) }) s
          if got.length = r.n then
            let s := updFetch qid (fun f => { f with misses := 0, single := false }) s
            fetchTake qid fuel (fetchGo qid 2 s)
          else if got.length = m ∧ m < r.n ∧ q.fetch.below np then
            headSettle qid (updFetch qid (fun f => { f.discard with
              running := false
              taken := f.taken ++ [{ pos := np, ws := [] }] }) s)
          else fetchMiss qid (!got.isEmpty) s

/-- A queue whose context went while its ring was read is fetched again once a job stands at its head (R51). -/
def fetchWork (qid : Nat) (s : State) : State := if (s.queue? qid).elim false s.hasWork then startFetch qid s else s

/-- A ring read returned, under the host request that it was. Later reads than the oldest keep what they brought until their turn; a
read that was discarded brings nothing, and another may take its place. -/
def ringData (qid id : Nat) (res : HostResult) (s : State) : State :=
  if (s.queue? qid).elim false (fun q => q.fetch.reads.any (fun r => r.id == id && r.dead)) then
    fetchGo qid 2 (updFetch qid (fun f => { f with reads := f.reads.filter (fun r => r.id ≠ id) }) s)
  else
  fetchWork qid (fetchTake qid 3 (updFetch qid (fun f => { f with
    reads := updAll (fun r => r.id = id) (fun r => { r with result := some res }) f.reads }) s))

end Sys2Proof.Machine
end

