-- ==== Sys2Proof/Machine/Pond.lean ====
section
/-! DEFINITION. Release of parked packets (R63-R66, R68, R72). -/

namespace Sys2Proof.Machine

/-- What a parked control packet does when it is released. -/
def controlKind (ptype : Nat) : Packet → State → State :=
  if ptype = PType.ack.code then onAck
  else if ptype = PType.nack.code then onNack
  else if ptype = PType.notNow.code then onNotNow
  else if ptype = PType.refuse.code then onRefuse
  else if ptype = PType.resync.code then onResync
  else if ptype = PType.openReq.code then fun p s => onOpenReq s p
  else if ptype = PType.openAck.code then onOpenAck
  else if ptype = PType.openNak.code then onOpenNak
  else if ptype = PType.closeReq.code then onCloseReq
  else if ptype = PType.closeAck.code then onCloseAck
  else if ptype = PType.closeNak.code then onCloseNak
  else fun _ s => s

/-- Release a parked packet, or park it again behind what it still needs (R64). While the endpoint side is halted it needs its peer
state alone (R72). -/
def pondTry (s : State) (x : Parked) : State :=
  let k := peerOf x.pkt
  let away := peerAway k s
  let alone := decide (x.vc = 6) || s.sys.halt
  let q := if alone then none else missingQueue x.pkt s
  let before := if alone then s.qmg.pond.any (fun y => decide (peerOf y.pkt = k)) else behindParked x.pkt s
  if away || q.isSome || before then
    let s := { s with qmg := { s.qmg with pond := s.qmg.pond ++ [x] } }
    let s := x.needs.foldl (fun s q => startFetch q s) s
    if away then startPeerFetch k s else s
  else asOf x.gen (fun s =>
    if x.vc = 6 then controlKind x.pkt.ptype x.pkt s else arriveData x.pkt x.tagOk none (touch (neededQueues x.pkt s) s)) s

/-- Release what can be released, in arrival order (R64). -/
def pondRelease (s : State) : State :=
  let l := s.qmg.pond
  l.foldl pondTry { s with qmg := { s.qmg with pond := [] } }

end Sys2Proof.Machine
end

