-- ==== Sys2Proof/Machine/Resume.lean ====
section
/-! DEFINITION. What goes on when something waited for arrives: table reads and A/D updates of walks, host reads, AtomicOps, their
failures, and the ends of regions in DRAINING (R138, R142, R153, R169-R178, R184, R399, R581, R586). -/

namespace Sys2Proof.Machine

/-! ### Host requests (R399, R581) -/

/-- The request outstanding under an identifier, all of its parts issued. -/
def State.hostReq? (s : State) (id : Nat) : Option HostReq := s.hif.reqs.find? (fun r => r.id = id && r.held.isEmpty)

/-- A request is over: one that waits on its port takes its place (R387). -/
def dropReq (r : HostReq) (s : State) : State :=
  issueNext r.port { s with hif := { s.hif with reqs := s.hif.reqs.filter (fun x => x.id ≠ r.id) } }

/-- Capture into HIF_ERR of a port (R393, R399, R402, R404). -/
def hifErr (port cause fn addr : Nat) (s : State) : State :=
  s.capture .hifErr port 0 (at_ 60 cause + at_ 48 (fn % 256) + addr % 2 ^ 48)

/-- Count and capture a failed completion of an access of a MID, at the first byte that did not come (R399, R581). -/
def failedAccess (port mid addr : Nat) (res : HostResult) (s : State) : State :=
  match res with
  | .poisoned | .cut _ false => hifErr port 2 mid (addr + (came res).length) (s.count (cntHif port 3) 1)
  | .timedOut | .cut _ true => hifErr port 3 mid (addr + (came res).length) (s.count (cntHif port 4) 1)
  | _ => s

/-- Count and capture a failed completion (R399, R581). A request that has waited for a tag all along
was never outstanding. A poisoned one that counts as a miss is only counted. -/
def countFailure (r : HostReq) (miss : Bool) (res : HostResult) (s : State) : State :=
  if r.live = 0 then s
  else if miss && (res == .poisoned || res == .cut (came res) false) then s.count (cntHif r.port 3) 1
  else failedAccess r.port r.mid r.addr res s

/-- Report HIF_POISONED for a failed request (R399). -/
def reportPoisoned (port addr : Nat) (s : State) : State := report .hifPoisoned 0x09 port (addr % 2 ^ 52) s

/-! ### Regions (R138-R142) -/

/-- A job's checked local buffers lie in a region of the keyring. -/
def Job.usesRegion (j : Job) (i : Nat) : Bool := j.checked && !j.rts && j.frags.any (fun f => keyIndex f.key == i)

/-- An accepted operation references a keyring entry (R138, R143). A TSEND that went as an RTS reads nothing itself: once its region is
deregistered its target's reads fail (R123). -/
def State.regionUsed (s : State) (i : Nat) : Bool :=
  s.rma.targets.any (fun t => t.region == some i && t.status == stOk) || !(s.resendsFrom i).isEmpty
    || s.qmg.jobs.any (fun j => j.phase != .ended && j.usesRegion i) || s.heldOut.any (fun h => decide (i ∈ h.regions))

/-- The CMD_REGION_DEREGISTER that waits for an entry. -/
def isDeregOf (i : Nat) (b : Begun) : Bool := b.opcode == 0x19 && decide (b.obj = (2, i, i))

/-- An entry in DRAINING becomes FREE, and the command completes (R138). -/
def freeRegion (i : Nat) (s : State) : State :=
  let s := updRegion i (fun r => { r with state := .free }) s
  completeWhere (isDeregOf i) csOk 0 0 0 { s with rma := { s.rma with freed := s.rma.freed ++ [i] } }

/-- Free the entries in DRAINING that nothing references any more (R138). -/
def regionsSettle (s : State) : State :=
  ((s.rma.regions.filter (fun r => r.state == .draining)).filter (fun r => !s.regionUsed r.index)).foldl
    (fun s r => freeRegion r.index s) s

/-- The entry that a registration takes: the one FREE longest, or none (R139). -/
def State.freeIndex (s : State) : Option Nat :=
  if s.rma.fresh < s.keyringSize then some s.rma.fresh else s.rma.freed.find? (fun i => decide (i < s.keyringSize))

/-- Take a keyring entry for a region; its key is returned (R138). -/
def takeIndex (i : Nat) (r : Region) (s : State) : Nat × State :=
  let v := (s.region? i).elim 0 (·.variant)
  let r := { r with index := i, variant := v, state := .valid }
  let others := s.rma.regions.filter (fun x => x.index ≠ i)
  let skipped := (List.range (i - s.rma.fresh)).map (fun n => s.rma.fresh + n)
  (256 * i + v,
   { s with rma := { s.rma with
      regions := others ++ [r]
      fresh := max s.rma.fresh (i + 1)
      freed := skipped ++ s.rma.freed.filter (· ≠ i) } })

/-- A region may be written by someone. -/
def Region.writable (r : Region) : Bool := r.localWrite || r.rWrite || r.rAtomic

/-- Walk the pages of a pinned registration; done, failed, or waiting (R142). Its walks count as those of MC00 (DESIGN CHOICE, log 173). -/
def pinWalk (r : Region) (tok : Nat) : Nat → Nat → State → Option Bool × Nat × State
  | 0, a, s => (some true, a, s)
  | fuel + 1, a, s =>
    if r.base + r.length ≤ a then (some true, a, s)
    else
      match s.asid? r.asid with
      | none => (some false, a, s)
      | some x =>
        if s.walkFaulted (.pin tok) then (some false, a, clearFaulted (.pin tok) s)
        else
          match translate1 x a r.writable 0 false (.pin tok) s with
          | (.hit _, s) => pinWalk r tok fuel (a / 4096 * 4096 + 4096) s
          | (.pending, s) => (none, a, s)
          | (_, s) => (some false, a, s)

/-- Go on with a pinned registration (R142). -/
def pinGo (tok : Nat) (s : State) : State :=
  match s.xlt.pinned.find? (fun p => p.1 = tok) with
  | none => s
  | some (_, pos, r, a) =>
    let (res, a, s) := pinWalk r tok ((r.length + 4095) / 4096 + 2) a s
    let drop := fun s : State => { s with xlt := { s.xlt with pinned := s.xlt.pinned.filter (fun p => p.1 ≠ tok) } }
    let mine := fun (b : Begun) => decide (b.chan = .ring pos)
    match res with
    | none => { s with xlt := { s.xlt with pinned := s.xlt.pinned.map (fun p => if p.1 = tok then (tok, pos, r, a) else p) } }
    | some false => completeWhere mine csXltFault s.xlt.lastFault 0 0 (drop s)
    | some true =>
      let s := drop s
      let want := if r.index ≠ 0 then some r.index else s.freeIndex
      match want with
      | none => completeWhere mine csNoResource 0 0 0 s
      | some i =>
        if (s.region? i).elim false (fun x => x.state != .free) then completeWhere mine csBusy 0 0 0 s
        else
          let (key, s) := takeIndex i r s
          completeWhere mine csOk 0 key 0 s

/-! ### Waking -/

/-- The messages that wait for the receive of an SRQ go on. -/
def recvWake (jid : Nat) (s : State) : State := (s.rma.targets.filter (fun t => t.recv = some jid)).foldl (fun s t => holdRetry t.peer s) s

/-- Someone who waited for a translation goes on. -/
def wake (w : Waiter) (s : State) : State :=
  match w with
  | .ring q _ => fetchGo q 2 s
  | .job jid => recvWake jid (jobResume jid s)
  | .cqRec q => cqDrain q (((s.queue? q).elim 0 (fun c => c.sink.recWait.length)) + 1) s
  | .evRec q => eqRetry q s
  | .target k psn => holdRetry k (onTarget k psn (targetAgain k psn) s)
  | .resend k psn => rereadGo k psn s
  | .pin tok => pinGo tok s

def wakeAll (l : List Waiter) (s : State) : State := l.foldl (fun s w => wake w s) s

/-- The walk that a ring read waited for faulted (R180, R181). One that has been discarded meanwhile takes no fault. -/
def ringFaulted (qid : Nat) (pos : Pos) (s : State) : State :=
  match s.queue? qid with
  | none => s
  | some q =>
    if !q.fetch.running ∨ q.fetch.waitGap ∨ q.fetch.next ≠ pos then s
    else if q.fetch.below pos then ringFault q pos s
    else fetchSkip qid s

/-- Who waited for a walk takes its fault (R178): a ring read, a record or an event at once, whatever the state of its queue (R181);
anything else as it goes on. -/
def takeFault (w : Waiter) (s : State) : State :=
  match w with
  | .ring q pos => ringFaulted q pos s
  | .cqRec q => (s.queue? q).elim s (fun c => if c.sink.recWait.isEmpty then s else recordFault c s)
  | .evRec q => (s.queue? q).elim s (fun c => c.sink.evWait.foldl (fun s e => eqLose c e s) (updSink q (fun k => { k with evWait := [] }) s))
  | w => wake w { s with xlt := { s.xlt with faulted := s.xlt.faulted ++ [w] } }

def faultAll (l : List Waiter) (s : State) : State := l.foldl (fun s w => takeFault w s) s

/-- What a walk's end lets begin: the next walk of the island that waited for MAX_WALKS (R171). -/
def walkNext (host : Nat) : Nat → State → State
  | 0, s => s
  | fuel + 1, s =>
    if s.maxWalks ≤ (s.xlt.walks.filter (fun w => w.host = host && w.active)).length then s
    else
      match s.xlt.walks.find? (fun w => w.host = host && !w.active && !w.cached) with
      | none => s
      | some w =>
        match walkGo { w with active := true, stale := false, gen := s.liveGen } s with
        | (true, s) => walkNext host fuel s
        | (false, s) => walkNext host fuel (faultAll w.all s)

/-- What follows when a walk has been dropped with a fault: who waited for it goes on, and so does the next walk. -/
def walkFailed (w : Walk) (s : State) : State :=
  walkNext w.host (s.xlt.walks.length + 1) (faultAll w.all s)

/-- A walk ends in a fault (R177, R178). -/
def walkFault (c : XCause) (lvl addr : Nat) (w : Walk) (s : State) : State :=
  walkFailed w (reportWalkFault c lvl addr w (dropWalk w.id s))

/-- A walk for a write ends in a fault that a read of the page does not meet: those who only read walk for themselves (R169, R171). -/
def walkFaultWrite (c : XCause) (lvl addr : Nat) (readOk : Bool) (w : Walk) (s : State) : State :=
  if w.write && readOk then wakeAll w.readers (walkFault c lvl addr { w with readers := [] } s) else walkFault c lvl addr w s

/-- Entries of a walk cache (R175). -/
def wcFill (c : WcEntry) (l : List WcEntry) : List WcEntry :=
  let l := l.filter (fun x => !(x.host = c.host && x.asid = c.asid && x.level = c.level && x.vaHigh = c.vaHigh))
  c :: (l.filter (fun x => x.host ≠ c.host)) ++ (l.filter (fun x => x.host = c.host)).take 1023

/-- A walk ends in a mapping: the walk cache, the second-level TLB and the cluster's TLB are filled (R173, R175). The D update of a
translation that an invalidation has removed meanwhile serves the accesses that had used it and leaves nothing cached (R183, R184). -/
def walkMap (e lvl ea : Nat) (w : Walk) (s : State) : State :=
  let size := pageSize lvl
  let t : TlbEntry := { place := .second w.host, asid := w.asid, va := w.va / size * size, size := size, bus := pteAddr e / size * size, type := bits e 7 6, write := bit e 2, dirty := bit e 5, entryAddr := ea, entry := word e, level := lvl }
  let s := { s with xlt := { s.xlt with
    tlb := tlbFill { t with place := clusterPlace w.unit w.fetch } (tlbFill t s.xlt.tlb)
    wc := if s.fld .xltCtrl 0 0 0 = 1 then w.seen.foldl (fun l c => wcFill c l) s.xlt.wc else s.xlt.wc } }
  let s := wakeAll w.all (dropWalk w.id s)
  let s := if w.stale then { s with xlt := { s.xlt with tlb := s.xlt.tlb.filter (fun e => !(e.asid = t.asid && e.va = t.va && e.size = t.size)) } } else s
  walkNext w.host (s.xlt.walks.length + 1) s

/-- A covered walk starts again after the invalidation (R184). -/
def walkRestart (w : Walk) (s : State) : State :=
  match s.asid? w.asid with
  | none => walkFault .notPresent w.level w.table w s
  | some a =>
    let w := { w with level := a.levels, table := a.root, stale := false, cas := none, seen := [], gen := s.liveGen }
    match walkGo w s with
    | (true, s) => s
    | (false, s) => walkFailed w s

/-- XLT_CTRL.AD_RETRY. -/
def State.adRetry (s : State) : Nat := atLeast1 (s.fld .xltCtrl 0 23 16)

/-- A leaf entry is examined: permission, then accessed and dirty bits (R169, R172). `tries` are the swaps made so far. -/
def walkLeaf (e lvl ea tries : Nat) (w : Walk) (s : State) : State :=
  match s.asid? w.asid with
  | none => walkFault .notPresent lvl ea w s
  | some a =>
    let need := 0x10 + (if w.write then 0x20 else 0)
    if !bit e 1 || (w.write && !bit e 2) then walkFaultWrite .permission lvl ea (bit e 1) w s
    else if a.adMode = 0 ∨ e &&& need = need then walkMap e lvl ea w s
    else if a.adMode = 2 then walkFaultWrite .adRequired lvl ea (bit e 4) w s
    else if tries ≥ s.adRetry ∨ !s.atomicOn a.host a.mid then walkFaultWrite .adUpdate lvl ea (bit e 4) w s
    else
      match issueCas { w with level := lvl, casAddr := ea } e need s with
      | (true, s) => s
      | (false, s) =>
        if w.write && bit e 4 then wakeAll w.readers (walkFailed { w with readers := [] } (dropWalk w.id s)) else walkFailed w (dropWalk w.id s)

/-- A table entry has been read (R168, R169, R176). A covered walk starts again (R184); a read that failed is a fault all the same
(R399). -/
def walkEntry (w : Walk) (res : HostResult) (s : State) : State :=
  let ea := w.table + vaIndex w.va w.level * 8
  match res with
    | .data bs =>
      let e := ofBytes (bs.take 8)
      if w.stale then walkRestart w s
      else if !bit e 0 then walkFault .notPresent w.level ea w s
      else if pteMalformed e w.level then walkFault .malformed w.level ea w s
      else if bit e 3 then walkLeaf e w.level ea 0 w s
      else
        let c : WcEntry := { host := w.host, asid := w.asid, level := w.level, vaHigh := w.va / pageSize w.level, table := pteAddr e }
        let w' := { w with level := w.level - 1, table := pteAddr e, seen := w.seen ++ [c] }
        match walkGo w' s with
        | (true, s) => s
        | (false, s) => walkFailed w s
    | _ => walkFault .hostRead w.level ea w s

/-- The compare-and-swap of an A/D update has completed (R172, R174). -/
def walkCas (w : Walk) (res : HostResult) (s : State) : State :=
  if w.stale && !w.cached then walkRestart w s
  else
    match w.cas, res with
    | some (e, n), .data bs =>
      let seen := ofBytes (bs.take 8)
      let need := 0x10 + (if w.write then 0x20 else 0)
      if seen = e.toNat then walkMap (seen ||| need) w.level w.casAddr w s
      else if !bit seen 0 then walkFault .notPresent w.level w.casAddr w s
      else if pteMalformed seen w.level then walkFault .malformed w.level w.casAddr w s
      else walkLeaf seen w.level w.casAddr n w s
    | c, _ => walkFaultWrite .adUpdate w.level w.casAddr (c.elim false (fun x => bit x.1.toNat 4)) w s

/-! ### Host reads and AtomicOps -/

/-- A target operation ends with a failed host access: handled as a translation fault of the page, that of the byte after those read (R148,
R179, R399). -/
def targetReadFailed (t : TargetOp) (s : State) : State :=
  let s := captureRma stXltFault t.peer.fa t.compare t.addr (targetFault t (t.addr + t.data.length) s)
  if t.ptype = PType.atomic.code then atomicEnd t.peer t.psn stXltFault 0 s
  else sendStatus t.peer t.psn t.pkey t.group stXltFault false (dropTarget t.peer t.psn s)

/-- An AtomicOp of an ATOMIC has completed with a value (R153). -/
def atomicValue (t : TargetOp) (tries v : Nat) (s : State) : State :=
  let limit := s.fld .rmaAtomicCtrl 0 15 0
  let single := (t.subop == 0 && t.width == 8) || t.subop == 1
  if single || v == t.seen then atomicEnd t.peer t.psn stOk v s
  else if limit ≠ 0 ∧ tries = limit then atomicEnd t.peer t.psn stAtomicUnsupported 0 s
  else atomicTry t v s

/-- The configuration generation in which a job was looked up (R471). -/
def State.jobGen (s : State) (jid : Nat) : Nat := (s.job? jid).elim s.cmd.gen (·.gen)

/-- A ring read whose failure, after the first `came` bytes, is a miss: it has been discarded, or what failed lies beyond the known producer
position (R399). -/
def State.ringMissed (s : State) (r : HostReq) (came : Nat) : Bool :=
  match r.use with
  | .ring q pos _ => (s.queue? q).elim true (fun x => !x.fetch.below (pos + BitVec.ofNat 32 (came / 64)) || !x.fetch.live.any (fun y => y.id = r.id))
  | _ => false

/-- A non-posted request of the device completes or fails (R153, R169, R172, R399, R586). -/
def reqDone (r : HostReq) (res : HostResult) (s : State) : State :=
  let miss := s.ringMissed r (came res).length
  let s := countFailure r miss res (dropReq r s)
  let bad := fun s : State => reportPoisoned r.port (r.addr + (came res).length) s
  match r.use with
  | .ring q _ _ =>
    let s := match res with
      | .data _ => s
      | _ => if miss then s else bad s
    ringData q r.id res s
  | .ftab jid =>
    match res with
    | .data bs => recvWake jid (asOf (s.jobGen jid) (ftabData jid bs) s)
    | _ =>
      recvWake jid <| match s.job? jid with
      | none => bad s
      | some j =>
        let s := bad s
        match s.queue? j.qid with
        | none => endJob jid stQueueError s
        | some q =>
          if q.reset then endJob jid stQueueError s
          else endJobAfter jid stQueueError (some (eventOf q evQueueError 6 j.firstPos.toNat s)) (moveToError j.qid s)
  | .payload jid | .atomicBlock jid =>
    match res with
    | .data bs => asOf (s.jobGen jid) (fun s => jobRead jid (updJob jid (fun j => { j with buf := j.buf ++ bs }) s)) s
    | _ => jobFailed jid stXltFault (bad s)
  | .target k psn =>
    match s.target? k psn, res with
    | none, _ => s
    | some _, .data bs => onTarget k psn (fun s => getGo k psn (updTarget k psn (fun t => { t with data := t.data ++ bs }) s)) s
    | some t, _ => targetReadFailed { t with data := t.data ++ (came res) } (bad s)
  | .atomicRead k psn =>
    targetsGo (match s.target? k psn, res with
      | none, _ => s
      | some t, .data bs => onTarget k psn (atomicTry t (ofBytes bs)) s
      | some t, _ => targetReadFailed t (bad s))
  | .atomicOp k psn _ n =>
    targetsGo (match s.target? k psn, res with
      | none, _ => s
      | some t, .data bs => onTarget k psn (atomicValue t n (ofBytes bs)) s
      | some _, .unsupported => atomicEnd k psn stAtomicUnsupported 0 s
      | some _, _ => atomicEnd k psn stXltFault 0 (bad s))
  | .walk wid =>
    match s.xlt.walks.find? (fun w => w.id = wid) with
    | some w => walkEntry w res s
    | none => s
  | .adCas wid =>
    match s.xlt.walks.find? (fun w => w.id = wid) with
    | some w => walkCas w res s
    | none => s
  | .resend k psn =>
    match res with
    | .data bs => rereadData k psn bs s
    | _ => rereadLost k psn (came res).length (bad s)
  | .rendezvous _ | .admin _ => s

/-- Kinds of outstanding requests, by the row that completes them. -/
def ReqFor.isRing : ReqFor → Bool
  | .ring .. => true
  | _ => false
def ReqFor.isWalk : ReqFor → Bool
  | .walk _ => true
  | _ => false
def ReqFor.isCas : ReqFor → Bool
  | .adCas _ => true
  | _ => false
def ReqFor.isAtomic : ReqFor → Bool
  | .atomicOp .. => true
  | _ => false
def ReqFor.isRead (u : ReqFor) : Bool := !u.isRing && !u.isWalk && !u.isCas && !u.isAtomic

/-- A job's translated pieces are those of a buffer it reads (R147, R237). -/
def readsFirst (j : Job) : Bool := j.phase == .readData || j.phase == .xlate || (j.recOp == opAtomic && readsLocal j && j.buf.isEmpty)

/-- A job writes its local buffers (R147). -/
def writesLocal (j : Job) : Bool :=
  j.recOp == opGet || j.recOp == opAtomic || j.recOp == opRecv || j.recOp == opTrecv || j.recOp == opChorus

/-- A job has checked accesses to issue: reads, writes that wait, or what is still to come for a buffer whose whole extent has passed
(R483, R486). -/
def Job.unissued (j : Job) : Bool :=
  j.phase != .ended && (!j.todo.isEmpty || !j.late.isEmpty || (writesLocal j && j.status == stOk && !j.xp.segs.isEmpty && !readsFirst j))

/-- An operation at the target has checked accesses to issue. -/
def TargetOp.unissued (t : TargetOp) : Bool :=
  t.status == stOk && (!t.todo.isEmpty || !t.late.isEmpty
    || (t.ptype == PType.put.code && !t.xp.segs.isEmpty && decide (t.placed < t.len)) || (t.onRegion && t.answered && !t.issued && t.xp.todo.isEmpty))

/-- A packet whose payload is being read again through a port has reads to issue. -/
def OutPkt.rereadsOn (o : OutPkt) (port : Nat) : Bool :=
  o.src.elim false (fun c => decide (c.port = port)) && match o.again with
    | .reading (_ :: _) _ => true
    | _ => false

/-- What a CMD_GATE_WRITE on a host port must wait for (R486). -/
def State.gateWait (s : State) (b : Begun) (port detail : Nat) : GateWait :=
  { cmd := b, port := port
    jobs := (s.qmg.jobs.filter (fun j => decide (j.mid / 256 = port) && j.unissued)).map (·.jid)
    ops := (s.rma.targets.filter (fun t => decide (t.mid / 256 = port) && t.unissued)).map (fun t => (t.peer, t.psn))
    resends := s.trn.peers.flatMap (fun p => p.send.elim [] (fun h =>
      (h.out.filter (fun o => o.rereadsOn port)).map (fun o => (p.key, o.pkt.psn))))
    detail := detail }

/-- An access checked against the former rule remains: of those jobs and operations, or a request that its port holds (R486). -/
def State.gateWaiting (s : State) (w : GateWait) : Bool :=
  s.qmg.jobs.any (fun j => decide (j.jid ∈ w.jobs) && j.unissued)
    || s.rma.targets.any (fun t => decide ((t.peer, t.psn) ∈ w.ops) && t.unissued)
    || w.resends.any (fun x => (s.outPkt? x.1 x.2).elim false (fun o => o.rereadsOn w.port))
    || s.heldOut.any (fun o => decide (o.out.hostPort = some w.port)) || s.hif.reqs.any (fun r => decide (r.port = w.port) && !r.held.isEmpty)

/-- The CMD_GATE_WRITEs that need not wait any more complete (R486). -/
def gatesSettle (s : State) : State :=
  (s.cmd.gateWaits.filter (fun w => !s.gateWaiting w)).foldl
    (fun s w => completeWhere (fun b => b = w.cmd) csOk 0 0 0
      (audit 0x0030 w.cmd.mid w.detail { s with cmd := { s.cmd with gateWaits := s.cmd.gateWaits.erase w } })) s

/-- Packets that waited for the start of an earlier GET or ATOMIC of their peer state go on once it has started (R156). -/
def behindGo (s : State) : State :=
  (s.trn.peers.filter (fun p => p.recv.elim false (·.behind) && !s.rma.targets.any (fun t => decide (t.peer = p.key) && t.unstarted))).foldl
    (fun s p => holdRetry p.key (updRecv p.key (fun r => { r with behind := false }) s)) s

/-- Receives that waited for earlier ones of their SRQ start, and what waited for them goes on (R584). -/
def recvsGo (s : State) : State :=
  (s.qmg.jobs.filter (fun j => j.phase == .accepted && (j.recOp == opRecv || j.recOp == opRecvImm))).foldl
    (fun s j =>
      let s := recvStart j.jid s
      if (s.job? j.jid).elim false (fun x => x.phase == .accepted) then s
      else recvWake j.jid s) s

/-- While the endpoint side is halted, the packets of the pond need no queue context: each is refused as soon as its peer state is there
(R72, R210). -/
def haltPond (s : State) : State := if s.sys.halt then pondRelease s else s

/-- What every step of the endpoint side leaves settled: what waited for a peer state or for room in the operation log goes on (R190,
R215), then what waited behind it, regions and queues that drain, and gate rules that replace others (R486). -/
def settle (s : State) : State := gatesSettle (drainsSettle (regionsSettle (behindGo (recvsGo (targetsGo (haltPond (peerWake s)))))))

/-- A step of the endpoint side. -/
def epStep (f : State → State) (s : State) : State := whenEp (fun s => settle (f s)) s

/-- A step of transport, which also answers while the endpoint side is halted (R72, R210). -/
def trnStep (f : State → State) (s : State) : State := whenRunning (fun s => settle (f s)) s

/-- AtomicOps are no longer enabled for a request that has not gone out (R154, R164, R396). -/
def State.atomicBarred (s : State) (r : HostReq) : Bool :=
  s.unissuedReq r && match r.use with
    | .atomicOp k psn _ _ => (s.target? k psn).elim false (fun t => !s.atomicWidthOn t.mid t.width)
    | .adCas _ => !s.atomicOn r.port r.mid
    | _ => false

/-- AtomicOps that wait for a tag or for their port go out only while both conditions of R396 hold: one that is barred by now is not issued,
and its operation ends as one that finds AtomicOps disabled does (R154, R172, R396). -/
def atomicsCheck (s : State) : State :=
  (s.hif.reqs.filter s.atomicBarred).foldl (fun s r =>
    let s := dropHeldReq r.id { s with hif := { s.hif with reqs := s.hif.reqs.filter (fun x => x.id ≠ r.id) } }
    match r.use with
    | .atomicOp k psn _ _ => targetsGo (atomicEnd k psn stAtomicUnsupported 0 s)
    | .adCas wid =>
      (s.xlt.walks.find? (fun w => w.id = wid)).elim s (fun w =>
        walkFaultWrite .adUpdate w.level w.casAddr (w.cas.elim false (fun x => bit x.1.toNat 4)) w s)
    | _ => s) s

/-- A request completes, when it is outstanding and of the kind that the row is for. -/
def complete (kind : ReqFor → Bool) (id : Nat) (res : HostResult) (s : State) : State :=
  match s.hostReq? id with
  | none => s
  | some r => if kind r.use then reqDone r res s else s

end Sys2Proof.Machine
end

