-- ==== Sys2Proof/Machine/SwitchCmd.lean ====
section
/-! DEFINITION. Commands of the switch core and routing: packets entering and leaving, waits, audits, congestion vectors and maps,
the exception table (R281, R287-R297, R302-R317, R320-R322, R361, R536). -/

namespace Sys2Proof.Machine

/-! ### Arrival -/

/-- A routing part is valid: its class and type go with its VC (R275). -/
def validRouting (p : SwPkt) : Bool :=
  decide (p.vc < 8) && (if p.vc < 6 then decide (p.tc = p.vc / 2) else decide (p.tc = 3)) && (decide (p.vc = 7) || decide (p.mtype = 0))

/-- The head of a packet on a fabric port: it is taken when it is the frame the link expects next, its routing part is valid and leads
somewhere, and its reservation has room; it may go on cut-through before the link has accepted it (R302, R306). A packet without a route
is judged when the link has accepted it (R295). -/
def headArrives (n seq : Nat) (p : SwPkt) (s : State) : State :=
  let x := s.port n
  if x.state ≠ .up ∨ s.ethPort n ∨ !x.rxValid ∨ seq ≠ x.expected ∨ !validRouting p
      ∨ s.fab.stored.any (fun y => decide (y.src = .port n) && !y.whole) ∨ !s.portRoom n p.vc (cellsOf p.len) then s
  else
    match (routeHop none p s).1 with
    | .none _ => s
    | _ => switchTake n seq false p s

/-- A step of a slice's forwarding: its die has not stopped (R20, R432). -/
def whenForwarding (slice : Nat) (f : State → State) (s : State) : State := if s.dieStopped (slice / 4) then s else whenFab f s

/-- A step of a slice's sources: the slice has not stopped either (R514). -/
def whenSource (slice : Nat) (f : State → State) (s : State) : State := if s.sliceDead slice then s else whenForwarding slice f s

/-- SWITCH_PACKET_ARRIVAL: a packet of a fabric port, an endpoint, a chorus cluster or the management logic (R299, R302, R309,
R329). -/
def execSwitchPacketArrival (src : Source) (seq : Nat) (p : SwPkt) (mcast : Option (Nat × List Nat)) (s : State) :
    Host.Outcome State Fault Refusal :=
  match src with
  | .port n => onInstance 128 n (fun n => whenSource (sliceOf (.port n)) (headArrives n seq p)) s
  | .ep e =>
    onInstance 8 e (fun e => whenSource (sliceOf (.ep e)) (fun s => match p.body with
      | .packet q => injectEp e (swPacket { q with src := s.ownFa e } s) s
      | _ => s)) s
  | .cluster c =>
    onInstance 8 c (fun c => whenSource (sliceOf (.cluster c)) (fun s => match p.body, mcast with
      | .packet q, m => inject { src := .cluster c, pkt := swPacket q s, mcast := m, port := none } s
      | _, _ => s)) s
  | .mgmt => .next (whenSource (sliceOf src) (fun s => match p.body with
      | .words ws =>
        inject { src := .mgmt, pkt := { vc7Packet p.dst p.mtype ws s with src := p.src }, mcast := mcast, port := none } s
      | _ => s) s)

/-- The reservations of a slice's ports grant what they can (R301, R349). -/
def grantSlice (slice : Nat) (s : State) : State :=
  (s.fab.ports.filter (fun p => decide (p.num / 16 = slice) && p.rxValid)).foldl
    (fun s p => (List.range 8).foldl (fun s v => grantCells (.port p.num) v s) s) s

/-- SHARED_POOL_TRANSFER: charges of a slice move to the shared pool, in order of arrival, as far as it takes them, and credit returns
(R302). -/
def execSharedPoolTransfer (slice : Nat) (s : State) : Host.Outcome State Fault Refusal :=
  onInstance 8 slice (fun slice => whenFab (fun s =>
    fabSettle (grantSlice slice ((s.fab.stored.filter (fun x => x.slice = slice)).foldl (fun s x => shareOne x s) s)))) s

/-- POLICER_DEFER_RELEASE: packets that wait at injection enter while their reservation and policers take them; one that a policer has
deferred goes on from there (R331, R332). -/
def deferGo (ep tc : Nat) : Nat → State → State
  | 0, s => s
  | fuel + 1, s =>
    match s.fab.deferred.find? (fun d => d.ep = ep && d.tc = tc) with
    | none => s
    | some d =>
      let others : List Deferred := s.fab.deferred.filter (fun x => !(x.ep = ep && x.tc = tc))
      match d.pkts with
      | [] => updFab (fun f => { f with deferred := others }) s
      | p :: rest =>
        if !s.roomFor (.ep ep) p.vc (cellsOf p.len) then s
        else
          let gen := d.wait.elim s.cmd.gen (fun w => w.2.2)
          match d.wait.elim (police ep p s) (fun w => chainOn gen w.1 p.len w.2.1 s) with
          | (.defer n left, s) => updFab (fun f => { f with deferred := others ++ [{ d with wait := some (n, left, gen) }] }) s
          | (.color c, s) =>
            let left : List Deferred := if rest.isEmpty then others else others ++ [{ d with wait := none, pkts := rest }]
            deferGo ep tc fuel (injectStored (.ep ep) c p (updFab (fun f => { f with deferred := left }) s))

def execPolicerDeferRelease (ep tc : Nat) (s : State) : Host.Outcome State Fault Refusal :=
  onInstance 8 ep (fun ep => whenSource ep (fun s =>
    deferGo ep tc ((s.fab.deferred.find? (fun d => d.ep = ep && d.tc = tc)).elim 0 (fun d => d.pkts.length + 1)) s)) s

/-! ### The escape (R281) -/

/-- A packet leaves its adaptive queue for its escape VC, on the escape route of its first lookup's configuration set (R28, R281, R282); a
pinned packet keeps its port (R285). One at a port whose link is not up is held there (R278), one to which an UNREACHABLE entry applies by
now has no route (R292, R295), and without an escape output it goes on waiting for a candidate. -/
def escapeNow (port : Nat) (e : QEntry) (s : State) : State :=
  let v := escVc e.pkt
  let out (s : State) : State := updEgress (.port port) (fun x => { x with q := x.q.filter (fun y => y ≠ e) }) s
  if (s.port port).state ≠ .up then s
  else if s.unreachable e.pkt.dst then
    noRoute ((s.fab.stored.find? (fun x => x.pid = e.pid)).elim true (fun x => internalSource x.src)) 1 e.pkt (out s)
  else if e.pkt.pin then queueAt port { e with pkt := { e.pkt with vc := v }, wait := none } (out s)
  else
    let (hop, w) := escapeHop e.avoid v e.pkt (s.view (s.genOfPid e.pid))
    let s := { s with freeCtr := w.freeCtr }
    match hop with
    | .via q _ d _ => queueAt q { e with pkt := { e.pkt with vc := v }, wait := none, detour := d } (out s)
    | _ => s

/-- The wait of a packet for a candidate with credit has lasted its time: it is looked up once more, and takes its escape VC where it still
waits (R281). -/
def escapeDue (port : Nat) (e : QEntry) (since : Nat) (s : State) : State :=
  let s := rewait port e s
  match s.fab.egress.findSome? (fun x => match x.out with
      | .port p => (x.q.find? (fun y => y.pid = e.pid && !y.mirror && !y.residue && y.wait == some since)).map (fun y => (p, y))
      | _ => none) with
  | some (p, y) => escapeNow p y s
  | none => s

/-- ESCAPE_WAIT_EXPIRY (R281). -/
def execEscapeWaitExpiry (port pid : Nat) (s : State) : Host.Outcome State Fault Refusal :=
  onInstance 128 port (fun port => whenFab (fun s =>
    match (s.egress (.port port)).q.find? (fun e => e.pid = pid && !e.mirror && !e.residue && !e.begun && decide (e.pkt.vc < 6) && decide (e.pkt.vc % 2 = 0)) with
    | none => s
    | some e =>
      match e.wait with
      | none => s
      | some w =>
        let esc := atLeast1 ((s.view (s.genOfPid pid)).fld .rteRouteCtrl 0 63 48)
        fabSettle (escapeDue port e w (s.advanceTo (w + ns esc))))) s

/-! ### Leaving (R303, R307, R317, R320) -/

/-- Take an entry out of an output. -/
def dropEntry (o : Output) (e : QEntry) (s : State) : State :=
  updEgress o (fun x => { x with q := updFirst (fun y => y = e) (fun y => { y with pid := 0 }) x.q |>.filter (fun y => y.pid ≠ 0) }) s

/-- Keep the first-hop port of a packet of a send half while it is outstanding (R213). -/
def noteHop (port : Nat) (p : SwPkt) (s : State) : State :=
  match injectKey p, p.body with
  | some k, .packet q =>
    let live (h : FirstHop) : Bool :=
      ((s.peer? h.peer).bind (·.send)).elim false (fun x => x.out.any (fun o => o.pkt.psn = h.psn))
    let old := s.fab.hops.filter (fun h => live h && !(h.peer = k && h.psn = q.psn))
    updFab (fun f => { f with hops := { peer := k, psn := q.psn, port := port } :: old }) s
  | _, _ => s

/-- Move the oldest frames of a BRODANATER window to its spill area until the window has room for more cells (R359). -/
def spillFor (port cells : Nat) (s : State) : State :=
  let w := (s.spilledFor port cells).1
  updFport port (fun p => { p with win := w }) s

/-- A time message takes the DTIME of its first bit: T_A of a DELAY_REQ, T_C of a DELAY_RESP (R438). -/
def timeStamp (p : SwPkt) (s : State) : SwPkt × State :=
  match p.body with
  | .words (w :: ta :: tb :: tc :: rest) =>
    let t := s.dtimeNs
    if p.vc ≠ 7 ∨ p.mtype ≠ 2 then (p, s)
    else if bits w.toNat 63 60 = 1 then ({ p with body := .words (w :: word t :: tb :: tc :: rest) }, { s with clk := { s.clk with reqAt := t } })
    else ({ p with body := .words (w :: ta :: tb :: word t :: rest) }, s)
  | _ => (p, s)

/-- First transmission of a frame: SEQ, CONSUMED, the replay window, the counters, the mirrors (R276, R311, R340, R345, R349). A window that
reaches CELLS spills (R359). A frame that began before a replay did is sent again with it (R346). -/
def transmit (port : Nat) (e : QEntry) (s : State) : State :=
  let cells := cellsOf e.pkt.len
  let s := spillFor port cells s
  let p := s.port port
  let det := match e.detour with
    | some d => e.pkt.detoured ||| 2 ^ d
    | none => e.pkt.detoured
  let (pkt, s) := timeStamp { e.pkt with hops := e.pkt.hops + 1, detoured := det } s
  let src := (s.fab.stored.find? (fun x => x.pid = e.pid)).map (·.src)
  let w : WinEntry := { seq := p.next, pid := e.pid, cells := cells, pkt := pkt, spilled := false }
  let s := updFport port (fun p => { p with
    next := (p.next + 1) % s.seqMod port
    consumed := setNth pkt.vc ((nth p.consumed pkt.vc + cells) % 2 ^ 24) p.consumed
    timerAt := if p.win.isEmpty then s.clk.now else p.timerAt
    win := p.win ++ [w]
    again := if p.again = 0 then 0 else p.again + 1
    heads := p.heads ++ [{ at_ := p.tx.length, seq := p.next, vc := pkt.vc, cells := cells }]
    busyAt := s.clk.now }) s
  let s := spillFor port 1 s
  let s := (sendFrame port p.next pkt false s).count (cntVc port pkt.vc 0) 1
  let s := s.count (cntVc port pkt.vc 1) pkt.len
  let s := match src with
    | some (.ep _) | some (.cluster _) => noteRoute true pkt (noteHop port pkt s)
    | _ => s
  mirrorCopies port 1 e.pid pkt (dropEntry (.port port) e s)

/-- A corrected error in the buffer of a slice; its bank and row follow from no rule and are free (R317, log 185). -/
def bufferCorrected (n : Nat) (s : State) : State :=
  let (v, s) := s.drawNat
  hubTake .sramEccCorrected 0x13 n (v % 2 ^ 32) s

/-- A data cell read for a first transmission is uncorrectable: stomped, or discarded at an internal sink, and captured (R317). -/
def cellEcc (o : Output) (e : QEntry) (cell : Nat) (s : State) : State :=
  let n := s.sliceOfPid e.pid
  match o with
  | .port p =>
    let s := (sendFrame p (s.port p).next e.pkt true s).count (cntSlice n 0) 1
    dropEntry o e (s.capture .swcErr n 0 (at_ 60 2 + at_ 32 p + cell % 131072))
  | _ => dropEntry o e (s.capture .swcErr n 0 (at_ 60 2 + cell % 131072))

/-- A port of a stopped slice goes down without grace (R353, R355, R514). -/
def slicePortDown (n : Nat) (s : State) : State :=
  let s := if (s.port n).state = .up then allEndpoints evPortDown n FKind.swcEccUncorrected.code n (s.count (cntPort n 2) 1) else s
  updFport n (fun p => { p with state := if p.state = .disabled then .disabled else .training, locked := false, map := 0, missed := 0, readyAt := none, downAt := none, quiet := false, quietReq := false, quietSeen := 0, wakeAt := none })
    (flushPort n s)

/-- A slice stops: its ports go down, its internal sources send nothing more, and every packet that holds its cells is discarded
(R514). -/
def sliceStop (n : Nat) (s : State) : State :=
  let s := (List.range 16).foldl (fun s i => slicePortDown (16 * n + i) s) (updFab (fun f => { f with dead := n :: f.dead.filter (· ≠ n) }) s)
  let gone := (s.fab.stored.filter (fun x => x.slice = n)).map (·.pid)
  let s := (s.fab.stored.filter (fun x => x.slice = n)).foldl (fun s x => dropPartial x s) s
  { s with
    fab := { s.fab with handed := s.fab.handed.filter (fun x => !decide (x.1 ∈ gone)) }
    trn := { s.trn with peers := s.trn.peers.map (fun p =>
      { p with recv := p.recv.map (fun r => { r with held := r.held.filter (fun x => !x.pid.elim false (fun i => decide (i ∈ gone))) }) }) } }

/-- An uncorrectable error in a slice's control state (R317, R514). -/
def controlEcc (n cell : Nat) (s : State) : State :=
  report .swcEccUncorrected 0x13 n (cell % 131072) (sliceStop n (s.capture .swcErr n 0 (at_ 60 4 + cell % 131072)))

/-- What the frame chosen at a fabric port does. -/
def portSend (port : Nat) (e : QEntry) (ecc cell : Nat) (s : State) : State :=
  if e.pkt.hops = (s.view (s.genOfPid e.pid)).hopLimit then dropEntry (.port port) e (s.count 49 1)
  else if ecc = 1 then cellEcc (.port port) e cell s
  else if s.wholeEntry e then transmit port e s
  else updEgress (.port port) (fun x => { x with q := updFirst (fun y => y = e) (fun y => { y with begun := true }) x.q }) s

/-- A THEDEX port starts a new frame once its packet-byte limit lets it: time passes until then (R336, R341, log 154). -/
def paceWait (n : Nat) (s : State) : State := if s.mode n = 0 then s.advanceTo (((s.port n).pace + 29) / 30) else s

/-- A data cell of an Ethernet frame is uncorrectable: the frame ends with its FCS inverted, which the partner's MAC discards, and its SEND
does not end with OK (R317, R361; DESIGN CHOICE, log 185). -/
def ethStomp (port : Nat) (e : QEntry) (b : List Byte) (cell : Nat) (s : State) : State :=
  let n := s.sliceOfPid e.pid
  let s := (s.emit (.ether port e.pkt.vc (b ++ (ethFcs b).map (fun x => ~~~x)))).count (cntSlice n 0) 1
  let s := dropEntry (.port port) e (s.capture .swcErr n 0 (at_ 60 2 + at_ 32 port + cell % 131072))
  e.job.elim s (fun jid => ethLost jid s)

/-- The next frame of a service port goes to the MAC with its FCS; the SEND it belongs to completes (R317, R322, R361). -/
def ethTx (port ecc cell : Nat) (s : State) : State :=
  if !s.ethUp port then s
  else if ecc = 2 then controlEcc (port / 16) cell s
  else
    let s := noteStalls (.port port) s
    match ethNext s port with
    | none => s
    | some e =>
      let s := noteStart (16 + port / 16) s
      let b := match e.pkt.body with
        | .frame b => b
        | _ => []
      if ecc = 1 then fabSettle (ethStomp port e b cell s)
      else
        let s := if ecc = 3 then bufferCorrected (s.sliceOfPid e.pid) s else s
        let s := (s.emit (.ether port e.pkt.vc (b ++ ethFcs b))).count (cntVc port e.pkt.vc 0) 1
        let s := s.count (cntVc port e.pkt.vc 1) b.length
        let s := dropEntry (.port port) e (if e.mirror then s else mirrorCopies port 1 e.pid e.pkt s)
        fabSettle (e.job.elim s (fun jid => endJob jid stOk s))

/-- Transport may hold a packet: one that consumes a PSN and is handed to an endpoint (R202). -/
def holdable (o : Output) (p : SwPkt) : Option Packet :=
  match o, p.body with
  | .ep _, .packet q => if q.ptype ≤ 0x14 then some q else none
  | _, _ => none

/-- A packet handed over of a kind that transport does not hold: a control packet or a RESULT (R28, R199, R247). -/
def passingBy (gen : Nat) (p : SwPkt) : List (Nat × Packet) :=
  match p.body with
  | .packet q => if q.ptype ≤ 0x14 then [] else [(gen, q)]
  | _ => []

/-- A stored packet was injected here, by an internal source (R295). -/
def State.ownPid (s : State) (pid : Nat) : Bool := (s.fab.stored.find? (fun x => x.pid = pid)).elim false (fun x => internalSource x.src)

/-- A packet handed to an endpoint, a chorus cluster or the management logic; its cells stay while transport has not taken it; a mirror
copy goes into its SRQ (R284, R299, R304, R312). -/
def sinkStart (o : Output) (ecc cell : Nat) (s : State) : State :=
  let s := noteStalls o s
  match egressNext s o with
  | (none, _) => s
  | (some e, x) =>
    let s := updEgress o (fun _ => x) (noteStart (16 + outSlice o) s)
    if ecc = 1 then fabSettle (cellEcc o e cell s)
    else
      let s := if ecc = 3 then bufferCorrected (s.sliceOfPid e.pid) s else s
      let gen := s.genOfPid e.pid
      let here := s.ownPid e.pid
      let s := dropEntry o e s
      match e.mirror, e.pkt.body with
      | true, .frame b =>
        match frameIn e.pkt.dst e.pid 0 b s with
        | (true, s) => fabSettle s
        | (false, s) => fabSettle (s.count (cntSlice (s.sliceOfPid e.pid) 2) 1)
      | _, _ =>
        let s := updFab (fun f => { f with
          handed := f.handed ++ (holdable o e.pkt).toList.map (fun q => (e.pid, q))
          passing := f.passing ++ passingBy gen e.pkt }) s
        fabSettle ((if here then noteRoute true e.pkt s else s).emit (.deliver o e.pkt))

/-- ETHERNET_FRAME_TRANSMIT (R361). -/
def execEthernetFrameTransmit (port : Nat) (s : State) : Host.Outcome State Fault Refusal :=
  onInstance 128 port (fun port => whenForwarding (port / 16) (fun s => if s.ethPort port then ethTx port 0 0 s else s)) s

/-! ### Residue, audit (R310, R316) -/

/-- RESIDUE_TIMEOUT: the copy is discarded, reported, and its port fenced (R310). -/
def execResidueTimeout (port pid : Nat) (s : State) : Host.Outcome State Fault Refusal :=
  onInstance 128 port (fun port => whenFab (fun s =>
    match (s.egress (.port port)).q.find? (fun e => e.pid = pid && e.residue) with
    | none => s
    | some e =>
      let n := s.sliceOfPid pid
      let s := s.advanceTo (e.since + us (atLeast1 ((s.view (s.genOfPid pid)).fldI .swcResidueTmo n 0 19 0)))
      let s := dropEntry (.port port) e s
      let s := report .swcResidueStall 0x13 n port (s.capture .swcErr n 0 (at_ 60 3 + at_ 32 port))
      fabSettle (updFport port (fun p => { p with fenced := true }) s))) s

/-- One cell that an audit pass finds neither free nor referenced: it is missing from the free list, and a second pass in a row declares it
leaked and returns it there (R316). Such a cell is not allocated between the passes, since nothing allocates a cell that is not free. -/
def auditCell (slice : Nat) (s : State) (c : Nat) : State :=
  if s.fab.suspects.contains (slice, c) then
    let s := updFab (fun f => { f with suspects := f.suspects.filter (fun x => x ≠ (slice, c)) }) s
    report .swcCellLeak 0x13 slice (c % 131072) ((s.capture .swcErr slice 0 (c % 131072)).count (cntSlice slice 3) 1)
  else if s.freeCells slice = 0 then s
  else updFab (fun f => { f with suspects := (slice, c) :: f.suspects }) s

/-- One cell found both free and referenced, so that a holder has it: the wrong entry leaves the free list, which then holds the cells that no
holder has (R316). -/
def doubleCell (slice : Nat) (s : State) (c : Nat) : State :=
  if s.usedCells slice = 0 then s
  else report .swcCellLeak 0x13 slice (at_ 17 1 + c % 131072) (s.capture .swcErr slice 0 (at_ 60 1 + c % 131072))

/-- AUDIT_PASS: a pass every SWC_AUDIT.PERIOD. A cell that is neither free nor referenced, or both, has lost its account by a hardware
error: which cells have is the operand, each once, and the pass acts on them (R316, log 187). -/
def execAuditPass (slice : Nat) (leaked doubled : List Nat) (s : State) : Host.Outcome State Fault Refusal :=
  onInstance 8 slice (fun slice => whenFab (fun s =>
    if s.fldI .swcAudit slice 0 63 63 = 0 then s
    else
      let leaked := (leaked.map (· % 131072)).eraseDups
      let doubled := ((doubled.map (· % 131072)).filter (fun c => !leaked.contains c)).eraseDups
      let s := tick slice (ms (atLeast1 (s.fldI .swcAudit slice 0 15 0))) s
      let s := updFab (fun f => { f with suspects := f.suspects.filter (fun x => decide (x.1 ≠ slice) || leaked.contains x.2) }) s
      fabSettle (doubled.foldl (doubleCell slice) (leaked.foldl (auditCell slice) s)))) s

/-! ### Congestion vectors and maps (R287-R289, R297, R536) -/

/-- Level of the egress toward coordinate c on the line of dimension e (R288). -/
def State.ownLevel (s : State) (e c : Nat) : Nat :=
  if ndimOf s.dims ≤ e ∨ c = s.own e then 0
  else
    match least (((s.lineTo e c).filter s.usable).map s.adaptiveCells) with
    | none => 3
    | some n =>
      let light := s.fld .rteCvecThresh 0 19 0
      if n < light then 0 else if n < max (light + 1) (s.fld .rteCvecThresh 0 39 20) then 1 else 2

/-- The line congestion vector (R288). -/
def State.vector (s : State) : List Word :=
  (List.range 8).map (fun i => word (sumBy (fun j =>
    let n := 64 * i + 2 * j
    at_ (2 * j) (s.ownLevel (n / 128) (n % 128 / 2))) (List.range 32)))

/-- Coordinates of the other routers on a line. -/
def State.lineCoords (s : State) (d : Nat) : List Nat :=
  ((List.range (lenOf s.dims d)).filter (fun c => c ≠ s.own d)).map (fun c => putBits s.coord (6 * d + 5) (6 * d) c)

/-- CVEC_PERIOD_EXPIRY: the vector goes out on every line (R287). -/
def execCvecPeriodExpiry (s : State) : Host.Outcome State Fault Refusal :=
  .next (whenFab (fun s =>
    if s.cvecPeriod = 0 ∨ s.dims = 0 then s
    else
      let s := tick 8 (ns s.cvecPeriod) s
      let v := s.vector
      let words := word s.dtimeNs :: word (at_ 32 s.fab.vecSeq) :: v
      let s := (List.range (ndimOf s.dims)).foldl (fun s d =>
        inject { src := .mgmt, pkt := vc7Packet 0 1 words s, mcast := some (d, s.lineCoords d), port := none } s) s
      updFab (fun f => { f with vecSeq := (f.vecSeq + 1) % 2 ^ 32, vecLast := v }) s) s)

/-- CVEC_ARRIVAL: the latest vector of a line neighbour is kept (R289). -/
def execCvecArrival (src : Fa) (seq : Nat) (ws : List Word) (s : State) : Host.Outcome State Fault Refusal :=
  .next (whenFab (fun s =>
    match s.unresolved src with
    | [d] =>
      let c := coordOf src d
      let newer (v : Vector_) : Bool := v.dim = d && v.coord = c && !(decide (0 < subMod (2 ^ 32) seq v.seq) && decide (subMod (2 ^ 32) seq v.seq < 2 ^ 31))
      if !s.routable src ∨ s.fab.vectors.any newer then s
      else
        let l := s.fab.vectors.filter (fun v => !(v.dim = d && v.coord = c))
        updFab (fun f => { f with vectors := { dim := d, coord := c, seq := seq % 2 ^ 32, at_ := s.clk.now, ws := ws.take 8 } :: l }) s
    | _ => s) s)

/-- Cells queued on both VCs of a class at a port, saturating. -/
def State.classCells (s : State) (p t : Nat) : Nat := min 65535 (s.queuedCells p (2 * t) + s.queuedCells p (2 * t + 1))

/-- A port entry of a congestion map record (R536). -/
def State.portEntry (s : State) (n : Nat) : Word :=
  let p := s.port n
  word (at_ 61 p.state.code + at_ 58 (mapCount p.map) + at_ 57 (b1 (s.usable n)) + at_ 56 (b1 p.fenced)
    + at_ 32 (s.classCells n 2) + at_ 16 (s.classCells n 1) + s.classCells n 0)

/-- Words of a congestion map record from byte 16 on (R536). -/
def State.mapRecord (s : State) : List Word :=
  let vec := if s.fab.vecLast.isEmpty then List.replicate 8 (0 : Word) else s.fab.vecLast
  [word (at_ 60 1 + s.fab.mapSeq), word s.dtimeNs, word (at_ 32 s.sys.bootCount + s.coord), word (s.fld .rteMapCtrl 0 47 32)]
    ++ vec ++ (List.range 128).map s.portEntry

/-- RTE_MAP_CTRL.PERIOD in 0.1 ns. -/
def State.mapPeriod (s : State) : Nat := us (atLeast1 (s.fld .rteMapCtrl 0 47 32))

/-- MAP_PERIOD_EXPIRY: a record goes to the collector; one without a route is discarded and counted where that is found (R297, R536). -/
def execMapPeriodExpiry (s : State) : Host.Outcome State Fault Refusal :=
  .next (whenFab (fun s =>
    if s.fld .rteMapCtrl 0 63 63 = 0 then s
    else
      let s := tick 9 s.mapPeriod s
      let p := vc7Packet (s.fld .rteMapCtrl 0 31 0) 3 s.mapRecord s
      inject { src := .mgmt, pkt := p, mcast := none, port := none } (updFab (fun f => { f with mapSeq := (f.mapSeq + 1) % 2 ^ 32 }) s)) s)

/-! ### The exception table (R292, R294) -/

/-- Lowest free slot. -/
def State.freeSlot (s : State) : Option Nat :=
  (List.range 4096).find? (fun i => !s.fab.exc.any (fun e => e.slot = i))

/-- A write of RTE_EXC_ADD_ACTION: the entry goes into the lowest free slot; ACTION 0x3 is refused (R292, R294). -/
def excAdd (value : Nat) (s : State) : State :=
  let m := s.raw .rteExcAddMatch 0 0
  let st := s.raw .rteExcStatus 0 0
  if bits value 9 8 = 3 then s.setReg .rteExcStatus 0 0 (putBits (putBits st 63 63 0) 62 62 1)
  else
    match s.freeSlot with
    | none => report .rteExceptionFull 0x12 0 0 (s.setReg .rteExcStatus 0 0 (putBits (putBits st 63 63 1) 62 62 0))
    | some i =>
      let e : ExcEntry := { slot := i, mask := bits m 58 32, value := bits m 26 0, action := bits value 9 8, dim := bits value 7 6, coord := bits value 5 0 }
      let s := s.setReg .rteExcStatus 0 0 (putBits (putBits (putBits st 63 63 0) 62 62 0) 11 0 i)
      updFab (fun f => { f with exc := f.exc ++ [e] }) s

/-- A write of RTE_EXC_DEL frees a slot (R294). -/
def excDel (value : Nat) (s : State) : State :=
  updFab (fun f => { f with exc := f.exc.filter (fun e => e.slot ≠ bits value 11 0) }) s

end Sys2Proof.Machine
end

