-- ==== Sys2Proof/Machine/Acquire.lean ====
section
/-! DEFINITION. Fabric lanes that acquire: training frames, full and fast acquisition (R365, R370, R371, R375-R378). -/

namespace Sys2Proof.Machine

/-! ### Lanes of a port (R365, R371, R377, R378) -/

/-- The port of a lane. -/
def lanePort (l : Nat) : Nat := l / 4

def portLanes (n : Nat) : List Nat := (List.range 4).map (fun j => 4 * n + j)

/-- A clock has been judged good and not failed (R431, R432). -/
def State.clockGood (s : State) (src : Nat) : Bool := s.clk.monitors.any (fun m => m.src = src && decide (m.state = 2))

/-- The PLL that drives a lane: A at 113.4375 GBd, B otherwise (R365, R429). -/
def State.lanePll (s : State) (l : Nat) : Nat := (if s.mode (lanePort l) = 0 then 0x10 else 0x30) + l / 16

/-- An enabled lane: its port is enabled, it is not DISABLE, and a 200 Gb/s port uses it (R371, R377). -/
def State.laneEnabled (s : State) (l : Nat) : Bool :=
  let n := lanePort l
  s.portEnabled n && !(s.port n).testing && !bit (s.raw .lnsCtrl l 0) 8
    && !(s.ethPort n && decide (2 ≤ s.fldI .llrCtrl n 0 5 4) && decide (2 ≤ l % 4))

def LaneState.inUse (x : LaneState) : Bool := decide (x = .ready) || decide (x = .active)

/-- Lanes of a port that are READY or ACTIVE, as a map (R373). -/
def State.readyMap (s : State) (n : Nat) : Nat := sumBy (fun j => if (s.lane (4 * n + j)).state.inUse then 2 ^ j else 0) (List.range 4)

/-- Every enabled lane of a port that is not FAILED is READY or ACTIVE (R373). -/
def State.allReady (s : State) (n : Nat) : Bool :=
  (portLanes n).all (fun l =>
    let x := (s.lane l).state
    !s.laneEnabled l || x.inUse || decide (x = .failed))

/-- Enabled lanes of a port. -/
def State.enabledLanes (s : State) (n : Nat) : Nat := ((portLanes n).filter s.laneEnabled).length

/-! ### Acquisition (R371, R375, R376) -/

/-- Withdraw a lane's request for leave. -/
def dropLaneReq (l : Nat) (s : State) : State := dropLeave (.lane l) s

/-- Ask leave for a full acquisition (R375, R411). -/
def askFull (l : Nat) (s : State) : State := askLeave (.lane l) 2 1 (updLane l (fun x => { x with leave := true }) s)

/-- RATE of a lane in its training frames (R370). -/
def State.trainRate (s : State) (l : Nat) : Nat := if s.mode (lanePort l) = 0 then 0 else 1

/-- The rate that the lanes of a port have by its configuration: 0 113.4375 GBd, 1 106.25, 2 53.125 (R365, R385). -/
def State.laneSpeed (s : State) (n : Nat) : Nat := if s.mode n = 0 then 0 else if s.ethPort n ∧ s.fldI .llrCtrl n 0 5 4 = 0 then 1 else 2

/-- A signed byte. -/
def signed8 (v : Nat) : Int := if v < 128 then v else (v : Int) - 256

/-- The taps PRE2, PRE1, MAIN and POST1 of a lane's preset; MAIN is reduced where the absolute values sum above 64 (R385). -/
def State.txTaps (s : State) (l : Nat) : List Int :=
  let w := s.raw .lnsTxEq l 0
  let (a, b, m, c) := (signed8 (bits w 31 24), signed8 (bits w 23 16), signed8 (bits w 15 8), signed8 (bits w 7 0))
  let r := min m.natAbs (64 - (a.natAbs + b.natAbs + c.natAbs))
  [a, b, if m < 0 then -(r : Int) else r, c]

/-- The transmitter of a lane sends a training frame, with RX_READY while its receiver is locked; a quiet transmitter sends none, nor does
one of an Ethernet port (R370, R371, R377). -/
def sendTraining (l : Nat) (s : State) : State :=
  let x := s.lane l
  if s.ethPort (lanePort l) ∨ x.silent then s
  else updLane l (fun x => { x with trained := (x.trained + 1) % 8191 }) (s.emit (.train l (trainFrame l x.locked (s.trainRate l) x.trained) (s.txTaps l)))

/-- Full acquisition from another acquiring state. -/
def toFull (l : Nat) (s : State) : State :=
  askFull l (updLane l (fun x => { x with
    state := .full, since := s.clk.now, locked := false, partner := false, readyRun := 0, silent := false }) s)

/-- Fast re-acquisition, or full acquisition where no coefficients are frozen (R371, R376). -/
def toFast (l : Nat) (silent : Bool) (s : State) : State :=
  let s := updLane l (fun x => { x with
    state := .fast, since := s.clk.now, locked := false, partner := false, readyRun := 0, silent := silent }) s
  let s := sendTraining l s
  if (s.lane l).coef then s else toFull l s

/-- What the checker of a lane that leaves TEST has counted goes into its counters (R382). -/
def chkEnd (l : Nat) (s : State) : State :=
  let (n, e) := (s.lane l).chkNow s.clk.now
  if (s.lane l).chk.isNone then s else (s.count (cntLane l 2) n).count (cntLane l 3) e

/-- A lane goes OFF; its frozen coefficients stay unless its domain goes OFF too (R371, R376, R407, R410). -/
def laneOff (l : Nat) (s : State) : State :=
  let s := chkEnd l s
  laneDomainOff (laneDomain l) (updLane l (fun x => { Lane.reset l with coef := x.coef }) (dropLaneReq l s))

/-- A lane that is OFF asks to acquire, once its clock is good (R371, R375, R378). -/
def laneStart (l : Nat) (s : State) : State :=
  let x := s.lane l
  if x.state ≠ .off ∨ x.leave ∨ !s.laneEnabled l ∨ !s.clockGood (s.lanePll l) then s else askFull l s

/-! ### The lanes in use (R353, R367) -/

/-- The lane map of a port: its stream begins anew on these lanes (R367). -/
def takeMap (n m : Nat) (s : State) : State :=
  updFport n (fun p => { p with map := m, started := false, tx := [], heads := [], bits := [], msgs := 0 }) s

/-- Fast re-acquisition of the lanes that a port uses, as a cause with grace starts it where no lane is lost (R353; DEDUCED, log 189). -/
def reacquire (n : Nat) (s : State) : State :=
  (portLanes n).foldl (fun s l => if (s.lane l).state = .active then toFast l false s else s)
    (takeMap n 0 (updFport n (fun p => { p with locked := false }) s))

end Sys2Proof.Machine
end

