-- ==== Sys2Proof/Machine/Link.lean ====
section
/-! DEFINITION. The link layer: frames, sequence numbers, credits, audits, link-down and start-up, Ethernet service ports
(R335-R363). -/

namespace Sys2Proof.Machine

/-! ### CRCs and control frames (R337-R339, R368) -/

/-- Send a control frame: its link header (R337). -/
def sendCtl (n ftype arg : Nat) (s : State) : State :=
  let v := (s.port n).rxValid
  let h0 := at_ 60 ftype + at_ 56 (b1 v) + (if v then at_ 24 (s.ackSeq n) else 0)
  let ws := [word h0, word (at_ 48 (hcrc h0 arg) + arg)]
  quietEnds n (updFport n (fun p => { p with tx := p.tx ++ bytesOf ws, busyAt := s.clk.now }) (s.emit (.link n ftype ws)))

/-- Send a standalone ACK (R345). -/
def sendLinkAck (n : Nat) (s : State) : State :=
  updFport n (fun p => { p with ackPending := false, accepted := 0 }) (sendCtl n 1 0 s)

/-- Send REPLAY_REQ for the expected SEQ, once for each value of it (R342). -/
def sendReplayReq (n : Nat) (s : State) : State :=
  let e := (s.port n).expected
  if (s.port n).reqFor = some e then s
  else updFport n (fun p => { p with reqFor := some e, reqAt := s.clk.now }) (sendCtl n 2 e s)

/-- ARG of INIT and INIT_ACK (R337). -/
def State.initArg (s : State) (n : Nat) : Nat :=
  let p := s.port n
  at_ 32 p.expected + at_ 16 p.oldest + at_ 4 (s.mode n) + at_ 2 (b1 p.fresh) + at_ 1 (b1 p.rxValid)

/-! ### Going down (R353-R355) -/

/-- The link of a port that is UP goes down for a cause: counted, captured, reported where the cause has a fault kind; the port holds its
state for the grace period, or flushes at once; with grace and no lane lost its lanes re-acquire (R353, R354). The event of a cause without
a kind carries code 0 (log 126); the error count starts again (log 189). -/
def linkDown (n : Nat) (k : Option FKind) (cause vc addr : Nat) (grace lanesLost : Bool) (s : State) : State :=
  if (s.port n).state ≠ .up then s
  else
    let s := s.count (cntPort n 2) 1
    let s := s.capture .llrErr n 0 (at_ 59 cause + at_ 56 vc + s.dtimeNs % 2 ^ 48)
    let next : LinkState := if grace then .grace else if lanesLost then .training else .init
    let s := updFport n (fun p => { p with
      state := next, downAt := some s.clk.now, lostAt := s.clk.now, locked := p.locked && !lanesLost, missed := 0, quiet := false
      quietReq := false, quietSeen := 0, wakeAt := none, readyAt := none, reqFor := none, again := 0, errors := 0 }) s
    let s := k.elim s (fun k => report k (if cause = 0 then 0x15 else 0x14) n addr s)
    let s := allEndpoints evPortDown n (k.elim 0 (·.code)) n s
    let s := if grace && !lanesLost then reacquire n s else s
    if grace && decide (s.fldI .llrGrace n 0 19 0 ≠ 0) then s
    else updFport n (fun p => { p with downAt := none }) (flushPort n s)

/-- Count an error of R354 in its window. -/
def linkError (n : Nat) (s : State) : State :=
  let w := us (atLeast1 (s.fldI .llrErrWindow n 0 19 0))
  (updFport n (fun p =>
    if s.clk.now < p.errAt + w then { p with errors := p.errors + 1 }
    else { p with errAt := p.errAt + (s.clk.now - p.errAt) / w * w, errors := 1 }) s).count (cntPort n 0) 1

/-! ### Acknowledgement and replay (R344, R346, R347) -/

/-- Frames newly covered leave the replay window (R344). -/
def freeReplay (n k : Nat) (s : State) : State :=
  if k = 0 then s
  else fabSettle (updFport n (fun p => { p with
    oldest := (p.oldest + k) % s.seqMod n, win := p.win.drop k, again := min p.again (p.win.length - k), replays := 0, timerAt := s.clk.now, busyAt := s.clk.now }) s)

/-- Process an ACK_SEQ (R344). -/
def onLinkAck (n a : Nat) (s : State) : State :=
  let m := s.seqMod n
  let k := subMod m (a + 1) (s.port n).oldest
  if k ≤ s.outstanding n then freeReplay n k s
  else if k < m / 2 then linkDown n (some .llrSeqViolation) 5 0 (a % 65536) false false s
  else s

/-- An uncorrectable error in a frame's cells as a replay reads them, or in the spill area: the link goes down and is flushed (R317,
R353). -/
def replayEcc (n cell : Nat) (w : WinEntry) (s : State) : State :=
  let s := if w.spilled then s else s.capture .swcErr (s.sliceOfPid w.pid) 0 (at_ 60 2 + at_ 32 n + cell % 131072)
  linkDown n none 6 0 0 false false s

/-- Start a replay: every outstanding frame is sent again from the oldest on, in SEQ order, one at each frame start of the port.
MAX_REPLAYS in a row without progress take the link down (R346, R347). -/
def startReplay (n : Nat) (s : State) : State :=
  if (s.port n).win.isEmpty then s
  else
    let s := updFport n (fun p => { p with
      again := p.win.length, replays := p.replays + 1, timerAt := s.clk.now, busyAt := s.clk.now }) (quietEnds n (s.count (cntPort n 1) 1))
    if atLeast1 (s.fldI .llrReplayLimit n 0 47 40) ≤ (s.port n).replays then
      linkDown n (some .llrReplayLimit) 4 0 (s.port n).oldest true false s
    else s

/-- The frame that the running replay sends next. -/
def Port.replayNext? (p : Port) : Option WinEntry := if p.again = 0 then none else p.win[p.win.length - p.again]?

/-- The running replay sends its next frame, once the packet-byte limit lets it; an uncorrectable error as it reads the frame takes the
link down (R317, R336, R346). -/
def replayFrame (n : Nat) (w : WinEntry) (ecc cell : Nat) (s : State) : State :=
  let s := paceWait n s
  if ecc = 1 then replayEcc n cell w s
  else
    let s := if ecc = 3 ∧ !w.spilled then bufferCorrected (s.sliceOfPid w.pid) s else s
    sendFrame n w.seq w.pkt false (updFport n (fun p => { p with again := p.again - 1, busyAt := s.clk.now }) s)

/-- EGRESS_FRAME_START at a fabric port: the next frame of a running replay, else a new frame (R320, R346). -/
def portStart (port ecc cell : Nat) (s : State) : State :=
  let p := s.port port
  if p.state ≠ .up ∨ p.quiet ∨ (s.egress (.port port)).q.any (·.begun) then s
  else if ecc = 2 then controlEcc (port / 16) cell s
  else
    match p.replayNext? with
    | some w => replayFrame port w ecc cell (noteStart (16 + port / 16) s)
    | none =>
      let s := noteStalls (.port port) s
      match egressNext s (.port port) with
      | (none, _) => s
      | (some e, x) =>
        let s := noteStart (16 + port / 16) s
        let s := if ecc = 3 then bufferCorrected (s.sliceOfPid e.pid) s else s
        fabSettle (portSend port e ecc cell (updEgress (.port port) (fun _ => x) (paceWait port s)))

/-- EGRESS_FRAME_START (R320). ecc: 0 none, 1 uncorrectable data cell, 2 uncorrectable control state, 3 a corrected error (R317). -/
def execEgressFrameStart (out : Output) (ecc cell : Nat) (s : State) : Host.Outcome State Fault Refusal :=
  match out with
  | .port p => onInstance 128 p (fun p => whenForwarding (p / 16) (fun s => if s.ethPort p then ethTx p ecc cell s else portStart p ecc cell s)) s
  | .ep e => onInstance 8 e (fun e => whenForwarding e (fun s => if ecc = 2 then controlEcc e cell s else sinkStart (.ep e) ecc cell s)) s
  | .cluster c =>
    onInstance 8 c (fun c => whenForwarding c (fun s => if ecc = 2 then controlEcc c cell s else sinkStart (.cluster c) ecc cell s)) s
  | .mgmt => .next (whenForwarding 7 (fun s => if ecc = 2 then controlEcc 7 cell s else sinkStart out ecc cell s) s)

/-! ### Receiving (R342, R343, R345, R349-R351) -/

/-- Compare a VC's audit with RECEIVED (R351). -/
def auditCheck (n : Nat) (a : Nat × Nat × Nat) (s : State) : State :=
  if nth (s.port n).received a.1 = a.2.2 then s else linkDown n (some .llrCreditAudit) 2 a.1 a.1 false false s

/-- Audits that fall due when e reaches their SEQ (R351). -/
def auditsDue (n : Nat) (s : State) : State :=
  let e := (s.port n).expected
  let due := (s.port n).audits.filter (fun a => a.2.1 = e)
  due.foldl (fun s a => auditCheck n a s) (updFport n (fun p => { p with audits := p.audits.filter (fun a => a.2.1 ≠ e) }) s)

/-- A packet whose head had arrived is stored whole now: its credit returns where its charge has moved on, and the frames begun with
it are completed (R302, R306). -/
def packetWhole (x : Stored) (s : State) : State :=
  let s := updFab (fun f => { f with stored := updFirst (fun y => y.pid = x.pid) (fun y => { y with whole := true }) f.stored }) s
  let s := if x.shared then grantCells x.src x.vc s else s
  let begun := s.fab.egress.flatMap (fun e => match e.out with
    | .port p => (e.q.filter (fun q => q.pid = x.pid && q.begun)).map (fun q => (p, q))
    | _ => [])
  fabSettle (begun.foldl (fun s b => transmit b.1 b.2 s) s)

/-- The packet of a port whose head alone has arrived. -/
def State.partial? (s : State) (n : Nat) : Option Stored := s.fab.stored.find? (fun x => decide (x.src = .port n) && !x.whole)

/-- A DATA frame in sequence: e advances, credit is received, the packet goes to the switch core (R342, R349, R350). -/
def acceptFrame (n : Nat) (p : SwPkt) (s : State) : State :=
  let cells := cellsOf p.len
  let head := s.partial? n
  if head.isNone ∧ !s.portRoom n p.vc cells then linkDown n (some .llrCreditAudit) 2 p.vc p.vc false false s
  else
    let s := updFport n (fun x => { x with
      expected := (x.expected + 1) % s.seqMod n
      received := setNth p.vc ((nth x.received p.vc + cells) % 2 ^ 24) x.received
      ackPending := true
      ackAt := if x.ackPending then x.ackAt else s.clk.now
      accepted := x.accepted + 1
      reqFor := none
      busyAt := s.clk.now }) s
    let s := (s.count (cntVc n p.vc 2) 1).count (cntVc n p.vc 3) p.len
    let s := match head with
      | some x => packetWhole x s
      | none => switchTake n 0 true p s
    let s := if s.mode n = 1 ∧ atLeast1 (s.fldI .llrAck n 0 47 40) ≤ (s.port n).accepted then sendLinkAck n s else s
    auditsDue n s

/-- Classify a good DATA frame (R342). -/
def rxData (n seq : Nat) (p : SwPkt) (s : State) : State :=
  let m := s.seqMod n
  let d := subMod m seq (s.port n).expected
  if d = 0 then acceptFrame n p s
  else if d < m / 2 then sendReplayReq n s
  else updFport n (fun x => { x with ackPending := true, ackAt := if x.ackPending then x.ackAt else s.clk.now }) s

/-- A frame that fails its checks: nothing of it is kept; a frame begun cut-through with it is stomped (R307, R343). -/
def frameFailed (n : Nat) (s : State) : State := fabSettle (dropPartials n s)

/-- Frames are received while the lanes are locked and the receive direction is set up. -/
def State.linkReceives (s : State) (n : Nat) : Bool :=
  let p := s.port n
  !s.ethPort n && (decide (p.state = .up) || decide (p.state = .init)) && p.rxValid

/-- Frames reach a port under port lock; those whose checks fail are discarded and counted before its receive direction is set up too (R343,
R354). -/
def State.linkHears (s : State) (n : Nat) : Bool :=
  let p := s.port n
  !s.ethPort n && p.locked && (decide (p.state = .up) || decide (p.state = .init))

/-- A frame has come, whatever becomes of it: the link is not idle (R379). -/
def linkBusy (n : Nat) (s : State) : State := updFport n (fun p => { p with busyAt := s.clk.now }) s

/-- LINK_DATA_FRAME_RECEIVE (R342-R345). -/
def execLinkDataFrameReceive (port seq : Nat) (ack : Option Nat) (p : SwPkt) (check : FrameCheck) (s : State) :
    Host.Outcome State Fault Refusal :=
  onInstance 128 port (fun port => whenFab (fun s =>
    if s.dieStopped (port / 16 / 4) ∨ 8 ≤ p.vc then s
    else if !s.linkReceives port then (if s.linkHears port && (check == .badHeader || check == .badTrailer) then linkError port s else s)
    else
      let s := linkBusy port s
      match check with
      | .badHeader => linkError port (frameFailed port s)
      | .badTrailer => sendReplayReq port (linkError port (frameFailed port s))
      | .stomp => (frameFailed port s).count (cntPort port 4) 1
      | .good =>
        let s := match ack with
          | some a => onLinkAck port a s
          | none => s
        if s.linkReceives port then rxData port seq p s else s)) s

/-- LINK_ACK_RECEIVE (R343, R344). -/
def execLinkAckReceive (port seq : Nat) (s : State) : Host.Outcome State Fault Refusal :=
  onInstance 128 port (fun port => whenFab (fun s => if s.linkReceives port then onLinkAck port seq (linkBusy port s) else s)) s

/-- A SEQ is outstanding, and the running replay has not sent its frame yet (R346). -/
def State.notReached (s : State) (n seq : Nat) : Bool :=
  let p := s.port n
  let i := subMod (s.seqMod n) seq p.oldest
  decide (i < p.win.length) && decide (p.win.length ≤ i + p.again)

/-- REPLAY_REQ_RECEIVE: an acknowledgement of s - 1, then a replay from s; ignored while a replay runs that has yet to reach s (R344,
R346). -/
def execReplayReqReceive (port : Nat) (seq : Nat) (s : State) : Host.Outcome State Fault Refusal :=
  onInstance 128 port (fun port => whenFab (fun s =>
    if !s.linkReceives port then s
    else
      let s := linkBusy port s
      if s.notReached port seq then s
      else
        let s := onLinkAck port (subMod (s.seqMod port) seq 1) s
        if (s.port port).state = .up ∧ (s.port port).oldest = seq % s.seqMod port then startReplay port s else s)) s

/-! ### Marker blocks (R339, R349, R351, R368, R379) -/

/-- A port's lanes use RS(272,258) (R335, R358). -/
def State.shortFec (s : State) (n : Nat) : Bool := decide (s.mode n = 0) && decide (s.fldI .llrCtrl n 0 2 2 = 1)

/-- A received codeword, as the PAM4 levels of lane j of a port: the symbols corrected are counted, or the codeword, which is an error of
R354 (R366, R385). -/
def codewordIn (n : Nat) (x : Nat × List Int) (s : State) : State :=
  let l := 4 * n + x.1 % 4
  match rsDecode (s.shortFec n) (laneSymbols 544 x.2) with
  | some (_, k) => if k = 0 then s else s.count (cntLane l 0) k
  | none => linkError n (s.count (cntLane l 1) 1)

/-- A valid marker block under port lock: credit, the partner, QUIET_REQ while the port sends its own, and an audit (R339, R349, R351,
R379). -/
def markerTaken (n : Nat) (m : Marker) (s : State) : State :=
  let s := updFport n (fun p => { p with
    missed := 0
    sbSeen := some m.count
    creditIn := (List.range 8).map (fun v => nth m.grant v % 2 ^ 24)
    partner := some (m.coord, m.port, m.map)
    quietSeen := if m.quiet && p.quietReq then p.quietSeen + 1 else 0 }) s
  let s := match m.audit with
    | none => s
    | some a =>
      if s.fldI .llrAudit n 0 63 63 = 0 ∨ !(s.port n).rxValid then s
      else auditsDue n (updFport n (fun p => { p with audits := a :: p.audits.filter (fun b => b.1 ≠ a.1) }) s)
  fabSettle s

/-- The words of the marker block that a port sends: alignment marker, GRANTED, audit, MCRC (R339, R368). -/
def State.markerWords (s : State) (n : Nat) (audit : Nat) : List Word :=
  let p := s.port n
  let a0 := at_ 32 0x6B1DE52C + at_ 16 (p.sbCount % 65536) + at_ 12 p.map + at_ 11 (if s.mode n = 0 then s.fldI .llrCtrl n 0 2 2 else 0)
    + at_ 9 (s.mode n) + at_ 8 (b1 p.quietReq) + n
  let g := (List.range 4).map (fun i => word (nth p.granted (2 * i) + at_ 32 (nth p.granted (2 * i + 1))))
  let body := g ++ [word audit]
  [word a0, word (at_ 32 s.coord)] ++ body ++ [word (at_ 32 (fcrc (bytesOf body)))]

/-- Put the ACTIVE lanes of a port in QUIET (R379). -/
def enterQuiet (n : Nat) (s : State) : State :=
  let s := (List.range 4).foldl (fun s j =>
    let l := 4 * n + j
    if (s.lane l).state = .active then
      updLane l (fun x => { x with state := .quiet, since := s.clk.now, signal := false, locked := false, partner := false, readyRun := 0 }) s
    else s) s
  updFport n (fun p => { p with quiet := true, quietReq := false, quietSeen := 0, locked := false, missed := 0 }) s

/-- Corrupt some symbols of a codeword: which ones, and how, is not stated (R383, log 3, log 156). at: positions not taken yet. -/
def corrupt : Nat → List Nat → List Nat → State → List Nat × State
  | 0, _, w, s => (w, s)
  | k + 1, l, w, s =>
    let (a, s) := s.drawNat
    let (e, s) := s.drawNat
    match l[a % atLeast1 l.length]? with
    | none => (w, s)
    | some i => corrupt k (l.filter (· ≠ i)) (setNth i (Nat.xor (nth w i) (1 + e % 1023)) w) s

/-- A lane sends a codeword message: encoded, corrupted where injection is on and its turn has come, scrambled and mapped (R366, R383). -/
def laneSend (l : Nat) (msg : List Nat) (s : State) : State :=
  let w := rsEncode (s.shortFec (l / 4)) msg
  let f := s.raw .lnsFecInj l 0
  let c := (s.lane l).coded + 1
  let hit := decide (atLeast1 (bits f 31 0) ≤ c)
  if !bit f 63 then s.emit (.codeword l (laneLevels w))
  else
    let (w, s) := if hit then corrupt (atLeast1 (bits f 52 48)) (List.range w.length) w s else (w, s)
    updLane l (fun x => { x with coded := if hit then 0 else c }) (s.emit (.codeword l (laneLevels w)))

/-- Send the messages that the port's stream has, each on the next lane of its map (R367). -/
def sendMessages (n : Nat) (lanes : List Nat) : List (List Bool) → State → State
  | [], s => s
  | m :: rest, s =>
    let l := 4 * n + nth lanes ((s.port n).msgs % atLeast1 lanes.length)
    let s := laneSend l ((pieces 10 m.length m).map bitsNat) s
    sendMessages n lanes rest (updFport n (fun p => { p with msgs := p.msgs + 1 }) s)

/-- The first transmissions whose headers follow the marker block that ends the superblock now on the lanes (R335, R351). -/
def Port.headsAfter (p : Port) : List TxHead := if p.started then p.heads.filter (fun h => decide (4032 ≤ h.at_)) else p.heads

/-- The stream of a port goes on: the rest of the superblock that ends, with frames and idle words, then the marker block (R335, R367). -/
def sendStream (n : Nat) (marker : List Word) (s : State) : State :=
  let p := s.port n
  let idle := (List.replicate 504 (toBytes 8 0xF000000000000000)).flatten
  let body := if p.started then p.tx.take 4032 ++ idle.drop (min 4032 p.tx.length) else []
  let stream := p.bits ++ bitsOf (body ++ bytesOf marker)
  let k := 10 * rsK (s.shortFec n)
  let msgs := pieces k (stream.length / k) stream
  let s := updFport n (fun p => { p with
    started := true, tx := if p.started then p.tx.drop 4032 else p.tx
    heads := p.headsAfter.map (fun h => { h with at_ := if p.started then h.at_ - 4032 else h.at_ }), bits := stream.drop (k * msgs.length) }) s
  sendMessages n ((List.range 4).filter (bit p.map)) msgs s

/-- The audit of a VC in the next marker block: AUDIT_SEQ is the SEQ of the first new frame whose header follows it, AUDIT_CONSUMED the
VC's CONSUMED before that frame (R351). -/
def Port.auditWord (p : Port) (v : Nat) : Nat :=
  let l := p.headsAfter
  let later := sumBy (fun h => if h.vc = v then h.cells else 0) l
  2 ^ 63 + at_ 60 v + at_ 40 ((l.head?.map (·.seq)).getD p.next) + (nth p.consumed v + 2 ^ 24 - later % 2 ^ 24) % 2 ^ 24

/-- The lanes of a quiet port send nothing: once those of its map are ACTIVE again it sends codewords, before its own lock (R371, R379,
R380). -/
def State.portDark (s : State) (n : Nat) : Bool :=
  let p := s.port n
  p.quiet && !(List.range 4).all (fun j => !bit p.map j || decide ((s.lane (4 * n + j)).state = .active))

/-- A port may ask for quiet: QUIET_EN is 1 and it sends no congestion vectors (R379). -/
def State.quietMay (s : State) (n : Nat) : Bool :=
  decide (s.fldI .lnsPortCtrl (4 * n) 0 63 63 = 1) && !(decide (s.cvecPeriod ≠ 0) && s.listed n)

/-- MARKER_BLOCK_SEND (R339, R351, R379, R380). An exchange toward quiet ends where the port may not ask for it any more. -/
def execMarkerBlockSend (port : Nat) (s : State) : Host.Outcome State Fault Refusal :=
  onInstance 128 port (fun port => whenFab (fun s =>
    if s.ethPort port ∨ (s.port port).map = 0 ∨ s.portDark port then s
    else
      let s := if s.quietMay port then s else quietEnds port s
      let p := s.port port
      let enter := p.quietReq && decide (4 ≤ p.quietSeen)
      let due := decide (s.fldI .llrAudit port 0 63 63 = 1) && decide (atLeast1 (s.fldI .llrAudit port 0 7 0) ≤ p.markers + 1)
      let v := p.auditVc
      let audit := if due then p.auditWord v else 0
      let s := sendStream port (s.markerWords port audit) (s.emit (.link port 5 (s.markerWords port audit)))
      let s := updFport port (fun p => { p with
        sbCount := (p.sbCount + 1) % 65536
        grantedSent := p.granted
        markers := if due then 0 else p.markers + 1
        auditVc := if due then (v + 1) % 8 else v }) s
      if enter then enterQuiet port s else s)) s

/-! ### Timers (R342, R345, R346, R352, R354) -/

/-- LINK_REPLAY_TIMEOUT (R346). Waking a quiet port does not count (R380). -/
def execLinkReplayTimeout (port : Nat) (s : State) : Host.Outcome State Fault Refusal :=
  onInstance 128 port (fun port => whenFab (fun s =>
    let p := s.port port
    if p.state ≠ .up ∨ p.quiet ∨ p.win.isEmpty then s
    else startReplay port (s.advanceTo (p.timerAt + ns (atLeast1 (s.fldI .llrReplayTmo port 0 19 0)))))) s

/-- REPLAY_REQ_RESEND (R342). -/
def execReplayReqResend (port : Nat) (s : State) : Host.Outcome State Fault Refusal :=
  onInstance 128 port (fun port => whenFab (fun s =>
    let p := s.port port
    if !s.linkReceives port ∨ p.reqFor ≠ some p.expected then s
    else
      let s := s.advanceTo (p.reqAt + ns (atLeast1 (s.fldI .llrReplayTmo port 0 19 0)))
      sendReplayReq port (updFport port (fun p => { p with reqFor := none }) s))) s

/-- STANDALONE_ACK_IDLE (R345). -/
def execStandaloneAckIdle (port : Nat) (s : State) : Host.Outcome State Fault Refusal :=
  onInstance 128 port (fun port => whenFab (fun s =>
    let p := s.port port
    if !s.linkReceives port ∨ !p.ackPending then s
    else sendLinkAck port (s.advanceTo (p.ackAt + ns (s.fldI .llrAck port 0 15 0))))) s

/-- CREDIT_TIMEOUT (R352). -/
def execCreditTimeout (port vc : Nat) (s : State) : Host.Outcome State Fault Refusal :=
  onInstance 128 port (fun port => whenFab (fun s =>
    match assoc vc (s.port port).blocked with
    | none => s
    | some t =>
      if (s.port port).state ≠ .up ∨ (s.port port).quiet then s
      else linkDown port (some .llrCreditTimeout) 1 vc vc false false (s.advanceTo (t + us (atLeast1 (s.fldI .llrCreditTmo port 0 19 0)))))) s

/-- Errors counted in the window that is running (R354). -/
def State.windowErrors (s : State) (n : Nat) : Nat :=
  let p := s.port n
  if s.clk.now < p.errAt + us (atLeast1 (s.fldI .llrErrWindow n 0 19 0)) then p.errors else 0

/-- ERROR_WINDOW_LIMIT: the count of the window that is running has reached LIMIT (R354). -/
def execErrorWindowLimit (port : Nat) (s : State) : Host.Outcome State Fault Refusal :=
  onInstance 128 port (fun port => whenFab (fun s =>
    let n := s.windowErrors port
    if n < atLeast1 (s.fldI .llrErrWindow port 0 47 32) then s
    else linkDown port (some .llrErrorRate) 3 0 (min 65535 n) true false s)) s

/-! ### Start-up (R353, R356) -/

/-- Reset the receive direction from a partner's INIT: GRANTED is what the reservation has free, as far as the free list can honour it
(R301, R356). -/
def resetRx (n oldest : Nat) (s : State) : State :=
  let s := frameFailed n s
  let s := updFport n (fun p => { p with
    rxValid := true, expected := oldest % s.seqMod n, received := List.replicate 8 0, granted := List.replicate 8 0, audits := [], reqFor := none, ackPending := false, accepted := 0 }) s
  (List.range 8).foldl (fun s v => grantCells (.port n) v s) s

/-- Flush the transmit direction alone: the receive direction keeps its state (R356). -/
def flushTx (n : Nat) (s : State) : State :=
  let p := s.port n
  let s := flushPort n s
  updFport n (fun x => { x with rxValid := p.rxValid, ackPending := p.ackPending, accepted := p.accepted, audits := p.audits }) s

/-- Take the partner's RX_EXPECTED: acknowledged up to it, flushed when it has no receive state, a violation outside the outstanding
range (R356). -/
def takeExpected (n : Nat) (f : LinkInit) (s : State) : State :=
  if !f.rxValid then flushTx n s
  else
    let k := subMod (s.seqMod n) f.rxExpected (s.port n).oldest
    if k ≤ s.outstanding n then freeReplay n k s
    else if (s.port n).state = .up then linkDown n (some .llrSeqViolation) 5 0 (f.rxExpected % 65536) false false s
    else
      let s := s.capture .llrErr n 0 (at_ 59 5 + s.dtimeNs % 2 ^ 48)
      flushPort n (report .llrSeqViolation 0x14 n (f.rxExpected % 65536) s)

/-- INIT_RECEIVE: a partner with a different MODE leaves the port in INIT (R353, R356). -/
def execInitReceive (port : Nat) (f : LinkInit) (s : State) : Host.Outcome State Fault Refusal :=
  onInstance 128 port (fun port => whenFab (fun s =>
    let p := s.port port
    if s.ethPort port ∨ (p.state ≠ .up ∧ p.state ≠ .init) ∨ !p.locked then s
    else if modeOf f.mode ≠ s.mode port then updFport port (fun p => { p with state := .init, again := 0 }) s
    else
      let s := if f.txFresh ∨ !p.rxValid then resetRx port f.txOldest s else s
      let s := takeExpected port f s
      let s := updFport port (fun p => { p with state := .init, again := 0 }) s
      sendCtl port 4 (s.initArg port) s)) s

/-- INIT_ACK_RECEIVE: the port is UP and replays what the partner lacks (R353, R356). -/
def execInitAckReceive (port : Nat) (f : LinkInit) (s : State) : Host.Outcome State Fault Refusal :=
  onInstance 128 port (fun port => whenFab (fun s =>
    let p := s.port port
    if s.ethPort port ∨ p.state ≠ .init ∨ !p.locked ∨ modeOf f.mode ≠ s.mode port then s
    else
      let s := if f.txFresh then resetRx port f.txOldest s else s
      let s := takeExpected port f s
      let lanes := mapCount (s.port port).map
      let s := updFport port (fun p => { p with
        state := .up, fresh := false, downAt := none, timerAt := s.clk.now, busyAt := s.clk.now, replays := 0, again := p.win.length }) s
      fabSettle (allEndpoints (if lanes = 4 then evPortUp else evPortDegraded) port lanes port s))) s

/-- INIT_SEND_TIMER: in INIT an INIT frame every 1 µs (R353). -/
def execInitSendTimer (port : Nat) (s : State) : Host.Outcome State Fault Refusal :=
  onInstance 128 port (fun port => whenFab (fun s =>
    if (s.port port).state ≠ .init ∨ s.ethPort port then s
    else
      let s := s.advanceTo ((s.port port).initAt + us 1)
      updFport port (fun p => { p with initAt := s.clk.now }) (sendCtl port 3 (s.initArg port) s))) s

/-- GRACE_EXPIRY: the port flushes; its state stands (R353). -/
def execGraceExpiry (port : Nat) (s : State) : Host.Outcome State Fault Refusal :=
  onInstance 128 port (fun port => whenFab (fun s =>
    match (s.port port).downAt with
    | none => s
    | some t => flushPort port (updFport port (fun p => { p with downAt := none }) (s.advanceTo (t + us (s.fldI .llrGrace port 0 19 0)))))) s

/-! ### Ethernet service ports (R360-R363, R377) -/

/-- Priority of a received frame: PCP of its first VLAN tag, else DEF_PRIO (R362). -/
def State.etherPrio (s : State) (n : Nat) (b : List Byte) : Nat :=
  let at8 (i : Nat) : Nat := (b[i]?).elim 0 (·.toNat)
  let t := at8 12 * 256 + at8 13
  if t = 0x8100 ∨ t = 0x88A8 then at8 14 / 32 else s.fldI .llrEthCtrl n 0 54 52

/-- A MAC control frame of opcode PAUSE. -/
def isPause (b : List Byte) : Bool :=
  let at8 (i : Nat) : Nat := (b[i]?).elim 0 (·.toNat)
  at8 12 == 0x88 && at8 13 == 0x08 && at8 14 == 0 && at8 15 == 1

/-- Cells charged to a priority of a service port. -/
def State.prioCells (s : State) (n p : Nat) : Nat :=
  sumBy (fun x => if decide (x.src = .port n) && decide (x.vc = p) && !x.ended then x.cells else 0) s.fab.stored

/-- XON and XOFF of a port (R363). -/
def State.xon (s : State) (n : Nat) : Nat := s.fldI .llrEthPfc n 0 19 0
def State.xoff (s : State) (n : Nat) : Nat := max (s.xon n + 1) (s.fldI .llrEthPfc n 0 51 32)

/-- Send PFC for a priority (R363). -/
def sendPfc (n p quanta : Nat) (s : State) : State :=
  updFport n (fun x => { x with xoff := if quanta = 0 then x.xoff.filter (fun a => a.1 ≠ p) else assocSet p s.clk.now x.xoff })
    (s.emit (.pfc n [(p, quanta)]))

/-- The charge of a priority has reached XOFF (R363). -/
def pfcCheck (n p : Nat) (s : State) : State :=
  if bit (s.fldI .llrEthCtrl n 0 63 56) p && decide (s.xoff n ≤ s.prioCells n p) && (assoc p (s.port n).xoff).isNone then
    sendPfc n p 0xFFFF s
  else s

/-- Charge a frame to the port's reservation for its priority, or to the shared pool; none when neither has cells (R305, R362). -/
def chargeFrame (n p len : Nat) (s : State) : Option (Nat × State) :=
  if s.roomFor (.port n) p (cellsOf len) then some (storePacket (.port n) p len true false 0 s)
  else if s.shareOk (n / 16) p (cellsOf len) then
    let (pid, s) := storePacket (.port n) p len true false 0 s
    some (pid, updFab (fun f => { f with stored := updFirst (fun y => y.pid = pid) (fun y => { y with shared := true }) f.stored }) s)
  else none

/-- A frame as the switch core carries it. -/
def framePkt (p : Nat) (b : List Byte) : SwPkt :=
  { dst := 0, src := 0, vc := p, tc := 3, pin := false, salt := 0, detoured := 0, ce := false, mcast := false, mdim := 0, mtype := 0, hops := 0, len := b.length, retx := false, pkey := none, body := .frame b }

/-- A frame is received on a service port (R362). -/
def etherReceive (n : Nat) (b : List Byte) (fcsOk : Bool) (s : State) : State :=
  if !fcsOk ∨ 9212 < b.length ∨ isPause b then s.count (cntPort n 5) 1
  else
    let p := s.etherPrio n b
    match chargeFrame n p b.length s with
    | none => s.count (cntSlice (n / 16) 1) 1
    | some (pid, s) =>
      let s := pfcCheck n p s
      let s := (s.count (cntVc n p 2) 1).count (cntVc n p 3) b.length
      let s := mirrorCopies n 0 pid (framePkt p b) s
      match frameIn (s.fldI .llrEthCtrl n 0 19 0) pid 0 b s with
      | (true, s) => fabSettle s
      | (false, s) => fabSettle (s.count (cntPort n 5) 1)

/-- ETHERNET_FRAME_RECEIVE: the frame without its FCS, and whether that checks (R362). -/
def execEthernetFrameReceive (port : Nat) (bytes : List Byte) (fcsOk : Bool) (s : State) : Host.Outcome State Fault Refusal :=
  onInstance 128 port (fun port => whenFab (fun s => if s.ethUp port then etherReceive port bytes fcsOk s else s)) s

/-- Time of one pause quantum of 512 bit times, in 0.1 ns times 10 Gb/s: at 800, 400 or 200 Gb/s (R360, R363). -/
def State.quantaTime (s : State) (n q : Nat) : Nat :=
  let gb := match s.fldI .llrCtrl n 0 5 4 with
    | 0 => 800
    | 1 => 400
    | _ => 200
  q * 512 * 10 / gb

/-- PFC_FRAME_RECEIVE: each named priority pauses for its quanta (R322, R363). -/
def execPfcFrameReceive (port : Nat) (quanta : List (Nat × Nat)) (s : State) : Host.Outcome State Fault Refusal :=
  onInstance 128 port (fun port => whenFab (fun s =>
    if !s.ethUp port then s
    else quanta.foldl (fun s q => updFport port (fun x => { x with
      paused := if q.2 = 0 then x.paused.filter (fun a => a.1 ≠ q.1) else assocSet q.1 (s.clk.now + s.quantaTime port q.2) x.paused }) s) s)) s

/-- PFC_REFRESH: the frame is repeated every 32,768 quanta above XON; below it one with quanta 0 ends the pause. A priority that a hinge has
disabled is left (R357, R363). -/
def execPfcRefresh (port prio : Nat) (s : State) : Host.Outcome State Fault Refusal :=
  onInstance 128 port (fun port => whenFab (fun s =>
    match assoc prio (s.port port).xoff with
    | none => s
    | some t =>
      if !bit (s.fldI .llrEthCtrl port 0 63 56) prio then updFport port (fun x => { x with xoff := x.xoff.filter (fun a => a.1 ≠ prio) }) s
      else if s.prioCells port prio < s.xon port then sendPfc port prio 0 s
      else sendPfc port prio 0xFFFF (s.advanceTo (t + s.quantaTime port 32768)))) s

/-- PFC_PAUSE_EXPIRY: the paused priority is ready again (R322, R363). -/
def execPfcPauseExpiry (port prio : Nat) (s : State) : Host.Outcome State Fault Refusal :=
  onInstance 128 port (fun port => whenFab (fun s =>
    match assoc prio (s.port port).paused with
    | none => s
    | some t => updFport port (fun x => { x with paused := x.paused.filter (fun a => a.1 ≠ prio) }) (s.advanceTo t))) s

/-- The lanes of an Ethernet port are not locked any more: those in use acquire anew (R375, R377). -/
def ethLanesLost (n : Nat) (s : State) : State :=
  (portLanes n).foldl (fun s l => if (s.lane l).state = .active then toFull l (updLane l (fun x => { x with signal := false }) s) else s)
    (updFport n (fun p => { p with state := .training, locked := false, map := 0, paused := [], xoff := [], readyAt := none }) s)

/-- ETHERNET_PORT_DOWN: a lane in use is lost; the lanes adapt anew, under leave (R375, R377, log 45). -/
def execEthernetPortDown (port : Nat) (s : State) : Host.Outcome State Fault Refusal :=
  onInstance 128 port (fun port => whenFab (fun s =>
    if !s.ethUp port then s
    else
      ethLanesLost port (allEndpoints evPortDown port 0 port (s.count (cntPort port 2) 1)))) s

end Sys2Proof.Machine
end

