-- ==== Sys2Proof/Machine/Lane.lean ====
section
/-! DEFINITION. Fabric lanes and port lock: acquisition, losses, degraded ports, quiet links, tests (R365-R384). -/

namespace Sys2Proof.Machine

/-! ### Port lock (R369, R373, R374, R380) -/

/-- READY lanes of a map carry codewords from now on (R371). -/
def lanesActive (n m : Nat) (s : State) : State :=
  (portLanes n).foldl (fun s l =>
    if (s.lane l).state = .ready ∧ bit m (l % 4) then updLane l (fun x => { x with state := .active, since := s.clk.now }) s else s) s

/-- The READY and ACTIVE lanes of a port can carry it (R373, R377). -/
def State.mapUsable (s : State) (n : Nat) : Bool := decide (2 ≤ mapCount (s.readyMap n)) && (decide (s.mode n ≠ 1) || decide (s.readyMap n = 15))

/-- Codewords are sent on the READY and ACTIVE lanes of a port: its map (R371, R373). -/
def useLanes (n : Nat) (s : State) : State :=
  takeMap n (s.readyMap n) (updFport n (fun p => { p with readyAt := none, missed := 0, sbSeen := none }) (lanesActive n 15 s))

/-- A port takes its READY and ACTIVE lanes, where they can carry it; fewer than are enabled are reported (R373). -/
def formLock (n : Nat) (s : State) : State :=
  if !s.mapUsable n then s
  else
    let m := s.readyMap n
    let s := useLanes n s
    if mapCount m < s.enabledLanes n then report .lnsDegraded 0x15 n m s else s

/-- The moment of R373 has come for a port without lock. -/
def State.lockDue (s : State) (n : Nat) : Bool :=
  let p := s.port n
  s.allReady n
    || (decide (p.state = .training) && p.readyAt.elim false (fun t => decide (t + ms (s.fldI .lnsPortCtrl (4 * n) 0 31 16) ≤ s.clk.now)))
    || (decide (p.state = .grace) && decide (p.lostAt + us (s.fldI .lnsPortCtrl (4 * n) 0 15 0) ≤ s.clk.now))

/-- Form port lock when its moment has come; a waking port takes the lanes of its map again (R373, R380). -/
def tryLock (n : Nat) (s : State) : State :=
  let p := s.port n
  if s.ethPort n ∨ p.testing ∨ p.locked ∨ p.state = .disabled then s
  else if p.state = .up then
    if p.quiet ∧ s.readyMap n &&& p.map = p.map then lanesActive n p.map s else s
  else if p.map ≠ 0 then s
  else if s.lockDue n then formLock n s
  else s

/-- Port lock is lost, by a lane or by missing marker blocks: a port that is UP goes down with grace; one in INIT goes back to where
it came from (R353, R369, R371, log 44). -/
def lockLost (n lane : Nat) (s : State) : State :=
  let p := s.port n
  let back (s : State) : State := updFport n (fun p => { p with
    locked := false, missed := 0, map := 0, readyAt := if (s.readyMap n) = 0 then none else some s.clk.now }) s
  match p.state with
  | .up => tryLock n (back (linkDown n (some .lnsLockLost) 0 0 lane true true s))
  | .init =>
    let s := updFport n (fun p => { p with state := if p.downAt.isSome then .grace else .training }) (report .lnsLockLost 0x15 n lane s)
    tryLock n (back s)
  | _ => tryLock n (back (report .lnsLockLost 0x15 n lane s))

/-- A lane leaves READY or ACTIVE for FAST: reported and taken out of its port's lock when it was ACTIVE (R371, R372). -/
def laneLost (l : Nat) (silent signal : Bool) (s : State) : State :=
  let was := (s.lane l).state
  let s := toFast l silent (updLane l (fun x => { x with signal := signal }) (s.count (cntLane l 4) 1))
  if was = .active then lockLost (lanePort l) l s else s

/-- A lane becomes READY: its coefficients are frozen (R371, R374). -/
def laneReady (l : Nat) (s : State) : State :=
  let n := lanePort l
  let (c, s) := s.drawNat
  let s := s.setReg .lnsCoef l 0 (at_ 48 (c % 65536) + 1)
  let s := updLane l (fun x => { x with state := .ready, since := s.clk.now, coef := true, fails := 0, signal := true }) s
  let s := updFport n (fun p => if p.state = .training ∧ p.readyAt = none then { p with readyAt := some s.clk.now } else p) s
  tryLock n s

/-- GEN or CHK of LNS_TEST: the codes above 0x9 are taken as 0x0 (R385). -/
def genCode (c : Nat) : Nat := if c ≤ 9 then c else 0

/-- The generator that LNS_TEST selects for a lane, its checker, for which the square wave is none, and its loopback (R382, R385). -/
def State.testGen (s : State) (l : Nat) : Nat := genCode (bits (s.raw .lnsTest l 0) 63 60)
def State.testChk (s : State) (l : Nat) : Nat :=
  let c := genCode (bits (s.raw .lnsTest l 0) 59 56)
  if c = 8 then 0 else c
def State.testLoop (s : State) (l : Nat) : Nat := bits (s.raw .lnsTest l 0) 55 54

/-- What the checker of a lane has counted goes into its counters (R382). -/
def chkFlush (l : Nat) (s : State) : State :=
  let (n, e) := (s.lane l).chkNow s.clk.now
  updLane l (fun x => { x with chk := none, chkBits := x.chkBits + n, chkErrs := x.chkErrs + e, once := 0 }) (chkEnd l s)

/-- Bits that a lane receives in a millisecond: two for each symbol (R365, R366). -/
def State.laneBits (s : State) (l : Nat) : Nat :=
  match s.laneSpeed (lanePort l) with
  | 0 => 226875000
  | 1 => 212500000
  | _ => 106250000

/-- The checker of a lane begins anew after what has changed: it compares while the lane is in TEST, CHK selects a pattern and its receiver is
locked. Where the lane's own generator is looped to it and sends CHK, the bits that injection inverts are the errors (R382; DEDUCED, log
191). -/
def chkTouch (l : Nat) (s : State) : State :=
  let s := chkFlush l s
  let x := s.lane l
  if x.state ≠ .test ∨ s.testChk l = 0 ∨ !x.locked then s
  else
    let own := (s.testLoop l == 1 || s.testLoop l == 2) && s.testGen l == s.testChk l && !x.silent
    updLane l (fun x => { x with once := 0, chk := some { since := s.clk.now, rate := s.laneBits l, own := own, period := bits (s.raw .lnsTest l 0) 31 0 } }) s

/-- TRAINING_FRAME_RECEIVE: its status word, whether its sync word matches, and whether it came inverted. A frame whose sync word, TAG, RATE
or SCRC is wrong ends the run of consecutive frames. In TEST a frame only locks the receiver (R367, R370, R371). -/
def execTrainingFrameReceive (lane : Nat) (status : Nat) (sync : Bool) (inverted : Bool) (s : State) :
    Host.Outcome State Fault Refusal :=
  onInstance 512 lane (fun lane => whenFab (fun s =>
    let x := s.lane lane
    let c := s.raw .lnsCtrl lane 0
    let acq := decide (x.state = .fast) || (decide (x.state = .full) && !x.leave)
    let rxReady := bit status 25
    let good := sync && trainGood (s.trainRate lane) status && !(!bit c 5 && bit c 4 != inverted)
    if s.ethPort (lanePort lane) ∨ !(acq || decide (x.state = .ready) || decide (x.state = .test)) then s
    else if !good then updLane lane (fun x => { x with readyRun := 0 }) s
    else if x.state = .test then chkTouch lane (updLane lane (fun x => { x with locked := true, signal := true, inverted := inverted }) s)
    else
      let run := if rxReady then x.readyRun + 1 else 0
      let was := x.locked
      let s := updLane lane (fun x => { x with
        locked := true, signal := true, partner := rxReady, readyRun := run, inverted := inverted
        miswire := x.miswire || decide (bits status 27 26 ≠ lane % 4) }) s
      let s := if was then s else sendTraining lane s
      if acq ∧ 8 ≤ run ∧ !(s.lane lane).miswire then laneReady lane s else s)) s

/-- A marker is valid: SYNC and the MCRC, the spacing, and SB_COUNT one above that of the marker before it (R369). -/
def markerValid (m : Marker) : Bool := m.sync && m.crcOk && decide (m.gap = 4096) && decide (m.count = (m.prev + 1) % 65536)

/-- A port finds markers of another map: it takes the intersection, without lock; a port that is UP goes down. A lane outside the map
stays in its state: no row of R371 takes it out (R369, R371; DEDUCED, log 190). -/
def mapDiffers (n : Nat) (m : Marker) (s : State) : State :=
  let k := (s.port n).map &&& m.map
  let s := if (s.port n).state = .up then linkDown n (some .lnsLockLost) 0 0 (4 * n) true true s else s
  let s := updFport n (fun p => { p with
    locked := false, missed := 0, sbSeen := none, state := if p.state = .init then (if p.downAt.isSome then .grace else .training) else p.state }) s
  if mapCount k < 2 ∨ s.mode n = 1 then updFport n (fun p => { p with readyAt := some s.clk.now }) (takeMap n 0 s)
  else report .lnsDegraded 0x15 n k (takeMap n k s)

/-- A port takes valid alignment markers: on its own map it has port lock; on another map it takes the intersection (R369). -/
def markersFound (n : Nat) (m : Marker) (s : State) : State :=
  let p := s.port n
  if m.map ≠ p.map then mapDiffers n m s
  else
    let s := updFport n (fun p => { p with
      locked := true, missed := 0, sbSeen := some m.count, wakeAt := none, partner := some (m.coord, m.port, m.map), readyAt := none }) s
    if p.state = .up then fabSettle (updFport n (fun p => { p with quiet := false, busyAt := s.clk.now, timerAt := s.clk.now, blocked := [] }) s)
    else
      let s := updFport n (fun p => { p with state := .init, initAt := s.clk.now }) s
      sendCtl n 3 (s.initArg n) s

/-- The lanes of an Ethernet port are locked: the port is in service, degraded on fewer than four of them (R160, R360, R377, log 45). -/
def ethPortUp (n : Nat) (s : State) : State :=
  let ls := (portLanes n).filter s.laneEnabled
  let s := ls.foldl (fun s l => updLane l (fun x => { x with state := .active, since := s.clk.now, locked := true, signal := true }) s) s
  let s := updFport n (fun p => { p with state := .up, locked := true, map := s.readyMap n, busyAt := s.clk.now }) s
  allEndpoints (if ls.length = 4 then evPortUp else evPortDegraded) n ls.length n s

/-- Every lane that an Ethernet port uses acquires, with leave (R375, R377). -/
def State.ethLanesAcquire (s : State) (n : Nat) : Bool :=
  (portLanes n).all (fun l => !s.laneEnabled l || (decide ((s.lane l).state = .full) && !(s.lane l).leave) || decide ((s.lane l).state = .fast))

/-- The wake of a quiet port has outlasted FAST_TMO (R380). -/
def State.wakeLate (s : State) (n : Nat) : Bool :=
  let p := s.port n
  p.quiet && p.wakeAt.elim false (fun t => decide (t + us (atLeast1 (s.fldI .lnsAcq (4 * n) 0 63 48)) < s.clk.now))

/-- PORT_LOCK_FORMED (R369). A wake that came too late is a lane lock loss (R380). -/
def execPortLockFormed (port : Nat) (m : Marker) (s : State) : Host.Outcome State Fault Refusal :=
  onInstance 128 port (fun port => whenFab (fun s =>
    let p := s.port port
    if s.sliceDead (port / 16) then s
    else if s.ethPort port then
      if p.state = .training ∧ !p.testing ∧ s.portEnabled port ∧ s.ethLanesAcquire port then ethPortUp port s else s
    else if p.locked ∨ p.map = 0 ∨ p.testing ∨ !markerValid m ∨ s.readyMap port &&& p.map ≠ p.map then s
    else if p.state = .disabled ∨ (p.state = .up ∧ !p.quiet) then s
    else if s.wakeLate port then lockLost port (4 * port) s
    else markersFound port m s)) s

/-- Port lock is lost by marker blocks: a port that is UP goes down and its lanes re-acquire (R353, R369). -/
def markersLost (n : Nat) (s : State) : State :=
  if (s.port n).state = .up then linkDown n (some .lnsLockLost) 0 0 (4 * n) true false s else lockLost n (4 * n) s

/-- PORT_LOCK_LOSS: the marker blocks that follow are missing, up to the fourth in a row (R369). -/
def execPortLockLoss (port : Nat) (s : State) : Host.Outcome State Fault Refusal :=
  onInstance 128 port (fun port => whenFab (fun s => if s.ethPort port ∨ !(s.port port).locked then s else markersLost port s)) s

/-- A marker block is missing or fails: the fourth in a row loses port lock (R369). -/
def markerMissed (n : Nat) (s : State) : State :=
  let s := updFport n (fun p => { p with missed := p.missed + 1, quietSeen := 0 }) s
  if 4 ≤ (s.port n).missed then markersLost n s else s

/-- The SB_COUNT that the next marker block must have: one more for each block since the last valid one (R369). -/
def Port.countDue (p : Port) : Option Nat := p.sbSeen.map (fun c => (c + p.missed + 1) % 65536)

/-- MARKER_BLOCK_RECEIVE, with codewords that came since the last one: lane of the port and levels. Under port lock a block whose MCRC fails
is an error of R354; one whose SYNC or SB_COUNT is wrong, as one with a failed MCRC, counts toward the loss of the lock; one of another
lane map makes the port take the intersection (R339, R354, R369). -/
def execMarkerBlockReceive (port : Nat) (b : MarkerBlock) (s : State) : Host.Outcome State Fault Refusal :=
  onInstance 128 port (fun port => whenFab (fun s =>
    let m := b.marker
    let s := if s.ethPort port ∨ (s.port port).map = 0 then s else b.words.foldl (fun s x => codewordIn port x s) s
    let p := s.port port
    if s.ethPort port ∨ !p.locked then s
    else if !m.crcOk then markerMissed port (linkError port s)
    else if !m.sync ∨ p.countDue.elim false (fun c => decide (m.count ≠ c)) then markerMissed port s
    else if m.map ≠ p.map then mapDiffers port m s
    else markerTaken port m s)) s

/-- DEGRADE_WAIT_EXPIRY (R373). -/
def execDegradeWaitExpiry (port : Nat) (s : State) : Host.Outcome State Fault Refusal :=
  onInstance 128 port (fun port => whenFab (fun s =>
    let p := s.port port
    match p.readyAt with
    | none => s
    | some t =>
      if p.state ≠ .training ∨ p.locked ∨ p.map ≠ 0 ∨ s.ethPort port then s
      else tryLock port (s.advanceTo (t + ms (s.fldI .lnsPortCtrl (4 * port) 0 31 16))))) s

/-- REJOIN_WAIT_EXPIRY (R373). -/
def execRejoinWaitExpiry (port : Nat) (s : State) : Host.Outcome State Fault Refusal :=
  onInstance 128 port (fun port => whenFab (fun s =>
    let p := s.port port
    if p.state ≠ .grace ∨ p.locked ∨ p.map ≠ 0 then s
    else tryLock port (s.advanceTo (p.lostAt + us (s.fldI .lnsPortCtrl (4 * port) 0 15 0))))) s

/-! ### Losses and limits (R371, R372, R379, R380) -/

/-- A lane that was ACTIVE has left its port, which goes on with the others at once, or goes down (R377, R381). -/
def activeLeft (l : Nat) (s : State) : State :=
  let n := lanePort l
  if s.ethPort n then ethLanesLost n (if (s.port n).state = .up then allEndpoints evPortDown n 0 n (s.count (cntPort n 2) 1) else s)
  else
    let s :=
      if (s.port n).state = .up then linkDown n (some .lnsDegraded) 0 0 (s.readyMap n) true true s
      else if s.mapUsable n then report .lnsDegraded 0x15 n (s.readyMap n) (updFport n (fun p => { p with locked := false }) s)
      else updFport n (fun p => { p with locked := false }) s
    let s := updFport n (fun p => { p with map := 0, state := if p.state = .init then (if p.downAt.isSome then .grace else .training) else p.state }) s
    if s.mapUsable n then useLanes n s else s

/-- LANE_LOCK_LOSS: with signal present; a lane that acquires sends RX_READY 0 again; a lane that an Ethernet port uses takes it down (R370,
R371, R377). -/
def execLaneLockLoss (lane : Nat) (s : State) : Host.Outcome State Fault Refusal :=
  onInstance 512 lane (fun lane => whenFab (fun s =>
    let x := s.lane lane
    if s.ethPort (lanePort lane) ∧ x.state = .active then activeLeft lane (s.count (cntLane lane 4) 1)
    else if s.ethPort (lanePort lane) ∧ x.state ≠ .test then s
    else if x.state.inUse then laneLost lane true true s
    else if x.locked then
      let s := chkTouch lane (updLane lane (fun x => { x with locked := false, readyRun := 0 }) (s.count (cntLane lane 4) 1))
      if x.state = .fast ∨ x.state = .full then sendTraining lane s else s
    else s)) s

/-- LANE_SIGNAL_LOSS: after the exchange of R379 it means that the partner is quiet; a lane that an Ethernet port uses takes it down (R371,
R377, R379). -/
def execLaneSignalLoss (lane : Nat) (s : State) : Host.Outcome State Fault Refusal :=
  onInstance 512 lane (fun lane => whenFab (fun s =>
    let x := s.lane lane
    let p := s.port (lanePort lane)
    if s.ethPort (lanePort lane) ∧ x.state = .active then activeLeft lane (s.count (cntLane lane 4) 1)
    else if s.ethPort (lanePort lane) ∧ x.state ≠ .test then s
    else if !x.state.inUse ∨ (p.quietReq ∧ 4 ≤ p.quietSeen) then
      chkTouch lane (updLane lane (fun x => { x with signal := false, locked := x.locked && x.state.inUse }) s)
    else laneLost lane false false s)) s

/-- QUIET_HOLD_EXPIRY: training frames begin (R371). -/
def execQuietHoldExpiry (lane : Nat) (s : State) : Host.Outcome State Fault Refusal :=
  onInstance 512 lane (fun lane => whenFab (fun s =>
    let x := s.lane lane
    if !x.silent then s
    else
      let s := s.advanceTo (x.since + us (atLeast1 (s.fldI .lnsAcq lane 0 23 16)))
      sendTraining lane (updLane lane (fun x => { x with silent := false }) s))) s

/-- FAST_TMO_EXPIRY: leave is requested for full adaptation; a wake that has not reached port lock by then is a lane lock loss (R371,
R380). -/
def execFastTmoExpiry (lane : Nat) (s : State) : Host.Outcome State Fault Refusal :=
  onInstance 512 lane (fun lane => whenFab (fun s =>
    let x := s.lane lane
    let n := lanePort lane
    let tmo := us (atLeast1 (s.fldI .lnsAcq lane 0 63 48))
    if x.state ≠ .fast then
      match (s.port n).wakeAt with
      | some t => if (s.port n).quiet ∧ x.state.inUse then lockLost n lane (s.advanceTo (t + tmo)) else s
      | none => s
    else
      let s := toFull lane (s.advanceTo (x.since + tmo))
      if (s.port n).state = .up ∧ (s.port n).quiet then lockLost n lane s else s)) s

/-- FULL_TMO_EXPIRY: a failed full acquisition; MAX_FULL in a row leave the lane FAILED. Waiting for leave does not count (R371, R375). -/
def execFullTmoExpiry (lane : Nat) (s : State) : Host.Outcome State Fault Refusal :=
  onInstance 512 lane (fun lane => whenFab (fun s =>
    let x := s.lane lane
    if x.state ≠ .full ∨ x.leave ∨ s.ethPort (lanePort lane) then s
    else
      let s := (s.advanceTo (x.since + ms (atLeast1 (s.fldI .lnsAcq lane 0 47 32)))).count (cntLane lane 5) 1
      let s := updLane lane (fun x => { x with fails := x.fails + 1, since := s.clk.now, locked := false, partner := false, readyRun := 0 }) s
      if (s.lane lane).fails < atLeast1 (s.fldI .lnsAcq lane 0 31 24) then sendTraining lane s
      else
        let s := updLane lane (fun x => { x with state := .failed, signal := false }) s
        laneDomainOff (laneDomain lane) (tryLock (lanePort lane) s))) s

/-! ### Quiet (R379, R380) -/

/-- QUIET_IDLE_EXPIRY: the port asks for quiet (R379). -/
def execQuietIdleExpiry (port : Nat) (s : State) : Host.Outcome State Fault Refusal :=
  onInstance 128 port (fun port => whenFab (fun s =>
    let p := s.port port
    if s.ethPort port ∨ p.state ≠ .up ∨ p.quiet ∨ p.quietReq ∨ !s.quietMay port ∨ !p.win.isEmpty ∨ !(s.egress (.port port)).q.isEmpty then s
    else
      let s := s.advanceTo (p.busyAt + us (atLeast1 (s.fldI .lnsPortCtrl (4 * port) 0 47 32)))
      updFport port (fun p => { p with quietReq := true, quietSeen := 0 }) s)) s

/-- QUIET_WAKE: the quiet lanes acquire from their frozen coefficients (R371, R380). -/
def execQuietWake (port : Nat) (s : State) : Host.Outcome State Fault Refusal :=
  onInstance 128 port (fun port => whenFab (fun s =>
    if !(s.port port).quiet then s
    else
      let s := updFport port (fun p => { p with wakeAt := some (p.wakeAt.getD s.clk.now) }) s
      (portLanes port).foldl (fun s l => if (s.lane l).state = .quiet then toFast l false (updLane l (fun x => { x with signal := true }) s) else s) s)) s

/-! ### Ports enabled, disabled, retrained (R353, R371, R376, R377) -/

/-- A port leaves service without a fault: PORT_DOWN when it was UP, and the flush (R353). -/
def portRelease (n : Nat) (next : LinkState) (s : State) : State :=
  let was := (s.port n).state
  let s := if was = .up then allEndpoints evPortDown n 0 n (s.count (cntPort n 2) 1) else s
  let s := flushPort n s
  updFport n (fun p => { p with
    state := next, locked := false, map := 0, missed := 0, quiet := false, quietReq := false, quietSeen := 0, readyAt := none, downAt := none, wakeAt := none, sbSeen := none, partner := none, paused := [], xoff := [] }) s

/-- ENABLE is set: full lane acquisition starts (R353). -/
def portEnable (n : Nat) (s : State) : State :=
  if !s.portEnabled n ∨ (s.port n).testing then s
  else
    let s := if (s.port n).state = .disabled then updFport n (fun p => { p with state := .training }) s else s
    (portLanes n).foldl (fun s l => laneStart l s) s

/-- ENABLE is cleared (R353, R371). -/
def portDisable (n : Nat) (s : State) : State := (portLanes n).foldl (fun s l => laneOff l s) (portRelease n .disabled s)

/-- The lanes of a port are trained again; a changed rate discards their coefficients. A lane in TEST stays there until STOP (R353, R371,
R376). -/
def portRetrain (n : Nat) (rate : Bool) (s : State) : State :=
  let s := portRelease n .training s
  (portLanes n).foldl (fun s l =>
    let s := if rate then updLane l (fun x => { x with coef := false }) s else s
    let x := (s.lane l).state
    if x = .test ∧ s.portEnabled n ∧ !bit (s.raw .lnsCtrl l 0) 8 ∧ s.clockGood (s.lanePll l) then s
    else if !s.laneEnabled l ∨ s.ethPort n ∨ !s.clockGood (s.lanePll l) then laneStart l (laneOff l s)
    else if x = .off then laneStart l s
    else if x = .failed ∨ (x = .full ∧ !rate) then s
    else if x = .full then toFull l (dropLaneReq l s)
    else toFast l false s) s

/-! ### Tests (R381, R382, R384) -/

/-- CMD_LANE_TEST would leave an UP, unfenced port fewer than 2 lanes (R381). -/
def State.laneTestRefused (s : State) (l : Nat) : Bool :=
  let p := s.port (lanePort l)
  decide ((s.lane l).state = .active) && decide (p.state = .up) && !p.fenced && decide (mapCount p.map < 3)

/-- Bit i that the generator of a lane in TEST sends, INJ_ONCE apart: a PRBS from all ones, the square wave, or LNS_TEST_USER, bit 63
first; SSPRQ is a sequence that the spec does not give, a free value (R382, log 3, log 155). -/
def State.testBit (s : State) (l i : Nat) : Bool :=
  let g := s.testGen l
  let p := bits (s.raw .lnsTest l 0) 31 0
  let b :=
    if 1 ≤ g ∧ g ≤ 6 then ((prbsFrom (testTaps g) (i + 1) (List.replicate 31 true)).getLast?).getD false
    else if g = 7 then Config.ssprq i
    else if g = 8 then decide (i % 32 < 16) && decide (i % 2 = 0)
    else decide (g = 9) && bit (s.raw .lnsTestUser l 0) (63 - i % 64)
  b != (decide (p ≠ 0) && decide ((i + 1) % atLeast1 p = 0))

/-- The transmitter of a lane in TEST sends what is selected: with loopback 0x3 the data received, else what the generator makes. Loopback
0x1 and 0x2 return that to the lane's own receiver, which locks to it (R381, R382). -/
def testDrives (l : Nat) (s : State) : State :=
  chkTouch l <|
  if s.testLoop l = 3 then updLane l (fun x => { x with silent := false }) (s.emit (.looped l))
  else
    updLane l (fun x => { x with silent := false, locked := x.locked || decide (s.testLoop l ≠ 0), signal := x.signal || decide (s.testLoop l ≠ 0) })
      (s.emit (.pattern l (s.raw .lnsTest l 0) (s.raw .lnsTestUser l 0)))

/-- The transmitter of a lane in TEST: loopback 0x3 drives it at once, or when its domain is ON, the generator under leave (R381,
R411). -/
def laneTestDrive (l : Nat) (s : State) : State :=
  let s := dropLeave (.laneTest l) s
  if (s.lane l).state ≠ .test then s
  else if s.testLoop l = 3 ∧ s.domainOn (laneDomain l) then testDrives l s
  else if s.testLoop l ≠ 3 ∧ s.testGen l ≠ 0 then askLeave (.laneTest l) 3 8 (updLane l (fun x => { x with silent := true }) s)
  else updLane l (fun x => { x with silent := true }) s

/-- LNS_TEST or LNS_TEST_USER is written on a lane: it takes effect in TEST, under leave where the transmitter was quiet (R382, R385,
R411). -/
def laneTestChanged (l : Nat) (s : State) : State :=
  if (s.lane l).state ≠ .test then s
  else if (s.lane l).silent then laneTestDrive l (chkTouch l s)
  else if s.testLoop l = 3 ∨ s.testGen l ≠ 0 then testDrives l s
  else chkTouch l (updLane l (fun x => { x with silent := true }) s)

/-- What the checker of a lane has counted in this test: bits compared, and errors (R381, R382). -/
def State.testCounts (s : State) (l : Nat) : Nat × Nat :=
  let x := s.lane l
  let (n, e) := x.chkNow s.clk.now
  (x.chkBits + n, x.chkErrs + e)

/-- A lane goes to TEST, unless its clock has not been judged good: it stays OFF then; an ACTIVE one leaves its port. A domain that is OFF begins
its exit (R378, R381, R411). -/
def laneToTest (l : Nat) (s : State) : State :=
  let was := (s.lane l).state
  if !s.clockGood (s.lanePll l) then s
  else
    let s := updLane l (fun x => { x with
      state := .test, since := s.clk.now, leave := false, silent := true, partner := false, readyRun := 0, once := 0, chk := none, chkBits := 0, chkErrs := 0 }) (dropLaneReq l s)
    let s := askExit (laneDomain l) 3 s
    if was = .active then activeLeft l s else s

/-- CMD_LANE_TEST with STOP: training frames, FAST; a lane of an Ethernet port, which has no such state, adapts anew; one that its port does
not use, or whose clock has not been judged good, is OFF (R371, R377, R378). -/
def laneFromTest (l : Nat) (s : State) : State :=
  let s := chkFlush l s
  if !s.laneEnabled l ∨ !s.clockGood (s.lanePll l) then laneOff l s
  else if s.ethPort (lanePort l) then toFull l s else toFast l false s

/-- LNS_EYE_CTRL.START clears DONE; a measurement begins where the receiver is locked (R384). -/
def eyeStart (l : Nat) (s : State) : State :=
  updLane l (fun x => { x with eye := x.locked || x.state.inUse }) (s.setReg .lnsEyeCtrl l 0 (putBits (s.raw .lnsEyeCtrl l 0) 62 62 0))

/-- EYE_MEASURE_DONE (R384). -/
def execEyeMeasureDone (lane : Nat) (snr height width : Nat) (s : State) : Host.Outcome State Fault Refusal :=
  onInstance 512 lane (fun lane => whenFab (fun s =>
    if !(s.lane lane).eye then s
    else
      let s := updLane lane (fun x => { x with eye := false }) s
      let s := s.setReg .lnsEye lane 0 (at_ 48 (snr % 65536) + at_ 16 (height % 65536) + width % 65536)
      s.setReg .lnsEyeCtrl lane 0 (putBits (s.raw .lnsEyeCtrl lane 0) 62 62 1))) s

/-- LNS_TEST.INJ_ONCE: one generated bit is inverted; it takes effect only in TEST (R382). -/
def injectOnce (l : Nat) (s : State) : State :=
  if (s.lane l).state = .test ∧ s.testGen l ≠ 0 then updLane l (fun x => { x with once := x.once + 1 }) (s.emit (.inverted l)) else s

end Sys2Proof.Machine
end

