-- ==== Sys2Proof/Machine/Hif.lean ====
section
/-! DEFINITION. Host ports: links, functions, function resets and their drains, virtual functions, completion timeouts, poisoned
requests (R386-R404, R581). -/

namespace Sys2Proof.Machine

/-- A host port. -/
def State.hport (s : State) (h : Nat) : HostPort := (s.hif.ports[h]?).getD HostPort.reset

/-- A function of a port that the host can reach: its link is up, it is in D0 and not in reset (R386, R403). In D3hot its BARs take
nothing (PRESUMED, log 180). -/
def State.funcUp (s : State) (h fn : Nat) : Bool :=
  (s.hport h).up && (s.func? (256 * h + fn)).elim false (fun f => !f.d3hot) && !s.funcInReset (256 * h + fn)

/-! ### What a function has in progress (R401) -/

/-- Jobs of a function that have not ended. -/
def State.funcJobs (s : State) (mid : Nat) : List Job := s.qmg.jobs.filter (fun j => j.mid = mid && j.phase != .ended)

/-- Remote operations that have passed their check into a function's memory. -/
def State.funcTargets (s : State) (mid : Nat) : List TargetOp :=
  s.rma.targets.filter (fun t => t.mid = mid && t.region.isSome && t.status == stOk)

/-- HIF_FUNC_STATUS.JOBS (R405). -/
def State.funcWork (s : State) (mid : Nat) : Nat := (s.funcJobs mid).length + (s.funcTargets mid).length

/-! ### Regions abandoned in DRAINING (R138, R143) -/

/-- A request of an operation at the target. -/
def ReqFor.ofTarget (k : PeerKey) (psn : Pos) : ReqFor → Bool
  | .target k' p | .atomicRead k' p | .atomicOp k' p _ _ => decide (k' = k) && decide (p = psn)
  | _ => false

/-- Requests of operations that have parts still to go out are not issued any more. -/
def dropUnissued (mine : ReqFor → Bool) (s : State) : State :=
  (s.hif.reqs.filter (fun r => mine r.use && s.unissuedReq r)).foldl
    (fun s r => dropHeldReq r.id { s with hif := { s.hif with reqs := s.hif.reqs.filter (fun x => x.id ≠ r.id) } }) s

/-- Writes into a region that wait for their port are not made any more (R143). -/
def dropHeldInto (i : Nat) (s : State) : State := { s with heldOut := s.heldOut.filter (fun h => !decide (i ∈ h.regions)) }

/-- Abandon a remote operation into a region: its requests that wait for a tag or for their port are not issued, its later packets are
refused, a GET or ATOMIC is answered, one whose first packet is still held is checked again. -/
def abandonTarget (t : TargetOp) (s : State) : State :=
  let s := dropUnissued (ReqFor.ofTarget t.peer t.psn) s
  let isHeld := ((s.peer? t.peer).bind (·.recv)).elim false (fun r => r.held.any (fun p => p.pkt.psn = t.psn))
  if isHeld then dropTarget t.peer t.psn (immFail t stKeyInvalid s)
  else if t.ptype = PType.atomic.code then atomicEnd t.peer t.psn stKeyInvalid 0 s
  else if t.ptype = PType.get.code then sendStatus t.peer t.psn t.pkey t.group stKeyInvalid false (dropTarget t.peer t.psn s)
  else immFail t stKeyInvalid (updTarget t.peer t.psn (fun t => { t with status := stKeyInvalid, answered := false, recv := none }) s)

/-- The message that a receive was taking is abandoned: its later packets are refused (R143). -/
def abandonMessage (jid : Nat) (s : State) : State :=
  let lose := fun (t : TargetOp) => { t with status := stKeyInvalid, answered := false, recv := none }
  { s with rma := { s.rma with targets := updAll (fun t => decide (t.recv = some jid)) lose s.rma.targets } }

/-- Abandon a job with a local buffer in a region (R143): a receive ends, its message's later packets are refused and its rendezvous reads
no more; any other job ends, and a collective gives and takes nothing further. -/
def abandonJob (s : State) (j : Job) : State :=
  if j.recOp = opChorus then
    (if j.phase = .waiting then memberFail j.jid stKeyInvalid s else jobFailed j.jid stKeyInvalid s)
  else
    let s := abandonMessage j.jid s
    let s := { s with
      svc := { s.svc with
        rndvs := updAll (fun r => r.jid = j.jid) (fun r => { r with status := stKeyInvalid, finStatus := if r.finStatus = stOk then stKeyInvalid else r.finStatus, want := 0 }) s.svc.rndvs
        frames := s.svc.frames.filter (fun f => f.1 ≠ j.jid) } }
    let s := copyUnexp j.jid (endJob j.jid stKeyInvalid s)
    (s.svc.rndvs.filter (fun r => r.jid = j.jid)).foldl (fun s r => rndvGo r.peer r.rts s) s

/-- Packets that would be read again from a region, or from the buffer of a job, go out with what they carried before (R143; DESIGN CHOICE,
log 147). -/
def forgetSources (mine : OutPkt → Bool) (s : State) : State :=
  let cut := fun (o : OutPkt) => { o with src := none, again := if o.again = .no then .no else .ready o.pkt.data }
  let half := fun (h : SendHalf) => { h with out := updAll mine cut h.out, queue := updAll mine cut h.queue }
  { s with trn := { s.trn with
      peers := s.trn.peers.map (fun p => { p with send := p.send.map half })
      waiting := s.trn.waiting.map (fun x => (x.1, updAll mine cut x.2)) } }

/-- RMA_DEREG_TMO has passed for an entry in DRAINING: what remains is abandoned, and the entry is FREE (R138, R143). -/
def abandonRegion (i : Nat) (s : State) : State :=
  let s := (s.rma.targets.filter (fun t => t.region == some i && t.status == stOk)).foldl (fun s t => abandonTarget t s) s
  let s := forgetSources (fun o => o.src.elim false (fun c => decide (c.region = some i))) s
  let jobs := s.qmg.jobs.filter (fun j => j.phase != .ended && j.usesRegion i)
  let s := forgetSources (fun o => jobs.any (fun j => o.op == .job j.jid)) s
  let s := jobs.foldl abandonJob s
  freeRegion i (targetsGo (dropHeldInto i s))

/-! ### Function reset (R400) -/

/-- Records of a queue that wait in its CQ are not written: their slots are released (R400). -/
def dropRecords (q : Queue) (s : State) : State :=
  let mine (r : CqRec) : Bool := r.qid == q.qid
  cqWake q.attr.cq (refusalEnd q.attr.cq (updSink q.attr.cq (fun k => { k with
    recWait := k.recWait.filter (fun r => !mine r)
    reserved := k.reserved - (k.recWait.filter mine).length
    slotWait := k.slotWait.filter (fun r => !mine r) }) s))

/-- A queue of a reset function goes to ERROR; what it has not accepted, and records that wait for it, are dropped (R73, R400). One in
DRAINING stays there and still owes its QUEUE_DRAINED event (R73, R583). -/
def resetQueue (q : Queue) (s : State) : State :=
  let s := if q.kind = .sq ∨ q.kind = .srq then dropRecords q s else s
  let s := if q.state = .draining then s else dropDrained q.qid s
  let s := updQueue q.qid (fun q => { q with
    state := if q.state = .draining then .draining else .error
    reset := true
    drainEvt := q.drainEvt && q.state == .draining
    fetch := { q.fetch.discard with running := false, taken := [], held := none, waitGap := false }
    sink := { q.sink with recWait := [], slotWait := [], reserved := q.sink.reserved - q.sink.recWait.length, recHeld := false, evWait := [], armed := none } }) s
  { s with qmg := { s.qmg with heldDb := s.qmg.heldDb.filter (fun d => d.qid ≠ q.qid) } }

/-- Consumer position of any queue (R75, R96). -/
def State.consumer (s : State) (q : Queue) : Pos :=
  match q.kind with
  | .eq => s.eqCi q.qid
  | .cq => q.sink.ci
  | _ => q.ci

/-- The EQ that an event goes to (R96). -/
def State.eqOf (s : State) (b : BoundEvent) : Option Queue := s.queue? (if b.eq ≠ 0 then b.eq else (s.epEvent b.ep).1)

/-- Put an event into its EQ, unless that belongs to a function that is being reset: nothing is written into the memory of one (R400). -/
def eventElsewhere (mids : List Nat) (s : State) (b : BoundEvent) : State :=
  if (s.eqOf b).elim true (fun e => decide (e.attr.mid ∈ mids)) then s else putEvent b s

/-- The events behind the records that a reset drops: those of the functions' CQs, and those of their queues in other CQs (R71). -/
def State.droppedEvents (s : State) (mids : List Nat) : List BoundEvent :=
  let ours := fun (qid : Nat) => (s.queue? qid).elim false (fun q => decide (q.attr.mid ∈ mids))
  s.qmg.queues.flatMap (fun c => (c.sink.recWait ++ c.sink.slotWait).flatMap (fun r =>
    if decide (c.attr.mid ∈ mids) || ours r.qid then r.after else []))

/-- Drop those who wait for walks: a walk that nobody waits for any more ends, and the next of its island begins (R171). -/
def dropWaiters (gone : Waiter → Bool) (s : State) : State :=
  let cut := fun (w : Walk) => { w with waiters := w.waiters.filter (fun x => !gone x), readers := w.readers.filter (fun x => !gone x) }
  let walks := s.xlt.walks.map cut
  let s := { s with xlt := { s.xlt with walks := walks.filter (fun w => !w.all.isEmpty), faulted := s.xlt.faulted.filter (fun x => !gone x) } }
  (walks.filter (fun w => w.all.isEmpty)).foldl (fun s w => walkNext w.host (s.xlt.walks.length + 1) s) s

/-- Functions that are being reset issue only what accepted jobs and checked operations need (R401): their ring reads of which nothing has
gone out, and those who wait for walks of their rings, are dropped; pinned registrations in their address spaces fail (DESIGN CHOICE, log 181). -/
def resetFetches (mids : List Nat) (s : State) : State :=
  let gone (r : HostReq) : Bool := decide (r.live ≤ (s.heldOut.filter (fun h => decide (h.out.reqId = some r.id))).length)
  let ids := (s.hif.reqs.filter (fun r => decide (r.mid ∈ mids) && r.use.isRing && gone r)).map (·.id)
  let s := ids.foldl (fun s id => dropHeldReq id s) { s with hif := { s.hif with reqs := s.hif.reqs.filter (fun r => !decide (r.id ∈ ids)) } }
  let s := { s with qmg := { s.qmg with queues := s.qmg.queues.map (fun q => { q with fetch := { q.fetch with reads := q.fetch.reads.filter (fun r => !decide (r.id ∈ ids)) } }) } }
  let pins := s.xlt.pinned.filter (fun p => (s.asid? p.2.2.1.asid).elim false (fun a => decide (a.mid ∈ mids)))
  let ours := fun (qid : Nat) => (s.queue? qid).elim false (fun q => decide (q.attr.mid ∈ mids))
  let s := dropWaiters (fun w => match w with
    | .ring q _ | .cqRec q | .evRec q => ours q
    | .pin tok => pins.any (fun p => p.1 = tok)
    | _ => false) s
  pins.foldl (fun s p => completeWhere (fun b => decide (b.chan = .ring p.2.1)) csXltFault 0 0 0
    { s with xlt := { s.xlt with pinned := s.xlt.pinned.filter (fun x => x.1 ≠ p.1) } }) s

/-- Records and interrupts of reset functions that wait for their port are not written any more (R400). -/
def dropHeldRecords (mids : List Nat) (s : State) : State :=
  { s with heldOut := s.heldOut.filter (fun h => match h.out with
      | .record _ mid .. => !decide (mid ∈ mids)
      | .msix port fn .. => !decide (256 * port + fn ∈ mids)
      | _ => true) }

/-- A region of a reset function is deregistered (R144). -/
def resetRegions (mid : Nat) (s : State) : State :=
  { s with rma := { s.rma with regions := updAll (fun r => r.mid = mid && r.state == .valid) (fun r => r.leave s.clk.now) s.rma.regions } }

/-- What the reset of some functions does at once (R400). A queue whose bound EQ belongs to another function, or that has none, gets a
QUEUE_ERROR event with cause 0x4 in that EQ, or in the asynchronous EQ of its endpoint (R96). -/
def funcResetNow (mids : List Nat) (s : State) : State :=
  let qs := s.qmg.queues.filter (fun q => decide (q.attr.mid ∈ mids))
  let behind := s.droppedEvents mids
  let s := qs.foldl (fun s q => resetQueue q s) s
  let s := behind.foldl (eventElsewhere mids) s
  let s := qs.foldl (fun s q => eventElsewhere mids s (eventOf q evQueueError 4 (s.consumer q).toNat s)) s
  let s := dropHeldRecords mids (resetFetches mids s)
  let s := mids.foldl (fun s m => resetRegions m s) s
  let s := qs.foldl (fun s q => withdrawRts q.qid s) s
  let s := mids.foldl (fun s m => lockReset m s) s
  qs.foldl (fun s q => memberQueueLost q.qid s) s

/-! ### The drain (R401, R402) -/

/-- Drain limit of a port (HIF_FLR_DRAIN.MS). -/
def State.drainMs (s : State) (h : Nat) : Nat := min 90 (s.fldI .hifFlrDrain h 0 6 0)

/-- A function with its configuration space as after a reset (R401): the sizes and the timeout are those of the Base Specification
(PRESUMED, log 180). -/
def Func.fresh (mid size : Nat) : Func :=
  { mid := mid, msixEnable := false, table := [], msixPending := [], tableSize := size, atomicEn := false, tags10 := false, maxPayload := 128, maxRead := 512, cplTmo := 0, d3hot := false, draining := none }

/-- A function as the host programs it (log 2): payloads of 128 to 512 bytes, reads of 128 to 4,096 (R386). -/
def Func.programmed (f : Func) (c : FuncCfg) : Func :=
  { f with msixEnable := c.msix, table := c.table, atomicEn := c.atomicEn, tags10 := c.tags10, maxPayload := 128 * 2 ^ min 2 c.maxPayload, maxRead := 128 * 2 ^ min 5 c.maxRead, cplTmo := c.cplTmo % 16, d3hot := c.d3hot }

/-- MSI-X table size of the PF from its next reset on (R395). -/
def State.pfVectors (s : State) (h : Nat) : Nat := clamp 1 4096 (s.fldI .hifMsixAlloc h 0 28 16)

/-- Walks in the address spaces of a function end; a retransmission that waited for one goes out with what it carried before (R401, R402,
log 147). -/
def dropWalksOf (mid : Nat) (s : State) : State :=
  let l := s.xlt.walks.filter (fun w => (s.asid? w.asid).elim false (fun a => decide (a.mid = mid)))
  let s := { s with xlt := { s.xlt with walks := s.xlt.walks.filter (fun w => !l.any (fun x => x.id = w.id)) } }
  let s := (l.flatMap Walk.all).foldl (fun s w => match w with
    | .resend k psn => (s.outPkt? k psn).elim s (fun o => rereadFail k o none s)
    | _ => s) s
  l.foldl (fun s w => walkNext w.host (s.xlt.walks.length + 1) s) s

/-- The end of a drain: translations removed, configuration space reset, DRAINING cleared (R186, R401). A VF whose VF Enable is
clear no longer exists; with a PF, neither do the VFs that have drained before it. -/
def drainFinish (mid : Nat) (s : State) : State :=
  let h := midPort mid
  let s := dropWalksOf mid s
  let s := (s.xlt.asids.filter (fun a => a.mid = mid)).foldl
    (fun s a => invalApply { kind := 1, asid := a.asid, base := 0, pages := 0, wc := true } s) s
  if mid % 256 = 0 then
    let n := s.pfVectors h
    updPort h (fun p => { p with
      vfEnable := false
      numVfs := 0
      pfTable := n
      funcs := (updAll (fun f => f.mid = mid) (fun _ => Func.fresh mid n) p.funcs).filter (fun f => f.mid = mid || f.draining.isSome) }) s
  else
    updPort h (fun p => { p with funcs := if p.vfEnable then updAll (fun f => f.mid = mid) (fun _ => Func.fresh mid p.vfTable) p.funcs else p.funcs.filter (fun f => f.mid ≠ mid) }) s

/-- Forget a job of a reset function at the end of its drain: its posted receive, its claim on a stored message and its frame go
with it, what a peer sends into it is abandoned, and a rendezvous answers with its FIN (R143, R402). -/
def endDrained (jid : Nat) (s : State) : State :=
  let s := (s.svc.rndvs.filter (fun r => r.jid = jid)).foldl
    (fun s r => sendFin r.peer r.rts r.pkey r.rtsGroup (if r.finStatus = stOk then stKeyInvalid else r.finStatus) s) (abandonMessage jid s)
  let s := { s with svc := { s.svc with
    ctxs := s.svc.ctxs.map (fun c => { c with posted := c.posted.filter (fun r => r.jid ≠ jid), unexp := c.unexp.filter (fun u => u.claimed ≠ some jid) })
    rndvs := s.svc.rndvs.filter (fun r => r.jid ≠ jid)
    frames := s.svc.frames.filter (fun f => f.1 ≠ jid) } }
  let s := dropUnsent jid (endJob jid stCanceled s)
  (s.svc.ctxs.filter (fun c => c.state == .draining)).foldl (fun s c => ctxDrained c.num s) s

/-- The send halves that carry work of a function: its jobs' packets and the reads of its rendezvous (R402). -/
def State.funcHalves (s : State) (mid : Nat) : List PeerKey :=
  let jobs := (s.funcJobs mid).filter (fun j => j.phase == .sent && senderOp j.recOp)
  let reads := s.svc.rndvs.filter (fun r => !r.reads.isEmpty && (s.job? r.jid).elim false (fun j => j.mid = mid))
  ((jobs.map (·.peer)) ++ (reads.map (·.peer))).eraseDups

/-- The drain ends with work outstanding: requests that wait for a tag or for IDE are not issued, walks end, send halves are abandoned,
operations into the function's memory ended, the end reported (R402). -/
def drainCut (mid : Nat) (s : State) : State :=
  let held := s.hif.reqs.filter (fun r => r.mid = mid && !r.held.isEmpty)
  let s := { s with
    heldOut := s.heldOut.filter (fun h => s.outMid (fun _ => true) h.out ≠ some mid)
    hif := { s.hif with reqs := (s.hif.reqs.filter (fun r => !(r.mid = mid && r.live == 0))).map (fun r => if r.mid = mid then { r with held := [] } else r) } }
  let s := dropWalksOf mid s
  let s := held.foldl (fun s r => match r.use with
    | .resend k psn => rereadLost k psn 0 s
    | _ => s) s
  let s := (s.funcHalves mid).foldl (fun s k => abandon k 0 s) s
  let s := (s.funcJobs mid).foldl (fun s j => endDrained j.jid s) s
  let s := ((s.rma.regions.filter (fun r => r.mid = mid && r.state == .draining))).foldl (fun s r => abandonRegion r.index s) s
  hifErr (midPort mid) 4 (mid % 256) 0 (settleCells s)

/-- HIF_FLR_DRAIN has passed (R401, R402). -/
def drainLimit (mid : Nat) (s : State) : State := drainFinish mid (if s.funcWork mid = 0 then s else drainCut mid s)

/-- Reset functions together, but for those that are draining (R400-R403). `now` says that their drain time is 0. -/
def funcReset (now : Bool) (mids : List Nat) (s : State) : State :=
  let l := mids.filter (fun m => (s.func? m).elim false (·.draining.isNone))
  let s := l.foldl (fun s m => (updFunc m (fun f => { f with draining := some s.clk.now }) s).count (cntHif (midPort m) 2) 1) s
  let s := funcResetNow l s
  l.foldl (fun s m => if now ∨ s.drainMs (midPort m) = 0 then drainLimit m s else s) s

/-- Reset a function and, with a PF, every VF of its port. -/
def resetWithVfs (now : Bool) (mid : Nat) (s : State) : State :=
  funcReset now (if mid % 256 = 0 then (s.hport (midPort mid)).funcs.map (·.mid) else [mid]) s

/-! ### Port reset (R399, R400, R404) -/

/-- Every request of a port fails, those that wait for a tag first (R399, R581). -/
def failRequests (h : Nat) (s : State) : State :=
  let l := s.hif.reqs.filter (fun r => r.port = h)
  (l.filter (fun r => r.live = 0) ++ l.filter (fun r => r.live ≠ 0)).foldl
    (fun s r => if s.hif.reqs.any (fun x => x.id = r.id) then reqDone r .timedOut s else s) s

/-- Snapshots that are skipped (R533). -/
def dumpSkip (n : Nat) (s : State) : State :=
  let s := s.count 7 n
  { s with dump := { s.dump with skipped := min (2 ^ 32 - 1) (s.dump.skipped + n), skippedSince := min (2 ^ 32 - 1) (s.dump.skippedSince + n) } }

/-- The record being written to a port is abandoned: it counts as skipped, and what it carried the next one carries (R533). -/
def dumpAbandon (h : Nat) (s : State) : State :=
  if s.dump.writing.any (fun w => decide (w.1 = h)) then
    dumpSkip 1 { s with dump := { s.dump with writing := none, skippedSince := min (2 ^ 32 - 1) (s.dump.skippedSince + s.dump.carried), carried := 0 } }
  else s

/-- A port reset: its link is down and every function of it is reset (R400). -/
def portReset (h : Nat) (now : Bool) (s : State) : State :=
  let s := updPort h (fun p => { p with up := false, rate := 0, width := 0, reversed := false, ide := false, retraining := false }) s
  let s := dumpAbandon h s
  let s := funcReset now ((s.hport h).funcs.map (·.mid)) s
  let s := endSession h s
  settle (failRequests h { s with
    heldOut := s.heldOut.filter (fun x => !(x.out.hostPort = some h))
    qmg := { s.qmg with stalled := s.qmg.stalled.filter (fun x => x.1 ≠ h) } })

/-- A host link went down by itself: captured, handled as a port reset, and reported: no event of it goes to the port itself, whose
functions are in reset (R400, R404). -/
def hostLinkDown (h : Nat) (s : State) : State :=
  let s := hifErr h 0 0 0 (s.count (cntHif h 1) 1)
  linkTrain h (report .hifLinkDown 0x09 h 0 (portReset h true s))

/-- A configuration request of a host port: before STAGE is RUN for the first time, the port answers it with Request Retry Status and it
has no effect; through a warm reset requests complete normally (R444, R448). -/
def configRequest (port : Nat) (f : State → State) (s : State) : State :=
  let st := s.sys.stage
  if st = .run ∨ st = .warmQuiesce ∨ st = .warmRestore then f s
  else if s.alive ∧ (s.hport port).up then s.emit (.configRetry port) else s

/-- FUNCTION_LEVEL_RESET (R400, R448). -/
def execFunctionLevelReset (port fn : Nat) (s : State) : Host.Outcome State Fault Refusal :=
  onInstance 8 port (fun port => configRequest port (fun s =>
    let (fn, s) := instOf 256 fn s
    if s.alive ∧ (s.hport port).up then settle (resetWithVfs false (256 * port + fn) s) else s)) s

/-- VF_ENABLE_CLEAR (R400, R448). -/
def execVfEnableClear (port : Nat) (s : State) : Host.Outcome State Fault Refusal :=
  onInstance 8 port (fun port => configRequest port (fun s =>
    let p := s.hport port
    if !s.alive ∨ !p.up ∨ !p.vfEnable then s
    else
      let s := updPort port (fun p => { p with vfEnable := false, numVfs := 0 }) s
      settle (funcReset false ((p.funcs.filter (fun f => f.mid % 256 ≠ 0)).map (·.mid)) s))) s

/-- PERST_ASSERT (R400). -/
def execPerstAssert (port : Nat) (s : State) : Host.Outcome State Fault Refusal :=
  onInstance 8 port (fun port s =>
    if !s.alive ∨ (s.hport port).inReset then s
    else updPort port (fun p => { p with inReset := true, training := false }) (portReset port false s)) s

/-- HOT_RESET (R400). -/
def execHotReset (port : Nat) (s : State) : Host.Outcome State Fault Refusal :=
  onInstance 8 port (fun port s =>
    if s.alive ∧ (s.hport port).up then linkTrain port (portReset port false s) else s) s

/-- HIF_LINK_DOWN (R404). -/
def execHifLinkDown (port : Nat) (s : State) : Host.Outcome State Fault Refusal :=
  onInstance 8 port (fun port s => if s.alive ∧ (s.hport port).up then hostLinkDown port s else s) s

/-- FLR_DRAIN_END: nothing of the function is outstanding any more (R401). -/
def execFlrDrainEnd (mid : Nat) (s : State) : Host.Outcome State Fault Refusal :=
  onInstance 2048 mid (fun mid s =>
    if s.alive ∧ (s.func? mid).elim false (·.draining.isSome) ∧ s.funcWork mid = 0 then drainFinish mid s else s) s

/-- FLR_DRAIN_LIMIT: HIF_FLR_DRAIN passes (R402). -/
def execFlrDrainLimit (mid : Nat) (s : State) : Host.Outcome State Fault Refusal :=
  onInstance 2048 mid (fun mid s =>
    match if s.alive then (s.func? mid).bind (·.draining) else none with
    | none => s
    | some t => settle (drainLimit mid (s.advanceTo (t + ms (s.drainMs (midPort mid)))))) s

/-- PERST_DEASSERT: the port leaves reset and trains (R448). -/
def execPerstDeassert (port : Nat) (s : State) : Host.Outcome State Fault Refusal :=
  onInstance 8 port (fun port s =>
    if s.alive ∧ (s.hport port).inReset then linkTrain port (updPort port (fun p => { p with inReset := false }) s) else s) s

/-! ### Training (R386, R388, R404) -/

/-- Speed code of the highest rate trained: 0x6 for 128 GT/s down to 0x3 for 16 GT/s (R405). -/
def State.targetRate (s : State) (h : Nat) : Nat := 6 - s.fldI .hifLinkCtrl h 0 3 2

/-- A link of this rate and width may come up (R386). -/
def linkOk (rate width : Nat) : Bool := decide (3 ≤ rate) && decide (rate ≤ 6) && (width == 4 || width == 8)

/-- HIF_LINK_TRAINED: an attempt ends in L0, or fails and is reported (R386, R388). A rate above TARGET_RATE is not trained. -/
def execHifLinkTrained (port : Nat) (rate width : Nat) (reversed : Bool) (cfg : FuncCfg) (s : State) :
    Host.Outcome State Fault Refusal :=
  onInstance 8 port (fun port s =>
    let p := s.hport port
    if !s.alive ∨ !p.training ∨ p.inReset ∨ p.up ∨ !s.linkEnabled port ∨ s.sys.silenced ∨ !s.clockGood (0x50 + port) then s
    else if !linkOk rate width then
      (if p.retraining then hostLinkDown port s else report .hifLinkDown 0x09 port 0 s)
    else
      let mid := 256 * port
      let pf := (Func.fresh mid p.pfTable).programmed cfg
      let funcs := if p.retraining ∨ p.funcs.any (fun f => f.mid = mid && f.draining.isSome) then p.funcs
        else pf :: p.funcs.filter (fun f => f.mid ≠ mid)
      updPort port (fun p => { p with up := true, training := false, retraining := false, rate := min rate (s.targetRate port), width := width, reversed := reversed, funcs := funcs }) s) s

/-- HIF_LINK_CTRL.RETRAIN: the link leaves L0 and trains again, which is no port reset (R405). -/
def linkRetrain (h : Nat) (s : State) : State :=
  if (s.hport h).up then updPort h (fun p => { p with up := false, rate := 0, width := 0, reversed := false, training := true, retraining := true }) s else s

/-- A change of HIF_LINK_CTRL.ENABLE: cleared, it holds the link down (R404, R405). -/
def linkEnableChanged (h : Nat) (s : State) : State :=
  if s.linkEnabled h then linkTrain h (askExit (hostDomain h) 1 s)
  else
    let s := if (s.hport h).up ∨ (s.hport h).retraining then portReset h true (s.count (cntHif h 1) 1) else s
    hostDomainOff (hostDomain h) (updPort h (fun p => { p with training := false }) s)

/-- VF_ENABLE_SET: the VFs exist from now on, each with the table size of R395; one that still drains takes it when its drain ends
(R448). -/
def execVfEnableSet (port numVfs : Nat) (cfg : FuncCfg) (s : State) : Host.Outcome State Fault Refusal :=
  onInstance 8 port (fun port => configRequest port (fun s =>
    let (numVfs, s) := pickOf (decide (1 ≤ numVfs) && decide (numVfs ≤ 255)) numVfs (fun v => 1 + v % 255) s
    let p := s.hport port
    if !s.alive ∨ !s.funcUp port 0 ∨ p.vfEnable then s
    else
      let size := min (s.fldI .hifMsixAlloc port 0 11 0) ((4096 - p.pfTable) / numVfs)
      let vf (n : Nat) : Func := (Func.fresh (256 * port + n) size).programmed cfg
      let added := ((List.range numVfs).map (fun i => vf (i + 1))).filter (fun f => !p.funcs.any (fun g => g.mid = f.mid))
      updPort port (fun p => { p with vfEnable := true, numVfs := numVfs, vfTable := size, funcs := p.funcs ++ added }) s)) s

/-! ### Failed requests (R399, R581) -/

/-- Completions that arrive while the device runs, halted or not, or while a warm reset still waits for them (R72, R443). -/
def hostStep (f : State → State) (s : State) : State :=
  if s.running ∨ (s.sys.stage = .warmQuiesce ∧ !s.sys.quiesced ∧ s.alive) then settle (f s) else s

/-- The least and the greatest completion timeout of a Completion Timeout Value: the default as R581 gives it, the others as the Base
Specification does (R581; PRESUMED, log 180). A value that it reserves is taken as the default. -/
def cplRange (v : Nat) : Nat × Nat :=
  match v with
  | 1 => (us 50, us 100)
  | 2 => (ms 1, ms 10)
  | 5 => (ms 16, ms 55)
  | 6 => (ms 65, ms 210)
  | 9 => (ms 260, ms 900)
  | 10 => (ms 1000, ms 3500)
  | 13 => (ms 4000, ms 13000)
  | 14 => (ms 17000, ms 64000)
  | _ => (ms 10, ms 20)

/-- The completion timeout range of a request on a port: that of the function of its MID, of the PF for an agent's (R581). -/
def State.cplTmoOf (s : State) (port mid : Nat) : Nat × Nat :=
  cplRange ((s.func? (if midPort mid = port then mid else 256 * port)).elim 0 (·.cplTmo))

/-- The completion timeout range of a request (R581). -/
def State.cplTmo (s : State) (r : HostReq) : Nat × Nat := s.cplTmoOf r.port r.mid

/-- COMPLETION_TIMEOUT: the timeout of a request that has been issued passes, a free value within its range (R581). -/
def execCompletionTimeout (id : Nat) (s : State) : Host.Outcome State Fault Refusal :=
  .next (hostStep (fun s =>
    match s.hif.reqs.find? (fun r => r.id = id && r.live ≠ 0) with
    | none => s
    | some r =>
      let (n, s) := s.drawNat
      let (lo, hi) := s.cplTmo r
      reqDone r .timedOut (s.advanceTo (r.at_ + lo + n % (hi - lo + 1)))) s)

/-- PREFETCH_READ_COMPLETE (R47). -/
def execPrefetchReadComplete (id : Nat) (result : HostResult) (s : State) : Host.Outcome State Fault Refusal :=
  .next (hostStep (complete ReqFor.isRing id result) s)

/-- PAGE_TABLE_READ_COMPLETE (R169). -/
def execPageTableReadComplete (id : Nat) (result : HostResult) (s : State) : Host.Outcome State Fault Refusal :=
  .next (hostStep (complete ReqFor.isWalk id result) s)

/-- AD_UPDATE_CAS_COMPLETE (R172). -/
def execAdUpdateCasComplete (id : Nat) (result : HostResult) (s : State) : Host.Outcome State Fault Refusal :=
  .next (hostStep (complete ReqFor.isCas id result) s)

/-- HOST_ATOMICOP_COMPLETE (R153). -/
def execHostAtomicopComplete (id : Nat) (result : HostResult) (s : State) : Host.Outcome State Fault Refusal :=
  .next (hostStep (complete ReqFor.isAtomic id result) s)

/-- HOST_READ_COMPLETE (R149). -/
def execHostReadComplete (id : Nat) (result : HostResult) (s : State) : Host.Outcome State Fault Refusal :=
  .next (hostStep (complete ReqFor.isRead id result) s)

/-- POISONED_WRITE_RECEIVED: discarded and reported (R399). -/
def execPoisonedWriteReceived (port fn : Nat) (addr : Nat) (s : State) : Host.Outcome State Fault Refusal :=
  onInstance 8 port (fun port s =>
    if s.alive ∧ (s.hport port).up then
      reportPoisoned port addr (hifErr port 2 fn addr (s.count (cntHif port 3) 1))
    else s) s

end Sys2Proof.Machine
end

