-- ==== Sys2Proof/Machine/Clock.lean ====
section
/-! DEFINITION. REFCLK and the monitors of the derived clocks, device time and its exchanges (R429-R439). -/

namespace Sys2Proof.Machine

/-! ### Monitors (R429, R431, R432) -/

/-- Source codes of the clocks that have a monitor (R429, R431). -/
def monitored (src : Nat) : Bool := (decide (2 ≤ src) && decide (src ≤ 8)) || (decide (0x10 ≤ src) && decide (src < 0x58))

/-- The monitored clock that an operand names (log 128). -/
def clockOf (src : Nat) (s : State) : Nat × State :=
  pickOf (monitored src) src (fun v => if v % 79 < 7 then 2 + v % 79 else 9 + v % 79) s

/-- The monitor of a clock. -/
def State.monitor (s : State) (src : Nat) : Monitor :=
  (s.clk.monitors.find? (fun m => m.src = src)).getD { src := src, state := 0, ppm := 0, since := 0 }

def setMonitor (m : Monitor) (s : State) : State :=
  { s with clk := { s.clk with monitors := m :: s.clk.monitors.filter (fun x => x.src ≠ m.src) } }

/-- CLK_MON_CTRL.WINDOW_PPM. -/
def State.windowPpm (s : State) : Nat := max 20 (s.fld .clkMonCtrl 0 15 0)

/-- CLK_MON_CTRL.MEAS_US: the window of a monitor. -/
def State.measWindow (s : State) : Nat := us (max 10 (s.fld .clkMonCtrl 0 31 16))

/-- A clock of a die, which the start-up judges before anything else (R448). -/
def dieClock (src : Nat) : Bool := decide (2 ≤ src) && decide (src ≤ 8)

/-- Every die clock judged good, or judged anew; those of lanes and host ports begin to be judged, but for host ports whose clock has
stayed good (R431, R443, R448). -/
def monitorsStart (dieGood keepHost : Bool) (s : State) : State :=
  let of (src : Nat) (good : Bool) : Monitor := { src := src, state := if good then 2 else 1, ppm := 0, since := s.clk.now }
  let die := (List.range 7).map (fun i => of (2 + i) dieGood)
  let lanes := (List.range 64).map (fun i => of (0x10 + i) false)
  let host := (List.range 8).map (fun h => of (0x50 + h) (keepHost && s.clockGood (0x50 + h)))
  { s with clk := { s.clk with monitors := die ++ lanes ++ host } }

/-- Lanes of a lane-group PLL. -/
def State.pllLanes (s : State) (src : Nat) : List Nat :=
  if src < 0x10 ∨ 0x50 ≤ src then []
  else ((List.range 16).map (fun i => 16 * ((src - 0x10) % 0x20) + i)).filter (fun l => s.lanePll l = src)

/-! ### Clock output (R435) -/

/-- Frequency of a clock in kHz, nominal for the AON oscillator; none for a reserved code, and for a host port's PLL while its link is down,
when the spec gives it no frequency (R429; DESIGN CHOICE, log 159). -/
def State.clockKhz (s : State) (src : Nat) : Option Nat :=
  if src = 0 then some 156250
  else if src = 1 then some 100000
  else if src = 2 ∨ src = 3 then some 1600000
  else if src = 4 ∨ src = 5 then some 2000000
  else if src = 6 then some 1500000
  else if src = 7 then some 4800000
  else if src = 8 then some 1000
  else if 0x10 ≤ src ∧ src < 0x30 then some 113437500
  else if 0x30 ≤ src ∧ src < 0x50 then some 106250000
  else if 0x50 ≤ src ∧ src < 0x58 then
    (match (s.hport (src - 0x50)).rate with
      | 0 => none
      | 6 => some 64000000
      | 5 => some 32000000
      | _ => some 16000000)
  else none

/-- A clock runs and has been judged: REFCLK present, the AON oscillator always, the others judged good and their domain not OFF (R431,
R435). -/
def State.clockRuns (s : State) (src : Nat) : Bool :=
  if src = 0 then s.clk.refOk
  else if src = 1 then true
  else
    decide ((s.monitor src).state = 2)
      && (if 0x10 ≤ src ∧ src < 0x50 then s.domainOn ((src - 0x10) % 0x20 / 2)
          else if 0x50 ≤ src then (s.domain? (hostDomain (src - 0x50))).elim true (fun d => decide (d.state ≠ .off))
          else true)

/-- What CLK_OUT_CTRL puts on CLKOUT: the source code and the divisor; none is a low level (R435). -/
def State.clkSetting (s : State) : Option (Nat × Nat) :=
  let src := s.fld .clkOutCtrl 0 7 0
  let div := s.fld .clkOutCtrl 0 47 32 + 1
  match s.clockKhz src with
  | none => none
  | some f => if s.fld .clkOutCtrl 0 63 63 = 1 && s.clockRuns src && decide (f ≤ 200000 * div) then some (src, div) else none

/-- What CLKOUT carries now: a clock's source code and divisor, with a duty cycle of 50 % for even divisors, or none while it is low
(R435). -/
def State.clkOut (s : State) : Option (Nat × Nat) := if s.clk.now < s.clk.outAt then none else s.clkSetting

/-- A period of an output in 0.1 ns, rounded up. -/
def State.outPeriod (s : State) (o : Nat × Nat) : Nat :=
  (s.clockKhz o.1).elim 0 (fun f => (o.2 * 10000000 + f - 1) / f)

/-- CLK_OUT_CTRL has changed while CLKOUT carried `was`: the output finishes its high phase and stays low for at least two periods of the
old output; how much longer is a free value (R435; log 159). -/
def clkOutChanged (was : Option (Nat × Nat)) (s : State) : State :=
  match was with
  | none => s
  | some o =>
    let (more, s) := s.drawNat
    { s with clk := { s.clk with outAt := s.clk.now + 2 * s.outPeriod o + more } }

/-- A lane whose PLL failed loses lock and is OFF; it cannot acquire until a reset (R371, R378, R432). -/
def pllLost (l : Nat) (s : State) : State :=
  let s := if (s.lane l).state = .off ∧ (s.lane l).leave then laneOff l s else s
  let was := (s.lane l).state
  let s := if was = .active ∧ s.ethPort (lanePort l) then activeLeft l s else if was.inUse then laneLost l true false s else s
  if (s.lane l).state = .off then s else laneOff l s

/-- A host port loses its link, which is a port reset (R400, R432, R433). -/
def hostFall (h : Nat) (s : State) : State :=
  let p := s.hport h
  if p.up ∨ p.retraining then hostLinkDown h s else if p.training then linkTrain h (portReset h true s) else s

/-! ### Device time (R436-R439) -/

/-- CLK_TIME_CTRL.ROLE: 0 FREE, 1 MASTER, 2 FOLLOWER. -/
def State.timeRole (s : State) : Nat := let r := s.fld .clkTimeCtrl 0 1 0; if r = 3 then 0 else r
def State.timeParent (s : State) : Nat := s.fld .clkTimeCtrl 0 14 8
def State.timePeriod (s : State) : Nat := atLeast1 (s.fld .clkTimeCtrl 0 31 16)
def State.timeStep (s : State) : Nat := atLeast1 (s.fld .clkTimeCtrl 0 47 32)
def State.timeSlew (s : State) : Nat := atLeast1 (s.fld .clkTimeCtrl 0 63 56)

def updClk (f : Clk → Clk) (s : State) : State := { s with clk := f s.clk }

/-- The parent port can carry time messages. -/
def State.parentUp (s : State) : Bool := decide ((s.port s.timeParent).state = .up) && !s.ethPort s.timeParent

/-- The words of a time message, bytes 16-63 (R438). -/
def timeWords (kind stratum seq ta tb tc : Nat) (locked : Bool) : List Word :=
  [word (at_ 60 kind + at_ 32 (stratum % 16) + seq % 2 ^ 32), word ta, word tb, word tc, word (at_ 63 (b1 locked)), 0]

/-- Send a time message: a VC7 packet with MTYPE 0x2 to endpoint 0 of the neighbour on a port, whose time of transmission its frame start
writes (R438). -/
def sendTime (port : Nat) (ws : List Word) (s : State) : State :=
  inject { src := .mgmt, pkt := vc7Packet (s.neighbour port) 2 ws s, mcast := none, port := some port } s

/-- TIME_EXCHANGE_PERIOD: a follower sends DELAY_REQ on its parent port (R437, R438). A period whose request is unanswered at its
end counts as one without an answer. -/
def execTimeExchangePeriod (s : State) : Host.Outcome State Fault Refusal :=
  .next (whenFab (fun s =>
    if s.timeRole ≠ 2 then s
    else
      let s := s.advanceTo (s.clk.exchAt + us s.timePeriod)
      let s := updClk (fun c => { c with exchAt := c.now, missed := if c.waiting || !s.parentUp then c.missed + 1 else c.missed, waiting := false }) s
      if !s.parentUp then s
      else
        let q := (s.clk.seq + 1) % 2 ^ 32
        let t := s.dtimeNs
        sendTime s.timeParent (timeWords 1 0 q t 0 0 false) (updClk (fun c => { c with seq := q, reqAt := t, waiting := true }) s)) s)

/-- DELAY_REQ_RECEIVE: answered on its port (R437-R439). -/
def execDelayReqReceive (port : Nat) (seq ta : Nat) (s : State) : Host.Outcome State Fault Refusal :=
  onInstance 128 port (fun port => whenFab (fun s =>
    if (s.port port).state ≠ .up ∨ s.ethPort port then s
    else
      let locked := decide (s.timeRole = 1) || (decide (s.timeRole = 2) && decide (s.clk.tState = 2))
      sendTime port (timeWords 2 s.clk.stratum seq ta s.dtimeNs s.dtimeNs locked) s)) s

/-- Difference of two times as a signed number of ns. -/
def timeDiff (a b : Nat) : Int := (BitVec.ofNat 64 a - BitVec.ofNat 64 b).toInt

/-- Step DTIME by an offset (R439). -/
def timeJump (off : Int) (s : State) : State :=
  updClk (fun c => { c with dtime := (((c.dtime : Int) + off * 65536) % 2 ^ 80).toNat }) s

/-- The slew of an offset: offset / PERIOD_US, clamped (R439). -/
def State.slewOf (s : State) (off : Int) : Int :=
  let w := off * 1000 / (s.timePeriod : Int)
  let m : Int := s.timeSlew
  if w < -m then -m else if m < w then m else w

/-- What an answer does in each time state (R439). -/
def timeAnswer (off : Int) (good : Bool) (s : State) : State :=
  let near := decide (off.natAbs ≤ s.timeStep)
  let n := s.clk.runLength + 1
  match s.clk.tState with
  | 1 =>
    if !good then updClk (fun c => { c with runLength := 0 }) s
    else if !near then timeJump off (updClk (fun c => { c with runLength := 0 }) s)
    else if 4 ≤ n then updClk (fun c => { c with runLength := 0, tState := 2, slew := s.slewOf off }) s
    else updClk (fun c => { c with runLength := n }) s
  | 2 =>
    if !good then updClk (fun c => { c with runLength := 0, tState := 3 }) s
    else if near then updClk (fun c => { c with runLength := 0, slew := s.slewOf off }) s
    else if 4 ≤ n then updClk (fun c => { c with runLength := 0, tState := 1 }) s
    else updClk (fun c => { c with runLength := n }) s
  | 3 =>
    if !good then s
    else if near then updClk (fun c => { c with runLength := 0, tState := 2, slew := s.slewOf off }) s
    else timeJump off (updClk (fun c => { c with runLength := 0, tState := 1 }) s)
  | _ => s

/-- DELAY_RESP_RECEIVE (R439). -/
def execDelayRespReceive (port : Nat) (seq ta tb tc stratum : Nat) (locked : Bool) (s : State) :
    Host.Outcome State Fault Refusal :=
  onInstance 128 port (fun port => whenFab (fun s =>
    if s.timeRole ≠ 2 ∨ port ≠ s.timeParent ∨ !s.clk.waiting ∨ seq ≠ s.clk.seq then s
    else
      let td := s.dtimeNs
      let delay := (timeDiff td ta - timeDiff tc tb) / 2
      let off := (timeDiff tb ta - timeDiff td tc) / 2
      let s := updClk (fun c => { c with waiting := false, missed := 0, delay := delay, offset := off, stratum := min 15 (stratum + 1) }) s
      timeAnswer off (locked && decide (stratum < 15)) s)) s

/-- TIME_HOLDOVER: eight periods without an answer, or the parent port not UP (R439). -/
def execTimeHoldover (s : State) : Host.Outcome State Fault Refusal :=
  .next (whenFab (fun s =>
    if s.timeRole = 2 ∧ s.clk.tState = 2 ∧ (8 ≤ s.clk.missed ∨ !s.parentUp) then
      updClk (fun c => { c with tState := 3, runLength := 0 }) s
    else s) s)

/-- A write of CLK_DTIME_SET in the roles FREE and MASTER (R437). -/
def dtimeSet (v : Nat) (s : State) : State :=
  if s.timeRole = 2 then s else updClk (fun c => { c with dtime := v % 2 ^ 64 * 65536 }) s

/-- A commit that changes ROLE or PARENT_PORT: a follower acquires; in the other roles DTIME runs from REFCLK alone (R437, R439). -/
def timeRoleChanged (s : State) : State :=
  let fol := decide (s.timeRole = 2)
  updClk (fun c => { c with
    tState := if fol then 1 else 0, stratum := if fol then c.stratum else 0, slew := if fol then c.slew else 0
    runLength := 0, missed := 0, waiting := false, exchAt := c.now }) s

end Sys2Proof.Machine
end

