-- ==== Sys2Proof/Machine/Ecc.lean ====
section
/-! DEFINITION. The curve P-384: its group, ECDSA with SHA-384, and ECDH (R487, R488, R490, R491). Numbers are taken from bytes the most
significant first, as the signature standard has them (PRESUMED, log 145). -/

namespace Sys2Proof.Machine

/-- The prime of the field, the order of the group, the coefficient b, and the base point. -/
def ecP : Nat := 2 ^ 384 - 2 ^ 128 - 2 ^ 96 + 2 ^ 32 - 1
def ecN : Nat := 0xffffffffffffffffffffffffffffffffffffffffffffffffc7634d81f4372ddf581a0db248b0a77aecec196accc52973
def ecB : Nat := 0xb3312fa7e23ee7e4988e056be3f82d19181d9c6efe8141120314088f5013875ac656398d8a2ed19d2a85c8edd3ec2aef
def ecG : Nat × Nat :=
  (0xaa87ca22be8b05378eb1c71ef320ad746e1d3b628ba79b9859f741e082542a385502f25dbf55296c3a545e3872760ab7,
    0x3617de4a96262c6f5d9e98bf9292dc29f8f41dbd289a147ce9da3113b5f0b8c00a60b1ce1d7e819d7a431d7c90ea0e5f)

/-- A power modulo m, of an exponent of n bits. -/
def modPow (m : Nat) : Nat → Nat → Nat → Nat
  | 0, _, _ => 1 % m
  | n + 1, b, e =>
    let r := modPow m n (b * b % m) (e / 2)
    if e % 2 = 1 then r * b % m else r

/-- The inverse modulo a prime. -/
def modInv (m a : Nat) : Nat := modPow m 384 (a % m) (m - 2)

/-- A difference modulo m. -/
def modSub (m a b : Nat) : Nat := (a + (m - b % m)) % m

/-- A point of the curve; none is the neutral element. -/
abbrev EcPoint := Option (Nat × Nat)

/-- A pair lies on the curve y² = x³ − 3x + b. -/
def onCurve (p : Nat × Nat) : Bool :=
  decide (p.1 < ecP) && decide (p.2 < ecP) && decide (p.2 * p.2 % ecP = (p.1 ^ 3 + modSub ecP 0 (3 * p.1) + ecB) % ecP)

/-- The sum of two points. -/
def ecAdd : EcPoint → EcPoint → EcPoint
  | none, q => q
  | p, none => p
  | some p, some q =>
    let line (l : Nat) : Nat × Nat :=
      let x := modSub ecP (modSub ecP (l * l) p.1) q.1
      (x, modSub ecP (l * modSub ecP p.1 x) p.2)
    if p.1 = q.1 then
      if (p.2 + q.2) % ecP = 0 then none
      else some (line (modSub ecP (3 * p.1 * p.1) 3 * modInv ecP (2 * p.2) % ecP))
    else some (line (modSub ecP q.2 p.2 * modInv ecP (modSub ecP q.1 p.1) % ecP))

/-- A multiple of a point, by a number of n bits. -/
def ecMul : Nat → Nat → EcPoint → EcPoint
  | 0, _, _ => none
  | n + 1, k, p =>
    let r := ecMul n (k / 2) (ecAdd p p)
    if k % 2 = 1 then ecAdd r p else r

/-- A public key of 96 bytes, X‖Y, when it is a point of the curve. -/
def ecKey (bs : List Byte) : EcPoint :=
  let p := (ofBe (bs.take 48), ofBe ((bs.drop 48).take 48))
  if onCurve p then some p else none

/-- A signature r‖s of 96 bytes verifies under a public key: ECDSA with SHA-384 (R488). -/
def ecdsaOk (key msg sig : List Byte) : Bool :=
  let r := ofBe (sig.take 48)
  let t := ofBe ((sig.drop 48).take 48)
  let w := modInv ecN t
  let u := ofBe (sha384 msg) * w % ecN
  let v := r * w % ecN
  match ecKey key with
  | none => false
  | some q =>
    decide (1 ≤ r) && decide (r < ecN) && decide (1 ≤ t) && decide (t < ecN)
      && (ecAdd (ecMul 384 u (some ecG)) (ecMul 384 v (some q))).elim false (fun p => decide (p.1 % ecN = r))

/-- The secret that a private number and a public key share: the X coordinate, 48 bytes (R491). -/
def ecdh (d : Nat) (key : List Byte) : Option (List Byte) := ((ecKey key).bind (fun q => ecMul 384 d (some q))).map (fun p => beBytes 48 p.1)

end Sys2Proof.Machine
end

