-- ==== Sys2Proof/Machine/Firmware.lean ====
section
/-! DEFINITION. Firmware images and the keys of the device: the header of an image and the six steps of its authentication, and what is
derived from the device-unique key (R487, R488, R490, R491). -/

namespace Sys2Proof.Machine

/-! ### The header of an image (R487) -/

/-- Bytes [a, b] of an image. -/
def imgBytes (im : ImageInfo) (a b : Nat) : List Byte := (im.bytes.drop a).take (b + 1 - a)

/-- Word i of the header. -/
def imgWord (im : ImageInfo) (i : Nat) : Nat := ofBytes (imgBytes im (8 * i) (8 * i + 7))

def imgVersion (im : ImageInfo) : Nat := bits (imgWord im 1) 63 32
def imgSvn (im : ImageInfo) : Nat := bits (imgWord im 1) 31 24
def imgRootSlot (im : ImageInfo) : Nat := bits (imgWord im 1) 23 16
def imgCommitSvn (im : ImageInfo) : Bool := bit (imgWord im 1) 0

/-- The header: 512 bytes. -/
def imgHeader (im : ImageInfo) : List Byte := im.bytes.take 512

/-- The body, the only part executed. -/
def imgBody (im : ImageInfo) : List Byte := im.bytes.drop 512

/-- The header has the format of R487: its magic value and length, a root slot of 0-3, zeros where it has none but zeros, and the length of
the body that follows. -/
def headerFits (im : ImageInfo) : Bool :=
  decide (512 ≤ im.bytes.length) && decide (imgWord im 0 = at_ 32 0x44574631 + 512) && decide (imgRootSlot im ≤ 3)
    && decide (bits (imgWord im 1) 15 1 = 0) && decide (imgWord im 2 = (imgBody im).length) && (imgBytes im 456 511).all (· == 0)

/-- The first of the steps of R488 that an image fails, in their order; 0 for an authentic image. -/
def State.imageStep (s : State) (im : ImageInfo) : Nat :=
  let root := imgBytes im 264 359
  if !headerFits im || bit s.sec.revoke (imgRootSlot im) then 1
  else if sha384 root ≠ (s.sec.rootHash[imgRootSlot im]?).getD [] then 2
  else if !ecdsaOk root (imgBytes im 72 167) (imgBytes im 168 263) then 3
  else if !ecdsaOk (imgBytes im 72 167) (imgBytes im 0 359) (imgBytes im 360 455) then 4
  else if imgSvn im < s.sec.svn then 5
  else if sha384 (imgBody im) ≠ imgBytes im 24 71 then 6
  else 0

/-- An image passes when it is authentic, or when the fuse does not enforce authentication (R488, R504). -/
def imagePasses (im : ImageInfo) (s : State) : Bool := decide (s.imageStep im = 0) || !s.sec.secureBoot

/-! ### Keys derived from the device-unique key (R490, R491) -/

/-- 384 bits derived from the device-unique key under SP 800-108: one block is enough (R490). -/
def dukDerive (n : Nat) : List Byte := hmac384 Config.duk (beBytes 4 1 ++ Config.kdfInput n [])

/-- The private numbers of the identity key and of the wrap key, derived from the device-unique key at each boot (R490). -/
def identityKey : Nat := ofBe (dukDerive 3) % ecN
def wrapKey : Nat := ofBe (dukDerive 4) % ecN

/-- The key that unwraps an owner key: SP 800-56C over what ECDH between the ephemeral key of the blob and the wrap key of the device gives;
none for a key that is no point of the curve (R491). -/
def ownerWrapKey (eph : List Byte) : Option (List Byte) :=
  (ecdh wrapKey eph).map (fun z => (sha384 (beBytes 4 1 ++ z ++ Config.kdfInput 6 [])).take 32)

end Sys2Proof.Machine
end

