-- ==== Sys2Proof/Machine/Locate.lean ====
section
/-! DEFINITION. Which register an offset of the active view names (R13, R539, R541, R542), and what a warm reset leaves of a
stored value (R16). -/

namespace Sys2Proof.Machine

/-- A register in one instance of its block, and the element of its array. -/
structure RegAt where
  reg : Reg
  inst : Nat
  k : Nat
  deriving DecidableEq, Repr

/-- The block whose span holds an offset (R542). -/
def blockAt (off : Nat) : Option Block := allBlocks.find? (fun b => decide (b.map.base ≤ off) && decide (off ≤ b.map.last))

/-- The element of a register at an offset of its instance. -/
def elemAt (d : RegDef) (x : Nat) : Option Nat :=
  if x < d.off then none
  else
    let y := x - d.off
    let i := if d.st1 = 0 then 0 else y / d.st1
    let z := if d.st1 = 0 then y else y % d.st1
    let j := if d.st2 = 0 then 0 else z / d.st2
    let w := if d.st2 = 0 then z else z % d.st2
    let k := i * d.n2 + j
    if w = 0 ∧ i < d.n1 ∧ j < d.n2 ∧ d.lo ≤ k then some k else none

/-- An instance holds a register (R541). -/
def presentIn : Presence → Nat → Bool
  | .all, _ => true
  | .first, i => decide (i = 0)
  | .everyFourth, i => decide (i % 4 = 0)

/-- The first register of a list at an offset of an instance. -/
def findReg (inst x : Nat) : List Reg → Option RegAt
  | [] => none
  | r :: l =>
    match elemAt r.info x with
    | some k => if presentIn r.info.present inst then some { reg := r, inst := inst, k := k } else none
    | none => findReg inst x l

/-- The first register that satisfies p at an offset of the register map, a multiple of 8. -/
def regWhere (p : Reg → Bool) (off : Nat) : Option RegAt :=
  match blockAt off with
  | none => none
  | some b =>
    let x := off - b.map.base
    let i := if b.map.stride = 0 then 0 else x / b.map.stride
    if b.map.insts ≤ i then none
    else findReg i (if b.map.stride = 0 then x else x % b.map.stride) (b.regs.filter p)

/-- The register at an offset of the active view; none where the map is reserved. -/
def regAt (off : Nat) : Option RegAt := regWhere (fun _ => true) off

/-- The register with a shadow copy at an offset of the shadow view (R14). -/
def shadowAt (off : Nat) : Option RegAt := regWhere (·.info.cs) off

/-- Bits [hi:lo] set. -/
def fieldMask (hi lo : Nat) : Nat := 2 ^ (hi + 1) - 2 ^ lo

/-- The bits of a register whose fields satisfy p. -/
def maskWhere (p : FieldDef → Bool) (l : List FieldDef) : Nat :=
  l.foldl (fun m f => if p f then m ||| fieldMask f.hi f.lo else m) 0

/-- The bits that keep their value across a warm reset. -/
def rsMask (r : Reg) : Nat := maskWhere (·.rs) r.info.fields

/-- Replace the bits of a mask. -/
def putMask (m old new : Nat) : Nat := (new &&& m) ||| (old &&& (2 ^ 64 - 1 - m))

/-- What a warm reset leaves of a stored register value (R16). -/
def warmReg (e : Nat × Word) : Option (Nat × Word) :=
  match regAt e.1 with
  | none => none
  | some a =>
    let r := a.reg.reset a.k
    let v := putMask (rsMask a.reg) r e.2.toNat
    if v = r then none else some (e.1, word v)

/-- The register file after a warm reset. -/
def warmRegs (f : RegFile) : RegFile := f.filterMap warmReg

end Sys2Proof.Machine
end

