-- ==== Sys2Proof/Machine/Power.lean ====
section
/-! DEFINITION. The power unit: leave and its grants, domains, activity levels, the budget class and its floors, thermal trip and
rail faults (R406-R427, R573). -/

namespace Sys2Proof.Machine

/-! ### The arbiter (R411-R415) -/

def State.rampRate (s : State) : Nat := clamp 10 200 (s.fld .pwrRampLimit 0 7 0)

/-- BURST in 0.1 mA. -/
def State.rampBurst (s : State) : Nat := 10000 * max 3 (s.fld .pwrRampLimit 0 23 16)

/-- Bring the credit up to now (R412, R425). -/
def refill (s : State) : State :=
  updPwr (fun p => { p with
    credit := min s.rampBurst (p.credit + s.rampRate * (s.clk.now - p.creditAt)), creditAt := s.clk.now }) s

/-- The request that comes before another: lower priority value, then the order of request (R413). -/
def firstOf (a : Option LeaveReq) (r : LeaveReq) : Option LeaveReq :=
  match a with
  | none => some r
  | some q => if r.rank < q.rank then some r else some q

/-- The head of the order: held requests are passed over (R413, R419). -/
def State.leaveHead (s : State) : Option LeaveReq := (s.fab.pwr.reqs.filter (fun r => !s.held r)).foldl firstOf none

/-- Steps granted within the preceding microsecond, in 0.25 A. -/
def State.recentSteps (s : State) : Nat := sumBy (fun g => if s.clk.now < g.1 + us 1 then g.2 else 0) s.fab.pwr.grants

/-- Begin the operation that has leave (R371, R409, R414, R418, R518, R524). -/
def leaveGranted (op : LeaveOp) (s : State) : State :=
  match op with
  | .slice n => raiseLevel (16 + n) s
  | .pair d => raiseLevel d s
  | .exit d => updDomain d (fun x => { x with exiting := some s.clk.now, due := none }) s
  | .lane l =>
    sendTraining l (updLane l (fun x => { x with leave := false, since := s.clk.now, state := if x.state = .off then .full else x.state }) s)
  | .width cc =>
    updPwr (fun p => { p with widths := (p.widths.map (fun w => if w.1 = cc then (cc, w.2 - 1) else w)).filter (fun w => w.2 ≠ 0) }) s
  | .restore code =>
    completeWhere (fun b => b.opcode == 0x3D && decide (b.obj = (11, code, code))) csOk 0 0 0
      (updEngine code (fun e => { e with retired := false }) s)
  | .laneTest l => testDrives l s
  | .memTest ch => { s with mem := { s.mem with testing := some ch } }

/-- Grant one request: its step is taken from the credit (R412, R415). -/
def grantLeave (r : LeaveReq) (s : State) : State :=
  let s := updPwr (fun p => { p with
    reqs := updFirst (fun q => q = r) (fun q => { q with step := 0 }) p.reqs |>.filter (fun q => q.step ≠ 0)
    credit := p.credit - 2500 * r.step
    grants := (s.clk.now, r.step) :: p.grants.filter (fun g => decide (s.clk.now < g.1 + us 1))
    noticeGrant := if p.rampLow.isSome then some s.clk.now else p.noticeGrant
    notice := if p.notice = some r.op then none else p.notice }) s
  leaveGranted r.op s

/-- LEAVE_GRANT: the units whose frame starts, dispatches or waiting demand reached their level ask first; then the head of the order is
granted once its step fits the credit, or the notice that it needs begins (R412-R415). -/
def execLeaveGrant (demand : List Nat) (s : State) : Host.Outcome State Fault Refusal :=
  .next (whenFab (fun s =>
    let s := (s.atLevel ++ demand).foldl (fun s d => askLevel d s) s
    match s.leaveHead with
    | none => s
    | some r =>
      let s := refill s
      let lack := 2500 * r.step - s.fab.pwr.credit
      let s := refill (s.advance ((lack + s.rampRate - 1) / s.rampRate))
      let exceeds := decide (4 * atLeast1 (s.fld .pwrRampLimit 0 39 32) < s.recentSteps + r.step)
      let asked := decide (s.fab.pwr.notice = some r.op)
      if !exceeds && !asked then grantLeave r s
      else
        match s.fab.pwr.rampLow with
        | none => (updPwr (fun p => { p with rampLow := some s.clk.now, notice := some r.op }) s).count 50 1
        | some t => grantLeave r (refill (s.advanceTo (t + ns (s.fld .pwrRampLimit 0 63 48))))) s)

/-- NOTICE_HOLD_EXPIRY: RAMP_N returns high (R415). -/
def execNoticeHoldExpiry (s : State) : Host.Outcome State Fault Refusal :=
  .next (whenFab (fun s =>
    match s.fab.pwr.noticeGrant with
    | none => s
    | some t =>
      if s.fab.pwr.rampLow.isNone ∨ s.fab.pwr.notice.isSome then s
      else
        updPwr (fun p => { p with rampLow := none, noticeGrant := none }) (s.advanceTo (t + us (s.fld .pwrRampLimit 0 47 40)))) s)

/-- When a request counts as priority 0 (R413). -/
def LeaveReq.ageAt (r : LeaveReq) (age : Nat) : Nat := r.at_ + r.heldFor + age

def firstAge (age : Nat) (a : Option LeaveReq) (r : LeaveReq) : Option LeaveReq :=
  match a with
  | none => some r
  | some q => if r.ageAt age < q.ageAt age then some r else some q

/-- ARB_AGE_EXPIRY: the request that first reaches AGE counts as priority 0 (R413). -/
def execArbAgeExpiry (s : State) : Host.Outcome State Fault Refusal :=
  .next (whenFab (fun s =>
    let age := us (atLeast1 (s.fld .pwrArbCtrl 0 15 0))
    match (s.fab.pwr.reqs.filter (fun r => decide (0 < r.rank) && !s.bcaHeld r)).foldl (firstAge age) none with
    | none => s
    | some r =>
      let s := s.advanceTo (r.ageAt age)
      updHolds (updPwr (fun p => { p with reqs := updFirst (fun q => q = r) (fun q => { q with aged := true }) p.reqs }) s)) s)

/-! ### Domains (R406-R409, R414) -/

/-- Typical exit time of a state (R406). -/
def exitTime : DomState → Nat
  | .on => 0 | .gated => ns 20 | .retention => us 2 | .off => us 50

/-- PREDICTOR_EXIT_START: the exit starts so that the domain is ON at T; where T has moved, the predictor chooses again (R408). -/
def execPredictorExitStart (dom : Nat) (s : State) : Host.Outcome State Fault Refusal :=
  .next (whenFab (fun s =>
    match s.domain? dom with
    | none => s
    | some d =>
      match d.due with
      | none => s
      | some t =>
        if d.exiting.isSome ∨ d.state = .on ∨ d.state = .off then s
        else
          let s := s.advanceTo (t - exitTime d.state)
          if s.nextEvent dom ≠ some t ∧ s.fld .pwrPred 0 63 63 = 1 then domainAgain dom s
          else askExit dom 1 (updDomain dom (fun d => { d with due := none }) s)) s)

/-- Loopback 0x3 drives a lane in TEST as soon as its domain is ON (R381, R411). -/
def loopOn (l : Nat) (s : State) : State := if (s.lane l).state = .test ∧ s.testLoop l = 3 then testDrives l s else s

/-- A domain is ON: the operations that wait for it ask for leave, and links of a host port pair that was OFF train (R404, R406, R411,
R414). -/
def domainOnAgain (dom : Nat) (d : Domain) (s : State) : State :=
  let s := updPwr (fun p => { p with domains := p.domains.filter (fun x => x.num ≠ dom) }) s
  let s := d.waiting.foldl (fun s r => enqueueReq { r with at_ := s.clk.now } s) s
  let s := if dom < 16 then (List.range 32).foldl (fun s i => loopOn (32 * dom + i) s) s else s
  if 40 ≤ dom ∧ dom ≤ 43 ∧ d.state = .off then linkTrain (2 * (dom - 40) + 1) (linkTrain (2 * (dom - 40)) s) else s

/-- ACTIVITY_DECAY_EXPIRY: demand has stayed below the rate of the next lower level for ACT_DECAY, and the level falls by one, without
leave (R414). -/
def execActivityDecayExpiry (dom : Nat) (s : State) : Host.Outcome State Fault Refusal :=
  .next (whenFab (fun s =>
    let a := s.activity dom
    if a.level = 0 then s
    else
      let s := s.advanceTo (a.demandAt + us (atLeast1 (s.fld .pwrArbCtrl 0 47 32)))
      setActivity { a with level := a.level - 1, demandAt := s.clk.now } s) s)

/-! ### Floors and the class (R416-R422) -/

/-- BCA_CODE_CHANGE: the first sample after a reset is taken at once, a lower code after DEBOUNCE, a higher one after RELAX (R419,
R426, log 43). -/
def execBcaCodeChange (code : Nat) (s : State) : Host.Outcome State Fault Refusal :=
  .next (whenFab (fun s =>
    let c := code % 8
    let p := s.fab.pwr
    let s := updPwr (fun p => { p with bcaRaw := c }) s
    if p.bcaOk ∧ c = p.bcaCode then s
    else
      let wait := if !p.bcaOk then 0 else if c < p.bcaCode then ns (max 10 (s.fld .pwrBcaCtrl 0 15 0)) else us (atLeast1 (s.fld .pwrBcaCtrl 0 47 32))
      let s := s.advance wait
      let s := if c = p.bcaCode then s else s.setReg .pwrBcaStatus 0 0 (putBits (s.raw .pwrBcaStatus 0 0) 63 63 1)
      reclass (updHolds (updPwr (fun p => { p with bcaCode := c, bcaOk := true }) s))) s)

def State.wattsLimit (s : State) : Nat := atLeast1 (s.fld .pwrBudget 0 11 0)
def State.ampsLimit (s : State) : Nat := atLeast1 (s.fld .pwrBudget 0 25 16)

/-- POWER_FLOOR_STEP: every STEP_US the floor moves with the estimate; since when it exceeds a limit at class 7 is kept (R420, R421). -/
def execPowerFloorStep (watts amps : Nat) (s : State) : Host.Outcome State Fault Refusal :=
  .next (whenFab (fun s =>
    let s := tick 11 (us (atLeast1 (s.fld .pwrBudget 0 55 48))) s
    let w := watts % 4096
    let a := amps % 1024
    let exceeds := decide (s.wattsLimit < w) || decide (s.ampsLimit < a)
    let h := 100 - s.fld .pwrBudget 0 43 40
    let below := decide (w * 100 < s.wattsLimit * h) && decide (a * 100 < s.ampsLimit * h)
    let s := updPwr (fun p => { p with
      estWatts := w, estAmps := a, powerFloor := if exceeds then min 7 (p.powerFloor + 1) else if below then p.powerFloor - 1 else p.powerFloor }) s
    let s := reclass s
    let s := updPwr (fun p => { p with
      violated := p.violated && exceeds
      overAt := if exceeds && decide (p.cls = 7) && !p.violated then some (p.overAt.getD s.clk.now) else none }) s
    updHolds s) s)

/-- PWR_BUDGET_VIOLATION (R421). -/
def execPwrBudgetViolation (s : State) : Host.Outcome State Fault Refusal :=
  .next (whenFab (fun s =>
    match s.fab.pwr.overAt with
    | none => s
    | some t =>
      if s.fab.pwr.cls ≠ 7 then s else
      let s := s.advanceTo (t + ms (atLeast1 (s.fld .pwrBudget 0 63 56)))
      let s := updHolds (updPwr (fun p => { p with overAt := none, violated := true }) s)
      report .pwrBudgetViolation 0x02 0 (at_ 16 s.fab.pwr.estAmps + s.fab.pwr.estWatts) s) s)

/-- The highest reading and the lowest sensor that has it. -/
def hottest : List Int → Int × Nat
  | [] => (0, 0)
  | [x] => (x, 0)
  | x :: y :: l =>
    let (m, i) := hottest (y :: l)
    if m ≤ x then (x, 0) else (m, i + 1)

def State.tj (s : State) : Int × Nat := hottest s.fab.pwr.sensors

/-- The address field of THERM_WARN and THERM_TRIP: Tj in [15:0], sensor in [23:16] (R422). -/
def State.tjField (s : State) : Nat := (s.tj.1 % 65536).toNat + at_ 16 s.tj.2

/-- THERM_FLOOR_STEP, every PWR_THERM.STEP: the readings of the sensors in 1/8 °C; the floor moves with Tj (R422). -/
def execThermFloorStep (sensors : List Int) (s : State) : Host.Outcome State Fault Refusal :=
  .next (whenFab (fun s =>
    let s := tick 12 (us (atLeast1 (s.fld .pwrTherm 0 39 32))) s
    let s := updPwr (fun p => { p with sensors := (sensors ++ p.sensors.drop sensors.length).take 16 }) s
    let t := s.tj.1
    let warn : Int := 8 * clamp 60 110 (s.fld .pwrTherm 0 7 0)
    let low : Int := warn - 8 * s.fld .pwrTherm 0 23 16
    let f := s.thermFloor
    let f := if warn ≤ t then min 7 (f + 1) else if t < low then f - 1 else f
    let s := s.setReg .pwrBudgetClass 0 0 (putBits (s.raw .pwrBudgetClass 0 0) 34 32 f)
    let s := reclass s
    if warn ≤ t ∧ !s.fab.pwr.warned then report .thermWarn 0x02 0 s.tjField (updPwr (fun p => { p with warned := true }) s)
    else if t < low then updPwr (fun p => { p with warned := false }) s
    else s) s)

/-- Every domain but PD47 is OFF and no request stands; the lanes lose their coefficients, the TLBs and walk caches their entries (R410,
R423). -/
def allOff (s : State) : State :=
  let s := updFab (fun f => { f with lanes := f.lanes.map (fun l => { l with coef := false }) }) s
  let s : State := { s with xlt := { s.xlt with tlb := [], wc := [] } }
  updPwr (fun p => { p with
    domains := (List.range 47).map (fun n => { num := n, state := .off, exiting := none, due := none, waiting := [] })
    reqs := [], levels := [], rampLow := none, notice := none, noticeGrant := none }) s

/-- Every transmitter stops (R423, R433, R440, R499). -/
def silenceAll (s : State) : State :=
  ({ s with sys := { s.sys with silenced := true } }).emit .silence

/-- THERM_TRIP: reported, THERMTRIP_N low, transmitters stopped, domains OFF, until a power cycle (R423, R427, R442). -/
def execThermTrip (sensor : Nat) (s : State) : Host.Outcome State Fault Refusal :=
  .next (
    if s.sys.deadbolt ≠ .none ∨ !s.sys.pwrOk then s
    else
      let i := sensor % 16
      let s := updPwr (fun p => { p with sensors := p.sensors.set i (max 920 ((p.sensors[i]?).getD 0)) }) s
      let s := hubTake .thermTrip 0x02 0 s.tjField s
      let s := allEndpoints evDeviceFault (faultLo .thermTrip s.tjField) (faultHi 0x02 0 s.dtimeNs) 0x8B s
      allOff (silenceAll { s with sys := { s.sys with deadbolt := .thermal } }))

/-- PWR_RAIL_FAULT: a C3 fault; its automatic warm reset waits for the rail (R424, R514, R573). The monitors are armed from 100 µs after
PWR_OK rises until it falls, whatever the device does (R571). -/
def execPwrRailFault (rail : Nat) (above : Bool) (s : State) : Host.Outcome State Fault Refusal :=
  onInstance 7 rail (fun rail s =>
    if !s.alive then s else
    let s := s.advanceTo (s.sys.pwrAt + us 100)
    report .pwrRailFault 0x02 0 (rail + at_ 3 (b1 above)) { s with sys := { s.sys with railFault := true } }) s

/-- RAIL_RESTORED: every rail has been back in range for 1 ms (R514, R573). -/
def execRailRestored (s : State) : Host.Outcome State Fault Refusal :=
  .next (
    if !s.alive ∨ !s.sys.railFault then s
    else
      let s := { s with sys := { s.sys with railFault := false } }
      if s.fld .sysCtrl 0 2 2 = 1 then beginWarm 4 s else s)

end Sys2Proof.Machine
end

