-- ==== Sys2Proof/Machine/Qos.lean ====
section
/-! DEFINITION. The scheduling unit's events: the timing wheel, recovery of peer rates, queue sampling (R323-R328, R333). -/

namespace Sys2Proof.Machine

/-- Let time pass until DTIME reads t ns (R436, log 8). -/
def State.advanceDtime (s : State) (t : Nat) : State :=
  let need := t * 65536 - s.clk.dtime
  let rate := 65536 * (1000000 + s.clk.slew).toNat
  if rate = 0 then s else s.advance ((need * 10000000 + rate - 1) / rate)

/-- Release what the wheel held for the peers of an endpoint (R324). -/
def pumpEp (ep : Nat) (s : State) : State :=
  (s.trn.peers.filter (fun p => p.key.ep = ep)).foldl (fun s p => pumpAll p.key s) s

/-- The wheel entry of a queue falls due (R62, R323-R326). -/
def wheelQueue (q : Queue) (s : State) : State :=
  let s := s.advanceDtime q.te
  if q.resid = .resident then domainSleep (engineDomain q.attr.home) (pumpEp q.attr.ep s) else startFetch q.qid (updQueue q.qid (fun q => { q with due := true }) s)

/-- The wheel entry of a peer state falls due. -/
def wheelPeer (k : PeerKey) (p : Peer) (s : State) : State :=
  let s := s.advanceDtime p.eligible
  if p.resident = .resident then pumpAll k s else startPeerFetch k (updPeer k (fun p => { p with due := true }) s)

/-- TIMING_WHEEL_DUE: the entry of queue qid, or with qid 0 that of the peer state k (R323-R326). -/
def execTimingWheelDue (qid : Nat) (k : PeerKey) (s : State) : Host.Outcome State Fault Refusal :=
  .next (epStep (fun s =>
    if qid = 0 then
      match s.peer? k with
      | none => s
      | some p => wheelPeer k p s
    else
      match s.queue? qid with
      | none => s
      | some q => if q.kind = .sq then wheelQueue q s else s) s)

/-- CC_INCREASE_PERIOD: no non-zero CE_COUNT came for INC_PERIOD (R327). -/
def execCcIncreasePeriod (k : PeerKey) (s : State) : Host.Outcome State Fault Refusal :=
  .next (trnStep (fun s =>
    match s.peer? k with
    | none => s
    | some p =>
      if s.fld .qosCcCtrl 0 63 63 = 0 ∨ p.send.isNone then s
      else
        let s := s.advanceTo (p.lastMark.elim 0 (fun t => t + us (atLeast1 (s.fld .qosCcCtrl 0 23 16))))
        updPeer k (fun p => { p with rate := min s.rateMax (p.rate + atLeast1 (s.fld .qosCcCtrl 0 15 0)), lastMark := some s.clk.now }) s) s)

/-- Depth in cells and head delay in ns of a VC queue (R333). -/
def State.depthDelay (s : State) (p v : Nat) : Nat × Nat :=
  let e := s.egress (.port p)
  (sumBy (fun x => if x.pkt.vc = v then cellsOf x.pkt.len else 0) e.q, (e.headOf v).elim 0 (fun x => (s.clk.now - x.since) / 10))

/-- Sample one VC queue: the last sample, the largest ones, the sums (R333). -/
def sampleQueue (p v : Nat) (s : State) : State :=
  let (d, t) := s.depthDelay p v
  let d' := min (2 ^ 18 - 1) d
  let t' := min (2 ^ 32 - 1) t
  let s := ((s.count (cntSample p v 0) d).count (cntSample p v 1) t).count (cntSample p v 2) 1
  let x := (s.fab.samples.find? (fun x => x.port = p && x.vc = v)).getD { port := p, vc := v, depth := 0, delay := 0, maxDepth := 0, maxDelay := 0 }
  let x := { x with depth := d', delay := t', maxDepth := max x.maxDepth d', maxDelay := max x.maxDelay t' }
  let rest := s.fab.samples.filter (fun y => !(y.port = p && y.vc = v))
  updFab (fun f => { f with samples := if d' = 0 ∧ t' = 0 ∧ x.maxDepth = 0 ∧ x.maxDelay = 0 then rest else x :: rest }) s

/-- QUEUE_SAMPLE_PERIOD: every VC queue of every fabric port is sampled, a period after the last time (R333). -/
def execQueueSamplePeriod (s : State) : Host.Outcome State Fault Refusal :=
  .next (whenFab (fun s =>
    if s.fld .qosSampleCtrl 0 63 63 = 0 then s
    else
      let s := tick 10 (ns (max 100 (s.fld .qosSampleCtrl 0 15 0))) s
      (List.range 128).foldl (fun s p => (List.range 8).foldl (fun s v => sampleQueue p v s) s) s) s)

/-- CLR of QOS_QSAMPLE_SEL: the two maxima of the selected queue are 0 (R333). -/
def qsampleClear (p v : Nat) (s : State) : State :=
  updFab (fun f => { f with samples := updAll (fun x => x.port = p && x.vc = v) (fun x => { x with maxDepth := 0, maxDelay := 0 }) f.samples }) s

end Sys2Proof.Machine
end

