-- ==== Sys2Proof/Machine/RegView.lean ====
section
/-! DEFINITION. What a read of a register returns: stored fields, and fields that show the state of a unit (R13-R17, R444, R502,
R528, R539-R547 and the register tables of the chapters). -/

namespace Sys2Proof.Machine

/-- A signed number in a field of n bits. -/
def toField (n : Nat) (i : Int) : Nat := (i % (2 ^ n : Int)).toNat

/-- Bits i of a word for which p holds. -/
def packBits (n : Nat) (p : Nat → Bool) : Nat := sumBy (fun i => at_ i (b1 (p i))) (List.range n)

def QState.code : QState → Nat
  | .active => 1 | .stopped => 2 | .error => 3 | .draining => 4

def Residency.code : Residency → Nat
  | .evicted => 0 | .resident => 1 | .evicting => 2 | .fetching => 3

def GroupState.code : GroupState → Nat
  | .joining => 1 | .active => 2 | .failed => 3 | .leaving => 4

/-- Peer state selected by TRN_PEER_SEL. -/
def State.peerSel (s : State) : Option Peer :=
  let w := s.raw .trnPeerSel 0 0
  s.peer? { ep := bits w 31 29, fa := bits w 26 0, tc := bits w 28 27 }

/-- Operations that hold a keyring entry: those in progress, and the GETs whose responses may have to be read again; where none is left, but
writes still wait for their port, the operation that they are of (R143, R163). -/
def State.inFlight (s : State) (i : Nat) : Nat :=
  max (b1 (s.heldOut.any (fun h => decide (i ∈ h.regions)))) <| (s.rma.targets.filter (fun t => t.region == some i && t.status == stOk)).length
    + (s.qmg.jobs.filter (fun j => j.phase != .ended && j.usesRegion i)).length + (s.resendsFrom i).length

/-- The lock selected by LCK_LOCK_SEL. -/
def State.lockSel (s : State) : Option Lock := s.svc.locks.find? (fun l => l.num = s.fld .lckLockSel 0 13 0)

/-- Times in ns at which an entry of the wheel falls due (R323, R326). -/
def State.wheelDue (s : State) : List Nat :=
  (s.qmg.queues.filterMap (fun q => if q.kind == .sq && decide (s.dtimeNs < q.te) then some q.te else none))
    ++ (s.trn.peers.filterMap (fun p => if p.send.isSome && decide (s.dtimeNs < p.eligible) then some p.eligible else none))

/-- The rate of a lane: 0 113.4375 GBd, 1 106.25, 2 53.125, 3 off (R365). -/
def State.laneRate (s : State) (l : Nat) : Nat :=
  if (s.lane l).state = .off then 3 else s.laneSpeed (lanePort l)

/-- The device is in its evaluated configuration (R502). -/
def State.evaluated (s : State) : Bool :=
  let ctrl := s.raw .secCtrl 0 0
  let audit := s.raw .secAuditCtrl 0 0
  s.sec.secureBoot && decide (s.sec.bootSelCold ≤ 1) && !bit ctrl 1 && bit ctrl 2 && bit ctrl 3
    && (List.range 8).all (fun h => !s.linkEnabled h || bit ctrl (8 + h))
    && bit (s.raw .secDebug 0 0) 0 && !s.sec.debugUnlocked
    && decide (bits audit 4 0 &&& 0x1E = 0x1E) && bit audit 8
    && (List.range 512).all (fun l => !bit (s.raw .lnsFecInj l 0) 63)
    && s.sec.ownerKey
    && [0x05, 0x06, 0x17].all (fun g => (List.range 64).all (fun r => bit (s.rule g r).w0.toNat 59))
    && (!bit (s.raw .cmdFabCtrl 0 0) 63 || s.sec.fabricKey)
    && bit (s.raw .secLock 0 0) 0

/-- The draining function of a port whose drain began earliest (R405). -/
def firstDrain : List Func → Option Func
  | [] => none
  | f :: l =>
    match f.draining, firstDrain l with
    | none, r => r
    | some _, none => some f
    | some a, some g => if g.draining.elim false (fun b => decide (b < a)) then some g else some f

/-- Word i of a gate rule (R479). -/
def ruleWord (r : GateRule) (i : Nat) : Nat :=
  match i with
  | 0 => r.w0.toNat
  | 1 => r.base
  | 2 => r.limit
  | _ => 0

/-- Registers of QMG, MTC, RMA and XLT that show the state of their unit. MTC_CTX_STAT.UNEXPECTED counts an eager message that a receive has
claimed until it has been copied (DESIGN CHOICE, log 197). -/
def viewEndpoint (s : State) (r : Reg) (k raw : Nat) : Nat :=
  match r with
  | .qmgCacheStatus => at_ 32 s.qmg.heldDb.length + at_ 16 (s.qmg.queues.filter (fun q => q.attr.pin)).length
      + (s.qmg.queues.filter (fun q => q.resid == .resident)).length
  | .qmgPondUsed => s.pondUsed k
  | .qmgQstat =>
    match s.queue? (s.fld .qmgQstatSel 0 19 0) with
    | some q => at_ 32 (s.consumer q).toNat + at_ 4 q.resid.code + q.state.code
    | none => 0
  | .mtcUsage => at_ 32 s.unexpBlocks + s.ovflUsed
  | .mtcCtxStat =>
    match s.ctx? (s.fld .mtcCtxSel 0 15 0) with
    | some c => at_ 36 c.posted.length + at_ 8 c.unexp.length + at_ 3 c.home
        + (match c.state with | .active => 1 | .error => 2 | .draining => 3)
    | none => 0
  | .mtcUnitOcc => at_ 32 (s.unitSpilled k) + min (s.unitEntries k) Config.matchEntries
  | .rmaRegionCount => (s.rma.regions.filter (fun x => x.state != .free)).length
  | .rmaKeyStat =>
    let i := s.fld .rmaKeySel 0 23 0
    match s.region? i with
    | some x => at_ 16 (s.inFlight i) + at_ 8 x.variant + (match x.state with | .free => 0 | .valid => 1 | .draining => 2)
    | none => 0
  | .xltInvalStatus => at_ 32 (s.xlt.invalDone % 2 ^ 32) + (s.xlt.invals.filter (·.started)).length
  | .xltAsidStat =>
    match s.asid? (s.fld .xltAsidSel 0 15 0) with
    | some a => at_ 48 a.pkey + at_ 36 a.group + at_ 8 a.host + at_ 4 a.adMode + at_ 1 a.levels + 1
    | none => 0
  | .xltAsidRoot => (s.asid? (s.fld .xltAsidSel 0 15 0)).elim 0 (·.root)
  | _ => raw

/-- Registers of TRN, CHR and LCK that show the state of their unit. -/
def viewTransport (s : State) (r : Reg) (raw : Nat) : Nat :=
  match r with
  | .trnIncarnation => s.sys.bootCount
  | .trnPeerCount => at_ 32 s.trn.peers.length + (s.trn.peers.filter (fun p => p.resident == .resident)).length
  | .trnOpenCount => s.trn.openCount
  | .trnPeerStat =>
    match s.peerSel with
    | none => 0
    | some p =>
      let st := p.send.elim 0 (fun h => match h.state with | .closed => 0 | .opening => 1 | .opened => 2)
      at_ 61 st + at_ 60 (b1 (p.resident == .resident)) + at_ 32 (p.send.elim 0 (·.out.length)) + p.remoteInc.getD 0
  | .trnPeerPsn =>
    match s.peerSel with
    | none => 0
    | some p => at_ 32 (p.send.elim 0 (·.nextPsn.toNat)) + p.recv.elim 0 (·.head.toNat)
  | .chrGroupCount => at_ 32 (s.svc.groups.filter (·.locals.isEmpty)).length + s.svc.groups.length
  | .chrGroupStat =>
    match s.group? (s.fld .chrGroupSel 0 11 0) with
    | none => 0
    | some g => at_ 32 (g.done % 2 ^ 32) + at_ 29 g.state.code + at_ 28 (b1 (!g.locals.isEmpty)) + at_ 27 (b1 (g.isRoot s)) + at_ 24 g.home
        + at_ 16 g.children.length + g.pkey
  | .chrGroupMembers =>
    match s.group? (s.fld .chrGroupSel 0 11 0) with
    | none => 0
    | some g => at_ 32 g.locals.length + g.total
  | .lckCount => at_ 40 (sumBy (·.waiters.length) s.svc.locks) + at_ 20 (s.svc.locks.filter (·.owner.isSome)).length
      + s.svc.locks.length
  | .lckLockStat =>
    match s.lockSel with
    | none => 0
    | some l => at_ 61 (if l.owner.isSome then 2 else 1) + at_ 60 (b1 l.abandoned) + at_ 56 (l.owner.elim 0 (·.prio))
        + at_ 52 ((l.waiters.head?).elim 0 (·.prio)) + at_ 40 (l.owner.elim 0 (·.mid)) + l.owner.elim 0 (·.fa)
  | .lckLockWait =>
    match s.lockSel with
    | none => 0
    | some l => at_ 48 l.pkey + l.waiters.length
  | _ => raw

/-- Registers of RTE, SWC and QOS that show the state of their unit. -/
def viewSwitch (s : State) (r : Reg) (i k raw : Nat) : Nat :=
  let exc := s.fab.exc.find? (fun e => e.slot = k)
  let sel := s.raw .qosQsampleSel 0 0
  let sample := s.fab.samples.find? (fun x => x.port = bits sel 9 3 && x.vc = bits sel 2 0)
  match r with
  | .rtePortUsable => packBits 64 (fun j => s.usable (64 * k + j))
  | .rteExcStatus => putBits raw 44 32 s.fab.exc.length
  | .rteExcMatch => exc.elim 0 (fun e => at_ 32 e.mask + e.value)
  | .rteExcAction => exc.elim 0 (fun e => at_ 63 1 + at_ 8 e.action + at_ 6 e.dim + e.coord)
  | .swcOcc => at_ 32 (s.freeCells i) + s.sharedUsed i
  | .qosWheelStat =>
    let l := s.wheelDue
    at_ 32 (min (2 ^ 32 - 1) l.length) + min (2 ^ 32 - 1) ((least l).elim (2 ^ 32 - 1) (fun t => t - s.dtimeNs))
  | .qosQsample => sample.elim 0 (fun x => at_ 32 (min (2 ^ 32 - 1) x.maxDelay) + x.maxDepth)
  | .qosQsampleLast => sample.elim 0 (fun x => at_ 32 (min (2 ^ 32 - 1) x.delay) + x.depth)
  | .qosPolStat => s.polStat k
  | _ => raw

/-- Registers of LLR, LNS and HIF that show the state of their unit. -/
def viewLink (s : State) (r : Reg) (i k raw : Nat) : Nat :=
  match r with
  | .llrStatus =>
    let p := s.port i
    at_ 61 p.state.code + at_ 58 (mapCount p.map) + at_ 32 (s.outstanding i) + p.windowCells
  | .llrSeq => let p := s.port i; at_ 48 p.next + at_ 32 p.oldest + at_ 16 p.expected
  | .llrCredit =>
    let p := s.port i
    at_ 32 (subMod (2 ^ 24) (nth p.creditIn k) (nth p.consumed k)) + nth p.grantedSent k
  | .lnsStatus =>
    let x := s.lane i
    at_ 60 x.state.code + at_ 59 (b1 x.signal) + at_ 58 (b1 x.locked) + at_ 57 (b1 x.locked) + at_ 56 (b1 x.partner)
      + at_ 55 (b1 x.inverted) + at_ 54 (b1 x.miswire) + at_ 52 (s.laneRate i)
  | .lnsPartner =>
    let p := s.port (lanePort i)
    match p.partner with
    | some (coord, port, _) => if p.locked then at_ 63 1 + at_ 32 coord + at_ 8 p.map + port else 0
    | none => if p.locked then at_ 63 1 + at_ 8 p.map else 0
  | .lnsCoef => putBits raw 0 0 (b1 (s.lane i).coef)
  | .hifLinkStatus =>
    let p := s.hport i
    at_ 63 (b1 p.up) + at_ 60 p.rate + at_ 56 p.width + at_ 55 (b1 p.up) + at_ 54 (b1 p.ide)
      + at_ 53 (b1 p.reversed) + (if p.vfEnable then p.numVfs else 0)
  | .hifFuncStatus =>
    match firstDrain (s.hport i).funcs with
    | none => 0
    | some f => at_ 63 1 + at_ 48 (f.mid % 256) + s.funcWork f.mid
  | _ => raw

/-- Registers of PWR, SYS and CLK that show the state of their unit. -/
def viewSystem (s : State) (r : Reg) (k raw : Nat) : Nat :=
  let p := s.fab.pwr
  let c := s.clk
  match r with
  | .pwrBudgetClass => putBits (putBits (putBits raw 26 24 p.powerFloor) 18 16 s.bcaFloor) 2 0 p.cls
  | .pwrBcaStatus => putBits (putBits (putBits raw 10 8 p.bcaRaw) 3 3 (s.bcaField / 8)) 2 0 p.bcaCode
  | .pwrArbStatus => at_ 63 (b1 p.rampLow.isSome) + at_ 32 p.reqs.length + (refill s).fab.pwr.credit / 2500
  | .pwrTemp => at_ 16 s.tj.2 + toField 16 s.tj.1
  | .pwrEst => at_ 32 p.estAmps + p.estWatts
  | .pwrDomainState => sumBy (fun j => at_ (2 * j) ((s.domain? (32 * k + j)).elim 0 (·.state.code))) (List.range (if k = 0 then 32 else 16))
  | .sysCtrl => putBits (putBits raw 8 8 (b1 s.sys.halt)) 0 0 0
  | .sysStatus => at_ 8 s.sys.error + s.sys.stage.code
  | .sysBootCount => s.sys.bootCount
  | .sysResetCause => at_ 16 s.sys.warmCount + s.sys.resetCause
  | .sysSerial => s.sec.uid
  | .clkStatus => putBits raw 63 63 (b1 c.refOk)
  | .clkMon => let m := s.monitor (s.fld .clkMonSel 0 7 0); at_ 62 m.state + toField 24 m.ppm
  | .clkTimeStatus => at_ 62 c.tState + at_ 56 c.stratum + at_ 32 (toField 24 c.delay) + toField 32 c.offset
  | .clkDtime => s.dtimeNs
  | _ => raw

/-- Registers of CMD, GTE, SEC, FLT and CNT that show the state of their unit. -/
def viewService (s : State) (r : Reg) (k raw : Nat) : Nat :=
  match r with
  | .cmdCi => at_ 32 (s.cmd.begun.length + s.cmd.remote.length) + s.cmdCi.toNat
  | .cmdHingeStatus => putBits (putBits raw 62 60 s.cmd.shadow) 59 59 (b1 s.cmd.bank)
  | .cmdActiveGen => s.cmd.gen
  | .cmdFwStatus => at_ 32 s.sys.runVersion + at_ 2 s.sys.nextSlot + s.sys.running
  | .gteRuleW => ruleWord (s.rule (s.fld .gteRuleSel 0 14 8) (s.fld .gteRuleSel 0 5 0)) k
  | .gteViolPend => packBits 64 (fun j => bit (s.raw .gteViolInfo 0 (64 * k + j)) 63)
  | .secStatus => at_ 63 (b1 s.evaluated) + at_ 62 (b1 s.sec.ownerKey) + at_ 61 (b1 s.sec.fabricKey)
      + at_ 60 (b1 s.sec.debugUnlocked) + at_ 52 s.sec.fails + s.sec.partKeys.length
  | .secFuse => at_ 63 (b1 s.sec.secureBoot) + at_ 59 s.sec.revoke + at_ 52 s.sec.svn + at_ 47 s.sec.tamperCount
  | .secAuditStatus => at_ 48 s.sec.unread.length + at_ 32 s.sec.lost + s.sec.nextSeq
  | .secAuditRec => (s.sec.unread.head?).elim 0 (fun r => auditWord r k)
  | .fltPend => packBits 64 (fun j => decide (64 * k + j ∈ s.pend))
  | .fltRetiredMpe => packBits 64 (fun j => decide (64 * k + j < 0x60) && (s.engine (64 * k + j)).retired)
  | .fltRetired => at_ 32 (packBits 8 (fun n => (s.engine (0x60 + n)).retired)) + packBits 32 (fun c => decide (c / 2 ∈ s.mem.retiredPairs))
  | .fltMigrate => s.mem.migrating.elim 0 (fun m => at_ 63 1 + at_ 32 m.1 + Config.linesLeft s.clk.now % (s.mem.remaining + 1))
  | .cntDumpStatus => at_ 32 s.dump.nextSeq + s.dump.skipped
  | .cntRead => let i := s.fld .cntReadSel 0 13 0; if i < 11264 then s.counterWord i else 0
  | .cntSamplePi => s.dump.sPi.toNat
  | .cntSampleCi => s.dump.sCi.toNat
  | _ => raw

/-- The value of a register as it stands, through the unit that holds it. -/
def State.regNow (s : State) (a : RegAt) : Nat :=
  match counterIndexOf a.reg a.inst with
  | some i => s.counterWord i
  | none =>
    let raw := s.raw a.reg a.inst a.k
    match a.reg.info.block with
    | .qmg | .mtc | .rma | .xlt => viewEndpoint s a.reg a.k raw
    | .trn | .chr | .lck => viewTransport s a.reg raw
    | .rte | .swc | .qos => viewSwitch s a.reg a.inst a.k raw
    | .llr | .lns | .hif => viewLink s a.reg a.inst a.k raw
    | .pwr | .sys | .clk => viewSystem s a.reg a.k raw
    | .cmd | .gte | .sec | .flt | .cnt => viewService s a.reg a.k raw
    | .eng | .mem => raw

/-- Bits that a read shows: those of fields that are not write-only (R15, R17). -/
def readMask (r : Reg) : Nat := maskWhere (fun f => f.acc ≠ .wo) r.info.fields

/-- What a read at an offset of the register map returns, the gates apart: the active view, then the shadow view; 0 where the map is reserved, and
0 but for SYS_STATUS during a warm reset (R14, R17, R444, R539). -/
def State.readReg (s : State) (off : Nat) : Nat :=
  if (s.sys.stage = .warmQuiesce ∨ s.sys.stage = .warmRestore) ∧ off ≠ regAddr .sysStatus 0 0 then 0
  else if off < 0x8000000 then (regAt off).elim 0 (fun a => s.regNow a &&& readMask a.reg)
  else (shadowAt (off - 0x8000000)).elim 0 (fun a => s.shadowRaw a.reg a.inst a.k &&& readMask a.reg)

/-- The gate of the register block at an offset of BAR0, and the offset it checks: shadow-view accesses use the active-view offset (R478). -/
def blockGate (off : Nat) : Option (Nat × Nat) := (blockAt (off % 0x8000000)).map (fun b => (b.code, off % 0x8000000 - b.map.base))

/-- A gate refuses an 8-byte read of BAR0 by a function (R478, R481). -/
def State.readRefused (s : State) (port fn off : Nat) : Bool :=
  (blockGate off).elim false (fun g => (s.gateRefuses g.1 g.2 8 { mid := 256 * port + fn, pkey := none, write := false }).isSome)

/-- What an 8-byte read of BAR0 by a function returns: a PF sees the register views, a VF its two identity words, a function in reset 0, and
a read that a gate refuses returns 0 (R391, R392, R403, R485). A port that waits for IDE completes it with Unsupported Request: none
(R495). -/
def State.readBar0 (s : State) (port fn off : Nat) : Option Nat :=
  if s.ideHolds port then none
  else if !s.funcUp port fn then some 0
  else if fn = 0 then some (if s.readRefused port fn off then 0 else s.readReg off)
  else if off = 0 then some (s.regNow ⟨.sysId, 0, 0⟩)
  else if off = 8 then some (at_ 24 (bits (s.regNow ⟨.sysRev, 0, 0⟩) 31 24) + at_ 16 port + (256 * port + fn))
  else some 0

/-- A read of BAR0: what it returns, and the capture of one that a gate refuses (R484, R485). The opcode table has no row for a read, so no
row calls this (log 3). -/
def bar0Read (port fn off : Nat) (s : State) : Option Nat × State :=
  let v := s.readBar0 port fn off
  if v.isSome && s.funcUp port fn && decide (fn = 0) then
    (v, (blockGate off).elim s (fun g => (gateCheck g.1 g.2 8 0 (256 * port + fn) none s).2))
  else (v, s)

/-- What a read of BAR2 returns (R393, R495). -/
def State.readBar2 (s : State) (port _fn _off : Nat) : Option Nat := if s.ideHolds port then none else some 0

/-- Word i of an MSI-X table entry: the message address, then the message data and the mask (R391; layout of the Base Specification,
PRESUMED, log 180). -/
def msixWord (e : MsixEntry) (i : Nat) : Nat := if i = 0 then e.addr else at_ 32 (b1 e.masked) + e.data

/-- The word at an offset of the MSI-X table of a function's BAR4 (R391). -/
def State.readMsix (s : State) (port fn off : Nat) : Nat :=
  if !s.funcUp port fn then 0
  else (s.func? (256 * port + fn)).elim 0 (fun f => if off / 16 < f.tableSize then msixWord (f.entry (off / 16)) (off / 8 % 2) else 0)

/-- The word at an offset of the PBA of a function's BAR4: a bit per vector (R391, R394). -/
def State.readPba (s : State) (port fn off : Nat) : Nat :=
  if !s.funcUp port fn then 0
  else (s.func? (256 * port + fn)).elim 0 (fun f => packBits 64 (fun j => decide (8 * off + j ∈ f.msixPending)))

/-- What a read of a word of BAR4 returns: the table at offset 0, the PBA at offset 0x1_0000; none, Unsupported Request, at a port that waits
for IDE (R391, R495). -/
def State.readBar4 (s : State) (port fn off : Nat) : Option Nat :=
  if s.ideHolds port then none
  else some (if off < 0x10000 then s.readMsix port fn off else s.readPba port fn ((off - 0x10000) / 8 * 8))

/-! ### Test access under IEEE 1149.1 and IEEE 1687 (R476, R499, R500, R514) -/

/-- MID of test access (R476). -/
def testMid : Nat := 0x8B0

/-- Instructions of IEEE 1149.1 that drive the pins are accepted (R500). -/
def State.pinDriveOpen (s : State) : Bool := !s.sys.resetN || decide (s.sys.bootSel = 3)

/-- Registers of the read-only instrument that debug locking does not close: the audit log and the first fault (R499, R514). -/
def instrumentReg (r : Reg) : Bool := r == .secAuditStatus || r == .secAuditRec || r == .fltFirstLo || r == .fltFirstHi

/-- What test access reads at an offset of the register map (R499, R500, R514): the read-only instrument at any moment, a deadbolt among
them, every other register after a debug unlock, as the gates let MID 0x8B0; none where the instrument is closed. -/
def State.testRead (s : State) (off : Nat) : Option Nat :=
  match regAt off with
  | none => none
  | some a =>
    if instrumentReg a.reg then some (s.regNow a &&& readMask a.reg)
    else if !s.sec.debugUnlocked ∨ s.sys.deadbolt ≠ .none then none
    else some (if (blockGate off).elim false (fun g => (s.gateRefuses g.1 g.2 8 { mid := testMid, pkey := none, write := false }).isSome)
      then 0 else s.readReg off)

end Sys2Proof.Machine
end

