-- ==== Sys2Proof/Machine/Sec.lean ====
section
/-! DEFINITION. Debug unlock, the tamper response, key integrity and SPDM (R493-R496, R499, R500). The verdicts of cryptographic
checks are operands (log 2). -/

namespace Sys2Proof.Machine

/-- The key store is zeroized: partition keys and the fabric key; the owner key stays sealed in flash (R490, R499, R500). Keys that were held
are recorded as zeroized, in one record of kind 0xA (R497; DESIGN CHOICE for its DETAIL, log 211). -/
def zeroizeStore (mid : Nat) (s : State) : State :=
  let held := !s.sec.partKeys.isEmpty || s.sec.fabricKey
  let s : State := { s with sec := { s.sec with
    partKeys := [], fabricKey := false, keyBits := s.sec.keyBits.filter (fun k => k.1 = ownerKeyNum) } }
  if held then audit 0x0012 mid (at_ 52 0xA) s else s

/-- SEC_LOCK.SET. -/
def State.secLocked (s : State) : Bool := s.fld .secLock 0 0 0 = 1

/-- A debug unlock must be refused: locked, eight refusals in a row, or an owner key whose response is wrong (R500). -/
def State.debugRefused (s : State) (ok : Bool) : Bool :=
  (s.secLocked && decide (s.fld .secDebug 0 0 0 = 1)) || s.sec.unlockShut || (s.sec.ownerKey && !ok)

/-- DEBUG_UNLOCK: `ok` says that the response verifies under the owner key's challenge (R500). -/
def execDebugUnlock (ok : Bool) (s : State) : Host.Outcome State Fault Refusal :=
  .next (
    if s.sys.deadbolt ≠ .none ∨ !s.sys.pwrOk then s
    else if s.debugRefused ok then
      let n := min 255 (s.sec.fails + 1)
      audit 0x0022 0 n { s with sec := { s.sec with fails := n, unlockShut := s.sec.unlockShut || decide (8 ≤ n) } }
    else
      let n := s.sec.fails
      let s := zeroizeStore 0 s
      audit 0x0021 0 n { s with sec := { s.sec with debugUnlocked := true, fails := 0 } })

/-- The hardware's response to tampering or a key integrity failure (R499). `fuse`: a TAMPER_COUNT fuse is blown too. -/
def secResponse (k : FKind) (source : Nat) (fuse : Bool) (s : State) : State :=
  if s.sys.deadbolt ≠ .none ∨ !s.sys.pwrOk then s
  else
    let s := hubTake k 0x06 0 source s
    let s := allEndpoints evDeviceFault (faultLo k source) (faultHi 0x06 0 s.dtimeNs) k.code s
    let s := audit 0x0050 0 source (zeroizeStore 0 s)
    let s := { s with sys := { s.sys with deadbolt := .tamper, faultNForced := true } }
    let s := if fuse then { s with sec := { s.sec with tamperCount := min 16 (s.sec.tamperCount + 1) } } else s
    allOff (silenceAll s)

/-- SEC_TAMPER: cause 1 the pin, which counts while TAMPER_EN is 1, or 2 the voltage detector, which is
armed 100 µs after PWR_OK rises (R499, R571). -/
def execSecTamper (cause : Nat) (s : State) : Host.Outcome State Fault Refusal :=
  let (cause, s) := pickOf (cause == 1 || cause == 2) cause (fun v => 1 + v % 2) s
  .next (if cause = 1 ∧ s.fld .secCtrl 0 2 2 = 0 then s
    else secResponse .secTamper cause true (if cause = 2 ∧ s.alive then s.advanceTo (s.sys.pwrAt + us 100) else s))

/-- SEC_KEY_INTEGRITY: cause 1 a check value, 2 a self-test, 3 the entropy source (R493, R499). -/
def execSecKeyIntegrity (cause : Nat) (s : State) : Host.Outcome State Fault Refusal :=
  let (cause, s) := pickOf (decide (1 ≤ cause) && decide (cause ≤ 3)) cause (fun v => 1 + v % 3) s
  .next (secResponse .secKeyIntegrity cause false s)

/-- Several free words (log 3). -/
def freeWords : Nat → State → List Word × State
  | 0, s => ([], s)
  | n + 1, s =>
    let (w, s) := s.drawWord
    let (ws, s) := freeWords n s
    (w :: ws, s)

/-- What the SPDM error response carries as its kind (DSP0274, log 52). -/
def spdmError : Nat := 0x7F

/-- SPDM_REQUEST on a DOE or MCTP channel: 0 certificate, 1 challenge, 2-4 measurement of index 1-3, 5 and 6 a secured session
begins and ends, 7 and 8 IDE_KM starts and stops the stream of the channel's port within a session (R398, R494, R495). `ok`: the
message is valid and its checks pass. -/
def spdmAnswer (chan req : Nat) (ok : Bool) (s : State) : State :=
  let session := decide (chan ∈ s.sec.sessions)
  let no := s.emit (.spdm chan spdmError [])
  if !ok then no
  else if req = 0 then s.emit (.spdm chan req Config.certificate)
  else if req = 1 then
    let (ws, s) := freeWords 6 s
    s.emit (.spdm chan req ws)
  else if req = 2 then s.emit (.spdm chan req (wordsOf 6 Config.romDigest))
  else if req = 3 then s.emit (.spdm chan req (wordsOf 6 (sha384 s.sys.runHeader)))
  else if req = 4 then
    s.emit (.spdm chan req [word (s.regNow ⟨.secStatus, 0, 0⟩), word (s.regNow ⟨.secCtrl, 0, 0⟩)])
  else if req = 5 then
    if session then no
    else
      let s := audit 0x0070 0 chan { s with sec := { s.sec with sessions := chan :: s.sec.sessions } }
      s.emit (.spdm chan req [])
  else if req = 6 then
    if session then (endSession chan s).emit (.spdm chan req []) else no
  else if (req = 7 ∨ req = 8) ∧ session ∧ (s.hif.ports[chan]?).elim false (·.up) then
    let s := updPort chan (fun (p : HostPort) => { p with ide := decide (req = 7) }) s
    (portsRelease s).emit (.spdm chan req [])
  else no

def execSpdmRequest (chan req : Nat) (ok : Bool) (s : State) : Host.Outcome State Fault Refusal :=
  let (chan, s) := pickOf (decide (chan < 8) || chan == 0xFF) chan (fun v => if v % 9 = 8 then 0xFF else v % 9) s
  .next (whenRunning (spdmAnswer chan req ok) s)

end Sys2Proof.Machine
end

