-- ==== Sys2Proof/Machine/Boot.lean ====
section
/-! DEFINITION. Resets and start-up: cold reset, cold start, the warm reset sequence and the resumption of the endpoint side, and the
end of RETIRING (R16, R60, R61, R252, R440-R448, R466, R471, R472, R487-R489, R528). -/

namespace Sys2Proof.Machine

/-! ### Cold reset (R440-R442) -/

/-- The state after a power-on or cold reset: reset values, but for flash, fuses and pins (R16, R441). -/
def coldState (cause : Nat) (s : State) : State :=
  ({ State.reset with
      pending := s.pending
      out := s.out
      freeCtr := s.freeCtr
      clk := { Clk.reset with now := s.clk.now }
      sys := { Sys.reset with resetCause := cause, flashCount := s.sys.flashCount, slots := s.sys.slots, pwrOk := s.sys.pwrOk, pwrAt := s.sys.pwrAt, bootSel := s.sys.bootSel }
      sec := { Sec.reset with ownerKey := s.sec.ownerKey, keyBits := s.sec.keyBits.filter (fun k => k.1 = ownerKeyNum), svn := s.sec.svn, revoke := s.sec.revoke, rootHash := s.sec.rootHash, tamperCount := s.sec.tamperCount, secureBoot := s.sec.secureBoot, uid := s.sec.uid }
      hif := { Hif.reset with ports := s.hif.ports.map (fun (p : HostPort) => { HostPort.reset with inReset := p.inReset }) } }).emit .silence

/-- POWER_ON_RESET: PWR_OK rises; it alone ends a deadbolt (R423, R440, R499). -/
def execPowerOnReset (s : State) : Host.Outcome State Fault Refusal :=
  let t := coldState 0 s
  .next { t with sys := { t.sys with pwrOk := true, pwrAt := s.clk.now }, hif := Hif.reset }

/-- COLD_RESET: RESET_N low, or PWR_OK falling when `pwrOk` is false (R440, R442). A deadbolt takes precedence. -/
def execColdReset (pwrOk : Bool) (s : State) : Host.Outcome State Fault Refusal :=
  .next (
    if !s.sys.pwrOk then s
    else if s.sys.deadbolt ≠ .none then { s with sys := { s.sys with pwrOk := pwrOk } }
    else
      let t := coldState 1 s
      { t with sys := { t.sys with pwrOk := pwrOk } })

/-! ### Cold start (R446-R448, R487-R489) -/

def setStage (g : Stage) (s : State) : State := { s with sys := { s.sys with stage := g } }

/-- A boot error stops the sequence and holds FAULT_N low (R448). -/
def bootError (code : Nat) (s : State) : State :=
  { s with sys := { s.sys with stage := .error, error := code, faultNForced := true } }

/-- Domains without an enabled port or cluster are OFF when the device starts (R407, log 42). -/
def domainsStart (s : State) : State :=
  let s := (List.range 4).foldl (fun s i => chorusDomainOff (36 + i) (hostDomainOff (40 + i) s)) s
  (List.range 16).foldl (fun s d =>
    if (List.range 8).any (fun i => s.portEnabled (8 * d + i)) then s else laneDomainOff d s) s

/-- Full acquisition of the lanes of enabled ports begins (R353, R443, R448). -/
def portsAcquire (s : State) : State :=
  let s := domainsStart { s with sys := { s.sys with acqAt := s.clk.now } }
  (List.range 128).foldl (fun s n => portEnable n s) s

/-- The end of a boot: the boot counter, then device memory, then RUN (R446, R448). -/
def bootEnd (counterOk hbmOk : Bool) (s : State) : State :=
  if !counterOk then bootError 0x05 (setStage .counter s)
  else
    let n := (s.sys.flashCount + 1) % 2 ^ 32
    let s := { s with sys := { s.sys with flashCount := n, bootCount := n } }
    if !hbmOk then bootError 0x06 (setStage .memory s) else portsAcquire (setStage .run s)

/-- An image passes: it is what runs (R488, R497). -/
def bootImage (slot : Nat) (im : ImageInfo) (counterOk hbmOk : Bool) (s : State) : State :=
  let s := audit 0x0001 0 (imgVersion im) s
  bootEnd counterOk hbmOk { s with sys := { s.sys with running := slot, runVersion := imgVersion im, runHeader := imgHeader im } }

/-- No image is authentic: SEC_FW_AUTH_FAIL with the failed step and the slot (R488). -/
def bootNoImage (slot step : Nat) (s : State) : State := bootError 0x04 (report .secFwAuthFail 0x06 0 (step % 16 + 16 * (slot % 16)) s)

/-- The slots are tried in order (R488). -/
def bootSlots (b : Boot) : List (Nat × ImageInfo) → State → State
  | [], s => s
  | (slot, im) :: rest, s =>
    if imagePasses im s then bootImage slot im b.counterOk b.hbmOk s
    else
      let step := s.imageStep im
      let s := audit 0x0002 0 (imgVersion im + at_ 32 step) s
      if rest.isEmpty then bootNoImage slot step s else bootSlots b rest s

/-- The PLLs are judged good: the islands are released, host ports train, and the firmware image is loaded; under BOOT_SEL 0b10 it is
awaited over MCTP, and under 0b11 the boot stays here (R431, R447, R448). A known-answer test that fails is a failed self-test (R489,
R493). A boot that REFCLK's loss held goes on as one that was not
(DESIGN CHOICE, log 207). -/
def bootLoad (first : Nat) (b : Boot) (s : State) : State :=
  let sel := b.sel % 4
  let s := { s with sys := { s.sys with silenced := false, halt := false } }
  let s := (List.range 8).foldl (fun s h => linkTrain h s) (setStage .clocks s)
  if sel = 3 then s
  else
    let s := setStage .fwLoad s
    if !b.katOk then secResponse .secKeyIntegrity 2 false s
    else if sel = 2 then { s with sys := { s.sys with mctpImage := 0, mctpBytes := [] } }
    else if !b.flashOk then bootError 0x03 s
    else
      let l := [(0, b.image0), (1, b.image1)]
      bootSlots b (if first = 1 then l.reverse else l) { s with sys := { s.sys with slots := [b.image0, b.image1] } }

/-- REFCLK is lost: every transmitter stops and the host links fall, so that each host port undergoes a port reset (R433). -/
def refSilence (s : State) : State := (List.range 8).foldl (fun s h => hostFall h s) (silenceAll s)

/-- REFCLK is lost in a boot: the sequence is held, and starts again from clock judging (R433, R442). -/
def bootHold (s : State) : State :=
  let s := refSilence (report .clkRefLost 0x01 0 0 s)
  setStage .rom { s with clk := { s.clk with refOk := false, monitors := [] } }

/-- The start-up from RESET_N rising, the slot `first` tried first (R442, R447, R448). -/
def coldBegin (first : Nat) (b : Boot) (s : State) : State :=
  let sel := b.sel % 4
  let s := { s with
    clk := { s.clk with refOk := b.refOk, refAt := s.clk.now }
    sys := { s.sys with resetN := true, bootSel := sel, stage := .rom, boot := some (first, b) }
    sec := { s.sec with bootSelCold := sel } }
  if !b.refOk then bootError 0x01 s
  else if b.refLost then bootHold s
  else if !b.clocksOk then bootError 0x02 (setStage .clocks s)
  else bootLoad first b (monitorsStart true false s)

/-- COLD_START: RESET_N rises (R446-R448). -/
def execColdStart (b : Boot) (s : State) : Host.Outcome State Fault Refusal :=
  .next (if !s.sys.pwrOk ∨ s.sys.resetN ∨ s.sys.deadbolt ≠ .none then s else coldBegin (if b.sel % 4 = 1 then 1 else 0) b s)

/-- MCTP_FIRMWARE_IMAGE: under BOOT_SEL 0b10 the image comes in order, up to 1,024 bytes a message (R447, R488). It is the bytes of the
messages; nothing else is looked at. -/
def execMctpFirmwareImage (seq : Nat) (bytes : List Byte) (final : Bool) (_ : ImageInfo) (s : State) : Host.Outcome State Fault Refusal :=
  .next (
    if !s.alive ∨ !s.clk.refOk ∨ s.sys.stage ≠ .fwLoad ∨ s.sys.bootSel ≠ 2 ∨ seq ≠ s.sys.mctpImage ∨ 1024 < bytes.length then s
    else
      let s := { s with sys := { s.sys with mctpImage := (seq + 1) % 256, mctpBytes := s.sys.mctpBytes ++ bytes } }
      let image : ImageInfo := { bytes := s.sys.mctpBytes }
      if !final then s
      else if imagePasses image s then
        bootImage 0 image (s.sys.boot.elim true (fun b => b.2.counterOk)) (s.sys.boot.elim true (fun b => b.2.hbmOk)) s
      else bootNoImage 0 (s.imageStep image) (audit 0x0002 0 (imgVersion image + at_ 32 (s.imageStep image)) s))

/-! ### Warm reset: what is lost (R441, R443) -/

/-- A queue's prefetch starts again at its consumer position, with nothing taken and no run (R445). -/
def Queue.refetch (q : Queue) : Queue :=
  { q with fetch := { q.fetch with known := q.ci, pos := q.ci, running := false, misses := 0, reads := [], single := false, waitGap := false, held := none, taken := [] } }

/-- A job whose local data was on its way translates and reads it again, since every cache is empty; one whose frame waited at a service
port sends it again (R165, R445). -/
def Job.refetch (lost : List Nat) (j : Job) : Job :=
  let fresh := xStart (j.frags.map (fun f => (f.addr, f.len)))
  let again := { j with phase := .xlate, xp := fresh, todo := [], buf := [] }
  if j.phase = .readFtab then { j with buf := [] }
  else if j.jid ∈ lost then (if readsLocal j then again else { j with phase := .readData, todo := [], buf := [] })
  else if j.phase = .xlate ∨ (j.phase = .readData ∧ readsLocal j ∧ j.buf.length < sumBy (·.len) j.xp.segs) then again
  else if !j.xp.todo.isEmpty then { j with xp := fresh }
  else j

/-- A remote operation translates its extent again on resume, and a read or atomic whose host request ended with the reset issues it
again (R165, R445). -/
def TargetOp.refetch (t : TargetOp) : TargetOp :=
  { t with issued := false, data := [], todo := [], xp := if t.region.isSome then xStart [(t.addr, t.len)] else t.xp }

/-- A packet whose payload was being read again when the reset came: its timer sends it again. -/
def OutPkt.stored (o : OutPkt) : OutPkt :=
  { o with again := match o.again with
      | .translating _ | .reading .. => .no
      | a => a }

/-- A peer state in the store: held packets are lost, and payloads are read again when their timer runs out (R205, R445). -/
def Peer.stored (p : Peer) : Peer :=
  { p with resident := .evicted, due := false, send := p.send.map (fun h => { h with out := h.out.map OutPkt.stored }), recv := p.recv.map (fun r => { r with held := [], gapAt := none }) }

/-- The fabric side in reset: buffers, links and lanes (R376, R441). -/
def Fabric.lose (f : Fabric) : Fabric :=
  { f with
    stored := [], egress := [], vectors := [], vecLast := [], policers := [], deferred := [], samples := [], hops := [], pins := [], ticks := [], dead := [], suspects := []
    inject := [], handed := [], passing := [], operands := []
    ports := f.ports.map (fun p => { Port.reset p.num with fenced := p.fenced })
    lanes := [] }

/-- Jobs whose Ethernet frame is queued at a service port. -/
def State.queuedFrames (s : State) : List Nat := s.fab.egress.flatMap (fun e => e.q.filterMap (·.job))

/-- A read or AtomicOp that waits for the IDE stream of its port. -/
def Out.isRead : Out → Bool
  | .hostRead .. | .hostCas .. | .hostFetchAdd .. => true
  | _ => false

/-- Everything that a warm reset loses once the device has quiesced (R441). -/
def warmLose (s : State) : State :=
  let lost := s.queuedFrames
  { s with
    fab := s.fab.lose
    heldOut := s.heldOut.filter (fun h => !h.out.isRead)
    xlt := { xltEmpty s.xlt with pinned := [] }
    hif := { s.hif with reqs := [] }
    trn := { s.trn with peers := s.trn.peers.map Peer.stored, opens := [] }
    rma := { s.rma with targets := s.rma.targets.map TargetOp.refetch }
    qmg := { s.qmg with pond := [], asleep := [], heldDb := [], stalled := [], queues := s.qmg.queues.map Queue.refetch, jobs := s.qmg.jobs.map (Job.refetch lost) } }

/-! ### REFCLK (R430, R433, R442) -/

/-- CLOCK_JUDGED_GOOD: two windows passed; what the clock drives is released, and a boot that starts again from clock judging goes on once
the clocks of both dies are good (R378, R431, R442). -/
def execClockJudgedGood (clock : Nat) (ppm : Int) (s : State) : Host.Outcome State Fault Refusal :=
  let (clock, s) := clockOf clock s
  .next (if !s.alive ∨ !s.clk.refOk ∨ (s.monitor clock).state ≠ 1 ∨ s.windowPpm < ppm.natAbs then s
    else
      let s := s.advanceTo ((s.monitor clock).since + 2 * s.measWindow)
      let s := setMonitor { src := clock, state := 2, ppm := ppm, since := s.clk.now } s
      let s := match s.sys.boot with
        | some (first, b) =>
          if s.sys.stage = .clocks ∧ dieClock clock ∧ (List.range 7).all (fun i => s.clockGood (2 + i)) then bootLoad first b s else s
        | none => s
      whenFab (fun s => (s.pllLanes clock).foldl (fun s l => laneStart l s) s) s)

/-- A clock that was good has failed: it is captured and reported, and the islands that it drives stop (R432). -/
def clockFailed (clock : Nat) (ppm : Int) (s : State) : State :=
  let s := setMonitor { src := clock, state := 3, ppm := ppm, since := s.clk.now } s
  let st := s.raw .clkStatus 0 0
  let s := if bit st 62 then s else s.setReg .clkStatus 0 0 (putBits st 7 0 clock + 2 ^ 62)
  let s := whenFab (fun s => (s.pllLanes clock).foldl (fun s l => pllLost l s) s) s
  let s := if 0x50 ≤ clock then hostFall (clock - 0x50) s else s
  report .clkOutOfWindow 0x01 0 (clock + at_ 16 ((ppm % 2 ^ 24).toNat)) s

/-- CLK_OUT_OF_WINDOW: two windows failed, and the islands that the clock drives stop (R432). A clock of a die that a boot judges anew ends
the boot (R448). -/
def execClkOutOfWindow (clock : Nat) (ppm : Int) (s : State) : Host.Outcome State Fault Refusal :=
  let (clock, s) := clockOf clock s
  .next (
    let m := s.monitor clock
    if !s.alive ∨ !s.clk.refOk ∨ ppm.natAbs ≤ s.windowPpm then s
    else if m.state = 1 ∧ s.sys.stage = .clocks ∧ dieClock clock then
      bootError 0x02 (setMonitor { m with state := 3, ppm := ppm } (s.advanceTo (m.since + 2 * s.measWindow)))
    else if m.state ≠ 2 then s
    else
      clockFailed clock ppm (s.advanceTo (m.since + 2 * s.measWindow)))

/-- REFCLK_PRESENT: two good counts in a row; a boot that REFCLK's loss held starts again from clock judging (R430, R442). -/
def execRefclkPresent (s : State) : Host.Outcome State Fault Refusal :=
  .next (if !s.alive ∨ s.clk.refOk then s
    else
      let s := { s with clk := { s.clk with refOk := true, refAt := s.clk.now } }
      if s.sys.resetN ∧ s.sys.stage = .rom then monitorsStart false false (setStage .clocks s) else s)

/-- CLK_REF_LOST: reported; the device quiesces and waits. During a warm reset or a boot the sequence is held, to start again from clock
judging; transmitters stop and host links fall there too, at once where the device has quiesced (R433, R442). -/
def execClkRefLost (s : State) : Host.Outcome State Fault Refusal :=
  .next (
    if !s.alive ∨ !s.clk.refOk then s
    else
      let s := { s with clk := { s.clk with refOk := false } }
      if s.running then
        let s := report .clkRefLost 0x01 0 0 s
        quiesce { s with clk := { s.clk with refWait := true } }
      else if s.sys.stage = .warmQuiesce then
        let s := report .clkRefLost 0x01 0 0 s
        if s.sys.quiesced then refSilence s else s
      else if s.sys.stage = .warmRestore then
        let s := warmLose (report .clkRefLost 0x01 0 0 s)
        refSilence { s with sys := { s.sys with stage := .warmQuiesce, quiesced := true } }
      else if s.sys.stage = .clocks ∨ s.sys.stage = .fwLoad then bootHold s
      else s)

/-- The warm reset that a loss of REFCLK left open goes on at a time, with cause 0x5 (R433, R440). -/
def refReturned (t : Nat) (s : State) : State :=
  let s := s.advanceTo t
  { s with clk := { s.clk with refWait := false }, sys := { s.sys with resetCause := 5, warmCount := (s.sys.warmCount + 1) % 2 ^ 32, silenced := false } }

/-- REFCLK_RETURN: REFCLK has stayed present for 1 ms, and the warm reset is completed with cause 0x5 (R433, R440). -/
def execRefclkReturn (s : State) : Host.Outcome State Fault Refusal :=
  .next (
    if !s.alive ∨ !s.clk.refWait ∨ !s.clk.refOk ∨ !s.sys.quiesced then s
    else refReturned (s.clk.refAt + ms 1) s)

/-! ### Quiesced (R443) -/

/-- WARM_QUIESCE_DONE: host requests still outstanding fail, and the device is in reset with its HBM in self-refresh. With REFCLK
lost, every transmitter stops and host links fall (R433, R443, R581). -/
def execWarmQuiesceDone (s : State) : Host.Outcome State Fault Refusal :=
  .next (
    if !s.alive ∨ s.sys.stage ≠ .warmQuiesce ∨ s.sys.quiesced then s
    else
      let s := settle (s.hif.reqs.foldl (fun s r => reqDone r .timedOut s) s)
      let s := warmLose s
      let s := { s with sys := { s.sys with quiesced := true } }
      if s.clk.refOk && !s.clk.refWait then s else refSilence s)

/-! ### Warm reset: what is restored (R60, R61, R426, R443, R466) -/

/-- KEEP_CONFIG. -/
def State.keepConfig (s : State) : Bool := s.fld .sysCtrl 0 1 1 = 1

/-- The shadow set after a warm reset (R466, R467). -/
def warmShadow (n : Nat) : Nat := if n = 2 then 5 else if n = 3 then 4 else n

/-- Registers, counters and configuration sets after a warm reset (R16, R441, R466, R528). UNLOCK_FAILS is 0 again; that eight
refusals were reached stays until cold reset (R500). -/
def warmConfig (s : State) : State :=
  let keep := s.keepConfig
  { s with
    regs := warmRegs s.regs
    sec := { s.sec with fails := 0 }
    counters := []
    bank0 := if keep then s.bank0 else []
    bank1 := if keep then s.bank1 else []
    cmd := { s.cmd with shadow := if keep then warmShadow s.cmd.shadow else 0, working := if keep then s.cmd.working else s.cmd.working.map (fun w => { w with committed := none }) }
    engines := (s.engines.filter (·.retired))
    mem := { s.mem with migrating := none, remaining := 0, testing := none }
    dump := { s.dump with skipped := 0, writing := none, pendingCap := [], sPi := 0, sCi := 0, vecArmed := true } }

/-- The power unit after a warm reset: estimates and readings start again (R16, R426). -/
def warmPower (s : State) : State :=
  let p := s.fab.pwr
  let s := updPwr (fun _ => { Pwr.reset with credit := s.rampBurst, creditAt := s.clk.now, warned := p.warned }) s
  updPwr (fun p => { p with cls := s.classNow }) s

/-- Secured sessions end with the firmware that held them (log 51). -/
def endSessions (s : State) : State := s.sec.sessions.foldl (fun s c => endSession c s) s

/-- Contexts after a warm reset: the dirty ones were written through the journal, but those of `lost`, whose write-back did not reach the
store and whose queues come up in ERROR (R57, R60, R61). -/
def warmContexts (lost : List Nat) (s : State) : State :=
  let bad := (s.qmg.queues.filter (fun q => q.dirty && decide (q.qid ∈ lost))).map (·.qid)
  let s := { s with qmg := { s.qmg with
    journal := []
    evictRun := false
    queues := s.qmg.queues.map (fun q => { q with resid := if q.attr.pin then .resident else .evicted, saved := q.image }) } }
  bad.foldl (fun s q =>
    let s := moveToError q s
    ((s.qmg.jobs.filter (fun j => j.qid = q && j.phase != .ended)).map (·.jid)).foldl (fun s j => endJob j stQueueError s) s) s

/-- Device time after a warm reset: a follower is in HOLDOVER with the slew it had, unless the roles have changed (R16, R439). -/
def timeRestored (role : Nat × Nat) (s : State) : State :=
  let s := updClk (fun c => { c with
    tState := if s.timeRole = 2 then 3 else 0, stratum := 0, delay := 0, offset := 0, runLength := 0, missed := 0, waiting := false, exchAt := c.now }) s
  if role ≠ (s.timeRole, s.timeParent) then timeRoleChanged s else s

/-- WARM_RESTORE: the clocks are good again. The firmware copy in HBM is checked; the journal and the tables are restored, and the lanes begin
to acquire (R443). A copy that fails its check leads to a boot as for a cold reset: the whole state is that of a cold reset, fields marked
RS, WARM_COUNT and device memory among it, with the cause of the warm reset (DESIGN CHOICE, log 171). -/
def execWarmRestore (clocksOk fwOk : Bool) (lost : List Nat) (b : Boot) (s : State) : Host.Outcome State Fault Refusal :=
  .next (
    if s.sys.stage ≠ .warmQuiesce ∨ !s.sys.quiesced ∨ !s.clk.refOk ∨ s.clk.refWait ∨ !clocksOk ∨ s.sys.deadbolt ≠ .none then s
    else if !fwOk then
      coldBegin s.sys.nextSlot { b with sel := if s.sys.bootSel < 2 then 0 else s.sys.bootSel } (coldState s.sys.resetCause s)
    else
      let links := (List.range 8).filter (fun h => !s.linkEnabled h)
      let role := (s.timeRole, s.timeParent)
      let out := s.raw .clkOutCtrl 0 0
      let was := s.clkOut
      let s := { s with sys := { s.sys with stage := .warmRestore, halt := false, quiesced := false, silenced := false } }
      let s := (s.sys.hbmImage).elim s (fun im => { s with sys := { s.sys with running := s.sys.nextSlot, runVersion := imgVersion im, runHeader := imgHeader im } })
      let s := startPolicers (warmPower (warmConfig s))
      let s := endSessions (warmContexts lost s)
      let s := monitorsStart true true s
      let s := links.foldl (fun s h => linkEnableChanged h s) s
      let s := timeRestored role s
      portsAcquire (portsRelease (if out ≠ s.raw .clkOutCtrl 0 0 then clkOutChanged was s else s)))

/-! ### Resuming (R252, R445, R472) -/

/-- What becomes of a command cut by a reset; none goes on (R472). Draining objects and a joining group go on; an eviction, an
invalidation and a gate rule are done; a firmware activation has run. -/
def cutStatus (op : Nat) : Option Nat :=
  if op = 0x12 ∨ op = 0x19 ∨ op = 0x21 ∨ op = 0x22 ∨ op = 0x23 ∨ op = 0x29 then none
  else if op = 0x1A ∨ op = 0x13 ∨ op = 0x42 ∨ op = 0x2A then some csOk
  else some csReset

/-- Complete a command that is cut, as its opcode has it; a hinge past its commit point with OK and its generation (R471, R472). A gate
rule that waited is recorded (R497). -/
def completeCut (b : Begun) (st : Nat) (s : State) : State :=
  let s := (s.cmd.gateWaits.filter (fun w => w.cmd = b)).foldl (fun s w => audit 0x0030 b.mid w.detail s)
    { s with cmd := { s.cmd with gateWaits := s.cmd.gateWaits.filter (fun w => w.cmd ≠ b) } }
  match (s.cmd.working.find? (fun w => w.begun = b)).bind (·.committed) with
  | some (g, t) => completeCmd b csOk 0 g t s
  | none => completeCmd b st 0 (if b.opcode = 0x42 then s.sys.runVersion else 0) 0 s

/-- Complete the commands cut by a reset. -/
def cutCommands (s : State) : State :=
  s.cmd.begun.foldl (fun s b =>
    match cutStatus b.opcode with
    | some st => completeCut b st s
    | none => s) s

/-- Every queue's records and events that waited are written. -/
def resumeSinks (s : State) : State :=
  (s.qmg.queues.map (·.qid)).foldl (fun s q =>
    let s := cqDrain q (((s.queue? q).elim 0 (fun c => c.sink.recWait.length)) + 1) s
    eqFlush q (eqRetry q s)) s

/-- Remote reads and atomics that had passed their checks go on. -/
def resumeTargets (s : State) : State :=
  targetsGo (s.rma.targets.foldl (fun s t => onTarget t.peer t.psn (targetAgain t.peer t.psn) s) s)

/-- The jobs that prepared when the reset came go on. -/
def resumeJobs (s : State) : State :=
  (s.qmg.jobs.filter preparing).foldl (fun s j => jobResume j.jid s) s

/-- Peer states with something to send are fetched again. -/
def resumePeers (s : State) : State :=
  (s.trn.peers.filter (fun p => p.send.elim false (fun h => !h.out.isEmpty || !h.queue.isEmpty || h.state == .opening))).foldl
    (fun s p => startPeerFetch p.key s) s

/-- ENDPOINT_RESUME: every port that was UP is UP again, or 50 ms have passed (R160, R252, R445). -/
def execEndpointResume (s : State) : Host.Outcome State Fault Refusal :=
  .next (
    if !s.alive ∨ s.sys.stage ≠ .warmRestore then s
    else
      let up := s.sys.portsBefore.all (fun p => decide ((s.port p).state = .up))
      let s := if up then s else s.advanceTo (s.sys.acqAt + ms 50)
      let s := setStage .run { s with sys := { s.sys with portsBefore := [], hbmImage := none }, dump := { s.dump with lastT := max s.dump.lastT s.dtimeNs } }
      let s := cutCommands (allEndpoints evResumed s.sys.bootCount 0 0 s)
      let s := resumeJobs (resumeTargets (resumePeers (resumeSinks s)))
      let s := s.svc.rndvs.foldl (fun s r => rndvGo r.peer r.rts s) s
      let s := (s.svc.groups.map (·.num)).foldl (fun s g => groupWake g (rebuildGroup g s)) s
      settle s)

/-- WARM_RESET_REQUEST: SYS_CTRL.WARM_RESET written with 1 (R440, R442). -/
def warmRequest (s : State) : State := beginWarm 2 s

/-- MCTP_WARM_RESET_REQUEST: answered with KIND 0x82, then the reset begins with cause 0x3 (R440, R462). -/
def execMctpWarmResetRequest (seq : Nat) (s : State) : Host.Outcome State Fault Refusal :=
  .next (
    if s.sys.deadbolt ≠ .none ∨ !s.sys.pwrOk then s
    else if s.sys.stage = .run then beginWarm 3 (s.emit (.mctp 0x82 (seq % 256) []))
    else if s.sys.stage = .warmQuiesce ∨ s.sys.stage = .warmRestore then beginWarm 3 s
    else s)

/-! ### The end of RETIRING (R466, R588) -/

/-- Something looked up under the former set remains: a job, a packet stored, parked, held or waiting for a domain, an operation at the
target, a walk or a chunk (R588). -/
def State.formerSet (s : State) : Bool :=
  let old := fun (g : Nat) => g != s.cmd.gen
  s.qmg.jobs.any (fun j => j.phase != .ended && old j.gen) || s.fab.stored.any (fun x => old x.gen) || s.qmg.pond.any (fun x => old x.gen)
    || s.qmg.asleep.any (fun x => old x.gen) || s.trn.peers.any (fun p => p.recv.elim false (fun r => r.held.any (fun x => old x.gen)))
    || s.rma.targets.any (fun t => old t.gen) || s.xlt.walks.any (fun w => old w.gen)
    || s.svc.groups.any (fun g => g.down.any (fun d => old d.2.2)
        || g.ops.any (fun o => o.chunks.any (fun c => old c.gen) || o.later.any (fun l => old l.gen)))
    || s.fab.passing.any (fun x => old x.1)

/-- SHADOW_RETIRE_COMPLETE: nothing looked up under the former set remains. -/
def execShadowRetireComplete (s : State) : Host.Outcome State Fault Refusal :=
  .next (
    if !s.alive ∨ s.cmd.shadow ≠ 3 ∨ s.formerSet then s
    else { s with cmd := { s.cmd with shadow := 4 } })

end Sys2Proof.Machine
end

