-- ==== Sys2Proof/Machine/Inval.lean ====
section
/-! DEFINITION. Invalidations: how they start, what waits for them, when they end (R181-R187, R409). -/

namespace Sys2Proof.Machine

/-- Invalidations that may be in progress (R185). -/
def invalLimit : Nat := 16



/-- The range of a ring position's entry. -/
def Queue.entryVa (q : Queue) (p : Pos) : Nat := q.attr.base + 64 * ringIndex p q.attr.k

/-- Ring reads and record writes that a fault stopped go on (R181). -/
def invalResume (c : InvalScope) (s : State) : State :=
  s.qmg.queues.foldl
    (fun s q =>
      let s := match q.fetch.held with
        | some p => if c.covers q.attr.asid (q.entryVa p) 64 then startRun q.qid (updFetch q.qid (fun f => { f with held := none }) s) else s
        | none => s
      if q.sink.recHeld ∧ c.covers q.attr.asid (q.attr.base + 32 * ringIndex q.sink.pi q.attr.k) 32 then
        cqDrain q.qid (q.sink.recWait.length + 1) (updSink q.qid (fun k => { k with recHeld := false }) s)
      else s)
    s

/-- The domains of the clusters and host islands that hold translations: PD24-PD43. -/
def xltDomains : List Nat := (List.range 20).map (· + 24)

/-- An invalidation wakes every cluster and host island (R183, R409). -/
def invalWake (s : State) : State := xltDomains.foldl (fun s d => wakeDomain d s) s

/-- Apply an invalidation once: the entries go, what waited for it goes on (R181-R184). -/
def invalGo (i : Inval) (s : State) : State :=
  let done := fun (x : Inval) => { x with applied := true }
  invalResume i.scope (invalApply i.scope { s with xlt := { s.xlt with invals := updAll (fun x => x.id = i.id) done s.xlt.invals } })

/-- Apply the invalidations that have started, when no cluster or host island sleeps: the work waits for the exits and their leave
(R409). -/
def invalsGo (s : State) : State :=
  if xltDomains.any s.sleeps then s else (s.xlt.invals.filter (fun i => i.started && !i.applied)).foldl (fun s i => invalGo i s) s

/-- Start the invalidations that wait, oldest first, while fewer than 16 are in progress (R185). -/
def invalStart : Nat → State → State
  | 0, s => s
  | n + 1, s =>
    match s.xlt.invals.find? (fun i => !i.started) with
    | none => s
    | some i =>
      if (s.xlt.invals.filter (·.started)).length < invalLimit then
        let go := fun (x : Inval) => { x with started := true }
        invalStart n (invalWake { s with xlt := { s.xlt with invals := updAll (fun x => x.id = i.id) go s.xlt.invals } })
      else s

/-- A request of the function that owns a scope's address space waits for a tag or for its port, and so is not issued: it may use a removed
entry (R183; DESIGN CHOICE, log 174). So does a table read or an A/D update of a walk that is to start again. -/
def State.unissuedIn (s : State) (c : InvalScope) : Bool :=
  let mine (mid : Nat) : Bool := c.kind == 2 || (s.asid? c.asid).elim true (fun a => decide (a.mid = mid))
  s.hif.reqs.any (fun r => !r.held.isEmpty && r.use.translated && mine r.mid) || s.heldOut.any (fun o => (s.outMid ReqFor.translated o.out).elim false mine)
    || s.hif.reqs.any (fun r => s.unissuedReq r && s.xlt.walks.any (fun w => w.stale && (c.kind == 2 || decide (w.asid = c.asid))
      && (r.use == .walk w.id || r.use == .adCas w.id)))

/-- An access uses a translation of a scope and has requests to issue yet (R183). -/
def State.invalBusy (s : State) (c : InvalScope) : Bool :=
  let hit (asid : Nat) : Bool := c.kind == 2 || decide (c.asid = asid)
  let half (p : XProg) : Bool := !p.todo.isEmpty && !(p.segs.isEmpty && p.acc.isEmpty)
  s.qmg.jobs.any (fun j => hit j.asid && (!j.todo.isEmpty || !j.late.isEmpty || half j.xp))
    || s.rma.targets.any (fun t => hit t.asid && t.status == stOk
      && (!t.todo.isEmpty || !t.late.isEmpty || half t.xp || (t.ptype == PType.atomic.code && t.answered)))
    || s.outPkts.any (fun o => o.src.elim false (fun x => hit x.asid) && match o.again with
      | .translating xp => half xp
      | .reading (_ :: _) _ => true
      | _ => false)
    || s.xlt.walks.any (fun w => w.cached && c.covers w.asid w.page.1 w.page.2) || s.unissuedIn c

/-- Complete the invalidations that may complete: acknowledged, and in order when they had to wait (R183, R185). -/
def invalFinish : Nat → State → State
  | 0, s => s
  | n + 1, s =>
    let head := s.xlt.invals.head?.map (·.id)
    match s.xlt.invals.find? (fun i => i.acked && (!i.waited || decide (head = some i.id))) with
    | none => s
    | some i =>
      let s := { s with xlt := { s.xlt with invals := s.xlt.invals.filter (fun x => x.id ≠ i.id), invalDone := s.xlt.invalDone + 1 } }
      invalFinish n (completeWhere (fun b => b.chan = i.chan) csOk 0 0 0 s)

/-- A CMD_XLT_INVAL asks for an invalidation (R182, R185). -/
def invalAsk (chan : Channel) (c : InvalScope) (s : State) : State :=
  let i : Inval := { id := s.xlt.nextInval, chan := chan, scope := c, started := false, waited := decide (invalLimit ≤ s.xlt.invals.length), applied := false, acked := false }
  invalsGo (invalStart 1 { s with xlt := { s.xlt with invals := s.xlt.invals ++ [i], nextInval := s.xlt.nextInval + 1 } })

/-- All units have acknowledged an invalidation (R183). Nothing happens while an access that used a removed entry has requests to
issue. -/
def invalAck (id : Nat) (s : State) : State :=
  match s.xlt.invals.find? (fun i => i.id = id && i.applied) with
  | none => s
  | some i =>
    if s.invalBusy i.scope then s
    else
      let ack := fun (x : Inval) => { x with acked := true }
      let s := { s with xlt := { s.xlt with invals := updAll (fun x => x.id = id) ack s.xlt.invals } }
      let s := invalFinish (s.xlt.invals.length + 1) s
      invalsGo (invalStart s.xlt.invals.length s)

end Sys2Proof.Machine
end

