-- ==== Sys2Proof/Machine/Residency.lean ====
section
/-! DEFINITION. Doorbells, the residency of contexts and peer states, and the pond (R38-R46, R57-R69, R97, R190, R393). -/

namespace Sys2Proof.Machine

/-! ### Doorbells on a resident queue (R39, R40, R46, R97) -/

/-- A doorbell write that is refused or ignored: counted, and the first one captured (R40, R393). -/
def doorbellRefused (port fn addr : Nat) (s : State) : State := hifErr port 1 fn addr (s.count (cntHif port 0) 1)

/-- PRODUCE on an SQ or SRQ: malformed, or the known producer position rises; a run starts where none is in progress (R39, R46). -/
def produce (q : Queue) (pos : Pos) (s : State) : State :=
  let d := dist pos q.fetch.known
  let fresh := decide (d ≠ 0) && decide (d < 2 ^ 31)
  if fresh && decide (q.size < dist pos q.ci) then malformedDoorbell q pos (memberQueueLost q.qid s)
  else
    let s := if fresh then updFetch q.qid (fun f => f.know pos) s else s
    startRun q.qid (wakeDomain (hostDomain q.attr.ep) (wakeDomain (engineDomain q.attr.home) s))

/-- CONSUME on a CQ: slots become free (R39, R69). -/
def consume (q : Queue) (pos : Pos) (s : State) : State :=
  let d := dist pos q.sink.ci
  if d = 0 ∨ 2 ^ 31 ≤ d then s
  else if dist q.sink.pi q.sink.ci < d then malformedDoorbell q pos s
  else
    let keep (x : Pos) : Bool := decide (dist q.sink.pi x ≤ dist q.sink.pi pos)
    let s := updSink q.qid (fun k => { k with ci := pos, solicitedAt := k.solicitedAt.filter keep }) s
    cqWake q.qid (refusalEnd q.qid s)

/-- ARM or ARM_SOLICITED on a CQ within its positions: CQ_NOTIFY at once when a record that satisfies it lies there already (R97). A CQ is
armed by its last such doorbell alone: while it is armed, another takes the place of the one before (DESIGN CHOICE, log 170). -/
def arm (q : Queue) (solicited : Bool) (pos : Pos) (s : State) : State :=
  let s := updSink q.qid (fun k => { k with armed := some (solicited, pos) }) s
  let n := dist q.sink.pi pos
  let here := if solicited then q.sink.solicitedAt.any (fun x => decide (dist x pos < n)) else decide (n ≠ 0)
  if here then cqNotify q.qid s else s

/-- A doorbell that R40 ignores. -/
def doorbellIgnored (q : Queue) (op : Nat) (pos : Pos) : Bool :=
  let cq := q.kind == .cq
  q.state == .error || q.state == .draining || decide (3 < op)
    || (op == 0 && cq) || (op != 0 && !cq)
    || ((op == 2 || op == 3) && decide (dist q.sink.pi q.sink.ci < dist pos q.sink.ci))

/-- A doorbell word reaches the context of its queue. -/
def doorbellApply (port fn addr qid op : Nat) (pos : Pos) (s : State) : State :=
  match s.queue? qid with
  | none => s
  | some q =>
    if doorbellIgnored q op pos then doorbellRefused port fn addr s
    else if op = 0 then produce q pos s
    else if op = 1 then consume q pos s
    else arm q (op == 3) pos s

/-! ### Doorbells on a queue that is not resident (R42) -/

/-- A later doorbell merges into the words held for its queue: of PRODUCE, and of CONSUME, the further position stays; of ARM, and of
ARM_SOLICITED, the later word (R39, R42). Words of different OPs are applied in the order in which the last of each came (DESIGN CHOICE,
log 169). -/
def dbMerge (op : Nat) (pos : Pos) (l : List (Nat × Pos)) : List (Nat × Pos) :=
  let p := match assoc op l with
    | none => pos
    | some x => if 2 ≤ op ∨ dist pos x < 2 ^ 31 then pos else x
  l.filter (fun x => x.1 ≠ op) ++ [(op, p)]

/-- Hold a doorbell in the entry of its queue, or in a new one. The buffer must have room for it (R42). -/
def dbHold (qid op : Nat) (pos : Pos) (s : State) : State :=
  let s := startFetch qid s
  if s.qmg.heldDb.any (fun x => x.qid = qid) then
    { s with qmg := { s.qmg with heldDb := updAll (fun x => x.qid = qid) (fun x => { x with words := dbMerge op pos x.words }) s.qmg.heldDb } }
  else { s with qmg := { s.qmg with heldDb := s.qmg.heldDb ++ [{ qid := qid, words := [(op, pos)] }] } }

/-- The buffer can hold a doorbell of a queue: it holds one already, or an entry is free (R42). -/
def State.dbRoom (s : State) (qid : Nat) : Bool :=
  s.qmg.heldDb.any (fun x => x.qid = qid) || decide (s.qmg.heldDb.length < Config.doorbellBuffer)

/-- The host port has posted writes that wait for its posted credit (R42). -/
def State.portStalled (s : State) (port : Nat) : Bool := s.qmg.stalled.any (fun x => x.1 = port)

/-- A posted write waits behind those of its port. -/
def stallWrite (port : Nat) (w : PostedWrite) (s : State) : State := { s with qmg := { s.qmg with stalled := s.qmg.stalled ++ [(port, w)] } }

/-- Offset in BAR2 of a queue's doorbell (R38, R393). -/
def dbOffset (qid : Nat) : Nat := qid / 512 * 0x1000 + qid % 512 * 8

/-- A doorbell that R393 takes: applied, or held while its queue is not resident; without room for it the posted credit of the port is
withheld, and the write waits (R42). -/
def doorbellTake (port fn page offset : Nat) (v : Word) (qid : Nat) (s : State) : State :=
  let op := bits v.toNat 63 60
  let pos : Pos := BitVec.ofNat 32 v.toNat
  if (s.queue? qid).elim false (fun q => q.resid == .resident) then doorbellApply port fn (dbOffset qid) qid op pos (touch [qid] s)
  else if s.dbRoom qid then dbHold qid op pos s
  else stallWrite port (.bar2 fn page offset 8 v) (startFetch qid s)

/-- A write to BAR2 (R38, R393): an aligned 8-byte write to the page word of an SQ, SRQ or CQ of the writing function is a doorbell
word; reserved bits make it one that is ignored (R40); anything else is refused. The endpoint side being halted does not hold doorbells
back: R72 does not name them (DESIGN CHOICE, log 64). -/
def bar2Write (port fn page offset len : Nat) (v : Word) (s : State) : State :=
  if !s.running ∨ !s.funcUp port fn ∨ s.ideHolds port ∨ 2048 ≤ page ∨ 0x1000 ≤ offset then s
  else
    let addr := page * 0x1000 + offset
    match s.queue? (page * 512 + offset / 8) with
    | none => doorbellRefused port fn addr s
    | some q =>
      if len ≠ 8 ∨ offset % 8 ≠ 0 ∨ q.kind = .eq ∨ q.attr.mid ≠ 256 * port + fn then doorbellRefused port fn addr s
      else if bits v.toNat 59 32 ≠ 0 ∨ 4 ≤ bits v.toNat 63 60 then doorbellRefused port fn addr s
      else settle (doorbellTake port fn page offset v q.qid s)

/-! ### Contexts (R57-R62, R68) -/

/-- Entries that are free, or are being freed. -/
def State.cacheFree (s : State) : Nat :=
  Config.contextCache - (s.qmg.queues.filter (fun q => q.resid == .resident || q.resid == .fetching)).length

def State.highWater (s : State) : Nat := s.fld .qmgEvictCtrl 0 63 32
def State.lowWater (s : State) : Nat := min (s.fld .qmgEvictCtrl 0 31 0) (s.highWater - 1)

/-- A context may be evicted (R57). -/
def State.evictable (s : State) (q : Queue) : Bool :=
  q.resid == .resident && !q.attr.pin
    && !s.qmg.pond.any (fun x => decide (q.qid ∈ neededQueues x.pkt s))
    && !s.qmg.jobs.any (fun j => decide (j.qid = q.qid) && (j.phase == .accepted || j.phase == .readFtab))

/-- The least recently used of some queues. -/
def oldestQueue : List Queue → Option Queue
  | [] => none
  | q :: l => match oldestQueue l with
    | none => some q
    | some r => if q.lastUse ≤ r.lastUse then some q else some r

/-- Begin an eviction: its journal slot is written (R59), unless a gate of device memory refuses that (R485). -/
def evictStart (qid : Nat) (s : State) : State :=
  match hbmRefusal 0x8A1 1 256 ((s.queue? qid).map (·.attr.pkey)) s with
  | (some x, s) => memLost x s
  | (none, s) =>
  let s := updQueue qid (fun q => { q with resid := .evicting, saved := q.image }) s
  { s with qmg := { s.qmg with journal := if qid ∈ s.qmg.journal then s.qmg.journal else s.qmg.journal ++ [qid] } }

/-- A context that is evicted and wanted: jobs that dispatch is to choose, a packet of the pond, a doorbell, its entry of the wheel, or its
PIN attribute waits for it (R42, R51, R58, R63, R323). -/
def State.contextWanted (s : State) (q : Queue) : Bool :=
  q.resid == .evicted && (q.attr.pin || q.due || s.hasWork q || s.qmg.heldDb.any (fun d => d.qid = q.qid)
    || s.qmg.stalled.any (fun x => match x.2 with
      | .bar2 _ page offset _ _ => decide (page * 512 + offset / 8 = q.qid)
      | .bar0 .. => false)
    || s.qmg.pond.any (fun x => decide (q.qid ∈ x.needs)))

/-- CONTEXT_EVICTION_START: fewer than LOW_WATER entries are free, or the eviction that began so has not reached HIGH_WATER; the least
recently used context that may be evicted goes (R57, R59). A full cache for which a fetch waits counts as below LOW_WATER, whatever the
register holds (DESIGN CHOICE, log 127). -/
def execContextEvictionStart (qid : Nat) (s : State) : Host.Outcome State Fault Refusal :=
  .next (epStep (fun s =>
    let full := decide (Config.contextCache ≤ s.cacheUsed) && s.qmg.queues.any s.contextWanted
    let low := decide (s.cacheFree < s.lowWater) || full
    let run := low || (s.qmg.evictRun && decide (s.cacheFree < s.highWater))
    let s := { s with qmg := { s.qmg with evictRun := run } }
    if run && decide ((oldestQueue (s.qmg.queues.filter s.evictable)).map (·.qid) = some qid) then evictStart qid s else s) s)

/-- Fetches that waited for a free entry of the cache, or for the end of an eviction, begin (R57, R59, R63). -/
def fetchWanted (s : State) : State := (s.qmg.queues.filter s.contextWanted).foldl (fun s q => startFetch q.qid s) s

/-- CONTEXT_EVICTION_COMPLETE: the journal slot is retired, CMD_QUEUE_EVICT completes, and fetches that waited follow (R57, R59, R63). -/
def execContextEvictionComplete (qid : Nat) (s : State) : Host.Outcome State Fault Refusal :=
  .next (epStep (fun s =>
    if (s.queue? qid).elim true (fun q => q.resid != .evicting) then s
    else
      let s := updQueue qid (fun q => { q with resid := .evicted }) s
      let s := { s with qmg := { s.qmg with journal := s.qmg.journal.filter (· ≠ qid), evictRun := s.qmg.evictRun && decide (s.cacheFree < s.highWater) } }
      fetchWanted (completeWhere (fun b => b.opcode == 0x13 && decide (b.obj = (1, qid, qid))) csOk 0 0 0 s)) s)

/-- The doorbells held for a queue are applied in order, and their entry of the buffer is free (R42). -/
def heldApply (qid : Nat) (s : State) : State :=
  let l := (s.qmg.heldDb.filter (fun d => d.qid = qid)).flatMap (·.words)
  let s := { s with qmg := { s.qmg with heldDb := s.qmg.heldDb.filter (fun d => d.qid ≠ qid) } }
  let owner := (s.queue? qid).elim 0 (·.attr.mid)
  l.foldl (fun s d => doorbellApply (owner / 256) (owner % 256) (dbOffset qid) qid d.1 d.2 s) s

/-- A fetch that ends in an uncorrectable error: the queue enters ERROR, and its parked packets get NOT_NOW with CONTEXT_ERROR (R68). -/
def contextEcc (q : Queue) (s : State) : State :=
  let s := report .qmgContextEcc 0x0B q.attr.ep q.qid s
  let s := moveToError q.qid (captureFenced q.qid s)
  let s := queueError q 3 (s.consumer q).toNat s
  let mine := fun (x : Parked) => decide (q.qid ∈ neededQueues x.pkt s)
  let l := s.qmg.pond.filter mine
  let s := { s with qmg := { s.qmg with pond := s.qmg.pond.filter (fun x => !mine x) } }
  l.foldl (fun s x => sendNotNow (peerOf x.pkt) x.pkt.psn nnContextError s) s

/-- A context has been fetched: it serves the doorbells and packets that waited for it (R42, R62, R64, R68). A fetch that a gate refuses
ends as one in error (R485, R515). -/
def contextFetched (qid : Nat) (eccError : Bool) (s : State) : State :=
  match s.queue? qid with
  | none => s
  | some q =>
    if q.resid ≠ .fetching then s
    else
      let s := touch [qid] (updQueue qid (fun q => { q with resid := .resident, due := false }) s)
      let (x, s) := hbmRefusal 0x8A1 0 256 (some q.attr.pkey) s
      let s := if eccError || x.isSome then contextEcc q s else s
      pondRelease (pumpEp q.attr.ep (heldApply qid s))

/-! ### Peer states (R63, R190) -/

/-- PEER_FETCH_COMPLETE: the peer state is resident, parked packets and waiting jobs go on; one that cannot be read loses its halves:
the send half is abandoned with RETRY_EXCEEDED, and later packets are answered with RESYNC (R190, R515). -/
def execPeerFetchComplete (k : PeerKey) (eccError : Bool) (s : State) : Host.Outcome State Fault Refusal :=
  .next (trnStep (fun s =>
    if (s.peer? k).elim true (fun p => p.resident != .fetching) then s
    else
      let (x, s) := hbmRefusal 0x8A2 0 64 none s
      let eccError := eccError || x.isSome
      let s := updPeer k (fun p => { p with resident := .resident, due := false, recv := if eccError then none else p.recv, lastUse := s.clk.now }) s
      let s := if eccError then abandon k 0 (dropOpen k stRetryExceeded s) else s
      peerWake (pumpAll k (pondRelease s))) s)

/-! ### Refusal period of a CQ (R69) -/

/-- CQ_STALL_TIMEOUT: a refusal period has lasted QMG_CQ_STALL_TMO (R69, R96). -/
def execCqStallTimeout (qid : Nat) (s : State) : Host.Outcome State Fault Refusal :=
  .next (epStep (fun s =>
    match s.queue? qid with
    | none => s
    | some c =>
      match c.kind, c.sink.refusal with
      | .cq, some t =>
        if c.state ≠ .active ∧ c.state ≠ .stopped then s
        else
          let s := s.advanceTo (t + us (atLeast1 (s.fld .qmgCqStallTmo 0 19 0)))
          let s := updSink qid (fun k => { k with refusal := none }) (enterError qid (captureFenced qid s))
          queueEvent c evCqOverrun c.sink.pi.toNat 0 s
      | _, _ => s) s)

/-- REFETCH_GAP_EXPIRY: the next ring read of a run goes out (R47, R48). -/
def execRefetchGapExpiry (qid : Nat) (s : State) : Host.Outcome State Fault Refusal :=
  .next (epStep (fun s =>
    match s.queue? qid with
    | none => s
    | some q =>
      if !q.fetch.waitGap then s
      else fetchGo qid 2 (updFetch qid (fun f => { f with waitGap := false }) (s.advance s.refetchGap))) s)

end Sys2Proof.Machine
end

