-- ==== Sys2Proof/Machine/Service.lean ====
section
/-! DEFINITION. Service without stopping: engines, management cores, device memory, SRAM banks (R516-R525). -/

namespace Sys2Proof.Machine

/-! ### Engines (R517-R519) -/

/-- MPEs of a cluster in service. -/
def State.activeMpes (s : State) (c : Nat) : Nat := ((List.range 4).filter (fun i => !(s.engine (4 * c + i)).retired)).length

/-- MPEs retired. -/
def State.retiredMpes (s : State) : Nat := (s.engines.filter (fun e => decide (e.code < 0x60) && e.retired)).length

/-- Chorus clusters in service. -/
def State.activeClusters (s : State) : Nat := ((List.range 8).filter (fun i => !(s.engine (0x60 + i)).retired)).length

/-- The cluster with the most active MPEs, the lowest number among several (R518). -/
def State.bestCluster (s : State) : Nat :=
  (List.range 24).foldl (fun b c => if s.activeMpes b < s.activeMpes c then c else b) 0

/-- Every queue of a cluster moves to another home, with its jobs (R518). -/
def rehomeQueues (c : Nat) (s : State) : State :=
  let d := s.bestCluster
  let s := { s with qmg := { s.qmg with
    queues := updAll (fun q => q.attr.home = c && (q.kind == .sq || q.kind == .srq)) (fun q => { q with attr := { q.attr with home := d } }) s.qmg.queues
    jobs := updAll (fun j => j.engine = c) (fun j => { j with engine := d }) s.qmg.jobs } }
  if s.pairBusy (engineDomain d) then wakeDomain (engineDomain d) s else s

/-- Retire an MPE: its jobs are taken up by the others of its cluster from their records, which the model's jobs are (R517, log 53);
the last one of a cluster sends its queues to another (R518). -/
def retireMpe (code : Nat) (s : State) : State :=
  let s := updEngine code (fun e => { e with retired := true }) s
  if s.activeMpes (code / 4) = 0 then rehomeQueues (code / 4) s else s

/-- Retire a chorus cluster: its groups go to the active clusters with the fewest, and rebuild what they have not forwarded (R519). -/
def retireCluster (n : Nat) (s : State) : State :=
  let s := updEngine (0x60 + n) (fun e => { e with retired := true }) s
  let move (s : State) (g : Group) : State :=
    let d := s.chorusHome
    wakeDomain (chorusDomain d) (groupWake g.num (rebuildGroup g.num (updGroup g.num (fun g => { g with home := d }) s)))
  chorusDomainOff (chorusDomain n) ((s.svc.groups.filter (fun g => g.home = n)).foldl move s)

/-- An engine has a job on which it can make progress (R518). -/
def State.engineWorks (s : State) (code : Nat) : Bool :=
  !(s.engine code).retired
    && (if code < 0x60 then s.qmg.jobs.any (fun j => decide (j.engine = code / 4) && j.phase != .ended)
        else s.svc.groups.any (fun g => decide (g.home = code - 0x60) && !g.ops.isEmpty))

/-- ENGINE_WATCHDOG_EXPIRY: an engine makes no progress from now on for WDOG_US; then ENG_HANG, and it is retired, or reloaded in place
(R518, log 53). A last chorus cluster is reloaded (R519, log 53). -/
def execEngineWatchdogExpiry (code : Nat) (s : State) : Host.Outcome State Fault Refusal :=
  onInstance 0x68 code (fun code => epStep (fun s =>
    if !s.engineWorks code then s
    else
      let s := report .engHang 0x10 code 0 (s.advance (us (atLeast1 (s.fld .fltSvcCtrl 0 15 0))))
      if code < 0x60 then
        if s.fld .fltSvcCtrl 0 63 63 = 1 ∧ s.retiredMpes < 4 then retireMpe code s else s
      else if s.activeClusters ≤ 1 then s
      else retireCluster (code - 0x60) s)) s

/-! ### Management cores (R520) -/

/-- What a cut command had begun ends: a test, whose lanes acquire afresh; an engine's restoration; a hinge that had not committed, whose
shadow is INVALID; the migration of a pair (R466, R471, R472, R523). -/
def cutTest (b : Begun) (s : State) : State :=
  let n := b.obj.2.1
  if b.opcode = 0x3A then portDisable n (updFport n (fun p => { p with testing := false }) s) |> portEnable n
  else if b.opcode = 0x3B then laneFromTest n (dropLeave (.laneTest n) s)
  else if b.opcode = 0x3D then dropLeave (.restore n) s
  else if b.opcode = 0x31 then { s with cmd := { s.cmd with shadow := if s.cmd.shadow = 2 then 5 else s.cmd.shadow } }
  else if b.opcode = 0x3E then { s with mem := { s.mem with migrating := none, remaining := 0 } }
  else s

/-- A command that a hung core had begun completes as one cut by a reset; what an invalidation has asked for goes on, since no cache was
emptied (R472, R520, log 54). -/
def cutOne (b : Begun) (s : State) : State :=
  match cutStatus b.opcode with
  | none => s
  | some st => completeCut b st (cutTest b s)

/-- One core hangs and is restarted: the commands it had begun are cut. Which core a command runs on is not architectural (log 3). -/
def coreHangs (n : Nat) (s : State) : State :=
  let s := report .engHang 0x10 (0x68 + n) 0 s
  s.cmd.begun.foldl (fun s b =>
    let (c, s) := s.drawNat
    if c % 4 = n then cutOne b s else s) s

/-- MGC_HANG of core n, or, with n = 4, of the last of them when every one hangs: then ENG_HANG is reported for each, and the case is
a C3 fault (R514, R520). -/
def execMgcHang (n : Nat) (s : State) : Host.Outcome State Fault Refusal :=
  onInstance 5 n (fun n => whenRunning (fun s =>
    if n < 4 then coreHangs n s
    else
      let s := haltEp ((List.range 4).foldl (fun s i => report .engHang 0x10 (0x68 + i) 0 s) s)
      if s.fld .sysCtrl 0 2 2 = 1 then beginWarm 4 s else s)) s

/-! ### Device memory (R522-R524) -/

/-- Device memory that the stores take, in MiB, as far as the owning chapters size them: contexts, peer states, the unexpected
store, the keyring, the match overflow, the operation log, the variables, and the spill areas (R139, R268, R359, log 55). -/
def State.storesMiB (s : State) : Nat :=
  512 + min 8192 (s.fld .mtcUnexpSize 0 13 0) + 4 * clamp 1 256 (s.fld .rmaKeyringSize 0 8 0) + min 1024 (s.fld .mtcOvflSize 0 10 0)
    + clamp 64 2048 (s.fld .trnOplogSize 0 11 0) + min 1024 (s.fld .lckVarSize 0 10 0)
    + (sumBy (fun p => s.fldI .llrBrdSpill p 0 15 0) (List.range 128) + 1023) / 1024

/-- The stores fit when one more pair of 1.5 GiB is retired (R523). -/
def State.retireFits (s : State) : Bool := decide (s.storesMiB + 1536 * (s.mem.retiredPairs.length + 1) ≤ 24576)

/-- Lines of 64 bytes in a pair. -/
def pairLines : Nat := 25165824

/-- A retirement of a channel's pair starts (R523). -/
def startRetire (channel : Nat) (auto : Bool) (s : State) : State :=
  { s with mem := { s.mem with migrating := some (channel % 32, auto), remaining := pairLines } }

/-- A pair may be retired now: none migrates, no test runs, and it is in use (R523, R524). -/
def State.retireIdle (s : State) (channel : Nat) : Bool :=
  s.mem.migrating.isNone && s.mem.testing.isNone && !decide (channel / 2 ∈ s.mem.retiredPairs)

/-- MEM_AUTO_RETIRE: the channel reached MEM_THRESH corrected errors within one second, or is dead (R523). The correction that it came to
light by is reported; a dead channel's halves are corrected from its partner (R507, R522; DESIGN CHOICE for one message at a free address, log
212). -/
def execMemAutoRetire (channel : Nat) (dead : Bool) (s : State) : Host.Outcome State Fault Refusal :=
  onInstance 32 channel (fun channel => whenRunning (fun s =>
    let (a, s) := s.drawNat
    let s := report .memEccCorrected 0x16 channel (a % (24 * 2 ^ 30) + at_ 35 (b1 dead)) s
    if s.fld .fltSvcCtrl 0 62 62 = 1 ∧ s.retireIdle channel ∧ s.retireFits then startRetire channel true s else s)) s

/-- MEM_MIGRATION_COMPLETE: the pair's last line has moved; it is retired and reported, and the command that asked for it completes
(R523). -/
def execMemMigrationComplete (s : State) : Host.Outcome State Fault Refusal :=
  .next (whenRunning (fun s =>
    match s.mem.migrating with
    | none => s
    | some (c, auto) =>
      let s := { s with mem := { s.mem with migrating := none, remaining := 0, retiredPairs := c / 2 :: s.mem.retiredPairs } }
      completeWhere (fun b => b.opcode == 0x3E) csOk 0 0 0 (report .memChannelRetired 0x16 c (b1 auto) s)) s)

/-- FLT_MEMTEST.START: leave is asked for the test; a START during a test or a retirement is ignored (R524). -/
def memtestStart (s : State) : State :=
  let ch := s.fld .fltMemtest 0 36 32
  let waits := s.fab.pwr.reqs.any (fun r => match r.op with
    | .memTest _ => true
    | _ => false)
  if s.mem.migrating.isSome ∨ s.mem.testing.isSome ∨ waits then s
  else askLeave (.memTest ch) 3 8 (s.setReg .fltMemtest 0 0 (at_ 32 ch))

/-- MEMTEST_DONE: rows that failed and rows that a spare replaced; failing rows beyond the spares retire the pair (R524). -/
def execMemtestDone (failed repaired : Nat) (s : State) : Host.Outcome State Fault Refusal :=
  .next (whenRunning (fun s =>
    match s.mem.testing with
    | none => s
    | some ch =>
      let f := failed % 65536
      let r := min f repaired
      let s := { s with mem := { s.mem with testing := none } }
      let retire := decide (r < f) && s.retireIdle ch && s.retireFits
      let s := s.setReg .fltMemtest 0 0 (at_ 62 1 + at_ 61 (b1 retire) + at_ 32 (s.fld .fltMemtest 0 36 32) + at_ 16 r + f)
      if retire then startRetire ch true s else s) s)

/-! ### SRAM banks (R525) -/

/-- One failing row: replaced by a spare and reported, or taken out of use (R525). -/
def sramRow (block inst bank : Nat) (s : State) (r : Nat × Bool) : State :=
  hubTake .sramEccCorrected block inst (bank % 65536 + at_ 16 (r.1 % 65536) + at_ 32 (b1 (!r.2))) s

/-- SRAM_BIST_ROTATION of a bank of a block's instance: the failing rows, each with whether a spare was left, and the shared-buffer
cells lost with rows of a slice (R525, log 7). -/
def execSramBistRotation (block inst bank : Nat) (rows : List (Nat × Bool)) (cells : List Nat) (s : State) : Host.Outcome State Fault Refusal :=
  onInstance 0x17 block (fun block => whenFab (fun s =>
    let s := rows.foldl (sramRow block inst bank) s
    if block = 0x13 ∧ inst < 8 ∧ rows.any (fun r => !r.2) then
      let lost := ((cells.filter (fun c => decide (c < 131072))).map (fun c => (inst, c))).filter (fun x => !decide (x ∈ s.mem.lostCells))
      { s with mem := { s.mem with lostCells := lost.eraseDups ++ s.mem.lostCells } }
    else s)) s

end Sys2Proof.Machine
end

