-- ==== Sys2Proof/Machine/Endpoint.lean ====
section
/-! DEFINITION. Dispatch, the descriptors, the packets that reach an endpoint, and the timers of transport, matching and chorus
groups (chapters 02 to 08). -/

namespace Sys2Proof.Machine

/-! ### Dispatch (R51-R55) -/

/-- PWR_DISPATCH_FACTOR of a class at the budget class in force, in eighths. -/
def State.dispatchFactor (s : State) (t : Tc) : Nat :=
  let c := s.fab.pwr.cls
  clamp 1 8 (bits (s.raw .pwrDispatchFactor 0 t) (4 * c + 3) (4 * c))

/-- The largest inheritance weight in force for a master's queues (R52, R262). -/
def State.inheritWeight (s : State) (mid : Nat) : Nat :=
  let w (p : Nat) : Nat := atLeast1 (bits (s.raw .lckInheritWeight 0 (p / 8)) (8 * (p % 8) + 7) (8 * (p % 8)))
  (s.svc.boosts.filter (fun b => b.mid = mid)).foldl (fun m b => max m (w b.prio)) 0

/-- The effective weight of a queue (R52). -/
def State.effWeight (s : State) (q : Queue) : Nat :=
  max (atLeast1 (q.attr.weight * s.dispatchFactor q.attr.tc / 8)) (s.inheritWeight q.attr.mid)

/-- A queue has something at its head that dispatch can act on: a job that can be accepted, or an entry that ends the queue. A shaped one
is not ready while its eligible time lies ahead (R325). -/
def State.ready (s : State) (q : Queue) : Bool :=
  q.kind == .sq && q.state == .active && q.resid == .resident && s.domainOn (engineDomain q.attr.home)
    && ((s.shape? q).isNone || decide (q.te ≤ s.dtimeNs))
    && decide (0 < s.activeMpes q.attr.home)
    && match s.head q with
      | .none => false
      | .bad _ _ => true
      | .fail _ => true
      | .job ws conts _ => s.cqOpen q && s.canAccept q.qid ws conts

/-- Members of a level in the order of choice: those not yet chosen in this round, then the others. -/
def wrrOrder (l : List (Nat × Nat)) (ms : List Nat) : List Nat :=
  ms.filter (fun m => !l.any (fun x => x.1 = m)) ++ (l.map (·.1)).filter (fun m => decide (m ∈ ms))

/-- What is left to a member in this round: its weight as it is now, less what it has taken (R26, R51, R52; log 20). -/
def wrrLeft (l : List (Nat × Nat)) (w : Nat → Nat) (m : Nat) : Nat := w m - (assoc m l).getD 0

/-- Choose a member of a level; when none of those ready has anything left, a new round begins, in which no member of the level has taken
anything yet (R51). `mine` are the members of the level. -/
def wrrPick (w : Nat → Nat) (mine : Nat → Bool) (ms : List Nat) (l : List (Nat × Nat)) : Option Nat × List (Nat × Nat) :=
  match (wrrOrder l ms).find? (fun m => decide (0 < wrrLeft l w m)) with
  | some m => (some m, l)
  | none =>
    ((wrrOrder l ms).head?, l.map (fun x => if mine x.1 ∨ x.1 ∈ ms then (x.1, 0) else x))

/-- A member took n descriptors. -/
def wrrTake (m n : Nat) (l : List (Nat × Nat)) : List (Nat × Nat) :=
  l.filter (fun x => x.1 ≠ m) ++ [(m, (assoc m l).getD 0 + n)]

def State.epWeight (s : State) (e : Nat) : Nat := atLeast1 (s.raw .qmgEpWeight 0 e % 256)
def partNum (q : Queue) : Nat := q.attr.ep * 65536 + q.attr.pkey
def State.partWeight (s : State) (n : Nat) : Nat := (s.partition? (n % 65536)).elim 1 (·.weight)
def State.qidWeight (s : State) (q : Nat) : Nat := (s.queue? q).elim 1 s.effWeight

/-- The distinct values of a list. -/
def distinct : List Nat → List Nat
  | [] => []
  | a :: l => if a ∈ l then distinct l else a :: distinct l

/-- The record of an accepted job is written into the operation log; one that a gate refuses completes with RETRY_EXCEEDED (R215, R485,
R515). -/
def recordJob (jid : Nat) (s : State) : State :=
  match s.job? jid with
  | none => s
  | some j =>
    if j.logBytes = 0 then s
    else
      match hbmRefusal 0x8A2 1 j.logBytes (some j.pkey) s with
      | (none, s) => s
      | (some _, s) => dropLockRec jid (endJob jid stRetryExceeded s)

/-- Accept up to n jobs of a chosen queue; how many descriptors it took (R51, R53, R54, R71). -/
def takeJobs (qid : Nat) : Nat → Nat → State → Nat × State
  | 0, k, s => (k, s)
  | n + 1, k, s =>
    match s.queue? qid with
    | none => (k, s)
    | some q =>
      if !s.ready q then (k, s)
      else
        match s.head q with
        | .none => (k, s)
        | .bad ws pos => (k, headMalformed qid ws pos s)
        | .fail pos => (k, headFailed qid pos s)
        | .job ws conts len =>
          let (jid, s) := acceptJob q ws conts len (dOp ws) (noteStart (engineDomain q.attr.home) s)
          takeJobs qid n (k + 1) (recordJob jid s)

/-- One choice for a free MPE slot (R51). -/
def dispatch (s : State) : State :=
  let l := s.qmg.queues.filter s.ready
  let w := s.qmg.wrr
  match wrrPick s.epWeight (fun _ => true) (distinct (l.map (·.attr.ep))) w.eps with
  | (none, _) => s
  | (some e, eps) =>
    let l := l.filter (fun q => q.attr.ep = e)
    match wrrPick s.partWeight (fun n => n / 65536 == e) (distinct (l.map partNum)) w.parts with
    | (none, _) => s
    | (some p, parts) =>
      let l := l.filter (fun q => partNum q = p)
      match wrrPick s.qidWeight (fun x => (s.queue? x).elim false (fun q => partNum q == p)) (l.map (·.qid)) w.queues with
      | (none, _) => s
      | (some q, queues) =>
        let burst := (s.queue? q).elim 1 (fun q => atLeast1 q.attr.burst)
        let n := min (min burst (wrrLeft eps s.epWeight e)) (min (wrrLeft parts s.partWeight p) (wrrLeft queues s.qidWeight q))
        let (k, t) := takeJobs q n 0 (touch [q] s)
        { t with qmg := { t.qmg with wrr := { eps := wrrTake e k eps, parts := wrrTake p k parts, queues := wrrTake q k queues } } }

/-- JOB_DISPATCH (R49-R55, R70, R71, R81-R86). -/
def execJobDispatch (s : State) : Host.Outcome State Fault Refusal := .next (epStep dispatch s)

/-! ### Descriptors (R77, R584) -/

/-- The next job of a queue starts, when it may and its opcode is that of the row. Clusters that sleep wake first (R409). -/
def descriptor (op qid : Nat) (s : State) : State :=
  match s.startable qid with
  | none => s
  | some j =>
    if j.recOp ≠ op then s
    else
      let doms := engineDomain j.engine :: (if j.recOp = opChorus then (s.group? (dGroup j.ws)).elim [] (fun g => [chorusDomain g.home]) else [])
      let s := doms.foldl (fun s n => wakeDomain n s) s
      if doms.any s.sleeps then s else jobStart j.jid s

/-- NOP: completes OK (R77). -/
def execNop (qid : Nat) (s : State) : Host.Outcome State Fault Refusal := .next (epStep (descriptor opNop qid) s)

/-- SEND (R151, R361). -/
def execSend (qid : Nat) (s : State) : Host.Outcome State Fault Refusal := .next (epStep (descriptor opSend qid) s)

/-- TSEND (R116, R119). -/
def execTsend (qid : Nat) (s : State) : Host.Outcome State Fault Refusal := .next (epStep (descriptor opTsend qid) s)

/-- PUT (R149). -/
def execPut (qid : Nat) (s : State) : Host.Outcome State Fault Refusal := .next (epStep (descriptor opPut qid) s)

/-- GET (R149). -/
def execGet (qid : Nat) (s : State) : Host.Outcome State Fault Refusal := .next (epStep (descriptor opGet qid) s)

/-- ATOMIC (R80, R153). -/
def execAtomic (qid : Nat) (s : State) : Host.Outcome State Fault Refusal := .next (epStep (descriptor opAtomic qid) s)

/-- RECV: a written entry stands in its SRQ until an arrival takes it; one that is malformed, or that could not be read, ends the
queue as soon as it is examined (R71, R151, R399). -/
def offerRecv (qid : Nat) (s : State) : State :=
  match s.queue? qid with
  | none => s
  | some q =>
    if q.kind ≠ .srq ∨ q.state ≠ .active then s
    else if s.sleeps (engineDomain q.attr.home) then wakeDomain (engineDomain q.attr.home) s
    else
      match s.head q with
      | .bad ws pos => headMalformed qid ws pos s
      | .fail pos => headFailed qid pos s
      | _ => s

def execRecv (qid : Nat) (s : State) : Host.Outcome State Fault Refusal := .next (epStep (offerRecv qid) s)

/-- TRECV (R113). -/
def execTrecv (qid : Nat) (s : State) : Host.Outcome State Fault Refusal := .next (epStep (descriptor opTrecv qid) s)

/-- TCANCEL (R126). -/
def execTcancel (qid : Nat) (s : State) : Host.Outcome State Fault Refusal := .next (epStep (descriptor opTcancel qid) s)

/-- CHORUS (R236-R241). -/
def execChorus (qid : Nat) (s : State) : Host.Outcome State Fault Refusal := .next (epStep (descriptor opChorus qid) s)

/-- LOCK_ACQUIRE (R256). -/
def execLockAcquire (qid : Nat) (s : State) : Host.Outcome State Fault Refusal := .next (epStep (descriptor opLockAcquire qid) s)

/-- LOCK_RELEASE, after every earlier job has completed (R258). -/
def execLockRelease (qid : Nat) (s : State) : Host.Outcome State Fault Refusal := .next (epStep (descriptor opLockRelease qid) s)

/-! ### Packets that consume a PSN (R203, R247) -/

/-- The domain of the cluster that an answer concerns: the home of the queue whose job asked, or engine cluster 0's, which reads for a
rendezvous. -/
def State.answerDomain (s : State) (k : PeerKey) (req : Pos) : Nat := (s.jobOfReq k req).elim 24 (fun j => s.opDomain (.job j.jid))

/-- The cluster domains that handle the FIRST packet of an operation: that of the SRQ, match context or group it names, of the job that
it answers, and engine cluster 0's for an operation on a region (R409; DESIGN CHOICE, log 158). -/
def State.firstDomains (s : State) (k : PeerKey) (p : Packet) : List Nat :=
  let srq := (s.queue? p.aux).elim [] (fun q => [engineDomain q.attr.home])
  let t := p.ptype
  if t = PType.send.code then srq
  else if t = PType.tsend.code then (s.ctx? (p.aux % 65536)).elim [] (fun c => [engineDomain c.home])
  else if t = PType.chorus.code then (s.group? (bits p.e0.toNat 59 48)).elim [] (fun g => [chorusDomain g.home])
  else if t = PType.put.code ∨ t = PType.get.code ∨ (t = PType.atomic.code ∧ bits p.e1.toNat 63 32 ≠ 1) then
    24 :: (if p.immValid then srq else [])
  else if t = PType.getResp.code ∨ t = PType.atomicResp.code ∨ t = PType.fin.code ∨ t = PType.status.code then
    [s.answerDomain k (BitVec.ofNat 32 p.e0.toNat)]
  else if t = PType.lockResp.code ∧ bits p.e0.toNat 63 60 ≠ rkBoost then [s.answerDomain k (BitVec.ofNat 32 p.e1.toNat)]
  else []

/-- The cluster domains that handle another packet of the operation that is open on its flow: that of the receive it fills, of the job it
answers, and engine cluster 0's for a PUT (R409; DESIGN CHOICE, log 158). -/
def State.nextDomains (s : State) (k : PeerKey) : List Nat :=
  match (((s.peer? k).bind (·.recv)).bind (·.op)).bind (fun o => s.target? k o.first) with
  | none => []
  | some t =>
    if t.ptype = PType.put.code then [24]
    else if t.ptype = PType.getResp.code then [s.answerDomain k (BitVec.ofNat 32 t.operand)]
    else t.recv.elim [] (fun jid => [s.opDomain (.job jid)])

/-- The domains that handle a packet: the host port pair of its endpoint, and the clusters that work on it (R409; DESIGN CHOICE,
log 158). -/
def State.domainsFor (s : State) (kind : ArrivalKind) (p : Packet) : List Nat :=
  match kind with
  | .control => [hostDomain (faEp p.dst)]
  | .result => (s.group? (bits p.e0.toNat 59 48)).elim [] (fun g => [chorusDomain g.home])
  | .data => hostDomain (faEp p.dst) :: if p.first then s.firstDomains (peerOf p) p else s.nextDomains (peerOf p)

/-- A packet is handled: one that consumes a PSN, a control packet, a RESULT. -/
def handlePacket (kind : ArrivalKind) (p : Packet) (tagOk : Bool) (vc : Nat) (s : State) : State :=
  match kind with
  | .data => dataPacket p tagOk vc s
  | .control => controlPacket (controlKind p.ptype) p s
  | .result => groupWake (bits p.e0.toNat 59 48) (onResult p s)

/-- A packet reaches its endpoint: domains that sleep wake, and until they are ON it waits, and what follows it on its flow behind it
(R409). -/
def packetArrives (kind : ArrivalKind) (p : Packet) (tagOk : Bool) (vc : Nat) (s : State) : State :=
  let doms := s.domainsFor kind p
  let s := doms.foldl (fun s n => wakeDomain n s) s
  if doms.any s.sleeps || s.qmg.asleep.any (fun x => decide (peerOf x.pkt = peerOf p)) then
    let x : Sleeper := { pkt := p, tagOk := tagOk, vc := vc, kind := kind, doms := doms, gen := s.cmd.gen }
    { s with qmg := { s.qmg with asleep := s.qmg.asleep ++ [x] } }
  else handlePacket kind p tagOk vc s

/-- The packets whose domains are ON go on, in arrival order (R409). -/
def sleepersGo (s : State) : State :=
  s.qmg.asleep.foldl
    (fun s x => asOf x.gen (packetArrives x.kind x.pkt x.tagOk x.vc) s) { s with qmg := { s.qmg with asleep := [] } }

/-- DATA_PACKET_ARRIVAL, under the configuration set of the packet's first lookup (R28, R63-R66, R201-R210). -/
def execDataPacketArrival (p : Packet) (tagOk : Bool) (vc : Nat) (s : State) : Host.Outcome State Fault Refusal :=
  .next (trnStep (fun s => asOf (s.arrivalGen p) (packetArrives .data p tagOk vc) s) s)

/-- RESULT_ARRIVAL, under the configuration set of its first lookup (R28): a RESULT of a partition with payload protection whose tag fails
is discarded and counted (R221, R247). -/
def execResultArrival (p : Packet) (tagOk : Bool) (s : State) : Host.Outcome State Fault Refusal :=
  .next (epStep (fun s =>
    if s.tagBad p tagOk then s.count (cntEp 0 10) 1
    else asOf (s.arrivalGen p) (packetArrives .result p tagOk 4) (takePassing p s)) s)

/-- RESULT_ACK_ARRIVAL: a CHORUS packet of CKIND RESULT_ACK, which transport carries on TC2 (R247). -/
def execResultAckArrival (p : Packet) (s : State) : Host.Outcome State Fault Refusal :=
  let p := { p with ptype := PType.chorus.code, first := true, last := true, tc := 2, e0 := word (at_ 60 ckResultAck + bits p.e0.toNat 59 0) }
  .next (trnStep (fun s => asOf (s.arrivalGen p) (packetArrives .data p true 4) s) s)

/-- RESULT_RETX_EXPIRY (R247, R248). -/
def execResultRetxExpiry (group dim : Nat) (s : State) : Host.Outcome State Fault Refusal := .next (epStep (resultRetx group dim) s)

/-- JOIN_TIMEOUT (R235, R248). -/
def execJoinTimeout (group : Nat) (s : State) : Host.Outcome State Fault Refusal :=
  .next (epStep (fun s => groupWake group (joinTimeout group s)) s)

/-- CHUNK_REDUCTION (R231, R240, R244). Contributions that waited for the limit on chunks in progress follow.
Operands wake a cluster that sleeps, and wait for it (R409, R434). -/
def execChunkReduction (group opseq block idx : Nat) (s : State) : Host.Outcome State Fault Refusal :=
  .next (epStep (fun s =>
    let dom := (s.group? group).elim 0 (fun g => chorusDomain g.home)
    if s.sleeps dom then wakeDomain dom s
    else laterGo group (s.seqIn group opseq) (reduceChunk group (s.seqIn group opseq) block idx s)) s)

/-! ### Control packets (R199) -/

/-- A control packet of a kind reaches its peer state, or waits for it in the pond, under the configuration set of its first lookup
(R28). -/
def controlRow (t : PType) (p : Packet) (s : State) : State :=
  let p := { p with ptype := t.code }
  asOf (s.arrivalGen p) (packetArrives .control p true 6) (takePassing p s)

/-- ACK_ARRIVAL (R208, R211, R327). -/
def execAckArrival (p : Packet) (s : State) : Host.Outcome State Fault Refusal := .next (trnStep (controlRow .ack p) s)

/-- NACK_ARRIVAL (R212). -/
def execNackArrival (p : Packet) (s : State) : Host.Outcome State Fault Refusal := .next (trnStep (controlRow .nack p) s)

/-- NOT_NOW_ARRIVAL (R214). -/
def execNotNowArrival (p : Packet) (s : State) : Host.Outcome State Fault Refusal := .next (trnStep (controlRow .notNow p) s)

/-- REFUSE_ARRIVAL (R210, R219). -/
def execRefuseArrival (p : Packet) (s : State) : Host.Outcome State Fault Refusal := .next (trnStep (controlRow .refuse p) s)

/-- RESYNC_ARRIVAL (R218, R219). -/
def execResyncArrival (p : Packet) (s : State) : Host.Outcome State Fault Refusal := .next (trnStep (controlRow .resync p) s)

/-- OPEN_REQ_ARRIVAL (R191-R193). -/
def execOpenReqArrival (p : Packet) (s : State) : Host.Outcome State Fault Refusal := .next (trnStep (controlRow .openReq p) s)

/-- OPEN_ACK_ARRIVAL (R192, R193). -/
def execOpenAckArrival (p : Packet) (s : State) : Host.Outcome State Fault Refusal := .next (trnStep (controlRow .openAck p) s)

/-- OPEN_NAK_ARRIVAL (R192, R193). -/
def execOpenNakArrival (p : Packet) (s : State) : Host.Outcome State Fault Refusal := .next (trnStep (controlRow .openNak p) s)

/-- CLOSE_REQ_ARRIVAL (R191). -/
def execCloseReqArrival (p : Packet) (s : State) : Host.Outcome State Fault Refusal := .next (trnStep (controlRow .closeReq p) s)

/-- CLOSE_ACK_ARRIVAL (R191). -/
def execCloseAckArrival (p : Packet) (s : State) : Host.Outcome State Fault Refusal := .next (trnStep (controlRow .closeAck p) s)

/-- CLOSE_NAK_ARRIVAL (R191). -/
def execCloseNakArrival (p : Packet) (s : State) : Host.Outcome State Fault Refusal := .next (trnStep (controlRow .closeNak p) s)

/-! ### Timers of transport (R191, R192, R206, R211, R214, R295) -/

/-- Something that concerns the send half toward a peer. -/
def onSendHalf (k : PeerKey) (f : SendHalf → State → State) (s : State) : State :=
  match (s.peer? k).bind (·.send) with
  | none => s
  | some h => f h s

/-- TRN_RETRY.UNREACH_TMO. -/
def State.unreachTmo (s : State) : Nat := us (atLeast1 (s.fld .trnRetry 0 27 8))

/-- Send the OPEN_REQ of a half again, unless UNREACH_TMO has passed since OPENING began (R192). -/
def openAgain (k : PeerKey) (h : SendHalf) (s : State) : State :=
  if h.openedAt + s.unreachTmo ≤ s.clk.now then openFailed k s else sendOpen k s

/-- OPEN_TIMEOUT: no answer within the retransmit timeout; the OPEN_REQ is sent again after the not-now backoff (R192). -/
def execOpenTimeout (k : PeerKey) (s : State) : Host.Outcome State Fault Refusal :=
  .next (trnStep (onSendHalf k (fun h s =>
    match h.timerAt with
    | none => s
    | some t =>
      if h.state ≠ .opening ∨ h.openHold then s
      else
        let b := s.openWait h
        openAgain k h (updSend k (fun h => { h with openBackoff := b }) (s.advanceTo (t + s.rto h + ns b))))) s)

/-- OPEN_BACKOFF_EXPIRY: the backoff of an OPEN_NAK has passed (R192, R214). -/
def execOpenBackoffExpiry (k : PeerKey) (s : State) : Host.Outcome State Fault Refusal :=
  .next (trnStep (onSendHalf k (fun h s =>
    match h.timerAt with
    | none => s
    | some t => if h.state ≠ .opening ∨ !h.openHold then s else openAgain k h (s.advanceTo (t + ns h.openBackoff)))) s)

/-- CLOSE_TIMEOUT: no answer to a CLOSE_REQ within the current retransmit timeout (R191, R211). -/
def execCloseTimeout (k : PeerKey) (s : State) : Host.Outcome State Fault Refusal :=
  .next (trnStep (fun s =>
    match s.peer? k with
    | none => s
    | some x =>
      match x.closing with
      | none => s
      | some t => closeFailed k (s.advanceTo (t + x.send.elim (us (atLeast1 (s.fld .trnRto 0 31 16))) s.timeout))) s)

/-- The retransmit timer of a half has expired (R211). -/
def retransmit (k : PeerKey) (h : SendHalf) (s : State) : State :=
  if h.active.isEmpty then updSend k (fun h => { h with timerAt := some s.clk.now }) s
  else if atLeast1 (s.fld .trnRetry 0 7 0) ≤ h.timeouts + 1 then abandon k 0 s
  else
    let s := updSend k (fun h => { h with timeouts := h.timeouts + 1, timerAt := some s.clk.now }) s
    resendAll k h.active s

/-- RETRANSMIT_TIMEOUT (R211). -/
def execRetransmitTimeout (k : PeerKey) (s : State) : Host.Outcome State Fault Refusal :=
  .next (trnStep (onSendHalf k (fun h s =>
    match h.timerAt with
    | none => s
    | some t => if h.state ≠ .opened ∨ h.out.isEmpty then s else retransmit k h (s.advanceTo (t + s.timeout h)))) s)

/-- ACK_DELAY_EXPIRY (R206). -/
def execAckDelayExpiry (k : PeerKey) (s : State) : Host.Outcome State Fault Refusal :=
  .next (trnStep (fun s =>
    match ((s.peer? k).bind (·.recv)).bind (·.unackedAt) with
    | none => s
    | some t => sendAck k (s.advanceTo (t + ns (s.fld .trnAck 0 31 16)))) s)

/-- NACK_DELAY_EXPIRY (R206). -/
def execNackDelayExpiry (k : PeerKey) (s : State) : Host.Outcome State Fault Refusal :=
  .next (trnStep (fun s =>
    match ((s.peer? k).bind (·.recv)).bind (·.gapAt) with
    | none => s
    | some t => sendNack k (s.advanceTo (t + ns (atLeast1 (s.fld .trnAck 0 47 32))))) s)

/-- NOT_NOW_BACKOFF_EXPIRY (R214). -/
def execNotNowBackoffExpiry (k : PeerKey) (psn : Pos) (s : State) : Host.Outcome State Fault Refusal :=
  .next (trnStep (onSendHalf k (fun h s =>
    match h.out.find? (fun o => o.pkt.psn = psn) with
    | none => s
    | some o =>
      match o.holdUntil with
      | none => s
      | some t => resendAll k [o] (s.advanceTo t))) s)

/-- UNREACH_TIMEOUT: no route for UNREACH_TMO, or OPENING for as long (R192, R219, R295). -/
def execUnreachTimeout (k : PeerKey) (s : State) : Host.Outcome State Fault Refusal :=
  .next (trnStep (onSendHalf k (fun h s =>
    match h.state, h.noRoute with
    | .opening, _ => openFailed k (s.advanceTo (h.openedAt + s.unreachTmo))
    | .opened, some t => abandon k 2 (s.advanceTo (t + s.unreachTmo))
    | _, _ => s)) s)

/-! ### Other timers (R129, R143, R183) -/

/-- MTC_UNEXP_TIMEOUT (R129). -/
def execMtcUnexpTimeout (ctx : Nat) (s : State) : Host.Outcome State Fault Refusal :=
  .next (epStep (fun s =>
    match (s.ctx? ctx).bind (·.refusedAt) with
    | none => s
    | some t => ctxToError ctx (s.advanceTo (t + us (atLeast1 (s.fld .mtcUnexpTmo 0 19 0))))) s)

/-- DEREG_TIMEOUT (R138, R143). -/
def execDeregTimeout (index : Nat) (s : State) : Host.Outcome State Fault Refusal :=
  .next (epStep (fun s =>
    match s.rma.regions.find? (fun r => r.index = index && r.state == .draining) with
    | none => s
    | some r => abandonRegion index (s.advanceTo (r.deregAt + us (atLeast1 (s.fld .rmaDeregTmo 0 19 0))))) s)

/-- INVALIDATION_ACKNOWLEDGED (R183, R185). -/
def execInvalidationAcknowledged (id : Nat) (s : State) : Host.Outcome State Fault Refusal := .next (trnStep (invalAck id) s)

end Sys2Proof.Machine
end

