-- ==== Sys2Proof/Machine/CmdObject.lean ====
section
/-! DEFINITION. Commands that create, change and destroy objects: endpoints, partitions, address spaces, queues, regions, match
contexts, chorus groups, locks, gate rules, and CMD_QUERY (R459). -/

namespace Sys2Proof.Machine

/-! ### Shared pieces -/

/-- The command acts on an object of its own function; the channels of R463 are no functions, and the gates alone restrict
them (R458). -/
def mayName (a : CmdArgs) (mid : Nat) : Bool := decide (a.mid = mid) || decide (0x800 ≤ a.mid)

/-- The function for which a command creates an object: INVALID when it does not exist, BUSY while it is in reset (log 58). -/
def State.creator (s : State) (a : CmdArgs) : Nat :=
  match s.func? a.mid with
  | none => csInvalid
  | some f => if f.draining.isSome then csBusy else csOk

/-- End a command with a status that is not OK. -/
def refuse (status : Nat) (s : State) : CmdEnd × State := (.fail status, s)

/-- A reserved bit of a parameter word is set: the masks name the bits of W1, W2, ... that the command uses; the words after them
must be 0 (R459). -/
def badWords (a : CmdArgs) (masks : List Nat) : Bool :=
  (argWords a).zipIdx.any (fun (w, i) => reservedSet w ((masks[i]?).getD 0))

def allBits : Nat := 2 ^ 64 - 1

/-- A read that a command makes of host memory at a bus address on a port (R458, R476, R482): refused with the gate and rule, failed as a
read of R399 is, or the bytes. The read is over within the step, so its number is free again. One that times out has waited for its
completion timeout (R581). -/
def adminRead (res : HostResult) (port mid : Nat) (pkey : Option Nat) (segs : List (Nat × Nat)) (s : State) :
    Except (Option Nat) (List Byte) × State :=
  match hostRefusal port 0 mid pkey segs s with
  | (some d, s) => (.error (some d), s)
  | (none, s) =>
    let id := s.hif.nextReq
    let addr := (segs[0]?).elim 0 (·.1)
    let s := s.emits [] (segs.flatMap (fun g => readParts (s.maxRead port mid) (.hostRead id port g.1 g.2 false)))
    match res with
    | .data bs => (.ok bs, s)
    | .unsupported | .faulted .. => (.error none, s)
    | .poisoned | .cut _ false => (.error none, reportPoisoned port addr (failedAccess port mid addr res s))
    | .timedOut | .cut _ true => (.error none, reportPoisoned port addr (failedAccess port mid addr res (s.advance (s.cplTmoOf port mid).1)))

/-! ### NOP and QUERY (R459) -/

def cmdNop : CmdBody := fun _ a _ s => if badWords a [] then refuse csInvalid s else (.ok, s)

/-- The record of a queue (R32, R75). -/
def queueRecord (q : Queue) (s : State) : List Nat :=
  let c := s.consumer q
  let p := match q.kind with
    | .cq => q.sink.pi
    | .eq => s.eqPi q.qid
    | _ => q.fetch.known
  [q.attr.base, q.attr.asid, q.attr.k, b1 q.attr.chain, q.attr.cq, q.attr.eq, q.attr.weight, q.attr.burst, q.attr.tc, b1 q.attr.pin,
    q.state.code, p.toNat, c.toNat]

/-- The record of a region (R137, R138). -/
def regionRecord (r : Region) : List Nat :=
  [r.ep, r.mid, r.pkey, r.group, r.asid, r.base, r.length, b1 r.localWrite, b1 r.rRead, b1 r.rWrite, b1 r.rAtomic, b1 r.scopeGroup,
    b1 r.pin, (match r.state with | .free => 0 | .valid => 1 | .draining => 2), r.variant]

/-- The send half of the record of a peer state; times in nanoseconds (R190; DESIGN CHOICE for the encodings, log 3). -/
def sendRecord (h : SendHalf) (s : State) : List Nat :=
  [h.openNum, h.nextPsn.toNat, (h.out.head?).elim h.nextPsn.toNat (·.pkt.psn.toNat), h.epoch, h.srtt.getD 0 / 10,
    h.timerAt.elim 0 (fun t => (s.clk.now - t) / 10), h.timeouts, (h.out.head?).elim 0 (·.backoff)]

/-- The receive half of the record of a peer state: the bitmap takes four words, the open operation three (R190; DESIGN CHOICE for the
encodings, log 3). -/
def recvRecord (r : RecvHalf) : List Nat :=
  [r.remoteOpen, r.head.toNat] ++ (List.range 4).map (fun i => bits r.map.toNat (64 * i + 63) (64 * i))
    ++ [r.op.elim 0 (·.first.toNat), r.op.elim 0 (·.last.toNat), r.op.elim 0 (·.status), r.epoch, r.unacked, r.ceCount]

/-- The record of a peer state: its contents in the order of R190, then its state, 0 CLOSED, 1 OPENING, 2 OPEN, as TRN_PEER_STAT gives it
(R190, R459). -/
def peerRecord (p : Peer) (s : State) : List Nat :=
  [p.remoteInc.getD 0, p.path.getD 0, p.keys.length] ++ p.send.elim (List.replicate 8 0) (fun h => sendRecord h s)
    ++ p.recv.elim (List.replicate 12 0) recvRecord
    ++ [p.send.elim 0 (fun h => match h.state with | .closed => 0 | .opening => 1 | .opened => 2)]

/-- What a command gives of a chorus group that it may name: one that its own function created or attached here, or one here for transit
alone (R458; DESIGN CHOICE for the last, log 210). -/
def mayNameGroup (a : CmdArgs) (g : Group) : Bool := g.owner.elim true (fun m => mayName a m)

/-- The record of a group, when the command may name it. -/
def groupMine (a : CmdArgs) (g : Group) (l : List Nat) : Except Nat (List Nat) := if mayNameGroup a g then .ok l else .error csProtection

/-- The words of the object that a CMD_QUERY names, or the status it fails with (R459). -/
def queryRecord (a : CmdArgs) (s : State) : Except Nat (List Nat) × State :=
  let id := bits a.w1.toNat 31 0
  let mine (mid : Nat) (l : List Nat) : Except Nat (List Nat) := if mayName a mid then .ok l else .error csProtection
  match bits a.w1.toNat 63 60 with
  | 0 => (match s.queue? (bits id 19 0) with
      | none => .error csNotFound
      | some q => mine q.attr.mid (queueRecord q s), s)
  | 1 => (match s.region? (bits id 23 0) with
      | none => .error csNotFound
      | some r => if r.state = .free then .error csNotFound else mine r.mid (regionRecord r), s)
  | 2 => (match s.partition? (bits id 15 0) with
      | none => .error csNotFound
      | some p => .ok [p.pkey, b1 p.protect, p.weight], s)
  | 3 => (match s.asid? (bits id 15 0) with
      | none => .error csNotFound
      | some x => mine x.mid [x.host, x.levels, x.root / 4096, x.adMode, x.pkey, x.group], s)
  | 4 => (match s.ctx? (bits id 15 0) with
      | none => .error csNotFound
      | some c => mine c.mid [c.ep, c.pkey, c.home, c.quota, c.eq,
          (match c.state with | .active => 1 | .error => 2 | .draining => 3), c.nextSeq, c.posted.length, c.unexp.length], s)
  | 5 => (match s.group? (bits id 11 0) with
      | none => .error csNotFound
      | some g => groupMine a g [g.num, g.pkey, g.crc.toNat, g.treeRoot.getD 0, g.total, g.home,
          (match g.state with | .joining => 1 | .active => 2 | .failed => 3 | .leaving => 4), g.locals.length, g.children.length,
          g.done], s)
  | 6 => (match s.lock? (bits id 13 0) with
      | none => .error csNotFound
      | some l => mine l.mid [l.pkey, (if l.owner.isSome then 2 else 1), l.owner.elim 0 (·.fa), l.owner.elim 0 (·.mid), b1 l.abandoned,
          l.waiters.length], s)
  | 7 =>
    match s.peer? { ep := bits id 31 29, tc := bits id 28 27, fa := bits id 26 0 } with
    | none => (.error csNotFound, s)
    | some p => (.ok (peerRecord p s), s)
  | 8 => (.ok [s.raw .sysId 0 0, s.raw .sysRev 0 0, s.cmd.gen, s.sys.runVersion], s)
  | _ => (.error csInvalid, s)

/-- CMD_QUERY: the 256-byte record is written to the buffer; over MCTP and in command packets its first two words are the results
(R459, R463). -/
def cmdQuery : CmdBody := fun _ a b s =>
  let outside := match b.chan with
    | .ring _ => false
    | _ => true
  if badWords a [mask 63 60 + mask 31 0, allBits] then refuse csInvalid s
  else
    match queryRecord a s with
    | (.error st, s) => refuse st s
    | (.ok l, s) =>
      let ws := (List.range 32).map (fun i => word ((l[i]?).getD 0))
      if outside then (.done csOk 0 (wd ws 0) (wd ws 1), s)
      else
        let addr := a.w2.toNat
        match hostRefusal (midPort a.mid) 1 a.mid none [(addr, 256)] s with
        | (some d, s) => (.done csProtection d 0 0, s)
        | (none, s) =>
          let port := midPort a.mid
          (.result 256, s.emits [] ((cutWords (s.writePayload port a.mid) addr ws).map (fun x => .record port a.mid x.1 x.2 false)))

/-! ### Endpoints, partitions, address spaces (R96, R134, R136, R164, R186) -/

/-- CMD_ENDPOINT_CONFIG. -/
def cmdEndpointConfig : CmdBody := fun _ a _ s =>
  let q := bits a.w1.toNat 51 32
  let set (s : State) : CmdEnd × State :=
    (.ok, { s with qmg := { s.qmg with epEq := setNth (midPort a.mid) (q, a.w2) s.qmg.epEq } })
  if badWords a [mask 51 32, allBits] then refuse csInvalid s
  else if q = 0 then set s
  else
    match s.queue? q with
    | none => refuse csNotFound s
    | some x =>
      if x.kind ≠ .eq then refuse csInvalid s
      else if !mayName a x.attr.mid then refuse csProtection s
      else set s

/-- CMD_PARTITION_CREATE. -/
def cmdPartitionCreate : CmdBody := fun _ a _ s =>
  let w := a.w1.toNat
  let pkey := bits w 15 0
  if badWords a [mask 16 0 + mask 31 24] ∨ bits w 31 24 = 0 then refuse csInvalid s
  else if (s.partition? pkey).isSome then refuse csBusy s
  else
    let p : Partition := { pkey := pkey, protect := bit w 16, weight := bits w 31 24 }
    (.ok, { s with rma := { s.rma with partitions := s.rma.partitions ++ [p] } })

/-- Something of a partition exists: a region, queue, address space or match context (R136). -/
def State.partitionUsed (s : State) (pkey : Nat) : Bool :=
  s.rma.regions.any (fun r => r.pkey == pkey && r.state != .free) || s.qmg.queues.any (fun q => q.attr.pkey == pkey)
    || s.xlt.asids.any (fun x => x.pkey == pkey) || s.svc.ctxs.any (fun c => c.pkey == pkey)

/-- CMD_PARTITION_DESTROY. -/
def cmdPartitionDestroy : CmdBody := fun _ a _ s =>
  let pkey := bits a.w1.toNat 15 0
  if badWords a [mask 15 0] then refuse csInvalid s
  else if (s.partition? pkey).isNone then refuse csNotFound s
  else if s.partitionUsed pkey then refuse csBusy s
  else (.ok, { s with rma := { s.rma with partitions := s.rma.partitions.filter (fun p => p.pkey ≠ pkey) } })

/-- CMD_ASID_CREATE (R134, R164). An ASID that exists is BUSY whether the named partition exists or not (DESIGN CHOICE, log 178),
and a partition that does not exist is NOT_FOUND whatever ROOT and AD_MODE are (DESIGN CHOICE, log 205). -/
def cmdAsidCreate : CmdBody := fun _ a _ s =>
  let w := a.w1.toNat
  let v := a.w2.toNat
  let h := midPort a.mid
  let x : Asid := { asid := bits w 15 0, mid := a.mid, host := h, levels := bits v 2 0, root := at_ 12 (bits v 51 12), adMode := bits v 5 4, pkey := bits w 47 32, group := bits w 27 16 }
  if badWords a [mask 27 0 + mask 47 32, mask 51 12 + mask 5 4 + mask 2 0] ∨ x.levels < 3 ∨ 5 < x.levels ∨ x.adMode = 3 then refuse csInvalid s
  else if s.creator a ≠ csOk then refuse (s.creator a) s
  else if (s.asid? x.asid).isSome then refuse csBusy s
  else if (s.partition? x.pkey).isNone then refuse csNotFound s
  else if s.deviceWindow h x.root ∨ (x.adMode = 1 ∧ !s.atomicOn h a.mid) then refuse csInvalid s
  else (.ok, { s with xlt := { s.xlt with asids := s.xlt.asids ++ [x] } })

/-- CMD_ASID_DESTROY (R136, R186). -/
def cmdAsidDestroy : CmdBody := fun _ a _ s =>
  let n := bits a.w1.toNat 15 0
  if badWords a [mask 15 0] then refuse csInvalid s
  else
    match s.asid? n with
    | none => refuse csNotFound s
    | some x =>
      if !mayName a x.mid then refuse csProtection s
      else if s.rma.regions.any (fun r => r.asid == n && r.state != .free) || s.qmg.queues.any (fun q => q.attr.asid == n) then refuse csBusy s
      else
        let c : InvalScope := { kind := 1, asid := n, base := 0, pages := 0, wc := true }
        let s := invalResume c (invalApply c (invalWake s))
        (.ok, { s with xlt := { s.xlt with asids := s.xlt.asids.filter (fun y => y.asid ≠ n) } })

/-! ### Queues (R31-R33, R58, R73, R74, R583) -/

/-- Contexts that are pinned (R58). -/
def State.pinned (s : State) : Nat := (s.qmg.queues.filter (fun q => q.attr.pin)).length

/-- One more context may be pinned: values of QMG_PIN_LIMIT above 16,384 are taken as 16,384 (R58, R75). -/
def State.pinRoom (s : State) : Bool := decide (s.pinned < min 16384 (s.raw .qmgPinLimit 0 0))

/-- A free entry of the context cache, where need be by writing back the least recently used context that may be evicted; none when
there is neither (R57, R73). That this eviction ends before the command goes on is the model's (DESIGN CHOICE, log 127). -/
def cacheEntry (s : State) : Option State :=
  if s.cacheUsed < Config.contextCache then some s
  else (oldestQueue (s.qmg.queues.filter s.evictable)).map (fun q => updQueue q.qid (fun q => { q with resid := .evicted, saved := q.image }) s)

/-- The home cluster of a new queue: one with an active MPE, a choice that the spec leaves open (R32, log 3). -/
def pickHome (s : State) : Nat × State :=
  let l := (List.range 24).filter (fun c => decide (0 < s.activeMpes c))
  let (v, s) := s.drawNat
  (nth l (v % atLeast1 l.length), s)

/-- The prefetch state of a ring that has been read up to a position (R46). -/
def fetchNew (known pos : Pos) : Fetch :=
  { known := known, pos := pos, running := false, misses := 0, reads := [], single := false, waitGap := false, held := none, taken := [] }

/-- The same for a ring that has been read before: its reads under way are discarded (R47). -/
def Fetch.restart (f : Fetch) (known pos : Pos) : Fetch := { fetchNew known pos with reads := f.discard.reads }

def sinkAt (pi ci : Pos) : Sink :=
  { pi := pi, ci := ci, reserved := 0, refusal := none, armed := none, recWait := [], recHeld := false, slotWait := [], solicitedAt := [], evWait := [],
    lost := 0, vecReady := true }

/-- The kind of CMD_QUEUE_CREATE (R459). -/
def queueKind (n : Nat) : Option QKind :=
  match n with
  | 1 => some .eq
  | 2 => some .sq
  | 3 => some .srq
  | 4 => some .cq
  | _ => none

/-- A QID belongs to the range of its kind (R31). -/
def qidFits (k : QKind) (qid : Nat) : Bool := if k = .eq then decide (0 < qid) && decide (qid < 0x1000) else decide (0x1000 ≤ qid)

/-- A queue may be bound as the EQ of an endpoint, or is 0 (R96). -/
def State.eqFits (s : State) (ep q : Nat) : Bool := q == 0 || (s.queue? q).elim false (fun x => x.kind == .eq && x.attr.ep == ep)

/-- The attributes of a queue that a CMD_QUEUE_CREATE asks for; those that do not apply to its kind are 0 (R32, log 59). -/
def createAttr (k : QKind) (a : CmdArgs) (x : Asid) (home : Nat) : QAttr :=
  let w := a.w1.toNat
  let v := a.w4.toNat
  let work := k == .sq || k == .srq
  { mid := a.mid, ep := midPort a.mid, asid := x.asid, pkey := x.pkey, group := x.group, base := a.w2.toNat, k := bits w 30 26,
    chain := work && bit w 24, cq := if work then bits a.w3.toNat 19 0 else 0, eq := if k = .eq then 0 else bits a.w3.toNat 51 32,
    weight := if work then bits v 7 0 else 0, burst := if work then bits v 14 8 else 0, tc := if k = .sq then bits v 17 16 else 0,
    pin := bit w 25, vector := if k = .eq then bits v 31 20 else 0, home := home }

/-- Parameters of CMD_QUEUE_CREATE in range (R31, R32, R96, R394). -/
def State.createFits (s : State) (k : QKind) (a : CmdArgs) : Bool :=
  let w := a.w1.toNat
  let v := a.w4.toNat
  let ep := midPort a.mid
  let work := k == .sq || k == .srq
  qidFits k (bits w 19 0) && decide (4 ≤ bits w 30 26) && decide (bits w 30 26 ≤ 16) && decide (a.w2.toNat % 4096 = 0)
    && (!work || (decide (1 ≤ bits v 7 0) && decide (1 ≤ bits v 14 8) && decide (bits v 14 8 ≤ 64)
      && (s.queue? (bits a.w3.toNat 19 0)).elim false (fun c => c.kind == .cq && c.attr.ep == ep)))
    && (k != .sq || decide (bits v 17 16 ≤ 2))
    && (k == .eq || s.eqFits ep (bits a.w3.toNat 51 32))
    && (k != .eq || (s.func? a.mid).elim false (fun f => decide (bits v 31 20 < f.tableSize)))

/-- A queue as CMD_QUEUE_CREATE leaves it: its context written, positions 0, a cache entry allocated (R73). -/
def newQueue (qid : Nat) (k : QKind) (attr : QAttr) (use : Nat) : Queue :=
  { qid := qid, kind := k, attr := attr, state := .active, ci := 0, fetch := fetchNew 0 0, sink := sinkAt 0 0, resid := .resident,
    lastUse := use, due := false, drainEvt := false, saved := { attr := attr, state := .active, ci := 0, sinkPi := 0, sinkCi := 0 }, te := 0,
    reset := false }

/-- CMD_QUEUE_CREATE. -/
def cmdQueueCreate : CmdBody := fun _ a _ s =>
  let w := a.w1.toNat
  let qid := bits w 19 0
  match queueKind (bits w 23 20) with
  | none => refuse csInvalid s
  | some k =>
    if badWords a [mask 30 0 + mask 47 32, allBits, mask 19 0 + mask 51 32, mask 14 0 + mask 17 16 + mask 31 20] then refuse csInvalid s
    else if s.creator a ≠ csOk then refuse (s.creator a) s
    else
      match s.asid? (bits w 47 32) with
      | none => refuse csNotFound s
      | some x =>
        if !mayName a x.mid then refuse csProtection s
        else if !s.createFits k a then refuse csInvalid s
        else if (s.queue? qid).isSome then refuse csBusy s
        else if bit w 25 && !s.pinRoom then refuse csNoResource s
        else
          match cacheEntry s with
          | none => refuse csNoResource s
          | some s =>
            let (home, s) := pickHome s
            let s := { s with qmg := { s.qmg with queues := s.qmg.queues ++ [newQueue qid k (createAttr k a x home) s.qmg.useClock] } }
            let s := if k = .eq then (s.setReg .qmgEqPi 0 qid 0).setReg .qmgEqCi 0 qid 0 else s
            (.result home, s)

/-- CMD_QUEUE_MODIFY with ACTION 0x0 (R32, R58, R96). The change mask names PIN but no field carries its new value: PIN is inverted
(log 60). -/
def modifyAttributes (q : Queue) (a : CmdArgs) (s : State) : CmdEnd × State :=
  let m := bits a.w1.toNat 28 24
  let v := a.w4.toNat
  let work := q.kind == .sq || q.kind == .srq
  let bad := (bit m 0 && (q.kind == .eq || !s.eqFits q.attr.ep (bits a.w3.toNat 51 32)))
    || (bit m 1 && (!work || decide (bits v 7 0 = 0)))
    || (bit m 2 && (!work || decide (bits v 14 8 = 0) || decide (64 < bits v 14 8)))
    || (bit m 3 && (q.kind != .sq || decide (bits v 17 16 = 3)))
  if bad then refuse csInvalid s
  else if bit m 4 && !q.attr.pin && !s.pinRoom then refuse csNoResource s
  else
    let set (x : QAttr) : QAttr := { x with
      eq := if bit m 0 then bits a.w3.toNat 51 32 else x.eq
      weight := if bit m 1 then bits v 7 0 else x.weight
      burst := if bit m 2 then bits v 14 8 else x.burst
      tc := if bit m 3 then bits v 17 16 else x.tc
      pin := if bit m 4 then !x.pin else x.pin }
    let s := updQueue q.qid (fun q => { q with attr := set q.attr }) s
    (.ok, if bit m 4 && !q.attr.pin then startFetch q.qid s else s)

/-- STOP (R73, R583). -/
def modifyStop (q : Queue) (s : State) : CmdEnd × State :=
  if q.state ≠ .active then refuse csBusy s
  else
    let work := q.kind == .sq || q.kind == .srq
    let s := updQueue q.qid (fun q => { q with state := .stopped, drainEvt := work, fetch := q.fetch.restart q.fetch.known q.ci }) s
    (.ok, queueIdle q.qid s)

/-- START (R46, R73). -/
def modifyStart (q : Queue) (s : State) : CmdEnd × State :=
  if q.state ≠ .stopped then refuse csBusy s
  else
    let s := dropDrained q.qid (updQueue q.qid (fun q => { q with state := .active, drainEvt := false }) s)
    match q.kind with
    | .cq => (.ok, cqDrain q.qid (q.sink.recWait.length + 1) s)
    | .eq => (.ok, eqRetry q.qid s)
    | _ => (.ok, startRun q.qid (wakeDomain (engineDomain q.attr.home) s))

/-- An accepted job of a queue is outstanding; of a CQ, a job holds a slot (R73, R582). -/
def State.outstanding? (s : State) (q : Queue) : Bool :=
  match q.kind with
  | .cq => decide (q.sink.reserved ≠ 0)
  | .eq => false
  | _ => !(s.liveJobs q.qid).isEmpty

/-- RECOVER (R73, R582). The positions of an EQ are written whole, so OVERFLOW is cleared, while the number of events lost stays for the
QUEUE_OVERFLOW event (DESIGN CHOICE, log 125). It is no write of QMG_EQ_CI by software, so whether the next record sends the vector stays
as it is (R394). -/
def modifyRecover (q : Queue) (a : CmdArgs) (s : State) : CmdEnd × State :=
  let p : Pos := BitVec.ofNat 32 (bits a.w5.toNat 63 32)
  let c : Pos := BitVec.ofNat 32 (bits a.w5.toNat 31 0)
  if q.state ≠ .error ∨ s.outstanding? q then refuse csBusy s
  else if q.size < dist p c then refuse csInvalid s
  else
    let s := updQueue q.qid (fun q => { q with
      state := .active
      reset := false
      ci := c
      fetch := q.fetch.restart p c
      sink := { sinkAt p c with evWait := q.sink.evWait, lost := q.sink.lost, slotWait := q.sink.slotWait, vecReady := q.sink.vecReady } }) s
    match q.kind with
    | .eq => (.ok, eqFlush q.qid ((s.setReg .qmgEqPi 0 q.qid p.toNat).setReg .qmgEqCi 0 q.qid c.toNat))
    | .cq => (.ok, cqWake q.qid s)
    | _ => (.ok, startRun q.qid (wakeDomain (engineDomain q.attr.home) s))

/-- CMD_QUEUE_MODIFY. -/
def cmdQueueModify : CmdBody := fun _ a _ s =>
  let w := a.w1.toNat
  let act := bits w 23 20
  if badWords a [mask 28 0, 0, mask 19 0 + mask 51 32, mask 14 0 + mask 17 16 + mask 31 20, if act = 3 then allBits else 0] then refuse csInvalid s
  else
    match s.queue? (bits w 19 0) with
    | none => refuse csNotFound s
    | some q =>
      if !mayName a q.attr.mid then refuse csProtection s
      else if q.state = .draining then refuse csBusy s
      else
        match act with
        | 0 => modifyAttributes q a s
        | 1 => modifyStop q s
        | 2 => modifyStart q s
        | 3 => modifyRecover q a s
        | _ => refuse csInvalid s

/-- Receives that a queue posted and that have not matched are removed with CANCELED (R94). -/
def cancelPosted (qid : Nat) (s : State) : State :=
  let l := s.svc.ctxs.flatMap (fun c => c.posted.filter (fun r => r.qid = qid))
  let s := { s with svc := { s.svc with ctxs := s.svc.ctxs.map (fun c => { c with posted := c.posted.filter (fun r => r.qid ≠ qid) }) } }
  l.foldl (fun s r => endJob r.jid stCanceled s) s

/-- CMD_QUEUE_DESTROY (R73, R74, R124, R248, R583). -/
def cmdQueueDestroy : CmdBody := fun _ a _ s =>
  let qid := bits a.w1.toNat 19 0
  if badWords a [mask 19 0] then refuse csInvalid s
  else
    match s.queue? qid with
    | none => refuse csNotFound s
    | some q =>
      let bound := s.qmg.queues.any (fun x => (q.kind == .cq && (x.kind == .sq || x.kind == .srq) && x.attr.cq == qid)
        || (q.kind == .eq && x.kind != .eq && x.attr.eq == qid))
      if !mayName a q.attr.mid then refuse csProtection s
      else if bound ∨ q.state = .draining then refuse csBusy s
      else
        let work := q.kind == .sq || q.kind == .srq
        let s := dropDrained qid (updQueue qid (fun q => { q with
          state := .draining
          drainEvt := work && !q.reset
          fetch := q.fetch.restart q.fetch.known q.ci }) s)
        let s := if q.kind = .sq then memberQueueLost qid (withdrawRts qid (cancelPosted qid s)) else s
        (.wait, queueIdle qid s)

/-- CMD_QUEUE_EVICT (R57, R59). -/
def cmdQueueEvict : CmdBody := fun _ a _ s =>
  let qid := bits a.w1.toNat 19 0
  if badWords a [mask 19 0] then refuse csInvalid s
  else
    match s.queue? qid with
    | none => refuse csNotFound s
    | some q =>
      if !mayName a q.attr.mid then refuse csProtection s
      else if q.resid = .evicted then (.ok, s)
      else if !s.evictable q then refuse csBusy s
      else
        let s := evictStart qid s
        if (s.queue? qid).elim true (fun q => q.resid != .evicting) then refuse csHwFailure s else (.wait, s)

/-! ### Regions and invalidations (R137-R144, R182, R183) -/

/-- CMD_REGION_REGISTER (R138-R142). -/
def cmdRegionRegister : CmdBody := fun _ a b s =>
  let w := a.w1.toNat
  let i := bits w 23 0
  let len := a.w3.toNat
  if badWords a [mask 23 0 + mask 53 32, allBits, allBits] then refuse csInvalid s
  else if s.creator a ≠ csOk then refuse (s.creator a) s
  else
    match s.asid? (bits w 47 32) with
    | none => refuse csNotFound s
    | some x =>
      if !mayName a x.mid then refuse csProtection s
      else if len = 0 ∨ 2 ^ 46 < len ∨ 2 ^ vaBits x.levels < a.w2.toNat + len ∨ (i ≠ 0 ∧ s.keyringSize ≤ i) then refuse csInvalid s
      else if i ≠ 0 ∧ (s.region? i).elim false (fun r => r.state != .free) then refuse csBusy s
      else
        let r : Region := { index := i, variant := 0, state := .valid, ep := midPort a.mid, mid := a.mid, pkey := x.pkey, group := x.group, asid := x.asid, base := a.w2.toNat, length := len, localWrite := bit w 48, rRead := bit w 49, rWrite := bit w 50, rAtomic := bit w 51, scopeGroup := bit w 52, pin := bit w 53, deregAt := 0 }
        match b.chan, (if i ≠ 0 then some i else s.freeIndex) with
        | _, none => refuse csNoResource s
        | .ring pos, some n =>
          if r.pin then
            let tok := s.xlt.nextTok
            (.wait, pinGo tok { s with xlt := { s.xlt with pinned := s.xlt.pinned ++ [(tok, pos, r, r.base)], nextTok := tok + 1 } })
          else
            let (key, s) := takeIndex n r s
            (.result key, s)
        | _, some n =>
          let (key, s) := takeIndex n r s
          (.result key, s)

/-- CMD_REGION_DEREGISTER (R138, R143). -/
def cmdRegionDeregister : CmdBody := fun _ a _ s =>
  let key := bits a.w1.toNat 31 0
  if badWords a [mask 31 0] then refuse csInvalid s
  else
    match s.region? (key / 256) with
    | none => refuse csNotFound s
    | some r =>
      if r.state ≠ .valid ∨ r.variant ≠ key % 256 then refuse csNotFound s
      else if !mayName a r.mid then refuse csProtection s
      else
        (.wait, regionsSettle (updRegion r.index (fun r => r.leave s.clk.now) s))

/-- CMD_XLT_INVAL (R182, R183, R185). Base and pages are looked at for RANGE alone. -/
def cmdXltInval : CmdBody := fun _ a b s =>
  let w := a.w1.toNat
  let kind := bits w 17 16
  let c : InvalScope := { kind := kind, asid := bits w 15 0, base := a.w2.toNat, pages := a.w3.toNat, wc := bit w 18 }
  if badWords a [mask 18 0, allBits, allBits] ∨ kind = 3 then refuse csInvalid s
  else if kind = 0 ∧ (c.base % 4096 ≠ 0 ∨ c.pages = 0 ∨ 2 ^ 45 < c.pages) then refuse csInvalid s
  else if kind = 2 then (.wait, invalAsk b.chan c s)
  else
    match s.asid? c.asid with
    | none => refuse csNotFound s
    | some x => if mayName a x.mid then (.wait, invalAsk b.chan c s) else refuse csProtection s

/-! ### Match contexts (R101, R131, R132) -/

/-- The match unit with the most free on-chip entries, the lowest number among equals, for which the rule gives no order (R101; DESIGN
CHOICE, log 132). -/
def State.freestUnit (s : State) : Nat :=
  let free (u : Nat) : Nat := Config.matchEntries - s.unitEntries u
  (List.range 24).foldl (fun b u => if free b < free u then u else b) 0

/-- CMD_MATCH_CONTEXT_CREATE (R101). A context that exists is BUSY whether the named partition exists or not (DESIGN CHOICE, log 178). -/
def cmdMatchContextCreate : CmdBody := fun _ a _ s =>
  let w := a.w1.toNat
  let v := a.w2.toNat
  let n := bits w 15 0
  let home := bits w 20 16
  let q := bits v 51 32
  if badWords a [mask 20 0 + mask 47 32, mask 23 0 + mask 51 32] ∨ (24 ≤ home ∧ home ≠ 31) ∨ 2 ^ 23 < bits v 23 0 then refuse csInvalid s
  else if s.creator a ≠ csOk then refuse (s.creator a) s
  else if (s.ctx? n).isSome then refuse csBusy s
  else if (s.partition? (bits w 47 32)).isNone then refuse csNotFound s
  else if q = 0 ∨ !s.eqFits (midPort a.mid) q then refuse csInvalid s
  else
    let home := if home = 31 then s.freestUnit else home
    let c : MatchCtx := { num := n, mid := a.mid, ep := midPort a.mid, pkey := bits w 47 32, home := home, quota := bits v 23 0, eq := q, state := .active, nextSeq := 0, posted := [], unexp := [], refusedAt := none }
    (.result home, { s with svc := { s.svc with ctxs := s.svc.ctxs ++ [c] } })

/-- CMD_MATCH_CONTEXT_DESTROY (R132). -/
def cmdMatchContextDestroy : CmdBody := fun _ a _ s =>
  let n := bits a.w1.toNat 15 0
  if badWords a [mask 15 0] then refuse csInvalid s
  else
    match s.ctx? n with
    | none => refuse csNotFound s
    | some c =>
      if !mayName a c.mid then refuse csProtection s
      else if c.state = .draining then refuse csBusy s
      else
        let s := updCtx n (fun c => { c with
          state := .draining
          posted := []
          refusedAt := none
          unexp := c.unexp.filter (fun u => u.claimed.isSome) }) s
        let s := c.posted.foldl (fun s r => endJob r.jid stCanceled s) s
        let rts := c.unexp.filter (fun u => u.rts && u.claimed.isNone)
        let eager := (c.unexp.filter (fun u => !u.rts && u.claimed.isNone)).length
        let s := { s with svc := { s.svc with unexpLost := s.svc.unexpLost + eager } }
        let s := rts.foldl (fun s u => sendFin u.peer u.psn u.pkey u.group stCanceled s) s
        (.wait, ctxDrained n s)

/-! ### Chorus groups (R227-R236) -/

/-- A member of a table: FA and QID (R227). -/
def memberOf (w : Word) : Fa × Nat := (bits w.toNat 26 0, bits w.toNat 51 32)

/-- Coordinates of a fabric address lie within the dimensions and line lengths in use (R228). -/
def State.faFits (s : State) (fa : Fa) : Bool :=
  let dims := s.raw .rteDims 0 0
  (List.range 4).all (fun d => if d < s.nDims then decide (coordAt fa d < lenOf dims d) else coordAt fa d == 0)

/-- A member table that R228 accepts. -/
def State.tableFits (s : State) (pkey root : Nat) (ws : List Word) : Bool :=
  let l := ws.map memberOf
  ws.all (fun w => !reservedSet w (mask 51 32 + mask 26 0)) && decide (l.Nodup) && l.all (fun m => s.faFits m.1) && decide (root < l.length)
    && l.all (fun m => decide (faCoord m.1 ≠ s.coord)
      || (s.queue? m.2).elim false (fun q => q.kind == .sq && q.attr.ep == faEp m.1 && q.attr.pkey == pkey))

/-- The members of a group that this device hosts: rank, QID, FA. -/
def State.localMembers (s : State) (l : List (Fa × Nat)) : List (Nat × Nat × Fa) :=
  (l.zipIdx.filter (fun x => faCoord x.1.1 = s.coord)).map (fun x => (x.2, x.1.2, x.1.1))

/-- Install or attach a group from its member table (R228, R233-R236). -/
def chorusInstall (mid gn pkey root : Nat) (ws : List Word) (s : State) : CmdEnd × State :=
  let l := ws.map memberOf
  let crc := word (crc64 0 (bytesOf ws))
  let rootFa := (l[root]?).elim 0 (·.1)
  let r := faCoord rootFa
  let n := s.nDims
  let nodes := treeNodes n r (l.map (fun m => faCoord m.1)).eraseDups
  let kids := childrenOf n r s.coord nodes
  let up := (parentOf n s.coord r).map (fun p =>
    ((childrenOf n r p.1 nodes).length, (l.filter (fun m => faCoord m.1 = p.1)).length))
  let mem := s.localMembers l
  let ranks := l.zipIdx.map (fun x => (x.2, faCoord x.1.1))
  match s.group? gn with
  | some g =>
    if g.pkey ≠ pkey ∨ g.crc ≠ crc then refuse csBusy s
    else if !g.locals.isEmpty ∨ g.state = .failed ∨ g.state = .leaving then refuse csBusy s
    else
      let s := updGroup gn (fun g => { g with
        owner := some mid, treeRoot := some root, locals := mem, ranks := ranks, expectLocal := mem.length, expectChildren := kids.length, named := kids, child := up }) s
      if g.state = .active then (.result g.home, downGo gn s) else (.wait, s)
  | none =>
    if 4096 ≤ s.svc.groups.length then refuse csNoResource s
    else
      let (flows, s) := makeFlows (s.childDims rootFa) s
      let g : Group := { num := gn, pkey := pkey, owner := some mid, treeRoot := some root, crc := crc, rootFa := rootFa, total := l.length, state := .joining, home := s.chorusHome, locals := mem, ranks := ranks, expectLocal := mem.length, children := [], expectChildren := kids.length, waiting := [], child := up, named := kids, flows := flows, head := BitVec.allOnes 32, headEpoch := 2 ^ 32 - 1, parentOpen := 0, nextOpseq := [], done := 0, ahead := [], down := [], ops := [], activeAt := 0, failedAt := 0 }
      let s := { s with svc := { s.svc with groups := s.svc.groups ++ [g] } }
      if (g.parent s).isNone then (.wait, joinDone gn s) else (.wait, sendJoin g s)

/-- The read of a member table faulted or failed: DETAIL is the level and cause (R177, R399, R460; a read that fails counts as a page whose
cause is HOST_READ, DESIGN CHOICE, log 210). -/
def tableFault (x : Asid) (va : Nat) (res : HostResult) (s : State) : CmdEnd × State :=
  match res with
  | .faulted lvl c addr =>
    (.done csXltFault (at_ 4 (lvl % 8) + (xcauseOf c).code) 0 0, reportFault (xcauseOf c) (lvl % 8) addr va x.asid 0 x.host false s)
  | _ => (.done csXltFault XCause.hostRead.code 0 0, s)

/-- CMD_CHORUS_CREATE: the member table is read in the address space named (R228). -/
def cmdChorusCreate : CmdBody := fun env a _ s =>
  let w := a.w1.toNat
  let v := a.w3.toNat
  let n := bits v 18 0
  if badWords a [mask 11 0 + mask 49 16, allBits, mask 18 0 + mask 47 32] ∨ n = 0 ∨ 262144 < n then refuse csInvalid s
  else if (s.partition? (bits w 31 16)).isNone then refuse csNotFound s
  else
    match s.asid? (bits v 47 32) with
    | none => refuse csNotFound s
    | some x =>
      if !mayName a x.mid then refuse csProtection s
      else
        match adminRead env.read x.host a.mid (some (bits w 31 16)) env.segs s with
        | (.error (some d), s) => (.done csProtection d 0 0, s)
        | (.error none, s) => tableFault x a.w2.toNat env.read s
        | (.ok bs, s) =>
          let ws := wordsOf n bs
          if (s.group? (bits w 11 0)).elim false (fun g => !mayNameGroup a g) then refuse csProtection s
          else if s.tableFits (bits w 31 16) (bits w 49 32) ws then
            chorusInstall a.mid (bits w 11 0) (bits w 31 16) (bits w 49 32) ws s
          else refuse csInvalid s

/-- CMD_CHORUS_DESTROY (R236, R472). -/
def cmdChorusDestroy : CmdBody := fun _ a _ s =>
  let gn := bits a.w1.toNat 11 0
  if badWords a [mask 11 0] then refuse csInvalid s
  else
    match s.group? gn with
    | none => refuse csNotFound s
    | some g =>
      if !mayNameGroup a g then refuse csProtection s
      else if g.state = .joining ∨ g.locals.any (fun m => decide (0 < s.chorusLive m.2.1 gn)) then refuse csBusy s
      else (.wait, leaveCheck gn (updGroup gn (fun g => { g with state := .leaving, locals := [] }) s))

/-! ### Locks and device variables (R254, R257, R263, R268) -/

/-- Lock numbers. -/
def lockCount : Nat := 16384

/-- Slots that a run of variable slots and a range have in common leave the run: what is left of it. -/
def cutRun (first count : Nat) (r : VarRun) : List VarRun :=
  let low : VarRun := { r with count := min r.count (first - r.first) }
  let high : VarRun := { r with first := max r.first (first + count), count := r.first + r.count - max r.first (first + count) }
  [low, high].filter (fun x => decide (0 < x.count))

/-- Allocated slots of a range. -/
def State.varsIn (s : State) (first count : Nat) : Nat :=
  sumBy (fun r => min (r.first + r.count) (first + count) - max r.first first) s.svc.varRuns

/-- CMD_LOCK_ALLOC. -/
def cmdLockAlloc : CmdBody := fun _ a _ s =>
  let w := a.w1.toNat
  let pkey := bits w 47 32
  let first := a.w2.toNat
  let count := a.w3.toNat
  let top := if bit w 0 then s.varBytes / 16 else lockCount
  if badWords a [1 + mask 47 32, allBits, allBits] ∨ count = 0 ∨ top < first + count then refuse csInvalid s
  else if (s.partition? pkey).isNone then refuse csNotFound s
  else if bit w 0 then
    if s.varsIn first count ≠ 0 then refuse csBusy s
    else
      (.ok, { s with svc := { s.svc with
        varRuns := s.svc.varRuns ++ [{ first := first, count := count, pkey := pkey, mid := a.mid }]
        vars := s.svc.vars.filter (fun v => decide (v.1 < first) || decide (first + count ≤ v.1)) } })
  else if s.svc.locks.any (fun l => decide (first ≤ l.num) && decide (l.num < first + count)) then refuse csBusy s
  else
    let fresh := (List.range count).map (fun i : Nat =>
      ({ num := first + i, pkey := pkey, mid := a.mid, owner := none, abandoned := false, waiters := [], inherited := none } : Lock))
    (.ok, { s with svc := { s.svc with locks := s.svc.locks ++ fresh } })

/-- A lock taken by FORCE: its waiters receive CANCELED, its owner counts as reset (R257, R263). -/
def forceFree (n : Nat) (s : State) : State :=
  match s.lock? n with
  | none => s
  | some l =>
    let s := boostCheck n (updLock n (fun l => { l with waiters := [] }) s)
    let s := l.waiters.foldl (fun s w => sendLockResp l w rkCanceled 0 false w.reqPsn.toNat s) s
    holderReset n s

/-- CMD_LOCK_FREE. -/
def cmdLockFree : CmdBody := fun _ a _ s =>
  let w := a.w1.toNat
  let first := a.w2.toNat
  let count := a.w3.toNat
  let top := if bit w 0 then s.varBytes / 16 else lockCount
  if badWords a [3, allBits, allBits] ∨ count = 0 ∨ top < first + count then refuse csInvalid s
  else if bit w 0 then
    if s.varsIn first count ≠ count then refuse csNotFound s
    else if s.svc.varRuns.any (fun r => decide (r.first < first + count) && decide (first < r.first + r.count) && !mayName a r.mid) then
      refuse csProtection s
    else
      let cut (r : VarRun) : List VarRun :=
        if r.first + r.count ≤ first ∨ first + count ≤ r.first then [r] else cutRun first count r
      (.ok, { s with svc := { s.svc with
        varRuns := s.svc.varRuns.flatMap cut
        vars := s.svc.vars.filter (fun v => decide (v.1 < first) || decide (first + count ≤ v.1)) } })
  else
    let mine (l : Lock) : Bool := decide (first ≤ l.num) && decide (l.num < first + count)
    let l := s.svc.locks.filter mine
    if l.length ≠ count then refuse csNotFound s
    else if l.any (fun x => !mayName a x.mid) then refuse csProtection s
    else if !bit w 1 && l.any (fun x => x.owner.isSome) then refuse csBusy s
    else
      let s := l.foldl (fun s x => forceFree x.num s) s
      (.ok, { s with svc := { s.svc with locks := s.svc.locks.filter (fun x => !mine x) } })

/-! ### Gate rules (R479, R480, R486) -/

/-- CMD_GATE_WRITE. A rule of a host-memory window replaces the former one at once, and the command completes when no access checked
against that remains unissued (R486). -/
def cmdGateWrite : CmdBody := fun _ a b s =>
  let w := a.w1.toNat
  let gate := bits w 6 0
  let rule := bits w 13 8
  let old := s.rule gate rule
  let w0 := a.w2
  let bad := badWords a [mask 6 0 + mask 13 8, allBits, allBits, allBits]
    || (decide (0x18 ≤ gate) && decide (gate < 0x20))
    || (rule != 63 && (reservedSet w0 (mask 63 59 + mask 55 31 + mask 15 0) || decide (a.w4.toNat < a.w3.toNat)))
  if bad then refuse csInvalid s
  else if bit (s.raw .secLock 0 0) 0 && bit old.w0.toNat 59 then (.done csProtection (at_ 8 gate + rule) 0 0, s)
  else
    let new : GateRule := if rule = 63 then { old with w0 := word (ruleReset 63 - 2 ^ 62 + (w0.toNat &&& (2 ^ 62 + 2 ^ 59))) }
      else { gate := gate, rule := rule, w0 := w0, base := a.w3.toNat, limit := a.w4.toNat }
    let rest := s.gates.filter (fun r => !(r.gate == gate && r.rule == rule))
    let s : State := { s with gates := new :: rest }
    let w := s.gateWait b ((gate - 0x40) / 8) (at_ 8 gate + rule)
    if 0x40 ≤ gate ∧ s.gateWaiting w then (.wait, { s with cmd := { s.cmd with gateWaits := s.cmd.gateWaits ++ [w] } })
    else (.ok, audit 0x0030 a.mid (at_ 8 gate + rule) s)

end Sys2Proof.Machine
end

