-- ==== Sys2Proof/Machine/Counters.lean ====
section
/-! DEFINITION. The counter dump engine, engine samples and the telemetry collector (R530-R537). -/

namespace Sys2Proof.Machine

/-- MSI-X vector of the PF of a host port (R531, R535): held pending while it is masked. -/
def pfMsix (h vector : Nat) (s : State) : State := vectorMsix (256 * h) vector s

/-! ### Dumps (R530-R533) -/

/-- CNT_DUMP_PERIOD.PERIOD in ns. -/
def State.dumpPeriod (s : State) : Nat := 1000 * max 100 (s.fld .cntDumpPeriod 0 31 0)

/-- Bus address of the slot of the next record (R531). -/
def State.dumpSlot (s : State) : Nat :=
  at_ 12 (s.fld .cntDumpBase 0 51 12) + 98304 * (s.dump.nextSeq % 2 ^ min 8 (s.fld .cntDumpBase 0 62 59))

/-- Header words 1-7 of a record (R532). -/
def State.dumpHeader (s : State) (t : Nat) : List Word :=
  [word t, word (at_ 32 s.sys.bootCount + 11264), word (at_ 32 s.dump.skippedSince + at_ 16 1),
    word (at_ 32 (max 100 (s.fld .cntDumpPeriod 0 31 0)) + s.sys.warmCount % 2 ^ 32), 0, 0, 0]

/-- Every counter in index order (R529, R531). -/
def State.dumpEntries (s : State) : List Word := (List.range 11264).map (fun i => word (s.counterWord i))

/-- A snapshot at a multiple T of the period: word 0 of the slot is cleared, then the header and the entries are written. A link that is
down or a gate that refuses abandons the record (R531, R533). -/
def snapshot (t : Nat) (s : State) : State :=
  let h := s.fld .cntDumpBase 0 58 56
  let a := s.dumpSlot
  let (ok, s) := hostGates h 1 0x8A0 none [(a, 90176)] s
  if !ok ∨ !(s.hport h).up then dumpSkip 1 s
  else
    let parts := cutWords (s.writePayload h 0x8A0) (a + 8) (s.dumpHeader t ++ s.dumpEntries)
    let s := (s.emit (.record h 0x8A0 a [0] false)).emits [] (parts.map (fun x => .bulk h 0x8A0 x.1 x.2))
    { s with dump := { s.dump with writing := some (h, a), carried := s.dump.skippedSince, skippedSince := 0 } }

/-- COUNTER_SNAPSHOT: DTIME reaches the next multiple of the period, or has passed it; several that passed at once give one snapshot and
are else skipped (R530, R533). -/
def execCounterSnapshot (s : State) : Host.Outcome State Fault Refusal :=
  .next (whenRunning (fun s =>
    if s.fld .cntDumpBase 0 63 63 = 0 then s
    else
      let p := s.dumpPeriod
      let next := (s.dump.lastT / p + 1) * p
      let s := if s.dtimeNs < next then s.advanceDtime next else s
      let t := s.dtimeNs / p * p
      let s := dumpSkip ((t - next) / p) { s with dump := { s.dump with lastT := t } }
      if s.dump.writing.isSome then dumpSkip 1 s else snapshot t s) s)

/-- DUMP_WRITE_COMPLETE: word 0 is written last, and the vector goes out (R531). -/
def execDumpWriteComplete (s : State) : Host.Outcome State Fault Refusal :=
  .next (whenRunning (fun s =>
    match s.dump.writing with
    | none => s
    | some (h, a) =>
      let s := s.emit (.record h 0x8A0 a [word (at_ 32 0x434E5431 + s.dump.nextSeq)] false)
      let s := { s with dump := { s.dump with writing := none, carried := 0, nextSeq := (s.dump.nextSeq + 1) % 2 ^ 32 } }
      if s.fld .cntDumpPeriod 0 63 63 = 1 then pfMsix h (s.fld .cntDumpPeriod 0 43 32) s else s) s)

/-! ### Engine samples (R534, R535) -/

/-- Sampling selects an engine (CNT_SAMPLE_BASE.EN, CNT_SAMPLE_MASK). -/
def State.sampled (s : State) (code : Nat) : Bool :=
  decide (s.fld .cntSampleBase 0 63 63 = 1) && bit (s.raw .cntSampleMask 0 (code / 64)) (code % 64) && !(s.engine code).retired

def State.sampleK (s : State) : Nat := clamp 4 16 (s.fld .cntSampleBase 0 62 59)

/-- A sample that is lost (R534, R535). -/
def sampleLost (s : State) : State := s.count 6 1

/-- Write a sample of an engine: a full ring discards it; one that a gate refuses is lost too (R535, log 56). -/
def sampleWrite (code subject cross : Nat) (s : State) : State :=
  let h := s.fld .cntSampleBase 0 58 56
  let k := s.sampleK
  if 2 ^ k ≤ dist s.dump.sPi s.dump.sCi then sampleLost s
  else
    let a := at_ 12 (s.fld .cntSampleBase 0 51 12) + 32 * ringIndex s.dump.sPi k
    let (ok, s) := hostGates h 1 0x8A0 none [(a, 32)] s
    if !ok ∨ !(s.hport h).up then sampleLost s
    else
      let ev := let e := s.fld .cntSampleCtrl 0 63 60; if 5 < e then 0 else e
      let skid := min 1000 (s.dtimeNs - cross)
      let ws := [word cross, word (at_ 56 code + at_ 52 ev + subject % 2 ^ 20), word (at_ 32 skid), word (at_ 63 (b1 (phaseOf s.dump.sPi k)))]
      let s := s.emit (.record h 0x8A0 a ws false)
      let s := { s with dump := { s.dump with sPi := s.dump.sPi + 1 } }
      if s.fld .cntSampleCtrl 0 47 47 = 1 ∧ s.dump.vecArmed ∧ atLeast1 (s.fld .cntSampleCtrl 0 46 32) ≤ dist s.dump.sPi s.dump.sCi then
        pfMsix h (s.fld .cntSampleCtrl 0 59 48) { s with dump := { s.dump with vecArmed := false } }
      else s

/-- SAMPLE_CROSSING: the engine's count has reached INTERVAL; an idle engine's sample is taken at once with SUBJECT 0; a crossing while a
capture is pending is lost; a retired or sleeping engine crosses nothing (R534). What an engine has counted is the row's (log 162). -/
def execSampleCrossing (code : Nat) (s : State) : Host.Outcome State Fault Refusal :=
  onInstance 0x68 code (fun code => whenRunning (fun s =>
    if !s.sampled code || s.sleeps (if code < 0x60 then engineDomain (code / 4) else chorusDomain (code - 0x60)) then s
    else if s.dump.pendingCap.any (fun x => x.1 = code) then sampleLost s
    else if s.engineWorks code then { s with dump := { s.dump with pendingCap := s.dump.pendingCap ++ [(code, s.dtimeNs)] } }
    else sampleWrite code 0 s.dtimeNs s)) s

/-- The queue or group whose work an engine has in hand, if the one named is (R534). -/
def State.sampleSubject (s : State) (code obj : Nat) : Nat :=
  let mine := if code < 0x60 then s.qmg.jobs.any (fun j => decide (j.qid = obj) && decide (j.engine = code / 4) && j.phase != .ended)
    else s.svc.groups.any (fun g => decide (g.num = obj) && decide (g.home = code - 0x60) && !g.ops.isEmpty)
  if mine then obj else 0

/-- SAMPLE_CAPTURE: the engine's next work step ends, on a queue or group (R534, R535). -/
def execSampleCapture (code obj : Nat) (s : State) : Host.Outcome State Fault Refusal :=
  onInstance 0x68 code (fun code => whenRunning (fun s =>
    match s.dump.pendingCap.find? (fun x => x.1 = code) with
    | none => s
    | some (_, t) =>
      let s := { s with dump := { s.dump with pendingCap := s.dump.pendingCap.filter (fun x => x.1 ≠ code) } }
      if s.sampled code then sampleWrite code (s.sampleSubject code obj) t s else s)) s

/-- A write of CNT_SAMPLE_CI: ignored when it would pass the producer position (R33, R535). -/
def sampleCi (v : Nat) (s : State) : State :=
  let ci : Pos := BitVec.ofNat 32 v
  if dist ci s.dump.sCi ≤ dist s.dump.sPi s.dump.sCi then { s with dump := { s.dump with sCi := ci, vecArmed := true } } else s

/-- CNT_SAMPLE_BASE.EN goes from 0 to 1 (R538). -/
def sampleEnable (s : State) : State := { s with dump := { s.dump with sPi := 0, sCi := 0, vecArmed := true, pendingCap := [] } }

/-! ### Telemetry (R537) -/

/-- TELEMETRY_ARRIVAL: the words of a telemetry packet from byte 16 on go into the next entry of the collector's SRQ. -/
def execTelemetryArrival (ep : Nat) (src : Fa) (ws : List Word) (s : State) : Host.Outcome State Fault Refusal :=
  onInstance 8 ep (fun ep => trnStep (fun s =>
    if s.fld .cntTelemRx ep 63 63 = 0 then s.count 4 1
    else
      match frameIn (s.fld .cntTelemRx ep 19 0) 0 (src % 2 ^ 27) (ws.flatMap (fun w => toBytes 8 w.toNat)) s with
      | (true, s) => s
      | (false, s) => s.count 4 1)) s

end Sys2Proof.Machine
end

