-- ==== Sys2Proof/Machine/Registers.lean ====
section
/-! DEFINITION. Writes of registers through BAR0 and their effects (R13-R17, R444, R466, R468, R495, R539-R552), and AtomicOps on
HIF_SEM (R397). -/

namespace Sys2Proof.Machine

/-! ### What a write reaches (R15, R545, R546) -/

/-- Bits that a write replaces: RW, and RWL until SEC_LOCK is set (R15, R501, R541). -/
def State.writable (s : State) (r : Reg) : Nat :=
  maskWhere (fun f => f.acc = .rw || (f.acc = .rwl && !s.secLocked)) r.info.fields

/-- Bits that are reserved in one element of an array alone (R17, R538). -/
def reservedAt (r : Reg) (k : Nat) : Nat := if r = .cntSampleMask ∧ k = 1 then fieldMask 63 40 else 0

/-- Bits that a write of 1 clears. -/
def w1cMask (r : Reg) : Nat := maskWhere (fun f => f.acc = .w1c) r.info.fields

/-- A 4-byte write to the register is refused (R546). -/
def wholeOnly (r : Reg) : Bool :=
  r.info.fields.any (fun f => f.acc = .w1s || f.acc = .wo) || r == .cmdPi || r == .qmgEqCi || r == .cntSampleCi

/-- A BAR0 access of this length at this offset is served (R545). -/
def widthOk (off len : Nat) : Bool := (len == 8 && off % 8 == 0) || (len == 4 && off % 4 == 0)

/-- The bits of the register that an access reaches. -/
def reachMask (off len : Nat) : Nat := if len = 8 then 2 ^ 64 - 1 else if off % 8 = 0 then 2 ^ 32 - 1 else 2 ^ 64 - 2 ^ 32

/-- The written value in the place it reaches. -/
def reachValue (off len : Nat) (v : Word) : Nat := if len = 8 then v.toNat else if off % 8 = 0 then v.toNat % 2 ^ 32 else at_ 32 (v.toNat % 2 ^ 32)

/-- Capture an access that R540, R545 or R546 refuses (R553). -/
def accErr (cause port off : Nat) (s : State) : State :=
  s.capture .sysAccErr 0 0 (at_ 60 cause + at_ 53 port + at_ 52 1 + off % 2 ^ 28)

/-! ### Writes with an effect of their own -/

/-- A write of CMD_PI under the rule of R39: stale, malformed, or applied (R452). -/
def cmdPiSet (v : Nat) (s : State) : State :=
  let p : Pos := BitVec.ofNat 32 v
  let d := dist p s.cmdPi
  if d = 0 ∨ 2 ^ 31 ≤ d then s
  else if 2 ^ s.ringK < dist p s.cmdCi then ringMalformed 0 p s
  else s.setReg .cmdPi 0 0 p.toNat

/-- A write of QMG_EQ_CI: OVERFLOW is cleared by a 1, the position is taken unless it would pass the producer position, and the next
record sends the vector (R44, R75, R394). -/
def eqCiSet (q v : Nat) (s : State) : State :=
  let ci := s.eqCi q
  let p : Pos := BitVec.ofNat 32 v
  let take := decide (dist p ci ≤ dist (s.eqPi q) ci)
  let ovf := s.eqOverflow q && !bit v 63
  let s := s.setReg .qmgEqCi 0 q (at_ 63 (b1 ovf) + (if take then p.toNat else ci.toNat))
  eqFlush q (updSink q (fun k => { k with vecReady := true }) s)

/-- CMD_RING_BASE.EN goes from 0 to 1 (R451). -/
def ringEnable (s : State) : State :=
  let s := (s.setReg .cmdPi 0 0 0).setReg .cmdCi 0 0 0
  { s with cmd := { s.cmd with next := 0, doneAhead := [] } }

/-- SEC_LOCK is set, and stays set until a cold reset (R497, R501). -/
def secLockSet (mid : Nat) (s : State) : State :=
  if s.secLocked then s else audit 0x0020 mid (s.raw .secCtrl 0 0) (s.setReg .secLock 0 0 1)

/-- SEC_CTRL changed: audited, and a port that need not wait for IDE any more goes on (R495, R497). -/
def secCtrlChanged (mid old : Nat) (s : State) : State :=
  if s.raw .secCtrl 0 0 = old then s else portsRelease (audit 0x0023 mid (s.raw .secCtrl 0 0) s)

/-- SEC_AUDIT_CTRL.ADVANCE releases the oldest unread record (R498). -/
def auditRelease (s : State) : State := { s with sec := { s.sec with unread := s.sec.unread.drop 1 } }

/-- The time from which multiples of the dump period count (R530). -/
def dumpFrom (t : Nat) (s : State) : State := { s with dump := { s.dump with lastT := t } }

/-- Bits that stand still while an enable is set (R451, R475, R538). -/
def State.frozen (s : State) (r : Reg) : Nat :=
  match r with
  | .cmdRingBase => if s.fld .cmdRingBase 0 63 63 = 1 then 2 ^ 63 - 1 else 0
  | .cmdStatusBase => if s.fld .cmdRingBase 0 63 63 = 1 then 2 ^ 64 - 1 else 0
  | .cntSampleBase => if s.fld .cntSampleBase 0 63 63 = 1 then fieldMask 62 59 + fieldMask 51 12 else 0
  | _ => 0

/-- What follows the write `v` (in the place it reached) of a register whose stored value was `old`. -/
def afterWrite (a : RegAt) (mid old v : Nat) (s : State) : State :=
  let on (hi : Nat) : Bool := !bit old hi && bit (s.raw a.reg a.inst a.k) hi
  match counterIndexOf a.reg a.inst with
  | some i => if bit v 63 then s.clearOvf i else s
  | none =>
    match a.reg with
    | .cntRead => if bit v 63 then s.clearOvf (s.fld .cntReadSel 0 13 0) else s
    | .rteExcAddAction => excAdd v s
    | .rteExcDel => excDel v s
    | .qosQsampleSel => if bit v 63 then qsampleClear (bits v 9 3) (bits v 2 0) s else s
    | .lnsEyeCtrl => if bit v 63 then eyeStart a.inst s else s
    | .lnsTest =>
      let w := s.raw a.reg a.inst a.k
      let s := if bits old 63 54 = bits w 63 54 ∧ bits old 31 0 = bits w 31 0 then s else laneTestChanged a.inst s
      if bit v 53 then injectOnce a.inst s else s
    | .lnsTestUser => if old = s.raw a.reg a.inst a.k then s else laneTestChanged a.inst s
    | .hifLinkCtrl =>
      if bit old 8 ≠ bit (s.raw a.reg a.inst a.k) 8 then linkEnableChanged a.inst s
      else if bit v 0 then linkRetrain a.inst s else s
    | .hifAtomicCap => settle (atomicsCheck s)
    | .pwrBudgetClass => reclass s
    | .sysCtrl => if bit v 0 then warmRequest s else s
    | .clkDtimeSet => dtimeSet v s
    | .cmdRingBase => if on 63 then ringEnable s else s
    | .secLock => if bit v 0 then secLockSet mid s else s
    | .secCtrl => secCtrlChanged mid old s
    | .secAuditCtrl => if bit v 63 then auditRelease s else s
    | .fltMemtest => if bit v 63 then memtestStart s else s
    | .cntDumpBase => if on 63 then dumpFrom s.dtimeNs s else s
    | .cntDumpPeriod => dumpFrom (max s.dump.lastT s.dtimeNs) s
    | .cntSampleBase => if on 63 then sampleEnable s else s
    | _ => s

/-- A write to a register without a shadow copy. -/
def writeReg (a : RegAt) (mid reach v : Nat) (s : State) : State :=
  match a.reg with
  | .cmdPi => cmdPiSet v s
  | .qmgEqCi => eqCiSet a.k v s
  | .cntSampleCi => sampleCi v s
  | _ =>
    let old := s.raw a.reg a.inst a.k
    let m := s.writable a.reg &&& reach &&& (2 ^ 64 - 1 - s.frozen a.reg) &&& (2 ^ 64 - 1 - reservedAt a.reg a.k)
    let new := putMask m old v
    let new := new &&& (2 ^ 64 - 1 - (v &&& w1cMask a.reg))
    afterWrite a mid old v (s.setReg a.reg a.inst a.k new)

/-! ### The two views (R14, R466, R468, R540) -/

/-- A write to the shadow copy of a CS register: dropped while a hinge validates or the former set retires; else the set is
MODIFIED. -/
def shadowWrite (a : RegAt) (reach v : Nat) (s : State) : State :=
  if s.cmd.shadow = 2 ∨ s.cmd.shadow = 3 then s.setReg .cmdHingeStatus 0 0 (s.raw .cmdHingeStatus 0 0 ||| 2 ^ 63)
  else
    let old := s.shadowRaw a.reg a.inst a.k
    let s := s.setShadow a.reg a.inst a.k (putMask (s.writable a.reg &&& reach) old v)
    { s with cmd := { s.cmd with shadow := 1 } }

/-- The register that a write at an offset of BAR0 reaches, by its view. -/
def writeTo (port mid off len : Nat) (v : Word) (s : State) : State :=
  let reach := reachMask off len
  let x := reachValue off len v
  if off < 0x08000000 then
    match regAt (off / 8 * 8) with
    | none => s
    | some a =>
      if a.reg.info.cs then accErr 1 port off s
      else if len = 4 ∧ wholeOnly a.reg then accErr 2 port off s
      else writeReg a mid reach x s
  else
    match shadowAt ((off - 0x08000000) / 8 * 8) with
    | none => s
    | some a => shadowWrite a reach x s

/-- A write to the MSI-X table of a function, at an offset of its BAR4 (R391, R394). -/
def msixTableWrite (mid off len : Nat) (v : Word) (s : State) : State :=
  match s.func? mid with
  | none => s
  | some f =>
    let e := f.entry (off / 16)
    let w := putMask (reachMask off len) (msixWord e (off / 8 % 2)) (reachValue off len v)
    let e := if off / 8 % 2 = 0 then { e with addr := w } else { e with data := w % 2 ^ 32, masked := bit w 32 }
    if f.tableSize ≤ off / 16 then s else msixWrite mid e s

/-- A write at an offset of BAR4: the MSI-X table takes aligned writes of 4 or 8 bytes, the PBA none (R391; PRESUMED, log 180). -/
def bar4Write (port fn off len : Nat) (v : Word) (s : State) : State :=
  if !s.running ∨ !s.funcUp port fn ∨ s.ideHolds port ∨ 0x10000 ≤ off ∨ !widthOk off len then s
  else settle (msixTableWrite (256 * port + fn) off len v s)

/-- A write by function fn of a host port at an offset of its BAR0: VFs have no registers there (R390, R392), a reset device and a
port that waits for IDE take none (R444, R495), and the gate of the block decides (R478, R484, R545). -/
def bar0Write (port fn off len : Nat) (v : Word) (s : State) : State :=
  if !s.running ∨ !s.funcUp port fn ∨ fn ≠ 0 ∨ s.ideHolds port then s
  else
    let mid := 256 * port + fn
    let x := off % 0x08000000
    let (refused, s) := match blockAt x with
      | none => (none, s)
      | some b => gateCheck b.code (x - b.map.base) len 1 mid none s
    if !widthOk off len then accErr 0 port off s
    else if refused.isSome then s
    else settle (writeTo port mid off len v s)

/-! ### AtomicOps on HIF_SEM (R397) -/

/-- The answer to an AtomicOp: none is Unsupported Request. -/
def semReply (port : Nat) (v : Option (List Byte)) (s : State) : State := s.emit (.hostReply port v)

/-- The first offset of HIF_SEM. -/
def semBase : Nat := 0x100800

/-- An AtomicOp on HIF_SEM[i]: the old value is returned and the new one stored. Kind 0 FetchAdd64, 1 CAS64, 2 CAS128. -/
def semAtomic (port i kind operand compare : Nat) (s : State) : State :=
  let lo := s.raw .hifSem 0 i
  if kind = 0 then
    semReply port (some (toBytes 8 lo)) (s.setReg .hifSem 0 i ((lo + operand) % 2 ^ 64))
  else if kind = 1 then
    semReply port (some (toBytes 8 lo)) (if lo = compare % 2 ^ 64 then s.setReg .hifSem 0 i (operand % 2 ^ 64) else s)
  else
    let old := lo + at_ 64 (s.raw .hifSem 0 (i + 1))
    let s' := if old = compare % 2 ^ 128 then (s.setReg .hifSem 0 i (operand % 2 ^ 64)).setReg .hifSem 0 (i + 1) (bits operand 127 64) else s
    semReply port (some (toBytes 16 old)) s'

/-- HIF_SEM_ATOMICOP: an AtomicOp addressed to BAR0. Only those on HIF_SEM are supported (R397). A gate that refuses one leaves the
register, and 0 is returned (R484, log 57). -/
def semOp (port fn off kind operand compare : Nat) (s : State) : State :=
  if !s.running ∨ !s.funcUp port fn then s
  else
    let i := (off - semBase) / 8
    let size := if kind = 2 then 16 else 8
    if s.ideHolds port ∨ fn ≠ 0 ∨ 2 < kind ∨ off < semBase ∨ Reg.hifSem.info.n1 ≤ i ∨ off % size ≠ 0 then semReply port none s
    else
      match gateCheck 0x09 (off - 0x100000) size 2 (256 * port) none s with
      | (some _, s) => semReply port (some (toBytes size 0)) s
      | (none, s) => semAtomic port i kind operand compare s

def execHifSemAtomicop (port fn : Nat) (off kind : Nat) (operand compare : Nat) (s : State) : Host.Outcome State Fault Refusal :=
  onInstance 8 port (fun port => semOp port fn off kind operand compare) s

end Sys2Proof.Machine
end

