-- ==== Sys2Proof/Machine/CmdService.lean ====
section
/-! DEFINITION. Commands on configuration sets, ports, lanes, engines, device memory, counters, firmware, keys and faults
(R357, R381, R466-R474, R489-R492, R510, R516-R523, R531). -/

namespace Sys2Proof.Machine

/-! ### The shadow image (R469) -/

/-- What a record of a shadow image writes: a register (none where the copy ignores writes, R385) and how many elements. -/
structure ImageRec where
  target : Option RegAt
  count : Nat
  value : Nat
  deriving DecidableEq, Repr

/-- LNS_PORT_CTRL in the block of a lane that is not the first of its port: it ignores writes (R385). -/
def ignoresWrites (off : Nat) : Bool :=
  match blockAt off with
  | some .lns => decide ((off - Block.lns.map.base) % Block.lns.map.stride = Reg.lnsPortCtrl.info.off)
  | _ => false

/-- One record, or none when its OP, offset or COUNT is wrong. -/
def imageRec (w0 value : Nat) : Option ImageRec :=
  let op := bits w0 63 56
  let n := bits w0 55 32
  let off := bits w0 31 0
  if off % 8 ≠ 0 then none
  else
    match shadowAt off with
    | none => if op = 1 ∧ ignoresWrites off then some { target := none, count := 0, value := value } else none
    | some a =>
      let size := a.reg.info.n1 * a.reg.info.n2
      if op = 1 then some { target := some a, count := 1, value := value }
      else if op = 2 ∧ 1 < size ∧ 1 ≤ n ∧ a.k + n ≤ size then some { target := some a, count := n, value := value }
      else none

/-- The records of an image, or the byte offset of the first that is wrong. -/
def imageRecs : Nat → List Word → Except Nat (List ImageRec)
  | off, w0 :: v :: l =>
    match imageRec w0.toNat v.toNat with
    | none => .error off
    | some r =>
      match imageRecs (off + 16) l with
      | .error e => .error e
      | .ok rs => .ok (r :: rs)
  | _, _ => .ok []

/-- The checks of an image in their order: the records, or the byte offset of the word at fault. -/
def imageCheck (len : Nat) (bs : List Byte) : Except Nat (List ImageRec) :=
  let ws := wordsOf (bs.length / 8) bs
  let n := bits (wd ws 0) 31 0
  if bits (wd ws 0) 63 32 ≠ 0x48474531 ∨ 4194304 < n ∨ len ≠ 64 + 16 * n ∨ bs.length ≠ len then .error 0
  else
    match (List.range 6).find? (fun i => wd ws (i + 2) ≠ 0) with
    | some i => .error (8 * (i + 2))
    | none => if wd ws 1 ≠ crc64 0 (bs.drop 64) then .error 8 else imageRecs 64 (ws.drop 8)

/-- Apply a record to the shadow set. -/
def applyRec (s : State) (r : ImageRec) : State :=
  match r.target with
  | none => s
  | some a =>
    (List.range r.count).foldl (fun s j =>
      s.setShadow a.reg a.inst (a.k + j) (putMask (s.writable a.reg) (s.shadowRaw a.reg a.inst (a.k + j)) r.value)) s

def setShadowState (n : Nat) (s : State) : State := { s with cmd := { s.cmd with shadow := n } }

/-- CMD_HINGE_STATUS.FAIL_OFFSET. -/
def setFailOffset (off : Nat) (s : State) : State := s.setReg .cmdHingeStatus 0 0 (putBits (s.raw .cmdHingeStatus 0 0) 31 0 off)

/-- The end of a CMD_SHADOW_LOAD: the image read is checked and applied. One that could not be read fails as at word 0. -/
def shadowApply (a : CmdArgs) (image : Option (List Byte)) (s : State) : CmdEnd × State :=
  match image.elim (.error 0) (imageCheck (bits a.w1.toNat 31 0)) with
  | .error off => (.done csValidation 0 0 off, s)
  | .ok rs =>
    let s := if bit a.w1.toNat 63 then s.setBank false (s.bank true) else s
    (.result rs.length, setShadowState 1 (rs.foldl applyRec s))

/-- CMD_SHADOW_LOAD. -/
def cmdShadowLoad : CmdBody := fun env a _ s =>
  let w := a.w1.toNat
  let len := bits w 31 0
  if badWords a [mask 63 63 + mask 31 0, allBits] then refuse csInvalid s
  else if s.cmd.shadow = 2 ∨ s.cmd.shadow = 3 then refuse csBusy s
  else
    match adminRead env.read (midPort a.mid) a.mid none [(a.w2.toNat, len)] s with
    | (.error (some d), s) => (.done csProtection d 0 0, s)
    | (.error none, s) => shadowApply a none s
    | (.ok bs, s) => if env.slow then (.work, s) else shadowApply a (some bs) s

/-! ### Validation (R470) -/

/-- The device as it would be with the shadow set in force. -/
def shadowInForce (s : State) : State := { s with cmd := { s.cmd with bank := !s.cmd.bank } }

/-- A register of the shadow set differs from the one in force. -/
def State.csDiffers (s : State) (r : Reg) : Bool := decide (s.raw r 0 0 ≠ s.shadowRaw r 0 0)

/-- A chain from a policer is longer than four, as one that visits a policer twice is (R329). -/
def chainLong (t : State) (n : Nat) : Nat → Bool
  | 0 => true
  | fuel + 1 =>
    let w := t.raw .qosPolCtrl 0 n
    bit w 16 && chainLong t (bits w 25 17) fuel

/-- RTE_DIMS as R272 accepts it: the unconfigured value, or lengths and coordinates that fit. -/
def dimsFit (w : Nat) : Bool :=
  w == 0 || (List.range 4).all (fun d =>
    if d < ndimOf w then decide (2 ≤ lenOf w d) && decide (coordOf w d < lenOf w d) else decide (coordOf w d = 0))

/-- The first line table entry that names a port again, among those left to look at (R277). -/
def lineTwice (t : State) : List (Nat × Nat) → List Nat → Option Nat
  | [], _ => none
  | (d, c) :: l, seen =>
    let ps := t.lineTo d c
    if (ps ++ seen).Nodup then lineTwice t l (ps ++ seen) else some (regAddr .rteLineTable 0 (64 * d + c))

/-- Entries of the line tables, in order. -/
def lineEntries : List (Nat × Nat) := (List.range 4).flatMap (fun d => (List.range 64).map (fun c => (d, c)))

/-- The offset at `off` when a condition fails. -/
def failAt (bad : Bool) (off : Nat) : Option Nat := if bad then some off else none

/-- Offsets of the registers whose shadow values fail a condition of a chapter, by rising offset (R133, R163, R226, R271, R272,
R277, R318, R329, R360, log 62). -/
def State.hingeFails (s : State) : List Nat :=
  let t := shadowInForce s
  let size (used : Bool) (r : Reg) : Option Nat := failAt (used && s.csDiffers r) (regAddr r 0 0)
  let eth := (List.range 128).filter t.ethPort
  [size (!s.svc.varRuns.isEmpty) .lckVarSize, size (!s.svc.ctxs.isEmpty) .mtcUnexpSize, size (!s.svc.ctxs.isEmpty) .mtcOvflSize,
      size (s.rma.regions.any (fun r => r.state != .free)) .rmaKeyringSize, size (!s.trn.peers.isEmpty) .trnOplogSize].filterMap id
    ++ ((List.range 512).filter (fun n => chainLong t n 4)).map (fun n => regAddr .qosPolCtrl 0 n)
    ++ (failAt (!dimsFit t.dims) (regAddr .rteDims 0 0)).toList
    ++ (if dimsFit t.dims then (lineTwice t lineEntries []).toList else [])
    ++ ((List.range 8).filter (fun n => decide (t.sliceCells n < t.reservedCells n + 16384))).map (fun n => regAddr .swcSharedCtrl n 0)
    ++ (eth.drop 8).map (fun n => regAddr .llrCtrl n 0)

/-! ### The commit and its side effects (R470, R471) -/

/-- Policers keep their levels, clamped to the new burst sizes (R332). -/
def clampPolicers (s : State) : State :=
  let f (p : Policer) : Policer := { p with c := min p.c (s.polSize p.num).1, ep := min p.ep (s.polSize p.num).2 }
  updFab (fun x => { x with policers := x.policers.map f }) s

/-- The buckets in use are brought up to the commit under the old rates (R332). -/
def refillPolicers (s : State) : State := s.fab.policers.foldl (fun s p => putPolicer (s.policer p.num) s) s

/-- The power unit takes the new set: C is clamped, the floors are recomputed, and widths follow (R418, R425). -/
def hingePower (code : Nat) (s : State) : State :=
  let s := updPwr (fun p => { p with credit := min s.rampBurst p.credit }) s
  let c := s.classNow
  let s := if c = s.fab.pwr.cls then s
    else (updPwr (fun p => { p with cls := c, overAt := if c = 7 then p.overAt else none }) s).count 51 1
  let n := s.widthCode c
  updHolds (if n = code then s else rewidth code n s)

/-- Frames of SENDs queued at an Ethernet port are lost with its flush: their jobs end with CANCELED. -/
def State.txJobs (s : State) (n : Nat) : List Nat := (s.egress (.port n)).q.filterMap (·.job)

/-- The bits of LLR_CTRL whose change trains a port again: MODE, FEC, ETH_SPEED (R353). -/
def trainBits (w : Nat) : Nat := w &&& 0x37

/-- A port under a new LLR_CTRL; `o` is the device before the commit (R353, R376, R377). -/
def hingePort (o : State) (s : State) (n : Nat) : State :=
  let was := o.portEnabled n
  let now := s.portEnabled n
  let changed := decide (trainBits (o.raw .llrCtrl n 0) ≠ trainBits (s.raw .llrCtrl n 0))
  let rate := decide (o.laneSpeed n ≠ s.laneSpeed n)
  let jobs := if (was && !now) || changed then o.txJobs n else []
  let s := if rate then (portLanes n).foldl (fun s l => updLane l (fun x => { x with coef := false }) s) s else s
  let s :=
    if was && !now then portDisable n s
    else if (s.port n).testing then s
    else if !was && now then portEnable n s
    else if now && changed then portRetrain n rate s
    else s
  jobs.foldl (fun s j => endJob j stCanceled s) s

/-- A lane under a new LNS_CTRL.DISABLE (R371). -/
def hingeLane (o : State) (s : State) (l : Nat) : State :=
  let was := bit (o.raw .lnsCtrl l 0) 8
  let now := bit (s.raw .lnsCtrl l 0) 8
  if was = now then s
  else if now then
    let active := decide ((s.lane l).state = .active)
    let s := laneOff l s
    if active then activeLeft l s else tryLock (lanePort l) s
  else
    let s := if (s.lane l).state = .failed then laneOff l s else s
    laneStart l s

/-- Reservations take their new sizes: a raised one is granted to the upstream router at once (R318, R349). -/
def hingeGrants (s : State) : State :=
  (List.range 8).foldl (fun s n => grantSlice n s) s

/-- While congestion response is off every peer's rate is RATE_MAX (R327). -/
def ratesOff (s : State) : State :=
  if s.fld .qosCcCtrl 0 63 63 = 1 then s else { s with trn := { s.trn with peers := s.trn.peers.map (fun p => { p with rate := s.rateMax }) } }

/-- The commit word is written: the other bank is in force, and what the chapters attach to changed values starts (R425, R439, R466,
R470, R471). -/
def hingeCommit (o : State) : State :=
  let code := o.widthCode o.fab.pwr.cls
  let s := refillPolicers (refill o)
  let s := { s with cmd := { s.cmd with bank := !s.cmd.bank, gen := (s.cmd.gen + 1) % 2 ^ 64, shadow := 3 } }
  let s := ratesOff (hingePower code (startPolicers (clampPolicers s)))
  let s := if o.fld .xltCtrl 0 0 0 = s.fld .xltCtrl 0 0 0 then s else { s with xlt := { s.xlt with wc := [] } }
  let s := if (o.timeRole, o.timeParent) = (s.timeRole, s.timeParent) then s else timeRoleChanged s
  let s := if o.raw .clkOutCtrl 0 0 = s.raw .clkOutCtrl 0 0 then s else clkOutChanged o.clkOut s
  let s := (List.range 128).foldl (hingePort o) s
  let s := (List.range 512).foldl (hingeLane o) s
  fabSettle (hingeGrants s)

/-- CMD_HINGE (R466-R471): one that is still at work when its step ends has its shadow VALIDATING until then. -/
def cmdHinge : CmdBody := fun env a _ s =>
  if badWords a [1, allBits] then refuse csInvalid s
  else if (a.w2 ≠ 0 ∧ a.w2.toNat ≠ s.cmd.gen) ∨ s.cmd.shadow = 2 ∨ s.cmd.shadow = 3 then refuse csBusy s
  else if s.cmd.shadow = 5 then refuse csValidation s
  else if env.slow then (.work, setShadowState 2 s)
  else
    match s.hingeFails with
    | off :: _ => (.done csValidation 0 0 off, setShadowState 1 (setFailOffset off s))
    | [] =>
      if bit a.w1.toNat 0 then (.result s.cmd.gen, s)
      else
        let s := hingeCommit s
        (.done csOk 0 s.cmd.gen s.dtimeNs, s)

/-- The commit of a hinge that is still at work: its status follows (R470, R471). -/
def hingeCommitted (w : Working) (s : State) : State :=
  let s := hingeCommit s
  let t := s.dtimeNs
  { s with cmd := { s.cmd with working := s.cmd.working.map (fun x => if x.begun = w.begun then { x with committed := some (s.cmd.gen, t) } else x) } }

/-- A hinge that is still at work goes on: its shadow set has been validated, and fails, passes or commits; or it has committed, and its status
is written (R466, R470). -/
def hingeWork (w : Working) (s : State) : State :=
  match w.committed with
  | some (g, t) => completeCmd w.begun csOk 0 g t s
  | none =>
    match s.hingeFails with
    | off :: _ => completeCmd w.begun csValidation 0 0 off (setShadowState 1 (setFailOffset off s))
    | [] =>
      if bit w.args.w1.toNat 0 then completeCmd w.begun csOk 0 s.cmd.gen 0 (setShadowState w.prior s) else hingeCommitted w s

/-! ### Ports and lanes (R357, R381, R382, R521) -/

/-- CMD_PORT_FENCE: the port is not usable for lookups that begin from now on (R278, R357). -/
def cmdPortFence : CmdBody := fun _ a _ s =>
  if badWords a [mask 6 0] then refuse csInvalid s
  else (.ok, fabSettle (updFport (bits a.w1.toNat 6 0) (fun p => { p with fenced := true }) s))

/-- CMD_PORT_UNFENCE (R521). -/
def cmdPortUnfence : CmdBody := fun _ a _ s =>
  if badWords a [mask 6 0] then refuse csInvalid s
  else (.ok, fabSettle (updFport (bits a.w1.toNat 6 0) (fun p => { p with fenced := false }) s))

/-- LNS_TEST.LOOPBACK of a lane, as a port test turns it on and off (R521). -/
def setLoop (v : Nat) (s : State) (l : Nat) : State := s.setReg .lnsTest l 0 (putBits (s.raw .lnsTest l 0) 55 54 v)

/-- A lane of a port under test sends its frames; loopback 0x1 returns them to its own receiver (R381, R521). -/
def testLane (loop : Nat) (s : State) (l : Nat) : State :=
  if (s.lane l).state ≠ .test then s
  else
    let s := if loop = 1 then setLoop 1 s l else s
    updLane l (fun x => { x with silent := false, locked := x.locked || decide (loop = 1), signal := x.signal || decide (loop = 1) }) s

/-- A port test begins: the port goes down, the command has its lanes, and they send frames of PRBS31 payload, looped back where the command
says so (R353, R521). -/
def portTestStart (n loop : Nat) (s : State) : State :=
  let jobs := s.txJobs n
  let s := portRelease n .disabled s
  let s := updFport n (fun p => { p with testing := true }) s
  let s := (portLanes n).foldl (fun s l => if (s.lane l).state = .off ∧ !s.clockGood (s.lanePll l) then s
    else askExit (laneDomain l) 1 (updLane l (fun x => { Lane.reset l with state := .test, since := s.clk.now, coef := x.coef }) (dropLaneReq l s))) s
  let s := ((portLanes n).foldl (testLane loop) s).emit (.testFrames n)
  jobs.foldl (fun s j => endJob j stCanceled s) s

/-- A port test ends: frames that failed are counted, and the port retrains (R521). -/
def portTestEnd (n errors : Nat) (s : State) : State :=
  let s := updFport n (fun p => { p with testing := false }) (s.count (cntPort n 0) errors)
  portEnable n ((portLanes n).foldl (fun s l => laneOff l (setLoop 0 s l)) s)

/-- CMD_PORT_TEST. With a duration the test is over when the command completes; with none it runs until STOP, whose command gives the
frames compared (log 61). A port of a slice that is stopped cannot be tested (R461). -/
def cmdPortTest : CmdBody := fun env a _ s =>
  let w := a.w1.toNat
  let n := bits w 6 0
  if badWords a [mask 6 0 + mask 8 8 + mask 13 12, allBits] ∨ bits w 13 12 = 3 then refuse csInvalid s
  else if bit w 8 then
    if (s.port n).testing then (.result env.count, portTestEnd n env.errors s) else refuse csBusy s
  else if s.sliceDead (n / 16) then refuse csHwFailure s
  else if !(s.port n).fenced ∨ (s.port n).testing then refuse csBusy s
  else
    let s := portTestStart n (bits w 13 12) s
    if a.w2 = 0 then (.ok, s)
    else if env.slow then (.work, s)
    else (.result env.count, portTestEnd n env.errors (s.advance (us a.w2.toNat)))

/-- A port test that is still at work is over once its time has passed (R521). -/
def portTestWork (w : Working) (s : State) : State :=
  if s.clk.now < w.start + us w.args.w2.toNat then s
  else completeCmd w.begun csOk 0 w.env.count 0 (portTestEnd (bits w.args.w1.toNat 6 0) w.env.errors s)

/-- LNS_TEST and LNS_TEST_USER take the values of a CMD_LANE_TEST (R382, R459). -/
def applyLaneTest (l : Nat) (v user : Word) (s : State) : State :=
  let s := s.setReg .lnsTest l 0 (putMask (s.writable .lnsTest) (s.raw .lnsTest l 0) v.toNat)
  let s := s.setReg .lnsTestUser l 0 user.toNat
  if bit v.toNat 53 then injectOnce l s else s

/-- CMD_LANE_TEST: with STOP it gives the bits compared and their errors, and the lane goes to FAST (R371, R381, R382). -/
def cmdLaneTest : CmdBody := fun _ a _ s =>
  let l := bits a.w1.toNat 8 0
  if badWords a [mask 9 0, allBits, allBits] then refuse csInvalid s
  else if bit a.w1.toNat 9 then
    if (s.lane l).state ≠ .test ∨ (s.port (lanePort l)).testing then refuse csBusy s
    else
      let (n, e) := s.testCounts l
      (.done csOk 0 n e, laneFromTest l (dropLeave (.laneTest l) s))
  else if s.sliceDead (lanePort l / 16) then refuse csHwFailure s
  else if s.laneTestRefused l then refuse csBusy s
  else (.ok, laneTestDrive l (applyLaneTest l a.w2 a.w3 (laneToTest l s)))

/-! ### Engines and device memory (R518, R519, R523) -/

/-- CMD_ENGINE_RETIRE. -/
def cmdEngineRetire : CmdBody := fun _ a _ s =>
  let e := bits a.w1.toNat 7 0
  if badWords a [mask 7 0] ∨ 0x68 ≤ e then refuse csInvalid s
  else if (s.engine e).retired then refuse csBusy s
  else if e < 0x60 then if 4 ≤ s.retiredMpes then refuse csNoResource s else (.ok, retireMpe e s)
  else if s.activeClusters ≤ 1 then refuse csNoResource s
  else (.ok, retireCluster (e - 0x60) s)

/-- CMD_ENGINE_RESTORE: completes with leave (R411, R518). -/
def cmdEngineRestore : CmdBody := fun _ a _ s =>
  let e := bits a.w1.toNat 7 0
  if badWords a [mask 7 0] ∨ 0x68 ≤ e then refuse csInvalid s
  else if !(s.engine e).retired then refuse csBusy s
  else (.wait, askLeave (.restore e) 3 8 s)

/-- CMD_MEM_CHANNEL_RETIRE: completes when the pair's lines have moved (R523). -/
def cmdMemChannelRetire : CmdBody := fun _ a _ s =>
  let c := bits a.w1.toNat 4 0
  if badWords a [mask 4 0] then refuse csInvalid s
  else if !s.retireIdle c then refuse csBusy s
  else if !s.retireFits then refuse csNoResource s
  else (.wait, startRetire c false s)

/-! ### Counter dumps (R531) -/

/-- CMD_COUNTER_DUMP_CONFIG. -/
def cmdCounterDumpConfig : CmdBody := fun _ a _ s =>
  if badWords a [1, mask 51 12, mask 31 0] then refuse csInvalid s
  else
    let old := s.raw .cntDumpBase 0 0
    let en := bit a.w1.toNat 0
    let base := at_ 63 (b1 en) + at_ 59 (bits old 62 59) + at_ 56 (midPort a.mid) + a.w2.toNat
    let s := s.setReg .cntDumpBase 0 0 base
    let s := s.setReg .cntDumpPeriod 0 0 (putBits (s.raw .cntDumpPeriod 0 0) 31 0 a.w3.toNat)
    (.ok, dumpFrom (if en && !bit old 63 then s.dtimeNs else max s.dump.lastT s.dtimeNs) s)

/-! ### Firmware (R473, R474, R488, R489) -/

/-- The end of a CMD_FW_STAGE: the image read, authentic and of the length given, is written to its slot. -/
def fwStaged (a : CmdArgs) (image : Option (List Byte)) (s : State) : CmdEnd × State :=
  let slot := bits a.w1.toNat 32 32
  let im : ImageInfo := { bytes := image.getD [] }
  let detail := imgVersion im + at_ 32 slot
  if image.isSome ∧ im.bytes.length = bits a.w1.toNat 31 0 ∧ imagePasses im s then
    (.result (imgVersion im), audit 0x0003 a.mid detail { s with sys := { s.sys with slots := s.sys.slots.set slot im } })
  else (.fail csAuthFailed, audit 0x0004 a.mid detail s)

/-- CMD_FW_STAGE: an image that cannot be read, or whose length is not the one given, is not authentic. -/
def cmdFwStage : CmdBody := fun env a _ s =>
  let w := a.w1.toNat
  let slot := bits w 32 32
  let len := bits w 31 0
  if badWords a [mask 32 0, allBits] then refuse csInvalid s
  else if slot = s.sys.running then refuse csBusy s
  else
    match adminRead env.read (midPort a.mid) a.mid none [(a.w2.toNat, len)] s with
    | (.error (some d), s) => (.done csProtection d 0 0, s)
    | (.error none, s) => fwStaged a none s
    | (.ok bs, s) => if env.slow then (.work, s) else fwStaged a (some bs) s

/-- A slot becomes the one that boot loads; an authentic image that says so raises the SVN fuse (R474, R489). -/
def activateSlot (slot mid : Nat) (im : ImageInfo) (s : State) : State :=
  let raise := imgCommitSvn im && decide (s.imageStep im = 0)
  audit 0x0005 mid (imgVersion im + at_ 32 slot)
    { s with
      sys := { s.sys with nextSlot := slot }
      sec := { s.sec with svn := if raise then max s.sec.svn (imgSvn im) else s.sec.svn } }

/-- CMD_FW_ACTIVATE. With NOW the image is authenticated again, copied to HBM, and runs after a warm reset with cause 0x6, at whose end
the command completes (R472, R474). -/
def cmdFwActivate : CmdBody := fun _ a _ s =>
  let slot := bits a.w1.toNat 0 0
  if badWords a [3] then refuse csInvalid s
  else
    match s.sys.slots[slot]? with
    | none => refuse csNotFound s
    | some im =>
      if !bit a.w1.toNat 1 then
        let s := activateSlot slot a.mid im s
        (.result s.sys.runVersion, s)
      else if !imagePasses im s then refuse csAuthFailed s
      else
        let s := activateSlot slot a.mid im s
        (.wait, beginWarm 6 { s with sys := { s.sys with hbmImage := some im } })

/-! ### Keys (R490-R492) -/

/-- LENGTH of the blob of a kind. -/
def keyLength (kind : Nat) : Nat := if kind = 1 then 168 else 72

/-- Bytes 0-23 of a blob name its kind, partition key and length. -/
def blobFits (kind pkey : Nat) (bs : List Byte) : Bool :=
  let ws := wordsOf 3 bs
  decide (bs.length = keyLength kind)
    && decide (wd ws 0 = at_ 56 1 + at_ 52 kind + at_ 32 (if kind = 2 then pkey else 0) + keyLength kind)
    && decide (bits (wd ws 2) 63 32 = 0)

/-- The status with which a key is refused before its blob is read; OK where it is not (R492). -/
def State.keyRefusal (s : State) (kind pkey : Nat) : Nat :=
  if kind = 1 then if s.secLocked then csProtection else csOk
  else if kind = 2 ∧ (s.partition? pkey).isNone then csNotFound
  else if kind = 2 ∧ (s.xlt.asids.any (fun x => x.pkey == pkey) ∨ pkey ∈ s.sec.partKeys) then csBusy
  else if kind = 2 ∧ 4096 ≤ s.sec.partKeys.length then csNoResource
  else if !s.sec.ownerKey then csNotFound
  else csOk

/-- The key that unwraps a blob: it comes from ECDH with the wrap key of the device for the owner key, and from the owner key for the others
(R491). -/
def wrapping (kind : Nat) (bs : List Byte) (s : State) : Option (List Byte) :=
  if kind = 1 then ownerWrapKey ((bs.drop 24).take 96) else some (derive256 (s.keyOf ownerKeyNum) (Config.kdfInput 0 [kind]))

/-- The key that a blob carries, unless its tag fails: AES-256-GCM, with bytes 0-23 and SYS_ID as what is authenticated besides (R491,
R492). -/
def keyUnwrap (kind : Nat) (bs : List Byte) (s : State) : Option (List Byte) :=
  let nonce := (bs.drop 8).take 12
  let body := bs.drop (if kind = 1 then 120 else 24)
  let cipher := body.take 32
  match wrapping kind bs s with
  | none => none
  | some k =>
    if gcmTag k nonce (bs.take 24 ++ toBytes 8 (s.raw .sysId 0 0)) cipher = (body.drop 32).take 16 then some (gcmCrypt k nonce cipher) else none

/-- Hold the bits of a key, in place of those held under its number. -/
def keyHold (k : Nat) (bits : List Byte) (s : State) : State :=
  { s with sec := { s.sec with keyBits := (k, bits) :: s.sec.keyBits.filter (fun x => x.1 ≠ k) } }

/-- The key of a kind is taken into the store, or sealed (R492). -/
def keyTake (mid kind pkey : Nat) (key : List Byte) (s : State) : State :=
  if kind = 1 then
    let s := zeroizeStore mid s
    keyHold ownerKeyNum (sealOwner key) { s with sec := { s.sec with ownerKey := true } }
  else if kind = 2 then keyHold pkey key { s with sec := { s.sec with partKeys := pkey :: s.sec.partKeys } }
  else keyHold fabricKeyNum key { s with sec := { s.sec with fabricKey := true } }

/-- DETAIL of the key events (R497). -/
def keyDetail (kind pkey status : Nat) : Nat := at_ 52 kind + at_ 32 pkey + status

/-- A key is refused. -/
def keyRefused (mid kind pkey status detail : Nat) (s : State) : CmdEnd × State :=
  (.done status detail 0 0, audit 0x0011 mid (keyDetail kind pkey status) s)

/-- Kinds 0x1 to 0x3: the blob is read and unwrapped. -/
def keyInstall (env : CmdEnv) (a : CmdArgs) (kind pkey : Nat) (s : State) : CmdEnd × State :=
  let no := keyRefused a.mid kind pkey
  if a.w3.toNat ≠ keyLength kind then no csInvalid 0 s
  else if s.keyRefusal kind pkey ≠ csOk then no (s.keyRefusal kind pkey) 0 s
  else
    match adminRead env.read (midPort a.mid) a.mid (if kind = 2 then some pkey else none) [(a.w2.toNat, keyLength kind)] s with
    | (.error (some d), s) => no csProtection d s
    | (.error none, s) => no csAuthFailed 0 s
    | (.ok bs, s) =>
      if !blobFits kind pkey bs then no csInvalid 0 s
      else
        match keyUnwrap kind bs s with
        | none => no csAuthFailed 0 s
        | some key => (.ok, audit 0x0010 a.mid (keyDetail kind pkey 0) (keyTake a.mid kind pkey key s))

/-- Kinds 0x8 to 0xA. -/
def keyZeroize (mid kind pkey : Nat) (s : State) : State :=
  let sec := if kind = 8 then { s.sec with partKeys := s.sec.partKeys.filter (· ≠ pkey), keyBits := s.sec.keyBits.filter (fun x => x.1 ≠ pkey) }
    else if kind = 9 then { s.sec with fabricKey := false, keyBits := s.sec.keyBits.filter (fun x => x.1 ≠ fabricKeyNum) }
    else { s.sec with partKeys := [], fabricKey := false, ownerKey := false, keyBits := [] }
  audit 0x0012 mid (keyDetail kind pkey 0) { s with sec := sec }

/-- CMD_KEY_INSTALL. The partition key is looked at for kinds 0x2 and 0x8 alone. -/
def cmdKeyInstall : CmdBody := fun env a _ s =>
  let kind := bits a.w1.toNat 3 0
  let pkey := if kind = 2 ∨ kind = 8 then bits a.w1.toNat 31 16 else 0
  if badWords a [mask 3 0 + mask 31 16, allBits, allBits] then refuse csInvalid s
  else if 1 ≤ kind ∧ kind ≤ 3 then keyInstall env a kind pkey s
  else if 8 ≤ kind ∧ kind ≤ 0xA then
    if kind = 8 ∧ (s.partition? pkey).isNone then refuse csNotFound s else (.ok, keyZeroize a.mid kind pkey s)
  else refuse csInvalid s

/-! ### Faults (R510) -/

/-- CMD_FAULT_CLEAR: pending bits of C4 kinds stay. -/
def cmdFaultClear : CmdBody := fun _ a _ s =>
  let k := bits a.w1.toNat 7 0
  if badWords a [mask 7 0 + mask 63 63] then refuse csInvalid s
  else
    let s := { s with pend := s.pend.filter (fun x => decide (classOfCode x = 4) || decide (k ≠ 0xFF ∧ x ≠ k)) }
    let s := if k = 0xFF then (List.range 5).foldl (fun s c => s.setReg .fltClassCnt 0 c 0) s else s
    let s := if bit a.w1.toNat 63 then
        (s.setReg .fltFirstHi 0 0 (s.raw .fltFirstHi 0 0 % 2 ^ 63)).setReg .fltOverflow 0 0 0
      else s
    (.ok, s)

end Sys2Proof.Machine
end

