-- ==== Sys2Proof/Machine/Command.lean ====
section
/-! DEFINITION. The commands as rows: on the admin ring, over MCTP and in command packets (R451-R465). -/

namespace Sys2Proof.Machine

/-! ### Commands that wait outside the ring (R454, R462-R465) -/

/-- The body of a command that R463 permits outside the ring. -/
def outsideBody (op : Nat) : CmdBody :=
  if op = 0x00 then cmdNop
  else if op = 0x01 then cmdQuery
  else if op = 0x31 then cmdHinge
  else if op = 0x38 then cmdPortFence
  else if op = 0x39 then cmdPortUnfence
  else if op = 0x3A then cmdPortTest
  else if op = 0x3B then cmdLaneTest
  else if op = 0x3C then cmdEngineRetire
  else if op = 0x3D then cmdEngineRestore
  else if op = 0x3E then cmdMemChannelRetire
  else if op = 0x42 then cmdFwActivate
  else cmdFaultClear

/-- Begin what waits outside the ring, in order, as far as it may begin (R454). -/
def outsideRun : Nat → State → State
  | 0, s => s
  | n + 1, s =>
    match s.cmd.outside with
    | [] => s
    | c :: rest =>
      if s.blocked c.op c.args.fence true none (objectOf c.op c.args) then s
      else outsideRun n (beginCmd c.op c.chan c.env c.args (outsideBody c.op) { s with cmd := { s.cmd with outside := rest } })

/-- Begin what waits outside the ring. -/
def outsideGo (s : State) : State := outsideRun s.cmd.outside.length s

/-- A command that is still at work goes on (R469, R470, R473, R521). -/
def workOne (s : State) (w : Working) : State :=
  let image := some (came w.env.read)
  let fin (r : CmdEnd × State) : State :=
    match r with
    | (.done st d r0 r1, s) => completeCmd w.begun st d r0 r1 s
    | (_, s) => s
  if w.begun.opcode = 0x31 then hingeWork w s
  else if w.begun.opcode = 0x3A then portTestWork w s
  else if w.begun.opcode = 0x30 then fin (shadowApply w.args image s)
  else fin (fwStaged w.args image s)

/-- Commands that are still at work go on. -/
def workGo (s : State) : State := s.cmd.working.foldl workOne s

/-- What the endpoint side does at a tick while no command waits: commands at work go on, those that wait outside the ring begin as far as
they may, and groups that failed give up what has not come in time (R249, R250, R454, R470). -/
def tickWork (s : State) : State := groupsGiveUp (outsideGo (workGo s))

/-! ### Commands on the admin ring

Each row is the next command of the ring, read from its position. Where the table of R459 gives several rows one opcode, the row fixes
the field of W1 that tells them apart. -/

/-- Field [hi:lo] of W1 set to v. -/
def withW1 (hi lo v : Nat) (a : CmdArgs) : CmdArgs := { a with w1 := word (putBits a.w1.toNat hi lo v) }

/-- The next command of the ring, as an outcome. -/
def onRing (op : Nat) (body : CmdBody) (env : CmdEnv) (a : CmdArgs) (s : State) : Host.Outcome State Fault Refusal :=
  .next (runRing op env a body (whenRunning outsideGo s))

/-- CMD_NOP (R459). -/
def execCmdNop (env : CmdEnv) (a : CmdArgs) (s : State) : Host.Outcome State Fault Refusal :=
  onRing 0x00 cmdNop env a s

/-- CMD_QUERY (R459). -/
def execCmdQuery (env : CmdEnv) (a : CmdArgs) (s : State) : Host.Outcome State Fault Refusal :=
  onRing 0x01 cmdQuery env a s

/-- CMD_ENDPOINT_CONFIG (R96). -/
def execCmdEndpointConfig (env : CmdEnv) (a : CmdArgs) (s : State) : Host.Outcome State Fault Refusal :=
  onRing 0x02 cmdEndpointConfig env a s

/-- CMD_PARTITION_CREATE (R134). -/
def execCmdPartitionCreate (env : CmdEnv) (a : CmdArgs) (s : State) : Host.Outcome State Fault Refusal :=
  onRing 0x08 cmdPartitionCreate env a s

/-- CMD_PARTITION_DESTROY (R136). -/
def execCmdPartitionDestroy (env : CmdEnv) (a : CmdArgs) (s : State) : Host.Outcome State Fault Refusal :=
  onRing 0x09 cmdPartitionDestroy env a s

/-- CMD_ASID_CREATE (R164). -/
def execCmdAsidCreate (env : CmdEnv) (a : CmdArgs) (s : State) : Host.Outcome State Fault Refusal :=
  onRing 0x0A cmdAsidCreate env a s

/-- CMD_ASID_DESTROY (R186). -/
def execCmdAsidDestroy (env : CmdEnv) (a : CmdArgs) (s : State) : Host.Outcome State Fault Refusal :=
  onRing 0x0B cmdAsidDestroy env a s

/-- CMD_QUEUE_CREATE (R73). -/
def execCmdQueueCreate (env : CmdEnv) (a : CmdArgs) (s : State) : Host.Outcome State Fault Refusal :=
  onRing 0x10 cmdQueueCreate env a s

/-- CMD_QUEUE_MODIFY with ACTION 0x0 (R32). -/
def execCmdQueueModifyAttributes (env : CmdEnv) (a : CmdArgs) (s : State) : Host.Outcome State Fault Refusal :=
  onRing 0x11 cmdQueueModify env (withW1 23 20 0 a) s

/-- CMD_QUEUE_MODIFY with STOP (R73). -/
def execCmdQueueModifyStop (env : CmdEnv) (a : CmdArgs) (s : State) : Host.Outcome State Fault Refusal :=
  onRing 0x11 cmdQueueModify env (withW1 23 20 1 a) s

/-- CMD_QUEUE_MODIFY with START (R73). -/
def execCmdQueueModifyStart (env : CmdEnv) (a : CmdArgs) (s : State) : Host.Outcome State Fault Refusal :=
  onRing 0x11 cmdQueueModify env (withW1 23 20 2 a) s

/-- CMD_QUEUE_MODIFY with RECOVER (R73). -/
def execCmdQueueModifyRecover (env : CmdEnv) (a : CmdArgs) (s : State) : Host.Outcome State Fault Refusal :=
  onRing 0x11 cmdQueueModify env (withW1 23 20 3 a) s

/-- CMD_QUEUE_DESTROY (R73). -/
def execCmdQueueDestroy (env : CmdEnv) (a : CmdArgs) (s : State) : Host.Outcome State Fault Refusal :=
  onRing 0x12 cmdQueueDestroy env a s

/-- CMD_QUEUE_EVICT (R59). -/
def execCmdQueueEvict (env : CmdEnv) (a : CmdArgs) (s : State) : Host.Outcome State Fault Refusal :=
  onRing 0x13 cmdQueueEvict env a s

/-- CMD_REGION_REGISTER (R139). -/
def execCmdRegionRegister (env : CmdEnv) (a : CmdArgs) (s : State) : Host.Outcome State Fault Refusal :=
  onRing 0x18 cmdRegionRegister env a s

/-- CMD_REGION_DEREGISTER (R143). -/
def execCmdRegionDeregister (env : CmdEnv) (a : CmdArgs) (s : State) : Host.Outcome State Fault Refusal :=
  onRing 0x19 cmdRegionDeregister env a s

/-- CMD_XLT_INVAL (R182). -/
def execCmdXltInval (env : CmdEnv) (a : CmdArgs) (s : State) : Host.Outcome State Fault Refusal :=
  onRing 0x1A cmdXltInval env a s

/-- CMD_MATCH_CONTEXT_CREATE (R132). -/
def execCmdMatchContextCreate (env : CmdEnv) (a : CmdArgs) (s : State) : Host.Outcome State Fault Refusal :=
  onRing 0x20 cmdMatchContextCreate env a s

/-- CMD_MATCH_CONTEXT_DESTROY (R132). -/
def execCmdMatchContextDestroy (env : CmdEnv) (a : CmdArgs) (s : State) : Host.Outcome State Fault Refusal :=
  onRing 0x21 cmdMatchContextDestroy env a s

/-- CMD_CHORUS_CREATE (R228). -/
def execCmdChorusCreate (env : CmdEnv) (a : CmdArgs) (s : State) : Host.Outcome State Fault Refusal :=
  onRing 0x22 cmdChorusCreate env a s

/-- CMD_CHORUS_DESTROY (R236). -/
def execCmdChorusDestroy (env : CmdEnv) (a : CmdArgs) (s : State) : Host.Outcome State Fault Refusal :=
  onRing 0x23 cmdChorusDestroy env a s

/-- CMD_LOCK_ALLOC of locks (R254). -/
def execCmdLockAlloc (env : CmdEnv) (a : CmdArgs) (s : State) : Host.Outcome State Fault Refusal :=
  onRing 0x28 cmdLockAlloc env (withW1 0 0 0 a) s

/-- CMD_LOCK_ALLOC of variable slots (R268). -/
def execCmdLockAllocVariables (env : CmdEnv) (a : CmdArgs) (s : State) : Host.Outcome State Fault Refusal :=
  onRing 0x28 cmdLockAlloc env (withW1 0 0 1 a) s

/-- CMD_LOCK_FREE of locks (R257). -/
def execCmdLockFree (env : CmdEnv) (a : CmdArgs) (s : State) : Host.Outcome State Fault Refusal :=
  onRing 0x29 cmdLockFree env (withW1 1 0 0 a) s

/-- CMD_LOCK_FREE with FORCE (R263). -/
def execCmdLockFreeForce (env : CmdEnv) (a : CmdArgs) (s : State) : Host.Outcome State Fault Refusal :=
  onRing 0x29 cmdLockFree env (withW1 1 0 2 a) s

/-- CMD_LOCK_FREE of variable slots (R254). -/
def execCmdLockFreeVariables (env : CmdEnv) (a : CmdArgs) (s : State) : Host.Outcome State Fault Refusal :=
  onRing 0x29 cmdLockFree env (withW1 0 0 1 a) s

/-- CMD_GATE_WRITE (R486). -/
def execCmdGateWrite (env : CmdEnv) (a : CmdArgs) (s : State) : Host.Outcome State Fault Refusal :=
  onRing 0x2A cmdGateWrite env a s

/-- CMD_SHADOW_LOAD (R469). -/
def execCmdShadowLoad (env : CmdEnv) (a : CmdArgs) (s : State) : Host.Outcome State Fault Refusal :=
  onRing 0x30 cmdShadowLoad env a s

/-- CMD_HINGE (R470). -/
def execCmdHinge (env : CmdEnv) (a : CmdArgs) (s : State) : Host.Outcome State Fault Refusal :=
  onRing 0x31 cmdHinge env (withW1 0 0 0 a) s

/-- CMD_HINGE with VALIDATE_ONLY (R470). -/
def execCmdHingeValidateOnly (env : CmdEnv) (a : CmdArgs) (s : State) : Host.Outcome State Fault Refusal :=
  onRing 0x31 cmdHinge env (withW1 0 0 1 a) s

/-- CMD_PORT_FENCE (R357). -/
def execCmdPortFence (env : CmdEnv) (a : CmdArgs) (s : State) : Host.Outcome State Fault Refusal :=
  onRing 0x38 cmdPortFence env a s

/-- CMD_PORT_UNFENCE (R521). -/
def execCmdPortUnfence (env : CmdEnv) (a : CmdArgs) (s : State) : Host.Outcome State Fault Refusal :=
  onRing 0x39 cmdPortUnfence env a s

/-- CMD_PORT_TEST (R521). -/
def execCmdPortTest (env : CmdEnv) (a : CmdArgs) (s : State) : Host.Outcome State Fault Refusal :=
  onRing 0x3A cmdPortTest env (withW1 8 8 0 a) s

/-- CMD_PORT_TEST with STOP (R521). -/
def execCmdPortTestStop (env : CmdEnv) (a : CmdArgs) (s : State) : Host.Outcome State Fault Refusal :=
  onRing 0x3A cmdPortTest env (withW1 8 8 1 a) s

/-- CMD_LANE_TEST (R381). -/
def execCmdLaneTest (env : CmdEnv) (a : CmdArgs) (s : State) : Host.Outcome State Fault Refusal :=
  onRing 0x3B cmdLaneTest env (withW1 9 9 0 a) s

/-- CMD_LANE_TEST with STOP (R371). -/
def execCmdLaneTestStop (env : CmdEnv) (a : CmdArgs) (s : State) : Host.Outcome State Fault Refusal :=
  onRing 0x3B cmdLaneTest env (withW1 9 9 1 a) s

/-- CMD_ENGINE_RETIRE (R518). -/
def execCmdEngineRetire (env : CmdEnv) (a : CmdArgs) (s : State) : Host.Outcome State Fault Refusal :=
  onRing 0x3C cmdEngineRetire env a s

/-- CMD_ENGINE_RESTORE (R518). -/
def execCmdEngineRestore (env : CmdEnv) (a : CmdArgs) (s : State) : Host.Outcome State Fault Refusal :=
  onRing 0x3D cmdEngineRestore env a s

/-- CMD_MEM_CHANNEL_RETIRE (R523). -/
def execCmdMemChannelRetire (env : CmdEnv) (a : CmdArgs) (s : State) : Host.Outcome State Fault Refusal :=
  onRing 0x3E cmdMemChannelRetire env a s

/-- CMD_COUNTER_DUMP_CONFIG (R531). -/
def execCmdCounterDumpConfig (env : CmdEnv) (a : CmdArgs) (s : State) : Host.Outcome State Fault Refusal :=
  onRing 0x40 cmdCounterDumpConfig env a s

/-- CMD_FW_STAGE (R473). -/
def execCmdFwStage (env : CmdEnv) (a : CmdArgs) (s : State) : Host.Outcome State Fault Refusal :=
  onRing 0x41 cmdFwStage env a s

/-- CMD_FW_ACTIVATE (R474). -/
def execCmdFwActivate (env : CmdEnv) (a : CmdArgs) (s : State) : Host.Outcome State Fault Refusal :=
  onRing 0x42 cmdFwActivate env (withW1 1 1 0 a) s

/-- CMD_FW_ACTIVATE with NOW (R474). -/
def execCmdFwActivateNow (env : CmdEnv) (a : CmdArgs) (s : State) : Host.Outcome State Fault Refusal :=
  onRing 0x42 cmdFwActivate env (withW1 1 1 1 a) s

/-- CMD_KEY_INSTALL of kind 0x1 (R492). -/
def execCmdKeyInstallOwner (env : CmdEnv) (a : CmdArgs) (s : State) : Host.Outcome State Fault Refusal :=
  onRing 0x48 cmdKeyInstall env (withW1 3 0 1 a) s

/-- CMD_KEY_INSTALL of kind 0x2 (R492). -/
def execCmdKeyInstallPartition (env : CmdEnv) (a : CmdArgs) (s : State) : Host.Outcome State Fault Refusal :=
  onRing 0x48 cmdKeyInstall env (withW1 3 0 2 a) s

/-- CMD_KEY_INSTALL of kind 0x3 (R492). -/
def execCmdKeyInstallFabric (env : CmdEnv) (a : CmdArgs) (s : State) : Host.Outcome State Fault Refusal :=
  onRing 0x48 cmdKeyInstall env (withW1 3 0 3 a) s

/-- CMD_KEY_INSTALL of kind 0x8 (R492). -/
def execCmdKeyZeroizePartition (env : CmdEnv) (a : CmdArgs) (s : State) : Host.Outcome State Fault Refusal :=
  onRing 0x48 cmdKeyInstall env (withW1 3 0 8 a) s

/-- CMD_KEY_INSTALL of kind 0x9 (R492). -/
def execCmdKeyZeroizeFabric (env : CmdEnv) (a : CmdArgs) (s : State) : Host.Outcome State Fault Refusal :=
  onRing 0x48 cmdKeyInstall env (withW1 3 0 9 a) s

/-- CMD_KEY_INSTALL of kind 0xA (R492). -/
def execCmdKeyZeroizeAll (env : CmdEnv) (a : CmdArgs) (s : State) : Host.Outcome State Fault Refusal :=
  onRing 0x48 cmdKeyInstall env (withW1 3 0 10 a) s

/-- CMD_FAULT_CLEAR (R510). -/
def execCmdFaultClear (env : CmdEnv) (a : CmdArgs) (s : State) : Host.Outcome State Fault Refusal :=
  onRing 0x49 cmdFaultClear env a s

/-! ### Commands from outside the ring (R462-R465) -/

/-- Answer a command that is not executed (R461-R463, R475). -/
def refuseOutside (chan : Channel) (op status : Nat) (a : CmdArgs) (s : State) : State :=
  let s := cmdErr chan.code.1 op status chan.code.2 s
  let t := s.dtimeNs
  answer chan a.mid (fun ph => statusWords 0 0 t op status 0 a.tag ph) s

/-- A command from outside the ring reaches the management firmware: malformed ones are answered at once, one that must wait under R454
waits behind those that wait already (log 63). -/
def runOutside (chan : Channel) (mid op : Nat) (env : CmdEnv) (a : CmdArgs) (s : State) : State :=
  let a := { a with mid := mid }
  if a.rsv ≠ 0 || !outsideOp op then refuseOutside chan op csMalformed a s
  else outsideGo { s with cmd := { s.cmd with outside := s.cmd.outside ++ [{ chan := chan, op := op, env := env, args := a }] } }

/-- A command came over MCTP. -/
def Channel.isMctp : Channel → Bool
  | .mctp _ => true
  | _ => false

/-- MCTP commands in progress, those that wait to begin among them. -/
def State.mctpCount (s : State) : Nat :=
  (s.cmd.begun.filter (·.chan.isMctp)).length + (s.cmd.outside.filter (·.chan.isMctp)).length

/-- MCTP_COMMAND: KIND 0x01 from the board management controller; at most four are in progress. REMOTE belongs to the admin ring alone
(R462-R464). -/
def execMctpCommand (op seq : Nat) (a : CmdArgs) (env : CmdEnv) (s : State) : Host.Outcome State Fault Refusal :=
  .next (whenRunning (fun s =>
    let chan : Channel := .mctp (seq % 256)
    if 4 ≤ s.mctpCount then refuseOutside chan op csNoResource a s
    else if outsideOp op ∧ a.remote then refuseOutside chan op csInvalid a s
    else runOutside chan 0x890 op env a s) s)

/-- COMMAND_PACKET_ARRIVAL: executed when enabled, from the fabric manager and with a tag that verifies; else discarded and counted
(R465). -/
def execCommandPacketArrival (src seq op : Nat) (a : CmdArgs) (tagOk : Bool) (env : CmdEnv) (s : State) :
    Host.Outcome State Fault Refusal :=
  .next (whenRunning (fun s =>
    if s.fld .cmdFabCtrl 0 63 63 = 1 ∧ src % 2 ^ 27 = s.fld .cmdFabCtrl 0 26 0 ∧ s.sec.fabricKey ∧ tagOk then
      runOutside (.packet src (seq % 2 ^ 32)) 0x891 op env a s
    else s.count 54 1) s)

/-! ### REMOTE commands (R464) -/

/-- A REMOTE command that has a status now: it leaves the list. -/
def dropRemote (r : RemoteCmd) (s : State) : State := { s with cmd := { s.cmd with remote := s.cmd.remote.erase r } }

/-- REMOTE_STATUS_ARRIVAL: the status goes into the local slot, under the local PHASE. One from another router, for no command, or whose
tag fails is discarded and counted (R464, R465). -/
def execRemoteStatusArrival (src seq : Nat) (ws : List Word) (tagOk : Bool) (s : State) : Host.Outcome State Fault Refusal :=
  .next (whenRunning (fun s =>
    match s.cmd.remote.find? (fun r => r.seq = seq) with
    | none => s.count 54 1
    | some r =>
      if !tagOk ∨ !s.sec.fabricKey ∨ src % 2 ^ 24 ≠ r.target then s.count 54 1
      else
        let st := bits (wd ws 3) 47 40
        let s := dropRemote r s
        let s := if st = csOk then s else cmdErr 0 r.opcode st r.pos.toNat s
        answer (.ring r.pos) r.mid (fun ph => [word (wd ws 0), word (wd ws 1), word (wd ws 2), word (putBits (wd ws 3) 63 63 (b1 ph))]) s) s)

/-- REMOTE_COMMAND_TIMEOUT: no status has come within CMD_FAB_CTRL.TMO (R464). -/
def execRemoteCommandTimeout (seq : Nat) (s : State) : Host.Outcome State Fault Refusal :=
  .next (whenRunning (fun s =>
    match s.cmd.remote.find? (fun r => r.seq = seq) with
    | none => s
    | some r =>
      let s := cmdErr 0 r.opcode csTimeout r.pos.toNat (dropRemote r (s.advanceTo r.deadline))
      let t := s.dtimeNs
      answer (.ring r.pos) r.mid (fun ph => statusWords 0 0 t r.opcode csTimeout 0 r.tag ph) s) s)

end Sys2Proof.Machine
end

