-- ==== Sys2Proof/Machine/Posted.lean ====
section
/-! DEFINITION. Posted writes of the host ports in their order: doorbells and BAR0 writes, the withholding of posted credit, and the fetch of
a context, which frees an entry of the pending-doorbell buffer (R38-R42, R393, R397). -/

namespace Sys2Proof.Machine

/-! ### Posted writes (R42) -/

/-- The size of BAR0: REGISTER_WRITE at an offset from here on stands for a write to BAR4 at the rest (DESIGN CHOICE, log 182: the table
has no row for a write to BAR4). -/
def barReach : Nat := 0x10000000

/-- A posted write reaches the device: it waits behind those of its port whose posted credit is withheld (R42), and, where the islands of
its port sleep, until they are ON, which it asks for (R409, R434). -/
def posted (port : Nat) (w : PostedWrite) (s : State) : State :=
  if s.sleeps (hostDomain port) then stallWrite port w (wakeDomain (hostDomain port) s)
  else if s.portStalled port then stallWrite port w s
  else match w with
    | .bar2 fn page offset len v => bar2Write port fn page offset len v s
    | .bar0 fn off len v =>
      if barReach ≤ off then bar4Write port fn (off - barReach) len v s else bar0Write port fn off len v s

/-- Posted credit returns where an entry of the buffer is free: the writes that wait go on in the order of their ports (R42). -/
def stalledGo (s : State) : State :=
  whenRunning (fun s =>
    let l := s.qmg.stalled
    l.foldl (fun s x => posted x.1 x.2 s) { s with qmg := { s.qmg with stalled := [] } }) s

/-- A posted write as a command: what waited for posted credit comes first. A device that does not run takes none (R444). -/
def postedWrite (port : Nat) (w : PostedWrite) (s : State) : State := whenRunning (fun s => posted port w (stalledGo s)) s

/-- DOMAIN_EXIT_COMPLETE: the domain is ON, and what waited for it goes on: memory requests of its ports, packets, invalidations, prefetch,
posted writes (R404, R406, R409, R411, R414, R434). -/
def execDomainExitComplete (dom : Nat) (s : State) : Host.Outcome State Fault Refusal :=
  .next (whenFab (fun s =>
    match s.domain? dom with
    | none => s
    | some d =>
      if d.exiting.isNone then s
      else
        let s := invalsGo (sleepersGo (portsRelease (domainOnAgain dom d s)))
        let qs := s.qmg.queues.filter (fun q => engineDomain q.attr.home = dom && q.fetch.running)
        stalledGo (settle (qs.foldl (fun s q => fetchGo q.qid 2 s) s))) s)

/-! ### Doorbells (R38-R42, R97, R393) -/

/-- An 8-byte write to BAR2 whose OP is that of a row. -/
def doorbellRow (op port fn page offset : Nat) (v : Word) (s : State) : Host.Outcome State Fault Refusal :=
  onInstance 8 port (fun port => postedWrite port (.bar2 fn page offset 8 (word (putBits v.toNat 63 60 op)))) s

/-- DOORBELL_PRODUCE (R39). -/
def execDoorbellProduce (port fn : Nat) (page offset : Nat) (value : Word) (s : State) : Host.Outcome State Fault Refusal :=
  doorbellRow 0 port fn page offset value s

/-- DOORBELL_CONSUME (R39). -/
def execDoorbellConsume (port fn : Nat) (page offset : Nat) (value : Word) (s : State) : Host.Outcome State Fault Refusal :=
  doorbellRow 1 port fn page offset value s

/-- DOORBELL_ARM (R97). -/
def execDoorbellArm (port fn : Nat) (page offset : Nat) (value : Word) (s : State) : Host.Outcome State Fault Refusal :=
  doorbellRow 2 port fn page offset value s

/-- DOORBELL_ARM_SOLICITED (R97). -/
def execDoorbellArmSolicited (port fn : Nat) (page offset : Nat) (value : Word) (s : State) : Host.Outcome State Fault Refusal :=
  doorbellRow 3 port fn page offset value s

/-- BAR2_WRITE_REFUSED: any write to BAR2 (R393). -/
def execBar2WriteRefused (port fn : Nat) (page offset : Nat) (len : Nat) (value : Word) (s : State) : Host.Outcome State Fault Refusal :=
  onInstance 8 port (fun port => postedWrite port (.bar2 fn page offset len value)) s

/-- CONTEXT_FETCH_COMPLETE (R42, R62, R64, R68). -/
def execContextFetchComplete (qid : Nat) (eccError : Bool) (s : State) : Host.Outcome State Fault Refusal :=
  .next (stalledGo (trnStep (contextFetched qid eccError) s))

/-! ### BAR0 writes (R14, R15, R466) -/

/-- A BAR0 write as a command. -/
def bar0 (port fn off len : Nat) (v : Word) (s : State) : Host.Outcome State Fault Refusal :=
  onInstance 8 port (fun port => postedWrite port (.bar0 fn off len v)) s

/-- REGISTER_WRITE: any BAR0 write (R15). -/
def execRegisterWrite (port fn off len : Nat) (value : Word) (s : State) : Host.Outcome State Fault Refusal :=
  bar0 port fn off len value s

/-- SHADOW_VIEW_WRITE: at an offset of the shadow view (R466). -/
def execShadowViewWrite (port fn off len : Nat) (value : Word) (s : State) : Host.Outcome State Fault Refusal :=
  bar0 port fn (off % 0x08000000 + 0x08000000) len value s

/-! ### Rows for single registers: 8-byte writes -/

/-- An 8-byte write of a register. -/
def writeOf (r : Reg) (inst k port fn : Nat) (v : Word) (s : State) : Host.Outcome State Fault Refusal :=
  bar0 port fn (regAddr r inst k) 8 v s

/-- CMD_PI_WRITE (R452). -/
def execCmdPiWrite (port fn : Nat) (value : Word) (s : State) : Host.Outcome State Fault Refusal := writeOf .cmdPi 0 0 port fn value s

/-- CMD_RING_ENABLE: a write of CMD_RING_BASE (R451). -/
def execCmdRingEnable (port fn : Nat) (value : Word) (s : State) : Host.Outcome State Fault Refusal :=
  writeOf .cmdRingBase 0 0 port fn value s

/-- QMG_EQ_CI_WRITE of EQ q (R44). -/
def execQmgEqCiWrite (port fn : Nat) (q : Nat) (value : Word) (s : State) : Host.Outcome State Fault Refusal :=
  let (q, s) := pickOf (decide (1 ≤ q) && decide (q < 4096)) q (fun v => 1 + v % 4095) s
  writeOf .qmgEqCi 0 q port fn value s

/-- QSAMPLE_CLEAR: a write of QOS_QSAMPLE_SEL (R333). -/
def execQsampleClear (port fn : Nat) (value : Word) (s : State) : Host.Outcome State Fault Refusal :=
  writeOf .qosQsampleSel 0 0 port fn value s

/-- HIF_LINK_RETRAIN: a write of HIF_LINK_CTRL of a host port (R405). -/
def execHifLinkRetrain (port fn : Nat) (host : Nat) (value : Word) (s : State) : Host.Outcome State Fault Refusal :=
  let (host, s) := instOf 8 host s
  writeOf .hifLinkCtrl host 0 port fn value s

/-- RTE_EXC_ADD: a write of RTE_EXC_ADD_ACTION (R294). -/
def execRteExcAdd (port fn : Nat) (value : Word) (s : State) : Host.Outcome State Fault Refusal :=
  writeOf .rteExcAddAction 0 0 port fn value s

/-- RTE_EXC_DEL (R294). -/
def execRteExcDel (port fn : Nat) (value : Word) (s : State) : Host.Outcome State Fault Refusal :=
  writeOf .rteExcDel 0 0 port fn value s

/-- EYE_MEASURE_START: a write of LNS_EYE_CTRL of a lane (R384). -/
def execEyeMeasureStart (port fn : Nat) (lane : Nat) (value : Word) (s : State) : Host.Outcome State Fault Refusal :=
  let (lane, s) := instOf 512 lane s
  writeOf .lnsEyeCtrl lane 0 port fn value s

/-- INJ_ONCE: a write of LNS_TEST of a lane (R382). -/
def execInjOnce (port fn : Nat) (lane : Nat) (value : Word) (s : State) : Host.Outcome State Fault Refusal :=
  let (lane, s) := instOf 512 lane s
  writeOf .lnsTest lane 0 port fn value s

/-- CLK_DTIME_SET_WRITE (R437). -/
def execClkDtimeSetWrite (port fn : Nat) (value : Word) (s : State) : Host.Outcome State Fault Refusal :=
  writeOf .clkDtimeSet 0 0 port fn value s

/-- WARM_RESET_REQUEST: a write of SYS_CTRL (R440, R443). -/
def execWarmResetRequest (port fn : Nat) (value : Word) (s : State) : Host.Outcome State Fault Refusal :=
  writeOf .sysCtrl 0 0 port fn value s

/-- SEC_LOCK_WRITE (R501). -/
def execSecLockWrite (port fn : Nat) (value : Word) (s : State) : Host.Outcome State Fault Refusal :=
  writeOf .secLock 0 0 port fn value s

/-- AUDIT_ADVANCE: a write of SEC_AUDIT_CTRL (R498). -/
def execAuditAdvance (port fn : Nat) (value : Word) (s : State) : Host.Outcome State Fault Refusal :=
  writeOf .secAuditCtrl 0 0 port fn value s

/-- MEMTEST_START: a write of FLT_MEMTEST (R524). -/
def execMemtestStart (port fn : Nat) (value : Word) (s : State) : Host.Outcome State Fault Refusal :=
  writeOf .fltMemtest 0 0 port fn value s

/-- CNT_SAMPLE_CI_WRITE (R535). -/
def execCntSampleCiWrite (port fn : Nat) (value : Word) (s : State) : Host.Outcome State Fault Refusal :=
  writeOf .cntSampleCi 0 0 port fn value s

/-- CNT_SAMPLE_ENABLE: a write of CNT_SAMPLE_BASE (R538). -/
def execCntSampleEnable (port fn : Nat) (value : Word) (s : State) : Host.Outcome State Fault Refusal :=
  writeOf .cntSampleBase 0 0 port fn value s

end Sys2Proof.Machine
end

