-- ==== Sys2Proof/Machine/Dispatch.lean ====
section
/-! DEFINITION. One arm per command: its meaning. -/

namespace Sys2Proof.Machine

def exec (i : Instr) (s : State) : Host.Outcome State Fault Refusal :=
  match i with
  | .cmdNop env a => Sys2Proof.Machine.execCmdNop env a s
  | .cmdQuery env a => Sys2Proof.Machine.execCmdQuery env a s
  | .cmdEndpointConfig env a => Sys2Proof.Machine.execCmdEndpointConfig env a s
  | .cmdPartitionCreate env a => Sys2Proof.Machine.execCmdPartitionCreate env a s
  | .cmdPartitionDestroy env a => Sys2Proof.Machine.execCmdPartitionDestroy env a s
  | .cmdAsidCreate env a => Sys2Proof.Machine.execCmdAsidCreate env a s
  | .cmdAsidDestroy env a => Sys2Proof.Machine.execCmdAsidDestroy env a s
  | .cmdQueueCreate env a => Sys2Proof.Machine.execCmdQueueCreate env a s
  | .cmdQueueModifyAttributes env a => Sys2Proof.Machine.execCmdQueueModifyAttributes env a s
  | .cmdQueueModifyStop env a => Sys2Proof.Machine.execCmdQueueModifyStop env a s
  | .cmdQueueModifyStart env a => Sys2Proof.Machine.execCmdQueueModifyStart env a s
  | .cmdQueueModifyRecover env a => Sys2Proof.Machine.execCmdQueueModifyRecover env a s
  | .cmdQueueDestroy env a => Sys2Proof.Machine.execCmdQueueDestroy env a s
  | .cmdQueueEvict env a => Sys2Proof.Machine.execCmdQueueEvict env a s
  | .cmdRegionRegister env a => Sys2Proof.Machine.execCmdRegionRegister env a s
  | .cmdRegionDeregister env a => Sys2Proof.Machine.execCmdRegionDeregister env a s
  | .cmdXltInval env a => Sys2Proof.Machine.execCmdXltInval env a s
  | .cmdMatchContextCreate env a => Sys2Proof.Machine.execCmdMatchContextCreate env a s
  | .cmdMatchContextDestroy env a => Sys2Proof.Machine.execCmdMatchContextDestroy env a s
  | .cmdChorusCreate env a => Sys2Proof.Machine.execCmdChorusCreate env a s
  | .cmdChorusDestroy env a => Sys2Proof.Machine.execCmdChorusDestroy env a s
  | .cmdLockAlloc env a => Sys2Proof.Machine.execCmdLockAlloc env a s
  | .cmdLockAllocVariables env a => Sys2Proof.Machine.execCmdLockAllocVariables env a s
  | .cmdLockFree env a => Sys2Proof.Machine.execCmdLockFree env a s
  | .cmdLockFreeForce env a => Sys2Proof.Machine.execCmdLockFreeForce env a s
  | .cmdLockFreeVariables env a => Sys2Proof.Machine.execCmdLockFreeVariables env a s
  | .cmdGateWrite env a => Sys2Proof.Machine.execCmdGateWrite env a s
  | .cmdShadowLoad env a => Sys2Proof.Machine.execCmdShadowLoad env a s
  | .cmdHinge env a => Sys2Proof.Machine.execCmdHinge env a s
  | .cmdHingeValidateOnly env a => Sys2Proof.Machine.execCmdHingeValidateOnly env a s
  | .cmdPortFence env a => Sys2Proof.Machine.execCmdPortFence env a s
  | .cmdPortUnfence env a => Sys2Proof.Machine.execCmdPortUnfence env a s
  | .cmdPortTest env a => Sys2Proof.Machine.execCmdPortTest env a s
  | .cmdPortTestStop env a => Sys2Proof.Machine.execCmdPortTestStop env a s
  | .cmdLaneTest env a => Sys2Proof.Machine.execCmdLaneTest env a s
  | .cmdLaneTestStop env a => Sys2Proof.Machine.execCmdLaneTestStop env a s
  | .cmdEngineRetire env a => Sys2Proof.Machine.execCmdEngineRetire env a s
  | .cmdEngineRestore env a => Sys2Proof.Machine.execCmdEngineRestore env a s
  | .cmdMemChannelRetire env a => Sys2Proof.Machine.execCmdMemChannelRetire env a s
  | .cmdCounterDumpConfig env a => Sys2Proof.Machine.execCmdCounterDumpConfig env a s
  | .cmdFwStage env a => Sys2Proof.Machine.execCmdFwStage env a s
  | .cmdFwActivate env a => Sys2Proof.Machine.execCmdFwActivate env a s
  | .cmdFwActivateNow env a => Sys2Proof.Machine.execCmdFwActivateNow env a s
  | .cmdKeyInstallOwner env a => Sys2Proof.Machine.execCmdKeyInstallOwner env a s
  | .cmdKeyInstallPartition env a => Sys2Proof.Machine.execCmdKeyInstallPartition env a s
  | .cmdKeyInstallFabric env a => Sys2Proof.Machine.execCmdKeyInstallFabric env a s
  | .cmdKeyZeroizePartition env a => Sys2Proof.Machine.execCmdKeyZeroizePartition env a s
  | .cmdKeyZeroizeFabric env a => Sys2Proof.Machine.execCmdKeyZeroizeFabric env a s
  | .cmdKeyZeroizeAll env a => Sys2Proof.Machine.execCmdKeyZeroizeAll env a s
  | .cmdFaultClear env a => Sys2Proof.Machine.execCmdFaultClear env a s
  | .cmdPiWrite port fn value => Sys2Proof.Machine.execCmdPiWrite port fn value s
  | .cmdRingEnable port fn value => Sys2Proof.Machine.execCmdRingEnable port fn value s
  | .mctpCommand op seq a env => Sys2Proof.Machine.execMctpCommand op seq a env s
  | .mctpWarmResetRequest seq => Sys2Proof.Machine.execMctpWarmResetRequest seq s
  | .mctpFirmwareImage seq bytes final image => Sys2Proof.Machine.execMctpFirmwareImage seq bytes final image s
  | .commandPacketArrival src seq op a tagOk env => Sys2Proof.Machine.execCommandPacketArrival src seq op a tagOk env s
  | .remoteStatusArrival src seq ws tagOk => Sys2Proof.Machine.execRemoteStatusArrival src seq ws tagOk s
  | .remoteCommandTimeout seq => Sys2Proof.Machine.execRemoteCommandTimeout seq s
  | .doorbellProduce port fn page offset value => Sys2Proof.Machine.execDoorbellProduce port fn page offset value s
  | .doorbellConsume port fn page offset value => Sys2Proof.Machine.execDoorbellConsume port fn page offset value s
  | .doorbellArm port fn page offset value => Sys2Proof.Machine.execDoorbellArm port fn page offset value s
  | .doorbellArmSolicited port fn page offset value => Sys2Proof.Machine.execDoorbellArmSolicited port fn page offset value s
  | .bar2WriteRefused port fn page offset len value => Sys2Proof.Machine.execBar2WriteRefused port fn page offset len value s
  | .prefetchReadComplete id result => Sys2Proof.Machine.execPrefetchReadComplete id result s
  | .refetchGapExpiry qid => Sys2Proof.Machine.execRefetchGapExpiry qid s
  | .jobDispatch => Sys2Proof.Machine.execJobDispatch s
  | .nop qid => Sys2Proof.Machine.execNop qid s
  | .send qid => Sys2Proof.Machine.execSend qid s
  | .tsend qid => Sys2Proof.Machine.execTsend qid s
  | .put qid => Sys2Proof.Machine.execPut qid s
  | .get qid => Sys2Proof.Machine.execGet qid s
  | .atomic qid => Sys2Proof.Machine.execAtomic qid s
  | .recv qid => Sys2Proof.Machine.execRecv qid s
  | .trecv qid => Sys2Proof.Machine.execTrecv qid s
  | .tcancel qid => Sys2Proof.Machine.execTcancel qid s
  | .chorus qid => Sys2Proof.Machine.execChorus qid s
  | .lockAcquire qid => Sys2Proof.Machine.execLockAcquire qid s
  | .lockRelease qid => Sys2Proof.Machine.execLockRelease qid s
  | .ethernetFrameTransmit port => Sys2Proof.Machine.execEthernetFrameTransmit port s
  | .qmgEqCiWrite port fn q value => Sys2Proof.Machine.execQmgEqCiWrite port fn q value s
  | .contextEvictionStart qid => Sys2Proof.Machine.execContextEvictionStart qid s
  | .contextEvictionComplete qid => Sys2Proof.Machine.execContextEvictionComplete qid s
  | .contextFetchComplete qid eccError => Sys2Proof.Machine.execContextFetchComplete qid eccError s
  | .peerFetchComplete k eccError => Sys2Proof.Machine.execPeerFetchComplete k eccError s
  | .cqStallTimeout qid => Sys2Proof.Machine.execCqStallTimeout qid s
  | .dataPacketArrival p tagOk vc => Sys2Proof.Machine.execDataPacketArrival p tagOk vc s
  | .resultArrival p tagOk => Sys2Proof.Machine.execResultArrival p tagOk s
  | .resultAckArrival p => Sys2Proof.Machine.execResultAckArrival p s
  | .resultRetxExpiry group dim => Sys2Proof.Machine.execResultRetxExpiry group dim s
  | .joinTimeout group => Sys2Proof.Machine.execJoinTimeout group s
  | .chunkReduction group opseq block idx => Sys2Proof.Machine.execChunkReduction group opseq block idx s
  | .ackArrival p => Sys2Proof.Machine.execAckArrival p s
  | .nackArrival p => Sys2Proof.Machine.execNackArrival p s
  | .notNowArrival p => Sys2Proof.Machine.execNotNowArrival p s
  | .refuseArrival p => Sys2Proof.Machine.execRefuseArrival p s
  | .resyncArrival p => Sys2Proof.Machine.execResyncArrival p s
  | .openReqArrival p => Sys2Proof.Machine.execOpenReqArrival p s
  | .openAckArrival p => Sys2Proof.Machine.execOpenAckArrival p s
  | .openNakArrival p => Sys2Proof.Machine.execOpenNakArrival p s
  | .openTimeout k => Sys2Proof.Machine.execOpenTimeout k s
  | .closeReqArrival p => Sys2Proof.Machine.execCloseReqArrival p s
  | .closeAckArrival p => Sys2Proof.Machine.execCloseAckArrival p s
  | .closeNakArrival p => Sys2Proof.Machine.execCloseNakArrival p s
  | .closeTimeout k => Sys2Proof.Machine.execCloseTimeout k s
  | .retransmitTimeout k => Sys2Proof.Machine.execRetransmitTimeout k s
  | .ackDelayExpiry k => Sys2Proof.Machine.execAckDelayExpiry k s
  | .nackDelayExpiry k => Sys2Proof.Machine.execNackDelayExpiry k s
  | .notNowBackoffExpiry k psn => Sys2Proof.Machine.execNotNowBackoffExpiry k psn s
  | .unreachTimeout k => Sys2Proof.Machine.execUnreachTimeout k s
  | .mtcUnexpTimeout ctx => Sys2Proof.Machine.execMtcUnexpTimeout ctx s
  | .deregTimeout index => Sys2Proof.Machine.execDeregTimeout index s
  | .timingWheelDue qid k => Sys2Proof.Machine.execTimingWheelDue qid k s
  | .policerDeferRelease ep tc => Sys2Proof.Machine.execPolicerDeferRelease ep tc s
  | .ccIncreasePeriod k => Sys2Proof.Machine.execCcIncreasePeriod k s
  | .queueSamplePeriod => Sys2Proof.Machine.execQueueSamplePeriod s
  | .qsampleClear port fn value => Sys2Proof.Machine.execQsampleClear port fn value s
  | .pageTableReadComplete id result => Sys2Proof.Machine.execPageTableReadComplete id result s
  | .adUpdateCasComplete id result => Sys2Proof.Machine.execAdUpdateCasComplete id result s
  | .invalidationAcknowledged id => Sys2Proof.Machine.execInvalidationAcknowledged id s
  | .hostAtomicopComplete id result => Sys2Proof.Machine.execHostAtomicopComplete id result s
  | .hostReadComplete id result => Sys2Proof.Machine.execHostReadComplete id result s
  | .completionTimeout id => Sys2Proof.Machine.execCompletionTimeout id s
  | .poisonedWriteReceived port fn addr => Sys2Proof.Machine.execPoisonedWriteReceived port fn addr s
  | .hifSemAtomicop port fn off kind operand compare => Sys2Proof.Machine.execHifSemAtomicop port fn off kind operand compare s
  | .functionLevelReset port fn => Sys2Proof.Machine.execFunctionLevelReset port fn s
  | .vfEnableClear port => Sys2Proof.Machine.execVfEnableClear port s
  | .perstAssert port => Sys2Proof.Machine.execPerstAssert port s
  | .hotReset port => Sys2Proof.Machine.execHotReset port s
  | .hifLinkDown port => Sys2Proof.Machine.execHifLinkDown port s
  | .flrDrainEnd mid => Sys2Proof.Machine.execFlrDrainEnd mid s
  | .flrDrainLimit mid => Sys2Proof.Machine.execFlrDrainLimit mid s
  | .hifLinkRetrain port fn host value => Sys2Proof.Machine.execHifLinkRetrain port fn host value s
  | .spdmRequest chan req ok => Sys2Proof.Machine.execSpdmRequest chan req ok s
  | .switchPacketArrival src seq p mcast => Sys2Proof.Machine.execSwitchPacketArrival src seq p mcast s
  | .sharedPoolTransfer slice => Sys2Proof.Machine.execSharedPoolTransfer slice s
  | .escapeWaitExpiry port pid => Sys2Proof.Machine.execEscapeWaitExpiry port pid s
  | .egressFrameStart out ecc cell => Sys2Proof.Machine.execEgressFrameStart out ecc cell s
  | .residueTimeout port pid => Sys2Proof.Machine.execResidueTimeout port pid s
  | .auditPass slice leaked doubled => Sys2Proof.Machine.execAuditPass slice leaked doubled s
  | .cvecPeriodExpiry => Sys2Proof.Machine.execCvecPeriodExpiry s
  | .cvecArrival src seq ws => Sys2Proof.Machine.execCvecArrival src seq ws s
  | .mapPeriodExpiry => Sys2Proof.Machine.execMapPeriodExpiry s
  | .rteExcAdd port fn value => Sys2Proof.Machine.execRteExcAdd port fn value s
  | .rteExcDel port fn value => Sys2Proof.Machine.execRteExcDel port fn value s
  | .linkDataFrameReceive port seq ack p check => Sys2Proof.Machine.execLinkDataFrameReceive port seq ack p check s
  | .linkAckReceive port seq => Sys2Proof.Machine.execLinkAckReceive port seq s
  | .replayReqReceive port seq => Sys2Proof.Machine.execReplayReqReceive port seq s
  | .markerBlockReceive port b => Sys2Proof.Machine.execMarkerBlockReceive port b s
  | .linkReplayTimeout port => Sys2Proof.Machine.execLinkReplayTimeout port s
  | .replayReqResend port => Sys2Proof.Machine.execReplayReqResend port s
  | .standaloneAckIdle port => Sys2Proof.Machine.execStandaloneAckIdle port s
  | .creditTimeout port vc => Sys2Proof.Machine.execCreditTimeout port vc s
  | .errorWindowLimit port => Sys2Proof.Machine.execErrorWindowLimit port s
  | .initReceive port f => Sys2Proof.Machine.execInitReceive port f s
  | .initAckReceive port f => Sys2Proof.Machine.execInitAckReceive port f s
  | .initSendTimer port => Sys2Proof.Machine.execInitSendTimer port s
  | .graceExpiry port => Sys2Proof.Machine.execGraceExpiry port s
  | .ethernetFrameReceive port bytes fcsOk => Sys2Proof.Machine.execEthernetFrameReceive port bytes fcsOk s
  | .pfcFrameReceive port quanta => Sys2Proof.Machine.execPfcFrameReceive port quanta s
  | .pfcRefresh port prio => Sys2Proof.Machine.execPfcRefresh port prio s
  | .trainingFrameReceive lane status sync inverted => Sys2Proof.Machine.execTrainingFrameReceive lane status sync inverted s
  | .portLockFormed port m => Sys2Proof.Machine.execPortLockFormed port m s
  | .portLockLoss port => Sys2Proof.Machine.execPortLockLoss port s
  | .degradeWaitExpiry port => Sys2Proof.Machine.execDegradeWaitExpiry port s
  | .rejoinWaitExpiry port => Sys2Proof.Machine.execRejoinWaitExpiry port s
  | .laneLockLoss lane => Sys2Proof.Machine.execLaneLockLoss lane s
  | .laneSignalLoss lane => Sys2Proof.Machine.execLaneSignalLoss lane s
  | .quietHoldExpiry lane => Sys2Proof.Machine.execQuietHoldExpiry lane s
  | .fastTmoExpiry lane => Sys2Proof.Machine.execFastTmoExpiry lane s
  | .fullTmoExpiry lane => Sys2Proof.Machine.execFullTmoExpiry lane s
  | .quietIdleExpiry port => Sys2Proof.Machine.execQuietIdleExpiry port s
  | .quietWake port => Sys2Proof.Machine.execQuietWake port s
  | .eyeMeasureStart port fn lane value => Sys2Proof.Machine.execEyeMeasureStart port fn lane value s
  | .eyeMeasureDone lane snr height width => Sys2Proof.Machine.execEyeMeasureDone lane snr height width s
  | .injOnce port fn lane value => Sys2Proof.Machine.execInjOnce port fn lane value s
  | .leaveGrant demand => Sys2Proof.Machine.execLeaveGrant demand s
  | .noticeHoldExpiry => Sys2Proof.Machine.execNoticeHoldExpiry s
  | .arbAgeExpiry => Sys2Proof.Machine.execArbAgeExpiry s
  | .predictorExitStart dom => Sys2Proof.Machine.execPredictorExitStart dom s
  | .domainExitComplete dom => Sys2Proof.Machine.execDomainExitComplete dom s
  | .activityDecayExpiry dom => Sys2Proof.Machine.execActivityDecayExpiry dom s
  | .bcaCodeChange code => Sys2Proof.Machine.execBcaCodeChange code s
  | .powerFloorStep watts amps => Sys2Proof.Machine.execPowerFloorStep watts amps s
  | .pwrBudgetViolation => Sys2Proof.Machine.execPwrBudgetViolation s
  | .thermFloorStep sensors => Sys2Proof.Machine.execThermFloorStep sensors s
  | .thermTrip sensor => Sys2Proof.Machine.execThermTrip sensor s
  | .pwrRailFault rail above => Sys2Proof.Machine.execPwrRailFault rail above s
  | .refclkPresent => Sys2Proof.Machine.execRefclkPresent s
  | .clkRefLost => Sys2Proof.Machine.execClkRefLost s
  | .refclkReturn => Sys2Proof.Machine.execRefclkReturn s
  | .clockJudgedGood clock ppm => Sys2Proof.Machine.execClockJudgedGood clock ppm s
  | .clkOutOfWindow clock ppm => Sys2Proof.Machine.execClkOutOfWindow clock ppm s
  | .timeExchangePeriod => Sys2Proof.Machine.execTimeExchangePeriod s
  | .delayReqReceive port seq ta => Sys2Proof.Machine.execDelayReqReceive port seq ta s
  | .delayRespReceive port seq ta tb tc stratum locked => Sys2Proof.Machine.execDelayRespReceive port seq ta tb tc stratum locked s
  | .timeHoldover => Sys2Proof.Machine.execTimeHoldover s
  | .clkDtimeSetWrite port fn value => Sys2Proof.Machine.execClkDtimeSetWrite port fn value s
  | .powerOnReset => Sys2Proof.Machine.execPowerOnReset s
  | .coldReset pwrOk => Sys2Proof.Machine.execColdReset pwrOk s
  | .coldStart b => Sys2Proof.Machine.execColdStart b s
  | .warmResetRequest port fn value => Sys2Proof.Machine.execWarmResetRequest port fn value s
  | .warmQuiesceDone => Sys2Proof.Machine.execWarmQuiesceDone s
  | .warmRestore clocksOk fwOk lost b => Sys2Proof.Machine.execWarmRestore clocksOk fwOk lost b s
  | .endpointResume => Sys2Proof.Machine.execEndpointResume s
  | .shadowRetireComplete => Sys2Proof.Machine.execShadowRetireComplete s
  | .shadowViewWrite port fn off len value => Sys2Proof.Machine.execShadowViewWrite port fn off len value s
  | .registerWrite port fn off len value => Sys2Proof.Machine.execRegisterWrite port fn off len value s
  | .secLockWrite port fn value => Sys2Proof.Machine.execSecLockWrite port fn value s
  | .auditAdvance port fn value => Sys2Proof.Machine.execAuditAdvance port fn value s
  | .debugUnlock ok => Sys2Proof.Machine.execDebugUnlock ok s
  | .secTamper cause => Sys2Proof.Machine.execSecTamper cause s
  | .secKeyIntegrity cause => Sys2Proof.Machine.execSecKeyIntegrity cause s
  | .engineWatchdogExpiry code => Sys2Proof.Machine.execEngineWatchdogExpiry code s
  | .mgcHang n => Sys2Proof.Machine.execMgcHang n s
  | .memAutoRetire channel dead => Sys2Proof.Machine.execMemAutoRetire channel dead s
  | .memMigrationComplete => Sys2Proof.Machine.execMemMigrationComplete s
  | .memtestStart port fn value => Sys2Proof.Machine.execMemtestStart port fn value s
  | .memtestDone failed repaired => Sys2Proof.Machine.execMemtestDone failed repaired s
  | .sramBistRotation block inst bank rows cells => Sys2Proof.Machine.execSramBistRotation block inst bank rows cells s
  | .counterSnapshot => Sys2Proof.Machine.execCounterSnapshot s
  | .dumpWriteComplete => Sys2Proof.Machine.execDumpWriteComplete s
  | .sampleCrossing code => Sys2Proof.Machine.execSampleCrossing code s
  | .sampleCapture code obj => Sys2Proof.Machine.execSampleCapture code obj s
  | .cntSampleCiWrite port fn value => Sys2Proof.Machine.execCntSampleCiWrite port fn value s
  | .cntSampleEnable port fn value => Sys2Proof.Machine.execCntSampleEnable port fn value s
  | .telemetryArrival ep src ws => Sys2Proof.Machine.execTelemetryArrival ep src ws s
  | .railRestored => Sys2Proof.Machine.execRailRestored s
  | .perstDeassert port => Sys2Proof.Machine.execPerstDeassert port s
  | .hifLinkTrained port rate width reversed cfg => Sys2Proof.Machine.execHifLinkTrained port rate width reversed cfg s
  | .vfEnableSet port numVfs cfg => Sys2Proof.Machine.execVfEnableSet port numVfs cfg s
  | .pfcPauseExpiry port prio => Sys2Proof.Machine.execPfcPauseExpiry port prio s
  | .ethernetPortDown port => Sys2Proof.Machine.execEthernetPortDown port s
  | .markerBlockSend port => Sys2Proof.Machine.execMarkerBlockSend port s
  | .openBackoffExpiry k => Sys2Proof.Machine.execOpenBackoffExpiry k s

end Sys2Proof.Machine
end

