-- ==== Sys2Proof/Machine/Step.lean ====
section
/-! DEFINITION. One step: the command at the front of the queue, or a tick of the reference clock when none waits. -/

namespace Sys2Proof.Machine

/-- What a tick does while no command waits: one REFCLK cycle passes, the endpoint side goes on with what it works on, and the predictor lets
idle domains sleep and wakes those with work (R408, R409, R436, R454, log 1). -/
def idle (s : State) : State := whenFab predictor (whenRunning tickWork (s.advance Config.refCycle))

/-- Take the command at the front of the queue and carry it out; an empty queue gives a tick. -/
def step (s : State) : Host.Outcome State Fault Refusal :=
  match s.pending with
  | [] => .next (idle s)
  | c :: rest => exec c { s with pending := rest }

/-- Put the command that a word spells at the front of the queue. -/
def State.withFetchWord (s : State) (nbits w : Nat) : State :=
  match decodeTableWord nbits w with
  | some c => { s with pending := c :: s.pending }
  | none => s

end Sys2Proof.Machine
end

