-- ==== Sys2Proof/WellFormed.lean ====
section
/-! DEFINITION. What a well-formed command is: every operand names an instance that the part has and fits its field. A
command that is not well-formed runs too: its meaning takes an operand that names no instance for one that the part has (log 128). -/

namespace Sys2Proof

/-- The fields of a command word 0 fit (R457). -/
def CmdArgs.wf (a : CmdArgs) : Bool := decide (a.rsv < 4) && decide (a.mid < 4096) && decide (a.target < 2 ^ 24) && decide (a.tag < 65536)

/-- The fields of a peer state's name fit (R189). -/
def PeerKey.wf (k : PeerKey) : Bool := decide (k.ep < 8) && decide (k.fa < 2 ^ 27) && decide (k.tc < 4)

/-- The fields of a packet fit (R195). -/
def Packet.wf (p : Packet) : Bool :=
  decide (p.src < 2 ^ 27) && decide (p.dst < 2 ^ 27) && decide (p.tc < 4) && decide (p.ptype < 32) && decide (p.aux < 2 ^ 20)
    && decide (p.pkey < 65536) && decide (p.group < 4096) && decide (p.srcInc < 2 ^ 32) && decide (p.dstInc < 65536)
    && decide (p.data.length ≤ 4096)

/-- The fields of a routing part fit (R275). -/
def SwPkt.wf (p : SwPkt) : Bool :=
  decide (p.dst < 2 ^ 27) && decide (p.src < 2 ^ 27) && decide (p.vc < 8) && decide (p.tc < 4) && decide (p.detoured < 16)
    && decide (p.mdim < 4) && decide (p.mtype < 16) && decide (p.hops < 64)

/-- A source of the switch core exists (R299). -/
def Source.wf : Source → Bool
  | .port p => decide (p < 128)
  | .ep e => decide (e < 8)
  | .cluster c => decide (c < 8)
  | .mgmt => true

/-- An output of the switch core exists (R299, R320). -/
def Output.wf : Output → Bool
  | .port p => decide (p < 128)
  | .ep e => decide (e < 8)
  | .cluster c => decide (c < 8)
  | .mgmt => true

/-- The fields of a marker block fit (R339, R368). -/
def Marker.wf (m : Marker) : Bool :=
  decide (m.count < 65536) && decide (m.prev < 65536) && decide (m.map < 16) && decide (m.port < 128) && decide (m.coord < 2 ^ 24) && decide (m.grant.length = 8)

/-- A clock that has a monitor (R429, R431). -/
def clockFits (c : Nat) : Bool := (decide (2 ≤ c) && decide (c ≤ 8)) || (decide (0x10 ≤ c) && decide (c < 0x58))

/-- The operands of a command are in range. -/
def Instr.wf : Instr → Bool
  | .cmdNop _ a => a.wf
  | .cmdQuery _ a => a.wf
  | .cmdEndpointConfig _ a => a.wf
  | .cmdPartitionCreate _ a => a.wf
  | .cmdPartitionDestroy _ a => a.wf
  | .cmdAsidCreate _ a => a.wf
  | .cmdAsidDestroy _ a => a.wf
  | .cmdQueueCreate _ a => a.wf
  | .cmdQueueModifyAttributes _ a => a.wf
  | .cmdQueueModifyStop _ a => a.wf
  | .cmdQueueModifyStart _ a => a.wf
  | .cmdQueueModifyRecover _ a => a.wf
  | .cmdQueueDestroy _ a => a.wf
  | .cmdQueueEvict _ a => a.wf
  | .cmdRegionRegister _ a => a.wf
  | .cmdRegionDeregister _ a => a.wf
  | .cmdXltInval _ a => a.wf
  | .cmdMatchContextCreate _ a => a.wf
  | .cmdMatchContextDestroy _ a => a.wf
  | .cmdChorusCreate _ a => a.wf
  | .cmdChorusDestroy _ a => a.wf
  | .cmdLockAlloc _ a => a.wf
  | .cmdLockAllocVariables _ a => a.wf
  | .cmdLockFree _ a => a.wf
  | .cmdLockFreeForce _ a => a.wf
  | .cmdLockFreeVariables _ a => a.wf
  | .cmdGateWrite _ a => a.wf
  | .cmdShadowLoad _ a => a.wf
  | .cmdHinge _ a => a.wf
  | .cmdHingeValidateOnly _ a => a.wf
  | .cmdPortFence _ a => a.wf
  | .cmdPortUnfence _ a => a.wf
  | .cmdPortTest _ a => a.wf
  | .cmdPortTestStop _ a => a.wf
  | .cmdLaneTest _ a => a.wf
  | .cmdLaneTestStop _ a => a.wf
  | .cmdEngineRetire _ a => a.wf
  | .cmdEngineRestore _ a => a.wf
  | .cmdMemChannelRetire _ a => a.wf
  | .cmdCounterDumpConfig _ a => a.wf
  | .cmdFwStage _ a => a.wf
  | .cmdFwActivate _ a => a.wf
  | .cmdFwActivateNow _ a => a.wf
  | .cmdKeyInstallOwner _ a => a.wf
  | .cmdKeyInstallPartition _ a => a.wf
  | .cmdKeyInstallFabric _ a => a.wf
  | .cmdKeyZeroizePartition _ a => a.wf
  | .cmdKeyZeroizeFabric _ a => a.wf
  | .cmdKeyZeroizeAll _ a => a.wf
  | .cmdFaultClear _ a => a.wf
  | .cmdPiWrite port fn _ => decide (port < 8) && decide (fn < 256)
  | .cmdRingEnable port fn _ => decide (port < 8) && decide (fn < 256)
  | .mctpCommand op _ a _ => decide (op < 256) && a.wf
  | .mctpWarmResetRequest _ => true
  | .mctpFirmwareImage _ _ _ _ => true
  | .commandPacketArrival src _ op a _ _ => decide (op < 256) && a.wf && decide (src < 2 ^ 27)
  | .remoteStatusArrival src _ _ _ => decide (src < 2 ^ 27)
  | .remoteCommandTimeout _ => true
  | .doorbellProduce port fn _ _ _ => decide (port < 8) && decide (fn < 256)
  | .doorbellConsume port fn _ _ _ => decide (port < 8) && decide (fn < 256)
  | .doorbellArm port fn _ _ _ => decide (port < 8) && decide (fn < 256)
  | .doorbellArmSolicited port fn _ _ _ => decide (port < 8) && decide (fn < 256)
  | .bar2WriteRefused port fn _ _ _ _ => decide (port < 8) && decide (fn < 256)
  | .prefetchReadComplete _ _ => true
  | .refetchGapExpiry qid => decide (qid < 2 ^ 20)
  | .jobDispatch => true
  | .nop qid => decide (qid < 2 ^ 20)
  | .send qid => decide (qid < 2 ^ 20)
  | .tsend qid => decide (qid < 2 ^ 20)
  | .put qid => decide (qid < 2 ^ 20)
  | .get qid => decide (qid < 2 ^ 20)
  | .atomic qid => decide (qid < 2 ^ 20)
  | .recv qid => decide (qid < 2 ^ 20)
  | .trecv qid => decide (qid < 2 ^ 20)
  | .tcancel qid => decide (qid < 2 ^ 20)
  | .chorus qid => decide (qid < 2 ^ 20)
  | .lockAcquire qid => decide (qid < 2 ^ 20)
  | .lockRelease qid => decide (qid < 2 ^ 20)
  | .ethernetFrameTransmit port => decide (port < 128)
  | .qmgEqCiWrite port fn q _ => decide (port < 8) && decide (fn < 256) && decide (1 ≤ q) && decide (q < 4096)
  | .contextEvictionStart qid => decide (qid < 2 ^ 20)
  | .contextEvictionComplete qid => decide (qid < 2 ^ 20)
  | .contextFetchComplete qid _ => decide (qid < 2 ^ 20)
  | .peerFetchComplete k _ => k.wf
  | .cqStallTimeout qid => decide (qid < 2 ^ 20)
  | .dataPacketArrival p _ _ => p.wf
  | .resultArrival p _ => p.wf
  | .resultAckArrival p => p.wf
  | .resultRetxExpiry _ _ => true
  | .joinTimeout _ => true
  | .chunkReduction _ _ _ _ => true
  | .ackArrival p => p.wf
  | .nackArrival p => p.wf
  | .notNowArrival p => p.wf
  | .refuseArrival p => p.wf
  | .resyncArrival p => p.wf
  | .openReqArrival p => p.wf
  | .openAckArrival p => p.wf
  | .openNakArrival p => p.wf
  | .openTimeout k => k.wf
  | .closeReqArrival p => p.wf
  | .closeAckArrival p => p.wf
  | .closeNakArrival p => p.wf
  | .closeTimeout k => k.wf
  | .retransmitTimeout k => k.wf
  | .ackDelayExpiry k => k.wf
  | .nackDelayExpiry k => k.wf
  | .notNowBackoffExpiry k _ => k.wf
  | .unreachTimeout k => k.wf
  | .mtcUnexpTimeout ctx => decide (ctx < 65536)
  | .deregTimeout index => decide (index < 2 ^ 24)
  | .timingWheelDue qid k => decide (qid < 2 ^ 20) && k.wf
  | .policerDeferRelease ep tc => decide (ep < 8) && decide (tc < 3)
  | .ccIncreasePeriod k => k.wf
  | .queueSamplePeriod => true
  | .qsampleClear port fn _ => decide (port < 8) && decide (fn < 256)
  | .pageTableReadComplete _ _ => true
  | .adUpdateCasComplete _ _ => true
  | .invalidationAcknowledged _ => true
  | .hostAtomicopComplete _ _ => true
  | .hostReadComplete _ _ => true
  | .completionTimeout _ => true
  | .poisonedWriteReceived port fn _ => decide (port < 8) && decide (fn < 256)
  | .hifSemAtomicop port fn _ _ _ _ => decide (port < 8) && decide (fn < 256)
  | .functionLevelReset port fn => decide (port < 8) && decide (fn < 256)
  | .vfEnableClear port => decide (port < 8)
  | .perstAssert port => decide (port < 8)
  | .hotReset port => decide (port < 8)
  | .hifLinkDown port => decide (port < 8)
  | .flrDrainEnd mid => decide (mid < 2048)
  | .flrDrainLimit mid => decide (mid < 2048)
  | .hifLinkRetrain port fn host _ => decide (port < 8) && decide (fn < 256) && decide (host < 8)
  | .spdmRequest chan _ _ => (decide (chan < 8) || chan == 0xFF)
  | .switchPacketArrival src _ p _ => src.wf && p.wf
  | .sharedPoolTransfer slice => decide (slice < 8)
  | .escapeWaitExpiry port _ => decide (port < 128)
  | .egressFrameStart out _ _ => out.wf
  | .residueTimeout port _ => decide (port < 128)
  | .auditPass slice _ _ => decide (slice < 8)
  | .cvecPeriodExpiry => true
  | .cvecArrival src _ _ => decide (src < 2 ^ 27)
  | .mapPeriodExpiry => true
  | .rteExcAdd port fn _ => decide (port < 8) && decide (fn < 256)
  | .rteExcDel port fn _ => decide (port < 8) && decide (fn < 256)
  | .linkDataFrameReceive port _ _ p _ => decide (port < 128) && p.wf
  | .linkAckReceive port _ => decide (port < 128)
  | .replayReqReceive port _ => decide (port < 128)
  | .markerBlockReceive port b => decide (port < 128) && b.marker.wf
  | .linkReplayTimeout port => decide (port < 128)
  | .replayReqResend port => decide (port < 128)
  | .standaloneAckIdle port => decide (port < 128)
  | .creditTimeout port _ => decide (port < 128)
  | .errorWindowLimit port => decide (port < 128)
  | .initReceive port _ => decide (port < 128)
  | .initAckReceive port _ => decide (port < 128)
  | .initSendTimer port => decide (port < 128)
  | .graceExpiry port => decide (port < 128)
  | .ethernetFrameReceive port _ _ => decide (port < 128)
  | .pfcFrameReceive port _ => decide (port < 128)
  | .pfcRefresh port _ => decide (port < 128)
  | .trainingFrameReceive lane status _ _ => decide (lane < 512) && decide (status < 2 ^ 32)
  | .portLockFormed port m => decide (port < 128) && m.wf
  | .portLockLoss port => decide (port < 128)
  | .degradeWaitExpiry port => decide (port < 128)
  | .rejoinWaitExpiry port => decide (port < 128)
  | .laneLockLoss lane => decide (lane < 512)
  | .laneSignalLoss lane => decide (lane < 512)
  | .quietHoldExpiry lane => decide (lane < 512)
  | .fastTmoExpiry lane => decide (lane < 512)
  | .fullTmoExpiry lane => decide (lane < 512)
  | .quietIdleExpiry port => decide (port < 128)
  | .quietWake port => decide (port < 128)
  | .eyeMeasureStart port fn lane _ => decide (port < 8) && decide (fn < 256) && decide (lane < 512)
  | .eyeMeasureDone lane _ _ _ => decide (lane < 512)
  | .injOnce port fn lane _ => decide (port < 8) && decide (fn < 256) && decide (lane < 512)
  | .leaveGrant _ => true
  | .noticeHoldExpiry => true
  | .arbAgeExpiry => true
  | .predictorExitStart dom => decide (dom < 48)
  | .domainExitComplete dom => decide (dom < 48)
  | .activityDecayExpiry dom => decide (dom < 48)
  | .bcaCodeChange code => decide (code < 8)
  | .powerFloorStep _ _ => true
  | .pwrBudgetViolation => true
  | .thermFloorStep _ => true
  | .thermTrip sensor => decide (sensor < 16)
  | .pwrRailFault rail _ => decide (rail < 7)
  | .refclkPresent => true
  | .clkRefLost => true
  | .refclkReturn => true
  | .clockJudgedGood clock _ => clockFits clock
  | .clkOutOfWindow clock _ => clockFits clock
  | .timeExchangePeriod => true
  | .delayReqReceive port _ _ => decide (port < 128)
  | .delayRespReceive port _ _ _ _ _ _ => decide (port < 128)
  | .timeHoldover => true
  | .clkDtimeSetWrite port fn _ => decide (port < 8) && decide (fn < 256)
  | .powerOnReset => true
  | .coldReset _ => true
  | .coldStart _ => true
  | .warmResetRequest port fn _ => decide (port < 8) && decide (fn < 256)
  | .warmQuiesceDone => true
  | .warmRestore _ _ _ _ => true
  | .endpointResume => true
  | .shadowRetireComplete => true
  | .shadowViewWrite port fn _ _ _ => decide (port < 8) && decide (fn < 256)
  | .registerWrite port fn _ _ _ => decide (port < 8) && decide (fn < 256)
  | .secLockWrite port fn _ => decide (port < 8) && decide (fn < 256)
  | .auditAdvance port fn _ => decide (port < 8) && decide (fn < 256)
  | .debugUnlock _ => true
  | .secTamper cause => decide (1 ≤ cause) && decide (cause ≤ 2)
  | .secKeyIntegrity cause => decide (1 ≤ cause) && decide (cause ≤ 3)
  | .engineWatchdogExpiry code => decide (code < 0x68)
  | .mgcHang n => decide (n ≤ 4)
  | .memAutoRetire channel _ => decide (channel < 32)
  | .memMigrationComplete => true
  | .memtestStart port fn _ => decide (port < 8) && decide (fn < 256)
  | .memtestDone _ _ => true
  | .sramBistRotation block _ _ _ _ => decide (block ≤ 0x16)
  | .counterSnapshot => true
  | .dumpWriteComplete => true
  | .sampleCrossing code => decide (code < 0x68)
  | .sampleCapture code _ => decide (code < 0x68)
  | .cntSampleCiWrite port fn _ => decide (port < 8) && decide (fn < 256)
  | .cntSampleEnable port fn _ => decide (port < 8) && decide (fn < 256)
  | .telemetryArrival ep src _ => decide (ep < 8) && decide (src < 2 ^ 27)
  | .railRestored => true
  | .perstDeassert port => decide (port < 8)
  | .hifLinkTrained port _ _ _ _ => decide (port < 8)
  | .vfEnableSet port numVfs _ => decide (port < 8) && decide (1 ≤ numVfs) && decide (numVfs ≤ 255)
  | .pfcPauseExpiry port _ => decide (port < 128)
  | .ethernetPortDown port => decide (port < 128)
  | .markerBlockSend port => decide (port < 128)
  | .openBackoffExpiry k => k.wf

end Sys2Proof
end

