-- ==== Sys2Proof/Safety.lean ====
section
/-! DEFINITION. Safe runs: steps that do not stop. -/

namespace Sys2Proof

/-! ### Kinds of commands -/

/-- The command resets the device. -/
def Instr.resets : Instr → Bool
  | .powerOnReset | .coldReset _ | .warmRestore .. => true
  | _ => false

/-- Opcode of a command of the admin ring that manages endpoints, partitions, address spaces or gate rules (R459). -/
def Instr.opcode? : Instr → Option Nat
  | .cmdEndpointConfig .. => some 0x02
  | .cmdPartitionCreate .. => some 0x08
  | .cmdPartitionDestroy .. => some 0x09
  | .cmdAsidCreate .. => some 0x0A
  | .cmdAsidDestroy .. => some 0x0B
  | .cmdGateWrite .. => some 0x2A
  | _ => none

/-- The row writes one register: host port, function, register, value (R15). -/
def Instr.regRow? : Instr → Option (Nat × Nat × Machine.RegAt × Word)
  | .cmdPiWrite p f v => some (p, f, ⟨.cmdPi, 0, 0⟩, v)
  | .cmdRingEnable p f v => some (p, f, ⟨.cmdRingBase, 0, 0⟩, v)
  | .qmgEqCiWrite p f q v => some (p, f, ⟨.qmgEqCi, 0, q⟩, v)
  | .qsampleClear p f v => some (p, f, ⟨.qosQsampleSel, 0, 0⟩, v)
  | .rteExcAdd p f v => some (p, f, ⟨.rteExcAddAction, 0, 0⟩, v)
  | .rteExcDel p f v => some (p, f, ⟨.rteExcDel, 0, 0⟩, v)
  | .hifLinkRetrain p f h v => some (p, f, ⟨.hifLinkCtrl, h, 0⟩, v)
  | .eyeMeasureStart p f l v => some (p, f, ⟨.lnsEyeCtrl, l, 0⟩, v)
  | .injOnce p f l v => some (p, f, ⟨.lnsTest, l, 0⟩, v)
  | .clkDtimeSetWrite p f v => some (p, f, ⟨.clkDtimeSet, 0, 0⟩, v)
  | .warmResetRequest p f v => some (p, f, ⟨.sysCtrl, 0, 0⟩, v)
  | .secLockWrite p f v => some (p, f, ⟨.secLock, 0, 0⟩, v)
  | .auditAdvance p f v => some (p, f, ⟨.secAuditCtrl, 0, 0⟩, v)
  | .memtestStart p f v => some (p, f, ⟨.fltMemtest, 0, 0⟩, v)
  | .cntSampleCiWrite p f v => some (p, f, ⟨.cntSampleCi, 0, 0⟩, v)
  | .cntSampleEnable p f v => some (p, f, ⟨.cntSampleBase, 0, 0⟩, v)
  | _ => none

/-- The row starts a job of a queue (R76, R584): the opcode and the queue. -/
def Instr.jobRow? : Instr → Option (Nat × Nat)
  | .nop q => some (Machine.opNop, q)
  | .send q => some (Machine.opSend, q)
  | .tsend q => some (Machine.opTsend, q)
  | .put q => some (Machine.opPut, q)
  | .get q => some (Machine.opGet, q)
  | .atomic q => some (Machine.opAtomic, q)
  | .trecv q => some (Machine.opTrecv, q)
  | .tcancel q => some (Machine.opTcancel, q)
  | .chorus q => some (Machine.opChorus, q)
  | .lockAcquire q => some (Machine.opLockAcquire, q)
  | .lockRelease q => some (Machine.opLockRelease, q)
  | _ => none

/-- The row is a control packet (R198, R199): its type and the packet. -/
def Instr.controlRow? : Instr → Option (PType × Packet)
  | .ackArrival p => some (.ack, p)
  | .nackArrival p => some (.nack, p)
  | .notNowArrival p => some (.notNow, p)
  | .refuseArrival p => some (.refuse, p)
  | .resyncArrival p => some (.resync, p)
  | .openReqArrival p => some (.openReq, p)
  | .openAckArrival p => some (.openAck, p)
  | .openNakArrival p => some (.openNak, p)
  | .closeReqArrival p => some (.closeReq, p)
  | .closeAckArrival p => some (.closeAck, p)
  | .closeNakArrival p => some (.closeNak, p)
  | _ => none

/-- The command has one of these opcodes. -/
def Instr.isOp (i : Instr) (l : List Nat) : Prop := ∃ op, i.opcode? = some op ∧ op ∈ l

end Sys2Proof

namespace Sys2Proof.Machine

/-- A step answers a next state. -/
def goesOn (s : State) : Prop := ∃ t, step s = .next t

/-- No step of a run from s stops within n steps. -/
def safeFor : Nat → State → Prop
  | 0, _ => True
  | n + 1, s => ∃ t, step s = .next t ∧ safeFor n t

/-- Every command that waits is well-formed. -/
def State.pendingWf (s : State) : Bool := s.pending.all Instr.wf

/-- The parts of the state that statements name; the queue of commands and what was put out are apart. -/
inductive Part where
  /-- memory requests that wait for their host port -/
  | held
  /-- how many free values have been drawn -/
  | draws
  /-- time and clocks -/
  | clock
  /-- resets, boot and halt -/
  | boot
  /-- registers without a shadow copy -/
  | regs
  /-- the configuration sets -/
  | sets
  /-- the key store -/
  | keys
  /-- the audit log -/
  | audit
  /-- debug unlock and SPDM sessions -/
  | access
  /-- fuses -/
  | fuses
  /-- gate rules -/
  | gates
  /-- pending fault kinds -/
  | faults
  /-- engines -/
  | engines
  /-- service of device memory -/
  | memory
  /-- the command interpreter -/
  | ring
  /-- event counters -/
  | counters
  /-- the dump engine and samples -/
  | dump
  /-- host ports and their functions -/
  | hostPorts
  /-- outstanding host requests -/
  | hostReqs
  /-- queue contexts -/
  | queues
  /-- packets that wait: the pond, and those that wait for sleeping domains -/
  | pond
  /-- held doorbells, and posted writes that wait for posted credit -/
  | doorbells
  /-- journal and use of contexts -/
  | contexts
  /-- credits of dispatch -/
  | turns
  /-- jobs -/
  | jobs
  /-- asynchronous EQs and masks -/
  | events
  /-- event hold-off -/
  | holdoffs
  /-- address spaces -/
  | asids
  /-- translation caches -/
  | caches
  /-- walks -/
  | walks
  /-- invalidations -/
  | invals
  /-- pinned registrations under way -/
  | pins
  /-- partitions -/
  | partitions
  /-- the keyring -/
  | regions
  /-- target operations -/
  | targets
  /-- peer states, what waits for one, and the operation log -/
  | peers
  /-- match contexts, rendezvous and messages lost with a context -/
  | matching
  /-- locks, their records and boosts -/
  | locks
  /-- device variables -/
  | variables
  /-- chorus groups -/
  | groups
  /-- frames being placed -/
  | frames
  /-- stored packets, and those that wait to enter or are still in use -/
  | stored
  /-- outputs and their queues -/
  | egress
  /-- the exception table -/
  | exceptions
  /-- congestion vectors -/
  | vectors
  /-- congestion map numbering -/
  | maps
  /-- policers and deferred packets -/
  | policers
  /-- queue samples -/
  | samples
  /-- first hops, and the ports of pinned flows -/
  | hops
  /-- suspect cells and stopped slices -/
  | suspects
  /-- ports -/
  | ports
  /-- lanes -/
  | lanes
  /-- the power unit -/
  | power
  /-- when periodic events last fell due -/
  | periods
  deriving DecidableEq, Repr

/-- A part is the same in two states. -/
def Part.same : Part → State → State → Prop
  | .held, s, t => t.heldOut = s.heldOut
  | .draws, s, t => t.freeCtr = s.freeCtr
  | .clock, s, t => t.clk.now = s.clk.now ∧ t.clk.dtime = s.clk.dtime ∧ t.clk.slew = s.clk.slew ∧ t.clk.refOk = s.clk.refOk ∧ t.clk.refAt = s.clk.refAt ∧ t.clk.refWait = s.clk.refWait ∧ t.clk.monitors = s.clk.monitors ∧ t.clk.tState = s.clk.tState ∧ t.clk.stratum = s.clk.stratum ∧ t.clk.delay = s.clk.delay ∧ t.clk.offset = s.clk.offset ∧ t.clk.exchAt = s.clk.exchAt ∧ t.clk.seq = s.clk.seq ∧ t.clk.reqAt = s.clk.reqAt ∧ t.clk.waiting = s.clk.waiting ∧ t.clk.runLength = s.clk.runLength ∧ t.clk.missed = s.clk.missed ∧ t.clk.outAt = s.clk.outAt
  | .boot, s, t => t.sys.stage = s.sys.stage ∧ t.sys.error = s.sys.error ∧ t.sys.halt = s.sys.halt ∧ t.sys.bootCount = s.sys.bootCount ∧ t.sys.resetCause = s.sys.resetCause ∧ t.sys.warmCount = s.sys.warmCount ∧ t.sys.flashCount = s.sys.flashCount ∧ t.sys.deadbolt = s.sys.deadbolt ∧ t.sys.pwrOk = s.sys.pwrOk ∧ t.sys.pwrAt = s.sys.pwrAt ∧ t.sys.resetN = s.sys.resetN ∧ t.sys.bootSel = s.sys.bootSel ∧ t.sys.faultNForced = s.sys.faultNForced ∧ t.sys.railFault = s.sys.railFault ∧ t.sys.slots = s.sys.slots ∧ t.sys.running = s.sys.running ∧ t.sys.runVersion = s.sys.runVersion ∧ t.sys.runHeader = s.sys.runHeader ∧ t.sys.nextSlot = s.sys.nextSlot ∧ t.sys.hbmImage = s.sys.hbmImage ∧ t.sys.portsBefore = s.sys.portsBefore ∧ t.sys.acqAt = s.sys.acqAt ∧ t.sys.mctpImage = s.sys.mctpImage ∧ t.sys.mctpBytes = s.sys.mctpBytes ∧ t.sys.boot = s.sys.boot ∧ t.sys.silenced = s.sys.silenced ∧ t.sys.quiesced = s.sys.quiesced
  | .regs, s, t => t.regs = s.regs
  | .sets, s, t => t.bank0 = s.bank0 ∧ t.bank1 = s.bank1 ∧ t.cmd.shadow = s.cmd.shadow ∧ t.cmd.bank = s.cmd.bank ∧ t.cmd.gen = s.cmd.gen ∧ t.cmd.under = s.cmd.under
  | .keys, s, t => t.sec.ownerKey = s.sec.ownerKey ∧ t.sec.fabricKey = s.sec.fabricKey ∧ t.sec.partKeys = s.sec.partKeys ∧ t.sec.keyBits = s.sec.keyBits
  | .audit, s, t => t.sec.unread = s.sec.unread ∧ t.sec.lost = s.sec.lost ∧ t.sec.nextSeq = s.sec.nextSeq ∧ t.sec.lossNoted = s.sec.lossNoted ∧ t.sec.lastMac = s.sec.lastMac
  | .access, s, t => t.sec.debugUnlocked = s.sec.debugUnlocked ∧ t.sec.fails = s.sec.fails ∧ t.sec.unlockShut = s.sec.unlockShut ∧ t.sec.sessions = s.sec.sessions
  | .fuses, s, t => t.sec.svn = s.sec.svn ∧ t.sec.revoke = s.sec.revoke ∧ t.sec.rootHash = s.sec.rootHash ∧ t.sec.tamperCount = s.sec.tamperCount ∧ t.sec.secureBoot = s.sec.secureBoot ∧ t.sec.uid = s.sec.uid ∧ t.sec.bootSelCold = s.sec.bootSelCold
  | .gates, s, t => t.gates = s.gates
  | .faults, s, t => t.pend = s.pend
  | .engines, s, t => t.engines = s.engines
  | .memory, s, t => t.mem.retiredPairs = s.mem.retiredPairs ∧ t.mem.migrating = s.mem.migrating ∧ t.mem.remaining = s.mem.remaining ∧ t.mem.testing = s.mem.testing ∧ t.mem.lostCells = s.mem.lostCells
  | .ring, s, t => t.cmd.next = s.cmd.next ∧ t.cmd.doneAhead = s.cmd.doneAhead ∧ t.cmd.begun = s.cmd.begun ∧ t.cmd.remote = s.cmd.remote ∧ t.cmd.outside = s.cmd.outside ∧ t.cmd.gateWaits = s.cmd.gateWaits ∧ t.cmd.working = s.cmd.working ∧ t.cmd.nextSeq = s.cmd.nextSeq
  | .counters, s, t => t.counters = s.counters
  | .dump, s, t => t.dump.lastT = s.dump.lastT ∧ t.dump.nextSeq = s.dump.nextSeq ∧ t.dump.skipped = s.dump.skipped ∧ t.dump.skippedSince = s.dump.skippedSince ∧ t.dump.carried = s.dump.carried ∧ t.dump.writing = s.dump.writing ∧ t.dump.pendingCap = s.dump.pendingCap ∧ t.dump.sPi = s.dump.sPi ∧ t.dump.sCi = s.dump.sCi ∧ t.dump.vecArmed = s.dump.vecArmed
  | .hostPorts, s, t => t.hif.ports = s.hif.ports
  | .hostReqs, s, t => t.hif.reqs = s.hif.reqs ∧ t.hif.nextReq = s.hif.nextReq
  | .queues, s, t => t.qmg.queues = s.qmg.queues
  | .pond, s, t => t.qmg.pond = s.qmg.pond ∧ t.qmg.asleep = s.qmg.asleep
  | .doorbells, s, t => t.qmg.heldDb = s.qmg.heldDb ∧ t.qmg.stalled = s.qmg.stalled
  | .contexts, s, t => t.qmg.journal = s.qmg.journal ∧ t.qmg.useClock = s.qmg.useClock ∧ t.qmg.evictRun = s.qmg.evictRun
  | .turns, s, t => t.qmg.wrr = s.qmg.wrr
  | .jobs, s, t => t.qmg.jobs = s.qmg.jobs ∧ t.qmg.nextJid = s.qmg.nextJid
  | .events, s, t => t.qmg.epEq = s.qmg.epEq
  | .holdoffs, s, t => t.qmg.holdoffs = s.qmg.holdoffs
  | .asids, s, t => t.xlt.asids = s.xlt.asids
  | .caches, s, t => t.xlt.tlb = s.xlt.tlb ∧ t.xlt.wc = s.xlt.wc
  | .walks, s, t => t.xlt.walks = s.xlt.walks ∧ t.xlt.nextWalk = s.xlt.nextWalk ∧ t.xlt.lastFault = s.xlt.lastFault ∧ t.xlt.faulted = s.xlt.faulted
  | .invals, s, t => t.xlt.invals = s.xlt.invals ∧ t.xlt.invalDone = s.xlt.invalDone ∧ t.xlt.nextInval = s.xlt.nextInval
  | .pins, s, t => t.xlt.pinned = s.xlt.pinned ∧ t.xlt.nextTok = s.xlt.nextTok
  | .partitions, s, t => t.rma.partitions = s.rma.partitions
  | .regions, s, t => t.rma.regions = s.rma.regions ∧ t.rma.fresh = s.rma.fresh ∧ t.rma.freed = s.rma.freed
  | .targets, s, t => t.rma.targets = s.rma.targets
  | .peers, s, t => t.trn.peers = s.trn.peers ∧ t.trn.openCount = s.trn.openCount ∧ t.trn.logItems = s.trn.logItems ∧ t.trn.waiting = s.trn.waiting ∧ t.trn.opens = s.trn.opens
  | .matching, s, t => t.svc.ctxs = s.svc.ctxs ∧ t.svc.rndvs = s.svc.rndvs ∧ t.svc.unexpLost = s.svc.unexpLost
  | .locks, s, t => t.svc.locks = s.svc.locks ∧ t.svc.lockRecs = s.svc.lockRecs ∧ t.svc.boosts = s.svc.boosts
  | .variables, s, t => t.svc.varRuns = s.svc.varRuns ∧ t.svc.vars = s.svc.vars
  | .groups, s, t => t.svc.groups = s.svc.groups
  | .frames, s, t => t.svc.frames = s.svc.frames
  | .stored, s, t => t.fab.stored = s.fab.stored ∧ t.fab.nextPid = s.fab.nextPid ∧ t.fab.inject = s.fab.inject ∧ t.fab.passing = s.fab.passing ∧ t.fab.handed = s.fab.handed ∧ t.fab.operands = s.fab.operands
  | .egress, s, t => t.fab.egress = s.fab.egress
  | .exceptions, s, t => t.fab.exc = s.fab.exc
  | .vectors, s, t => t.fab.vectors = s.fab.vectors ∧ t.fab.vecSeq = s.fab.vecSeq ∧ t.fab.vecLast = s.fab.vecLast
  | .maps, s, t => t.fab.mapSeq = s.fab.mapSeq
  | .policers, s, t => t.fab.policers = s.fab.policers ∧ t.fab.deferred = s.fab.deferred
  | .samples, s, t => t.fab.samples = s.fab.samples
  | .hops, s, t => t.fab.hops = s.fab.hops ∧ t.fab.pins = s.fab.pins
  | .suspects, s, t => t.fab.suspects = s.fab.suspects ∧ t.fab.dead = s.fab.dead
  | .ports, s, t => t.fab.ports = s.fab.ports
  | .lanes, s, t => t.fab.lanes = s.fab.lanes
  | .power, s, t => t.fab.pwr = s.fab.pwr
  | .periods, s, t => t.fab.ticks = s.fab.ticks

/-- Only the parts named change; the waiting commands stay, and what was put out stays put out. -/
def Only (l : List Part) (s t : State) : Prop := t.pending = s.pending ∧ s.out <+: t.out ∧ ∀ p, p ∉ l → p.same s t

/-- Something is put out by a step, or kept until its host port may issue it (R409, R495). -/
def Puts (s t : State) (o : Out) : Prop := o ∈ t.out.drop s.out.length ∨ ∃ h ∈ t.heldOut, h.out = o

/-! ### Writes of the host -/

/-- An 8-byte write of the PF of a host port at an offset of BAR0 is served: the device runs, the function is reachable, no posted credit is
withheld (R42), the islands of the port do not sleep (R409), the port need not wait for IDE (R495), and the gate of the block permits the
write (R478, R484). -/
structure HostWrite (port off : Nat) (s : State) : Prop where
  inst : port < 8
  running : s.running = true
  reach : s.funcUp port 0 = true
  credit : s.qmg.stalled = []
  awake : s.sleeps (hostDomain port) = false
  ide : s.ideHolds port = false
  gate : ∀ b, blockAt off = some b → s.gateRefuses b.code (off - b.map.base) 8 ⟨256 * port, none, true⟩ = none

/-- A write of a function of a host port to a page of BAR2 reaches the device (R38, R42, R393, R409, R495). -/
structure Bar2Write (port fn page off : Nat) (s : State) : Prop where
  inst : port < 8
  running : s.running = true
  reach : s.funcUp port fn = true
  credit : s.qmg.stalled = []
  awake : s.sleeps (hostDomain port) = false
  ide : s.ideHolds port = false
  pages : page < 2048
  offsets : off < 0x1000

/-- Configuration requests are served: the device runs, or a warm reset is under way (R444, R448). -/
def ConfigServed (s : State) : Prop := s.sys.stage = .run ∨ s.sys.stage = .warmQuiesce ∨ s.sys.stage = .warmRestore

/-- The sources of a slice work: the fabric side runs, the slice has not stopped, nor has its die (R20, R432, R443, R514). -/
structure SliceWorks (n : Nat) (s : State) : Prop where
  fab : s.fabRunning = true
  alive : s.sliceDead n = false
  die : s.dieStopped (n / 4) = false

/-! ### Packets -/

/-- No domain that handles the packet sleeps, and no packet of its flow waits for one that does (R409). -/
structure Awake (kind : ArrivalKind) (p : Packet) (s : State) : Prop where
  domains : ∀ d ∈ s.domainsFor kind p, s.domainOn d = true
  order : ∀ x ∈ s.qmg.asleep, peerOf x.pkt ≠ peerOf p

/-- The peer state of a packet is not away, and no packet of it is parked (R63, R64). -/
structure PeerHere (k : PeerKey) (s : State) : Prop where
  here : peerAway k s = false
  order : ∀ x ∈ s.qmg.pond, peerOf x.pkt ≠ k

/-! ### Commands of the admin ring -/

/-- The interpreter begins this command in this step and nothing turns it away: the ring is enabled and holds a command (R451, R453), its
OPCODE and the reserved bits of word 0 are as R457 and R459 have them, it is for this device and comes from a function of a host port
(R464), it need not wait, nor does one from outside the ring (R454), the audit log stops no command (R498), its host port takes requests,
and the gates permit the read of the command, the command, and the write of its status (R451, R458, R482). -/
structure RingTurn (op : Nat) (a : CmdArgs) (s : State) : Prop where
  ready : s.ringReady = true
  reserved : a.rsv = 0
  opcode : a.badOp.elim false reservedOp = false ∧ reservedOp op = false
  here : a.remote = false ∧ a.target = 0
  host : a.mid < 0x800
  free : s.blocked op a.fence (decide (s.cmdCi = s.cmd.next)) none (objectOf op a) = false
  outside : s.cmd.outside = []
  audit : s.auditBlocks = false
  port : s.portHolds (s.fld .cmdRingBase 0 58 56) = false
  read : ∀ w, w < 8 → s.gateRefuses (0x40 + 8 * s.fld .cmdRingBase 0 58 56 + w) (s.ringAddr s.cmd.next) 64 ⟨mgcMid, none, false⟩ = none
  gate : s.gateRefuses 0x17 op 1 ⟨a.mid, none, true⟩ = none
  slot : ∀ w, w < 8 → s.gateRefuses (0x40 + 8 * s.fld .cmdRingBase 0 58 56 + w) (s.statusAddr s.cmd.next) 32 ⟨a.mid, none, true⟩ = none
  fresh : ∀ b ∈ s.cmd.begun, b.chan ≠ .ring s.cmd.next

/-- The command as the interpreter keeps it while it is in progress. -/
def begunAs (op : Nat) (a : CmdArgs) (s : State) : Begun :=
  { chan := .ring s.cmd.next, opcode := op, tag := a.tag, mid := a.mid, obj := objectOf op a }

/-- The state in which the command has been read and begun, and the domain that holds its object was asked to wake (R409, R451). -/
def takenBy (op : Nat) (a : CmdArgs) (s : State) : State :=
  let t := ({ s with cmd := { s.cmd with next := s.cmd.next + 1 } } : State).emit
    (.hostRead s.hif.nextReq (s.fld .cmdRingBase 0 58 56) (s.ringAddr s.cmd.next) 64 false)
  wakeForCommand (objectOf op a) { t with cmd := { t.cmd with begun := t.cmd.begun ++ [begunAs op a s] } }

/-- The registers after a command completed, where its effect left those of u: CMD_CI is the oldest position not completed (R455), and
a status other than OK is captured in CMD_ERR (R475). -/
def doneRegs (op : Nat) (s u : State) (status : Nat) : RegFile :=
  ((if status = csOk then u else cmdErr 0 op status s.cmd.next.toNat u).setReg .cmdCi 0 0
    (ciAfter (s.cmd.doneAhead.length + 1) (s.cmd.next :: s.cmd.doneAhead) s.cmdCi).1.toNat).regs

/-- The command was taken and completed within the step: its whole status is written into the slot of its position (R455, R460), the
ring moved on, and the registers follow from those of u, the state that the command's effect left. -/
def Answered (op : Nat) (a : CmdArgs) (s u t : State) (status detail r0 r1 : Nat) : Prop :=
  t.cmd.next = s.cmd.next + 1 ∧ t.cmd.begun = s.cmd.begun ∧ t.cmd.remote = s.cmd.remote ∧ t.regs = doneRegs op s u status
    ∧ Puts s t (.record (s.fld .cmdRingBase 0 58 56) a.mid (s.statusAddr s.cmd.next)
        (statusWords (if status = csOk then r0 else 0) r1 t.dtimeNs op status detail a.tag (phaseOf s.cmd.next s.ringK)) false)

/-- The command was taken and is in progress. -/
def InProgress (op : Nat) (a : CmdArgs) (s t : State) : Prop :=
  t.cmd.next = s.cmd.next + 1 ∧ t.cmd.begun = s.cmd.begun ++ [begunAs op a s] ∧ t.cmd.remote = s.cmd.remote

end Sys2Proof.Machine
end

