-- ==== Sys2Proof/Certificates/Slice0/Obligations.lean ====
section
/-! DEFINITION. Statements for the provers: what the rules of spec/ say of the commands and of the machine. Each conclusion that a
command answers a next state holds for every state and operands that meet the hypotheses. -/

open Sys2Proof Sys2Proof.Machine

/-! ### The machine as a whole -/

/-- A step takes the command at the front of the queue and runs it on the state with the rest of the queue; what it answers leaves
the rest of the queue waiting. -/
def Obligations.StepRunsFrontCommand : Prop :=
  ∀ (c : Instr) (rest : List Instr) (s : State), s.pending = c :: rest →
    step s = exec c { s with pending := rest } ∧ ∀ t, step s = .next t → t.pending = rest

/-- With no command waiting a step is one cycle of REFCLK (the model's choice, log 1): time passes, and where no command waits outside
the ring, none is still at work and no group has failed, nothing is put out, and only the power unit's predictor and its wake counter act. -/
def Obligations.EmptyQueueIsTick : Prop :=
  ∀ s : State, s.pending = [] → ∃ t, step s = .next t ∧ t.pending = [] ∧ s.clk.now + Config.refCycle ≤ t.clk.now
    ∧ (s.cmd.outside = [] → s.cmd.working = [] → (∀ g ∈ s.svc.groups, g.state ≠ .failed) → t.out = s.out ∧ t.clk.now = s.clk.now + Config.refCycle ∧ Only [.clock, .counters, .power] s t)

/-- No command faults and none is refused: each answers a next state, from every state. -/
def Obligations.NoCommandStops : Prop :=
  ∀ (i : Instr) (s : State), ∃ t, exec i s = .next t

/-- A command takes nothing from the queue of those that wait and adds nothing to it. -/
def Obligations.CommandsLeaveTheQueue : Prop :=
  ∀ (i : Instr) (s t : State), exec i s = .next t → t.pending = s.pending

/-- The invariant holds right after reset. -/
def Obligations.InvariantAtReset : Prop := State.reset.regsRising = true ∧ State.reset.pendingWf = true

/-- Every step keeps the registers in their canonical form and the waiting commands well-formed. -/
def Obligations.StepKeepsInvariant : Prop :=
  ∀ s t : State, s.regsRising = true → s.pendingWf = true → step s = .next t → t.regsRising = true ∧ t.pendingWf = true

/-- What a step put out stays put out, and the model's clock never runs backward. -/
def Obligations.StepIsMonotone : Prop :=
  ∀ s t : State, step s = .next t → s.out <+: t.out ∧ s.clk.now ≤ t.clk.now

/-- Partitions, address spaces, asynchronous EQs, gate rules, dispatch credits and map numbers change only by the commands that manage
them and by resets. -/
def Obligations.ObjectsChangeOnlyByTheirCommands : Prop :=
  ∀ (c : Instr) (s t : State), exec c s = .next t → c.resets = false →
    (t.rma.partitions ≠ s.rma.partitions → c.isOp [0x08, 0x09])
    ∧ (t.xlt.asids ≠ s.xlt.asids → c.isOp [0x0A, 0x0B])
    ∧ (t.qmg.epEq ≠ s.qmg.epEq → c.isOp [0x02])
    ∧ (t.gates ≠ s.gates → c.isOp [0x2A])
    ∧ (t.qmg.wrr ≠ s.qmg.wrr → c = .jobDispatch)
    ∧ (t.fab.mapSeq ≠ s.fab.mapSeq → c = .mapPeriodExpiry)

/-- While a deadbolt holds, no command changes anything but the supply: a power-on reset, which ends it, and the fall of PWR_OK
(R423, R442, R499, R513). Only the model's count of free values moves, for operands that name no instance (log 128). -/
def Obligations.DeadboltHoldsUntilPowerCycle : Prop :=
  ∀ (c : Instr) (s t : State), s.sys.deadbolt ≠ .none → exec c s = .next t → c ≠ .powerOnReset →
    (∃ n, t = { s with freeCtr := n }) ∨ ∃ p, c = .coldReset p ∧ t = { s with sys := { s.sys with pwrOk := p } }

/-- No command lowers the SVN fuse or the count of TAMPER_COUNT fuses (R489, R499). -/
def Obligations.FusesOnlyRise : Prop :=
  ∀ (c : Instr) (s t : State), exec c s = .next t → s.sec.svn ≤ t.sec.svn ∧ (s.sec.tamperCount ≤ 16 → s.sec.tamperCount ≤ t.sec.tamperCount)

/-! ### Commands of the admin ring: management, partitions, address spaces -/

/-- CMD_NOP changes nothing and completes OK; CMD_QUERY writes the 256-byte record of the object it names to the buffer (R459). -/
def Obligations.NopAndQueryComplete : Prop :=
  (∀ env a s, RingTurn 0x00 a s → badWords a [] = false →
    ∃ t, exec (.cmdNop env a) s = .next t ∧ Answered 0x00 a s s t csOk 0 0 0 ∧ Only [.ring, .regs, .held] s t)
  ∧ (∀ env a s l, RingTurn 0x01 a s → badWords a [mask 63 60 + mask 31 0, allBits] = false → bits a.w1.toNat 63 60 ≠ 7 →
    (queryRecord a s).1 = .ok l →
    (∀ w, w < 8 → s.gateRefuses (0x40 + 8 * midPort a.mid + w) a.w2.toNat 256 ⟨a.mid, none, true⟩ = none) →
    ∃ t, exec (.cmdQuery env a) s = .next t ∧ Answered 0x01 a s s t csOk 0 256 0
      ∧ Puts s t (.record (midPort a.mid) a.mid a.w2.toNat ((List.range 32).map (fun i => word ((l[i]?).getD 0))) false)
      ∧ Only [.ring, .regs, .held, .power, .counters] s t)

/-- CMD_FAULT_CLEAR clears the pending bit of a kind, or with 0xFF every pending bit and class counter; pending bits of C4 kinds stay;
CLEAR_FIRST clears FLT_FIRST_HI.VALID and FLT_OVERFLOW (R510). -/
def Obligations.FaultClearClears : Prop :=
  ∀ env a s, RingTurn 0x49 a s → badWords a [mask 7 0 + mask 63 63] = false → s.regsRising = true →
    ∃ t, exec (.cmdFaultClear env a) s = .next t ∧ t.cmd.next = s.cmd.next + 1 ∧ t.cmd.begun = s.cmd.begun
      ∧ Only [.ring, .regs, .held, .faults] s t
      ∧ (∀ x, x ∈ t.pend ↔ x ∈ s.pend ∧ (classOfCode x = 4 ∨ (bits a.w1.toNat 7 0 ≠ 0xFF ∧ x ≠ bits a.w1.toNat 7 0)))
      ∧ (∀ c, c < 5 → t.raw .fltClassCnt 0 c = if bits a.w1.toNat 7 0 = 0xFF then 0 else s.raw .fltClassCnt 0 c)
      ∧ t.raw .fltOverflow 0 0 = (if bit a.w1.toNat 63 then 0 else s.raw .fltOverflow 0 0)
      ∧ bit (t.raw .fltFirstHi 0 0) 63 = (!bit a.w1.toNat 63 && bit (s.raw .fltFirstHi 0 0) 63)

/-- CMD_ENDPOINT_CONFIG sets the asynchronous EQ and the event mask of the endpoint of its function's host port, where the QID is 0 or
an EQ of the function (R96). -/
def Obligations.EndpointConfigSetsEventQueue : Prop :=
  ∀ env a s, RingTurn 0x02 a s → badWords a [mask 51 32, allBits] = false →
    (bits a.w1.toNat 51 32 = 0 ∨ ∃ x, s.queue? (bits a.w1.toNat 51 32) = some x ∧ x.kind = .eq ∧ x.attr.mid = a.mid) →
    ∃ t, exec (.cmdEndpointConfig env a) s = .next t ∧ Answered 0x02 a s s t csOk 0 0 0 ∧ Only [.ring, .regs, .held, .events, .power, .counters] s t
      ∧ t.qmg.epEq = s.qmg.epEq.set (midPort a.mid) (bits a.w1.toNat 51 32, a.w2)

/-- CMD_PARTITION_CREATE adds a partition under a key that none has; CMD_PARTITION_DESTROY removes one of which no region, queue, ASID
or match context exists, and completes BUSY and changes nothing while one does (R134, R136). -/
def Obligations.PartitionsAreCreatedAndDestroyed : Prop :=
  (∀ env a s, RingTurn 0x08 a s → badWords a [mask 16 0 + mask 31 24] = false → bits a.w1.toNat 31 24 ≠ 0 →
    (∀ p ∈ s.rma.partitions, p.pkey ≠ bits a.w1.toNat 15 0) →
    ∃ t, exec (.cmdPartitionCreate env a) s = .next t ∧ Answered 0x08 a s s t csOk 0 0 0 ∧ Only [.ring, .regs, .held, .partitions] s t
      ∧ t.rma.partitions = s.rma.partitions
        ++ [{ pkey := bits a.w1.toNat 15 0, protect := bit a.w1.toNat 16, weight := bits a.w1.toNat 31 24 }])
  ∧ (∀ env a s, RingTurn 0x09 a s → badWords a [mask 15 0] = false → (∃ p ∈ s.rma.partitions, p.pkey = bits a.w1.toNat 15 0) →
    ∃ t, exec (.cmdPartitionDestroy env a) s = .next t
      ∧ if s.partitionUsed (bits a.w1.toNat 15 0) then
          Answered 0x09 a s s t csBusy 0 0 0 ∧ Only [.ring, .regs, .held] s t
        else
          Answered 0x09 a s s t csOk 0 0 0 ∧ Only [.ring, .regs, .held, .partitions] s t
            ∧ t.rma.partitions = s.rma.partitions.filter (fun p => p.pkey ≠ bits a.w1.toNat 15 0))

/-- CMD_ASID_CREATE adds an address space with its fixed host port, levels, root, AD mode, partition and group; CMD_ASID_DESTROY removes
one that no region and no queue uses, with its translations, and completes BUSY while one does (R134, R136, R164, R186). -/
def Obligations.AddressSpacesAreCreatedAndDestroyed : Prop :=
  (∀ env a s f, RingTurn 0x0A a s → badWords a [mask 27 0 + mask 47 32, mask 51 12 + mask 5 4 + mask 2 0] = false →
    3 ≤ bits a.w2.toNat 2 0 → bits a.w2.toNat 2 0 ≤ 5 → bits a.w2.toNat 5 4 ≠ 3 → s.func? a.mid = some f → f.draining = none →
    s.asid? (bits a.w1.toNat 15 0) = none → (s.partition? (bits a.w1.toNat 47 32)).isSome = true →
    s.deviceWindow (midPort a.mid) (at_ 12 (bits a.w2.toNat 51 12)) = false →
    (bits a.w2.toNat 5 4 = 1 → s.atomicOn (midPort a.mid) a.mid = true) →
    ∃ t, exec (.cmdAsidCreate env a) s = .next t ∧ Answered 0x0A a s s t csOk 0 0 0 ∧ Only [.ring, .regs, .held, .asids] s t
      ∧ t.xlt.asids = s.xlt.asids ++ [{
          asid := bits a.w1.toNat 15 0, mid := a.mid, host := midPort a.mid, levels := bits a.w2.toNat 2 0
          root := at_ 12 (bits a.w2.toNat 51 12), adMode := bits a.w2.toNat 5 4, pkey := bits a.w1.toNat 47 32
          group := bits a.w1.toNat 27 16 }])
  ∧ (∀ env a s x, RingTurn 0x0B a s → badWords a [mask 15 0] = false → s.asid? (bits a.w1.toNat 15 0) = some x → x.mid = a.mid →
    (∀ q ∈ s.qmg.queues, q.fetch.held = none ∧ q.sink.recHeld = false) →
    ∃ t, exec (.cmdAsidDestroy env a) s = .next t
      ∧ if s.rma.regions.any (fun r => r.asid == bits a.w1.toNat 15 0 && r.state != .free)
            || s.qmg.queues.any (fun q => q.attr.asid == bits a.w1.toNat 15 0) then
          Answered 0x0B a s s t csBusy 0 0 0 ∧ Only [.ring, .regs, .held, .power, .counters] s t
        else
          Answered 0x0B a s s t csOk 0 0 0 ∧ Only [.ring, .regs, .held, .asids, .caches, .walks, .power, .counters] s t
            ∧ t.xlt.asids = s.xlt.asids.filter (fun y => y.asid ≠ bits a.w1.toNat 15 0)
            ∧ t.xlt.tlb = s.xlt.tlb.filter (fun e => e.asid ≠ bits a.w1.toNat 15 0)
            ∧ t.xlt.wc = s.xlt.wc.filter (fun e => e.asid ≠ bits a.w1.toNat 15 0))

/-! ### Rules of shared operations -/

/-- R509: every message adds 1 to FLT_CLASS_CNT for its class, saturating at 2^32 − 1, and a warm reset keeps the counters. -/
def Obligations.ClassCountersCountEveryMessage : Prop :=
  (∀ (k : FKind) (source inst addr : Nat) (s : State), s.regsRising = true →
    (∀ c, c < 5 → s.raw .fltClassCnt 0 c < 2 ^ 32) →
    (hubTake k source inst addr s).raw .fltClassCnt 0 k.cls = min (2 ^ 32 - 1) (s.raw .fltClassCnt 0 k.cls + 1)
      ∧ ∀ c, c < 5 → c ≠ k.cls → (hubTake k source inst addr s).raw .fltClassCnt 0 c = s.raw .fltClassCnt 0 c)
  ∧ (∀ (s : State) (c : Nat), c < 5 → s.regsRising = true →
    ({ s with regs := warmRegs s.regs } : State).raw .fltClassCnt 0 c = s.raw .fltClassCnt 0 c)

/-- R300: a packet of L bytes, from byte 0 of the routing part to the end of its integrity tag, occupies ceil(L / 128) cells; one of
4,160 B occupies 33. -/
def Obligations.PacketsOccupyWholeCells : Prop :=
  (∀ L : Nat, L ≤ 128 * cellsOf L ∧ 128 * cellsOf L < L + 128) ∧ cellsOf 4160 = 33

/-- R74: a CQ or an EQ to which a queue that is not UNUSED is bound is not destroyed: the command fails and changes nothing. -/
def Obligations.BoundQueuesAreNotDestroyed : Prop :=
  ∀ env a s q, RingTurn 0x12 a s → badWords a [mask 19 0] = false → s.queue? (bits a.w1.toNat 19 0) = some q → q.attr.mid = a.mid →
    (∃ x ∈ s.qmg.queues, (q.kind = .cq ∧ (x.kind = .sq ∨ x.kind = .srq) ∧ x.attr.cq = q.qid)
      ∨ (q.kind = .eq ∧ x.kind ≠ .eq ∧ x.attr.eq = q.qid)) →
    ∃ t, exec (.cmdQueueDestroy env a) s = .next t ∧ Answered 0x12 a s s t csBusy 0 0 0 ∧ Only [.ring, .regs, .held, .power, .counters] s t

/-! ### Commands of the admin ring: queues -/

/-- CMD_QUEUE_CREATE, where the context cache has an entry or gives one up, appends a queue in ACTIVE, resident, with its positions 0 and
the attributes of its words, homed at a cluster of the model's free choice, which is its RESULT0; an EQ's position registers read 0
(R31, R32, R57, R73). Without an entry it completes NO_RESOURCE. -/
def Obligations.QueueCreateMakesActiveQueue : Prop :=
  (∀ env a s k x f u, RingTurn 0x10 a s → s.regsRising = true →
    queueKind (bits a.w1.toNat 23 20) = some k →
    badWords a [mask 30 0 + mask 47 32, allBits, mask 19 0 + mask 51 32, mask 14 0 + mask 17 16 + mask 31 20] = false →
    s.func? a.mid = some f → f.draining = none → s.asid? (bits a.w1.toNat 47 32) = some x → x.mid = a.mid →
    s.createFits k a = true → s.queue? (bits a.w1.toNat 19 0) = none → (bit a.w1.toNat 25 = true → s.pinRoom = true) →
    cacheEntry s = some u →
    ∃ t, exec (.cmdQueueCreate env a) s = .next t
      ∧ Answered 0x10 a s (if k = .eq then (s.setReg .qmgEqPi 0 (bits a.w1.toNat 19 0) 0).setReg .qmgEqCi 0 (bits a.w1.toNat 19 0) 0 else s)
          t csOk 0 (pickHome s).1 0
      ∧ Only [.ring, .regs, .held, .draws, .queues] s t
      ∧ ∃ q, t.qmg.queues = u.qmg.queues ++ [q] ∧ q.qid = bits a.w1.toNat 19 0 ∧ q.kind = k ∧ q.state = .active ∧ q.ci = 0
        ∧ q.attr = createAttr k a x (pickHome s).1 ∧ q.fetch = fetchNew 0 0 ∧ q.sink = sinkAt 0 0
        ∧ q.resid = .resident)
  ∧ (∀ env a s k x f, RingTurn 0x10 a s → queueKind (bits a.w1.toNat 23 20) = some k →
    badWords a [mask 30 0 + mask 47 32, allBits, mask 19 0 + mask 51 32, mask 14 0 + mask 17 16 + mask 31 20] = false →
    s.func? a.mid = some f → f.draining = none → s.asid? (bits a.w1.toNat 47 32) = some x → x.mid = a.mid →
    s.createFits k a = true → s.queue? (bits a.w1.toNat 19 0) = none → (bit a.w1.toNat 25 = true → s.pinRoom = true) →
    cacheEntry s = none →
    ∃ t, exec (.cmdQueueCreate env a) s = .next t ∧ Answered 0x10 a s s t csNoResource 0 0 0 ∧ Only [.ring, .regs, .held] s t)

/-- CMD_QUEUE_MODIFY with ACTION 0x0 replaces exactly the attributes that its change mask names; a queue pinned by it is fetched, where
the context cache has a free entry (R32, R58, R96, log 60). -/
def Obligations.QueueModifyChangesNamedAttributes : Prop :=
  ∀ env a s q, RingTurn 0x11 (withW1 23 20 0 a) s →
    badWords (withW1 23 20 0 a) [mask 28 0, 0, mask 19 0 + mask 51 32, mask 14 0 + mask 17 16 + mask 31 20, 0] = false →
    s.queue? (bits (withW1 23 20 0 a).w1.toNat 19 0) = some q → q.attr.mid = a.mid → q.state ≠ .draining →
    let m := bits (withW1 23 20 0 a).w1.toNat 28 24
    (bit m 0 = true → q.kind ≠ .eq ∧ s.eqFits q.attr.ep (bits a.w3.toNat 51 32) = true) →
    (bit m 1 = true → (q.kind = .sq ∨ q.kind = .srq) ∧ bits a.w4.toNat 7 0 ≠ 0) →
    (bit m 2 = true → (q.kind = .sq ∨ q.kind = .srq) ∧ 1 ≤ bits a.w4.toNat 14 8 ∧ bits a.w4.toNat 14 8 ≤ 64) →
    (bit m 3 = true → q.kind = .sq ∧ bits a.w4.toNat 17 16 ≠ 3) →
    (bit m 4 = true → q.attr.pin = false → s.pinRoom = true) →
    ∃ t, exec (.cmdQueueModifyAttributes env a) s = .next t ∧ Answered 0x11 (withW1 23 20 0 a) s s t csOk 0 0 0
      ∧ Only [.ring, .regs, .held, .queues, .power, .counters] s t
      ∧ t.qmg.queues = s.qmg.queues.map (fun x => if x.qid = q.qid then
          { x with
            attr := { x.attr with
              eq := if bit m 0 then bits a.w3.toNat 51 32 else x.attr.eq
              weight := if bit m 1 then bits a.w4.toNat 7 0 else x.attr.weight
              burst := if bit m 2 then bits a.w4.toNat 14 8 else x.attr.burst
              tc := if bit m 3 then bits a.w4.toNat 17 16 else x.attr.tc
              pin := if bit m 4 then !x.attr.pin else x.attr.pin }
            resid := if bit m 4 && !q.attr.pin && decide (x.resid = .evicted) && decide (s.cacheUsed < Config.contextCache) then .fetching else x.resid }
          else x)

/-- CMD_QUEUE_MODIFY with STOP moves an ACTIVE queue to STOPPED: no prefetch goes on, reads under way bring nothing, nothing taken is
kept; with no job outstanding the drained event of a work queue is due at once, where events may be written (R72, R73, R583). -/
def Obligations.QueueStopEndsPrefetchAndDispatch : Prop :=
  ∀ env a s q, RingTurn 0x11 (withW1 23 20 1 a) s →
    badWords (withW1 23 20 1 a) [mask 28 0, 0, mask 19 0 + mask 51 32, mask 14 0 + mask 17 16 + mask 31 20, 0] = false →
    s.queue? (bits (withW1 23 20 1 a).w1.toNat 19 0) = some q → q.attr.mid = a.mid → q.state = .active →
    let stop (x : Queue) : Queue :=
      { x with state := .stopped, drainEvt := q.kind == .sq || q.kind == .srq, fetch := x.fetch.restart x.fetch.known x.ci }
    let u := updQueue q.qid stop (takenBy 0x11 (withW1 23 20 1 a) s)
    if (q.kind = .sq ∨ q.kind = .srq) ∧ s.liveJobs q.qid = [] ∧ s.evUp = true then
      exec (.cmdQueueModifyStop env a) s = .next (completeCmd (begunAs 0x11 (withW1 23 20 1 a) s) csOk 0 0 0
        (queueEvent (stop q) evQueueDrained q.ci.toNat 0 (updQueue q.qid (fun x => { x with drainEvt := false }) u)))
    else
      ∃ t, exec (.cmdQueueModifyStop env a) s = .next t ∧ Answered 0x11 (withW1 23 20 1 a) s s t csOk 0 0 0
        ∧ Only [.ring, .regs, .held, .queues, .power, .counters] s t
        ∧ t.qmg.queues = s.qmg.queues.map (fun x => if x.qid = q.qid then stop x else x)

/-- CMD_QUEUE_MODIFY with START makes a STOPPED queue ACTIVE and goes on with what waited; with RECOVER a queue in ERROR with nothing
outstanding and positions that fit takes them and becomes ACTIVE (R46, R73, R582). -/
def Obligations.QueueStartAndRecoverMakeActive : Prop :=
  (∀ env a s q, RingTurn 0x11 (withW1 23 20 2 a) s →
    badWords (withW1 23 20 2 a) [mask 28 0, 0, mask 19 0 + mask 51 32, mask 14 0 + mask 17 16 + mask 31 20, 0] = false →
    s.queue? (bits (withW1 23 20 2 a).w1.toNat 19 0) = some q → q.attr.mid = a.mid → q.state = .stopped →
    let u := dropDrained q.qid (updQueue q.qid (fun x => { x with state := .active, drainEvt := false }) (takenBy 0x11 (withW1 23 20 2 a) s))
    exec (.cmdQueueModifyStart env a) s = .next (completeCmd (begunAs 0x11 (withW1 23 20 2 a) s) csOk 0 0 0
      (match q.kind with
        | .cq => cqDrain q.qid (q.sink.recWait.length + 1) u
        | .eq => eqRetry q.qid u
        | _ => startRun q.qid (wakeDomain (engineDomain q.attr.home) u))))
  ∧ (∀ env a s q, RingTurn 0x11 (withW1 23 20 3 a) s →
    badWords (withW1 23 20 3 a) [mask 28 0, 0, mask 19 0 + mask 51 32, mask 14 0 + mask 17 16 + mask 31 20, allBits] = false →
    s.queue? (bits (withW1 23 20 3 a).w1.toNat 19 0) = some q → q.attr.mid = a.mid → q.state = .error → s.outstanding? q = false →
    let p : Pos := BitVec.ofNat 32 (bits a.w5.toNat 63 32)
    let c : Pos := BitVec.ofNat 32 (bits a.w5.toNat 31 0)
    dist p c ≤ q.size →
    let u := updQueue q.qid (fun x => { x with
      state := .active, reset := false, ci := c, fetch := x.fetch.restart p c
      sink := { sinkAt p c with evWait := x.sink.evWait, lost := x.sink.lost, slotWait := x.sink.slotWait, vecReady := x.sink.vecReady } })
      (takenBy 0x11 (withW1 23 20 3 a) s)
    exec (.cmdQueueModifyRecover env a) s = .next (completeCmd (begunAs 0x11 (withW1 23 20 3 a) s) csOk 0 0 0
      (match q.kind with
        | .eq => eqFlush q.qid ((u.setReg .qmgEqPi 0 q.qid p.toNat).setReg .qmgEqCi 0 q.qid c.toNat)
        | .cq => cqWake q.qid u
        | _ => startRun q.qid (wakeDomain (engineDomain q.attr.home) u))))

/-- CMD_QUEUE_DESTROY of a queue to which none is bound moves it to DRAINING and drops what it had not accepted: an SRQ waits while
accepted jobs are outstanding, a CQ or EQ, which has none, is removed at once and the command completes, and an SQ also withdraws its
posted receives, its unmatched RTSs and its places in groups (R73, R74, R94, R124, R248, R583). -/
def Obligations.QueueDestroyDrainsQueue : Prop :=
  ∀ env a s q, RingTurn 0x12 a s → badWords a [mask 19 0] = false → s.queue? (bits a.w1.toNat 19 0) = some q → q.attr.mid = a.mid →
    q.state ≠ .draining →
    (∀ x ∈ s.qmg.queues, ¬(q.kind = .cq ∧ (x.kind = .sq ∨ x.kind = .srq) ∧ x.attr.cq = q.qid)
      ∧ ¬(q.kind = .eq ∧ x.kind ≠ .eq ∧ x.attr.eq = q.qid)) →
    let drain (x : Queue) : Queue :=
      { x with state := .draining, drainEvt := (q.kind == .sq || q.kind == .srq) && !x.reset, fetch := x.fetch.restart x.fetch.known x.ci }
    let d := dropDrained q.qid (updQueue q.qid drain s)
    let u := dropDrained q.qid (updQueue q.qid drain (takenBy 0x12 a s))
    (q.kind = .sq →
      exec (.cmdQueueDestroy env a) s = .next (queueIdle q.qid (memberQueueLost q.qid (withdrawRts q.qid (cancelPosted q.qid u)))))
    ∧ (q.kind ≠ .sq → exec (.cmdQueueDestroy env a) s = .next (queueIdle q.qid u))
    ∧ (q.kind = .srq → s.liveJobs q.qid ≠ [] →
      ∃ t, exec (.cmdQueueDestroy env a) s = .next t ∧ InProgress 0x12 a s t ∧ Only [.ring, .queues, .power, .counters] s t
        ∧ t.qmg.queues = d.qmg.queues)
    ∧ (q.kind = .cq ∨ q.kind = .eq → q.sink.recWait = [] → q.sink.slotWait = [] → (∀ j ∈ s.qmg.jobs, j.qid ≠ q.qid) →
      ∃ t, exec (.cmdQueueDestroy env a) s = .next t ∧ Answered 0x12 a s s t csOk 0 0 0
        ∧ Only [.ring, .regs, .held, .queues, .doorbells, .power, .counters] s t
        ∧ t.queue? q.qid = none ∧ ∀ n, n ≠ q.qid → (t.queue? n).map (·.state) = (s.queue? n).map (·.state))

/-- CMD_QUEUE_EVICT of an evictable context starts its eviction through the journal, where no rule of a device memory gate could refuse
the journal's write; one already in the store completes OK (R57, R59, R485). -/
def Obligations.QueueEvictStartsEviction : Prop :=
  ∀ env a s q, RingTurn 0x13 a s → badWords a [mask 19 0] = false → s.queue? (bits a.w1.toNat 19 0) = some q → q.attr.mid = a.mid →
    (q.resid = .evicted → ∃ t, exec (.cmdQueueEvict env a) s = .next t ∧ Answered 0x13 a s s t csOk 0 0 0
      ∧ Only [.ring, .regs, .held, .power, .counters] s t)
    ∧ (q.resid ≠ .evicted → s.evictable q = true → (∀ r ∈ s.gates, r.gate < 0x20 ∨ 0x40 ≤ r.gate) →
      ∃ t, exec (.cmdQueueEvict env a) s = .next t ∧ InProgress 0x13 a s t ∧ Only [.ring, .queues, .contexts, .power, .counters] s t
        ∧ bits a.w1.toNat 19 0 ∈ t.qmg.journal
        ∧ t.qmg.queues = s.qmg.queues.map (fun x => if x.qid = bits a.w1.toNat 19 0 then { x with resid := .evicting, saved := x.image } else x))

/-! ### Commands of the admin ring: regions, translations, match contexts, groups -/

/-- CMD_REGION_REGISTER without PIN takes the entry asked for, or the one FREE longest, for a region with the attributes of its words,
and returns its key, index and variant; with PIN the walk of its pages starts (R137-R139, R142). -/
def Obligations.RegionRegisterTakesFreeEntry : Prop :=
  ∀ env a s x n, RingTurn 0x18 a s → badWords a [mask 23 0 + mask 53 32, allBits, allBits] = false → s.creator a = csOk →
    s.asid? (bits a.w1.toNat 47 32) = some x → x.mid = a.mid → 0 < a.w3.toNat → a.w3.toNat ≤ 2 ^ 46 →
    a.w2.toNat + a.w3.toNat ≤ 2 ^ vaBits x.levels →
    (if bits a.w1.toNat 23 0 = 0 then s.freeIndex = some n
      else n = bits a.w1.toNat 23 0 ∧ n < s.keyringSize ∧ ∀ r, s.region? n = some r → r.state = .free) →
    let v := (s.region? n).elim 0 (·.variant)
    let reg (i v : Nat) : Region :=
      { index := i, variant := v, state := .valid, ep := midPort a.mid, mid := a.mid, pkey := x.pkey, group := x.group, asid := x.asid
        base := a.w2.toNat, length := a.w3.toNat, localWrite := bit a.w1.toNat 48, rRead := bit a.w1.toNat 49
        rWrite := bit a.w1.toNat 50, rAtomic := bit a.w1.toNat 51, scopeGroup := bit a.w1.toNat 52, pin := bit a.w1.toNat 53, deregAt := 0 }
    (bit a.w1.toNat 53 = false →
      ∃ t, exec (.cmdRegionRegister env a) s = .next t ∧ Answered 0x18 a s s t csOk 0 (256 * n + v) 0
        ∧ Only [.ring, .regs, .held, .regions] s t ∧ t.region? n = some (reg n v) ∧ ∀ m, m ≠ n → t.region? m = s.region? m)
    ∧ (bit a.w1.toNat 53 = true →
      exec (.cmdRegionRegister env a) s = .next (pinGo s.xlt.nextTok { takenBy 0x18 a s with xlt := { s.xlt with
        pinned := s.xlt.pinned ++ [(s.xlt.nextTok, s.cmd.next, reg (bits a.w1.toNat 23 0) 0, a.w2.toNat)], nextTok := s.xlt.nextTok + 1 } }))

/-- CMD_REGION_DEREGISTER of a region's key makes every key of it stale at once: while an accepted operation references the entry it is
DRAINING and the command waits; with none it is FREE, last in line, and the command completes (R138, R143). -/
def Obligations.RegionDeregisterStalesKeys : Prop :=
  ∀ env a s r, RingTurn 0x19 a s → badWords a [mask 31 0] = false → s.region? (bits a.w1.toNat 31 8) = some r → r.state = .valid →
    r.variant = bits a.w1.toNat 7 0 → r.mid = a.mid →
    (s.regionUsed r.index = true → (∀ x ∈ s.rma.regions, x.state = .draining → s.regionUsed x.index = true) →
      ∃ t, exec (.cmdRegionDeregister env a) s = .next t ∧ InProgress 0x19 a s t ∧ Only [.ring, .regions] s t
        ∧ t.region? r.index = some (r.leave s.clk.now) ∧ ∀ m, m ≠ r.index → t.region? m = s.region? m)
    ∧ (s.regionUsed r.index = false → (∀ x ∈ s.rma.regions, x.state ≠ .draining) →
      (s.rma.regions.filter (fun x => x.index = r.index)).length = 1 →
      ∃ t, exec (.cmdRegionDeregister env a) s = .next t ∧ Answered 0x19 a s s t csOk 0 0 0 ∧ Only [.ring, .regs, .held, .regions] s t
        ∧ t.region? r.index = some { r.leave s.clk.now with state := .free } ∧ t.rma.freed = s.rma.freed ++ [r.index]
        ∧ ∀ m, m ≠ r.index → t.region? m = s.region? m)

/-- CMD_XLT_INVAL with fewer than 16 invalidations in progress starts one: where no cluster or host island sleeps, no TLB keeps a
translation that it covers, and with WC no walk cache does; where one sleeps, it wakes, and the translations stay until it is ON; with 16
or more in progress it waits (R182, R183, R185, R409). -/
def Obligations.InvalidationRemovesTranslations : Prop :=
  ∀ env a s, RingTurn 0x1A a s → badWords a [mask 18 0, allBits, allBits] = false → bits a.w1.toNat 17 16 ≠ 3 →
    (bits a.w1.toNat 17 16 = 0 → a.w2.toNat % 4096 = 0 ∧ a.w3.toNat ≠ 0 ∧ a.w3.toNat ≤ 2 ^ 45) →
    (bits a.w1.toNat 17 16 ≠ 2 → ∃ x, s.asid? (bits a.w1.toNat 15 0) = some x ∧ x.mid = a.mid) →
    (∀ i ∈ s.xlt.invals, i.started = true ∧ i.applied = true ∧ i.id < s.xlt.nextInval) → (∀ q ∈ s.qmg.queues, q.fetch.held = none ∧ q.sink.recHeld = false) →
    let c : InvalScope :=
      { kind := bits a.w1.toNat 17 16, asid := bits a.w1.toNat 15 0, base := a.w2.toNat, pages := a.w3.toNat, wc := bit a.w1.toNat 18 }
    let i (go done : Bool) : Inval :=
      { id := s.xlt.nextInval, chan := .ring s.cmd.next, scope := c, started := go, waited := !go, applied := done, acked := false }
    ∃ t, exec (.cmdXltInval env a) s = .next t ∧ InProgress 0x1A a s t
      ∧ if s.xlt.invals.length < 16 ∧ xltDomains.any s.sleeps = true then
          Only [.ring, .invals, .power, .counters] s t ∧ t.xlt.invals = s.xlt.invals ++ [i true false]
            ∧ ∀ d ∈ xltDomains, s.sleeps d = true → t.sleeps d = true ∧ ((∃ r ∈ t.fab.pwr.reqs, r.op = .exit d)
              ∨ ∃ x, t.domain? d = some x ∧ (x.state = .on ∨ x.state = .off ∨ x.exiting.isSome = true))
        else if s.xlt.invals.length < 16 then
          Only [.ring, .invals, .caches, .walks, .power, .counters] s t ∧ t.xlt.invals = s.xlt.invals ++ [i true true]
            ∧ t.xlt.tlb = s.xlt.tlb.filter (fun e => !c.covers e.asid e.va e.size)
            ∧ t.xlt.wc = (if c.wc then s.xlt.wc.filter (fun e => !c.covers e.asid (e.vaHigh * pageSize e.level) (pageSize e.level)) else s.xlt.wc)
        else Only [.ring, .invals, .power, .counters] s t ∧ t.xlt.invals = s.xlt.invals ++ [i false false]

/-- CMD_MATCH_CONTEXT_CREATE makes an ACTIVE context with empty lists at the unit asked for or, for 31, the one with the most free
entries; CMD_MATCH_CONTEXT_DESTROY cancels its posted receives and its unmatched RTSs,
counts the eager messages it discards and drains it (R101, R131, R132). -/
def Obligations.MatchContextsAreCreatedAndDestroyed : Prop :=
  (∀ env a s, RingTurn 0x20 a s → badWords a [mask 20 0 + mask 47 32, mask 23 0 + mask 51 32] = false →
    (bits a.w1.toNat 20 16 < 24 ∨ bits a.w1.toNat 20 16 = 31) → bits a.w2.toNat 23 0 ≤ 2 ^ 23 → s.creator a = csOk →
    s.ctx? (bits a.w1.toNat 15 0) = none → (s.partition? (bits a.w1.toNat 47 32)).isSome = true →
    bits a.w2.toNat 51 32 ≠ 0 → s.eqFits (midPort a.mid) (bits a.w2.toNat 51 32) = true →
    let home := if bits a.w1.toNat 20 16 = 31 then s.freestUnit else bits a.w1.toNat 20 16
    ∃ t, exec (.cmdMatchContextCreate env a) s = .next t ∧ Answered 0x20 a s s t csOk 0 home 0 ∧ Only [.ring, .regs, .held, .matching] s t
      ∧ t.svc.rndvs = s.svc.rndvs
      ∧ t.svc.ctxs = s.svc.ctxs ++ [{ num := bits a.w1.toNat 15 0, mid := a.mid, ep := midPort a.mid, pkey := bits a.w1.toNat 47 32
                                      home := home, quota := bits a.w2.toNat 23 0, eq := bits a.w2.toNat 51 32, state := .active
                                      nextSeq := 0, posted := [], unexp := [], refusedAt := none }])
  ∧ (∀ env a s c, RingTurn 0x21 a s → badWords a [mask 15 0] = false → s.ctx? (bits a.w1.toNat 15 0) = some c → c.mid = a.mid →
    c.state ≠ .draining →
    let u := updCtx c.num (fun c => { c with state := .draining, posted := [], refusedAt := none, unexp := c.unexp.filter (·.claimed.isSome) })
      (takenBy 0x21 a s)
    let u := c.posted.foldl (fun s r => endJob r.jid stCanceled s) u
    let u := { u with svc := { u.svc with unexpLost := u.svc.unexpLost + (c.unexp.filter (fun u => !u.rts && u.claimed.isNone)).length } }
    exec (.cmdMatchContextDestroy env a) s = .next (ctxDrained c.num
      ((c.unexp.filter (fun u => u.rts && u.claimed.isNone)).foldl (fun s u => sendFin u.peer u.psn u.pkey u.group stCanceled s) u)))

/-- CMD_CHORUS_CREATE, with a member table that the gates let it read and that fits, attaches its local members to a group of its own or in
transit that it finds ACTIVE, under its partition and with the table's CRC, or installs the group in JOINING, and as the root alone ends
joining when nothing is missing, else asks its parent; CMD_CHORUS_DESTROY takes the local members away and moves the group to LEAVING (R228,
R233-R236). -/
def Obligations.ChorusGroupsAreCreatedAndLeft : Prop :=
  (∀ env a s x bs, RingTurn 0x22 a s → badWords a [mask 11 0 + mask 49 16, allBits, mask 18 0 + mask 47 32] = false →
    bits a.w3.toNat 18 0 ≠ 0 → bits a.w3.toNat 18 0 ≤ 262144 → (s.partition? (bits a.w1.toNat 31 16)).isSome = true →
    s.asid? (bits a.w3.toNat 47 32) = some x → x.mid = a.mid → env.read = .data bs →
    (∀ w, w < 8 → s.gateRefusesAny (0x40 + 8 * x.host + w) env.segs ⟨a.mid, some (bits a.w1.toNat 31 16), false⟩ = none) →
    let ws := wordsOf (bits a.w3.toNat 18 0) bs
    let crc := word (crc64 0 (bytesOf ws))
    s.tableFits (bits a.w1.toNat 31 16) (bits a.w1.toNat 49 32) ws = true →
    (∀ g, s.group? (bits a.w1.toNat 11 0) = some g → g.pkey = bits a.w1.toNat 31 16 → g.crc = crc → g.locals = [] → g.state = .active →
      g.owner = none ∨ g.owner = some a.mid →
      ∃ u g', u.group? g.num = some g' ∧ g'.owner = some a.mid ∧ g'.locals = s.localMembers (ws.map memberOf) ∧ g'.state = .active ∧ g'.home = g.home
        ∧ (∀ m, m ≠ g.num → u.group? m = s.group? m) ∧ Only [.ring, .held, .groups, .power, .counters] s u
        ∧ exec (.cmdChorusCreate env a) s = .next (completeCmd (begunAs 0x22 a s) csOk 0 g.home 0 (downGo g.num u))
        ∧ (g.down = [] → ∃ t, exec (.cmdChorusCreate env a) s = .next t ∧ Answered 0x22 a s s t csOk 0 g.home 0
          ∧ Only [.ring, .regs, .held, .groups, .power, .counters] s t ∧ t.svc.groups = u.svc.groups))
    ∧ (s.group? (bits a.w1.toNat 11 0) = none → s.svc.groups.length < 4096 →
      ∃ g u, g.num = bits a.w1.toNat 11 0 ∧ g.owner = some a.mid ∧ g.pkey = bits a.w1.toNat 31 16 ∧ g.crc = crc ∧ g.state = .joining
        ∧ g.locals = s.localMembers (ws.map memberOf) ∧ g.total = ws.length ∧ g.ops = [] ∧ g.children = []
        ∧ u.svc = { s.svc with groups := s.svc.groups ++ [g] } ∧ Only [.ring, .held, .draws, .groups] s u
        ∧ exec (.cmdChorusCreate env a) s = .next (if (g.parent u).isNone then joinDone g.num u else sendJoin g u)))
  ∧ (∀ env a s g, RingTurn 0x23 a s → badWords a [mask 11 0] = false → s.group? (bits a.w1.toNat 11 0) = some g →
    g.owner = none ∨ g.owner = some a.mid → g.state ≠ .joining →
    (∀ m ∈ g.locals, s.chorusLive m.2.1 g.num = 0) →
    exec (.cmdChorusDestroy env a) s
      = .next (leaveCheck g.num (updGroup g.num (fun g => { g with state := .leaving, locals := [] }) (takenBy 0x23 a s))))

/-! ### Commands of the admin ring: locks, variables, gate rules -/

/-- CMD_LOCK_ALLOC makes a run of unallocated locks FREE for a partition, or allocates and zeroes variable slots; CMD_LOCK_FREE returns
free locks of its function, fails on a held one, returns variable slots, and with FORCE cancels the waiters and resets the owner; one that
names another function's lock changes nothing (R254, R257, R263, R268, R458). -/
def Obligations.LocksAndVariablesAreAllocatedAndFreed : Prop :=
  (∀ env a s, RingTurn 0x28 (withW1 0 0 0 a) s → badWords (withW1 0 0 0 a) [1 + mask 47 32, allBits, allBits] = false →
    bit (withW1 0 0 0 a).w1.toNat 0 = false → 0 < a.w3.toNat → a.w2.toNat + a.w3.toNat ≤ lockCount →
    (s.partition? (bits (withW1 0 0 0 a).w1.toNat 47 32)).isSome = true →
    (∀ l ∈ s.svc.locks, l.num < a.w2.toNat ∨ a.w2.toNat + a.w3.toNat ≤ l.num) →
    ∃ t, exec (.cmdLockAlloc env a) s = .next t ∧ Answered 0x28 (withW1 0 0 0 a) s s t csOk 0 0 0 ∧ Only [.ring, .regs, .held, .locks] s t
      ∧ ∀ n, t.lock? n = if a.w2.toNat ≤ n ∧ n < a.w2.toNat + a.w3.toNat then
          some { num := n, pkey := bits (withW1 0 0 0 a).w1.toNat 47 32, mid := a.mid, owner := none, abandoned := false, waiters := [], inherited := none }
        else s.lock? n)
  ∧ (∀ env a s, RingTurn 0x28 (withW1 0 0 1 a) s → badWords (withW1 0 0 1 a) [1 + mask 47 32, allBits, allBits] = false →
    bit (withW1 0 0 1 a).w1.toNat 0 = true → 0 < a.w3.toNat → a.w2.toNat + a.w3.toNat ≤ s.varBytes / 16 →
    (s.partition? (bits (withW1 0 0 1 a).w1.toNat 47 32)).isSome = true → s.varsIn a.w2.toNat a.w3.toNat = 0 →
    ∃ t, exec (.cmdLockAllocVariables env a) s = .next t ∧ Answered 0x28 (withW1 0 0 1 a) s s t csOk 0 0 0
      ∧ Only [.ring, .regs, .held, .variables] s t
      ∧ t.svc.varRuns = s.svc.varRuns ++ [{ first := a.w2.toNat, count := a.w3.toNat, pkey := bits (withW1 0 0 1 a).w1.toNat 47 32, mid := a.mid }]
      ∧ ∀ v, v ∈ t.svc.vars ↔ v ∈ s.svc.vars ∧ (v.1 < a.w2.toNat ∨ a.w2.toNat + a.w3.toNat ≤ v.1))
  ∧ (∀ env a s, RingTurn 0x29 (withW1 1 0 0 a) s → badWords (withW1 1 0 0 a) [3, allBits, allBits] = false →
    bit (withW1 1 0 0 a).w1.toNat 0 = false → bit (withW1 1 0 0 a).w1.toNat 1 = false → 0 < a.w3.toNat →
    a.w2.toNat + a.w3.toNat ≤ lockCount →
    (s.svc.locks.filter (fun l => decide (a.w2.toNat ≤ l.num) && decide (l.num < a.w2.toNat + a.w3.toNat))).length = a.w3.toNat →
    ((∃ l ∈ s.svc.locks, a.w2.toNat ≤ l.num ∧ l.num < a.w2.toNat + a.w3.toNat ∧ l.mid ≠ a.mid) →
      ∃ t, exec (.cmdLockFree env a) s = .next t ∧ Answered 0x29 (withW1 1 0 0 a) s s t csProtection 0 0 0 ∧ Only [.ring, .regs, .held] s t)
    ∧ ((∀ l ∈ s.svc.locks, a.w2.toNat ≤ l.num → l.num < a.w2.toNat + a.w3.toNat → l.mid = a.mid) →
    ((∀ l ∈ s.svc.locks, a.w2.toNat ≤ l.num → l.num < a.w2.toNat + a.w3.toNat → l.owner = none ∧ l.waiters = []) →
      ∃ t, exec (.cmdLockFree env a) s = .next t ∧ Answered 0x29 (withW1 1 0 0 a) s s t csOk 0 0 0 ∧ Only [.ring, .regs, .held, .locks] s t
        ∧ ∀ n, t.lock? n = if a.w2.toNat ≤ n ∧ n < a.w2.toNat + a.w3.toNat then none else s.lock? n)
    ∧ ((∃ l ∈ s.svc.locks, a.w2.toNat ≤ l.num ∧ l.num < a.w2.toNat + a.w3.toNat ∧ l.owner.isSome = true) →
      ∃ t, exec (.cmdLockFree env a) s = .next t ∧ Answered 0x29 (withW1 1 0 0 a) s s t csBusy 0 0 0 ∧ Only [.ring, .regs, .held] s t)))
  ∧ (∀ env a s, RingTurn 0x29 (withW1 1 0 2 a) s → badWords (withW1 1 0 2 a) [3, allBits, allBits] = false →
    bit (withW1 1 0 2 a).w1.toNat 0 = false → bit (withW1 1 0 2 a).w1.toNat 1 = true → 0 < a.w3.toNat →
    a.w2.toNat + a.w3.toNat ≤ lockCount →
    let l := s.svc.locks.filter (fun l => decide (a.w2.toNat ≤ l.num) && decide (l.num < a.w2.toNat + a.w3.toNat))
    l.length = a.w3.toNat → (∀ x ∈ l, x.mid = a.mid) →
    let u := l.foldl (fun s x => forceFree x.num s) (takenBy 0x29 (withW1 1 0 2 a) s)
    exec (.cmdLockFreeForce env a) s = .next (completeCmd (begunAs 0x29 (withW1 1 0 2 a) s) csOk 0 0 0 { u with svc := { u.svc with
      locks := u.svc.locks.filter (fun l => !(decide (a.w2.toNat ≤ l.num) && decide (l.num < a.w2.toNat + a.w3.toNat))) } }))
  ∧ (∀ env a s, RingTurn 0x29 (withW1 0 0 1 a) s → badWords (withW1 0 0 1 a) [3, allBits, allBits] = false →
    bit (withW1 0 0 1 a).w1.toNat 0 = true → 0 < a.w3.toNat → a.w2.toNat + a.w3.toNat ≤ s.varBytes / 16 →
    s.varsIn a.w2.toNat a.w3.toNat = a.w3.toNat →
    (∀ r ∈ s.svc.varRuns, r.first < a.w2.toNat + a.w3.toNat → a.w2.toNat < r.first + r.count → r.mid = a.mid) →
    ∃ t, exec (.cmdLockFreeVariables env a) s = .next t ∧ Answered 0x29 (withW1 0 0 1 a) s s t csOk 0 0 0
      ∧ Only [.ring, .regs, .held, .variables] s t
      ∧ (∀ n k, (∃ r ∈ t.svc.varRuns, r.pkey = k ∧ r.first ≤ n ∧ n < r.first + r.count)
        ↔ (n < a.w2.toNat ∨ a.w2.toNat + a.w3.toNat ≤ n) ∧ ∃ r ∈ s.svc.varRuns, r.pkey = k ∧ r.first ≤ n ∧ n < r.first + r.count)
      ∧ ∀ v, v ∈ t.svc.vars ↔ v ∈ s.svc.vars ∧ (v.1 < a.w2.toNat ∨ a.w2.toNat + a.w3.toNat ≤ v.1))

/-- CMD_GATE_WRITE replaces one rule as a whole and records it in the audit log when it completes; of rule 63 only ALLOW and LOCK change; a
rule with LOCK set while SEC_LOCK is set stays, with PROTECTION. A rule of a gate below 0x40, which has no part in the answer, takes effect
and the command completes; one of a host-memory window takes effect at once, and the command waits until no access that was checked against
the former rule remains unissued (R479, R480, R486, R497). -/
def Obligations.GateWriteReplacesOneRule : Prop :=
  ∀ env a s, RingTurn 0x2A a s → badWords a [mask 6 0 + mask 13 8, allBits, allBits, allBits] = false →
    let gate := bits a.w1.toNat 6 0
    let rule := bits a.w1.toNat 13 8
    (gate < 0x18 ∨ 0x20 ≤ gate) →
    (rule ≠ 63 → reservedSet a.w2 (mask 63 59 + mask 55 31 + mask 15 0) = false ∧ a.w3.toNat ≤ a.w4.toNat) →
    let new : GateRule :=
      if rule = 63 then { s.rule gate 63 with w0 := word (0xB000000000000000 + (a.w2.toNat &&& (2 ^ 62 + 2 ^ 59))) }
      else { gate := gate, rule := rule, w0 := a.w2, base := a.w3.toNat, limit := a.w4.toNat }
    let v := { takenBy 0x2A a s with gates := new :: s.gates.filter (fun r => !(r.gate == gate && r.rule == rule)) }
    let w := v.gateWait (begunAs 0x2A a s) ((gate - 0x40) / 8) (at_ 8 gate + rule)
    ((bit (s.raw .secLock 0 0) 0 && bit (s.rule gate rule).w0.toNat 59) = false → gate < 0x40 →
      ∃ t, exec (.cmdGateWrite env a) s = .next t ∧ Answered 0x2A a s s t csOk 0 0 0
        ∧ Only [.ring, .regs, .held, .draws, .gates, .audit] s t
        ∧ t.rule gate rule = new ∧ ∀ g r, (g, r) ≠ (gate, rule) → t.rule g r = s.rule g r)
    ∧ ((bit (s.raw .secLock 0 0) 0 && bit (s.rule gate rule).w0.toNat 59) = false → 0x40 ≤ gate →
      exec (.cmdGateWrite env a) s = .next (if v.gateWaiting w then { v with cmd := { v.cmd with gateWaits := v.cmd.gateWaits ++ [w] } }
        else completeCmd (begunAs 0x2A a s) csOk 0 0 0 (audit 0x0030 a.mid (at_ 8 gate + rule) v)))
    ∧ ((bit (s.raw .secLock 0 0) 0 && bit (s.rule gate rule).w0.toNat 59) = true →
      ∃ t, exec (.cmdGateWrite env a) s = .next t ∧ Answered 0x2A a s s t csProtection (at_ 8 gate + rule) 0 0
        ∧ Only [.ring, .regs, .held] s t)

/-! ### Commands of the admin ring: configuration sets -/

/-- CMD_SHADOW_LOAD, done within its step, applies the records of a valid image to the shadow set, which becomes MODIFIED and whose values
in force stay; an image that fails a check changes nothing and completes with the offset of the word at fault (R466, R469). -/
def Obligations.ShadowLoadAppliesWholeImage : Prop :=
  ∀ env a s bs, RingTurn 0x30 a s → badWords a [mask 63 63 + mask 31 0, allBits] = false → s.cmd.shadow ≠ 2 → s.cmd.shadow ≠ 3 →
    s.regsRising = true →
    (∀ w, w < 8 → s.gateRefuses (0x40 + 8 * midPort a.mid + w) a.w2.toNat (bits a.w1.toNat 31 0) ⟨a.mid, none, false⟩ = none) →
    env.read = .data bs → env.slow = false →
    (∀ rs, imageCheck (bits a.w1.toNat 31 0) bs = .ok rs →
      ∃ t, exec (.cmdShadowLoad env a) s = .next t ∧ Answered 0x30 a s s t csOk 0 rs.length 0 ∧ Only [.ring, .regs, .held, .sets] s t
        ∧ t.cmd.shadow = 1 ∧ t.cmd.bank = s.cmd.bank ∧ t.cmd.gen = s.cmd.gen ∧ t.bank true = s.bank true
        ∧ t.bank false = (rs.foldl applyRec (if bit a.w1.toNat 63 then s.setBank false (s.bank true) else s)).bank false)
    ∧ (∀ off, imageCheck (bits a.w1.toNat 31 0) bs = .error off →
      ∃ t, exec (.cmdShadowLoad env a) s = .next t ∧ Answered 0x30 a s s t csValidation 0 0 off
        ∧ Only [.ring, .regs, .held] s t)

/-- CMD_HINGE of a set that passes validation puts the other bank in force, raises the generation by one and answers it; one that fails
leaves the set in force, with the first failing register in RESULT1 and the shadow MODIFIED; with VALIDATE_ONLY nothing changes. One that
is still at work when its step ends has the shadow VALIDATING (R466, R470, R471). -/
def Obligations.HingeExchangesBanks : Prop :=
  (∀ env a s, RingTurn 0x31 (withW1 0 0 0 a) s → badWords (withW1 0 0 0 a) [1, allBits] = false → bit (withW1 0 0 0 a).w1.toNat 0 = false →
    (a.w2 = 0 ∨ a.w2.toNat = s.cmd.gen) → s.cmd.shadow ≠ 2 → s.cmd.shadow ≠ 3 → s.cmd.shadow ≠ 5 → s.regsRising = true → env.slow = false →
    (s.hingeFails = [] →
      let u := hingeCommit (takenBy 0x31 (withW1 0 0 0 a) s)
      exec (.cmdHinge env a) s = .next (completeCmd (begunAs 0x31 (withW1 0 0 0 a) s) csOk 0 u.cmd.gen u.dtimeNs u)
        ∧ ∃ t, exec (.cmdHinge env a) s = .next t ∧ t.cmd.bank = !s.cmd.bank ∧ t.cmd.gen = (s.cmd.gen + 1) % 2 ^ 64 ∧ t.cmd.shadow = 3
          ∧ t.bank0 = s.bank0 ∧ t.bank1 = s.bank1 ∧ t.fab.exc = s.fab.exc ∧ t.gates = s.gates)
    ∧ (∀ off rest, s.hingeFails = off :: rest →
      ∃ t, exec (.cmdHinge env a) s = .next t ∧ Answered 0x31 (withW1 0 0 0 a) s (setFailOffset off s) t csValidation 0 0 off
        ∧ Only [.ring, .regs, .held, .sets] s t ∧ t.cmd.shadow = 1 ∧ t.cmd.bank = s.cmd.bank ∧ t.cmd.gen = s.cmd.gen
        ∧ t.bank0 = s.bank0 ∧ t.bank1 = s.bank1))
  ∧ (∀ env a s, RingTurn 0x31 (withW1 0 0 1 a) s → badWords (withW1 0 0 1 a) [1, allBits] = false → bit (withW1 0 0 1 a).w1.toNat 0 = true →
    (a.w2 = 0 ∨ a.w2.toNat = s.cmd.gen) → s.cmd.shadow ≠ 2 → s.cmd.shadow ≠ 3 → s.cmd.shadow ≠ 5 → s.hingeFails = [] →
    env.slow = false →
    ∃ t, exec (.cmdHingeValidateOnly env a) s = .next t ∧ Answered 0x31 (withW1 0 0 1 a) s s t csOk 0 s.cmd.gen 0
      ∧ Only [.ring, .regs, .held] s t)
  ∧ (∀ env a s v, v = 0 ∨ v = 1 → RingTurn 0x31 (withW1 0 0 v a) s → badWords (withW1 0 0 v a) [1, allBits] = false →
    (a.w2 = 0 ∨ a.w2.toNat = s.cmd.gen) → s.cmd.shadow ≠ 2 → s.cmd.shadow ≠ 3 → s.cmd.shadow ≠ 5 → env.slow = true →
    ∃ t, exec (if v = 0 then .cmdHinge env a else .cmdHingeValidateOnly env a) s = .next t ∧ Only [.ring, .sets] s t ∧ t.cmd.shadow = 2
      ∧ t.cmd.bank = s.cmd.bank ∧ t.cmd.gen = s.cmd.gen ∧ t.bank0 = s.bank0 ∧ t.bank1 = s.bank1
      ∧ t.cmd.begun = s.cmd.begun ++ [begunAs 0x31 (withW1 0 0 v a) s])

/-! ### Commands of the admin ring: ports and lanes -/

/-- CMD_PORT_FENCE makes a port unusable and leaves its link as it is; CMD_PORT_UNFENCE returns it to use. Queued packets that another
port may now take are routed again; where none is queued and none waits to enter, nothing else changes (R278, R357, R521). -/
def Obligations.PortFenceAndUnfence : Prop :=
  (∀ env a s, RingTurn 0x38 a s → badWords a [mask 6 0] = false →
    ∃ t, exec (.cmdPortFence env a) s = .next t
      ∧ t = completeCmd (begunAs 0x38 a s) csOk 0 0 0
          (fabSettle (updFport (bits a.w1.toNat 6 0) (fun p => { p with fenced := true }) (takenBy 0x38 a s)))
      ∧ (s.fab.egress = [] → s.fab.inject = [] → Answered 0x38 a s s t csOk 0 0 0 ∧ Only [.ring, .regs, .held, .stored, .ports] s t)
      ∧ (∀ n, (t.port n).fenced = (decide (n = bits a.w1.toNat 6 0) || (s.port n).fenced) ∧ (t.port n).state = (s.port n).state)
      ∧ t.usable (bits a.w1.toNat 6 0) = false)
  ∧ (∀ env a s, RingTurn 0x39 a s → badWords a [mask 6 0] = false →
    ∃ t, exec (.cmdPortUnfence env a) s = .next t
      ∧ t = completeCmd (begunAs 0x39 a s) csOk 0 0 0
          (fabSettle (updFport (bits a.w1.toNat 6 0) (fun p => { p with fenced := false }) (takenBy 0x39 a s)))
      ∧ (s.fab.egress = [] → s.fab.inject = [] → Answered 0x39 a s s t csOk 0 0 0 ∧ Only [.ring, .regs, .held, .stored, .ports] s t)
      ∧ ∀ n, (t.port n).fenced = (decide (n ≠ bits a.w1.toNat 6 0) && (s.port n).fenced) ∧ (t.port n).state = (s.port n).state)

/-- CMD_PORT_TEST takes a fenced port down with its lanes in TEST, but for those that are OFF with a PLL not judged good, and frames go out,
looped back by its lanes with loopback 0x1, until STOP when no duration is given; with STOP, and at the end of its duration, it answers the
frames compared, the loopback is off and the port trains again, still fenced. A port that is not fenced answers BUSY, and one of a failed
slice HW_FAILURE (R378, R461, R521, log 61). -/
def Obligations.PortTestRunsOnFencedPort : Prop :=
  (∀ env a s, RingTurn 0x3A (withW1 8 8 0 a) s → badWords (withW1 8 8 0 a) [mask 6 0 + mask 8 8 + mask 13 12, allBits] = false →
    bit (withW1 8 8 0 a).w1.toNat 8 = false → bits (withW1 8 8 0 a).w1.toNat 13 12 ≠ 3 →
    let n := bits (withW1 8 8 0 a).w1.toNat 6 0
    let b := begunAs 0x3A (withW1 8 8 0 a) s
    let u := portTestStart n (bits (withW1 8 8 0 a).w1.toNat 13 12) (takenBy 0x3A (withW1 8 8 0 a) s)
    (s.sliceDead (n / 16) = true →
      ∃ t, exec (.cmdPortTest env a) s = .next t ∧ Answered 0x3A (withW1 8 8 0 a) s s t csHwFailure 0 0 0 ∧ Only [.ring, .regs, .held] s t)
    ∧ (s.sliceDead (n / 16) = false → (s.port n).fenced = false →
      ∃ t, exec (.cmdPortTest env a) s = .next t ∧ Answered 0x3A (withW1 8 8 0 a) s s t csBusy 0 0 0 ∧ Only [.ring, .regs, .held] s t)
    ∧ (s.sliceDead (n / 16) = false → (s.port n).fenced = true → (s.port n).testing = false →
      (a.w2 = 0 → exec (.cmdPortTest env a) s = .next (completeCmd b csOk 0 0 0 u)
        ∧ ∃ t, exec (.cmdPortTest env a) s = .next t ∧ (t.port n).testing = true ∧ (t.port n).state = .disabled ∧ (t.port n).fenced = true
          ∧ ∀ l, (t.lane l).state = if lanePort l = n ∧ ((s.lane l).state = .off → s.clockGood (s.lanePll l) = true) then .test
            else (s.lane l).state)
      ∧ (a.w2 ≠ 0 → env.slow = false → exec (.cmdPortTest env a) s
          = .next (completeCmd b csOk 0 env.count 0 (portTestEnd n env.errors (u.advance (us a.w2.toNat))))
        ∧ ∃ t, exec (.cmdPortTest env a) s = .next t ∧ (t.port n).testing = false ∧ (t.port n).fenced = true
          ∧ t.clk.now = s.clk.now + us a.w2.toNat)))
  ∧ (∀ env a s, RingTurn 0x3A (withW1 8 8 1 a) s → badWords (withW1 8 8 1 a) [mask 6 0 + mask 8 8 + mask 13 12, allBits] = false →
    bit (withW1 8 8 1 a).w1.toNat 8 = true → bits (withW1 8 8 1 a).w1.toNat 13 12 ≠ 3 →
    let n := bits (withW1 8 8 1 a).w1.toNat 6 0
    (s.port n).testing = true → s.regsRising = true →
    ∃ t, exec (.cmdPortTestStop env a) s = .next t
      ∧ Answered 0x3A (withW1 8 8 1 a) s ((portLanes n).foldl (setLoop 0) s) t csOk 0 env.count 0
      ∧ Only [.ring, .regs, .held, .counters, .ports, .lanes, .power] s t
      ∧ (t.port n).testing = false ∧ (t.port n).fenced = (s.port n).fenced
      ∧ (∀ l, lanePort l = n → bits (t.raw .lnsTest l 0) 55 54 = 0)
      ∧ ((∀ l, lanePort l = n → (s.lane l).chk = none) → t.counters = (s.count (cntPort n 0) env.errors).counters))

/-- CMD_LANE_TEST puts a lane in TEST, unless it is ACTIVE and fewer than 2 lanes of an UP, unfenced port would remain, its slice has failed, or
its PLL is not judged good; its receiver keeps its lock (log 191). With STOP it answers the bits compared and their errors, as its checker
counts them (log 191), adds them to the lane's counters and the lane acquires: FAST, or FULL without coefficients and at an Ethernet port;
one that its port does not use is OFF (R371, R377, R378, R381, R382, R461). -/
def Obligations.LaneTestHoldsLane : Prop :=
  (∀ env a s, RingTurn 0x3B (withW1 9 9 0 a) s → badWords (withW1 9 9 0 a) [mask 9 0, allBits, allBits] = false →
    bit (withW1 9 9 0 a).w1.toNat 9 = false →
    let l := bits (withW1 9 9 0 a).w1.toNat 8 0
    (s.sliceDead (lanePort l / 16) = true →
      ∃ t, exec (.cmdLaneTest env a) s = .next t ∧ Answered 0x3B (withW1 9 9 0 a) s s t csHwFailure 0 0 0 ∧ Only [.ring, .regs, .held] s t)
    ∧ (s.sliceDead (lanePort l / 16) = false → s.laneTestRefused l = true →
      ∃ t, exec (.cmdLaneTest env a) s = .next t ∧ Answered 0x3B (withW1 9 9 0 a) s s t csBusy 0 0 0 ∧ Only [.ring, .regs, .held] s t)
    ∧ (s.sliceDead (lanePort l / 16) = false → s.laneTestRefused l = false →
      exec (.cmdLaneTest env a) s = .next (completeCmd (begunAs 0x3B (withW1 9 9 0 a) s) csOk 0 0 0
        (laneTestDrive l (applyLaneTest l a.w2 a.w3 (laneToTest l (takenBy 0x3B (withW1 9 9 0 a) s)))))
      ∧ ∃ t, exec (.cmdLaneTest env a) s = .next t ∧ (t.lane l).state = (if s.clockGood (s.lanePll l) = true then .test else (s.lane l).state)
        ∧ ((s.lane l).locked = true → (t.lane l).locked = true)
        ∧ ∀ m, lanePort m ≠ lanePort l → (t.lane m).state = (s.lane m).state))
  ∧ (∀ env a s, RingTurn 0x3B (withW1 9 9 1 a) s → badWords (withW1 9 9 1 a) [mask 9 0, allBits, allBits] = false →
    bit (withW1 9 9 1 a).w1.toNat 9 = true →
    let l := bits (withW1 9 9 1 a).w1.toNat 8 0
    (s.lane l).state = .test → (s.port (lanePort l)).testing = false →
    let c := s.testCounts l
    ∃ t, exec (.cmdLaneTestStop env a) s = .next t ∧ Answered 0x3B (withW1 9 9 1 a) s s t csOk 0 c.1 c.2
      ∧ Only [.ring, .regs, .held, .counters, .lanes, .power] s t
      ∧ ((s.lane l).chkBits = 0 → (s.lane l).chkErrs = 0 → (s.lane l).chk.isSome = true →
        t.counters = ((s.count (cntLane l 2) c.1).count (cntLane l 3) c.2).counters)
      ∧ (t.lane l).state = (if s.laneEnabled l = false ∨ s.clockGood (s.lanePll l) = false then .off
          else if s.ethPort (lanePort l) then .full else if (s.lane l).coef then .fast else .full)
      ∧ ∀ m, m ≠ l → (t.lane m).state = (s.lane m).state)

/-! ### Commands of the admin ring: engines, device memory, firmware, keys -/

/-- CMD_ENGINE_RETIRE takes an engine that is in service out of it: an MPE while fewer than four are retired, whose cluster's queues move
when it was the last there, a chorus cluster while another is in service. CMD_ENGINE_RESTORE of a retired engine asks for leave and
waits. CMD_MEM_CHANNEL_RETIRE starts to move the pair's lines and waits (R411, R518, R519, R523). -/
def Obligations.EnginesAndChannelsRetire : Prop :=
  (∀ env a s, RingTurn 0x3C a s → badWords a [mask 7 0] = false → bits a.w1.toNat 7 0 < 0x68 →
    let e := bits a.w1.toNat 7 0
    (s.engine e).retired = false →
    (e < 0x60 → s.retiredMpes < 4 →
      exec (.cmdEngineRetire env a) s = .next (completeCmd (begunAs 0x3C a s) csOk 0 0 0 (retireMpe e (takenBy 0x3C a s)))
      ∧ (2 ≤ s.activeMpes (e / 4) → ∃ t, exec (.cmdEngineRetire env a) s = .next t ∧ Answered 0x3C a s s t csOk 0 0 0
          ∧ Only [.ring, .regs, .held, .engines] s t ∧ (t.engine e).retired = true ∧ ∀ c, c ≠ e → t.engine c = s.engine c))
    ∧ (0x60 ≤ e → 1 < s.activeClusters →
      exec (.cmdEngineRetire env a) s = .next (completeCmd (begunAs 0x3C a s) csOk 0 0 0 (retireCluster (e - 0x60) (takenBy 0x3C a s)))))
  ∧ (∀ env a s, RingTurn 0x3D a s → badWords a [mask 7 0] = false → bits a.w1.toNat 7 0 < 0x68 →
    (s.engine (bits a.w1.toNat 7 0)).retired = true →
    ∃ t, exec (.cmdEngineRestore env a) s = .next t ∧ InProgress 0x3D a s t ∧ Only [.ring, .power] s t
      ∧ t.fab.pwr = (askLeave (.restore (bits a.w1.toNat 7 0)) 3 8 s).fab.pwr)
  ∧ (∀ env a s, RingTurn 0x3E a s → badWords a [mask 4 0] = false → s.retireIdle (bits a.w1.toNat 4 0) = true → s.retireFits = true →
    ∃ t, exec (.cmdMemChannelRetire env a) s = .next t ∧ InProgress 0x3E a s t ∧ Only [.ring, .memory] s t
      ∧ t.mem = { s.mem with migrating := some (bits a.w1.toNat 4 0, false), remaining := pairLines })

/-- CMD_COUNTER_DUMP_CONFIG writes CNT_DUMP_BASE and the period; CMD_FW_STAGE puts an image that passes into the slot that does not run, and
answers AUTH_FAILED for one that does not; CMD_FW_ACTIVATE makes a slot the next one to boot, and with NOW begins the warm reset, with cause
0x6, after which its image runs (R440, R473, R474, R489, R530, R531). -/
def Obligations.DumpsAndFirmwareAreSet : Prop :=
  (∀ env a s, RingTurn 0x40 a s → badWords a [1, mask 51 12, mask 31 0] = false → s.regsRising = true →
    ∃ u, exec (.cmdCounterDumpConfig env a) s = .next (completeCmd (begunAs 0x40 a s) csOk 0 0 0 u) ∧ Only [.ring, .regs, .dump] s u
      ∧ u.raw .cntDumpBase 0 0
        = at_ 63 (b1 (bit a.w1.toNat 0)) + at_ 59 (bits (s.raw .cntDumpBase 0 0) 62 59) + at_ 56 (midPort a.mid) + a.w2.toNat
      ∧ bits (u.raw .cntDumpPeriod 0 0) 31 0 = a.w3.toNat
      ∧ u.dump.lastT = (if bit a.w1.toNat 0 && !bit (s.raw .cntDumpBase 0 0) 63 then s.dtimeNs else max s.dump.lastT s.dtimeNs))
  ∧ (∀ env a s bs, RingTurn 0x41 a s → badWords a [mask 32 0, allBits] = false → bits a.w1.toNat 32 32 ≠ s.sys.running →
    (∀ w, w < 8 → s.gateRefuses (0x40 + 8 * midPort a.mid + w) a.w2.toNat (bits a.w1.toNat 31 0) ⟨a.mid, none, false⟩ = none) →
    env.read = .data bs → env.slow = false → bs.length = bits a.w1.toNat 31 0 →
    let im : ImageInfo := { bytes := bs }
    let u := (adminRead env.read (midPort a.mid) a.mid none [(a.w2.toNat, bits a.w1.toNat 31 0)] (takenBy 0x41 a s)).2
    (imagePasses im s = true →
      exec (.cmdFwStage env a) s = .next (completeCmd (begunAs 0x41 a s) csOk 0 (imgVersion im) 0
          (audit 0x0003 a.mid (imgVersion im + at_ 32 (bits a.w1.toNat 32 32))
            { u with sys := { s.sys with slots := s.sys.slots.set (bits a.w1.toNat 32 32) im } }))
        ∧ ∃ t, exec (.cmdFwStage env a) s = .next t ∧ Only [.ring, .regs, .held, .draws, .boot, .audit] s t
          ∧ t.sys = { s.sys with slots := s.sys.slots.set (bits a.w1.toNat 32 32) im })
    ∧ (imagePasses im s = false →
      exec (.cmdFwStage env a) s = .next (completeCmd (begunAs 0x41 a s) csAuthFailed 0 0 0
        (audit 0x0004 a.mid (imgVersion im + at_ 32 (bits a.w1.toNat 32 32)) u))))
  ∧ (∀ env a s im, RingTurn 0x42 (withW1 1 1 0 a) s → badWords (withW1 1 1 0 a) [3] = false → bit (withW1 1 1 0 a).w1.toNat 1 = false →
    s.sys.slots[bits (withW1 1 1 0 a).w1.toNat 0 0]? = some im →
    ∃ t, exec (.cmdFwActivate env a) s = .next t ∧ Answered 0x42 (withW1 1 1 0 a) s s t csOk 0 s.sys.runVersion 0
      ∧ Only [.ring, .regs, .held, .draws, .boot, .audit, .fuses] s t
      ∧ t.sys = { s.sys with nextSlot := bits (withW1 1 1 0 a).w1.toNat 0 0 }
      ∧ t.sec.svn = (if imgCommitSvn im && decide (s.imageStep im = 0) then max s.sec.svn (imgSvn im) else s.sec.svn))
  ∧ (∀ env a s im, RingTurn 0x42 (withW1 1 1 1 a) s → badWords (withW1 1 1 1 a) [3] = false → bit (withW1 1 1 1 a).w1.toNat 1 = true →
    s.sys.slots[bits (withW1 1 1 1 a).w1.toNat 0 0]? = some im → imagePasses im s = true →
    ∃ t, exec (.cmdFwActivateNow env a) s = .next t ∧ t.sys.stage = .warmQuiesce ∧ t.sys.resetCause = 6
      ∧ t.sys.hbmImage = some im ∧ t.sys.nextSlot = bits (withW1 1 1 1 a).w1.toNat 0 0)

/-- CMD_KEY_INSTALL takes a key whose blob is read, fits and verifies: the owner key clears the store first; a partition key and the
fabric key join it. Kinds 0x8 to 0xA erase a partition's key, the fabric key, or all keys. Each is recorded in the audit log
(R490-R492, R497). -/
def Obligations.KeysAreInstalledAndErased : Prop :=
  (∀ env a s bs kind key, kind = 1 ∨ kind = 2 ∨ kind = 3 → RingTurn 0x48 (withW1 3 0 kind a) s →
    badWords (withW1 3 0 kind a) [mask 3 0 + mask 31 16, allBits, allBits] = false →
    let pkey := if kind = 2 then bits (withW1 3 0 kind a).w1.toNat 31 16 else 0
    a.w3.toNat = keyLength kind → s.keyRefusal kind pkey = csOk →
    (∀ w, w < 8 → s.gateRefuses (0x40 + 8 * midPort a.mid + w) a.w2.toNat (keyLength kind)
      ⟨a.mid, if kind = 2 then some pkey else none, false⟩ = none) →
    env.read = .data bs → blobFits kind pkey bs = true → keyUnwrap kind bs s = some key →
    let row : Instr := if kind = 1 then .cmdKeyInstallOwner env a else if kind = 2 then .cmdKeyInstallPartition env a else .cmdKeyInstallFabric env a
    ∃ t, exec row s = .next t ∧ Answered 0x48 (withW1 3 0 kind a) s s t csOk 0 0 0
      ∧ Only [.ring, .regs, .held, .draws, .keys, .audit] s t
      ∧ t.sec.ownerKey = (decide (kind = 1) || s.sec.ownerKey)
      ∧ t.sec.partKeys = (if kind = 1 then [] else if kind = 2 then pkey :: s.sec.partKeys else s.sec.partKeys)
      ∧ t.sec.fabricKey = (if kind = 1 then false else if kind = 2 then s.sec.fabricKey else true))
  ∧ (∀ env a s kind, kind = 8 ∨ kind = 9 ∨ kind = 10 → RingTurn 0x48 (withW1 3 0 kind a) s →
    badWords (withW1 3 0 kind a) [mask 3 0 + mask 31 16, allBits, allBits] = false →
    let pkey := bits (withW1 3 0 kind a).w1.toNat 31 16
    (kind = 8 → (s.partition? pkey).isSome = true) →
    let row : Instr := if kind = 8 then .cmdKeyZeroizePartition env a else if kind = 9 then .cmdKeyZeroizeFabric env a else .cmdKeyZeroizeAll env a
    ∃ t, exec row s = .next t ∧ Answered 0x48 (withW1 3 0 kind a) s s t csOk 0 0 0
      ∧ Only [.ring, .regs, .held, .draws, .keys, .audit] s t
      ∧ t.sec.ownerKey = (decide (kind ≠ 10) && s.sec.ownerKey)
      ∧ t.sec.partKeys = (if kind = 8 then s.sec.partKeys.filter (· ≠ pkey) else if kind = 9 then s.sec.partKeys else [])
      ∧ t.sec.fabricKey = (decide (kind = 8) && s.sec.fabricKey))

/-! ### Writes of the host: registers and doorbells -/

/-- Each row of the table that writes one register does what a write of that register does, when the PF of the port may write it: the
writable bits take the value, and what the register attaches to it follows (R15, R17, R444, R478). Then the instances of that: CMD_PI
moves to a position ahead that fits the ring; EN of CMD_RING_BASE starts the ring at 0; SEC_LOCK locks and is audited; ADVANCE releases
the oldest audit record; SYS_CTRL begins a warm reset; a write of a register of the configuration sets reaches the shadow set
(R451, R452, R466, R497, R498, R501). -/
def Obligations.RegisterWritesTakeEffect : Prop :=
  (∀ c p (x : RegAt) v s, c.regRow? = some (p, 0, x, v) → c.wf = true → HostWrite p (regAddr x.reg x.inst x.k) s →
    exec c s = .next (settle (writeReg x (256 * p) (2 ^ 64 - 1) v.toNat s)))
  ∧ (∀ p (x : RegAt) off v s, HostWrite p off s → off < 0x08000000 → off % 8 = 0 → regAt off = some x → x.reg.info.cs = false →
    exec (.registerWrite p 0 off 8 v) s = .next (settle (writeReg x (256 * p) (2 ^ 64 - 1) v.toNat s)))
  ∧ (∀ p (x : RegAt) off v s, HostWrite p (off % 0x08000000) s → off % 8 = 0 → shadowAt (off % 0x08000000) = some x →
    s.cmd.shadow ≠ 2 → s.cmd.shadow ≠ 3 →
    exec (.shadowViewWrite p 0 off 8 v) s = .next (settle
      (let u := s.setShadow x.reg x.inst x.k (putMask (s.writable x.reg &&& (2 ^ 64 - 1)) (s.shadowRaw x.reg x.inst x.k) v.toNat)
       { u with cmd := { u.cmd with shadow := 1 } })))
  ∧ (∀ p v s, HostWrite p (regAddr .cmdPi 0 0) s →
    let n : Pos := BitVec.ofNat 32 v.toNat
    dist n s.cmdPi ≠ 0 → dist n s.cmdPi < 2 ^ 31 → dist n s.cmdCi ≤ 2 ^ s.ringK →
    exec (.cmdPiWrite p 0 v) s = .next (settle (s.setReg .cmdPi 0 0 n.toNat)))
  ∧ (∀ p v s, HostWrite p (regAddr .cmdRingBase 0 0) s → s.regsRising = true → s.fld .cmdRingBase 0 63 63 = 0 → bit v.toNat 63 = true →
    ∃ u, exec (.cmdRingEnable p 0 v) s = .next (settle u) ∧ u.fld .cmdRingBase 0 63 63 = 1 ∧ u.cmdPi = 0 ∧ u.cmdCi = 0
      ∧ u.cmd.next = 0 ∧ u.cmd.doneAhead = [] ∧ Only [.regs, .ring] s u)
  ∧ (∀ p v s, HostWrite p (regAddr .secLock 0 0) s → s.regsRising = true → s.secLocked = false → bit v.toNat 0 = true →
    ∃ u, exec (.secLockWrite p 0 v) s = .next (settle u) ∧ u.secLocked = true ∧ Only [.regs, .draws, .audit] s u)
  ∧ (∀ p v s, HostWrite p (regAddr .secAuditCtrl 0 0) s → bit v.toNat 63 = true →
    ∃ u, exec (.auditAdvance p 0 v) s = .next (settle u) ∧ u.sec.unread = s.sec.unread.drop 1 ∧ Only [.regs, .audit] s u)
  ∧ (∀ p v s, HostWrite p (regAddr .sysCtrl 0 0) s → bit v.toNat 0 = true →
    ∃ u, exec (.warmResetRequest p 0 v) s = .next (settle u) ∧ u.sys.stage = .warmQuiesce ∧ u.sys.resetCause = 2
      ∧ u.sys.warmCount = (s.sys.warmCount + 1) % 2 ^ 32)

/-- A doorbell word of a queue that is resident reaches its context: PRODUCE, CONSUME, ARM and ARM_SOLICITED by their OP, and one that R40
ignores is counted. One of a queue that is not resident is held, where the buffer has room, and the context is fetched. A write to BAR2
that is no doorbell of the writing function is counted. An AtomicOp on HIF_SEM returns the old value (R38-R42, R97, R393, R397). -/
def Obligations.DoorbellsReachTheirQueues : Prop :=
  (∀ op p fn page off v s q, op < 4 → Bar2Write p fn page off s → off % 8 = 0 → s.queue? (page * 512 + off / 8) = some q →
    q.kind ≠ .eq → q.attr.mid = 256 * p + fn → bits v.toNat 59 32 = 0 →
    let row : Instr := if op = 0 then .doorbellProduce p fn page off v else if op = 1 then .doorbellConsume p fn page off v
      else if op = 2 then .doorbellArm p fn page off v else .doorbellArmSolicited p fn page off v
    let n : Pos := BitVec.ofNat 32 v.toNat
    (q.resid = .resident → exec row s = .next (settle (doorbellApply p fn (dbOffset q.qid) q.qid op n (touch [q.qid] s))))
    ∧ (q.resid ≠ .resident → s.dbRoom q.qid = true →
      exec row s = .next (settle (dbHold q.qid op n s))
        ∧ ∃ d, d ∈ (dbHold q.qid op n s).qmg.heldDb ∧ d.qid = q.qid))
  ∧ (∀ p fn page off len v s, Bar2Write p fn page off s →
    (∀ q, s.queue? (page * 512 + off / 8) = some q → len ≠ 8 ∨ off % 8 ≠ 0 ∨ q.kind = .eq ∨ q.attr.mid ≠ 256 * p + fn
      ∨ bits v.toNat 59 32 ≠ 0 ∨ 4 ≤ bits v.toNat 63 60) →
    ∃ t, exec (.bar2WriteRefused p fn page off len v) s = .next t ∧ Only [.regs, .counters] s t
      ∧ t.counters = (s.count (cntHif p 0) 1).counters)
  ∧ (∀ p i kind x y s, p < 8 → s.running = true → s.funcUp p 0 = true → s.ideHolds p = false → i < Reg.hifSem.info.n1 → kind ≤ 1 →
    (∀ w, s.gateRefuses 0x09 (semBase + 8 * i - 0x100000) 8 ⟨256 * p, none, w⟩ = none) →
    let old := s.raw .hifSem 0 i
    exec (.hifSemAtomicop p 0 (semBase + 8 * i) kind x y) s = .next
      ((if kind = 0 then s.setReg .hifSem 0 i ((old + x) % 2 ^ 64)
        else if old = y % 2 ^ 64 then s.setReg .hifSem 0 i (x % 2 ^ 64) else s).emit (.hostReply p (some (toBytes 8 old)))))

/-! ### Commands and messages from outside the admin ring -/

/-- A command over MCTP or in a command packet that nothing blocks begins at once, under its pseudo-function, and CMD_NOP answers on its
channel; a packet that is not executed is counted. A REMOTE command ends with the status that arrives, or with TIMEOUT. A warm reset
over MCTP is answered and begins; an image under BOOT_SEL 0b10 is taken message by message, and its bytes are judged; an SPDM request is answered
(R440, R447, R454, R462-R465, R494). -/
def Obligations.OutsideCommandsAreAnswered : Prop :=
  (∀ op seq a env s, s.running = true → s.mctpCount < 4 → outsideOp op = true → a.remote = false → a.rsv = 0 → s.cmd.outside = [] →
    s.blocked op a.fence true none (objectOf op a) = false →
    exec (.mctpCommand op seq a env) s = .next (beginCmd op (.mctp (seq % 256)) env { a with mid := 0x890 } (outsideBody op) s)
      ∧ (op = 0 → s.auditBlocks = false → a.target = 0 → badWords a [] = false → s.gateRefuses 0x17 0 1 ⟨0x890, none, true⟩ = none →
        (∀ b ∈ s.cmd.begun, b.chan ≠ .mctp (seq % 256)) → (∀ w ∈ s.cmd.working, w.begun.chan ≠ .mctp (seq % 256)) →
        exec (.mctpCommand op seq a env) s
          = .next (s.emit (.mctp 0x81 (seq % 256) (statusWords 0 0 s.dtimeNs 0 csOk 0 a.tag false)))))
  ∧ (∀ src seq op a ok env s, s.running = true →
    (s.fld .cmdFabCtrl 0 63 63 = 1 ∧ src % 2 ^ 27 = s.fld .cmdFabCtrl 0 26 0 ∧ s.sec.fabricKey = true ∧ ok = true →
      outsideOp op = true → a.rsv = 0 → s.cmd.outside = [] → s.blocked op a.fence true none (objectOf op a) = false →
      exec (.commandPacketArrival src seq op a ok env) s
        = .next (beginCmd op (.packet src (seq % 2 ^ 32)) env { a with mid := 0x891 } (outsideBody op) s))
    ∧ (s.fld .cmdFabCtrl 0 63 63 = 0 ∨ src % 2 ^ 27 ≠ s.fld .cmdFabCtrl 0 26 0 ∨ s.sec.fabricKey = false ∨ ok = false →
      exec (.commandPacketArrival src seq op a ok env) s = .next (s.count 54 1)))
  ∧ (∀ src seq ws s r, s.running = true → s.cmd.remote.find? (fun r => r.seq = seq) = some r → s.sec.fabricKey = true →
    src % 2 ^ 24 = r.target →
    let st := bits (wd ws 3) 47 40
    let u := if st = csOk then dropRemote r s else cmdErr 0 r.opcode st r.pos.toNat (dropRemote r s)
    exec (.remoteStatusArrival src seq ws true) s = .next (answer (.ring r.pos) r.mid
      (fun ph => [word (wd ws 0), word (wd ws 1), word (wd ws 2), word (putBits (wd ws 3) 63 63 (b1 ph))]) u))
  ∧ (∀ seq s r, s.running = true → s.cmd.remote.find? (fun r => r.seq = seq) = some r →
    let u := cmdErr 0 r.opcode csTimeout r.pos.toNat (dropRemote r (s.advanceTo r.deadline))
    exec (.remoteCommandTimeout seq) s
      = .next (answer (.ring r.pos) r.mid (fun ph => statusWords 0 0 u.dtimeNs r.opcode csTimeout 0 r.tag ph) u))
  ∧ (∀ seq s, s.sys.deadbolt = .none → s.sys.pwrOk = true → s.sys.stage = .run →
    ∃ t, exec (.mctpWarmResetRequest seq) s = .next t ∧ .mctp 0x82 (seq % 256) [] ∈ t.out ∧ t.sys.stage = .warmQuiesce
      ∧ t.sys.resetCause = 3 ∧ t.sys.warmCount = (s.sys.warmCount + 1) % 2 ^ 32)
  ∧ (∀ bytes final op s, s.alive = true → s.clk.refOk = true → s.sys.stage = .fwLoad → s.sys.bootSel = 2 → bytes.length ≤ 1024 →
    let u := { s with sys := { s.sys with mctpImage := (s.sys.mctpImage + 1) % 256, mctpBytes := s.sys.mctpBytes ++ bytes } }
    let im : ImageInfo := { bytes := u.sys.mctpBytes }
    exec (.mctpFirmwareImage s.sys.mctpImage bytes final op) s = .next (if !final then u
      else if imagePasses im u then bootImage 0 im (s.sys.boot.elim true (fun b => b.2.counterOk)) (s.sys.boot.elim true (fun b => b.2.hbmOk)) u
      else bootNoImage 0 (u.imageStep im) (audit 0x0002 0 (imgVersion im + at_ 32 (u.imageStep im)) u)))
  ∧ (∀ chan req ok s, s.running = true → chan < 8 ∨ chan = 0xFF →
    exec (.spdmRequest chan req ok) s = .next (spdmAnswer chan req ok s)
      ∧ (ok = false → exec (.spdmRequest chan req ok) s = .next (s.emit (.spdm chan spdmError [])))
      ∧ (ok = true → req = 5 → chan ∉ s.sec.sessions →
        ∃ t, exec (.spdmRequest chan req ok) s = .next t ∧ t.sec.sessions = chan :: s.sec.sessions ∧ .spdm chan 5 [] ∈ t.out
          ∧ Only [.draws, .audit, .access] s t))

/-! ### Host memory: what its answers do -/

/-- A completion of an outstanding request goes to what asked: ring reads, page table entries, A/D updates, host atomics and data reads each
by their row, and a time-out by its own, at a moment in the range of the function's Completion Timeout Value; the request is over, and what
the step leaves settles. The read that waits for its gap goes out; a poisoned write is counted, captured and reported (R47, R153, R169,
R172, R399, R581, R586). -/
def Obligations.HostAnswersReachTheirRequests : Prop :=
  (∀ id res s r, s.running = true → s.hostReq? id = some r →
    (r.use.isRing = true → exec (.prefetchReadComplete id res) s = .next (settle (reqDone r res s)))
    ∧ (r.use.isWalk = true → exec (.pageTableReadComplete id res) s = .next (settle (reqDone r res s)))
    ∧ (r.use.isCas = true → exec (.adUpdateCasComplete id res) s = .next (settle (reqDone r res s)))
    ∧ (r.use.isAtomic = true → exec (.hostAtomicopComplete id res) s = .next (settle (reqDone r res s)))
    ∧ (r.use.isRead = true → exec (.hostReadComplete id res) s = .next (settle (reqDone r res s)))
    ∧ ∀ miss, (countFailure r miss res (dropReq r s)).hostReq? id = none)
  ∧ (∀ id s r, s.running = true → s.hif.reqs.find? (fun r => r.id = id && r.live ≠ 0) = some r →
    ∃ d, (s.cplTmo r).1 ≤ d ∧ d ≤ (s.cplTmo r).2
      ∧ exec (.completionTimeout id) s = .next (settle (reqDone r .timedOut (s.drawNat.2.advanceTo (r.at_ + d)))))
  ∧ (∀ bs s r, s.hostReq? r.id = some r →
    (∀ w x, r.use = .walk w → (dropReq r s).xlt.walks.find? (fun y => y.id = w) = some x →
      reqDone r (.data bs) s = walkEntry x (.data bs) (dropReq r s))
    ∧ (∀ w x, r.use = .adCas w → (dropReq r s).xlt.walks.find? (fun y => y.id = w) = some x →
      reqDone r (.data bs) s = walkCas x (.data bs) (dropReq r s))
    ∧ (∀ q pos n, r.use = .ring q pos n → reqDone r (.data bs) s = ringData q r.id (.data bs) (dropReq r s)))
  ∧ (∀ qid s q, s.epUp = true → s.queue? qid = some q → q.fetch.waitGap = true →
    exec (.refetchGapExpiry qid) s
      = .next (settle (fetchGo qid 2 (updFetch qid (fun f => { f with waitGap := false }) (s.advance s.refetchGap)))))
  ∧ (∀ p fn addr s, p < 8 → s.alive = true → (s.hport p).up = true →
    exec (.poisonedWriteReceived p fn addr) s = .next (reportPoisoned p addr (hifErr p 2 fn addr (s.count (cntHif p 3) 1))))

/-! ### Jobs -/

/-- Dispatch takes at least one descriptor of a queue that is ready. The next job of a queue starts by the row of its opcode, when its
clusters are awake: an FTAB job reads its table first; NOP completes OK; TCANCEL and TRECV reach their match unit; CHORUS reaches its
group; the others go on with their data, inline or read, unless their partition's key is missing. A RECV entry that is malformed or could
not be read ends its queue, and any other stands (R51, R77, R81, R113, R126, R149, R151, R236, R258, R399, R584). -/
def Obligations.JobsAreTakenAndStarted : Prop :=
  (∀ s q, s.epUp = true → s.qmg.queues.filter s.ready = [q] → s.queue? q.qid = some q → 1 ≤ s.partWeight (partNum q) → 1 ≤ s.qidWeight q.qid →
    ∃ n w, 1 ≤ n ∧ exec .jobDispatch s
      = .next (settle (let t := (takeJobs q.qid n 0 (touch [q.qid] s)).2; { t with qmg := { t.qmg with wrr := w } })))
  ∧ (∀ c op qid s j, c.jobRow? = some (op, qid) → s.epUp = true → s.startable qid = some j → s.job? j.jid = some j → j.recOp = op →
    s.domainOn (engineDomain j.engine) = true →
    (op = opChorus → ∀ g, s.group? (dGroup j.ws) = some g → s.domainOn (chorusDomain g.home) = true) →
    exec c s = .next (settle (jobStart j.jid s))
    ∧ (j.gen = s.cmd.gen → dFtab j.ws = true → exec c s = .next (settle (ftabGo j.jid s)))
    ∧ (j.gen = s.cmd.gen → dFtab j.ws = false →
      (op = opNop → exec c s = .next (settle (endJob j.jid stOk s)))
      ∧ (op = opTcancel → exec c s = .next (settle (mtcCancel j.jid s)))
      ∧ (op = opTrecv → exec c s = .next (settle (mtcPost j.jid s)))
      ∧ (op = opChorus → s.keyMissing j.pkey = false → exec c s = .next (settle (chorusStart j.jid s)))
      ∧ (op = opSend ∨ op = opTsend ∨ op = opPut ∨ op = opGet ∨ op = opAtomic ∨ op = opLockAcquire ∨ op = opLockRelease →
        (op = opSend → s.txPort j.qid = none) →
        (s.keyMissing j.pkey = true → op ≠ opLockAcquire → exec c s = .next (settle (endJob j.jid stProtection s)))
        ∧ (s.keyMissing j.pkey = false → j.rts = false →
          exec c s = .next (settle (if dInline j.ws || j.frags.isEmpty then
              jobReady j.jid (updJob j.jid (fun j => { j with phase := .readData }) s)
            else jobLocal j.jid s))))))
  ∧ (∀ qid s q, s.epUp = true → s.queue? qid = some q → q.kind = .srq → q.state = .active →
    s.sleeps (engineDomain q.attr.home) = false →
    exec (.recv qid) s = .next (settle (match s.head q with
      | .bad ws pos => headMalformed qid ws pos s
      | .fail pos => headFailed qid pos s
      | _ => s)))

/-! ### Contexts and peer states -/

/-- Below LOW_WATER the least recently used context that may go is evicted; a written-back context leaves the cache, its command
completes, and fetches that waited begin. A fetched context serves the doorbells and packets that waited for it, a fetched peer state
sends. A CQ that has refused for QMG_CQ_STALL_TMO enters ERROR with a CQ_OVERRUN event (R42, R57, R59, R62-R64, R69, R96, R190). -/
def Obligations.ContextsComeAndGo : Prop :=
  (∀ qid s q, s.epUp = true → s.cacheFree < s.lowWater → oldestQueue (s.qmg.queues.filter s.evictable) = some q → q.qid = qid →
    exec (.contextEvictionStart qid) s = .next (settle (evictStart qid { s with qmg := { s.qmg with evictRun := true } })))
  ∧ (∀ qid s q, s.epUp = true → s.queue? qid = some q → q.resid = .evicting →
    let u := updQueue qid (fun q => { q with resid := .evicted }) s
    exec (.contextEvictionComplete qid) s = .next (settle (fetchWanted (completeWhere (fun b => b.opcode == 0x13 && decide (b.obj = (1, qid, qid)))
      csOk 0 0 0 { u with qmg := { u.qmg with
        journal := u.qmg.journal.filter (· ≠ qid), evictRun := u.qmg.evictRun && decide (u.cacheFree < s.highWater) } }))))
  ∧ (∀ qid s q, s.running = true → s.queue? qid = some q → q.resid = .fetching → (∀ r ∈ s.gates, r.gate < 0x20 ∨ 0x40 ≤ r.gate) →
    exec (.contextFetchComplete qid false) s = .next (stalledGo (settle (pondRelease (pumpEp q.attr.ep (heldApply qid
      (touch [qid] (updQueue qid (fun q => { q with resid := .resident, due := false }) s))))))))
  ∧ (∀ k s x, s.running = true → s.peer? k = some x → x.resident = .fetching → (∀ r ∈ s.gates, r.gate < 0x20 ∨ 0x40 ≤ r.gate) →
    exec (.peerFetchComplete k false) s = .next (settle (peerWake (pumpAll k (pondRelease
      (updPeer k (fun p => { p with resident := .resident, due := false, lastUse := s.clk.now }) s))))))
  ∧ (∀ qid s c at', s.epUp = true → s.queue? qid = some c → c.kind = .cq → c.sink.refusal = some at' → c.state = .active ∨ c.state = .stopped →
    exec (.cqStallTimeout qid) s = .next (settle (queueEvent c evCqOverrun c.sink.pi.toNat 0 (updSink qid (fun k => { k with refusal := none })
      (enterError qid (captureFenced qid (s.advanceTo (at' + us (atLeast1 (s.fld .qmgCqStallTmo 0 19 0))))))))))

/-! ### Transport: packets and timers -/

/-- A packet that consumes a PSN reaches transport, under the configuration set of its first lookup, when its peer state and contexts are on
chip and nothing waits before it: one past the window is counted, one seen before is acknowledged again, and one that fits the window is
held until those before it are delivered. A RESULT reaches its group under the same configuration set, or is counted when it is not
protected as it should be; a RESULT_ACK is such a packet (R63, R64, R201-R208, R221, R247). -/
def Obligations.PacketsReachTransport : Prop :=
  (∀ p ok vc s, s.running = true → Awake .data p (s.view (s.arrivalGen p)) →
    exec (.dataPacketArrival p ok vc) s = .next (settle (asOf (s.arrivalGen p) (dataPacket p ok vc) s)))
  ∧ (∀ p ok vc s x r i, s.running = true → s.sys.halt = false → Awake .data p s → PeerHere (peerOf p) s → behindParked p s = false →
    s.missingOf (neededQueues p s) = none → s.fab.handed = [] → s.fab.passing = [] → s.peer? (peerOf p) = some x → x.recv = some r →
    x.remoteInc = some i → i % 65536 = p.srcInc → p.dstInc = s.incarnation % 65536 →
    let k := peerOf p
    let u := updPeer k (fun x => { x with lastUse := s.clk.now, closing := none }) (touch (neededQueues p s) s)
    let d := dist p.psn r.head
    (4096 < d → d < 2 ^ 31 → exec (.dataPacketArrival p ok vc) s = .next (settle (settleCells (u.count (cntEp k.ep 9) 1))))
    ∧ (s.protects p.pkey = false → p.prot = false → d = 0 ∨ 2 ^ 31 ≤ d →
      exec (.dataPacketArrival p ok vc) s = .next (settle (settleCells (sendAck k (u.count (cntEp k.ep 8) 1)))))
    ∧ (s.protects p.pkey = false → p.prot = false → 1 ≤ d → d ≤ 4096 → r.has d = false → r.refuses p.psn = false → r.deliverable p = true →
      exec (.dataPacketArrival p ok vc) s = .next (settle (settleCells (drainHold k (2 * (r.held.length + 1)) []
        (updRecv k (fun r => { r with held := r.held ++ [{ pkt := p, gen := s.cmd.gen, pid := none }] }) u))))))
  ∧ (∀ p ok s, s.epUp = true →
    (s.tagBad p ok = false → Awake .result p ((takePassing p s).view (s.arrivalGen p)) →
      exec (.resultArrival p ok) s = .next (settle (asOf (s.arrivalGen p) (fun s => groupWake (bits p.e0.toNat 59 48) (onResult p s)) (takePassing p s))))
    ∧ (s.protects p.pkey = true → p.prot = false → exec (.resultArrival p ok) s = .next (settle (s.count (cntEp 0 10) 1))))
  ∧ (∀ p s,
    let p' := { p with ptype := PType.chorus.code, first := true, last := true, tc := 2, e0 := word (at_ 60 ckResultAck + bits p.e0.toNat 59 0) }
    s.running = true → Awake .data p' (s.view (s.arrivalGen p')) →
    exec (.resultAckArrival p) s = .next (settle (asOf (s.arrivalGen p') (dataPacket p' true 4) s)))

/-- A control packet reaches the peer state it is for, under the configuration set of its first lookup: an ACK and a NACK free what they
acknowledge, a NACK's marked packets go again, a NOT_NOW holds its packet for a backoff, a REFUSE and a RESYNC abandon; OPEN_REQ, OPEN_ACK
and OPEN_NAK open the flow, and CLOSE_REQ, CLOSE_ACK and CLOSE_NAK end or keep it (R191-R193, R208, R210-R214, R218-R220). -/
def Obligations.ControlPacketsReachTheirPeer : Prop :=
  (∀ c t p s, c.controlRow? = some (t, p) → s.running = true →
    let p' := { p with ptype := t.code }
    let v := (takePassing p' s).view (s.arrivalGen p')
    Awake .control p' v → PeerHere (peerOf p') v →
    exec c s = .next (settle (asOf (s.arrivalGen p') (fun s => controlKind t.code p' (if usesPeer p' then usePeer (peerOf p') s else s))
      (takePassing p' s))))
  ∧ (∀ p s x h, s.peer? (peerOf p) = some x → x.send = some h → (∀ i, x.remoteInc = some i → i = p.srcInc) →
    let k := peerOf p
    controlKind PType.ack.code p s = ackProgress k p.psn (fenceOf p) (congestion k (bits p.e0.toNat 31 16) s)
    ∧ (∀ o, h.out.find? (fun o => o.pkt.psn = p.psn) = some o →
      controlKind PType.resync.code p s = abandon k 1 s
      ∧ controlKind PType.refuse.code p s = refused k (BitVec.ofNat 32 (bits p.e0.toNat 63 32)) s)
    ∧ (h.state = .opening → h.initPsn = p.psn → p.e0.toNat % 2 ^ 32 = s.incarnation →
      controlKind PType.openAck.code p s = pumpAll k
        (updSend k (fun h => { h with state := .opened, timerAt := none, openHold := false, openBackoff := 0, timeouts := 0 })
          (updPeer k (fun x => { x with remoteInc := some p.srcInc, toldRestart := false }) s)))
    ∧ (h.state = .opening → h.initPsn = p.psn → controlKind PType.openNak.code p s
      = updSend k (fun x => { x with openBackoff := s.openWait h, openHold := true, timerAt := some s.clk.now }) s))
  ∧ (∀ p s x, s.peer? (peerOf p) = some x → (∀ i, x.remoteInc = some i → i = p.srcInc) → x.closing.isSome = true → closeEchoed x p = true →
    controlKind PType.closeAck.code p s = freePeer (peerOf p) s ∧ controlKind PType.closeNak.code p s = closeFailed (peerOf p) s)

/-- The timers of a peer state run out at their time: an OPEN_REQ goes again after its backoff, a CLOSE_REQ is given up, packets are sent
again or the half is abandoned after RETRIES, an ACK or NACK that was put off goes, a held packet goes again, and a flow without a route
for UNREACH_TMO is abandoned (R191, R192, R206, R211, R214, R219, R295). -/
def Obligations.TransportTimersAct : Prop :=
  ∀ k s x, s.running = true → s.peer? k = some x →
    (∀ h t, x.send = some h → h.timerAt = some t →
      (h.state = .opening → h.openHold = false →
        exec (.openTimeout k) s = .next (settle (openAgain k h (updSend k (fun y => { y with openBackoff := s.openWait h })
          (s.advanceTo (t + s.rto h + ns (s.openWait h)))))))
      ∧ (h.state = .opening → h.openHold = true →
        exec (.openBackoffExpiry k) s = .next (settle (openAgain k h (s.advanceTo (t + ns h.openBackoff)))))
      ∧ (h.state = .opened → h.out ≠ [] →
        exec (.retransmitTimeout k) s = .next (settle (retransmit k h (s.advanceTo (t + s.timeout h))))))
    ∧ (∀ t, x.closing = some t →
      exec (.closeTimeout k) s = .next (settle (closeFailed k
        (s.advanceTo (t + x.send.elim (us (atLeast1 (s.fld .trnRto 0 31 16))) s.timeout)))))
    ∧ (∀ r t, x.recv = some r → r.unackedAt = some t →
      exec (.ackDelayExpiry k) s = .next (settle (sendAck k (s.advanceTo (t + ns (s.fld .trnAck 0 31 16))))))
    ∧ (∀ r t, x.recv = some r → r.gapAt = some t →
      exec (.nackDelayExpiry k) s = .next (settle (sendNack k (s.advanceTo (t + ns (atLeast1 (s.fld .trnAck 0 47 32)))))))
    ∧ (∀ h psn o t, x.send = some h → h.out.find? (fun o => o.pkt.psn = psn) = some o → o.holdUntil = some t →
      exec (.notNowBackoffExpiry k psn) s = .next (settle (resendAll k [o] (s.advanceTo t))))
    ∧ (∀ h, x.send = some h → h.state = .opening →
      exec (.unreachTimeout k) s = .next (settle (openFailed k (s.advanceTo (h.openedAt + s.unreachTmo)))))
    ∧ (∀ h t, x.send = some h → h.state = .opened → h.noRoute = some t →
      exec (.unreachTimeout k) s = .next (settle (abandon k 2 (s.advanceTo (t + s.unreachTmo)))))

/-! ### Matching, groups, regions and translation: events -/

/-- RESULTs that children leave unacknowledged go again, and one that left too many of them is lost; a group that misses a member at
JOIN_TMO fails; a chunk with all its contributions, or at a node in LEAVING as POISON, goes to the parent, once its cluster is awake; a
match context that refused for MTC_UNEXP_TMO enters ERROR; a region that drained for RMA_DEREG_TMO is abandoned; an invalidation whose
accesses are over is acknowledged (R129, R143, R183, R231, R235, R247, R248). -/
def Obligations.ObjectTimersAct : Prop :=
  (∀ g dim s x f r l, s.epUp = true → s.group? g = some x → x.flows.find? (fun f => f.dim = dim) = some f → f.log = r :: l →
    let u := s.advanceTo (r.sentAt + us (atLeast1 (s.fld .chrCtrl 0 47 32)))
    let lost := f.misses.find? (fun x => decide (atLeast1 (s.fld .chrCtrl 0 31 24) ≤ x.2))
    let v := lost.elim u (fun m => chorusLoss g 3 m.1 none u)
    let due := f.log.filter (fun x => decide (x.sentAt + us (atLeast1 (s.fld .chrCtrl 0 47 32)) ≤ u.clk.now))
    ∃ w, exec (.resultRetxExpiry g dim) s = .next (settle w) ∧ Only [.groups] v w
      ∧ w.out = v.out ++ due.filterMap (fun x =>
          let p := sealPkt [x.pkt.src, g, dim, v.incarnation, f.openNum] x.epoch { x.pkt with retx := true } v
          if p.prot && v.keyMissing p.pkey then none else some (.multicast dim x.left p)))
  ∧ (∀ g s x c, s.epUp = true → s.group? g = some x → x.state = .active → x.children.length < x.expectChildren →
    x.named.find? (fun c => !(c ∈ x.children)) = some c →
    exec (.joinTimeout g) s = .next (settle (groupWake g (chorusLoss g 5 c none
      (s.advanceTo (x.activeAt + ms (atLeast1 (s.fld .chrCtrl 0 23 8))))))))
  ∧ (∀ g v b i s x o c p, s.epUp = true → s.group? g = some x → s.sleeps (chorusDomain x.home) = false →
    let q := s.seqIn g v
    x.op? q = some o → o.chunks.find? (fun c => c.block = b && c.idx = i) = some c →
    x.state ≠ .failed → x.isRoot s = false → chunkReady x false o c = true → x.parent s = some p → o.coll ≠ 1 →
    exec (.chunkReduction g v b i) s = .next (settle (laterGo g q
      (sendChunk x o { c with poison := c.poison || x.state == .leaving } ckContrib p (updOp g q (updChunk b i (fun c => { c with forwarded := true })) s)))))
  ∧ (∀ g v b i s x, s.epUp = true → s.group? g = some x → s.sleeps (chorusDomain x.home) = true →
    exec (.chunkReduction g v b i) s = .next (settle (wakeDomain (chorusDomain x.home) s)))
  ∧ (∀ n s x t, s.epUp = true → s.ctx? n = some x → x.refusedAt = some t →
    exec (.mtcUnexpTimeout n) s = .next (settle (ctxToError n (s.advanceTo (t + us (atLeast1 (s.fld .mtcUnexpTmo 0 19 0)))))))
  ∧ (∀ i s r, s.epUp = true → s.rma.regions.find? (fun r => r.index = i && r.state == .draining) = some r →
    exec (.deregTimeout i) s = .next (settle (abandonRegion i (s.advanceTo (r.deregAt + us (atLeast1 (s.fld .rmaDeregTmo 0 19 0)))))))
  ∧ (∀ id s i, s.running = true → s.xlt.invals.find? (fun i => i.id = id && i.applied) = some i → s.invalBusy i.scope = false →
    let u := { s with xlt := { s.xlt with invals := updAll (fun x => x.id = id) (fun x => { x with acked := true }) s.xlt.invals } }
    exec (.invalidationAcknowledged id) s
      = .next (settle (let v := invalFinish (u.xlt.invals.length + 1) u; invalsGo (invalStart v.xlt.invals.length v))))

/-! ### Shaping, congestion and samples -/

/-- At its time on the wheel a queue or a peer state sends, or is fetched; packets that a policer deferred enter in order; without marks for
INC_PERIOD the rate of a peer state rises; each sample period samples every VC queue of every fabric port (R323-R327, R331, R333). -/
def Obligations.PacingActs : Prop :=
  (∀ k s p, s.epUp = true → s.peer? k = some p → exec (.timingWheelDue 0 k) s = .next (settle (wheelPeer k p s)))
  ∧ (∀ qid k s q, s.epUp = true → qid ≠ 0 → s.queue? qid = some q → q.kind = .sq →
    exec (.timingWheelDue qid k) s = .next (settle (wheelQueue q s)))
  ∧ (∀ e tc s d p rest, e < 8 → s.sliceDead (sliceOf (.ep e)) = false → s.dieStopped (sliceOf (.ep e) / 4) = false → s.fabRunning = true →
    s.fab.deferred.find? (fun d => d.ep = e && d.tc = tc) = some d → d.pkts = p :: rest →
    s.roomFor (.ep e) p.vc (cellsOf p.len) = true →
    exec (.policerDeferRelease e tc) s = .next (deferGo e tc (d.pkts.length + 1) s)
      ∧ (let others : List Deferred := s.fab.deferred.filter (fun x => !(x.ep = e && x.tc = tc))
        let gen := d.wait.elim s.cmd.gen (fun w => w.2.2)
        let a := d.wait.elim (police e p s) (fun w => chainOn gen w.1 p.len w.2.1 s)
        (∀ c u, a = (.color c, u) → exec (.policerDeferRelease e tc) s = .next (deferGo e tc d.pkts.length (injectStored (.ep e) c p
          (updFab (fun f => { f with deferred := if rest.isEmpty then others else others ++ [{ d with wait := none, pkts := rest }] }) u))))
        ∧ ∀ n left u, a = (.defer n left, u) → exec (.policerDeferRelease e tc) s
          = .next (updFab (fun f => { f with deferred := others ++ [{ d with wait := some (n, left, gen) }] }) u)))
  ∧ (∀ k s p, s.running = true → s.peer? k = some p → p.send.isSome = true → s.fld .qosCcCtrl 0 63 63 = 1 →
    ∃ u, exec (.ccIncreasePeriod k) s = .next (settle u)
      ∧ (u.peer? k).map (·.rate) = some (min s.rateMax (p.rate + atLeast1 (s.fld .qosCcCtrl 0 15 0)))
      ∧ Only [.clock, .peers] s u)
  ∧ (∀ s, s.fabRunning = true → s.fld .qosSampleCtrl 0 63 63 = 1 →
    ∃ t, exec .queueSamplePeriod s = .next t ∧ Only [.clock, .counters, .samples, .periods] s t
      ∧ (∀ x, assoc 10 s.fab.ticks = some x → t.clk.now = max s.clk.now (x + ns (max 100 (s.fld .qosSampleCtrl 0 15 0))))
      ∧ ∀ p v, p < 128 → v < 8 → (t.counter (cntSample p v 2)).count = ((s.counter (cntSample p v 2)).count + 1) % 2 ^ 48)

/-! ### Host ports -/

/-- A function-level reset, the end of SR-IOV, a hot reset and PERST# reset the functions they reach; a configuration request before RUN is
answered with Request Retry Status; VF_ENABLE makes the VFs, a trained
link comes up with its PF, a lost one goes down, and a drain ends when nothing of the function is outstanding or its limit passes
(R386, R388, R395, R400-R404, R448). -/
def Obligations.HostPortsResetAndTrain : Prop :=
  ∀ p s, p < 8 → s.alive = true →
    (s.sys.stage ≠ .run → s.sys.stage ≠ .warmQuiesce → s.sys.stage ≠ .warmRestore → (s.hport p).up = true →
      ∀ c, (∃ fn, c = .functionLevelReset p fn) ∨ c = .vfEnableClear p ∨ (∃ n cfg, c = .vfEnableSet p n cfg) →
        exec c s = .next (s.emit (.configRetry p)))
    ∧ (∀ fn, fn < 256 → (s.hport p).up = true → ConfigServed s →
      exec (.functionLevelReset p fn) s = .next (settle (resetWithVfs false (256 * p + fn) s)))
    ∧ ((s.hport p).up = true → (s.hport p).vfEnable = true → ConfigServed s →
      exec (.vfEnableClear p) s = .next (settle (funcReset false (((s.hport p).funcs.filter (fun f => f.mid % 256 ≠ 0)).map (·.mid))
        (updPort p (fun x => { x with vfEnable := false, numVfs := 0 }) s))))
    ∧ (∀ n cfg, 1 ≤ n → n ≤ 255 → s.funcUp p 0 = true → (s.hport p).vfEnable = false → ConfigServed s →
      ∃ t, exec (.vfEnableSet p n cfg) s = .next t ∧ Only [.hostPorts] s t ∧ (t.hport p).vfEnable = true ∧ (t.hport p).numVfs = n
        ∧ (∀ f, f ∈ (s.hport p).funcs → f ∈ (t.hport p).funcs)
        ∧ ∀ i, i < n → ∃ f, f ∈ (t.hport p).funcs ∧ f.mid = 256 * p + (i + 1)
            ∧ ((∀ g, g ∈ (s.hport p).funcs → g.mid ≠ 256 * p + (i + 1)) →
              f.tableSize = min (s.fldI .hifMsixAlloc p 0 11 0) ((4096 - (s.hport p).pfTable) / n)))
    ∧ ((s.hport p).inReset = false →
      exec (.perstAssert p) s = .next (updPort p (fun x => { x with inReset := true, training := false }) (portReset p false s)))
    ∧ ((s.hport p).inReset = true →
      exec (.perstDeassert p) s = .next (linkTrain p (updPort p (fun x => { x with inReset := false }) s)))
    ∧ ((s.hport p).up = true → exec (.hotReset p) s = .next (linkTrain p (portReset p false s))
      ∧ exec (.hifLinkDown p) s = .next (hostLinkDown p s))
    ∧ (∀ rate width rev cfg, (s.hport p).training = true → (s.hport p).inReset = false → (s.hport p).up = false → s.linkEnabled p = true →
      s.sys.silenced = false → s.clockGood (0x50 + p) = true →
      (linkOk rate width = true → ∃ t, exec (.hifLinkTrained p rate width rev cfg) s = .next t ∧ Only [.hostPorts] s t
        ∧ (t.hport p).up = true ∧ (t.hport p).training = false ∧ (t.hport p).rate = min rate (s.targetRate p) ∧ (t.hport p).width = width
        ∧ (t.hport p).reversed = rev)
      ∧ (linkOk rate width = false → (s.hport p).retraining = false →
        exec (.hifLinkTrained p rate width rev cfg) s = .next (report .hifLinkDown 0x09 p 0 s)))
    ∧ (∀ mid f t, mid < 2048 → s.func? mid = some f → f.draining = some t →
      (s.funcWork mid = 0 → exec (.flrDrainEnd mid) s = .next (drainFinish mid s))
      ∧ exec (.flrDrainLimit mid) s = .next (settle (drainLimit mid (s.advanceTo (t + ms (s.drainMs (midPort mid)))))))

/-! ### Switch -/

/-- A packet enters its slice and leaves for an output: one from a port as its head arrives, one from an endpoint, a cluster or the
management logic into its reservation; the shared pool takes charges over; a packet that waited for its escape time is looked up once more
and takes its escape VC; a residue that stalled is dropped and its port fenced; an audit pass judges cells, each once; congestion vectors
and map records go out and a neighbour's vector is kept (R281, R284, R287-R289, R297, R299, R301, R302, R306, R310, R316, R320). -/
def Obligations.SwitchMovesPackets : Prop :=
  (∀ n seq p m s, n < 128 → SliceWorks (n / 16) s → exec (.switchPacketArrival (.port n) seq p m) s = .next (headArrives n seq p s))
  ∧ (∀ n seq p m q s, n < 8 → SliceWorks n s → p.body = .packet q →
    exec (.switchPacketArrival (.ep n) seq p m) s = .next (injectEp n (swPacket { q with src := s.ownFa n } s) s)
    ∧ exec (.switchPacketArrival (.cluster n) seq p m) s = .next (inject { src := .cluster n, pkt := swPacket q s, mcast := m, port := none } s))
  ∧ (∀ seq p m ws s, SliceWorks 7 s → p.body = .words ws →
    exec (.switchPacketArrival .mgmt seq p m) s = .next (inject { src := .mgmt, pkt := { vc7Packet p.dst p.mtype ws s with src := p.src }, mcast := m, port := none } s))
  ∧ (∀ n s, n < 8 → s.fabRunning = true →
    exec (.sharedPoolTransfer n) s
      = .next (fabSettle (grantSlice n ((s.fab.stored.filter (fun x => x.slice = n)).foldl (fun s x => shareOne x s) s))))
  ∧ (∀ n pid s e w, n < 128 → s.fabRunning = true → e.wait = some w →
    (s.egress (.port n)).q.find? (fun e => e.pid = pid && !e.mirror && !e.residue && !e.begun && decide (e.pkt.vc < 6) && decide (e.pkt.vc % 2 = 0)) = some e →
    exec (.escapeWaitExpiry n pid) s = .next (fabSettle (escapeDue n e w
      (s.advanceTo (w + ns (atLeast1 ((s.view (s.genOfPid pid)).fld .rteRouteCtrl 0 63 48)))))))
  ∧ (∀ n ecc cell s, n < 128 → s.fabRunning = true → s.dieStopped (n / 16 / 4) = false →
    (s.ethPort n = true → exec (.egressFrameStart (.port n) ecc cell) s = .next (ethTx n ecc cell s))
    ∧ (s.ethPort n = false → (s.port n).state = .up → (s.port n).quiet = false → (s.egress (.port n)).q.any (·.begun) = false →
      (ecc = 2 → exec (.egressFrameStart (.port n) ecc cell) s = .next (controlEcc (n / 16) cell s))
      ∧ (ecc ≠ 2 →
        (∀ w, (s.port n).replayNext? = some w →
          exec (.egressFrameStart (.port n) ecc cell) s = .next (replayFrame n w ecc cell (noteStart (16 + n / 16) s)))
        ∧ ((s.port n).replayNext? = none → ∀ e x, egressNext (noteStalls (.port n) s) (.port n) = (some e, x) →
          let u := noteStart (16 + n / 16) (noteStalls (.port n) s)
          exec (.egressFrameStart (.port n) ecc cell) s = .next (fabSettle (portSend n e ecc cell
            (updEgress (.port n) (fun _ => x) (paceWait n (if ecc = 3 then bufferCorrected (u.sliceOfPid e.pid) u else u)))))))))
  ∧ (∀ o n cell s e x, o = .ep n ∧ n < 8 ∨ o = .cluster n ∧ n < 8 ∨ o = .mgmt ∧ n = 7 → s.fabRunning = true → s.dieStopped (n / 4) = false →
    (exec (.egressFrameStart o 2 cell) s = .next (controlEcc n cell s))
    ∧ (egressNext (noteStalls o s) o = (some e, x) →
      let u := updEgress o (fun _ => x) (noteStart (16 + n) (noteStalls o s))
      exec (.egressFrameStart o 1 cell) s = .next (fabSettle (cellEcc o e cell u))
      ∧ (e.mirror = false →
        let v := updFab (fun f => { f with
          handed := f.handed ++ (holdable o e.pkt).toList.map (fun q => (e.pid, q))
          passing := f.passing ++ passingBy (u.genOfPid e.pid) e.pkt }) (dropEntry o e u)
        exec (.egressFrameStart o 0 cell) s = .next (fabSettle ((if u.ownPid e.pid then noteRoute true e.pkt v else v).emit (.deliver o e.pkt))))))
  ∧ (∀ n pid s e, n < 128 → s.fabRunning = true → (s.egress (.port n)).q.find? (fun e => e.pid = pid && e.residue) = some e →
    let k := s.sliceOfPid pid
    let u := dropEntry (.port n) e (s.advanceTo (e.since + us (atLeast1 ((s.view (s.genOfPid pid)).fldI .swcResidueTmo k 0 19 0))))
    exec (.residueTimeout n pid) s = .next (fabSettle (updFport n (fun p => { p with fenced := true })
      (report .swcResidueStall 0x13 k n (u.capture .swcErr k 0 (at_ 60 3 + at_ 32 n))))))
  ∧ (∀ n leaked doubled s, n < 8 → s.fabRunning = true → s.fldI .swcAudit n 0 63 63 ≠ 0 →
    let u := tick n (ms (atLeast1 (s.fldI .swcAudit n 0 15 0))) s
    let l := (leaked.map (· % 131072)).eraseDups
    let d := ((doubled.map (· % 131072)).filter (fun c => !l.contains c)).eraseDups
    exec (.auditPass n leaked doubled) s = .next (fabSettle (d.foldl (doubleCell n) (l.foldl (auditCell n)
        (updFab (fun f => { f with suspects := f.suspects.filter (fun x => decide (x.1 ≠ n) || l.contains x.2) }) u))))
      ∧ ∃ t, exec (.auditPass n [] []) s = .next t ∧ (∀ x ∈ t.fab.suspects, x.1 ≠ n)
        ∧ (s.fab.egress = [] → s.fab.inject = [] → Only [.clock, .suspects, .stored, .ports, .periods] s t))
  ∧ (∀ s, s.fabRunning = true → s.cvecPeriod ≠ 0 → s.dims ≠ 0 →
    let u := tick 8 (ns s.cvecPeriod) s
    let ws := word u.dtimeNs :: word (at_ 32 u.fab.vecSeq) :: u.vector
    exec .cvecPeriodExpiry s = .next (updFab (fun f => { f with vecSeq := (f.vecSeq + 1) % 2 ^ 32, vecLast := u.vector })
      ((List.range (ndimOf s.dims)).foldl (fun t d => inject { src := .mgmt, pkt := vc7Packet 0 1 ws t, mcast := some (d, t.lineCoords d), port := none } t) u)))
  ∧ (∀ src seq ws s d, s.fabRunning = true → s.unresolved src = [d] → s.routable src = true →
    (∀ v ∈ s.fab.vectors, v.dim = d → v.coord = coordOf src d → 0 < subMod (2 ^ 32) seq v.seq ∧ subMod (2 ^ 32) seq v.seq < 2 ^ 31) →
    ∃ t, exec (.cvecArrival src seq ws) s = .next t ∧ Only [.vectors] s t
      ∧ ∃ v ∈ t.fab.vectors, v.dim = d ∧ v.coord = coordOf src d ∧ v.seq = seq % 2 ^ 32 ∧ v.ws = ws.take 8)
  ∧ (∀ s, s.fabRunning = true → s.fld .rteMapCtrl 0 63 63 ≠ 0 →
    let u := tick 9 s.mapPeriod s
    let p := vc7Packet (s.fld .rteMapCtrl 0 31 0) 3 u.mapRecord u
    exec .mapPeriodExpiry s
        = .next (inject { src := .mgmt, pkt := p, mcast := none, port := none } (updFab (fun f => { f with mapSeq := (f.mapSeq + 1) % 2 ^ 32 }) u))
      ∧ (∀ c pid r v w, routeHop (v.lastHop p) p v = (.none r, w) → placePacket true c pid p v = w.count 3 1)
      ∧ ∀ c pid q vc d b v w, routeHop (v.lastHop p) p v = (.via q vc d b, w) → (placePacket true c pid p v).counters = (w.count 2 1).counters)

/-! ### The link layer -/

/-- Frames of a port whose receive direction is set up, and on a die that has not stopped: a DATA frame that fails its header check is an
error, under port lock before that too, one that fails its trailer asks for a replay too, a stomped one is counted, and a good one is
acknowledged and classified by its SEQ; an ACK frees the replay buffer, a REPLAY_REQ acknowledges what went before it and replays, unless a
replay that runs has yet to reach its SEQ; a marker block brings the partner's credit, one that fails counts toward the loss of the lock,
and one of another lane map makes the port take the intersection (R337, R339, R342-R346, R349, R354). -/
def Obligations.LinkFramesAreTaken : Prop :=
  (∀ n s, n < 128 → s.fabRunning = true → s.linkReceives n = true →
    (∀ seq a p, p.vc < 8 → s.dieStopped (n / 16 / 4) = false →
      let w := linkBusy n s
      exec (.linkDataFrameReceive n seq a p .badHeader) s = .next (linkError n (frameFailed n w))
      ∧ exec (.linkDataFrameReceive n seq a p .badTrailer) s = .next (sendReplayReq n (linkError n (frameFailed n w)))
      ∧ exec (.linkDataFrameReceive n seq a p .stomp) s = .next ((frameFailed n w).count (cntPort n 4) 1)
      ∧ exec (.linkDataFrameReceive n seq none p .good) s = .next (rxData n seq p w)
      ∧ (∀ b, (onLinkAck n b w).linkReceives n = true →
        exec (.linkDataFrameReceive n seq (some b) p .good) s = .next (rxData n seq p (onLinkAck n b w))))
    ∧ (∀ seq, exec (.linkAckReceive n seq) s = .next (onLinkAck n seq (linkBusy n s)))
    ∧ (∀ seq,
      (s.notReached n seq = true → exec (.replayReqReceive n seq) s = .next (linkBusy n s))
      ∧ (s.notReached n seq = false →
        let u := onLinkAck n (subMod (s.seqMod n) seq 1) (linkBusy n s)
        (u.port n).state = .up → (u.port n).oldest = seq % u.seqMod n → exec (.replayReqReceive n seq) s = .next (startReplay n u))))
  ∧ (∀ n seq a p c s, n < 128 → s.fabRunning = true → s.dieStopped (n / 16 / 4) = false → p.vc < 8 → s.linkReceives n = false →
    (s.linkHears n = true → c = .badHeader ∨ c = .badTrailer → exec (.linkDataFrameReceive n seq a p c) s = .next (linkError n s))
    ∧ (s.linkHears n = false ∨ c = .good ∨ c = .stomp → exec (.linkDataFrameReceive n seq a p c) s = .next s))
  ∧ (∀ n (m : Marker) words s, n < 128 → s.fabRunning = true → s.ethPort n = false → (s.port n).map ≠ 0 → (s.port n).locked = true →
    let u := words.foldl (fun s x => codewordIn n x s) s
    u.ethPort n = false →
    (m.crcOk = false → exec (.markerBlockReceive n ⟨m, words⟩) s = .next (markerMissed n (linkError n u)))
    ∧ (m.crcOk = true → m.sync = false ∨ (∃ c, (s.port n).countDue = some c ∧ m.count ≠ c) →
      exec (.markerBlockReceive n ⟨m, words⟩) s = .next (markerMissed n u))
    ∧ (m.crcOk = true → m.sync = true → (∀ c, (s.port n).countDue = some c → m.count = c) →
      (m.map ≠ (s.port n).map → exec (.markerBlockReceive n ⟨m, words⟩) s = .next (mapDiffers n m u))
      ∧ (m.map = (s.port n).map → exec (.markerBlockReceive n ⟨m, words⟩) s = .next (markerTaken n m u)
        ∧ (m.audit = none → exec (.markerBlockReceive n ⟨m, words⟩) s = .next (fabSettle (updFport n (fun p => { p with
          missed := 0
          sbSeen := some m.count
          creditIn := (List.range 8).map (fun v => nth m.grant v % 2 ^ 24)
          partner := some (m.coord, m.port, m.map)
          quietSeen := if m.quiet && p.quietReq then p.quietSeen + 1 else 0 }) u))))))

/-- What a port does at its times: it sends marker blocks, which end an exchange toward quiet that it may not ask for any more, replays
after the timeout, repeats its REPLAY_REQ and its INIT, sends an ACK alone when idle, goes down when a VC had no credit too long or the
errors of its window reach their limit, answers an INIT of its MODE, stays in INIT after one of another, is UP after an INIT_ACK, and
flushes when its grace period ends (R339, R342, R345, R346, R351-R356). -/
def Obligations.LinkTimersAct : Prop :=
  ∀ n s, n < 128 → s.fabRunning = true →
    (s.ethPort n = false → (s.port n).map ≠ 0 → (s.port n).quiet = false → s.fldI .llrAudit n 0 63 63 = 0 → (s.port n).quietReq = false →
      exec (.markerBlockSend n) s = .next (updFport n (fun p => { p with
        sbCount := (p.sbCount + 1) % 65536, grantedSent := p.granted, markers := p.markers + 1 })
          (sendStream n (s.markerWords n 0) (s.emit (.link n 5 (s.markerWords n 0))))))
    ∧ (s.ethPort n = false → (s.port n).map ≠ 0 → (s.port n).quiet = false → (s.port n).quietReq = true → s.quietMay n = false →
      ∃ t, exec (.markerBlockSend n) s = .next t ∧ Only [.held, .draws, .ports, .lanes] s t ∧ (t.port n).quietReq = false ∧ (t.port n).quietSeen = 0
        ∧ (t.port n).quiet = false)
    ∧ ((s.port n).state = .up → (s.port n).quiet = false → (s.port n).win ≠ [] →
      exec (.linkReplayTimeout n) s
        = .next (startReplay n (s.advanceTo ((s.port n).timerAt + ns (atLeast1 (s.fldI .llrReplayTmo n 0 19 0))))))
    ∧ (s.linkReceives n = true → (s.port n).reqFor = some (s.port n).expected →
      exec (.replayReqResend n) s = .next (sendReplayReq n (updFport n (fun p => { p with reqFor := none })
        (s.advanceTo ((s.port n).reqAt + ns (atLeast1 (s.fldI .llrReplayTmo n 0 19 0)))))))
    ∧ (s.linkReceives n = true → (s.port n).ackPending = true →
      exec (.standaloneAckIdle n) s = .next (sendLinkAck n (s.advanceTo ((s.port n).ackAt + ns (s.fldI .llrAck n 0 15 0)))))
    ∧ (∀ vc t, assoc vc (s.port n).blocked = some t → (s.port n).state = .up → (s.port n).quiet = false →
      exec (.creditTimeout n vc) s = .next (linkDown n (some .llrCreditTimeout) 1 vc vc false false
        (s.advanceTo (t + us (atLeast1 (s.fldI .llrCreditTmo n 0 19 0))))))
    ∧ (atLeast1 (s.fldI .llrErrWindow n 0 47 32) ≤ s.windowErrors n →
      exec (.errorWindowLimit n) s = .next (linkDown n (some .llrErrorRate) 3 0 (min 65535 (s.windowErrors n)) true false s))
    ∧ (∀ (f : LinkInit), s.ethPort n = false → (s.port n).locked = true → modeOf f.mode ≠ s.mode n →
      (s.port n).state = .up ∨ (s.port n).state = .init →
      exec (.initReceive n f) s = .next (updFport n (fun p => { p with state := .init, again := 0 }) s))
    ∧ (∀ (f : LinkInit), s.ethPort n = false → (s.port n).locked = true → modeOf f.mode = s.mode n →
      ((s.port n).state = .up ∨ (s.port n).state = .init →
        let u := updFport n (fun p => { p with state := .init, again := 0 })
          (takeExpected n f (if f.txFresh = true ∨ (s.port n).rxValid = false then resetRx n f.txOldest s else s))
        exec (.initReceive n f) s = .next (sendCtl n 4 (u.initArg n) u))
      ∧ ((s.port n).state = .init →
        let u := takeExpected n f (if f.txFresh = true then resetRx n f.txOldest s else s)
        let l := mapCount (u.port n).map
        exec (.initAckReceive n f) s = .next (fabSettle (allEndpoints (if l = 4 then evPortUp else evPortDegraded) n l n
          (updFport n (fun p => { p with
            state := .up, fresh := false, downAt := none, timerAt := u.clk.now, busyAt := u.clk.now, replays := 0
            again := p.win.length }) u)))))
    ∧ (s.ethPort n = false → (s.port n).state = .init →
      let u := s.advanceTo ((s.port n).initAt + us 1)
      exec (.initSendTimer n) s = .next (updFport n (fun p => { p with initAt := u.clk.now }) (sendCtl n 3 (u.initArg n) u)))
    ∧ (∀ t, (s.port n).downAt = some t →
      exec (.graceExpiry n) s = .next (flushPort n (updFport n (fun p => { p with downAt := none })
        (s.advanceTo (t + us (s.fldI .llrGrace n 0 19 0))))))

/-- A service port in service takes frames whose FCS checks and counts the others, sends queued ones with their FCS, honours PFC and sends
it for a priority while that is enabled, and goes down when a lane in use is lost (R160, R322, R361-R363, R377). -/
def Obligations.EthernetPortsWork : Prop :=
  (∀ n s, n < 128 → s.fabRunning = true → s.ethUp n = true →
    (∀ b, exec (.ethernetFrameReceive n b true) s = .next (etherReceive n b true s)
      ∧ ∃ t, exec (.ethernetFrameReceive n b false) s = .next t ∧ Only [.counters] s t ∧ t.counters = (s.count (cntPort n 5) 1).counters)
    ∧ (∀ e b, ethNext (noteStalls (.port n) s) n = some e → e.pkt.body = .frame b → e.mirror = false → e.job = none →
      let u := noteStart (16 + n / 16) (noteStalls (.port n) s)
      exec (.ethernetFrameTransmit n) s = .next (fabSettle (dropEntry (.port n) e (mirrorCopies n 1 e.pid e.pkt
        (((u.emit (.ether n e.pkt.vc (b ++ ethFcs b))).count (cntVc n e.pkt.vc 0) 1).count (cntVc n e.pkt.vc 1) b.length)))))
    ∧ (∀ prio quanta, ∃ t, exec (.pfcFrameReceive n [(prio, quanta)]) s = .next t ∧ Only [.ports] s t
      ∧ assoc prio (t.port n).paused = (if quanta = 0 then none else some (s.clk.now + s.quantaTime n quanta)))
    ∧ (∀ q qs, exec (.pfcFrameReceive n (q :: qs)) s = .next ((q :: qs).foldl (fun s q => updFport n (fun x => { x with
        paused := if q.2 = 0 then x.paused.filter (fun a => a.1 ≠ q.1) else assocSet q.1 (s.clk.now + s.quantaTime n q.2) x.paused }) s) s))
    ∧ exec (.ethernetPortDown n) s = .next (ethLanesLost n (allEndpoints evPortDown n 0 n (s.count (cntPort n 2) 1))))
  ∧ (∀ n prio t s, n < 128 → s.fabRunning = true →
    (assoc prio (s.port n).xoff = some t → bit (s.fldI .llrEthCtrl n 0 63 56) prio = false →
      ∃ u, exec (.pfcRefresh n prio) s = .next u ∧ Only [.ports] s u ∧ u.out = s.out ∧ assoc prio (u.port n).xoff = none)
    ∧ (assoc prio (s.port n).xoff = some t → bit (s.fldI .llrEthCtrl n 0 63 56) prio = true →
      (s.prioCells n prio < s.xon n → ∃ u, exec (.pfcRefresh n prio) s = .next u ∧ Only [.ports] s u
        ∧ u.out = s.out ++ [.pfc n [(prio, 0)]] ∧ assoc prio (u.port n).xoff = none)
      ∧ (s.xon n ≤ s.prioCells n prio →
        let v := s.advanceTo (t + s.quantaTime n 32768)
        ∃ u, exec (.pfcRefresh n prio) s = .next u ∧ Only [.clock, .ports] s u ∧ u.out = s.out ++ [.pfc n [(prio, 0xFFFF)]]
          ∧ assoc prio (u.port n).xoff = some v.clk.now))
    ∧ (assoc prio (s.port n).paused = some t → ∃ u, exec (.pfcPauseExpiry n prio) s = .next u ∧ Only [.clock, .ports] s u
        ∧ assoc prio (u.port n).paused = none ∧ u.clk.now = max s.clk.now t))

/-! ### Lanes -/

/-- A lane counts training frames and is READY after eight; a port forms lock from its markers, loses it, and locks on fewer lanes when
its waits end; a lane that loses lock or signal acquires again, from its frozen coefficients or in full, and fails after MAX_FULL attempts,
and takes a service port that uses it down;
an idle port asks for quiet and wakes; an eye measurement ends (R353, R367, R369, R371-R376, R378-R380, R384). -/
def Obligations.LanesAcquireAndLock : Prop :=
  (∀ l status inv s, l < 512 → s.fabRunning = true → s.ethPort (lanePort l) = false →
    ((s.lane l).state = .fast ∨ ((s.lane l).state = .full ∧ (s.lane l).leave = false)) →
    (∀ sync, sync = false ∨ trainGood (s.trainRate l) status = false →
      exec (.trainingFrameReceive l status sync inv) s = .next (updLane l (fun x => { x with readyRun := 0 }) s))
    ∧ (trainGood (s.trainRate l) status = true → (bit (s.raw .lnsCtrl l 0) 5 = true ∨ bit (s.raw .lnsCtrl l 0) 4 = inv) →
      (s.lane l).locked = true →
    let ready := bit status 25
    let sender := bits status 27 26
    let u := updLane l (fun x => { x with
      locked := true, signal := true, partner := ready, readyRun := if ready then (s.lane l).readyRun + 1 else 0, inverted := inv
      miswire := x.miswire || decide (sender ≠ l % 4) }) s
    ((ready = false ∨ (s.lane l).readyRun < 7) → exec (.trainingFrameReceive l status true inv) s = .next u
      ∧ Only [.lanes] s u ∧ (u.lane l).readyRun = if ready then (s.lane l).readyRun + 1 else 0)
    ∧ (ready = true → 7 ≤ (s.lane l).readyRun → sender = l % 4 → (s.lane l).miswire = false →
      exec (.trainingFrameReceive l status true inv) s = .next (laneReady l u))))
  ∧ (∀ n s, n < 128 → s.fabRunning = true →
    (∀ m : Marker, s.sliceDead (n / 16) = false → s.ethPort n = false → (s.port n).locked = false → (s.port n).map ≠ 0 →
      (s.port n).testing = false → markerValid m = true → s.readyMap n &&& (s.port n).map = (s.port n).map →
      (s.port n).state ≠ .disabled → ((s.port n).state = .up → (s.port n).quiet = true) →
      exec (.portLockFormed n m) s = .next (if s.wakeLate n then lockLost n (4 * n) s else markersFound n m s))
    ∧ (∀ m : Marker, s.sliceDead (n / 16) = false → s.ethPort n = true → (s.port n).state = .training → (s.port n).testing = false →
      s.portEnabled n = true → s.ethLanesAcquire n = true → exec (.portLockFormed n m) s = .next (ethPortUp n s))
    ∧ (s.ethPort n = false → (s.port n).locked = true → exec (.portLockLoss n) s = .next (markersLost n s))
    ∧ (∀ t, (s.port n).readyAt = some t → (s.port n).state = .training → (s.port n).locked = false → (s.port n).map = 0 → s.ethPort n = false →
      exec (.degradeWaitExpiry n) s = .next (tryLock n (s.advanceTo (t + ms (s.fldI .lnsPortCtrl (4 * n) 0 31 16)))))
    ∧ ((s.port n).state = .grace → (s.port n).locked = false → (s.port n).map = 0 →
      exec (.rejoinWaitExpiry n) s = .next (tryLock n (s.advanceTo ((s.port n).lostAt + us (s.fldI .lnsPortCtrl (4 * n) 0 15 0)))))
    ∧ (s.ethPort n = false → (s.port n).state = .up → (s.port n).quiet = false → (s.port n).quietReq = false →
      s.quietMay n = true → (s.port n).win = [] → (s.egress (.port n)).q = [] →
      ∃ t, exec (.quietIdleExpiry n) s = .next t ∧ Only [.clock, .ports] s t ∧ (t.port n).quietReq = true
        ∧ t.clk.now = max s.clk.now ((s.port n).busyAt + us (atLeast1 (s.fldI .lnsPortCtrl (4 * n) 0 47 32))))
    ∧ ((s.port n).quiet = true → exec (.quietWake n) s = .next ((portLanes n).foldl (fun s l =>
        if (s.lane l).state = .quiet then toFast l false (updLane l (fun x => { x with signal := true }) s) else s)
        (updFport n (fun p => { p with wakeAt := some (p.wakeAt.getD s.clk.now) }) s))))
  ∧ (∀ l s, l < 512 → s.fabRunning = true →
    (s.ethPort (lanePort l) = false → (s.lane l).state.inUse = true →
      exec (.laneLockLoss l) s = .next (laneLost l true true s)
      ∧ (((s.port (lanePort l)).quietReq = false ∨ (s.port (lanePort l)).quietSeen < 4) →
        exec (.laneSignalLoss l) s = .next (laneLost l false false s)))
    ∧ (s.ethPort (lanePort l) = true → (s.lane l).state = .active →
      exec (.laneLockLoss l) s = .next (activeLeft l (s.count (cntLane l 4) 1))
      ∧ exec (.laneSignalLoss l) s = .next (activeLeft l (s.count (cntLane l 4) 1)))
    ∧ (s.ethPort (lanePort l) = false → (s.lane l).state.inUse = false → (s.lane l).state ≠ .test → (s.lane l).chk = none →
      (∃ t, exec (.laneSignalLoss l) s = .next t ∧ Only [.lanes] s t ∧ (t.lane l).signal = false)
      ∧ ((s.lane l).locked = true → ∃ t, exec (.laneLockLoss l) s = .next t ∧ Only [.lanes, .counters] s t
        ∧ (t.lane l).locked = false ∧ (t.lane l).readyRun = 0 ∧ t.counters = (s.count (cntLane l 4) 1).counters))
    ∧ ((s.lane l).silent = true → exec (.quietHoldExpiry l) s = .next (sendTraining l (updLane l (fun x => { x with silent := false })
        (s.advanceTo ((s.lane l).since + us (atLeast1 (s.fldI .lnsAcq l 0 23 16)))))))
    ∧ ((s.lane l).state = .fast →
      let u := toFull l (s.advanceTo ((s.lane l).since + us (atLeast1 (s.fldI .lnsAcq l 0 63 48))))
      ((u.port (lanePort l)).state = .up → (u.port (lanePort l)).quiet = true →
        exec (.fastTmoExpiry l) s = .next (lockLost (lanePort l) l u))
      ∧ ((u.port (lanePort l)).state ≠ .up ∨ (u.port (lanePort l)).quiet = false → exec (.fastTmoExpiry l) s = .next u))
    ∧ (∀ t, (s.lane l).state.inUse = true → (s.port (lanePort l)).quiet = true → (s.port (lanePort l)).wakeAt = some t →
      exec (.fastTmoExpiry l) s = .next (lockLost (lanePort l) l (s.advanceTo (t + us (atLeast1 (s.fldI .lnsAcq l 0 63 48))))))
    ∧ ((s.lane l).state = .full → (s.lane l).leave = false → s.ethPort (lanePort l) = false →
      let v := (s.advanceTo ((s.lane l).since + ms (atLeast1 (s.fldI .lnsAcq l 0 47 32)))).count (cntLane l 5) 1
      let u := updLane l (fun x => { x with fails := x.fails + 1, since := v.clk.now, locked := false, partner := false, readyRun := 0 }) v
      ((s.lane l).fails + 1 < atLeast1 (s.fldI .lnsAcq l 0 31 24) → exec (.fullTmoExpiry l) s = .next (sendTraining l u))
      ∧ (atLeast1 (s.fldI .lnsAcq l 0 31 24) ≤ (s.lane l).fails + 1 →
        exec (.fullTmoExpiry l) s = .next (laneDomainOff (laneDomain l) (tryLock (lanePort l)
          (updLane l (fun x => { x with state := .failed, signal := false }) u)))))
    ∧ ((s.lane l).eye = true → ∀ snr height width, ∃ t, exec (.eyeMeasureDone l snr height width) s = .next t ∧ Only [.regs, .lanes] s t
        ∧ (t.lane l).eye = false ∧ t.regs = ((s.setReg .lnsEye l 0 (at_ 48 (snr % 65536) + at_ 16 (height % 65536) + width % 65536)).setReg
          .lnsEyeCtrl l 0 (putBits ((s.setReg .lnsEye l 0 (at_ 48 (snr % 65536) + at_ 16 (height % 65536) + width % 65536)).raw
            .lnsEyeCtrl l 0) 62 62 1)).regs))

/-! ### Power -/

/-- LEAVE_GRANT grants the request at the head of the order when its step fits, with a notice where the limit of steps is exceeded;
NOTICE_HOLD_EXPIRY ends the notice; ARB_AGE_EXPIRY ages a request; PREDICTOR_EXIT_START starts the exit of a sleeping domain, and
DOMAIN_EXIT_COMPLETE has it ON; ACTIVITY_DECAY_EXPIRY lowers a level; BCA_CODE_CHANGE, POWER_FLOOR_STEP and THERM_FLOOR_STEP move the
floors; PWR_BUDGET_VIOLATION and PWR_RAIL_FAULT are reported, THERM_TRIP stops the device, and RAIL_RESTORED ends the rail's fault (R408,
R409, R411-R416, R418, R420-R424, R573). -/
def Obligations.PowerIsArbitrated : Prop :=
  -- LEAVE_GRANT
  (∀ demand s, s.fabRunning = true →
    let u := (s.atLevel ++ demand).foldl (fun s d => askLevel d s) s
    (u.leaveHead = none → exec (.leaveGrant demand) s = .next u)
    ∧ ∀ r, u.leaveHead = some r →
      let v := refill u
      let w := refill (v.advance ((2500 * r.step - v.fab.pwr.credit + v.rampRate - 1) / v.rampRate))
      let tooMany := 4 * atLeast1 (w.fld .pwrRampLimit 0 39 32) < w.recentSteps + r.step
      (¬ tooMany → w.fab.pwr.notice ≠ some r.op → exec (.leaveGrant demand) s = .next (grantLeave r w))
      ∧ (tooMany ∨ w.fab.pwr.notice = some r.op → w.fab.pwr.rampLow = none →
        exec (.leaveGrant demand) s = .next ((updPwr (fun p => { p with rampLow := some w.clk.now, notice := some r.op }) w).count 50 1))
      ∧ (∀ t, tooMany ∨ w.fab.pwr.notice = some r.op → w.fab.pwr.rampLow = some t →
        exec (.leaveGrant demand) s = .next (grantLeave r (refill (w.advanceTo (t + ns (w.fld .pwrRampLimit 0 63 48)))))))
  -- NOTICE_HOLD_EXPIRY
  ∧ (∀ s t, s.fabRunning = true → s.fab.pwr.noticeGrant = some t → s.fab.pwr.rampLow.isSome = true → s.fab.pwr.notice = none →
    ∃ u, exec .noticeHoldExpiry s = .next u ∧ Only [.clock, .power] s u ∧ u.fab.pwr = { s.fab.pwr with rampLow := none, noticeGrant := none }
      ∧ u.clk.now = max s.clk.now (t + us (s.fld .pwrRampLimit 0 47 40)))
  -- ARB_AGE_EXPIRY
  ∧ (∀ s r, s.fabRunning = true →
    let age := us (atLeast1 (s.fld .pwrArbCtrl 0 15 0))
    (s.fab.pwr.reqs.filter (fun r => decide (0 < r.rank) && !s.bcaHeld r)).foldl (firstAge age) none = some r →
    exec .arbAgeExpiry s = .next (updHolds (updPwr (fun p => { p with
      reqs := updFirst (fun q => q = r) (fun q => { q with aged := true }) p.reqs }) (s.advanceTo (r.ageAt age)))))
  -- PREDICTOR_EXIT_START
  ∧ (∀ dom s d t, s.fabRunning = true → s.domain? dom = some d → d.due = some t → d.exiting = none → d.state ≠ .on → d.state ≠ .off →
    let u := s.advanceTo (t - exitTime d.state)
    (u.nextEvent dom = some t ∨ s.fld .pwrPred 0 63 63 = 0 →
      exec (.predictorExitStart dom) s = .next (askExit dom 1 (updDomain dom (fun d => { d with due := none }) u)))
    ∧ (u.nextEvent dom ≠ some t → s.fld .pwrPred 0 63 63 = 1 → exec (.predictorExitStart dom) s = .next (domainAgain dom u)))
  -- DOMAIN_EXIT_COMPLETE
  ∧ (∀ dom s d, s.fabRunning = true → s.domain? dom = some d → d.exiting.isSome = true →
    let u := invalsGo (sleepersGo (portsRelease (domainOnAgain dom d s)))
    let l := u.qmg.queues.filter (fun q => engineDomain q.attr.home = dom && q.fetch.running)
    exec (.domainExitComplete dom) s = .next (stalledGo (settle (l.foldl (fun s q => fetchGo q.qid 2 s) u)))
      ∧ (domainOnAgain dom d s).domain? dom = none)
  -- ACTIVITY_DECAY_EXPIRY
  ∧ (∀ dom s, s.fabRunning = true → (s.activity dom).level ≠ 0 →
    ∃ t, exec (.activityDecayExpiry dom) s = .next t ∧ Only [.clock, .power] s t
      ∧ t.activity dom = { s.activity dom with level := (s.activity dom).level - 1, demandAt := t.clk.now }
      ∧ t.clk.now = max s.clk.now ((s.activity dom).demandAt + us (atLeast1 (s.fld .pwrArbCtrl 0 47 32))))
  -- BCA_CODE_CHANGE
  ∧ (∀ code s, s.fabRunning = true →
    (s.fab.pwr.bcaOk = true → code % 8 = s.fab.pwr.bcaCode →
      ∃ t, exec (.bcaCodeChange code) s = .next t ∧ Only [.power] s t ∧ t.fab.pwr = { s.fab.pwr with bcaRaw := code % 8 })
    ∧ (s.fab.pwr.bcaOk = false ∨ code % 8 ≠ s.fab.pwr.bcaCode →
      let u := (updPwr (fun p => { p with bcaRaw := code % 8 }) s).advance
        (if s.fab.pwr.bcaOk = false then 0
          else if code % 8 < s.fab.pwr.bcaCode then ns (max 10 (s.fld .pwrBcaCtrl 0 15 0)) else us (atLeast1 (s.fld .pwrBcaCtrl 0 47 32)))
      let v := if code % 8 = s.fab.pwr.bcaCode then u else u.setReg .pwrBcaStatus 0 0 (putBits (u.raw .pwrBcaStatus 0 0) 63 63 1)
      exec (.bcaCodeChange code) s = .next (reclass (updHolds (updPwr (fun p => { p with bcaCode := code % 8, bcaOk := true }) v)))))
  -- POWER_FLOOR_STEP
  ∧ (∀ watts amps s, s.fabRunning = true → watts < 4096 → amps < 1024 →
    let tooMany := decide (s.wattsLimit < watts) || decide (s.ampsLimit < amps)
    let h := 100 - s.fld .pwrBudget 0 43 40
    let under := decide (watts * 100 < s.wattsLimit * h) && decide (amps * 100 < s.ampsLimit * h)
    let f := if tooMany then min 7 (s.fab.pwr.powerFloor + 1) else if under then s.fab.pwr.powerFloor - 1 else s.fab.pwr.powerFloor
    let u := reclass (updPwr (fun p => { p with estWatts := watts, estAmps := amps, powerFloor := f })
      (tick 11 (us (atLeast1 (s.fld .pwrBudget 0 55 48))) s))
    exec (.powerFloorStep watts amps) s = .next (updHolds (updPwr (fun p => { p with
      violated := p.violated && tooMany
      overAt := if tooMany && decide (p.cls = 7) && !p.violated then some (p.overAt.getD u.clk.now) else none }) u)))
  -- PWR_BUDGET_VIOLATION
  ∧ (∀ s t, s.fabRunning = true → s.fab.pwr.overAt = some t → s.fab.pwr.cls = 7 →
    let u := updHolds (updPwr (fun p => { p with overAt := none, violated := true }) (s.advanceTo (t + ms (atLeast1 (s.fld .pwrBudget 0 63 56)))))
    exec .pwrBudgetViolation s = .next (report .pwrBudgetViolation 0x02 0 (at_ 16 u.fab.pwr.estAmps + u.fab.pwr.estWatts) u))
  -- THERM_FLOOR_STEP
  ∧ (∀ temps s, s.fabRunning = true →
    let v := updPwr (fun p => { p with sensors := (temps ++ p.sensors.drop temps.length).take 16 })
      (tick 12 (us (atLeast1 (s.fld .pwrTherm 0 39 32))) s)
    let warn : Int := 8 * clamp 60 110 (v.fld .pwrTherm 0 7 0)
    let low : Int := warn - 8 * v.fld .pwrTherm 0 23 16
    let step (f : Nat) : State := reclass (v.setReg .pwrBudgetClass 0 0 (putBits (v.raw .pwrBudgetClass 0 0) 34 32 f))
    (warn ≤ v.tj.1 → (step (min 7 (v.thermFloor + 1))).fab.pwr.warned = false → exec (.thermFloorStep temps) s = .next
      (report .thermWarn 0x02 0 (step (min 7 (v.thermFloor + 1))).tjField (updPwr (fun p => { p with warned := true }) (step (min 7 (v.thermFloor + 1))))))
    ∧ (warn ≤ v.tj.1 → (step (min 7 (v.thermFloor + 1))).fab.pwr.warned = true →
      exec (.thermFloorStep temps) s = .next (step (min 7 (v.thermFloor + 1))))
    ∧ (low ≤ v.tj.1 → v.tj.1 < warn → exec (.thermFloorStep temps) s = .next (step v.thermFloor))
    ∧ (v.tj.1 < low → v.tj.1 < warn →
      exec (.thermFloorStep temps) s = .next (updPwr (fun p => { p with warned := false }) (step (v.thermFloor - 1)))))
  -- THERM_TRIP
  ∧ (∀ sensor s, s.sys.deadbolt = .none → s.sys.pwrOk = true →
    ∃ t, exec (.thermTrip sensor) s = .next t ∧ t.sys.deadbolt = .thermal ∧ t.sys.silenced = true ∧ t.fab.pwr.reqs = []
      ∧ ∀ d ∈ t.fab.pwr.domains, d.state = .off)
  -- PWR_RAIL_FAULT
  ∧ (∀ rail above s, rail < 7 → s.alive = true →
    let u := s.advanceTo (s.sys.pwrAt + us 100)
    exec (.pwrRailFault rail above) s
      = .next (report .pwrRailFault 0x02 0 (rail + at_ 3 (b1 above)) { u with sys := { u.sys with railFault := true } }))
  -- RAIL_RESTORED
  ∧ (∀ s, s.alive = true → s.sys.railFault = true →
    let u := { s with sys := { s.sys with railFault := false } }
    (s.fld .sysCtrl 0 2 2 = 0 → exec .railRestored s = .next u) ∧ (s.fld .sysCtrl 0 2 2 = 1 → exec .railRestored s = .next (beginWarm 4 u)))

/-! ### Clocks and time -/

/-- REFCLK_PRESENT starts or restarts clock judging, CLK_REF_LOST quiesces the device or holds the sequence that runs, and REFCLK_RETURN
goes on after 1 ms; CLOCK_JUDGED_GOOD releases what the clock drives, and CLK_OUT_OF_WINDOW is reported and stops it, or ends a boot;
TIME_EXCHANGE_PERIOD asks the time, DELAY_REQ_RECEIVE answers on its port, DELAY_RESP_RECEIVE moves OFFSET and DELAY, TIME_HOLDOVER keeps
the slew, and CLK_DTIME_SET_WRITE sets DTIME but at a follower (R378, R430-R433, R436-R440, R442, R448). -/
def Obligations.ClocksAndTimeAreKept : Prop :=
  -- REFCLK_PRESENT
  (∀ s, s.alive = true → s.clk.refOk = false → s.sys.resetN = false →
    ∃ t, exec .refclkPresent s = .next t ∧ Only [.clock] s t ∧ t.clk = { s.clk with refOk := true, refAt := s.clk.now })
  ∧ (∀ s, s.alive = true → s.clk.refOk = false → s.sys.resetN = true → s.sys.stage = .rom →
    exec .refclkPresent s
      = .next (monitorsStart false false (setStage .clocks { s with clk := { s.clk with refOk := true, refAt := s.clk.now } })))
  -- CLK_REF_LOST
  ∧ (∀ s, s.alive = true → s.clk.refOk = true →
    let l := { s with clk := { s.clk with refOk := false } }
    let u := report .clkRefLost 0x01 0 0 l
    (s.running = true → exec .clkRefLost s = .next (quiesce { u with clk := { u.clk with refWait := true } }))
    ∧ (s.sys.stage = .warmQuiesce → s.sys.quiesced = false → exec .clkRefLost s = .next u)
    ∧ (s.sys.stage = .clocks ∨ s.sys.stage = .fwLoad → exec .clkRefLost s = .next (bootHold l)))
  -- REFCLK_RETURN
  ∧ (∀ s, s.alive = true → s.clk.refWait = true → s.clk.refOk = true → s.sys.quiesced = true →
    ∃ t, exec .refclkReturn s = .next t ∧ Only [.clock, .boot] s t ∧ t.clk.refWait = false ∧ t.sys.resetCause = 5
      ∧ t.sys.warmCount = (s.sys.warmCount + 1) % 2 ^ 32 ∧ t.sys.silenced = false ∧ t.clk.now = max s.clk.now (s.clk.refAt + ms 1))
  -- CLOCK_JUDGED_GOOD
  ∧ (∀ c ppm s, monitored c = true → s.alive = true → s.clk.refOk = true → (s.monitor c).state = 1 → ppm.natAbs ≤ s.windowPpm →
    s.sys.stage ≠ .clocks →
    let v := s.advanceTo ((s.monitor c).since + 2 * s.measWindow)
    let u := setMonitor { src := c, state := 2, ppm := ppm, since := v.clk.now } v
    (s.fabRunning = true → exec (.clockJudgedGood c ppm) s = .next ((u.pllLanes c).foldl (fun s l => laneStart l s) u))
    ∧ (s.fabRunning = false → exec (.clockJudgedGood c ppm) s = .next u ∧ Only [.clock] s u ∧ (u.monitor c).state = 2))
  -- CLK_OUT_OF_WINDOW
  ∧ (∀ c ppm s, monitored c = true → s.alive = true → s.clk.refOk = true → s.windowPpm < ppm.natAbs →
    let v := s.advanceTo ((s.monitor c).since + 2 * s.measWindow)
    ((s.monitor c).state = 2 →
      exec (.clkOutOfWindow c ppm) s = .next (clockFailed c ppm v)
      ∧ (s.fabRunning = true → c < 0x50 → bit (s.raw .clkStatus 0 0) 62 = true →
        let u := setMonitor { src := c, state := 3, ppm := ppm, since := v.clk.now } v
        exec (.clkOutOfWindow c ppm) s = .next (report .clkOutOfWindow 0x01 0 (c + at_ 16 ((ppm % 2 ^ 24).toNat))
          ((u.pllLanes c).foldl (fun s l => pllLost l s) u))))
    ∧ ((s.monitor c).state = 1 → s.sys.stage = .clocks → c < 9 →
      exec (.clkOutOfWindow c ppm) s = .next (bootError 0x02 (setMonitor { s.monitor c with state := 3, ppm := ppm } v))))
  -- TIME_EXCHANGE_PERIOD
  ∧ (∀ s, s.fabRunning = true → s.timeRole = 2 →
    let u := s.advanceTo (s.clk.exchAt + us s.timePeriod)
    let q := (s.clk.seq + 1) % 2 ^ 32
    (s.parentUp = true → exec .timeExchangePeriod s = .next (sendTime s.timeParent (timeWords 1 0 q u.dtimeNs 0 0 false)
      { u with clk := { u.clk with
        exchAt := u.clk.now, missed := if s.clk.waiting then s.clk.missed + 1 else s.clk.missed, seq := q, reqAt := u.dtimeNs, waiting := true } }))
    ∧ (s.parentUp = false → ∃ t, exec .timeExchangePeriod s = .next t ∧ Only [.clock] s t
      ∧ t.clk = { u.clk with exchAt := u.clk.now, missed := s.clk.missed + 1, waiting := false }))
  -- DELAY_REQ_RECEIVE
  ∧ (∀ n seq ta s, n < 128 → s.fabRunning = true → (s.port n).state = .up → s.ethPort n = false →
    exec (.delayReqReceive n seq ta) s = .next (sendTime n (timeWords 2 s.clk.stratum seq ta s.dtimeNs s.dtimeNs
      (decide (s.timeRole = 1) || (decide (s.timeRole = 2) && decide (s.clk.tState = 2)))) s))
  -- DELAY_RESP_RECEIVE
  ∧ (∀ ta tb tc stratum locked s, s.fabRunning = true → s.timeRole = 2 → s.timeParent < 128 → s.clk.waiting = true →
    let off := (timeDiff tb ta - timeDiff s.dtimeNs tc) / 2
    exec (.delayRespReceive s.timeParent s.clk.seq ta tb tc stratum locked) s = .next (timeAnswer off (locked && decide (stratum < 15))
      { s with clk := { s.clk with
        waiting := false, missed := 0, delay := (timeDiff s.dtimeNs ta - timeDiff tc tb) / 2, offset := off, stratum := min 15 (stratum + 1) } }))
  -- TIME_HOLDOVER
  ∧ (∀ s, s.fabRunning = true → s.timeRole = 2 → s.clk.tState = 2 → 8 ≤ s.clk.missed ∨ s.parentUp = false →
    ∃ t, exec .timeHoldover s = .next t ∧ Only [.clock] s t ∧ t.clk = { s.clk with tState := 3, runLength := 0 })
  -- CLK_DTIME_SET_WRITE
  ∧ (∀ p v s, HostWrite p (regAddr .clkDtimeSet 0 0) s → s.regsRising = true →
    ∃ u, exec (.clkDtimeSetWrite p 0 v) s = .next (settle u) ∧ Only [.regs, .clock] s u
      ∧ u.clk = if s.timeRole = 2 then s.clk else { s.clk with dtime := v.toNat * 65536 })

/-! ### Resets and security -/

/-- A power-on or cold reset leaves the reset values but for flash, fuses and pins; RESET_N rising boots; a warm reset loses what R441
names once quiesced, is restored, and the endpoints resume; a hinge's former set retires; debug unlock zeroizes the keys or counts a
refusal; tampering and a key failure are answered with the deadbolt (R16, R252, R423, R433, R440-R448, R468, R493, R499, R500). -/
def Obligations.ResetsAndSecurityAct : Prop :=
  (∀ s, ∃ t, exec .powerOnReset s = .next t ∧ t.sys.pwrOk = true ∧ t.sys.deadbolt = .none ∧ t.sys.resetCause = 0 ∧ t.hif = Hif.reset
    ∧ t.qmg = State.reset.qmg ∧ t.regs = State.reset.regs ∧ t.bank0 = State.reset.bank0 ∧ t.fab = State.reset.fab ∧ t.sys.slots = s.sys.slots
    ∧ t.sec.svn = s.sec.svn ∧ t.sec.revoke = s.sec.revoke ∧ t.sec.uid = s.sec.uid ∧ t.sec.ownerKey = s.sec.ownerKey ∧ t.clk.now = s.clk.now)
  ∧ (∀ b s, s.sys.pwrOk = true → s.sys.deadbolt = .none →
    ∃ t, exec (.coldReset b) s = .next t ∧ t.sys.pwrOk = b ∧ t.sys.resetCause = 1 ∧ t.sys.resetN = false ∧ t.qmg = State.reset.qmg
      ∧ t.regs = State.reset.regs ∧ t.bank0 = State.reset.bank0 ∧ t.fab = State.reset.fab ∧ t.sys.slots = s.sys.slots
      ∧ t.sec.svn = s.sec.svn ∧ t.sec.revoke = s.sec.revoke ∧ t.sec.uid = s.sec.uid ∧ t.sec.ownerKey = s.sec.ownerKey)
  ∧ (∀ b s, s.sys.pwrOk = true → s.sys.resetN = false → s.sys.deadbolt = .none →
    exec (.coldStart b) s = .next (coldBegin (if b.sel % 4 = 1 then 1 else 0) b s)
    ∧ (b.refOk = false → ∃ t, exec (.coldStart b) s = .next t ∧ t.sys.stage = .error ∧ t.sys.error = 1))
  ∧ (∀ s, s.alive = true → s.sys.stage = .warmQuiesce → s.sys.quiesced = false →
    let u := warmLose (settle (s.hif.reqs.foldl (fun s r => reqDone r .timedOut s) s))
    let v := { u with sys := { u.sys with quiesced := true } }
    (u.clk.refOk = true → u.clk.refWait = false →
      exec .warmQuiesceDone s = .next v ∧ v.hif.reqs = [] ∧ v.trn.opens = [] ∧ v.qmg.pond = [] ∧ v.qmg.heldDb = [])
    ∧ (u.clk.refOk = false ∨ u.clk.refWait = true →
      exec .warmQuiesceDone s = .next ((List.range 8).foldl (fun s h => hostFall h s) (silenceAll v))))
  ∧ (∀ lost b s, s.sys.stage = .warmQuiesce → s.sys.quiesced = true → s.clk.refOk = true → s.clk.refWait = false → s.sys.deadbolt = .none →
    s.sys.hbmImage = none →
    let u := monitorsStart true true (endSessions (warmContexts lost (startPolicers (warmPower (warmConfig
      { s with sys := { s.sys with stage := .warmRestore, halt := false, quiesced := false, silenced := false } })))))
    let v := timeRestored (s.timeRole, s.timeParent)
      (((List.range 8).filter (fun h => !s.linkEnabled h)).foldl (fun s h => linkEnableChanged h s) u)
    (s.raw .clkOutCtrl 0 0 = v.raw .clkOutCtrl 0 0 → exec (.warmRestore true true lost b) s = .next (portsAcquire (portsRelease v)))
    ∧ (s.raw .clkOutCtrl 0 0 ≠ v.raw .clkOutCtrl 0 0 →
      exec (.warmRestore true true lost b) s = .next (portsAcquire (portsRelease (clkOutChanged s.clkOut v)))))
  ∧ (∀ s, s.alive = true → s.sys.stage = .warmRestore → (∀ p ∈ s.sys.portsBefore, (s.port p).state = .up) →
    let u := setStage .run { s with sys := { s.sys with portsBefore := [], hbmImage := none }, dump := { s.dump with lastT := max s.dump.lastT s.dtimeNs } }
    let v := resumeJobs (resumeTargets (resumePeers (resumeSinks (cutCommands (allEndpoints evResumed u.sys.bootCount 0 0 u)))))
    let w := v.svc.rndvs.foldl (fun s r => rndvGo r.peer r.rts s) v
    exec .endpointResume s = .next (settle ((w.svc.groups.map (·.num)).foldl (fun s g => groupWake g (rebuildGroup g s)) w)))
  ∧ (∀ s, s.alive = true → s.cmd.shadow = 3 → s.formerSet = false →
    ∃ t, exec .shadowRetireComplete s = .next t ∧ Only [.sets] s t ∧ t.cmd = { s.cmd with shadow := 4 })
  ∧ (∀ ok s, s.sys.deadbolt = .none → s.sys.pwrOk = true →
    (s.debugRefused ok = true → ∃ t, exec (.debugUnlock ok) s = .next t ∧ Only [.regs, .draws, .audit, .access] s t
      ∧ t.sec.fails = min 255 (s.sec.fails + 1) ∧ t.sec.debugUnlocked = s.sec.debugUnlocked
      ∧ t.sec.unlockShut = (s.sec.unlockShut || decide (8 ≤ min 255 (s.sec.fails + 1))))
    ∧ (s.debugRefused ok = false → ∃ t, exec (.debugUnlock ok) s = .next t ∧ Only [.regs, .draws, .audit, .access, .keys] s t
      ∧ t.sec.fails = 0 ∧ t.sec.unlockShut = false ∧ t.sec.debugUnlocked = true ∧ t.sec.partKeys = [] ∧ t.sec.fabricKey = false ∧ t.sec.ownerKey = s.sec.ownerKey))
  ∧ (∀ cause s, s.sys.deadbolt = .none → s.sys.pwrOk = true →
    (cause = 1 ∧ s.fld .secCtrl 0 2 2 ≠ 0 ∨ cause = 2 → ∃ t, exec (.secTamper cause) s = .next t ∧ t.sys.deadbolt = .tamper
      ∧ t.sys.silenced = true ∧ t.sys.faultNForced = true ∧ t.sec.partKeys = [] ∧ t.sec.fabricKey = false
      ∧ t.sec.tamperCount = min 16 (s.sec.tamperCount + 1) ∧ ∀ d ∈ t.fab.pwr.domains, d.state = .off)
    ∧ (1 ≤ cause → cause ≤ 3 → ∃ t, exec (.secKeyIntegrity cause) s = .next t ∧ t.sys.deadbolt = .tamper ∧ t.sys.silenced = true
      ∧ t.sys.faultNForced = true ∧ t.sec.partKeys = [] ∧ t.sec.fabricKey = false ∧ t.sec.tamperCount = s.sec.tamperCount))

/-! ### Service and telemetry -/

/-- A watchdog reports a hung engine and, with AUTO_RETIRE, takes it out; a hung management core is restarted, all of them halt the
endpoint side; a channel retires by itself, its lines move, a memory test ends, rows are replaced; the dump engine writes its record and
ends it; an engine's sample is armed, taken and written; a telemetry packet enters its SRQ or is counted (R514, R517-R519, R521, R523-R525,
R531, R534, R535, R537). -/
def Obligations.ServiceAndTelemetryAct : Prop :=
  (∀ code s, code < 0x68 → s.epUp = true → s.engineWorks code = true →
    let u := report .engHang 0x10 code 0 (s.advance (us (atLeast1 (s.fld .fltSvcCtrl 0 15 0))))
    (code < 0x60 → u.fld .fltSvcCtrl 0 63 63 = 1 → u.retiredMpes < 4 →
      exec (.engineWatchdogExpiry code) s = .next (settle (retireMpe code u)))
    ∧ (code < 0x60 → u.fld .fltSvcCtrl 0 63 63 ≠ 1 ∨ 4 ≤ u.retiredMpes → exec (.engineWatchdogExpiry code) s = .next (settle u))
    ∧ (0x60 ≤ code → 1 < u.activeClusters → exec (.engineWatchdogExpiry code) s = .next (settle (retireCluster (code - 0x60) u)))
    ∧ (0x60 ≤ code → u.activeClusters ≤ 1 → exec (.engineWatchdogExpiry code) s = .next (settle u)))
  ∧ (∀ n s, s.running = true → (n < 4 → exec (.mgcHang n) s = .next (coreHangs n s))
    ∧ (let u := haltEp ((List.range 4).foldl (fun s i => report .engHang 0x10 (0x68 + i) 0 s) s)
       (u.fld .sysCtrl 0 2 2 = 1 → exec (.mgcHang 4) s = .next (beginWarm 4 u)) ∧ (u.fld .sysCtrl 0 2 2 ≠ 1 → exec (.mgcHang 4) s = .next u)))
  ∧ (∀ ch dead s, ch < 32 → s.running = true →
    let u := report .memEccCorrected 0x16 ch (s.drawNat.1 % (24 * 2 ^ 30) + at_ 35 (b1 dead)) s.drawNat.2
    (u.fld .fltSvcCtrl 0 62 62 = 1 → u.retireIdle ch = true → u.retireFits = true → ∃ t, exec (.memAutoRetire ch dead) s = .next t
      ∧ t = startRetire ch true u ∧ t.mem = { u.mem with migrating := some (ch, true), remaining := pairLines })
    ∧ (u.fld .fltSvcCtrl 0 62 62 ≠ 1 ∨ u.retireIdle ch = false ∨ u.retireFits = false → exec (.memAutoRetire ch dead) s = .next u))
  ∧ (∀ s ch auto, s.running = true → s.mem.migrating = some (ch, auto) →
    exec .memMigrationComplete s = .next (completeWhere (fun b => b.opcode == 0x3E) csOk 0 0 0 (report .memChannelRetired 0x16 ch (b1 auto)
      { s with mem := { s.mem with migrating := none, remaining := 0, retiredPairs := ch / 2 :: s.mem.retiredPairs } })))
  ∧ (∀ failed repaired s ch, s.running = true → s.mem.testing = some ch →
    let f := failed % 65536
    let r := min f repaired
    let u := { s with mem := { s.mem with testing := none } }
    (r = f → exec (.memtestDone failed repaired) s
      = .next (u.setReg .fltMemtest 0 0 (at_ 62 1 + at_ 61 0 + at_ 32 (s.fld .fltMemtest 0 36 32) + at_ 16 r + f)))
    ∧ (r < f → u.retireIdle ch = true → u.retireFits = true → exec (.memtestDone failed repaired) s
      = .next (startRetire ch true (u.setReg .fltMemtest 0 0 (at_ 62 1 + at_ 61 1 + at_ 32 (s.fld .fltMemtest 0 36 32) + at_ 16 r + f)))))
  ∧ (∀ b i k rows cells s, b < 0x17 → s.fabRunning = true → (b ≠ 0x13 ∨ 8 ≤ i ∨ ∀ r ∈ rows, r.2 = true) →
    exec (.sramBistRotation b i k rows cells) s = .next (rows.foldl (sramRow b i k) s))
  ∧ (∀ i k rows cells s, i < 8 → s.fabRunning = true → (∃ r ∈ rows, r.2 = false) →
    ∃ t, exec (.sramBistRotation 0x13 i k rows cells) s = .next t
      ∧ ∀ c ∈ cells, c < 131072 → (i, c) ∈ t.mem.lostCells)
  ∧ (∀ s, s.running = true → s.fld .cntDumpBase 0 63 63 = 1 → s.dump.writing = none →
    let p := s.dumpPeriod
    let next := (s.dump.lastT / p + 1) * p
    let u := if s.dtimeNs < next then s.advanceDtime next else s
    let t := u.dtimeNs / p * p
    exec .counterSnapshot s = .next (snapshot t (dumpSkip ((t - next) / p) { u with dump := { u.dump with lastT := t } })))
  ∧ (∀ s h a, s.running = true → s.dump.writing = some (h, a) →
    let u := s.emit (.record h 0x8A0 a [word (at_ 32 0x434E5431 + s.dump.nextSeq)] false)
    let v := { u with dump := { u.dump with writing := none, carried := 0, nextSeq := (u.dump.nextSeq + 1) % 2 ^ 32 } }
    exec .dumpWriteComplete s = .next (if s.fld .cntDumpPeriod 0 63 63 = 1 then pfMsix h (s.fld .cntDumpPeriod 0 43 32) v else v))
  ∧ (∀ code s, code < 0x68 → s.running = true →
    (s.sampled code = true → s.sleeps (if code < 0x60 then engineDomain (code / 4) else chorusDomain (code - 0x60)) = false →
      ((∃ t, (code, t) ∈ s.dump.pendingCap) → exec (.sampleCrossing code) s = .next (sampleLost s))
      ∧ ((∀ t, (code, t) ∉ s.dump.pendingCap) →
        (s.engineWorks code = true → ∃ t, exec (.sampleCrossing code) s = .next t ∧ Only [.dump] s t
          ∧ t.dump.pendingCap = s.dump.pendingCap ++ [(code, s.dtimeNs)])
        ∧ (s.engineWorks code = false → exec (.sampleCrossing code) s = .next (sampleWrite code 0 s.dtimeNs s))))
    ∧ (∀ obj t, s.dump.pendingCap.find? (fun x => x.1 = code) = some (code, t) →
      let u := { s with dump := { s.dump with pendingCap := s.dump.pendingCap.filter (fun x => x.1 ≠ code) } }
      (u.sampled code = true → exec (.sampleCapture code obj) s = .next (sampleWrite code (u.sampleSubject code obj) t u))
      ∧ (u.sampled code = false → exec (.sampleCapture code obj) s = .next u)))
  ∧ (∀ ep src ws s, ep < 8 → s.running = true →
    (s.fld .cntTelemRx ep 63 63 = 0 → exec (.telemetryArrival ep src ws) s = .next (settle (s.count 4 1)))
    ∧ (s.fld .cntTelemRx ep 63 63 ≠ 0 →
      (∀ u, frameIn (s.fld .cntTelemRx ep 19 0) 0 (src % 2 ^ 27) (ws.flatMap (fun w => toBytes 8 w.toNat)) s = (true, u) →
        exec (.telemetryArrival ep src ws) s = .next (settle u))
      ∧ (∀ u, frameIn (s.fld .cntTelemRx ep 19 0) 0 (src % 2 ^ 27) (ws.flatMap (fun w => toBytes 8 w.toNat)) s = (false, u) →
        exec (.telemetryArrival ep src ws) s = .next (settle (u.count 4 1)))))
end

