-- ==== Sys2Proof/Laws/Crypto.lean ====
section
/-! SUPPORT. How long what the ciphers and hashes answer is. -/

namespace Sys2Proof.Machine

@[simp] theorem beBytes_length (n v : Nat) : (beBytes n v).length = n := by simp [beBytes]

@[simp] theorem xorBytes_length (a b : List Byte) : (xorBytes a b).length = min a.length b.length := by simp [xorBytes]

/-! ### AES-256 -/

theorem aesSchedule_words (n : Nat) : ∀ (rc : Byte) (ws : List (List Byte)), 8 ≤ ws.length → (∀ w ∈ ws, w.length = 4) →
    (aesSchedule n rc ws).length = n + ws.length ∧ ∀ w ∈ aesSchedule n rc ws, w.length = 4 := by
  induction n with
  | zero => intro rc ws _ h; exact ⟨by simp [aesSchedule], h⟩
  | succ n ih =>
    intro rc ws hl h
    have hb : ((ws[7]?).getD []).length = 4 := by
      rw [List.getElem?_eq_getElem (by omega)]; exact h _ (List.getElem_mem _)
    have hh : (ws.headD []).length = 4 := by
      cases ws with
      | nil => simp at hl
      | cons a l => exact h a (by simp)
    simp only [aesSchedule]
    refine (ih _ _ (by simp; omega) ?_).imp (fun e => by rw [e]; simp; omega) id
    intro w hw
    rcases List.mem_cons.1 hw with rfl | hw
    · clear hw
      generalize ws.headD [] = last at hh
      split
      · simp [hb, hh]
      · split <;> simp [hb, hh]
    · exact h w hw

theorem aesKeys_lengths (key : List Byte) (h : key.length = 32) : (aesKeys key).length = 15 ∧ ∀ k ∈ aesKeys key, k.length = 16 := by
  refine ⟨by simp [aesKeys], fun k hk => ?_⟩
  simp only [aesKeys, List.mem_map, List.mem_range] at hk
  obtain ⟨r, hr, rfl⟩ := hk
  have hs := aesSchedule_words 52 1 ((List.range 8).map (fun i => (key.drop (4 * i)).take 4)).reverse (by simp) (by
    intro w hw
    simp only [List.mem_reverse, List.mem_map, List.mem_range] at hw
    obtain ⟨i, hi, rfl⟩ := hw
    simp [h]; omega)
  generalize hg : aesSchedule 52 1 ((List.range 8).map (fun i => (key.drop (4 * i)).take 4)).reverse = ws at hs
  obtain ⟨hl, hw⟩ := hs
  have hl : ws.length = 60 := by simpa using hl
  have hx : ((ws.reverse.drop (4 * r)).take 4).length = 4 := by simp [hl]; omega
  have hw' : ∀ w ∈ (ws.reverse.drop (4 * r)).take 4, w.length = 4 := fun w hm =>
    hw w (List.mem_reverse.1 (List.mem_of_mem_drop (List.mem_of_mem_take hm)))
  generalize (ws.reverse.drop (4 * r)).take 4 = l at hx hw'
  match l, hx with
  | [a, b, c, d], _ =>
    have := hw' a (by simp); have := hw' b (by simp); have := hw' c (by simp); have := hw' d (by simp)
    simp [*]

@[simp] theorem shiftRows_length (b : List Byte) : (shiftRows b).length = 16 := by simp [shiftRows]

@[simp] theorem mixColumns_length (b : List Byte) : (mixColumns b).length = 16 := by
  simp [mixColumns, mixColumn, List.length_flatMap] <;> rfl

theorem aesRounds_length (ks : List (List Byte)) : ∀ b : List Byte, b.length = 16 → (∀ k ∈ ks, k.length = 16) → (aesRounds ks b).length = 16 := by
  induction ks with
  | nil => intro b hb _; exact hb
  | cons k ks ih =>
    intro b _ h
    refine ih _ ?_ (fun x hx => h x (List.mem_cons_of_mem _ hx))
    have := h k List.mem_cons_self
    split <;> simp [this]

theorem aesBlock_length (key block : List Byte) (hk : key.length = 32) (hb : block.length = 16) : (aesBlock key block).length = 16 := by
  obtain ⟨hl, h⟩ := aesKeys_lengths key hk
  unfold aesBlock
  generalize aesKeys key = l at hl h
  match l, hl with
  | k :: ks, _ =>
    exact aesRounds_length ks _ (by simp [hb, h k List.mem_cons_self]) (fun x hx => h x (List.mem_cons_of_mem _ hx))

/-- The tag of AES-256-GCM has 16 bytes. -/
theorem gcmTag_length (key nonce aad cipher : List Byte) (hk : key.length = 32) (hn : nonce.length = 12) : (gcmTag key nonce aad cipher).length = 16 := by
  simp [gcmTag, gcmStream, aesBlock_length key _ hk (by simp [hn] : (nonce ++ beBytes 4 1).length = 16)]

/-! ### SHA-384 -/

theorem shaRound_length (h : List (BitVec 64)) (k w : BitVec 64) : (shaRound h k w).length = h.length := by
  unfold shaRound; split <;> simp

theorem shaRounds_length (l : List (BitVec 64 × BitVec 64)) : ∀ h : List (BitVec 64), (l.foldl (fun h x => shaRound h x.1 x.2) h).length = h.length := by
  induction l with
  | nil => intro h; rfl
  | cons x l ih => intro h; rw [List.foldl_cons, ih, shaRound_length]

theorem shaBlock_length (h : List (BitVec 64)) (block : List Byte) : (shaBlock h block).length = h.length := by
  simp [shaBlock, shaRounds_length]

theorem shaBlocks_length (p : List Byte) (l : List Nat) : ∀ h : List (BitVec 64),
    (l.foldl (fun h i => shaBlock h ((p.drop (128 * i)).take 128)) h).length = h.length := by
  induction l with
  | nil => intro h; rfl
  | cons x l ih => intro h; rw [List.foldl_cons, ih, shaBlock_length]

theorem sha384Init_length : sha384Init.length = 8 := by decide +kernel

/-- SHA-384 has 48 bytes. -/
theorem sha384_length (m : List Byte) : (sha384 m).length = 48 := by
  have (l : List (BitVec 64)) (h : l.length = 8) : ((l.flatMap (fun w => beBytes 8 w.toNat)).take 48).length = 48 := by
    match l, h with
    | [a, b, c, d, e, f, g, x], _ => simp
  exact this _ (by rw [shaBlocks_length, sha384Init_length])

/-- A derived key has 32 bytes. -/
theorem derive256_length (key input : List Byte) : (derive256 key input).length = 32 := by
  simp [derive256, hmac384, sha384_length]

end Sys2Proof.Machine
end

