-- ==== Sys2Proof/Laws/Within.lean ====
section
/-! SUPPORT. What an operation can do, said once: `Within m s t` says that t is reached from s by changing only the parts of m, putting
things out after what was put out before, drawing free values, letting time pass and keeping the register files in canonical
form. Every operation has one lemma of this form; frames and invariants of whole steps follow from them. -/

namespace Sys2Proof.Machine

/-- Part i of m is free: the value does not count. -/
abbrev sel {α : Type} (m i : Nat) (a d : α) : α := Bool.casesOn (m.testBit i) a d

/-- `clk` without the parts of m. -/
def eraseClk (m : Nat) (s : Clk) : Clk :=
  { now := sel m 4 s.now State.reset.clk.now
    dtime := sel m 5 s.dtime State.reset.clk.dtime
    slew := sel m 6 s.slew State.reset.clk.slew
    refOk := sel m 7 s.refOk State.reset.clk.refOk
    refAt := sel m 8 s.refAt State.reset.clk.refAt
    refWait := sel m 9 s.refWait State.reset.clk.refWait
    monitors := sel m 10 s.monitors State.reset.clk.monitors
    tState := sel m 11 s.tState State.reset.clk.tState
    stratum := sel m 12 s.stratum State.reset.clk.stratum
    delay := sel m 13 s.delay State.reset.clk.delay
    offset := sel m 14 s.offset State.reset.clk.offset
    exchAt := sel m 15 s.exchAt State.reset.clk.exchAt
    seq := sel m 16 s.seq State.reset.clk.seq
    reqAt := sel m 17 s.reqAt State.reset.clk.reqAt
    waiting := sel m 18 s.waiting State.reset.clk.waiting
    runLength := sel m 19 s.runLength State.reset.clk.runLength
    missed := sel m 20 s.missed State.reset.clk.missed
    outAt := sel m 21 s.outAt State.reset.clk.outAt }

/-- `sys` without the parts of m. -/
def eraseSys (m : Nat) (s : Sys) : Sys :=
  { stage := sel m 22 s.stage State.reset.sys.stage
    error := sel m 23 s.error State.reset.sys.error
    halt := sel m 24 s.halt State.reset.sys.halt
    bootCount := sel m 25 s.bootCount State.reset.sys.bootCount
    resetCause := sel m 26 s.resetCause State.reset.sys.resetCause
    warmCount := sel m 27 s.warmCount State.reset.sys.warmCount
    flashCount := sel m 28 s.flashCount State.reset.sys.flashCount
    deadbolt := sel m 29 s.deadbolt State.reset.sys.deadbolt
    pwrOk := sel m 30 s.pwrOk State.reset.sys.pwrOk
    pwrAt := sel m 31 s.pwrAt State.reset.sys.pwrAt
    resetN := sel m 32 s.resetN State.reset.sys.resetN
    bootSel := sel m 33 s.bootSel State.reset.sys.bootSel
    faultNForced := sel m 34 s.faultNForced State.reset.sys.faultNForced
    railFault := sel m 35 s.railFault State.reset.sys.railFault
    slots := sel m 36 s.slots State.reset.sys.slots
    running := sel m 37 s.running State.reset.sys.running
    runVersion := sel m 38 s.runVersion State.reset.sys.runVersion
    runHeader := sel m 39 s.runHeader State.reset.sys.runHeader
    nextSlot := sel m 40 s.nextSlot State.reset.sys.nextSlot
    hbmImage := sel m 41 s.hbmImage State.reset.sys.hbmImage
    portsBefore := sel m 42 s.portsBefore State.reset.sys.portsBefore
    acqAt := sel m 43 s.acqAt State.reset.sys.acqAt
    mctpImage := sel m 44 s.mctpImage State.reset.sys.mctpImage
    mctpBytes := sel m 45 s.mctpBytes State.reset.sys.mctpBytes
    boot := sel m 46 s.boot State.reset.sys.boot
    silenced := sel m 47 s.silenced State.reset.sys.silenced
    quiesced := sel m 48 s.quiesced State.reset.sys.quiesced }

/-- `sec` without the parts of m. -/
def eraseSec (m : Nat) (s : Sec) : Sec :=
  { ownerKey := sel m 52 s.ownerKey State.reset.sec.ownerKey
    fabricKey := sel m 53 s.fabricKey State.reset.sec.fabricKey
    partKeys := sel m 54 s.partKeys State.reset.sec.partKeys
    keyBits := sel m 55 s.keyBits State.reset.sec.keyBits
    unread := sel m 56 s.unread State.reset.sec.unread
    lost := sel m 57 s.lost State.reset.sec.lost
    nextSeq := sel m 58 s.nextSeq State.reset.sec.nextSeq
    lastMac := sel m 59 s.lastMac State.reset.sec.lastMac
    lossNoted := sel m 60 s.lossNoted State.reset.sec.lossNoted
    debugUnlocked := sel m 61 s.debugUnlocked State.reset.sec.debugUnlocked
    fails := sel m 62 s.fails State.reset.sec.fails
    unlockShut := sel m 63 s.unlockShut State.reset.sec.unlockShut
    sessions := sel m 64 s.sessions State.reset.sec.sessions
    svn := sel m 65 s.svn State.reset.sec.svn
    revoke := sel m 66 s.revoke State.reset.sec.revoke
    rootHash := sel m 67 s.rootHash State.reset.sec.rootHash
    tamperCount := sel m 68 s.tamperCount State.reset.sec.tamperCount
    secureBoot := sel m 69 s.secureBoot State.reset.sec.secureBoot
    uid := sel m 70 s.uid State.reset.sec.uid
    bootSelCold := sel m 71 s.bootSelCold State.reset.sec.bootSelCold }

/-- `mem` without the parts of m. -/
def eraseMem (m : Nat) (s : Mem) : Mem :=
  { retiredPairs := sel m 75 s.retiredPairs State.reset.mem.retiredPairs
    migrating := sel m 76 s.migrating State.reset.mem.migrating
    remaining := sel m 77 s.remaining State.reset.mem.remaining
    testing := sel m 78 s.testing State.reset.mem.testing
    lostCells := sel m 79 s.lostCells State.reset.mem.lostCells }

/-- `cmd` without the parts of m. -/
def eraseCmd (m : Nat) (s : Cmd) : Cmd :=
  { next := sel m 80 s.next State.reset.cmd.next
    doneAhead := sel m 81 s.doneAhead State.reset.cmd.doneAhead
    begun := sel m 82 s.begun State.reset.cmd.begun
    remote := sel m 83 s.remote State.reset.cmd.remote
    outside := sel m 84 s.outside State.reset.cmd.outside
    gateWaits := sel m 85 s.gateWaits State.reset.cmd.gateWaits
    working := sel m 86 s.working State.reset.cmd.working
    nextSeq := sel m 87 s.nextSeq State.reset.cmd.nextSeq
    shadow := sel m 88 s.shadow State.reset.cmd.shadow
    bank := sel m 89 s.bank State.reset.cmd.bank
    gen := sel m 90 s.gen State.reset.cmd.gen
    under := sel m 91 s.under State.reset.cmd.under }

/-- `dump` without the parts of m. -/
def eraseDump (m : Nat) (s : Dump) : Dump :=
  { lastT := sel m 93 s.lastT State.reset.dump.lastT
    nextSeq := sel m 94 s.nextSeq State.reset.dump.nextSeq
    skipped := sel m 95 s.skipped State.reset.dump.skipped
    skippedSince := sel m 96 s.skippedSince State.reset.dump.skippedSince
    carried := sel m 97 s.carried State.reset.dump.carried
    writing := sel m 98 s.writing State.reset.dump.writing
    pendingCap := sel m 99 s.pendingCap State.reset.dump.pendingCap
    sPi := sel m 100 s.sPi State.reset.dump.sPi
    sCi := sel m 101 s.sCi State.reset.dump.sCi
    vecArmed := sel m 102 s.vecArmed State.reset.dump.vecArmed }

/-- `hif` without the parts of m. -/
def eraseHif (m : Nat) (s : Hif) : Hif :=
  { ports := sel m 103 s.ports State.reset.hif.ports
    reqs := sel m 104 s.reqs State.reset.hif.reqs
    nextReq := sel m 105 s.nextReq State.reset.hif.nextReq }

/-- `qmg` without the parts of m. -/
def eraseQmg (m : Nat) (s : Qmg) : Qmg :=
  { queues := sel m 106 s.queues State.reset.qmg.queues
    pond := sel m 107 s.pond State.reset.qmg.pond
    asleep := sel m 108 s.asleep State.reset.qmg.asleep
    heldDb := sel m 109 s.heldDb State.reset.qmg.heldDb
    stalled := sel m 110 s.stalled State.reset.qmg.stalled
    journal := sel m 111 s.journal State.reset.qmg.journal
    wrr := sel m 112 s.wrr State.reset.qmg.wrr
    jobs := sel m 113 s.jobs State.reset.qmg.jobs
    nextJid := sel m 114 s.nextJid State.reset.qmg.nextJid
    useClock := sel m 115 s.useClock State.reset.qmg.useClock
    evictRun := sel m 116 s.evictRun State.reset.qmg.evictRun
    epEq := sel m 117 s.epEq State.reset.qmg.epEq
    holdoffs := sel m 118 s.holdoffs State.reset.qmg.holdoffs }

/-- `xlt` without the parts of m. -/
def eraseXlt (m : Nat) (s : Xlt) : Xlt :=
  { asids := sel m 119 s.asids State.reset.xlt.asids
    tlb := sel m 120 s.tlb State.reset.xlt.tlb
    wc := sel m 121 s.wc State.reset.xlt.wc
    walks := sel m 122 s.walks State.reset.xlt.walks
    nextWalk := sel m 123 s.nextWalk State.reset.xlt.nextWalk
    invals := sel m 124 s.invals State.reset.xlt.invals
    invalDone := sel m 125 s.invalDone State.reset.xlt.invalDone
    nextInval := sel m 126 s.nextInval State.reset.xlt.nextInval
    pinned := sel m 127 s.pinned State.reset.xlt.pinned
    nextTok := sel m 128 s.nextTok State.reset.xlt.nextTok
    lastFault := sel m 129 s.lastFault State.reset.xlt.lastFault
    faulted := sel m 130 s.faulted State.reset.xlt.faulted }

/-- `rma` without the parts of m. -/
def eraseRma (m : Nat) (s : Rma) : Rma :=
  { partitions := sel m 131 s.partitions State.reset.rma.partitions
    regions := sel m 132 s.regions State.reset.rma.regions
    fresh := sel m 133 s.fresh State.reset.rma.fresh
    freed := sel m 134 s.freed State.reset.rma.freed
    targets := sel m 135 s.targets State.reset.rma.targets }

/-- `trn` without the parts of m. -/
def eraseTrn (m : Nat) (s : Trn) : Trn :=
  { peers := sel m 136 s.peers State.reset.trn.peers
    openCount := sel m 137 s.openCount State.reset.trn.openCount
    logItems := sel m 138 s.logItems State.reset.trn.logItems
    waiting := sel m 139 s.waiting State.reset.trn.waiting
    opens := sel m 140 s.opens State.reset.trn.opens }

/-- `svc` without the parts of m. -/
def eraseSvc (m : Nat) (s : Svc) : Svc :=
  { ctxs := sel m 141 s.ctxs State.reset.svc.ctxs
    unexpLost := sel m 142 s.unexpLost State.reset.svc.unexpLost
    rndvs := sel m 143 s.rndvs State.reset.svc.rndvs
    locks := sel m 144 s.locks State.reset.svc.locks
    lockRecs := sel m 145 s.lockRecs State.reset.svc.lockRecs
    boosts := sel m 146 s.boosts State.reset.svc.boosts
    varRuns := sel m 147 s.varRuns State.reset.svc.varRuns
    vars := sel m 148 s.vars State.reset.svc.vars
    groups := sel m 149 s.groups State.reset.svc.groups
    frames := sel m 150 s.frames State.reset.svc.frames }

/-- `fab` without the parts of m. -/
def eraseFabric (m : Nat) (s : Fabric) : Fabric :=
  { stored := sel m 151 s.stored State.reset.fab.stored
    nextPid := sel m 152 s.nextPid State.reset.fab.nextPid
    egress := sel m 153 s.egress State.reset.fab.egress
    exc := sel m 154 s.exc State.reset.fab.exc
    vectors := sel m 155 s.vectors State.reset.fab.vectors
    vecSeq := sel m 156 s.vecSeq State.reset.fab.vecSeq
    vecLast := sel m 157 s.vecLast State.reset.fab.vecLast
    mapSeq := sel m 158 s.mapSeq State.reset.fab.mapSeq
    policers := sel m 159 s.policers State.reset.fab.policers
    deferred := sel m 160 s.deferred State.reset.fab.deferred
    inject := sel m 161 s.inject State.reset.fab.inject
    handed := sel m 162 s.handed State.reset.fab.handed
    passing := sel m 163 s.passing State.reset.fab.passing
    operands := sel m 164 s.operands State.reset.fab.operands
    samples := sel m 165 s.samples State.reset.fab.samples
    hops := sel m 166 s.hops State.reset.fab.hops
    pins := sel m 167 s.pins State.reset.fab.pins
    ticks := sel m 168 s.ticks State.reset.fab.ticks
    dead := sel m 169 s.dead State.reset.fab.dead
    suspects := sel m 170 s.suspects State.reset.fab.suspects
    ports := sel m 171 s.ports State.reset.fab.ports
    lanes := sel m 172 s.lanes State.reset.fab.lanes
    pwr := sel m 173 s.pwr State.reset.fab.pwr }

/-- A state without the parts of m: part i is bit i. -/
def erase (m : Nat) (s : State) : State :=
  { pending := sel m 0 s.pending State.reset.pending
    out := sel m 1 s.out State.reset.out
    heldOut := sel m 2 s.heldOut State.reset.heldOut
    freeCtr := sel m 3 s.freeCtr State.reset.freeCtr
    clk := eraseClk m s.clk
    sys := eraseSys m s.sys
    regs := sel m 49 s.regs State.reset.regs
    bank0 := sel m 50 s.bank0 State.reset.bank0
    bank1 := sel m 51 s.bank1 State.reset.bank1
    sec := eraseSec m s.sec
    gates := sel m 72 s.gates State.reset.gates
    pend := sel m 73 s.pend State.reset.pend
    engines := sel m 74 s.engines State.reset.engines
    mem := eraseMem m s.mem
    cmd := eraseCmd m s.cmd
    counters := sel m 92 s.counters State.reset.counters
    dump := eraseDump m s.dump
    hif := eraseHif m s.hif
    qmg := eraseQmg m s.qmg
    xlt := eraseXlt m s.xlt
    rma := eraseRma m s.rma
    trn := eraseTrn m s.trn
    svc := eraseSvc m s.svc
    fab := eraseFabric m s.fab }

/-- `sel` in another form. -/
abbrev sel' {α : Type} (m i : Nat) (a d : α) : α := Bool.casesOn (!m.testBit i) d a

def eraseClk' (m : Nat) (s : Clk) : Clk :=
  { now := sel' m 4 s.now State.reset.clk.now
    dtime := sel' m 5 s.dtime State.reset.clk.dtime
    slew := sel' m 6 s.slew State.reset.clk.slew
    refOk := sel' m 7 s.refOk State.reset.clk.refOk
    refAt := sel' m 8 s.refAt State.reset.clk.refAt
    refWait := sel' m 9 s.refWait State.reset.clk.refWait
    monitors := sel' m 10 s.monitors State.reset.clk.monitors
    tState := sel' m 11 s.tState State.reset.clk.tState
    stratum := sel' m 12 s.stratum State.reset.clk.stratum
    delay := sel' m 13 s.delay State.reset.clk.delay
    offset := sel' m 14 s.offset State.reset.clk.offset
    exchAt := sel' m 15 s.exchAt State.reset.clk.exchAt
    seq := sel' m 16 s.seq State.reset.clk.seq
    reqAt := sel' m 17 s.reqAt State.reset.clk.reqAt
    waiting := sel' m 18 s.waiting State.reset.clk.waiting
    runLength := sel' m 19 s.runLength State.reset.clk.runLength
    missed := sel' m 20 s.missed State.reset.clk.missed
    outAt := sel' m 21 s.outAt State.reset.clk.outAt }

def eraseSys' (m : Nat) (s : Sys) : Sys :=
  { stage := sel' m 22 s.stage State.reset.sys.stage
    error := sel' m 23 s.error State.reset.sys.error
    halt := sel' m 24 s.halt State.reset.sys.halt
    bootCount := sel' m 25 s.bootCount State.reset.sys.bootCount
    resetCause := sel' m 26 s.resetCause State.reset.sys.resetCause
    warmCount := sel' m 27 s.warmCount State.reset.sys.warmCount
    flashCount := sel' m 28 s.flashCount State.reset.sys.flashCount
    deadbolt := sel' m 29 s.deadbolt State.reset.sys.deadbolt
    pwrOk := sel' m 30 s.pwrOk State.reset.sys.pwrOk
    pwrAt := sel' m 31 s.pwrAt State.reset.sys.pwrAt
    resetN := sel' m 32 s.resetN State.reset.sys.resetN
    bootSel := sel' m 33 s.bootSel State.reset.sys.bootSel
    faultNForced := sel' m 34 s.faultNForced State.reset.sys.faultNForced
    railFault := sel' m 35 s.railFault State.reset.sys.railFault
    slots := sel' m 36 s.slots State.reset.sys.slots
    running := sel' m 37 s.running State.reset.sys.running
    runVersion := sel' m 38 s.runVersion State.reset.sys.runVersion
    runHeader := sel' m 39 s.runHeader State.reset.sys.runHeader
    nextSlot := sel' m 40 s.nextSlot State.reset.sys.nextSlot
    hbmImage := sel' m 41 s.hbmImage State.reset.sys.hbmImage
    portsBefore := sel' m 42 s.portsBefore State.reset.sys.portsBefore
    acqAt := sel' m 43 s.acqAt State.reset.sys.acqAt
    mctpImage := sel' m 44 s.mctpImage State.reset.sys.mctpImage
    mctpBytes := sel' m 45 s.mctpBytes State.reset.sys.mctpBytes
    boot := sel' m 46 s.boot State.reset.sys.boot
    silenced := sel' m 47 s.silenced State.reset.sys.silenced
    quiesced := sel' m 48 s.quiesced State.reset.sys.quiesced }

def eraseSec' (m : Nat) (s : Sec) : Sec :=
  { ownerKey := sel' m 52 s.ownerKey State.reset.sec.ownerKey
    fabricKey := sel' m 53 s.fabricKey State.reset.sec.fabricKey
    partKeys := sel' m 54 s.partKeys State.reset.sec.partKeys
    keyBits := sel' m 55 s.keyBits State.reset.sec.keyBits
    unread := sel' m 56 s.unread State.reset.sec.unread
    lost := sel' m 57 s.lost State.reset.sec.lost
    nextSeq := sel' m 58 s.nextSeq State.reset.sec.nextSeq
    lastMac := sel' m 59 s.lastMac State.reset.sec.lastMac
    lossNoted := sel' m 60 s.lossNoted State.reset.sec.lossNoted
    debugUnlocked := sel' m 61 s.debugUnlocked State.reset.sec.debugUnlocked
    fails := sel' m 62 s.fails State.reset.sec.fails
    unlockShut := sel' m 63 s.unlockShut State.reset.sec.unlockShut
    sessions := sel' m 64 s.sessions State.reset.sec.sessions
    svn := sel' m 65 s.svn State.reset.sec.svn
    revoke := sel' m 66 s.revoke State.reset.sec.revoke
    rootHash := sel' m 67 s.rootHash State.reset.sec.rootHash
    tamperCount := sel' m 68 s.tamperCount State.reset.sec.tamperCount
    secureBoot := sel' m 69 s.secureBoot State.reset.sec.secureBoot
    uid := sel' m 70 s.uid State.reset.sec.uid
    bootSelCold := sel' m 71 s.bootSelCold State.reset.sec.bootSelCold }

def eraseMem' (m : Nat) (s : Mem) : Mem :=
  { retiredPairs := sel' m 75 s.retiredPairs State.reset.mem.retiredPairs
    migrating := sel' m 76 s.migrating State.reset.mem.migrating
    remaining := sel' m 77 s.remaining State.reset.mem.remaining
    testing := sel' m 78 s.testing State.reset.mem.testing
    lostCells := sel' m 79 s.lostCells State.reset.mem.lostCells }

def eraseCmd' (m : Nat) (s : Cmd) : Cmd :=
  { next := sel' m 80 s.next State.reset.cmd.next
    doneAhead := sel' m 81 s.doneAhead State.reset.cmd.doneAhead
    begun := sel' m 82 s.begun State.reset.cmd.begun
    remote := sel' m 83 s.remote State.reset.cmd.remote
    outside := sel' m 84 s.outside State.reset.cmd.outside
    gateWaits := sel' m 85 s.gateWaits State.reset.cmd.gateWaits
    working := sel' m 86 s.working State.reset.cmd.working
    nextSeq := sel' m 87 s.nextSeq State.reset.cmd.nextSeq
    shadow := sel' m 88 s.shadow State.reset.cmd.shadow
    bank := sel' m 89 s.bank State.reset.cmd.bank
    gen := sel' m 90 s.gen State.reset.cmd.gen
    under := sel' m 91 s.under State.reset.cmd.under }

def eraseDump' (m : Nat) (s : Dump) : Dump :=
  { lastT := sel' m 93 s.lastT State.reset.dump.lastT
    nextSeq := sel' m 94 s.nextSeq State.reset.dump.nextSeq
    skipped := sel' m 95 s.skipped State.reset.dump.skipped
    skippedSince := sel' m 96 s.skippedSince State.reset.dump.skippedSince
    carried := sel' m 97 s.carried State.reset.dump.carried
    writing := sel' m 98 s.writing State.reset.dump.writing
    pendingCap := sel' m 99 s.pendingCap State.reset.dump.pendingCap
    sPi := sel' m 100 s.sPi State.reset.dump.sPi
    sCi := sel' m 101 s.sCi State.reset.dump.sCi
    vecArmed := sel' m 102 s.vecArmed State.reset.dump.vecArmed }

def eraseHif' (m : Nat) (s : Hif) : Hif :=
  { ports := sel' m 103 s.ports State.reset.hif.ports
    reqs := sel' m 104 s.reqs State.reset.hif.reqs
    nextReq := sel' m 105 s.nextReq State.reset.hif.nextReq }

def eraseQmg' (m : Nat) (s : Qmg) : Qmg :=
  { queues := sel' m 106 s.queues State.reset.qmg.queues
    pond := sel' m 107 s.pond State.reset.qmg.pond
    asleep := sel' m 108 s.asleep State.reset.qmg.asleep
    heldDb := sel' m 109 s.heldDb State.reset.qmg.heldDb
    stalled := sel' m 110 s.stalled State.reset.qmg.stalled
    journal := sel' m 111 s.journal State.reset.qmg.journal
    wrr := sel' m 112 s.wrr State.reset.qmg.wrr
    jobs := sel' m 113 s.jobs State.reset.qmg.jobs
    nextJid := sel' m 114 s.nextJid State.reset.qmg.nextJid
    useClock := sel' m 115 s.useClock State.reset.qmg.useClock
    evictRun := sel' m 116 s.evictRun State.reset.qmg.evictRun
    epEq := sel' m 117 s.epEq State.reset.qmg.epEq
    holdoffs := sel' m 118 s.holdoffs State.reset.qmg.holdoffs }

def eraseXlt' (m : Nat) (s : Xlt) : Xlt :=
  { asids := sel' m 119 s.asids State.reset.xlt.asids
    tlb := sel' m 120 s.tlb State.reset.xlt.tlb
    wc := sel' m 121 s.wc State.reset.xlt.wc
    walks := sel' m 122 s.walks State.reset.xlt.walks
    nextWalk := sel' m 123 s.nextWalk State.reset.xlt.nextWalk
    invals := sel' m 124 s.invals State.reset.xlt.invals
    invalDone := sel' m 125 s.invalDone State.reset.xlt.invalDone
    nextInval := sel' m 126 s.nextInval State.reset.xlt.nextInval
    pinned := sel' m 127 s.pinned State.reset.xlt.pinned
    nextTok := sel' m 128 s.nextTok State.reset.xlt.nextTok
    lastFault := sel' m 129 s.lastFault State.reset.xlt.lastFault
    faulted := sel' m 130 s.faulted State.reset.xlt.faulted }

def eraseRma' (m : Nat) (s : Rma) : Rma :=
  { partitions := sel' m 131 s.partitions State.reset.rma.partitions
    regions := sel' m 132 s.regions State.reset.rma.regions
    fresh := sel' m 133 s.fresh State.reset.rma.fresh
    freed := sel' m 134 s.freed State.reset.rma.freed
    targets := sel' m 135 s.targets State.reset.rma.targets }

def eraseTrn' (m : Nat) (s : Trn) : Trn :=
  { peers := sel' m 136 s.peers State.reset.trn.peers
    openCount := sel' m 137 s.openCount State.reset.trn.openCount
    logItems := sel' m 138 s.logItems State.reset.trn.logItems
    waiting := sel' m 139 s.waiting State.reset.trn.waiting
    opens := sel' m 140 s.opens State.reset.trn.opens }

def eraseSvc' (m : Nat) (s : Svc) : Svc :=
  { ctxs := sel' m 141 s.ctxs State.reset.svc.ctxs
    unexpLost := sel' m 142 s.unexpLost State.reset.svc.unexpLost
    rndvs := sel' m 143 s.rndvs State.reset.svc.rndvs
    locks := sel' m 144 s.locks State.reset.svc.locks
    lockRecs := sel' m 145 s.lockRecs State.reset.svc.lockRecs
    boosts := sel' m 146 s.boosts State.reset.svc.boosts
    varRuns := sel' m 147 s.varRuns State.reset.svc.varRuns
    vars := sel' m 148 s.vars State.reset.svc.vars
    groups := sel' m 149 s.groups State.reset.svc.groups
    frames := sel' m 150 s.frames State.reset.svc.frames }

def eraseFabric' (m : Nat) (s : Fabric) : Fabric :=
  { stored := sel' m 151 s.stored State.reset.fab.stored
    nextPid := sel' m 152 s.nextPid State.reset.fab.nextPid
    egress := sel' m 153 s.egress State.reset.fab.egress
    exc := sel' m 154 s.exc State.reset.fab.exc
    vectors := sel' m 155 s.vectors State.reset.fab.vectors
    vecSeq := sel' m 156 s.vecSeq State.reset.fab.vecSeq
    vecLast := sel' m 157 s.vecLast State.reset.fab.vecLast
    mapSeq := sel' m 158 s.mapSeq State.reset.fab.mapSeq
    policers := sel' m 159 s.policers State.reset.fab.policers
    deferred := sel' m 160 s.deferred State.reset.fab.deferred
    inject := sel' m 161 s.inject State.reset.fab.inject
    handed := sel' m 162 s.handed State.reset.fab.handed
    passing := sel' m 163 s.passing State.reset.fab.passing
    operands := sel' m 164 s.operands State.reset.fab.operands
    samples := sel' m 165 s.samples State.reset.fab.samples
    hops := sel' m 166 s.hops State.reset.fab.hops
    pins := sel' m 167 s.pins State.reset.fab.pins
    ticks := sel' m 168 s.ticks State.reset.fab.ticks
    dead := sel' m 169 s.dead State.reset.fab.dead
    suspects := sel' m 170 s.suspects State.reset.fab.suspects
    ports := sel' m 171 s.ports State.reset.fab.ports
    lanes := sel' m 172 s.lanes State.reset.fab.lanes
    pwr := sel' m 173 s.pwr State.reset.fab.pwr }

/-- `erase` in another form, so that comparing the two compares the parts that count and no others. -/
def erase' (m : Nat) (s : State) : State :=
  { pending := sel' m 0 s.pending State.reset.pending
    out := sel' m 1 s.out State.reset.out
    heldOut := sel' m 2 s.heldOut State.reset.heldOut
    freeCtr := sel' m 3 s.freeCtr State.reset.freeCtr
    clk := eraseClk' m s.clk
    sys := eraseSys' m s.sys
    regs := sel' m 49 s.regs State.reset.regs
    bank0 := sel' m 50 s.bank0 State.reset.bank0
    bank1 := sel' m 51 s.bank1 State.reset.bank1
    sec := eraseSec' m s.sec
    gates := sel' m 72 s.gates State.reset.gates
    pend := sel' m 73 s.pend State.reset.pend
    engines := sel' m 74 s.engines State.reset.engines
    mem := eraseMem' m s.mem
    cmd := eraseCmd' m s.cmd
    counters := sel' m 92 s.counters State.reset.counters
    dump := eraseDump' m s.dump
    hif := eraseHif' m s.hif
    qmg := eraseQmg' m s.qmg
    xlt := eraseXlt' m s.xlt
    rma := eraseRma' m s.rma
    trn := eraseTrn' m s.trn
    svc := eraseSvc' m s.svc
    fab := eraseFabric' m s.fab }

/-- Every part of a lies in b. -/
def sub (a b : Nat) : Bool := Nat.beq (Nat.land a b) a

/-- Only the parts of m change from s to t, and what every operation keeps is kept. -/
structure Within (m : Nat) (s t : State) : Prop where
  queue : t.pending = s.pending
  out : s.out <+: t.out
  free : s.freeCtr ≤ t.freeCtr
  time : s.clk.now ≤ t.clk.now
  regs : s.regsRising = true → t.regsRising = true
  rest : erase m t = erase m s

theorem Within.refl {m : Nat} {s : State} : Within m s s :=
  ⟨rfl, List.prefix_refl _, Nat.le_refl _, Nat.le_refl _, id, rfl⟩

theorem Within.trans {m : Nat} {s t u : State} (h : Within m s t) (k : Within m t u) : Within m s u :=
  ⟨k.queue.trans h.queue, h.out.trans k.out, Nat.le_trans h.free k.free, Nat.le_trans h.time k.time, fun x => k.regs (h.regs x), k.rest.trans h.rest⟩

theorem sub_testBit {a b i : Nat} (h : sub a b = true) (hb : b.testBit i = false) : a.testBit i = false := by
  have e : a &&& b = a := Nat.eq_of_beq_eq_true h
  rw [← e, Nat.testBit_and, hb, Bool.and_false]

theorem sub_self (a : Nat) : sub a a = true := by
  unfold sub
  rw [show Nat.land a a = a from Nat.and_self a]
  exact Nat.beq_refl a

theorem sub_trans {a b c : Nat} (h : sub a b = true) (k : sub b c = true) : sub a c = true := by
  have e : a &&& b = a := Nat.eq_of_beq_eq_true h
  have f : b &&& c = b := Nat.eq_of_beq_eq_true k
  have g : a &&& c = a := by rw [← e, Nat.and_assoc, f]
  exact (congrArg (fun x => Nat.beq x a) g).trans (Nat.beq_refl a)

theorem sel_sub {α : Type} {a b : Nat} (h : sub a b = true) (i : Nat) (x d : α) : sel b i (sel a i x d) d = sel b i x d := by
  unfold sel
  cases hb : b.testBit i
  · rw [sub_testBit h hb]
  · rfl

theorem eraseClk_sub {a b : Nat} (h : sub a b = true) (s : Clk) : eraseClk b (eraseClk a s) = eraseClk b s := by
  simp only [eraseClk, sel_sub h]

theorem eraseSys_sub {a b : Nat} (h : sub a b = true) (s : Sys) : eraseSys b (eraseSys a s) = eraseSys b s := by
  simp only [eraseSys, sel_sub h]

theorem eraseSec_sub {a b : Nat} (h : sub a b = true) (s : Sec) : eraseSec b (eraseSec a s) = eraseSec b s := by
  simp only [eraseSec, sel_sub h]

theorem eraseMem_sub {a b : Nat} (h : sub a b = true) (s : Mem) : eraseMem b (eraseMem a s) = eraseMem b s := by
  simp only [eraseMem, sel_sub h]

theorem eraseCmd_sub {a b : Nat} (h : sub a b = true) (s : Cmd) : eraseCmd b (eraseCmd a s) = eraseCmd b s := by
  simp only [eraseCmd, sel_sub h]

theorem eraseDump_sub {a b : Nat} (h : sub a b = true) (s : Dump) : eraseDump b (eraseDump a s) = eraseDump b s := by
  simp only [eraseDump, sel_sub h]

theorem eraseHif_sub {a b : Nat} (h : sub a b = true) (s : Hif) : eraseHif b (eraseHif a s) = eraseHif b s := by
  simp only [eraseHif, sel_sub h]

theorem eraseQmg_sub {a b : Nat} (h : sub a b = true) (s : Qmg) : eraseQmg b (eraseQmg a s) = eraseQmg b s := by
  simp only [eraseQmg, sel_sub h]

theorem eraseXlt_sub {a b : Nat} (h : sub a b = true) (s : Xlt) : eraseXlt b (eraseXlt a s) = eraseXlt b s := by
  simp only [eraseXlt, sel_sub h]

theorem eraseRma_sub {a b : Nat} (h : sub a b = true) (s : Rma) : eraseRma b (eraseRma a s) = eraseRma b s := by
  simp only [eraseRma, sel_sub h]

theorem eraseTrn_sub {a b : Nat} (h : sub a b = true) (s : Trn) : eraseTrn b (eraseTrn a s) = eraseTrn b s := by
  simp only [eraseTrn, sel_sub h]

theorem eraseSvc_sub {a b : Nat} (h : sub a b = true) (s : Svc) : eraseSvc b (eraseSvc a s) = eraseSvc b s := by
  simp only [eraseSvc, sel_sub h]

theorem eraseFabric_sub {a b : Nat} (h : sub a b = true) (s : Fabric) : eraseFabric b (eraseFabric a s) = eraseFabric b s := by
  simp only [eraseFabric, sel_sub h]

theorem erase_sub {a b : Nat} (h : sub a b = true) (s : State) : erase b (erase a s) = erase b s := by
  simp only [erase, sel_sub h, eraseClk_sub h, eraseSys_sub h, eraseSec_sub h, eraseMem_sub h, eraseCmd_sub h, eraseDump_sub h, eraseHif_sub h, eraseQmg_sub h, eraseXlt_sub h, eraseRma_sub h, eraseTrn_sub h, eraseSvc_sub h, eraseFabric_sub h]


theorem sel'_eq {α : Type} (m i : Nat) (a d : α) : sel' m i a d = sel m i a d := by
  unfold sel' sel
  cases m.testBit i <;> rfl


theorem eraseClk'_eq (m : Nat) (s : Clk) : eraseClk' m s = eraseClk m s := by
  simp only [eraseClk', eraseClk, sel'_eq]


theorem eraseSys'_eq (m : Nat) (s : Sys) : eraseSys' m s = eraseSys m s := by
  simp only [eraseSys', eraseSys, sel'_eq]


theorem eraseSec'_eq (m : Nat) (s : Sec) : eraseSec' m s = eraseSec m s := by
  simp only [eraseSec', eraseSec, sel'_eq]


theorem eraseMem'_eq (m : Nat) (s : Mem) : eraseMem' m s = eraseMem m s := by
  simp only [eraseMem', eraseMem, sel'_eq]


theorem eraseCmd'_eq (m : Nat) (s : Cmd) : eraseCmd' m s = eraseCmd m s := by
  simp only [eraseCmd', eraseCmd, sel'_eq]


theorem eraseDump'_eq (m : Nat) (s : Dump) : eraseDump' m s = eraseDump m s := by
  simp only [eraseDump', eraseDump, sel'_eq]


theorem eraseHif'_eq (m : Nat) (s : Hif) : eraseHif' m s = eraseHif m s := by
  simp only [eraseHif', eraseHif, sel'_eq]


theorem eraseQmg'_eq (m : Nat) (s : Qmg) : eraseQmg' m s = eraseQmg m s := by
  simp only [eraseQmg', eraseQmg, sel'_eq]


theorem eraseXlt'_eq (m : Nat) (s : Xlt) : eraseXlt' m s = eraseXlt m s := by
  simp only [eraseXlt', eraseXlt, sel'_eq]


theorem eraseRma'_eq (m : Nat) (s : Rma) : eraseRma' m s = eraseRma m s := by
  simp only [eraseRma', eraseRma, sel'_eq]


theorem eraseTrn'_eq (m : Nat) (s : Trn) : eraseTrn' m s = eraseTrn m s := by
  simp only [eraseTrn', eraseTrn, sel'_eq]


theorem eraseSvc'_eq (m : Nat) (s : Svc) : eraseSvc' m s = eraseSvc m s := by
  simp only [eraseSvc', eraseSvc, sel'_eq]


theorem eraseFabric'_eq (m : Nat) (s : Fabric) : eraseFabric' m s = eraseFabric m s := by
  simp only [eraseFabric', eraseFabric, sel'_eq]


theorem erase'_eq (m : Nat) (s : State) : erase' m s = erase m s := by
  simp only [erase', erase, sel'_eq, eraseClk'_eq, eraseSys'_eq, eraseSec'_eq, eraseMem'_eq, eraseCmd'_eq, eraseDump'_eq, eraseHif'_eq, eraseQmg'_eq, eraseXlt'_eq, eraseRma'_eq, eraseTrn'_eq, eraseSvc'_eq, eraseFabric'_eq]

theorem Within.weaken {a b : Nat} {s t : State} (h : sub a b = true) (k : Within a s t) : Within b s t :=
  ⟨k.queue, k.out, k.free, k.time, k.regs, by rw [← erase_sub h t, k.rest, erase_sub h]⟩

/-- One more operation. -/
theorem Within.app {a m : Nat} {s t u : State} (k : Within a t u) (h : sub a m = true) (i : Within m s t) : Within m s u :=
  i.trans (k.weaken h)

/-- A change of parts of m alone. -/
theorem Within.upd {m : Nat} {s e t : State} (h : Within m s e) (ho : t.out = e.out) (hf : t.freeCtr = e.freeCtr)
    (hn : t.clk.now = e.clk.now) (hr : t.regs = e.regs) (h0 : t.bank0 = e.bank0) (h1 : t.bank1 = e.bank1) (he : erase m t = erase' m e)
    (hq : t.pending = e.pending) : Within m s t :=
  ⟨hq.trans h.queue, ho ▸ h.out, hf ▸ h.free, hn ▸ h.time, fun x => by
    have := h.regs x
    unfold State.regsRising at this ⊢
    rwa [hr, h0, h1], he.trans ((erase'_eq m e).trans h.rest)⟩

/-- The state that an operation answers beside a value, beside two values, where it answers one, and where it goes on. -/
def Within2 {α : Type} (m : Nat) (s : State) (p : α × State) : Prop := Within m s p.2
def Within3 {α β : Type} (m : Nat) (s : State) (p : α × β × State) : Prop := Within m s p.2.2
def WithinO {α : Type} (m : Nat) (s : State) (o : Option (α × State)) : Prop := ∀ p, o = some p → Within m s p.2
def WithinX (m : Nat) (s : State) (o : Host.Outcome State Fault Refusal) : Prop := ∀ t, o = .next t → Within m s t

theorem Within2.mk {α : Type} {m : Nat} {s t : State} {a : α} (h : Within m s t) : Within2 m s (a, t) := h
theorem Within3.mk {α β : Type} {m : Nat} {s t : State} {a : α} {b : β} (h : Within m s t) : Within3 m s (a, b, t) := h
theorem Within2.snd {α : Type} {m : Nat} {s : State} {p : α × State} (h : Within2 m s p) : Within m s p.2 := h
theorem Within3.snd {α β : Type} {m : Nat} {s : State} {p : α × β × State} (h : Within3 m s p) : Within m s p.2.2 := h
theorem Within2.of {α : Type} {m : Nat} {s t : State} {a : α} {p : α × State} (e : p = (a, t)) (h : Within2 m s p) : Within m s t := by
  rw [e] at h; exact h
theorem Within3.of {α β : Type} {m : Nat} {s t : State} {a : α} {b : β} {p : α × β × State} (e : p = (a, b, t)) (h : Within3 m s p) :
    Within m s t := by rw [e] at h; exact h
theorem WithinO.of {α : Type} {m : Nat} {s : State} {p : α × State} {o : Option (α × State)} (e : o = some p) (h : WithinO m s o) :
    Within m s p.2 := h p e
theorem WithinO.none {α : Type} {m : Nat} {s : State} : WithinO m s (Option.none : Option (α × State)) := fun _ h => nomatch h
theorem WithinO.some {α : Type} {m : Nat} {s : State} {p : α × State} (h : Within m s p.2) : WithinO m s (Option.some p) :=
  fun _ e => by cases e; exact h
theorem WithinX.next {m : Nat} {s t : State} (h : Within m s t) : WithinX m s (.next t) := fun _ e => by cases e; exact h
theorem WithinX.fault {m : Nat} {s : State} {r : Fault} : WithinX m s (.fault r) := fun _ e => nomatch e
def WithinS (m : Nat) (s : State) (o : Option State) : Prop := ∀ t, o = Option.some t → Within m s t
theorem WithinS.none {m : Nat} {s : State} : WithinS m s (Option.none : Option State) := fun _ h => nomatch h
theorem WithinS.some {m : Nat} {s t : State} (h : Within m s t) : WithinS m s (Option.some t) := fun _ e => by cases e; exact h
theorem WithinS.of {m : Nat} {s t : State} {o : Option State} (e : o = Option.some t) (h : WithinS m s o) : Within m s t := h t e

theorem Within3.tail {α β : Type} {m : Nat} {s : State} {a : α} {p : β × State} (h : Within2 m s p) : Within3 m s (a, p) := h
theorem Within3.head {α β : Type} {m : Nat} {s : State} {p : α × β × State} (h : Within3 m s p) : Within2 m s p.2 := h

theorem WithinS.map {α : Type} {m : Nat} {s : State} {f : α → State} {o : Option α} (h : ∀ x, Within m s (f x)) : WithinS m s (o.map f) := by
  intro t e
  cases o with
  | none => cases e
  | some x => cases e; exact h x

theorem WithinS.app {a m : Nat} {s t : State} {o : Option State} (k : WithinS a t o) (h : sub a m = true) (i : Within m s t) : WithinS m s o :=
  fun u e => i.trans (Within.weaken h (k u e))

theorem Within2.app {α : Type} {a m : Nat} {s t : State} {p : α × State} (k : Within2 a t p) (h : sub a m = true) (i : Within m s t) :
    Within2 m s p := Within.app k h i
theorem Within3.app {α β : Type} {a m : Nat} {s t : State} {p : α × β × State} (k : Within3 a t p) (h : sub a m = true)
    (i : Within m s t) : Within3 m s p := Within.app k h i
theorem WithinO.app {α : Type} {a m : Nat} {s t : State} {o : Option (α × State)} (k : WithinO a t o) (h : sub a m = true)
    (i : Within m s t) : WithinO m s o := fun p e => Within.app (k p e) h i
theorem WithinX.app {a m : Nat} {s t : State} {o : Host.Outcome State Fault Refusal} (k : WithinX a t o) (h : sub a m = true)
    (i : Within m s t) : WithinX m s o := fun u e => Within.app (k u e) h i

/-! ### Register files -/

theorem rfRising_le {lo hi : Nat} {f : RegFile} (h : lo ≤ hi) (k : rfRising hi f = true) : rfRising lo f = true := by
  cases f with
  | nil => rfl
  | cons x l =>
    simp only [rfRising, Bool.and_eq_true, decide_eq_true_eq] at k ⊢
    exact ⟨Nat.le_trans h k.1, k.2⟩

theorem rfErase_rising {lo : Nat} {f : RegFile} (x : Nat) (k : rfRising lo f = true) : rfRising lo (rfErase f x) = true := by
  induction f generalizing lo with
  | nil => rfl
  | cons y l ih =>
    simp only [rfRising, Bool.and_eq_true, decide_eq_true_eq] at k
    simp only [rfErase]
    split
    · exact rfRising_le (by omega) k.2
    · split
      · simp only [rfRising, Bool.and_eq_true, decide_eq_true_eq]; exact k
      · simp only [rfRising, Bool.and_eq_true, decide_eq_true_eq]; exact ⟨k.1, ih k.2⟩

theorem rfInsert_rising {lo x : Nat} {f : RegFile} (w : Word) (h : lo ≤ x) (k : rfRising lo f = true) :
    rfRising lo (rfInsert f x w) = true := by
  induction f generalizing lo with
  | nil => simp [rfInsert, rfRising, h]
  | cons y l ih =>
    simp only [rfRising, Bool.and_eq_true, decide_eq_true_eq] at k
    simp only [rfInsert]
    split
    · rename_i e
      simp only [rfRising, Bool.and_eq_true, decide_eq_true_eq]; exact ⟨h, e ▸ k.2⟩
    · split
      · simp only [rfRising, Bool.and_eq_true, decide_eq_true_eq]; exact ⟨h, by omega, k.2⟩
      · simp only [rfRising, Bool.and_eq_true, decide_eq_true_eq]; exact ⟨k.1, ih (by omega) k.2⟩

theorem rfPut_rising {f : RegFile} (x : Nat) (v d : Word) (k : rfRising 0 f = true) : rfRising 0 (rfPut f x v d) = true := by
  unfold rfPut
  split
  · exact rfErase_rising x k
  · exact rfInsert_rising v (Nat.zero_le _) k

theorem rfRising_filter {lo : Nat} {f : RegFile} (p : Nat × Word → Bool) (k : rfRising lo f = true) : rfRising lo (f.filter p) = true := by
  induction f generalizing lo with
  | nil => rfl
  | cons y l ih =>
    simp only [rfRising, Bool.and_eq_true, decide_eq_true_eq] at k
    rw [List.filter_cons]
    split
    · simp only [rfRising, Bool.and_eq_true, decide_eq_true_eq]; exact ⟨k.1, ih k.2⟩
    · exact rfRising_le (by omega) (ih k.2)

theorem warmReg_fst {e f : Nat × Word} (h : warmReg e = some f) : f.1 = e.1 := by
  unfold warmReg at h
  split at h
  · cases h
  · dsimp only at h
    split at h
    · cases h
    · cases h; rfl

theorem rfRising_warm {lo : Nat} {f : RegFile} (k : rfRising lo f = true) : rfRising lo (warmRegs f) = true := by
  unfold warmRegs
  induction f generalizing lo with
  | nil => rfl
  | cons y l ih =>
    simp only [rfRising, Bool.and_eq_true, decide_eq_true_eq] at k
    rw [List.filterMap_cons]
    split
    · exact rfRising_le (by omega) (ih k.2)
    · rename_i z hz
      simp only [rfRising, Bool.and_eq_true, decide_eq_true_eq]
      rw [warmReg_fst hz]
      exact ⟨k.1, ih k.2⟩

theorem warmRegs_rising {f : RegFile} (k : rfRising 0 f = true) : rfRising 0 (warmRegs f) = true := rfRising_warm k

/-- A change of parts of m and of the register files. -/
theorem Within.updRegs {m : Nat} {s e t : State} (h : Within m s e) (ho : t.out = e.out) (hf : t.freeCtr = e.freeCtr)
    (hn : t.clk.now = e.clk.now) (hr : rfRising 0 e.regs = true → rfRising 0 t.regs = true)
    (h0 : rfRising 0 e.bank0 = true → rfRising 0 t.bank0 = true) (h1 : rfRising 0 e.bank1 = true → rfRising 0 t.bank1 = true)
    (he : erase m t = erase' m e)
    (hq : t.pending = e.pending) : Within m s t :=
  ⟨hq.trans h.queue, ho ▸ h.out, hf ▸ h.free, hn ▸ h.time, fun x => by
    have k := h.regs x
    simp only [State.regsRising, Bool.and_eq_true] at k ⊢
    exact ⟨⟨hr k.1.1, h0 k.1.2⟩, h1 k.2⟩, he.trans ((erase'_eq m e).trans h.rest)⟩

/-- A change of parts of m in which the outputs are extended, free values drawn and time passed. -/
theorem Within.put {m : Nat} {s e t : State} (h : Within m s e) (ho : e.out <+: t.out) (hf : e.freeCtr ≤ t.freeCtr)
    (hn : e.clk.now ≤ t.clk.now) (hr : t.regs = e.regs) (h0 : t.bank0 = e.bank0) (h1 : t.bank1 = e.bank1)
    (he : erase m t = erase' m e)
    (hq : t.pending = e.pending) : Within m s t :=
  ⟨hq.trans h.queue, h.out.trans ho, Nat.le_trans h.free hf, Nat.le_trans h.time hn, fun x => by
    have k := h.regs x
    unfold State.regsRising at k ⊢
    rwa [hr, h0, h1], he.trans ((erase'_eq m e).trans h.rest)⟩

theorem Within.ite {m : Nat} {s a b : State} {c : Prop} [Decidable c] (ha : Within m s a) (hb : Within m s b) :
    Within m s (if c then a else b) := by split <;> assumption
theorem Within2.ite {α : Type} {m : Nat} {s : State} {a b : α × State} {c : Prop} [Decidable c] (ha : Within2 m s a) (hb : Within2 m s b) :
    Within2 m s (if c then a else b) := by split <;> assumption
theorem Within3.ite {α β : Type} {m : Nat} {s : State} {a b : α × β × State} {c : Prop} [Decidable c] (ha : Within3 m s a)
    (hb : Within3 m s b) : Within3 m s (if c then a else b) := by split <;> assumption
theorem WithinO.ite {α : Type} {m : Nat} {s : State} {a b : Option (α × State)} {c : Prop} [Decidable c] (ha : WithinO m s a)
    (hb : WithinO m s b) : WithinO m s (if c then a else b) := by split <;> assumption
theorem WithinS.ite {m : Nat} {s : State} {a b : Option State} {c : Prop} [Decidable c] (ha : WithinS m s a)
    (hb : WithinS m s b) : WithinS m s (if c then a else b) := by split <;> assumption
theorem WithinX.ite {m : Nat} {s : State} {a b : Host.Outcome State Fault Refusal} {c : Prop} [Decidable c] (ha : WithinX m s a)
    (hb : WithinX m s b) : WithinX m s (if c then a else b) := by split <;> assumption

theorem Within.elim {α : Type} {m : Nat} {s a : State} {f : α → State} {o : Option α} (ha : Within m s a) (hf : ∀ x, Within m s (f x)) :
    Within m s (o.elim a f) := by cases o <;> first | exact ha | exact hf _
theorem Within2.elim {α β : Type} {m : Nat} {s : State} {a : β × State} {f : α → β × State} {o : Option α} (ha : Within2 m s a)
    (hf : ∀ x, Within2 m s (f x)) : Within2 m s (o.elim a f) := by cases o <;> first | exact ha | exact hf _

theorem Within.foldl {α : Type} {m : Nat} {s i : State} {f : State → α → State} {l : List α} (hf : ∀ t x, Within m t (f t x))
    (hi : Within m s i) : Within m s (l.foldl f i) := by
  induction l generalizing i with
  | nil => exact hi
  | cons x l ih => exact ih (hi.trans (hf i x))
theorem Within2.foldl {α β : Type} {m : Nat} {s : State} {i : β × State} {f : β × State → α → β × State} {l : List α}
    (hf : ∀ b t x, Within2 m t (f (b, t) x)) (hi : Within2 m s i) : Within2 m s (l.foldl f i) := by
  induction l generalizing i with
  | nil => exact hi
  | cons x l ih => exact ih (Within.trans hi (hf i.1 i.2 x))
theorem Within3.foldl {α β γ : Type} {m : Nat} {s : State} {i : β × γ × State} {f : β × γ × State → α → β × γ × State} {l : List α}
    (hf : ∀ b c t x, Within3 m t (f (b, c, t) x)) (hi : Within3 m s i) : Within3 m s (l.foldl f i) := by
  induction l generalizing i with
  | nil => exact hi
  | cons x l ih => exact ih (Within.trans hi (hf i.1 i.2.1 i.2.2 x))

/-- A step under an operation's own configuration set (R28, R471) does what the step does: the set in force comes back. -/
theorem Within.asOf {m g : Nat} {s t : State} {f : State → State} (hf : ∀ u, Within m u (f u)) (i : Within m s t) :
    Within m s (asOf g f t) := by
  refine i.trans ?_
  unfold Machine.asOf
  split
  · exact hf t
  · have h := hf (t.view g)
    have hv : (t.view g).pending = t.pending ∧ (t.view g).out = t.out ∧ (t.view g).freeCtr = t.freeCtr ∧ (t.view g).clk = t.clk ∧
        (t.view g).regsRising = t.regsRising := by
      unfold State.view
      split <;> exact ⟨rfl, rfl, rfl, rfl, rfl⟩
    obtain ⟨v1, v2, v3, v4, v5⟩ := hv
    let G : State → State := fun x => { x with cmd := { x.cmd with bank := sel m 89 t.cmd.bank State.reset.cmd.bank, gen := sel m 90 t.cmd.gen State.reset.cmd.gen, under := sel m 91 t.cmd.under State.reset.cmd.under } }
    refine ⟨h.queue.trans v1, v2 ▸ h.out, v3 ▸ h.free, v4 ▸ h.time, fun x => h.regs (v5.trans x), ?_⟩
    have hG : G (erase m (t.view g)) = erase m t := by
      unfold State.view
      split <;> rfl
    exact (congrArg G h.rest).trans hG

/-- An update of the fabric's state. -/
theorem Within.updFab {m : Nat} {s t : State} {f : Fabric → Fabric} (h : Within m s t) (e : eraseFabric m (f t.fab) = eraseFabric' m t.fab) :
    Within m s (updFab f t) := by
  refine Within.put h (List.prefix_refl _) (Nat.le_refl _) (Nat.le_refl _) rfl rfl rfl ?_ rfl
  exact (congrArg (fun x => { erase m t with fab := x }) (e.trans (eraseFabric'_eq m t.fab))).trans (erase'_eq m t).symm

/-- An update of the clocks in which time does not go back. -/
theorem Within.updClk {m : Nat} {s t : State} {f : Clk → Clk} (h : Within m s t) (n : t.clk.now ≤ (f t.clk).now)
    (e : eraseClk m (f t.clk) = eraseClk' m t.clk) : Within m s (updClk f t) := by
  refine Within.put h (List.prefix_refl _) (Nat.le_refl _) n rfl rfl rfl ?_ rfl
  exact (congrArg (fun x => { erase m t with clk := x }) (e.trans (eraseClk'_eq m t.clk))).trans (erase'_eq m t).symm

/-- The free values that a look-ahead under another set drew are drawn. -/
theorem Within.drawn {m : Nat} {s t u : State} (h : Within m s t) (hm : sub 0x8 m = true) (k : t.freeCtr ≤ u.freeCtr) :
    Within m s { t with freeCtr := u.freeCtr } :=
  h.trans (Within.weaken hm (Within.put Within.refl (List.prefix_refl _) k (Nat.le_refl _) rfl rfl rfl rfl rfl))

theorem State.view_freeCtr {s : State} {g : Nat} : (s.view g).freeCtr = s.freeCtr := by
  unfold State.view
  split <;> rfl

theorem bank_rising {s : State} {a : Bool} (h : s.regsRising = true) : rfRising 0 (s.bank a) = true := by
  simp only [State.regsRising, Bool.and_eq_true] at h
  unfold State.bank
  split
  · exact h.2
  · exact h.1.2

/-- A bank is replaced by a register file in canonical form. -/
theorem State.setBank_within {s : State} {a : Bool} {f : RegFile} (hf : s.regsRising = true → rfRising 0 f = true) :
    Within 0xc000000000000 s (s.setBank a f) := by
  unfold State.setBank
  split
  · refine ⟨rfl, List.prefix_refl _, Nat.le_refl _, Nat.le_refl _, fun z => ?_, rfl⟩
    have k := hf z
    simp only [State.regsRising, Bool.and_eq_true] at z ⊢
    exact ⟨z.1, k⟩
  · refine ⟨rfl, List.prefix_refl _, Nat.le_refl _, Nat.le_refl _, fun z => ?_, rfl⟩
    have k := hf z
    simp only [State.regsRising, Bool.and_eq_true] at z ⊢
    exact ⟨⟨z.1.1, k⟩, z.2⟩

end Sys2Proof.Machine
end

