-- ==== Sys2Proof/Laws/Parts.lean ====
section
/-! SUPPORT. Parts of the state under `Within`: a part outside the mask is the same. -/

namespace Sys2Proof.Machine

/-- The places of a part in a mask. -/
def Part.mask : Part → Nat
  | .held => 0x4
  | .draws => 0x8
  | .clock => 0x3ffff0
  | .boot => 0x1ffffffc00000
  | .regs => 0x2000000000000
  | .sets => 0xf000000000c000000000000
  | .keys => 0xf0000000000000
  | .audit => 0x1f00000000000000
  | .access => 0x1e000000000000000
  | .fuses => 0xfe0000000000000000
  | .gates => 0x1000000000000000000
  | .faults => 0x2000000000000000000
  | .engines => 0x4000000000000000000
  | .memory => 0xf8000000000000000000
  | .ring => 0xff00000000000000000000
  | .counters => 0x100000000000000000000000
  | .dump => 0x7fe00000000000000000000000
  | .hostPorts => 0x80000000000000000000000000
  | .hostReqs => 0x300000000000000000000000000
  | .queues => 0x400000000000000000000000000
  | .pond => 0x1800000000000000000000000000
  | .doorbells => 0x6000000000000000000000000000
  | .contexts => 0x188000000000000000000000000000
  | .turns => 0x10000000000000000000000000000
  | .jobs => 0x60000000000000000000000000000
  | .events => 0x200000000000000000000000000000
  | .holdoffs => 0x400000000000000000000000000000
  | .asids => 0x800000000000000000000000000000
  | .caches => 0x3000000000000000000000000000000
  | .walks => 0x60c000000000000000000000000000000
  | .invals => 0x70000000000000000000000000000000
  | .pins => 0x180000000000000000000000000000000
  | .partitions => 0x800000000000000000000000000000000
  | .regions => 0x7000000000000000000000000000000000
  | .targets => 0x8000000000000000000000000000000000
  | .peers => 0x1f0000000000000000000000000000000000
  | .matching => 0xe00000000000000000000000000000000000
  | .locks => 0x7000000000000000000000000000000000000
  | .variables => 0x18000000000000000000000000000000000000
  | .groups => 0x20000000000000000000000000000000000000
  | .frames => 0x40000000000000000000000000000000000000
  | .stored => 0x1e0180000000000000000000000000000000000000
  | .egress => 0x200000000000000000000000000000000000000
  | .exceptions => 0x400000000000000000000000000000000000000
  | .vectors => 0x3800000000000000000000000000000000000000
  | .maps => 0x4000000000000000000000000000000000000000
  | .policers => 0x18000000000000000000000000000000000000000
  | .samples => 0x200000000000000000000000000000000000000000
  | .hops => 0xc00000000000000000000000000000000000000000
  | .suspects => 0x6000000000000000000000000000000000000000000
  | .ports => 0x8000000000000000000000000000000000000000000
  | .lanes => 0x10000000000000000000000000000000000000000000
  | .power => 0x20000000000000000000000000000000000000000000
  | .periods => 0x1000000000000000000000000000000000000000000

/-- The mask of the parts of a list. -/
def partMask : List Part → Nat
  | [] => 0
  | p :: l => p.mask ||| partMask l

theorem land_testBit {a b i : Nat} (h : Nat.land a b = 0) (k : b.testBit i = true) : a.testBit i = false := by
  have e : (a &&& b).testBit i = false := by rw [show a &&& b = 0 from h]; exact Nat.zero_testBit i
  rw [Nat.testBit_and, k, Bool.and_true] at e
  exact e

theorem sel_eq {α : Type} {m i : Nat} {a b d : α} (h : m.testBit i = false) (e : sel m i a d = sel m i b d) : a = b := by
  unfold sel at e
  rw [h] at e
  exact e

theorem Within.keeps_out {m : Nat} {s t : State} (h : Within m s t) (k : m.testBit 1 = false) : t.out = s.out :=
  sel_eq k (congrArg (fun x : State => x.out) h.rest)

theorem Within.keeps_heldOut {m : Nat} {s t : State} (h : Within m s t) (k : m.testBit 2 = false) : t.heldOut = s.heldOut :=
  sel_eq k (congrArg (fun x : State => x.heldOut) h.rest)

theorem Within.keeps_freeCtr {m : Nat} {s t : State} (h : Within m s t) (k : m.testBit 3 = false) : t.freeCtr = s.freeCtr :=
  sel_eq k (congrArg (fun x : State => x.freeCtr) h.rest)

theorem Within.keeps_clk_now {m : Nat} {s t : State} (h : Within m s t) (k : m.testBit 4 = false) : t.clk.now = s.clk.now :=
  sel_eq k (congrArg (fun x : State => x.clk.now) h.rest)

theorem Within.keeps_clk_dtime {m : Nat} {s t : State} (h : Within m s t) (k : m.testBit 5 = false) : t.clk.dtime = s.clk.dtime :=
  sel_eq k (congrArg (fun x : State => x.clk.dtime) h.rest)

theorem Within.keeps_clk_slew {m : Nat} {s t : State} (h : Within m s t) (k : m.testBit 6 = false) : t.clk.slew = s.clk.slew :=
  sel_eq k (congrArg (fun x : State => x.clk.slew) h.rest)

theorem Within.keeps_clk_refOk {m : Nat} {s t : State} (h : Within m s t) (k : m.testBit 7 = false) : t.clk.refOk = s.clk.refOk :=
  sel_eq k (congrArg (fun x : State => x.clk.refOk) h.rest)

theorem Within.keeps_clk_refAt {m : Nat} {s t : State} (h : Within m s t) (k : m.testBit 8 = false) : t.clk.refAt = s.clk.refAt :=
  sel_eq k (congrArg (fun x : State => x.clk.refAt) h.rest)

theorem Within.keeps_clk_refWait {m : Nat} {s t : State} (h : Within m s t) (k : m.testBit 9 = false) : t.clk.refWait = s.clk.refWait :=
  sel_eq k (congrArg (fun x : State => x.clk.refWait) h.rest)

theorem Within.keeps_clk_monitors {m : Nat} {s t : State} (h : Within m s t) (k : m.testBit 10 = false) : t.clk.monitors = s.clk.monitors :=
  sel_eq k (congrArg (fun x : State => x.clk.monitors) h.rest)

theorem Within.keeps_clk_tState {m : Nat} {s t : State} (h : Within m s t) (k : m.testBit 11 = false) : t.clk.tState = s.clk.tState :=
  sel_eq k (congrArg (fun x : State => x.clk.tState) h.rest)

theorem Within.keeps_clk_stratum {m : Nat} {s t : State} (h : Within m s t) (k : m.testBit 12 = false) : t.clk.stratum = s.clk.stratum :=
  sel_eq k (congrArg (fun x : State => x.clk.stratum) h.rest)

theorem Within.keeps_clk_delay {m : Nat} {s t : State} (h : Within m s t) (k : m.testBit 13 = false) : t.clk.delay = s.clk.delay :=
  sel_eq k (congrArg (fun x : State => x.clk.delay) h.rest)

theorem Within.keeps_clk_offset {m : Nat} {s t : State} (h : Within m s t) (k : m.testBit 14 = false) : t.clk.offset = s.clk.offset :=
  sel_eq k (congrArg (fun x : State => x.clk.offset) h.rest)

theorem Within.keeps_clk_exchAt {m : Nat} {s t : State} (h : Within m s t) (k : m.testBit 15 = false) : t.clk.exchAt = s.clk.exchAt :=
  sel_eq k (congrArg (fun x : State => x.clk.exchAt) h.rest)

theorem Within.keeps_clk_seq {m : Nat} {s t : State} (h : Within m s t) (k : m.testBit 16 = false) : t.clk.seq = s.clk.seq :=
  sel_eq k (congrArg (fun x : State => x.clk.seq) h.rest)

theorem Within.keeps_clk_reqAt {m : Nat} {s t : State} (h : Within m s t) (k : m.testBit 17 = false) : t.clk.reqAt = s.clk.reqAt :=
  sel_eq k (congrArg (fun x : State => x.clk.reqAt) h.rest)

theorem Within.keeps_clk_waiting {m : Nat} {s t : State} (h : Within m s t) (k : m.testBit 18 = false) : t.clk.waiting = s.clk.waiting :=
  sel_eq k (congrArg (fun x : State => x.clk.waiting) h.rest)

theorem Within.keeps_clk_runLength {m : Nat} {s t : State} (h : Within m s t) (k : m.testBit 19 = false) : t.clk.runLength = s.clk.runLength :=
  sel_eq k (congrArg (fun x : State => x.clk.runLength) h.rest)

theorem Within.keeps_clk_missed {m : Nat} {s t : State} (h : Within m s t) (k : m.testBit 20 = false) : t.clk.missed = s.clk.missed :=
  sel_eq k (congrArg (fun x : State => x.clk.missed) h.rest)

theorem Within.keeps_clk_outAt {m : Nat} {s t : State} (h : Within m s t) (k : m.testBit 21 = false) : t.clk.outAt = s.clk.outAt :=
  sel_eq k (congrArg (fun x : State => x.clk.outAt) h.rest)

theorem Within.keeps_sys_stage {m : Nat} {s t : State} (h : Within m s t) (k : m.testBit 22 = false) : t.sys.stage = s.sys.stage :=
  sel_eq k (congrArg (fun x : State => x.sys.stage) h.rest)

theorem Within.keeps_sys_error {m : Nat} {s t : State} (h : Within m s t) (k : m.testBit 23 = false) : t.sys.error = s.sys.error :=
  sel_eq k (congrArg (fun x : State => x.sys.error) h.rest)

theorem Within.keeps_sys_halt {m : Nat} {s t : State} (h : Within m s t) (k : m.testBit 24 = false) : t.sys.halt = s.sys.halt :=
  sel_eq k (congrArg (fun x : State => x.sys.halt) h.rest)

theorem Within.keeps_sys_bootCount {m : Nat} {s t : State} (h : Within m s t) (k : m.testBit 25 = false) : t.sys.bootCount = s.sys.bootCount :=
  sel_eq k (congrArg (fun x : State => x.sys.bootCount) h.rest)

theorem Within.keeps_sys_resetCause {m : Nat} {s t : State} (h : Within m s t) (k : m.testBit 26 = false) : t.sys.resetCause = s.sys.resetCause :=
  sel_eq k (congrArg (fun x : State => x.sys.resetCause) h.rest)

theorem Within.keeps_sys_warmCount {m : Nat} {s t : State} (h : Within m s t) (k : m.testBit 27 = false) : t.sys.warmCount = s.sys.warmCount :=
  sel_eq k (congrArg (fun x : State => x.sys.warmCount) h.rest)

theorem Within.keeps_sys_flashCount {m : Nat} {s t : State} (h : Within m s t) (k : m.testBit 28 = false) : t.sys.flashCount = s.sys.flashCount :=
  sel_eq k (congrArg (fun x : State => x.sys.flashCount) h.rest)

theorem Within.keeps_sys_deadbolt {m : Nat} {s t : State} (h : Within m s t) (k : m.testBit 29 = false) : t.sys.deadbolt = s.sys.deadbolt :=
  sel_eq k (congrArg (fun x : State => x.sys.deadbolt) h.rest)

theorem Within.keeps_sys_pwrOk {m : Nat} {s t : State} (h : Within m s t) (k : m.testBit 30 = false) : t.sys.pwrOk = s.sys.pwrOk :=
  sel_eq k (congrArg (fun x : State => x.sys.pwrOk) h.rest)

theorem Within.keeps_sys_pwrAt {m : Nat} {s t : State} (h : Within m s t) (k : m.testBit 31 = false) : t.sys.pwrAt = s.sys.pwrAt :=
  sel_eq k (congrArg (fun x : State => x.sys.pwrAt) h.rest)

theorem Within.keeps_sys_resetN {m : Nat} {s t : State} (h : Within m s t) (k : m.testBit 32 = false) : t.sys.resetN = s.sys.resetN :=
  sel_eq k (congrArg (fun x : State => x.sys.resetN) h.rest)

theorem Within.keeps_sys_bootSel {m : Nat} {s t : State} (h : Within m s t) (k : m.testBit 33 = false) : t.sys.bootSel = s.sys.bootSel :=
  sel_eq k (congrArg (fun x : State => x.sys.bootSel) h.rest)

theorem Within.keeps_sys_faultNForced {m : Nat} {s t : State} (h : Within m s t) (k : m.testBit 34 = false) : t.sys.faultNForced = s.sys.faultNForced :=
  sel_eq k (congrArg (fun x : State => x.sys.faultNForced) h.rest)

theorem Within.keeps_sys_railFault {m : Nat} {s t : State} (h : Within m s t) (k : m.testBit 35 = false) : t.sys.railFault = s.sys.railFault :=
  sel_eq k (congrArg (fun x : State => x.sys.railFault) h.rest)

theorem Within.keeps_sys_slots {m : Nat} {s t : State} (h : Within m s t) (k : m.testBit 36 = false) : t.sys.slots = s.sys.slots :=
  sel_eq k (congrArg (fun x : State => x.sys.slots) h.rest)

theorem Within.keeps_sys_running {m : Nat} {s t : State} (h : Within m s t) (k : m.testBit 37 = false) : t.sys.running = s.sys.running :=
  sel_eq k (congrArg (fun x : State => x.sys.running) h.rest)

theorem Within.keeps_sys_runVersion {m : Nat} {s t : State} (h : Within m s t) (k : m.testBit 38 = false) : t.sys.runVersion = s.sys.runVersion :=
  sel_eq k (congrArg (fun x : State => x.sys.runVersion) h.rest)

theorem Within.keeps_sys_runHeader {m : Nat} {s t : State} (h : Within m s t) (k : m.testBit 39 = false) : t.sys.runHeader = s.sys.runHeader :=
  sel_eq k (congrArg (fun x : State => x.sys.runHeader) h.rest)

theorem Within.keeps_sys_nextSlot {m : Nat} {s t : State} (h : Within m s t) (k : m.testBit 40 = false) : t.sys.nextSlot = s.sys.nextSlot :=
  sel_eq k (congrArg (fun x : State => x.sys.nextSlot) h.rest)

theorem Within.keeps_sys_hbmImage {m : Nat} {s t : State} (h : Within m s t) (k : m.testBit 41 = false) : t.sys.hbmImage = s.sys.hbmImage :=
  sel_eq k (congrArg (fun x : State => x.sys.hbmImage) h.rest)

theorem Within.keeps_sys_portsBefore {m : Nat} {s t : State} (h : Within m s t) (k : m.testBit 42 = false) : t.sys.portsBefore = s.sys.portsBefore :=
  sel_eq k (congrArg (fun x : State => x.sys.portsBefore) h.rest)

theorem Within.keeps_sys_acqAt {m : Nat} {s t : State} (h : Within m s t) (k : m.testBit 43 = false) : t.sys.acqAt = s.sys.acqAt :=
  sel_eq k (congrArg (fun x : State => x.sys.acqAt) h.rest)

theorem Within.keeps_sys_mctpImage {m : Nat} {s t : State} (h : Within m s t) (k : m.testBit 44 = false) : t.sys.mctpImage = s.sys.mctpImage :=
  sel_eq k (congrArg (fun x : State => x.sys.mctpImage) h.rest)

theorem Within.keeps_sys_mctpBytes {m : Nat} {s t : State} (h : Within m s t) (k : m.testBit 45 = false) : t.sys.mctpBytes = s.sys.mctpBytes :=
  sel_eq k (congrArg (fun x : State => x.sys.mctpBytes) h.rest)

theorem Within.keeps_sys_boot {m : Nat} {s t : State} (h : Within m s t) (k : m.testBit 46 = false) : t.sys.boot = s.sys.boot :=
  sel_eq k (congrArg (fun x : State => x.sys.boot) h.rest)

theorem Within.keeps_sys_silenced {m : Nat} {s t : State} (h : Within m s t) (k : m.testBit 47 = false) : t.sys.silenced = s.sys.silenced :=
  sel_eq k (congrArg (fun x : State => x.sys.silenced) h.rest)

theorem Within.keeps_sys_quiesced {m : Nat} {s t : State} (h : Within m s t) (k : m.testBit 48 = false) : t.sys.quiesced = s.sys.quiesced :=
  sel_eq k (congrArg (fun x : State => x.sys.quiesced) h.rest)

theorem Within.keeps_regs {m : Nat} {s t : State} (h : Within m s t) (k : m.testBit 49 = false) : t.regs = s.regs :=
  sel_eq k (congrArg (fun x : State => x.regs) h.rest)

theorem Within.keeps_bank0 {m : Nat} {s t : State} (h : Within m s t) (k : m.testBit 50 = false) : t.bank0 = s.bank0 :=
  sel_eq k (congrArg (fun x : State => x.bank0) h.rest)

theorem Within.keeps_bank1 {m : Nat} {s t : State} (h : Within m s t) (k : m.testBit 51 = false) : t.bank1 = s.bank1 :=
  sel_eq k (congrArg (fun x : State => x.bank1) h.rest)

theorem Within.keeps_sec_ownerKey {m : Nat} {s t : State} (h : Within m s t) (k : m.testBit 52 = false) : t.sec.ownerKey = s.sec.ownerKey :=
  sel_eq k (congrArg (fun x : State => x.sec.ownerKey) h.rest)

theorem Within.keeps_sec_fabricKey {m : Nat} {s t : State} (h : Within m s t) (k : m.testBit 53 = false) : t.sec.fabricKey = s.sec.fabricKey :=
  sel_eq k (congrArg (fun x : State => x.sec.fabricKey) h.rest)

theorem Within.keeps_sec_partKeys {m : Nat} {s t : State} (h : Within m s t) (k : m.testBit 54 = false) : t.sec.partKeys = s.sec.partKeys :=
  sel_eq k (congrArg (fun x : State => x.sec.partKeys) h.rest)

theorem Within.keeps_sec_keyBits {m : Nat} {s t : State} (h : Within m s t) (k : m.testBit 55 = false) : t.sec.keyBits = s.sec.keyBits :=
  sel_eq k (congrArg (fun x : State => x.sec.keyBits) h.rest)

theorem Within.keeps_sec_unread {m : Nat} {s t : State} (h : Within m s t) (k : m.testBit 56 = false) : t.sec.unread = s.sec.unread :=
  sel_eq k (congrArg (fun x : State => x.sec.unread) h.rest)

theorem Within.keeps_sec_lost {m : Nat} {s t : State} (h : Within m s t) (k : m.testBit 57 = false) : t.sec.lost = s.sec.lost :=
  sel_eq k (congrArg (fun x : State => x.sec.lost) h.rest)

theorem Within.keeps_sec_nextSeq {m : Nat} {s t : State} (h : Within m s t) (k : m.testBit 58 = false) : t.sec.nextSeq = s.sec.nextSeq :=
  sel_eq k (congrArg (fun x : State => x.sec.nextSeq) h.rest)

theorem Within.keeps_sec_lastMac {m : Nat} {s t : State} (h : Within m s t) (k : m.testBit 59 = false) : t.sec.lastMac = s.sec.lastMac :=
  sel_eq k (congrArg (fun x : State => x.sec.lastMac) h.rest)

theorem Within.keeps_sec_lossNoted {m : Nat} {s t : State} (h : Within m s t) (k : m.testBit 60 = false) : t.sec.lossNoted = s.sec.lossNoted :=
  sel_eq k (congrArg (fun x : State => x.sec.lossNoted) h.rest)

theorem Within.keeps_sec_debugUnlocked {m : Nat} {s t : State} (h : Within m s t) (k : m.testBit 61 = false) : t.sec.debugUnlocked = s.sec.debugUnlocked :=
  sel_eq k (congrArg (fun x : State => x.sec.debugUnlocked) h.rest)

theorem Within.keeps_sec_fails {m : Nat} {s t : State} (h : Within m s t) (k : m.testBit 62 = false) : t.sec.fails = s.sec.fails :=
  sel_eq k (congrArg (fun x : State => x.sec.fails) h.rest)

theorem Within.keeps_sec_unlockShut {m : Nat} {s t : State} (h : Within m s t) (k : m.testBit 63 = false) : t.sec.unlockShut = s.sec.unlockShut :=
  sel_eq k (congrArg (fun x : State => x.sec.unlockShut) h.rest)

theorem Within.keeps_sec_sessions {m : Nat} {s t : State} (h : Within m s t) (k : m.testBit 64 = false) : t.sec.sessions = s.sec.sessions :=
  sel_eq k (congrArg (fun x : State => x.sec.sessions) h.rest)

theorem Within.keeps_sec_svn {m : Nat} {s t : State} (h : Within m s t) (k : m.testBit 65 = false) : t.sec.svn = s.sec.svn :=
  sel_eq k (congrArg (fun x : State => x.sec.svn) h.rest)

theorem Within.keeps_sec_revoke {m : Nat} {s t : State} (h : Within m s t) (k : m.testBit 66 = false) : t.sec.revoke = s.sec.revoke :=
  sel_eq k (congrArg (fun x : State => x.sec.revoke) h.rest)

theorem Within.keeps_sec_rootHash {m : Nat} {s t : State} (h : Within m s t) (k : m.testBit 67 = false) : t.sec.rootHash = s.sec.rootHash :=
  sel_eq k (congrArg (fun x : State => x.sec.rootHash) h.rest)

theorem Within.keeps_sec_tamperCount {m : Nat} {s t : State} (h : Within m s t) (k : m.testBit 68 = false) : t.sec.tamperCount = s.sec.tamperCount :=
  sel_eq k (congrArg (fun x : State => x.sec.tamperCount) h.rest)

theorem Within.keeps_sec_secureBoot {m : Nat} {s t : State} (h : Within m s t) (k : m.testBit 69 = false) : t.sec.secureBoot = s.sec.secureBoot :=
  sel_eq k (congrArg (fun x : State => x.sec.secureBoot) h.rest)

theorem Within.keeps_sec_uid {m : Nat} {s t : State} (h : Within m s t) (k : m.testBit 70 = false) : t.sec.uid = s.sec.uid :=
  sel_eq k (congrArg (fun x : State => x.sec.uid) h.rest)

theorem Within.keeps_sec_bootSelCold {m : Nat} {s t : State} (h : Within m s t) (k : m.testBit 71 = false) : t.sec.bootSelCold = s.sec.bootSelCold :=
  sel_eq k (congrArg (fun x : State => x.sec.bootSelCold) h.rest)

theorem Within.keeps_gates {m : Nat} {s t : State} (h : Within m s t) (k : m.testBit 72 = false) : t.gates = s.gates :=
  sel_eq k (congrArg (fun x : State => x.gates) h.rest)

theorem Within.keeps_pend {m : Nat} {s t : State} (h : Within m s t) (k : m.testBit 73 = false) : t.pend = s.pend :=
  sel_eq k (congrArg (fun x : State => x.pend) h.rest)

theorem Within.keeps_engines {m : Nat} {s t : State} (h : Within m s t) (k : m.testBit 74 = false) : t.engines = s.engines :=
  sel_eq k (congrArg (fun x : State => x.engines) h.rest)

theorem Within.keeps_mem_retiredPairs {m : Nat} {s t : State} (h : Within m s t) (k : m.testBit 75 = false) : t.mem.retiredPairs = s.mem.retiredPairs :=
  sel_eq k (congrArg (fun x : State => x.mem.retiredPairs) h.rest)

theorem Within.keeps_mem_migrating {m : Nat} {s t : State} (h : Within m s t) (k : m.testBit 76 = false) : t.mem.migrating = s.mem.migrating :=
  sel_eq k (congrArg (fun x : State => x.mem.migrating) h.rest)

theorem Within.keeps_mem_remaining {m : Nat} {s t : State} (h : Within m s t) (k : m.testBit 77 = false) : t.mem.remaining = s.mem.remaining :=
  sel_eq k (congrArg (fun x : State => x.mem.remaining) h.rest)

theorem Within.keeps_mem_testing {m : Nat} {s t : State} (h : Within m s t) (k : m.testBit 78 = false) : t.mem.testing = s.mem.testing :=
  sel_eq k (congrArg (fun x : State => x.mem.testing) h.rest)

theorem Within.keeps_mem_lostCells {m : Nat} {s t : State} (h : Within m s t) (k : m.testBit 79 = false) : t.mem.lostCells = s.mem.lostCells :=
  sel_eq k (congrArg (fun x : State => x.mem.lostCells) h.rest)

theorem Within.keeps_cmd_next {m : Nat} {s t : State} (h : Within m s t) (k : m.testBit 80 = false) : t.cmd.next = s.cmd.next :=
  sel_eq k (congrArg (fun x : State => x.cmd.next) h.rest)

theorem Within.keeps_cmd_doneAhead {m : Nat} {s t : State} (h : Within m s t) (k : m.testBit 81 = false) : t.cmd.doneAhead = s.cmd.doneAhead :=
  sel_eq k (congrArg (fun x : State => x.cmd.doneAhead) h.rest)

theorem Within.keeps_cmd_begun {m : Nat} {s t : State} (h : Within m s t) (k : m.testBit 82 = false) : t.cmd.begun = s.cmd.begun :=
  sel_eq k (congrArg (fun x : State => x.cmd.begun) h.rest)

theorem Within.keeps_cmd_remote {m : Nat} {s t : State} (h : Within m s t) (k : m.testBit 83 = false) : t.cmd.remote = s.cmd.remote :=
  sel_eq k (congrArg (fun x : State => x.cmd.remote) h.rest)

theorem Within.keeps_cmd_outside {m : Nat} {s t : State} (h : Within m s t) (k : m.testBit 84 = false) : t.cmd.outside = s.cmd.outside :=
  sel_eq k (congrArg (fun x : State => x.cmd.outside) h.rest)

theorem Within.keeps_cmd_gateWaits {m : Nat} {s t : State} (h : Within m s t) (k : m.testBit 85 = false) : t.cmd.gateWaits = s.cmd.gateWaits :=
  sel_eq k (congrArg (fun x : State => x.cmd.gateWaits) h.rest)

theorem Within.keeps_cmd_working {m : Nat} {s t : State} (h : Within m s t) (k : m.testBit 86 = false) : t.cmd.working = s.cmd.working :=
  sel_eq k (congrArg (fun x : State => x.cmd.working) h.rest)

theorem Within.keeps_cmd_nextSeq {m : Nat} {s t : State} (h : Within m s t) (k : m.testBit 87 = false) : t.cmd.nextSeq = s.cmd.nextSeq :=
  sel_eq k (congrArg (fun x : State => x.cmd.nextSeq) h.rest)

theorem Within.keeps_cmd_shadow {m : Nat} {s t : State} (h : Within m s t) (k : m.testBit 88 = false) : t.cmd.shadow = s.cmd.shadow :=
  sel_eq k (congrArg (fun x : State => x.cmd.shadow) h.rest)

theorem Within.keeps_cmd_bank {m : Nat} {s t : State} (h : Within m s t) (k : m.testBit 89 = false) : t.cmd.bank = s.cmd.bank :=
  sel_eq k (congrArg (fun x : State => x.cmd.bank) h.rest)

theorem Within.keeps_cmd_gen {m : Nat} {s t : State} (h : Within m s t) (k : m.testBit 90 = false) : t.cmd.gen = s.cmd.gen :=
  sel_eq k (congrArg (fun x : State => x.cmd.gen) h.rest)

theorem Within.keeps_cmd_under {m : Nat} {s t : State} (h : Within m s t) (k : m.testBit 91 = false) : t.cmd.under = s.cmd.under :=
  sel_eq k (congrArg (fun x : State => x.cmd.under) h.rest)

theorem Within.keeps_counters {m : Nat} {s t : State} (h : Within m s t) (k : m.testBit 92 = false) : t.counters = s.counters :=
  sel_eq k (congrArg (fun x : State => x.counters) h.rest)

theorem Within.keeps_dump_lastT {m : Nat} {s t : State} (h : Within m s t) (k : m.testBit 93 = false) : t.dump.lastT = s.dump.lastT :=
  sel_eq k (congrArg (fun x : State => x.dump.lastT) h.rest)

theorem Within.keeps_dump_nextSeq {m : Nat} {s t : State} (h : Within m s t) (k : m.testBit 94 = false) : t.dump.nextSeq = s.dump.nextSeq :=
  sel_eq k (congrArg (fun x : State => x.dump.nextSeq) h.rest)

theorem Within.keeps_dump_skipped {m : Nat} {s t : State} (h : Within m s t) (k : m.testBit 95 = false) : t.dump.skipped = s.dump.skipped :=
  sel_eq k (congrArg (fun x : State => x.dump.skipped) h.rest)

theorem Within.keeps_dump_skippedSince {m : Nat} {s t : State} (h : Within m s t) (k : m.testBit 96 = false) : t.dump.skippedSince = s.dump.skippedSince :=
  sel_eq k (congrArg (fun x : State => x.dump.skippedSince) h.rest)

theorem Within.keeps_dump_carried {m : Nat} {s t : State} (h : Within m s t) (k : m.testBit 97 = false) : t.dump.carried = s.dump.carried :=
  sel_eq k (congrArg (fun x : State => x.dump.carried) h.rest)

theorem Within.keeps_dump_writing {m : Nat} {s t : State} (h : Within m s t) (k : m.testBit 98 = false) : t.dump.writing = s.dump.writing :=
  sel_eq k (congrArg (fun x : State => x.dump.writing) h.rest)

theorem Within.keeps_dump_pendingCap {m : Nat} {s t : State} (h : Within m s t) (k : m.testBit 99 = false) : t.dump.pendingCap = s.dump.pendingCap :=
  sel_eq k (congrArg (fun x : State => x.dump.pendingCap) h.rest)

theorem Within.keeps_dump_sPi {m : Nat} {s t : State} (h : Within m s t) (k : m.testBit 100 = false) : t.dump.sPi = s.dump.sPi :=
  sel_eq k (congrArg (fun x : State => x.dump.sPi) h.rest)

theorem Within.keeps_dump_sCi {m : Nat} {s t : State} (h : Within m s t) (k : m.testBit 101 = false) : t.dump.sCi = s.dump.sCi :=
  sel_eq k (congrArg (fun x : State => x.dump.sCi) h.rest)

theorem Within.keeps_dump_vecArmed {m : Nat} {s t : State} (h : Within m s t) (k : m.testBit 102 = false) : t.dump.vecArmed = s.dump.vecArmed :=
  sel_eq k (congrArg (fun x : State => x.dump.vecArmed) h.rest)

theorem Within.keeps_hif_ports {m : Nat} {s t : State} (h : Within m s t) (k : m.testBit 103 = false) : t.hif.ports = s.hif.ports :=
  sel_eq k (congrArg (fun x : State => x.hif.ports) h.rest)

theorem Within.keeps_hif_reqs {m : Nat} {s t : State} (h : Within m s t) (k : m.testBit 104 = false) : t.hif.reqs = s.hif.reqs :=
  sel_eq k (congrArg (fun x : State => x.hif.reqs) h.rest)

theorem Within.keeps_hif_nextReq {m : Nat} {s t : State} (h : Within m s t) (k : m.testBit 105 = false) : t.hif.nextReq = s.hif.nextReq :=
  sel_eq k (congrArg (fun x : State => x.hif.nextReq) h.rest)

theorem Within.keeps_qmg_queues {m : Nat} {s t : State} (h : Within m s t) (k : m.testBit 106 = false) : t.qmg.queues = s.qmg.queues :=
  sel_eq k (congrArg (fun x : State => x.qmg.queues) h.rest)

theorem Within.keeps_qmg_pond {m : Nat} {s t : State} (h : Within m s t) (k : m.testBit 107 = false) : t.qmg.pond = s.qmg.pond :=
  sel_eq k (congrArg (fun x : State => x.qmg.pond) h.rest)

theorem Within.keeps_qmg_asleep {m : Nat} {s t : State} (h : Within m s t) (k : m.testBit 108 = false) : t.qmg.asleep = s.qmg.asleep :=
  sel_eq k (congrArg (fun x : State => x.qmg.asleep) h.rest)

theorem Within.keeps_qmg_heldDb {m : Nat} {s t : State} (h : Within m s t) (k : m.testBit 109 = false) : t.qmg.heldDb = s.qmg.heldDb :=
  sel_eq k (congrArg (fun x : State => x.qmg.heldDb) h.rest)

theorem Within.keeps_qmg_stalled {m : Nat} {s t : State} (h : Within m s t) (k : m.testBit 110 = false) : t.qmg.stalled = s.qmg.stalled :=
  sel_eq k (congrArg (fun x : State => x.qmg.stalled) h.rest)

theorem Within.keeps_qmg_journal {m : Nat} {s t : State} (h : Within m s t) (k : m.testBit 111 = false) : t.qmg.journal = s.qmg.journal :=
  sel_eq k (congrArg (fun x : State => x.qmg.journal) h.rest)

theorem Within.keeps_qmg_wrr {m : Nat} {s t : State} (h : Within m s t) (k : m.testBit 112 = false) : t.qmg.wrr = s.qmg.wrr :=
  sel_eq k (congrArg (fun x : State => x.qmg.wrr) h.rest)

theorem Within.keeps_qmg_jobs {m : Nat} {s t : State} (h : Within m s t) (k : m.testBit 113 = false) : t.qmg.jobs = s.qmg.jobs :=
  sel_eq k (congrArg (fun x : State => x.qmg.jobs) h.rest)

theorem Within.keeps_qmg_nextJid {m : Nat} {s t : State} (h : Within m s t) (k : m.testBit 114 = false) : t.qmg.nextJid = s.qmg.nextJid :=
  sel_eq k (congrArg (fun x : State => x.qmg.nextJid) h.rest)

theorem Within.keeps_qmg_useClock {m : Nat} {s t : State} (h : Within m s t) (k : m.testBit 115 = false) : t.qmg.useClock = s.qmg.useClock :=
  sel_eq k (congrArg (fun x : State => x.qmg.useClock) h.rest)

theorem Within.keeps_qmg_evictRun {m : Nat} {s t : State} (h : Within m s t) (k : m.testBit 116 = false) : t.qmg.evictRun = s.qmg.evictRun :=
  sel_eq k (congrArg (fun x : State => x.qmg.evictRun) h.rest)

theorem Within.keeps_qmg_epEq {m : Nat} {s t : State} (h : Within m s t) (k : m.testBit 117 = false) : t.qmg.epEq = s.qmg.epEq :=
  sel_eq k (congrArg (fun x : State => x.qmg.epEq) h.rest)

theorem Within.keeps_qmg_holdoffs {m : Nat} {s t : State} (h : Within m s t) (k : m.testBit 118 = false) : t.qmg.holdoffs = s.qmg.holdoffs :=
  sel_eq k (congrArg (fun x : State => x.qmg.holdoffs) h.rest)

theorem Within.keeps_xlt_asids {m : Nat} {s t : State} (h : Within m s t) (k : m.testBit 119 = false) : t.xlt.asids = s.xlt.asids :=
  sel_eq k (congrArg (fun x : State => x.xlt.asids) h.rest)

theorem Within.keeps_xlt_tlb {m : Nat} {s t : State} (h : Within m s t) (k : m.testBit 120 = false) : t.xlt.tlb = s.xlt.tlb :=
  sel_eq k (congrArg (fun x : State => x.xlt.tlb) h.rest)

theorem Within.keeps_xlt_wc {m : Nat} {s t : State} (h : Within m s t) (k : m.testBit 121 = false) : t.xlt.wc = s.xlt.wc :=
  sel_eq k (congrArg (fun x : State => x.xlt.wc) h.rest)

theorem Within.keeps_xlt_walks {m : Nat} {s t : State} (h : Within m s t) (k : m.testBit 122 = false) : t.xlt.walks = s.xlt.walks :=
  sel_eq k (congrArg (fun x : State => x.xlt.walks) h.rest)

theorem Within.keeps_xlt_nextWalk {m : Nat} {s t : State} (h : Within m s t) (k : m.testBit 123 = false) : t.xlt.nextWalk = s.xlt.nextWalk :=
  sel_eq k (congrArg (fun x : State => x.xlt.nextWalk) h.rest)

theorem Within.keeps_xlt_invals {m : Nat} {s t : State} (h : Within m s t) (k : m.testBit 124 = false) : t.xlt.invals = s.xlt.invals :=
  sel_eq k (congrArg (fun x : State => x.xlt.invals) h.rest)

theorem Within.keeps_xlt_invalDone {m : Nat} {s t : State} (h : Within m s t) (k : m.testBit 125 = false) : t.xlt.invalDone = s.xlt.invalDone :=
  sel_eq k (congrArg (fun x : State => x.xlt.invalDone) h.rest)

theorem Within.keeps_xlt_nextInval {m : Nat} {s t : State} (h : Within m s t) (k : m.testBit 126 = false) : t.xlt.nextInval = s.xlt.nextInval :=
  sel_eq k (congrArg (fun x : State => x.xlt.nextInval) h.rest)

theorem Within.keeps_xlt_pinned {m : Nat} {s t : State} (h : Within m s t) (k : m.testBit 127 = false) : t.xlt.pinned = s.xlt.pinned :=
  sel_eq k (congrArg (fun x : State => x.xlt.pinned) h.rest)

theorem Within.keeps_xlt_nextTok {m : Nat} {s t : State} (h : Within m s t) (k : m.testBit 128 = false) : t.xlt.nextTok = s.xlt.nextTok :=
  sel_eq k (congrArg (fun x : State => x.xlt.nextTok) h.rest)

theorem Within.keeps_xlt_lastFault {m : Nat} {s t : State} (h : Within m s t) (k : m.testBit 129 = false) : t.xlt.lastFault = s.xlt.lastFault :=
  sel_eq k (congrArg (fun x : State => x.xlt.lastFault) h.rest)

theorem Within.keeps_xlt_faulted {m : Nat} {s t : State} (h : Within m s t) (k : m.testBit 130 = false) : t.xlt.faulted = s.xlt.faulted :=
  sel_eq k (congrArg (fun x : State => x.xlt.faulted) h.rest)

theorem Within.keeps_rma_partitions {m : Nat} {s t : State} (h : Within m s t) (k : m.testBit 131 = false) : t.rma.partitions = s.rma.partitions :=
  sel_eq k (congrArg (fun x : State => x.rma.partitions) h.rest)

theorem Within.keeps_rma_regions {m : Nat} {s t : State} (h : Within m s t) (k : m.testBit 132 = false) : t.rma.regions = s.rma.regions :=
  sel_eq k (congrArg (fun x : State => x.rma.regions) h.rest)

theorem Within.keeps_rma_fresh {m : Nat} {s t : State} (h : Within m s t) (k : m.testBit 133 = false) : t.rma.fresh = s.rma.fresh :=
  sel_eq k (congrArg (fun x : State => x.rma.fresh) h.rest)

theorem Within.keeps_rma_freed {m : Nat} {s t : State} (h : Within m s t) (k : m.testBit 134 = false) : t.rma.freed = s.rma.freed :=
  sel_eq k (congrArg (fun x : State => x.rma.freed) h.rest)

theorem Within.keeps_rma_targets {m : Nat} {s t : State} (h : Within m s t) (k : m.testBit 135 = false) : t.rma.targets = s.rma.targets :=
  sel_eq k (congrArg (fun x : State => x.rma.targets) h.rest)

theorem Within.keeps_trn_peers {m : Nat} {s t : State} (h : Within m s t) (k : m.testBit 136 = false) : t.trn.peers = s.trn.peers :=
  sel_eq k (congrArg (fun x : State => x.trn.peers) h.rest)

theorem Within.keeps_trn_openCount {m : Nat} {s t : State} (h : Within m s t) (k : m.testBit 137 = false) : t.trn.openCount = s.trn.openCount :=
  sel_eq k (congrArg (fun x : State => x.trn.openCount) h.rest)

theorem Within.keeps_trn_logItems {m : Nat} {s t : State} (h : Within m s t) (k : m.testBit 138 = false) : t.trn.logItems = s.trn.logItems :=
  sel_eq k (congrArg (fun x : State => x.trn.logItems) h.rest)

theorem Within.keeps_trn_waiting {m : Nat} {s t : State} (h : Within m s t) (k : m.testBit 139 = false) : t.trn.waiting = s.trn.waiting :=
  sel_eq k (congrArg (fun x : State => x.trn.waiting) h.rest)

theorem Within.keeps_trn_opens {m : Nat} {s t : State} (h : Within m s t) (k : m.testBit 140 = false) : t.trn.opens = s.trn.opens :=
  sel_eq k (congrArg (fun x : State => x.trn.opens) h.rest)

theorem Within.keeps_svc_ctxs {m : Nat} {s t : State} (h : Within m s t) (k : m.testBit 141 = false) : t.svc.ctxs = s.svc.ctxs :=
  sel_eq k (congrArg (fun x : State => x.svc.ctxs) h.rest)

theorem Within.keeps_svc_unexpLost {m : Nat} {s t : State} (h : Within m s t) (k : m.testBit 142 = false) : t.svc.unexpLost = s.svc.unexpLost :=
  sel_eq k (congrArg (fun x : State => x.svc.unexpLost) h.rest)

theorem Within.keeps_svc_rndvs {m : Nat} {s t : State} (h : Within m s t) (k : m.testBit 143 = false) : t.svc.rndvs = s.svc.rndvs :=
  sel_eq k (congrArg (fun x : State => x.svc.rndvs) h.rest)

theorem Within.keeps_svc_locks {m : Nat} {s t : State} (h : Within m s t) (k : m.testBit 144 = false) : t.svc.locks = s.svc.locks :=
  sel_eq k (congrArg (fun x : State => x.svc.locks) h.rest)

theorem Within.keeps_svc_lockRecs {m : Nat} {s t : State} (h : Within m s t) (k : m.testBit 145 = false) : t.svc.lockRecs = s.svc.lockRecs :=
  sel_eq k (congrArg (fun x : State => x.svc.lockRecs) h.rest)

theorem Within.keeps_svc_boosts {m : Nat} {s t : State} (h : Within m s t) (k : m.testBit 146 = false) : t.svc.boosts = s.svc.boosts :=
  sel_eq k (congrArg (fun x : State => x.svc.boosts) h.rest)

theorem Within.keeps_svc_varRuns {m : Nat} {s t : State} (h : Within m s t) (k : m.testBit 147 = false) : t.svc.varRuns = s.svc.varRuns :=
  sel_eq k (congrArg (fun x : State => x.svc.varRuns) h.rest)

theorem Within.keeps_svc_vars {m : Nat} {s t : State} (h : Within m s t) (k : m.testBit 148 = false) : t.svc.vars = s.svc.vars :=
  sel_eq k (congrArg (fun x : State => x.svc.vars) h.rest)

theorem Within.keeps_svc_groups {m : Nat} {s t : State} (h : Within m s t) (k : m.testBit 149 = false) : t.svc.groups = s.svc.groups :=
  sel_eq k (congrArg (fun x : State => x.svc.groups) h.rest)

theorem Within.keeps_svc_frames {m : Nat} {s t : State} (h : Within m s t) (k : m.testBit 150 = false) : t.svc.frames = s.svc.frames :=
  sel_eq k (congrArg (fun x : State => x.svc.frames) h.rest)

theorem Within.keeps_fab_stored {m : Nat} {s t : State} (h : Within m s t) (k : m.testBit 151 = false) : t.fab.stored = s.fab.stored :=
  sel_eq k (congrArg (fun x : State => x.fab.stored) h.rest)

theorem Within.keeps_fab_nextPid {m : Nat} {s t : State} (h : Within m s t) (k : m.testBit 152 = false) : t.fab.nextPid = s.fab.nextPid :=
  sel_eq k (congrArg (fun x : State => x.fab.nextPid) h.rest)

theorem Within.keeps_fab_egress {m : Nat} {s t : State} (h : Within m s t) (k : m.testBit 153 = false) : t.fab.egress = s.fab.egress :=
  sel_eq k (congrArg (fun x : State => x.fab.egress) h.rest)

theorem Within.keeps_fab_exc {m : Nat} {s t : State} (h : Within m s t) (k : m.testBit 154 = false) : t.fab.exc = s.fab.exc :=
  sel_eq k (congrArg (fun x : State => x.fab.exc) h.rest)

theorem Within.keeps_fab_vectors {m : Nat} {s t : State} (h : Within m s t) (k : m.testBit 155 = false) : t.fab.vectors = s.fab.vectors :=
  sel_eq k (congrArg (fun x : State => x.fab.vectors) h.rest)

theorem Within.keeps_fab_vecSeq {m : Nat} {s t : State} (h : Within m s t) (k : m.testBit 156 = false) : t.fab.vecSeq = s.fab.vecSeq :=
  sel_eq k (congrArg (fun x : State => x.fab.vecSeq) h.rest)

theorem Within.keeps_fab_vecLast {m : Nat} {s t : State} (h : Within m s t) (k : m.testBit 157 = false) : t.fab.vecLast = s.fab.vecLast :=
  sel_eq k (congrArg (fun x : State => x.fab.vecLast) h.rest)

theorem Within.keeps_fab_mapSeq {m : Nat} {s t : State} (h : Within m s t) (k : m.testBit 158 = false) : t.fab.mapSeq = s.fab.mapSeq :=
  sel_eq k (congrArg (fun x : State => x.fab.mapSeq) h.rest)

theorem Within.keeps_fab_policers {m : Nat} {s t : State} (h : Within m s t) (k : m.testBit 159 = false) : t.fab.policers = s.fab.policers :=
  sel_eq k (congrArg (fun x : State => x.fab.policers) h.rest)

theorem Within.keeps_fab_deferred {m : Nat} {s t : State} (h : Within m s t) (k : m.testBit 160 = false) : t.fab.deferred = s.fab.deferred :=
  sel_eq k (congrArg (fun x : State => x.fab.deferred) h.rest)

theorem Within.keeps_fab_inject {m : Nat} {s t : State} (h : Within m s t) (k : m.testBit 161 = false) : t.fab.inject = s.fab.inject :=
  sel_eq k (congrArg (fun x : State => x.fab.inject) h.rest)

theorem Within.keeps_fab_handed {m : Nat} {s t : State} (h : Within m s t) (k : m.testBit 162 = false) : t.fab.handed = s.fab.handed :=
  sel_eq k (congrArg (fun x : State => x.fab.handed) h.rest)

theorem Within.keeps_fab_passing {m : Nat} {s t : State} (h : Within m s t) (k : m.testBit 163 = false) : t.fab.passing = s.fab.passing :=
  sel_eq k (congrArg (fun x : State => x.fab.passing) h.rest)

theorem Within.keeps_fab_operands {m : Nat} {s t : State} (h : Within m s t) (k : m.testBit 164 = false) : t.fab.operands = s.fab.operands :=
  sel_eq k (congrArg (fun x : State => x.fab.operands) h.rest)

theorem Within.keeps_fab_samples {m : Nat} {s t : State} (h : Within m s t) (k : m.testBit 165 = false) : t.fab.samples = s.fab.samples :=
  sel_eq k (congrArg (fun x : State => x.fab.samples) h.rest)

theorem Within.keeps_fab_hops {m : Nat} {s t : State} (h : Within m s t) (k : m.testBit 166 = false) : t.fab.hops = s.fab.hops :=
  sel_eq k (congrArg (fun x : State => x.fab.hops) h.rest)

theorem Within.keeps_fab_pins {m : Nat} {s t : State} (h : Within m s t) (k : m.testBit 167 = false) : t.fab.pins = s.fab.pins :=
  sel_eq k (congrArg (fun x : State => x.fab.pins) h.rest)

theorem Within.keeps_fab_ticks {m : Nat} {s t : State} (h : Within m s t) (k : m.testBit 168 = false) : t.fab.ticks = s.fab.ticks :=
  sel_eq k (congrArg (fun x : State => x.fab.ticks) h.rest)

theorem Within.keeps_fab_dead {m : Nat} {s t : State} (h : Within m s t) (k : m.testBit 169 = false) : t.fab.dead = s.fab.dead :=
  sel_eq k (congrArg (fun x : State => x.fab.dead) h.rest)

theorem Within.keeps_fab_suspects {m : Nat} {s t : State} (h : Within m s t) (k : m.testBit 170 = false) : t.fab.suspects = s.fab.suspects :=
  sel_eq k (congrArg (fun x : State => x.fab.suspects) h.rest)

theorem Within.keeps_fab_ports {m : Nat} {s t : State} (h : Within m s t) (k : m.testBit 171 = false) : t.fab.ports = s.fab.ports :=
  sel_eq k (congrArg (fun x : State => x.fab.ports) h.rest)

theorem Within.keeps_fab_lanes {m : Nat} {s t : State} (h : Within m s t) (k : m.testBit 172 = false) : t.fab.lanes = s.fab.lanes :=
  sel_eq k (congrArg (fun x : State => x.fab.lanes) h.rest)

theorem Within.keeps_fab_pwr {m : Nat} {s t : State} (h : Within m s t) (k : m.testBit 173 = false) : t.fab.pwr = s.fab.pwr :=
  sel_eq k (congrArg (fun x : State => x.fab.pwr) h.rest)

/-- A part whose places are outside the mask is the same. -/
theorem Within.same {m : Nat} {s t : State} (h : Within m s t) : ∀ p : Part, Nat.land m p.mask = 0 → p.same s t
  | .held, k => h.keeps_heldOut (land_testBit k rfl)
  | .draws, k => h.keeps_freeCtr (land_testBit k rfl)
  | .clock, k => ⟨h.keeps_clk_now (land_testBit k rfl), h.keeps_clk_dtime (land_testBit k rfl), h.keeps_clk_slew (land_testBit k rfl), h.keeps_clk_refOk (land_testBit k rfl), h.keeps_clk_refAt (land_testBit k rfl), h.keeps_clk_refWait (land_testBit k rfl), h.keeps_clk_monitors (land_testBit k rfl), h.keeps_clk_tState (land_testBit k rfl), h.keeps_clk_stratum (land_testBit k rfl), h.keeps_clk_delay (land_testBit k rfl), h.keeps_clk_offset (land_testBit k rfl), h.keeps_clk_exchAt (land_testBit k rfl), h.keeps_clk_seq (land_testBit k rfl), h.keeps_clk_reqAt (land_testBit k rfl), h.keeps_clk_waiting (land_testBit k rfl), h.keeps_clk_runLength (land_testBit k rfl), h.keeps_clk_missed (land_testBit k rfl), h.keeps_clk_outAt (land_testBit k rfl)⟩
  | .boot, k => ⟨h.keeps_sys_stage (land_testBit k rfl), h.keeps_sys_error (land_testBit k rfl), h.keeps_sys_halt (land_testBit k rfl), h.keeps_sys_bootCount (land_testBit k rfl), h.keeps_sys_resetCause (land_testBit k rfl), h.keeps_sys_warmCount (land_testBit k rfl), h.keeps_sys_flashCount (land_testBit k rfl), h.keeps_sys_deadbolt (land_testBit k rfl), h.keeps_sys_pwrOk (land_testBit k rfl), h.keeps_sys_pwrAt (land_testBit k rfl), h.keeps_sys_resetN (land_testBit k rfl), h.keeps_sys_bootSel (land_testBit k rfl), h.keeps_sys_faultNForced (land_testBit k rfl), h.keeps_sys_railFault (land_testBit k rfl), h.keeps_sys_slots (land_testBit k rfl), h.keeps_sys_running (land_testBit k rfl), h.keeps_sys_runVersion (land_testBit k rfl), h.keeps_sys_runHeader (land_testBit k rfl), h.keeps_sys_nextSlot (land_testBit k rfl), h.keeps_sys_hbmImage (land_testBit k rfl), h.keeps_sys_portsBefore (land_testBit k rfl), h.keeps_sys_acqAt (land_testBit k rfl), h.keeps_sys_mctpImage (land_testBit k rfl), h.keeps_sys_mctpBytes (land_testBit k rfl), h.keeps_sys_boot (land_testBit k rfl), h.keeps_sys_silenced (land_testBit k rfl), h.keeps_sys_quiesced (land_testBit k rfl)⟩
  | .regs, k => h.keeps_regs (land_testBit k rfl)
  | .sets, k => ⟨h.keeps_bank0 (land_testBit k rfl), h.keeps_bank1 (land_testBit k rfl), h.keeps_cmd_shadow (land_testBit k rfl), h.keeps_cmd_bank (land_testBit k rfl), h.keeps_cmd_gen (land_testBit k rfl), h.keeps_cmd_under (land_testBit k rfl)⟩
  | .keys, k => ⟨h.keeps_sec_ownerKey (land_testBit k rfl), h.keeps_sec_fabricKey (land_testBit k rfl), h.keeps_sec_partKeys (land_testBit k rfl), h.keeps_sec_keyBits (land_testBit k rfl)⟩
  | .audit, k => ⟨h.keeps_sec_unread (land_testBit k rfl), h.keeps_sec_lost (land_testBit k rfl), h.keeps_sec_nextSeq (land_testBit k rfl), h.keeps_sec_lossNoted (land_testBit k rfl), h.keeps_sec_lastMac (land_testBit k rfl)⟩
  | .access, k => ⟨h.keeps_sec_debugUnlocked (land_testBit k rfl), h.keeps_sec_fails (land_testBit k rfl), h.keeps_sec_unlockShut (land_testBit k rfl), h.keeps_sec_sessions (land_testBit k rfl)⟩
  | .fuses, k => ⟨h.keeps_sec_svn (land_testBit k rfl), h.keeps_sec_revoke (land_testBit k rfl), h.keeps_sec_rootHash (land_testBit k rfl), h.keeps_sec_tamperCount (land_testBit k rfl), h.keeps_sec_secureBoot (land_testBit k rfl), h.keeps_sec_uid (land_testBit k rfl), h.keeps_sec_bootSelCold (land_testBit k rfl)⟩
  | .gates, k => h.keeps_gates (land_testBit k rfl)
  | .faults, k => h.keeps_pend (land_testBit k rfl)
  | .engines, k => h.keeps_engines (land_testBit k rfl)
  | .memory, k => ⟨h.keeps_mem_retiredPairs (land_testBit k rfl), h.keeps_mem_migrating (land_testBit k rfl), h.keeps_mem_remaining (land_testBit k rfl), h.keeps_mem_testing (land_testBit k rfl), h.keeps_mem_lostCells (land_testBit k rfl)⟩
  | .ring, k => ⟨h.keeps_cmd_next (land_testBit k rfl), h.keeps_cmd_doneAhead (land_testBit k rfl), h.keeps_cmd_begun (land_testBit k rfl), h.keeps_cmd_remote (land_testBit k rfl), h.keeps_cmd_outside (land_testBit k rfl), h.keeps_cmd_gateWaits (land_testBit k rfl), h.keeps_cmd_working (land_testBit k rfl), h.keeps_cmd_nextSeq (land_testBit k rfl)⟩
  | .counters, k => h.keeps_counters (land_testBit k rfl)
  | .dump, k => ⟨h.keeps_dump_lastT (land_testBit k rfl), h.keeps_dump_nextSeq (land_testBit k rfl), h.keeps_dump_skipped (land_testBit k rfl), h.keeps_dump_skippedSince (land_testBit k rfl), h.keeps_dump_carried (land_testBit k rfl), h.keeps_dump_writing (land_testBit k rfl), h.keeps_dump_pendingCap (land_testBit k rfl), h.keeps_dump_sPi (land_testBit k rfl), h.keeps_dump_sCi (land_testBit k rfl), h.keeps_dump_vecArmed (land_testBit k rfl)⟩
  | .hostPorts, k => h.keeps_hif_ports (land_testBit k rfl)
  | .hostReqs, k => ⟨h.keeps_hif_reqs (land_testBit k rfl), h.keeps_hif_nextReq (land_testBit k rfl)⟩
  | .queues, k => h.keeps_qmg_queues (land_testBit k rfl)
  | .pond, k => ⟨h.keeps_qmg_pond (land_testBit k rfl), h.keeps_qmg_asleep (land_testBit k rfl)⟩
  | .doorbells, k => ⟨h.keeps_qmg_heldDb (land_testBit k rfl), h.keeps_qmg_stalled (land_testBit k rfl)⟩
  | .contexts, k => ⟨h.keeps_qmg_journal (land_testBit k rfl), h.keeps_qmg_useClock (land_testBit k rfl), h.keeps_qmg_evictRun (land_testBit k rfl)⟩
  | .turns, k => h.keeps_qmg_wrr (land_testBit k rfl)
  | .jobs, k => ⟨h.keeps_qmg_jobs (land_testBit k rfl), h.keeps_qmg_nextJid (land_testBit k rfl)⟩
  | .events, k => h.keeps_qmg_epEq (land_testBit k rfl)
  | .holdoffs, k => h.keeps_qmg_holdoffs (land_testBit k rfl)
  | .asids, k => h.keeps_xlt_asids (land_testBit k rfl)
  | .caches, k => ⟨h.keeps_xlt_tlb (land_testBit k rfl), h.keeps_xlt_wc (land_testBit k rfl)⟩
  | .walks, k => ⟨h.keeps_xlt_walks (land_testBit k rfl), h.keeps_xlt_nextWalk (land_testBit k rfl), h.keeps_xlt_lastFault (land_testBit k rfl), h.keeps_xlt_faulted (land_testBit k rfl)⟩
  | .invals, k => ⟨h.keeps_xlt_invals (land_testBit k rfl), h.keeps_xlt_invalDone (land_testBit k rfl), h.keeps_xlt_nextInval (land_testBit k rfl)⟩
  | .pins, k => ⟨h.keeps_xlt_pinned (land_testBit k rfl), h.keeps_xlt_nextTok (land_testBit k rfl)⟩
  | .partitions, k => h.keeps_rma_partitions (land_testBit k rfl)
  | .regions, k => ⟨h.keeps_rma_regions (land_testBit k rfl), h.keeps_rma_fresh (land_testBit k rfl), h.keeps_rma_freed (land_testBit k rfl)⟩
  | .targets, k => h.keeps_rma_targets (land_testBit k rfl)
  | .peers, k => ⟨h.keeps_trn_peers (land_testBit k rfl), h.keeps_trn_openCount (land_testBit k rfl), h.keeps_trn_logItems (land_testBit k rfl), h.keeps_trn_waiting (land_testBit k rfl), h.keeps_trn_opens (land_testBit k rfl)⟩
  | .matching, k => ⟨h.keeps_svc_ctxs (land_testBit k rfl), h.keeps_svc_rndvs (land_testBit k rfl), h.keeps_svc_unexpLost (land_testBit k rfl)⟩
  | .locks, k => ⟨h.keeps_svc_locks (land_testBit k rfl), h.keeps_svc_lockRecs (land_testBit k rfl), h.keeps_svc_boosts (land_testBit k rfl)⟩
  | .variables, k => ⟨h.keeps_svc_varRuns (land_testBit k rfl), h.keeps_svc_vars (land_testBit k rfl)⟩
  | .groups, k => h.keeps_svc_groups (land_testBit k rfl)
  | .frames, k => h.keeps_svc_frames (land_testBit k rfl)
  | .stored, k => ⟨h.keeps_fab_stored (land_testBit k rfl), h.keeps_fab_nextPid (land_testBit k rfl), h.keeps_fab_inject (land_testBit k rfl), h.keeps_fab_passing (land_testBit k rfl), h.keeps_fab_handed (land_testBit k rfl), h.keeps_fab_operands (land_testBit k rfl)⟩
  | .egress, k => h.keeps_fab_egress (land_testBit k rfl)
  | .exceptions, k => h.keeps_fab_exc (land_testBit k rfl)
  | .vectors, k => ⟨h.keeps_fab_vectors (land_testBit k rfl), h.keeps_fab_vecSeq (land_testBit k rfl), h.keeps_fab_vecLast (land_testBit k rfl)⟩
  | .maps, k => h.keeps_fab_mapSeq (land_testBit k rfl)
  | .policers, k => ⟨h.keeps_fab_policers (land_testBit k rfl), h.keeps_fab_deferred (land_testBit k rfl)⟩
  | .samples, k => h.keeps_fab_samples (land_testBit k rfl)
  | .hops, k => ⟨h.keeps_fab_hops (land_testBit k rfl), h.keeps_fab_pins (land_testBit k rfl)⟩
  | .suspects, k => ⟨h.keeps_fab_suspects (land_testBit k rfl), h.keeps_fab_dead (land_testBit k rfl)⟩
  | .ports, k => h.keeps_fab_ports (land_testBit k rfl)
  | .lanes, k => h.keeps_fab_lanes (land_testBit k rfl)
  | .power, k => h.keeps_fab_pwr (land_testBit k rfl)
  | .periods, k => h.keeps_fab_ticks (land_testBit k rfl)

/-- What a mask allows, as a list of parts: every part not listed lies outside the mask. -/
theorem Within.only {m : Nat} {s t : State} (l : List Part) (h : Within m s t)
    (k : ∀ p : Part, p ∉ l → Nat.land m p.mask = 0) : Only l s t := ⟨h.queue, h.out, fun p hp => h.same p (k p hp)⟩

/-- The same for a command. -/
theorem WithinX.only {m : Nat} {s t : State} {o : Host.Outcome State Fault Refusal} (l : List Part) (h : WithinX m s o)
    (k : ∀ p : Part, p ∉ l → Nat.land m p.mask = 0) (e : o = .next t) : Only l s t := (h t e).only l k

end Sys2Proof.Machine
end

