-- ==== Sys2Proof/Laws/WithinOps.lean ====
section
/-! SUPPORT. What each operation of Machine/Ops.lean, Machine/Flags.lean, Machine/Gate.lean, Machine/Xlt.lean, Machine/FabOps.lean, Machine/Event.lean, Machine/PowerOps.lean can do, as one lemma
of the form of Laws/Within.lean. The numeral is the set of parts it may change. -/

namespace Sys2Proof.Machine

theorem State.setReg_within {s r i k v} : Within 0x2000000000000 s (State.setReg s r i k v) := by
  unfold State.setReg
  refine Within.updRegs (e := s) ?_ rfl rfl rfl (rfPut_rising _ _ _) id id rfl rfl
  exact Within.refl

theorem State.setShadow_within {s r i k v} : Within 0xc000000000000 s (State.setShadow s r i k v) := by
  unfold State.setShadow
  refine Within.app (State.setBank_within (fun h => rfPut_rising _ _ _ (bank_rising h))) rfl ?_
  exact Within.refl

theorem State.capture_within {s r i k v} : Within 0x2000000000000 s (State.capture s r i k v) := by
  unfold State.capture
  refine Within.ite ?_ ?_
  · exact Within.refl
  · refine Within.app State.setReg_within rfl ?_
    exact Within.refl

theorem State.advance_within {s d} : Within 0x30 s (State.advance s d) := by
  unfold State.advance
  extract_lets v1 v2
  refine Within.put (e := s) ?_ (List.prefix_refl _) (Nat.le_refl _) (Nat.le_add_right _ _) rfl rfl rfl rfl rfl
  exact Within.refl

theorem State.advanceTo_within {s t} : Within 0x30 s (State.advanceTo s t) := by
  unfold State.advanceTo
  refine Within.app State.advance_within rfl ?_
  exact Within.refl

theorem State.emitInto_within {s regions o} : Within 0x6 s (State.emitInto s regions o) := by
  unfold State.emitInto
  refine Within.ite ?_ ?_
  · refine Within.upd (e := s) ?_ rfl rfl rfl rfl rfl rfl rfl rfl
    exact Within.refl
  · refine Within.put (e := s) ?_ (List.prefix_append _ _) (Nat.le_refl _) (Nat.le_refl _) rfl rfl rfl rfl rfl
    exact Within.refl

theorem State.emit_within {s o} : Within 0x6 s (State.emit s o) := by
  unfold State.emit
  refine Within.app State.emitInto_within rfl ?_
  exact Within.refl

theorem State.emits_within {s regions l} : Within 0x6 s (State.emits s regions l) := by
  unfold State.emits
  refine Within.foldl ?_ ?_
  · intro t1 x2
    refine Within.app State.emitInto_within rfl ?_
    exact Within.refl
  · exact Within.refl

theorem releaseHeld_within {s} : Within 0x6 s (releaseHeld s) := by
  unfold releaseHeld
  extract_lets v1
  refine Within.put (e := s) ?_ (List.prefix_append _ _) (Nat.le_refl _) (Nat.le_refl _) rfl rfl rfl rfl rfl
  exact Within.refl

theorem dropHeldReq_within {id s} : Within 0x4 s (dropHeldReq id s) := by
  unfold dropHeldReq
  refine Within.upd (e := s) ?_ rfl rfl rfl rfl rfl rfl rfl rfl
  exact Within.refl

theorem State.drawNat_within {s} : Within2 0x8 s (State.drawNat s) := by
  unfold State.drawNat
  refine Within2.mk ?_
  refine Within.put (e := s) ?_ (List.prefix_refl _) (Nat.le_succ _) (Nat.le_refl _) rfl rfl rfl rfl rfl
  exact Within.refl

theorem State.drawWord_within {s} : Within2 0x8 s (State.drawWord s) := by
  unfold State.drawWord
  refine Within2.mk ?_
  refine Within.put (e := s) ?_ (List.prefix_refl _) (Nat.le_succ _) (Nat.le_refl _) rfl rfl rfl rfl rfl
  exact Within.refl

theorem State.drawPsn_within {s} : Within2 0x8 s (State.drawPsn s) := by
  unfold State.drawPsn
  refine Within2.mk ?_
  refine Within.put (e := s) ?_ (List.prefix_refl _) (Nat.le_succ _) (Nat.le_refl _) rfl rfl rfl rfl rfl
  exact Within.refl

theorem State.count_within {s i n} : Within 0x100000000000000000000000 s (State.count s i n) := by
  unfold State.count
  refine Within.upd (e := s) ?_ rfl rfl rfl rfl rfl rfl rfl rfl
  exact Within.refl

theorem State.clearOvf_within {s i} : Within 0x100000000000000000000000 s (State.clearOvf s i) := by
  unfold State.clearOvf
  refine Within.upd (e := s) ?_ rfl rfl rfl rfl rfl rfl rfl rfl
  exact Within.refl

theorem whenRunning_within {m f s} (hm : sub 0x0 m = true) (hf : ∀ t0, Within m t0 (f t0)) : Within m s (whenRunning f s) := by
  unfold whenRunning
  refine Within.ite ?_ ?_
  · refine Within.trans ?_ (hf _)
    exact Within.refl
  · exact Within.refl

theorem whenFab_within {m f s} (hm : sub 0x0 m = true) (hf : ∀ t0, Within m t0 (f t0)) : Within m s (whenFab f s) := by
  unfold whenFab
  refine Within.ite ?_ ?_
  · refine Within.trans ?_ (hf _)
    exact Within.refl
  · exact Within.refl

theorem whenEp_within {m f s} (hm : sub 0x0 m = true) (hf : ∀ t0, Within m t0 (f t0)) : Within m s (whenEp f s) := by
  unfold whenEp
  refine Within.ite ?_ ?_
  · refine Within.trans ?_ (hf _)
    exact Within.refl
  · exact Within.refl

theorem pickOf_within {ok n of s} : Within2 0x8 s (pickOf ok n of s) := by
  unfold pickOf
  refine Within2.ite ?_ ?_
  · refine Within2.mk ?_
    exact Within.refl
  · refine Within2.mk ?_
    refine Within2.snd ?_
    refine Within2.app State.drawNat_within rfl ?_
    exact Within.refl

theorem instOf_within {count n s} : Within2 0x8 s (instOf count n s) := by
  unfold instOf
  refine Within2.app pickOf_within rfl ?_
  exact Within.refl

theorem onInstance_within {m count n f s} (hm : sub 0x8 m = true) (hf : ∀ x0 t1, Within m t1 (f x0 t1)) :
    WithinX m s (onInstance count n f s) := by
  unfold onInstance
  refine WithinX.next ?_
  refine Within.trans ?_ (hf _ _)
  refine Within2.snd ?_
  refine Within2.app instOf_within (sub_trans rfl hm) ?_
  exact Within.refl

theorem auditPush_within {event mid detail s} : Within 0xd00000000000000 s (auditPush event mid detail s) := by
  unfold auditPush
  extract_lets v1 v2 v3
  refine Within.upd (e := s) ?_ rfl rfl rfl rfl rfl rfl rfl rfl
  exact Within.refl

theorem auditLose_within {s} : Within 0x1200000000000000 s (auditLose s) := by
  unfold auditLose
  refine Within.upd (e := s) ?_ rfl rfl rfl rfl rfl rfl rfl rfl
  exact Within.refl

theorem auditStore_within {event mid detail s} : Within 0x1f00000000000000 s (auditStore event mid detail s) := by
  unfold auditStore
  refine Within.ite ?_ ?_
  · refine Within.ite ?_ ?_
    · refine Within.app auditLose_within rfl ?_
      exact Within.refl
    · extract_lets v1 v2
      have hv1 : Within 0x1f00000000000000 s v1 := by
        unfold v1
        refine Within.app auditLose_within rfl ?_
        exact Within.refl
      clear_value v1
      refine Within.app auditPush_within rfl ?_
      refine Within.upd (e := v1) ?_ rfl rfl rfl rfl rfl rfl rfl rfl
      exact hv1
  · refine Within.app auditPush_within rfl ?_
    exact Within.refl

theorem audit_within {event mid detail s} : Within 0x1f00000000000000 s (audit event mid detail s) := by
  unfold audit
  extract_lets v1 v2
  have hv2 : Within 0x1f00000000000000 s v2 := by
    unfold v2
    refine Within.ite ?_ ?_
    · refine Within.app auditStore_within rfl ?_
      refine Within.upd (e := s) ?_ rfl rfl rfl rfl rfl rfl rfl rfl
      exact Within.refl
    · exact Within.refl
  clear_value v2
  refine Within.app auditStore_within rfl ?_
  exact hv2

theorem endSession_within {c s} : Within 0x11f00000000000000 s (endSession c s) := by
  unfold endSession
  refine Within.ite ?_ ?_
  · refine Within.app audit_within rfl ?_
    refine Within.upd (e := s) ?_ rfl rfl rfl rfl rfl rfl rfl rfl
    exact Within.refl
  · exact Within.refl

theorem hubLatch_within {lo hi s} : Within 0x2000000000000 s (hubLatch lo hi s) := by
  unfold hubLatch
  extract_lets v1 v2 v3 v4
  have hv3 : Within 0x2000000000000 s v3 := by
    unfold v3
    refine Within.app State.setReg_within rfl ?_
    refine Within.app State.setReg_within rfl ?_
    exact Within.refl
  clear_value v3
  have hv4 : Within 0x2000000000000 s v4 := by
    unfold v4
    refine Within.ite ?_ ?_
    · exact hv3
    · exact Within.refl
  clear_value v4
  refine Within.ite ?_ ?_
  · refine Within.app State.setReg_within rfl ?_
    exact hv4
  · exact hv3

theorem hubCount_within {k s} : Within 0x2000002000000000000 s (hubCount k s) := by
  unfold hubCount
  extract_lets v1
  have hv1 : Within 0x2000002000000000000 s v1 := by
    unfold v1
    refine Within.app State.setReg_within rfl ?_
    exact Within.refl
  clear_value v1
  refine Within.upd (e := v1) ?_ rfl rfl rfl rfl rfl rfl rfl rfl
  exact hv1

theorem hubTake_within {k source inst addr s} : Within 0x2001f02000000000000 s (hubTake k source inst addr s) := by
  unfold hubTake
  extract_lets v1 v2
  have hv2 : Within 0x2001f02000000000000 s v2 := by
    unfold v2
    refine Within.app hubCount_within rfl ?_
    refine Within.app hubLatch_within rfl ?_
    exact Within.refl
  clear_value v2
  refine Within.ite ?_ ?_
  · refine Within.app audit_within rfl ?_
    exact hv2
  · exact hv2

theorem gateViolation_within {gate a len rule kind x s} : Within 0x100002001f02000000000000 s (gateViolation gate a len rule kind x s) := by
  unfold gateViolation
  extract_lets v1 v2
  have hv2 : Within 0x100002001f02000000000000 s v2 := by
    unfold v2
    refine Within.ite ?_ ?_
    · exact Within.refl
    · refine Within.app State.setReg_within rfl ?_
      refine Within.app State.setReg_within rfl ?_
      refine Within.app State.setReg_within rfl ?_
      exact Within.refl
  clear_value v2
  refine Within.app hubTake_within rfl ?_
  refine Within.app State.count_within rfl ?_
  exact hv2

theorem gateCheckAll_within {gate segs kind mid pkey s} :
    Within2 0x100002001f02000000000000 s (gateCheckAll gate segs kind mid pkey s) := by
  unfold gateCheckAll
  extract_lets v1 v2 v3 v4
  generalize v4 = w5
  split
  · rename_i x6 x7
    refine Within2.mk ?_
    refine Within.app gateViolation_within rfl ?_
    exact Within.refl
  · rename_i x8
    refine Within2.ite ?_ ?_
    · refine Within2.mk ?_
      exact Within.refl
    · split
      · rename_i x9 x10 h11
        refine Within2.mk ?_
        refine Within.app gateViolation_within rfl ?_
        exact Within.refl
      · rename_i x12 h13
        refine Within2.mk ?_
        exact Within.refl

theorem gateCheck_within {gate a len kind mid pkey s} : Within2 0x100002001f02000000000000 s (gateCheck gate a len kind mid pkey s) := by
  unfold gateCheck
  refine Within2.app gateCheckAll_within rfl ?_
  exact Within.refl

theorem hostRefusal_within {port kind mid pkey segs s} : Within2 0x100002001f02000000000000 s (hostRefusal port kind mid pkey segs s) := by
  unfold hostRefusal
  refine Within2.foldl ?_ ?_
  · intro x1 t2 x3
    extract_lets v4
    split
    rename_i x5 x6 t7 h8
    have ht7 : Within 0x100002001f02000000000000 t2 t7 := by
      refine Within2.of h8 ?_
      refine Within2.app gateCheckAll_within rfl ?_
      refine Within2.snd ?_
      refine Within2.mk ?_
      exact Within.refl
    refine Within2.mk ?_
    exact ht7
  · refine Within2.mk ?_
    exact Within.refl

theorem hostGates_within {port kind mid pkey segs s} : Within2 0x100002001f02000000000000 s (hostGates port kind mid pkey segs s) := by
  unfold hostGates
  split
  rename_i x1 x2 t3 h4
  have ht3 : Within 0x100002001f02000000000000 s t3 := by
    refine Within2.of h4 ?_
    refine Within2.app hostRefusal_within rfl ?_
    exact Within.refl
  refine Within2.mk ?_
  exact ht3

theorem hbmRefusal_within {mid kind len pkey s} : Within2 0x100002001f02000000000008 s (hbmRefusal mid kind len pkey s) := by
  unfold hbmRefusal
  refine Within2.ite ?_ ?_
  · refine Within2.mk ?_
    exact Within.refl
  · split
    rename_i x1 x2 t3 h4
    have ht3 : Within 0x100002001f02000000000008 s t3 := by
      refine Within2.of h4 ?_
      refine Within2.app State.drawNat_within rfl ?_
      exact Within.refl
    split
    rename_i x5 x6 t7 h8
    have ht7 : Within 0x100002001f02000000000008 s t7 := by
      refine Within2.of h8 ?_
      refine Within2.app State.drawNat_within rfl ?_
      exact ht3
    extract_lets v9 v10
    split
    rename_i x11 x12 t13 h14
    have ht13 : Within 0x100002001f02000000000008 s t13 := by
      refine Within2.of h14 ?_
      refine Within2.app gateCheck_within rfl ?_
      exact ht7
    split
    rename_i x15 x16 t17 h18
    have ht17 : Within 0x100002001f02000000000008 s t17 := by
      refine Within2.of h18 ?_
      refine Within2.app gateCheck_within rfl ?_
      exact ht13
    refine Within2.mk ?_
    exact ht17

theorem captureFault_within {c lvl addr va asid unit write s} :
    Within 0x200000000000000000002000000000000 s (captureFault c lvl addr va asid unit write s) := by
  unfold captureFault
  extract_lets v1 v2 v3
  have hv2 : Within 0x200000000000000000002000000000000 s v2 := by
    unfold v2
    refine Within.upd (e := s) ?_ rfl rfl rfl rfl rfl rfl rfl rfl
    exact Within.refl
  clear_value v2
  refine Within.ite ?_ ?_
  · exact hv2
  · refine Within.app State.setReg_within rfl ?_
    refine Within.app State.setReg_within rfl ?_
    refine Within.app State.setReg_within rfl ?_
    exact hv2

theorem reportFault_within {c lvl addr va asid unit host write s} :
    Within 0x200000000000002001f02000000000000 s (reportFault c lvl addr va asid unit host write s) := by
  unfold reportFault
  extract_lets v1 v2
  have hv2 : Within 0x200000000000002001f02000000000000 s v2 := by
    unfold v2
    refine Within.app captureFault_within rfl ?_
    exact Within.refl
  clear_value v2
  refine Within.app hubTake_within rfl ?_
  exact hv2

theorem reportWalkFault_within {c lvl addr w s} : Within 0x200000000000002001f02000000000000 s (reportWalkFault c lvl addr w s) := by
  unfold reportWalkFault
  refine Within.ite ?_ ?_
  · exact Within.refl
  · refine Within.app reportFault_within rfl ?_
    exact Within.refl

theorem issueReq_within {port mid addr len use o s} : Within 0x300000000000000000000000006 s (issueReq port mid addr len use o s) := by
  unfold issueReq
  refine Within.ite ?_ ?_
  · exact Within.refl
  · extract_lets v1 v2 v3 v4 v5
    refine Within.app State.emits_within rfl ?_
    refine Within.upd (e := s) ?_ rfl rfl rfl rfl rfl rfl rfl rfl
    exact Within.refl

theorem issueNext_within {port s} : Within 0x100000000000000000000000006 s (issueNext port s) := by
  unfold issueNext
  refine Within.ite ?_ ?_
  · exact Within.refl
  · refine Within.foldl ?_ ?_
    · intro t1 x2
      extract_lets v3 v4 v5
      refine Within.ite ?_ ?_
      · exact Within.refl
      · refine Within.app State.emits_within rfl ?_
        refine Within.upd (e := t1) ?_ rfl rfl rfl rfl rfl rfl rfl rfl
        exact Within.refl
    · exact Within.refl

theorem putWalk_within {w s} : Within 0x4000000000000000000000000000000 s (putWalk w s) := by
  unfold putWalk
  refine Within.ite ?_ ?_
  · refine Within.upd (e := s) ?_ rfl rfl rfl rfl rfl rfl rfl rfl
    exact Within.refl
  · refine Within.upd (e := s) ?_ rfl rfl rfl rfl rfl rfl rfl rfl
    exact Within.refl

theorem dropWalk_within {id s} : Within 0x4000000000000000000000000000000 s (dropWalk id s) := by
  unfold dropWalk
  refine Within.upd (e := s) ?_ rfl rfl rfl rfl rfl rfl rfl rfl
  exact Within.refl

theorem tableGate_within {w lvl ea kind s} : Within2 0x200000000100002001f02000000000000 s (tableGate w lvl ea kind s) := by
  unfold tableGate
  split
  · rename_i x1 h2
    refine Within2.mk ?_
    exact Within.refl
  · rename_i x3 x4 h5
    split
    · rename_i x6 t7 h8
      have ht7 : Within 0x200000000100002001f02000000000000 s t7 := by
        refine Within2.of h8 ?_
        refine Within2.app hostGates_within rfl ?_
        exact Within.refl
      refine Within2.mk ?_
      exact ht7
    · rename_i x9 t10 h11
      have ht10 : Within 0x200000000100002001f02000000000000 s t10 := by
        refine Within2.of h11 ?_
        refine Within2.app hostGates_within rfl ?_
        exact Within.refl
      refine Within2.mk ?_
      refine Within.app captureFault_within rfl ?_
      exact ht10

theorem walkGo_within {w s} : Within2 0x204000300100002001f02000000000006 s (walkGo w s) := by
  unfold walkGo
  split
  · rename_i x1 x2 x3 h4
    split
    · rename_i x5 t6 h7
      have ht6 : Within 0x204000300100002001f02000000000006 s t6 := by
        refine Within2.of h7 ?_
        refine Within2.app tableGate_within rfl ?_
        exact Within.refl
      refine Within2.mk ?_
      refine Within.app dropWalk_within rfl ?_
      exact ht6
    · rename_i x8 t9 h10
      have ht9 : Within 0x204000300100002001f02000000000006 s t9 := by
        refine Within2.of h10 ?_
        refine Within2.app tableGate_within rfl ?_
        exact Within.refl
      extract_lets v11
      have hv11 : Within 0x204000300100002001f02000000000006 s v11 := by
        unfold v11
        refine Within.app putWalk_within rfl ?_
        exact ht9
      clear_value v11
      refine Within2.mk ?_
      refine Within.app issueReq_within rfl ?_
      exact hv11
  · rename_i x12 x13 x14 x15 h16
    refine Within2.mk ?_
    refine Within.app dropWalk_within rfl ?_
    refine Within.app reportWalkFault_within rfl ?_
    exact Within.refl

theorem startWalk_within {a va write unit fetch who s} :
    Within2 0x20c000300100002001f02000000000006 s (startWalk a va write unit fetch who s) := by
  unfold startWalk
  extract_lets v1 v2 v3 v4 v5 v6
  have hv6 : Within 0x20c000300100002001f02000000000006 s v6 := by
    unfold v6
    refine Within.upd (e := s) ?_ rfl rfl rfl rfl rfl rfl rfl rfl
    exact Within.refl
  clear_value v6
  refine Within2.ite ?_ ?_
  · refine Within2.mk ?_
    refine Within.app reportWalkFault_within rfl ?_
    exact Within.refl
  · split
    · rename_i x7 x8 h9
      refine Within2.mk ?_
      refine Within.app putWalk_within rfl ?_
      exact Within.refl
    · rename_i x10 h11
      refine Within2.ite ?_ ?_
      · refine Within2.app walkGo_within rfl ?_
        exact hv6
      · refine Within2.mk ?_
        refine Within.app putWalk_within rfl ?_
        exact hv6

theorem issueCas_within {w e need s} : Within2 0x204000300100002001f02000000000006 s (issueCas w e need s) := by
  unfold issueCas
  split
  · rename_i x1 t2 h3
    have ht2 : Within 0x204000300100002001f02000000000006 s t2 := by
      refine Within2.of h3 ?_
      refine Within2.app tableGate_within rfl ?_
      exact Within.refl
    refine Within2.mk ?_
    exact ht2
  · rename_i x4 t5 h6
    have ht5 : Within 0x204000300100002001f02000000000006 s t5 := by
      refine Within2.of h6 ?_
      refine Within2.app tableGate_within rfl ?_
      exact Within.refl
    extract_lets v7
    refine Within2.mk ?_
    refine Within.app issueReq_within rfl ?_
    refine Within.app putWalk_within rfl ?_
    exact ht5

theorem startDirty_within {a e va unit fetch who s} :
    Within2 0x20c000300100002001f02000000000006 s (startDirty a e va unit fetch who s) := by
  unfold startDirty
  split
  · rename_i x1 x2 h3
    refine Within2.mk ?_
    refine Within.app putWalk_within rfl ?_
    exact Within.refl
  · rename_i x4 h5
    extract_lets v6 v7 v8 v9
    have hv9 : Within 0x20c000300100002001f02000000000006 s v9 := by
      unfold v9
      refine Within.upd (e := s) ?_ rfl rfl rfl rfl rfl rfl rfl rfl
      exact Within.refl
    clear_value v9
    refine Within2.ite ?_ ?_
    · refine Within2.app issueCas_within rfl ?_
      exact hv9
    · refine Within2.mk ?_
      refine Within.app reportWalkFault_within rfl ?_
      exact hv9

theorem translate1_within {a va write unit fetch who s} :
    Within2 0x20d000300100002001f02000000000006 s (translate1 a va write unit fetch who s) := by
  unfold translate1
  extract_lets v1 v2 v3
  split
  rename_i x4 x5 t6 h7
  have ht6 : Within 0x20d000300100002001f02000000000006 s t6 := by
    refine Within2.of h7 ?_
    refine Within2.app startWalk_within rfl ?_
    exact Within.refl
  generalize v2 = w8
  split
  · rename_i x9 x10
    refine Within2.ite ?_ ?_
    · refine Within2.mk ?_
      exact ht6
    · refine Within2.ite ?_ ?_
      · split
        rename_i x11 x12 t13 h14
        have ht13 : Within 0x20d000300100002001f02000000000006 s t13 := by
          refine Within2.of h14 ?_
          refine Within2.app startDirty_within rfl ?_
          exact Within.refl
        refine Within2.mk ?_
        exact ht13
      · refine Within2.ite ?_ ?_
        · refine Within2.mk ?_
          exact ht6
        · extract_lets v15
          have hv15 : Within 0x20d000300100002001f02000000000006 s v15 := by
            unfold v15
            refine Within.upd (e := s) ?_ rfl rfl rfl rfl rfl rfl rfl rfl
            exact Within.refl
          clear_value v15
          refine Within2.mk ?_
          exact hv15
  · rename_i x16
    refine Within2.mk ?_
    exact ht6

theorem translateLoop_within {a write unit fetch who a5 a6 a7 a8 a9} :
    Within2 0x20d000300100002001f02000000000006 a9 (translateLoop a write unit fetch who a5 a6 a7 a8 a9) := by
  induction a5 generalizing a write unit fetch who a6 a7 a8 a9
  · rw [translateLoop]
    refine Within2.mk ?_
    exact Within.refl
  · rename_i x1 ih
    rw [translateLoop]
    refine Within2.ite ?_ ?_
    · refine Within2.mk ?_
      exact Within.refl
    · split
      · rename_i x2 x3 t4 h5
        have ht4 : Within 0x20d000300100002001f02000000000006 a9 t4 := by
          refine Within2.of h5 ?_
          refine Within2.app translate1_within rfl ?_
          exact Within.refl
        extract_lets v6
        refine Within2.app ih rfl ?_
        exact ht4
      · rename_i x7 x8 t9 ih h10
        have ht9 : Within 0x20d000300100002001f02000000000006 a9 t9 := by
          refine Within2.of h10 ?_
          refine Within2.app translate1_within rfl ?_
          exact Within.refl
        refine Within2.mk ?_
        exact ht9
      · rename_i x11 x12 t13 ih ih h14
        have ht13 : Within 0x20d000300100002001f02000000000006 a9 t13 := by
          refine Within2.of h14 ?_
          refine Within2.app translate1_within rfl ?_
          exact Within.refl
        refine Within2.mk ?_
        exact ht13

theorem clearFaulted_within {who s} : Within 0x400000000000000000000000000000000 s (clearFaulted who s) := by
  unfold clearFaulted
  refine Within.upd (e := s) ?_ rfl rfl rfl rfl rfl rfl rfl rfl
  exact Within.refl

theorem translate_within {asid va len write unit fetch who s} :
    Within2 0x60d000300100002001f02000000000006 s (translate asid va len write unit fetch who s) := by
  unfold translate
  split
  · rename_i x1 h2
    refine Within2.mk ?_
    exact Within.refl
  · rename_i x3 x4 h5
    refine Within2.ite ?_ ?_
    · refine Within2.mk ?_
      refine Within.app clearFaulted_within rfl ?_
      exact Within.refl
    · refine Within2.app translateLoop_within rfl ?_
      exact Within.refl

theorem captureRefused_within {asid va unit write s} :
    Within 0x200000000000000000002000000000000 s (captureRefused asid va unit write s) := by
  unfold captureRefused
  extract_lets v1
  refine Within.app captureFault_within rfl ?_
  exact Within.refl

theorem invalApply_within {c s} : Within 0x7000000000000000000000000000000 s (invalApply c s) := by
  unfold invalApply
  refine Within.upd (e := s) ?_ rfl rfl rfl rfl rfl rfl rfl rfl
  exact Within.refl

theorem tick_within {code period s} : Within 0x1000000000000000000000000000000000000000030 s (tick code period s) := by
  unfold tick
  extract_lets v1
  have hv1 : Within 0x1000000000000000000000000000000000000000030 s v1 := by
    unfold v1
    refine Within.elim ?_ ?_
    · exact Within.refl
    · intro x2
      refine Within.app State.advanceTo_within rfl ?_
      exact Within.refl
  clear_value v1
  refine Within.updFab ?_ rfl
  exact hv1

theorem updFport_within {n f s} : Within 0x8000000000000000000000000000000000000000000 s (updFport n f s) := by
  unfold updFport
  refine Within.updFab ?_ rfl
  exact Within.refl

theorem updLane_within {n f s} : Within 0x10000000000000000000000000000000000000000000 s (updLane n f s) := by
  unfold updLane
  refine Within.updFab ?_ rfl
  exact Within.refl

theorem updEgress_within {o f s} : Within 0x200000000000000000000000000000000000000 s (updEgress o f s) := by
  unfold updEgress
  refine Within.updFab ?_ rfl
  exact Within.refl

theorem grantCells_within {src v s} : Within 0x8000000000000000000000000000000000000000000 s (grantCells src v s) := by
  unfold grantCells
  split
  · rename_i x1 x2
    extract_lets v3 v4 v5
    refine Within.ite ?_ ?_
    · exact Within.refl
    · refine Within.app updFport_within rfl ?_
      exact Within.refl
  · rename_i x6 ih
    exact Within.refl

theorem shareOne_within {x s} : Within 0x8000080000000000000000000000000000000000000 s (shareOne x s) := by
  unfold shareOne
  refine Within.ite ?_ ?_
  · extract_lets v1
    have hv1 : Within 0x8000080000000000000000000000000000000000000 s v1 := by
      unfold v1
      refine Within.updFab ?_ rfl
      exact Within.refl
    clear_value v1
    refine Within.ite ?_ ?_
    · refine Within.app grantCells_within rfl ?_
      exact hv1
    · exact hv1
  · exact Within.refl

theorem recharge_within {x replay s} : Within 0x8000080000000000000000000000000000000000000 s (recharge x replay s) := by
  unfold recharge
  extract_lets v1 v2
  have hv1 : ∀ x3 t4, Within 0x8000080000000000000000000000000000000000000 t4 (v1 x3 t4) := by
    intro x3 t4
    unfold v1
    refine Within.updFab ?_ rfl
    exact Within.refl
  clear_value v1
  have hv2 : Within 0x8000080000000000000000000000000000000000000 s v2 := by
    unfold v2
    refine Within.ite ?_ ?_
    · refine Within.trans ?_ (hv1 _ _)
      exact Within.refl
    · refine Within.trans ?_ (hv1 _ _)
      exact Within.refl
  clear_value v2
  refine Within.ite ?_ ?_
  · refine Within.ite ?_ ?_
    · exact hv2
    · exact Within.refl
  · refine Within.ite ?_ ?_
    · exact Within.refl
    · refine Within.app grantCells_within rfl ?_
      exact hv2

theorem mirrorCharge_within {x s} : Within 0x8000080000000000000000000000000000000000000 s (mirrorCharge x s) := by
  unfold mirrorCharge
  refine Within.ite ?_ ?_
  · exact Within.refl
  · extract_lets v1
    have hv1 : Within 0x8000080000000000000000000000000000000000000 s v1 := by
      unfold v1
      refine Within.updFab ?_ rfl
      exact Within.refl
    clear_value v1
    refine Within.ite ?_ ?_
    · exact hv1
    · refine Within.app grantCells_within rfl ?_
      exact hv1

theorem settleOne_within {x s} : Within 0x8100080000000000000000000000000000000000000 s (settleOne x s) := by
  unfold settleOne
  refine Within.ite ?_ ?_
  · exact Within.refl
  · refine Within.ite ?_ ?_
    · refine Within.app recharge_within rfl ?_
      exact Within.refl
    · refine Within.ite ?_ ?_
      · refine Within.app mirrorCharge_within rfl ?_
        exact Within.refl
      · refine Within.ite ?_ ?_
        · refine Within.app recharge_within rfl ?_
          exact Within.refl
        · extract_lets v1
          have hv1 : Within 0x8100080000000000000000000000000000000000000 s v1 := by
            unfold v1
            refine Within.updFab ?_ rfl
            exact Within.refl
          clear_value v1
          refine Within.ite ?_ ?_
          · exact hv1
          · refine Within.app grantCells_within rfl ?_
            exact hv1

theorem settleCells_within {s} : Within 0x8100080000000000000000000000000000000000000 s (settleCells s) := by
  unfold settleCells
  refine Within.foldl ?_ ?_
  · intro t1 x2
    refine Within.app settleOne_within rfl ?_
    exact Within.refl
  · exact Within.refl

theorem sendFrame_within {n seq p stomp s} : Within 0x8000000000000000000000000000000000000000006 s (sendFrame n seq p stomp s) := by
  unfold sendFrame
  extract_lets v1 v2
  refine Within.app updFport_within rfl ?_
  refine Within.app State.emit_within rfl ?_
  exact Within.refl

theorem dropPartial_within {x s} : Within 0x8000280000000000000100000000000000000000006 s (dropPartial x s) := by
  unfold dropPartial
  extract_lets v1 v2
  have hv2 : Within 0x8000280000000000000100000000000000000000006 s v2 := by
    unfold v2
    refine Within.foldl ?_ ?_
    · intro t3 x4
      refine Within.app State.count_within rfl ?_
      refine Within.app sendFrame_within rfl ?_
      exact Within.refl
    · exact Within.refl
  clear_value v2
  refine Within.updFab ?_ rfl
  exact hv2

theorem dropPartials_within {p s} : Within 0x8000280000000000000100000000000000000000006 s (dropPartials p s) := by
  unfold dropPartials
  refine Within.foldl ?_ ?_
  · intro t1 x2
    refine Within.app dropPartial_within rfl ?_
    exact Within.refl
  · exact Within.refl

theorem flushPort_within {n s} : Within 0x8100280000000000000100000000000000000000006 s (flushPort n s) := by
  unfold flushPort
  extract_lets v1 v2 v3 v4 v5
  have hv3 : Within 0x8100280000000000000100000000000000000000006 s v3 := by
    unfold v3
    refine Within.app dropPartials_within rfl ?_
    exact Within.refl
  clear_value v3
  have hv4 : Within 0x8100280000000000000100000000000000000000006 s v4 := by
    unfold v4
    refine Within.app updEgress_within rfl ?_
    exact hv3
  clear_value v4
  have hv5 : Within 0x8100280000000000000100000000000000000000006 s v5 := by
    unfold v5
    refine Within.app updFport_within rfl ?_
    exact hv4
  clear_value v5
  refine Within.app settleCells_within rfl ?_
  refine Within.app State.count_within rfl ?_
  exact hv5

theorem portsDownAll_within {s} : Within 0x8100280000000000000100000000000000000000006 s (portsDownAll s) := by
  unfold portsDownAll
  refine Within.foldl ?_ ?_
  · intro t1 x2
    extract_lets v3
    have hv3 : Within 0x8100280000000000000100000000000000000000006 t1 v3 := by
      unfold v3
      refine Within.app flushPort_within rfl ?_
      refine Within.ite ?_ ?_
      · refine Within.app State.count_within rfl ?_
        exact Within.refl
      · exact Within.refl
    clear_value v3
    refine Within.app updFport_within rfl ?_
    exact hv3
  · exact Within.refl

theorem updQueue_within {q f s} : Within 0x400000000000000000000000000 s (updQueue q f s) := by
  unfold updQueue
  refine Within.upd (e := s) ?_ rfl rfl rfl rfl rfl rfl rfl rfl
  exact Within.refl

theorem updSink_within {q f s} : Within 0x400000000000000000000000000 s (updSink q f s) := by
  unfold updSink
  refine Within.app updQueue_within rfl ?_
  exact Within.refl

theorem updFetch_within {q f s} : Within 0x400000000000000000000000000 s (updFetch q f s) := by
  unfold updFetch
  refine Within.app updQueue_within rfl ?_
  exact Within.refl

theorem updPort_within {h f s} : Within 0x80000000000000000000000000 s (updPort h f s) := by
  unfold updPort
  refine Within.upd (e := s) ?_ rfl rfl rfl rfl rfl rfl rfl rfl
  exact Within.refl

theorem updFunc_within {mid f s} : Within 0x80000000000000000000000000 s (updFunc mid f s) := by
  unfold updFunc
  refine Within.app updPort_within rfl ?_
  exact Within.refl

theorem vectorMsix_within {mid vector s} : Within 0x80000000000000000000000006 s (vectorMsix mid vector s) := by
  unfold vectorMsix
  split
  · rename_i x1 h2
    exact Within.refl
  · rename_i x3 x4 h5
    refine Within.ite ?_ ?_
    · exact Within.refl
    · refine Within.ite ?_ ?_
      · refine Within.app updFunc_within rfl ?_
        exact Within.refl
      · refine Within.app State.emit_within rfl ?_
        exact Within.refl

theorem sendMsix_within {q s} : Within 0x80000000000000000000000006 s (sendMsix q s) := by
  unfold sendMsix
  refine Within.app vectorMsix_within rfl ?_
  exact Within.refl

theorem msixWrite_within {mid e s} : Within 0x80000000000000000000000006 s (msixWrite mid e s) := by
  unfold msixWrite
  extract_lets v1
  have hv1 : Within 0x80000000000000000000000006 s v1 := by
    unfold v1
    refine Within.app updFunc_within rfl ?_
    exact Within.refl
  clear_value v1
  refine Within.ite ?_ ?_
  · refine Within.app vectorMsix_within rfl ?_
    refine Within.app updFunc_within rfl ?_
    exact hv1
  · exact hv1

theorem dropEvent_within {ep s} : Within 0x100000000000000000000000 s (dropEvent ep s) := by
  unfold dropEvent
  refine Within.app State.count_within rfl ?_
  exact Within.refl

theorem eqLose_within {q e s} : Within 0x400100000000002000000000000 s (eqLose q e s) := by
  unfold eqLose
  extract_lets v1
  refine Within.app dropEvent_within rfl ?_
  refine Within.app updSink_within rfl ?_
  refine Within.app State.setReg_within rfl ?_
  exact Within.refl

theorem eqRecord_within {q g e s} : Within 0x480000000000002000000000006 s (eqRecord q g e s) := by
  unfold eqRecord
  extract_lets v1 v2 v3
  have hv2 : Within 0x480000000000002000000000006 s v2 := by
    unfold v2
    refine Within.app State.emit_within rfl ?_
    exact Within.refl
  clear_value v2
  have hv3 : Within 0x480000000000002000000000006 s v3 := by
    unfold v3
    refine Within.app State.setReg_within rfl ?_
    exact hv2
  clear_value v3
  refine Within.ite ?_ ?_
  · refine Within.app sendMsix_within rfl ?_
    refine Within.app updSink_within rfl ?_
    exact hv3
  · exact hv3

theorem ringSlot_within {q pos entry who s} : Within2 0x60d000300100002001f02000000000006 s (ringSlot q pos entry who s) := by
  unfold ringSlot
  split
  · rename_i x1 x2 t3 h4
    have ht3 : Within 0x60d000300100002001f02000000000006 s t3 := by
      refine Within2.of h4 ?_
      refine Within2.app translate_within rfl ?_
      exact Within.refl
    split
    · rename_i x5 t6 h7
      have ht6 : Within 0x60d000300100002001f02000000000006 s t6 := by
        refine Within2.of h7 ?_
        refine Within2.app hostGates_within rfl ?_
        exact ht3
      refine Within2.mk ?_
      exact ht6
    · rename_i x8 t9 h10
      have ht9 : Within 0x60d000300100002001f02000000000006 s t9 := by
        refine Within2.of h10 ?_
        refine Within2.app hostGates_within rfl ?_
        exact ht3
      refine Within2.mk ?_
      refine Within.app captureRefused_within rfl ?_
      exact ht9
  · rename_i x11 x12 t13 ih h14
    have ht13 : Within 0x60d000300100002001f02000000000006 s t13 := by
      refine Within2.of h14 ?_
      refine Within2.app translate_within rfl ?_
      exact Within.refl
    refine Within2.mk ?_
    exact ht13

theorem noteWritten_within {eq e s} : Within 0x400000000000000000000000000000 s (noteWritten eq e s) := by
  unfold noteWritten
  refine Within.ite ?_ ?_
  · refine Within.upd (e := s) ?_ rfl rfl rfl rfl rfl rfl rfl rfl
    exact Within.refl
  · exact Within.refl

theorem eqDrain_within {qid a1 a2} : Within 0x60d400780100002001f02000000000006 a2 (eqDrain qid a1 a2) := by
  induction a1 generalizing qid a2
  · rw [eqDrain]
    exact Within.refl
  · rename_i x1 x2 ih
    rw [eqDrain]
    split
    · rename_i x3 h4
      exact Within.refl
    · rename_i x5 x6 h7
      refine Within.ite ?_ ?_
      · refine Within.app dropEvent_within rfl ?_
        refine Within.app ih rfl ?_
        exact Within.refl
      · refine Within.ite ?_ ?_
        · refine Within.app updSink_within rfl ?_
          exact Within.refl
        · refine Within.ite ?_ ?_
          · refine Within.app ih rfl ?_
            refine Within.app eqLose_within rfl ?_
            exact Within.refl
          · refine Within.ite ?_ ?_
            · refine Within.app ih rfl ?_
              refine Within.app dropEvent_within rfl ?_
              exact Within.refl
            · refine Within.ite ?_ ?_
              · refine Within.app updSink_within rfl ?_
                exact Within.refl
              · split
                · rename_i x8 x9 x10 t11 h12
                  have ht11 : Within 0x60d400780100002001f02000000000006 a2 t11 := by
                    refine Within2.of h12 ?_
                    refine Within2.app ringSlot_within rfl ?_
                    exact Within.refl
                  refine Within.app ih rfl ?_
                  refine Within.app noteWritten_within rfl ?_
                  refine Within.app eqRecord_within rfl ?_
                  exact ht11
                · rename_i x13 t14 h15
                  have ht14 : Within 0x60d400780100002001f02000000000006 a2 t14 := by
                    refine Within2.of h15 ?_
                    refine Within2.app ringSlot_within rfl ?_
                    exact Within.refl
                  refine Within.app updSink_within rfl ?_
                  exact ht14
                · rename_i x16 x17 t18 ih ih h19
                  have ht18 : Within 0x60d400780100002001f02000000000006 a2 t18 := by
                    refine Within2.of h19 ?_
                    refine Within2.app ringSlot_within rfl ?_
                    exact Within.refl
                  refine Within.foldl ?_ ?_
                  · intro t20 x21
                    refine Within.app eqLose_within rfl ?_
                    exact Within.refl
                  · exact ht18

theorem eqPut_within {qid e s} : Within 0x60d400780100002001f02000000000006 s (eqPut qid e s) := by
  unfold eqPut
  split
  · rename_i x1 h2
    exact Within.refl
  · rename_i x3 x4 h5
    refine Within.ite ?_ ?_
    · refine Within.app dropEvent_within rfl ?_
      exact Within.refl
    · refine Within.ite ?_ ?_
      · refine Within.app updSink_within rfl ?_
        exact Within.refl
      · refine Within.ite ?_ ?_
        · refine Within.app eqLose_within rfl ?_
          exact Within.refl
        · refine Within.app eqDrain_within rfl ?_
          exact Within.refl

theorem eqFlush_within {qid s} : Within 0x60d400780100002001f02000000000006 s (eqFlush qid s) := by
  unfold eqFlush
  split
  · rename_i x1 h2
    exact Within.refl
  · rename_i x3 x4 h5
    refine Within.ite ?_ ?_
    · exact Within.refl
    · refine Within.app eqPut_within rfl ?_
      refine Within.app updSink_within rfl ?_
      exact Within.refl

theorem eqRetry_within {qid s} : Within 0x60d400780100002001f02000000000006 s (eqRetry qid s) := by
  unfold eqRetry
  split
  · rename_i x1 h2
    exact Within.refl
  · rename_i x3 x4 h5
    refine Within.ite ?_ ?_
    · exact Within.refl
    · refine Within.app eqDrain_within rfl ?_
      refine Within.app updSink_within rfl ?_
      exact Within.refl

theorem portsRelease_within {s} : Within 0x60d400780100002001f02000000000006 s (portsRelease s) := by
  unfold portsRelease
  refine Within.foldl ?_ ?_
  · intro t1 x2
    refine Within.app eqRetry_within rfl ?_
    exact Within.refl
  · refine Within.app releaseHeld_within rfl ?_
    exact Within.refl

theorem endpointPut_within {ep e s} : Within 0x60d400780100002001f02000000000006 s (endpointPut ep e s) := by
  unfold endpointPut
  split
  rename_i x1 x2 x3 h4
  refine Within.ite ?_ ?_
  · exact Within.refl
  · refine Within.ite ?_ ?_
    · refine Within.app dropEvent_within rfl ?_
      exact Within.refl
    · refine Within.ite ?_ ?_
      · exact Within.refl
      · refine Within.ite ?_ ?_
        · refine Within.app dropEvent_within rfl ?_
          exact Within.refl
        · refine Within.app eqPut_within rfl ?_
          exact Within.refl

theorem endpointEvent_within {ep kind qid d0 d1 subject s} :
    Within 0x60d400780100002001f02000000000006 s (endpointEvent ep kind qid d0 d1 subject s) := by
  unfold endpointEvent
  refine Within.app endpointPut_within rfl ?_
  exact Within.refl

theorem putEvent_within {b s} : Within 0x60d400780100002001f02000000000006 s (putEvent b s) := by
  unfold putEvent
  refine Within.ite ?_ ?_
  · exact Within.refl
  · refine Within.ite ?_ ?_
    · refine Within.app eqPut_within rfl ?_
      exact Within.refl
    · refine Within.ite ?_ ?_
      · refine Within.app dropEvent_within rfl ?_
        exact Within.refl
      · refine Within.app endpointPut_within rfl ?_
        exact Within.refl

theorem queueEvent_within {q kind d0 d1 s} : Within 0x60d400780100002001f02000000000006 s (queueEvent q kind d0 d1 s) := by
  unfold queueEvent
  refine Within.app putEvent_within rfl ?_
  exact Within.refl

theorem dropDrained_within {qid s} : Within 0x400000000000000000000000000 s (dropDrained qid s) := by
  unfold dropDrained
  extract_lets v1 v2
  refine Within.upd (e := s) ?_ rfl rfl rfl rfl rfl rfl rfl rfl
  exact Within.refl

theorem allEndpoints_within {kind d0 d1 subject s} : Within 0x60d400780100002001f02000000000006 s (allEndpoints kind d0 d1 subject s) := by
  unfold allEndpoints
  refine Within.foldl ?_ ?_
  · intro t1 x2
    refine Within.app endpointEvent_within rfl ?_
    exact Within.refl
  · exact Within.refl

theorem quiesce_within {s} : Within 0x810028000060d400780100002001f03040000400006 s (quiesce s) := by
  unfold quiesce
  extract_lets v1 v2 v3
  have hv2 : Within 0x810028000060d400780100002001f03040000400006 s v2 := by
    unfold v2
    refine Within.foldl ?_ ?_
    · intro t4 x5
      refine Within.app allEndpoints_within rfl ?_
      exact Within.refl
    · exact Within.refl
  clear_value v2
  refine Within.app portsDownAll_within rfl ?_
  refine Within.upd (e := v2) ?_ rfl rfl rfl rfl rfl rfl rfl rfl
  exact hv2

theorem beginWarm_within {cause s} : Within 0x810028000060d400780100002001f0304000c400006 s (beginWarm cause s) := by
  unfold beginWarm
  extract_lets v1 v2 v3
  have hv2 : Within 0x810028000060d400780100002001f0304000c400006 s v2 := by
    unfold v2
    refine Within.upd (e := s) ?_ rfl rfl rfl rfl rfl rfl rfl rfl
    exact Within.refl
  clear_value v2
  refine Within.ite ?_ ?_
  · exact hv2
  · refine Within.app quiesce_within rfl ?_
    refine Within.upd (e := v2) ?_ rfl rfl rfl rfl rfl rfl rfl rfl
    exact hv2

theorem haltEp_within {s} : Within 0x1000000 s (haltEp s) := by
  unfold haltEp
  refine Within.upd (e := s) ?_ rfl rfl rfl rfl rfl rfl rfl rfl
  exact Within.refl

theorem report_within {k source inst addr s} : Within 0x810028000060d400780100002001f0304000d400006 s (report k source inst addr s) := by
  unfold report
  extract_lets v1 v2 v3 v4
  have hv2 : Within 0x810028000060d400780100002001f0304000d400006 s v2 := by
    unfold v2
    refine Within.app hubTake_within rfl ?_
    exact Within.refl
  clear_value v2
  have hv3 : Within 0x810028000060d400780100002001f0304000d400006 s v3 := by
    unfold v3
    refine Within.ite ?_ ?_
    · refine Within.app allEndpoints_within rfl ?_
      exact hv2
    · exact hv2
  clear_value v3
  have hv4 : Within 0x810028000060d400780100002001f0304000d400006 s v4 := by
    unfold v4
    refine Within.app haltEp_within rfl ?_
    exact hv3
  clear_value v4
  refine Within.ite ?_ ?_
  · refine Within.ite ?_ ?_
    · refine Within.app beginWarm_within rfl ?_
      exact hv4
    · exact hv4
  · exact hv3

theorem memLost_within {at_ s} : Within 0x810028000060d400780100002001f0304000d400006 s (memLost at_ s) := by
  unfold memLost
  refine Within.app report_within rfl ?_
  exact Within.refl

theorem updPwr_within {f s} : Within 0x20000000000000000000000000000000000000000000 s (updPwr f s) := by
  unfold updPwr
  refine Within.upd (e := s) ?_ rfl rfl rfl rfl rfl rfl rfl rfl
  exact Within.refl

theorem updDomain_within {n f s} : Within 0x20000000000000000000000000000000000000000000 s (updDomain n f s) := by
  unfold updDomain
  refine Within.app updPwr_within rfl ?_
  exact Within.refl

theorem updEngine_within {code f s} : Within 0x4000000000000000000 s (updEngine code f s) := by
  unfold updEngine
  refine Within.upd (e := s) ?_ rfl rfl rfl rfl rfl rfl rfl rfl
  exact Within.refl

theorem noticeCheck_within {s} : Within 0x20000000000000000000000000000000000000000000 s (noticeCheck s) := by
  unfold noticeCheck
  split
  · rename_i x1 h2
    exact Within.refl
  · rename_i x3 x4 h5
    extract_lets v6
    refine Within.ite ?_ ?_
    · exact Within.refl
    · refine Within.app updPwr_within rfl ?_
      exact Within.refl

theorem updHolds_within {s} : Within 0x20000000000000000000000000000000000000000000 s (updHolds s) := by
  unfold updHolds
  extract_lets v1
  refine Within.app noticeCheck_within rfl ?_
  refine Within.app updPwr_within rfl ?_
  exact Within.refl

theorem dropLeave_within {op s} : Within 0x20000000000000000000000000000000000000000000 s (dropLeave op s) := by
  unfold dropLeave
  refine Within.app noticeCheck_within rfl ?_
  refine Within.app updPwr_within rfl ?_
  exact Within.refl

theorem enqueueReq_within {r s} : Within 0x20000000000000000000000000000000000000000000 s (enqueueReq r s) := by
  unfold enqueueReq
  refine Within.app updHolds_within rfl ?_
  refine Within.app updPwr_within rfl ?_
  exact Within.refl

theorem askExit_within {n prio s} : Within 0x20000000000000000000000000000000000000000000 s (askExit n prio s) := by
  unfold askExit
  split
  · rename_i x1 h2
    exact Within.refl
  · rename_i x3 x4 h5
    refine Within.ite ?_ ?_
    · exact Within.refl
    · refine Within.ite ?_ ?_
      · refine Within.app updHolds_within rfl ?_
        refine Within.app updPwr_within rfl ?_
        exact Within.refl
      · refine Within.app enqueueReq_within rfl ?_
        exact Within.refl

theorem askLeave_within {op prio step s} : Within 0x20000000000000000000000000000000000000000000 s (askLeave op prio step s) := by
  unfold askLeave
  extract_lets v1 v2
  refine Within.ite ?_ ?_
  · refine Within.app enqueueReq_within rfl ?_
    exact Within.refl
  · refine Within.app askExit_within rfl ?_
    refine Within.app updDomain_within rfl ?_
    exact Within.refl

theorem wakeDomain_within {n s} : Within 0x20000000000000000000100000000000000000000000 s (wakeDomain n s) := by
  unfold wakeDomain
  split
  · rename_i x1 h2
    exact Within.refl
  · rename_i x3 x4 h5
    refine Within.ite ?_ ?_
    · exact Within.refl
    · refine Within.ite ?_ ?_
      · refine Within.app askExit_within rfl ?_
        exact Within.refl
      · refine Within.app askExit_within rfl ?_
        refine Within.app State.count_within rfl ?_
        exact Within.refl

theorem leaveOn_within {n st due s} : Within 0x20000000000000000000000000000000000000000000 s (leaveOn n st due s) := by
  unfold leaveOn
  refine Within.app noticeCheck_within rfl ?_
  refine Within.app updPwr_within rfl ?_
  exact Within.refl

theorem setActivity_within {a s} : Within 0x20000000000000000000000000000000000000000000 s (setActivity a s) := by
  unfold setActivity
  refine Within.app updPwr_within rfl ?_
  exact Within.refl

theorem noteStart_within {d s} : Within 0x20000000000000000000000000000000000000000030 s (noteStart d s) := by
  unfold noteStart
  extract_lets v1 v2 v3 v4
  have hv1 : Within 0x20000000000000000000000000000000000000000030 s v1 := by
    unfold v1
    refine Within.app State.advanceTo_within rfl ?_
    exact Within.refl
  clear_value v1
  refine Within.app setActivity_within rfl ?_
  exact hv1

theorem askLevel_within {d s} : Within 0x20000000000000000000000000000000000000000000 s (askLevel d s) := by
  unfold askLevel
  extract_lets v1 v2 v3
  refine Within.ite ?_ ?_
  · exact Within.refl
  · refine Within.app askLeave_within rfl ?_
    exact Within.refl

theorem raiseLevel_within {d s} : Within 0x20000000000000000000000000000000000000000000 s (raiseLevel d s) := by
  unfold raiseLevel
  extract_lets v1
  refine Within.app setActivity_within rfl ?_
  exact Within.refl

theorem domainSleep_within {n s} : Within 0x20000000000000000000000000000000000000000000 s (domainSleep n s) := by
  unfold domainSleep
  refine Within.ite ?_ ?_
  · exact Within.refl
  · extract_lets v1 v2
    refine Within.ite ?_ ?_
    · exact Within.refl
    · refine Within.app leaveOn_within rfl ?_
      exact Within.refl

theorem domainAgain_within {n s} : Within 0x20000000000000000000000000000000000000000000 s (domainAgain n s) := by
  unfold domainAgain
  split
  · rename_i x1 h2
    exact Within.refl
  · rename_i x3 x4 h5
    extract_lets v6
    refine Within.ite ?_ ?_
    · exact Within.refl
    · refine Within.ite ?_ ?_
      · refine Within.app askExit_within rfl ?_
        refine Within.app updDomain_within rfl ?_
        exact Within.refl
      · refine Within.ite ?_ ?_
        · exact Within.refl
        · split
          · rename_i x7 h8
            refine Within.app askExit_within rfl ?_
            refine Within.app updDomain_within rfl ?_
            exact Within.refl
          · rename_i x9 ih
            refine Within.app updDomain_within rfl ?_
            exact Within.refl

theorem linkTrain_within {h s} : Within 0x80000000000000000000000000 s (linkTrain h s) := by
  unfold linkTrain
  extract_lets v1
  refine Within.app updPort_within rfl ?_
  exact Within.refl

theorem hostDomainOff_within {n s} : Within 0x20000000000003000000000000000000000000000000 s (hostDomainOff n s) := by
  unfold hostDomainOff
  extract_lets v1 v2 v3 v4
  have hv2 : Within 0x20000000000003000000000000000000000000000000 s v2 := by
    unfold v2
    refine Within.app leaveOn_within rfl ?_
    exact Within.refl
  clear_value v2
  refine Within.ite ?_ ?_
  · refine Within.upd (e := v2) ?_ rfl rfl rfl rfl rfl rfl rfl rfl
    exact hv2
  · exact Within.refl

theorem chorusDomainOff_within {n s} : Within 0x20000000000001000000000000000000000000000000 s (chorusDomainOff n s) := by
  unfold chorusDomainOff
  extract_lets v1 v2 v3 v4
  have hv2 : Within 0x20000000000001000000000000000000000000000000 s v2 := by
    unfold v2
    refine Within.app leaveOn_within rfl ?_
    exact Within.refl
  clear_value v2
  have hv4 : Within 0x20000000000001000000000000000000000000000000 s v4 := by
    unfold v4
    refine Within.upd (e := v2) ?_ rfl rfl rfl rfl rfl rfl rfl rfl
    exact hv2
  clear_value v4
  refine Within.ite ?_ ?_
  · refine Within.foldl ?_ ?_
    · intro t5 x6
      split
      · rename_i x7 x8 h9
        refine Within.app askExit_within rfl ?_
        exact Within.refl
      · rename_i x10 ih
        exact Within.refl
    · exact hv4
  · exact Within.refl

theorem predictor_within {s} : Within 0x20000000000000000000100000000000000000000000 s (predictor s) := by
  unfold predictor
  refine Within.foldl ?_ ?_
  · intro t1 x2
    refine Within.ite ?_ ?_
    · refine Within.app domainSleep_within rfl ?_
      exact Within.refl
    · refine Within.ite ?_ ?_
      · refine Within.app wakeDomain_within rfl ?_
        exact Within.refl
      · refine Within.app domainAgain_within rfl ?_
        exact Within.refl
  · exact Within.refl

theorem laneDomainOff_within {n s} : Within 0x30000000000000000000000000000000000000000000 s (laneDomainOff n s) := by
  unfold laneDomainOff
  refine Within.ite ?_ ?_
  · extract_lets v1
    have hv1 : Within 0x30000000000000000000000000000000000000000000 s v1 := by
      unfold v1
      refine Within.app leaveOn_within rfl ?_
      exact Within.refl
    clear_value v1
    refine Within.updFab ?_ rfl
    exact hv1
  · exact Within.refl

theorem widthRound_within {lack r s} : Within 0x20000000000000000000000000000000000000000000 s (widthRound lack r s) := by
  unfold widthRound
  refine Within.foldl ?_ ?_
  · intro t1 x2
    refine Within.ite ?_ ?_
    · refine Within.app askLeave_within rfl ?_
      exact Within.refl
    · exact Within.refl
  · exact Within.refl

theorem rewidth_within {old new s} : Within 0x20000000000000000000000000000000000000000000 s (rewidth old new s) := by
  unfold rewidth
  extract_lets v1 v2 v3 v4 v5
  have hv4 : Within 0x20000000000000000000000000000000000000000000 s v4 := by
    unfold v4
    refine Within.app noticeCheck_within rfl ?_
    refine Within.app updPwr_within rfl ?_
    exact Within.refl
  clear_value v4
  refine Within.foldl ?_ ?_
  · intro t6 x7
    refine Within.app widthRound_within rfl ?_
    exact Within.refl
  · exact hv4

theorem reclass_within {s} : Within 0x20000000000000000000100000000000000000000000 s (reclass s) := by
  unfold reclass
  extract_lets v1 v2 v3
  have hv3 : Within 0x20000000000000000000100000000000000000000000 s v3 := by
    unfold v3
    refine Within.app State.count_within rfl ?_
    refine Within.app updPwr_within rfl ?_
    exact Within.refl
  clear_value v3
  refine Within.ite ?_ ?_
  · exact Within.refl
  · refine Within.app updHolds_within rfl ?_
    refine Within.app rewidth_within rfl ?_
    exact hv3

end Sys2Proof.Machine
end

