-- ==== Sys2Proof/Laws/WithinComplete.lean ====
section
/-! SUPPORT. What each operation of Machine/Admin.lean, Machine/Complete.lean, Machine/Region.lean, Machine/Send.lean can do, as one lemma
of the form of Laws/Within.lean. The numeral is the set of parts it may change. -/

namespace Sys2Proof.Machine

theorem cmdErr_within {chan op status pos s} : Within 0x2000000000000 s (cmdErr chan op status pos s) := by
  unfold cmdErr
  refine Within.app State.capture_within rfl ?_
  exact Within.refl

theorem ringDone_within {p s} : Within 0xfff00000002000000000000 s (ringDone p s) := by
  unfold ringDone
  split
  rename_i x1 x2 x3 h4
  extract_lets v5 v6
  have hv5 : Within 0xfff00000002000000000000 s v5 := by
    unfold v5
    refine Within.app State.setReg_within rfl ?_
    exact Within.refl
  clear_value v5
  refine Within.upd (e := v5) ?_ rfl rfl rfl rfl rfl rfl rfl rfl
  exact hv5

theorem answer_within {chan mid ws s} : Within 0x1fff02001f02000000000006 s (answer chan mid ws s) := by
  unfold answer
  split
  · rename_i x1 x2
    extract_lets v3
    split
    rename_i x4 x5 t6 h7
    have ht6 : Within 0x1fff02001f02000000000006 s t6 := by
      refine Within2.of h7 ?_
      refine Within2.app hostGates_within rfl ?_
      exact Within.refl
    extract_lets v8
    have hv8 : Within 0x1fff02001f02000000000006 s v8 := by
      unfold v8
      refine Within.ite ?_ ?_
      · refine Within.app State.emit_within rfl ?_
        exact ht6
      · exact ht6
    clear_value v8
    refine Within.app ringDone_within rfl ?_
    exact hv8
  · rename_i x9 x10
    refine Within.app State.emit_within rfl ?_
    exact Within.refl
  · rename_i x11 x12 x13
    refine Within.app State.emit_within rfl ?_
    exact Within.refl

theorem completeCmd_within {b status detail r0 r1 s} : Within 0x1fff02001f02000000000006 s (completeCmd b status detail r0 r1 s) := by
  unfold completeCmd
  extract_lets v1 v2 v3 v4
  have hv2 : Within 0x1fff02001f02000000000006 s v2 := by
    unfold v2
    refine Within.upd (e := s) ?_ rfl rfl rfl rfl rfl rfl rfl rfl
    exact Within.refl
  clear_value v2
  have hv3 : Within 0x1fff02001f02000000000006 s v3 := by
    unfold v3
    refine Within.ite ?_ ?_
    · exact hv2
    · refine Within.app cmdErr_within rfl ?_
      exact hv2
  clear_value v3
  refine Within.app answer_within rfl ?_
  exact hv3

theorem completeWhere_within {p status detail r0 r1 s} : Within 0x1fff02001f02000000000006 s (completeWhere p status detail r0 r1 s) := by
  unfold completeWhere
  split
  · rename_i x1 x2 h3
    refine Within.app completeCmd_within rfl ?_
    exact Within.refl
  · rename_i x4 h5
    exact Within.refl

theorem wakeForCommand_within {obj s} : Within 0x20000000000000000000100000000000000000000000 s (wakeForCommand obj s) := by
  unfold wakeForCommand
  refine Within.ite ?_ ?_
  · refine Within.elim ?_ ?_
    · exact Within.refl
    · intro x1
      refine Within.app wakeDomain_within rfl ?_
      exact Within.refl
  · refine Within.ite ?_ ?_
    · refine Within.elim ?_ ?_
      · exact Within.refl
      · intro x2
        refine Within.app wakeDomain_within rfl ?_
        exact Within.refl
    · refine Within.ite ?_ ?_
      · refine Within.elim ?_ ?_
        · exact Within.refl
        · intro x3
          refine Within.app wakeDomain_within rfl ?_
          exact Within.refl
      · refine Within.ite ?_ ?_
        · refine Within.elim ?_ ?_
          · exact Within.refl
          · intro x4
            refine Within.app wakeDomain_within rfl ?_
            exact Within.refl
        · exact Within.refl

theorem admitCmd_within {b s} : Within2 0x100002001f02000000000000 s (admitCmd b s) := by
  unfold admitCmd
  refine Within2.ite ?_ ?_
  · refine Within2.mk ?_
    exact Within.refl
  · refine Within2.ite ?_ ?_
    · refine Within2.mk ?_
      exact Within.refl
    · split
      · rename_i x1 x2 t3 h4
        have ht3 : Within 0x100002001f02000000000000 s t3 := by
          refine Within2.of h4 ?_
          refine Within2.app gateCheck_within rfl ?_
          exact Within.refl
        refine Within2.mk ?_
        exact ht3
      · rename_i x5 t6 h7
        have ht6 : Within 0x100002001f02000000000000 s t6 := by
          refine Within2.of h7 ?_
          refine Within2.app gateCheck_within rfl ?_
          exact Within.refl
        refine Within2.mk ?_
        exact ht6

theorem beginCmd_within {m op chan env a body s} (hm : sub 0x200000000000000000001fff02001f02000000000006 m = true) (hbody : ∀ x0 x1 x2 t3, Within2 m t3 (body x0 x1 x2 t3)) :
    Within m s (beginCmd op chan env a body s) := by
  unfold beginCmd
  extract_lets v1 v2 v3
  have hv3 : Within m s v3 := by
    unfold v3
    refine Within.app (a := 0x200000000000000000001fff02001f02000000000006) (Within.upd (e := s) Within.refl rfl rfl rfl rfl rfl rfl rfl rfl) hm ?_
    exact Within.refl
  clear_value v3
  split
  · rename_i x4 x5 x6 t7 h8
    have ht7 : Within m s t7 := by
      refine Within2.of h8 ?_
      refine Within2.app admitCmd_within (sub_trans rfl hm) ?_
      exact hv3
    refine Within.app completeCmd_within (sub_trans rfl hm) ?_
    exact ht7
  · rename_i x9 t10 h11
    have ht10 : Within m s t10 := by
      refine Within2.of h11 ?_
      refine Within2.app admitCmd_within (sub_trans rfl hm) ?_
      exact hv3
    refine Within.ite ?_ ?_
    · refine Within.app completeCmd_within (sub_trans rfl hm) ?_
      exact ht10
    · extract_lets v12
      split
      · rename_i x13 x14 x15 x16 x17 t18 h19
        have ht18 : Within m s t18 := by
          refine Within2.of h19 ?_
          refine Within2.app (hbody _ _ _ _) (sub_self _) ?_
          refine Within.app wakeForCommand_within (sub_trans rfl hm) ?_
          exact ht10
        refine Within.app completeCmd_within (sub_trans rfl hm) ?_
        exact ht18
      · rename_i x20 t21 h22
        have ht21 : Within m s t21 := by
          refine Within2.of h22 ?_
          refine Within2.app (hbody _ _ _ _) (sub_self _) ?_
          refine Within.app wakeForCommand_within (sub_trans rfl hm) ?_
          exact ht10
        exact ht21
      · rename_i x23 t24 h25
        have ht24 : Within m s t24 := by
          refine Within2.of h25 ?_
          refine Within2.app (hbody _ _ _ _) (sub_self _) ?_
          refine Within.app wakeForCommand_within (sub_trans rfl hm) ?_
          exact ht10
        refine Within.app (a := 0x200000000000000000001fff02001f02000000000006) (Within.upd (e := t24) Within.refl rfl rfl rfl rfl rfl rfl rfl rfl) hm ?_
        exact ht24

theorem ringMalformed_within {op p s} : Within 0x810028000060d400780100002001f0304000d400006 s (ringMalformed op p s) := by
  unfold ringMalformed
  refine Within.app report_within rfl ?_
  refine Within.app cmdErr_within rfl ?_
  exact Within.refl

theorem sendPacket_within {op p a s} : Within 0x8800000000000000000006 s (sendPacket op p a s) := by
  unfold sendPacket
  extract_lets v1 v2 v3 v4
  have hv4 : Within 0x8800000000000000000006 s v4 := by
    unfold v4
    refine Within.upd (e := s) ?_ rfl rfl rfl rfl rfl rfl rfl rfl
    exact Within.refl
  clear_value v4
  refine Within.app State.emit_within rfl ?_
  exact hv4

theorem sendRemote_within {op p a s} : Within 0x1fff02001f02000000000006 s (sendRemote op p a s) := by
  unfold sendRemote
  extract_lets v1
  split
  · rename_i x2 x3 x4 t5 h6
    have ht5 : Within 0x1fff02001f02000000000006 s t5 := by
      refine Within2.of h6 ?_
      refine Within2.app admitCmd_within rfl ?_
      exact Within.refl
    refine Within.app completeCmd_within rfl ?_
    exact ht5
  · rename_i x7 t8 h9
    have ht8 : Within 0x1fff02001f02000000000006 s t8 := by
      refine Within2.of h9 ?_
      refine Within2.app admitCmd_within rfl ?_
      exact Within.refl
    refine Within.app sendPacket_within rfl ?_
    exact ht8

theorem readRing_within {s} : Within2 0x100102001f02000000000006 s (readRing s) := by
  unfold readRing
  extract_lets v1 v2
  split
  rename_i x3 x4 t5 h6
  have ht5 : Within 0x100102001f02000000000006 s t5 := by
    refine Within2.of h6 ?_
    refine Within2.app hostGates_within rfl ?_
    exact Within.refl
  refine Within2.ite ?_ ?_
  · refine Within2.mk ?_
    exact ht5
  · extract_lets v7 v8
    have hv8 : Within 0x100102001f02000000000006 s v8 := by
      unfold v8
      refine Within.upd (e := t5) ?_ rfl rfl rfl rfl rfl rfl rfl rfl
      exact ht5
    clear_value v8
    refine Within2.mk ?_
    refine Within.app State.emit_within rfl ?_
    exact hv8

theorem runRing_within {m row env a body s} (hm : sub 0x2810028000060d4007801fff02001f0304000d400006 m = true) (hbody : ∀ x0 x1 x2 t3, Within2 m t3 (body x0 x1 x2 t3)) :
    Within m s (runRing row env a body s) := by
  unfold runRing
  refine Within.ite ?_ ?_
  · exact Within.refl
  · extract_lets v1 v2 v3
    refine Within.ite ?_ ?_
    · exact Within.refl
    · refine Within.ite ?_ ?_
      · refine Within.app wakeDomain_within (sub_trans rfl hm) ?_
        exact Within.refl
      · split
        rename_i x4 x5 t6 h7
        have ht6 : Within m s t6 := by
          refine Within2.of h7 ?_
          refine Within2.app readRing_within (sub_trans rfl hm) ?_
          exact Within.refl
        refine Within.ite ?_ ?_
        · exact ht6
        · refine Within.ite ?_ ?_
          · refine Within.app ringMalformed_within (sub_trans rfl hm) ?_
            exact ht6
          · refine Within.ite ?_ ?_
            · refine Within.app sendRemote_within (sub_trans rfl hm) ?_
              exact ht6
            · refine Within.trans ?_ (beginCmd_within (sub_trans rfl hm) ?_)
              · exact ht6
              · intro x8 x9 x10 t11
                refine Within2.app (hbody _ _ _ _) (sub_self _) ?_
                exact Within.refl

theorem cqReserve_within {cq s} : Within 0x400000000000000000000000000 s (cqReserve cq s) := by
  unfold cqReserve
  refine Within.app updSink_within rfl ?_
  exact Within.refl

theorem refusalEnd_within {cq s} : Within 0x400000000000000000000000000 s (refusalEnd cq s) := by
  unfold refusalEnd
  refine Within.app updQueue_within rfl ?_
  exact Within.refl

theorem cqRelease_within {cq s} : Within 0x400000000000000000000000000 s (cqRelease cq s) := by
  unfold cqRelease
  refine Within.app refusalEnd_within rfl ?_
  refine Within.app updSink_within rfl ?_
  exact Within.refl

theorem cqNotify_within {cq s} : Within 0x60d400780100002001f02000000000006 s (cqNotify cq s) := by
  unfold cqNotify
  split
  · rename_i x1 h2
    exact Within.refl
  · rename_i x3 x4 h5
    refine Within.ite ?_ ?_
    · exact Within.refl
    · refine Within.app queueEvent_within rfl ?_
      refine Within.app updSink_within rfl ?_
      exact Within.refl

theorem recAfter_within {r s} : Within 0x60d400780100002001f02000000000006 s (recAfter r s) := by
  unfold recAfter
  refine Within.foldl ?_ ?_
  · intro t1 x2
    refine Within.app putEvent_within rfl ?_
    exact Within.refl
  · exact Within.refl

theorem queueError_within {q cause d1 s} : Within 0x60d400780100002001f02000000000006 s (queueError q cause d1 s) := by
  unfold queueError
  extract_lets v1
  split
  · rename_i x2 h3
    refine Within.app putEvent_within rfl ?_
    exact Within.refl
  · rename_i x4 x5 h6
    refine Within.ite ?_ ?_
    · refine Within.app putEvent_within rfl ?_
      exact Within.refl
    · refine Within.ite ?_ ?_
      · refine Within.app updSink_within rfl ?_
        exact Within.refl
      · refine Within.ite ?_ ?_
        · refine Within.app updSink_within rfl ?_
          exact Within.refl
        · refine Within.app putEvent_within rfl ?_
          exact Within.refl

theorem cqWrite_within {c g r s} : Within 0x60d400780100002001f02000000000006 s (cqWrite c g r s) := by
  unfold cqWrite
  extract_lets v1 v2 v3
  have hv2 : Within 0x60d400780100002001f02000000000006 s v2 := by
    unfold v2
    refine Within.app State.emit_within rfl ?_
    exact Within.refl
  clear_value v2
  have hv3 : Within 0x60d400780100002001f02000000000006 s v3 := by
    unfold v3
    refine Within.app updSink_within rfl ?_
    exact hv2
  clear_value v3
  refine Within.app recAfter_within rfl ?_
  split
  · rename_i x4 x5 x6 h7
    refine Within.ite ?_ ?_
    · refine Within.app cqNotify_within rfl ?_
      exact hv3
    · exact hv3
  · rename_i x8 h9
    exact hv3

theorem recordFault_within {c s} : Within 0x60d400780100002001f02000000000006 s (recordFault c s) := by
  unfold recordFault
  extract_lets v1
  have hv1 : Within 0x60d400780100002001f02000000000006 s v1 := by
    unfold v1
    refine Within.app updSink_within rfl ?_
    exact Within.refl
  clear_value v1
  refine Within.app endpointEvent_within rfl ?_
  exact hv1

theorem cqDrain_within {cq a1 a2} : Within 0x60d400780100002001f02000000000006 a2 (cqDrain cq a1 a2) := by
  induction a1 generalizing cq a2
  · rw [cqDrain]
    exact Within.refl
  · rename_i x1 ih
    rw [cqDrain]
    split
    · rename_i x2 h3
      exact Within.refl
    · rename_i x4 x5 h6
      split
      · rename_i x7 h8
        exact Within.refl
      · rename_i x9 x10 x11 h12
        refine Within.ite ?_ ?_
        · refine Within.app ih rfl ?_
          refine Within.app recAfter_within rfl ?_
          refine Within.app cqRelease_within rfl ?_
          refine Within.app updSink_within rfl ?_
          exact Within.refl
        · refine Within.ite ?_ ?_
          · exact Within.refl
          · split
            · rename_i x13 x14 x15 t16 h17
              have ht16 : Within 0x60d400780100002001f02000000000006 a2 t16 := by
                refine Within2.of h17 ?_
                refine Within2.app ringSlot_within rfl ?_
                exact Within.refl
              refine Within.app ih rfl ?_
              refine Within.app cqWrite_within rfl ?_
              refine Within.app updSink_within rfl ?_
              exact ht16
            · rename_i x18 t19 h20
              have ht19 : Within 0x60d400780100002001f02000000000006 a2 t19 := by
                refine Within2.of h20 ?_
                refine Within2.app ringSlot_within rfl ?_
                exact Within.refl
              exact ht19
            · rename_i x21 x22 t23 ih ih h24
              have ht23 : Within 0x60d400780100002001f02000000000006 a2 t23 := by
                refine Within2.of h24 ?_
                refine Within2.app ringSlot_within rfl ?_
                exact Within.refl
              refine Within.app recordFault_within rfl ?_
              exact ht23

theorem cqPush_within {cq r s} : Within 0x60d400780100002001f02000000000006 s (cqPush cq r s) := by
  unfold cqPush
  split
  · rename_i x1 h2
    exact Within.refl
  · rename_i x3 x4 h5
    extract_lets v6
    have hv6 : Within 0x60d400780100002001f02000000000006 s v6 := by
      unfold v6
      refine Within.app updSink_within rfl ?_
      exact Within.refl
    clear_value v6
    refine Within.app cqDrain_within rfl ?_
    exact hv6

theorem slotGo_within {cq a1 a2} : Within 0x60d400780100002001f02000000000006 a2 (slotGo cq a1 a2) := by
  induction a1 generalizing cq a2
  · rw [slotGo]
    exact Within.refl
  · rename_i x1 ih
    rw [slotGo]
    split
    · rename_i x2 h3
      exact Within.refl
    · rename_i x4 x5 h6
      split
      · rename_i x7 h8
        exact Within.refl
      · rename_i x9 x10 x11 h12
        extract_lets v13
        have hv13 : ∀ t14, Within 0x60d400780100002001f02000000000006 t14 (v13 t14) := by
          intro t14
          unfold v13
          refine Within.app updSink_within rfl ?_
          exact Within.refl
        clear_value v13
        refine Within.ite ?_ ?_
        · refine Within.app ih rfl ?_
          refine Within.app recAfter_within rfl ?_
          refine Within.trans ?_ (hv13 _)
          exact Within.refl
        · refine Within.ite ?_ ?_
          · exact Within.refl
          · refine Within.app ih rfl ?_
            refine Within.app cqPush_within rfl ?_
            refine Within.app cqReserve_within rfl ?_
            refine Within.trans ?_ (hv13 _)
            exact Within.refl

theorem cqWake_within {cq s} : Within 0x60d400780100002001f02000000000006 s (cqWake cq s) := by
  unfold cqWake
  refine Within.app slotGo_within rfl ?_
  exact Within.refl

theorem malPush_within {cq r s} : Within 0x60d400780100002001f02000000000006 s (malPush cq r s) := by
  unfold malPush
  refine Within.ite ?_ ?_
  · refine Within.app recAfter_within rfl ?_
    exact Within.refl
  · refine Within.app cqWake_within rfl ?_
    refine Within.app updSink_within rfl ?_
    exact Within.refl

theorem updJob_within {jid f s} : Within 0x20000000000000000000000000000 s (updJob jid f s) := by
  unfold updJob
  refine Within.upd (e := s) ?_ rfl rfl rfl rfl rfl rfl rfl rfl
  exact Within.refl

theorem dropJob_within {jid s} : Within 0x20000000000000000000000000000 s (dropJob jid s) := by
  unfold dropJob
  refine Within.upd (e := s) ?_ rfl rfl rfl rfl rfl rfl rfl rfl
  exact Within.refl

theorem freeQueue_within {q s} : Within 0x60d422780100002001f02000000000006 s (freeQueue q s) := by
  unfold freeQueue
  extract_lets v1 v2 v3 v4 v5
  have hv3 : Within 0x60d422780100002001f02000000000006 s v3 := by
    unfold v3
    refine Within.app updSink_within rfl ?_
    exact Within.refl
  clear_value v3
  have hv4 : Within 0x60d422780100002001f02000000000006 s v4 := by
    unfold v4
    refine Within.foldl ?_ ?_
    · intro t6 x7
      refine Within.app recAfter_within rfl ?_
      exact Within.refl
    · exact hv3
  clear_value v4
  refine Within.upd (e := v4) ?_ rfl rfl rfl rfl rfl rfl rfl rfl
  exact hv4

theorem queueIdle_within {qid s} : Within 0x60d4227801fff02001f02000000000006 s (queueIdle qid s) := by
  unfold queueIdle
  split
  · rename_i x1 h2
    exact Within.refl
  · rename_i x3 x4 h5
    refine Within.ite ?_ ?_
    · exact Within.refl
    · extract_lets v6
      have hv6 : Within 0x60d4227801fff02001f02000000000006 s v6 := by
        unfold v6
        refine Within.ite ?_ ?_
        · refine Within.app queueEvent_within rfl ?_
          refine Within.app updQueue_within rfl ?_
          exact Within.refl
        · exact Within.refl
      clear_value v6
      refine Within.ite ?_ ?_
      · refine Within.app completeWhere_within rfl ?_
        refine Within.app freeQueue_within rfl ?_
        exact hv6
      · exact hv6

theorem drainsSettle_within {s} : Within 0x60d4227801fff02001f02000000000006 s (drainsSettle s) := by
  unfold drainsSettle
  refine Within.foldl ?_ ?_
  · intro t1 x2
    refine Within.app queueIdle_within rfl ?_
    exact Within.refl
  · exact Within.refl

theorem batchFlush_within {qid cq a2 a3} : Within 0x60d420780100002001f02000000000006 a3 (batchFlush qid cq a2 a3) := by
  induction a2 generalizing qid cq a3
  · rw [batchFlush]
    exact Within.refl
  · rename_i x1 ih
    rw [batchFlush]
    split
    · rename_i x2 h3
      exact Within.refl
    · rename_i x4 x5 x6 h7
      extract_lets v8 v9
      have hv9 : Within 0x60d420780100002001f02000000000006 a3 v9 := by
        unfold v9
        refine Within.upd (e := a3) ?_ rfl rfl rfl rfl rfl rfl rfl rfl
        exact Within.refl
      clear_value v9
      refine Within.app ih rfl ?_
      refine Within.app cqPush_within rfl ?_
      exact hv9

theorem jobEnded_within {jid after s} : Within 0x2000000000060d4227801fff02001f02000000000006 s (jobEnded jid after s) := by
  unfold jobEnded
  split
  · rename_i x1 h2
    exact Within.refl
  · rename_i x3 x4 h5
    split
    · rename_i x6 h7
      refine Within.app dropJob_within rfl ?_
      exact Within.refl
    · rename_i x8 x9 h10
      extract_lets v11 v12 v13 v14
      have hv13 : Within 0x2000000000060d4227801fff02001f02000000000006 s v13 := by
        unfold v13
        refine Within.ite ?_ ?_
        · refine Within.app cqWake_within rfl ?_
          refine Within.app cqRelease_within rfl ?_
          refine Within.app dropJob_within rfl ?_
          exact Within.refl
        · refine Within.ite ?_ ?_
          · refine Within.app cqPush_within rfl ?_
            refine Within.app dropJob_within rfl ?_
            exact Within.refl
          · refine Within.ite ?_ ?_
            · exact Within.refl
            · refine Within.app cqWake_within rfl ?_
              refine Within.app cqRelease_within rfl ?_
              exact Within.refl
      clear_value v13
      have hv14 : Within 0x2000000000060d4227801fff02001f02000000000006 s v14 := by
        unfold v14
        refine Within.ite ?_ ?_
        · exact hv13
        · refine Within.app batchFlush_within rfl ?_
          exact hv13
      clear_value v14
      refine Within.app domainSleep_within rfl ?_
      refine Within.app queueIdle_within rfl ?_
      exact hv14

theorem endRefusals_within {mine s} : Within 0x10000000000000000000000000000000000 s (endRefusals mine s) := by
  unfold endRefusals
  extract_lets v1 v2
  refine Within.upd (e := s) ?_ rfl rfl rfl rfl rfl rfl rfl rfl
  exact Within.refl

theorem endJobAfter_within {jid status after s} :
    Within 0x2000000001060d4227801fff02001f02000000000006 s (endJobAfter jid status after s) := by
  unfold endJobAfter
  split
  · rename_i x1 h2
    exact Within.refl
  · rename_i x3 x4 h5
    refine Within.ite ?_ ?_
    · exact Within.refl
    · refine Within.app jobEnded_within rfl ?_
      refine Within.app endRefusals_within rfl ?_
      refine Within.app updJob_within rfl ?_
      exact Within.refl

theorem endJob_within {jid status s} : Within 0x2000000001060d4227801fff02001f02000000000006 s (endJob jid status s) := by
  unfold endJob
  refine Within.app endJobAfter_within rfl ?_
  exact Within.refl

theorem endJobWith_within {jid status data bytes s} :
    Within 0x2000000001060d4227801fff02001f02000000000006 s (endJobWith jid status data bytes s) := by
  unfold endJobWith
  refine Within.app endJob_within rfl ?_
  refine Within.app updJob_within rfl ?_
  exact Within.refl

theorem captureFenced_within {qid s} : Within 0x2000000000000 s (captureFenced qid s) := by
  unfold captureFenced
  refine Within.ite ?_ ?_
  · exact Within.refl
  · refine Within.app State.capture_within rfl ?_
    exact Within.refl

theorem enterError_within {qid s} : Within 0x60d400780100002001f02000000000006 s (enterError qid s) := by
  unfold enterError
  split
  · rename_i x1 h2
    exact Within.refl
  · rename_i x3 x4 h5
    extract_lets v6 v7
    have hv6 : Within 0x60d400780100002001f02000000000006 s v6 := by
      unfold v6
      refine Within.app updQueue_within rfl ?_
      exact Within.refl
    clear_value v6
    have hv7 : Within 0x60d400780100002001f02000000000006 s v7 := by
      unfold v7
      refine Within.ite ?_ ?_
      · exact hv6
      · refine Within.app dropDrained_within rfl ?_
        exact hv6
    clear_value v7
    refine Within.ite ?_ ?_
    · refine Within.app cqWake_within rfl ?_
      refine Within.app cqDrain_within rfl ?_
      exact hv7
    · exact hv7

theorem malformedEntry_within {q ws pos s} : Within 0x810028000060d400780100002001f0304000d400006 s (malformedEntry q ws pos s) := by
  unfold malformedEntry
  extract_lets v1 v2
  have hv1 : Within 0x810028000060d400780100002001f0304000d400006 s v1 := by
    unfold v1
    refine Within.app report_within rfl ?_
    exact Within.refl
  clear_value v1
  refine Within.app malPush_within rfl ?_
  refine Within.app enterError_within rfl ?_
  refine Within.app captureFenced_within rfl ?_
  exact hv1

theorem malformedDoorbell_within {q pos s} : Within 0x810028000060d400780100002001f0304000d400006 s (malformedDoorbell q pos s) := by
  unfold malformedDoorbell
  extract_lets v1
  have hv1 : Within 0x810028000060d400780100002001f0304000d400006 s v1 := by
    unfold v1
    refine Within.app report_within rfl ?_
    exact Within.refl
  clear_value v1
  refine Within.app queueError_within rfl ?_
  refine Within.app enterError_within rfl ?_
  refine Within.app captureFenced_within rfl ?_
  exact hv1

theorem updRegion_within {i f s} : Within 0x1000000000000000000000000000000000 s (updRegion i f s) := by
  unfold updRegion
  refine Within.upd (e := s) ?_ rfl rfl rfl rfl rfl rfl rfl rfl
  exact Within.refl

theorem captureRma_within {status srcFa key addr s} : Within 0x2000000000000 s (captureRma status srcFa key addr s) := by
  unfold captureRma
  extract_lets v1
  generalize v1 = w2
  split
  · rename_i x3
    exact Within.refl
  · rename_i x4 x5
    refine Within.ite ?_ ?_
    · exact Within.refl
    · refine Within.app State.setReg_within rfl ?_
      refine Within.app State.capture_within rfl ?_
      exact Within.refl

theorem xAdvance_within {x who a2 a3 a4} : Within3 0x60d000300100002001f02000000000006 a4 (xAdvance x who a2 a3 a4) := by
  induction a2 generalizing x who a3 a4
  · rw [xAdvance]
    refine Within3.mk ?_
    exact Within.refl
  · rename_i x1 ih
    rw [xAdvance]
    split
    · rename_i x2 h3
      refine Within3.mk ?_
      exact Within.refl
    · rename_i x4 x5 x6 x7 h8
      refine Within3.ite ?_ ?_
      · split
        rename_i x9 x10 t11 h12
        have ht11 : Within 0x60d000300100002001f02000000000006 a4 t11 := by
          refine Within2.of h12 ?_
          refine Within2.app hostGates_within rfl ?_
          exact Within.refl
        refine Within3.ite ?_ ?_
        · refine Within3.app ih rfl ?_
          exact ht11
        · refine Within3.mk ?_
          exact ht11
      · split
        · rename_i x13 h14
          refine Within3.mk ?_
          exact Within.refl
        · rename_i x15 x16 h17
          refine Within3.ite ?_ ?_
          · refine Within3.mk ?_
            refine Within.app clearFaulted_within rfl ?_
            exact Within.refl
          · split
            · rename_i x18 x19 x20 t21 h22
              have ht21 : Within 0x60d000300100002001f02000000000006 a4 t21 := by
                refine Within2.of h22 ?_
                refine Within2.app translate1_within rfl ?_
                exact Within.refl
              extract_lets v23
              refine Within3.app ih rfl ?_
              exact ht21
            · rename_i x24 t25 h26
              have ht25 : Within 0x60d000300100002001f02000000000006 a4 t25 := by
                refine Within2.of h26 ?_
                refine Within2.app translate1_within rfl ?_
                exact Within.refl
              refine Within3.mk ?_
              exact ht25
            · rename_i x27 x28 t29 ih ih h30
              have ht29 : Within 0x60d000300100002001f02000000000006 a4 t29 := by
                refine Within2.of h30 ?_
                refine Within2.app translate1_within rfl ?_
                exact Within.refl
              refine Within3.mk ?_
              exact ht29

theorem xRun_within {x who p s} : Within3 0x60d000300100002001f02000000000006 s (xRun x who p s) := by
  unfold xRun
  refine Within3.app xAdvance_within rfl ?_
  exact Within.refl

theorem localReady_within {who jid write s} : Within2 0x60d020300100002001f02000000000006 s (localReady who jid write s) := by
  unfold localReady
  split
  · rename_i x1 h2
    refine Within2.mk ?_
    exact Within.refl
  · rename_i x3 x4 h5
    refine Within2.ite ?_ ?_
    · refine Within2.mk ?_
      exact Within.refl
    · extract_lets v6 v7
      refine Within2.ite ?_ ?_
      · refine Within2.mk ?_
        exact Within.refl
      · split
        rename_i x8 x9 x10 t11 h12
        have ht11 : Within 0x60d020300100002001f02000000000006 s t11 := by
          refine Within3.of h12 ?_
          refine Within3.app xRun_within rfl ?_
          exact Within.refl
        extract_lets v13
        have hv13 : Within 0x60d020300100002001f02000000000006 s v13 := by
          unfold v13
          refine Within.app updJob_within rfl ?_
          exact ht11
        clear_value v13
        split
        · rename_i x14
          refine Within2.mk ?_
          exact hv13
        · rename_i x15
          refine Within2.mk ?_
          exact hv13
        · rename_i x16
          refine Within2.mk ?_
          exact hv13
        · rename_i x17
          refine Within2.mk ?_
          exact hv13

theorem placeLocal_within {jid off bs last who s} : Within2 0x60d000300100002001f02000000000006 s (placeLocal jid off bs last who s) := by
  unfold placeLocal
  split
  · rename_i x1 h2
    refine Within2.mk ?_
    exact Within.refl
  · rename_i x3 x4 h5
    split
    · rename_i x6 x7 t8 h9
      have ht8 : Within 0x60d000300100002001f02000000000006 s t8 := by
        refine Within3.of h9 ?_
        refine Within3.app xRun_within rfl ?_
        exact Within.refl
      refine Within2.mk ?_
      refine Within.app State.emits_within rfl ?_
      exact ht8
    · rename_i x10 x11 t12 h13
      have ht12 : Within 0x60d000300100002001f02000000000006 s t12 := by
        refine Within3.of h13 ?_
        refine Within3.app xRun_within rfl ?_
        exact Within.refl
      refine Within2.mk ?_
      exact ht12
    · rename_i x14 x15 t16 h17
      have ht16 : Within 0x60d000300100002001f02000000000006 s t16 := by
        refine Within3.of h17 ?_
        refine Within3.app xRun_within rfl ?_
        exact Within.refl
      refine Within2.mk ?_
      exact ht16
    · rename_i x18 x19 t20 h21
      have ht20 : Within 0x60d000300100002001f02000000000006 s t20 := by
        refine Within3.of h21 ?_
        refine Within3.app xRun_within rfl ?_
        exact Within.refl
      refine Within2.mk ?_
      exact ht20

theorem updPeer_within {k f s} : Within 0x10000000000000000000000000000000000 s (updPeer k f s) := by
  unfold updPeer
  refine Within.upd (e := s) ?_ rfl rfl rfl rfl rfl rfl rfl rfl
  exact Within.refl

theorem updSend_within {k f s} : Within 0x10000000000000000000000000000000000 s (updSend k f s) := by
  unfold updSend
  refine Within.app updPeer_within rfl ?_
  exact Within.refl

theorem updRecv_within {k f s} : Within 0x10000000000000000000000000000000000 s (updRecv k f s) := by
  unfold updRecv
  refine Within.app updPeer_within rfl ?_
  exact Within.refl

theorem peerRoom_within {s} : Within2 0x10000000000000000000000000000000000 s (peerRoom s) := by
  unfold peerRoom
  refine Within2.ite ?_ ?_
  · refine Within2.mk ?_
    exact Within.refl
  · split
    · rename_i x1 h2
      refine Within2.mk ?_
      exact Within.refl
    · rename_i x3 x4 h5
      refine Within2.mk ?_
      refine Within.app updPeer_within rfl ?_
      exact Within.refl

theorem startPeerFetch_within {k s} : Within 0x10000000000000000000000000000000000 s (startPeerFetch k s) := by
  unfold startPeerFetch
  refine Within.ite ?_ ?_
  · split
    · rename_i x1 t2 h3
      have ht2 : Within 0x10000000000000000000000000000000000 s t2 := by
        refine Within2.of h3 ?_
        refine Within2.app peerRoom_within rfl ?_
        exact Within.refl
      refine Within.app updPeer_within rfl ?_
      exact ht2
    · rename_i x4 t5 h6
      have ht5 : Within 0x10000000000000000000000000000000000 s t5 := by
        refine Within2.of h6 ?_
        refine Within2.app peerRoom_within rfl ?_
        exact Within.refl
      exact ht5
  · exact Within.refl

theorem newPeer_within {k s} : Within 0x10000000000000000000000000000000000 s (newPeer k s) := by
  unfold newPeer
  extract_lets v1 v2
  refine Within.upd (e := s) ?_ rfl rfl rfl rfl rfl rfl rfl rfl
  exact Within.refl

theorem usePeer_within {k s} : Within 0x10000000000000000000000000000000000 s (usePeer k s) := by
  unfold usePeer
  refine Within.app updPeer_within rfl ?_
  exact Within.refl

theorem sendControl_within {k t psn w0 w1 s} : Within 0x10000000000000000000000000000000006 s (sendControl k t psn w0 w1 s) := by
  unfold sendControl
  extract_lets v1
  have hv1 : Within 0x10000000000000000000000000000000006 s v1 := by
    unfold v1
    refine Within.ite ?_ ?_
    · exact Within.refl
    · refine Within.app usePeer_within rfl ?_
      exact Within.refl
  clear_value v1
  refine Within.app State.emit_within rfl ?_
  exact hv1

theorem sendAck_within {k s} : Within 0x10000000000000000000000000000000006 s (sendAck k s) := by
  unfold sendAck
  split
  · rename_i x1 h2
    exact Within.refl
  · rename_i x3 x4 h5
    refine Within.app updRecv_within rfl ?_
    refine Within.app sendControl_within rfl ?_
    exact Within.refl

theorem sendNack_within {k s} : Within 0x10000000000000000000000000000000006 s (sendNack k s) := by
  unfold sendNack
  split
  · rename_i x1 h2
    exact Within.refl
  · rename_i x3 x4 h5
    refine Within.app updRecv_within rfl ?_
    refine Within.app sendControl_within rfl ?_
    exact Within.refl

theorem sendNotNow_within {k psn reason s} : Within 0x10000000000100000000000000000000006 s (sendNotNow k psn reason s) := by
  unfold sendNotNow
  refine Within.app State.count_within rfl ?_
  refine Within.app sendControl_within rfl ?_
  exact Within.refl

theorem sendResync_within {k psn s} : Within 0x10000000000100000000000000000000006 s (sendResync k psn s) := by
  unfold sendResync
  refine Within.app State.count_within rfl ?_
  refine Within.app sendControl_within rfl ?_
  exact Within.refl

theorem sendOpen_within {k s} : Within 0x10000000000000000000000000000000006 s (sendOpen k s) := by
  unfold sendOpen
  split
  · rename_i x1 h2
    exact Within.refl
  · rename_i x3 x4 h5
    refine Within.app updSend_within rfl ?_
    refine Within.app sendControl_within rfl ?_
    exact Within.refl

theorem openHalf_within {k s} : Within 0x3000000000000000000000000000000000e s (openHalf k s) := by
  unfold openHalf
  split
  · rename_i x1 x2 h3
    refine Within.ite ?_ ?_
    · refine Within.app sendOpen_within rfl ?_
      refine Within.app updSend_within rfl ?_
      exact Within.refl
    · exact Within.refl
  · rename_i x4 h5
    split
    rename_i x6 x7 t8 h9
    have ht8 : Within 0x3000000000000000000000000000000000e s t8 := by
      refine Within2.of h9 ?_
      refine Within2.app State.drawPsn_within rfl ?_
      exact Within.refl
    extract_lets v10 v11 v12
    have hv11 : Within 0x3000000000000000000000000000000000e s v11 := by
      unfold v11
      refine Within.app updPeer_within rfl ?_
      exact ht8
    clear_value v11
    refine Within.app sendOpen_within rfl ?_
    refine Within.upd (e := v11) ?_ rfl rfl rfl rfl rfl rfl rfl rfl
    exact hv11

theorem afterRelease_within {k op len s} : Within 0x10000000400000000000000000000000000 s (afterRelease k op len s) := by
  unfold afterRelease
  refine Within.ite ?_ ?_
  · exact Within.refl
  · extract_lets v1 v2
    have hv2 : Within 0x10000000400000000000000000000000000 s v2 := by
      unfold v2
      split
      · rename_i x3 h4
        exact Within.refl
      · rename_i x5 x6 h7
        split
        · rename_i x8 h9
          exact Within.refl
        · rename_i x10 x11 x12 x13 h14
          extract_lets v15
          refine Within.app updQueue_within rfl ?_
          exact Within.refl
    refine Within.app updPeer_within rfl ?_
    exact hv2

theorem notePsn_within {k op p s} : Within 0x2800000020000000000000000000000000000 s (notePsn k op p s) := by
  unfold notePsn
  split
  · rename_i x1 x2
    extract_lets v3 v4
    have hv3 : Within 0x2800000020000000000000000000000000000 s v3 := by
      unfold v3
      refine Within.app updJob_within rfl ?_
      exact Within.refl
    clear_value v3
    refine Within.upd (e := v3) ?_ rfl rfl rfl rfl rfl rfl rfl rfl
    exact hv3
  · rename_i x5 x6
    refine Within.ite ?_ ?_
    · extract_lets v7 v8
      refine Within.upd (e := s) ?_ rfl rfl rfl rfl rfl rfl rfl rfl
      exact Within.refl
    · exact Within.refl
  · rename_i x9 ih ih
    exact Within.refl

theorem numberPkt_within {k o s} : Within 0x2810000020000000000000000000000000000 s (numberPkt k o s) := by
  unfold numberPkt
  split
  · rename_i x1 h2
    exact Within.refl
  · rename_i x3 x4 h5
    extract_lets v6 v7 v8
    refine Within.app notePsn_within rfl ?_
    refine Within.app updSend_within rfl ?_
    exact Within.refl

theorem useKey_within {k u s} : Within 0x10000000000000000000000000000000000 s (useKey k u s) := by
  unfold useKey
  refine Within.app updPeer_within rfl ?_
  exact Within.refl

theorem keyGone_within {o s} : Within 0x20000000000000000000000000000 s (keyGone o s) := by
  unfold keyGone
  split
  · rename_i x1 x2 h3
    refine Within.app updJob_within rfl ?_
    exact Within.refl
  · rename_i x4 ih
    exact Within.refl

theorem putOut_within {k o s} : Within 0x10000020000100000000000000000000006 s (putOut k o s) := by
  unfold putOut
  extract_lets v1 v2 v3 v4 v5 v6
  have hv6 : Within 0x10000020000100000000000000000000006 s v6 := by
    unfold v6
    refine Within.ite ?_ ?_
    · refine Within.app useKey_within rfl ?_
      exact Within.refl
    · exact Within.refl
  clear_value v6
  refine Within.ite ?_ ?_
  · refine Within.app keyGone_within rfl ?_
    exact Within.refl
  · refine Within.app State.count_within rfl ?_
    refine Within.app State.count_within rfl ?_
    refine Within.app State.emit_within rfl ?_
    refine Within.app usePeer_within rfl ?_
    exact hv6

theorem release_within {k o s} : Within 0x10000020400100000000000000000000006 s (release k o s) := by
  unfold release
  extract_lets v1 v2 v3 v4
  have hv4 : Within 0x10000020400100000000000000000000006 s v4 := by
    unfold v4
    refine Within.app updSend_within rfl ?_
    exact Within.refl
  clear_value v4
  refine Within.app afterRelease_within rfl ?_
  refine Within.app putOut_within rfl ?_
  exact hv4

theorem resend_within {k o data s} : Within 0x10000020400100000000000000000000006 s (resend k o data s) := by
  unfold resend
  extract_lets v1 v2 v3
  have hv1 : Within 0x10000020400100000000000000000000006 s v1 := by
    unfold v1
    refine Within.app updSend_within rfl ?_
    exact Within.refl
  clear_value v1
  refine Within.app afterRelease_within rfl ?_
  refine Within.app State.count_within rfl ?_
  refine Within.app putOut_within rfl ?_
  exact hv1

theorem pump_within {k a1 a2} : Within 0x10000020400100000000000000000000006 a2 (pump k a1 a2) := by
  induction a1 generalizing k a2
  · rw [pump]
    exact Within.refl
  · rename_i x1 ih
    rw [pump]
    split
    · rename_i x2 h3
      exact Within.refl
    · rename_i x4 x5 h6
      split
      · rename_i x7 h8
        exact Within.refl
      · rename_i x9 x10 h11
        refine Within.ite ?_ ?_
        · exact Within.refl
        · split
          · rename_i x12 x13 x14 h15
            refine Within.app ih rfl ?_
            refine Within.app resend_within rfl ?_
            exact Within.refl
          · rename_i x16 h17
            split
            · rename_i x18 h19
              exact Within.refl
            · rename_i x20 x21 x22 h23
              refine Within.ite ?_ ?_
              · refine Within.app ih rfl ?_
                refine Within.app release_within rfl ?_
                exact Within.refl
              · exact Within.refl

theorem pumpAll_within {k s} : Within 0x10000020400100000000000000000000006 s (pumpAll k s) := by
  unfold pumpAll
  refine Within.app pump_within rfl ?_
  exact Within.refl

theorem askClose_within {s} : Within 0x10000000000000000000000000000000006 s (askClose s) := by
  unfold askClose
  refine Within.ite ?_ ?_
  · exact Within.refl
  · split
    · rename_i x1 h2
      exact Within.refl
    · rename_i x3 x4 h5
      extract_lets v6 v7
      refine Within.app updPeer_within rfl ?_
      refine Within.app sendControl_within rfl ?_
      exact Within.refl

theorem peerReady_within {k s} : Within2 0x10000000000000000000000000000000006 s (peerReady k s) := by
  unfold peerReady
  split
  · rename_i x1 x2 h3
    refine Within2.ite ?_ ?_
    · refine Within2.mk ?_
      exact Within.refl
    · refine Within2.ite ?_ ?_
      · refine Within2.mk ?_
        exact Within.refl
      · refine Within2.mk ?_
        refine Within.app startPeerFetch_within rfl ?_
        exact Within.refl
  · rename_i x4 h5
    refine Within2.ite ?_ ?_
    · split
      · rename_i x6 t7 h8
        have ht7 : Within 0x10000000000000000000000000000000006 s t7 := by
          refine Within2.of h8 ?_
          refine Within2.app peerRoom_within rfl ?_
          exact Within.refl
        refine Within2.mk ?_
        refine Within.app newPeer_within rfl ?_
        exact ht7
      · rename_i x9 t10 h11
        have ht10 : Within 0x10000000000000000000000000000000006 s t10 := by
          refine Within2.of h11 ?_
          refine Within2.app peerRoom_within rfl ?_
          exact Within.refl
        refine Within2.mk ?_
        exact ht10
    · refine Within2.mk ?_
      refine Within.app askClose_within rfl ?_
      exact Within.refl

theorem peerQueues_within {k s} : Within2 0x10000000000000000000000000000000006 s (peerQueues k s) := by
  unfold peerQueues
  split
  · rename_i x1 x2 h3
    refine Within2.ite ?_ ?_
    · refine Within2.mk ?_
      exact Within.refl
    · refine Within2.mk ?_
      refine Within.app startPeerFetch_within rfl ?_
      exact Within.refl
  · rename_i x4 h5
    refine Within2.app peerReady_within rfl ?_
    exact Within.refl

theorem sendOut_within {k l s} : Within 0x28b000002040010000000000000000000000e s (sendOut k l s) := by
  unfold sendOut
  split
  · rename_i x1 t2 h3
    have ht2 : Within 0x28b000002040010000000000000000000000e s t2 := by
      refine Within2.of h3 ?_
      refine Within2.app peerQueues_within rfl ?_
      exact Within.refl
    refine Within.upd (e := t2) ?_ rfl rfl rfl rfl rfl rfl rfl rfl
    exact ht2
  · rename_i x4 t5 h6
    have ht5 : Within 0x28b000002040010000000000000000000000e s t5 := by
      refine Within2.of h6 ?_
      refine Within2.app peerQueues_within rfl ?_
      exact Within.refl
    refine Within.app pumpAll_within rfl ?_
    refine Within.foldl ?_ ?_
    · intro t7 x8
      refine Within.app numberPkt_within rfl ?_
      exact Within.refl
    · refine Within.app openHalf_within rfl ?_
      refine Within.app usePeer_within rfl ?_
      exact ht5

theorem sendOn_within {k op ps s} : Within 0x28b000002040010000000000000000000000e s (sendOn k op ps s) := by
  unfold sendOn
  refine Within.app sendOut_within rfl ?_
  exact Within.refl

theorem requeueOne_within {k o l s} : Within 0x2810000020000000000000000000000000000 s (requeueOne k o l s) := by
  unfold requeueOne
  extract_lets v1 v2 v3 v4 v5 v6
  have hv3 : Within 0x2810000020000000000000000000000000000 s v3 := by
    unfold v3
    refine Within.upd (e := s) ?_ rfl rfl rfl rfl rfl rfl rfl rfl
    exact Within.refl
  clear_value v3
  refine Within.app numberPkt_within rfl ?_
  exact hv3

theorem requeue_within {k a1 a2 a3} : Within 0x2810000020000000000000000000000000000 a3 (requeue k a1 a2 a3) := by
  induction a1 generalizing k a2 a3
  · rw [requeue]
    exact Within.refl
  · rename_i x1 x2 ih
    rw [requeue]
    refine Within.app ih rfl ?_
    refine Within.app requeueOne_within rfl ?_
    exact Within.refl

theorem unqueue_within {k op s} : Within 0x2890000020000000000000000000000000000 s (unqueue k op s) := by
  unfold unqueue
  extract_lets v1 v2 v3 v4
  have hv4 : Within 0x2890000020000000000000000000000000000 s v4 := by
    unfold v4
    refine Within.upd (e := s) ?_ rfl rfl rfl rfl rfl rfl rfl rfl
    exact Within.refl
  clear_value v4
  split
  · rename_i x5 h6
    exact hv4
  · rename_i x7 x8 h9
    split
    · rename_i x10 h11
      exact hv4
    · rename_i x12 x13 x14 h15
      refine Within.app requeue_within rfl ?_
      refine Within.app updSend_within rfl ?_
      exact hv4

theorem waitingGo_within {s} : Within 0x28b000002040010000000000000000000000e s (waitingGo s) := by
  unfold waitingGo
  refine Within.foldl ?_ ?_
  · intro t1 x2
    refine Within.app sendOut_within rfl ?_
    exact Within.refl
  · refine Within.upd (e := s) ?_ rfl rfl rfl rfl rfl rfl rfl rfl
    exact Within.refl

theorem sendStatus_within {k req pkey group status lockUnit s} :
    Within 0x28b000002040010000000000000000000000e s (sendStatus k req pkey group status lockUnit s) := by
  unfold sendStatus
  refine Within.app sendOn_within rfl ?_
  exact Within.refl

end Sys2Proof.Machine
end

