-- ==== Sys2Proof/Laws/Ring.lean ====
section
/-! SUPPORT. What a command of the admin ring does once it is at its turn, and how it completes. -/

namespace Sys2Proof.Machine

/-- A gate that permits a write leaves the state and answers none. -/
theorem gateCheck_write {gate a len kind mid : Nat} {pkey : Option Nat} {s : State} (hk : kind ≠ 0 ∧ kind ≠ 2)
    (h : s.gateRefuses gate a len ⟨mid, pkey, true⟩ = none) : gateCheckAll gate [(a, len)] kind mid pkey s = (none, s) := by
  rw [State.gateRefuses] at h
  simp [gateCheckAll, hk.1, hk.2, h]

/-- A gate that permits a read leaves the state and answers none. -/
theorem gateCheck_read {gate a len mid : Nat} {pkey : Option Nat} {s : State}
    (h : s.gateRefuses gate a len ⟨mid, pkey, false⟩ = none) : gateCheckAll gate [(a, len)] 0 mid pkey s = (none, s) := by
  rw [State.gateRefuses] at h
  simp [gateCheckAll, h]

/-- An access that every window of its port permits leaves the state. -/
theorem hostGates_permits {port kind mid : Nat} {segs : List (Nat × Nat)} {pkey : Option Nat} {s : State}
    (hw : ∀ w, w < 8 → gateCheckAll (0x40 + 8 * port + w) segs kind mid pkey s = (none, s)) : hostGates port kind mid pkey segs s = (true, s) := by
  have : ∀ l : List Nat, (∀ w ∈ l, w < 8) → l.foldl
      (fun acc w =>
        let gate := 0x40 + 8 * port + w
        let (r, s) := gateCheckAll gate segs kind mid pkey acc.2
        (acc.1.orElse (fun _ => r.map (fun rule => at_ 8 gate + rule)), s))
      ((none, s) : Option Nat × State) = (none, s) := by
    intro l hl
    induction l with
    | nil => rfl
    | cons x l ih =>
      simp only [List.foldl_cons, hw x (hl x (by simp))]
      exact ih (fun w hw => hl w (by simp [hw]))
  simp only [hostGates, hostRefusal, this (List.range 8) (fun w hw => by simpa using hw)]
  rfl

/-- What putting one request out leaves: all but the lists of what was put out and what is held. -/
theorem emit_form (s : State) (o : Out) : ∃ x y, s.emit o = { s with out := x, heldOut := y } ∧ s.out <+: x ∧ s.heldOut <+: y := by
  unfold State.emit State.emitInto
  split
  · exact ⟨s.out, _, rfl, List.prefix_refl _, List.prefix_append _ _⟩
  · exact ⟨_, s.heldOut, rfl, List.prefix_append _ _, List.prefix_refl _⟩

theorem emit_regs {s : State} {o : Out} : (s.emit o).regs = s.regs := by unfold State.emit State.emitInto; split <;> rfl
theorem emit_cmd {s : State} {o : Out} : (s.emit o).cmd = s.cmd := by unfold State.emit State.emitInto; split <;> rfl
theorem emit_clk {s : State} {o : Out} : (s.emit o).clk = s.clk := by unfold State.emit State.emitInto; split <;> rfl
theorem emit_gates {s : State} {o : Out} : (s.emit o).gates = s.gates := by unfold State.emit State.emitInto; split <;> rfl

/-- What waking the domain of a command's object leaves alone. -/
theorem wakeForCommand_keeps (obj : Nat × Nat × Nat) (s : State) :
    (wakeForCommand obj s).cmd = s.cmd ∧ (wakeForCommand obj s).regs = s.regs ∧ (wakeForCommand obj s).gates = s.gates ∧
      (wakeForCommand obj s).out = s.out ∧ (wakeForCommand obj s).heldOut = s.heldOut := by
  have h := wakeForCommand_within (obj := obj) (s := s)
  have hc : ∀ c : Cmd, eraseCmd 0x20000000000000000000100000000000000000000000 c = c := fun _ => rfl
  have h0 := congrArg (fun x : State => x.cmd) h.rest
  simp only [erase, hc] at h0
  exact ⟨h0, h.keeps_regs rfl, h.keeps_gates rfl, h.keeps_out rfl, h.keeps_heldOut rfl⟩

/-- A command that begins and that nothing turns away runs its body, with the domain of its object woken. -/
theorem beginCmd_body {op : Nat} {chan : Channel} {a : CmdArgs} {body : CmdBody} {env : CmdEnv} {s u : State} {b : Begun}
    (hb : b = { chan := chan, opcode := op, tag := a.tag, mid := a.mid, obj := objectOf op a })
    (hu : u = { s with cmd := { s.cmd with begun := s.cmd.begun ++ [b] } })
    (ha : u.auditBlocks = false) (hm : a.mid < 0x800) (ht : a.target = 0)
    (hg : gateCheck 0x17 op 1 3 a.mid none u = (none, u)) :
    beginCmd op chan env a body s = match body env a b (wakeForCommand (objectOf op a) u) with
      | (.done status detail r0 r1, u) => completeCmd b status detail r0 r1 u
      | (.wait, u) => u
      | (.work, v) => { v with cmd := { v.cmd with working := v.cmd.working ++ [{ begun := b, env := env, args := a, start := u.clk.now, prior := u.cmd.shadow, committed := none }] } } := by
  subst hb
  have hm' : ¬ 0x800 ≤ a.mid := by omega
  have hadmit : admitCmd { chan := chan, opcode := op, tag := a.tag, mid := a.mid, obj := objectOf op a } u = (none, u) := by
    unfold admitCmd
    rw [if_neg (by rw [ha]; decide), if_neg (by simp [hm']), hg]
  unfold beginCmd
  extract_lets b' c' s'
  obtain rfl : s' = u := hu.symm
  rw [show admitCmd b' s' = (none, s') from hadmit]
  dsimp only
  rw [if_neg (by simp [ht])] <;> rfl

/-- The read of the command, and the command taken: what `takenBy` starts from. -/
theorem readRing_permits {op : Nat} {a : CmdArgs} {s : State} (h : RingTurn op a s) :
    readRing s = (true, ({ s with cmd := { s.cmd with next := s.cmd.next + 1 } } : State).emit
      (.hostRead s.hif.nextReq (s.fld .cmdRingBase 0 58 56) (s.ringAddr s.cmd.next) 64 false)) := by
  unfold readRing
  dsimp only
  rw [hostGates_permits (fun w hw => gateCheck_read (h.read w hw))]
  rfl

/-- The state in which a command that has been read has begun. -/
def begunIn (op : Nat) (a : CmdArgs) (s : State) : State :=
  let t := ({ s with cmd := { s.cmd with next := s.cmd.next + 1 } } : State).emit
    (.hostRead s.hif.nextReq (s.fld .cmdRingBase 0 58 56) (s.ringAddr s.cmd.next) 64 false)
  { t with cmd := { t.cmd with begun := t.cmd.begun ++ [begunAs op a s] } }

theorem takenBy_eq (op : Nat) (a : CmdArgs) (s : State) : takenBy op a s = wakeForCommand (objectOf op a) (begunIn op a s) := rfl

/-- A command at its turn: its body decides what completes it. -/
theorem ring_turn {op : Nat} {a : CmdArgs} {body : CmdBody} {env : CmdEnv} {s : State} (h : RingTurn op a s) :
    onRing op body env a s = .next (match body env a (begunAs op a s) (takenBy op a s) with
      | (.done status detail r0 r1, u) => completeCmd (begunAs op a s) status detail r0 r1 u
      | (.wait, u) => u
      | (.work, u) => { u with cmd := { u.cmd with working := u.cmd.working ++ [{ begun := begunAs op a s, env := env, args := a, start := s.clk.now, prior := s.cmd.shadow, committed := none }] } }) := by
  have ho : whenRunning outsideGo s = s := by
    unfold whenRunning outsideGo
    rw [h.outside]
    split <;> rfl
  have hop : opcodeOf op a = op := by unfold opcodeOf; rw [h.opcode.1]; rfl
  have hbad : cmdBad op a = false := by simp [cmdBad, h.reserved, h.opcode.2, h.here.1]
  unfold onRing runRing
  rw [ho, if_neg (by simp [h.ready])]
  dsimp only
  rw [hop, hbad, if_neg (by simp [h.free, h.outside, h.here.1]), if_neg (by simp [h.port]), readRing_permits h]
  dsimp only
  rw [if_neg (by decide), if_neg (by decide), if_neg (by simp [h.here.1])]
  obtain ⟨x, y, he, -, -⟩ := emit_form ({ s with cmd := { s.cmd with next := s.cmd.next + 1 } } : State)
    (.hostRead s.hif.nextReq (s.fld .cmdRingBase 0 58 56) (s.ringAddr s.cmd.next) 64 false)
  have hu : begunIn op a s = { s with out := x, heldOut := y, cmd := { s.cmd with next := s.cmd.next + 1, begun := s.cmd.begun ++ [begunAs op a s] } } := by
    unfold begunIn; dsimp only; rw [he]
  rw [takenBy_eq, beginCmd_body (b := begunAs op a s) (u := begunIn op a s) rfl rfl (by rw [hu]; exact h.audit) h.host h.here.2
    (gateCheck_write (by decide) (by rw [hu]; exact h.gate))]
  rw [show (begunIn op a s).clk = s.clk by rw [hu], show (begunIn op a s).cmd.shadow = s.cmd.shadow by rw [hu]]

theorem erase_last {l : List Begun} {b : Begun} (h : ∀ x ∈ l, x.chan ≠ b.chan) : (l ++ [b]).erase b = l := by
  have hn : b ∉ l := fun hb => h b hb rfl
  rw [List.erase_append_right _ hn]; simp

/-! ### Registers -/

theorem rfGet_insert_ne {f : RegFile} {x y : Nat} {w : Word} (h : y ≠ x) : rfGet (rfInsert f x w) y = rfGet f y := by
  induction f with
  | nil => simp only [rfInsert, rfGet]; rw [if_neg (by omega)]; split <;> rfl
  | cons e l ih =>
    obtain ⟨a, v⟩ := e
    simp only [rfInsert]
    split
    · subst_vars; have : ¬ a = y := fun e => h e.symm
      simp [rfGet, this]
    · split
      · simp only [rfGet]
        by_cases hy : y < x
        · rw [if_neg (by omega), if_pos hy]; rw [if_neg (by omega), if_pos (by omega)]
        · rw [if_neg (by omega), if_neg hy]
      · simp only [rfGet, ih]

theorem rfGet_insert {f : RegFile} {x : Nat} {w : Word} : rfGet (rfInsert f x w) x = some w := by
  induction f with
  | nil => simp [rfInsert, rfGet]
  | cons e l ih =>
    obtain ⟨a, v⟩ := e
    simp only [rfInsert]
    split
    · simp [rfGet]
    · split
      · simp [rfGet]
      · simp only [rfGet, ih]; rw [if_neg (by assumption), if_neg (by assumption)]

/-- A register that a store of a value other than the reset value does not reach reads as before. -/
theorem raw_setReg_ne {s : State} {r q : Reg} {i k j l v : Nat} (hv : word v ≠ word (r.reset k)) (h : regAddr q j l ≠ regAddr r i k) :
    (s.setReg r i k v).raw q j l = s.raw q j l := by
  unfold State.raw State.setReg rfPut
  rw [if_neg hv]
  cases q.info.cs with
  | true => rfl
  | false => simp only [Bool.false_eq_true, if_false, rfGet_insert_ne h]

/-- A captured value is not 0. -/
theorem word_capture (v : Nat) : word (v % 2 ^ 63 + 2 ^ 63) ≠ 0#64 := by
  intro h
  have : (word (v % 2 ^ 63 + 2 ^ 63)).toNat = 0 := by rw [h]; rfl
  simp only [word, BitVec.toNat_ofNat] at this
  have := Nat.mod_lt v (show 2 ^ 63 > 0 by decide)
  omega

theorem cmdErr_raw {s : State} {chan op st pos j l : Nat} {q : Reg} (h : regAddr q j l ≠ regAddr .cmdErr 0 0) :
    (cmdErr chan op st pos s).raw q j l = s.raw q j l := by
  unfold cmdErr State.capture
  split
  · rfl
  · exact raw_setReg_ne (word_capture _) h

/-- What a gate decides rests on the rules and windows alone. -/
theorem gateRefuses_congr {s u : State} {gate a len : Nat} {x : Access_} (hg : u.gates = s.gates)
    (hb : u.raw .gteHostwinBase 0 (gate - 0x40) = s.raw .gteHostwinBase 0 (gate - 0x40))
    (hl : u.raw .gteHostwinLimit 0 (gate - 0x40) = s.raw .gteHostwinLimit 0 (gate - 0x40)) :
    u.gateRefuses gate a len x = s.gateRefuses gate a len x := by
  have hr : ∀ n, u.rule gate n = s.rule gate n := by intro n; simp only [State.rule, hg]
  have hd : ∀ b, u.decider gate b x = s.decider gate b x := by intro b; simp only [State.decider, hg, hr]
  have hc : ∀ b, u.covers gate b = s.covers gate b := by intro b; simp only [State.covers, State.fld, hb, hl]; rfl
  have he : u.edges gate a len = s.edges gate a len := by simp only [State.edges, State.fld, hg, hb]
  unfold State.gateRefuses State.gateRefusesAny
  simp only [List.flatMap_cons, List.flatMap_nil, he, hd, hc]

theorem emit_puts {s : State} {o : Out} : o ∈ (s.emit o).out.drop s.out.length ∨ (∃ h ∈ (s.emit o).heldOut, h.out = o) := by
  unfold State.emit State.emitInto
  split
  · right; simp
  · left; simp

theorem winAddr {r : Reg} (h : r = .gteHostwinBase ∨ r = .gteHostwinLimit) {n : Nat} (hn : n < 64) :
    regAddr r 0 n ≠ regAddr .cmdErr 0 0 := by
  rcases h with rfl | rfl <;> simp only [regAddr, Reg.info, Block.map] <;> omega

theorem cmdAddr {r : Reg} (h : r = .cmdRingBase ∨ r = .cmdStatusBase ∨ r = .cmdCi) : regAddr r 0 0 ≠ regAddr .cmdErr 0 0 := by
  rcases h with rfl | rfl | rfl <;> simp only [regAddr, Reg.info, Block.map] <;> omega

theorem bits_lt {n hi lo : Nat} : bits n hi lo < 2 ^ (hi + 1 - lo) := by
  unfold bits; exact Nat.mod_lt _ (Nat.two_pow_pos _)

theorem raw_congr {s u : State} {r : Reg} {i k : Nat} (h : r.info.cs = false) (hr : u.regs = s.regs) : u.raw r i k = s.raw r i k := by
  unfold State.raw
  simp only [h, hr, Bool.false_eq_true, if_false]

theorem setReg_congr {s u : State} {r : Reg} {i k v : Nat} (hr : u.regs = s.regs) : (u.setReg r i k v).regs = (s.setReg r i k v).regs := by
  unfold State.setReg; rw [hr]

theorem cmdErr_regs {s u : State} {c op st p : Nat} (hr : u.regs = s.regs) : (cmdErr c op st p u).regs = (cmdErr c op st p s).regs := by
  unfold cmdErr State.capture
  rw [raw_congr rfl hr]
  split
  · exact hr
  · exact setReg_congr hr

/-- A capture changes registers alone. -/
theorem cmdErr_eq {s : State} {c op st p : Nat} : cmdErr c op st p s = { s with regs := (cmdErr c op st p s).regs } := by
  unfold cmdErr State.capture
  cases bit (s.raw .cmdErr 0 0) 63 with
  | true => simp only [if_true]
  | false => simp only [Bool.false_eq_true, if_false, State.setReg]

/-- What answering a ring position does once its slot may be written. -/
theorem answer_ring {p : Pos} {mid : Nat} {ws : Bool → List Word} {v : State}
    (hs : ∀ w, w < 8 → v.gateRefuses (0x40 + 8 * v.fld .cmdRingBase 0 58 56 + w) (v.statusAddr p) 32 ⟨mid, none, true⟩ = none) :
    answer (.ring p) mid ws v =
      ringDone p (v.emit (.record (v.fld .cmdRingBase 0 58 56) mid (v.statusAddr p) (ws (phaseOf p v.ringK)) false)) := by
  unfold answer
  dsimp only
  rw [hostGates_permits (fun w hw => gateCheck_write (by decide) (hs w hw))]
  rfl

/-- What the completion of a command at its turn reads of the state that its body left: the ring's registers as they were, and its
status slot permitted. -/
structure RingKept (op : Nat) (a : CmdArgs) (s u : State) : Prop where
  cmd : u.cmd.next = s.cmd.next + 1 ∧ u.cmd.begun = s.cmd.begun ++ [begunAs op a s] ∧ u.cmd.remote = s.cmd.remote ∧ u.cmd.doneAhead = s.cmd.doneAhead
  ring : u.raw .cmdRingBase 0 0 = s.raw .cmdRingBase 0 0
  status : u.raw .cmdStatusBase 0 0 = s.raw .cmdStatusBase 0 0
  ci : u.raw .cmdCi 0 0 = s.raw .cmdCi 0 0
  slot : ∀ w, w < 8 → u.gateRefuses (0x40 + 8 * s.fld .cmdRingBase 0 58 56 + w) (s.statusAddr s.cmd.next) 32 ⟨a.mid, none, true⟩ = none
  out : s.out <+: u.out

/-- Taking a command leaves the registers and gates, and what was put out stays. -/
theorem takenBy_keeps (op : Nat) (a : CmdArgs) (s : State) :
    (takenBy op a s).cmd = { s.cmd with next := s.cmd.next + 1, begun := s.cmd.begun ++ [begunAs op a s] } ∧ (takenBy op a s).regs = s.regs ∧
      (takenBy op a s).gates = s.gates ∧ s.out <+: (takenBy op a s).out := by
  have k := wakeForCommand_keeps (objectOf op a) (begunIn op a s)
  rw [← takenBy_eq] at k
  obtain ⟨kc, kr, kg, ko, -⟩ := k
  rw [kc, kr, kg, ko]
  obtain ⟨x, y, he, hp, -⟩ := emit_form ({ s with cmd := { s.cmd with next := s.cmd.next + 1 } } : State)
    (.hostRead s.hif.nextReq (s.fld .cmdRingBase 0 58 56) (s.ringAddr s.cmd.next) 64 false)
  unfold begunIn
  dsimp only
  rw [he]
  exact ⟨rfl, rfl, rfl, hp⟩

/-- Bodies that leave registers and gates alone keep all that. -/
theorem RingKept.of {op : Nat} {a : CmdArgs} {s u : State} (h : RingTurn op a s) (hc : u.cmd = (takenBy op a s).cmd)
    (hr : u.regs = s.regs) (hg : u.gates = s.gates) (ho : u.out = (takenBy op a s).out) : RingKept op a s u where
  cmd := by
    rw [hc, (takenBy_keeps op a s).1]
    exact ⟨rfl, rfl, rfl, rfl⟩
  ring := raw_congr rfl hr
  status := raw_congr rfl hr
  ci := raw_congr rfl hr
  slot := fun w hw => by rw [gateRefuses_congr hg (raw_congr rfl hr) (raw_congr rfl hr)]; exact h.slot w hw
  out := ho ▸ (takenBy_keeps op a s).2.2.2

/-- Completing the command that was just begun. -/
theorem completeCmd_answered {op : Nat} {a : CmdArgs} {s u : State} {status detail r0 r1 : Nat} (h : RingTurn op a s) (k : RingKept op a s u) :
    Answered op a s u (completeCmd (begunAs op a s) status detail r0 r1 u) status detail r0 r1 := by
  unfold completeCmd
  extract_lets c u1 v t
  have hv : v.regs = (if status = csOk then u else cmdErr 0 op status s.cmd.next.toNat u).regs := by
    show (if status = csOk then u1 else _).regs = _
    split
    · rfl
    · exact cmdErr_regs rfl
  have h1 : u1.cmd = { u.cmd with begun := s.cmd.begun, working := u.cmd.working.filter (fun w => w.begun ≠ begunAs op a s) } := by
    simp only [u1, c, k.cmd.2.1]
    rw [erase_last h.fresh]
  have hcmd : v.cmd = { u.cmd with begun := s.cmd.begun, working := u.cmd.working.filter (fun w => w.begun ≠ begunAs op a s) } := by
    show (if status = csOk then u1 else _).cmd = _
    split
    · exact h1
    · rw [cmdErr_eq]; exact h1
  have hgv : v.gates = u.gates := by
    show (if status = csOk then u1 else _).gates = _
    split
    · rfl
    · rw [cmdErr_eq]
  have hov : v.out = u.out := by
    show (if status = csOk then u1 else _).out = _
    split
    · rfl
    · rw [cmdErr_eq]
  have hraw : ∀ (r : Reg) (k : Nat), regAddr r 0 k ≠ regAddr .cmdErr 0 0 → r.info.cs = false → v.raw r 0 k = u.raw r 0 k := by
    intro r k hne hcs
    show (if status = csOk then u1 else _).raw r 0 k = _
    split
    · exact raw_congr hcs rfl
    · exact (cmdErr_raw hne).trans (raw_congr hcs rfl)
  have hb := (hraw .cmdRingBase 0 (cmdAddr (by simp)) rfl).trans k.ring
  have hst := (hraw .cmdStatusBase 0 (cmdAddr (by simp)) rfl).trans k.status
  have hci := (hraw .cmdCi 0 (cmdAddr (by simp)) rfl).trans k.ci
  have hfld : v.fld .cmdRingBase 0 58 56 = s.fld .cmdRingBase 0 58 56 := by simp only [State.fld, hb]
  have hk : v.ringK = s.ringK := by simp only [State.ringK, State.fld, hb]
  have hsa : v.statusAddr s.cmd.next = s.statusAddr s.cmd.next := by simp only [State.statusAddr, hk, State.fld, hst]
  have hlt : s.fld .cmdRingBase 0 58 56 < 8 := bits_lt
  rw [show (begunAs op a s).chan = .ring s.cmd.next from rfl, answer_ring ?_]
  · rw [hfld, hk, hsa]
    unfold ringDone
    rw [emit_cmd, hcmd]
    dsimp only
    rw [k.cmd.2.2.2]
    have e1 : State.cmdCi (v.emit (.record (s.fld .cmdRingBase 0 58 56) (begunAs op a s).mid (s.statusAddr s.cmd.next)
        (statusWords (if status = csOk then r0 else 0) r1 t (begunAs op a s).opcode status detail (begunAs op a s).tag (phaseOf s.cmd.next s.ringK)) false)) = s.cmdCi := by
      unfold State.cmdCi
      rw [raw_congr rfl emit_regs, hci]
    rw [e1]
    refine ⟨k.cmd.1, rfl, k.cmd.2.2.1, ?_, ?_⟩
    · unfold doneRegs
      exact setReg_congr (emit_regs.trans hv)
    · unfold Puts
      have hdrop : ∀ (l : List Out) (o : Out), o ∈ l.drop u.out.length → o ∈ l.drop s.out.length := fun l o ho => by
        have hl := k.out.length_le
        rw [show u.out.length = s.out.length + (u.out.length - s.out.length) by omega, ← List.drop_drop] at ho
        exact List.mem_of_mem_drop ho
      have := emit_puts (s := v) (o := .record (s.fld .cmdRingBase 0 58 56) a.mid (s.statusAddr s.cmd.next)
        (statusWords (if status = csOk then r0 else 0) r1 v.dtimeNs op status detail a.tag (phaseOf s.cmd.next s.ringK)) false)
      rw [hov] at this
      have := this.imp_left (hdrop _ _)
      unfold State.dtimeNs at *
      show _ ∈ (State.emit v _).out.drop _ ∨ ∃ h ∈ (State.emit v _).heldOut, h.out = _
      simp only [State.setReg, emit_clk]
      exact this
  · intro w hw
    have hn : 0x40 + 8 * s.fld .cmdRingBase 0 58 56 + w - 0x40 < 64 := by omega
    rw [hfld, hsa, gateRefuses_congr hgv (hraw _ _ (winAddr (by simp) hn) rfl) (hraw _ _ (winAddr (by simp) hn) rfl)]
    exact k.slot w hw

/-- What was put out by a first part of a step is put out by the step. -/
theorem Puts.mono {s u : State} {o : Out} {x : List Out} {y : List HeldOut} (h : Puts s u o) (hx : u.out <+: x) (hy : u.heldOut <+: y) :
    o ∈ x.drop s.out.length ∨ ∃ h ∈ y, h.out = o := by
  refine h.imp (fun h => ?_) (fun ⟨a, ha, e⟩ => ⟨a, hy.subset ha, e⟩)
  obtain ⟨z, rfl⟩ := hx
  rw [List.drop_append]
  exact List.mem_append_left _ h

/-- What completing it leaves alone: all but what was put out, the registers and the ring. -/
theorem completeCmd_form {op : Nat} {a : CmdArgs} {s u : State} {status detail r0 r1 : Nat} (h : RingTurn op a s) (k : RingKept op a s u) :
    ∃ x y r d w, completeCmd (begunAs op a s) status detail r0 r1 u =
      { u with out := x, heldOut := y, regs := r, cmd := { u.cmd with begun := s.cmd.begun, doneAhead := d, working := w } } ∧ u.out <+: x ∧ u.heldOut <+: y := by
  unfold completeCmd
  extract_lets c u1 v t
  have h1 : u1.cmd = { u.cmd with begun := s.cmd.begun, working := u.cmd.working.filter (fun w => w.begun ≠ begunAs op a s) } := by
    simp only [u1, c, k.cmd.2.1]
    rw [erase_last h.fresh]
  obtain ⟨r, hv⟩ : ∃ r, v = { u1 with regs := r } := by
    show ∃ r, (if status = csOk then u1 else _) = _
    split
    · exact ⟨u1.regs, rfl⟩
    · exact ⟨_, cmdErr_eq⟩
  have hcmd : v.cmd = { u.cmd with begun := s.cmd.begun, working := u.cmd.working.filter (fun w => w.begun ≠ begunAs op a s) } := by rw [hv]; exact h1
  have hgv : v.gates = u.gates := by rw [hv]
  have hraw : ∀ (r : Reg) (k : Nat), regAddr r 0 k ≠ regAddr .cmdErr 0 0 → r.info.cs = false → v.raw r 0 k = u.raw r 0 k := by
    intro r k hne hcs
    show (if status = csOk then u1 else _).raw r 0 k = _
    split
    · exact raw_congr hcs rfl
    · exact (cmdErr_raw hne).trans (raw_congr hcs rfl)
  have hb := (hraw .cmdRingBase 0 (cmdAddr (by simp)) rfl).trans k.ring
  have hst := (hraw .cmdStatusBase 0 (cmdAddr (by simp)) rfl).trans k.status
  have hfld : v.fld .cmdRingBase 0 58 56 = s.fld .cmdRingBase 0 58 56 := by simp only [State.fld, hb]
  have hk : v.ringK = s.ringK := by simp only [State.ringK, State.fld, hb]
  have hsa : v.statusAddr s.cmd.next = s.statusAddr s.cmd.next := by simp only [State.statusAddr, hk, State.fld, hst]
  have hlt : s.fld .cmdRingBase 0 58 56 < 8 := bits_lt
  rw [show (begunAs op a s).chan = .ring s.cmd.next from rfl, answer_ring ?_]
  · obtain ⟨x, y, he, hp⟩ := emit_form v (.record (v.fld .cmdRingBase 0 58 56) (begunAs op a s).mid (v.statusAddr s.cmd.next)
        (statusWords (if status = csOk then r0 else 0) r1 t (begunAs op a s).opcode status detail (begunAs op a s).tag (phaseOf s.cmd.next v.ringK)) false)
    rw [he]
    have ho' : v.out = u.out ∧ v.heldOut = u.heldOut := by rw [hv]; exact ⟨rfl, rfl⟩
    unfold ringDone
    dsimp only
    rw [hcmd]
    clear_value t v
    subst hv
    rw [ho'.1, ho'.2] at hp
    exact ⟨x, y, _, _, _, rfl, hp⟩
  · intro w hw
    have hn : 0x40 + 8 * s.fld .cmdRingBase 0 58 56 + w - 0x40 < 64 := by omega
    rw [hfld, hsa, gateRefuses_congr hgv (hraw _ _ (winAddr (by simp) hn) rfl) (hraw _ _ (winAddr (by simp) hn) rfl)]
    exact k.slot w hw

/-- A command completed at its turn. -/
theorem ring_kept {op : Nat} {a : CmdArgs} {body : CmdBody} {env : CmdEnv} {s u : State} {status detail r0 r1 : Nat} (h : RingTurn op a s)
    (hb : body env a (begunAs op a s) (takenBy op a s) = (.done status detail r0 r1, u)) (k : RingKept op a s u) :
    ∃ t, onRing op body env a s = .next t ∧ Answered op a s u t status detail r0 r1 ∧
      ∃ x y r d w, t = { u with out := x, heldOut := y, regs := r, cmd := { u.cmd with begun := s.cmd.begun, doneAhead := d, working := w } } ∧ u.out <+: x ∧ u.heldOut <+: y := by
  rw [ring_turn h, hb]
  exact ⟨_, rfl, completeCmd_answered h k, completeCmd_form h k⟩

/-- A command completed at its turn, whose body left registers and gates alone. -/
theorem ring_done {op : Nat} {a : CmdArgs} {body : CmdBody} {env : CmdEnv} {s u : State} {status detail r0 r1 : Nat} (h : RingTurn op a s)
    (hb : body env a (begunAs op a s) (takenBy op a s) = (.done status detail r0 r1, u))
    (hc : u.cmd = (takenBy op a s).cmd) (hr : u.regs = s.regs) (hg : u.gates = s.gates) (ho : u.out = (takenBy op a s).out) :
    ∃ t, onRing op body env a s = .next t ∧ Answered op a s u t status detail r0 r1 ∧
      ∃ x y r d w, t = { u with out := x, heldOut := y, regs := r, cmd := { u.cmd with begun := s.cmd.begun, doneAhead := d, working := w } } ∧ u.out <+: x ∧ u.heldOut <+: y :=
  ring_kept h hb (.of h hc hr hg ho)

/-- A command that goes on after its turn. -/
theorem ring_wait {op : Nat} {a : CmdArgs} {body : CmdBody} {env : CmdEnv} {s u : State} (h : RingTurn op a s)
    (hb : body env a (begunAs op a s) (takenBy op a s) = (.wait, u)) : onRing op body env a s = .next u := by rw [ring_turn h, hb]

/-- Two states with the same registers answer alike. -/
theorem Answered.congr {op : Nat} {a : CmdArgs} {s u v t : State} {status detail r0 r1 : Nat} (h : Answered op a s u t status detail r0 r1)
    (hr : v.regs = u.regs) : Answered op a s v t status detail r0 r1 := by
  refine ⟨h.1, h.2.1, h.2.2.1, h.2.2.2.1.trans ?_, h.2.2.2.2⟩
  unfold doneRegs
  refine setReg_congr ?_
  split
  · exact hr.symm
  · exact cmdErr_regs hr.symm

end Sys2Proof.Machine
end

