-- ==== Sys2Proof/Laws/State.lean ====
section
/-! SUPPORT. What each update of the state leaves alone, and what it sets: one lemma per field per update, so that no proof need unfold a
record update. -/

namespace Sys2Proof.Machine

/-! `State.setReg` -/

@[simp] theorem setReg_pending {s : State} {r : Reg} {i k v : Nat} : (s.setReg r i k v).pending = s.pending := rfl

@[simp] theorem setReg_out {s : State} {r : Reg} {i k v : Nat} : (s.setReg r i k v).out = s.out := rfl

@[simp] theorem setReg_heldOut {s : State} {r : Reg} {i k v : Nat} : (s.setReg r i k v).heldOut = s.heldOut := rfl

@[simp] theorem setReg_freeCtr {s : State} {r : Reg} {i k v : Nat} : (s.setReg r i k v).freeCtr = s.freeCtr := rfl

@[simp] theorem setReg_clk {s : State} {r : Reg} {i k v : Nat} : (s.setReg r i k v).clk = s.clk := rfl

@[simp] theorem setReg_sys {s : State} {r : Reg} {i k v : Nat} : (s.setReg r i k v).sys = s.sys := rfl

@[simp] theorem setReg_bank0 {s : State} {r : Reg} {i k v : Nat} : (s.setReg r i k v).bank0 = s.bank0 := rfl

@[simp] theorem setReg_bank1 {s : State} {r : Reg} {i k v : Nat} : (s.setReg r i k v).bank1 = s.bank1 := rfl

@[simp] theorem setReg_sec {s : State} {r : Reg} {i k v : Nat} : (s.setReg r i k v).sec = s.sec := rfl

@[simp] theorem setReg_gates {s : State} {r : Reg} {i k v : Nat} : (s.setReg r i k v).gates = s.gates := rfl

@[simp] theorem setReg_pend {s : State} {r : Reg} {i k v : Nat} : (s.setReg r i k v).pend = s.pend := rfl

@[simp] theorem setReg_engines {s : State} {r : Reg} {i k v : Nat} : (s.setReg r i k v).engines = s.engines := rfl

@[simp] theorem setReg_mem {s : State} {r : Reg} {i k v : Nat} : (s.setReg r i k v).mem = s.mem := rfl

@[simp] theorem setReg_cmd {s : State} {r : Reg} {i k v : Nat} : (s.setReg r i k v).cmd = s.cmd := rfl

@[simp] theorem setReg_counters {s : State} {r : Reg} {i k v : Nat} : (s.setReg r i k v).counters = s.counters := rfl

@[simp] theorem setReg_dump {s : State} {r : Reg} {i k v : Nat} : (s.setReg r i k v).dump = s.dump := rfl

@[simp] theorem setReg_hif {s : State} {r : Reg} {i k v : Nat} : (s.setReg r i k v).hif = s.hif := rfl

@[simp] theorem setReg_qmg {s : State} {r : Reg} {i k v : Nat} : (s.setReg r i k v).qmg = s.qmg := rfl

@[simp] theorem setReg_xlt {s : State} {r : Reg} {i k v : Nat} : (s.setReg r i k v).xlt = s.xlt := rfl

@[simp] theorem setReg_rma {s : State} {r : Reg} {i k v : Nat} : (s.setReg r i k v).rma = s.rma := rfl

@[simp] theorem setReg_trn {s : State} {r : Reg} {i k v : Nat} : (s.setReg r i k v).trn = s.trn := rfl

@[simp] theorem setReg_svc {s : State} {r : Reg} {i k v : Nat} : (s.setReg r i k v).svc = s.svc := rfl

@[simp] theorem setReg_fab {s : State} {r : Reg} {i k v : Nat} : (s.setReg r i k v).fab = s.fab := rfl

/-! `State.advance` -/

@[simp] theorem advance_pending {s : State} {d : Nat} : (s.advance d).pending = s.pending := rfl

@[simp] theorem advance_out {s : State} {d : Nat} : (s.advance d).out = s.out := rfl

@[simp] theorem advance_heldOut {s : State} {d : Nat} : (s.advance d).heldOut = s.heldOut := rfl

@[simp] theorem advance_freeCtr {s : State} {d : Nat} : (s.advance d).freeCtr = s.freeCtr := rfl

@[simp] theorem advance_sys {s : State} {d : Nat} : (s.advance d).sys = s.sys := rfl

@[simp] theorem advance_regs {s : State} {d : Nat} : (s.advance d).regs = s.regs := rfl

@[simp] theorem advance_bank0 {s : State} {d : Nat} : (s.advance d).bank0 = s.bank0 := rfl

@[simp] theorem advance_bank1 {s : State} {d : Nat} : (s.advance d).bank1 = s.bank1 := rfl

@[simp] theorem advance_sec {s : State} {d : Nat} : (s.advance d).sec = s.sec := rfl

@[simp] theorem advance_gates {s : State} {d : Nat} : (s.advance d).gates = s.gates := rfl

@[simp] theorem advance_pend {s : State} {d : Nat} : (s.advance d).pend = s.pend := rfl

@[simp] theorem advance_engines {s : State} {d : Nat} : (s.advance d).engines = s.engines := rfl

@[simp] theorem advance_mem {s : State} {d : Nat} : (s.advance d).mem = s.mem := rfl

@[simp] theorem advance_cmd {s : State} {d : Nat} : (s.advance d).cmd = s.cmd := rfl

@[simp] theorem advance_counters {s : State} {d : Nat} : (s.advance d).counters = s.counters := rfl

@[simp] theorem advance_dump {s : State} {d : Nat} : (s.advance d).dump = s.dump := rfl

@[simp] theorem advance_hif {s : State} {d : Nat} : (s.advance d).hif = s.hif := rfl

@[simp] theorem advance_qmg {s : State} {d : Nat} : (s.advance d).qmg = s.qmg := rfl

@[simp] theorem advance_xlt {s : State} {d : Nat} : (s.advance d).xlt = s.xlt := rfl

@[simp] theorem advance_rma {s : State} {d : Nat} : (s.advance d).rma = s.rma := rfl

@[simp] theorem advance_trn {s : State} {d : Nat} : (s.advance d).trn = s.trn := rfl

@[simp] theorem advance_svc {s : State} {d : Nat} : (s.advance d).svc = s.svc := rfl

@[simp] theorem advance_fab {s : State} {d : Nat} : (s.advance d).fab = s.fab := rfl

/-! `State.clearOvf` -/

@[simp] theorem clearOvf_pending {s : State} {i : Nat} : (s.clearOvf i).pending = s.pending := rfl

@[simp] theorem clearOvf_out {s : State} {i : Nat} : (s.clearOvf i).out = s.out := rfl

@[simp] theorem clearOvf_heldOut {s : State} {i : Nat} : (s.clearOvf i).heldOut = s.heldOut := rfl

@[simp] theorem clearOvf_freeCtr {s : State} {i : Nat} : (s.clearOvf i).freeCtr = s.freeCtr := rfl

@[simp] theorem clearOvf_clk {s : State} {i : Nat} : (s.clearOvf i).clk = s.clk := rfl

@[simp] theorem clearOvf_sys {s : State} {i : Nat} : (s.clearOvf i).sys = s.sys := rfl

@[simp] theorem clearOvf_regs {s : State} {i : Nat} : (s.clearOvf i).regs = s.regs := rfl

@[simp] theorem clearOvf_bank0 {s : State} {i : Nat} : (s.clearOvf i).bank0 = s.bank0 := rfl

@[simp] theorem clearOvf_bank1 {s : State} {i : Nat} : (s.clearOvf i).bank1 = s.bank1 := rfl

@[simp] theorem clearOvf_sec {s : State} {i : Nat} : (s.clearOvf i).sec = s.sec := rfl

@[simp] theorem clearOvf_gates {s : State} {i : Nat} : (s.clearOvf i).gates = s.gates := rfl

@[simp] theorem clearOvf_pend {s : State} {i : Nat} : (s.clearOvf i).pend = s.pend := rfl

@[simp] theorem clearOvf_engines {s : State} {i : Nat} : (s.clearOvf i).engines = s.engines := rfl

@[simp] theorem clearOvf_mem {s : State} {i : Nat} : (s.clearOvf i).mem = s.mem := rfl

@[simp] theorem clearOvf_cmd {s : State} {i : Nat} : (s.clearOvf i).cmd = s.cmd := rfl

@[simp] theorem clearOvf_dump {s : State} {i : Nat} : (s.clearOvf i).dump = s.dump := rfl

@[simp] theorem clearOvf_hif {s : State} {i : Nat} : (s.clearOvf i).hif = s.hif := rfl

@[simp] theorem clearOvf_qmg {s : State} {i : Nat} : (s.clearOvf i).qmg = s.qmg := rfl

@[simp] theorem clearOvf_xlt {s : State} {i : Nat} : (s.clearOvf i).xlt = s.xlt := rfl

@[simp] theorem clearOvf_rma {s : State} {i : Nat} : (s.clearOvf i).rma = s.rma := rfl

@[simp] theorem clearOvf_trn {s : State} {i : Nat} : (s.clearOvf i).trn = s.trn := rfl

@[simp] theorem clearOvf_svc {s : State} {i : Nat} : (s.clearOvf i).svc = s.svc := rfl

@[simp] theorem clearOvf_fab {s : State} {i : Nat} : (s.clearOvf i).fab = s.fab := rfl

/-! `drawNat` -/

@[simp] theorem drawNat_pending {s : State} : (s.drawNat.2).pending = s.pending := rfl

@[simp] theorem drawNat_out {s : State} : (s.drawNat.2).out = s.out := rfl

@[simp] theorem drawNat_heldOut {s : State} : (s.drawNat.2).heldOut = s.heldOut := rfl

@[simp] theorem drawNat_freeCtr {s : State} : (s.drawNat.2).freeCtr = s.freeCtr + 1 := rfl

@[simp] theorem drawNat_clk {s : State} : (s.drawNat.2).clk = s.clk := rfl

@[simp] theorem drawNat_sys {s : State} : (s.drawNat.2).sys = s.sys := rfl

@[simp] theorem drawNat_regs {s : State} : (s.drawNat.2).regs = s.regs := rfl

@[simp] theorem drawNat_bank0 {s : State} : (s.drawNat.2).bank0 = s.bank0 := rfl

@[simp] theorem drawNat_bank1 {s : State} : (s.drawNat.2).bank1 = s.bank1 := rfl

@[simp] theorem drawNat_sec {s : State} : (s.drawNat.2).sec = s.sec := rfl

@[simp] theorem drawNat_gates {s : State} : (s.drawNat.2).gates = s.gates := rfl

@[simp] theorem drawNat_pend {s : State} : (s.drawNat.2).pend = s.pend := rfl

@[simp] theorem drawNat_engines {s : State} : (s.drawNat.2).engines = s.engines := rfl

@[simp] theorem drawNat_mem {s : State} : (s.drawNat.2).mem = s.mem := rfl

@[simp] theorem drawNat_cmd {s : State} : (s.drawNat.2).cmd = s.cmd := rfl

@[simp] theorem drawNat_counters {s : State} : (s.drawNat.2).counters = s.counters := rfl

@[simp] theorem drawNat_dump {s : State} : (s.drawNat.2).dump = s.dump := rfl

@[simp] theorem drawNat_hif {s : State} : (s.drawNat.2).hif = s.hif := rfl

@[simp] theorem drawNat_qmg {s : State} : (s.drawNat.2).qmg = s.qmg := rfl

@[simp] theorem drawNat_xlt {s : State} : (s.drawNat.2).xlt = s.xlt := rfl

@[simp] theorem drawNat_rma {s : State} : (s.drawNat.2).rma = s.rma := rfl

@[simp] theorem drawNat_trn {s : State} : (s.drawNat.2).trn = s.trn := rfl

@[simp] theorem drawNat_svc {s : State} : (s.drawNat.2).svc = s.svc := rfl

@[simp] theorem drawNat_fab {s : State} : (s.drawNat.2).fab = s.fab := rfl

/-! `drawWord` -/

@[simp] theorem drawWord_pending {s : State} : (s.drawWord.2).pending = s.pending := rfl

@[simp] theorem drawWord_out {s : State} : (s.drawWord.2).out = s.out := rfl

@[simp] theorem drawWord_heldOut {s : State} : (s.drawWord.2).heldOut = s.heldOut := rfl

@[simp] theorem drawWord_freeCtr {s : State} : (s.drawWord.2).freeCtr = s.freeCtr + 1 := rfl

@[simp] theorem drawWord_clk {s : State} : (s.drawWord.2).clk = s.clk := rfl

@[simp] theorem drawWord_sys {s : State} : (s.drawWord.2).sys = s.sys := rfl

@[simp] theorem drawWord_regs {s : State} : (s.drawWord.2).regs = s.regs := rfl

@[simp] theorem drawWord_bank0 {s : State} : (s.drawWord.2).bank0 = s.bank0 := rfl

@[simp] theorem drawWord_bank1 {s : State} : (s.drawWord.2).bank1 = s.bank1 := rfl

@[simp] theorem drawWord_sec {s : State} : (s.drawWord.2).sec = s.sec := rfl

@[simp] theorem drawWord_gates {s : State} : (s.drawWord.2).gates = s.gates := rfl

@[simp] theorem drawWord_pend {s : State} : (s.drawWord.2).pend = s.pend := rfl

@[simp] theorem drawWord_engines {s : State} : (s.drawWord.2).engines = s.engines := rfl

@[simp] theorem drawWord_mem {s : State} : (s.drawWord.2).mem = s.mem := rfl

@[simp] theorem drawWord_cmd {s : State} : (s.drawWord.2).cmd = s.cmd := rfl

@[simp] theorem drawWord_counters {s : State} : (s.drawWord.2).counters = s.counters := rfl

@[simp] theorem drawWord_dump {s : State} : (s.drawWord.2).dump = s.dump := rfl

@[simp] theorem drawWord_hif {s : State} : (s.drawWord.2).hif = s.hif := rfl

@[simp] theorem drawWord_qmg {s : State} : (s.drawWord.2).qmg = s.qmg := rfl

@[simp] theorem drawWord_xlt {s : State} : (s.drawWord.2).xlt = s.xlt := rfl

@[simp] theorem drawWord_rma {s : State} : (s.drawWord.2).rma = s.rma := rfl

@[simp] theorem drawWord_trn {s : State} : (s.drawWord.2).trn = s.trn := rfl

@[simp] theorem drawWord_svc {s : State} : (s.drawWord.2).svc = s.svc := rfl

@[simp] theorem drawWord_fab {s : State} : (s.drawWord.2).fab = s.fab := rfl

/-! `drawPsn` -/

@[simp] theorem drawPsn_pending {s : State} : (s.drawPsn.2).pending = s.pending := rfl

@[simp] theorem drawPsn_out {s : State} : (s.drawPsn.2).out = s.out := rfl

@[simp] theorem drawPsn_heldOut {s : State} : (s.drawPsn.2).heldOut = s.heldOut := rfl

@[simp] theorem drawPsn_freeCtr {s : State} : (s.drawPsn.2).freeCtr = s.freeCtr + 1 := rfl

@[simp] theorem drawPsn_clk {s : State} : (s.drawPsn.2).clk = s.clk := rfl

@[simp] theorem drawPsn_sys {s : State} : (s.drawPsn.2).sys = s.sys := rfl

@[simp] theorem drawPsn_regs {s : State} : (s.drawPsn.2).regs = s.regs := rfl

@[simp] theorem drawPsn_bank0 {s : State} : (s.drawPsn.2).bank0 = s.bank0 := rfl

@[simp] theorem drawPsn_bank1 {s : State} : (s.drawPsn.2).bank1 = s.bank1 := rfl

@[simp] theorem drawPsn_sec {s : State} : (s.drawPsn.2).sec = s.sec := rfl

@[simp] theorem drawPsn_gates {s : State} : (s.drawPsn.2).gates = s.gates := rfl

@[simp] theorem drawPsn_pend {s : State} : (s.drawPsn.2).pend = s.pend := rfl

@[simp] theorem drawPsn_engines {s : State} : (s.drawPsn.2).engines = s.engines := rfl

@[simp] theorem drawPsn_mem {s : State} : (s.drawPsn.2).mem = s.mem := rfl

@[simp] theorem drawPsn_cmd {s : State} : (s.drawPsn.2).cmd = s.cmd := rfl

@[simp] theorem drawPsn_counters {s : State} : (s.drawPsn.2).counters = s.counters := rfl

@[simp] theorem drawPsn_dump {s : State} : (s.drawPsn.2).dump = s.dump := rfl

@[simp] theorem drawPsn_hif {s : State} : (s.drawPsn.2).hif = s.hif := rfl

@[simp] theorem drawPsn_qmg {s : State} : (s.drawPsn.2).qmg = s.qmg := rfl

@[simp] theorem drawPsn_xlt {s : State} : (s.drawPsn.2).xlt = s.xlt := rfl

@[simp] theorem drawPsn_rma {s : State} : (s.drawPsn.2).rma = s.rma := rfl

@[simp] theorem drawPsn_trn {s : State} : (s.drawPsn.2).trn = s.trn := rfl

@[simp] theorem drawPsn_svc {s : State} : (s.drawPsn.2).svc = s.svc := rfl

@[simp] theorem drawPsn_fab {s : State} : (s.drawPsn.2).fab = s.fab := rfl

/-! `updFab` -/

@[simp] theorem updFab_pending {s : State} {f : Fabric → Fabric} : (updFab f s).pending = s.pending := rfl

@[simp] theorem updFab_out {s : State} {f : Fabric → Fabric} : (updFab f s).out = s.out := rfl

@[simp] theorem updFab_heldOut {s : State} {f : Fabric → Fabric} : (updFab f s).heldOut = s.heldOut := rfl

@[simp] theorem updFab_freeCtr {s : State} {f : Fabric → Fabric} : (updFab f s).freeCtr = s.freeCtr := rfl

@[simp] theorem updFab_clk {s : State} {f : Fabric → Fabric} : (updFab f s).clk = s.clk := rfl

@[simp] theorem updFab_sys {s : State} {f : Fabric → Fabric} : (updFab f s).sys = s.sys := rfl

@[simp] theorem updFab_regs {s : State} {f : Fabric → Fabric} : (updFab f s).regs = s.regs := rfl

@[simp] theorem updFab_bank0 {s : State} {f : Fabric → Fabric} : (updFab f s).bank0 = s.bank0 := rfl

@[simp] theorem updFab_bank1 {s : State} {f : Fabric → Fabric} : (updFab f s).bank1 = s.bank1 := rfl

@[simp] theorem updFab_sec {s : State} {f : Fabric → Fabric} : (updFab f s).sec = s.sec := rfl

@[simp] theorem updFab_gates {s : State} {f : Fabric → Fabric} : (updFab f s).gates = s.gates := rfl

@[simp] theorem updFab_pend {s : State} {f : Fabric → Fabric} : (updFab f s).pend = s.pend := rfl

@[simp] theorem updFab_engines {s : State} {f : Fabric → Fabric} : (updFab f s).engines = s.engines := rfl

@[simp] theorem updFab_mem {s : State} {f : Fabric → Fabric} : (updFab f s).mem = s.mem := rfl

@[simp] theorem updFab_cmd {s : State} {f : Fabric → Fabric} : (updFab f s).cmd = s.cmd := rfl

@[simp] theorem updFab_counters {s : State} {f : Fabric → Fabric} : (updFab f s).counters = s.counters := rfl

@[simp] theorem updFab_dump {s : State} {f : Fabric → Fabric} : (updFab f s).dump = s.dump := rfl

@[simp] theorem updFab_hif {s : State} {f : Fabric → Fabric} : (updFab f s).hif = s.hif := rfl

@[simp] theorem updFab_qmg {s : State} {f : Fabric → Fabric} : (updFab f s).qmg = s.qmg := rfl

@[simp] theorem updFab_xlt {s : State} {f : Fabric → Fabric} : (updFab f s).xlt = s.xlt := rfl

@[simp] theorem updFab_rma {s : State} {f : Fabric → Fabric} : (updFab f s).rma = s.rma := rfl

@[simp] theorem updFab_trn {s : State} {f : Fabric → Fabric} : (updFab f s).trn = s.trn := rfl

@[simp] theorem updFab_svc {s : State} {f : Fabric → Fabric} : (updFab f s).svc = s.svc := rfl

@[simp] theorem updFab_fab {s : State} {f : Fabric → Fabric} : (updFab f s).fab = f s.fab := rfl

/-! `updClk` -/

@[simp] theorem updClk_pending {s : State} {f : Clk → Clk} : (updClk f s).pending = s.pending := rfl

@[simp] theorem updClk_out {s : State} {f : Clk → Clk} : (updClk f s).out = s.out := rfl

@[simp] theorem updClk_heldOut {s : State} {f : Clk → Clk} : (updClk f s).heldOut = s.heldOut := rfl

@[simp] theorem updClk_freeCtr {s : State} {f : Clk → Clk} : (updClk f s).freeCtr = s.freeCtr := rfl

@[simp] theorem updClk_clk {s : State} {f : Clk → Clk} : (updClk f s).clk = f s.clk := rfl

@[simp] theorem updClk_sys {s : State} {f : Clk → Clk} : (updClk f s).sys = s.sys := rfl

@[simp] theorem updClk_regs {s : State} {f : Clk → Clk} : (updClk f s).regs = s.regs := rfl

@[simp] theorem updClk_bank0 {s : State} {f : Clk → Clk} : (updClk f s).bank0 = s.bank0 := rfl

@[simp] theorem updClk_bank1 {s : State} {f : Clk → Clk} : (updClk f s).bank1 = s.bank1 := rfl

@[simp] theorem updClk_sec {s : State} {f : Clk → Clk} : (updClk f s).sec = s.sec := rfl

@[simp] theorem updClk_gates {s : State} {f : Clk → Clk} : (updClk f s).gates = s.gates := rfl

@[simp] theorem updClk_pend {s : State} {f : Clk → Clk} : (updClk f s).pend = s.pend := rfl

@[simp] theorem updClk_engines {s : State} {f : Clk → Clk} : (updClk f s).engines = s.engines := rfl

@[simp] theorem updClk_mem {s : State} {f : Clk → Clk} : (updClk f s).mem = s.mem := rfl

@[simp] theorem updClk_cmd {s : State} {f : Clk → Clk} : (updClk f s).cmd = s.cmd := rfl

@[simp] theorem updClk_counters {s : State} {f : Clk → Clk} : (updClk f s).counters = s.counters := rfl

@[simp] theorem updClk_dump {s : State} {f : Clk → Clk} : (updClk f s).dump = s.dump := rfl

@[simp] theorem updClk_hif {s : State} {f : Clk → Clk} : (updClk f s).hif = s.hif := rfl

@[simp] theorem updClk_qmg {s : State} {f : Clk → Clk} : (updClk f s).qmg = s.qmg := rfl

@[simp] theorem updClk_xlt {s : State} {f : Clk → Clk} : (updClk f s).xlt = s.xlt := rfl

@[simp] theorem updClk_rma {s : State} {f : Clk → Clk} : (updClk f s).rma = s.rma := rfl

@[simp] theorem updClk_trn {s : State} {f : Clk → Clk} : (updClk f s).trn = s.trn := rfl

@[simp] theorem updClk_svc {s : State} {f : Clk → Clk} : (updClk f s).svc = s.svc := rfl

@[simp] theorem updClk_fab {s : State} {f : Clk → Clk} : (updClk f s).fab = s.fab := rfl

/-! `updPwr` -/

@[simp] theorem updPwr_pending {s : State} {f : Pwr → Pwr} : (updPwr f s).pending = s.pending := rfl

@[simp] theorem updPwr_out {s : State} {f : Pwr → Pwr} : (updPwr f s).out = s.out := rfl

@[simp] theorem updPwr_heldOut {s : State} {f : Pwr → Pwr} : (updPwr f s).heldOut = s.heldOut := rfl

@[simp] theorem updPwr_freeCtr {s : State} {f : Pwr → Pwr} : (updPwr f s).freeCtr = s.freeCtr := rfl

@[simp] theorem updPwr_clk {s : State} {f : Pwr → Pwr} : (updPwr f s).clk = s.clk := rfl

@[simp] theorem updPwr_sys {s : State} {f : Pwr → Pwr} : (updPwr f s).sys = s.sys := rfl

@[simp] theorem updPwr_regs {s : State} {f : Pwr → Pwr} : (updPwr f s).regs = s.regs := rfl

@[simp] theorem updPwr_bank0 {s : State} {f : Pwr → Pwr} : (updPwr f s).bank0 = s.bank0 := rfl

@[simp] theorem updPwr_bank1 {s : State} {f : Pwr → Pwr} : (updPwr f s).bank1 = s.bank1 := rfl

@[simp] theorem updPwr_sec {s : State} {f : Pwr → Pwr} : (updPwr f s).sec = s.sec := rfl

@[simp] theorem updPwr_gates {s : State} {f : Pwr → Pwr} : (updPwr f s).gates = s.gates := rfl

@[simp] theorem updPwr_pend {s : State} {f : Pwr → Pwr} : (updPwr f s).pend = s.pend := rfl

@[simp] theorem updPwr_engines {s : State} {f : Pwr → Pwr} : (updPwr f s).engines = s.engines := rfl

@[simp] theorem updPwr_mem {s : State} {f : Pwr → Pwr} : (updPwr f s).mem = s.mem := rfl

@[simp] theorem updPwr_cmd {s : State} {f : Pwr → Pwr} : (updPwr f s).cmd = s.cmd := rfl

@[simp] theorem updPwr_counters {s : State} {f : Pwr → Pwr} : (updPwr f s).counters = s.counters := rfl

@[simp] theorem updPwr_dump {s : State} {f : Pwr → Pwr} : (updPwr f s).dump = s.dump := rfl

@[simp] theorem updPwr_hif {s : State} {f : Pwr → Pwr} : (updPwr f s).hif = s.hif := rfl

@[simp] theorem updPwr_qmg {s : State} {f : Pwr → Pwr} : (updPwr f s).qmg = s.qmg := rfl

@[simp] theorem updPwr_xlt {s : State} {f : Pwr → Pwr} : (updPwr f s).xlt = s.xlt := rfl

@[simp] theorem updPwr_rma {s : State} {f : Pwr → Pwr} : (updPwr f s).rma = s.rma := rfl

@[simp] theorem updPwr_trn {s : State} {f : Pwr → Pwr} : (updPwr f s).trn = s.trn := rfl

@[simp] theorem updPwr_svc {s : State} {f : Pwr → Pwr} : (updPwr f s).svc = s.svc := rfl

@[simp] theorem updPwr_fab {s : State} {f : Pwr → Pwr} : (updPwr f s).fab = { s.fab with pwr := f s.fab.pwr } := rfl

/-! `updQueue` -/

@[simp] theorem updQueue_pending {s : State} {q : Nat} {f : Queue → Queue} : (updQueue q f s).pending = s.pending := rfl

@[simp] theorem updQueue_out {s : State} {q : Nat} {f : Queue → Queue} : (updQueue q f s).out = s.out := rfl

@[simp] theorem updQueue_heldOut {s : State} {q : Nat} {f : Queue → Queue} : (updQueue q f s).heldOut = s.heldOut := rfl

@[simp] theorem updQueue_freeCtr {s : State} {q : Nat} {f : Queue → Queue} : (updQueue q f s).freeCtr = s.freeCtr := rfl

@[simp] theorem updQueue_clk {s : State} {q : Nat} {f : Queue → Queue} : (updQueue q f s).clk = s.clk := rfl

@[simp] theorem updQueue_sys {s : State} {q : Nat} {f : Queue → Queue} : (updQueue q f s).sys = s.sys := rfl

@[simp] theorem updQueue_regs {s : State} {q : Nat} {f : Queue → Queue} : (updQueue q f s).regs = s.regs := rfl

@[simp] theorem updQueue_bank0 {s : State} {q : Nat} {f : Queue → Queue} : (updQueue q f s).bank0 = s.bank0 := rfl

@[simp] theorem updQueue_bank1 {s : State} {q : Nat} {f : Queue → Queue} : (updQueue q f s).bank1 = s.bank1 := rfl

@[simp] theorem updQueue_sec {s : State} {q : Nat} {f : Queue → Queue} : (updQueue q f s).sec = s.sec := rfl

@[simp] theorem updQueue_gates {s : State} {q : Nat} {f : Queue → Queue} : (updQueue q f s).gates = s.gates := rfl

@[simp] theorem updQueue_pend {s : State} {q : Nat} {f : Queue → Queue} : (updQueue q f s).pend = s.pend := rfl

@[simp] theorem updQueue_engines {s : State} {q : Nat} {f : Queue → Queue} : (updQueue q f s).engines = s.engines := rfl

@[simp] theorem updQueue_mem {s : State} {q : Nat} {f : Queue → Queue} : (updQueue q f s).mem = s.mem := rfl

@[simp] theorem updQueue_cmd {s : State} {q : Nat} {f : Queue → Queue} : (updQueue q f s).cmd = s.cmd := rfl

@[simp] theorem updQueue_counters {s : State} {q : Nat} {f : Queue → Queue} : (updQueue q f s).counters = s.counters := rfl

@[simp] theorem updQueue_dump {s : State} {q : Nat} {f : Queue → Queue} : (updQueue q f s).dump = s.dump := rfl

@[simp] theorem updQueue_hif {s : State} {q : Nat} {f : Queue → Queue} : (updQueue q f s).hif = s.hif := rfl

@[simp] theorem updQueue_xlt {s : State} {q : Nat} {f : Queue → Queue} : (updQueue q f s).xlt = s.xlt := rfl

@[simp] theorem updQueue_rma {s : State} {q : Nat} {f : Queue → Queue} : (updQueue q f s).rma = s.rma := rfl

@[simp] theorem updQueue_trn {s : State} {q : Nat} {f : Queue → Queue} : (updQueue q f s).trn = s.trn := rfl

@[simp] theorem updQueue_svc {s : State} {q : Nat} {f : Queue → Queue} : (updQueue q f s).svc = s.svc := rfl

@[simp] theorem updQueue_fab {s : State} {q : Nat} {f : Queue → Queue} : (updQueue q f s).fab = s.fab := rfl

/-! `updSink` -/

@[simp] theorem updSink_pending {s : State} {q : Nat} {f : Sink → Sink} : (updSink q f s).pending = s.pending := rfl

@[simp] theorem updSink_out {s : State} {q : Nat} {f : Sink → Sink} : (updSink q f s).out = s.out := rfl

@[simp] theorem updSink_heldOut {s : State} {q : Nat} {f : Sink → Sink} : (updSink q f s).heldOut = s.heldOut := rfl

@[simp] theorem updSink_freeCtr {s : State} {q : Nat} {f : Sink → Sink} : (updSink q f s).freeCtr = s.freeCtr := rfl

@[simp] theorem updSink_clk {s : State} {q : Nat} {f : Sink → Sink} : (updSink q f s).clk = s.clk := rfl

@[simp] theorem updSink_sys {s : State} {q : Nat} {f : Sink → Sink} : (updSink q f s).sys = s.sys := rfl

@[simp] theorem updSink_regs {s : State} {q : Nat} {f : Sink → Sink} : (updSink q f s).regs = s.regs := rfl

@[simp] theorem updSink_bank0 {s : State} {q : Nat} {f : Sink → Sink} : (updSink q f s).bank0 = s.bank0 := rfl

@[simp] theorem updSink_bank1 {s : State} {q : Nat} {f : Sink → Sink} : (updSink q f s).bank1 = s.bank1 := rfl

@[simp] theorem updSink_sec {s : State} {q : Nat} {f : Sink → Sink} : (updSink q f s).sec = s.sec := rfl

@[simp] theorem updSink_gates {s : State} {q : Nat} {f : Sink → Sink} : (updSink q f s).gates = s.gates := rfl

@[simp] theorem updSink_pend {s : State} {q : Nat} {f : Sink → Sink} : (updSink q f s).pend = s.pend := rfl

@[simp] theorem updSink_engines {s : State} {q : Nat} {f : Sink → Sink} : (updSink q f s).engines = s.engines := rfl

@[simp] theorem updSink_mem {s : State} {q : Nat} {f : Sink → Sink} : (updSink q f s).mem = s.mem := rfl

@[simp] theorem updSink_cmd {s : State} {q : Nat} {f : Sink → Sink} : (updSink q f s).cmd = s.cmd := rfl

@[simp] theorem updSink_counters {s : State} {q : Nat} {f : Sink → Sink} : (updSink q f s).counters = s.counters := rfl

@[simp] theorem updSink_dump {s : State} {q : Nat} {f : Sink → Sink} : (updSink q f s).dump = s.dump := rfl

@[simp] theorem updSink_hif {s : State} {q : Nat} {f : Sink → Sink} : (updSink q f s).hif = s.hif := rfl

@[simp] theorem updSink_xlt {s : State} {q : Nat} {f : Sink → Sink} : (updSink q f s).xlt = s.xlt := rfl

@[simp] theorem updSink_rma {s : State} {q : Nat} {f : Sink → Sink} : (updSink q f s).rma = s.rma := rfl

@[simp] theorem updSink_trn {s : State} {q : Nat} {f : Sink → Sink} : (updSink q f s).trn = s.trn := rfl

@[simp] theorem updSink_svc {s : State} {q : Nat} {f : Sink → Sink} : (updSink q f s).svc = s.svc := rfl

@[simp] theorem updSink_fab {s : State} {q : Nat} {f : Sink → Sink} : (updSink q f s).fab = s.fab := rfl

/-! `updFetch` -/

@[simp] theorem updFetch_pending {s : State} {q : Nat} {f : Fetch → Fetch} : (updFetch q f s).pending = s.pending := rfl

@[simp] theorem updFetch_out {s : State} {q : Nat} {f : Fetch → Fetch} : (updFetch q f s).out = s.out := rfl

@[simp] theorem updFetch_heldOut {s : State} {q : Nat} {f : Fetch → Fetch} : (updFetch q f s).heldOut = s.heldOut := rfl

@[simp] theorem updFetch_freeCtr {s : State} {q : Nat} {f : Fetch → Fetch} : (updFetch q f s).freeCtr = s.freeCtr := rfl

@[simp] theorem updFetch_clk {s : State} {q : Nat} {f : Fetch → Fetch} : (updFetch q f s).clk = s.clk := rfl

@[simp] theorem updFetch_sys {s : State} {q : Nat} {f : Fetch → Fetch} : (updFetch q f s).sys = s.sys := rfl

@[simp] theorem updFetch_regs {s : State} {q : Nat} {f : Fetch → Fetch} : (updFetch q f s).regs = s.regs := rfl

@[simp] theorem updFetch_bank0 {s : State} {q : Nat} {f : Fetch → Fetch} : (updFetch q f s).bank0 = s.bank0 := rfl

@[simp] theorem updFetch_bank1 {s : State} {q : Nat} {f : Fetch → Fetch} : (updFetch q f s).bank1 = s.bank1 := rfl

@[simp] theorem updFetch_sec {s : State} {q : Nat} {f : Fetch → Fetch} : (updFetch q f s).sec = s.sec := rfl

@[simp] theorem updFetch_gates {s : State} {q : Nat} {f : Fetch → Fetch} : (updFetch q f s).gates = s.gates := rfl

@[simp] theorem updFetch_pend {s : State} {q : Nat} {f : Fetch → Fetch} : (updFetch q f s).pend = s.pend := rfl

@[simp] theorem updFetch_engines {s : State} {q : Nat} {f : Fetch → Fetch} : (updFetch q f s).engines = s.engines := rfl

@[simp] theorem updFetch_mem {s : State} {q : Nat} {f : Fetch → Fetch} : (updFetch q f s).mem = s.mem := rfl

@[simp] theorem updFetch_cmd {s : State} {q : Nat} {f : Fetch → Fetch} : (updFetch q f s).cmd = s.cmd := rfl

@[simp] theorem updFetch_counters {s : State} {q : Nat} {f : Fetch → Fetch} : (updFetch q f s).counters = s.counters := rfl

@[simp] theorem updFetch_dump {s : State} {q : Nat} {f : Fetch → Fetch} : (updFetch q f s).dump = s.dump := rfl

@[simp] theorem updFetch_hif {s : State} {q : Nat} {f : Fetch → Fetch} : (updFetch q f s).hif = s.hif := rfl

@[simp] theorem updFetch_xlt {s : State} {q : Nat} {f : Fetch → Fetch} : (updFetch q f s).xlt = s.xlt := rfl

@[simp] theorem updFetch_rma {s : State} {q : Nat} {f : Fetch → Fetch} : (updFetch q f s).rma = s.rma := rfl

@[simp] theorem updFetch_trn {s : State} {q : Nat} {f : Fetch → Fetch} : (updFetch q f s).trn = s.trn := rfl

@[simp] theorem updFetch_svc {s : State} {q : Nat} {f : Fetch → Fetch} : (updFetch q f s).svc = s.svc := rfl

@[simp] theorem updFetch_fab {s : State} {q : Nat} {f : Fetch → Fetch} : (updFetch q f s).fab = s.fab := rfl

/-! `updJob` -/

@[simp] theorem updJob_pending {s : State} {jid : Nat} {f : Job → Job} : (updJob jid f s).pending = s.pending := rfl

@[simp] theorem updJob_out {s : State} {jid : Nat} {f : Job → Job} : (updJob jid f s).out = s.out := rfl

@[simp] theorem updJob_heldOut {s : State} {jid : Nat} {f : Job → Job} : (updJob jid f s).heldOut = s.heldOut := rfl

@[simp] theorem updJob_freeCtr {s : State} {jid : Nat} {f : Job → Job} : (updJob jid f s).freeCtr = s.freeCtr := rfl

@[simp] theorem updJob_clk {s : State} {jid : Nat} {f : Job → Job} : (updJob jid f s).clk = s.clk := rfl

@[simp] theorem updJob_sys {s : State} {jid : Nat} {f : Job → Job} : (updJob jid f s).sys = s.sys := rfl

@[simp] theorem updJob_regs {s : State} {jid : Nat} {f : Job → Job} : (updJob jid f s).regs = s.regs := rfl

@[simp] theorem updJob_bank0 {s : State} {jid : Nat} {f : Job → Job} : (updJob jid f s).bank0 = s.bank0 := rfl

@[simp] theorem updJob_bank1 {s : State} {jid : Nat} {f : Job → Job} : (updJob jid f s).bank1 = s.bank1 := rfl

@[simp] theorem updJob_sec {s : State} {jid : Nat} {f : Job → Job} : (updJob jid f s).sec = s.sec := rfl

@[simp] theorem updJob_gates {s : State} {jid : Nat} {f : Job → Job} : (updJob jid f s).gates = s.gates := rfl

@[simp] theorem updJob_pend {s : State} {jid : Nat} {f : Job → Job} : (updJob jid f s).pend = s.pend := rfl

@[simp] theorem updJob_engines {s : State} {jid : Nat} {f : Job → Job} : (updJob jid f s).engines = s.engines := rfl

@[simp] theorem updJob_mem {s : State} {jid : Nat} {f : Job → Job} : (updJob jid f s).mem = s.mem := rfl

@[simp] theorem updJob_cmd {s : State} {jid : Nat} {f : Job → Job} : (updJob jid f s).cmd = s.cmd := rfl

@[simp] theorem updJob_counters {s : State} {jid : Nat} {f : Job → Job} : (updJob jid f s).counters = s.counters := rfl

@[simp] theorem updJob_dump {s : State} {jid : Nat} {f : Job → Job} : (updJob jid f s).dump = s.dump := rfl

@[simp] theorem updJob_hif {s : State} {jid : Nat} {f : Job → Job} : (updJob jid f s).hif = s.hif := rfl

@[simp] theorem updJob_xlt {s : State} {jid : Nat} {f : Job → Job} : (updJob jid f s).xlt = s.xlt := rfl

@[simp] theorem updJob_rma {s : State} {jid : Nat} {f : Job → Job} : (updJob jid f s).rma = s.rma := rfl

@[simp] theorem updJob_trn {s : State} {jid : Nat} {f : Job → Job} : (updJob jid f s).trn = s.trn := rfl

@[simp] theorem updJob_svc {s : State} {jid : Nat} {f : Job → Job} : (updJob jid f s).svc = s.svc := rfl

@[simp] theorem updJob_fab {s : State} {jid : Nat} {f : Job → Job} : (updJob jid f s).fab = s.fab := rfl

/-! `updPort` -/

@[simp] theorem updPort_pending {s : State} {h : Nat} {f : HostPort → HostPort} : (updPort h f s).pending = s.pending := rfl

@[simp] theorem updPort_out {s : State} {h : Nat} {f : HostPort → HostPort} : (updPort h f s).out = s.out := rfl

@[simp] theorem updPort_heldOut {s : State} {h : Nat} {f : HostPort → HostPort} : (updPort h f s).heldOut = s.heldOut := rfl

@[simp] theorem updPort_freeCtr {s : State} {h : Nat} {f : HostPort → HostPort} : (updPort h f s).freeCtr = s.freeCtr := rfl

@[simp] theorem updPort_clk {s : State} {h : Nat} {f : HostPort → HostPort} : (updPort h f s).clk = s.clk := rfl

@[simp] theorem updPort_sys {s : State} {h : Nat} {f : HostPort → HostPort} : (updPort h f s).sys = s.sys := rfl

@[simp] theorem updPort_regs {s : State} {h : Nat} {f : HostPort → HostPort} : (updPort h f s).regs = s.regs := rfl

@[simp] theorem updPort_bank0 {s : State} {h : Nat} {f : HostPort → HostPort} : (updPort h f s).bank0 = s.bank0 := rfl

@[simp] theorem updPort_bank1 {s : State} {h : Nat} {f : HostPort → HostPort} : (updPort h f s).bank1 = s.bank1 := rfl

@[simp] theorem updPort_sec {s : State} {h : Nat} {f : HostPort → HostPort} : (updPort h f s).sec = s.sec := rfl

@[simp] theorem updPort_gates {s : State} {h : Nat} {f : HostPort → HostPort} : (updPort h f s).gates = s.gates := rfl

@[simp] theorem updPort_pend {s : State} {h : Nat} {f : HostPort → HostPort} : (updPort h f s).pend = s.pend := rfl

@[simp] theorem updPort_engines {s : State} {h : Nat} {f : HostPort → HostPort} : (updPort h f s).engines = s.engines := rfl

@[simp] theorem updPort_mem {s : State} {h : Nat} {f : HostPort → HostPort} : (updPort h f s).mem = s.mem := rfl

@[simp] theorem updPort_cmd {s : State} {h : Nat} {f : HostPort → HostPort} : (updPort h f s).cmd = s.cmd := rfl

@[simp] theorem updPort_counters {s : State} {h : Nat} {f : HostPort → HostPort} : (updPort h f s).counters = s.counters := rfl

@[simp] theorem updPort_dump {s : State} {h : Nat} {f : HostPort → HostPort} : (updPort h f s).dump = s.dump := rfl

@[simp] theorem updPort_qmg {s : State} {h : Nat} {f : HostPort → HostPort} : (updPort h f s).qmg = s.qmg := rfl

@[simp] theorem updPort_xlt {s : State} {h : Nat} {f : HostPort → HostPort} : (updPort h f s).xlt = s.xlt := rfl

@[simp] theorem updPort_rma {s : State} {h : Nat} {f : HostPort → HostPort} : (updPort h f s).rma = s.rma := rfl

@[simp] theorem updPort_trn {s : State} {h : Nat} {f : HostPort → HostPort} : (updPort h f s).trn = s.trn := rfl

@[simp] theorem updPort_svc {s : State} {h : Nat} {f : HostPort → HostPort} : (updPort h f s).svc = s.svc := rfl

@[simp] theorem updPort_fab {s : State} {h : Nat} {f : HostPort → HostPort} : (updPort h f s).fab = s.fab := rfl

/-! `updFunc` -/

@[simp] theorem updFunc_pending {s : State} {mid : Nat} {f : Func → Func} : (updFunc mid f s).pending = s.pending := rfl

@[simp] theorem updFunc_out {s : State} {mid : Nat} {f : Func → Func} : (updFunc mid f s).out = s.out := rfl

@[simp] theorem updFunc_heldOut {s : State} {mid : Nat} {f : Func → Func} : (updFunc mid f s).heldOut = s.heldOut := rfl

@[simp] theorem updFunc_freeCtr {s : State} {mid : Nat} {f : Func → Func} : (updFunc mid f s).freeCtr = s.freeCtr := rfl

@[simp] theorem updFunc_clk {s : State} {mid : Nat} {f : Func → Func} : (updFunc mid f s).clk = s.clk := rfl

@[simp] theorem updFunc_sys {s : State} {mid : Nat} {f : Func → Func} : (updFunc mid f s).sys = s.sys := rfl

@[simp] theorem updFunc_regs {s : State} {mid : Nat} {f : Func → Func} : (updFunc mid f s).regs = s.regs := rfl

@[simp] theorem updFunc_bank0 {s : State} {mid : Nat} {f : Func → Func} : (updFunc mid f s).bank0 = s.bank0 := rfl

@[simp] theorem updFunc_bank1 {s : State} {mid : Nat} {f : Func → Func} : (updFunc mid f s).bank1 = s.bank1 := rfl

@[simp] theorem updFunc_sec {s : State} {mid : Nat} {f : Func → Func} : (updFunc mid f s).sec = s.sec := rfl

@[simp] theorem updFunc_gates {s : State} {mid : Nat} {f : Func → Func} : (updFunc mid f s).gates = s.gates := rfl

@[simp] theorem updFunc_pend {s : State} {mid : Nat} {f : Func → Func} : (updFunc mid f s).pend = s.pend := rfl

@[simp] theorem updFunc_engines {s : State} {mid : Nat} {f : Func → Func} : (updFunc mid f s).engines = s.engines := rfl

@[simp] theorem updFunc_mem {s : State} {mid : Nat} {f : Func → Func} : (updFunc mid f s).mem = s.mem := rfl

@[simp] theorem updFunc_cmd {s : State} {mid : Nat} {f : Func → Func} : (updFunc mid f s).cmd = s.cmd := rfl

@[simp] theorem updFunc_counters {s : State} {mid : Nat} {f : Func → Func} : (updFunc mid f s).counters = s.counters := rfl

@[simp] theorem updFunc_dump {s : State} {mid : Nat} {f : Func → Func} : (updFunc mid f s).dump = s.dump := rfl

@[simp] theorem updFunc_qmg {s : State} {mid : Nat} {f : Func → Func} : (updFunc mid f s).qmg = s.qmg := rfl

@[simp] theorem updFunc_xlt {s : State} {mid : Nat} {f : Func → Func} : (updFunc mid f s).xlt = s.xlt := rfl

@[simp] theorem updFunc_rma {s : State} {mid : Nat} {f : Func → Func} : (updFunc mid f s).rma = s.rma := rfl

@[simp] theorem updFunc_trn {s : State} {mid : Nat} {f : Func → Func} : (updFunc mid f s).trn = s.trn := rfl

@[simp] theorem updFunc_svc {s : State} {mid : Nat} {f : Func → Func} : (updFunc mid f s).svc = s.svc := rfl

@[simp] theorem updFunc_fab {s : State} {mid : Nat} {f : Func → Func} : (updFunc mid f s).fab = s.fab := rfl

/-! `updFport` -/

@[simp] theorem updFport_pending {s : State} {n : Nat} {f : Port → Port} : (updFport n f s).pending = s.pending := rfl

@[simp] theorem updFport_out {s : State} {n : Nat} {f : Port → Port} : (updFport n f s).out = s.out := rfl

@[simp] theorem updFport_heldOut {s : State} {n : Nat} {f : Port → Port} : (updFport n f s).heldOut = s.heldOut := rfl

@[simp] theorem updFport_freeCtr {s : State} {n : Nat} {f : Port → Port} : (updFport n f s).freeCtr = s.freeCtr := rfl

@[simp] theorem updFport_clk {s : State} {n : Nat} {f : Port → Port} : (updFport n f s).clk = s.clk := rfl

@[simp] theorem updFport_sys {s : State} {n : Nat} {f : Port → Port} : (updFport n f s).sys = s.sys := rfl

@[simp] theorem updFport_regs {s : State} {n : Nat} {f : Port → Port} : (updFport n f s).regs = s.regs := rfl

@[simp] theorem updFport_bank0 {s : State} {n : Nat} {f : Port → Port} : (updFport n f s).bank0 = s.bank0 := rfl

@[simp] theorem updFport_bank1 {s : State} {n : Nat} {f : Port → Port} : (updFport n f s).bank1 = s.bank1 := rfl

@[simp] theorem updFport_sec {s : State} {n : Nat} {f : Port → Port} : (updFport n f s).sec = s.sec := rfl

@[simp] theorem updFport_gates {s : State} {n : Nat} {f : Port → Port} : (updFport n f s).gates = s.gates := rfl

@[simp] theorem updFport_pend {s : State} {n : Nat} {f : Port → Port} : (updFport n f s).pend = s.pend := rfl

@[simp] theorem updFport_engines {s : State} {n : Nat} {f : Port → Port} : (updFport n f s).engines = s.engines := rfl

@[simp] theorem updFport_mem {s : State} {n : Nat} {f : Port → Port} : (updFport n f s).mem = s.mem := rfl

@[simp] theorem updFport_cmd {s : State} {n : Nat} {f : Port → Port} : (updFport n f s).cmd = s.cmd := rfl

@[simp] theorem updFport_counters {s : State} {n : Nat} {f : Port → Port} : (updFport n f s).counters = s.counters := rfl

@[simp] theorem updFport_dump {s : State} {n : Nat} {f : Port → Port} : (updFport n f s).dump = s.dump := rfl

@[simp] theorem updFport_hif {s : State} {n : Nat} {f : Port → Port} : (updFport n f s).hif = s.hif := rfl

@[simp] theorem updFport_qmg {s : State} {n : Nat} {f : Port → Port} : (updFport n f s).qmg = s.qmg := rfl

@[simp] theorem updFport_xlt {s : State} {n : Nat} {f : Port → Port} : (updFport n f s).xlt = s.xlt := rfl

@[simp] theorem updFport_rma {s : State} {n : Nat} {f : Port → Port} : (updFport n f s).rma = s.rma := rfl

@[simp] theorem updFport_trn {s : State} {n : Nat} {f : Port → Port} : (updFport n f s).trn = s.trn := rfl

@[simp] theorem updFport_svc {s : State} {n : Nat} {f : Port → Port} : (updFport n f s).svc = s.svc := rfl

/-! `updLane` -/

@[simp] theorem updLane_pending {s : State} {n : Nat} {f : Lane → Lane} : (updLane n f s).pending = s.pending := rfl

@[simp] theorem updLane_out {s : State} {n : Nat} {f : Lane → Lane} : (updLane n f s).out = s.out := rfl

@[simp] theorem updLane_heldOut {s : State} {n : Nat} {f : Lane → Lane} : (updLane n f s).heldOut = s.heldOut := rfl

@[simp] theorem updLane_freeCtr {s : State} {n : Nat} {f : Lane → Lane} : (updLane n f s).freeCtr = s.freeCtr := rfl

@[simp] theorem updLane_clk {s : State} {n : Nat} {f : Lane → Lane} : (updLane n f s).clk = s.clk := rfl

@[simp] theorem updLane_sys {s : State} {n : Nat} {f : Lane → Lane} : (updLane n f s).sys = s.sys := rfl

@[simp] theorem updLane_regs {s : State} {n : Nat} {f : Lane → Lane} : (updLane n f s).regs = s.regs := rfl

@[simp] theorem updLane_bank0 {s : State} {n : Nat} {f : Lane → Lane} : (updLane n f s).bank0 = s.bank0 := rfl

@[simp] theorem updLane_bank1 {s : State} {n : Nat} {f : Lane → Lane} : (updLane n f s).bank1 = s.bank1 := rfl

@[simp] theorem updLane_sec {s : State} {n : Nat} {f : Lane → Lane} : (updLane n f s).sec = s.sec := rfl

@[simp] theorem updLane_gates {s : State} {n : Nat} {f : Lane → Lane} : (updLane n f s).gates = s.gates := rfl

@[simp] theorem updLane_pend {s : State} {n : Nat} {f : Lane → Lane} : (updLane n f s).pend = s.pend := rfl

@[simp] theorem updLane_engines {s : State} {n : Nat} {f : Lane → Lane} : (updLane n f s).engines = s.engines := rfl

@[simp] theorem updLane_mem {s : State} {n : Nat} {f : Lane → Lane} : (updLane n f s).mem = s.mem := rfl

@[simp] theorem updLane_cmd {s : State} {n : Nat} {f : Lane → Lane} : (updLane n f s).cmd = s.cmd := rfl

@[simp] theorem updLane_counters {s : State} {n : Nat} {f : Lane → Lane} : (updLane n f s).counters = s.counters := rfl

@[simp] theorem updLane_dump {s : State} {n : Nat} {f : Lane → Lane} : (updLane n f s).dump = s.dump := rfl

@[simp] theorem updLane_hif {s : State} {n : Nat} {f : Lane → Lane} : (updLane n f s).hif = s.hif := rfl

@[simp] theorem updLane_qmg {s : State} {n : Nat} {f : Lane → Lane} : (updLane n f s).qmg = s.qmg := rfl

@[simp] theorem updLane_xlt {s : State} {n : Nat} {f : Lane → Lane} : (updLane n f s).xlt = s.xlt := rfl

@[simp] theorem updLane_rma {s : State} {n : Nat} {f : Lane → Lane} : (updLane n f s).rma = s.rma := rfl

@[simp] theorem updLane_trn {s : State} {n : Nat} {f : Lane → Lane} : (updLane n f s).trn = s.trn := rfl

@[simp] theorem updLane_svc {s : State} {n : Nat} {f : Lane → Lane} : (updLane n f s).svc = s.svc := rfl

/-! `updEgress` -/

@[simp] theorem updEgress_pending {s : State} {o : Output} {f : Egress → Egress} : (updEgress o f s).pending = s.pending := rfl

@[simp] theorem updEgress_out {s : State} {o : Output} {f : Egress → Egress} : (updEgress o f s).out = s.out := rfl

@[simp] theorem updEgress_heldOut {s : State} {o : Output} {f : Egress → Egress} : (updEgress o f s).heldOut = s.heldOut := rfl

@[simp] theorem updEgress_freeCtr {s : State} {o : Output} {f : Egress → Egress} : (updEgress o f s).freeCtr = s.freeCtr := rfl

@[simp] theorem updEgress_clk {s : State} {o : Output} {f : Egress → Egress} : (updEgress o f s).clk = s.clk := rfl

@[simp] theorem updEgress_sys {s : State} {o : Output} {f : Egress → Egress} : (updEgress o f s).sys = s.sys := rfl

@[simp] theorem updEgress_regs {s : State} {o : Output} {f : Egress → Egress} : (updEgress o f s).regs = s.regs := rfl

@[simp] theorem updEgress_bank0 {s : State} {o : Output} {f : Egress → Egress} : (updEgress o f s).bank0 = s.bank0 := rfl

@[simp] theorem updEgress_bank1 {s : State} {o : Output} {f : Egress → Egress} : (updEgress o f s).bank1 = s.bank1 := rfl

@[simp] theorem updEgress_sec {s : State} {o : Output} {f : Egress → Egress} : (updEgress o f s).sec = s.sec := rfl

@[simp] theorem updEgress_gates {s : State} {o : Output} {f : Egress → Egress} : (updEgress o f s).gates = s.gates := rfl

@[simp] theorem updEgress_pend {s : State} {o : Output} {f : Egress → Egress} : (updEgress o f s).pend = s.pend := rfl

@[simp] theorem updEgress_engines {s : State} {o : Output} {f : Egress → Egress} : (updEgress o f s).engines = s.engines := rfl

@[simp] theorem updEgress_mem {s : State} {o : Output} {f : Egress → Egress} : (updEgress o f s).mem = s.mem := rfl

@[simp] theorem updEgress_cmd {s : State} {o : Output} {f : Egress → Egress} : (updEgress o f s).cmd = s.cmd := rfl

@[simp] theorem updEgress_counters {s : State} {o : Output} {f : Egress → Egress} : (updEgress o f s).counters = s.counters := rfl

@[simp] theorem updEgress_dump {s : State} {o : Output} {f : Egress → Egress} : (updEgress o f s).dump = s.dump := rfl

@[simp] theorem updEgress_hif {s : State} {o : Output} {f : Egress → Egress} : (updEgress o f s).hif = s.hif := rfl

@[simp] theorem updEgress_qmg {s : State} {o : Output} {f : Egress → Egress} : (updEgress o f s).qmg = s.qmg := rfl

@[simp] theorem updEgress_xlt {s : State} {o : Output} {f : Egress → Egress} : (updEgress o f s).xlt = s.xlt := rfl

@[simp] theorem updEgress_rma {s : State} {o : Output} {f : Egress → Egress} : (updEgress o f s).rma = s.rma := rfl

@[simp] theorem updEgress_trn {s : State} {o : Output} {f : Egress → Egress} : (updEgress o f s).trn = s.trn := rfl

@[simp] theorem updEgress_svc {s : State} {o : Output} {f : Egress → Egress} : (updEgress o f s).svc = s.svc := rfl

/-! `updDomain` -/

@[simp] theorem updDomain_pending {s : State} {n : Nat} {f : Domain → Domain} : (updDomain n f s).pending = s.pending := rfl

@[simp] theorem updDomain_out {s : State} {n : Nat} {f : Domain → Domain} : (updDomain n f s).out = s.out := rfl

@[simp] theorem updDomain_heldOut {s : State} {n : Nat} {f : Domain → Domain} : (updDomain n f s).heldOut = s.heldOut := rfl

@[simp] theorem updDomain_freeCtr {s : State} {n : Nat} {f : Domain → Domain} : (updDomain n f s).freeCtr = s.freeCtr := rfl

@[simp] theorem updDomain_clk {s : State} {n : Nat} {f : Domain → Domain} : (updDomain n f s).clk = s.clk := rfl

@[simp] theorem updDomain_sys {s : State} {n : Nat} {f : Domain → Domain} : (updDomain n f s).sys = s.sys := rfl

@[simp] theorem updDomain_regs {s : State} {n : Nat} {f : Domain → Domain} : (updDomain n f s).regs = s.regs := rfl

@[simp] theorem updDomain_bank0 {s : State} {n : Nat} {f : Domain → Domain} : (updDomain n f s).bank0 = s.bank0 := rfl

@[simp] theorem updDomain_bank1 {s : State} {n : Nat} {f : Domain → Domain} : (updDomain n f s).bank1 = s.bank1 := rfl

@[simp] theorem updDomain_sec {s : State} {n : Nat} {f : Domain → Domain} : (updDomain n f s).sec = s.sec := rfl

@[simp] theorem updDomain_gates {s : State} {n : Nat} {f : Domain → Domain} : (updDomain n f s).gates = s.gates := rfl

@[simp] theorem updDomain_pend {s : State} {n : Nat} {f : Domain → Domain} : (updDomain n f s).pend = s.pend := rfl

@[simp] theorem updDomain_engines {s : State} {n : Nat} {f : Domain → Domain} : (updDomain n f s).engines = s.engines := rfl

@[simp] theorem updDomain_mem {s : State} {n : Nat} {f : Domain → Domain} : (updDomain n f s).mem = s.mem := rfl

@[simp] theorem updDomain_cmd {s : State} {n : Nat} {f : Domain → Domain} : (updDomain n f s).cmd = s.cmd := rfl

@[simp] theorem updDomain_counters {s : State} {n : Nat} {f : Domain → Domain} : (updDomain n f s).counters = s.counters := rfl

@[simp] theorem updDomain_dump {s : State} {n : Nat} {f : Domain → Domain} : (updDomain n f s).dump = s.dump := rfl

@[simp] theorem updDomain_hif {s : State} {n : Nat} {f : Domain → Domain} : (updDomain n f s).hif = s.hif := rfl

@[simp] theorem updDomain_qmg {s : State} {n : Nat} {f : Domain → Domain} : (updDomain n f s).qmg = s.qmg := rfl

@[simp] theorem updDomain_xlt {s : State} {n : Nat} {f : Domain → Domain} : (updDomain n f s).xlt = s.xlt := rfl

@[simp] theorem updDomain_rma {s : State} {n : Nat} {f : Domain → Domain} : (updDomain n f s).rma = s.rma := rfl

@[simp] theorem updDomain_trn {s : State} {n : Nat} {f : Domain → Domain} : (updDomain n f s).trn = s.trn := rfl

@[simp] theorem updDomain_svc {s : State} {n : Nat} {f : Domain → Domain} : (updDomain n f s).svc = s.svc := rfl

/-! `updEngine` -/

@[simp] theorem updEngine_pending {s : State} {code : Nat} {f : Engine → Engine} : (updEngine code f s).pending = s.pending := rfl

@[simp] theorem updEngine_out {s : State} {code : Nat} {f : Engine → Engine} : (updEngine code f s).out = s.out := rfl

@[simp] theorem updEngine_heldOut {s : State} {code : Nat} {f : Engine → Engine} : (updEngine code f s).heldOut = s.heldOut := rfl

@[simp] theorem updEngine_freeCtr {s : State} {code : Nat} {f : Engine → Engine} : (updEngine code f s).freeCtr = s.freeCtr := rfl

@[simp] theorem updEngine_clk {s : State} {code : Nat} {f : Engine → Engine} : (updEngine code f s).clk = s.clk := rfl

@[simp] theorem updEngine_sys {s : State} {code : Nat} {f : Engine → Engine} : (updEngine code f s).sys = s.sys := rfl

@[simp] theorem updEngine_regs {s : State} {code : Nat} {f : Engine → Engine} : (updEngine code f s).regs = s.regs := rfl

@[simp] theorem updEngine_bank0 {s : State} {code : Nat} {f : Engine → Engine} : (updEngine code f s).bank0 = s.bank0 := rfl

@[simp] theorem updEngine_bank1 {s : State} {code : Nat} {f : Engine → Engine} : (updEngine code f s).bank1 = s.bank1 := rfl

@[simp] theorem updEngine_sec {s : State} {code : Nat} {f : Engine → Engine} : (updEngine code f s).sec = s.sec := rfl

@[simp] theorem updEngine_gates {s : State} {code : Nat} {f : Engine → Engine} : (updEngine code f s).gates = s.gates := rfl

@[simp] theorem updEngine_pend {s : State} {code : Nat} {f : Engine → Engine} : (updEngine code f s).pend = s.pend := rfl

@[simp] theorem updEngine_mem {s : State} {code : Nat} {f : Engine → Engine} : (updEngine code f s).mem = s.mem := rfl

@[simp] theorem updEngine_cmd {s : State} {code : Nat} {f : Engine → Engine} : (updEngine code f s).cmd = s.cmd := rfl

@[simp] theorem updEngine_counters {s : State} {code : Nat} {f : Engine → Engine} : (updEngine code f s).counters = s.counters := rfl

@[simp] theorem updEngine_dump {s : State} {code : Nat} {f : Engine → Engine} : (updEngine code f s).dump = s.dump := rfl

@[simp] theorem updEngine_hif {s : State} {code : Nat} {f : Engine → Engine} : (updEngine code f s).hif = s.hif := rfl

@[simp] theorem updEngine_qmg {s : State} {code : Nat} {f : Engine → Engine} : (updEngine code f s).qmg = s.qmg := rfl

@[simp] theorem updEngine_xlt {s : State} {code : Nat} {f : Engine → Engine} : (updEngine code f s).xlt = s.xlt := rfl

@[simp] theorem updEngine_rma {s : State} {code : Nat} {f : Engine → Engine} : (updEngine code f s).rma = s.rma := rfl

@[simp] theorem updEngine_trn {s : State} {code : Nat} {f : Engine → Engine} : (updEngine code f s).trn = s.trn := rfl

@[simp] theorem updEngine_svc {s : State} {code : Nat} {f : Engine → Engine} : (updEngine code f s).svc = s.svc := rfl

@[simp] theorem updEngine_fab {s : State} {code : Nat} {f : Engine → Engine} : (updEngine code f s).fab = s.fab := rfl

/-! `updLock` -/

@[simp] theorem updLock_pending {s : State} {n : Nat} {f : Lock → Lock} : (updLock n f s).pending = s.pending := rfl

@[simp] theorem updLock_out {s : State} {n : Nat} {f : Lock → Lock} : (updLock n f s).out = s.out := rfl

@[simp] theorem updLock_heldOut {s : State} {n : Nat} {f : Lock → Lock} : (updLock n f s).heldOut = s.heldOut := rfl

@[simp] theorem updLock_freeCtr {s : State} {n : Nat} {f : Lock → Lock} : (updLock n f s).freeCtr = s.freeCtr := rfl

@[simp] theorem updLock_clk {s : State} {n : Nat} {f : Lock → Lock} : (updLock n f s).clk = s.clk := rfl

@[simp] theorem updLock_sys {s : State} {n : Nat} {f : Lock → Lock} : (updLock n f s).sys = s.sys := rfl

@[simp] theorem updLock_regs {s : State} {n : Nat} {f : Lock → Lock} : (updLock n f s).regs = s.regs := rfl

@[simp] theorem updLock_bank0 {s : State} {n : Nat} {f : Lock → Lock} : (updLock n f s).bank0 = s.bank0 := rfl

@[simp] theorem updLock_bank1 {s : State} {n : Nat} {f : Lock → Lock} : (updLock n f s).bank1 = s.bank1 := rfl

@[simp] theorem updLock_sec {s : State} {n : Nat} {f : Lock → Lock} : (updLock n f s).sec = s.sec := rfl

@[simp] theorem updLock_gates {s : State} {n : Nat} {f : Lock → Lock} : (updLock n f s).gates = s.gates := rfl

@[simp] theorem updLock_pend {s : State} {n : Nat} {f : Lock → Lock} : (updLock n f s).pend = s.pend := rfl

@[simp] theorem updLock_engines {s : State} {n : Nat} {f : Lock → Lock} : (updLock n f s).engines = s.engines := rfl

@[simp] theorem updLock_mem {s : State} {n : Nat} {f : Lock → Lock} : (updLock n f s).mem = s.mem := rfl

@[simp] theorem updLock_cmd {s : State} {n : Nat} {f : Lock → Lock} : (updLock n f s).cmd = s.cmd := rfl

@[simp] theorem updLock_counters {s : State} {n : Nat} {f : Lock → Lock} : (updLock n f s).counters = s.counters := rfl

@[simp] theorem updLock_dump {s : State} {n : Nat} {f : Lock → Lock} : (updLock n f s).dump = s.dump := rfl

@[simp] theorem updLock_hif {s : State} {n : Nat} {f : Lock → Lock} : (updLock n f s).hif = s.hif := rfl

@[simp] theorem updLock_qmg {s : State} {n : Nat} {f : Lock → Lock} : (updLock n f s).qmg = s.qmg := rfl

@[simp] theorem updLock_xlt {s : State} {n : Nat} {f : Lock → Lock} : (updLock n f s).xlt = s.xlt := rfl

@[simp] theorem updLock_rma {s : State} {n : Nat} {f : Lock → Lock} : (updLock n f s).rma = s.rma := rfl

@[simp] theorem updLock_trn {s : State} {n : Nat} {f : Lock → Lock} : (updLock n f s).trn = s.trn := rfl

@[simp] theorem updLock_fab {s : State} {n : Nat} {f : Lock → Lock} : (updLock n f s).fab = s.fab := rfl

/-! `updCtx` -/

@[simp] theorem updCtx_pending {s : State} {n : Nat} {f : MatchCtx → MatchCtx} : (updCtx n f s).pending = s.pending := rfl

@[simp] theorem updCtx_out {s : State} {n : Nat} {f : MatchCtx → MatchCtx} : (updCtx n f s).out = s.out := rfl

@[simp] theorem updCtx_heldOut {s : State} {n : Nat} {f : MatchCtx → MatchCtx} : (updCtx n f s).heldOut = s.heldOut := rfl

@[simp] theorem updCtx_freeCtr {s : State} {n : Nat} {f : MatchCtx → MatchCtx} : (updCtx n f s).freeCtr = s.freeCtr := rfl

@[simp] theorem updCtx_clk {s : State} {n : Nat} {f : MatchCtx → MatchCtx} : (updCtx n f s).clk = s.clk := rfl

@[simp] theorem updCtx_sys {s : State} {n : Nat} {f : MatchCtx → MatchCtx} : (updCtx n f s).sys = s.sys := rfl

@[simp] theorem updCtx_regs {s : State} {n : Nat} {f : MatchCtx → MatchCtx} : (updCtx n f s).regs = s.regs := rfl

@[simp] theorem updCtx_bank0 {s : State} {n : Nat} {f : MatchCtx → MatchCtx} : (updCtx n f s).bank0 = s.bank0 := rfl

@[simp] theorem updCtx_bank1 {s : State} {n : Nat} {f : MatchCtx → MatchCtx} : (updCtx n f s).bank1 = s.bank1 := rfl

@[simp] theorem updCtx_sec {s : State} {n : Nat} {f : MatchCtx → MatchCtx} : (updCtx n f s).sec = s.sec := rfl

@[simp] theorem updCtx_gates {s : State} {n : Nat} {f : MatchCtx → MatchCtx} : (updCtx n f s).gates = s.gates := rfl

@[simp] theorem updCtx_pend {s : State} {n : Nat} {f : MatchCtx → MatchCtx} : (updCtx n f s).pend = s.pend := rfl

@[simp] theorem updCtx_engines {s : State} {n : Nat} {f : MatchCtx → MatchCtx} : (updCtx n f s).engines = s.engines := rfl

@[simp] theorem updCtx_mem {s : State} {n : Nat} {f : MatchCtx → MatchCtx} : (updCtx n f s).mem = s.mem := rfl

@[simp] theorem updCtx_cmd {s : State} {n : Nat} {f : MatchCtx → MatchCtx} : (updCtx n f s).cmd = s.cmd := rfl

@[simp] theorem updCtx_counters {s : State} {n : Nat} {f : MatchCtx → MatchCtx} : (updCtx n f s).counters = s.counters := rfl

@[simp] theorem updCtx_dump {s : State} {n : Nat} {f : MatchCtx → MatchCtx} : (updCtx n f s).dump = s.dump := rfl

@[simp] theorem updCtx_hif {s : State} {n : Nat} {f : MatchCtx → MatchCtx} : (updCtx n f s).hif = s.hif := rfl

@[simp] theorem updCtx_qmg {s : State} {n : Nat} {f : MatchCtx → MatchCtx} : (updCtx n f s).qmg = s.qmg := rfl

@[simp] theorem updCtx_xlt {s : State} {n : Nat} {f : MatchCtx → MatchCtx} : (updCtx n f s).xlt = s.xlt := rfl

@[simp] theorem updCtx_rma {s : State} {n : Nat} {f : MatchCtx → MatchCtx} : (updCtx n f s).rma = s.rma := rfl

@[simp] theorem updCtx_trn {s : State} {n : Nat} {f : MatchCtx → MatchCtx} : (updCtx n f s).trn = s.trn := rfl

@[simp] theorem updCtx_fab {s : State} {n : Nat} {f : MatchCtx → MatchCtx} : (updCtx n f s).fab = s.fab := rfl

/-! `updRndv` -/

@[simp] theorem updRndv_pending {s : State} {k : PeerKey} {rts : Pos} {f : Rndv → Rndv} : (updRndv k rts f s).pending = s.pending := rfl

@[simp] theorem updRndv_out {s : State} {k : PeerKey} {rts : Pos} {f : Rndv → Rndv} : (updRndv k rts f s).out = s.out := rfl

@[simp] theorem updRndv_heldOut {s : State} {k : PeerKey} {rts : Pos} {f : Rndv → Rndv} : (updRndv k rts f s).heldOut = s.heldOut := rfl

@[simp] theorem updRndv_freeCtr {s : State} {k : PeerKey} {rts : Pos} {f : Rndv → Rndv} : (updRndv k rts f s).freeCtr = s.freeCtr := rfl

@[simp] theorem updRndv_clk {s : State} {k : PeerKey} {rts : Pos} {f : Rndv → Rndv} : (updRndv k rts f s).clk = s.clk := rfl

@[simp] theorem updRndv_sys {s : State} {k : PeerKey} {rts : Pos} {f : Rndv → Rndv} : (updRndv k rts f s).sys = s.sys := rfl

@[simp] theorem updRndv_regs {s : State} {k : PeerKey} {rts : Pos} {f : Rndv → Rndv} : (updRndv k rts f s).regs = s.regs := rfl

@[simp] theorem updRndv_bank0 {s : State} {k : PeerKey} {rts : Pos} {f : Rndv → Rndv} : (updRndv k rts f s).bank0 = s.bank0 := rfl

@[simp] theorem updRndv_bank1 {s : State} {k : PeerKey} {rts : Pos} {f : Rndv → Rndv} : (updRndv k rts f s).bank1 = s.bank1 := rfl

@[simp] theorem updRndv_sec {s : State} {k : PeerKey} {rts : Pos} {f : Rndv → Rndv} : (updRndv k rts f s).sec = s.sec := rfl

@[simp] theorem updRndv_gates {s : State} {k : PeerKey} {rts : Pos} {f : Rndv → Rndv} : (updRndv k rts f s).gates = s.gates := rfl

@[simp] theorem updRndv_pend {s : State} {k : PeerKey} {rts : Pos} {f : Rndv → Rndv} : (updRndv k rts f s).pend = s.pend := rfl

@[simp] theorem updRndv_engines {s : State} {k : PeerKey} {rts : Pos} {f : Rndv → Rndv} : (updRndv k rts f s).engines = s.engines := rfl

@[simp] theorem updRndv_mem {s : State} {k : PeerKey} {rts : Pos} {f : Rndv → Rndv} : (updRndv k rts f s).mem = s.mem := rfl

@[simp] theorem updRndv_cmd {s : State} {k : PeerKey} {rts : Pos} {f : Rndv → Rndv} : (updRndv k rts f s).cmd = s.cmd := rfl

@[simp] theorem updRndv_counters {s : State} {k : PeerKey} {rts : Pos} {f : Rndv → Rndv} : (updRndv k rts f s).counters = s.counters := rfl

@[simp] theorem updRndv_dump {s : State} {k : PeerKey} {rts : Pos} {f : Rndv → Rndv} : (updRndv k rts f s).dump = s.dump := rfl

@[simp] theorem updRndv_hif {s : State} {k : PeerKey} {rts : Pos} {f : Rndv → Rndv} : (updRndv k rts f s).hif = s.hif := rfl

@[simp] theorem updRndv_qmg {s : State} {k : PeerKey} {rts : Pos} {f : Rndv → Rndv} : (updRndv k rts f s).qmg = s.qmg := rfl

@[simp] theorem updRndv_xlt {s : State} {k : PeerKey} {rts : Pos} {f : Rndv → Rndv} : (updRndv k rts f s).xlt = s.xlt := rfl

@[simp] theorem updRndv_rma {s : State} {k : PeerKey} {rts : Pos} {f : Rndv → Rndv} : (updRndv k rts f s).rma = s.rma := rfl

@[simp] theorem updRndv_trn {s : State} {k : PeerKey} {rts : Pos} {f : Rndv → Rndv} : (updRndv k rts f s).trn = s.trn := rfl

@[simp] theorem updRndv_fab {s : State} {k : PeerKey} {rts : Pos} {f : Rndv → Rndv} : (updRndv k rts f s).fab = s.fab := rfl

/-! `updGroup` -/

@[simp] theorem updGroup_pending {s : State} {g : Nat} {f : Group → Group} : (updGroup g f s).pending = s.pending := rfl

@[simp] theorem updGroup_out {s : State} {g : Nat} {f : Group → Group} : (updGroup g f s).out = s.out := rfl

@[simp] theorem updGroup_heldOut {s : State} {g : Nat} {f : Group → Group} : (updGroup g f s).heldOut = s.heldOut := rfl

@[simp] theorem updGroup_freeCtr {s : State} {g : Nat} {f : Group → Group} : (updGroup g f s).freeCtr = s.freeCtr := rfl

@[simp] theorem updGroup_clk {s : State} {g : Nat} {f : Group → Group} : (updGroup g f s).clk = s.clk := rfl

@[simp] theorem updGroup_sys {s : State} {g : Nat} {f : Group → Group} : (updGroup g f s).sys = s.sys := rfl

@[simp] theorem updGroup_regs {s : State} {g : Nat} {f : Group → Group} : (updGroup g f s).regs = s.regs := rfl

@[simp] theorem updGroup_bank0 {s : State} {g : Nat} {f : Group → Group} : (updGroup g f s).bank0 = s.bank0 := rfl

@[simp] theorem updGroup_bank1 {s : State} {g : Nat} {f : Group → Group} : (updGroup g f s).bank1 = s.bank1 := rfl

@[simp] theorem updGroup_sec {s : State} {g : Nat} {f : Group → Group} : (updGroup g f s).sec = s.sec := rfl

@[simp] theorem updGroup_gates {s : State} {g : Nat} {f : Group → Group} : (updGroup g f s).gates = s.gates := rfl

@[simp] theorem updGroup_pend {s : State} {g : Nat} {f : Group → Group} : (updGroup g f s).pend = s.pend := rfl

@[simp] theorem updGroup_engines {s : State} {g : Nat} {f : Group → Group} : (updGroup g f s).engines = s.engines := rfl

@[simp] theorem updGroup_mem {s : State} {g : Nat} {f : Group → Group} : (updGroup g f s).mem = s.mem := rfl

@[simp] theorem updGroup_cmd {s : State} {g : Nat} {f : Group → Group} : (updGroup g f s).cmd = s.cmd := rfl

@[simp] theorem updGroup_counters {s : State} {g : Nat} {f : Group → Group} : (updGroup g f s).counters = s.counters := rfl

@[simp] theorem updGroup_dump {s : State} {g : Nat} {f : Group → Group} : (updGroup g f s).dump = s.dump := rfl

@[simp] theorem updGroup_hif {s : State} {g : Nat} {f : Group → Group} : (updGroup g f s).hif = s.hif := rfl

@[simp] theorem updGroup_qmg {s : State} {g : Nat} {f : Group → Group} : (updGroup g f s).qmg = s.qmg := rfl

@[simp] theorem updGroup_xlt {s : State} {g : Nat} {f : Group → Group} : (updGroup g f s).xlt = s.xlt := rfl

@[simp] theorem updGroup_rma {s : State} {g : Nat} {f : Group → Group} : (updGroup g f s).rma = s.rma := rfl

@[simp] theorem updGroup_trn {s : State} {g : Nat} {f : Group → Group} : (updGroup g f s).trn = s.trn := rfl

@[simp] theorem updGroup_fab {s : State} {g : Nat} {f : Group → Group} : (updGroup g f s).fab = s.fab := rfl

/-! `updOp` -/

@[simp] theorem updOp_pending {s : State} {g q : Nat} {f : ChorusOp → ChorusOp} : (updOp g q f s).pending = s.pending := rfl

@[simp] theorem updOp_out {s : State} {g q : Nat} {f : ChorusOp → ChorusOp} : (updOp g q f s).out = s.out := rfl

@[simp] theorem updOp_heldOut {s : State} {g q : Nat} {f : ChorusOp → ChorusOp} : (updOp g q f s).heldOut = s.heldOut := rfl

@[simp] theorem updOp_freeCtr {s : State} {g q : Nat} {f : ChorusOp → ChorusOp} : (updOp g q f s).freeCtr = s.freeCtr := rfl

@[simp] theorem updOp_clk {s : State} {g q : Nat} {f : ChorusOp → ChorusOp} : (updOp g q f s).clk = s.clk := rfl

@[simp] theorem updOp_sys {s : State} {g q : Nat} {f : ChorusOp → ChorusOp} : (updOp g q f s).sys = s.sys := rfl

@[simp] theorem updOp_regs {s : State} {g q : Nat} {f : ChorusOp → ChorusOp} : (updOp g q f s).regs = s.regs := rfl

@[simp] theorem updOp_bank0 {s : State} {g q : Nat} {f : ChorusOp → ChorusOp} : (updOp g q f s).bank0 = s.bank0 := rfl

@[simp] theorem updOp_bank1 {s : State} {g q : Nat} {f : ChorusOp → ChorusOp} : (updOp g q f s).bank1 = s.bank1 := rfl

@[simp] theorem updOp_sec {s : State} {g q : Nat} {f : ChorusOp → ChorusOp} : (updOp g q f s).sec = s.sec := rfl

@[simp] theorem updOp_gates {s : State} {g q : Nat} {f : ChorusOp → ChorusOp} : (updOp g q f s).gates = s.gates := rfl

@[simp] theorem updOp_pend {s : State} {g q : Nat} {f : ChorusOp → ChorusOp} : (updOp g q f s).pend = s.pend := rfl

@[simp] theorem updOp_engines {s : State} {g q : Nat} {f : ChorusOp → ChorusOp} : (updOp g q f s).engines = s.engines := rfl

@[simp] theorem updOp_mem {s : State} {g q : Nat} {f : ChorusOp → ChorusOp} : (updOp g q f s).mem = s.mem := rfl

@[simp] theorem updOp_cmd {s : State} {g q : Nat} {f : ChorusOp → ChorusOp} : (updOp g q f s).cmd = s.cmd := rfl

@[simp] theorem updOp_counters {s : State} {g q : Nat} {f : ChorusOp → ChorusOp} : (updOp g q f s).counters = s.counters := rfl

@[simp] theorem updOp_dump {s : State} {g q : Nat} {f : ChorusOp → ChorusOp} : (updOp g q f s).dump = s.dump := rfl

@[simp] theorem updOp_hif {s : State} {g q : Nat} {f : ChorusOp → ChorusOp} : (updOp g q f s).hif = s.hif := rfl

@[simp] theorem updOp_qmg {s : State} {g q : Nat} {f : ChorusOp → ChorusOp} : (updOp g q f s).qmg = s.qmg := rfl

@[simp] theorem updOp_xlt {s : State} {g q : Nat} {f : ChorusOp → ChorusOp} : (updOp g q f s).xlt = s.xlt := rfl

@[simp] theorem updOp_rma {s : State} {g q : Nat} {f : ChorusOp → ChorusOp} : (updOp g q f s).rma = s.rma := rfl

@[simp] theorem updOp_trn {s : State} {g q : Nat} {f : ChorusOp → ChorusOp} : (updOp g q f s).trn = s.trn := rfl

@[simp] theorem updOp_fab {s : State} {g q : Nat} {f : ChorusOp → ChorusOp} : (updOp g q f s).fab = s.fab := rfl

/-! `updRegion` -/

@[simp] theorem updRegion_pending {s : State} {i : Nat} {f : Region → Region} : (updRegion i f s).pending = s.pending := rfl

@[simp] theorem updRegion_out {s : State} {i : Nat} {f : Region → Region} : (updRegion i f s).out = s.out := rfl

@[simp] theorem updRegion_heldOut {s : State} {i : Nat} {f : Region → Region} : (updRegion i f s).heldOut = s.heldOut := rfl

@[simp] theorem updRegion_freeCtr {s : State} {i : Nat} {f : Region → Region} : (updRegion i f s).freeCtr = s.freeCtr := rfl

@[simp] theorem updRegion_clk {s : State} {i : Nat} {f : Region → Region} : (updRegion i f s).clk = s.clk := rfl

@[simp] theorem updRegion_sys {s : State} {i : Nat} {f : Region → Region} : (updRegion i f s).sys = s.sys := rfl

@[simp] theorem updRegion_regs {s : State} {i : Nat} {f : Region → Region} : (updRegion i f s).regs = s.regs := rfl

@[simp] theorem updRegion_bank0 {s : State} {i : Nat} {f : Region → Region} : (updRegion i f s).bank0 = s.bank0 := rfl

@[simp] theorem updRegion_bank1 {s : State} {i : Nat} {f : Region → Region} : (updRegion i f s).bank1 = s.bank1 := rfl

@[simp] theorem updRegion_sec {s : State} {i : Nat} {f : Region → Region} : (updRegion i f s).sec = s.sec := rfl

@[simp] theorem updRegion_gates {s : State} {i : Nat} {f : Region → Region} : (updRegion i f s).gates = s.gates := rfl

@[simp] theorem updRegion_pend {s : State} {i : Nat} {f : Region → Region} : (updRegion i f s).pend = s.pend := rfl

@[simp] theorem updRegion_engines {s : State} {i : Nat} {f : Region → Region} : (updRegion i f s).engines = s.engines := rfl

@[simp] theorem updRegion_mem {s : State} {i : Nat} {f : Region → Region} : (updRegion i f s).mem = s.mem := rfl

@[simp] theorem updRegion_cmd {s : State} {i : Nat} {f : Region → Region} : (updRegion i f s).cmd = s.cmd := rfl

@[simp] theorem updRegion_counters {s : State} {i : Nat} {f : Region → Region} : (updRegion i f s).counters = s.counters := rfl

@[simp] theorem updRegion_dump {s : State} {i : Nat} {f : Region → Region} : (updRegion i f s).dump = s.dump := rfl

@[simp] theorem updRegion_hif {s : State} {i : Nat} {f : Region → Region} : (updRegion i f s).hif = s.hif := rfl

@[simp] theorem updRegion_qmg {s : State} {i : Nat} {f : Region → Region} : (updRegion i f s).qmg = s.qmg := rfl

@[simp] theorem updRegion_xlt {s : State} {i : Nat} {f : Region → Region} : (updRegion i f s).xlt = s.xlt := rfl

@[simp] theorem updRegion_trn {s : State} {i : Nat} {f : Region → Region} : (updRegion i f s).trn = s.trn := rfl

@[simp] theorem updRegion_svc {s : State} {i : Nat} {f : Region → Region} : (updRegion i f s).svc = s.svc := rfl

@[simp] theorem updRegion_fab {s : State} {i : Nat} {f : Region → Region} : (updRegion i f s).fab = s.fab := rfl

/-! `updTarget` -/

@[simp] theorem updTarget_pending {s : State} {k : PeerKey} {psn : Pos} {f : TargetOp → TargetOp} : (updTarget k psn f s).pending = s.pending := rfl

@[simp] theorem updTarget_out {s : State} {k : PeerKey} {psn : Pos} {f : TargetOp → TargetOp} : (updTarget k psn f s).out = s.out := rfl

@[simp] theorem updTarget_heldOut {s : State} {k : PeerKey} {psn : Pos} {f : TargetOp → TargetOp} : (updTarget k psn f s).heldOut = s.heldOut := rfl

@[simp] theorem updTarget_freeCtr {s : State} {k : PeerKey} {psn : Pos} {f : TargetOp → TargetOp} : (updTarget k psn f s).freeCtr = s.freeCtr := rfl

@[simp] theorem updTarget_clk {s : State} {k : PeerKey} {psn : Pos} {f : TargetOp → TargetOp} : (updTarget k psn f s).clk = s.clk := rfl

@[simp] theorem updTarget_sys {s : State} {k : PeerKey} {psn : Pos} {f : TargetOp → TargetOp} : (updTarget k psn f s).sys = s.sys := rfl

@[simp] theorem updTarget_regs {s : State} {k : PeerKey} {psn : Pos} {f : TargetOp → TargetOp} : (updTarget k psn f s).regs = s.regs := rfl

@[simp] theorem updTarget_bank0 {s : State} {k : PeerKey} {psn : Pos} {f : TargetOp → TargetOp} : (updTarget k psn f s).bank0 = s.bank0 := rfl

@[simp] theorem updTarget_bank1 {s : State} {k : PeerKey} {psn : Pos} {f : TargetOp → TargetOp} : (updTarget k psn f s).bank1 = s.bank1 := rfl

@[simp] theorem updTarget_sec {s : State} {k : PeerKey} {psn : Pos} {f : TargetOp → TargetOp} : (updTarget k psn f s).sec = s.sec := rfl

@[simp] theorem updTarget_gates {s : State} {k : PeerKey} {psn : Pos} {f : TargetOp → TargetOp} : (updTarget k psn f s).gates = s.gates := rfl

@[simp] theorem updTarget_pend {s : State} {k : PeerKey} {psn : Pos} {f : TargetOp → TargetOp} : (updTarget k psn f s).pend = s.pend := rfl

@[simp] theorem updTarget_engines {s : State} {k : PeerKey} {psn : Pos} {f : TargetOp → TargetOp} : (updTarget k psn f s).engines = s.engines := rfl

@[simp] theorem updTarget_mem {s : State} {k : PeerKey} {psn : Pos} {f : TargetOp → TargetOp} : (updTarget k psn f s).mem = s.mem := rfl

@[simp] theorem updTarget_cmd {s : State} {k : PeerKey} {psn : Pos} {f : TargetOp → TargetOp} : (updTarget k psn f s).cmd = s.cmd := rfl

@[simp] theorem updTarget_counters {s : State} {k : PeerKey} {psn : Pos} {f : TargetOp → TargetOp} : (updTarget k psn f s).counters = s.counters := rfl

@[simp] theorem updTarget_dump {s : State} {k : PeerKey} {psn : Pos} {f : TargetOp → TargetOp} : (updTarget k psn f s).dump = s.dump := rfl

@[simp] theorem updTarget_hif {s : State} {k : PeerKey} {psn : Pos} {f : TargetOp → TargetOp} : (updTarget k psn f s).hif = s.hif := rfl

@[simp] theorem updTarget_qmg {s : State} {k : PeerKey} {psn : Pos} {f : TargetOp → TargetOp} : (updTarget k psn f s).qmg = s.qmg := rfl

@[simp] theorem updTarget_xlt {s : State} {k : PeerKey} {psn : Pos} {f : TargetOp → TargetOp} : (updTarget k psn f s).xlt = s.xlt := rfl

@[simp] theorem updTarget_trn {s : State} {k : PeerKey} {psn : Pos} {f : TargetOp → TargetOp} : (updTarget k psn f s).trn = s.trn := rfl

@[simp] theorem updTarget_svc {s : State} {k : PeerKey} {psn : Pos} {f : TargetOp → TargetOp} : (updTarget k psn f s).svc = s.svc := rfl

@[simp] theorem updTarget_fab {s : State} {k : PeerKey} {psn : Pos} {f : TargetOp → TargetOp} : (updTarget k psn f s).fab = s.fab := rfl

/-! `updPeer` -/

@[simp] theorem updPeer_pending {s : State} {k : PeerKey} {f : Peer → Peer} : (updPeer k f s).pending = s.pending := rfl

@[simp] theorem updPeer_out {s : State} {k : PeerKey} {f : Peer → Peer} : (updPeer k f s).out = s.out := rfl

@[simp] theorem updPeer_heldOut {s : State} {k : PeerKey} {f : Peer → Peer} : (updPeer k f s).heldOut = s.heldOut := rfl

@[simp] theorem updPeer_freeCtr {s : State} {k : PeerKey} {f : Peer → Peer} : (updPeer k f s).freeCtr = s.freeCtr := rfl

@[simp] theorem updPeer_clk {s : State} {k : PeerKey} {f : Peer → Peer} : (updPeer k f s).clk = s.clk := rfl

@[simp] theorem updPeer_sys {s : State} {k : PeerKey} {f : Peer → Peer} : (updPeer k f s).sys = s.sys := rfl

@[simp] theorem updPeer_regs {s : State} {k : PeerKey} {f : Peer → Peer} : (updPeer k f s).regs = s.regs := rfl

@[simp] theorem updPeer_bank0 {s : State} {k : PeerKey} {f : Peer → Peer} : (updPeer k f s).bank0 = s.bank0 := rfl

@[simp] theorem updPeer_bank1 {s : State} {k : PeerKey} {f : Peer → Peer} : (updPeer k f s).bank1 = s.bank1 := rfl

@[simp] theorem updPeer_sec {s : State} {k : PeerKey} {f : Peer → Peer} : (updPeer k f s).sec = s.sec := rfl

@[simp] theorem updPeer_gates {s : State} {k : PeerKey} {f : Peer → Peer} : (updPeer k f s).gates = s.gates := rfl

@[simp] theorem updPeer_pend {s : State} {k : PeerKey} {f : Peer → Peer} : (updPeer k f s).pend = s.pend := rfl

@[simp] theorem updPeer_engines {s : State} {k : PeerKey} {f : Peer → Peer} : (updPeer k f s).engines = s.engines := rfl

@[simp] theorem updPeer_mem {s : State} {k : PeerKey} {f : Peer → Peer} : (updPeer k f s).mem = s.mem := rfl

@[simp] theorem updPeer_cmd {s : State} {k : PeerKey} {f : Peer → Peer} : (updPeer k f s).cmd = s.cmd := rfl

@[simp] theorem updPeer_counters {s : State} {k : PeerKey} {f : Peer → Peer} : (updPeer k f s).counters = s.counters := rfl

@[simp] theorem updPeer_dump {s : State} {k : PeerKey} {f : Peer → Peer} : (updPeer k f s).dump = s.dump := rfl

@[simp] theorem updPeer_hif {s : State} {k : PeerKey} {f : Peer → Peer} : (updPeer k f s).hif = s.hif := rfl

@[simp] theorem updPeer_qmg {s : State} {k : PeerKey} {f : Peer → Peer} : (updPeer k f s).qmg = s.qmg := rfl

@[simp] theorem updPeer_xlt {s : State} {k : PeerKey} {f : Peer → Peer} : (updPeer k f s).xlt = s.xlt := rfl

@[simp] theorem updPeer_rma {s : State} {k : PeerKey} {f : Peer → Peer} : (updPeer k f s).rma = s.rma := rfl

@[simp] theorem updPeer_svc {s : State} {k : PeerKey} {f : Peer → Peer} : (updPeer k f s).svc = s.svc := rfl

@[simp] theorem updPeer_fab {s : State} {k : PeerKey} {f : Peer → Peer} : (updPeer k f s).fab = s.fab := rfl

/-! `updSend` -/

@[simp] theorem updSend_pending {s : State} {k : PeerKey} {f : SendHalf → SendHalf} : (updSend k f s).pending = s.pending := rfl

@[simp] theorem updSend_out {s : State} {k : PeerKey} {f : SendHalf → SendHalf} : (updSend k f s).out = s.out := rfl

@[simp] theorem updSend_heldOut {s : State} {k : PeerKey} {f : SendHalf → SendHalf} : (updSend k f s).heldOut = s.heldOut := rfl

@[simp] theorem updSend_freeCtr {s : State} {k : PeerKey} {f : SendHalf → SendHalf} : (updSend k f s).freeCtr = s.freeCtr := rfl

@[simp] theorem updSend_clk {s : State} {k : PeerKey} {f : SendHalf → SendHalf} : (updSend k f s).clk = s.clk := rfl

@[simp] theorem updSend_sys {s : State} {k : PeerKey} {f : SendHalf → SendHalf} : (updSend k f s).sys = s.sys := rfl

@[simp] theorem updSend_regs {s : State} {k : PeerKey} {f : SendHalf → SendHalf} : (updSend k f s).regs = s.regs := rfl

@[simp] theorem updSend_bank0 {s : State} {k : PeerKey} {f : SendHalf → SendHalf} : (updSend k f s).bank0 = s.bank0 := rfl

@[simp] theorem updSend_bank1 {s : State} {k : PeerKey} {f : SendHalf → SendHalf} : (updSend k f s).bank1 = s.bank1 := rfl

@[simp] theorem updSend_sec {s : State} {k : PeerKey} {f : SendHalf → SendHalf} : (updSend k f s).sec = s.sec := rfl

@[simp] theorem updSend_gates {s : State} {k : PeerKey} {f : SendHalf → SendHalf} : (updSend k f s).gates = s.gates := rfl

@[simp] theorem updSend_pend {s : State} {k : PeerKey} {f : SendHalf → SendHalf} : (updSend k f s).pend = s.pend := rfl

@[simp] theorem updSend_engines {s : State} {k : PeerKey} {f : SendHalf → SendHalf} : (updSend k f s).engines = s.engines := rfl

@[simp] theorem updSend_mem {s : State} {k : PeerKey} {f : SendHalf → SendHalf} : (updSend k f s).mem = s.mem := rfl

@[simp] theorem updSend_cmd {s : State} {k : PeerKey} {f : SendHalf → SendHalf} : (updSend k f s).cmd = s.cmd := rfl

@[simp] theorem updSend_counters {s : State} {k : PeerKey} {f : SendHalf → SendHalf} : (updSend k f s).counters = s.counters := rfl

@[simp] theorem updSend_dump {s : State} {k : PeerKey} {f : SendHalf → SendHalf} : (updSend k f s).dump = s.dump := rfl

@[simp] theorem updSend_hif {s : State} {k : PeerKey} {f : SendHalf → SendHalf} : (updSend k f s).hif = s.hif := rfl

@[simp] theorem updSend_qmg {s : State} {k : PeerKey} {f : SendHalf → SendHalf} : (updSend k f s).qmg = s.qmg := rfl

@[simp] theorem updSend_xlt {s : State} {k : PeerKey} {f : SendHalf → SendHalf} : (updSend k f s).xlt = s.xlt := rfl

@[simp] theorem updSend_rma {s : State} {k : PeerKey} {f : SendHalf → SendHalf} : (updSend k f s).rma = s.rma := rfl

@[simp] theorem updSend_svc {s : State} {k : PeerKey} {f : SendHalf → SendHalf} : (updSend k f s).svc = s.svc := rfl

@[simp] theorem updSend_fab {s : State} {k : PeerKey} {f : SendHalf → SendHalf} : (updSend k f s).fab = s.fab := rfl

/-! `updRecv` -/

@[simp] theorem updRecv_pending {s : State} {k : PeerKey} {f : RecvHalf → RecvHalf} : (updRecv k f s).pending = s.pending := rfl

@[simp] theorem updRecv_out {s : State} {k : PeerKey} {f : RecvHalf → RecvHalf} : (updRecv k f s).out = s.out := rfl

@[simp] theorem updRecv_heldOut {s : State} {k : PeerKey} {f : RecvHalf → RecvHalf} : (updRecv k f s).heldOut = s.heldOut := rfl

@[simp] theorem updRecv_freeCtr {s : State} {k : PeerKey} {f : RecvHalf → RecvHalf} : (updRecv k f s).freeCtr = s.freeCtr := rfl

@[simp] theorem updRecv_clk {s : State} {k : PeerKey} {f : RecvHalf → RecvHalf} : (updRecv k f s).clk = s.clk := rfl

@[simp] theorem updRecv_sys {s : State} {k : PeerKey} {f : RecvHalf → RecvHalf} : (updRecv k f s).sys = s.sys := rfl

@[simp] theorem updRecv_regs {s : State} {k : PeerKey} {f : RecvHalf → RecvHalf} : (updRecv k f s).regs = s.regs := rfl

@[simp] theorem updRecv_bank0 {s : State} {k : PeerKey} {f : RecvHalf → RecvHalf} : (updRecv k f s).bank0 = s.bank0 := rfl

@[simp] theorem updRecv_bank1 {s : State} {k : PeerKey} {f : RecvHalf → RecvHalf} : (updRecv k f s).bank1 = s.bank1 := rfl

@[simp] theorem updRecv_sec {s : State} {k : PeerKey} {f : RecvHalf → RecvHalf} : (updRecv k f s).sec = s.sec := rfl

@[simp] theorem updRecv_gates {s : State} {k : PeerKey} {f : RecvHalf → RecvHalf} : (updRecv k f s).gates = s.gates := rfl

@[simp] theorem updRecv_pend {s : State} {k : PeerKey} {f : RecvHalf → RecvHalf} : (updRecv k f s).pend = s.pend := rfl

@[simp] theorem updRecv_engines {s : State} {k : PeerKey} {f : RecvHalf → RecvHalf} : (updRecv k f s).engines = s.engines := rfl

@[simp] theorem updRecv_mem {s : State} {k : PeerKey} {f : RecvHalf → RecvHalf} : (updRecv k f s).mem = s.mem := rfl

@[simp] theorem updRecv_cmd {s : State} {k : PeerKey} {f : RecvHalf → RecvHalf} : (updRecv k f s).cmd = s.cmd := rfl

@[simp] theorem updRecv_counters {s : State} {k : PeerKey} {f : RecvHalf → RecvHalf} : (updRecv k f s).counters = s.counters := rfl

@[simp] theorem updRecv_dump {s : State} {k : PeerKey} {f : RecvHalf → RecvHalf} : (updRecv k f s).dump = s.dump := rfl

@[simp] theorem updRecv_hif {s : State} {k : PeerKey} {f : RecvHalf → RecvHalf} : (updRecv k f s).hif = s.hif := rfl

@[simp] theorem updRecv_qmg {s : State} {k : PeerKey} {f : RecvHalf → RecvHalf} : (updRecv k f s).qmg = s.qmg := rfl

@[simp] theorem updRecv_xlt {s : State} {k : PeerKey} {f : RecvHalf → RecvHalf} : (updRecv k f s).xlt = s.xlt := rfl

@[simp] theorem updRecv_rma {s : State} {k : PeerKey} {f : RecvHalf → RecvHalf} : (updRecv k f s).rma = s.rma := rfl

@[simp] theorem updRecv_svc {s : State} {k : PeerKey} {f : RecvHalf → RecvHalf} : (updRecv k f s).svc = s.svc := rfl

@[simp] theorem updRecv_fab {s : State} {k : PeerKey} {f : RecvHalf → RecvHalf} : (updRecv k f s).fab = s.fab := rfl

end Sys2Proof.Machine
end

