-- ==== Sys2Proof/Laws/WithinChorus.lean ====
section
/-! SUPPORT. What each operation of Machine/Chorus.lean, Machine/Match.lean, Machine/Lock.lean, Machine/Abandon.lean, Machine/Accept.lean, Machine/Route.lean, Machine/Switch.lean can do, as one lemma
of the form of Laws/Within.lean. The numeral is the set of parts it may change. -/

namespace Sys2Proof.Machine

theorem updGroup_within {g f s} : Within 0x20000000000000000000000000000000000000 s (updGroup g f s) := by
  unfold updGroup
  refine Within.upd (e := s) ?_ rfl rfl rfl rfl rfl rfl rfl rfl
  exact Within.refl

theorem updOp_within {g q f s} : Within 0x20000000000000000000000000000000000000 s (updOp g q f s) := by
  unfold updOp
  refine Within.app updGroup_within rfl ?_
  exact Within.refl

theorem sendChorus_within {g dest kind aux opseq e1 data s} :
    Within 0x28b000002040010000000000000000000000e s (sendChorus g dest kind aux opseq e1 data s) := by
  unfold sendChorus
  refine Within.app sendOn_within rfl ?_
  exact Within.refl

theorem makeFlows_within {dims s} : Within2 0x20000000000000000000000000000000000 s (makeFlows dims s) := by
  unfold makeFlows
  refine Within2.foldl ?_ ?_
  · intro x1 t2 x3
    extract_lets v4 v5 v6
    have hv4 : Within 0x20000000000000000000000000000000000 t2 v4 := by
      unfold v4
      refine Within2.snd ?_
      refine Within2.mk ?_
      exact Within.refl
    clear_value v4
    refine Within2.mk ?_
    refine Within.upd (e := v4) ?_ rfl rfl rfl rfl rfl rfl rfl rfl
    exact hv4
  · refine Within2.mk ?_
    exact Within.refl

theorem sendJoin_within {g s} : Within 0x28b000002040010000000000000000000000e s (sendJoin g s) := by
  unfold sendJoin
  split
  · rename_i x1 h2
    exact Within.refl
  · rename_i x3 x4 h5
    split
    rename_i x6 x7 x8 t9 h10
    have ht9 : Within 0x28b000002040010000000000000000000000e s t9 := by
      refine Within3.of h10 ?_
      split
      · rename_i x11 x12 x13 h14
        refine Within3.mk ?_
        exact Within.refl
      · rename_i x15 h16
        split
        rename_i x17 x18 t19 h20
        have ht19 : Within 0x28b000002040010000000000000000000000e s t19 := by
          refine Within2.of h20 ?_
          refine Within2.app State.drawNat_within rfl ?_
          exact Within.refl
        split
        rename_i x21 x22 t23 h24
        have ht23 : Within 0x28b000002040010000000000000000000000e s t23 := by
          refine Within2.of h24 ?_
          refine Within2.app State.drawNat_within rfl ?_
          exact ht19
        refine Within3.mk ?_
        exact ht23
    extract_lets v25
    refine Within.app sendChorus_within rfl ?_
    exact ht9

theorem joinAck_within {g child s} : Within 0x28b000002040010000000000000000000000e s (joinAck g child s) := by
  unfold joinAck
  extract_lets v1 v2
  refine Within.app sendChorus_within rfl ?_
  exact Within.refl

theorem addChild_within {g child s} : Within 0x20000000000000000000000000000000000000 s (addChild g child s) := by
  unfold addChild
  refine Within.app updGroup_within rfl ?_
  exact Within.refl

theorem dropGroup_within {g s} : Within 0x20000000000000000000000000000000000000 s (dropGroup g s) := by
  unfold dropGroup
  refine Within.upd (e := s) ?_ rfl rfl rfl rfl rfl rfl rfl rfl
  exact Within.refl

theorem joinFail_within {g s} : Within 0x228b00000204001fff02001f0200000000000e s (joinFail g s) := by
  unfold joinFail
  extract_lets v1
  have hv1 : Within 0x228b00000204001fff02001f0200000000000e s v1 := by
    unfold v1
    refine Within.foldl ?_ ?_
    · intro t2 x3
      refine Within.app sendChorus_within rfl ?_
      exact Within.refl
    · exact Within.refl
  clear_value v1
  refine Within.app completeWhere_within rfl ?_
  refine Within.app dropGroup_within rfl ?_
  exact hv1

theorem joinDone_within {g s} : Within 0x228b00000204001fff02001f0200000000000e s (joinDone g s) := by
  unfold joinDone
  extract_lets v1
  have hv1 : Within 0x228b00000204001fff02001f0200000000000e s v1 := by
    unfold v1
    refine Within.app updGroup_within rfl ?_
    exact Within.refl
  clear_value v1
  split
  · rename_i x2 h3
    exact hv1
  · rename_i x4 x5 h6
    extract_lets v7 v8
    have hv7 : Within 0x228b00000204001fff02001f0200000000000e s v7 := by
      unfold v7
      refine Within.foldl ?_ ?_
      · intro t9 x10
        refine Within.app joinAck_within rfl ?_
        refine Within.app addChild_within rfl ?_
        exact Within.refl
      · exact hv1
    clear_value v7
    have hv8 : Within 0x228b00000204001fff02001f0200000000000e s v8 := by
      unfold v8
      refine Within.app updGroup_within rfl ?_
      exact hv7
    clear_value v8
    refine Within.app completeWhere_within rfl ?_
    exact hv8

theorem endMember_within {gn q m' status s} : Within 0x2000002001060d4227801fff02001f02000000000006 s (endMember gn q m' status s) := by
  unfold endMember
  extract_lets v1
  refine Within.app endJobWith_within rfl ?_
  refine Within.app updOp_within rfl ?_
  exact Within.refl

theorem forgetOps_within {gn s} : Within 0x20000000000000000000000000000000000000 s (forgetOps gn s) := by
  unfold forgetOps
  refine Within.app updGroup_within rfl ?_
  exact Within.refl

theorem memberEnds_within {g q s m'} : Within 0x2000002001060d4227801fff02001f02000000000006 s (memberEnds g q s m') := by
  unfold memberEnds
  split
  · rename_i x1 h2
    exact Within.refl
  · rename_i x3 x4 h5
    refine Within.ite ?_ ?_
    · exact Within.refl
    · refine Within.app endMember_within rfl ?_
      exact Within.refl

theorem chorusEnds_within {gn s} : Within 0x2000002001060d4227801fff02001f02000000000006 s (chorusEnds gn s) := by
  unfold chorusEnds
  split
  · rename_i x1 h2
    exact Within.refl
  · rename_i x3 x4 h5
    extract_lets v6
    have hv6 : Within 0x2000002001060d4227801fff02001f02000000000006 s v6 := by
      unfold v6
      refine Within.foldl ?_ ?_
      · intro t7 x8
        refine Within.foldl ?_ ?_
        · intro t9 x10
          refine Within.app memberEnds_within rfl ?_
          exact Within.refl
        · exact Within.refl
      · exact Within.refl
    clear_value v6
    refine Within.ite ?_ ?_
    · refine Within.app forgetOps_within rfl ?_
      exact hv6
    · refine Within.app updGroup_within rfl ?_
      exact hv6

theorem endMembers_within {g lostFa s} : Within 0x2000002001060d4227801fff02001f02000000000006 s (endMembers g lostFa s) := by
  unfold endMembers
  refine Within.app chorusEnds_within rfl ?_
  refine Within.foldl ?_ ?_
  · intro t1 x2
    refine Within.ite ?_ ?_
    · exact Within.refl
    · refine Within.app updOp_within rfl ?_
      exact Within.refl
  · exact Within.refl

theorem groupsGiveUp_within {s} : Within 0x2000002001060d4227801fff02001f02000000000006 s (groupsGiveUp s) := by
  unfold groupsGiveUp
  refine Within.foldl ?_ ?_
  · intro t1 x2
    refine Within.app chorusEnds_within rfl ?_
    refine Within.foldl ?_ ?_
    · intro t3 x4
      refine Within.ite ?_ ?_
      · exact Within.refl
      · refine Within.app updOp_within rfl ?_
        exact Within.refl
    · exact Within.refl
  · exact Within.refl

theorem chorusLoss_within {gn cause lostFa fromCoord s} :
    Within 0x281002a28b060d4227801fff02001f0304000d40000e s (chorusLoss gn cause lostFa fromCoord s) := by
  unfold chorusLoss
  split
  · rename_i x1 h2
    exact Within.refl
  · rename_i x3 x4 h5
    refine Within.ite ?_ ?_
    · exact Within.refl
    · extract_lets v6 v7 v8 v9 v10 v11 v12
      have hv7 : Within 0x281002a28b060d4227801fff02001f0304000d40000e s v7 := by
        unfold v7
        refine Within.foldl ?_ ?_
        · intro t13 x14
          refine Within.app sendChorus_within rfl ?_
          exact Within.refl
        · exact Within.refl
      clear_value v7
      have hv8 : Within 0x281002a28b060d4227801fff02001f0304000d40000e s v8 := by
        unfold v8
        refine Within.app updGroup_within rfl ?_
        exact hv7
      clear_value v8
      have hv9 : Within 0x281002a28b060d4227801fff02001f0304000d40000e s v9 := by
        unfold v9
        refine Within.app State.capture_within rfl ?_
        exact hv8
      clear_value v9
      have hv10 : Within 0x281002a28b060d4227801fff02001f0304000d40000e s v10 := by
        unfold v10
        refine Within.app report_within rfl ?_
        exact hv9
      clear_value v10
      have hv12 : Within 0x281002a28b060d4227801fff02001f0304000d40000e s v12 := by
        unfold v12
        refine Within.foldl ?_ ?_
        · intro t15 x16
          refine Within.app endpointEvent_within rfl ?_
          exact Within.refl
        · exact hv10
      clear_value v12
      refine Within.app endMembers_within rfl ?_
      exact hv12

theorem memberQueueLost_within {qid s} : Within 0x281002a28b060d4227801fff02001f0304000d40000e s (memberQueueLost qid s) := by
  unfold memberQueueLost
  refine Within.foldl ?_ ?_
  · intro t1 x2
    split
    · rename_i x3 x4 h5
      refine Within.app chorusLoss_within rfl ?_
      exact Within.refl
    · rename_i x6 h7
      exact Within.refl
  · exact Within.refl

theorem chorusPeerLost_within {coord cause s} : Within 0x281002a28b060d4227801fff02001f0304000d40000e s (chorusPeerLost coord cause s) := by
  unfold chorusPeerLost
  refine Within.foldl ?_ ?_
  · intro t1 x2
    refine Within.ite ?_ ?_
    · refine Within.app joinFail_within rfl ?_
      exact Within.refl
    · refine Within.ite ?_ ?_
      · refine Within.app endMembers_within rfl ?_
        exact Within.refl
      · refine Within.ite ?_ ?_
        · refine Within.app chorusLoss_within rfl ?_
          exact Within.refl
        · exact Within.refl
  · exact Within.refl

theorem moveToError_within {qid s} : Within 0x281002a28b060d4227801fff02001f0304000d40000e s (moveToError qid s) := by
  unfold moveToError
  refine Within.app memberQueueLost_within rfl ?_
  refine Within.app enterError_within rfl ?_
  exact Within.refl

theorem giveResult_within {g q m' r s} : Within 0x2000060d000300100002001f02000000000006 s (giveResult g q m' r s) := by
  unfold giveResult
  extract_lets v1 v2
  have hv1 : ∀ x3 t4, Within 0x2000060d000300100002001f02000000000006 t4 (v1 x3 t4) := by
    intro x3 t4
    unfold v1
    refine Within.app updOp_within rfl ?_
    exact Within.refl
  clear_value v1
  split
  · rename_i x5 h6
    exact Within.refl
  · rename_i x7 x8 h9
    split
    rename_i x10 x11 x12 x13 x14 x15 h16
    refine Within.ite ?_ ?_
    · exact Within.refl
    · refine Within.ite ?_ ?_
      · refine Within.trans ?_ (hv1 _ _)
        exact Within.refl
      · refine Within.ite ?_ ?_
        · exact Within.refl
        · split
          · rename_i x17 h18
            refine Within.trans ?_ (hv1 _ _)
            exact Within.refl
          · rename_i x19 x20 x21 h22
            refine Within.ite ?_ ?_
            · refine Within.trans ?_ (hv1 _ _)
              exact Within.refl
            · split
              · rename_i x23 t24 h25
                have ht24 : Within 0x2000060d000300100002001f02000000000006 s t24 := by
                  refine Within2.of h25 ?_
                  refine Within2.app placeLocal_within rfl ?_
                  exact Within.refl
                exact ht24
              · rename_i x26 x27 t28 h29
                have ht28 : Within 0x2000060d000300100002001f02000000000006 s t28 := by
                  refine Within2.of h29 ?_
                  refine Within2.app placeLocal_within rfl ?_
                  exact Within.refl
                refine Within.ite ?_ ?_
                · refine Within.trans ?_ (hv1 _ _)
                  exact ht28
                · refine Within.trans ?_ (hv1 _ _)
                  exact ht28

theorem giveResults_within {gn q s} : Within 0x2000002001060d4227801fff02001f02000000000006 s (giveResults gn q s) := by
  unfold giveResults
  split
  · rename_i x1 h2
    exact Within.refl
  · rename_i x3 x4 h5
    extract_lets v6
    have hv6 : Within 0x2000002001060d4227801fff02001f02000000000006 s v6 := by
      unfold v6
      refine Within.foldl ?_ ?_
      · intro t7 x8
        refine Within.foldl ?_ ?_
        · intro t9 x10
          extract_lets v11
          refine Within.ite ?_ ?_
          · exact Within.refl
          · refine Within.app giveResult_within rfl ?_
            exact Within.refl
        · exact Within.refl
      · exact Within.refl
    clear_value v6
    refine Within.app chorusEnds_within rfl ?_
    exact hv6

theorem ensureOp_within {g q coll oper dtype root s} :
    Within 0x20000000000000000000000000000000000000 s (ensureOp g q coll oper dtype root s) := by
  unfold ensureOp
  split
  · rename_i x1 x2 h3
    exact Within.refl
  · rename_i x4 h5
    extract_lets v6
    refine Within.app updGroup_within rfl ?_
    exact Within.refl

theorem membersGive_within {g q s} : Within 0x20000000000000000000000000000000000000 s (membersGive g q s) := by
  unfold membersGive
  split
  · rename_i x1 h2
    exact Within.refl
  · rename_i x3 x4 h5
    refine Within.foldl ?_ ?_
    · intro t6 x7
      refine Within.app updOp_within rfl ?_
      exact Within.refl
    · exact Within.refl

theorem memberReady_within {jid failed data s} :
    Within 0x2000002001060d4227801fff02001f02000000000006 s (memberReady jid failed data s) := by
  unfold memberReady
  refine Within.foldl ?_ ?_
  · intro t1 x2
    refine Within.foldl ?_ ?_
    · intro t3 x4
      refine Within.ite ?_ ?_
      · extract_lets v5 v6
        have hv6 : Within 0x2000002001060d4227801fff02001f02000000000006 t3 v6 := by
          unfold v6
          refine Within.app updOp_within rfl ?_
          exact Within.refl
        clear_value v6
        refine Within.app giveResults_within rfl ?_
        refine Within.app membersGive_within rfl ?_
        exact hv6
      · exact Within.refl
    · exact Within.refl
  · exact Within.refl

theorem memberFail_within {jid status s} : Within 0x2000002001060d4227801fff02001f02000000000006 s (memberFail jid status s) := by
  unfold memberFail
  refine Within.foldl ?_ ?_
  · intro t1 x2
    refine Within.foldl ?_ ?_
    · intro t3 x4
      refine Within.ite ?_ ?_
      · extract_lets v5 v6
        have hv6 : Within 0x2000002001060d4227801fff02001f02000000000006 t3 v6 := by
          unfold v6
          refine Within.app updOp_within rfl ?_
          exact Within.refl
        clear_value v6
        refine Within.app giveResults_within rfl ?_
        refine Within.app membersGive_within rfl ?_
        exact hv6
      · exact Within.refl
    · exact Within.refl
  · exact Within.refl

theorem sendChunk_within {g o c kind dest s} : Within 0x28b000002040010000000000000000000000e s (sendChunk g o c kind dest s) := by
  unfold sendChunk
  split
  rename_i x1 x2 x3 h4
  extract_lets v5
  refine Within.foldl ?_ ?_
  · intro t6 x7
    split
    rename_i x8 x9 x10
    refine Within.app sendChorus_within rfl ?_
    exact Within.refl
  · exact Within.refl

theorem multicastResult_within {gn o r s} : Within 0x20000000000000000000000000000000000006 s (multicastResult gn o r s) := by
  unfold multicastResult
  split
  · rename_i x1 h2
    exact Within.refl
  · rename_i x3 x4 h5
    refine Within.foldl ?_ ?_
    · intro t6 x7
      extract_lets v8 v9 v10 v11 v12 v13
      split
      · rename_i x14 h15
        exact Within.refl
      · rename_i x16 x17 h18
        refine Within.ite ?_ ?_
        · exact Within.refl
        · extract_lets v19 v20 v21 v22
          refine Within.app State.emit_within rfl ?_
          refine Within.app updGroup_within rfl ?_
          exact Within.refl
    · exact Within.refl

theorem downRun_within {gn a1 a2} : Within 0x20000000000000000000000000000000000006 a2 (downRun gn a1 a2) := by
  induction a1 generalizing gn a2
  · rw [downRun]
    exact Within.refl
  · rename_i x1 ih
    rw [downRun]
    split
    · rename_i x2 h3
      exact Within.refl
    · rename_i x4 x5 h6
      split
      · rename_i x7 h8
        exact Within.refl
      · rename_i x9 x10 x11 x12 x13 h14
        refine Within.ite ?_ ?_
        · refine Within.app ih rfl ?_
          refine Within.app multicastResult_within rfl ?_
          refine Within.app updGroup_within rfl ?_
          exact Within.refl
        · exact Within.refl

theorem downGo_within {gn s} : Within 0x20000000000000000000000000000000000006 s (downGo gn s) := by
  unfold downGo
  refine Within.app downRun_within rfl ?_
  exact Within.refl

theorem passDown_within {gn o r s} : Within 0x20000000000000000000000000000000000006 s (passDown gn o r s) := by
  unfold passDown
  extract_lets v1
  refine Within.app downGo_within rfl ?_
  refine Within.app updGroup_within rfl ?_
  exact Within.refl

theorem takeResult_within {gn o down own s} : Within 0x2000002001060d4227801fff02001f02000000000006 s (takeResult gn o down own s) := by
  unfold takeResult
  extract_lets v1 v2
  have hv1 : Within 0x2000002001060d4227801fff02001f02000000000006 s v1 := by
    unfold v1
    refine Within.app passDown_within rfl ?_
    exact Within.refl
  clear_value v1
  have hv2 : Within 0x2000002001060d4227801fff02001f02000000000006 s v2 := by
    unfold v2
    refine Within.app updOp_within rfl ?_
    exact hv1
  clear_value v2
  refine Within.app giveResults_within rfl ?_
  refine Within.app membersGive_within rfl ?_
  exact hv2

theorem reduceChunk_within {gn q block idx s} : Within 0x200000228b060d4227801fff02001f0200000000000e s (reduceChunk gn q block idx s) := by
  unfold reduceChunk
  split
  · rename_i x1 h2
    exact Within.refl
  · rename_i x3 x4 h5
    split
    · rename_i x6 h7
      exact Within.refl
    · rename_i x8 x9 h10
      split
      · rename_i x11 h12
        exact Within.refl
      · rename_i x13 x14 h15
        extract_lets v16 v17 v18 v19 v20 v21 v22 v23
        have hv17 : Within 0x200000228b060d4227801fff02001f0200000000000e s v17 := by
          unfold v17
          refine Within.app updOp_within rfl ?_
          exact Within.refl
        clear_value v17
        have hv23 : Within 0x200000228b060d4227801fff02001f0200000000000e s v23 := by
          unfold v23
          refine Within.ite ?_ ?_
          · exact Within.refl
          · refine Within.app sendChorus_within rfl ?_
            exact Within.refl
        clear_value v23
        refine Within.ite ?_ ?_
        · exact Within.refl
        · refine Within.ite ?_ ?_
          · split
            · rename_i x24 h25
              exact hv17
            · rename_i x26 x27 h28
              refine Within.ite ?_ ?_
              · refine Within.app sendChunk_within rfl ?_
                exact hv17
              · refine Within.app sendChunk_within rfl ?_
                exact hv17
          · refine Within.ite ?_ ?_
            · refine Within.app takeResult_within rfl ?_
              exact hv23
            · refine Within.app takeResult_within rfl ?_
              exact Within.refl

theorem enterLeaving_within {gn s} : Within 0x2000002001060d4227801fff02001f02000000000006 s (enterLeaving gn s) := by
  unfold enterLeaving
  extract_lets v1 v2 v3
  have hv2 : Within 0x2000002001060d4227801fff02001f02000000000006 s v2 := by
    unfold v2
    refine Within.app updGroup_within rfl ?_
    exact Within.refl
  clear_value v2
  refine Within.app chorusEnds_within rfl ?_
  refine Within.foldl ?_ ?_
  · intro t4 x5
    refine Within.app membersGive_within rfl ?_
    exact Within.refl
  · exact hv2

theorem leaveCheck_within {gn s} : Within 0x228b00000204001fff02001f0200000000000e s (leaveCheck gn s) := by
  unfold leaveCheck
  split
  · rename_i x1 h2
    exact Within.refl
  · rename_i x3 x4 h5
    refine Within.ite ?_ ?_
    · extract_lets v6
      have hv6 : Within 0x228b00000204001fff02001f0200000000000e s v6 := by
        unfold v6
        split
        · rename_i x7 x8 h9
          refine Within.app sendChorus_within rfl ?_
          exact Within.refl
        · rename_i x10 h11
          exact Within.refl
      clear_value v6
      refine Within.app completeWhere_within rfl ?_
      refine Within.app dropGroup_within rfl ?_
      exact hv6
    · exact Within.refl

theorem onJoin_within {k p s} : Within 0x228b00000204001fff02001f0200000000000e s (onJoin k p s) := by
  unfold onJoin
  extract_lets v1 v2 v3 v4 v5 v6 v7
  have hv7 : ∀ t8, Within 0x228b00000204001fff02001f0200000000000e t8 (v7 t8) := by
    intro t8
    unfold v7
    refine Within.app sendOn_within rfl ?_
    exact Within.refl
  clear_value v7
  split
  · rename_i x9 x10 h11
    refine Within.ite ?_ ?_
    · refine Within.trans ?_ (hv7 _)
      exact Within.refl
    · split
      · rename_i x12 h13
        refine Within.app updGroup_within rfl ?_
        exact Within.refl
      · rename_i x14 h15
        refine Within.app downGo_within rfl ?_
        refine Within.app joinAck_within rfl ?_
        refine Within.app addChild_within rfl ?_
        exact Within.refl
      · rename_i x16 ih ih
        refine Within.trans ?_ (hv7 _)
        exact Within.refl
  · rename_i x17 h18
    refine Within.ite ?_ ?_
    · refine Within.trans ?_ (hv7 _)
      exact Within.refl
    · split
      rename_i x19 x20 t21 h22
      have ht21 : Within 0x228b00000204001fff02001f0200000000000e s t21 := by
        refine Within2.of h22 ?_
        refine Within2.app makeFlows_within rfl ?_
        exact Within.refl
      extract_lets v23 v24 v25 v26
      have hv26 : Within 0x228b00000204001fff02001f0200000000000e s v26 := by
        unfold v26
        refine Within.upd (e := t21) ?_ rfl rfl rfl rfl rfl rfl rfl rfl
        exact ht21
      clear_value v26
      refine Within.ite ?_ ?_
      · refine Within.app joinDone_within rfl ?_
        exact hv26
      · refine Within.app sendJoin_within rfl ?_
        exact hv26

theorem rebuildChunk_within {gn q block idx upAttempt s} :
    Within 0x228b000002040010000000000000000000000e s (rebuildChunk gn q block idx upAttempt s) := by
  unfold rebuildChunk
  split
  · rename_i x1 h2
    exact Within.refl
  · rename_i x3 x4 h5
    split
    · rename_i x6 h7
      exact Within.refl
    · rename_i x8 x9 h10
      split
      · rename_i x11 h12
        exact Within.refl
      · rename_i x13 x14 h15
        extract_lets v16 v17
        have hv16 : Within 0x228b000002040010000000000000000000000e s v16 := by
          unfold v16
          refine Within.app updOp_within rfl ?_
          exact Within.refl
        clear_value v16
        have hv17 : Within 0x228b000002040010000000000000000000000e s v17 := by
          unfold v17
          refine Within.foldl ?_ ?_
          · intro t18 x19
            refine Within.app sendChorus_within rfl ?_
            exact Within.refl
          · exact hv16
        clear_value v17
        refine Within.app membersGive_within rfl ?_
        exact hv17

theorem rebuildGroup_within {gn s} : Within 0x228b000002040010000000000000000000000e s (rebuildGroup gn s) := by
  unfold rebuildGroup
  split
  · rename_i x1 h2
    exact Within.refl
  · rename_i x3 x4 h5
    refine Within.foldl ?_ ?_
    · intro t6 x7
      refine Within.foldl ?_ ?_
      · intro t8 x9
        refine Within.app rebuildChunk_within rfl ?_
        exact Within.refl
      · exact Within.refl
    · exact Within.refl

theorem onChunk_within {k p relay s} : Within 0x281002a28b060d4227801fff02001f0304000d40000e s (onChunk k p relay s) := by
  unfold onChunk
  extract_lets v1 v2 v3 v4 v5 v6 v7 v8 v9 v10 v11 v12 v13 v14 v15 v16 v17
  have hv15 : Within 0x281002a28b060d4227801fff02001f0304000d40000e s v15 := by
    unfold v15
    refine Within.app ensureOp_within rfl ?_
    exact Within.refl
  clear_value v15
  split
  · rename_i x18 h19
    exact Within.refl
  · rename_i x20 x21 h22
    refine Within.ite ?_ ?_
    · exact Within.refl
    · split
      · rename_i x23 h24
        exact hv15
      · rename_i x25 x26 h27
        refine Within.ite ?_ ?_
        · refine Within.app chorusLoss_within rfl ?_
          exact hv15
        · refine Within.ite ?_ ?_
          · refine Within.app giveResults_within rfl ?_
            refine Within.app updOp_within rfl ?_
            exact hv15
          · refine Within.ite ?_ ?_
            · refine Within.app updOp_within rfl ?_
              exact hv15
            · extract_lets v28 v29 v30
              refine Within.ite ?_ ?_
              · exact hv15
              · refine Within.ite ?_ ?_
                · refine Within.app chorusLoss_within rfl ?_
                  exact hv15
                · refine Within.app updOp_within rfl ?_
                  exact hv15

theorem laterGo_within {gn q s} : Within 0x281002a28b060d4227801fff02001f0304000d40000e s (laterGo gn q s) := by
  unfold laterGo
  split
  · rename_i x1 h2
    exact Within.refl
  · rename_i x3 x4 h5
    refine Within.foldl ?_ ?_
    · intro t6 x7
      refine Within.asOf ?_ ?_
      · intro t8
        refine Within.app onChunk_within rfl ?_
        exact Within.refl
      · exact Within.refl
    · refine Within.app updOp_within rfl ?_
      exact Within.refl

theorem onReplay_within {p s} : Within 0x228b000002040010000000000000000000000e s (onReplay p s) := by
  unfold onReplay
  extract_lets v1 v2 v3 v4 v5 v6 v7 v8 v9
  have hv9 : Within 0x228b000002040010000000000000000000000e s v9 := by
    unfold v9
    refine Within.app ensureOp_within rfl ?_
    exact Within.refl
  clear_value v9
  split
  · rename_i x10 h11
    refine Within.app updOp_within rfl ?_
    exact hv9
  · rename_i x12 x13 h14
    refine Within.ite ?_ ?_
    · refine Within.app rebuildChunk_within rfl ?_
      exact hv9
    · refine Within.app updOp_within rfl ?_
      exact hv9

theorem onResultAck_within {gn dim head child s} : Within 0x20000000000000000000000000000000000006 s (onResultAck gn dim head child s) := by
  unfold onResultAck
  extract_lets v1 v2 v3
  refine Within.app downGo_within rfl ?_
  refine Within.app updGroup_within rfl ?_
  exact Within.refl

theorem onChorus_within {k p s} : Within 0x281002a28b060d4227801fff02001f0304000d40000e s (onChorus k p s) := by
  unfold onChorus
  extract_lets v1 v2 v3 v4
  refine Within.ite ?_ ?_
  · refine Within.app onJoin_within rfl ?_
    exact Within.refl
  · refine Within.ite ?_ ?_
    · refine Within.app onChunk_within rfl ?_
      exact Within.refl
    · refine Within.ite ?_ ?_
      · refine Within.app onChunk_within rfl ?_
        exact Within.refl
      · refine Within.ite ?_ ?_
        · refine Within.app onReplay_within rfl ?_
          exact Within.refl
        · refine Within.ite ?_ ?_
          · refine Within.app onResultAck_within rfl ?_
            exact Within.refl
          · split
            · rename_i x5 h6
              exact Within.refl
            · rename_i x7 x8 h9
              refine Within.ite ?_ ?_
              · exact Within.refl
              · refine Within.ite ?_ ?_
                · refine Within.ite ?_ ?_
                  · refine Within.app downGo_within rfl ?_
                    refine Within.app joinDone_within rfl ?_
                    refine Within.app updGroup_within rfl ?_
                    exact Within.refl
                  · exact Within.refl
                · refine Within.ite ?_ ?_
                  · refine Within.ite ?_ ?_
                    · refine Within.app joinFail_within rfl ?_
                      exact Within.refl
                    · exact Within.refl
                  · refine Within.ite ?_ ?_
                    · refine Within.app leaveCheck_within rfl ?_
                      refine Within.app enterLeaving_within rfl ?_
                      refine Within.app updGroup_within rfl ?_
                      exact Within.refl
                    · refine Within.ite ?_ ?_
                      · refine Within.app chorusLoss_within rfl ?_
                        exact Within.refl
                      · exact Within.refl

theorem onResult_within {p s} : Within 0x281002a28b060d4227801fff02001f0304000d40000e s (onResult p s) := by
  unfold onResult
  extract_lets v1 v2 v3 v4 v5 v6 v7
  split
  · rename_i x8 h9
    exact Within.refl
  · rename_i x10 x11 h12
    split
    · rename_i x13 h14
      exact Within.refl
    · rename_i x15 x16 h17
      refine Within.ite ?_ ?_
      · exact Within.refl
      · extract_lets v18 v19 v20 v21 v22 v23
        have hv20 : Within 0x281002a28b060d4227801fff02001f0304000d40000e s v20 := by
          unfold v20
          refine Within.ite ?_ ?_
          · refine Within.app updGroup_within rfl ?_
            exact Within.refl
          · exact Within.refl
        clear_value v20
        have hv22 : Within 0x281002a28b060d4227801fff02001f0304000d40000e s v22 := by
          unfold v22
          refine Within.app sendChorus_within rfl ?_
          exact hv20
        clear_value v22
        have hv23 : Within 0x281002a28b060d4227801fff02001f0304000d40000e s v23 := by
          unfold v23
          refine Within.app ensureOp_within rfl ?_
          exact hv22
        clear_value v23
        refine Within.ite ?_ ?_
        · refine Within.app State.count_within rfl ?_
          exact Within.refl
        · refine Within.ite ?_ ?_
          · exact hv22
          · split
            · rename_i x24 h25
              exact hv23
            · rename_i x26 x27 h28
              refine Within.app laterGo_within rfl ?_
              refine Within.app takeResult_within rfl ?_
              exact hv23

theorem resultRetx_within {gn dim s} : Within 0x281002a28b060d4227801fff02001f0304000d40003e s (resultRetx gn dim s) := by
  unfold resultRetx
  split
  · rename_i x1 h2
    exact Within.refl
  · rename_i x3 x4 h5
    extract_lets v6 v7
    split
    · rename_i x8 h9
      exact Within.refl
    · rename_i x10 x11 x12 h13
      extract_lets v14 v15 v16 v17 v18 v19
      have hv14 : Within 0x281002a28b060d4227801fff02001f0304000d40003e s v14 := by
        unfold v14
        refine Within.app State.advanceTo_within rfl ?_
        exact Within.refl
      clear_value v14
      have hv15 : Within 0x281002a28b060d4227801fff02001f0304000d40003e s v15 := by
        unfold v15
        refine Within.elim ?_ ?_
        · exact hv14
        · intro x20
          refine Within.app chorusLoss_within rfl ?_
          exact hv14
      clear_value v15
      have hv17 : Within 0x281002a28b060d4227801fff02001f0304000d40003e s v17 := by
        unfold v17
        refine Within.foldl ?_ ?_
        · intro t21 x22
          extract_lets v23 v24
          refine Within.ite ?_ ?_
          · exact Within.refl
          · refine Within.app State.emit_within rfl ?_
            exact Within.refl
        · exact hv15
      clear_value v17
      refine Within.app updGroup_within rfl ?_
      exact hv17

theorem joinTimeout_within {gn s} : Within 0x281002a28b060d4227801fff02001f0304000d40003e s (joinTimeout gn s) := by
  unfold joinTimeout
  split
  · rename_i x1 h2
    exact Within.refl
  · rename_i x3 x4 h5
    refine Within.ite ?_ ?_
    · exact Within.refl
    · refine Within.ite ?_ ?_
      · extract_lets v6
        have hv6 : Within 0x281002a28b060d4227801fff02001f0304000d40003e s v6 := by
          unfold v6
          refine Within.app State.advanceTo_within rfl ?_
          exact Within.refl
        clear_value v6
        split
        · rename_i x7 x8 h9
          refine Within.app chorusLoss_within rfl ?_
          exact hv6
        · rename_i x10 h11
          split
          rename_i x12 x13 t14 h15
          have ht14 : Within 0x281002a28b060d4227801fff02001f0304000d40003e s t14 := by
            refine Within2.of h15 ?_
            refine Within2.app State.drawNat_within rfl ?_
            exact hv6
          extract_lets v16
          refine Within.app chorusLoss_within rfl ?_
          exact ht14
      · refine Within.ite ?_ ?_
        · extract_lets v17
          have hv17 : Within 0x281002a28b060d4227801fff02001f0304000d40003e s v17 := by
            unfold v17
            refine Within.app State.advanceTo_within rfl ?_
            exact Within.refl
          clear_value v17
          split
          rename_i x18 x19 t20 h21
          have ht20 : Within 0x281002a28b060d4227801fff02001f0304000d40003e s t20 := by
            refine Within2.of h21 ?_
            refine Within2.app State.drawNat_within rfl ?_
            exact hv17
          refine Within.app chorusLoss_within rfl ?_
          exact ht20
        · exact Within.refl

theorem recvFail_within {jid status s} : Within 0x20000000000000000000000000000 s (recvFail jid status s) := by
  unfold recvFail
  refine Within.app updJob_within rfl ?_
  exact Within.refl

theorem recvPlace_within {jid off len bs who s} : Within2 0x60d020300100002001f02000000000006 s (recvPlace jid off len bs who s) := by
  unfold recvPlace
  split
  · rename_i x1 h2
    refine Within2.mk ?_
    exact Within.refl
  · rename_i x3 x4 h5
    refine Within2.ite ?_ ?_
    · refine Within2.mk ?_
      exact Within.refl
    · split
      · rename_i x6 t7 h8
        have ht7 : Within 0x60d020300100002001f02000000000006 s t7 := by
          refine Within2.of h8 ?_
          refine Within2.app localReady_within rfl ?_
          exact Within.refl
        refine Within2.mk ?_
        exact ht7
      · rename_i x9 x10 t11 h12
        have ht11 : Within 0x60d020300100002001f02000000000006 s t11 := by
          refine Within2.of h12 ?_
          refine Within2.app localReady_within rfl ?_
          exact Within.refl
        extract_lets v13 v14 v15
        refine Within2.ite ?_ ?_
        · refine Within2.mk ?_
          refine Within.app recvFail_within rfl ?_
          exact ht11
        · refine Within2.ite ?_ ?_
          · refine Within2.mk ?_
            exact ht11
          · split
            · rename_i x16 x17 t18 h19
              have ht18 : Within 0x60d020300100002001f02000000000006 s t18 := by
                refine Within3.of h19 ?_
                refine Within3.app xRun_within rfl ?_
                exact ht11
              split
              rename_i x20 x21 x22 x23 h24
              refine Within2.mk ?_
              refine Within.app updJob_within rfl ?_
              refine Within.app State.emits_within rfl ?_
              exact ht18
            · rename_i x25 x26 t27 h28
              have ht27 : Within 0x60d020300100002001f02000000000006 s t27 := by
                refine Within3.of h28 ?_
                refine Within3.app xRun_within rfl ?_
                exact ht11
              refine Within2.mk ?_
              exact ht27
            · rename_i x29 x30 t31 h32
              have ht31 : Within 0x60d020300100002001f02000000000006 s t31 := by
                refine Within3.of h32 ?_
                refine Within3.app xRun_within rfl ?_
                exact ht11
              refine Within2.mk ?_
              refine Within.app recvFail_within rfl ?_
              exact ht31
            · rename_i x33 x34 t35 h36
              have ht35 : Within 0x60d020300100002001f02000000000006 s t35 := by
                refine Within3.of h36 ?_
                refine Within3.app xRun_within rfl ?_
                exact ht11
              refine Within2.mk ?_
              refine Within.app recvFail_within rfl ?_
              exact ht35

theorem recvEnd_within {jid len s} : Within 0x2000000001060d4227801fff02001f02000000000006 s (recvEnd jid len s) := by
  unfold recvEnd
  split
  · rename_i x1 h2
    exact Within.refl
  · rename_i x3 x4 h5
    refine Within.app endJob_within rfl ?_
    exact Within.refl

theorem updCtx_within {n f s} : Within 0x200000000000000000000000000000000000 s (updCtx n f s) := by
  unfold updCtx
  refine Within.upd (e := s) ?_ rfl rfl rfl rfl rfl rfl rfl rfl
  exact Within.refl

theorem updRndv_within {k rts f s} : Within 0x800000000000000000000000000000000000 s (updRndv k rts f s) := by
  unfold updRndv
  refine Within.upd (e := s) ?_ rfl rfl rfl rfl rfl rfl rfl rfl
  exact Within.refl

theorem sendFin_within {k rts pkey group status s} :
    Within 0x28b000002040010000000000000000000000e s (sendFin k rts pkey group status s) := by
  unfold sendFin
  refine Within.app sendOn_within rfl ?_
  exact Within.refl

theorem ctxDrained_within {n s} : Within 0x2000000000001fff02001f02000000000006 s (ctxDrained n s) := by
  unfold ctxDrained
  split
  · rename_i x1 h2
    exact Within.refl
  · rename_i x3 x4 h5
    refine Within.ite ?_ ?_
    · refine Within.app completeWhere_within rfl ?_
      refine Within.upd (e := s) ?_ rfl rfl rfl rfl rfl rfl rfl rfl
      exact Within.refl
    · exact Within.refl

theorem rndvFinish_within {k rts s} : Within 0x20000002ab060d4227801fff02001f0200000000000e s (rndvFinish k rts s) := by
  unfold rndvFinish
  split
  · rename_i x1 h2
    exact Within.refl
  · rename_i x3 x4 h5
    refine Within.ite ?_ ?_
    · exact Within.refl
    · extract_lets v6 v7 v8 v9
      have hv6 : Within 0x20000002ab060d4227801fff02001f0200000000000e s v6 := by
        unfold v6
        refine Within.app updJob_within rfl ?_
        exact Within.refl
      clear_value v6
      have hv7 : Within 0x20000002ab060d4227801fff02001f0200000000000e s v7 := by
        unfold v7
        refine Within.app recvEnd_within rfl ?_
        exact hv6
      clear_value v7
      have hv9 : Within 0x20000002ab060d4227801fff02001f0200000000000e s v9 := by
        unfold v9
        refine Within.upd (e := v7) ?_ rfl rfl rfl rfl rfl rfl rfl rfl
        exact hv7
      clear_value v9
      refine Within.app ctxDrained_within rfl ?_
      refine Within.app sendFin_within rfl ?_
      exact hv9

theorem rndvPump_within {k rts a2 a3} : Within 0x28b000002040010000000000000000000000e a3 (rndvPump k rts a2 a3) := by
  induction a2 generalizing k rts a3
  · rw [rndvPump]
    exact Within.refl
  · rename_i x1 ih
    rw [rndvPump]
    split
    · rename_i x2 h3
      exact Within.refl
    · rename_i x4 x5 h6
      refine Within.ite ?_ ?_
      · exact Within.refl
      · split
        · rename_i x7 h8
          refine Within.app updRndv_within rfl ?_
          exact Within.refl
        · rename_i x9 x10 x11 h12
          refine Within.ite ?_ ?_
          · refine Within.app ih rfl ?_
            refine Within.app updRndv_within rfl ?_
            exact Within.refl
          · extract_lets v13 v14 v15 v16 v17 v18
            have hv18 : Within 0x28b000002040010000000000000000000000e a3 v18 := by
              unfold v18
              refine Within.app updRndv_within rfl ?_
              exact Within.refl
            clear_value v18
            refine Within.ite ?_ ?_
            · exact Within.refl
            · refine Within.app ih rfl ?_
              refine Within.app sendOn_within rfl ?_
              exact hv18

theorem rndvGo_within {k rts s} : Within 0x20000002ab060d4227801fff02001f0200000000000e s (rndvGo k rts s) := by
  unfold rndvGo
  split
  · rename_i x1 h2
    exact Within.refl
  · rename_i x3 x4 h5
    split
    · rename_i x6 t7 h8
      have ht7 : Within 0x20000002ab060d4227801fff02001f0200000000000e s t7 := by
        refine Within2.of h8 ?_
        refine Within2.ite ?_ ?_
        · refine Within2.app localReady_within rfl ?_
          exact Within.refl
        · refine Within2.mk ?_
          exact Within.refl
      exact ht7
    · rename_i x9 x10 t11 h12
      have ht11 : Within 0x20000002ab060d4227801fff02001f0200000000000e s t11 := by
        refine Within2.of h12 ?_
        refine Within2.ite ?_ ?_
        · refine Within2.app localReady_within rfl ?_
          exact Within.refl
        · refine Within2.mk ?_
          exact Within.refl
      extract_lets v13
      have hv13 : Within 0x20000002ab060d4227801fff02001f0200000000000e s v13 := by
        unfold v13
        refine Within.ite ?_ ?_
        · exact ht11
        · refine Within.app updRndv_within rfl ?_
          exact ht11
      clear_value v13
      refine Within.app rndvFinish_within rfl ?_
      refine Within.app rndvPump_within rfl ?_
      exact hv13

theorem rndvStart_within {k rts ctx jid len list pkey rtsGroup s} :
    Within 0x20000002ab060d4227801fff02001f0200000000000e s (rndvStart k rts ctx jid len list pkey rtsGroup s) := by
  unfold rndvStart
  split
  · rename_i x1 h2
    exact Within.refl
  · rename_i x3 x4 h5
    extract_lets v6 v7 v8
    refine Within.app rndvGo_within rfl ?_
    refine Within.upd (e := s) ?_ rfl rfl rfl rfl rfl rfl rfl rfl
    exact Within.refl

theorem rndvData_within {k req off bs who s} : Within2 0x80060d020300100002001f02000000000006 s (rndvData k req off bs who s) := by
  unfold rndvData
  split
  · rename_i x1 h2
    refine Within2.mk ?_
    exact Within.refl
  · rename_i x3 x4 h5
    split
    · rename_i x6 h7
      refine Within2.mk ?_
      exact Within.refl
    · rename_i x8 x9 h10
      split
      · rename_i x11 t12 h13
        have ht12 : Within 0x80060d020300100002001f02000000000006 s t12 := by
          refine Within2.of h13 ?_
          refine Within2.app recvPlace_within rfl ?_
          exact Within.refl
        refine Within2.mk ?_
        exact ht12
      · rename_i x14 t15 h16
        have ht15 : Within 0x80060d020300100002001f02000000000006 s t15 := by
          refine Within2.of h16 ?_
          refine Within2.app recvPlace_within rfl ?_
          exact Within.refl
        extract_lets v17
        refine Within2.mk ?_
        refine Within.app updRndv_within rfl ?_
        exact ht15

theorem rndvReadEnd_within {k req status s} : Within 0x20000002ab060d4227801fff02001f0200000000000e s (rndvReadEnd k req status s) := by
  unfold rndvReadEnd
  split
  · rename_i x1 h2
    exact Within.refl
  · rename_i x3 x4 h5
    extract_lets v6 v7
    have hv7 : Within 0x20000002ab060d4227801fff02001f0200000000000e s v7 := by
      unfold v7
      refine Within.app updSend_within rfl ?_
      exact Within.refl
    clear_value v7
    refine Within.app rndvGo_within rfl ?_
    refine Within.app updRndv_within rfl ?_
    exact hv7

theorem ctxToError_within {n s} : Within 0x2810028021060d4227801fff02001f0304000d400006 s (ctxToError n s) := by
  unfold ctxToError
  split
  · rename_i x1 h2
    exact Within.refl
  · rename_i x3 x4 h5
    extract_lets v6 v7 v8 v9 v10
    have hv6 : Within 0x2810028021060d4227801fff02001f0304000d400006 s v6 := by
      unfold v6
      refine Within.app State.capture_within rfl ?_
      exact Within.refl
    clear_value v6
    have hv7 : Within 0x2810028021060d4227801fff02001f0304000d400006 s v7 := by
      unfold v7
      refine Within.app report_within rfl ?_
      exact hv6
    clear_value v7
    have hv8 : Within 0x2810028021060d4227801fff02001f0304000d400006 s v8 := by
      unfold v8
      refine Within.app updCtx_within rfl ?_
      exact hv7
    clear_value v8
    have hv10 : Within 0x2810028021060d4227801fff02001f0304000d400006 s v10 := by
      unfold v10
      refine Within.ite ?_ ?_
      · refine Within.app eqPut_within rfl ?_
        exact hv8
      · exact hv8
    clear_value v10
    refine Within.foldl ?_ ?_
    · intro t11 x12
      refine Within.app endJob_within rfl ?_
      exact Within.refl
    · exact hv10

theorem recvMatched_within {jid src tag imm sol s} : Within 0x20000000000000000000000000000 s (recvMatched jid src tag imm sol s) := by
  unfold recvMatched
  refine Within.app updJob_within rfl ?_
  exact Within.refl

theorem copyUnexp_within {jid s} : Within 0x2000000021060d4227801fff02001f02000000000006 s (copyUnexp jid s) := by
  unfold copyUnexp
  split
  · rename_i x1 h2
    exact Within.refl
  · rename_i x3 x4 h5
    split
    · rename_i x6 h7
      exact Within.refl
    · rename_i x8 x9 h10
      refine Within.ite ?_ ?_
      · exact Within.refl
      · split
        · rename_i x11 t12 h13
          have ht12 : Within 0x2000000021060d4227801fff02001f02000000000006 s t12 := by
            refine Within2.of h13 ?_
            refine Within2.app recvPlace_within rfl ?_
            exact Within.refl
          exact ht12
        · rename_i x14 t15 h16
          have ht15 : Within 0x2000000021060d4227801fff02001f02000000000006 s t15 := by
            refine Within2.of h16 ?_
            refine Within2.app recvPlace_within rfl ?_
            exact Within.refl
          extract_lets v17
          have hv17 : Within 0x2000000021060d4227801fff02001f02000000000006 s v17 := by
            unfold v17
            refine Within.app updCtx_within rfl ?_
            exact ht15
          clear_value v17
          refine Within.app ctxDrained_within rfl ?_
          refine Within.app recvEnd_within rfl ?_
          exact hv17

theorem mtcPost_within {jid s} : Within 0x28100282ab060d4227801fff02001f0304000d40000e s (mtcPost jid s) := by
  unfold mtcPost
  split
  · rename_i x1 h2
    exact Within.refl
  · rename_i x3 x4 h5
    split
    · rename_i x6 h7
      refine Within.app endJob_within rfl ?_
      exact Within.refl
    · rename_i x8 x9 h10
      refine Within.ite ?_ ?_
      · refine Within.app endJob_within rfl ?_
        exact Within.refl
      · extract_lets v11 v12
        split
        · rename_i x13 x14 h15
          extract_lets v16 v17
          have hv16 : Within 0x28100282ab060d4227801fff02001f0304000d40000e s v16 := by
            unfold v16
            refine Within.app recvMatched_within rfl ?_
            refine Within.app State.count_within rfl ?_
            exact Within.refl
          clear_value v16
          have hv17 : Within 0x28100282ab060d4227801fff02001f0304000d40000e s v17 := by
            unfold v17
            refine Within.app updCtx_within rfl ?_
            exact hv16
          clear_value v17
          refine Within.ite ?_ ?_
          · refine Within.app rndvStart_within rfl ?_
            exact hv17
          · refine Within.app copyUnexp_within rfl ?_
            refine Within.app updCtx_within rfl ?_
            exact hv16
        · rename_i x18 h19
          refine Within.ite ?_ ?_
          · refine Within.app updCtx_within rfl ?_
            refine Within.app updJob_within rfl ?_
            exact Within.refl
          · refine Within.app endJob_within rfl ?_
            refine Within.app ctxToError_within rfl ?_
            exact Within.refl

theorem mtcCancel_within {jid s} : Within 0x2000000021060d4227801fff02001f02000000000006 s (mtcCancel jid s) := by
  unfold mtcCancel
  split
  · rename_i x1 h2
    exact Within.refl
  · rename_i x3 x4 h5
    split
    · rename_i x6 h7
      refine Within.app endJob_within rfl ?_
      exact Within.refl
    · rename_i x8 x9 h10
      refine Within.ite ?_ ?_
      · refine Within.app endJob_within rfl ?_
        exact Within.refl
      · split
        · rename_i x11 h12
          refine Within.app endJobWith_within rfl ?_
          exact Within.refl
        · rename_i x13 x14 h15
          extract_lets v16
          have hv16 : Within 0x2000000021060d4227801fff02001f02000000000006 s v16 := by
            unfold v16
            refine Within.app updCtx_within rfl ?_
            exact Within.refl
          clear_value v16
          refine Within.app endJobWith_within rfl ?_
          refine Within.app endJob_within rfl ?_
          exact hv16

theorem tsendSearch_within {k p last s} : Within2 0x2810028021060d4227801fff02001f0304000d40000e s (tsendSearch k p last s) := by
  unfold tsendSearch
  split
  · rename_i x1 h2
    refine Within2.mk ?_
    exact Within.refl
  · rename_i x3 x4 h5
    extract_lets v6 v7 v8 v9 v10
    split
    · rename_i x11 x12 h13
      extract_lets v14 v15
      have hv14 : Within 0x2810028021060d4227801fff02001f0304000d40000e s v14 := by
        unfold v14
        refine Within.app updCtx_within rfl ?_
        exact Within.refl
      clear_value v14
      have hv15 : Within 0x2810028021060d4227801fff02001f0304000d40000e s v15 := by
        unfold v15
        refine Within.app recvMatched_within rfl ?_
        refine Within.app State.count_within rfl ?_
        exact hv14
      clear_value v15
      refine Within2.mk ?_
      exact hv15
    · rename_i x16 h17
      refine Within2.ite ?_ ?_
      · split
        · rename_i x18 x19 t20 h21
          have ht20 : Within 0x2810028021060d4227801fff02001f0304000d40000e s t20 := by
            refine Within2.of h21 ?_
            refine Within2.app hbmRefusal_within rfl ?_
            exact Within.refl
          refine Within2.mk ?_
          refine Within.app ctxToError_within rfl ?_
          exact ht20
        · rename_i x22 t23 h24
          have ht23 : Within 0x2810028021060d4227801fff02001f0304000d40000e s t23 := by
            refine Within2.of h24 ?_
            refine Within2.app hbmRefusal_within rfl ?_
            exact Within.refl
          extract_lets v25
          have hv25 : Within 0x2810028021060d4227801fff02001f0304000d40000e s v25 := by
            unfold v25
            refine Within.app updCtx_within rfl ?_
            exact ht23
          clear_value v25
          refine Within2.mk ?_
          refine Within.app State.count_within rfl ?_
          exact hv25
      · refine Within2.mk ?_
        refine Within.app updCtx_within rfl ?_
        exact Within.refl

theorem unexpData_within {k first off bs last s} :
    Within 0x2000000021060d4227801fff02001f02000000000006 s (unexpData k first off bs last s) := by
  unfold unexpData
  split
  · rename_i x1 h2
    exact Within.refl
  · rename_i x3 x4 h5
    extract_lets v6
    have hv6 : Within 0x2000000021060d4227801fff02001f02000000000006 s v6 := by
      unfold v6
      refine Within.app updCtx_within rfl ?_
      exact Within.refl
    clear_value v6
    split
    · rename_i x7 x8 h9
      refine Within.app copyUnexp_within rfl ?_
      exact hv6
    · rename_i x10 h11
      exact hv6

theorem withdrawTarget_within {k p s} : Within 0x2ab000002040010000000000000000000000e s (withdrawTarget k p s) := by
  unfold withdrawTarget
  extract_lets v1
  split
  · rename_i x2 h3
    exact Within.refl
  · rename_i x4 x5 h6
    split
    · rename_i x7 h8
      exact Within.refl
    · rename_i x9 x10 h11
      refine Within.app sendFin_within rfl ?_
      refine Within.app updCtx_within rfl ?_
      exact Within.refl

theorem withdrawRts_within {qid s} : Within 0x200000028b060d4227801fff02001f0200000000000e s (withdrawRts qid s) := by
  unfold withdrawRts
  refine Within.foldl ?_ ?_
  · intro t1 x2
    split
    · rename_i x3 h4
      refine Within.app endJob_within rfl ?_
      refine Within.app unqueue_within rfl ?_
      exact Within.refl
    · rename_i x5 x6 h7
      refine Within.app sendOn_within rfl ?_
      exact Within.refl
  · exact Within.refl

theorem updLock_within {n f s} : Within 0x1000000000000000000000000000000000000 s (updLock n f s) := by
  unfold updLock
  refine Within.upd (e := s) ?_ rfl rfl rfl rfl rfl rfl rfl rfl
  exact Within.refl

theorem sendLockResp_within {l w kind prio inh req s} :
    Within 0x28b000002040010000000000000000000000e s (sendLockResp l w kind prio inh req s) := by
  unfold sendLockResp
  extract_lets v1 v2
  refine Within.app sendOn_within rfl ?_
  exact Within.refl

theorem boostCheck_within {n s} : Within 0x38b000002040010000000000000000000000e s (boostCheck n s) := by
  unfold boostCheck
  split
  · rename_i x1 h2
    exact Within.refl
  · rename_i x3 x4 h5
    refine Within.ite ?_ ?_
    · exact Within.refl
    · extract_lets v6
      have hv6 : Within 0x38b000002040010000000000000000000000e s v6 := by
        unfold v6
        refine Within.app updLock_within rfl ?_
        exact Within.refl
      clear_value v6
      split
      · rename_i x7 h8
        exact hv6
      · rename_i x9 x10 h11
        refine Within.ite ?_ ?_
        · exact hv6
        · refine Within.app sendLockResp_within rfl ?_
          exact hv6

theorem grant_within {n w abandoned s} : Within 0x38b000002040010000000000000000000000e s (grant n w abandoned s) := by
  unfold grant
  split
  · rename_i x1 h2
    exact Within.refl
  · rename_i x3 x4 h5
    extract_lets v6
    have hv6 : Within 0x38b000002040010000000000000000000000e s v6 := by
      unfold v6
      refine Within.app updLock_within rfl ?_
      exact Within.refl
    clear_value v6
    refine Within.app sendLockResp_within rfl ?_
    exact hv6

theorem passLock_within {n abandoned s} : Within 0x38b000002040010000000000000000000000e s (passLock n abandoned s) := by
  unfold passLock
  split
  · rename_i x1 h2
    exact Within.refl
  · rename_i x3 x4 h5
    split
    · rename_i x6 x7 x8 h9
      refine Within.app grant_within rfl ?_
      refine Within.app updLock_within rfl ?_
      exact Within.refl
    · rename_i x10 h11
      refine Within.app updLock_within rfl ?_
      exact Within.refl

theorem holderReset_within {n s} : Within 0x81002838b060d420780100002001f0304000d40000e s (holderReset n s) := by
  unfold holderReset
  split
  · rename_i x1 h2
    exact Within.refl
  · rename_i x3 x4 h5
    split
    · rename_i x6 h7
      exact Within.refl
    · rename_i x8 x9 h10
      refine Within.app passLock_within rfl ?_
      refine Within.app report_within rfl ?_
      exact Within.refl

theorem lockApply_within {k p s} : Within 0x81002838b060d420780100002001f0304000d40000e s (lockApply k p s) := by
  unfold lockApply
  extract_lets v1 v2 v3 v4 v5
  split
  · rename_i x6 h7
    exact Within.refl
  · rename_i x8 x9 h10
    extract_lets v11
    split
    · rename_i x12 h13
      refine Within.ite ?_ ?_
      · refine Within.app grant_within rfl ?_
        exact Within.refl
      · refine Within.app boostCheck_within rfl ?_
        refine Within.app updLock_within rfl ?_
        exact Within.refl
    · rename_i x14 h15
      refine Within.app passLock_within rfl ?_
      exact Within.refl
    · rename_i x16 h17
      split
      · rename_i x18 h19
        exact Within.refl
      · rename_i x20 x21 h22
        extract_lets v23
        have hv23 : Within 0x81002838b060d420780100002001f0304000d40000e s v23 := by
          unfold v23
          refine Within.app updLock_within rfl ?_
          exact Within.refl
        clear_value v23
        refine Within.app boostCheck_within rfl ?_
        refine Within.app sendLockResp_within rfl ?_
        exact hv23
    · rename_i x24 h25
      refine Within.ite ?_ ?_
      · refine Within.app holderReset_within rfl ?_
        exact Within.refl
      · exact Within.refl
    · rename_i x26 ih ih ih ih
      exact Within.refl

theorem lockRequest_within {k p s} : Within 0x81002838b060d420780100002001f0304000d40000e s (lockRequest k p s) := by
  unfold lockRequest
  split
  · rename_i x1 x2 t3 h4
    have ht3 : Within 0x81002838b060d420780100002001f0304000d40000e s t3 := by
      refine Within2.of h4 ?_
      refine Within2.app hbmRefusal_within rfl ?_
      exact Within.refl
    refine Within.app memLost_within rfl ?_
    exact ht3
  · rename_i x5 t6 h7
    have ht6 : Within 0x81002838b060d420780100002001f0304000d40000e s t6 := by
      refine Within2.of h7 ?_
      refine Within2.app hbmRefusal_within rfl ?_
      exact Within.refl
    refine Within.app lockApply_within rfl ?_
    exact ht6

theorem holdersRestarted_within {fa s} : Within 0x81002838b060d420780100002001f0304000d40000e s (holdersRestarted fa s) := by
  unfold holdersRestarted
  refine Within.foldl ?_ ?_
  · intro t1 x2
    refine Within.app holderReset_within rfl ?_
    exact Within.refl
  · exact Within.refl

theorem sendLockOut_within {r kind req s} : Within 0x28b000002040010000000000000000000000e s (sendLockOut r kind req s) := by
  unfold sendLockOut
  extract_lets v1 v2
  refine Within.app sendOn_within rfl ?_
  exact Within.refl

theorem dropLockRec_within {jid s} : Within 0x2000000000000000000000000000000000000 s (dropLockRec jid s) := by
  unfold dropLockRec
  refine Within.upd (e := s) ?_ rfl rfl rfl rfl rfl rfl rfl rfl
  exact Within.refl

theorem dropBoost_within {mid fa lock s} : Within 0x4000000000000000000000000000000000000 s (dropBoost mid fa lock s) := by
  unfold dropBoost
  refine Within.upd (e := s) ?_ rfl rfl rfl rfl rfl rfl rfl rfl
  exact Within.refl

theorem lockLeave_within {r s} : Within 0x28b000002040010000000000000000000000e s (lockLeave r s) := by
  unfold lockLeave
  refine Within.app sendLockOut_within rfl ?_
  refine Within.upd (e := s) ?_ rfl rfl rfl rfl rfl rfl rfl rfl
  exact Within.refl

theorem leaveAcked_within {k p fence s} : Within 0x2000000000000000000000000000000000000 s (leaveAcked k p fence s) := by
  unfold leaveAcked
  extract_lets v1 v2 v3
  refine Within.ite ?_ ?_
  · exact Within.refl
  · refine Within.upd (e := s) ?_ rfl rfl rfl rfl rfl rfl rfl rfl
    exact Within.refl

theorem lockGone_within {k delivered s} : Within 0x6000000000000000000000000000000000000 s (lockGone k delivered s) := by
  unfold lockGone
  refine Within.foldl ?_ ?_
  · intro t1 x2
    refine Within.app dropLockRec_within rfl ?_
    refine Within.app dropBoost_within rfl ?_
    exact Within.refl
  · exact Within.refl

theorem lockCancel_within {jid s} : Within 0x28b000002040010000000000000000000000e s (lockCancel jid s) := by
  unfold lockCancel
  split
  · rename_i x1 h2
    exact Within.refl
  · rename_i x3 x4 h5
    refine Within.ite ?_ ?_
    · refine Within.elim ?_ ?_
      · exact Within.refl
      · intro x6
        refine Within.app sendLockOut_within rfl ?_
        exact Within.refl
    · exact Within.refl

theorem dropUnsent_within {jid s} : Within 0x2000000000000000000000000000000000000 s (dropUnsent jid s) := by
  unfold dropUnsent
  refine Within.upd (e := s) ?_ rfl rfl rfl rfl rfl rfl rfl rfl
  exact Within.refl

theorem dropRefused_within {k req s} : Within 0x2000000000000000000000000000000000000 s (dropRefused k req s) := by
  unfold dropRefused
  refine Within.upd (e := s) ?_ rfl rfl rfl rfl rfl rfl rfl rfl
  exact Within.refl

theorem lockReset_within {mid s} : Within 0x28b000002040010000000000000000000000e s (lockReset mid s) := by
  unfold lockReset
  refine Within.foldl ?_ ?_
  · intro t1 x2
    refine Within.ite ?_ ?_
    · exact Within.refl
    · refine Within.ite ?_ ?_
      · refine Within.app lockLeave_within rfl ?_
        exact Within.refl
      · refine Within.app lockCancel_within rfl ?_
        refine Within.upd (e := t1) ?_ rfl rfl rfl rfl rfl rfl rfl rfl
        exact Within.refl
  · exact Within.refl

theorem lockResp_within {k p s} : Within 0x200000068b060d4227801fff02001f0200000000000e s (lockResp k p s) := by
  unfold lockResp
  extract_lets v1 v2 v3 v4 v5 v6 v7 v8 v9
  have hv5 : Within 0x200000068b060d4227801fff02001f0200000000000e s v5 := by
    unfold v5
    refine Within.app dropBoost_within rfl ?_
    exact Within.refl
  clear_value v5
  have hv7 : Within 0x200000068b060d4227801fff02001f0200000000000e s v7 := by
    unfold v7
    refine Within.upd (e := v5) ?_ rfl rfl rfl rfl rfl rfl rfl rfl
    exact hv5
  clear_value v7
  have hv8 : Within 0x200000068b060d4227801fff02001f0200000000000e s v8 := by
    unfold v8
    refine Within.foldl ?_ ?_
    · intro t10 x11
      refine Within.app wakeDomain_within rfl ?_
      exact Within.refl
    · exact hv7
  clear_value v8
  refine Within.ite ?_ ?_
  · refine Within.ite ?_ ?_
    · refine Within.ite ?_ ?_
      · refine Within.app endpointEvent_within rfl ?_
        exact hv8
      · exact hv8
    · exact hv5
  · split
    · rename_i x12 h13
      exact Within.refl
    · rename_i x14 x15 h16
      refine Within.ite ?_ ?_
      · refine Within.app dropLockRec_within rfl ?_
        refine Within.app endJob_within rfl ?_
        exact Within.refl
      · extract_lets v17 v18
        have hv17 : Within 0x200000068b060d4227801fff02001f0200000000000e s v17 := by
          unfold v17
          refine Within.app endJobWith_within rfl ?_
          exact Within.refl
        clear_value v17
        refine Within.ite ?_ ?_
        · refine Within.app lockLeave_within rfl ?_
          exact hv17
        · refine Within.upd (e := v17) ?_ rfl rfl rfl rfl rfl rfl rfl rfl
          exact hv17

theorem lockReleased_within {j s} : Within 0x6000000000000000000000000000000000000 s (lockReleased j s) := by
  unfold lockReleased
  extract_lets v1 v2 v3
  refine Within.app dropBoost_within rfl ?_
  refine Within.upd (e := s) ?_ rfl rfl rfl rfl rfl rfl rfl rfl
  exact Within.refl

theorem varAtomic_within {addr subop width operand compare s} :
    Within2 0x10000000000000000000000000000000000000 s (varAtomic addr subop width operand compare s) := by
  unfold varAtomic
  extract_lets v1 v2 v3 v4 v5 v6 v7 v8
  refine Within2.mk ?_
  refine Within.upd (e := s) ?_ rfl rfl rfl rfl rfl rfl rfl rfl
  exact Within.refl

theorem captureTrn_within {k cause s} : Within 0x2000000000000 s (captureTrn k cause s) := by
  unfold captureTrn
  refine Within.app State.capture_within rfl ?_
  exact Within.refl

theorem reopen_within {k s} : Within 0x3000000000000000000000000000000000e s (reopen k s) := by
  unfold reopen
  split
  · rename_i x1 h2
    exact Within.refl
  · rename_i x3 x4 h5
    refine Within.ite ?_ ?_
    · exact Within.refl
    · refine Within.app openHalf_within rfl ?_
      exact Within.refl

theorem endAbandoned_within {status lost s j} : Within 0x2000000201060d4227801fff02001f02000000000006 s (endAbandoned status lost s j) := by
  unfold endAbandoned
  extract_lets v1
  have hv1 : Within 0x2000000201060d4227801fff02001f02000000000006 s v1 := by
    unfold v1
    refine Within.app endJob_within rfl ?_
    exact Within.refl
  clear_value v1
  refine Within.ite ?_ ?_
  · refine Within.app dropLockRec_within rfl ?_
    exact hv1
  · exact hv1

theorem tellRestart_within {k s} : Within 0x1060d400780100002001f02000000000006 s (tellRestart k s) := by
  unfold tellRestart
  refine Within.ite ?_ ?_
  · exact Within.refl
  · refine Within.app endpointEvent_within rfl ?_
    refine Within.app updPeer_within rfl ?_
    exact Within.refl

theorem abandonReport_within {k cause s} : Within 0x810028001060d400780100002001f0304000d400006 s (abandonReport k cause s) := by
  unfold abandonReport
  split
  · rename_i x1
    refine Within.app report_within rfl ?_
    exact Within.refl
  · rename_i x2
    refine Within.app tellRestart_within rfl ?_
    refine Within.app report_within rfl ?_
    exact Within.refl
  · rename_i x3 ih ih
    refine Within.app endpointEvent_within rfl ?_
    refine Within.app report_within rfl ?_
    exact Within.refl

theorem abandonReads_within {k status goOn s} : Within 0x20000002ab060d4227801fff02001f0200000000000e s (abandonReads k status goOn s) := by
  unfold abandonReads
  refine Within.foldl ?_ ?_
  · intro t1 x2
    refine Within.ite ?_ ?_
    · exact Within.refl
    · refine Within.app rndvGo_within rfl ?_
      refine Within.app updRndv_within rfl ?_
      exact Within.refl
  · exact Within.refl

theorem chorusHalfLost_within {k cause s} : Within 0x281002a28b060d4227801fff02001f0304000d40000e s (chorusHalfLost k cause s) := by
  unfold chorusHalfLost
  refine Within.ite ?_ ?_
  · refine Within.app chorusPeerLost_within rfl ?_
    exact Within.refl
  · exact Within.refl

theorem abandon_within {k cause s} : Within 0x281002a7ab060d4227801fff02001f0304000d40000e s (abandon k cause s) := by
  unfold abandon
  split
  · rename_i x1 h2
    exact Within.refl
  · rename_i x3 x4 h5
    extract_lets v6 v7 v8 v9 v10 v11 v12 v13 v14 v15 v16
    have hv10 : Within 0x281002a7ab060d4227801fff02001f0304000d40000e s v10 := by
      unfold v10
      refine Within.app updSend_within rfl ?_
      exact Within.refl
    clear_value v10
    have hv11 : Within 0x281002a7ab060d4227801fff02001f0304000d40000e s v11 := by
      unfold v11
      refine Within.app abandonReport_within rfl ?_
      refine Within.app captureTrn_within rfl ?_
      exact hv10
    clear_value v11
    have hv13 : Within 0x281002a7ab060d4227801fff02001f0304000d40000e s v13 := by
      unfold v13
      refine Within.foldl ?_ ?_
      · intro t17 x18
        refine Within.app endAbandoned_within rfl ?_
        exact Within.refl
      · exact hv11
    clear_value v13
    have hv14 : Within 0x281002a7ab060d4227801fff02001f0304000d40000e s v14 := by
      unfold v14
      refine Within.app lockGone_within rfl ?_
      exact hv13
    clear_value v14
    have hv15 : Within 0x281002a7ab060d4227801fff02001f0304000d40000e s v15 := by
      unfold v15
      refine Within.app requeue_within rfl ?_
      refine Within.app abandonReads_within rfl ?_
      exact hv14
    clear_value v15
    have hv16 : Within 0x281002a7ab060d4227801fff02001f0304000d40000e s v16 := by
      unfold v16
      refine Within.ite ?_ ?_
      · refine Within.app holdersRestarted_within rfl ?_
        exact hv15
      · exact hv15
    clear_value v16
    refine Within.app reopen_within rfl ?_
    refine Within.app chorusHalfLost_within rfl ?_
    exact hv16

theorem openFailed_within {k s} : Within 0x281002a2ab060d4227801fff02001f0304000d40000e s (openFailed k s) := by
  unfold openFailed
  extract_lets v1 v2 v3 v4 v5 v6
  have hv3 : Within 0x281002a2ab060d4227801fff02001f0304000d40000e s v3 := by
    unfold v3
    refine Within.app updSend_within rfl ?_
    exact Within.refl
  clear_value v3
  have hv4 : Within 0x281002a2ab060d4227801fff02001f0304000d40000e s v4 := by
    unfold v4
    refine Within.app endpointEvent_within rfl ?_
    exact hv3
  clear_value v4
  have hv5 : Within 0x281002a2ab060d4227801fff02001f0304000d40000e s v5 := by
    unfold v5
    refine Within.foldl ?_ ?_
    · intro t7 x8
      refine Within.app endAbandoned_within rfl ?_
      exact Within.refl
    · exact hv4
  clear_value v5
  have hv6 : Within 0x281002a2ab060d4227801fff02001f0304000d40000e s v6 := by
    unfold v6
    refine Within.app abandonReads_within rfl ?_
    exact hv5
  clear_value v6
  refine Within.app chorusHalfLost_within rfl ?_
  exact hv6

theorem haltCheck_within {k s} : Within 0x3000000000000000000000000000000000e s (haltCheck k s) := by
  unfold haltCheck
  split
  · rename_i x1 h2
    exact Within.refl
  · rename_i x3 x4 h5
    refine Within.ite ?_ ?_
    · refine Within.app reopen_within rfl ?_
      refine Within.app updSend_within rfl ?_
      exact Within.refl
    · exact Within.refl

theorem refused_within {k head s} : Within 0x20000002ab060d4227801fff02001f0200000000000e s (refused k head s) := by
  unfold refused
  split
  · rename_i x1 h2
    exact Within.refl
  · rename_i x3 x4 h5
    refine Within.ite ?_ ?_
    · exact Within.refl
    · extract_lets v6 v7 v8 v9 v10 v11 v12 v13 v14
      have hv11 : Within 0x20000002ab060d4227801fff02001f0200000000000e s v11 := by
        unfold v11
        refine Within.app updSend_within rfl ?_
        exact Within.refl
      clear_value v11
      have hv12 : Within 0x20000002ab060d4227801fff02001f0200000000000e s v12 := by
        unfold v12
        refine Within.app captureTrn_within rfl ?_
        refine Within.app requeue_within rfl ?_
        exact hv11
      clear_value v12
      have hv13 : Within 0x20000002ab060d4227801fff02001f0200000000000e s v13 := by
        unfold v13
        refine Within.foldl ?_ ?_
        · intro t15 x16
          refine Within.app endAbandoned_within rfl ?_
          exact Within.refl
        · exact hv12
      clear_value v13
      have hv14 : Within 0x20000002ab060d4227801fff02001f0200000000000e s v14 := by
        unfold v14
        refine Within.foldl ?_ ?_
        · intro t17 x18
          refine Within.app rndvReadEnd_within rfl ?_
          exact Within.refl
        · exact hv13
      clear_value v14
      refine Within.app haltCheck_within rfl ?_
      exact hv14

theorem acceptJob_within {q ws conts n recOp s} :
    Within2 0x20000002000000060400100000000000000000000000 s (acceptJob q ws conts n recOp s) := by
  unfold acceptJob
  extract_lets v1 v2 v3 v4 v5 v6 v7 v8 v9 v10
  have hv4 : Within 0x20000002000000060400100000000000000000000000 s v4 := by
    unfold v4
    refine Within.app cqReserve_within rfl ?_
    refine Within.app wakeDomain_within rfl ?_
    exact Within.refl
  clear_value v4
  have hv5 : Within 0x20000002000000060400100000000000000000000000 s v5 := by
    unfold v5
    refine Within.app updQueue_within rfl ?_
    exact hv4
  clear_value v5
  have hv7 : Within 0x20000002000000060400100000000000000000000000 s v7 := by
    unfold v7
    refine Within.upd (e := v5) ?_ rfl rfl rfl rfl rfl rfl rfl rfl
    exact hv5
  clear_value v7
  have hv10 : Within 0x20000002000000060400100000000000000000000000 s v10 := by
    unfold v10
    refine Within.ite ?_ ?_
    · refine Within.upd (e := v7) ?_ rfl rfl rfl rfl rfl rfl rfl rfl
      exact hv7
    · exact hv7
  clear_value v10
  refine Within2.mk ?_
  refine Within.app State.count_within rfl ?_
  exact hv10

theorem headMalformed_within {qid ws pos s} : Within 0x281002a28b060d4227801fff02001f0304000d40000e s (headMalformed qid ws pos s) := by
  unfold headMalformed
  split
  · rename_i x1 h2
    exact Within.refl
  · rename_i x3 x4 h5
    refine Within.app malformedEntry_within rfl ?_
    refine Within.app memberQueueLost_within rfl ?_
    exact Within.refl

theorem headFailed_within {qid pos s} : Within 0x281002a28b060d4227801fff02001f0304000d40000e s (headFailed qid pos s) := by
  unfold headFailed
  split
  · rename_i x1 h2
    exact Within.refl
  · rename_i x3 x4 h5
    refine Within.app queueError_within rfl ?_
    refine Within.app moveToError_within rfl ?_
    exact Within.refl

theorem headSettle_within {qid s} : Within 0x281002a28b060d4227801fff02001f0304000d40000e s (headSettle qid s) := by
  unfold headSettle
  split
  · rename_i x1 h2
    exact Within.refl
  · rename_i x3 x4 h5
    refine Within.ite ?_ ?_
    · exact Within.refl
    · split
      · rename_i x6 x7 h8
        refine Within.app headFailed_within rfl ?_
        exact Within.refl
      · rename_i x9 ih
        exact Within.refl

theorem pickOne_within {α : Type} {l : List α} {s : State} : Within2 0x8 s (pickOne l s) := by
  unfold pickOne
  split
  · rename_i x1
    refine Within2.mk ?_
    exact Within.refl
  · rename_i x2 x3
    refine Within2.mk ?_
    exact Within.refl
  · rename_i x4 x5 x6 ih
    split
    rename_i x7 x8 t9 h10
    have ht9 : Within 0x8 s t9 := by
      refine Within2.of h10 ?_
      refine Within2.app State.drawNat_within rfl ?_
      exact Within.refl
    refine Within2.mk ?_
    exact ht9

theorem pinnedPort_within {p l s} : Within2 0x800000000000000000000000000000000000000000 s (pinnedPort p l s) := by
  unfold pinnedPort
  split
  · rename_i x1 x2 h3
    refine Within2.mk ?_
    exact Within.refl
  · rename_i x4 h5
    extract_lets v6 v7
    split
    · rename_i x8 h9
      refine Within2.mk ?_
      exact Within.refl
    · rename_i x10 x11 h12
      extract_lets v13
      refine Within2.mk ?_
      refine Within.updFab ?_ rfl
      exact Within.refl

theorem escapePort_within {avoid p s} : Within2 0x800000000000000000000000000000000000000008 s (escapePort avoid p s) := by
  unfold escapePort
  refine Within2.ite ?_ ?_
  · extract_lets v1
    split
    rename_i x2 x3 t4 h5
    have ht4 : Within 0x800000000000000000000000000000000000000008 s t4 := by
      refine Within2.of h5 ?_
      refine Within2.app pinnedPort_within rfl ?_
      exact Within.refl
    refine Within2.mk ?_
    exact ht4
  · extract_lets v6
    split
    rename_i x7 x8 t9 h10
    have ht9 : Within 0x800000000000000000000000000000000000000008 s t9 := by
      refine Within2.of h10 ?_
      refine Within2.app pickOne_within rfl ?_
      exact Within.refl
    refine Within2.mk ?_
    exact ht9

theorem escapeHop_within {avoid vc p s} : Within2 0x800000000000000000000000000000000000000008 s (escapeHop avoid vc p s) := by
  unfold escapeHop
  split
  · rename_i x1 t2 h3
    have ht2 : Within 0x800000000000000000000000000000000000000008 s t2 := by
      refine Within2.of h3 ?_
      refine Within2.app escapePort_within rfl ?_
      exact Within.refl
    refine Within2.mk ?_
    exact ht2
  · rename_i x4 x5 t6 h7
    have ht6 : Within 0x800000000000000000000000000000000000000008 s t6 := by
      refine Within2.of h7 ?_
      refine Within2.app escapePort_within rfl ?_
      exact Within.refl
    refine Within2.mk ?_
    exact ht6

theorem routeHop_within {avoid p s} : Within2 0x800000000000000000000000000000000000000008 s (routeHop avoid p s) := by
  unfold routeHop
  refine Within2.ite ?_ ?_
  · refine Within2.mk ?_
    exact Within.refl
  · refine Within2.ite ?_ ?_
    · refine Within2.mk ?_
      exact Within.refl
    · refine Within2.ite ?_ ?_
      · refine Within2.mk ?_
        exact Within.refl
      · refine Within2.ite ?_ ?_
        · refine Within2.mk ?_
          exact Within.refl
        · refine Within2.ite ?_ ?_
          · refine Within2.app escapeHop_within rfl ?_
            exact Within.refl
          · split
            rename_i x1 x2 x3 h4
            split
            · rename_i x5 x6 t7 h8
              have ht7 : Within 0x800000000000000000000000000000000000000008 s t7 := by
                refine Within2.of h8 ?_
                refine Within2.app pickOne_within rfl ?_
                exact Within.refl
              refine Within2.mk ?_
              exact ht7
            · rename_i x9 t10 h11
              have ht10 : Within 0x800000000000000000000000000000000000000008 s t10 := by
                refine Within2.of h11 ?_
                refine Within2.app pickOne_within rfl ?_
                exact Within.refl
              refine Within2.app escapeHop_within rfl ?_
              exact ht10

theorem noRouteTransit_within {cause p s} : Within 0x810028000060d400780100002001f0304000d400006 s (noRouteTransit cause p s) := by
  unfold noRouteTransit
  extract_lets v1 v2
  have hv1 : Within 0x810028000060d400780100002001f0304000d400006 s v1 := by
    unfold v1
    refine Within.app State.count_within rfl ?_
    exact Within.refl
  clear_value v1
  have hv2 : Within 0x810028000060d400780100002001f0304000d400006 s v2 := by
    unfold v2
    refine Within.app State.capture_within rfl ?_
    exact hv1
  clear_value v2
  refine Within.app report_within rfl ?_
  exact hv2

theorem storePacket_within {src v len whole mcast seq s} :
    Within2 0x8000180000000000000000000000000000000000000 s (storePacket src v len whole mcast seq s) := by
  unfold storePacket
  extract_lets v1 v2 v3
  have hv3 : Within 0x8000180000000000000000000000000000000000000 s v3 := by
    unfold v3
    refine Within.updFab ?_ rfl
    exact Within.refl
  clear_value v3
  refine Within2.mk ?_
  refine Within.app shareOne_within rfl ?_
  exact hv3

theorem markDraw_within {w q s} : Within2 0x8 s (markDraw w q s) := by
  unfold markDraw
  extract_lets v1 v2
  refine Within2.ite ?_ ?_
  · refine Within2.mk ?_
    exact Within.refl
  · refine Within2.ite ?_ ?_
    · refine Within2.mk ?_
      exact Within.refl
    · refine Within2.ite ?_ ?_
      · refine Within2.mk ?_
        exact Within.refl
      · split
        rename_i x3 x4 t5 h6
        have ht5 : Within 0x8 s t5 := by
          refine Within2.of h6 ?_
          refine Within2.app State.drawNat_within rfl ?_
          exact Within.refl
        refine Within2.mk ?_
        exact ht5

theorem quietEnds_within {port s} : Within 0x8000000000000000000000000000000000000000000 s (quietEnds port s) := by
  unfold quietEnds
  refine Within.ite ?_ ?_
  · refine Within.app updFport_within rfl ?_
    exact Within.refl
  · exact Within.refl

theorem queueAt_within {port e s} : Within 0x8000200000000000000000000000000000000000008 s (queueAt port e s) := by
  unfold queueAt
  split
  rename_i x1 x2 t3 h4
  have ht3 : Within 0x8000200000000000000000000000000000000000008 s t3 := by
    refine Within2.of h4 ?_
    refine Within2.ite ?_ ?_
    · refine Within2.mk ?_
      exact Within.refl
    · refine Within2.app markDraw_within rfl ?_
      exact Within.refl
  extract_lets v5 v6
  refine Within.app quietEnds_within rfl ?_
  refine Within.app updEgress_within rfl ?_
  exact ht3

theorem queueEth_within {port prio e bytes s} : Within2 0x200000000000000100000000000000000000008 s (queueEth port prio e bytes s) := by
  unfold queueEth
  extract_lets v1 v2 v3
  have hv3 : ∀ x4 t5, Within 0x200000000000000100000000000000000000008 t5 (v3 x4 t5) := by
    intro x4 t5
    unfold v3
    extract_lets v6
    refine Within.app updEgress_within rfl ?_
    exact Within.refl
  clear_value v3
  split
  rename_i x7 x8 t9 h10
  have ht9 : Within 0x200000000000000100000000000000000000008 s t9 := by
    refine Within2.of h10 ?_
    refine Within2.app markDraw_within rfl ?_
    exact Within.refl
  refine Within2.ite ?_ ?_
  · refine Within2.mk ?_
    refine Within.trans ?_ (hv3 _ _)
    exact ht9
  · split
    · rename_i x11 h12
      refine Within2.mk ?_
      refine Within.app State.count_within rfl ?_
      exact ht9
    · rename_i x13 h14
      split
      · rename_i x15 x16 h17
        refine Within2.mk ?_
        refine Within.trans ?_ (hv3 _ _)
        exact ht9
      · rename_i x18 h19
        refine Within2.mk ?_
        refine Within.app State.count_within rfl ?_
        exact ht9
    · rename_i x20 ih ih
      refine Within2.mk ?_
      refine Within.trans ?_ (hv3 _ _)
      exact ht9

theorem mirrorOne_within {i pid p s} : Within 0x200000000000000100000000000000000000008 s (mirrorOne i pid p s) := by
  unfold mirrorOne
  extract_lets v1 v2 v3 v4 v5 v6 v7 v8
  have hv6 : Within 0x200000000000000100000000000000000000008 s v6 := by
    unfold v6
    refine Within.app State.count_within rfl ?_
    exact Within.refl
  clear_value v6
  refine Within.ite ?_ ?_
  · split
    · rename_i x9 h10
      exact hv6
    · rename_i x11 x12 h13
      refine Within.ite ?_ ?_
      · exact hv6
      · extract_lets v14
        refine Within.app updEgress_within rfl ?_
        exact Within.refl
  · refine Within.ite ?_ ?_
    · exact hv6
    · refine Within2.snd ?_
      refine Within2.app queueEth_within rfl ?_
      exact Within.refl

theorem mirrorCopies_within {port dir pid p s} : Within 0x200000000000000100000000000000000000008 s (mirrorCopies port dir pid p s) := by
  unfold mirrorCopies
  refine Within.asOf ?_ ?_
  · intro t1
    refine Within.foldl ?_ ?_
    · intro t2 x3
      refine Within.ite ?_ ?_
      · refine Within.app mirrorOne_within rfl ?_
        exact Within.refl
      · exact Within.refl
    · exact Within.refl
  · exact Within.refl

theorem noteBlocked_within {p s} : Within 0x8000000000000000000000000000000000000000000 s (noteBlocked p s) := by
  unfold noteBlocked
  extract_lets v1 v2
  refine Within.ite ?_ ?_
  · exact Within.refl
  · refine Within.app updFport_within rfl ?_
    exact Within.refl

theorem noteBlockedAll_within {s} : Within 0x8000000000000000000000000000000000000000000 s (noteBlockedAll s) := by
  unfold noteBlockedAll
  refine Within.foldl ?_ ?_
  · intro t1 x2
    split
    · rename_i x3 x4 h5
      refine Within.ite ?_ ?_
      · exact Within.refl
      · refine Within.app noteBlocked_within rfl ?_
        exact Within.refl
    · rename_i x6 ih
      exact Within.refl
  · exact Within.refl

theorem putPolicer_within {p s} : Within 0x8000000000000000000000000000000000000000 s (putPolicer p s) := by
  unfold putPolicer
  refine Within.updFab ?_ rfl
  exact Within.refl

theorem meter_within {n len color s} : WithinO 0x8000000000000000000000000000000000000000 s (meter n len color s) := by
  unfold meter
  extract_lets v1 v2 v3 v4 v5
  refine WithinO.ite ?_ ?_
  · refine WithinO.ite ?_ ?_
    · refine WithinO.ite ?_ ?_
      · refine WithinO.ite ?_ ?_
        · exact WithinO.none
        · refine WithinO.some ?_
          refine Within2.snd ?_
          refine Within2.mk ?_
          refine Within.app putPolicer_within rfl ?_
          exact Within.refl
      · refine WithinO.some ?_
        refine Within2.snd ?_
        refine Within2.mk ?_
        refine Within.app putPolicer_within rfl ?_
        exact Within.refl
    · refine WithinO.ite ?_ ?_
      · refine WithinO.some ?_
        refine Within2.snd ?_
        refine Within2.mk ?_
        refine Within.app putPolicer_within rfl ?_
        exact Within.refl
      · refine WithinO.some ?_
        refine Within2.snd ?_
        refine Within2.mk ?_
        refine Within.app putPolicer_within rfl ?_
        exact Within.refl
  · refine WithinO.ite ?_ ?_
    · refine WithinO.some ?_
      refine Within2.snd ?_
      refine Within2.mk ?_
      refine Within.app putPolicer_within rfl ?_
      exact Within.refl
    · refine WithinO.ite ?_ ?_
      · refine WithinO.some ?_
        refine Within2.snd ?_
        refine Within2.mk ?_
        refine Within.app putPolicer_within rfl ?_
        exact Within.refl
      · refine WithinO.ite ?_ ?_
        · refine WithinO.ite ?_ ?_
          · exact WithinO.none
          · refine WithinO.some ?_
            refine Within2.snd ?_
            refine Within2.mk ?_
            refine Within.app putPolicer_within rfl ?_
            exact Within.refl
        · refine WithinO.some ?_
          refine Within2.snd ?_
          refine Within2.mk ?_
          refine Within.app putPolicer_within rfl ?_
          exact Within.refl

theorem chain_within {gen n len color a4 a5} : Within2 0x8000000000000000000000000000000000000000 a5 (chain gen n len color a4 a5) := by
  induction a4 generalizing gen n len color a5
  · rw [chain]
    refine Within2.mk ?_
    exact Within.refl
  · rename_i x1 ih
    rw [chain]
    split
    · rename_i x2 h3
      refine Within2.mk ?_
      exact Within.refl
    · rename_i x4 x5 t6 h7
      have ht6 : Within 0x8000000000000000000000000000000000000000 a5 t6 := by
        refine WithinO.of h7 ?_
        refine WithinO.app meter_within rfl ?_
        exact Within.refl
      extract_lets v8
      refine Within2.ite ?_ ?_
      · refine Within2.app ih rfl ?_
        exact ht6
      · refine Within2.mk ?_
        exact ht6

theorem chainOn_within {gen n len fuel s} : Within2 0x8000000000000000000000000000000000000000 s (chainOn gen n len fuel s) := by
  unfold chainOn
  extract_lets v1 v2 v3 v4
  have hv3 : Within 0x8000000000000000000000000000000000000000 s v3 := by
    unfold v3
    refine Within.app putPolicer_within rfl ?_
    exact Within.refl
  clear_value v3
  refine Within2.ite ?_ ?_
  · refine Within2.mk ?_
    exact Within.refl
  · refine Within2.ite ?_ ?_
    · refine Within2.app chain_within rfl ?_
      exact hv3
    · refine Within2.mk ?_
      exact hv3

theorem police_within {e p s} : Within2 0x8000000000000000000000000000000000000000 s (police e p s) := by
  unfold police
  extract_lets v1
  split
  · rename_i x2 x3 h4
    refine Within2.ite ?_ ?_
    · refine Within2.app chain_within rfl ?_
      exact Within.refl
    · refine Within2.mk ?_
      exact Within.refl
  · rename_i x5 ih
    refine Within2.mk ?_
    exact Within.refl

theorem startPolicers_within {s} : Within 0x8000000000000000000000000000000000000000 s (startPolicers s) := by
  unfold startPolicers
  refine Within.foldl ?_ ?_
  · intro t1 x2
    refine Within.app putPolicer_within rfl ?_
    exact Within.refl
  · exact Within.refl

theorem noteRoute_within {found p s} : Within 0x10000000000000000000000000000000000 s (noteRoute found p s) := by
  unfold noteRoute
  split
  · rename_i x1 h2
    exact Within.refl
  · rename_i x3 x4 h5
    refine Within.app updSend_within rfl ?_
    exact Within.refl

theorem noRoute_within {source cause p s} : Within 0x810028001060d400780100002001f0304000d400006 s (noRoute source cause p s) := by
  unfold noRoute
  refine Within.ite ?_ ?_
  · refine Within.app noteRoute_within rfl ?_
    exact Within.refl
  · refine Within.app noRouteTransit_within rfl ?_
    exact Within.refl

theorem placePacket_within {source color pid p s} :
    Within 0x890028001060d400780100002001f0304000d40000e s (placePacket source color pid p s) := by
  unfold placePacket
  extract_lets v1 v2 v3 v4
  have hv4 : ∀ t5, Within 0x890028001060d400780100002001f0304000d40000e t5 (v4 t5) := by
    intro t5
    unfold v4
    refine Within.ite ?_ ?_
    · refine Within.app State.count_within rfl ?_
      exact Within.refl
    · exact Within.refl
  clear_value v4
  split
  · rename_i x6 x7 t8 h9
    have ht8 : Within 0x890028001060d400780100002001f0304000d40000e s t8 := by
      refine Within2.of h9 ?_
      refine Within2.app routeHop_within rfl ?_
      exact Within.refl
    refine Within.trans ?_ (hv4 _)
    refine Within.app updEgress_within rfl ?_
    exact ht8
  · rename_i x10 x11 x12 x13 x14 t15 h16
    have ht15 : Within 0x890028001060d400780100002001f0304000d40000e s t15 := by
      refine Within2.of h16 ?_
      refine Within2.app routeHop_within rfl ?_
      exact Within.refl
    extract_lets v17
    refine Within.trans ?_ (hv4 _)
    refine Within.app queueAt_within rfl ?_
    exact ht15
  · rename_i x18 x19 t20 h21
    have ht20 : Within 0x890028001060d400780100002001f0304000d40000e s t20 := by
      refine Within2.of h21 ?_
      refine Within2.app routeHop_within rfl ?_
      exact Within.refl
    refine Within.ite ?_ ?_
    · refine Within.app State.count_within rfl ?_
      exact ht20
    · refine Within.app noRoute_within rfl ?_
      exact ht20

theorem placeCopy_within {dim pid p coord s} : Within 0x890028001060d400780100002001f0304000d40000e s (placeCopy dim pid p coord s) := by
  unfold placeCopy
  extract_lets v1 v2 v3
  refine Within.ite ?_ ?_
  · exact Within.refl
  · split
    · rename_i x4 x5 t6 h7
      have ht6 : Within 0x890028001060d400780100002001f0304000d40000e s t6 := by
        refine Within2.of h7 ?_
        refine Within2.app pickOne_within rfl ?_
        exact Within.refl
      refine Within.app queueAt_within rfl ?_
      exact ht6
    · rename_i x8 t9 h10
      have ht9 : Within 0x890028001060d400780100002001f0304000d40000e s t9 := by
        refine Within2.of h10 ?_
        refine Within2.app pickOne_within rfl ?_
        exact Within.refl
      refine Within.ite ?_ ?_
      · exact ht9
      · refine Within.app placePacket_within rfl ?_
        exact ht9

theorem rewait_within {port e s} : Within 0x890028001060d400780100002001f0304000d40000e s (rewait port e s) := by
  unfold rewait
  extract_lets v1 v2 v3 v4 v5 v6 v7
  have hv2 : ∀ x8 t9, Within 0x890028001060d400780100002001f0304000d40000e t9 (v2 x8 t9) := by
    intro x8 t9
    unfold v2
    refine Within.app updEgress_within rfl ?_
    exact Within.refl
  clear_value v2
  have hv3 : ∀ t10, Within 0x890028001060d400780100002001f0304000d40000e t10 (v3 t10) := by
    intro t10
    unfold v3
    refine Within.trans ?_ (hv2 _ _)
    exact Within.refl
  clear_value v3
  have hv4 : ∀ t11, Within 0x890028001060d400780100002001f0304000d40000e t11 (v4 t11) := by
    intro t11
    unfold v4
    refine Within.app updEgress_within rfl ?_
    exact Within.refl
  clear_value v4
  refine Within.ite ?_ ?_
  · exact Within.refl
  · refine Within.ite ?_ ?_
    · refine Within.ite ?_ ?_
      · exact Within.refl
      · refine Within.trans ?_ (hv2 _ _)
        exact Within.refl
    · refine Within.ite ?_ ?_
      · refine Within.ite ?_ ?_
        · refine Within.trans ?_ (hv2 _ _)
          exact Within.refl
        · refine Within.trans ?_ (hv3 _)
          exact Within.refl
      · split
        rename_i x12 x13 x14 h15
        refine Within.ite ?_ ?_
        · refine Within.trans ?_ (hv2 _ _)
          exact Within.refl
        · refine Within.ite ?_ ?_
          · refine Within.trans ?_ (hv3 _)
            exact Within.refl
          · refine Within.ite ?_ ?_
            · refine Within.ite ?_ ?_
              · refine Within.trans ?_ (hv2 _ _)
                exact Within.refl
              · refine Within.trans ?_ (hv3 _)
                exact Within.refl
            · split
              rename_i x16 x17 t18 h19
              extract_lets v20 v21
              have hv20 : Within 0x890028001060d400780100002001f0304000d40000e s v20 := by
                unfold v20
                refine Within.drawn (t := s) (u := t18) ?_ rfl ?_
                · exact Within.refl
                · exact Nat.le_trans (hv4 s).free (Nat.le_trans (Nat.le_of_eq (State.view_freeCtr (s := v4 s) (g := v1)).symm)
              (Within2.of h19 routeHop_within).free)
              clear_value v20
              split
              · rename_i x22 x23 x24 x25 x26
                extract_lets v27
                refine Within.ite ?_ ?_
                · refine Within.trans ?_ (hv3 _)
                  exact hv20
                · refine Within.app queueAt_within rfl ?_
                  refine Within.trans ?_ (hv4 _)
                  exact hv20
              · rename_i x28 x29
                refine Within.app noRoute_within rfl ?_
                refine Within.trans ?_ (hv4 _)
                exact hv20
              · rename_i x30 x31
                exact hv20

theorem rewaitAll_within {s} : Within 0x890028001060d400780100002001f0304000d40000e s (rewaitAll s) := by
  unfold rewaitAll
  refine Within.foldl ?_ ?_
  · intro t1 x2
    split
    · rename_i x3 x4 h5
      refine Within.ite ?_ ?_
      · exact Within.refl
      · refine Within.foldl ?_ ?_
        · intro t6 x7
          refine Within.app rewait_within rfl ?_
          exact Within.refl
        · exact Within.refl
    · rename_i x8 ih
      exact Within.refl
  · exact Within.refl

theorem injectNow_within {color x s} : Within 0x890038001060d400780100002001f0304000d40000e s (injectNow color x s) := by
  unfold injectNow
  split
  rename_i x1 x2 t3 h4
  have ht3 : Within 0x890038001060d400780100002001f0304000d40000e s t3 := by
    refine Within2.of h4 ?_
    refine Within2.app storePacket_within rfl ?_
    exact Within.refl
  split
  · rename_i x5 x6 x7 h8 h9
    refine Within.app queueAt_within rfl ?_
    exact ht3
  · rename_i x10 x11 h12 h13
    refine Within.app placePacket_within rfl ?_
    exact ht3
  · rename_i x14 x15 x16 x17 h18
    refine Within.foldl ?_ ?_
    · intro t19 x20
      refine Within.app placeCopy_within rfl ?_
      exact Within.refl
    · exact ht3

theorem injectGo_within {a0 a1 a2} : Within 0x892038001060d400780100002001f0304000d40000e a2 (injectGo a0 a1 a2) := by
  induction a0 generalizing a1 a2
  · rw [injectGo]
    refine Within.updFab ?_ rfl
    exact Within.refl
  · rename_i x1 x2 ih
    rw [injectGo]
    refine Within.ite ?_ ?_
    · refine Within.app ih rfl ?_
      exact Within.refl
    · refine Within.app ih rfl ?_
      refine Within.app injectNow_within rfl ?_
      exact Within.refl

theorem fabSettle_within {s} : Within 0x892038001060d400780100002001f0304000d40000e s (fabSettle s) := by
  unfold fabSettle
  extract_lets v1
  have hv1 : Within 0x892038001060d400780100002001f0304000d40000e s v1 := by
    unfold v1
    refine Within.app settleCells_within rfl ?_
    exact Within.refl
  clear_value v1
  refine Within.app noteBlockedAll_within rfl ?_
  refine Within.app rewaitAll_within rfl ?_
  refine Within.ite ?_ ?_
  · exact hv1
  · refine Within.app injectGo_within rfl ?_
    exact hv1

theorem inject_within {x s} : Within 0x892038001060d400780100002001f0304000d40000e s (inject x s) := by
  unfold inject
  refine Within.app fabSettle_within rfl ?_
  refine Within.updFab ?_ rfl
  exact Within.refl

theorem switchTake_within {port seq whole p s} :
    Within 0x892038001060d400780100002001f0304000d40000e s (switchTake port seq whole p s) := by
  unfold switchTake
  split
  rename_i x1 x2 t3 h4
  have ht3 : Within 0x892038001060d400780100002001f0304000d40000e s t3 := by
    refine Within2.of h4 ?_
    refine Within2.app storePacket_within rfl ?_
    exact Within.refl
  extract_lets v5
  have hv5 : Within 0x892038001060d400780100002001f0304000d40000e s v5 := by
    unfold v5
    refine Within.app mirrorCopies_within rfl ?_
    exact ht3
  clear_value v5
  refine Within.app fabSettle_within rfl ?_
  refine Within.app placePacket_within rfl ?_
  exact hv5

theorem injectStored_within {src color p s} : Within 0x892038001060d400780100002001f0304000d40000e s (injectStored src color p s) := by
  unfold injectStored
  refine Within.app fabSettle_within rfl ?_
  refine Within.app injectNow_within rfl ?_
  exact Within.refl

theorem injectEp_within {e p s} : Within 0x893838001060d400780100002001f0304000d40000e s (injectEp e p s) := by
  unfold injectEp
  extract_lets v1
  have hv1 : ∀ x2 t3, Within 0x893838001060d400780100002001f0304000d40000e t3 (v1 x2 t3) := by
    intro x2 t3
    unfold v1
    refine Within.updFab ?_ (by split <;> rfl)
    exact Within.refl
  clear_value v1
  refine Within.ite ?_ ?_
  · refine Within.trans ?_ (hv1 _ _)
    exact Within.refl
  · refine Within.ite ?_ ?_
    · refine Within.trans ?_ (hv1 _ _)
      exact Within.refl
    · split
      · rename_i x4 x5 x6 t7 h8
        have ht7 : Within 0x893838001060d400780100002001f0304000d40000e s t7 := by
          refine Within2.of h8 ?_
          refine Within2.app police_within rfl ?_
          exact Within.refl
        refine Within.trans ?_ (hv1 _ _)
        exact ht7
      · rename_i x9 x10 t11 h12
        have ht11 : Within 0x893838001060d400780100002001f0304000d40000e s t11 := by
          refine Within2.of h12 ?_
          refine Within2.app police_within rfl ?_
          exact Within.refl
        refine Within.app injectStored_within rfl ?_
        exact ht11

theorem ethLost_within {jid s} : Within 0x2000000001060d4227801fff02001f0200000000000e s (ethLost jid s) := by
  unfold ethLost
  split
  rename_i x1 x2 t3 h4
  have ht3 : Within 0x2000000001060d4227801fff02001f0200000000000e s t3 := by
    refine Within2.of h4 ?_
    refine Within2.app State.drawNat_within rfl ?_
    exact Within.refl
  refine Within.app endJob_within rfl ?_
  exact ht3

theorem ethQueue_within {port prio j bytes s} :
    Within2 0x2810038001060d4227801fff02001f0200000000000e s (ethQueue port prio j bytes s) := by
  unfold ethQueue
  refine Within2.ite ?_ ?_
  · refine Within2.mk ?_
    exact Within.refl
  · extract_lets v1
    split
    rename_i x2 x3 t4 h5
    have ht4 : Within 0x2810038001060d4227801fff02001f0200000000000e s t4 := by
      refine Within2.of h5 ?_
      refine Within2.app storePacket_within rfl ?_
      exact Within.refl
    split
    rename_i x6 x7 t8 h9
    have ht8 : Within 0x2810038001060d4227801fff02001f0200000000000e s t8 := by
      refine Within2.of h9 ?_
      refine Within2.app queueEth_within rfl ?_
      exact ht4
    refine Within2.mk ?_
    refine Within.app settleCells_within rfl ?_
    refine Within.ite ?_ ?_
    · exact ht8
    · refine Within.app ethLost_within rfl ?_
      exact ht8

theorem noteStalls_within {o s} : Within 0x200000000000000100000000000000000000000 s (noteStalls o s) := by
  unfold noteStalls
  refine Within.foldl ?_ ?_
  · intro t1 x2
    split
    · rename_i x3 h4
      exact Within.refl
    · rename_i x5 x6 h7
      extract_lets v8
      refine Within.ite ?_ ?_
      · exact Within.refl
      · refine Within.app State.count_within rfl ?_
        refine Within.app updEgress_within rfl ?_
        exact Within.refl
  · exact Within.refl

end Sys2Proof.Machine
end

