-- ==== Sys2Proof/Laws/WithinJobRun.lean ====
section
/-! SUPPORT. What each operation of Machine/JobRun.lean, Machine/Target.lean, Machine/Resend.lean, Machine/Arrive.lean, Machine/Fetch.lean, Machine/Pond.lean can do, as one lemma
of the form of Laws/Within.lean. The numeral is the set of parts it may change. -/

namespace Sys2Proof.Machine

theorem jobSend_within {jid s} : Within 0x200000028b060d4227801fff02001f0200000000000e s (jobSend jid s) := by
  unfold jobSend
  split
  · rename_i x1 h2
    exact Within.refl
  · rename_i x3 x4 h5
    refine Within.ite ?_ ?_
    · extract_lets v6
      have hv6 : Within 0x200000028b060d4227801fff02001f0200000000000e s v6 := by
        unfold v6
        refine Within.app endJob_within rfl ?_
        exact Within.refl
      clear_value v6
      refine Within.ite ?_ ?_
      · refine Within.app dropLockRec_within rfl ?_
        exact hv6
      · exact hv6
    · split
      · rename_i x7 t8 h9
        have ht8 : Within 0x200000028b060d4227801fff02001f0200000000000e s t8 := by
          refine Within2.of h9 ?_
          refine Within2.app peerReady_within rfl ?_
          exact Within.refl
        exact ht8
      · rename_i x10 t11 h12
        have ht11 : Within 0x200000028b060d4227801fff02001f0200000000000e s t11 := by
          refine Within2.of h12 ?_
          refine Within2.app peerReady_within rfl ?_
          exact Within.refl
        refine Within.app lockCancel_within rfl ?_
        refine Within.app sendOut_within rfl ?_
        refine Within.app updJob_within rfl ?_
        exact ht11

theorem ethSend_within {port jid s} : Within 0x2810038001060d4227801fff02001f0200000000000e s (ethSend port jid s) := by
  unfold ethSend
  split
  · rename_i x1 h2
    exact Within.refl
  · rename_i x3 x4 h5
    split
    · rename_i x6 t7 h8
      have ht7 : Within 0x2810038001060d4227801fff02001f0200000000000e s t7 := by
        refine Within2.of h8 ?_
        refine Within2.app ethQueue_within rfl ?_
        exact Within.refl
      refine Within.app updJob_within rfl ?_
      exact ht7
    · rename_i x9 t10 h11
      have ht10 : Within 0x2810038001060d4227801fff02001f0200000000000e s t10 := by
        refine Within2.of h11 ?_
        refine Within2.app ethQueue_within rfl ?_
        exact Within.refl
      exact ht10

theorem frameGo_within {jid s} : Within 0x281000c001060d4227801fff02001f02000000000006 s (frameGo jid s) := by
  unfold frameGo
  split
  · rename_i x1 h2
    exact Within.refl
  · rename_i x3 x4 x5 x6 h7
    extract_lets v8
    have hv8 : ∀ t9, Within 0x281000c001060d4227801fff02001f02000000000006 t9 (v8 t9) := by
      intro t9
      unfold v8
      refine Within.upd (e := t9) ?_ rfl rfl rfl rfl rfl rfl rfl rfl
      exact Within.refl
    clear_value v8
    split
    · rename_i x10 h11
      refine Within.trans ?_ (hv8 _)
      exact Within.refl
    · rename_i x12 x13 h14
      refine Within.ite ?_ ?_
      · exact Within.refl
      · split
        · rename_i x15 t16 h17
          have ht16 : Within 0x281000c001060d4227801fff02001f02000000000006 s t16 := by
            refine Within2.of h17 ?_
            refine Within2.app recvPlace_within rfl ?_
            exact Within.refl
          exact ht16
        · rename_i x18 t19 h20
          have ht19 : Within 0x281000c001060d4227801fff02001f02000000000006 s t19 := by
            refine Within2.of h20 ?_
            refine Within2.app recvPlace_within rfl ?_
            exact Within.refl
          refine Within.app settleCells_within rfl ?_
          refine Within.app recvEnd_within rfl ?_
          refine Within.trans ?_ (hv8 _)
          exact ht19

theorem chorusEnter_within {g j rank failed lost s} :
    Within 0x281002a28b060d4227801fff02001f0304000d40003e s (chorusEnter g j rank failed lost s) := by
  unfold chorusEnter
  split
  rename_i x1 x2 x3 x4 x5 x6 h7
  extract_lets v8 v9 v10 v11 v12 v13 v14
  have hv9 : Within 0x281002a28b060d4227801fff02001f0304000d40003e s v9 := by
    unfold v9
    refine Within.app noteStart_within rfl ?_
    exact Within.refl
  clear_value v9
  have hv10 : Within 0x281002a28b060d4227801fff02001f0304000d40003e s v10 := by
    unfold v10
    refine Within.app updGroup_within rfl ?_
    exact hv9
  clear_value v10
  have hv11 : Within 0x281002a28b060d4227801fff02001f0304000d40003e s v11 := by
    unfold v11
    refine Within.app ensureOp_within rfl ?_
    exact hv10
  clear_value v11
  have hv14 : Within 0x281002a28b060d4227801fff02001f0304000d40003e s v14 := by
    unfold v14
    refine Within.app updOp_within rfl ?_
    exact hv11
  clear_value v14
  split
  · rename_i x15 h16
    exact hv11
  · rename_i x17 x18 h19
    extract_lets v20
    have hv20 : Within 0x281002a28b060d4227801fff02001f0304000d40003e s v20 := by
      unfold v20
      refine Within.ite ?_ ?_
      · refine Within.app chorusLoss_within rfl ?_
        exact hv14
      · exact hv14
    clear_value v20
    refine Within.app giveResults_within rfl ?_
    refine Within.ite ?_ ?_
    · refine Within.app membersGive_within rfl ?_
      exact hv20
    · exact hv20

theorem chorusReady_within {jid s} : Within 0x2000002001060d4227801fff02001f02000000000006 s (chorusReady jid s) := by
  unfold chorusReady
  split
  · rename_i x1 h2
    exact Within.refl
  · rename_i x3 x4 h5
    split
    rename_i x6 x7 x8 t9 h10
    have ht9 : Within 0x2000002001060d4227801fff02001f02000000000006 s t9 := by
      refine Within3.of h10 ?_
      refine Within3.app xRun_within rfl ?_
      exact Within.refl
    extract_lets v11
    have hv11 : ∀ x12 x13 t14, Within 0x2000002001060d4227801fff02001f02000000000006 t14 (v11 x12 x13 t14) := by
      intro x12 x13 t14
      unfold v11
      refine Within.app memberReady_within rfl ?_
      refine Within.app updJob_within rfl ?_
      exact Within.refl
    clear_value v11
    split
    · rename_i x15
      have ht9 : Within 0x2000002001060d4227801fff02001f02000000000006 s t9 := by
        refine Within3.of h10 ?_
        refine Within3.app xRun_within rfl ?_
        exact Within.refl
      refine Within.app updJob_within rfl ?_
      exact ht9
    · rename_i x16
      have ht9 : Within 0x2000002001060d4227801fff02001f02000000000006 s t9 := by
        refine Within3.of h10 ?_
        refine Within3.app xRun_within rfl ?_
        exact Within.refl
      refine Within.trans ?_ (hv11 _ _ _)
      exact ht9
    · rename_i x17
      have ht9 : Within 0x2000002001060d4227801fff02001f02000000000006 s t9 := by
        refine Within3.of h10 ?_
        refine Within3.app xRun_within rfl ?_
        exact Within.refl
      refine Within.trans ?_ (hv11 _ _ _)
      exact ht9
    · rename_i x18
      have ht9 : Within 0x2000002001060d4227801fff02001f02000000000006 s t9 := by
        refine Within3.of h10 ?_
        refine Within3.app xRun_within rfl ?_
        exact Within.refl
      refine Within.trans ?_ (hv11 _ _ _)
      exact ht9

theorem jobReady_within {jid s} : Within 0x281003a28b060d4227801fff02001f0200000000000e s (jobReady jid s) := by
  unfold jobReady
  split
  · rename_i x1 h2
    exact Within.refl
  · rename_i x3 x4 h5
    refine Within.ite ?_ ?_
    · extract_lets v6 v7 v8 v9
      refine Within.app chorusReady_within rfl ?_
      refine Within.app updJob_within rfl ?_
      exact Within.refl
    · split
      · rename_i x10 x11 h12
        refine Within.app ethSend_within rfl ?_
        exact Within.refl
      · rename_i x13 h14
        refine Within.app jobSend_within rfl ?_
        exact Within.refl

theorem jobFailed_within {jid status s} : Within 0x2000002001060d4227801fff02001f02000000000006 s (jobFailed jid status s) := by
  unfold jobFailed
  split
  · rename_i x1 h2
    exact Within.refl
  · rename_i x3 x4 h5
    refine Within.ite ?_ ?_
    · refine Within.app memberReady_within rfl ?_
      refine Within.app updJob_within rfl ?_
      exact Within.refl
    · refine Within.app endJob_within rfl ?_
      exact Within.refl

theorem jobRead_within {jid s} : Within 0x281003a28b060d4227801fff02001f0200000000000e s (jobRead jid s) := by
  unfold jobRead
  split
  · rename_i x1 h2
    exact Within.refl
  · rename_i x3 x4 h5
    refine Within.ite ?_ ?_
    · exact Within.refl
    · split
      · rename_i x6 h7
        refine Within.app jobReady_within rfl ?_
        exact Within.refl
      · rename_i x8 x9 x10 h11
        extract_lets v12
        refine Within.app issueReq_within rfl ?_
        refine Within.app updJob_within rfl ?_
        exact Within.refl

theorem jobLocal_within {jid s} : Within 0x281003a28b060d4227801fff02001f0200000000000e s (jobLocal jid s) := by
  unfold jobLocal
  split
  · rename_i x1 h2
    exact Within.refl
  · rename_i x3 x4 h5
    extract_lets v6
    split
    · rename_i x7 t8 h9
      have ht8 : Within 0x281003a28b060d4227801fff02001f0200000000000e s t8 := by
        refine Within2.of h9 ?_
        refine Within2.app localReady_within rfl ?_
        exact Within.refl
      refine Within.app updJob_within rfl ?_
      exact ht8
    · rename_i x10 x11 t12 h13
      have ht12 : Within 0x281003a28b060d4227801fff02001f0200000000000e s t12 := by
        refine Within2.of h13 ?_
        refine Within2.app localReady_within rfl ?_
        exact Within.refl
      refine Within.ite ?_ ?_
      · refine Within.app jobFailed_within rfl ?_
        exact ht12
      · extract_lets v14
        refine Within.app jobRead_within rfl ?_
        refine Within.app updJob_within rfl ?_
        exact ht12

theorem chorusStart_within {jid s} : Within 0x281003a28b060d4227801fff02001f0304000d40003e s (chorusStart jid s) := by
  unfold chorusStart
  split
  · rename_i x1 h2
    exact Within.refl
  · rename_i x3 x4 h5
    split
    · rename_i x6 h7
      refine Within.app endJob_within rfl ?_
      exact Within.refl
    · rename_i x8 x9 h10
      split
      · rename_i x11 h12
        refine Within.app endJob_within rfl ?_
        exact Within.refl
      · rename_i x13 x14 x15 x16 h17
        refine Within.ite ?_ ?_
        · refine Within.app endJob_within rfl ?_
          exact Within.refl
        · split
          · rename_i x18 h19
            refine Within.app updJob_within rfl ?_
            exact Within.refl
          · rename_i x20 h21
            refine Within.app chorusEnter_within rfl ?_
            refine Within.app updJob_within rfl ?_
            exact Within.refl
          · rename_i x22 h23
            refine Within.app chorusEnter_within rfl ?_
            refine Within.app updJob_within rfl ?_
            exact Within.refl
          · rename_i x24 h25
            split
            rename_i x26 x27 x28 x29 x30 x31 h32
            extract_lets v33 v34 v35 v36
            have hv35 : Within 0x281003a28b060d4227801fff02001f0304000d40003e s v35 := by
              unfold v35
              refine Within.app updJob_within rfl ?_
              exact Within.refl
            clear_value v35
            have hv36 : Within 0x281003a28b060d4227801fff02001f0304000d40003e s v36 := by
              unfold v36
              refine Within.app chorusEnter_within rfl ?_
              exact hv35
            clear_value v36
            generalize v34 = w37
            split
            · rename_i x38 x39
              refine Within.app jobFailed_within rfl ?_
              exact hv36
            · rename_i x40
              refine Within.app jobLocal_within rfl ?_
              exact hv36

theorem chorusReread_within {g j s} : Within 0x281003a28b060d4227801fff02001f0200000000000e s (chorusReread g j s) := by
  unfold chorusReread
  extract_lets v1
  split
  rename_i x2 x3 x4 x5 x6 x7 h8
  extract_lets v9
  refine Within.app jobLocal_within rfl ?_
  refine Within.app updJob_within rfl ?_
  exact Within.refl

theorem jobBegin_within {jid s} : Within 0x281003e2ab060d4227801fff02001f0304000d40003e s (jobBegin jid s) := by
  unfold jobBegin
  split
  · rename_i x1 h2
    exact Within.refl
  · rename_i x3 x4 h5
    extract_lets v6 v7
    have hv7 : Within 0x281003e2ab060d4227801fff02001f0304000d40003e s v7 := by
      unfold v7
      refine Within.app endJob_within rfl ?_
      exact Within.refl
    clear_value v7
    refine Within.ite ?_ ?_
    · refine Within.app endJob_within rfl ?_
      exact Within.refl
    · refine Within.ite ?_ ?_
      · refine Within.app mtcCancel_within rfl ?_
        exact Within.refl
      · refine Within.ite ?_ ?_
        · refine Within.app mtcPost_within rfl ?_
          exact Within.refl
        · refine Within.ite ?_ ?_
          · refine Within.app frameGo_within rfl ?_
            refine Within.app updJob_within rfl ?_
            exact Within.refl
          · refine Within.ite ?_ ?_
            · refine Within.ite ?_ ?_
              · refine Within.app endJob_within rfl ?_
                exact Within.refl
              · refine Within.ite ?_ ?_
                · refine Within.app jobReady_within rfl ?_
                  refine Within.app updJob_within rfl ?_
                  exact Within.refl
                · refine Within.app jobLocal_within rfl ?_
                  exact Within.refl
            · refine Within.ite ?_ ?_
              · refine Within.ite ?_ ?_
                · refine Within.app dropLockRec_within rfl ?_
                  exact hv7
                · exact hv7
              · refine Within.ite ?_ ?_
                · refine Within.app chorusStart_within rfl ?_
                  exact Within.refl
                · refine Within.ite ?_ ?_
                  · refine Within.app endJob_within rfl ?_
                    exact Within.refl
                  · refine Within.ite ?_ ?_
                    · refine Within.app jobReady_within rfl ?_
                      refine Within.app updJob_within rfl ?_
                      exact Within.refl
                    · refine Within.app jobLocal_within rfl ?_
                      exact Within.refl

theorem ftabGo_within {jid s} : Within 0x2000000001060d4227801fff02001f02000000000006 s (ftabGo jid s) := by
  unfold ftabGo
  split
  · rename_i x1 h2
    exact Within.refl
  · rename_i x3 x4 h5
    refine Within.ite ?_ ?_
    · exact Within.refl
    · split
      rename_i x6 x7 x8 h9
      extract_lets v10 v11
      have hv10 : Within 0x2000000001060d4227801fff02001f02000000000006 s v10 := by
        unfold v10
        refine Within.app updJob_within rfl ?_
        exact Within.refl
      clear_value v10
      split
      · rename_i x12 x13 t14 h15
        have ht14 : Within 0x2000000001060d4227801fff02001f02000000000006 s t14 := by
          refine Within3.of h15 ?_
          refine Within3.app xRun_within rfl ?_
          exact hv10
        extract_lets v16 v17
        refine Within.app issueReq_within rfl ?_
        exact ht14
      · rename_i x18 x19 t20 h21
        have ht20 : Within 0x2000000001060d4227801fff02001f02000000000006 s t20 := by
          refine Within3.of h21 ?_
          refine Within3.app xRun_within rfl ?_
          exact hv10
        exact ht20
      · rename_i x22 x23 t24 h25
        have ht24 : Within 0x2000000001060d4227801fff02001f02000000000006 s t24 := by
          refine Within3.of h25 ?_
          refine Within3.app xRun_within rfl ?_
          exact hv10
        refine Within.app endJob_within rfl ?_
        exact ht24
      · rename_i x26 x27 t28 h29
        have ht28 : Within 0x2000000001060d4227801fff02001f02000000000006 s t28 := by
          refine Within3.of h29 ?_
          refine Within3.app xRun_within rfl ?_
          exact hv10
        refine Within.app endJob_within rfl ?_
        exact ht28

theorem ftabData_within {jid bs s} : Within 0x281003e2ab060d4227801fff02001f0304000d40003e s (ftabData jid bs s) := by
  unfold ftabData
  extract_lets v1
  have hv1 : Within 0x281003e2ab060d4227801fff02001f0304000d40003e s v1 := by
    unfold v1
    refine Within.app updJob_within rfl ?_
    exact Within.refl
  clear_value v1
  split
  · rename_i x2 h3
    exact hv1
  · rename_i x4 x5 h6
    extract_lets v7
    refine Within.ite ?_ ?_
    · refine Within.app ftabGo_within rfl ?_
      exact hv1
    · split
      · rename_i x8 h9
        refine Within.app endJob_within rfl ?_
        exact hv1
      · rename_i x10 x11 h12
        extract_lets v13 v14
        have hv14 : Within 0x281003e2ab060d4227801fff02001f0304000d40003e s v14 := by
          unfold v14
          refine Within.app updJob_within rfl ?_
          exact hv1
        clear_value v14
        refine Within.app jobBegin_within rfl ?_
        exact hv14

theorem jobStart_within {jid s} : Within 0x281003e2ab060d4227801fff02001f0304000d40003e s (jobStart jid s) := by
  unfold jobStart
  split
  · rename_i x1 h2
    exact Within.refl
  · rename_i x3 x4 h5
    refine Within.ite ?_ ?_
    · exact Within.refl
    · refine Within.asOf ?_ ?_
      · intro t6
        split
        · rename_i h7
          refine Within.app ftabGo_within rfl ?_
          exact Within.refl
        · rename_i h8
          refine Within.app jobBegin_within rfl ?_
          exact Within.refl
      · exact Within.refl

theorem recvStart_within {jid s} : Within 0x281003e2ab060d4227801fff02001f0304000d40003e s (recvStart jid s) := by
  unfold recvStart
  split
  · rename_i x1 h2
    exact Within.refl
  · rename_i x3 x4 h5
    refine Within.ite ?_ ?_
    · exact Within.refl
    · refine Within.ite ?_ ?_
      · split
        · rename_i x6 x7 h8
          refine Within.app endJob_within rfl ?_
          exact Within.refl
        · rename_i x9 h10
          refine Within.app updJob_within rfl ?_
          exact Within.refl
      · refine Within.app jobStart_within rfl ?_
        exact Within.refl

theorem recvImmEnd_within {jid status s} : Within 0x2000000001060d4227801fff02001f02000000000006 s (recvImmEnd jid status s) := by
  unfold recvImmEnd
  split
  · rename_i x1 h2
    exact Within.refl
  · rename_i x3 x4 h5
    refine Within.ite ?_ ?_
    · refine Within.app updJob_within rfl ?_
      exact Within.refl
    · refine Within.app endJob_within rfl ?_
      exact Within.refl

theorem jobResume_within {jid s} : Within 0x281003e2ab060d4227801fff02001f0304000d40003e s (jobResume jid s) := by
  unfold jobResume
  split
  · rename_i x1 h2
    exact Within.refl
  · rename_i x3 x4 h5
    refine Within.asOf ?_ ?_
    · intro t6
      split
      · rename_i x7 h8
        refine Within.app ftabGo_within rfl ?_
        exact Within.refl
      · rename_i x9 h10
        refine Within.ite ?_ ?_
        · exact Within.refl
        · refine Within.app jobLocal_within rfl ?_
          exact Within.refl
      · rename_i x11 h12
        refine Within.app jobRead_within rfl ?_
        exact Within.refl
      · rename_i x13 h14
        refine Within.ite ?_ ?_
        · split
          · rename_i x15 x16 h17
            refine Within.app rndvGo_within rfl ?_
            exact Within.refl
          · rename_i x18 h19
            refine Within.app copyUnexp_within rfl ?_
            exact Within.refl
        · refine Within.ite ?_ ?_
          · split
            · rename_i x20 h21
              exact Within.refl
            · rename_i x22 x23 h24
              split
              · rename_i x25 x26 h27
                refine Within.ite ?_ ?_
                · refine Within.app chorusReady_within rfl ?_
                  exact Within.refl
                · refine Within.ite ?_ ?_
                  · refine Within.app chorusReread_within rfl ?_
                    exact Within.refl
                  · refine Within.app giveResults_within rfl ?_
                    exact Within.refl
              · rename_i x28 h29
                refine Within.app chorusStart_within rfl ?_
                exact Within.refl
          · refine Within.ite ?_ ?_
            · refine Within.app frameGo_within rfl ?_
              exact Within.refl
            · exact Within.refl
      · rename_i x30 ih ih ih ih
        exact Within.refl
    · exact Within.refl

theorem peersDue_within {s} : Within 0x10000000000000000000000000000000000 s (peersDue s) := by
  unfold peersDue
  refine Within.foldl ?_ ?_
  · intro t1 x2
    refine Within.app startPeerFetch_within rfl ?_
    exact Within.refl
  · exact Within.refl

theorem peerWake_within {s} : Within 0x281003e2ab060d4227801fff02001f0304000d40003e s (peerWake s) := by
  unfold peerWake
  extract_lets v1
  have hv1 : Within 0x281003e2ab060d4227801fff02001f0304000d40003e s v1 := by
    unfold v1
    refine Within.app peersDue_within rfl ?_
    exact Within.refl
  clear_value v1
  refine Within.app waitingGo_within rfl ?_
  refine Within.foldl ?_ ?_
  · intro t2 x3
    refine Within.ite ?_ ?_
    · exact Within.refl
    · refine Within.app jobResume_within rfl ?_
      exact Within.refl
  · exact hv1

theorem groupWake_within {g s} : Within 0x281003e2ab060d4227801fff02001f0304000d40003e s (groupWake g s) := by
  unfold groupWake
  refine Within.foldl ?_ ?_
  · intro t1 x2
    refine Within.app jobResume_within rfl ?_
    exact Within.refl
  · exact Within.refl

theorem updTarget_within {k psn f s} : Within 0x8000000000000000000000000000000000 s (updTarget k psn f s) := by
  unfold updTarget
  refine Within.upd (e := s) ?_ rfl rfl rfl rfl rfl rfl rfl rfl
  exact Within.refl

theorem addTarget_within {t s} : Within 0x8000000000000000000000000000000000 s (addTarget t s) := by
  unfold addTarget
  refine Within.upd (e := s) ?_ rfl rfl rfl rfl rfl rfl rfl rfl
  exact Within.refl

theorem dropTarget_within {k psn s} : Within 0x8000000000000000000000000000000000 s (dropTarget k psn s) := by
  unfold dropTarget
  refine Within.upd (e := s) ?_ rfl rfl rfl rfl rfl rfl rfl rfl
  exact Within.refl

theorem cqRefuse_within {cq s} : Within 0x400000000000000000000000000 s (cqRefuse cq s) := by
  unfold cqRefuse
  refine Within.app updSink_within rfl ?_
  exact Within.refl

theorem srqTake_within {k pkey tqid recOp s} : Within2 0x281002a28b060d4627801fff02001f0304000d40000e s (srqTake k pkey tqid recOp s) := by
  unfold srqTake
  split
  · rename_i x1 h2
    refine Within2.mk ?_
    exact Within.refl
  · rename_i x3 x4 h5
    refine Within2.ite ?_ ?_
    · refine Within2.mk ?_
      exact Within.refl
    · refine Within2.ite ?_ ?_
      · refine Within2.mk ?_
        exact Within.refl
      · split
        · rename_i x6 h7
          refine Within2.mk ?_
          exact Within.refl
        · rename_i x8 x9 h10
          refine Within2.ite ?_ ?_
          · refine Within2.mk ?_
            exact Within.refl
          · refine Within2.ite ?_ ?_
            · refine Within2.mk ?_
              exact Within.refl
            · split
              · rename_i x11 h12
                refine Within2.mk ?_
                exact Within.refl
              · rename_i x13 x14 x15 h16
                refine Within2.mk ?_
                refine Within.app headMalformed_within rfl ?_
                exact Within.refl
              · rename_i x17 x18 h19
                refine Within2.mk ?_
                refine Within.app headFailed_within rfl ?_
                exact Within.refl
              · rename_i x20 x21 x22 x23 h24
                refine Within2.ite ?_ ?_
                · refine Within2.mk ?_
                  refine Within.app cqRefuse_within rfl ?_
                  exact Within.refl
                · split
                  rename_i x25 x26 t27 h28
                  have ht27 : Within 0x281002a28b060d4627801fff02001f0304000d40000e s t27 := by
                    refine Within2.of h28 ?_
                    refine Within2.app acceptJob_within rfl ?_
                    exact Within.refl
                  refine Within2.mk ?_
                  refine Within.app headSettle_within rfl ?_
                  exact ht27

theorem frameIn_within {qid pid peerFa bytes s} :
    Within2 0x281003e2ab060d4627801fff02001f0304000d40003e s (frameIn qid pid peerFa bytes s) := by
  unfold frameIn
  split
  · rename_i x1 h2
    refine Within2.mk ?_
    exact Within.refl
  · rename_i x3 x4 h5
    refine Within2.ite ?_ ?_
    · refine Within2.mk ?_
      exact Within.refl
    · split
      · rename_i x6 h7
        refine Within2.mk ?_
        exact Within.refl
      · rename_i x8 x9 x10 h11
        refine Within2.mk ?_
        refine Within.app headMalformed_within rfl ?_
        exact Within.refl
      · rename_i x12 x13 h14
        refine Within2.mk ?_
        refine Within.app headFailed_within rfl ?_
        exact Within.refl
      · rename_i x15 x16 x17 x18 h19
        split
        rename_i x20 x21 t22 h23
        have ht22 : Within 0x281003e2ab060d4627801fff02001f0304000d40003e s t22 := by
          refine Within2.of h23 ?_
          refine Within2.app acceptJob_within rfl ?_
          exact Within.refl
        extract_lets v24 v25 v26
        have hv24 : Within 0x281003e2ab060d4627801fff02001f0304000d40003e s v24 := by
          unfold v24
          refine Within.app updJob_within rfl ?_
          exact ht22
        clear_value v24
        have hv26 : Within 0x281003e2ab060d4627801fff02001f0304000d40003e s v26 := by
          unfold v26
          refine Within.upd (e := v24) ?_ rfl rfl rfl rfl rfl rfl rfl rfl
          exact hv24
        clear_value v26
        refine Within2.mk ?_
        refine Within.app settleCells_within rfl ?_
        refine Within.app headSettle_within rfl ?_
        refine Within.app recvStart_within rfl ?_
        exact hv26

theorem sendPlace_within {t p s} : Within2 0x60d020300100002001f02000000000006 s (sendPlace t p s) := by
  unfold sendPlace
  split
  · rename_i x1 h2
    refine Within2.mk ?_
    exact Within.refl
  · rename_i x3 x4 h5
    refine Within2.ite ?_ ?_
    · refine Within2.mk ?_
      exact Within.refl
    · split
      · rename_i x6 t7 h8
        have ht7 : Within 0x60d020300100002001f02000000000006 s t7 := by
          refine Within2.of h8 ?_
          refine Within2.app recvPlace_within rfl ?_
          exact Within.refl
        refine Within2.mk ?_
        exact ht7
      · rename_i x9 t10 h11
        have ht10 : Within 0x60d020300100002001f02000000000006 s t10 := by
          refine Within2.of h11 ?_
          refine Within2.app recvPlace_within rfl ?_
          exact Within.refl
        refine Within2.mk ?_
        exact ht10

theorem sendFirst_within {k p s} : Within2 0x281003e2ab860d4627801fff02001f0304000d40003e s (sendFirst k p s) := by
  unfold sendFirst
  split
  · rename_i x1 x2 h3
    refine Within2.app sendPlace_within rfl ?_
    exact Within.refl
  · rename_i x4 h5
    split
    · rename_i x6 x7 t8 h9
      have ht8 : Within 0x281003e2ab860d4627801fff02001f0304000d40003e s t8 := by
        refine Within2.of h9 ?_
        refine Within2.app srqTake_within rfl ?_
        exact Within.refl
      refine Within2.mk ?_
      exact ht8
    · rename_i x10 x11 t12 h13
      have ht12 : Within 0x281003e2ab860d4627801fff02001f0304000d40003e s t12 := by
        refine Within2.of h13 ?_
        refine Within2.app srqTake_within rfl ?_
        exact Within.refl
      refine Within2.mk ?_
      exact ht12
    · rename_i x14 x15 t16 h17
      have ht16 : Within 0x281003e2ab860d4627801fff02001f0304000d40003e s t16 := by
        refine Within2.of h17 ?_
        refine Within2.app srqTake_within rfl ?_
        exact Within.refl
      extract_lets v18 v19 v20 v21
      have hv19 : Within 0x281003e2ab860d4627801fff02001f0304000d40003e s v19 := by
        unfold v19
        refine Within.app updJob_within rfl ?_
        exact ht16
      clear_value v19
      refine Within2.app sendPlace_within rfl ?_
      refine Within.app recvStart_within rfl ?_
      refine Within.app addTarget_within rfl ?_
      exact hv19

theorem tsendPlace_within {t p s} : Within2 0x2000000021060d4227801fff02001f02000000000006 s (tsendPlace t p s) := by
  unfold tsendPlace
  split
  · rename_i x1 h2
    refine Within2.mk ?_
    refine Within.app unexpData_within rfl ?_
    exact Within.refl
  · rename_i x3 x4 h5
    split
    · rename_i x6 t7 h8
      have ht7 : Within 0x2000000021060d4227801fff02001f02000000000006 s t7 := by
        refine Within2.of h8 ?_
        refine Within2.app recvPlace_within rfl ?_
        exact Within.refl
      refine Within2.mk ?_
      exact ht7
    · rename_i x9 t10 h11
      have ht10 : Within 0x2000000021060d4227801fff02001f02000000000006 s t10 := by
        refine Within2.of h11 ?_
        refine Within2.app recvPlace_within rfl ?_
        exact Within.refl
      refine Within2.mk ?_
      exact ht10

theorem tsendFirst_within {k p s} : Within2 0x28100282ab860d4227801fff02001f0304000d40000e s (tsendFirst k p s) := by
  unfold tsendFirst
  split
  · rename_i x1 x2 h3
    refine Within2.app tsendPlace_within rfl ?_
    exact Within.refl
  · rename_i x4 h5
    extract_lets v6 v7 v8 v9
    refine Within2.ite ?_ ?_
    · refine Within2.mk ?_
      exact Within.refl
    · split
      · rename_i x10 t11 h12
        have ht11 : Within 0x28100282ab860d4227801fff02001f0304000d40000e s t11 := by
          refine Within2.of h12 ?_
          refine Within2.elim ?_ ?_
          · refine Within2.mk ?_
            exact Within.refl
          · intro x13
            refine Within2.app recvPlace_within rfl ?_
            exact Within.refl
        refine Within2.mk ?_
        exact ht11
      · rename_i x14 t15 h16
        have ht15 : Within 0x28100282ab860d4227801fff02001f0304000d40000e s t15 := by
          refine Within2.of h16 ?_
          refine Within2.elim ?_ ?_
          · refine Within2.mk ?_
            exact Within.refl
          · intro x17
            refine Within2.app recvPlace_within rfl ?_
            exact Within.refl
        split
        · rename_i x18 t19 h20
          have ht19 : Within 0x28100282ab860d4227801fff02001f0304000d40000e s t19 := by
            refine Within2.of h20 ?_
            refine Within2.app tsendSearch_within rfl ?_
            exact ht15
          refine Within2.mk ?_
          exact ht19
        · rename_i x21 x22 t23 h24
          have ht23 : Within 0x28100282ab860d4227801fff02001f0304000d40000e s t23 := by
            refine Within2.of h24 ?_
            refine Within2.app tsendSearch_within rfl ?_
            exact ht15
          refine Within2.ite ?_ ?_
          · split
            · rename_i x25 x26
              have ht23 : Within 0x28100282ab860d4227801fff02001f0304000d40000e s t23 := by
                refine Within2.of h24 ?_
                refine Within2.app tsendSearch_within rfl ?_
                exact ht15
              refine Within2.mk ?_
              refine Within.app rndvStart_within rfl ?_
              exact ht23
            · rename_i x27
              have ht23 : Within 0x28100282ab860d4227801fff02001f0304000d40000e s t23 := by
                refine Within2.of h24 ?_
                refine Within2.app tsendSearch_within rfl ?_
                exact ht15
              refine Within2.mk ?_
              exact ht23
          · extract_lets v28
            refine Within2.mk ?_
            refine Within.ite ?_ ?_
            · refine Within.app unexpData_within rfl ?_
              refine Within.app addTarget_within rfl ?_
              exact ht23
            · refine Within.app addTarget_within rfl ?_
              exact ht23

theorem targetFault_within {t va s} : Within 0x60d400780100002001f02000000000006 s (targetFault t va s) := by
  unfold targetFault
  extract_lets v1
  refine Within.app endpointEvent_within rfl ?_
  exact Within.refl

theorem regionOp_within {k p len right s} : Within3 0x810028000060d400780100002001f0304000d40000e s (regionOp k p len right s) := by
  unfold regionOp
  extract_lets v1 v2 v3 v4
  split
  rename_i x5 x6 x7 h8
  split
  · rename_i x9 x10 t11 h12
    have ht11 : Within 0x810028000060d400780100002001f0304000d40000e s t11 := by
      refine Within2.of h12 ?_
      refine Within2.app hbmRefusal_within rfl ?_
      exact Within.refl
    refine Within3.mk ?_
    refine Within.app memLost_within rfl ?_
    exact ht11
  · rename_i x13 t14 h15
    have ht14 : Within 0x810028000060d400780100002001f0304000d40000e s t14 := by
      refine Within2.of h15 ?_
      refine Within2.app hbmRefusal_within rfl ?_
      exact Within.refl
    split
    · rename_i x16 x17 x18
      have ht14 : Within 0x810028000060d400780100002001f0304000d40000e s t14 := by
        refine Within2.of h15 ?_
        refine Within2.app hbmRefusal_within rfl ?_
        exact Within.refl
      refine Within3.mk ?_
      exact ht14
    · rename_i x19 x20 ih
      refine Within3.mk ?_
      refine Within.app captureRma_within rfl ?_
      exact ht14

theorem extentReady_within {t kind s} : Within3 0x60d400780100002001f02000000000006 s (extentReady t kind s) := by
  unfold extentReady
  split
  · rename_i x1 x2 t3 h4
    have ht3 : Within 0x60d400780100002001f02000000000006 s t3 := by
      refine Within3.of h4 ?_
      refine Within3.app xRun_within rfl ?_
      exact Within.refl
    refine Within3.mk ?_
    exact ht3
  · rename_i x5 x6 t7 h8
    have ht7 : Within 0x60d400780100002001f02000000000006 s t7 := by
      refine Within3.of h8 ?_
      refine Within3.app xRun_within rfl ?_
      exact Within.refl
    refine Within3.mk ?_
    exact ht7
  · rename_i x9 x10 t11 h12
    have ht11 : Within 0x60d400780100002001f02000000000006 s t11 := by
      refine Within3.of h12 ?_
      refine Within3.app xRun_within rfl ?_
      exact Within.refl
    extract_lets v13
    refine Within3.mk ?_
    refine Within.app captureRma_within rfl ?_
    refine Within.app targetFault_within rfl ?_
    exact ht11
  · rename_i x14 x15 t16 h17
    have ht16 : Within 0x60d400780100002001f02000000000006 s t16 := by
      refine Within3.of h17 ?_
      refine Within3.app xRun_within rfl ?_
      exact Within.refl
    refine Within3.mk ?_
    refine Within.app captureRma_within rfl ?_
    exact ht16

theorem putTarget_within {t s} : Within 0x8000000000000000000000000000000000 s (putTarget t s) := by
  unfold putTarget
  refine Within.ite ?_ ?_
  · refine Within.app updTarget_within rfl ?_
    exact Within.refl
  · refine Within.app addTarget_within rfl ?_
    exact Within.refl

theorem immReserve_within {t p s} : Within3 0x281003e2ab060d4627801fff02001f0304000d40003e s (immReserve t p s) := by
  unfold immReserve
  refine Within3.ite ?_ ?_
  · refine Within3.mk ?_
    exact Within.refl
  · split
    · rename_i x1 x2 t3 h4
      have ht3 : Within 0x281003e2ab060d4627801fff02001f0304000d40003e s t3 := by
        refine Within2.of h4 ?_
        refine Within2.app srqTake_within rfl ?_
        exact Within.refl
      refine Within3.mk ?_
      refine Within.app captureRma_within rfl ?_
      exact ht3
    · rename_i x5 x6 t7 h8
      have ht7 : Within 0x281003e2ab060d4627801fff02001f0304000d40003e s t7 := by
        refine Within2.of h8 ?_
        refine Within2.app srqTake_within rfl ?_
        exact Within.refl
      refine Within3.mk ?_
      exact ht7
    · rename_i x9 x10 t11 h12
      have ht11 : Within 0x281003e2ab060d4627801fff02001f0304000d40003e s t11 := by
        refine Within2.of h12 ?_
        refine Within2.app srqTake_within rfl ?_
        exact Within.refl
      extract_lets v13
      refine Within3.mk ?_
      refine Within.app recvStart_within rfl ?_
      refine Within.app updJob_within rfl ?_
      exact ht11

theorem immEnd_within {t imm bytes status s} : Within 0x2000000001060d4227801fff02001f02000000000006 s (immEnd t imm bytes status s) := by
  unfold immEnd
  split
  · rename_i x1 h2
    exact Within.refl
  · rename_i x3 x4 h5
    refine Within.app recvImmEnd_within rfl ?_
    refine Within.app updJob_within rfl ?_
    exact Within.refl

theorem immFail_within {t status s} : Within 0x2000000001060d4227801fff02001f02000000000006 s (immFail t status s) := by
  unfold immFail
  split
  · rename_i x1 h2
    exact Within.refl
  · rename_i x3 x4 h5
    refine Within.app recvImmEnd_within rfl ?_
    refine Within.app updJob_within rfl ?_
    exact Within.refl

theorem putPlace_within {t p s} : Within2 0x860d400780100002001f02000000000006 s (putPlace t p s) := by
  unfold putPlace
  refine Within2.ite ?_ ?_
  · refine Within2.mk ?_
    exact Within.refl
  · extract_lets v1 v2
    split
    · rename_i x3 x4 t5 h6
      have ht5 : Within 0x860d400780100002001f02000000000006 s t5 := by
        refine Within3.of h6 ?_
        refine Within3.app xRun_within rfl ?_
        exact Within.refl
      split
      rename_i x7 x8 x9 x10 h11
      refine Within2.mk ?_
      refine Within.app updTarget_within rfl ?_
      refine Within.app State.emits_within rfl ?_
      exact ht5
    · rename_i x12 x13 t14 h15
      have ht14 : Within 0x860d400780100002001f02000000000006 s t14 := by
        refine Within3.of h15 ?_
        refine Within3.app xRun_within rfl ?_
        exact Within.refl
      refine Within2.mk ?_
      exact ht14
    · rename_i x16 x17 t18 h19
      have ht18 : Within 0x860d400780100002001f02000000000006 s t18 := by
        refine Within3.of h19 ?_
        refine Within3.app xRun_within rfl ?_
        exact Within.refl
      refine Within2.mk ?_
      refine Within.app captureRma_within rfl ?_
      refine Within.app targetFault_within rfl ?_
      exact ht18
    · rename_i x20 x21 t22 h23
      have ht22 : Within 0x860d400780100002001f02000000000006 s t22 := by
        refine Within3.of h23 ?_
        refine Within3.app xRun_within rfl ?_
        exact Within.refl
      refine Within2.mk ?_
      refine Within.app captureRma_within rfl ?_
      exact ht22

theorem putFirst_within {k p s} : Within2 0x281003e2ab860d4627801fff02001f0304000d40003e s (putFirst k p s) := by
  unfold putFirst
  split
  rename_i x1 x2 x3 t4 h5
  have ht4 : Within 0x281003e2ab860d4627801fff02001f0304000d40003e s t4 := by
    refine Within3.of h5 ?_
    split
    · rename_i x6 x7 h8
      refine Within3.mk ?_
      exact Within.refl
    · rename_i x9 h10
      refine Within3.app regionOp_within rfl ?_
      exact Within.refl
  refine Within2.ite ?_ ?_
  · refine Within2.mk ?_
    exact ht4
  · split
    · rename_i x11 x12 t13 h14
      have ht13 : Within 0x281003e2ab860d4627801fff02001f0304000d40003e s t13 := by
        refine Within3.of h14 ?_
        refine Within3.app immReserve_within rfl ?_
        exact ht4
      split
      · rename_i x15 x16 t17 h18
        have ht17 : Within 0x281003e2ab860d4627801fff02001f0304000d40003e s t17 := by
          refine Within3.of h18 ?_
          refine Within3.app extentReady_within rfl ?_
          exact ht13
        refine Within2.app putPlace_within rfl ?_
        refine Within.app putTarget_within rfl ?_
        exact ht17
      · rename_i x19 x20 x21 t22 ih h23
        have ht22 : Within 0x281003e2ab860d4627801fff02001f0304000d40003e s t22 := by
          refine Within3.of h23 ?_
          refine Within3.app extentReady_within rfl ?_
          exact ht13
        refine Within2.mk ?_
        refine Within.app putTarget_within rfl ?_
        exact ht22
    · rename_i x24 x25 x26 t27 ih h28
      have ht27 : Within 0x281003e2ab860d4627801fff02001f0304000d40003e s t27 := by
        refine Within3.of h28 ?_
        refine Within3.app immReserve_within rfl ?_
        exact ht4
      refine Within2.mk ?_
      exact ht27

theorem getFirst_within {k p s} : Within2 0x810028000860d400780100002001f0304000d40000e s (getFirst k p s) := by
  unfold getFirst
  split
  rename_i x1 x2 x3 t4 h5
  have ht4 : Within 0x810028000860d400780100002001f0304000d40000e s t4 := by
    refine Within3.of h5 ?_
    split
    · rename_i x6 x7 h8
      refine Within3.mk ?_
      exact Within.refl
    · rename_i x9 h10
      refine Within3.app regionOp_within rfl ?_
      exact Within.refl
  refine Within2.ite ?_ ?_
  · refine Within2.mk ?_
    exact ht4
  · split
    · rename_i x11 x12 t13 h14
      have ht13 : Within 0x810028000860d400780100002001f0304000d40000e s t13 := by
        refine Within3.of h14 ?_
        refine Within3.app extentReady_within rfl ?_
        exact ht4
      refine Within2.mk ?_
      refine Within.app putTarget_within rfl ?_
      exact ht13
    · rename_i x15 x16 t17 h18
      have ht17 : Within 0x810028000860d400780100002001f0304000d40000e s t17 := by
        refine Within3.of h18 ?_
        refine Within3.app extentReady_within rfl ?_
        exact ht4
      refine Within2.mk ?_
      refine Within.app putTarget_within rfl ?_
      exact ht17
    · rename_i x19 x20 x21 t22 ih ih h23
      have ht22 : Within 0x810028000860d400780100002001f0304000d40000e s t22 := by
        refine Within3.of h23 ?_
        refine Within3.app extentReady_within rfl ?_
        exact ht4
      refine Within2.mk ?_
      refine Within.app dropTarget_within rfl ?_
      exact ht22

theorem getGo_within {k psn s} : Within 0x28b800002070010000000000000000000000e s (getGo k psn s) := by
  unfold getGo
  split
  · rename_i x1 h2
    exact Within.refl
  · rename_i x3 x4 h5
    split
    · rename_i x6 x7 x8 h9
      refine Within.app issueReq_within rfl ?_
      refine Within.app updTarget_within rfl ?_
      exact Within.refl
    · rename_i x10 h11
      extract_lets v12 v13 v14
      refine Within.app sendOut_within rfl ?_
      refine Within.app dropTarget_within rfl ?_
      exact Within.refl

theorem atomicFirst_within {k p s} : Within2 0x281003e2ab860d4627801fff02001f0304000d40003e s (atomicFirst k p s) := by
  unfold atomicFirst
  extract_lets v1 v2 v3 v4
  split
  rename_i x5 x6 x7 x8 h9
  extract_lets v10
  refine Within2.ite ?_ ?_
  · refine Within2.ite ?_ ?_
    · refine Within2.mk ?_
      refine Within.app captureRma_within rfl ?_
      exact Within.refl
    · split
      · rename_i x11 x12 t13 h14
        have ht13 : Within 0x281003e2ab860d4627801fff02001f0304000d40003e s t13 := by
          refine Within3.of h14 ?_
          refine Within3.app immReserve_within rfl ?_
          exact Within.refl
        refine Within2.mk ?_
        refine Within.app putTarget_within rfl ?_
        exact ht13
      · rename_i x15 x16 x17 t18 ih h19
        have ht18 : Within 0x281003e2ab860d4627801fff02001f0304000d40003e s t18 := by
          refine Within3.of h19 ?_
          refine Within3.app immReserve_within rfl ?_
          exact Within.refl
        refine Within2.mk ?_
        exact ht18
  · split
    rename_i x20 x21 x22 t23 h24
    have ht23 : Within 0x281003e2ab860d4627801fff02001f0304000d40003e s t23 := by
      refine Within3.of h24 ?_
      split
      · rename_i x25 x26 h27
        refine Within3.mk ?_
        exact Within.refl
      · rename_i x28 h29
        refine Within3.app regionOp_within rfl ?_
        exact Within.refl
    refine Within2.ite ?_ ?_
    · refine Within2.mk ?_
      exact ht23
    · split
      · rename_i x30 x31 t32 h33
        have ht32 : Within 0x281003e2ab860d4627801fff02001f0304000d40003e s t32 := by
          refine Within3.of h33 ?_
          refine Within3.app immReserve_within rfl ?_
          exact ht23
        split
        · rename_i x34 x35 t36 h37
          have ht36 : Within 0x281003e2ab860d4627801fff02001f0304000d40003e s t36 := by
            refine Within3.of h37 ?_
            refine Within3.app extentReady_within rfl ?_
            exact ht32
          refine Within2.ite ?_ ?_
          · refine Within2.mk ?_
            refine Within.app putTarget_within rfl ?_
            exact ht36
          · refine Within2.mk ?_
            refine Within.app putTarget_within rfl ?_
            exact ht36
        · rename_i x38 x39 x40 t41 ih h42
          have ht41 : Within 0x281003e2ab860d4627801fff02001f0304000d40003e s t41 := by
            refine Within3.of h42 ?_
            refine Within3.app extentReady_within rfl ?_
            exact ht32
          refine Within2.mk ?_
          refine Within.app putTarget_within rfl ?_
          exact ht41
      · rename_i x43 x44 x45 t46 ih h47
        have ht46 : Within 0x281003e2ab860d4627801fff02001f0304000d40003e s t46 := by
          refine Within3.of h47 ?_
          refine Within3.app immReserve_within rfl ?_
          exact ht23
        refine Within2.mk ?_
        exact ht46

theorem atomicEnd_within {k psn status old s} : Within 0x200000028f860d4227801fff02001f0200000000000e s (atomicEnd k psn status old s) := by
  unfold atomicEnd
  split
  · rename_i x1 h2
    exact Within.refl
  · rename_i x3 x4 h5
    extract_lets v6 v7 v8 v9 v10
    have hv6 : Within 0x200000028f860d4227801fff02001f0200000000000e s v6 := by
      unfold v6
      refine Within.app dropTarget_within rfl ?_
      exact Within.refl
    clear_value v6
    have hv7 : Within 0x200000028f860d4227801fff02001f0200000000000e s v7 := by
      unfold v7
      refine Within.app immEnd_within rfl ?_
      exact hv6
    clear_value v7
    have hv9 : Within 0x200000028f860d4227801fff02001f0200000000000e s v9 := by
      unfold v9
      refine Within.upd (e := v7) ?_ rfl rfl rfl rfl rfl rfl rfl rfl
      exact hv7
    clear_value v9
    refine Within.ite ?_ ?_
    · refine Within.app sendOn_within rfl ?_
      exact hv9
    · refine Within.app sendStatus_within rfl ?_
      exact hv7

theorem atomicIssue_within {t s} : Within 0x200000028f860d4227801fff02001f0200000000000e s (atomicIssue t s) := by
  unfold atomicIssue
  refine Within.ite ?_ ?_
  · refine Within.app atomicEnd_within rfl ?_
    exact Within.refl
  · extract_lets v1 v2 v3
    have hv3 : Within 0x200000028f860d4227801fff02001f0200000000000e s v3 := by
      unfold v3
      refine Within.app updTarget_within rfl ?_
      exact Within.refl
    clear_value v3
    refine Within.ite ?_ ?_
    · refine Within.app issueReq_within rfl ?_
      exact hv3
    · refine Within.ite ?_ ?_
      · refine Within.app issueReq_within rfl ?_
        exact hv3
      · refine Within.app issueReq_within rfl ?_
        exact hv3

theorem atomicTry_within {t old s} : Within 0x200000028f860d4227801fff02001f0200000000000e s (atomicTry t old s) := by
  unfold atomicTry
  refine Within.ite ?_ ?_
  · refine Within.app atomicEnd_within rfl ?_
    exact Within.refl
  · extract_lets v1 v2 v3
    have hv3 : Within 0x200000028f860d4227801fff02001f0200000000000e s v3 := by
      unfold v3
      refine Within.app updTarget_within rfl ?_
      exact Within.refl
    clear_value v3
    refine Within.app issueReq_within rfl ?_
    exact hv3

theorem targetStart_within {t s} : Within 0x281002928f860d4227801fff02001f0304000d40000e s (targetStart t s) := by
  unfold targetStart
  refine Within.ite ?_ ?_
  · split
    · rename_i x1 x2 t3 h4
      have ht3 : Within 0x281002928f860d4227801fff02001f0304000d40000e s t3 := by
        refine Within2.of h4 ?_
        refine Within2.app hbmRefusal_within rfl ?_
        exact Within.refl
      refine Within.app atomicEnd_within rfl ?_
      refine Within.app memLost_within rfl ?_
      exact ht3
    · rename_i x5 t6 h7
      have ht6 : Within 0x281002928f860d4227801fff02001f0304000d40000e s t6 := by
        refine Within2.of h7 ?_
        refine Within2.app hbmRefusal_within rfl ?_
        exact Within.refl
      split
      rename_i x8 x9 t10 h11
      have ht10 : Within 0x281002928f860d4227801fff02001f0304000d40000e s t10 := by
        refine Within2.of h11 ?_
        refine Within2.app varAtomic_within rfl ?_
        exact ht6
      refine Within.app atomicEnd_within rfl ?_
      exact ht10
  · refine Within.ite ?_ ?_
    · refine Within.app atomicIssue_within rfl ?_
      exact Within.refl
    · refine Within.app getGo_within rfl ?_
      exact Within.refl

theorem onTarget_within {m k psn f s} (hm : sub 0x0 m = true) (hf : ∀ t0, Within m t0 (f t0)) : Within m s (onTarget k psn f s) := by
  unfold onTarget
  refine Within.asOf ?_ ?_
  · intro t1
    refine Within.trans ?_ (hf _)
    exact Within.refl
  · exact Within.refl

theorem targetsRun_within {a0 a1} : Within 0x281002928f860d4227801fff02001f0304000d40000e a1 (targetsRun a0 a1) := by
  induction a0 generalizing a1
  · rw [targetsRun]
    exact Within.refl
  · rename_i x1 ih
    rw [targetsRun]
    split
    · rename_i x2 h3
      exact Within.refl
    · rename_i x4 x5 h6
      refine Within.app ih rfl ?_
      refine Within.trans ?_ (onTarget_within rfl ?_)
      · exact Within.refl
      · intro t7
        refine Within.app targetStart_within rfl ?_
        exact Within.refl

theorem targetsGo_within {s} : Within 0x281002928f860d4227801fff02001f0304000d40000e s (targetsGo s) := by
  unfold targetsGo
  refine Within.app targetsRun_within rfl ?_
  exact Within.refl

theorem targetAgain_within {k psn s} : Within 0x281002928f860d4227801fff02001f0304000d40000e s (targetAgain k psn s) := by
  unfold targetAgain
  split
  · rename_i x1 h2
    exact Within.refl
  · rename_i x3 x4 h5
    refine Within.ite ?_ ?_
    · exact Within.refl
    · split
      · rename_i x6 x7 t8 h9
        have ht8 : Within 0x281002928f860d4227801fff02001f0304000d40000e s t8 := by
          refine Within3.of h9 ?_
          refine Within3.app extentReady_within rfl ?_
          exact Within.refl
        refine Within.app targetsGo_within rfl ?_
        refine Within.app putTarget_within rfl ?_
        exact ht8
      · rename_i x10 x11 x12 t13 h14
        have ht13 : Within 0x281002928f860d4227801fff02001f0304000d40000e s t13 := by
          refine Within3.of h14 ?_
          refine Within3.app extentReady_within rfl ?_
          exact Within.refl
        refine Within.ite ?_ ?_
        · refine Within.app atomicEnd_within rfl ?_
          exact ht13
        · refine Within.app sendStatus_within rfl ?_
          refine Within.app dropTarget_within rfl ?_
          exact ht13
      · rename_i x15 x16 x17 t18 ih ih h19
        have ht18 : Within 0x281002928f860d4227801fff02001f0304000d40000e s t18 := by
          refine Within3.of h19 ?_
          refine Within3.app extentReady_within rfl ?_
          exact Within.refl
        refine Within.app putTarget_within rfl ?_
        exact ht18

theorem targetRecorded_within {k psn s} : Within 0x281002928f860d4227801fff02001f0304000d40000e s (targetRecorded k psn s) := by
  unfold targetRecorded
  refine Within.app targetsGo_within rfl ?_
  refine Within.app updTarget_within rfl ?_
  exact Within.refl

theorem getRespPlace_within {t p s} : Within2 0x80060d020300100002001f02000000000006 s (getRespPlace t p s) := by
  unfold getRespPlace
  extract_lets v1 v2
  split
  · rename_i x3 x4 h5
    refine Within2.ite ?_ ?_
    · refine Within2.mk ?_
      exact Within.refl
    · split
      · rename_i x6 t7 h8
        have ht7 : Within 0x80060d020300100002001f02000000000006 s t7 := by
          refine Within2.of h8 ?_
          refine Within2.app placeLocal_within rfl ?_
          exact Within.refl
        refine Within2.mk ?_
        exact ht7
      · rename_i x9 x10 t11 h12
        have ht11 : Within 0x80060d020300100002001f02000000000006 s t11 := by
          refine Within2.of h12 ?_
          refine Within2.app placeLocal_within rfl ?_
          exact Within.refl
        refine Within2.mk ?_
        refine Within.ite ?_ ?_
        · exact ht11
        · refine Within.app updJob_within rfl ?_
          exact ht11
  · rename_i x13 h14
    split
    · rename_i x15 t16 h17
      have ht16 : Within 0x80060d020300100002001f02000000000006 s t16 := by
        refine Within2.of h17 ?_
        refine Within2.app rndvData_within rfl ?_
        exact Within.refl
      refine Within2.mk ?_
      exact ht16
    · rename_i x18 t19 h20
      have ht19 : Within 0x80060d020300100002001f02000000000006 s t19 := by
        refine Within2.of h20 ?_
        refine Within2.app rndvData_within rfl ?_
        exact Within.refl
      refine Within2.mk ?_
      exact ht19

theorem getRespFirst_within {k p s} : Within2 0x80860d020300100002001f02000000000006 s (getRespFirst k p s) := by
  unfold getRespFirst
  split
  · rename_i x1 x2 h3
    refine Within2.app getRespPlace_within rfl ?_
    exact Within.refl
  · rename_i x4 h5
    extract_lets v6 v7
    refine Within2.app getRespPlace_within rfl ?_
    refine Within.app addTarget_within rfl ?_
    exact Within.refl

theorem atomicRespPlace_within {k p s} : Within2 0x60d020300100002001f02000000000006 s (atomicRespPlace k p s) := by
  unfold atomicRespPlace
  split
  · rename_i x1 h2
    refine Within2.mk ?_
    exact Within.refl
  · rename_i x3 x4 h5
    refine Within2.ite ?_ ?_
    · refine Within2.mk ?_
      exact Within.refl
    · refine Within2.ite ?_ ?_
      · split
        · rename_i x6 t7 h8
          have ht7 : Within 0x60d020300100002001f02000000000006 s t7 := by
            refine Within2.of h8 ?_
            refine Within2.app placeLocal_within rfl ?_
            exact Within.refl
          refine Within2.mk ?_
          exact ht7
        · rename_i x9 x10 t11 h12
          have ht11 : Within 0x60d020300100002001f02000000000006 s t11 := by
            refine Within2.of h12 ?_
            refine Within2.app placeLocal_within rfl ?_
            exact Within.refl
          refine Within2.mk ?_
          refine Within.ite ?_ ?_
          · exact ht11
          · refine Within.app updJob_within rfl ?_
            exact ht11
      · refine Within2.mk ?_
        refine Within.app updJob_within rfl ?_
        exact Within.refl

theorem requestEnd_within {k req status s} : Within 0x20000002ab060d4227801fff02001f0200000000000e s (requestEnd k req status s) := by
  unfold requestEnd
  split
  · rename_i x1 x2 h3
    extract_lets v4
    have hv4 : Within 0x20000002ab060d4227801fff02001f0200000000000e s v4 := by
      unfold v4
      refine Within.app endJob_within rfl ?_
      exact Within.refl
    clear_value v4
    refine Within.app haltCheck_within rfl ?_
    refine Within.ite ?_ ?_
    · refine Within.app dropRefused_within rfl ?_
      exact hv4
    · exact hv4
  · rename_i x5 h6
    refine Within.app rndvReadEnd_within rfl ?_
    refine Within.ite ?_ ?_
    · refine Within.app dropRefused_within rfl ?_
      exact Within.refl
    · exact Within.refl

theorem setAgain_within {k psn a s} : Within 0x10000000000000000000000000000000000 s (setAgain k psn a s) := by
  unfold setAgain
  refine Within.app updSend_within rfl ?_
  exact Within.refl

theorem rereadFail_within {k o fault s} : Within 0x1060d420780100002001f02000000000006 s (rereadFail k o fault s) := by
  unfold rereadFail
  extract_lets v1 v2
  have hv1 : Within 0x1060d420780100002001f02000000000006 s v1 := by
    unfold v1
    split
    · rename_i x3 x4 h5
      refine Within.app updJob_within rfl ?_
      exact Within.refl
    · rename_i x6 ih
      exact Within.refl
  clear_value v1
  have hv2 : Within 0x1060d420780100002001f02000000000006 s v2 := by
    unfold v2
    split
    · rename_i x7 x8 x9 x10 x11 h12
      refine Within.app endpointEvent_within rfl ?_
      exact hv1
    · rename_i x13 x14 x15 ih
      exact hv1
  clear_value v2
  refine Within.app pumpAll_within rfl ?_
  refine Within.app setAgain_within rfl ?_
  exact hv2

theorem rereadNext_within {k psn s} : Within 0x10000020700100000000000000000000006 s (rereadNext k psn s) := by
  unfold rereadNext
  split
  · rename_i x1 h2
    exact Within.refl
  · rename_i x3 x4 h5
    split
    · rename_i x6 x7 x8 x9 x10 x11 h12 h13
      refine Within.app issueReq_within rfl ?_
      refine Within.app setAgain_within rfl ?_
      exact Within.refl
    · rename_i x14 x15 x16 x17 h18 h19
      refine Within.app pumpAll_within rfl ?_
      refine Within.app setAgain_within rfl ?_
      exact Within.refl
    · rename_i x20 x21 ih ih
      exact Within.refl

theorem rereadGo_within {k psn s} : Within 0x1060d420780100002001f02000000000006 s (rereadGo k psn s) := by
  unfold rereadGo
  split
  · rename_i x1 h2
    exact Within.refl
  · rename_i x3 x4 h5
    split
    · rename_i x6 x7 x8 x9 h10 h11
      split
      · rename_i x12 x13 t14 h15
        have ht14 : Within 0x1060d420780100002001f02000000000006 s t14 := by
          refine Within3.of h15 ?_
          refine Within3.app xRun_within rfl ?_
          exact Within.refl
        refine Within.app rereadNext_within rfl ?_
        refine Within.app setAgain_within rfl ?_
        exact ht14
      · rename_i x16 x17 t18 h19
        have ht18 : Within 0x1060d420780100002001f02000000000006 s t18 := by
          refine Within3.of h19 ?_
          refine Within3.app xRun_within rfl ?_
          exact Within.refl
        refine Within.app setAgain_within rfl ?_
        exact ht18
      · rename_i x20 x21 t22 h23
        have ht22 : Within 0x1060d420780100002001f02000000000006 s t22 := by
          refine Within3.of h23 ?_
          refine Within3.app xRun_within rfl ?_
          exact Within.refl
        refine Within.app rereadFail_within rfl ?_
        exact ht22
      · rename_i x24 x25 t26 h27
        have ht26 : Within 0x1060d420780100002001f02000000000006 s t26 := by
          refine Within3.of h27 ?_
          refine Within3.app xRun_within rfl ?_
          exact Within.refl
        refine Within.app rereadFail_within rfl ?_
        exact ht26
    · rename_i x28 x29 ih
      exact Within.refl

theorem rereadData_within {k psn bs s} : Within 0x10000020700100000000000000000000006 s (rereadData k psn bs s) := by
  unfold rereadData
  split
  · rename_i x1 h2
    exact Within.refl
  · rename_i x3 x4 h5
    split
    · rename_i x6 x7 x8 h9
      refine Within.app rereadNext_within rfl ?_
      refine Within.app setAgain_within rfl ?_
      exact Within.refl
    · rename_i x10 ih
      exact Within.refl

theorem rereadLost_within {k psn came s} : Within 0x1060d420780100002001f02000000000006 s (rereadLost k psn came s) := by
  unfold rereadLost
  split
  · rename_i x1 h2
    exact Within.refl
  · rename_i x3 x4 h5
    split
    · rename_i x6 x7 x8 h9
      refine Within.app rereadFail_within rfl ?_
      exact Within.refl
    · rename_i x10 ih
      exact Within.refl

theorem resendStart_within {k s o} : Within 0x1060d420780100002001f02000000000006 s (resendStart k s o) := by
  unfold resendStart
  refine Within.ite ?_ ?_
  · exact Within.refl
  · extract_lets v1
    have hv1 : Within 0x1060d420780100002001f02000000000006 s v1 := by
      unfold v1
      refine Within.app updSend_within rfl ?_
      exact Within.refl
    clear_value v1
    split
    · rename_i x2 h3
      refine Within.app setAgain_within rfl ?_
      exact hv1
    · rename_i x4 x5 h6
      refine Within.app rereadGo_within rfl ?_
      refine Within.app setAgain_within rfl ?_
      exact hv1

theorem resendAll_within {k l s} : Within 0x1060d420780100002001f02000000000006 s (resendAll k l s) := by
  unfold resendAll
  extract_lets v1
  have hv1 : Within 0x1060d420780100002001f02000000000006 s v1 := by
    unfold v1
    refine Within.ite ?_ ?_
    · refine Within.app updPeer_within rfl ?_
      exact Within.refl
    · exact Within.refl
  clear_value v1
  refine Within.app pumpAll_within rfl ?_
  refine Within.foldl ?_ ?_
  · intro t2 x3
    refine Within.app resendStart_within rfl ?_
    exact Within.refl
  · exact hv1

theorem completeAcked_within {k s} : Within 0x2000000603060d4227801fff02001f0200000000000e s (completeAcked k s) := by
  unfold completeAcked
  extract_lets v1 v2 v3
  have hv3 : Within 0x2000000603060d4227801fff02001f0200000000000e s v3 := by
    unfold v3
    refine Within.foldl ?_ ?_
    · intro t4 x5
      extract_lets v6
      have hv6 : Within 0x2000000603060d4227801fff02001f0200000000000e t4 v6 := by
        unfold v6
        refine Within.app endJob_within rfl ?_
        exact Within.refl
      clear_value v6
      refine Within.ite ?_ ?_
      · refine Within.app lockReleased_within rfl ?_
        exact hv6
      · exact hv6
    · exact Within.refl
  clear_value v3
  refine Within.app haltCheck_within rfl ?_
  refine Within.app lockGone_within rfl ?_
  exact hv3

theorem ackRules_within {k last s} : Within 0x10000000000000000000000000000000006 s (ackRules k last s) := by
  unfold ackRules
  split
  · rename_i x1 h2
    exact Within.refl
  · rename_i x3 x4 h5
    refine Within.ite ?_ ?_
    · refine Within.app sendAck_within rfl ?_
      exact Within.refl
    · refine Within.app updRecv_within rfl ?_
      exact Within.refl

theorem gapWatch_within {k s} : Within 0x10000000000000000000000000000000000 s (gapWatch k s) := by
  unfold gapWatch
  refine Within.app updRecv_within rfl ?_
  exact Within.refl

theorem refuseOp_within {k psn p status s} : Within 0x200000028b860d4227801fff02001f0200000000000e s (refuseOp k psn p status s) := by
  unfold refuseOp
  extract_lets v1 v2 v3
  have hv2 : Within 0x200000028b860d4227801fff02001f0200000000000e s v2 := by
    unfold v2
    split
    · rename_i x4 x5 h6
      refine Within.ite ?_ ?_
      · exact Within.refl
      · refine Within.ite ?_ ?_
        · refine Within.app immFail_within rfl ?_
          refine Within.app updTarget_within rfl ?_
          exact Within.refl
        · refine Within.app updTarget_within rfl ?_
          exact Within.refl
    · rename_i x7 h8
      refine Within.app addTarget_within rfl ?_
      exact Within.refl
  clear_value v2
  refine Within.app sendStatus_within rfl ?_
  exact hv2

theorem admitFirst_within {k p s} : Within2 0x281003e2ab860d4627801fff02001f0304000d40003e s (admitFirst k p s) := by
  unfold admitFirst
  extract_lets v1
  refine Within2.ite ?_ ?_
  · refine Within2.mk ?_
    refine Within.app updRecv_within rfl ?_
    exact Within.refl
  · refine Within2.ite ?_ ?_
    · refine Within2.app sendFirst_within rfl ?_
      exact Within.refl
    · refine Within2.ite ?_ ?_
      · refine Within2.app tsendFirst_within rfl ?_
        exact Within.refl
      · refine Within2.ite ?_ ?_
        · refine Within2.app putFirst_within rfl ?_
          exact Within.refl
        · refine Within2.ite ?_ ?_
          · refine Within2.app getFirst_within rfl ?_
            exact Within.refl
          · refine Within2.ite ?_ ?_
            · refine Within2.app atomicFirst_within rfl ?_
              exact Within.refl
            · refine Within2.ite ?_ ?_
              · split
                · rename_i x2 h3
                  refine Within2.mk ?_
                  exact Within.refl
                · rename_i x4 h5
                  refine Within2.mk ?_
                  exact Within.refl
                · rename_i x6 h7
                  refine Within2.mk ?_
                  exact Within.refl
              · refine Within2.ite ?_ ?_
                · refine Within2.app getRespFirst_within rfl ?_
                  exact Within.refl
                · refine Within2.ite ?_ ?_
                  · refine Within2.app atomicRespPlace_within rfl ?_
                    exact Within.refl
                  · refine Within2.mk ?_
                    exact Within.refl

theorem admitNext_within {t p s} : Within2 0x20000000a1860d4227801fff02001f02000000000006 s (admitNext t p s) := by
  unfold admitNext
  refine Within2.ite ?_ ?_
  · refine Within2.ite ?_ ?_
    · refine Within2.mk ?_
      exact Within.refl
    · refine Within2.mk ?_
      refine Within.ite ?_ ?_
      · refine Within.app captureRma_within rfl ?_
        exact Within.refl
      · exact Within.refl
  · refine Within2.ite ?_ ?_
    · refine Within2.app sendPlace_within rfl ?_
      exact Within.refl
    · refine Within2.ite ?_ ?_
      · refine Within2.app tsendPlace_within rfl ?_
        exact Within.refl
      · refine Within2.ite ?_ ?_
        · refine Within2.app putPlace_within rfl ?_
          exact Within.refl
        · refine Within2.ite ?_ ?_
          · refine Within2.app getRespPlace_within rfl ?_
            exact Within.refl
          · refine Within2.mk ?_
            exact Within.refl

theorem deliverFirst_within {k p s} : Within 0x281003f7af860d4227801fff02001f0304000d40003e s (deliverFirst k p s) := by
  unfold deliverFirst
  extract_lets v1 v2 v3 v4
  refine Within.ite ?_ ?_
  · refine Within.app targetRecorded_within rfl ?_
    exact Within.refl
  · refine Within.ite ?_ ?_
    · refine Within.app targetRecorded_within rfl ?_
      exact Within.refl
    · refine Within.ite ?_ ?_
      · refine Within.app withdrawTarget_within rfl ?_
        exact Within.refl
      · refine Within.ite ?_ ?_
        · refine Within.app lockRequest_within rfl ?_
          exact Within.refl
        · refine Within.ite ?_ ?_
          · refine Within.app groupWake_within rfl ?_
            refine Within.app onChorus_within rfl ?_
            exact Within.refl
          · refine Within.ite ?_ ?_
            · refine Within.app haltCheck_within rfl ?_
              refine Within.app lockResp_within rfl ?_
              exact Within.refl
            · refine Within.ite ?_ ?_
              · refine Within.app requestEnd_within rfl ?_
                exact Within.refl
              · exact Within.refl

theorem deliverLast_within {k t p s} : Within 0x20000002ab860d4227801fff02001f0200000000000e s (deliverLast k t p s) := by
  unfold deliverLast
  refine Within.ite ?_ ?_
  · refine Within.app dropTarget_within rfl ?_
    refine Within.ite ?_ ?_
    · refine Within.elim ?_ ?_
      · exact Within.refl
      · intro x1
        refine Within.app recvEnd_within rfl ?_
        exact Within.refl
    · exact Within.refl
  · refine Within.ite ?_ ?_
    · extract_lets v2
      have hv2 : Within 0x20000002ab860d4227801fff02001f0200000000000e s v2 := by
        unfold v2
        refine Within.app dropTarget_within rfl ?_
        exact Within.refl
      clear_value v2
      refine Within.ite ?_ ?_
      · exact hv2
      · split
        · rename_i x3 x4 h5
          refine Within.app recvEnd_within rfl ?_
          exact hv2
        · rename_i x6 h7
          refine Within.app unexpData_within rfl ?_
          exact hv2
    · refine Within.ite ?_ ?_
      · refine Within.app dropTarget_within rfl ?_
        refine Within.app immEnd_within rfl ?_
        exact Within.refl
      · refine Within.ite ?_ ?_
        · refine Within.app requestEnd_within rfl ?_
          refine Within.app dropTarget_within rfl ?_
          exact Within.refl
        · refine Within.ite ?_ ?_
          · refine Within.app dropTarget_within rfl ?_
            exact Within.refl
          · exact Within.refl

theorem takePacket_within {k p refusal s} : Within 0x281003f7af860d4227801fff02001f0304000d40003e s (takePacket k p refusal s) := by
  unfold takePacket
  extract_lets v1 v2 v3 v4 v5
  have hv2 : Within 0x281003f7af860d4227801fff02001f0304000d40003e s v2 := by
    unfold v2
    refine Within.app updRecv_within rfl ?_
    exact Within.refl
  clear_value v2
  have hv3 : Within 0x281003f7af860d4227801fff02001f0304000d40003e s v3 := by
    unfold v3
    refine Within.app State.count_within rfl ?_
    refine Within.app State.count_within rfl ?_
    refine Within.app State.count_within rfl ?_
    exact hv2
  clear_value v3
  have hv4 : Within 0x281003f7af860d4227801fff02001f0304000d40003e s v4 := by
    unfold v4
    split
    · rename_i x6 x7
      refine Within.app updTarget_within rfl ?_
      refine Within.app refuseOp_within rfl ?_
      exact hv3
    · rename_i x8
      refine Within.ite ?_ ?_
      · refine Within.app deliverFirst_within rfl ?_
        exact hv3
      · exact hv3
  clear_value v4
  have hv5 : Within 0x281003f7af860d4227801fff02001f0304000d40003e s v5 := by
    unfold v5
    refine Within.ite ?_ ?_
    · split
      · rename_i x9 x10 h11
        refine Within.ite ?_ ?_
        · refine Within.ite ?_ ?_
          · exact hv4
          · refine Within.app dropTarget_within rfl ?_
            exact hv4
        · refine Within.app deliverLast_within rfl ?_
          exact hv4
      · rename_i x12 h13
        exact hv4
    · exact hv4
  clear_value v5
  refine Within.app completeAcked_within rfl ?_
  refine Within.app gapWatch_within rfl ?_
  refine Within.app ackRules_within rfl ?_
  exact hv5

theorem notNow_within {k p reason s} : Within 0x10000000000100000000000000000000006 s (notNow k p reason s) := by
  unfold notNow
  extract_lets v1 v2
  have hv1 : Within 0x10000000000100000000000000000000006 s v1 := by
    unfold v1
    refine Within.app sendNotNow_within rfl ?_
    exact Within.refl
  clear_value v1
  have hv2 : Within 0x10000000000100000000000000000000006 s v2 := by
    unfold v2
    refine Within.app updRecv_within rfl ?_
    exact hv1
  clear_value v2
  refine Within.ite ?_ ?_
  · split
    · rename_i x3 h4
      exact hv2
    · rename_i x5 x6 h7
      refine Within.foldl ?_ ?_
      · intro t8 x9
        refine Within.app sendNotNow_within rfl ?_
        exact Within.refl
      · refine Within.app updRecv_within rfl ?_
        exact hv2
  · exact hv1

theorem keepOperand_within {k h s} : Within 0x100000000000000000000000000000000000000000 s (keepOperand k h s) := by
  unfold keepOperand
  extract_lets v1 v2 v3
  split
  · rename_i x4 h5
    exact Within.refl
  · rename_i x6 x7 h8
    refine Within.ite ?_ ?_
    · exact Within.refl
    · refine Within.updFab ?_ rfl
      exact Within.refl

theorem deliverHeld_within {k h s} : Within 0x281003f7af860d4627801fff02001f0304000d40003e s (deliverHeld k h s) := by
  unfold deliverHeld
  extract_lets v1 v2 v3
  have hv2 : ∀ t4, Within 0x281003f7af860d4627801fff02001f0304000d40003e t4 (v2 t4) := by
    intro t4
    unfold v2
    refine Within.app updRecv_within rfl ?_
    exact Within.refl
  clear_value v2
  split
  rename_i x5 x6 t7 h8
  have ht7 : Within 0x281003f7af860d4627801fff02001f0304000d40003e s t7 := by
    refine Within2.of h8 ?_
    refine Within2.ite ?_ ?_
    · refine Within2.app admitFirst_within rfl ?_
      exact Within.refl
    · split
      · rename_i x9 x10 h11
        refine Within2.app admitNext_within rfl ?_
        exact Within.refl
      · rename_i x12 h13
        refine Within2.mk ?_
        exact Within.refl
  split
  · rename_i x14
    have ht7 : Within 0x281003f7af860d4627801fff02001f0304000d40003e s t7 := by
      refine Within2.of h8 ?_
      refine Within2.ite ?_ ?_
      · refine Within2.app admitFirst_within rfl ?_
        exact Within.refl
      · split
        · rename_i x15 x16 h17
          refine Within2.app admitNext_within rfl ?_
          exact Within.refl
        · rename_i x18 h19
          refine Within2.mk ?_
          exact Within.refl
    exact ht7
  · rename_i x20 x21
    have ht7 : Within 0x281003f7af860d4627801fff02001f0304000d40003e s t7 := by
      refine Within2.of h8 ?_
      refine Within2.ite ?_ ?_
      · refine Within2.app admitFirst_within rfl ?_
        exact Within.refl
      · split
        · rename_i x22 x23 h24
          refine Within2.app admitNext_within rfl ?_
          exact Within.refl
        · rename_i x25 h26
          refine Within2.mk ?_
          exact Within.refl
    refine Within.app notNow_within rfl ?_
    refine Within.trans ?_ (hv2 _)
    exact ht7
  · rename_i x27
    have ht7 : Within 0x281003f7af860d4627801fff02001f0304000d40003e s t7 := by
      refine Within2.of h8 ?_
      refine Within2.ite ?_ ?_
      · refine Within2.app admitFirst_within rfl ?_
        exact Within.refl
      · split
        · rename_i x28 x29 h30
          refine Within2.app admitNext_within rfl ?_
          exact Within.refl
        · rename_i x31 h32
          refine Within2.mk ?_
          exact Within.refl
    refine Within.app takePacket_within rfl ?_
    refine Within.app keepOperand_within rfl ?_
    refine Within.trans ?_ (hv2 _)
    exact ht7
  · rename_i x33 x34
    have ht7 : Within 0x281003f7af860d4627801fff02001f0304000d40003e s t7 := by
      refine Within2.of h8 ?_
      refine Within2.ite ?_ ?_
      · refine Within2.app admitFirst_within rfl ?_
        exact Within.refl
      · split
        · rename_i x35 x36 h37
          refine Within2.app admitNext_within rfl ?_
          exact Within.refl
        · rename_i x38 h39
          refine Within2.mk ?_
          exact Within.refl
    refine Within.app takePacket_within rfl ?_
    refine Within.trans ?_ (hv2 _)
    exact ht7

theorem drainHold_within {k a1 a2 a3} : Within 0x281003f7af860d4627801fff02001f0304000d40003e a3 (drainHold k a1 a2 a3) := by
  induction a1 generalizing k a2 a3
  · rw [drainHold]
    exact Within.refl
  · rename_i x1 ih
    rw [drainHold]
    split
    · rename_i x2 h3
      refine Within.app gapWatch_within rfl ?_
      exact Within.refl
    · rename_i x4 x5 h6
      refine Within.app ih rfl ?_
      refine Within.asOf ?_ ?_
      · intro t7
        refine Within.app deliverHeld_within rfl ?_
        exact Within.refl
      · exact Within.refl

theorem holdRetry_within {k s} : Within 0x281003f7af860d4627801fff02001f0304000d40003e s (holdRetry k s) := by
  unfold holdRetry
  refine Within.ite ?_ ?_
  · exact Within.refl
  · refine Within.app settleCells_within rfl ?_
    refine Within.app drainHold_within rfl ?_
    exact Within.refl

theorem arriveData_within {p tagOk pid s} : Within 0x281003f7af860d4627801fff02001f0304000d40003e s (arriveData p tagOk pid s) := by
  unfold arriveData
  extract_lets v1 v2 v3
  have hv2 : Within 0x281003f7af860d4627801fff02001f0304000d40003e s v2 := by
    unfold v2
    refine Within.app updPeer_within rfl ?_
    exact Within.refl
  clear_value v2
  split
  · rename_i x4 h5
    refine Within.app sendResync_within rfl ?_
    exact Within.refl
  · rename_i x6 x7 x8 h9
    refine Within.ite ?_ ?_
    · refine Within.app sendResync_within rfl ?_
      exact Within.refl
    · extract_lets v10 v11 v12 v13
      have hv12 : Within 0x281003f7af860d4627801fff02001f0304000d40003e s v12 := by
        unfold v12
        refine Within.ite ?_ ?_
        · refine Within.app useKey_within rfl ?_
          exact hv2
        · exact hv2
      clear_value v12
      refine Within.ite ?_ ?_
      · refine Within.app State.count_within rfl ?_
        exact hv2
      · refine Within.ite ?_ ?_
        · refine Within.app sendControl_within rfl ?_
          exact hv2
        · refine Within.ite ?_ ?_
          · refine Within.app State.count_within rfl ?_
            exact hv12
          · refine Within.ite ?_ ?_
            · refine Within.app sendAck_within rfl ?_
              refine Within.app State.count_within rfl ?_
              exact hv12
            · refine Within.ite ?_ ?_
              · refine Within.app sendNotNow_within rfl ?_
                exact hv12
              · refine Within.ite ?_ ?_
                · refine Within.app sendNotNow_within rfl ?_
                  exact hv12
                · refine Within.app drainHold_within rfl ?_
                  refine Within.app updRecv_within rfl ?_
                  exact hv12

theorem startFetch_within {q s} : Within 0x400000000000000000000000000 s (startFetch q s) := by
  unfold startFetch
  refine Within.ite ?_ ?_
  · refine Within.app updQueue_within rfl ?_
    exact Within.refl
  · exact Within.refl

theorem touch_within {qs s} : Within 0x80400000000000000000000000000 s (touch qs s) := by
  unfold touch
  refine Within.foldl ?_ ?_
  · intro t1 x2
    refine Within.app updQueue_within rfl ?_
    exact Within.refl
  · refine Within.upd (e := s) ?_ rfl rfl rfl rfl rfl rfl rfl rfl
    exact Within.refl

theorem park_within {p tagOk vc needs peer s} : Within 0x10000000c00100000000000000000000006 s (park p tagOk vc needs peer s) := by
  unfold park
  extract_lets v1 v2 v3 v4 v5
  have hv4 : Within 0x10000000c00100000000000000000000006 s v4 := by
    unfold v4
    refine Within.upd (e := s) ?_ rfl rfl rfl rfl rfl rfl rfl rfl
    exact Within.refl
  clear_value v4
  have hv5 : Within 0x10000000c00100000000000000000000006 s v5 := by
    unfold v5
    refine Within.foldl ?_ ?_
    · intro t6 x7
      refine Within.app startFetch_within rfl ?_
      exact Within.refl
    · exact hv4
  clear_value v5
  refine Within.ite ?_ ?_
  · refine Within.ite ?_ ?_
    · refine Within.app State.count_within rfl ?_
      exact Within.refl
    · refine Within.app sendNotNow_within rfl ?_
      exact Within.refl
  · refine Within.app State.count_within rfl ?_
    refine Within.elim ?_ ?_
    · exact hv5
    · intro x8
      refine Within.app startPeerFetch_within rfl ?_
      exact hv5

theorem takePassing_within {p s} : Within 0x80000000000000000000000000000000000000000 s (takePassing p s) := by
  unfold takePassing
  split
  · rename_i x1 h2
    exact Within.refl
  · rename_i x3 x4 h5
    refine Within.updFab ?_ rfl
    exact Within.refl

theorem takeHanded_within {p s} : Within2 0x40000000000000000000000000000000000000000 s (takeHanded p s) := by
  unfold takeHanded
  split
  · rename_i x1 h2
    refine Within2.mk ?_
    exact Within.refl
  · rename_i x3 x4 h5
    refine Within2.mk ?_
    refine Within.updFab ?_ rfl
    exact Within.refl

theorem dataPacket_within {p tagOk vc s} : Within 0x281403f7af860d4e2f801fff02001f0304000d40003e s (dataPacket p tagOk vc s) := by
  unfold dataPacket
  extract_lets v1
  split
  rename_i x2 x3 t4 h5
  have ht4 : Within 0x281403f7af860d4e2f801fff02001f0304000d40003e s t4 := by
    refine Within2.of h5 ?_
    refine Within2.app takeHanded_within rfl ?_
    exact Within.refl
  extract_lets v6 v7 v8
  refine Within.app settleCells_within rfl ?_
  refine Within.ite ?_ ?_
  · refine Within.app park_within rfl ?_
    exact ht4
  · refine Within.app arriveData_within rfl ?_
    refine Within.app touch_within rfl ?_
    exact ht4

theorem congestion_within {k ce s} : Within 0x10000000000000000000000000000000000 s (congestion k ce s) := by
  unfold congestion
  refine Within.ite ?_ ?_
  · exact Within.refl
  · extract_lets v1 v2
    refine Within.app updPeer_within rfl ?_
    exact Within.refl

theorem ackProgress_within {k head fence s} : Within 0x2000000607060d4227801fff02001f0200000000000e s (ackProgress k head fence s) := by
  unfold ackProgress
  split
  · rename_i x1 h2
    exact Within.refl
  · rename_i x3 x4 h5
    extract_lets v6 v7 v8 v9
    have hv8 : Within 0x2000000607060d4227801fff02001f0200000000000e s v8 := by
      unfold v8
      refine Within.app updSend_within rfl ?_
      exact Within.refl
    clear_value v8
    have hv9 : Within 0x2000000607060d4227801fff02001f0200000000000e s v9 := by
      unfold v9
      refine Within.foldl ?_ ?_
      · intro t10 x11
        extract_lets v12 v13
        have hv12 : Within 0x2000000607060d4227801fff02001f0200000000000e t10 v12 := by
          unfold v12
          split
          · rename_i x14 x15 h16
            refine Within.ite ?_ ?_
            · refine Within.app updJob_within rfl ?_
              exact Within.refl
            · exact Within.refl
          · rename_i x17 ih
            exact Within.refl
        clear_value v12
        split
        · rename_i x18 x19 h20
          refine Within.ite ?_ ?_
          · refine Within.upd (e := v12) ?_ rfl rfl rfl rfl rfl rfl rfl rfl
            exact hv12
          · exact hv12
        · rename_i x21 x22 h23
          refine Within.app leaveAcked_within rfl ?_
          exact hv12
        · rename_i x24 ih ih
          exact hv12
      · exact hv8
    clear_value v9
    refine Within.ite ?_ ?_
    · exact Within.refl
    · refine Within.app pumpAll_within rfl ?_
      refine Within.app completeAcked_within rfl ?_
      exact hv9

theorem incAbandon_within {p s} : Within 0x281002a7ab060d4227801fff02001f0304000d40000e s (incAbandon p s) := by
  unfold incAbandon
  extract_lets v1
  split
  · rename_i x2 h3
    exact Within.refl
  · rename_i x4 x5 h6
    split
    · rename_i x7 h8
      exact Within.refl
    · rename_i x9 x10 h11
      refine Within.ite ?_ ?_
      · refine Within.app abandon_within rfl ?_
        exact Within.refl
      · exact Within.refl

theorem withSendHalf_within {m p f s} (hm : sub 0x281002a7ab060d4227801fff02001f0304000d40000e m = true) (hf : ∀ x0 x1 t2, Within m t2 (f x0 x1 t2)) :
    Within m s (withSendHalf p f s) := by
  unfold withSendHalf
  refine Within.ite ?_ ?_
  · refine Within.app incAbandon_within (sub_trans rfl hm) ?_
    exact Within.refl
  · refine Within.elim ?_ ?_
    · exact Within.refl
    · intro x1
      refine Within.trans ?_ (hf _ _ _)
      exact Within.refl

theorem controlPacket_within {m f p s} (hm : sub 0x10000000c00100000000000000000000006 m = true) (hf : ∀ x0 t1, Within m t1 (f x0 t1)) :
    Within m s (controlPacket f p s) := by
  unfold controlPacket
  extract_lets v1
  refine Within.ite ?_ ?_
  · refine Within.app park_within (sub_trans rfl hm) ?_
    exact Within.refl
  · refine Within.trans ?_ (hf _ _)
    refine Within.ite ?_ ?_
    · refine Within.app usePeer_within (sub_trans rfl hm) ?_
      exact Within.refl
    · exact Within.refl

theorem onAck_within {p s} : Within 0x281002a7af060d4227801fff02001f0304000d40000e s (onAck p s) := by
  unfold onAck
  refine Within.trans ?_ (withSendHalf_within rfl ?_)
  · exact Within.refl
  · intro x1 x2 t3
    refine Within.app ackProgress_within rfl ?_
    refine Within.app congestion_within rfl ?_
    exact Within.refl

theorem onNack_within {p s} : Within 0x281002a7af060d4227801fff02001f0304000d40000e s (onNack p s) := by
  unfold onNack
  refine Within.trans ?_ (withSendHalf_within rfl ?_)
  · exact Within.refl
  · intro x1 x2 t3
    extract_lets v4
    have hv4 : Within 0x281002a7af060d4227801fff02001f0304000d40000e t3 v4 := by
      unfold v4
      refine Within.app ackProgress_within rfl ?_
      refine Within.app congestion_within rfl ?_
      exact Within.refl
    clear_value v4
    split
    · rename_i x5 h6
      exact hv4
    · rename_i x7 x8 h9
      refine Within.app resendAll_within rfl ?_
      exact hv4

theorem onNotNow_within {p s} : Within 0x281002a7ab060d4227801fff02001f0304000d40000e s (onNotNow p s) := by
  unfold onNotNow
  refine Within.trans ?_ (withSendHalf_within rfl ?_)
  · exact Within.refl
  · intro x1 x2 t3
    extract_lets v4 v5 v6
    have hv4 : Within 0x281002a7ab060d4227801fff02001f0304000d40000e t3 v4 := by
      unfold v4
      refine Within.app State.count_within rfl ?_
      exact Within.refl
    clear_value v4
    split
    · rename_i x7 h8
      exact hv4
    · rename_i x9 x10 h11
      extract_lets v12 v13 v14
      refine Within.ite ?_ ?_
      · refine Within.app abandon_within rfl ?_
        exact hv4
      · refine Within.app updSend_within rfl ?_
        exact hv4

theorem onRefuse_within {p s} : Within 0x281002a7ab060d4227801fff02001f0304000d40000e s (onRefuse p s) := by
  unfold onRefuse
  refine Within.trans ?_ (withSendHalf_within rfl ?_)
  · exact Within.refl
  · intro x1 x2 t3
    refine Within.ite ?_ ?_
    · refine Within.app refused_within rfl ?_
      exact Within.refl
    · exact Within.refl

theorem onResync_within {p s} : Within 0x281002a7ab060d4227801fff02001f0304000d40000e s (onResync p s) := by
  unfold onResync
  refine Within.trans ?_ (withSendHalf_within rfl ?_)
  · exact Within.refl
  · intro x1 x2 t3
    refine Within.ite ?_ ?_
    · refine Within.app abandon_within rfl ?_
      exact Within.refl
    · exact Within.refl

theorem dropOpen_within {k status s} : Within 0x2000000021860d4227801fff02001f02000000000006 s (dropOpen k status s) := by
  unfold dropOpen
  extract_lets v1 v2 v3 v4 v5 v6 v7 v8 v9
  have hv4 : Within 0x2000000021860d4227801fff02001f02000000000006 s v4 := by
    unfold v4
    refine Within.upd (e := s) ?_ rfl rfl rfl rfl rfl rfl rfl rfl
    exact Within.refl
  clear_value v4
  have hv7 : Within 0x2000000021860d4227801fff02001f02000000000006 s v7 := by
    unfold v7
    refine Within.upd (e := v4) ?_ rfl rfl rfl rfl rfl rfl rfl rfl
    exact hv4
  clear_value v7
  have hv8 : Within 0x2000000021860d4227801fff02001f02000000000006 s v8 := by
    unfold v8
    refine Within.foldl ?_ ?_
    · intro t10 x11
      refine Within.elim ?_ ?_
      · exact Within.refl
      · intro x12
        refine Within.app endJob_within rfl ?_
        exact Within.refl
    · exact hv7
  clear_value v8
  have hv9 : Within 0x2000000021860d4227801fff02001f02000000000006 s v9 := by
    unfold v9
    refine Within.foldl ?_ ?_
    · intro t13 x14
      refine Within.app ctxDrained_within rfl ?_
      exact Within.refl
    · exact hv8
  clear_value v9
  refine Within.foldl ?_ ?_
  · intro t15 x16
    refine Within.ite ?_ ?_
    · refine Within.app immFail_within rfl ?_
      exact Within.refl
    · refine Within.elim ?_ ?_
      · exact Within.refl
      · intro x17
        refine Within.app endJob_within rfl ?_
        exact Within.refl
  · exact hv9

theorem openPeer_within {p x s} : Within 0x281002a7ab860d4227801fff02001f0304000d40000e s (openPeer p x s) := by
  unfold openPeer
  extract_lets v1 v2 v3 v4 v5 v6 v7 v8
  have hv5 : Within 0x281002a7ab860d4227801fff02001f0304000d40000e s v5 := by
    unfold v5
    refine Within.app updPeer_within rfl ?_
    exact Within.refl
  clear_value v5
  have hv6 : Within 0x281002a7ab860d4227801fff02001f0304000d40000e s v6 := by
    unfold v6
    refine Within.ite ?_ ?_
    · exact hv5
    · refine Within.ite ?_ ?_
      · refine Within.app abandon_within rfl ?_
        exact hv5
      · refine Within.app tellRestart_within rfl ?_
        exact hv5
  clear_value v6
  have hv7 : Within 0x281002a7ab860d4227801fff02001f0304000d40000e s v7 := by
    unfold v7
    refine Within.app dropOpen_within rfl ?_
    exact hv6
  clear_value v7
  have hv8 : Within 0x281002a7ab860d4227801fff02001f0304000d40000e s v8 := by
    unfold v8
    refine Within.ite ?_ ?_
    · refine Within.app updPeer_within rfl ?_
      exact hv7
    · exact hv6
  clear_value v8
  refine Within.app sendControl_within rfl ?_
  exact hv8

theorem closeDone_within {p s} : Within 0x10000000000000000000000000000000000 s (closeDone p s) := by
  unfold closeDone
  extract_lets v1 v2
  refine Within.ite ?_ ?_
  · refine Within.upd (e := s) ?_ rfl rfl rfl rfl rfl rfl rfl rfl
    exact Within.refl
  · exact Within.refl

theorem onOpenReq_within {s p} : Within 0x281002a7bb860d4227801fff02001f0304000d40000e s (onOpenReq s p) := by
  unfold onOpenReq
  extract_lets v1 v2
  have hv2 : Within 0x281002a7bb860d4227801fff02001f0304000d40000e s v2 := by
    unfold v2
    refine Within.app closeDone_within rfl ?_
    exact Within.refl
  clear_value v2
  split
  · rename_i x3 x4 h5
    refine Within.app openPeer_within rfl ?_
    exact hv2
  · rename_i x6 h7
    split
    · rename_i x8 t9 h10
      have ht9 : Within 0x281002a7bb860d4227801fff02001f0304000d40000e s t9 := by
        refine Within2.of h10 ?_
        refine Within2.app peerReady_within rfl ?_
        exact hv2
      refine Within.elim ?_ ?_
      · exact ht9
      · intro x11
        refine Within.app openPeer_within rfl ?_
        exact ht9
    · rename_i x12 t13 h14
      have ht13 : Within 0x281002a7bb860d4227801fff02001f0304000d40000e s t13 := by
        refine Within2.of h14 ?_
        refine Within2.app peerReady_within rfl ?_
        exact hv2
      refine Within.ite ?_ ?_
      · refine Within.upd (e := t13) ?_ rfl rfl rfl rfl rfl rfl rfl rfl
        exact ht13
      · refine Within.app sendControl_within rfl ?_
        exact ht13

theorem opensGo_within {s} : Within 0x281002a7bb860d4227801fff02001f0304000d40000e s (opensGo s) := by
  unfold opensGo
  refine Within.foldl ?_ ?_
  · intro t1 x2
    refine Within.app onOpenReq_within rfl ?_
    exact Within.refl
  · refine Within.upd (e := s) ?_ rfl rfl rfl rfl rfl rfl rfl rfl
    exact Within.refl

theorem onOpenAck_within {p s} : Within 0x281002a38b060d4227801fff02001f0304000d40000e s (onOpenAck p s) := by
  unfold onOpenAck
  extract_lets v1 v2 v3 v4 v5
  have hv2 : Within 0x281002a38b060d4227801fff02001f0304000d40000e s v2 := by
    unfold v2
    refine Within.ite ?_ ?_
    · refine Within.app holdersRestarted_within rfl ?_
      exact Within.refl
    · exact Within.refl
  clear_value v2
  have hv3 : Within 0x281002a38b060d4227801fff02001f0304000d40000e s v3 := by
    unfold v3
    refine Within.ite ?_ ?_
    · refine Within.app chorusHalfLost_within rfl ?_
      refine Within.app abandonReport_within rfl ?_
      refine Within.app captureTrn_within rfl ?_
      exact hv2
    · exact hv2
  clear_value v3
  have hv4 : Within 0x281002a38b060d4227801fff02001f0304000d40000e s v4 := by
    unfold v4
    refine Within.app updPeer_within rfl ?_
    exact hv3
  clear_value v4
  have hv5 : Within 0x281002a38b060d4227801fff02001f0304000d40000e s v5 := by
    unfold v5
    refine Within.app updSend_within rfl ?_
    exact hv4
  clear_value v5
  split
  · rename_i x6 h7
    exact Within.refl
  · rename_i x8 x9 h10
    refine Within.ite ?_ ?_
    · exact Within.refl
    · refine Within.app pumpAll_within rfl ?_
      exact hv5

theorem onOpenNak_within {p s} : Within 0x281002a7ab060d4227801fff02001f0304000d40000e s (onOpenNak p s) := by
  unfold onOpenNak
  refine Within.trans ?_ (withSendHalf_within rfl ?_)
  · exact Within.refl
  · intro x1 x2 t3
    refine Within.ite ?_ ?_
    · exact Within.refl
    · extract_lets v4
      refine Within.app updSend_within rfl ?_
      exact Within.refl

theorem freePeer_within {k s} : Within 0x281003e7bb860d4227801fff02001f0304000d40003e s (freePeer k s) := by
  unfold freePeer
  refine Within.app opensGo_within rfl ?_
  refine Within.app peerWake_within rfl ?_
  refine Within.upd (e := s) ?_ rfl rfl rfl rfl rfl rfl rfl rfl
  exact Within.refl

theorem onCloseReq_within {p s} : Within 0x281003e7bb860d4227801fff02001f0304000d40003e s (onCloseReq p s) := by
  unfold onCloseReq
  extract_lets v1 v2 v3
  have hv2 : Within 0x281003e7bb860d4227801fff02001f0304000d40003e s v2 := by
    unfold v2
    refine Within.ite ?_ ?_
    · refine Within.app incAbandon_within rfl ?_
      exact Within.refl
    · exact Within.refl
  clear_value v2
  refine Within.ite ?_ ?_
  · refine Within.app freePeer_within rfl ?_
    refine Within.app sendControl_within rfl ?_
    exact hv2
  · refine Within.app sendControl_within rfl ?_
    exact hv2

theorem onCloseAck_within {p s} : Within 0x281003e7bb860d4227801fff02001f0304000d40003e s (onCloseAck p s) := by
  unfold onCloseAck
  extract_lets v1
  refine Within.ite ?_ ?_
  · refine Within.app incAbandon_within rfl ?_
    exact Within.refl
  · refine Within.ite ?_ ?_
    · refine Within.app freePeer_within rfl ?_
      exact Within.refl
    · exact Within.refl

theorem closeFailed_within {k s} : Within 0x281003e7bb860d4227801fff02001f0304000d40003e s (closeFailed k s) := by
  unfold closeFailed
  refine Within.ite ?_ ?_
  · refine Within.app opensGo_within rfl ?_
    refine Within.app peerWake_within rfl ?_
    refine Within.app updPeer_within rfl ?_
    exact Within.refl
  · exact Within.refl

theorem onCloseNak_within {p s} : Within 0x281003e7bb860d4227801fff02001f0304000d40003e s (onCloseNak p s) := by
  unfold onCloseNak
  extract_lets v1
  refine Within.ite ?_ ?_
  · refine Within.app closeFailed_within rfl ?_
    refine Within.app incAbandon_within rfl ?_
    exact Within.refl
  · refine Within.ite ?_ ?_
    · refine Within.app closeFailed_within rfl ?_
      exact Within.refl
    · exact Within.refl

theorem fetchMiss_within {qid took s} : Within 0x400000000000000000000000000 s (fetchMiss qid took s) := by
  unfold fetchMiss
  refine Within.app updFetch_within rfl ?_
  exact Within.refl

theorem fetchSkip_within {qid s} : Within 0x400000000000000000000000000 s (fetchSkip qid s) := by
  unfold fetchSkip
  refine Within.ite ?_ ?_
  · refine Within.app fetchMiss_within rfl ?_
    exact Within.refl
  · refine Within.app updFetch_within rfl ?_
    exact Within.refl

theorem ringFault_within {q pos s} : Within 0x60d400780100002001f02000000000006 s (ringFault q pos s) := by
  unfold ringFault
  extract_lets v1
  have hv1 : Within 0x60d400780100002001f02000000000006 s v1 := by
    unfold v1
    refine Within.app updFetch_within rfl ?_
    exact Within.refl
  clear_value v1
  refine Within.app endpointEvent_within rfl ?_
  exact hv1

theorem fetchGo_within {qid a1 a2} : Within 0x60d400780100002001f02000000000006 a2 (fetchGo qid a1 a2) := by
  induction a1 generalizing qid a2
  · rw [fetchGo]
    exact Within.refl
  · rename_i x1 ih
    rw [fetchGo]
    split
    · rename_i x2 h3
      exact Within.refl
    · rename_i x4 x5 h6
      extract_lets v7 v8 v9 v10 v11 v12 v13 v14 v15
      refine Within.ite ?_ ?_
      · exact Within.refl
      · refine Within.ite ?_ ?_
        · refine Within.ite ?_ ?_
          · refine Within.app updFetch_within rfl ?_
            exact Within.refl
          · exact Within.refl
        · split
          · rename_i x16 x17 x18 t19 h20
            have ht19 : Within 0x60d400780100002001f02000000000006 a2 t19 := by
              refine Within2.of h20 ?_
              refine Within2.app translate_within rfl ?_
              exact Within.refl
            extract_lets v21
            refine Within.ite ?_ ?_
            · refine Within.ite ?_ ?_
              · refine Within.app updFetch_within rfl ?_
                exact ht19
              · exact ht19
            · split
              rename_i x22 x23 t24 h25
              have ht24 : Within 0x60d400780100002001f02000000000006 a2 t24 := by
                refine Within2.of h25 ?_
                refine Within2.app hostGates_within rfl ?_
                exact ht19
              refine Within.ite ?_ ?_
              · extract_lets v26
                have hv26 : Within 0x60d400780100002001f02000000000006 a2 v26 := by
                  unfold v26
                  refine Within.app updFetch_within rfl ?_
                  exact ht24
                clear_value v26
                refine Within.app ih rfl ?_
                refine Within.app issueReq_within rfl ?_
                exact hv26
              · refine Within.ite ?_ ?_
                · refine Within.app fetchSkip_within rfl ?_
                  exact ht24
                · refine Within.app ringFault_within rfl ?_
                  refine Within.app captureRefused_within rfl ?_
                  exact ht24
          · rename_i x27 t28 h29
            have ht28 : Within 0x60d400780100002001f02000000000006 a2 t28 := by
              refine Within2.of h29 ?_
              refine Within2.app translate_within rfl ?_
              exact Within.refl
            exact ht28
          · rename_i x30 x31 t32 ih ih h33
            have ht32 : Within 0x60d400780100002001f02000000000006 a2 t32 := by
              refine Within2.of h33 ?_
              refine Within2.app translate_within rfl ?_
              exact Within.refl
            refine Within.ite ?_ ?_
            · refine Within.app fetchSkip_within rfl ?_
              exact ht32
            · refine Within.app ringFault_within rfl ?_
              exact ht32

theorem startRun_within {qid s} : Within 0x60d400780100002001f02000000000006 s (startRun qid s) := by
  unfold startRun
  split
  · rename_i x1 h2
    exact Within.refl
  · rename_i x3 x4 h5
    refine Within.ite ?_ ?_
    · refine Within.app fetchGo_within rfl ?_
      refine Within.app updFetch_within rfl ?_
      exact Within.refl
    · refine Within.ite ?_ ?_
      · refine Within.app fetchGo_within rfl ?_
        exact Within.refl
      · exact Within.refl

theorem fetchTake_within {qid a1 a2} : Within 0x281002a28b060d4227801fff02001f0304000d40000e a2 (fetchTake qid a1 a2) := by
  induction a1 generalizing qid a2
  · rw [fetchTake]
    exact Within.refl
  · rename_i x1 ih
    rw [fetchTake]
    split
    · rename_i x2 h3
      exact Within.refl
    · rename_i x4 x5 h6
      split
      · rename_i x7 h8
        exact Within.refl
      · rename_i x9 x10 x11 h12
        split
        · rename_i x13 h14
          exact Within.refl
        · rename_i x15 x16 h17
          extract_lets v18 v19 v20 v21 v22
          have hv21 : Within 0x281002a28b060d4227801fff02001f0304000d40000e a2 v21 := by
            unfold v21
            refine Within.app updFetch_within rfl ?_
            exact Within.refl
          clear_value v21
          have hv22 : Within 0x281002a28b060d4227801fff02001f0304000d40000e a2 v22 := by
            unfold v22
            refine Within.app updFetch_within rfl ?_
            exact hv21
          clear_value v22
          refine Within.ite ?_ ?_
          · refine Within.app ih rfl ?_
            refine Within.app fetchGo_within rfl ?_
            exact hv22
          · refine Within.ite ?_ ?_
            · refine Within.app headSettle_within rfl ?_
              refine Within.app updFetch_within rfl ?_
              exact hv21
            · refine Within.app fetchMiss_within rfl ?_
              exact hv21

theorem fetchWork_within {qid s} : Within 0x400000000000000000000000000 s (fetchWork qid s) := by
  unfold fetchWork
  refine Within.ite ?_ ?_
  · refine Within.app startFetch_within rfl ?_
    exact Within.refl
  · exact Within.refl

theorem ringData_within {qid id res s} : Within 0x281002a28b060d4227801fff02001f0304000d40000e s (ringData qid id res s) := by
  unfold ringData
  refine Within.ite ?_ ?_
  · refine Within.app fetchGo_within rfl ?_
    refine Within.app updFetch_within rfl ?_
    exact Within.refl
  · refine Within.app fetchWork_within rfl ?_
    refine Within.app fetchTake_within rfl ?_
    refine Within.app updFetch_within rfl ?_
    exact Within.refl

theorem controlKind_within {ptype a1 a2} : Within 0x281003e7bf860d4227801fff02001f0304000d40003e a2 (controlKind ptype a1 a2) := by
  unfold controlKind
  split
  · rename_i h1
    refine Within.app onAck_within rfl ?_
    exact Within.refl
  · rename_i h2
    split
    · rename_i h3
      refine Within.app onNack_within rfl ?_
      exact Within.refl
    · rename_i h4
      split
      · rename_i h5
        refine Within.app onNotNow_within rfl ?_
        exact Within.refl
      · rename_i h6
        split
        · rename_i h7
          refine Within.app onRefuse_within rfl ?_
          exact Within.refl
        · rename_i h8
          split
          · rename_i h9
            refine Within.app onResync_within rfl ?_
            exact Within.refl
          · rename_i h10
            split
            · rename_i h11
              refine Within.app onOpenReq_within rfl ?_
              exact Within.refl
            · rename_i h12
              split
              · rename_i h13
                refine Within.app onOpenAck_within rfl ?_
                exact Within.refl
              · rename_i h14
                split
                · rename_i h15
                  refine Within.app onOpenNak_within rfl ?_
                  exact Within.refl
                · rename_i h16
                  split
                  · rename_i h17
                    refine Within.app onCloseReq_within rfl ?_
                    exact Within.refl
                  · rename_i h18
                    split
                    · rename_i h19
                      refine Within.app onCloseAck_within rfl ?_
                      exact Within.refl
                    · rename_i h20
                      split
                      · rename_i h21
                        refine Within.app onCloseNak_within rfl ?_
                        exact Within.refl
                      · rename_i h22
                        exact Within.refl

theorem pondTry_within {s x} : Within 0x281003f7bf860d4e2f801fff02001f0304000d40003e s (pondTry s x) := by
  unfold pondTry
  extract_lets v1 v2 v3 v4 v5 v6 v7 v8
  have hv7 : Within 0x281003f7bf860d4e2f801fff02001f0304000d40003e s v7 := by
    unfold v7
    refine Within.upd (e := s) ?_ rfl rfl rfl rfl rfl rfl rfl rfl
    exact Within.refl
  clear_value v7
  have hv8 : Within 0x281003f7bf860d4e2f801fff02001f0304000d40003e s v8 := by
    unfold v8
    refine Within.foldl ?_ ?_
    · intro t9 x10
      refine Within.app startFetch_within rfl ?_
      exact Within.refl
    · exact hv7
  clear_value v8
  refine Within.ite ?_ ?_
  · refine Within.ite ?_ ?_
    · refine Within.app startPeerFetch_within rfl ?_
      exact hv8
    · exact hv8
  · refine Within.asOf ?_ ?_
    · intro t11
      refine Within.ite ?_ ?_
      · refine Within.app controlKind_within rfl ?_
        exact Within.refl
      · refine Within.app arriveData_within rfl ?_
        refine Within.app touch_within rfl ?_
        exact Within.refl
    · exact Within.refl

theorem pondRelease_within {s} : Within 0x281003f7bf860d4e2f801fff02001f0304000d40003e s (pondRelease s) := by
  unfold pondRelease
  extract_lets v1 v2
  refine Within.foldl ?_ ?_
  · intro t3 x4
    refine Within.app pondTry_within rfl ?_
    exact Within.refl
  · refine Within.upd (e := s) ?_ rfl rfl rfl rfl rfl rfl rfl rfl
    exact Within.refl

end Sys2Proof.Machine
end

