-- ==== Sys2Proof/Laws/WithinResume.lean ====
section
/-! SUPPORT. What each operation of Machine/Resume.lean, Machine/SwitchCmd.lean, Machine/Acquire.lean, Machine/Link.lean can do, as one lemma
of the form of Laws/Within.lean. The numeral is the set of parts it may change. -/

namespace Sys2Proof.Machine

theorem dropReq_within {r s} : Within 0x100000000000000000000000006 s (dropReq r s) := by
  unfold dropReq
  refine Within.app issueNext_within rfl ?_
  refine Within.upd (e := s) ?_ rfl rfl rfl rfl rfl rfl rfl rfl
  exact Within.refl

theorem hifErr_within {port cause fn addr s} : Within 0x2000000000000 s (hifErr port cause fn addr s) := by
  unfold hifErr
  refine Within.app State.capture_within rfl ?_
  exact Within.refl

theorem failedAccess_within {port mid addr res s} : Within 0x100000000002000000000000 s (failedAccess port mid addr res s) := by
  unfold failedAccess
  split
  · rename_i x1
    refine Within.app hifErr_within rfl ?_
    refine Within.app State.count_within rfl ?_
    exact Within.refl
  · rename_i x2 x3
    refine Within.app hifErr_within rfl ?_
    refine Within.app State.count_within rfl ?_
    exact Within.refl
  · rename_i x4
    refine Within.app hifErr_within rfl ?_
    refine Within.app State.count_within rfl ?_
    exact Within.refl
  · rename_i x5 x6
    refine Within.app hifErr_within rfl ?_
    refine Within.app State.count_within rfl ?_
    exact Within.refl
  · rename_i x7 ih ih ih ih
    exact Within.refl

theorem countFailure_within {r miss res s} : Within 0x100000000002000000000000 s (countFailure r miss res s) := by
  unfold countFailure
  refine Within.ite ?_ ?_
  · exact Within.refl
  · refine Within.ite ?_ ?_
    · refine Within.app State.count_within rfl ?_
      exact Within.refl
    · refine Within.app failedAccess_within rfl ?_
      exact Within.refl

theorem reportPoisoned_within {port addr s} : Within 0x810028000060d400780100002001f0304000d400006 s (reportPoisoned port addr s) := by
  unfold reportPoisoned
  refine Within.app report_within rfl ?_
  exact Within.refl

theorem freeRegion_within {i s} : Within 0x50000000001fff02001f02000000000006 s (freeRegion i s) := by
  unfold freeRegion
  extract_lets v1 v2
  have hv1 : Within 0x50000000001fff02001f02000000000006 s v1 := by
    unfold v1
    refine Within.app updRegion_within rfl ?_
    exact Within.refl
  clear_value v1
  refine Within.app completeWhere_within rfl ?_
  refine Within.upd (e := v1) ?_ rfl rfl rfl rfl rfl rfl rfl rfl
  exact hv1

theorem regionsSettle_within {s} : Within 0x50000000001fff02001f02000000000006 s (regionsSettle s) := by
  unfold regionsSettle
  refine Within.foldl ?_ ?_
  · intro t1 x2
    refine Within.app freeRegion_within rfl ?_
    exact Within.refl
  · exact Within.refl

theorem takeIndex_within {i r s} : Within2 0x7000000000000000000000000000000000 s (takeIndex i r s) := by
  unfold takeIndex
  extract_lets v1 v2 v3 v4 v5
  refine Within2.mk ?_
  refine Within.upd (e := s) ?_ rfl rfl rfl rfl rfl rfl rfl rfl
  exact Within.refl

theorem pinWalk_within {r tok a2 a3 a4} : Within3 0x60d000300100002001f02000000000006 a4 (pinWalk r tok a2 a3 a4) := by
  induction a2 generalizing r tok a3 a4
  · rw [pinWalk]
    refine Within3.mk ?_
    exact Within.refl
  · rename_i x1 ih
    rw [pinWalk]
    refine Within3.ite ?_ ?_
    · refine Within3.mk ?_
      exact Within.refl
    · split
      · rename_i x2 h3
        refine Within3.mk ?_
        exact Within.refl
      · rename_i x4 x5 h6
        refine Within3.ite ?_ ?_
        · refine Within3.mk ?_
          refine Within.app clearFaulted_within rfl ?_
          exact Within.refl
        · split
          · rename_i x7 x8 t9 h10
            have ht9 : Within 0x60d000300100002001f02000000000006 a4 t9 := by
              refine Within2.of h10 ?_
              refine Within2.app translate1_within rfl ?_
              exact Within.refl
            refine Within3.app ih rfl ?_
            exact ht9
          · rename_i x11 t12 h13
            have ht12 : Within 0x60d000300100002001f02000000000006 a4 t12 := by
              refine Within2.of h13 ?_
              refine Within2.app translate1_within rfl ?_
              exact Within.refl
            refine Within3.mk ?_
            exact ht12
          · rename_i x14 x15 t16 ih ih h17
            have ht16 : Within 0x60d000300100002001f02000000000006 a4 t16 := by
              refine Within2.of h17 ?_
              refine Within2.app translate1_within rfl ?_
              exact Within.refl
            refine Within3.mk ?_
            exact ht16

theorem pinGo_within {tok s} : Within 0x768d0003001fff02001f02000000000006 s (pinGo tok s) := by
  unfold pinGo
  split
  · rename_i x1 h2
    exact Within.refl
  · rename_i x3 x4 x5 x6 x7 h8
    split
    rename_i x9 x10 x11 t12 h13
    have ht12 : Within 0x768d0003001fff02001f02000000000006 s t12 := by
      refine Within3.of h13 ?_
      refine Within3.app pinWalk_within rfl ?_
      exact Within.refl
    extract_lets v14 v15 v16 v17 v18
    have hv14 : ∀ t19, Within 0x768d0003001fff02001f02000000000006 t19 (v14 t19) := by
      intro t19
      unfold v14
      refine Within.upd (e := t19) ?_ rfl rfl rfl rfl rfl rfl rfl rfl
      exact Within.refl
    clear_value v14
    have hv17 : Within 0x768d0003001fff02001f02000000000006 s v17 := by
      unfold v17
      refine Within.trans ?_ (hv14 _)
      exact ht12
    clear_value v17
    split
    · rename_i x20
      have ht12 : Within 0x768d0003001fff02001f02000000000006 s t12 := by
        refine Within3.of h13 ?_
        refine Within3.app pinWalk_within rfl ?_
        exact Within.refl
      refine Within.upd (e := t12) ?_ rfl rfl rfl rfl rfl rfl rfl rfl
      exact ht12
    · rename_i x21
      have ht12 : Within 0x768d0003001fff02001f02000000000006 s t12 := by
        refine Within3.of h13 ?_
        refine Within3.app pinWalk_within rfl ?_
        exact Within.refl
      refine Within.app completeWhere_within rfl ?_
      refine Within.trans ?_ (hv14 _)
      exact ht12
    · rename_i x22
      generalize v18 = w23
      split
      · rename_i x24
        refine Within.app completeWhere_within rfl ?_
        exact hv17
      · rename_i x25 x26
        refine Within.ite ?_ ?_
        · refine Within.app completeWhere_within rfl ?_
          exact hv17
        · split
          rename_i x27 x28 t29 h30
          have ht29 : Within 0x768d0003001fff02001f02000000000006 s t29 := by
            refine Within2.of h30 ?_
            refine Within2.app takeIndex_within rfl ?_
            exact hv17
          refine Within.app completeWhere_within rfl ?_
          exact ht29

theorem recvWake_within {jid s} : Within 0x281003f7af860d4627801fff02001f0304000d40003e s (recvWake jid s) := by
  unfold recvWake
  refine Within.foldl ?_ ?_
  · intro t1 x2
    refine Within.app holdRetry_within rfl ?_
    exact Within.refl
  · exact Within.refl

theorem wake_within {w s} : Within 0x281003f7aff68d4627801fff02001f0304000d40003e s (wake w s) := by
  unfold wake
  split
  · rename_i x1 x2 x3
    refine Within.app fetchGo_within rfl ?_
    exact Within.refl
  · rename_i x4 x5
    refine Within.app recvWake_within rfl ?_
    refine Within.app jobResume_within rfl ?_
    exact Within.refl
  · rename_i x6 x7
    refine Within.app cqDrain_within rfl ?_
    exact Within.refl
  · rename_i x8 x9
    refine Within.app eqRetry_within rfl ?_
    exact Within.refl
  · rename_i x10 x11 x12
    refine Within.app holdRetry_within rfl ?_
    refine Within.trans ?_ (onTarget_within rfl ?_)
    · exact Within.refl
    · intro t13
      refine Within.app targetAgain_within rfl ?_
      exact Within.refl
  · rename_i x14 x15 x16
    refine Within.app rereadGo_within rfl ?_
    exact Within.refl
  · rename_i x17 x18
    refine Within.app pinGo_within rfl ?_
    exact Within.refl

theorem wakeAll_within {l s} : Within 0x281003f7aff68d4627801fff02001f0304000d40003e s (wakeAll l s) := by
  unfold wakeAll
  refine Within.foldl ?_ ?_
  · intro t1 x2
    refine Within.app wake_within rfl ?_
    exact Within.refl
  · exact Within.refl

theorem ringFaulted_within {qid pos s} : Within 0x60d400780100002001f02000000000006 s (ringFaulted qid pos s) := by
  unfold ringFaulted
  split
  · rename_i x1 h2
    exact Within.refl
  · rename_i x3 x4 h5
    refine Within.ite ?_ ?_
    · exact Within.refl
    · refine Within.ite ?_ ?_
      · refine Within.app ringFault_within rfl ?_
        exact Within.refl
      · refine Within.app fetchSkip_within rfl ?_
        exact Within.refl

theorem takeFault_within {w s} : Within 0x281003f7aff68d4627801fff02001f0304000d40003e s (takeFault w s) := by
  unfold takeFault
  split
  · rename_i x1 x2 x3
    refine Within.app ringFaulted_within rfl ?_
    exact Within.refl
  · rename_i x4 x5
    refine Within.elim ?_ ?_
    · exact Within.refl
    · intro x6
      refine Within.ite ?_ ?_
      · exact Within.refl
      · refine Within.app recordFault_within rfl ?_
        exact Within.refl
  · rename_i x7 x8
    refine Within.elim ?_ ?_
    · exact Within.refl
    · intro x9
      refine Within.foldl ?_ ?_
      · intro t10 x11
        refine Within.app eqLose_within rfl ?_
        exact Within.refl
      · refine Within.app updSink_within rfl ?_
        exact Within.refl
  · rename_i x12 ih ih ih
    refine Within.app wake_within rfl ?_
    refine Within.upd (e := s) ?_ rfl rfl rfl rfl rfl rfl rfl rfl
    exact Within.refl

theorem faultAll_within {l s} : Within 0x281003f7aff68d4627801fff02001f0304000d40003e s (faultAll l s) := by
  unfold faultAll
  refine Within.foldl ?_ ?_
  · intro t1 x2
    refine Within.app takeFault_within rfl ?_
    exact Within.refl
  · exact Within.refl

theorem walkNext_within {host a1 a2} : Within 0x281003f7aff68d4627801fff02001f0304000d40003e a2 (walkNext host a1 a2) := by
  induction a1 generalizing host a2
  · rw [walkNext]
    exact Within.refl
  · rename_i x1 ih
    rw [walkNext]
    refine Within.ite ?_ ?_
    · exact Within.refl
    · split
      · rename_i x2 h3
        exact Within.refl
      · rename_i x4 x5 h6
        split
        · rename_i x7 t8 h9
          have ht8 : Within 0x281003f7aff68d4627801fff02001f0304000d40003e a2 t8 := by
            refine Within2.of h9 ?_
            refine Within2.app walkGo_within rfl ?_
            exact Within.refl
          refine Within.app ih rfl ?_
          exact ht8
        · rename_i x10 t11 h12
          have ht11 : Within 0x281003f7aff68d4627801fff02001f0304000d40003e a2 t11 := by
            refine Within2.of h12 ?_
            refine Within2.app walkGo_within rfl ?_
            exact Within.refl
          refine Within.app ih rfl ?_
          refine Within.app faultAll_within rfl ?_
          exact ht11

theorem walkFailed_within {w s} : Within 0x281003f7aff68d4627801fff02001f0304000d40003e s (walkFailed w s) := by
  unfold walkFailed
  refine Within.app walkNext_within rfl ?_
  refine Within.app faultAll_within rfl ?_
  exact Within.refl

theorem walkFault_within {c lvl addr w s} : Within 0x281003f7aff68d4627801fff02001f0304000d40003e s (walkFault c lvl addr w s) := by
  unfold walkFault
  refine Within.app walkFailed_within rfl ?_
  refine Within.app reportWalkFault_within rfl ?_
  refine Within.app dropWalk_within rfl ?_
  exact Within.refl

theorem walkFaultWrite_within {c lvl addr readOk w s} :
    Within 0x281003f7aff68d4627801fff02001f0304000d40003e s (walkFaultWrite c lvl addr readOk w s) := by
  unfold walkFaultWrite
  refine Within.ite ?_ ?_
  · refine Within.app wakeAll_within rfl ?_
    refine Within.app walkFault_within rfl ?_
    exact Within.refl
  · refine Within.app walkFault_within rfl ?_
    exact Within.refl

theorem walkMap_within {e lvl ea w s} : Within 0x281003f7aff68f4627801fff02001f0304000d40003e s (walkMap e lvl ea w s) := by
  unfold walkMap
  extract_lets v1 v2 v3 v4 v5 v6 v7
  have hv4 : Within 0x281003f7aff68f4627801fff02001f0304000d40003e s v4 := by
    unfold v4
    refine Within.upd (e := s) ?_ rfl rfl rfl rfl rfl rfl rfl rfl
    exact Within.refl
  clear_value v4
  have hv5 : Within 0x281003f7aff68f4627801fff02001f0304000d40003e s v5 := by
    unfold v5
    refine Within.app wakeAll_within rfl ?_
    refine Within.app dropWalk_within rfl ?_
    exact hv4
  clear_value v5
  have hv7 : Within 0x281003f7aff68f4627801fff02001f0304000d40003e s v7 := by
    unfold v7
    refine Within.ite ?_ ?_
    · refine Within.upd (e := v5) ?_ rfl rfl rfl rfl rfl rfl rfl rfl
      exact hv5
    · exact hv5
  clear_value v7
  refine Within.app walkNext_within rfl ?_
  exact hv7

theorem walkRestart_within {w s} : Within 0x281003f7aff68d4627801fff02001f0304000d40003e s (walkRestart w s) := by
  unfold walkRestart
  split
  · rename_i x1 h2
    refine Within.app walkFault_within rfl ?_
    exact Within.refl
  · rename_i x3 x4 h5
    extract_lets v6
    split
    · rename_i x7 t8 h9
      have ht8 : Within 0x281003f7aff68d4627801fff02001f0304000d40003e s t8 := by
        refine Within2.of h9 ?_
        refine Within2.app walkGo_within rfl ?_
        exact Within.refl
      exact ht8
    · rename_i x10 t11 h12
      have ht11 : Within 0x281003f7aff68d4627801fff02001f0304000d40003e s t11 := by
        refine Within2.of h12 ?_
        refine Within2.app walkGo_within rfl ?_
        exact Within.refl
      refine Within.app walkFailed_within rfl ?_
      exact ht11

theorem walkLeaf_within {e lvl ea tries w s} : Within 0x281003f7aff68f4627801fff02001f0304000d40003e s (walkLeaf e lvl ea tries w s) := by
  unfold walkLeaf
  split
  · rename_i x1 h2
    refine Within.app walkFault_within rfl ?_
    exact Within.refl
  · rename_i x3 x4 h5
    extract_lets v6
    refine Within.ite ?_ ?_
    · refine Within.app walkFaultWrite_within rfl ?_
      exact Within.refl
    · refine Within.ite ?_ ?_
      · refine Within.app walkMap_within rfl ?_
        exact Within.refl
      · refine Within.ite ?_ ?_
        · refine Within.app walkFaultWrite_within rfl ?_
          exact Within.refl
        · refine Within.ite ?_ ?_
          · refine Within.app walkFaultWrite_within rfl ?_
            exact Within.refl
          · split
            · rename_i x7 t8 h9
              have ht8 : Within 0x281003f7aff68f4627801fff02001f0304000d40003e s t8 := by
                refine Within2.of h9 ?_
                refine Within2.app issueCas_within rfl ?_
                exact Within.refl
              exact ht8
            · rename_i x10 t11 h12
              have ht11 : Within 0x281003f7aff68f4627801fff02001f0304000d40003e s t11 := by
                refine Within2.of h12 ?_
                refine Within2.app issueCas_within rfl ?_
                exact Within.refl
              refine Within.ite ?_ ?_
              · refine Within.app wakeAll_within rfl ?_
                refine Within.app walkFailed_within rfl ?_
                refine Within.app dropWalk_within rfl ?_
                exact ht11
              · refine Within.app walkFailed_within rfl ?_
                refine Within.app dropWalk_within rfl ?_
                exact ht11

theorem walkEntry_within {w res s} : Within 0x281003f7aff68f4627801fff02001f0304000d40003e s (walkEntry w res s) := by
  unfold walkEntry
  extract_lets v1
  split
  · rename_i x2 x3
    extract_lets v4 v5 v6
    refine Within.ite ?_ ?_
    · refine Within.app walkRestart_within rfl ?_
      exact Within.refl
    · refine Within.ite ?_ ?_
      · refine Within.app walkFault_within rfl ?_
        exact Within.refl
      · refine Within.ite ?_ ?_
        · refine Within.app walkFault_within rfl ?_
          exact Within.refl
        · refine Within.ite ?_ ?_
          · refine Within.app walkLeaf_within rfl ?_
            exact Within.refl
          · split
            · rename_i x7 t8 h9
              have ht8 : Within 0x281003f7aff68f4627801fff02001f0304000d40003e s t8 := by
                refine Within2.of h9 ?_
                refine Within2.app walkGo_within rfl ?_
                exact Within.refl
              exact ht8
            · rename_i x10 t11 h12
              have ht11 : Within 0x281003f7aff68f4627801fff02001f0304000d40003e s t11 := by
                refine Within2.of h12 ?_
                refine Within2.app walkGo_within rfl ?_
                exact Within.refl
              refine Within.app walkFailed_within rfl ?_
              exact ht11
  · rename_i x13 ih
    refine Within.app walkFault_within rfl ?_
    exact Within.refl

theorem walkCas_within {w res s} : Within 0x281003f7aff68f4627801fff02001f0304000d40003e s (walkCas w res s) := by
  unfold walkCas
  refine Within.ite ?_ ?_
  · refine Within.app walkRestart_within rfl ?_
    exact Within.refl
  · split
    · rename_i x1 x2 x3 x4 x5 h6
      extract_lets v7 v8
      refine Within.ite ?_ ?_
      · refine Within.app walkMap_within rfl ?_
        exact Within.refl
      · refine Within.ite ?_ ?_
        · refine Within.app walkFault_within rfl ?_
          exact Within.refl
        · refine Within.ite ?_ ?_
          · refine Within.app walkFault_within rfl ?_
            exact Within.refl
          · refine Within.app walkLeaf_within rfl ?_
            exact Within.refl
    · rename_i x9 x10 x11 ih
      refine Within.app walkFaultWrite_within rfl ?_
      exact Within.refl

theorem targetReadFailed_within {t s} : Within 0x200000028f860d4227801fff02001f0200000000000e s (targetReadFailed t s) := by
  unfold targetReadFailed
  extract_lets v1
  have hv1 : Within 0x200000028f860d4227801fff02001f0200000000000e s v1 := by
    unfold v1
    refine Within.app captureRma_within rfl ?_
    refine Within.app targetFault_within rfl ?_
    exact Within.refl
  clear_value v1
  refine Within.ite ?_ ?_
  · refine Within.app atomicEnd_within rfl ?_
    exact hv1
  · refine Within.app sendStatus_within rfl ?_
    refine Within.app dropTarget_within rfl ?_
    exact hv1

theorem atomicValue_within {t tries v s} : Within 0x200000028f860d4227801fff02001f0200000000000e s (atomicValue t tries v s) := by
  unfold atomicValue
  extract_lets v1 v2
  refine Within.ite ?_ ?_
  · refine Within.app atomicEnd_within rfl ?_
    exact Within.refl
  · refine Within.ite ?_ ?_
    · refine Within.app atomicEnd_within rfl ?_
      exact Within.refl
    · refine Within.app atomicTry_within rfl ?_
      exact Within.refl

theorem reqDone_within {r res s} : Within 0x281003f7aff68f4627801fff02001f0304000d40003e s (reqDone r res s) := by
  unfold reqDone
  extract_lets v1 v2 v3 v4 v5
  have hv2 : Within 0x281003f7aff68f4627801fff02001f0304000d40003e s v2 := by
    unfold v2
    refine Within.app countFailure_within rfl ?_
    refine Within.app dropReq_within rfl ?_
    exact Within.refl
  clear_value v2
  have hv3 : ∀ t6, Within 0x281003f7aff68f4627801fff02001f0304000d40003e t6 (v3 t6) := by
    intro t6
    unfold v3
    refine Within.app reportPoisoned_within rfl ?_
    exact Within.refl
  clear_value v3
  have hv4 : Within 0x281003f7aff68f4627801fff02001f0304000d40003e s v4 := by
    unfold v4
    split
    · rename_i x7 x8
      exact hv2
    · rename_i x9 ih
      refine Within.ite ?_ ?_
      · exact hv2
      · refine Within.trans ?_ (hv3 _)
        exact hv2
  clear_value v4
  have hv5 : Within 0x281003f7aff68f4627801fff02001f0304000d40003e s v5 := by
    unfold v5
    refine Within.trans ?_ (hv3 _)
    exact hv2
  clear_value v5
  split
  · rename_i x10 x11 x12 x13 h14
    refine Within.app ringData_within rfl ?_
    exact hv4
  · rename_i x15 x16 h17
    split
    · rename_i x18 x19
      refine Within.app recvWake_within rfl ?_
      refine Within.asOf ?_ ?_
      · intro t20
        refine Within.app ftabData_within rfl ?_
        exact Within.refl
      · exact hv2
    · rename_i x21 ih
      refine Within.app recvWake_within rfl ?_
      split
      · rename_i x22 h23
        refine Within.trans ?_ (hv3 _)
        exact hv2
      · rename_i x24 x25 h26
        split
        · rename_i x27 h28
          refine Within.app endJob_within rfl ?_
          exact hv5
        · rename_i x29 x30 h31
          refine Within.ite ?_ ?_
          · refine Within.app endJob_within rfl ?_
            exact hv5
          · refine Within.app endJobAfter_within rfl ?_
            refine Within.app moveToError_within rfl ?_
            exact hv5
  · rename_i x32 x33 h34
    split
    · rename_i x35 x36
      refine Within.asOf ?_ ?_
      · intro t37
        refine Within.app jobRead_within rfl ?_
        refine Within.app updJob_within rfl ?_
        exact Within.refl
      · exact hv2
    · rename_i x38 ih
      refine Within.app jobFailed_within rfl ?_
      refine Within.trans ?_ (hv3 _)
      exact hv2
  · rename_i x39 x40 h41
    split
    · rename_i x42 x43
      refine Within.asOf ?_ ?_
      · intro t44
        refine Within.app jobRead_within rfl ?_
        refine Within.app updJob_within rfl ?_
        exact Within.refl
      · exact hv2
    · rename_i x45 ih
      refine Within.app jobFailed_within rfl ?_
      refine Within.trans ?_ (hv3 _)
      exact hv2
  · rename_i x46 x47 x48 h49
    split
    · rename_i x50 x51 x52 h53
      exact hv2
    · rename_i x54 x55 x56 x57 h58
      refine Within.trans ?_ (onTarget_within rfl ?_)
      · exact hv2
      · intro t59
        refine Within.app getGo_within rfl ?_
        refine Within.app updTarget_within rfl ?_
        exact Within.refl
    · rename_i x60 x61 x62 x63 h64 ih
      refine Within.app targetReadFailed_within rfl ?_
      refine Within.trans ?_ (hv3 _)
      exact hv2
  · rename_i x65 x66 x67 h68
    refine Within.app targetsGo_within rfl ?_
    split
    · rename_i x69 x70 x71 h72
      exact hv2
    · rename_i x73 x74 x75 x76 h77
      refine Within.trans ?_ (onTarget_within rfl ?_)
      · exact hv2
      · intro t78
        refine Within.app atomicTry_within rfl ?_
        exact Within.refl
    · rename_i x79 x80 x81 x82 h83 ih
      refine Within.app targetReadFailed_within rfl ?_
      refine Within.trans ?_ (hv3 _)
      exact hv2
  · rename_i x84 x85 x86 x87 x88 h89
    refine Within.app targetsGo_within rfl ?_
    split
    · rename_i x90 x91 x92 h93
      exact hv2
    · rename_i x94 x95 x96 x97 h98
      refine Within.trans ?_ (onTarget_within rfl ?_)
      · exact hv2
      · intro t99
        refine Within.app atomicValue_within rfl ?_
        exact Within.refl
    · rename_i x100 x101 x102 h103
      refine Within.app atomicEnd_within rfl ?_
      exact hv2
    · rename_i x104 x105 x106 x107 h108 ih ih
      refine Within.app atomicEnd_within rfl ?_
      refine Within.trans ?_ (hv3 _)
      exact hv2
  · rename_i x109 x110 h111
    split
    · rename_i x112 x113 h114
      refine Within.app walkEntry_within rfl ?_
      exact hv2
    · rename_i x115 h116
      exact hv2
  · rename_i x117 x118 h119
    split
    · rename_i x120 x121 h122
      refine Within.app walkCas_within rfl ?_
      exact hv2
    · rename_i x123 h124
      exact hv2
  · rename_i x125 x126 x127 h128
    split
    · rename_i x129 x130
      refine Within.app rereadData_within rfl ?_
      exact hv2
    · rename_i x131 ih
      refine Within.app rereadLost_within rfl ?_
      refine Within.trans ?_ (hv3 _)
      exact hv2
  · rename_i x132 x133 h134
    exact hv2
  · rename_i x135 x136 h137
    exact hv2

theorem gatesSettle_within {s} : Within 0x1fff02001f02000000000006 s (gatesSettle s) := by
  unfold gatesSettle
  refine Within.foldl ?_ ?_
  · intro t1 x2
    refine Within.app completeWhere_within rfl ?_
    refine Within.app audit_within rfl ?_
    refine Within.upd (e := t1) ?_ rfl rfl rfl rfl rfl rfl rfl rfl
    exact Within.refl
  · exact Within.refl

theorem behindGo_within {s} : Within 0x281003f7af860d4627801fff02001f0304000d40003e s (behindGo s) := by
  unfold behindGo
  refine Within.foldl ?_ ?_
  · intro t1 x2
    refine Within.app holdRetry_within rfl ?_
    refine Within.app updRecv_within rfl ?_
    exact Within.refl
  · exact Within.refl

theorem recvsGo_within {s} : Within 0x281003f7af860d4627801fff02001f0304000d40003e s (recvsGo s) := by
  unfold recvsGo
  refine Within.foldl ?_ ?_
  · intro t1 x2
    extract_lets v3
    have hv3 : Within 0x281003f7af860d4627801fff02001f0304000d40003e t1 v3 := by
      unfold v3
      refine Within.app recvStart_within rfl ?_
      exact Within.refl
    clear_value v3
    refine Within.ite ?_ ?_
    · exact hv3
    · refine Within.app recvWake_within rfl ?_
      exact hv3
  · exact Within.refl

theorem haltPond_within {s} : Within 0x281003f7bf860d4e2f801fff02001f0304000d40003e s (haltPond s) := by
  unfold haltPond
  refine Within.ite ?_ ?_
  · refine Within.app pondRelease_within rfl ?_
    exact Within.refl
  · exact Within.refl

theorem settle_within {s} : Within 0x281003f7bfd60d4e2f801fff02001f0304000d40003e s (settle s) := by
  unfold settle
  refine Within.app gatesSettle_within rfl ?_
  refine Within.app drainsSettle_within rfl ?_
  refine Within.app regionsSettle_within rfl ?_
  refine Within.app behindGo_within rfl ?_
  refine Within.app recvsGo_within rfl ?_
  refine Within.app targetsGo_within rfl ?_
  refine Within.app haltPond_within rfl ?_
  refine Within.app peerWake_within rfl ?_
  exact Within.refl

theorem epStep_within {m f s} (hm : sub 0x281003f7bfd60d4e2f801fff02001f0304000d40003e m = true) (hf : ∀ t0, Within m t0 (f t0)) :
    Within m s (epStep f s) := by
  unfold epStep
  refine Within.trans ?_ (whenEp_within (sub_trans rfl hm) ?_)
  · exact Within.refl
  · intro t1
    refine Within.app settle_within (sub_trans rfl hm) ?_
    refine Within.trans ?_ (hf _)
    exact Within.refl

theorem trnStep_within {m f s} (hm : sub 0x281003f7bfd60d4e2f801fff02001f0304000d40003e m = true) (hf : ∀ t0, Within m t0 (f t0)) :
    Within m s (trnStep f s) := by
  unfold trnStep
  refine Within.trans ?_ (whenRunning_within (sub_trans rfl hm) ?_)
  · exact Within.refl
  · intro t1
    refine Within.app settle_within (sub_trans rfl hm) ?_
    refine Within.trans ?_ (hf _)
    exact Within.refl

theorem atomicsCheck_within {s} : Within 0x281003f7aff68d4627801fff02001f0304000d40003e s (atomicsCheck s) := by
  unfold atomicsCheck
  refine Within.foldl ?_ ?_
  · intro t1 x2
    extract_lets v3 v4
    have hv4 : Within 0x281003f7aff68d4627801fff02001f0304000d40003e t1 v4 := by
      unfold v4
      refine Within.app dropHeldReq_within rfl ?_
      refine Within.upd (e := t1) ?_ rfl rfl rfl rfl rfl rfl rfl rfl
      exact Within.refl
    clear_value v4
    split
    · rename_i x5 x6 x7 x8 x9 h10
      refine Within.app targetsGo_within rfl ?_
      refine Within.app atomicEnd_within rfl ?_
      exact hv4
    · rename_i x11 x12 h13
      refine Within.elim ?_ ?_
      · exact hv4
      · intro x14
        refine Within.app walkFaultWrite_within rfl ?_
        exact hv4
    · rename_i x15 ih ih
      exact hv4
  · exact Within.refl

theorem complete_within {kind id res s} : Within 0x281003f7aff68f4627801fff02001f0304000d40003e s (complete kind id res s) := by
  unfold complete
  split
  · rename_i x1 h2
    exact Within.refl
  · rename_i x3 x4 h5
    refine Within.ite ?_ ?_
    · refine Within.app reqDone_within rfl ?_
      exact Within.refl
    · exact Within.refl

theorem headArrives_within {n seq p s} : Within 0x892038001060d400780100002001f0304000d40000e s (headArrives n seq p s) := by
  unfold headArrives
  extract_lets v1
  refine Within.ite ?_ ?_
  · exact Within.refl
  · split
    · rename_i x2 x3 h4
      exact Within.refl
    · rename_i x5 ih
      refine Within.app switchTake_within rfl ?_
      exact Within.refl

theorem whenForwarding_within {m slice f s} (hm : sub 0x0 m = true) (hf : ∀ t0, Within m t0 (f t0)) :
    Within m s (whenForwarding slice f s) := by
  unfold whenForwarding
  refine Within.ite ?_ ?_
  · exact Within.refl
  · refine Within.trans ?_ (whenFab_within (sub_trans rfl hm) ?_)
    · exact Within.refl
    · intro t1
      refine Within.trans ?_ (hf _)
      exact Within.refl

theorem whenSource_within {m slice f s} (hm : sub 0x0 m = true) (hf : ∀ t0, Within m t0 (f t0)) : Within m s (whenSource slice f s) := by
  unfold whenSource
  refine Within.ite ?_ ?_
  · exact Within.refl
  · refine Within.trans ?_ (whenForwarding_within (sub_trans rfl hm) ?_)
    · exact Within.refl
    · intro t1
      refine Within.trans ?_ (hf _)
      exact Within.refl

theorem execSwitchPacketArrival_within {src seq p mcast s} :
    WithinX 0x893838001060d400780100002001f0304000d40000e s (execSwitchPacketArrival src seq p mcast s) := by
  unfold execSwitchPacketArrival
  split
  · rename_i x1 x2
    refine WithinX.app (onInstance_within rfl ?_) (sub_self _) ?_
    · intro x3 t4
      refine Within.trans ?_ (whenSource_within rfl ?_)
      · exact Within.refl
      · intro t5
        refine Within.app headArrives_within rfl ?_
        exact Within.refl
    · exact Within.refl
  · rename_i x6 x7
    refine WithinX.app (onInstance_within rfl ?_) (sub_self _) ?_
    · intro x8 t9
      refine Within.trans ?_ (whenSource_within rfl ?_)
      · exact Within.refl
      · intro t10
        split
        · rename_i x11 x12 h13
          refine Within.app injectEp_within rfl ?_
          exact Within.refl
        · rename_i x14 ih
          exact Within.refl
    · exact Within.refl
  · rename_i x15 x16
    refine WithinX.app (onInstance_within rfl ?_) (sub_self _) ?_
    · intro x17 t18
      refine Within.trans ?_ (whenSource_within rfl ?_)
      · exact Within.refl
      · intro t19
        split
        · rename_i x20 x21 x22 x23 h24
          refine Within.app inject_within rfl ?_
          exact Within.refl
        · rename_i x25 x26 x27 ih
          exact Within.refl
    · exact Within.refl
  · rename_i x28
    refine WithinX.next ?_
    refine Within.trans ?_ (whenSource_within rfl ?_)
    · exact Within.refl
    · intro t29
      split
      · rename_i x30 x31 h32
        refine Within.app inject_within rfl ?_
        exact Within.refl
      · rename_i x33 ih
        exact Within.refl

theorem grantSlice_within {slice s} : Within 0x8000000000000000000000000000000000000000000 s (grantSlice slice s) := by
  unfold grantSlice
  refine Within.foldl ?_ ?_
  · intro t1 x2
    refine Within.foldl ?_ ?_
    · intro t3 x4
      refine Within.app grantCells_within rfl ?_
      exact Within.refl
    · exact Within.refl
  · exact Within.refl

theorem execSharedPoolTransfer_within {slice s} :
    WithinX 0x892038001060d400780100002001f0304000d40000e s (execSharedPoolTransfer slice s) := by
  unfold execSharedPoolTransfer
  refine WithinX.app (onInstance_within rfl ?_) (sub_self _) ?_
  · intro x1 t2
    refine Within.trans ?_ (whenFab_within rfl ?_)
    · exact Within.refl
    · intro t3
      refine Within.app fabSettle_within rfl ?_
      refine Within.app grantSlice_within rfl ?_
      refine Within.foldl ?_ ?_
      · intro t4 x5
        refine Within.app shareOne_within rfl ?_
        exact Within.refl
      · exact Within.refl
  · exact Within.refl

theorem deferGo_within {ep tc a2 a3} : Within 0x893838001060d400780100002001f0304000d40000e a3 (deferGo ep tc a2 a3) := by
  induction a2 generalizing ep tc a3
  · rw [deferGo]
    exact Within.refl
  · rename_i x1 ih
    rw [deferGo]
    split
    · rename_i x2 h3
      exact Within.refl
    · rename_i x4 x5 h6
      extract_lets v7 v8
      split
      · rename_i x9 h10
        refine Within.updFab ?_ rfl
        exact Within.refl
      · rename_i x11 x12 x13 h14
        refine Within.ite ?_ ?_
        · exact Within.refl
        · split
          · rename_i x15 x16 x17 t18 h19
            have ht18 : Within 0x893838001060d400780100002001f0304000d40000e a3 t18 := by
              refine Within2.of h19 ?_
              refine Within2.elim ?_ ?_
              · refine Within2.app police_within rfl ?_
                exact Within.refl
              · intro x20
                refine Within2.app chainOn_within rfl ?_
                exact Within.refl
            refine Within.updFab ?_ rfl
            exact ht18
          · rename_i x21 x22 t23 h24
            have ht23 : Within 0x893838001060d400780100002001f0304000d40000e a3 t23 := by
              refine Within2.of h24 ?_
              refine Within2.elim ?_ ?_
              · refine Within2.app police_within rfl ?_
                exact Within.refl
              · intro x25
                refine Within2.app chainOn_within rfl ?_
                exact Within.refl
            extract_lets v26
            refine Within.app ih rfl ?_
            refine Within.app injectStored_within rfl ?_
            refine Within.updFab ?_ rfl
            exact ht23

theorem execPolicerDeferRelease_within {ep tc s} :
    WithinX 0x893838001060d400780100002001f0304000d40000e s (execPolicerDeferRelease ep tc s) := by
  unfold execPolicerDeferRelease
  refine WithinX.app (onInstance_within rfl ?_) (sub_self _) ?_
  · intro x1 t2
    refine Within.trans ?_ (whenSource_within rfl ?_)
    · exact Within.refl
    · intro t3
      refine Within.app deferGo_within rfl ?_
      exact Within.refl
  · exact Within.refl

theorem escapeNow_within {port e s} : Within 0x890028001060d400780100002001f0304000d40000e s (escapeNow port e s) := by
  unfold escapeNow
  extract_lets v1 v2 v3
  have hv2 : ∀ t4, Within 0x890028001060d400780100002001f0304000d40000e t4 (v2 t4) := by
    intro t4
    unfold v2
    refine Within.app updEgress_within rfl ?_
    exact Within.refl
  clear_value v2
  refine Within.ite ?_ ?_
  · exact Within.refl
  · refine Within.ite ?_ ?_
    · refine Within.app noRoute_within rfl ?_
      refine Within.trans ?_ (hv2 _)
      exact Within.refl
    · refine Within.ite ?_ ?_
      · refine Within.app queueAt_within rfl ?_
        refine Within.trans ?_ (hv2 _)
        exact Within.refl
      · split
        rename_i x5 x6 t7 h8
        extract_lets v9
        have hv9 : Within 0x890028001060d400780100002001f0304000d40000e s v9 := by
          unfold v9
          refine Within.drawn (t := s) (u := t7) ?_ rfl ?_
          · exact Within.refl
          · exact Nat.le_trans (Nat.le_of_eq State.view_freeCtr.symm) (Within2.of h8 escapeHop_within).free
        clear_value v9
        split
        · rename_i x10 x11 x12 x13 x14
          refine Within.app queueAt_within rfl ?_
          refine Within.trans ?_ (hv2 _)
          exact hv9
        · rename_i x15 ih
          exact hv9

theorem escapeDue_within {port e since s} : Within 0x890028001060d400780100002001f0304000d40000e s (escapeDue port e since s) := by
  unfold escapeDue
  extract_lets v1
  have hv1 : Within 0x890028001060d400780100002001f0304000d40000e s v1 := by
    unfold v1
    refine Within.app rewait_within rfl ?_
    exact Within.refl
  clear_value v1
  split
  · rename_i x2 x3 x4 h5
    refine Within.app escapeNow_within rfl ?_
    exact hv1
  · rename_i x6 h7
    exact hv1

theorem execEscapeWaitExpiry_within {port pid s} :
    WithinX 0x892038001060d400780100002001f0304000d40003e s (execEscapeWaitExpiry port pid s) := by
  unfold execEscapeWaitExpiry
  refine WithinX.app (onInstance_within rfl ?_) (sub_self _) ?_
  · intro x1 t2
    refine Within.trans ?_ (whenFab_within rfl ?_)
    · exact Within.refl
    · intro t3
      split
      · rename_i x4 h5
        exact Within.refl
      · rename_i x6 x7 h8
        split
        · rename_i x9 h10
          exact Within.refl
        · rename_i x11 x12 h13
          extract_lets v14
          refine Within.app fabSettle_within rfl ?_
          refine Within.app escapeDue_within rfl ?_
          refine Within.app State.advanceTo_within rfl ?_
          exact Within.refl
  · exact Within.refl

theorem dropEntry_within {o e s} : Within 0x200000000000000000000000000000000000000 s (dropEntry o e s) := by
  unfold dropEntry
  refine Within.app updEgress_within rfl ?_
  exact Within.refl

theorem noteHop_within {port p s} : Within 0x400000000000000000000000000000000000000000 s (noteHop port p s) := by
  unfold noteHop
  split
  · rename_i x1 x2 x3 x4 h5 h6
    extract_lets v7 v8
    refine Within.updFab ?_ rfl
    exact Within.refl
  · rename_i x9 x10 ih
    exact Within.refl

theorem spillFor_within {port cells s} : Within 0x8000000000000000000000000000000000000000000 s (spillFor port cells s) := by
  unfold spillFor
  extract_lets v1
  refine Within.app updFport_within rfl ?_
  exact Within.refl

theorem timeStamp_within {p s} : Within2 0x20000 s (timeStamp p s) := by
  unfold timeStamp
  split
  · rename_i x1 x2 x3 x4 x5 x6 h7
    extract_lets v8 v9
    refine Within2.ite ?_ ?_
    · refine Within2.mk ?_
      exact Within.refl
    · refine Within2.ite ?_ ?_
      · refine Within2.mk ?_
        refine Within.upd (e := s) ?_ rfl rfl rfl rfl rfl rfl rfl rfl
        exact Within.refl
      · refine Within2.mk ?_
        exact Within.refl
  · rename_i x10 ih
    refine Within2.mk ?_
    exact Within.refl

theorem transmit_within {port e s} : Within 0x840020001000000000010000000000000000002000e s (transmit port e s) := by
  unfold transmit
  extract_lets v1 v2 v3 v4 v5
  have hv2 : Within 0x840020001000000000010000000000000000002000e s v2 := by
    unfold v2
    refine Within.app spillFor_within rfl ?_
    exact Within.refl
  clear_value v2
  split
  rename_i x6 x7 t8 h9
  have ht8 : Within 0x840020001000000000010000000000000000002000e s t8 := by
    refine Within2.of h9 ?_
    refine Within2.app timeStamp_within rfl ?_
    exact hv2
  extract_lets v10 v11 v12 v13 v14 v15 v16
  have hv12 : Within 0x840020001000000000010000000000000000002000e s v12 := by
    unfold v12
    refine Within.app updFport_within rfl ?_
    exact ht8
  clear_value v12
  have hv13 : Within 0x840020001000000000010000000000000000002000e s v13 := by
    unfold v13
    refine Within.app spillFor_within rfl ?_
    exact hv12
  clear_value v13
  have hv14 : Within 0x840020001000000000010000000000000000002000e s v14 := by
    unfold v14
    refine Within.app State.count_within rfl ?_
    refine Within.app sendFrame_within rfl ?_
    exact hv13
  clear_value v14
  have hv15 : Within 0x840020001000000000010000000000000000002000e s v15 := by
    unfold v15
    refine Within.app State.count_within rfl ?_
    exact hv14
  clear_value v15
  have hv16 : Within 0x840020001000000000010000000000000000002000e s v16 := by
    unfold v16
    generalize v10 = w17
    split
    · rename_i x18 x19
      refine Within.app noteRoute_within rfl ?_
      refine Within.app noteHop_within rfl ?_
      exact hv15
    · rename_i x20 x21
      refine Within.app noteRoute_within rfl ?_
      refine Within.app noteHop_within rfl ?_
      exact hv15
    · rename_i x22 ih ih
      exact hv15
  clear_value v16
  refine Within.app mirrorCopies_within rfl ?_
  refine Within.app dropEntry_within rfl ?_
  exact hv16

theorem bufferCorrected_within {n s} : Within 0x2001f02000000000008 s (bufferCorrected n s) := by
  unfold bufferCorrected
  split
  rename_i x1 x2 t3 h4
  have ht3 : Within 0x2001f02000000000008 s t3 := by
    refine Within2.of h4 ?_
    refine Within2.app State.drawNat_within rfl ?_
    exact Within.refl
  refine Within.app hubTake_within rfl ?_
  exact ht3

theorem cellEcc_within {o e cell s} : Within 0x8000200000000000000100000000002000000000006 s (cellEcc o e cell s) := by
  unfold cellEcc
  extract_lets v1
  split
  · rename_i x2 x3
    extract_lets v4
    have hv4 : Within 0x8000200000000000000100000000002000000000006 s v4 := by
      unfold v4
      refine Within.app State.count_within rfl ?_
      refine Within.app sendFrame_within rfl ?_
      exact Within.refl
    clear_value v4
    refine Within.app dropEntry_within rfl ?_
    refine Within.app State.capture_within rfl ?_
    exact hv4
  · rename_i x5 ih
    refine Within.app dropEntry_within rfl ?_
    refine Within.app State.capture_within rfl ?_
    exact Within.refl

theorem slicePortDown_within {n s} : Within 0x810028000060d400780100002001f02000000000006 s (slicePortDown n s) := by
  unfold slicePortDown
  extract_lets v1
  have hv1 : Within 0x810028000060d400780100002001f02000000000006 s v1 := by
    unfold v1
    refine Within.ite ?_ ?_
    · refine Within.app allEndpoints_within rfl ?_
      refine Within.app State.count_within rfl ?_
      exact Within.refl
    · exact Within.refl
  clear_value v1
  refine Within.app updFport_within rfl ?_
  refine Within.app flushPort_within rfl ?_
  exact hv1

theorem sliceStop_within {n s} : Within 0xa14028001060d400780100002001f02000000000006 s (sliceStop n s) := by
  unfold sliceStop
  extract_lets v1 v2 v3 v4 v5
  have hv1 : Within 0xa14028001060d400780100002001f02000000000006 s v1 := by
    unfold v1
    refine Within.foldl ?_ ?_
    · intro t6 x7
      refine Within.app slicePortDown_within rfl ?_
      exact Within.refl
    · refine Within.updFab ?_ rfl
      exact Within.refl
  clear_value v1
  have hv3 : Within 0xa14028001060d400780100002001f02000000000006 s v3 := by
    unfold v3
    refine Within.foldl ?_ ?_
    · intro t8 x9
      refine Within.app dropPartial_within rfl ?_
      exact Within.refl
    · exact hv1
  clear_value v3
  refine Within.upd (e := v3) ?_ rfl rfl rfl rfl rfl rfl rfl rfl
  exact hv3

theorem controlEcc_within {n cell s} : Within 0xa14028001060d400780100002001f0304000d400006 s (controlEcc n cell s) := by
  unfold controlEcc
  refine Within.app report_within rfl ?_
  refine Within.app sliceStop_within rfl ?_
  refine Within.app State.capture_within rfl ?_
  exact Within.refl

theorem portSend_within {port e ecc cell s} : Within 0x840020001000000000010000000000200000002000e s (portSend port e ecc cell s) := by
  unfold portSend
  refine Within.ite ?_ ?_
  · refine Within.app dropEntry_within rfl ?_
    refine Within.app State.count_within rfl ?_
    exact Within.refl
  · refine Within.ite ?_ ?_
    · refine Within.app cellEcc_within rfl ?_
      exact Within.refl
    · refine Within.ite ?_ ?_
      · refine Within.app transmit_within rfl ?_
        exact Within.refl
      · refine Within.app updEgress_within rfl ?_
        exact Within.refl

theorem paceWait_within {n s} : Within 0x30 s (paceWait n s) := by
  unfold paceWait
  refine Within.ite ?_ ?_
  · refine Within.app State.advanceTo_within rfl ?_
    exact Within.refl
  · exact Within.refl

theorem ethStomp_within {port e b cell s} : Within 0x2000020001060d4227801fff02001f0200000000000e s (ethStomp port e b cell s) := by
  unfold ethStomp
  extract_lets v1 v2 v3
  have hv2 : Within 0x2000020001060d4227801fff02001f0200000000000e s v2 := by
    unfold v2
    refine Within.app State.count_within rfl ?_
    refine Within.app State.emit_within rfl ?_
    exact Within.refl
  clear_value v2
  have hv3 : Within 0x2000020001060d4227801fff02001f0200000000000e s v3 := by
    unfold v3
    refine Within.app dropEntry_within rfl ?_
    refine Within.app State.capture_within rfl ?_
    exact hv2
  clear_value v3
  refine Within.elim ?_ ?_
  · exact hv3
  · intro x4
    refine Within.app ethLost_within rfl ?_
    exact hv3

theorem ethTx_within {port ecc cell s} : Within 0x2a96038001060d4227801fff02001f0304000d40003e s (ethTx port ecc cell s) := by
  unfold ethTx
  refine Within.ite ?_ ?_
  · exact Within.refl
  · refine Within.ite ?_ ?_
    · refine Within.app controlEcc_within rfl ?_
      exact Within.refl
    · extract_lets v1 v2
      have hv1 : Within 0x2a96038001060d4227801fff02001f0304000d40003e s v1 := by
        unfold v1
        refine Within.app noteStalls_within rfl ?_
        exact Within.refl
      clear_value v1
      have hv2 : Within 0x2a96038001060d4227801fff02001f0304000d40003e s v2 := by
        unfold v2
        refine Within.app noteStart_within rfl ?_
        exact hv1
      clear_value v2
      split
      · rename_i x3 h4
        exact hv1
      · rename_i x5 x6 h7
        extract_lets v8 v9 v10 v11 v12
        have hv9 : Within 0x2a96038001060d4227801fff02001f0304000d40003e s v9 := by
          unfold v9
          refine Within.ite ?_ ?_
          · refine Within.app bufferCorrected_within rfl ?_
            exact hv2
          · exact hv2
        clear_value v9
        have hv10 : Within 0x2a96038001060d4227801fff02001f0304000d40003e s v10 := by
          unfold v10
          refine Within.app State.count_within rfl ?_
          refine Within.app State.emit_within rfl ?_
          exact hv9
        clear_value v10
        have hv11 : Within 0x2a96038001060d4227801fff02001f0304000d40003e s v11 := by
          unfold v11
          refine Within.app State.count_within rfl ?_
          exact hv10
        clear_value v11
        have hv12 : Within 0x2a96038001060d4227801fff02001f0304000d40003e s v12 := by
          unfold v12
          refine Within.app dropEntry_within rfl ?_
          refine Within.ite ?_ ?_
          · exact hv11
          · refine Within.app mirrorCopies_within rfl ?_
            exact hv11
        clear_value v12
        refine Within.ite ?_ ?_
        · refine Within.app fabSettle_within rfl ?_
          refine Within.app ethStomp_within rfl ?_
          exact hv2
        · refine Within.app fabSettle_within rfl ?_
          refine Within.elim ?_ ?_
          · exact hv12
          · intro x13
            refine Within.app endJob_within rfl ?_
            exact hv12

theorem sinkStart_within {o ecc cell s} : Within 0x289e03e2ab060d4627801fff02001f0304000d40003e s (sinkStart o ecc cell s) := by
  unfold sinkStart
  extract_lets v1
  have hv1 : Within 0x289e03e2ab060d4627801fff02001f0304000d40003e s v1 := by
    unfold v1
    refine Within.app noteStalls_within rfl ?_
    exact Within.refl
  clear_value v1
  split
  · rename_i x2 x3 h4
    exact hv1
  · rename_i x5 x6 x7 h8
    extract_lets v9 v10 v11 v12 v13 v14
    have hv9 : Within 0x289e03e2ab060d4627801fff02001f0304000d40003e s v9 := by
      unfold v9
      refine Within.app updEgress_within rfl ?_
      refine Within.app noteStart_within rfl ?_
      exact hv1
    clear_value v9
    have hv10 : Within 0x289e03e2ab060d4627801fff02001f0304000d40003e s v10 := by
      unfold v10
      refine Within.ite ?_ ?_
      · refine Within.app bufferCorrected_within rfl ?_
        exact hv9
      · exact hv9
    clear_value v10
    have hv13 : Within 0x289e03e2ab060d4627801fff02001f0304000d40003e s v13 := by
      unfold v13
      refine Within.app dropEntry_within rfl ?_
      exact hv10
    clear_value v13
    have hv14 : Within 0x289e03e2ab060d4627801fff02001f0304000d40003e s v14 := by
      unfold v14
      refine Within.updFab ?_ rfl
      exact hv13
    clear_value v14
    refine Within.ite ?_ ?_
    · refine Within.app fabSettle_within rfl ?_
      refine Within.app cellEcc_within rfl ?_
      exact hv9
    · split
      · rename_i x15 x16 x17 h18 h19
        split
        · rename_i x20 t21 h22
          have ht21 : Within 0x289e03e2ab060d4627801fff02001f0304000d40003e s t21 := by
            refine Within2.of h22 ?_
            refine Within2.app frameIn_within rfl ?_
            exact hv13
          refine Within.app fabSettle_within rfl ?_
          exact ht21
        · rename_i x23 t24 h25
          have ht24 : Within 0x289e03e2ab060d4627801fff02001f0304000d40003e s t24 := by
            refine Within2.of h25 ?_
            refine Within2.app frameIn_within rfl ?_
            exact hv13
          refine Within.app fabSettle_within rfl ?_
          refine Within.app State.count_within rfl ?_
          exact ht24
      · rename_i x26 x27 ih
        refine Within.app fabSettle_within rfl ?_
        refine Within.app State.emit_within rfl ?_
        refine Within.ite ?_ ?_
        · refine Within.app noteRoute_within rfl ?_
          exact hv14
        · exact hv14

theorem execEthernetFrameTransmit_within {port s} :
    WithinX 0x2a96038001060d4227801fff02001f0304000d40003e s (execEthernetFrameTransmit port s) := by
  unfold execEthernetFrameTransmit
  refine WithinX.app (onInstance_within rfl ?_) (sub_self _) ?_
  · intro x1 t2
    refine Within.trans ?_ (whenForwarding_within rfl ?_)
    · exact Within.refl
    · intro t3
      refine Within.ite ?_ ?_
      · refine Within.app ethTx_within rfl ?_
        exact Within.refl
      · exact Within.refl
  · exact Within.refl

theorem execResidueTimeout_within {port pid s} :
    WithinX 0x892038001060d400780100002001f0304000d40003e s (execResidueTimeout port pid s) := by
  unfold execResidueTimeout
  refine WithinX.app (onInstance_within rfl ?_) (sub_self _) ?_
  · intro x1 t2
    refine Within.trans ?_ (whenFab_within rfl ?_)
    · exact Within.refl
    · intro t3
      split
      · rename_i x4 h5
        exact Within.refl
      · rename_i x6 x7 h8
        extract_lets v9 v10 v11 v12
        have hv10 : Within 0x892038001060d400780100002001f0304000d40003e t3 v10 := by
          unfold v10
          refine Within.app State.advanceTo_within rfl ?_
          exact Within.refl
        clear_value v10
        have hv11 : Within 0x892038001060d400780100002001f0304000d40003e t3 v11 := by
          unfold v11
          refine Within.app dropEntry_within rfl ?_
          exact hv10
        clear_value v11
        have hv12 : Within 0x892038001060d400780100002001f0304000d40003e t3 v12 := by
          unfold v12
          refine Within.app report_within rfl ?_
          refine Within.app State.capture_within rfl ?_
          exact hv11
        clear_value v12
        refine Within.app fabSettle_within rfl ?_
        refine Within.app updFport_within rfl ?_
        exact hv12
  · exact Within.refl

theorem auditCell_within {slice s c} : Within 0xc10028000060d400780100002001f0304000d400006 s (auditCell slice s c) := by
  unfold auditCell
  refine Within.ite ?_ ?_
  · extract_lets v1
    have hv1 : Within 0xc10028000060d400780100002001f0304000d400006 s v1 := by
      unfold v1
      refine Within.updFab ?_ rfl
      exact Within.refl
    clear_value v1
    refine Within.app report_within rfl ?_
    refine Within.app State.count_within rfl ?_
    refine Within.app State.capture_within rfl ?_
    exact hv1
  · refine Within.ite ?_ ?_
    · exact Within.refl
    · refine Within.updFab ?_ rfl
      exact Within.refl

theorem doubleCell_within {slice s c} : Within 0x810028000060d400780100002001f0304000d400006 s (doubleCell slice s c) := by
  unfold doubleCell
  refine Within.ite ?_ ?_
  · exact Within.refl
  · refine Within.app report_within rfl ?_
    refine Within.app State.capture_within rfl ?_
    exact Within.refl

theorem execAuditPass_within {slice leaked doubled s} :
    WithinX 0xd92038001060d400780100002001f0304000d40003e s (execAuditPass slice leaked doubled s) := by
  unfold execAuditPass
  refine WithinX.app (onInstance_within rfl ?_) (sub_self _) ?_
  · intro x1 t2
    refine Within.trans ?_ (whenFab_within rfl ?_)
    · exact Within.refl
    · intro t3
      refine Within.ite ?_ ?_
      · exact Within.refl
      · extract_lets v4 v5 v6 v7
        have hv6 : Within 0xd92038001060d400780100002001f0304000d40003e t3 v6 := by
          unfold v6
          refine Within.app tick_within rfl ?_
          exact Within.refl
        clear_value v6
        have hv7 : Within 0xd92038001060d400780100002001f0304000d40003e t3 v7 := by
          unfold v7
          refine Within.updFab ?_ rfl
          exact hv6
        clear_value v7
        refine Within.app fabSettle_within rfl ?_
        refine Within.foldl ?_ ?_
        · intro t8 x9
          refine Within.app doubleCell_within rfl ?_
          exact Within.refl
        · refine Within.foldl ?_ ?_
          · intro t10 x11
            refine Within.app auditCell_within rfl ?_
            exact Within.refl
          · exact hv7
  · exact Within.refl

theorem execCvecPeriodExpiry_within {s} : WithinX 0x992338001060d400780100002001f0304000d40003e s (execCvecPeriodExpiry s) := by
  unfold execCvecPeriodExpiry
  refine WithinX.next ?_
  refine Within.trans ?_ (whenFab_within rfl ?_)
  · exact Within.refl
  · intro t1
    refine Within.ite ?_ ?_
    · exact Within.refl
    · extract_lets v2 v3 v4 v5
      have hv2 : Within 0x992338001060d400780100002001f0304000d40003e t1 v2 := by
        unfold v2
        refine Within.app tick_within rfl ?_
        exact Within.refl
      clear_value v2
      have hv5 : Within 0x992338001060d400780100002001f0304000d40003e t1 v5 := by
        unfold v5
        refine Within.foldl ?_ ?_
        · intro t6 x7
          refine Within.app inject_within rfl ?_
          exact Within.refl
        · exact hv2
      clear_value v5
      refine Within.updFab ?_ rfl
      exact hv5

theorem execCvecArrival_within {src seq ws s} : WithinX 0x800000000000000000000000000000000000000 s (execCvecArrival src seq ws s) := by
  unfold execCvecArrival
  refine WithinX.next ?_
  refine Within.trans ?_ (whenFab_within rfl ?_)
  · exact Within.refl
  · intro t1
    split
    · rename_i x2 x3 h4
      extract_lets v5 v6 v7
      refine Within.ite ?_ ?_
      · exact Within.refl
      · refine Within.updFab ?_ rfl
        exact Within.refl
    · rename_i x8 ih
      exact Within.refl

theorem execMapPeriodExpiry_within {s} : WithinX 0x992438001060d400780100002001f0304000d40003e s (execMapPeriodExpiry s) := by
  unfold execMapPeriodExpiry
  refine WithinX.next ?_
  refine Within.trans ?_ (whenFab_within rfl ?_)
  · exact Within.refl
  · intro t1
    refine Within.ite ?_ ?_
    · exact Within.refl
    · extract_lets v2 v3
      have hv2 : Within 0x992438001060d400780100002001f0304000d40003e t1 v2 := by
        unfold v2
        refine Within.app tick_within rfl ?_
        exact Within.refl
      clear_value v2
      refine Within.app inject_within rfl ?_
      refine Within.updFab ?_ rfl
      exact hv2

theorem excAdd_within {value s} : Within 0x810068000060d400780100002001f0304000d400006 s (excAdd value s) := by
  unfold excAdd
  extract_lets v1 v2
  refine Within.ite ?_ ?_
  · refine Within.app State.setReg_within rfl ?_
    exact Within.refl
  · split
    · rename_i x3 h4
      refine Within.app report_within rfl ?_
      refine Within.app State.setReg_within rfl ?_
      exact Within.refl
    · rename_i x5 x6 h7
      extract_lets v8 v9
      have hv9 : Within 0x810068000060d400780100002001f0304000d400006 s v9 := by
        unfold v9
        refine Within.app State.setReg_within rfl ?_
        exact Within.refl
      clear_value v9
      refine Within.updFab ?_ rfl
      exact hv9

theorem excDel_within {value s} : Within 0x400000000000000000000000000000000000000 s (excDel value s) := by
  unfold excDel
  refine Within.updFab ?_ rfl
  exact Within.refl

theorem dropLaneReq_within {l s} : Within 0x20000000000000000000000000000000000000000000 s (dropLaneReq l s) := by
  unfold dropLaneReq
  refine Within.app dropLeave_within rfl ?_
  exact Within.refl

theorem askFull_within {l s} : Within 0x30000000000000000000000000000000000000000000 s (askFull l s) := by
  unfold askFull
  refine Within.app askLeave_within rfl ?_
  refine Within.app updLane_within rfl ?_
  exact Within.refl

theorem sendTraining_within {l s} : Within 0x10000000000000000000000000000000000000000006 s (sendTraining l s) := by
  unfold sendTraining
  extract_lets v1
  refine Within.ite ?_ ?_
  · exact Within.refl
  · refine Within.app updLane_within rfl ?_
    refine Within.app State.emit_within rfl ?_
    exact Within.refl

theorem toFull_within {l s} : Within 0x30000000000000000000000000000000000000000000 s (toFull l s) := by
  unfold toFull
  refine Within.app askFull_within rfl ?_
  refine Within.app updLane_within rfl ?_
  exact Within.refl

theorem toFast_within {l silent s} : Within 0x30000000000000000000000000000000000000000006 s (toFast l silent s) := by
  unfold toFast
  extract_lets v1 v2
  have hv1 : Within 0x30000000000000000000000000000000000000000006 s v1 := by
    unfold v1
    refine Within.app updLane_within rfl ?_
    exact Within.refl
  clear_value v1
  have hv2 : Within 0x30000000000000000000000000000000000000000006 s v2 := by
    unfold v2
    refine Within.app sendTraining_within rfl ?_
    exact hv1
  clear_value v2
  refine Within.ite ?_ ?_
  · exact hv2
  · refine Within.app toFull_within rfl ?_
    exact hv2

theorem chkEnd_within {l s} : Within 0x100000000000000000000000 s (chkEnd l s) := by
  unfold chkEnd
  split
  rename_i x1 x2 x3 h4
  refine Within.ite ?_ ?_
  · exact Within.refl
  · refine Within.app State.count_within rfl ?_
    refine Within.app State.count_within rfl ?_
    exact Within.refl

theorem laneOff_within {l s} : Within 0x30000000000000000000100000000000000000000000 s (laneOff l s) := by
  unfold laneOff
  extract_lets v1 v2
  have hv1 : Within 0x30000000000000000000100000000000000000000000 s v1 := by
    unfold v1
    refine Within.app chkEnd_within rfl ?_
    exact Within.refl
  clear_value v1
  refine Within.app laneDomainOff_within rfl ?_
  refine Within.app updLane_within rfl ?_
  refine Within.app dropLaneReq_within rfl ?_
  exact hv1

theorem laneStart_within {l s} : Within 0x30000000000000000000000000000000000000000000 s (laneStart l s) := by
  unfold laneStart
  extract_lets v1
  refine Within.ite ?_ ?_
  · exact Within.refl
  · refine Within.app askFull_within rfl ?_
    exact Within.refl

theorem takeMap_within {n m' s} : Within 0x8000000000000000000000000000000000000000000 s (takeMap n m' s) := by
  unfold takeMap
  refine Within.app updFport_within rfl ?_
  exact Within.refl

theorem reacquire_within {n s} : Within 0x38000000000000000000000000000000000000000006 s (reacquire n s) := by
  unfold reacquire
  refine Within.foldl ?_ ?_
  · intro t1 x2
    refine Within.ite ?_ ?_
    · refine Within.app toFast_within rfl ?_
      exact Within.refl
    · exact Within.refl
  · refine Within.app takeMap_within rfl ?_
    refine Within.app updFport_within rfl ?_
    exact Within.refl

theorem sendCtl_within {n ftype arg s} : Within 0x8000000000000000000000000000000000000000006 s (sendCtl n ftype arg s) := by
  unfold sendCtl
  extract_lets v1 v2 v3
  refine Within.app quietEnds_within rfl ?_
  refine Within.app updFport_within rfl ?_
  refine Within.app State.emit_within rfl ?_
  exact Within.refl

theorem sendLinkAck_within {n s} : Within 0x8000000000000000000000000000000000000000006 s (sendLinkAck n s) := by
  unfold sendLinkAck
  refine Within.app updFport_within rfl ?_
  refine Within.app sendCtl_within rfl ?_
  exact Within.refl

theorem sendReplayReq_within {n s} : Within 0x8000000000000000000000000000000000000000006 s (sendReplayReq n s) := by
  unfold sendReplayReq
  extract_lets v1
  refine Within.ite ?_ ?_
  · exact Within.refl
  · refine Within.app updFport_within rfl ?_
    refine Within.app sendCtl_within rfl ?_
    exact Within.refl

theorem linkDown_within {n k cause vc addr grace lanesLost s} :
    Within 0x3810028000060d400780100002001f0304000d400006 s (linkDown n k cause vc addr grace lanesLost s) := by
  unfold linkDown
  refine Within.ite ?_ ?_
  · exact Within.refl
  · extract_lets v1 v2 v3 v4 v5 v6 v7
    have hv1 : Within 0x3810028000060d400780100002001f0304000d400006 s v1 := by
      unfold v1
      refine Within.app State.count_within rfl ?_
      exact Within.refl
    clear_value v1
    have hv2 : Within 0x3810028000060d400780100002001f0304000d400006 s v2 := by
      unfold v2
      refine Within.app State.capture_within rfl ?_
      exact hv1
    clear_value v2
    have hv4 : Within 0x3810028000060d400780100002001f0304000d400006 s v4 := by
      unfold v4
      refine Within.app updFport_within rfl ?_
      exact hv2
    clear_value v4
    have hv5 : Within 0x3810028000060d400780100002001f0304000d400006 s v5 := by
      unfold v5
      refine Within.elim ?_ ?_
      · exact hv4
      · intro x8
        refine Within.app report_within rfl ?_
        exact hv4
    clear_value v5
    have hv6 : Within 0x3810028000060d400780100002001f0304000d400006 s v6 := by
      unfold v6
      refine Within.app allEndpoints_within rfl ?_
      exact hv5
    clear_value v6
    have hv7 : Within 0x3810028000060d400780100002001f0304000d400006 s v7 := by
      unfold v7
      refine Within.ite ?_ ?_
      · refine Within.app reacquire_within rfl ?_
        exact hv6
      · exact hv6
    clear_value v7
    refine Within.ite ?_ ?_
    · exact hv7
    · refine Within.app updFport_within rfl ?_
      refine Within.app flushPort_within rfl ?_
      exact hv7

theorem linkError_within {n s} : Within 0x8000000000000000000100000000000000000000000 s (linkError n s) := by
  unfold linkError
  extract_lets v1
  refine Within.app State.count_within rfl ?_
  refine Within.app updFport_within rfl ?_
  exact Within.refl

theorem freeReplay_within {n k s} : Within 0x892038001060d400780100002001f0304000d40000e s (freeReplay n k s) := by
  unfold freeReplay
  refine Within.ite ?_ ?_
  · exact Within.refl
  · refine Within.app fabSettle_within rfl ?_
    refine Within.app updFport_within rfl ?_
    exact Within.refl

theorem onLinkAck_within {n a s} : Within 0x3892038001060d400780100002001f0304000d40000e s (onLinkAck n a s) := by
  unfold onLinkAck
  extract_lets v1 v2
  refine Within.ite ?_ ?_
  · refine Within.app freeReplay_within rfl ?_
    exact Within.refl
  · refine Within.ite ?_ ?_
    · refine Within.app linkDown_within rfl ?_
      exact Within.refl
    · exact Within.refl

theorem replayEcc_within {n cell w s} : Within 0x3810028000060d400780100002001f0304000d400006 s (replayEcc n cell w s) := by
  unfold replayEcc
  extract_lets v1
  have hv1 : Within 0x3810028000060d400780100002001f0304000d400006 s v1 := by
    unfold v1
    refine Within.ite ?_ ?_
    · exact Within.refl
    · refine Within.app State.capture_within rfl ?_
      exact Within.refl
  clear_value v1
  refine Within.app linkDown_within rfl ?_
  exact hv1

theorem startReplay_within {n s} : Within 0x3810028000060d400780100002001f0304000d400006 s (startReplay n s) := by
  unfold startReplay
  refine Within.ite ?_ ?_
  · exact Within.refl
  · extract_lets v1
    have hv1 : Within 0x3810028000060d400780100002001f0304000d400006 s v1 := by
      unfold v1
      refine Within.app updFport_within rfl ?_
      refine Within.app quietEnds_within rfl ?_
      refine Within.app State.count_within rfl ?_
      exact Within.refl
    clear_value v1
    refine Within.ite ?_ ?_
    · refine Within.app linkDown_within rfl ?_
      exact hv1
    · exact hv1

theorem replayFrame_within {n w ecc cell s} : Within 0x3810028000060d400780100002001f0304000d40003e s (replayFrame n w ecc cell s) := by
  unfold replayFrame
  extract_lets v1 v2
  have hv1 : Within 0x3810028000060d400780100002001f0304000d40003e s v1 := by
    unfold v1
    refine Within.app paceWait_within rfl ?_
    exact Within.refl
  clear_value v1
  have hv2 : Within 0x3810028000060d400780100002001f0304000d40003e s v2 := by
    unfold v2
    refine Within.ite ?_ ?_
    · refine Within.app bufferCorrected_within rfl ?_
      exact hv1
    · exact hv1
  clear_value v2
  refine Within.ite ?_ ?_
  · refine Within.app replayEcc_within rfl ?_
    exact hv1
  · refine Within.app sendFrame_within rfl ?_
    refine Within.app updFport_within rfl ?_
    exact hv2

theorem portStart_within {port ecc cell s} : Within 0x3ad6038001060d400780100002001f0304000d42003e s (portStart port ecc cell s) := by
  unfold portStart
  extract_lets v1 v2 v3
  have hv2 : Within 0x3ad6038001060d400780100002001f0304000d42003e s v2 := by
    unfold v2
    refine Within.app noteStalls_within rfl ?_
    exact Within.refl
  clear_value v2
  have hv3 : Within 0x3ad6038001060d400780100002001f0304000d42003e s v3 := by
    unfold v3
    refine Within.app noteStart_within rfl ?_
    exact hv2
  clear_value v3
  refine Within.ite ?_ ?_
  · exact Within.refl
  · refine Within.ite ?_ ?_
    · refine Within.app controlEcc_within rfl ?_
      exact Within.refl
    · split
      · rename_i x4 x5 h6
        refine Within.app replayFrame_within rfl ?_
        refine Within.app noteStart_within rfl ?_
        exact Within.refl
      · rename_i x7 h8
        split
        · rename_i x9 x10 h11
          exact hv2
        · rename_i x12 x13 x14 h15
          extract_lets v16
          have hv16 : Within 0x3ad6038001060d400780100002001f0304000d42003e s v16 := by
            unfold v16
            refine Within.ite ?_ ?_
            · refine Within.app bufferCorrected_within rfl ?_
              exact hv3
            · exact hv3
          clear_value v16
          refine Within.app fabSettle_within rfl ?_
          refine Within.app portSend_within rfl ?_
          refine Within.app updEgress_within rfl ?_
          refine Within.app paceWait_within rfl ?_
          exact hv16

theorem execEgressFrameStart_within {out ecc cell s} :
    WithinX 0x3ade03e2ab060d4627801fff02001f0304000d42003e s (execEgressFrameStart out ecc cell s) := by
  unfold execEgressFrameStart
  split
  · rename_i x1 x2
    refine WithinX.app (onInstance_within rfl ?_) (sub_self _) ?_
    · intro x3 t4
      refine Within.trans ?_ (whenForwarding_within rfl ?_)
      · exact Within.refl
      · intro t5
        refine Within.ite ?_ ?_
        · refine Within.app ethTx_within rfl ?_
          exact Within.refl
        · refine Within.app portStart_within rfl ?_
          exact Within.refl
    · exact Within.refl
  · rename_i x6 x7
    refine WithinX.app (onInstance_within rfl ?_) (sub_self _) ?_
    · intro x8 t9
      refine Within.trans ?_ (whenForwarding_within rfl ?_)
      · exact Within.refl
      · intro t10
        refine Within.ite ?_ ?_
        · refine Within.app controlEcc_within rfl ?_
          exact Within.refl
        · refine Within.app sinkStart_within rfl ?_
          exact Within.refl
    · exact Within.refl
  · rename_i x11 x12
    refine WithinX.app (onInstance_within rfl ?_) (sub_self _) ?_
    · intro x13 t14
      refine Within.trans ?_ (whenForwarding_within rfl ?_)
      · exact Within.refl
      · intro t15
        refine Within.ite ?_ ?_
        · refine Within.app controlEcc_within rfl ?_
          exact Within.refl
        · refine Within.app sinkStart_within rfl ?_
          exact Within.refl
    · exact Within.refl
  · rename_i x16
    refine WithinX.next ?_
    refine Within.trans ?_ (whenForwarding_within rfl ?_)
    · exact Within.refl
    · intro t17
      refine Within.ite ?_ ?_
      · refine Within.app controlEcc_within rfl ?_
        exact Within.refl
      · refine Within.app sinkStart_within rfl ?_
        exact Within.refl

theorem auditCheck_within {n a s} : Within 0x3810028000060d400780100002001f0304000d400006 s (auditCheck n a s) := by
  unfold auditCheck
  refine Within.ite ?_ ?_
  · exact Within.refl
  · refine Within.app linkDown_within rfl ?_
    exact Within.refl

theorem auditsDue_within {n s} : Within 0x3810028000060d400780100002001f0304000d400006 s (auditsDue n s) := by
  unfold auditsDue
  extract_lets v1 v2
  refine Within.foldl ?_ ?_
  · intro t3 x4
    refine Within.app auditCheck_within rfl ?_
    exact Within.refl
  · refine Within.app updFport_within rfl ?_
    exact Within.refl

theorem packetWhole_within {x s} : Within 0x8d2038001060d400780100002001f0304000d42000e s (packetWhole x s) := by
  unfold packetWhole
  extract_lets v1 v2 v3
  have hv1 : Within 0x8d2038001060d400780100002001f0304000d42000e s v1 := by
    unfold v1
    refine Within.updFab ?_ rfl
    exact Within.refl
  clear_value v1
  have hv2 : Within 0x8d2038001060d400780100002001f0304000d42000e s v2 := by
    unfold v2
    refine Within.ite ?_ ?_
    · refine Within.app grantCells_within rfl ?_
      exact hv1
    · exact hv1
  clear_value v2
  refine Within.app fabSettle_within rfl ?_
  refine Within.foldl ?_ ?_
  · intro t4 x5
    refine Within.app transmit_within rfl ?_
    exact Within.refl
  · exact hv2

theorem acceptFrame_within {n p s} : Within 0x38d2038001060d400780100002001f0304000d42000e s (acceptFrame n p s) := by
  unfold acceptFrame
  extract_lets v1 v2 v3 v4 v5 v6
  have hv3 : Within 0x38d2038001060d400780100002001f0304000d42000e s v3 := by
    unfold v3
    refine Within.app updFport_within rfl ?_
    exact Within.refl
  have hv4 : Within 0x38d2038001060d400780100002001f0304000d42000e s v4 := by
    unfold v4
    refine Within.app State.count_within rfl ?_
    refine Within.app State.count_within rfl ?_
    exact hv3
  have hv5 : Within 0x38d2038001060d400780100002001f0304000d42000e s v5 := by
    unfold v5
    generalize v2 = w7
    split
    · rename_i x8 x9
      refine Within.app packetWhole_within rfl ?_
      exact hv4
    · rename_i x10
      refine Within.app switchTake_within rfl ?_
      exact hv4
  have hv6 : Within 0x38d2038001060d400780100002001f0304000d42000e s v6 := by
    unfold v6
    refine Within.ite ?_ ?_
    · refine Within.app sendLinkAck_within rfl ?_
      exact hv5
    · exact hv5
  clear_value v6
  refine Within.ite ?_ ?_
  · refine Within.app linkDown_within rfl ?_
    exact Within.refl
  · refine Within.app auditsDue_within rfl ?_
    exact hv6

theorem rxData_within {n seq p s} : Within 0x38d2038001060d400780100002001f0304000d42000e s (rxData n seq p s) := by
  unfold rxData
  extract_lets v1 v2
  refine Within.ite ?_ ?_
  · refine Within.app acceptFrame_within rfl ?_
    exact Within.refl
  · refine Within.ite ?_ ?_
    · refine Within.app sendReplayReq_within rfl ?_
      exact Within.refl
    · refine Within.app updFport_within rfl ?_
      exact Within.refl

theorem frameFailed_within {n s} : Within 0x892038001060d400780100002001f0304000d40000e s (frameFailed n s) := by
  unfold frameFailed
  refine Within.app fabSettle_within rfl ?_
  refine Within.app dropPartials_within rfl ?_
  exact Within.refl

theorem linkBusy_within {n s} : Within 0x8000000000000000000000000000000000000000000 s (linkBusy n s) := by
  unfold linkBusy
  refine Within.app updFport_within rfl ?_
  exact Within.refl

theorem execLinkDataFrameReceive_within {port seq ack p check s} :
    WithinX 0x38d2038001060d400780100002001f0304000d42000e s (execLinkDataFrameReceive port seq ack p check s) := by
  unfold execLinkDataFrameReceive
  refine WithinX.app (onInstance_within rfl ?_) (sub_self _) ?_
  · intro x1 t2
    refine Within.trans ?_ (whenFab_within rfl ?_)
    · exact Within.refl
    · intro t3
      refine Within.ite ?_ ?_
      · exact Within.refl
      · refine Within.ite ?_ ?_
        · refine Within.ite ?_ ?_
          · refine Within.app linkError_within rfl ?_
            exact Within.refl
          · exact Within.refl
        · extract_lets v4 v5
          have hv4 : Within 0x38d2038001060d400780100002001f0304000d42000e t3 v4 := by
            unfold v4
            refine Within.app linkBusy_within rfl ?_
            exact Within.refl
          clear_value v4
          have hv5 : Within 0x38d2038001060d400780100002001f0304000d42000e t3 v5 := by
            unfold v5
            split
            · rename_i x6 x7
              refine Within.app onLinkAck_within rfl ?_
              exact hv4
            · rename_i x8
              exact hv4
          clear_value v5
          split
          · rename_i x9
            refine Within.app linkError_within rfl ?_
            refine Within.app frameFailed_within rfl ?_
            exact hv4
          · rename_i x10
            refine Within.app sendReplayReq_within rfl ?_
            refine Within.app linkError_within rfl ?_
            refine Within.app frameFailed_within rfl ?_
            exact hv4
          · rename_i x11
            refine Within.app State.count_within rfl ?_
            refine Within.app frameFailed_within rfl ?_
            exact hv4
          · rename_i x12
            refine Within.ite ?_ ?_
            · refine Within.app rxData_within rfl ?_
              exact hv5
            · exact hv5
  · exact Within.refl

theorem execLinkAckReceive_within {port seq s} :
    WithinX 0x3892038001060d400780100002001f0304000d40000e s (execLinkAckReceive port seq s) := by
  unfold execLinkAckReceive
  refine WithinX.app (onInstance_within rfl ?_) (sub_self _) ?_
  · intro x1 t2
    refine Within.trans ?_ (whenFab_within rfl ?_)
    · exact Within.refl
    · intro t3
      refine Within.ite ?_ ?_
      · refine Within.app onLinkAck_within rfl ?_
        refine Within.app linkBusy_within rfl ?_
        exact Within.refl
      · exact Within.refl
  · exact Within.refl

theorem execReplayReqReceive_within {port seq s} :
    WithinX 0x3892038001060d400780100002001f0304000d40000e s (execReplayReqReceive port seq s) := by
  unfold execReplayReqReceive
  refine WithinX.app (onInstance_within rfl ?_) (sub_self _) ?_
  · intro x1 t2
    refine Within.trans ?_ (whenFab_within rfl ?_)
    · exact Within.refl
    · intro t3
      refine Within.ite ?_ ?_
      · exact Within.refl
      · extract_lets v4 v5
        have hv4 : Within 0x3892038001060d400780100002001f0304000d40000e t3 v4 := by
          unfold v4
          refine Within.app linkBusy_within rfl ?_
          exact Within.refl
        clear_value v4
        have hv5 : Within 0x3892038001060d400780100002001f0304000d40000e t3 v5 := by
          unfold v5
          refine Within.app onLinkAck_within rfl ?_
          exact hv4
        clear_value v5
        refine Within.ite ?_ ?_
        · exact hv4
        · refine Within.ite ?_ ?_
          · refine Within.app startReplay_within rfl ?_
            exact hv5
          · exact hv5
  · exact Within.refl

theorem codewordIn_within {n x s} : Within 0x8000000000000000000100000000000000000000000 s (codewordIn n x s) := by
  unfold codewordIn
  extract_lets v1
  split
  · rename_i x2 x3 x4 h5
    refine Within.ite ?_ ?_
    · exact Within.refl
    · refine Within.app State.count_within rfl ?_
      exact Within.refl
  · rename_i x6 h7
    refine Within.app linkError_within rfl ?_
    refine Within.app State.count_within rfl ?_
    exact Within.refl

theorem markerTaken_within {n m' s} : Within 0x3892038001060d400780100002001f0304000d40000e s (markerTaken n m' s) := by
  unfold markerTaken
  extract_lets v1 v2
  have hv1 : Within 0x3892038001060d400780100002001f0304000d40000e s v1 := by
    unfold v1
    refine Within.app updFport_within rfl ?_
    exact Within.refl
  clear_value v1
  have hv2 : Within 0x3892038001060d400780100002001f0304000d40000e s v2 := by
    unfold v2
    split
    · rename_i x3 h4
      exact hv1
    · rename_i x5 x6 h7
      refine Within.ite ?_ ?_
      · exact hv1
      · refine Within.app auditsDue_within rfl ?_
        refine Within.app updFport_within rfl ?_
        exact hv1
  clear_value v2
  refine Within.app fabSettle_within rfl ?_
  exact hv2

theorem enterQuiet_within {n s} : Within 0x18000000000000000000000000000000000000000000 s (enterQuiet n s) := by
  unfold enterQuiet
  extract_lets v1
  have hv1 : Within 0x18000000000000000000000000000000000000000000 s v1 := by
    unfold v1
    refine Within.foldl ?_ ?_
    · intro t2 x3
      extract_lets v4
      refine Within.ite ?_ ?_
      · refine Within.app updLane_within rfl ?_
        exact Within.refl
      · exact Within.refl
    · exact Within.refl
  clear_value v1
  refine Within.app updFport_within rfl ?_
  exact hv1

theorem corrupt_within {a0 a1 a2 a3} : Within2 0x8 a3 (corrupt a0 a1 a2 a3) := by
  induction a0 generalizing a1 a2 a3
  · rw [corrupt]
    refine Within2.mk ?_
    exact Within.refl
  · rename_i x1 ih
    rw [corrupt]
    split
    rename_i x2 x3 t4 h5
    have ht4 : Within 0x8 a3 t4 := by
      refine Within2.of h5 ?_
      refine Within2.app State.drawNat_within rfl ?_
      exact Within.refl
    split
    rename_i x6 x7 t8 h9
    have ht8 : Within 0x8 a3 t8 := by
      refine Within2.of h9 ?_
      refine Within2.app State.drawNat_within rfl ?_
      exact ht4
    split
    · rename_i x10 h11
      refine Within2.mk ?_
      exact ht8
    · rename_i x12 x13 h14
      refine Within2.app ih rfl ?_
      exact ht8

theorem laneSend_within {l msg s} : Within 0x1000000000000000000000000000000000000000000e s (laneSend l msg s) := by
  unfold laneSend
  extract_lets v1 v2 v3 v4
  refine Within.ite ?_ ?_
  · refine Within.app State.emit_within rfl ?_
    exact Within.refl
  · split
    rename_i x5 x6 t7 h8
    have ht7 : Within 0x1000000000000000000000000000000000000000000e s t7 := by
      refine Within2.of h8 ?_
      refine Within2.ite ?_ ?_
      · refine Within2.app corrupt_within rfl ?_
        exact Within.refl
      · refine Within2.mk ?_
        exact Within.refl
    refine Within.app updLane_within rfl ?_
    refine Within.app State.emit_within rfl ?_
    exact ht7

theorem sendMessages_within {n lanes a2 a3} : Within 0x1800000000000000000000000000000000000000000e a3 (sendMessages n lanes a2 a3) := by
  induction a2 generalizing n lanes a3
  · rw [sendMessages]
    exact Within.refl
  · rename_i x1 x2 ih
    rw [sendMessages]
    refine Within.app ih rfl ?_
    refine Within.app updFport_within rfl ?_
    refine Within.app laneSend_within rfl ?_
    exact Within.refl

theorem sendStream_within {n marker s} : Within 0x1800000000000000000000000000000000000000000e s (sendStream n marker s) := by
  unfold sendStream
  extract_lets v1 v2 v3 v4 v5 v6 v7
  have hv7 : Within 0x1800000000000000000000000000000000000000000e s v7 := by
    unfold v7
    refine Within.app updFport_within rfl ?_
    exact Within.refl
  clear_value v7
  refine Within.app sendMessages_within rfl ?_
  exact hv7

theorem execMarkerBlockSend_within {port s} : WithinX 0x1800000000000000000000000000000000000000000e s (execMarkerBlockSend port s) := by
  unfold execMarkerBlockSend
  refine WithinX.app (onInstance_within rfl ?_) (sub_self _) ?_
  · intro x1 t2
    refine Within.trans ?_ (whenFab_within rfl ?_)
    · exact Within.refl
    · intro t3
      refine Within.ite ?_ ?_
      · exact Within.refl
      · extract_lets v4 v5 v6 v7 v8 v9 v10 v11
        have hv4 : Within 0x1800000000000000000000000000000000000000000e t3 v4 := by
          unfold v4
          refine Within.ite ?_ ?_
          · exact Within.refl
          · refine Within.app quietEnds_within rfl ?_
            exact Within.refl
        clear_value v4
        have hv10 : Within 0x1800000000000000000000000000000000000000000e t3 v10 := by
          unfold v10
          refine Within.app sendStream_within rfl ?_
          refine Within.app State.emit_within rfl ?_
          exact hv4
        clear_value v10
        have hv11 : Within 0x1800000000000000000000000000000000000000000e t3 v11 := by
          unfold v11
          refine Within.app updFport_within rfl ?_
          exact hv10
        clear_value v11
        refine Within.ite ?_ ?_
        · refine Within.app enterQuiet_within rfl ?_
          exact hv11
        · exact hv11
  · exact Within.refl

theorem execLinkReplayTimeout_within {port s} :
    WithinX 0x3810028000060d400780100002001f0304000d40003e s (execLinkReplayTimeout port s) := by
  unfold execLinkReplayTimeout
  refine WithinX.app (onInstance_within rfl ?_) (sub_self _) ?_
  · intro x1 t2
    refine Within.trans ?_ (whenFab_within rfl ?_)
    · exact Within.refl
    · intro t3
      extract_lets v4
      refine Within.ite ?_ ?_
      · exact Within.refl
      · refine Within.app startReplay_within rfl ?_
        refine Within.app State.advanceTo_within rfl ?_
        exact Within.refl
  · exact Within.refl

theorem execReplayReqResend_within {port s} : WithinX 0x800000000000000000000000000000000000000003e s (execReplayReqResend port s) := by
  unfold execReplayReqResend
  refine WithinX.app (onInstance_within rfl ?_) (sub_self _) ?_
  · intro x1 t2
    refine Within.trans ?_ (whenFab_within rfl ?_)
    · exact Within.refl
    · intro t3
      extract_lets v4 v5
      have hv5 : Within 0x800000000000000000000000000000000000000003e t3 v5 := by
        unfold v5
        refine Within.app State.advanceTo_within rfl ?_
        exact Within.refl
      clear_value v5
      refine Within.ite ?_ ?_
      · exact Within.refl
      · refine Within.app sendReplayReq_within rfl ?_
        refine Within.app updFport_within rfl ?_
        exact hv5
  · exact Within.refl

theorem execStandaloneAckIdle_within {port s} : WithinX 0x800000000000000000000000000000000000000003e s (execStandaloneAckIdle port s) := by
  unfold execStandaloneAckIdle
  refine WithinX.app (onInstance_within rfl ?_) (sub_self _) ?_
  · intro x1 t2
    refine Within.trans ?_ (whenFab_within rfl ?_)
    · exact Within.refl
    · intro t3
      extract_lets v4
      refine Within.ite ?_ ?_
      · exact Within.refl
      · refine Within.app sendLinkAck_within rfl ?_
        refine Within.app State.advanceTo_within rfl ?_
        exact Within.refl
  · exact Within.refl

theorem execCreditTimeout_within {port vc s} : WithinX 0x3810028000060d400780100002001f0304000d40003e s (execCreditTimeout port vc s) := by
  unfold execCreditTimeout
  refine WithinX.app (onInstance_within rfl ?_) (sub_self _) ?_
  · intro x1 t2
    refine Within.trans ?_ (whenFab_within rfl ?_)
    · exact Within.refl
    · intro t3
      split
      · rename_i x4 h5
        exact Within.refl
      · rename_i x6 x7 h8
        refine Within.ite ?_ ?_
        · exact Within.refl
        · refine Within.app linkDown_within rfl ?_
          refine Within.app State.advanceTo_within rfl ?_
          exact Within.refl
  · exact Within.refl

theorem execErrorWindowLimit_within {port s} : WithinX 0x3810028000060d400780100002001f0304000d40000e s (execErrorWindowLimit port s) := by
  unfold execErrorWindowLimit
  refine WithinX.app (onInstance_within rfl ?_) (sub_self _) ?_
  · intro x1 t2
    refine Within.trans ?_ (whenFab_within rfl ?_)
    · exact Within.refl
    · intro t3
      extract_lets v4
      refine Within.ite ?_ ?_
      · exact Within.refl
      · refine Within.app linkDown_within rfl ?_
        exact Within.refl
  · exact Within.refl

theorem resetRx_within {n oldest s} : Within 0x892038001060d400780100002001f0304000d40000e s (resetRx n oldest s) := by
  unfold resetRx
  extract_lets v1 v2
  have hv1 : Within 0x892038001060d400780100002001f0304000d40000e s v1 := by
    unfold v1
    refine Within.app frameFailed_within rfl ?_
    exact Within.refl
  clear_value v1
  have hv2 : Within 0x892038001060d400780100002001f0304000d40000e s v2 := by
    unfold v2
    refine Within.app updFport_within rfl ?_
    exact hv1
  clear_value v2
  refine Within.foldl ?_ ?_
  · intro t3 x4
    refine Within.app grantCells_within rfl ?_
    exact Within.refl
  · exact hv2

theorem flushTx_within {n s} : Within 0x8100280000000000000100000000000000000000006 s (flushTx n s) := by
  unfold flushTx
  extract_lets v1 v2
  have hv2 : Within 0x8100280000000000000100000000000000000000006 s v2 := by
    unfold v2
    refine Within.app flushPort_within rfl ?_
    exact Within.refl
  clear_value v2
  refine Within.app updFport_within rfl ?_
  exact hv2

theorem takeExpected_within {n f s} : Within 0x3892038001060d400780100002001f0304000d40000e s (takeExpected n f s) := by
  unfold takeExpected
  refine Within.ite ?_ ?_
  · refine Within.app flushTx_within rfl ?_
    exact Within.refl
  · extract_lets v1 v2
    have hv2 : Within 0x3892038001060d400780100002001f0304000d40000e s v2 := by
      unfold v2
      refine Within.app State.capture_within rfl ?_
      exact Within.refl
    clear_value v2
    refine Within.ite ?_ ?_
    · refine Within.app freeReplay_within rfl ?_
      exact Within.refl
    · refine Within.ite ?_ ?_
      · refine Within.app linkDown_within rfl ?_
        exact Within.refl
      · refine Within.app flushPort_within rfl ?_
        refine Within.app report_within rfl ?_
        exact hv2

theorem execInitReceive_within {port f s} : WithinX 0x3892038001060d400780100002001f0304000d40000e s (execInitReceive port f s) := by
  unfold execInitReceive
  refine WithinX.app (onInstance_within rfl ?_) (sub_self _) ?_
  · intro x1 t2
    refine Within.trans ?_ (whenFab_within rfl ?_)
    · exact Within.refl
    · intro t3
      extract_lets v4 v5 v6 v7
      have hv5 : Within 0x3892038001060d400780100002001f0304000d40000e t3 v5 := by
        unfold v5
        refine Within.ite ?_ ?_
        · refine Within.app resetRx_within rfl ?_
          exact Within.refl
        · exact Within.refl
      clear_value v5
      have hv6 : Within 0x3892038001060d400780100002001f0304000d40000e t3 v6 := by
        unfold v6
        refine Within.app takeExpected_within rfl ?_
        exact hv5
      clear_value v6
      have hv7 : Within 0x3892038001060d400780100002001f0304000d40000e t3 v7 := by
        unfold v7
        refine Within.app updFport_within rfl ?_
        exact hv6
      clear_value v7
      refine Within.ite ?_ ?_
      · exact Within.refl
      · refine Within.ite ?_ ?_
        · refine Within.app updFport_within rfl ?_
          exact Within.refl
        · refine Within.app sendCtl_within rfl ?_
          exact hv7
  · exact Within.refl

theorem execInitAckReceive_within {port f s} : WithinX 0x3892038001060d400780100002001f0304000d40000e s (execInitAckReceive port f s) := by
  unfold execInitAckReceive
  refine WithinX.app (onInstance_within rfl ?_) (sub_self _) ?_
  · intro x1 t2
    refine Within.trans ?_ (whenFab_within rfl ?_)
    · exact Within.refl
    · intro t3
      extract_lets v4 v5 v6 v7 v8
      have hv5 : Within 0x3892038001060d400780100002001f0304000d40000e t3 v5 := by
        unfold v5
        refine Within.ite ?_ ?_
        · refine Within.app resetRx_within rfl ?_
          exact Within.refl
        · exact Within.refl
      clear_value v5
      have hv6 : Within 0x3892038001060d400780100002001f0304000d40000e t3 v6 := by
        unfold v6
        refine Within.app takeExpected_within rfl ?_
        exact hv5
      clear_value v6
      have hv8 : Within 0x3892038001060d400780100002001f0304000d40000e t3 v8 := by
        unfold v8
        refine Within.app updFport_within rfl ?_
        exact hv6
      clear_value v8
      refine Within.ite ?_ ?_
      · exact Within.refl
      · refine Within.app fabSettle_within rfl ?_
        refine Within.app allEndpoints_within rfl ?_
        exact hv8
  · exact Within.refl

theorem execInitSendTimer_within {port s} : WithinX 0x800000000000000000000000000000000000000003e s (execInitSendTimer port s) := by
  unfold execInitSendTimer
  refine WithinX.app (onInstance_within rfl ?_) (sub_self _) ?_
  · intro x1 t2
    refine Within.trans ?_ (whenFab_within rfl ?_)
    · exact Within.refl
    · intro t3
      refine Within.ite ?_ ?_
      · exact Within.refl
      · extract_lets v4
        have hv4 : Within 0x800000000000000000000000000000000000000003e t3 v4 := by
          unfold v4
          refine Within.app State.advanceTo_within rfl ?_
          exact Within.refl
        clear_value v4
        refine Within.app updFport_within rfl ?_
        refine Within.app sendCtl_within rfl ?_
        exact hv4
  · exact Within.refl

theorem execGraceExpiry_within {port s} : WithinX 0x810028000000000000010000000000000000000003e s (execGraceExpiry port s) := by
  unfold execGraceExpiry
  refine WithinX.app (onInstance_within rfl ?_) (sub_self _) ?_
  · intro x1 t2
    refine Within.trans ?_ (whenFab_within rfl ?_)
    · exact Within.refl
    · intro t3
      split
      · rename_i x4 h5
        exact Within.refl
      · rename_i x6 x7 h8
        refine Within.app flushPort_within rfl ?_
        refine Within.app updFport_within rfl ?_
        refine Within.app State.advanceTo_within rfl ?_
        exact Within.refl
  · exact Within.refl

theorem sendPfc_within {n p quanta s} : Within 0x8000000000000000000000000000000000000000006 s (sendPfc n p quanta s) := by
  unfold sendPfc
  refine Within.app updFport_within rfl ?_
  refine Within.app State.emit_within rfl ?_
  exact Within.refl

theorem pfcCheck_within {n p s} : Within 0x8000000000000000000000000000000000000000006 s (pfcCheck n p s) := by
  unfold pfcCheck
  refine Within.ite ?_ ?_
  · refine Within.app sendPfc_within rfl ?_
    exact Within.refl
  · exact Within.refl

theorem chargeFrame_within {n p len s} : WithinO 0x8000180000000000000000000000000000000000000 s (chargeFrame n p len s) := by
  unfold chargeFrame
  refine WithinO.ite ?_ ?_
  · refine WithinO.some ?_
    refine Within2.snd ?_
    refine Within2.app storePacket_within rfl ?_
    exact Within.refl
  · refine WithinO.ite ?_ ?_
    · split
      rename_i x1 x2 t3 h4
      have ht3 : Within 0x8000180000000000000000000000000000000000000 s t3 := by
        refine Within2.of h4 ?_
        refine Within2.app storePacket_within rfl ?_
        exact Within.refl
      refine WithinO.some ?_
      refine Within2.snd ?_
      refine Within2.mk ?_
      refine Within.updFab ?_ rfl
      exact ht3
    · exact WithinO.none

theorem etherReceive_within {n b fcsOk s} : Within 0x289203e2ab060d4627801fff02001f0304000d40003e s (etherReceive n b fcsOk s) := by
  unfold etherReceive
  refine Within.ite ?_ ?_
  · refine Within.app State.count_within rfl ?_
    exact Within.refl
  · extract_lets v1
    split
    · rename_i x2 h3
      refine Within.app State.count_within rfl ?_
      exact Within.refl
    · rename_i x4 x5 t6 h7
      have ht6 : Within 0x289203e2ab060d4627801fff02001f0304000d40003e s t6 := by
        refine WithinO.of h7 ?_
        refine WithinO.app chargeFrame_within rfl ?_
        exact Within.refl
      extract_lets v8 v9 v10
      have hv8 : Within 0x289203e2ab060d4627801fff02001f0304000d40003e s v8 := by
        unfold v8
        refine Within.app pfcCheck_within rfl ?_
        exact ht6
      clear_value v8
      have hv9 : Within 0x289203e2ab060d4627801fff02001f0304000d40003e s v9 := by
        unfold v9
        refine Within.app State.count_within rfl ?_
        refine Within.app State.count_within rfl ?_
        exact hv8
      clear_value v9
      have hv10 : Within 0x289203e2ab060d4627801fff02001f0304000d40003e s v10 := by
        unfold v10
        refine Within.app mirrorCopies_within rfl ?_
        exact hv9
      clear_value v10
      split
      · rename_i x11 t12 h13
        have ht12 : Within 0x289203e2ab060d4627801fff02001f0304000d40003e s t12 := by
          refine Within2.of h13 ?_
          refine Within2.app frameIn_within rfl ?_
          exact hv10
        refine Within.app fabSettle_within rfl ?_
        exact ht12
      · rename_i x14 t15 h16
        have ht15 : Within 0x289203e2ab060d4627801fff02001f0304000d40003e s t15 := by
          refine Within2.of h16 ?_
          refine Within2.app frameIn_within rfl ?_
          exact hv10
        refine Within.app fabSettle_within rfl ?_
        refine Within.app State.count_within rfl ?_
        exact ht15

theorem execEthernetFrameReceive_within {port bytes fcsOk s} :
    WithinX 0x289203e2ab060d4627801fff02001f0304000d40003e s (execEthernetFrameReceive port bytes fcsOk s) := by
  unfold execEthernetFrameReceive
  refine WithinX.app (onInstance_within rfl ?_) (sub_self _) ?_
  · intro x1 t2
    refine Within.trans ?_ (whenFab_within rfl ?_)
    · exact Within.refl
    · intro t3
      refine Within.ite ?_ ?_
      · refine Within.app etherReceive_within rfl ?_
        exact Within.refl
      · exact Within.refl
  · exact Within.refl

theorem execPfcFrameReceive_within {port quanta s} :
    WithinX 0x8000000000000000000000000000000000000000008 s (execPfcFrameReceive port quanta s) := by
  unfold execPfcFrameReceive
  refine WithinX.app (onInstance_within rfl ?_) (sub_self _) ?_
  · intro x1 t2
    refine Within.trans ?_ (whenFab_within rfl ?_)
    · exact Within.refl
    · intro t3
      refine Within.ite ?_ ?_
      · exact Within.refl
      · refine Within.foldl ?_ ?_
        · intro t4 x5
          refine Within.app updFport_within rfl ?_
          exact Within.refl
        · exact Within.refl
  · exact Within.refl

theorem execPfcRefresh_within {port prio s} : WithinX 0x800000000000000000000000000000000000000003e s (execPfcRefresh port prio s) := by
  unfold execPfcRefresh
  refine WithinX.app (onInstance_within rfl ?_) (sub_self _) ?_
  · intro x1 t2
    refine Within.trans ?_ (whenFab_within rfl ?_)
    · exact Within.refl
    · intro t3
      split
      · rename_i x4 h5
        exact Within.refl
      · rename_i x6 x7 h8
        refine Within.ite ?_ ?_
        · refine Within.app updFport_within rfl ?_
          exact Within.refl
        · refine Within.ite ?_ ?_
          · refine Within.app sendPfc_within rfl ?_
            exact Within.refl
          · refine Within.app sendPfc_within rfl ?_
            refine Within.app State.advanceTo_within rfl ?_
            exact Within.refl
  · exact Within.refl

theorem execPfcPauseExpiry_within {port prio s} :
    WithinX 0x8000000000000000000000000000000000000000038 s (execPfcPauseExpiry port prio s) := by
  unfold execPfcPauseExpiry
  refine WithinX.app (onInstance_within rfl ?_) (sub_self _) ?_
  · intro x1 t2
    refine Within.trans ?_ (whenFab_within rfl ?_)
    · exact Within.refl
    · intro t3
      split
      · rename_i x4 h5
        exact Within.refl
      · rename_i x6 x7 h8
        refine Within.app updFport_within rfl ?_
        refine Within.app State.advanceTo_within rfl ?_
        exact Within.refl
  · exact Within.refl

theorem ethLanesLost_within {n s} : Within 0x38000000000000000000000000000000000000000000 s (ethLanesLost n s) := by
  unfold ethLanesLost
  refine Within.foldl ?_ ?_
  · intro t1 x2
    refine Within.ite ?_ ?_
    · refine Within.app toFull_within rfl ?_
      refine Within.app updLane_within rfl ?_
      exact Within.refl
    · exact Within.refl
  · refine Within.app updFport_within rfl ?_
    exact Within.refl

theorem execEthernetPortDown_within {port s} : WithinX 0x3800000000060d400780100002001f0200000000000e s (execEthernetPortDown port s) := by
  unfold execEthernetPortDown
  refine WithinX.app (onInstance_within rfl ?_) (sub_self _) ?_
  · intro x1 t2
    refine Within.trans ?_ (whenFab_within rfl ?_)
    · exact Within.refl
    · intro t3
      refine Within.ite ?_ ?_
      · exact Within.refl
      · refine Within.app ethLanesLost_within rfl ?_
        refine Within.app allEndpoints_within rfl ?_
        refine Within.app State.count_within rfl ?_
        exact Within.refl
  · exact Within.refl

end Sys2Proof.Machine
end

