-- ==== Sys2Proof/Laws/WithinLane.lean ====
section
/-! SUPPORT. What each operation of Machine/Lane.lean, Machine/Power.lean, Machine/Hif.lean, Machine/Clock.lean can do, as one lemma
of the form of Laws/Within.lean. The numeral is the set of parts it may change. -/

namespace Sys2Proof.Machine

theorem lanesActive_within {n m' s} : Within 0x10000000000000000000000000000000000000000000 s (lanesActive n m' s) := by
  unfold lanesActive
  refine Within.foldl ?_ ?_
  · intro t1 x2
    refine Within.ite ?_ ?_
    · refine Within.app updLane_within rfl ?_
      exact Within.refl
    · exact Within.refl
  · exact Within.refl

theorem useLanes_within {n s} : Within 0x18000000000000000000000000000000000000000000 s (useLanes n s) := by
  unfold useLanes
  refine Within.app takeMap_within rfl ?_
  refine Within.app updFport_within rfl ?_
  refine Within.app lanesActive_within rfl ?_
  exact Within.refl

theorem formLock_within {n s} : Within 0x1810028000060d400780100002001f0304000d400006 s (formLock n s) := by
  unfold formLock
  refine Within.ite ?_ ?_
  · exact Within.refl
  · extract_lets v1 v2
    have hv2 : Within 0x1810028000060d400780100002001f0304000d400006 s v2 := by
      unfold v2
      refine Within.app useLanes_within rfl ?_
      exact Within.refl
    clear_value v2
    refine Within.ite ?_ ?_
    · refine Within.app report_within rfl ?_
      exact hv2
    · exact hv2

theorem tryLock_within {n s} : Within 0x1810028000060d400780100002001f0304000d400006 s (tryLock n s) := by
  unfold tryLock
  extract_lets v1
  refine Within.ite ?_ ?_
  · exact Within.refl
  · refine Within.ite ?_ ?_
    · refine Within.ite ?_ ?_
      · refine Within.app lanesActive_within rfl ?_
        exact Within.refl
      · exact Within.refl
    · refine Within.ite ?_ ?_
      · exact Within.refl
      · refine Within.ite ?_ ?_
        · refine Within.app formLock_within rfl ?_
          exact Within.refl
        · exact Within.refl

theorem lockLost_within {n lane s} : Within 0x3810028000060d400780100002001f0304000d400006 s (lockLost n lane s) := by
  unfold lockLost
  extract_lets v1 v2 v3
  have hv2 : ∀ t4, Within 0x3810028000060d400780100002001f0304000d400006 t4 (v2 t4) := by
    intro t4
    unfold v2
    refine Within.app updFport_within rfl ?_
    exact Within.refl
  clear_value v2
  have hv3 : Within 0x3810028000060d400780100002001f0304000d400006 s v3 := by
    unfold v3
    refine Within.app updFport_within rfl ?_
    refine Within.app report_within rfl ?_
    exact Within.refl
  clear_value v3
  split
  · rename_i x5 h6
    refine Within.app tryLock_within rfl ?_
    refine Within.trans ?_ (hv2 _)
    refine Within.app linkDown_within rfl ?_
    exact Within.refl
  · rename_i x7 h8
    refine Within.app tryLock_within rfl ?_
    refine Within.trans ?_ (hv2 _)
    exact hv3
  · rename_i x9 ih ih
    refine Within.app tryLock_within rfl ?_
    refine Within.trans ?_ (hv2 _)
    refine Within.app report_within rfl ?_
    exact Within.refl

theorem laneLost_within {l silent signal s} : Within 0x3810028000060d400780100002001f0304000d400006 s (laneLost l silent signal s) := by
  unfold laneLost
  extract_lets v1 v2
  have hv2 : Within 0x3810028000060d400780100002001f0304000d400006 s v2 := by
    unfold v2
    refine Within.app toFast_within rfl ?_
    refine Within.app updLane_within rfl ?_
    refine Within.app State.count_within rfl ?_
    exact Within.refl
  clear_value v2
  refine Within.ite ?_ ?_
  · refine Within.app lockLost_within rfl ?_
    exact hv2
  · exact hv2

theorem laneReady_within {l s} : Within 0x1810028000060d400780100002001f0304000d40000e s (laneReady l s) := by
  unfold laneReady
  extract_lets v1
  split
  rename_i x2 x3 t4 h5
  have ht4 : Within 0x1810028000060d400780100002001f0304000d40000e s t4 := by
    refine Within2.of h5 ?_
    refine Within2.app State.drawNat_within rfl ?_
    exact Within.refl
  extract_lets v6 v7 v8
  have hv6 : Within 0x1810028000060d400780100002001f0304000d40000e s v6 := by
    unfold v6
    refine Within.app State.setReg_within rfl ?_
    exact ht4
  clear_value v6
  have hv7 : Within 0x1810028000060d400780100002001f0304000d40000e s v7 := by
    unfold v7
    refine Within.app updLane_within rfl ?_
    exact hv6
  clear_value v7
  have hv8 : Within 0x1810028000060d400780100002001f0304000d40000e s v8 := by
    unfold v8
    refine Within.app updFport_within rfl ?_
    exact hv7
  clear_value v8
  refine Within.app tryLock_within rfl ?_
  exact hv8

theorem chkFlush_within {l s} : Within 0x10000000000000000000100000000000000000000000 s (chkFlush l s) := by
  unfold chkFlush
  split
  rename_i x1 x2 x3 h4
  refine Within.app updLane_within rfl ?_
  refine Within.app chkEnd_within rfl ?_
  exact Within.refl

theorem chkTouch_within {l s} : Within 0x10000000000000000000100000000000000000000000 s (chkTouch l s) := by
  unfold chkTouch
  extract_lets v1 v2 v3
  have hv1 : Within 0x10000000000000000000100000000000000000000000 s v1 := by
    unfold v1
    refine Within.app chkFlush_within rfl ?_
    exact Within.refl
  clear_value v1
  refine Within.ite ?_ ?_
  · exact hv1
  · refine Within.app updLane_within rfl ?_
    exact hv1

theorem execTrainingFrameReceive_within {lane status sync inverted s} :
    WithinX 0x1810028000060d400780100002001f0304000d40000e s (execTrainingFrameReceive lane status sync inverted s) := by
  unfold execTrainingFrameReceive
  refine WithinX.app (onInstance_within rfl ?_) (sub_self _) ?_
  · intro x1 t2
    refine Within.trans ?_ (whenFab_within rfl ?_)
    · exact Within.refl
    · intro t3
      extract_lets v4 v5 v6 v7 v8 v9 v10 v11 v12
      have hv11 : Within 0x1810028000060d400780100002001f0304000d40000e t3 v11 := by
        unfold v11
        refine Within.app updLane_within rfl ?_
        exact Within.refl
      clear_value v11
      have hv12 : Within 0x1810028000060d400780100002001f0304000d40000e t3 v12 := by
        unfold v12
        refine Within.ite ?_ ?_
        · exact hv11
        · refine Within.app sendTraining_within rfl ?_
          exact hv11
      clear_value v12
      refine Within.ite ?_ ?_
      · exact Within.refl
      · refine Within.ite ?_ ?_
        · refine Within.app updLane_within rfl ?_
          exact Within.refl
        · refine Within.ite ?_ ?_
          · refine Within.app chkTouch_within rfl ?_
            refine Within.app updLane_within rfl ?_
            exact Within.refl
          · refine Within.ite ?_ ?_
            · refine Within.app laneReady_within rfl ?_
              exact hv12
            · exact hv12
  · exact Within.refl

theorem mapDiffers_within {n m' s} : Within 0x3810028000060d400780100002001f0304000d400006 s (mapDiffers n m' s) := by
  unfold mapDiffers
  extract_lets v1 v2 v3
  have hv2 : Within 0x3810028000060d400780100002001f0304000d400006 s v2 := by
    unfold v2
    refine Within.ite ?_ ?_
    · refine Within.app linkDown_within rfl ?_
      exact Within.refl
    · exact Within.refl
  clear_value v2
  have hv3 : Within 0x3810028000060d400780100002001f0304000d400006 s v3 := by
    unfold v3
    refine Within.app updFport_within rfl ?_
    exact hv2
  clear_value v3
  refine Within.ite ?_ ?_
  · refine Within.app updFport_within rfl ?_
    refine Within.app takeMap_within rfl ?_
    exact hv3
  · refine Within.app report_within rfl ?_
    refine Within.app takeMap_within rfl ?_
    exact hv3

theorem markersFound_within {n m' s} : Within 0x3892038001060d400780100002001f0304000d40000e s (markersFound n m' s) := by
  unfold markersFound
  extract_lets v1 v2 v3
  have hv2 : Within 0x3892038001060d400780100002001f0304000d40000e s v2 := by
    unfold v2
    refine Within.app updFport_within rfl ?_
    exact Within.refl
  clear_value v2
  have hv3 : Within 0x3892038001060d400780100002001f0304000d40000e s v3 := by
    unfold v3
    refine Within.app updFport_within rfl ?_
    exact hv2
  clear_value v3
  refine Within.ite ?_ ?_
  · refine Within.app mapDiffers_within rfl ?_
    exact Within.refl
  · refine Within.ite ?_ ?_
    · refine Within.app fabSettle_within rfl ?_
      refine Within.app updFport_within rfl ?_
      exact hv2
    · refine Within.app sendCtl_within rfl ?_
      exact hv3

theorem ethPortUp_within {n s} : Within 0x1800000000060d400780100002001f02000000000006 s (ethPortUp n s) := by
  unfold ethPortUp
  extract_lets v1 v2 v3
  have hv2 : Within 0x1800000000060d400780100002001f02000000000006 s v2 := by
    unfold v2
    refine Within.foldl ?_ ?_
    · intro t4 x5
      refine Within.app updLane_within rfl ?_
      exact Within.refl
    · exact Within.refl
  clear_value v2
  have hv3 : Within 0x1800000000060d400780100002001f02000000000006 s v3 := by
    unfold v3
    refine Within.app updFport_within rfl ?_
    exact hv2
  clear_value v3
  refine Within.app allEndpoints_within rfl ?_
  exact hv3

theorem execPortLockFormed_within {port m' s} :
    WithinX 0x3892038001060d400780100002001f0304000d40000e s (execPortLockFormed port m' s) := by
  unfold execPortLockFormed
  refine WithinX.app (onInstance_within rfl ?_) (sub_self _) ?_
  · intro x1 t2
    refine Within.trans ?_ (whenFab_within rfl ?_)
    · exact Within.refl
    · intro t3
      extract_lets v4
      refine Within.ite ?_ ?_
      · exact Within.refl
      · refine Within.ite ?_ ?_
        · refine Within.ite ?_ ?_
          · refine Within.app ethPortUp_within rfl ?_
            exact Within.refl
          · exact Within.refl
        · refine Within.ite ?_ ?_
          · exact Within.refl
          · refine Within.ite ?_ ?_
            · exact Within.refl
            · refine Within.ite ?_ ?_
              · refine Within.app lockLost_within rfl ?_
                exact Within.refl
              · refine Within.app markersFound_within rfl ?_
                exact Within.refl
  · exact Within.refl

theorem markersLost_within {n s} : Within 0x3810028000060d400780100002001f0304000d400006 s (markersLost n s) := by
  unfold markersLost
  refine Within.ite ?_ ?_
  · refine Within.app linkDown_within rfl ?_
    exact Within.refl
  · refine Within.app lockLost_within rfl ?_
    exact Within.refl

theorem execPortLockLoss_within {port s} : WithinX 0x3810028000060d400780100002001f0304000d40000e s (execPortLockLoss port s) := by
  unfold execPortLockLoss
  refine WithinX.app (onInstance_within rfl ?_) (sub_self _) ?_
  · intro x1 t2
    refine Within.trans ?_ (whenFab_within rfl ?_)
    · exact Within.refl
    · intro t3
      refine Within.ite ?_ ?_
      · exact Within.refl
      · refine Within.app markersLost_within rfl ?_
        exact Within.refl
  · exact Within.refl

theorem markerMissed_within {n s} : Within 0x3810028000060d400780100002001f0304000d400006 s (markerMissed n s) := by
  unfold markerMissed
  extract_lets v1
  have hv1 : Within 0x3810028000060d400780100002001f0304000d400006 s v1 := by
    unfold v1
    refine Within.app updFport_within rfl ?_
    exact Within.refl
  clear_value v1
  refine Within.ite ?_ ?_
  · refine Within.app markersLost_within rfl ?_
    exact hv1
  · exact hv1

theorem execMarkerBlockReceive_within {port b s} :
    WithinX 0x3892038001060d400780100002001f0304000d40000e s (execMarkerBlockReceive port b s) := by
  unfold execMarkerBlockReceive
  refine WithinX.app (onInstance_within rfl ?_) (sub_self _) ?_
  · intro x1 t2
    refine Within.trans ?_ (whenFab_within rfl ?_)
    · exact Within.refl
    · intro t3
      extract_lets v4 v5 v6
      have hv5 : Within 0x3892038001060d400780100002001f0304000d40000e t3 v5 := by
        unfold v5
        refine Within.ite ?_ ?_
        · exact Within.refl
        · refine Within.foldl ?_ ?_
          · intro t7 x8
            refine Within.app codewordIn_within rfl ?_
            exact Within.refl
          · exact Within.refl
      clear_value v5
      refine Within.ite ?_ ?_
      · exact hv5
      · refine Within.ite ?_ ?_
        · refine Within.app markerMissed_within rfl ?_
          refine Within.app linkError_within rfl ?_
          exact hv5
        · refine Within.ite ?_ ?_
          · refine Within.app markerMissed_within rfl ?_
            exact hv5
          · refine Within.ite ?_ ?_
            · refine Within.app mapDiffers_within rfl ?_
              exact hv5
            · refine Within.app markerTaken_within rfl ?_
              exact hv5
  · exact Within.refl

theorem execDegradeWaitExpiry_within {port s} :
    WithinX 0x1810028000060d400780100002001f0304000d40003e s (execDegradeWaitExpiry port s) := by
  unfold execDegradeWaitExpiry
  refine WithinX.app (onInstance_within rfl ?_) (sub_self _) ?_
  · intro x1 t2
    refine Within.trans ?_ (whenFab_within rfl ?_)
    · exact Within.refl
    · intro t3
      extract_lets v4
      split
      · rename_i x5 h6
        exact Within.refl
      · rename_i x7 x8 h9
        refine Within.ite ?_ ?_
        · exact Within.refl
        · refine Within.app tryLock_within rfl ?_
          refine Within.app State.advanceTo_within rfl ?_
          exact Within.refl
  · exact Within.refl

theorem execRejoinWaitExpiry_within {port s} : WithinX 0x1810028000060d400780100002001f0304000d40003e s (execRejoinWaitExpiry port s) := by
  unfold execRejoinWaitExpiry
  refine WithinX.app (onInstance_within rfl ?_) (sub_self _) ?_
  · intro x1 t2
    refine Within.trans ?_ (whenFab_within rfl ?_)
    · exact Within.refl
    · intro t3
      extract_lets v4
      refine Within.ite ?_ ?_
      · exact Within.refl
      · refine Within.app tryLock_within rfl ?_
        refine Within.app State.advanceTo_within rfl ?_
        exact Within.refl
  · exact Within.refl

theorem activeLeft_within {l s} : Within 0x3810028000060d400780100002001f0304000d400006 s (activeLeft l s) := by
  unfold activeLeft
  extract_lets v1 v2 v3
  have hv2 : Within 0x3810028000060d400780100002001f0304000d400006 s v2 := by
    unfold v2
    refine Within.ite ?_ ?_
    · refine Within.app linkDown_within rfl ?_
      exact Within.refl
    · refine Within.ite ?_ ?_
      · refine Within.app report_within rfl ?_
        refine Within.app updFport_within rfl ?_
        exact Within.refl
      · refine Within.app updFport_within rfl ?_
        exact Within.refl
  clear_value v2
  have hv3 : Within 0x3810028000060d400780100002001f0304000d400006 s v3 := by
    unfold v3
    refine Within.app updFport_within rfl ?_
    exact hv2
  clear_value v3
  refine Within.ite ?_ ?_
  · refine Within.app ethLanesLost_within rfl ?_
    refine Within.ite ?_ ?_
    · refine Within.app allEndpoints_within rfl ?_
      refine Within.app State.count_within rfl ?_
      exact Within.refl
    · exact Within.refl
  · refine Within.ite ?_ ?_
    · refine Within.app useLanes_within rfl ?_
      exact hv3
    · exact hv3

theorem execLaneLockLoss_within {lane s} : WithinX 0x3810028000060d400780100002001f0304000d40000e s (execLaneLockLoss lane s) := by
  unfold execLaneLockLoss
  refine WithinX.app (onInstance_within rfl ?_) (sub_self _) ?_
  · intro x1 t2
    refine Within.trans ?_ (whenFab_within rfl ?_)
    · exact Within.refl
    · intro t3
      extract_lets v4 v5
      have hv5 : Within 0x3810028000060d400780100002001f0304000d40000e t3 v5 := by
        unfold v5
        refine Within.app chkTouch_within rfl ?_
        refine Within.app updLane_within rfl ?_
        refine Within.app State.count_within rfl ?_
        exact Within.refl
      clear_value v5
      refine Within.ite ?_ ?_
      · refine Within.app activeLeft_within rfl ?_
        refine Within.app State.count_within rfl ?_
        exact Within.refl
      · refine Within.ite ?_ ?_
        · exact Within.refl
        · refine Within.ite ?_ ?_
          · refine Within.app laneLost_within rfl ?_
            exact Within.refl
          · refine Within.ite ?_ ?_
            · refine Within.ite ?_ ?_
              · refine Within.app sendTraining_within rfl ?_
                exact hv5
              · exact hv5
            · exact Within.refl
  · exact Within.refl

theorem execLaneSignalLoss_within {lane s} : WithinX 0x3810028000060d400780100002001f0304000d40000e s (execLaneSignalLoss lane s) := by
  unfold execLaneSignalLoss
  refine WithinX.app (onInstance_within rfl ?_) (sub_self _) ?_
  · intro x1 t2
    refine Within.trans ?_ (whenFab_within rfl ?_)
    · exact Within.refl
    · intro t3
      extract_lets v4 v5
      refine Within.ite ?_ ?_
      · refine Within.app activeLeft_within rfl ?_
        refine Within.app State.count_within rfl ?_
        exact Within.refl
      · refine Within.ite ?_ ?_
        · exact Within.refl
        · refine Within.ite ?_ ?_
          · refine Within.app chkTouch_within rfl ?_
            refine Within.app updLane_within rfl ?_
            exact Within.refl
          · refine Within.app laneLost_within rfl ?_
            exact Within.refl
  · exact Within.refl

theorem execQuietHoldExpiry_within {lane s} : WithinX 0x1000000000000000000000000000000000000000003e s (execQuietHoldExpiry lane s) := by
  unfold execQuietHoldExpiry
  refine WithinX.app (onInstance_within rfl ?_) (sub_self _) ?_
  · intro x1 t2
    refine Within.trans ?_ (whenFab_within rfl ?_)
    · exact Within.refl
    · intro t3
      extract_lets v4 v5
      have hv5 : Within 0x1000000000000000000000000000000000000000003e t3 v5 := by
        unfold v5
        refine Within.app State.advanceTo_within rfl ?_
        exact Within.refl
      clear_value v5
      refine Within.ite ?_ ?_
      · exact Within.refl
      · refine Within.app sendTraining_within rfl ?_
        refine Within.app updLane_within rfl ?_
        exact hv5
  · exact Within.refl

theorem execFastTmoExpiry_within {lane s} : WithinX 0x3810028000060d400780100002001f0304000d40003e s (execFastTmoExpiry lane s) := by
  unfold execFastTmoExpiry
  refine WithinX.app (onInstance_within rfl ?_) (sub_self _) ?_
  · intro x1 t2
    refine Within.trans ?_ (whenFab_within rfl ?_)
    · exact Within.refl
    · intro t3
      extract_lets v4 v5 v6 v7
      have hv7 : Within 0x3810028000060d400780100002001f0304000d40003e t3 v7 := by
        unfold v7
        refine Within.app toFull_within rfl ?_
        refine Within.app State.advanceTo_within rfl ?_
        exact Within.refl
      clear_value v7
      refine Within.ite ?_ ?_
      · split
        · rename_i x8 x9 h10
          refine Within.ite ?_ ?_
          · refine Within.app lockLost_within rfl ?_
            refine Within.app State.advanceTo_within rfl ?_
            exact Within.refl
          · exact Within.refl
        · rename_i x11 h12
          exact Within.refl
      · refine Within.ite ?_ ?_
        · refine Within.app lockLost_within rfl ?_
          exact hv7
        · exact hv7
  · exact Within.refl

theorem execFullTmoExpiry_within {lane s} : WithinX 0x3810028000060d400780100002001f0304000d40003e s (execFullTmoExpiry lane s) := by
  unfold execFullTmoExpiry
  refine WithinX.app (onInstance_within rfl ?_) (sub_self _) ?_
  · intro x1 t2
    refine Within.trans ?_ (whenFab_within rfl ?_)
    · exact Within.refl
    · intro t3
      extract_lets v4 v5 v6 v7
      have hv5 : Within 0x3810028000060d400780100002001f0304000d40003e t3 v5 := by
        unfold v5
        refine Within.app State.count_within rfl ?_
        refine Within.app State.advanceTo_within rfl ?_
        exact Within.refl
      clear_value v5
      have hv6 : Within 0x3810028000060d400780100002001f0304000d40003e t3 v6 := by
        unfold v6
        refine Within.app updLane_within rfl ?_
        exact hv5
      clear_value v6
      have hv7 : Within 0x3810028000060d400780100002001f0304000d40003e t3 v7 := by
        unfold v7
        refine Within.app updLane_within rfl ?_
        exact hv6
      clear_value v7
      refine Within.ite ?_ ?_
      · exact Within.refl
      · refine Within.ite ?_ ?_
        · refine Within.app sendTraining_within rfl ?_
          exact hv6
        · refine Within.app laneDomainOff_within rfl ?_
          refine Within.app tryLock_within rfl ?_
          exact hv7
  · exact Within.refl

theorem execQuietIdleExpiry_within {port s} : WithinX 0x8000000000000000000000000000000000000000038 s (execQuietIdleExpiry port s) := by
  unfold execQuietIdleExpiry
  refine WithinX.app (onInstance_within rfl ?_) (sub_self _) ?_
  · intro x1 t2
    refine Within.trans ?_ (whenFab_within rfl ?_)
    · exact Within.refl
    · intro t3
      extract_lets v4 v5
      have hv5 : Within 0x8000000000000000000000000000000000000000038 t3 v5 := by
        unfold v5
        refine Within.app State.advanceTo_within rfl ?_
        exact Within.refl
      clear_value v5
      refine Within.ite ?_ ?_
      · exact Within.refl
      · refine Within.app updFport_within rfl ?_
        exact hv5
  · exact Within.refl

theorem execQuietWake_within {port s} : WithinX 0x3800000000000000000000000000000000000000000e s (execQuietWake port s) := by
  unfold execQuietWake
  refine WithinX.app (onInstance_within rfl ?_) (sub_self _) ?_
  · intro x1 t2
    refine Within.trans ?_ (whenFab_within rfl ?_)
    · exact Within.refl
    · intro t3
      refine Within.ite ?_ ?_
      · exact Within.refl
      · extract_lets v4
        have hv4 : Within 0x3800000000000000000000000000000000000000000e t3 v4 := by
          unfold v4
          refine Within.app updFport_within rfl ?_
          exact Within.refl
        clear_value v4
        refine Within.foldl ?_ ?_
        · intro t5 x6
          refine Within.ite ?_ ?_
          · refine Within.app toFast_within rfl ?_
            refine Within.app updLane_within rfl ?_
            exact Within.refl
          · exact Within.refl
        · exact hv4
  · exact Within.refl

theorem portRelease_within {n next s} : Within 0x810028000060d400780100002001f02000000000006 s (portRelease n next s) := by
  unfold portRelease
  extract_lets v1 v2 v3
  have hv2 : Within 0x810028000060d400780100002001f02000000000006 s v2 := by
    unfold v2
    refine Within.ite ?_ ?_
    · refine Within.app allEndpoints_within rfl ?_
      refine Within.app State.count_within rfl ?_
      exact Within.refl
    · exact Within.refl
  clear_value v2
  have hv3 : Within 0x810028000060d400780100002001f02000000000006 s v3 := by
    unfold v3
    refine Within.app flushPort_within rfl ?_
    exact hv2
  clear_value v3
  refine Within.app updFport_within rfl ?_
  exact hv3

theorem portEnable_within {n s} : Within 0x38000000000000000000000000000000000000000000 s (portEnable n s) := by
  unfold portEnable
  refine Within.ite ?_ ?_
  · exact Within.refl
  · extract_lets v1
    have hv1 : Within 0x38000000000000000000000000000000000000000000 s v1 := by
      unfold v1
      refine Within.ite ?_ ?_
      · refine Within.app updFport_within rfl ?_
        exact Within.refl
      · exact Within.refl
    clear_value v1
    refine Within.foldl ?_ ?_
    · intro t2 x3
      refine Within.app laneStart_within rfl ?_
      exact Within.refl
    · exact hv1

theorem portDisable_within {n s} : Within 0x3810028000060d400780100002001f02000000000006 s (portDisable n s) := by
  unfold portDisable
  refine Within.foldl ?_ ?_
  · intro t1 x2
    refine Within.app laneOff_within rfl ?_
    exact Within.refl
  · refine Within.app portRelease_within rfl ?_
    exact Within.refl

theorem portRetrain_within {n rate s} : Within 0x3810028000060d400780100002001f02000000000006 s (portRetrain n rate s) := by
  unfold portRetrain
  extract_lets v1
  have hv1 : Within 0x3810028000060d400780100002001f02000000000006 s v1 := by
    unfold v1
    refine Within.app portRelease_within rfl ?_
    exact Within.refl
  clear_value v1
  refine Within.foldl ?_ ?_
  · intro t2 x3
    extract_lets v4 v5
    have hv4 : Within 0x3810028000060d400780100002001f02000000000006 t2 v4 := by
      unfold v4
      refine Within.ite ?_ ?_
      · refine Within.app updLane_within rfl ?_
        exact Within.refl
      · exact Within.refl
    clear_value v4
    refine Within.ite ?_ ?_
    · exact hv4
    · refine Within.ite ?_ ?_
      · refine Within.app laneStart_within rfl ?_
        refine Within.app laneOff_within rfl ?_
        exact hv4
      · refine Within.ite ?_ ?_
        · refine Within.app laneStart_within rfl ?_
          exact hv4
        · refine Within.ite ?_ ?_
          · exact hv4
          · refine Within.ite ?_ ?_
            · refine Within.app toFull_within rfl ?_
              refine Within.app dropLaneReq_within rfl ?_
              exact hv4
            · refine Within.app toFast_within rfl ?_
              exact hv4
  · exact hv1

theorem testDrives_within {l s} : Within 0x10000000000000000000100000000000000000000006 s (testDrives l s) := by
  unfold testDrives
  refine Within.app chkTouch_within rfl ?_
  refine Within.ite ?_ ?_
  · refine Within.app updLane_within rfl ?_
    refine Within.app State.emit_within rfl ?_
    exact Within.refl
  · refine Within.app updLane_within rfl ?_
    refine Within.app State.emit_within rfl ?_
    exact Within.refl

theorem laneTestDrive_within {l s} : Within 0x30000000000000000000100000000000000000000006 s (laneTestDrive l s) := by
  unfold laneTestDrive
  extract_lets v1
  have hv1 : Within 0x30000000000000000000100000000000000000000006 s v1 := by
    unfold v1
    refine Within.app dropLeave_within rfl ?_
    exact Within.refl
  clear_value v1
  refine Within.ite ?_ ?_
  · exact hv1
  · refine Within.ite ?_ ?_
    · refine Within.app testDrives_within rfl ?_
      exact hv1
    · refine Within.ite ?_ ?_
      · refine Within.app askLeave_within rfl ?_
        refine Within.app updLane_within rfl ?_
        exact hv1
      · refine Within.app updLane_within rfl ?_
        exact hv1

theorem laneTestChanged_within {l s} : Within 0x30000000000000000000100000000000000000000006 s (laneTestChanged l s) := by
  unfold laneTestChanged
  refine Within.ite ?_ ?_
  · exact Within.refl
  · refine Within.ite ?_ ?_
    · refine Within.app laneTestDrive_within rfl ?_
      refine Within.app chkTouch_within rfl ?_
      exact Within.refl
    · refine Within.ite ?_ ?_
      · refine Within.app testDrives_within rfl ?_
        exact Within.refl
      · refine Within.app chkTouch_within rfl ?_
        refine Within.app updLane_within rfl ?_
        exact Within.refl

theorem laneToTest_within {l s} : Within 0x3810028000060d400780100002001f0304000d400006 s (laneToTest l s) := by
  unfold laneToTest
  extract_lets v1 v2 v3
  have hv2 : Within 0x3810028000060d400780100002001f0304000d400006 s v2 := by
    unfold v2
    refine Within.app updLane_within rfl ?_
    refine Within.app dropLaneReq_within rfl ?_
    exact Within.refl
  clear_value v2
  have hv3 : Within 0x3810028000060d400780100002001f0304000d400006 s v3 := by
    unfold v3
    refine Within.app askExit_within rfl ?_
    exact hv2
  clear_value v3
  refine Within.ite ?_ ?_
  · exact Within.refl
  · refine Within.ite ?_ ?_
    · refine Within.app activeLeft_within rfl ?_
      exact hv3
    · exact hv3

theorem laneFromTest_within {l s} : Within 0x30000000000000000000100000000000000000000006 s (laneFromTest l s) := by
  unfold laneFromTest
  extract_lets v1
  have hv1 : Within 0x30000000000000000000100000000000000000000006 s v1 := by
    unfold v1
    refine Within.app chkFlush_within rfl ?_
    exact Within.refl
  clear_value v1
  refine Within.ite ?_ ?_
  · refine Within.app laneOff_within rfl ?_
    exact hv1
  · refine Within.ite ?_ ?_
    · refine Within.app toFull_within rfl ?_
      exact hv1
    · refine Within.app toFast_within rfl ?_
      exact hv1

theorem eyeStart_within {l s} : Within 0x10000000000000000000000000000002000000000000 s (eyeStart l s) := by
  unfold eyeStart
  refine Within.app updLane_within rfl ?_
  refine Within.app State.setReg_within rfl ?_
  exact Within.refl

theorem execEyeMeasureDone_within {lane snr height width s} :
    WithinX 0x10000000000000000000000000000002000000000008 s (execEyeMeasureDone lane snr height width s) := by
  unfold execEyeMeasureDone
  refine WithinX.app (onInstance_within rfl ?_) (sub_self _) ?_
  · intro x1 t2
    refine Within.trans ?_ (whenFab_within rfl ?_)
    · exact Within.refl
    · intro t3
      refine Within.ite ?_ ?_
      · exact Within.refl
      · extract_lets v4 v5
        have hv4 : Within 0x10000000000000000000000000000002000000000008 t3 v4 := by
          unfold v4
          refine Within.app updLane_within rfl ?_
          exact Within.refl
        clear_value v4
        have hv5 : Within 0x10000000000000000000000000000002000000000008 t3 v5 := by
          unfold v5
          refine Within.app State.setReg_within rfl ?_
          exact hv4
        clear_value v5
        refine Within.app State.setReg_within rfl ?_
        exact hv5
  · exact Within.refl

theorem injectOnce_within {l s} : Within 0x10000000000000000000000000000000000000000006 s (injectOnce l s) := by
  unfold injectOnce
  refine Within.ite ?_ ?_
  · refine Within.app updLane_within rfl ?_
    refine Within.app State.emit_within rfl ?_
    exact Within.refl
  · exact Within.refl

theorem refill_within {s} : Within 0x20000000000000000000000000000000000000000000 s (refill s) := by
  unfold refill
  refine Within.app updPwr_within rfl ?_
  exact Within.refl

theorem leaveGranted_within {op s} : Within 0x300000000000000000001fff46001f02000000000006 s (leaveGranted op s) := by
  unfold leaveGranted
  split
  · rename_i x1 x2
    refine Within.app raiseLevel_within rfl ?_
    exact Within.refl
  · rename_i x3 x4
    refine Within.app raiseLevel_within rfl ?_
    exact Within.refl
  · rename_i x5 x6
    refine Within.app updDomain_within rfl ?_
    exact Within.refl
  · rename_i x7 x8
    refine Within.app sendTraining_within rfl ?_
    refine Within.app updLane_within rfl ?_
    exact Within.refl
  · rename_i x9 x10
    refine Within.app updPwr_within rfl ?_
    exact Within.refl
  · rename_i x11 x12
    refine Within.app completeWhere_within rfl ?_
    refine Within.app updEngine_within rfl ?_
    exact Within.refl
  · rename_i x13 x14
    refine Within.app testDrives_within rfl ?_
    exact Within.refl
  · rename_i x15 x16
    refine Within.upd (e := s) ?_ rfl rfl rfl rfl rfl rfl rfl rfl
    exact Within.refl

theorem grantLeave_within {r s} : Within 0x300000000000000000001fff46001f02000000000006 s (grantLeave r s) := by
  unfold grantLeave
  extract_lets v1
  have hv1 : Within 0x300000000000000000001fff46001f02000000000006 s v1 := by
    unfold v1
    refine Within.app updPwr_within rfl ?_
    exact Within.refl
  clear_value v1
  refine Within.app leaveGranted_within rfl ?_
  exact hv1

theorem execLeaveGrant_within {demand s} : WithinX 0x300000000000000000001fff46001f02000000000036 s (execLeaveGrant demand s) := by
  unfold execLeaveGrant
  refine WithinX.next ?_
  refine Within.trans ?_ (whenFab_within rfl ?_)
  · exact Within.refl
  · intro t1
    extract_lets v2 v3
    have hv2 : Within 0x300000000000000000001fff46001f02000000000036 t1 v2 := by
      unfold v2
      refine Within.foldl ?_ ?_
      · intro t4 x5
        refine Within.app askLevel_within rfl ?_
        exact Within.refl
      · exact Within.refl
    clear_value v2
    have hv3 : Within 0x300000000000000000001fff46001f02000000000036 t1 v3 := by
      unfold v3
      refine Within.app refill_within rfl ?_
      exact hv2
    clear_value v3
    split
    · rename_i x6 h7
      exact hv2
    · rename_i x8 x9 h10
      extract_lets v11 v12 v13 v14
      have hv12 : Within 0x300000000000000000001fff46001f02000000000036 t1 v12 := by
        unfold v12
        refine Within.app refill_within rfl ?_
        refine Within.app State.advance_within rfl ?_
        exact hv3
      clear_value v12
      refine Within.ite ?_ ?_
      · refine Within.app grantLeave_within rfl ?_
        exact hv12
      · split
        · rename_i x15 h16
          refine Within.app State.count_within rfl ?_
          refine Within.app updPwr_within rfl ?_
          exact hv12
        · rename_i x17 x18 h19
          refine Within.app grantLeave_within rfl ?_
          refine Within.app refill_within rfl ?_
          refine Within.app State.advanceTo_within rfl ?_
          exact hv12

theorem execNoticeHoldExpiry_within {s} : WithinX 0x20000000000000000000000000000000000000000030 s (execNoticeHoldExpiry s) := by
  unfold execNoticeHoldExpiry
  refine WithinX.next ?_
  refine Within.trans ?_ (whenFab_within rfl ?_)
  · exact Within.refl
  · intro t1
    split
    · rename_i x2 h3
      exact Within.refl
    · rename_i x4 x5 h6
      refine Within.ite ?_ ?_
      · exact Within.refl
      · refine Within.app updPwr_within rfl ?_
        refine Within.app State.advanceTo_within rfl ?_
        exact Within.refl

theorem execArbAgeExpiry_within {s} : WithinX 0x20000000000000000000000000000000000000000030 s (execArbAgeExpiry s) := by
  unfold execArbAgeExpiry
  refine WithinX.next ?_
  refine Within.trans ?_ (whenFab_within rfl ?_)
  · exact Within.refl
  · intro t1
    extract_lets v2
    split
    · rename_i x3 h4
      exact Within.refl
    · rename_i x5 x6 h7
      extract_lets v8
      have hv8 : Within 0x20000000000000000000000000000000000000000030 t1 v8 := by
        unfold v8
        refine Within.app State.advanceTo_within rfl ?_
        exact Within.refl
      clear_value v8
      refine Within.app updHolds_within rfl ?_
      refine Within.app updPwr_within rfl ?_
      exact hv8

theorem execPredictorExitStart_within {dom s} :
    WithinX 0x20000000000000000000000000000000000000000030 s (execPredictorExitStart dom s) := by
  unfold execPredictorExitStart
  refine WithinX.next ?_
  refine Within.trans ?_ (whenFab_within rfl ?_)
  · exact Within.refl
  · intro t1
    split
    · rename_i x2 h3
      exact Within.refl
    · rename_i x4 x5 h6
      split
      · rename_i x7 h8
        exact Within.refl
      · rename_i x9 x10 h11
        refine Within.ite ?_ ?_
        · exact Within.refl
        · extract_lets v12
          have hv12 : Within 0x20000000000000000000000000000000000000000030 t1 v12 := by
            unfold v12
            refine Within.app State.advanceTo_within rfl ?_
            exact Within.refl
          clear_value v12
          refine Within.ite ?_ ?_
          · refine Within.app domainAgain_within rfl ?_
            exact hv12
          · refine Within.app askExit_within rfl ?_
            refine Within.app updDomain_within rfl ?_
            exact hv12

theorem loopOn_within {l s} : Within 0x10000000000000000000100000000000000000000006 s (loopOn l s) := by
  unfold loopOn
  refine Within.ite ?_ ?_
  · refine Within.app testDrives_within rfl ?_
    exact Within.refl
  · exact Within.refl

theorem domainOnAgain_within {dom d s} : Within 0x30000000000000000080100000000000000000000006 s (domainOnAgain dom d s) := by
  unfold domainOnAgain
  extract_lets v1 v2 v3
  have hv1 : Within 0x30000000000000000080100000000000000000000006 s v1 := by
    unfold v1
    refine Within.app updPwr_within rfl ?_
    exact Within.refl
  clear_value v1
  have hv2 : Within 0x30000000000000000080100000000000000000000006 s v2 := by
    unfold v2
    refine Within.foldl ?_ ?_
    · intro t4 x5
      refine Within.app enqueueReq_within rfl ?_
      exact Within.refl
    · exact hv1
  clear_value v2
  have hv3 : Within 0x30000000000000000080100000000000000000000006 s v3 := by
    unfold v3
    refine Within.ite ?_ ?_
    · refine Within.foldl ?_ ?_
      · intro t6 x7
        refine Within.app loopOn_within rfl ?_
        exact Within.refl
      · exact hv2
    · exact hv2
  clear_value v3
  refine Within.ite ?_ ?_
  · refine Within.app linkTrain_within rfl ?_
    refine Within.app linkTrain_within rfl ?_
    exact hv3
  · exact hv3

theorem execActivityDecayExpiry_within {dom s} :
    WithinX 0x20000000000000000000000000000000000000000030 s (execActivityDecayExpiry dom s) := by
  unfold execActivityDecayExpiry
  refine WithinX.next ?_
  refine Within.trans ?_ (whenFab_within rfl ?_)
  · exact Within.refl
  · intro t1
    extract_lets v2 v3
    have hv3 : Within 0x20000000000000000000000000000000000000000030 t1 v3 := by
      unfold v3
      refine Within.app State.advanceTo_within rfl ?_
      exact Within.refl
    clear_value v3
    refine Within.ite ?_ ?_
    · exact Within.refl
    · refine Within.app setActivity_within rfl ?_
      exact hv3

theorem execBcaCodeChange_within {code s} : WithinX 0x20000000000000000000100000000002000000000030 s (execBcaCodeChange code s) := by
  unfold execBcaCodeChange
  refine WithinX.next ?_
  refine Within.trans ?_ (whenFab_within rfl ?_)
  · exact Within.refl
  · intro t1
    extract_lets v2 v3 v4 v5 v6 v7
    have hv4 : Within 0x20000000000000000000100000000002000000000030 t1 v4 := by
      unfold v4
      refine Within.app updPwr_within rfl ?_
      exact Within.refl
    clear_value v4
    have hv6 : Within 0x20000000000000000000100000000002000000000030 t1 v6 := by
      unfold v6
      refine Within.app State.advance_within rfl ?_
      exact hv4
    clear_value v6
    have hv7 : Within 0x20000000000000000000100000000002000000000030 t1 v7 := by
      unfold v7
      refine Within.ite ?_ ?_
      · exact hv6
      · refine Within.app State.setReg_within rfl ?_
        exact hv6
    clear_value v7
    refine Within.ite ?_ ?_
    · exact hv4
    · refine Within.app reclass_within rfl ?_
      refine Within.app updHolds_within rfl ?_
      refine Within.app updPwr_within rfl ?_
      exact hv7

theorem execPowerFloorStep_within {watts amps s} :
    WithinX 0x21000000000000000000100000000000000000000030 s (execPowerFloorStep watts amps s) := by
  unfold execPowerFloorStep
  refine WithinX.next ?_
  refine Within.trans ?_ (whenFab_within rfl ?_)
  · exact Within.refl
  · intro t1
    extract_lets v2 v3 v4 v5 v6 v7 v8 v9 v10
    have hv2 : Within 0x21000000000000000000100000000000000000000030 t1 v2 := by
      unfold v2
      refine Within.app tick_within rfl ?_
      exact Within.refl
    clear_value v2
    have hv8 : Within 0x21000000000000000000100000000000000000000030 t1 v8 := by
      unfold v8
      refine Within.app updPwr_within rfl ?_
      exact hv2
    clear_value v8
    have hv9 : Within 0x21000000000000000000100000000000000000000030 t1 v9 := by
      unfold v9
      refine Within.app reclass_within rfl ?_
      exact hv8
    clear_value v9
    have hv10 : Within 0x21000000000000000000100000000000000000000030 t1 v10 := by
      unfold v10
      refine Within.app updPwr_within rfl ?_
      exact hv9
    clear_value v10
    refine Within.app updHolds_within rfl ?_
    exact hv10

theorem execPwrBudgetViolation_within {s} : WithinX 0x2810028000060d400780100002001f0304000d400036 s (execPwrBudgetViolation s) := by
  unfold execPwrBudgetViolation
  refine WithinX.next ?_
  refine Within.trans ?_ (whenFab_within rfl ?_)
  · exact Within.refl
  · intro t1
    split
    · rename_i x2 h3
      exact Within.refl
    · rename_i x4 x5 h6
      refine Within.ite ?_ ?_
      · exact Within.refl
      · extract_lets v7 v8
        have hv7 : Within 0x2810028000060d400780100002001f0304000d400036 t1 v7 := by
          unfold v7
          refine Within.app State.advanceTo_within rfl ?_
          exact Within.refl
        clear_value v7
        have hv8 : Within 0x2810028000060d400780100002001f0304000d400036 t1 v8 := by
          unfold v8
          refine Within.app updHolds_within rfl ?_
          refine Within.app updPwr_within rfl ?_
          exact hv7
        clear_value v8
        refine Within.app report_within rfl ?_
        exact hv8

theorem execThermFloorStep_within {sensors s} :
    WithinX 0x2910028000060d400780100002001f0304000d400036 s (execThermFloorStep sensors s) := by
  unfold execThermFloorStep
  refine WithinX.next ?_
  refine Within.trans ?_ (whenFab_within rfl ?_)
  · exact Within.refl
  · intro t1
    extract_lets v2 v3 v4 v5 v6 v7 v8 v9 v10
    have hv2 : Within 0x2910028000060d400780100002001f0304000d400036 t1 v2 := by
      unfold v2
      refine Within.app tick_within rfl ?_
      exact Within.refl
    clear_value v2
    have hv3 : Within 0x2910028000060d400780100002001f0304000d400036 t1 v3 := by
      unfold v3
      refine Within.app updPwr_within rfl ?_
      exact hv2
    clear_value v3
    have hv9 : Within 0x2910028000060d400780100002001f0304000d400036 t1 v9 := by
      unfold v9
      refine Within.app State.setReg_within rfl ?_
      exact hv3
    clear_value v9
    have hv10 : Within 0x2910028000060d400780100002001f0304000d400036 t1 v10 := by
      unfold v10
      refine Within.app reclass_within rfl ?_
      exact hv9
    clear_value v10
    refine Within.ite ?_ ?_
    · refine Within.app report_within rfl ?_
      refine Within.app updPwr_within rfl ?_
      exact hv10
    · refine Within.ite ?_ ?_
      · refine Within.app updPwr_within rfl ?_
        exact hv10
      · exact hv10

theorem allOff_within {s} : Within 0x30000000000003000000000000000000000000000000 s (allOff s) := by
  unfold allOff
  extract_lets v1 v2 v3
  have hv1 : Within 0x30000000000003000000000000000000000000000000 s v1 := by
    unfold v1
    refine Within.updFab ?_ rfl
    exact Within.refl
  clear_value v1
  have hv3 : Within 0x30000000000003000000000000000000000000000000 s v3 := by
    unfold v3
    refine Within.upd (e := v1) ?_ rfl rfl rfl rfl rfl rfl rfl rfl
    exact hv1
  clear_value v3
  refine Within.app updPwr_within rfl ?_
  exact hv3

theorem silenceAll_within {s} : Within 0x800000000006 s (silenceAll s) := by
  unfold silenceAll
  refine Within.app State.emit_within rfl ?_
  refine Within.upd (e := s) ?_ rfl rfl rfl rfl rfl rfl rfl rfl
  exact Within.refl

theorem execThermTrip_within {sensor s} : WithinX 0x3000000000060f400780100002001f02800020000006 s (execThermTrip sensor s) := by
  unfold execThermTrip
  refine WithinX.next ?_
  refine Within.ite ?_ ?_
  · exact Within.refl
  · extract_lets v1 v2 v3 v4 v5
    have hv2 : Within 0x3000000000060f400780100002001f02800020000006 s v2 := by
      unfold v2
      refine Within.app updPwr_within rfl ?_
      exact Within.refl
    clear_value v2
    have hv3 : Within 0x3000000000060f400780100002001f02800020000006 s v3 := by
      unfold v3
      refine Within.app hubTake_within rfl ?_
      exact hv2
    clear_value v3
    have hv4 : Within 0x3000000000060f400780100002001f02800020000006 s v4 := by
      unfold v4
      refine Within.app allEndpoints_within rfl ?_
      exact hv3
    clear_value v4
    refine Within.app allOff_within rfl ?_
    refine Within.app silenceAll_within rfl ?_
    refine Within.upd (e := v4) ?_ rfl rfl rfl rfl rfl rfl rfl rfl
    exact hv4

theorem execPwrRailFault_within {rail above s} :
    WithinX 0x810028000060d400780100002001f0304080d40003e s (execPwrRailFault rail above s) := by
  unfold execPwrRailFault
  refine WithinX.app (onInstance_within rfl ?_) (sub_self _) ?_
  · intro x1 t2
    refine Within.ite ?_ ?_
    · exact Within.refl
    · extract_lets v3 v4
      have hv3 : Within 0x810028000060d400780100002001f0304080d40003e t2 v3 := by
        unfold v3
        refine Within.app State.advanceTo_within rfl ?_
        exact Within.refl
      clear_value v3
      refine Within.app report_within rfl ?_
      refine Within.upd (e := v3) ?_ rfl rfl rfl rfl rfl rfl rfl rfl
      exact hv3
  · exact Within.refl

theorem execRailRestored_within {s} : WithinX 0x810028000060d400780100002001f0304080c400006 s (execRailRestored s) := by
  unfold execRailRestored
  refine WithinX.next ?_
  refine Within.ite ?_ ?_
  · exact Within.refl
  · extract_lets v1 v2
    have hv2 : Within 0x810028000060d400780100002001f0304080c400006 s v2 := by
      unfold v2
      refine Within.upd (e := s) ?_ rfl rfl rfl rfl rfl rfl rfl rfl
      exact Within.refl
    refine Within.ite ?_ ?_
    · refine Within.app beginWarm_within rfl ?_
      exact hv2
    · exact hv2

theorem dropUnissued_within {mine s} : Within 0x100000000000000000000000004 s (dropUnissued mine s) := by
  unfold dropUnissued
  refine Within.foldl ?_ ?_
  · intro t1 x2
    refine Within.app dropHeldReq_within rfl ?_
    refine Within.upd (e := t1) ?_ rfl rfl rfl rfl rfl rfl rfl rfl
    exact Within.refl
  · exact Within.refl

theorem dropHeldInto_within {i s} : Within 0x4 s (dropHeldInto i s) := by
  unfold dropHeldInto
  refine Within.upd (e := s) ?_ rfl rfl rfl rfl rfl rfl rfl rfl
  exact Within.refl

theorem abandonTarget_within {t s} : Within 0x200000028f860d4227801fff02001f0200000000000e s (abandonTarget t s) := by
  unfold abandonTarget
  extract_lets v1 v2
  have hv1 : Within 0x200000028f860d4227801fff02001f0200000000000e s v1 := by
    unfold v1
    refine Within.app dropUnissued_within rfl ?_
    exact Within.refl
  clear_value v1
  refine Within.ite ?_ ?_
  · refine Within.app dropTarget_within rfl ?_
    refine Within.app immFail_within rfl ?_
    exact hv1
  · refine Within.ite ?_ ?_
    · refine Within.app atomicEnd_within rfl ?_
      exact hv1
    · refine Within.ite ?_ ?_
      · refine Within.app sendStatus_within rfl ?_
        refine Within.app dropTarget_within rfl ?_
        exact hv1
      · refine Within.app immFail_within rfl ?_
        refine Within.app updTarget_within rfl ?_
        exact hv1

theorem abandonMessage_within {jid s} : Within 0x8000000000000000000000000000000000 s (abandonMessage jid s) := by
  unfold abandonMessage
  extract_lets v1 v2
  refine Within.upd (e := s) ?_ rfl rfl rfl rfl rfl rfl rfl rfl
  exact Within.refl

theorem abandonJob_within {s j} : Within 0x20000062ab860d4227801fff02001f0200000000000e s (abandonJob s j) := by
  unfold abandonJob
  refine Within.ite ?_ ?_
  · refine Within.ite ?_ ?_
    · refine Within.app memberFail_within rfl ?_
      exact Within.refl
    · refine Within.app jobFailed_within rfl ?_
      exact Within.refl
  · extract_lets v1 v2 v3 v4
    have hv1 : Within 0x20000062ab860d4227801fff02001f0200000000000e s v1 := by
      unfold v1
      refine Within.app abandonMessage_within rfl ?_
      exact Within.refl
    clear_value v1
    have hv3 : Within 0x20000062ab860d4227801fff02001f0200000000000e s v3 := by
      unfold v3
      refine Within.upd (e := v1) ?_ rfl rfl rfl rfl rfl rfl rfl rfl
      exact hv1
    clear_value v3
    have hv4 : Within 0x20000062ab860d4227801fff02001f0200000000000e s v4 := by
      unfold v4
      refine Within.app copyUnexp_within rfl ?_
      refine Within.app endJob_within rfl ?_
      exact hv3
    clear_value v4
    refine Within.foldl ?_ ?_
    · intro t5 x6
      refine Within.app rndvGo_within rfl ?_
      exact Within.refl
    · exact hv4

theorem forgetSources_within {mine s} : Within 0x90000000000000000000000000000000000 s (forgetSources mine s) := by
  unfold forgetSources
  extract_lets v1 v2 v3
  refine Within.upd (e := s) ?_ rfl rfl rfl rfl rfl rfl rfl rfl
  exact Within.refl

theorem abandonRegion_within {i s} : Within 0x281002f2afd60d4227801fff02001f0304000d40000e s (abandonRegion i s) := by
  unfold abandonRegion
  extract_lets v1 v2 v3 v4 v5
  have hv1 : Within 0x281002f2afd60d4227801fff02001f0304000d40000e s v1 := by
    unfold v1
    refine Within.foldl ?_ ?_
    · intro t6 x7
      refine Within.app abandonTarget_within rfl ?_
      exact Within.refl
    · exact Within.refl
  clear_value v1
  have hv2 : Within 0x281002f2afd60d4227801fff02001f0304000d40000e s v2 := by
    unfold v2
    refine Within.app forgetSources_within rfl ?_
    exact hv1
  clear_value v2
  have hv4 : Within 0x281002f2afd60d4227801fff02001f0304000d40000e s v4 := by
    unfold v4
    refine Within.app forgetSources_within rfl ?_
    exact hv2
  clear_value v4
  have hv5 : Within 0x281002f2afd60d4227801fff02001f0304000d40000e s v5 := by
    unfold v5
    refine Within.foldl ?_ ?_
    · intro t8 x9
      refine Within.app abandonJob_within rfl ?_
      exact Within.refl
    · exact hv4
  clear_value v5
  refine Within.app freeRegion_within rfl ?_
  refine Within.app targetsGo_within rfl ?_
  refine Within.app dropHeldInto_within rfl ?_
  exact hv5

theorem dropRecords_within {q s} : Within 0x60d400780100002001f02000000000006 s (dropRecords q s) := by
  unfold dropRecords
  extract_lets v1
  refine Within.app cqWake_within rfl ?_
  refine Within.app refusalEnd_within rfl ?_
  refine Within.app updSink_within rfl ?_
  exact Within.refl

theorem resetQueue_within {q s} : Within 0x60d402780100002001f02000000000006 s (resetQueue q s) := by
  unfold resetQueue
  extract_lets v1 v2 v3 v4
  have hv1 : Within 0x60d402780100002001f02000000000006 s v1 := by
    unfold v1
    refine Within.ite ?_ ?_
    · refine Within.app dropRecords_within rfl ?_
      exact Within.refl
    · exact Within.refl
  clear_value v1
  have hv2 : Within 0x60d402780100002001f02000000000006 s v2 := by
    unfold v2
    refine Within.ite ?_ ?_
    · exact hv1
    · refine Within.app dropDrained_within rfl ?_
      exact hv1
  clear_value v2
  have hv3 : Within 0x60d402780100002001f02000000000006 s v3 := by
    unfold v3
    refine Within.app updQueue_within rfl ?_
    exact hv2
  clear_value v3
  refine Within.upd (e := v3) ?_ rfl rfl rfl rfl rfl rfl rfl rfl
  exact hv3

theorem eventElsewhere_within {mids s b} : Within 0x60d400780100002001f02000000000006 s (eventElsewhere mids s b) := by
  unfold eventElsewhere
  refine Within.ite ?_ ?_
  · exact Within.refl
  · refine Within.app putEvent_within rfl ?_
    exact Within.refl

theorem dropWaiters_within {gone s} : Within 0x281003f7aff68d4627801fff02001f0304000d40003e s (dropWaiters gone s) := by
  unfold dropWaiters
  extract_lets v1 v2 v3 v4
  have hv4 : Within 0x281003f7aff68d4627801fff02001f0304000d40003e s v4 := by
    unfold v4
    refine Within.upd (e := s) ?_ rfl rfl rfl rfl rfl rfl rfl rfl
    exact Within.refl
  clear_value v4
  refine Within.foldl ?_ ?_
  · intro t5 x6
    refine Within.app walkNext_within rfl ?_
    exact Within.refl
  · exact hv4

theorem resetFetches_within {mids s} : Within 0x281003f7aff68d4627801fff02001f0304000d40003e s (resetFetches mids s) := by
  unfold resetFetches
  extract_lets v1 v2 v3 v4 v5 v6 v7 v8 v9
  have hv4 : Within 0x281003f7aff68d4627801fff02001f0304000d40003e s v4 := by
    unfold v4
    refine Within.foldl ?_ ?_
    · intro t10 x11
      refine Within.app dropHeldReq_within rfl ?_
      exact Within.refl
    · refine Within.upd (e := s) ?_ rfl rfl rfl rfl rfl rfl rfl rfl
      exact Within.refl
  clear_value v4
  have hv6 : Within 0x281003f7aff68d4627801fff02001f0304000d40003e s v6 := by
    unfold v6
    refine Within.upd (e := v4) ?_ rfl rfl rfl rfl rfl rfl rfl rfl
    exact hv4
  clear_value v6
  have hv9 : Within 0x281003f7aff68d4627801fff02001f0304000d40003e s v9 := by
    unfold v9
    refine Within.app dropWaiters_within rfl ?_
    exact hv6
  clear_value v9
  refine Within.foldl ?_ ?_
  · intro t12 x13
    refine Within.app completeWhere_within rfl ?_
    refine Within.upd (e := t12) ?_ rfl rfl rfl rfl rfl rfl rfl rfl
    exact Within.refl
  · exact hv9

theorem dropHeldRecords_within {mids s} : Within 0x4 s (dropHeldRecords mids s) := by
  unfold dropHeldRecords
  refine Within.upd (e := s) ?_ rfl rfl rfl rfl rfl rfl rfl rfl
  exact Within.refl

theorem resetRegions_within {mid s} : Within 0x1000000000000000000000000000000000 s (resetRegions mid s) := by
  unfold resetRegions
  refine Within.upd (e := s) ?_ rfl rfl rfl rfl rfl rfl rfl rfl
  exact Within.refl

theorem funcResetNow_within {mids s} : Within 0x281003f7aff68d4627801fff02001f0304000d40003e s (funcResetNow mids s) := by
  unfold funcResetNow
  extract_lets v1 v2 v3 v4 v5 v6 v7 v8 v9
  have hv3 : Within 0x281003f7aff68d4627801fff02001f0304000d40003e s v3 := by
    unfold v3
    refine Within.foldl ?_ ?_
    · intro t10 x11
      refine Within.app resetQueue_within rfl ?_
      exact Within.refl
    · exact Within.refl
  clear_value v3
  have hv4 : Within 0x281003f7aff68d4627801fff02001f0304000d40003e s v4 := by
    unfold v4
    refine Within.foldl ?_ ?_
    · intro t12 x13
      refine Within.app eventElsewhere_within rfl ?_
      exact Within.refl
    · exact hv3
  clear_value v4
  have hv5 : Within 0x281003f7aff68d4627801fff02001f0304000d40003e s v5 := by
    unfold v5
    refine Within.foldl ?_ ?_
    · intro t14 x15
      refine Within.app eventElsewhere_within rfl ?_
      exact Within.refl
    · exact hv4
  clear_value v5
  have hv6 : Within 0x281003f7aff68d4627801fff02001f0304000d40003e s v6 := by
    unfold v6
    refine Within.app dropHeldRecords_within rfl ?_
    refine Within.app resetFetches_within rfl ?_
    exact hv5
  clear_value v6
  have hv7 : Within 0x281003f7aff68d4627801fff02001f0304000d40003e s v7 := by
    unfold v7
    refine Within.foldl ?_ ?_
    · intro t16 x17
      refine Within.app resetRegions_within rfl ?_
      exact Within.refl
    · exact hv6
  clear_value v7
  have hv8 : Within 0x281003f7aff68d4627801fff02001f0304000d40003e s v8 := by
    unfold v8
    refine Within.foldl ?_ ?_
    · intro t18 x19
      refine Within.app withdrawRts_within rfl ?_
      exact Within.refl
    · exact hv7
  clear_value v8
  have hv9 : Within 0x281003f7aff68d4627801fff02001f0304000d40003e s v9 := by
    unfold v9
    refine Within.foldl ?_ ?_
    · intro t20 x21
      refine Within.app lockReset_within rfl ?_
      exact Within.refl
    · exact hv8
  clear_value v9
  refine Within.foldl ?_ ?_
  · intro t22 x23
    refine Within.app memberQueueLost_within rfl ?_
    exact Within.refl
  · exact hv9

theorem dropWalksOf_within {mid s} : Within 0x281003f7aff68d4627801fff02001f0304000d40003e s (dropWalksOf mid s) := by
  unfold dropWalksOf
  extract_lets v1 v2 v3 v4
  have hv3 : Within 0x281003f7aff68d4627801fff02001f0304000d40003e s v3 := by
    unfold v3
    refine Within.upd (e := s) ?_ rfl rfl rfl rfl rfl rfl rfl rfl
    exact Within.refl
  clear_value v3
  have hv4 : Within 0x281003f7aff68d4627801fff02001f0304000d40003e s v4 := by
    unfold v4
    refine Within.foldl ?_ ?_
    · intro t5 x6
      split
      · rename_i x7 x8 x9
        refine Within.elim ?_ ?_
        · exact Within.refl
        · intro x10
          refine Within.app rereadFail_within rfl ?_
          exact Within.refl
      · rename_i x11 ih
        exact Within.refl
    · exact hv3
  clear_value v4
  refine Within.foldl ?_ ?_
  · intro t12 x13
    refine Within.app walkNext_within rfl ?_
    exact Within.refl
  · exact hv4

theorem drainFinish_within {mid s} : Within 0x281003f7aff68f4627801fff02001f0304000d40003e s (drainFinish mid s) := by
  unfold drainFinish
  extract_lets v1 v2 v3 v4
  have hv2 : Within 0x281003f7aff68f4627801fff02001f0304000d40003e s v2 := by
    unfold v2
    refine Within.app dropWalksOf_within rfl ?_
    exact Within.refl
  clear_value v2
  have hv3 : Within 0x281003f7aff68f4627801fff02001f0304000d40003e s v3 := by
    unfold v3
    refine Within.foldl ?_ ?_
    · intro t5 x6
      refine Within.app invalApply_within rfl ?_
      exact Within.refl
    · exact hv2
  clear_value v3
  refine Within.ite ?_ ?_
  · refine Within.app updPort_within rfl ?_
    exact hv3
  · refine Within.app updPort_within rfl ?_
    exact hv3

theorem endDrained_within {jid s} : Within 0x20000042ab860d4227801fff02001f0200000000000e s (endDrained jid s) := by
  unfold endDrained
  extract_lets v1 v2 v3 v4
  have hv1 : Within 0x20000042ab860d4227801fff02001f0200000000000e s v1 := by
    unfold v1
    refine Within.foldl ?_ ?_
    · intro t5 x6
      refine Within.app sendFin_within rfl ?_
      exact Within.refl
    · refine Within.app abandonMessage_within rfl ?_
      exact Within.refl
  clear_value v1
  have hv3 : Within 0x20000042ab860d4227801fff02001f0200000000000e s v3 := by
    unfold v3
    refine Within.upd (e := v1) ?_ rfl rfl rfl rfl rfl rfl rfl rfl
    exact hv1
  clear_value v3
  have hv4 : Within 0x20000042ab860d4227801fff02001f0200000000000e s v4 := by
    unfold v4
    refine Within.app dropUnsent_within rfl ?_
    refine Within.app endJob_within rfl ?_
    exact hv3
  clear_value v4
  refine Within.foldl ?_ ?_
  · intro t7 x8
    refine Within.app ctxDrained_within rfl ?_
    exact Within.refl
  · exact hv4

theorem drainCut_within {mid s} : Within 0x281003f7aff68d4627801fff02001f0304000d40003e s (drainCut mid s) := by
  unfold drainCut
  extract_lets v1 v2 v3 v4 v5 v6 v7 v8
  have hv3 : Within 0x281003f7aff68d4627801fff02001f0304000d40003e s v3 := by
    unfold v3
    refine Within.upd (e := s) ?_ rfl rfl rfl rfl rfl rfl rfl rfl
    exact Within.refl
  clear_value v3
  have hv4 : Within 0x281003f7aff68d4627801fff02001f0304000d40003e s v4 := by
    unfold v4
    refine Within.app dropWalksOf_within rfl ?_
    exact hv3
  clear_value v4
  have hv5 : Within 0x281003f7aff68d4627801fff02001f0304000d40003e s v5 := by
    unfold v5
    refine Within.foldl ?_ ?_
    · intro t9 x10
      split
      · rename_i x11 x12 x13 h14
        refine Within.app rereadLost_within rfl ?_
        exact Within.refl
      · rename_i x15 ih
        exact Within.refl
    · exact hv4
  clear_value v5
  have hv6 : Within 0x281003f7aff68d4627801fff02001f0304000d40003e s v6 := by
    unfold v6
    refine Within.foldl ?_ ?_
    · intro t16 x17
      refine Within.app abandon_within rfl ?_
      exact Within.refl
    · exact hv5
  clear_value v6
  have hv7 : Within 0x281003f7aff68d4627801fff02001f0304000d40003e s v7 := by
    unfold v7
    refine Within.foldl ?_ ?_
    · intro t18 x19
      refine Within.app endDrained_within rfl ?_
      exact Within.refl
    · exact hv6
  clear_value v7
  have hv8 : Within 0x281003f7aff68d4627801fff02001f0304000d40003e s v8 := by
    unfold v8
    refine Within.foldl ?_ ?_
    · intro t20 x21
      refine Within.app abandonRegion_within rfl ?_
      exact Within.refl
    · exact hv7
  clear_value v8
  refine Within.app hifErr_within rfl ?_
  refine Within.app settleCells_within rfl ?_
  exact hv8

theorem drainLimit_within {mid s} : Within 0x281003f7aff68f4627801fff02001f0304000d40003e s (drainLimit mid s) := by
  unfold drainLimit
  refine Within.app drainFinish_within rfl ?_
  refine Within.ite ?_ ?_
  · exact Within.refl
  · refine Within.app drainCut_within rfl ?_
    exact Within.refl

theorem funcReset_within {now mids s} : Within 0x281003f7aff68f4627801fff02001f0304000d40003e s (funcReset now mids s) := by
  unfold funcReset
  extract_lets v1 v2 v3
  have hv2 : Within 0x281003f7aff68f4627801fff02001f0304000d40003e s v2 := by
    unfold v2
    refine Within.foldl ?_ ?_
    · intro t4 x5
      refine Within.app State.count_within rfl ?_
      refine Within.app updFunc_within rfl ?_
      exact Within.refl
    · exact Within.refl
  clear_value v2
  have hv3 : Within 0x281003f7aff68f4627801fff02001f0304000d40003e s v3 := by
    unfold v3
    refine Within.app funcResetNow_within rfl ?_
    exact hv2
  clear_value v3
  refine Within.foldl ?_ ?_
  · intro t6 x7
    refine Within.ite ?_ ?_
    · refine Within.app drainLimit_within rfl ?_
      exact Within.refl
    · exact Within.refl
  · exact hv3

theorem resetWithVfs_within {now mid s} : Within 0x281003f7aff68f4627801fff02001f0304000d40003e s (resetWithVfs now mid s) := by
  unfold resetWithVfs
  refine Within.app funcReset_within rfl ?_
  exact Within.refl

theorem failRequests_within {h s} : Within 0x281003f7aff68f4627801fff02001f0304000d40003e s (failRequests h s) := by
  unfold failRequests
  extract_lets v1
  refine Within.foldl ?_ ?_
  · intro t2 x3
    refine Within.ite ?_ ?_
    · refine Within.app reqDone_within rfl ?_
      exact Within.refl
    · exact Within.refl
  · exact Within.refl

theorem dumpSkip_within {n s} : Within 0x1900000000000000000000000 s (dumpSkip n s) := by
  unfold dumpSkip
  extract_lets v1 v2
  have hv1 : Within 0x1900000000000000000000000 s v1 := by
    unfold v1
    refine Within.app State.count_within rfl ?_
    exact Within.refl
  clear_value v1
  refine Within.upd (e := v1) ?_ rfl rfl rfl rfl rfl rfl rfl rfl
  exact hv1

theorem dumpAbandon_within {h s} : Within 0x7900000000000000000000000 s (dumpAbandon h s) := by
  unfold dumpAbandon
  refine Within.ite ?_ ?_
  · refine Within.app dumpSkip_within rfl ?_
    refine Within.upd (e := s) ?_ rfl rfl rfl rfl rfl rfl rfl rfl
    exact Within.refl
  · exact Within.refl

theorem portReset_within {h now s} : Within 0x281003f7bff68f4e6f879fff02011f0304000d40003e s (portReset h now s) := by
  unfold portReset
  extract_lets v1 v2 v3 v4 v5
  have hv1 : Within 0x281003f7bff68f4e6f879fff02011f0304000d40003e s v1 := by
    unfold v1
    refine Within.app updPort_within rfl ?_
    exact Within.refl
  clear_value v1
  have hv2 : Within 0x281003f7bff68f4e6f879fff02011f0304000d40003e s v2 := by
    unfold v2
    refine Within.app dumpAbandon_within rfl ?_
    exact hv1
  clear_value v2
  have hv3 : Within 0x281003f7bff68f4e6f879fff02011f0304000d40003e s v3 := by
    unfold v3
    refine Within.app funcReset_within rfl ?_
    exact hv2
  clear_value v3
  have hv4 : Within 0x281003f7bff68f4e6f879fff02011f0304000d40003e s v4 := by
    unfold v4
    refine Within.app endSession_within rfl ?_
    exact hv3
  clear_value v4
  refine Within.app settle_within rfl ?_
  refine Within.app failRequests_within rfl ?_
  refine Within.upd (e := v4) ?_ rfl rfl rfl rfl rfl rfl rfl rfl
  exact hv4

theorem hostLinkDown_within {h s} : Within 0x281003f7bff68f4e6f879fff02011f0304000d40003e s (hostLinkDown h s) := by
  unfold hostLinkDown
  extract_lets v1
  have hv1 : Within 0x281003f7bff68f4e6f879fff02011f0304000d40003e s v1 := by
    unfold v1
    refine Within.app hifErr_within rfl ?_
    refine Within.app State.count_within rfl ?_
    exact Within.refl
  clear_value v1
  refine Within.app linkTrain_within rfl ?_
  refine Within.app report_within rfl ?_
  refine Within.app portReset_within rfl ?_
  exact hv1

theorem configRequest_within {m port f s} (hm : sub 0x6 m = true) (hf : ∀ t0, Within m t0 (f t0)) :
    Within m s (configRequest port f s) := by
  unfold configRequest
  extract_lets v1
  refine Within.ite ?_ ?_
  · refine Within.trans ?_ (hf _)
    exact Within.refl
  · refine Within.ite ?_ ?_
    · refine Within.app State.emit_within (sub_trans rfl hm) ?_
      exact Within.refl
    · exact Within.refl

theorem execFunctionLevelReset_within {port fn s} :
    WithinX 0x281003f7bff68f4e2f801fff02001f0304000d40003e s (execFunctionLevelReset port fn s) := by
  unfold execFunctionLevelReset
  refine WithinX.app (onInstance_within rfl ?_) (sub_self _) ?_
  · intro x1 t2
    refine Within.trans ?_ (configRequest_within rfl ?_)
    · exact Within.refl
    · intro t3
      split
      rename_i x4 x5 t6 h7
      have ht6 : Within 0x281003f7bff68f4e2f801fff02001f0304000d40003e t3 t6 := by
        refine Within2.of h7 ?_
        refine Within2.app instOf_within rfl ?_
        exact Within.refl
      refine Within.ite ?_ ?_
      · refine Within.app settle_within rfl ?_
        refine Within.app resetWithVfs_within rfl ?_
        exact ht6
      · exact ht6
  · exact Within.refl

theorem execVfEnableClear_within {port s} : WithinX 0x281003f7bff68f4e2f801fff02001f0304000d40003e s (execVfEnableClear port s) := by
  unfold execVfEnableClear
  refine WithinX.app (onInstance_within rfl ?_) (sub_self _) ?_
  · intro x1 t2
    refine Within.trans ?_ (configRequest_within rfl ?_)
    · exact Within.refl
    · intro t3
      extract_lets v4 v5
      have hv5 : Within 0x281003f7bff68f4e2f801fff02001f0304000d40003e t3 v5 := by
        unfold v5
        refine Within.app updPort_within rfl ?_
        exact Within.refl
      clear_value v5
      refine Within.ite ?_ ?_
      · exact Within.refl
      · refine Within.app settle_within rfl ?_
        refine Within.app funcReset_within rfl ?_
        exact hv5
  · exact Within.refl

theorem execPerstAssert_within {port s} : WithinX 0x281003f7bff68f4e6f879fff02011f0304000d40003e s (execPerstAssert port s) := by
  unfold execPerstAssert
  refine WithinX.app (onInstance_within rfl ?_) (sub_self _) ?_
  · intro x1 t2
    refine Within.ite ?_ ?_
    · exact Within.refl
    · refine Within.app updPort_within rfl ?_
      refine Within.app portReset_within rfl ?_
      exact Within.refl
  · exact Within.refl

theorem execHotReset_within {port s} : WithinX 0x281003f7bff68f4e6f879fff02011f0304000d40003e s (execHotReset port s) := by
  unfold execHotReset
  refine WithinX.app (onInstance_within rfl ?_) (sub_self _) ?_
  · intro x1 t2
    refine Within.ite ?_ ?_
    · refine Within.app linkTrain_within rfl ?_
      refine Within.app portReset_within rfl ?_
      exact Within.refl
    · exact Within.refl
  · exact Within.refl

theorem execHifLinkDown_within {port s} : WithinX 0x281003f7bff68f4e6f879fff02011f0304000d40003e s (execHifLinkDown port s) := by
  unfold execHifLinkDown
  refine WithinX.app (onInstance_within rfl ?_) (sub_self _) ?_
  · intro x1 t2
    refine Within.ite ?_ ?_
    · refine Within.app hostLinkDown_within rfl ?_
      exact Within.refl
    · exact Within.refl
  · exact Within.refl

theorem execFlrDrainEnd_within {mid s} : WithinX 0x281003f7aff68f4627801fff02001f0304000d40003e s (execFlrDrainEnd mid s) := by
  unfold execFlrDrainEnd
  refine WithinX.app (onInstance_within rfl ?_) (sub_self _) ?_
  · intro x1 t2
    refine Within.ite ?_ ?_
    · refine Within.app drainFinish_within rfl ?_
      exact Within.refl
    · exact Within.refl
  · exact Within.refl

theorem execFlrDrainLimit_within {mid s} : WithinX 0x281003f7bff68f4e2f801fff02001f0304000d40003e s (execFlrDrainLimit mid s) := by
  unfold execFlrDrainLimit
  refine WithinX.app (onInstance_within rfl ?_) (sub_self _) ?_
  · intro x1 t2
    split
    · rename_i x3 h4
      exact Within.refl
    · rename_i x5 x6 h7
      refine Within.app settle_within rfl ?_
      refine Within.app drainLimit_within rfl ?_
      refine Within.app State.advanceTo_within rfl ?_
      exact Within.refl
  · exact Within.refl

theorem execPerstDeassert_within {port s} : WithinX 0x80000000000000000000000008 s (execPerstDeassert port s) := by
  unfold execPerstDeassert
  refine WithinX.app (onInstance_within rfl ?_) (sub_self _) ?_
  · intro x1 t2
    refine Within.ite ?_ ?_
    · refine Within.app linkTrain_within rfl ?_
      refine Within.app updPort_within rfl ?_
      exact Within.refl
    · exact Within.refl
  · exact Within.refl

theorem execHifLinkTrained_within {port rate width reversed cfg s} :
    WithinX 0x281003f7bff68f4e6f879fff02011f0304000d40003e s (execHifLinkTrained port rate width reversed cfg s) := by
  unfold execHifLinkTrained
  refine WithinX.app (onInstance_within rfl ?_) (sub_self _) ?_
  · intro x1 t2
    extract_lets v3 v4 v5 v6
    refine Within.ite ?_ ?_
    · exact Within.refl
    · refine Within.ite ?_ ?_
      · refine Within.ite ?_ ?_
        · refine Within.app hostLinkDown_within rfl ?_
          exact Within.refl
        · refine Within.app report_within rfl ?_
          exact Within.refl
      · refine Within.app updPort_within rfl ?_
        exact Within.refl
  · exact Within.refl

theorem linkRetrain_within {h s} : Within 0x80000000000000000000000000 s (linkRetrain h s) := by
  unfold linkRetrain
  refine Within.ite ?_ ?_
  · refine Within.app updPort_within rfl ?_
    exact Within.refl
  · exact Within.refl

theorem linkEnableChanged_within {h s} : Within 0x281003f7bff68f4e6f879fff02011f0304000d40003e s (linkEnableChanged h s) := by
  unfold linkEnableChanged
  refine Within.ite ?_ ?_
  · refine Within.app linkTrain_within rfl ?_
    refine Within.app askExit_within rfl ?_
    exact Within.refl
  · extract_lets v1
    have hv1 : Within 0x281003f7bff68f4e6f879fff02011f0304000d40003e s v1 := by
      unfold v1
      refine Within.ite ?_ ?_
      · refine Within.app portReset_within rfl ?_
        refine Within.app State.count_within rfl ?_
        exact Within.refl
      · exact Within.refl
    clear_value v1
    refine Within.app hostDomainOff_within rfl ?_
    refine Within.app updPort_within rfl ?_
    exact hv1

theorem execVfEnableSet_within {port numVfs cfg s} : WithinX 0x8000000000000000000000000e s (execVfEnableSet port numVfs cfg s) := by
  unfold execVfEnableSet
  refine WithinX.app (onInstance_within rfl ?_) (sub_self _) ?_
  · intro x1 t2
    refine Within.trans ?_ (configRequest_within rfl ?_)
    · exact Within.refl
    · intro t3
      split
      rename_i x4 x5 t6 h7
      have ht6 : Within 0x8000000000000000000000000e t3 t6 := by
        refine Within2.of h7 ?_
        refine Within2.app pickOf_within rfl ?_
        exact Within.refl
      extract_lets v8 v9 v10 v11
      refine Within.ite ?_ ?_
      · exact ht6
      · refine Within.app updPort_within rfl ?_
        exact ht6
  · exact Within.refl

theorem hostStep_within {m f s} (hm : sub 0x281003f7bfd60d4e2f801fff02001f0304000d40003e m = true) (hf : ∀ t0, Within m t0 (f t0)) :
    Within m s (hostStep f s) := by
  unfold hostStep
  refine Within.ite ?_ ?_
  · refine Within.app settle_within (sub_trans rfl hm) ?_
    refine Within.trans ?_ (hf _)
    exact Within.refl
  · exact Within.refl

theorem execCompletionTimeout_within {id s} : WithinX 0x281003f7bff68f4e2f801fff02001f0304000d40003e s (execCompletionTimeout id s) := by
  unfold execCompletionTimeout
  refine WithinX.next ?_
  refine Within.trans ?_ (hostStep_within rfl ?_)
  · exact Within.refl
  · intro t1
    split
    · rename_i x2 h3
      exact Within.refl
    · rename_i x4 x5 h6
      split
      rename_i x7 x8 t9 h10
      have ht9 : Within 0x281003f7bff68f4e2f801fff02001f0304000d40003e t1 t9 := by
        refine Within2.of h10 ?_
        refine Within2.app State.drawNat_within rfl ?_
        exact Within.refl
      split
      rename_i x11 x12 x13 h14
      refine Within.app reqDone_within rfl ?_
      refine Within.app State.advanceTo_within rfl ?_
      exact ht9

theorem execPrefetchReadComplete_within {id result s} :
    WithinX 0x281003f7bff68f4e2f801fff02001f0304000d40003e s (execPrefetchReadComplete id result s) := by
  unfold execPrefetchReadComplete
  refine WithinX.next ?_
  refine Within.trans ?_ (hostStep_within rfl ?_)
  · exact Within.refl
  · intro t1
    refine Within.app complete_within rfl ?_
    exact Within.refl

theorem execPageTableReadComplete_within {id result s} :
    WithinX 0x281003f7bff68f4e2f801fff02001f0304000d40003e s (execPageTableReadComplete id result s) := by
  unfold execPageTableReadComplete
  refine WithinX.next ?_
  refine Within.trans ?_ (hostStep_within rfl ?_)
  · exact Within.refl
  · intro t1
    refine Within.app complete_within rfl ?_
    exact Within.refl

theorem execAdUpdateCasComplete_within {id result s} :
    WithinX 0x281003f7bff68f4e2f801fff02001f0304000d40003e s (execAdUpdateCasComplete id result s) := by
  unfold execAdUpdateCasComplete
  refine WithinX.next ?_
  refine Within.trans ?_ (hostStep_within rfl ?_)
  · exact Within.refl
  · intro t1
    refine Within.app complete_within rfl ?_
    exact Within.refl

theorem execHostAtomicopComplete_within {id result s} :
    WithinX 0x281003f7bff68f4e2f801fff02001f0304000d40003e s (execHostAtomicopComplete id result s) := by
  unfold execHostAtomicopComplete
  refine WithinX.next ?_
  refine Within.trans ?_ (hostStep_within rfl ?_)
  · exact Within.refl
  · intro t1
    refine Within.app complete_within rfl ?_
    exact Within.refl

theorem execHostReadComplete_within {id result s} :
    WithinX 0x281003f7bff68f4e2f801fff02001f0304000d40003e s (execHostReadComplete id result s) := by
  unfold execHostReadComplete
  refine WithinX.next ?_
  refine Within.trans ?_ (hostStep_within rfl ?_)
  · exact Within.refl
  · intro t1
    refine Within.app complete_within rfl ?_
    exact Within.refl

theorem execPoisonedWriteReceived_within {port fn addr s} :
    WithinX 0x810028000060d400780100002001f0304000d40000e s (execPoisonedWriteReceived port fn addr s) := by
  unfold execPoisonedWriteReceived
  refine WithinX.app (onInstance_within rfl ?_) (sub_self _) ?_
  · intro x1 t2
    refine Within.ite ?_ ?_
    · refine Within.app reportPoisoned_within rfl ?_
      refine Within.app hifErr_within rfl ?_
      refine Within.app State.count_within rfl ?_
      exact Within.refl
    · exact Within.refl
  · exact Within.refl

theorem clockOf_within {src s} : Within2 0x8 s (clockOf src s) := by
  unfold clockOf
  refine Within2.app pickOf_within rfl ?_
  exact Within.refl

theorem setMonitor_within {m' s} : Within 0x400 s (setMonitor m' s) := by
  unfold setMonitor
  refine Within.upd (e := s) ?_ rfl rfl rfl rfl rfl rfl rfl rfl
  exact Within.refl

theorem monitorsStart_within {dieGood keepHost s} : Within 0x400 s (monitorsStart dieGood keepHost s) := by
  unfold monitorsStart
  extract_lets v1 v2 v3 v4 v5
  refine Within.upd (e := s) ?_ rfl rfl rfl rfl rfl rfl rfl rfl
  exact Within.refl

theorem clkOutChanged_within {was s} : Within 0x200008 s (clkOutChanged was s) := by
  unfold clkOutChanged
  split
  · rename_i x1
    exact Within.refl
  · rename_i x2 x3
    split
    rename_i x4 x5 t6 h7
    have ht6 : Within 0x200008 s t6 := by
      refine Within2.of h7 ?_
      refine Within2.app State.drawNat_within rfl ?_
      exact Within.refl
    refine Within.upd (e := t6) ?_ rfl rfl rfl rfl rfl rfl rfl rfl
    exact ht6

theorem pllLost_within {l s} : Within 0x3810028000060d400780100002001f0304000d400006 s (pllLost l s) := by
  unfold pllLost
  extract_lets v1 v2 v3
  have hv1 : Within 0x3810028000060d400780100002001f0304000d400006 s v1 := by
    unfold v1
    refine Within.ite ?_ ?_
    · refine Within.app laneOff_within rfl ?_
      exact Within.refl
    · exact Within.refl
  clear_value v1
  have hv3 : Within 0x3810028000060d400780100002001f0304000d400006 s v3 := by
    unfold v3
    refine Within.ite ?_ ?_
    · refine Within.app activeLeft_within rfl ?_
      exact hv1
    · refine Within.ite ?_ ?_
      · refine Within.app laneLost_within rfl ?_
        exact hv1
      · exact hv1
  clear_value v3
  refine Within.ite ?_ ?_
  · exact hv3
  · refine Within.app laneOff_within rfl ?_
    exact hv3

theorem hostFall_within {h s} : Within 0x281003f7bff68f4e6f879fff02011f0304000d40003e s (hostFall h s) := by
  unfold hostFall
  extract_lets v1
  refine Within.ite ?_ ?_
  · refine Within.app hostLinkDown_within rfl ?_
    exact Within.refl
  · refine Within.ite ?_ ?_
    · refine Within.app linkTrain_within rfl ?_
      refine Within.app portReset_within rfl ?_
      exact Within.refl
    · exact Within.refl

theorem sendTime_within {port ws s} : Within 0x892038001060d400780100002001f0304000d40000e s (sendTime port ws s) := by
  unfold sendTime
  refine Within.app inject_within rfl ?_
  exact Within.refl

theorem execTimeExchangePeriod_within {s} : WithinX 0x892038001060d400780100002001f0304000d57803e s (execTimeExchangePeriod s) := by
  unfold execTimeExchangePeriod
  refine WithinX.next ?_
  refine Within.trans ?_ (whenFab_within rfl ?_)
  · exact Within.refl
  · intro t1
    refine Within.ite ?_ ?_
    · exact Within.refl
    · extract_lets v2 v3 v4 v5
      have hv2 : Within 0x892038001060d400780100002001f0304000d57803e t1 v2 := by
        unfold v2
        refine Within.app State.advanceTo_within rfl ?_
        exact Within.refl
      clear_value v2
      have hv3 : Within 0x892038001060d400780100002001f0304000d57803e t1 v3 := by
        unfold v3
        refine Within.updClk ?_ (Nat.le_refl _) rfl
        exact hv2
      clear_value v3
      refine Within.ite ?_ ?_
      · exact hv3
      · refine Within.app sendTime_within rfl ?_
        refine Within.updClk ?_ (Nat.le_refl _) rfl
        exact hv3

theorem execDelayReqReceive_within {port seq ta s} :
    WithinX 0x892038001060d400780100002001f0304000d40000e s (execDelayReqReceive port seq ta s) := by
  unfold execDelayReqReceive
  refine WithinX.app (onInstance_within rfl ?_) (sub_self _) ?_
  · intro x1 t2
    refine Within.trans ?_ (whenFab_within rfl ?_)
    · exact Within.refl
    · intro t3
      refine Within.ite ?_ ?_
      · exact Within.refl
      · extract_lets v4
        refine Within.app sendTime_within rfl ?_
        exact Within.refl
  · exact Within.refl

theorem timeJump_within {off s} : Within 0x20 s (timeJump off s) := by
  unfold timeJump
  refine Within.updClk ?_ (Nat.le_refl _) rfl
  exact Within.refl

theorem timeAnswer_within {off good s} : Within 0x80860 s (timeAnswer off good s) := by
  unfold timeAnswer
  extract_lets v1 v2
  split
  · rename_i x3 h4
    refine Within.ite ?_ ?_
    · refine Within.updClk ?_ (Nat.le_refl _) rfl
      exact Within.refl
    · refine Within.ite ?_ ?_
      · refine Within.app timeJump_within rfl ?_
        refine Within.updClk ?_ (Nat.le_refl _) rfl
        exact Within.refl
      · refine Within.ite ?_ ?_
        · refine Within.updClk ?_ (Nat.le_refl _) rfl
          exact Within.refl
        · refine Within.updClk ?_ (Nat.le_refl _) rfl
          exact Within.refl
  · rename_i x5 h6
    refine Within.ite ?_ ?_
    · refine Within.updClk ?_ (Nat.le_refl _) rfl
      exact Within.refl
    · refine Within.ite ?_ ?_
      · refine Within.updClk ?_ (Nat.le_refl _) rfl
        exact Within.refl
      · refine Within.ite ?_ ?_
        · refine Within.updClk ?_ (Nat.le_refl _) rfl
          exact Within.refl
        · refine Within.updClk ?_ (Nat.le_refl _) rfl
          exact Within.refl
  · rename_i x7 h8
    refine Within.ite ?_ ?_
    · exact Within.refl
    · refine Within.ite ?_ ?_
      · refine Within.updClk ?_ (Nat.le_refl _) rfl
        exact Within.refl
      · refine Within.app timeJump_within rfl ?_
        refine Within.updClk ?_ (Nat.le_refl _) rfl
        exact Within.refl
  · rename_i x9 ih ih ih
    exact Within.refl

theorem execDelayRespReceive_within {port seq ta tb tc stratum locked s} :
    WithinX 0x1c7868 s (execDelayRespReceive port seq ta tb tc stratum locked s) := by
  unfold execDelayRespReceive
  refine WithinX.app (onInstance_within rfl ?_) (sub_self _) ?_
  · intro x1 t2
    refine Within.trans ?_ (whenFab_within rfl ?_)
    · exact Within.refl
    · intro t3
      refine Within.ite ?_ ?_
      · exact Within.refl
      · extract_lets v4 v5 v6 v7
        have hv7 : Within 0x1c7868 t3 v7 := by
          unfold v7
          refine Within.updClk ?_ (Nat.le_refl _) rfl
          exact Within.refl
        clear_value v7
        refine Within.app timeAnswer_within rfl ?_
        exact hv7
  · exact Within.refl

theorem execTimeHoldover_within {s} : WithinX 0x80800 s (execTimeHoldover s) := by
  unfold execTimeHoldover
  refine WithinX.next ?_
  refine Within.trans ?_ (whenFab_within rfl ?_)
  · exact Within.refl
  · intro t1
    refine Within.ite ?_ ?_
    · refine Within.updClk ?_ (Nat.le_refl _) rfl
      exact Within.refl
    · exact Within.refl

theorem dtimeSet_within {v s} : Within 0x20 s (dtimeSet v s) := by
  unfold dtimeSet
  refine Within.ite ?_ ?_
  · exact Within.refl
  · refine Within.updClk ?_ (Nat.le_refl _) rfl
    exact Within.refl

theorem timeRoleChanged_within {s} : Within 0x1c9840 s (timeRoleChanged s) := by
  unfold timeRoleChanged
  extract_lets v1
  refine Within.updClk ?_ (Nat.le_refl _) rfl
  exact Within.refl

end Sys2Proof.Machine
end

