-- ==== Sys2Proof/Laws/WithinBoot.lean ====
section
/-! SUPPORT. What each operation of Machine/Qos.lean, Machine/RegView.lean, Machine/Sec.lean, Machine/Boot.lean, Machine/Inval.lean, Machine/Residency.lean, Machine/Service.lean, Machine/Endpoint.lean can do, as one lemma
of the form of Laws/Within.lean. The numeral is the set of parts it may change. -/

namespace Sys2Proof.Machine

theorem State.advanceDtime_within {s t} : Within 0x30 s (State.advanceDtime s t) := by
  unfold State.advanceDtime
  extract_lets v1 v2
  refine Within.ite ?_ ?_
  · exact Within.refl
  · refine Within.app State.advance_within rfl ?_
    exact Within.refl

theorem pumpEp_within {ep s} : Within 0x10000020400100000000000000000000006 s (pumpEp ep s) := by
  unfold pumpEp
  refine Within.foldl ?_ ?_
  · intro t1 x2
    refine Within.app pumpAll_within rfl ?_
    exact Within.refl
  · exact Within.refl

theorem wheelQueue_within {q s} : Within 0x20000000010000020400100000000000000000000036 s (wheelQueue q s) := by
  unfold wheelQueue
  extract_lets v1
  have hv1 : Within 0x20000000010000020400100000000000000000000036 s v1 := by
    unfold v1
    refine Within.app State.advanceDtime_within rfl ?_
    exact Within.refl
  clear_value v1
  refine Within.ite ?_ ?_
  · refine Within.app domainSleep_within rfl ?_
    refine Within.app pumpEp_within rfl ?_
    exact hv1
  · refine Within.app startFetch_within rfl ?_
    refine Within.app updQueue_within rfl ?_
    exact hv1

theorem wheelPeer_within {k p s} : Within 0x10000020400100000000000000000000036 s (wheelPeer k p s) := by
  unfold wheelPeer
  extract_lets v1
  have hv1 : Within 0x10000020400100000000000000000000036 s v1 := by
    unfold v1
    refine Within.app State.advanceDtime_within rfl ?_
    exact Within.refl
  clear_value v1
  refine Within.ite ?_ ?_
  · refine Within.app pumpAll_within rfl ?_
    exact hv1
  · refine Within.app startPeerFetch_within rfl ?_
    refine Within.app updPeer_within rfl ?_
    exact hv1

theorem execTimingWheelDue_within {qid k s} : WithinX 0x281003f7bfd60d4e2f801fff02001f0304000d40003e s (execTimingWheelDue qid k s) := by
  unfold execTimingWheelDue
  refine WithinX.next ?_
  refine Within.trans ?_ (epStep_within rfl ?_)
  · exact Within.refl
  · intro t1
    refine Within.ite ?_ ?_
    · split
      · rename_i x2 h3
        exact Within.refl
      · rename_i x4 x5 h6
        refine Within.app wheelPeer_within rfl ?_
        exact Within.refl
    · split
      · rename_i x7 h8
        exact Within.refl
      · rename_i x9 x10 h11
        refine Within.ite ?_ ?_
        · refine Within.app wheelQueue_within rfl ?_
          exact Within.refl
        · exact Within.refl

theorem execCcIncreasePeriod_within {k s} : WithinX 0x281003f7bfd60d4e2f801fff02001f0304000d40003e s (execCcIncreasePeriod k s) := by
  unfold execCcIncreasePeriod
  refine WithinX.next ?_
  refine Within.trans ?_ (trnStep_within rfl ?_)
  · exact Within.refl
  · intro t1
    split
    · rename_i x2 h3
      exact Within.refl
    · rename_i x4 x5 h6
      refine Within.ite ?_ ?_
      · exact Within.refl
      · extract_lets v7
        have hv7 : Within 0x281003f7bfd60d4e2f801fff02001f0304000d40003e t1 v7 := by
          unfold v7
          refine Within.app State.advanceTo_within rfl ?_
          exact Within.refl
        clear_value v7
        refine Within.app updPeer_within rfl ?_
        exact hv7

theorem sampleQueue_within {p v s} : Within 0x200000000000000000100000000000000000000000 s (sampleQueue p v s) := by
  unfold sampleQueue
  split
  rename_i x1 x2 x3 h4
  extract_lets v5 v6 v7 v8 v9 v10
  have hv7 : Within 0x200000000000000000100000000000000000000000 s v7 := by
    unfold v7
    refine Within.app State.count_within rfl ?_
    refine Within.app State.count_within rfl ?_
    refine Within.app State.count_within rfl ?_
    exact Within.refl
  clear_value v7
  refine Within.updFab ?_ rfl
  exact hv7

theorem execQueueSamplePeriod_within {s} : WithinX 0x1200000000000000000100000000000000000000030 s (execQueueSamplePeriod s) := by
  unfold execQueueSamplePeriod
  refine WithinX.next ?_
  refine Within.trans ?_ (whenFab_within rfl ?_)
  · exact Within.refl
  · intro t1
    refine Within.ite ?_ ?_
    · exact Within.refl
    · extract_lets v2
      have hv2 : Within 0x1200000000000000000100000000000000000000030 t1 v2 := by
        unfold v2
        refine Within.app tick_within rfl ?_
        exact Within.refl
      clear_value v2
      refine Within.foldl ?_ ?_
      · intro t3 x4
        refine Within.foldl ?_ ?_
        · intro t5 x6
          refine Within.app sampleQueue_within rfl ?_
          exact Within.refl
        · exact Within.refl
      · exact hv2

theorem qsampleClear_within {p v s} : Within 0x200000000000000000000000000000000000000000 s (qsampleClear p v s) := by
  unfold qsampleClear
  refine Within.updFab ?_ rfl
  exact Within.refl

theorem bar0Read_within {port fn off s} : Within2 0x100002001f02000000000000 s (bar0Read port fn off s) := by
  unfold bar0Read
  extract_lets v1
  refine Within2.ite ?_ ?_
  · refine Within2.mk ?_
    refine Within.elim ?_ ?_
    · exact Within.refl
    · intro x2
      refine Within2.snd ?_
      refine Within2.app gateCheck_within rfl ?_
      exact Within.refl
  · refine Within2.mk ?_
    exact Within.refl

theorem zeroizeStore_within {mid s} : Within 0x1fe0000000000000 s (zeroizeStore mid s) := by
  unfold zeroizeStore
  extract_lets v1 v2 v3
  have hv3 : Within 0x1fe0000000000000 s v3 := by
    unfold v3
    refine Within.upd (e := s) ?_ rfl rfl rfl rfl rfl rfl rfl rfl
    exact Within.refl
  clear_value v3
  refine Within.ite ?_ ?_
  · refine Within.app audit_within rfl ?_
    exact hv3
  · exact hv3

theorem execDebugUnlock_within {ok s} : WithinX 0xffe0000000000000 s (execDebugUnlock ok s) := by
  unfold execDebugUnlock
  refine WithinX.next ?_
  refine Within.ite ?_ ?_
  · exact Within.refl
  · refine Within.ite ?_ ?_
    · extract_lets v1 v2
      refine Within.app audit_within rfl ?_
      refine Within.upd (e := s) ?_ rfl rfl rfl rfl rfl rfl rfl rfl
      exact Within.refl
    · extract_lets v3 v4 v5
      have hv4 : Within 0xffe0000000000000 s v4 := by
        unfold v4
        refine Within.app zeroizeStore_within rfl ?_
        exact Within.refl
      clear_value v4
      refine Within.app audit_within rfl ?_
      refine Within.upd (e := v4) ?_ rfl rfl rfl rfl rfl rfl rfl rfl
      exact hv4

theorem secResponse_within {k source fuse s} : Within 0x3000000000060f400780100002101fe2800420000006 s (secResponse k source fuse s) := by
  unfold secResponse
  refine Within.ite ?_ ?_
  · exact Within.refl
  · extract_lets v1 v2 v3 v4 v5 v6 v7
    have hv1 : Within 0x3000000000060f400780100002101fe2800420000006 s v1 := by
      unfold v1
      refine Within.app hubTake_within rfl ?_
      exact Within.refl
    clear_value v1
    have hv2 : Within 0x3000000000060f400780100002101fe2800420000006 s v2 := by
      unfold v2
      refine Within.app allEndpoints_within rfl ?_
      exact hv1
    clear_value v2
    have hv3 : Within 0x3000000000060f400780100002101fe2800420000006 s v3 := by
      unfold v3
      refine Within.app audit_within rfl ?_
      refine Within.app zeroizeStore_within rfl ?_
      exact hv2
    clear_value v3
    have hv5 : Within 0x3000000000060f400780100002101fe2800420000006 s v5 := by
      unfold v5
      refine Within.upd (e := v3) ?_ rfl rfl rfl rfl rfl rfl rfl rfl
      exact hv3
    clear_value v5
    have hv7 : Within 0x3000000000060f400780100002101fe2800420000006 s v7 := by
      unfold v7
      refine Within.ite ?_ ?_
      · refine Within.upd (e := v5) ?_ rfl rfl rfl rfl rfl rfl rfl rfl
        exact hv5
      · exact hv5
    clear_value v7
    refine Within.app allOff_within rfl ?_
    refine Within.app silenceAll_within rfl ?_
    exact hv7

theorem execSecTamper_within {cause s} : WithinX 0x3000000000060f400780100002101fe280042000003e s (execSecTamper cause s) := by
  unfold execSecTamper
  split
  rename_i x1 x2 t3 h4
  have ht3 : Within 0x3000000000060f400780100002101fe280042000003e s t3 := by
    refine Within2.of h4 ?_
    refine Within2.app pickOf_within rfl ?_
    exact Within.refl
  refine WithinX.next ?_
  refine Within.ite ?_ ?_
  · exact ht3
  · refine Within.app secResponse_within rfl ?_
    refine Within.ite ?_ ?_
    · refine Within.app State.advanceTo_within rfl ?_
      exact ht3
    · exact ht3

theorem execSecKeyIntegrity_within {cause s} : WithinX 0x3000000000060f400780100002101fe280042000000e s (execSecKeyIntegrity cause s) := by
  unfold execSecKeyIntegrity
  split
  rename_i x1 x2 t3 h4
  have ht3 : Within 0x3000000000060f400780100002101fe280042000000e s t3 := by
    refine Within2.of h4 ?_
    refine Within2.app pickOf_within rfl ?_
    exact Within.refl
  refine WithinX.next ?_
  refine Within.app secResponse_within rfl ?_
  exact ht3

theorem freeWords_within {a0 a1} : Within2 0x8 a1 (freeWords a0 a1) := by
  induction a0 generalizing a1
  · rw [freeWords]
    refine Within2.mk ?_
    exact Within.refl
  · rename_i x1 ih
    rw [freeWords]
    split
    rename_i x2 x3 t4 h5
    have ht4 : Within 0x8 a1 t4 := by
      refine Within2.of h5 ?_
      refine Within2.app State.drawWord_within rfl ?_
      exact Within.refl
    split
    rename_i x6 x7 t8 h9
    have ht8 : Within 0x8 a1 t8 := by
      refine Within2.of h9 ?_
      refine Within2.app ih rfl ?_
      exact ht4
    refine Within2.mk ?_
    exact ht8

theorem spdmAnswer_within {chan req ok s} : Within 0x60d400780100002011f0200000000000e s (spdmAnswer chan req ok s) := by
  unfold spdmAnswer
  extract_lets v1 v2 v3 v4 v5
  have hv2 : Within 0x60d400780100002011f0200000000000e s v2 := by
    unfold v2
    refine Within.app State.emit_within rfl ?_
    exact Within.refl
  clear_value v2
  have hv4 : Within 0x60d400780100002011f0200000000000e s v4 := by
    unfold v4
    refine Within.app audit_within rfl ?_
    refine Within.upd (e := s) ?_ rfl rfl rfl rfl rfl rfl rfl rfl
    exact Within.refl
  clear_value v4
  have hv5 : Within 0x60d400780100002011f0200000000000e s v5 := by
    unfold v5
    refine Within.app updPort_within rfl ?_
    exact Within.refl
  clear_value v5
  refine Within.ite ?_ ?_
  · exact hv2
  · refine Within.ite ?_ ?_
    · refine Within.app State.emit_within rfl ?_
      exact Within.refl
    · refine Within.ite ?_ ?_
      · split
        rename_i x6 x7 t8 h9
        have ht8 : Within 0x60d400780100002011f0200000000000e s t8 := by
          refine Within2.of h9 ?_
          refine Within2.app freeWords_within rfl ?_
          exact Within.refl
        refine Within.app State.emit_within rfl ?_
        exact ht8
      · refine Within.ite ?_ ?_
        · refine Within.app State.emit_within rfl ?_
          exact Within.refl
        · refine Within.ite ?_ ?_
          · refine Within.app State.emit_within rfl ?_
            exact Within.refl
          · refine Within.ite ?_ ?_
            · refine Within.app State.emit_within rfl ?_
              exact Within.refl
            · refine Within.ite ?_ ?_
              · refine Within.ite ?_ ?_
                · exact hv2
                · refine Within.app State.emit_within rfl ?_
                  exact hv4
              · refine Within.ite ?_ ?_
                · refine Within.ite ?_ ?_
                  · refine Within.app State.emit_within rfl ?_
                    refine Within.app endSession_within rfl ?_
                    exact Within.refl
                  · exact hv2
                · refine Within.ite ?_ ?_
                  · refine Within.app State.emit_within rfl ?_
                    refine Within.app portsRelease_within rfl ?_
                    exact hv5
                  · exact hv2

theorem execSpdmRequest_within {chan req ok s} : WithinX 0x60d400780100002011f0200000000000e s (execSpdmRequest chan req ok s) := by
  unfold execSpdmRequest
  split
  rename_i x1 x2 t3 h4
  have ht3 : Within 0x60d400780100002011f0200000000000e s t3 := by
    refine Within2.of h4 ?_
    refine Within2.app pickOf_within rfl ?_
    exact Within.refl
  refine WithinX.next ?_
  refine Within.trans ?_ (whenRunning_within rfl ?_)
  · exact ht3
  · intro t5
    refine Within.app spdmAnswer_within rfl ?_
    exact Within.refl

theorem coldState_within {cause s} : Within 0x3ffffffffffffffffffffffffff7fffffffffffffffe s (coldState cause s) := by
  unfold coldState
  refine Within.app State.emit_within rfl ?_
  exact ⟨rfl, List.prefix_refl _, Nat.le_refl _, Nat.le_refl _, fun _ => rfl, rfl⟩

theorem execPowerOnReset_within {s} : WithinX 0x3ffffffffffffffffffffffffff7fffffffffffffffe s (execPowerOnReset s) := by
  unfold execPowerOnReset
  extract_lets v1 v2
  have hv1 : Within 0x3ffffffffffffffffffffffffff7fffffffffffffffe s v1 := by
    unfold v1
    refine Within.app coldState_within rfl ?_
    exact Within.refl
  clear_value v1
  refine WithinX.next ?_
  refine Within.upd (e := v1) ?_ rfl rfl rfl rfl rfl rfl rfl rfl
  exact hv1

theorem execColdReset_within {pwrOk s} : WithinX 0x3ffffffffffffffffffffffffff7fffffffffffffffe s (execColdReset pwrOk s) := by
  unfold execColdReset
  refine WithinX.next ?_
  refine Within.ite ?_ ?_
  · exact Within.refl
  · refine Within.ite ?_ ?_
    · refine Within.upd (e := s) ?_ rfl rfl rfl rfl rfl rfl rfl rfl
      exact Within.refl
    · extract_lets v1 v2
      have hv1 : Within 0x3ffffffffffffffffffffffffff7fffffffffffffffe s v1 := by
        unfold v1
        refine Within.app coldState_within rfl ?_
        exact Within.refl
      clear_value v1
      refine Within.upd (e := v1) ?_ rfl rfl rfl rfl rfl rfl rfl rfl
      exact hv1

theorem setStage_within {g s} : Within 0x400000 s (setStage g s) := by
  unfold setStage
  refine Within.upd (e := s) ?_ rfl rfl rfl rfl rfl rfl rfl rfl
  exact Within.refl

theorem bootError_within {code s} : Within 0x400c00000 s (bootError code s) := by
  unfold bootError
  refine Within.upd (e := s) ?_ rfl rfl rfl rfl rfl rfl rfl rfl
  exact Within.refl

theorem domainsStart_within {s} : Within 0x30000000000003000000000000000000000000000000 s (domainsStart s) := by
  unfold domainsStart
  extract_lets v1
  have hv1 : Within 0x30000000000003000000000000000000000000000000 s v1 := by
    unfold v1
    refine Within.foldl ?_ ?_
    · intro t2 x3
      refine Within.app chorusDomainOff_within rfl ?_
      refine Within.app hostDomainOff_within rfl ?_
      exact Within.refl
    · exact Within.refl
  clear_value v1
  refine Within.foldl ?_ ?_
  · intro t4 x5
    refine Within.ite ?_ ?_
    · exact Within.refl
    · refine Within.app laneDomainOff_within rfl ?_
      exact Within.refl
  · exact hv1

theorem portsAcquire_within {s} : Within 0x38000000000003000000000000000000080000000000 s (portsAcquire s) := by
  unfold portsAcquire
  extract_lets v1 v2
  have hv2 : Within 0x38000000000003000000000000000000080000000000 s v2 := by
    unfold v2
    refine Within.app domainsStart_within rfl ?_
    refine Within.upd (e := s) ?_ rfl rfl rfl rfl rfl rfl rfl rfl
    exact Within.refl
  clear_value v2
  refine Within.foldl ?_ ?_
  · intro t3 x4
    refine Within.app portEnable_within rfl ?_
    exact Within.refl
  · exact hv2

theorem bootEnd_within {counterOk hbmOk s} : Within 0x38000000000003000000000000000000080412c00000 s (bootEnd counterOk hbmOk s) := by
  unfold bootEnd
  refine Within.ite ?_ ?_
  · refine Within.app bootError_within rfl ?_
    refine Within.app setStage_within rfl ?_
    exact Within.refl
  · extract_lets v1 v2 v3
    have hv3 : Within 0x38000000000003000000000000000000080412c00000 s v3 := by
      unfold v3
      refine Within.upd (e := s) ?_ rfl rfl rfl rfl rfl rfl rfl rfl
      exact Within.refl
    clear_value v3
    refine Within.ite ?_ ?_
    · refine Within.app bootError_within rfl ?_
      refine Within.app setStage_within rfl ?_
      exact hv3
    · refine Within.app portsAcquire_within rfl ?_
      refine Within.app setStage_within rfl ?_
      exact hv3

theorem bootImage_within {slot im counterOk hbmOk s} :
    Within 0x38000000000003000000000000001f0008e412c00000 s (bootImage slot im counterOk hbmOk s) := by
  unfold bootImage
  extract_lets v1 v2
  have hv1 : Within 0x38000000000003000000000000001f0008e412c00000 s v1 := by
    unfold v1
    refine Within.app audit_within rfl ?_
    exact Within.refl
  clear_value v1
  refine Within.app bootEnd_within rfl ?_
  refine Within.upd (e := v1) ?_ rfl rfl rfl rfl rfl rfl rfl rfl
  exact hv1

theorem bootNoImage_within {slot step s} : Within 0x810028000060d400780100002001f0304040dc00006 s (bootNoImage slot step s) := by
  unfold bootNoImage
  refine Within.app bootError_within rfl ?_
  refine Within.app report_within rfl ?_
  exact Within.refl

theorem bootSlots_within {b a1 a2} : Within 0x3810028000060f400780100002001f030ce41fc00006 a2 (bootSlots b a1 a2) := by
  induction a1 generalizing b a2
  · rw [bootSlots]
    exact Within.refl
  · rename_i x1 x2 ih
    rw [bootSlots]
    refine Within.ite ?_ ?_
    · refine Within.app bootImage_within rfl ?_
      exact Within.refl
    · extract_lets v3 v4
      have hv4 : Within 0x3810028000060f400780100002001f030ce41fc00006 a2 v4 := by
        unfold v4
        refine Within.app audit_within rfl ?_
        exact Within.refl
      clear_value v4
      refine Within.ite ?_ ?_
      · refine Within.app bootNoImage_within rfl ?_
        exact hv4
      · refine Within.app ih rfl ?_
        exact hv4

theorem bootLoad_within {first b s} : Within 0x3810028000060f400780100002101fe3bcf43fc00006 s (bootLoad first b s) := by
  unfold bootLoad
  extract_lets v1 v2 v3 v4 v5 v6 v7
  have hv3 : Within 0x3810028000060f400780100002101fe3bcf43fc00006 s v3 := by
    unfold v3
    refine Within.upd (e := s) ?_ rfl rfl rfl rfl rfl rfl rfl rfl
    exact Within.refl
  clear_value v3
  have hv4 : Within 0x3810028000060f400780100002101fe3bcf43fc00006 s v4 := by
    unfold v4
    refine Within.foldl ?_ ?_
    · intro t8 x9
      refine Within.app linkTrain_within rfl ?_
      exact Within.refl
    · refine Within.app setStage_within rfl ?_
      exact hv3
  clear_value v4
  have hv5 : Within 0x3810028000060f400780100002101fe3bcf43fc00006 s v5 := by
    unfold v5
    refine Within.app setStage_within rfl ?_
    exact hv4
  clear_value v5
  refine Within.ite ?_ ?_
  · exact hv4
  · refine Within.ite ?_ ?_
    · refine Within.app secResponse_within rfl ?_
      exact hv5
    · refine Within.ite ?_ ?_
      · refine Within.upd (e := v5) ?_ rfl rfl rfl rfl rfl rfl rfl rfl
        exact hv5
      · refine Within.ite ?_ ?_
        · refine Within.app bootError_within rfl ?_
          exact hv5
        · refine Within.app bootSlots_within rfl ?_
          refine Within.upd (e := v5) ?_ rfl rfl rfl rfl rfl rfl rfl rfl
          exact hv5

theorem refSilence_within {s} : Within 0x281003f7bff68f4e6f879fff02011f0384000d40003e s (refSilence s) := by
  unfold refSilence
  refine Within.foldl ?_ ?_
  · intro t1 x2
    refine Within.app hostFall_within rfl ?_
    exact Within.refl
  · refine Within.app silenceAll_within rfl ?_
    exact Within.refl

theorem bootHold_within {s} : Within 0x281003f7bff68f4e6f879fff02011f0384000d4004be s (bootHold s) := by
  unfold bootHold
  extract_lets v1 v2
  have hv1 : Within 0x281003f7bff68f4e6f879fff02011f0384000d4004be s v1 := by
    unfold v1
    refine Within.app refSilence_within rfl ?_
    refine Within.app report_within rfl ?_
    exact Within.refl
  clear_value v1
  refine Within.app setStage_within rfl ?_
  refine Within.upd (e := v1) ?_ rfl rfl rfl rfl rfl rfl rfl rfl
  exact hv1

theorem coldBegin_within {first b s} : Within 0x381003f7bff68f4e6f879fff02911fe3fcf73fc005be s (coldBegin first b s) := by
  unfold coldBegin
  extract_lets v1 v2 v3 v4 v5
  have hv5 : Within 0x381003f7bff68f4e6f879fff02911fe3fcf73fc005be s v5 := by
    unfold v5
    refine Within.upd (e := s) ?_ rfl rfl rfl rfl rfl rfl rfl rfl
    exact Within.refl
  clear_value v5
  refine Within.ite ?_ ?_
  · refine Within.app bootError_within rfl ?_
    exact hv5
  · refine Within.ite ?_ ?_
    · refine Within.app bootHold_within rfl ?_
      exact hv5
    · refine Within.ite ?_ ?_
      · refine Within.app bootError_within rfl ?_
        refine Within.app setStage_within rfl ?_
        exact hv5
      · refine Within.app bootLoad_within rfl ?_
        refine Within.app monitorsStart_within rfl ?_
        exact hv5

theorem execColdStart_within {b s} : WithinX 0x381003f7bff68f4e6f879fff02911fe3fcf73fc005be s (execColdStart b s) := by
  unfold execColdStart
  refine WithinX.next ?_
  refine Within.ite ?_ ?_
  · exact Within.refl
  · refine Within.app coldBegin_within rfl ?_
    exact Within.refl

theorem execMctpFirmwareImage_within {seq bytes final a3 s} :
    WithinX 0x3810028000060f400780100002001f033ce41fc00006 s (execMctpFirmwareImage seq bytes final a3 s) := by
  unfold execMctpFirmwareImage
  refine WithinX.next ?_
  refine Within.ite ?_ ?_
  · exact Within.refl
  · extract_lets v1 v2 v3
    have hv2 : Within 0x3810028000060f400780100002001f033ce41fc00006 s v2 := by
      unfold v2
      refine Within.upd (e := s) ?_ rfl rfl rfl rfl rfl rfl rfl rfl
      exact Within.refl
    clear_value v2
    refine Within.ite ?_ ?_
    · exact hv2
    · refine Within.ite ?_ ?_
      · refine Within.app bootImage_within rfl ?_
        exact hv2
      · refine Within.app bootNoImage_within rfl ?_
        refine Within.app audit_within rfl ?_
        exact hv2

theorem warmLose_within {s} : Within 0x1fffaa801184b7027d00000000000000000000000004 s (warmLose s) := by
  unfold warmLose
  extract_lets v1 v2 v3 v4 v5 v6
  refine Within.upd (e := s) ?_ rfl rfl rfl rfl rfl rfl rfl rfl
  exact Within.refl

theorem execClockJudgedGood_within {clock ppm s} :
    WithinX 0x3810028000060f400780100002101fe3bcf43fc0043e s (execClockJudgedGood clock ppm s) := by
  unfold execClockJudgedGood
  split
  rename_i x1 x2 t3 h4
  have ht3 : Within 0x3810028000060f400780100002101fe3bcf43fc0043e s t3 := by
    refine Within2.of h4 ?_
    refine Within2.app clockOf_within rfl ?_
    exact Within.refl
  refine WithinX.next ?_
  refine Within.ite ?_ ?_
  · exact ht3
  · extract_lets v5 v6 v7
    have hv5 : Within 0x3810028000060f400780100002101fe3bcf43fc0043e s v5 := by
      unfold v5
      refine Within.app State.advanceTo_within rfl ?_
      exact ht3
    clear_value v5
    have hv6 : Within 0x3810028000060f400780100002101fe3bcf43fc0043e s v6 := by
      unfold v6
      refine Within.app setMonitor_within rfl ?_
      exact hv5
    clear_value v6
    have hv7 : Within 0x3810028000060f400780100002101fe3bcf43fc0043e s v7 := by
      unfold v7
      split
      · rename_i x8 x9 x10 h11
        refine Within.ite ?_ ?_
        · refine Within.app bootLoad_within rfl ?_
          exact hv6
        · exact hv6
      · rename_i x12 h13
        exact hv6
    clear_value v7
    refine Within.trans ?_ (whenFab_within rfl ?_)
    · exact hv7
    · intro t14
      refine Within.foldl ?_ ?_
      · intro t15 x16
        refine Within.app laneStart_within rfl ?_
        exact Within.refl
      · exact Within.refl

theorem clockFailed_within {clock ppm s} : Within 0x381003f7bff68f4e6f879fff02011f0304000d40043e s (clockFailed clock ppm s) := by
  unfold clockFailed
  extract_lets v1 v2 v3 v4 v5
  have hv1 : Within 0x381003f7bff68f4e6f879fff02011f0304000d40043e s v1 := by
    unfold v1
    refine Within.app setMonitor_within rfl ?_
    exact Within.refl
  clear_value v1
  have hv3 : Within 0x381003f7bff68f4e6f879fff02011f0304000d40043e s v3 := by
    unfold v3
    refine Within.ite ?_ ?_
    · exact hv1
    · refine Within.app State.setReg_within rfl ?_
      exact hv1
  clear_value v3
  have hv4 : Within 0x381003f7bff68f4e6f879fff02011f0304000d40043e s v4 := by
    unfold v4
    refine Within.trans ?_ (whenFab_within rfl ?_)
    · exact hv3
    · intro t6
      refine Within.foldl ?_ ?_
      · intro t7 x8
        refine Within.app pllLost_within rfl ?_
        exact Within.refl
      · exact Within.refl
  clear_value v4
  have hv5 : Within 0x381003f7bff68f4e6f879fff02011f0304000d40043e s v5 := by
    unfold v5
    refine Within.ite ?_ ?_
    · refine Within.app hostFall_within rfl ?_
      exact hv4
    · exact hv4
  clear_value v5
  refine Within.app report_within rfl ?_
  exact hv5

theorem execClkOutOfWindow_within {clock ppm s} :
    WithinX 0x381003f7bff68f4e6f879fff02011f0304040dc0043e s (execClkOutOfWindow clock ppm s) := by
  unfold execClkOutOfWindow
  split
  rename_i x1 x2 t3 h4
  have ht3 : Within 0x381003f7bff68f4e6f879fff02011f0304040dc0043e s t3 := by
    refine Within2.of h4 ?_
    refine Within2.app clockOf_within rfl ?_
    exact Within.refl
  refine WithinX.next ?_
  extract_lets v5
  refine Within.ite ?_ ?_
  · exact ht3
  · refine Within.ite ?_ ?_
    · refine Within.app bootError_within rfl ?_
      refine Within.app setMonitor_within rfl ?_
      refine Within.app State.advanceTo_within rfl ?_
      exact ht3
    · refine Within.ite ?_ ?_
      · exact ht3
      · refine Within.app clockFailed_within rfl ?_
        refine Within.app State.advanceTo_within rfl ?_
        exact ht3

theorem execRefclkPresent_within {s} : WithinX 0x400580 s (execRefclkPresent s) := by
  unfold execRefclkPresent
  refine WithinX.next ?_
  refine Within.ite ?_ ?_
  · exact Within.refl
  · extract_lets v1 v2
    have hv2 : Within 0x400580 s v2 := by
      unfold v2
      refine Within.upd (e := s) ?_ rfl rfl rfl rfl rfl rfl rfl rfl
      exact Within.refl
    refine Within.ite ?_ ?_
    · refine Within.app monitorsStart_within rfl ?_
      refine Within.app setStage_within rfl ?_
      exact hv2
    · exact hv2

theorem execClkRefLost_within {s} : WithinX 0x3fffabf7bff6bf4e7f879fff02011f0384000d4006be s (execClkRefLost s) := by
  unfold execClkRefLost
  refine WithinX.next ?_
  refine Within.ite ?_ ?_
  · exact Within.refl
  · extract_lets v1 v2 v3 v4 v5 v6
    have hv2 : Within 0x3fffabf7bff6bf4e7f879fff02011f0384000d4006be s v2 := by
      unfold v2
      refine Within.upd (e := s) ?_ rfl rfl rfl rfl rfl rfl rfl rfl
      exact Within.refl
    clear_value v2
    have hv3 : Within 0x3fffabf7bff6bf4e7f879fff02011f0384000d4006be s v3 := by
      unfold v3
      refine Within.app report_within rfl ?_
      exact hv2
    clear_value v3
    have hv5 : Within 0x3fffabf7bff6bf4e7f879fff02011f0384000d4006be s v5 := by
      unfold v5
      refine Within.app warmLose_within rfl ?_
      refine Within.app report_within rfl ?_
      exact hv2
    clear_value v5
    refine Within.ite ?_ ?_
    · refine Within.app quiesce_within rfl ?_
      refine Within.upd (e := v3) ?_ rfl rfl rfl rfl rfl rfl rfl rfl
      exact hv3
    · refine Within.ite ?_ ?_
      · refine Within.ite ?_ ?_
        · refine Within.app refSilence_within rfl ?_
          exact hv3
        · exact hv3
      · refine Within.ite ?_ ?_
        · refine Within.app refSilence_within rfl ?_
          refine Within.upd (e := v5) ?_ rfl rfl rfl rfl rfl rfl rfl rfl
          exact hv5
        · refine Within.ite ?_ ?_
          · refine Within.app bootHold_within rfl ?_
            exact hv2
          · exact hv2

theorem refReturned_within {t s} : Within 0x80000c000230 s (refReturned t s) := by
  unfold refReturned
  extract_lets v1 v2 v3
  have hv1 : Within 0x80000c000230 s v1 := by
    unfold v1
    refine Within.app State.advanceTo_within rfl ?_
    exact Within.refl
  clear_value v1
  refine Within.upd (e := v1) ?_ rfl rfl rfl rfl rfl rfl rfl rfl
  exact hv1

theorem execRefclkReturn_within {s} : WithinX 0x80000c000230 s (execRefclkReturn s) := by
  unfold execRefclkReturn
  refine WithinX.next ?_
  refine Within.ite ?_ ?_
  · exact Within.refl
  · refine Within.app refReturned_within rfl ?_
    exact Within.refl

theorem execWarmQuiesceDone_within {s} : WithinX 0x3fffabf7bff6bf4e7f879fff02011f0384000d40003e s (execWarmQuiesceDone s) := by
  unfold execWarmQuiesceDone
  refine WithinX.next ?_
  refine Within.ite ?_ ?_
  · exact Within.refl
  · extract_lets v1 v2 v3 v4
    have hv1 : Within 0x3fffabf7bff6bf4e7f879fff02011f0384000d40003e s v1 := by
      unfold v1
      refine Within.app settle_within rfl ?_
      refine Within.foldl ?_ ?_
      · intro t5 x6
        refine Within.app reqDone_within rfl ?_
        exact Within.refl
      · exact Within.refl
    clear_value v1
    have hv2 : Within 0x3fffabf7bff6bf4e7f879fff02011f0384000d40003e s v2 := by
      unfold v2
      refine Within.app warmLose_within rfl ?_
      exact hv1
    clear_value v2
    have hv4 : Within 0x3fffabf7bff6bf4e7f879fff02011f0384000d40003e s v4 := by
      unfold v4
      refine Within.upd (e := v2) ?_ rfl rfl rfl rfl rfl rfl rfl rfl
      exact hv2
    clear_value v4
    refine Within.ite ?_ ?_
    · exact hv4
    · refine Within.app refSilence_within rfl ?_
      exact hv4

theorem warmConfig_within {s} : Within 0x7c91407400400e000000000000 s (warmConfig s) := by
  unfold warmConfig
  refine Within.updRegs Within.refl rfl rfl rfl (warmRegs_rising) ?_ ?_ rfl rfl
  · intro h
    dsimp only
    split
    · exact h
    · rfl
  · intro h
    dsimp only
    split
    · exact h
    · rfl

theorem warmPower_within {s} : Within 0x20000000000000000000000000000000000000000000 s (warmPower s) := by
  unfold warmPower
  extract_lets v1 v2 v3
  have hv3 : Within 0x20000000000000000000000000000000000000000000 s v3 := by
    unfold v3
    refine Within.app updPwr_within rfl ?_
    exact Within.refl
  clear_value v3
  refine Within.app updPwr_within rfl ?_
  exact hv3

theorem endSessions_within {s} : Within 0x11f00000000000000 s (endSessions s) := by
  unfold endSessions
  refine Within.foldl ?_ ?_
  · intro t1 x2
    refine Within.app endSession_within rfl ?_
    exact Within.refl
  · exact Within.refl

theorem warmContexts_within {lost s} : Within 0x281002a28b060d52a7801fff02001f0304000d40000e s (warmContexts lost s) := by
  unfold warmContexts
  extract_lets v1 v2 v3
  have hv3 : Within 0x281002a28b060d52a7801fff02001f0304000d40000e s v3 := by
    unfold v3
    refine Within.upd (e := s) ?_ rfl rfl rfl rfl rfl rfl rfl rfl
    exact Within.refl
  clear_value v3
  refine Within.foldl ?_ ?_
  · intro t4 x5
    extract_lets v6
    have hv6 : Within 0x281002a28b060d52a7801fff02001f0304000d40000e t4 v6 := by
      unfold v6
      refine Within.app moveToError_within rfl ?_
      exact Within.refl
    clear_value v6
    refine Within.foldl ?_ ?_
    · intro t7 x8
      refine Within.app endJob_within rfl ?_
      exact Within.refl
    · exact hv6
  · exact hv3

theorem timeRestored_within {role s} : Within 0x1cf840 s (timeRestored role s) := by
  unfold timeRestored
  extract_lets v1
  have hv1 : Within 0x1cf840 s v1 := by
    unfold v1
    refine Within.updClk ?_ (Nat.le_refl _) rfl
    exact Within.refl
  clear_value v1
  refine Within.ite ?_ ?_
  · refine Within.app timeRoleChanged_within rfl ?_
    exact hv1
  · exact hv1

theorem execWarmRestore_within {clocksOk fwOk lost b s} :
    WithinX 0x3ffffffffffffffffffffffffff7fffffffffffffffe s (execWarmRestore clocksOk fwOk lost b s) := by
  unfold execWarmRestore
  refine WithinX.next ?_
  refine Within.ite ?_ ?_
  · exact Within.refl
  · refine Within.ite ?_ ?_
    · refine Within.app coldBegin_within rfl ?_
      refine Within.app coldState_within rfl ?_
      exact Within.refl
    · extract_lets v1 v2 v3 v4 v5 v6 v7 v8 v9 v10 v11 v12 v13
      have hv6 : Within 0x3ffffffffffffffffffffffffff7fffffffffffffffe s v6 := by
        unfold v6
        refine Within.upd (e := s) ?_ rfl rfl rfl rfl rfl rfl rfl rfl
        exact Within.refl
      clear_value v6
      have hv8 : Within 0x3ffffffffffffffffffffffffff7fffffffffffffffe s v8 := by
        unfold v8
        refine Within.elim ?_ ?_
        · exact hv6
        · intro x14
          refine Within.upd (e := v6) ?_ rfl rfl rfl rfl rfl rfl rfl rfl
          exact hv6
      clear_value v8
      have hv9 : Within 0x3ffffffffffffffffffffffffff7fffffffffffffffe s v9 := by
        unfold v9
        refine Within.app startPolicers_within rfl ?_
        refine Within.app warmPower_within rfl ?_
        refine Within.app warmConfig_within rfl ?_
        exact hv8
      clear_value v9
      have hv10 : Within 0x3ffffffffffffffffffffffffff7fffffffffffffffe s v10 := by
        unfold v10
        refine Within.app endSessions_within rfl ?_
        refine Within.app warmContexts_within rfl ?_
        exact hv9
      clear_value v10
      have hv11 : Within 0x3ffffffffffffffffffffffffff7fffffffffffffffe s v11 := by
        unfold v11
        refine Within.app monitorsStart_within rfl ?_
        exact hv10
      clear_value v11
      have hv12 : Within 0x3ffffffffffffffffffffffffff7fffffffffffffffe s v12 := by
        unfold v12
        refine Within.foldl ?_ ?_
        · intro t15 x16
          refine Within.app linkEnableChanged_within rfl ?_
          exact Within.refl
        · exact hv11
      clear_value v12
      have hv13 : Within 0x3ffffffffffffffffffffffffff7fffffffffffffffe s v13 := by
        unfold v13
        refine Within.app timeRestored_within rfl ?_
        exact hv12
      clear_value v13
      refine Within.app portsAcquire_within rfl ?_
      refine Within.app portsRelease_within rfl ?_
      refine Within.ite ?_ ?_
      · refine Within.app clkOutChanged_within rfl ?_
        exact hv13
      · exact hv13

theorem completeCut_within {b st s} : Within 0x1fff02001f02000000000006 s (completeCut b st s) := by
  unfold completeCut
  extract_lets v1 v2
  have hv2 : Within 0x1fff02001f02000000000006 s v2 := by
    unfold v2
    refine Within.foldl ?_ ?_
    · intro t3 x4
      refine Within.app audit_within rfl ?_
      exact Within.refl
    · refine Within.upd (e := s) ?_ rfl rfl rfl rfl rfl rfl rfl rfl
      exact Within.refl
  clear_value v2
  split
  · rename_i x5 x6 x7 h8
    refine Within.app completeCmd_within rfl ?_
    exact hv2
  · rename_i x9 h10
    refine Within.app completeCmd_within rfl ?_
    exact hv2

theorem cutCommands_within {s} : Within 0x1fff02001f02000000000006 s (cutCommands s) := by
  unfold cutCommands
  refine Within.foldl ?_ ?_
  · intro t1 x2
    split
    · rename_i x3 x4 h5
      refine Within.app completeCut_within rfl ?_
      exact Within.refl
    · rename_i x6 h7
      exact Within.refl
  · exact Within.refl

theorem resumeSinks_within {s} : Within 0x60d400780100002001f02000000000006 s (resumeSinks s) := by
  unfold resumeSinks
  refine Within.foldl ?_ ?_
  · intro t1 x2
    extract_lets v3
    have hv3 : Within 0x60d400780100002001f02000000000006 t1 v3 := by
      unfold v3
      refine Within.app cqDrain_within rfl ?_
      exact Within.refl
    clear_value v3
    refine Within.app eqFlush_within rfl ?_
    refine Within.app eqRetry_within rfl ?_
    exact hv3
  · exact Within.refl

theorem resumeTargets_within {s} : Within 0x281002928f860d4227801fff02001f0304000d40000e s (resumeTargets s) := by
  unfold resumeTargets
  refine Within.app targetsGo_within rfl ?_
  refine Within.foldl ?_ ?_
  · intro t1 x2
    refine Within.trans ?_ (onTarget_within rfl ?_)
    · exact Within.refl
    · intro t3
      refine Within.app targetAgain_within rfl ?_
      exact Within.refl
  · exact Within.refl

theorem resumeJobs_within {s} : Within 0x281003e2ab060d4227801fff02001f0304000d40003e s (resumeJobs s) := by
  unfold resumeJobs
  refine Within.foldl ?_ ?_
  · intro t1 x2
    refine Within.app jobResume_within rfl ?_
    exact Within.refl
  · exact Within.refl

theorem resumePeers_within {s} : Within 0x10000000000000000000000000000000000 s (resumePeers s) := by
  unfold resumePeers
  refine Within.foldl ?_ ?_
  · intro t1 x2
    refine Within.app startPeerFetch_within rfl ?_
    exact Within.refl
  · exact Within.refl

theorem execEndpointResume_within {s} : WithinX 0x281003f7bfd60d4e2f803fff02001f0306000d40003e s (execEndpointResume s) := by
  unfold execEndpointResume
  refine WithinX.next ?_
  refine Within.ite ?_ ?_
  · exact Within.refl
  · extract_lets v1 v2 v3 v4 v5 v6 v7 v8 v9
    have hv2 : Within 0x281003f7bfd60d4e2f803fff02001f0306000d40003e s v2 := by
      unfold v2
      refine Within.ite ?_ ?_
      · exact Within.refl
      · refine Within.app State.advanceTo_within rfl ?_
        exact Within.refl
    clear_value v2
    have hv5 : Within 0x281003f7bfd60d4e2f803fff02001f0306000d40003e s v5 := by
      unfold v5
      refine Within.app setStage_within rfl ?_
      refine Within.upd (e := v2) ?_ rfl rfl rfl rfl rfl rfl rfl rfl
      exact hv2
    clear_value v5
    have hv6 : Within 0x281003f7bfd60d4e2f803fff02001f0306000d40003e s v6 := by
      unfold v6
      refine Within.app cutCommands_within rfl ?_
      refine Within.app allEndpoints_within rfl ?_
      exact hv5
    clear_value v6
    have hv7 : Within 0x281003f7bfd60d4e2f803fff02001f0306000d40003e s v7 := by
      unfold v7
      refine Within.app resumeJobs_within rfl ?_
      refine Within.app resumeTargets_within rfl ?_
      refine Within.app resumePeers_within rfl ?_
      refine Within.app resumeSinks_within rfl ?_
      exact hv6
    clear_value v7
    have hv8 : Within 0x281003f7bfd60d4e2f803fff02001f0306000d40003e s v8 := by
      unfold v8
      refine Within.foldl ?_ ?_
      · intro t10 x11
        refine Within.app rndvGo_within rfl ?_
        exact Within.refl
      · exact hv7
    clear_value v8
    have hv9 : Within 0x281003f7bfd60d4e2f803fff02001f0306000d40003e s v9 := by
      unfold v9
      refine Within.foldl ?_ ?_
      · intro t12 x13
        refine Within.app groupWake_within rfl ?_
        refine Within.app rebuildGroup_within rfl ?_
        exact Within.refl
      · exact hv8
    clear_value v9
    refine Within.app settle_within rfl ?_
    exact hv9

theorem warmRequest_within {s} : Within 0x810028000060d400780100002001f0304000c400006 s (warmRequest s) := by
  unfold warmRequest
  refine Within.app beginWarm_within rfl ?_
  exact Within.refl

theorem execMctpWarmResetRequest_within {seq s} :
    WithinX 0x810028000060d400780100002001f0304000c400006 s (execMctpWarmResetRequest seq s) := by
  unfold execMctpWarmResetRequest
  refine WithinX.next ?_
  refine Within.ite ?_ ?_
  · exact Within.refl
  · refine Within.ite ?_ ?_
    · refine Within.app beginWarm_within rfl ?_
      refine Within.app State.emit_within rfl ?_
      exact Within.refl
    · refine Within.ite ?_ ?_
      · refine Within.app beginWarm_within rfl ?_
        exact Within.refl
      · exact Within.refl

theorem execShadowRetireComplete_within {s} : WithinX 0x10000000000000000000000 s (execShadowRetireComplete s) := by
  unfold execShadowRetireComplete
  refine WithinX.next ?_
  refine Within.ite ?_ ?_
  · exact Within.refl
  · refine Within.upd (e := s) ?_ rfl rfl rfl rfl rfl rfl rfl rfl
    exact Within.refl

theorem invalResume_within {c s} : Within 0x60d400780100002001f02000000000006 s (invalResume c s) := by
  unfold invalResume
  refine Within.foldl ?_ ?_
  · intro t1 x2
    extract_lets v3
    have hv3 : Within 0x60d400780100002001f02000000000006 t1 v3 := by
      unfold v3
      split
      · rename_i x4 x5 h6
        refine Within.ite ?_ ?_
        · refine Within.app startRun_within rfl ?_
          refine Within.app updFetch_within rfl ?_
          exact Within.refl
        · exact Within.refl
      · rename_i x7 h8
        exact Within.refl
    clear_value v3
    refine Within.ite ?_ ?_
    · refine Within.app cqDrain_within rfl ?_
      refine Within.app updSink_within rfl ?_
      exact hv3
    · exact hv3
  · exact Within.refl

theorem invalWake_within {s} : Within 0x20000000000000000000100000000000000000000000 s (invalWake s) := by
  unfold invalWake
  refine Within.foldl ?_ ?_
  · intro t1 x2
    refine Within.app wakeDomain_within rfl ?_
    exact Within.refl
  · exact Within.refl

theorem invalGo_within {i s} : Within 0x61f400780100002001f02000000000006 s (invalGo i s) := by
  unfold invalGo
  extract_lets v1 v2
  refine Within.app invalResume_within rfl ?_
  refine Within.app invalApply_within rfl ?_
  refine Within.upd (e := s) ?_ rfl rfl rfl rfl rfl rfl rfl rfl
  exact Within.refl

theorem invalsGo_within {s} : Within 0x61f400780100002001f02000000000006 s (invalsGo s) := by
  unfold invalsGo
  refine Within.ite ?_ ?_
  · exact Within.refl
  · refine Within.foldl ?_ ?_
    · intro t1 x2
      refine Within.app invalGo_within rfl ?_
      exact Within.refl
    · exact Within.refl

theorem invalStart_within {a0 a1} : Within 0x20000000000010000000100000000000000000000000 a1 (invalStart a0 a1) := by
  induction a0 generalizing a1
  · rw [invalStart]
    exact Within.refl
  · rename_i x1 ih
    rw [invalStart]
    split
    · rename_i x2 h3
      exact Within.refl
    · rename_i x4 x5 h6
      refine Within.ite ?_ ?_
      · extract_lets v7 v8
        refine Within.app ih rfl ?_
        refine Within.app invalWake_within rfl ?_
        refine Within.upd (e := a1) ?_ rfl rfl rfl rfl rfl rfl rfl rfl
        exact Within.refl
      · exact Within.refl

theorem invalFinish_within {a0 a1} : Within 0x300000001fff02001f02000000000006 a1 (invalFinish a0 a1) := by
  induction a0 generalizing a1
  · rw [invalFinish]
    exact Within.refl
  · rename_i x1 ih
    rw [invalFinish]
    split
    · rename_i x2 h3
      exact Within.refl
    · rename_i x4 x5 h6
      extract_lets v7 v8
      have hv8 : Within 0x300000001fff02001f02000000000006 a1 v8 := by
        unfold v8
        refine Within.upd (e := a1) ?_ rfl rfl rfl rfl rfl rfl rfl rfl
        exact Within.refl
      clear_value v8
      refine Within.app ih rfl ?_
      refine Within.app completeWhere_within rfl ?_
      exact hv8

theorem invalAsk_within {chan c s} : Within 0x2000000000065f400780100002001f02000000000006 s (invalAsk chan c s) := by
  unfold invalAsk
  extract_lets v1 v2
  refine Within.app invalsGo_within rfl ?_
  refine Within.app invalStart_within rfl ?_
  refine Within.upd (e := s) ?_ rfl rfl rfl rfl rfl rfl rfl rfl
  exact Within.refl

theorem invalAck_within {id s} : Within 0x2000000000063f4007801fff02001f02000000000006 s (invalAck id s) := by
  unfold invalAck
  split
  · rename_i x1 h2
    exact Within.refl
  · rename_i x3 x4 h5
    refine Within.ite ?_ ?_
    · exact Within.refl
    · extract_lets v6 v7 v8 v9
      have hv8 : Within 0x2000000000063f4007801fff02001f02000000000006 s v8 := by
        unfold v8
        refine Within.upd (e := s) ?_ rfl rfl rfl rfl rfl rfl rfl rfl
        exact Within.refl
      clear_value v8
      have hv9 : Within 0x2000000000063f4007801fff02001f02000000000006 s v9 := by
        unfold v9
        refine Within.app invalFinish_within rfl ?_
        exact hv8
      clear_value v9
      refine Within.app invalsGo_within rfl ?_
      refine Within.app invalStart_within rfl ?_
      exact hv9

theorem doorbellRefused_within {port fn addr s} : Within 0x100000000002000000000000 s (doorbellRefused port fn addr s) := by
  unfold doorbellRefused
  refine Within.app hifErr_within rfl ?_
  refine Within.app State.count_within rfl ?_
  exact Within.refl

theorem produce_within {q pos s} : Within 0x281002a28b060d4227801fff02001f0304000d40000e s (produce q pos s) := by
  unfold produce
  extract_lets v1 v2 v3
  have hv3 : Within 0x281002a28b060d4227801fff02001f0304000d40000e s v3 := by
    unfold v3
    refine Within.ite ?_ ?_
    · refine Within.app updFetch_within rfl ?_
      exact Within.refl
    · exact Within.refl
  clear_value v3
  refine Within.ite ?_ ?_
  · refine Within.app malformedDoorbell_within rfl ?_
    refine Within.app memberQueueLost_within rfl ?_
    exact Within.refl
  · refine Within.app startRun_within rfl ?_
    refine Within.app wakeDomain_within rfl ?_
    refine Within.app wakeDomain_within rfl ?_
    exact hv3

theorem consume_within {q pos s} : Within 0x810028000060d400780100002001f0304000d400006 s (consume q pos s) := by
  unfold consume
  extract_lets v1 v2 v3
  have hv3 : Within 0x810028000060d400780100002001f0304000d400006 s v3 := by
    unfold v3
    refine Within.app updSink_within rfl ?_
    exact Within.refl
  clear_value v3
  refine Within.ite ?_ ?_
  · exact Within.refl
  · refine Within.ite ?_ ?_
    · refine Within.app malformedDoorbell_within rfl ?_
      exact Within.refl
    · refine Within.app cqWake_within rfl ?_
      refine Within.app refusalEnd_within rfl ?_
      exact hv3

theorem arm_within {q solicited pos s} : Within 0x60d400780100002001f02000000000006 s (arm q solicited pos s) := by
  unfold arm
  extract_lets v1 v2 v3
  have hv1 : Within 0x60d400780100002001f02000000000006 s v1 := by
    unfold v1
    refine Within.app updSink_within rfl ?_
    exact Within.refl
  clear_value v1
  refine Within.ite ?_ ?_
  · refine Within.app cqNotify_within rfl ?_
    exact hv1
  · exact hv1

theorem doorbellApply_within {port fn addr qid op pos s} :
    Within 0x281002a28b060d4227801fff02001f0304000d40000e s (doorbellApply port fn addr qid op pos s) := by
  unfold doorbellApply
  split
  · rename_i x1 h2
    exact Within.refl
  · rename_i x3 x4 h5
    refine Within.ite ?_ ?_
    · refine Within.app doorbellRefused_within rfl ?_
      exact Within.refl
    · refine Within.ite ?_ ?_
      · refine Within.app produce_within rfl ?_
        exact Within.refl
      · refine Within.ite ?_ ?_
        · refine Within.app consume_within rfl ?_
          exact Within.refl
        · refine Within.app arm_within rfl ?_
          exact Within.refl

theorem dbHold_within {qid op pos s} : Within 0x2400000000000000000000000000 s (dbHold qid op pos s) := by
  unfold dbHold
  extract_lets v1 v2
  have hv1 : Within 0x2400000000000000000000000000 s v1 := by
    unfold v1
    refine Within.app startFetch_within rfl ?_
    exact Within.refl
  clear_value v1
  refine Within.ite ?_ ?_
  · refine Within.upd (e := v1) ?_ rfl rfl rfl rfl rfl rfl rfl rfl
    exact hv1
  · refine Within.upd (e := v1) ?_ rfl rfl rfl rfl rfl rfl rfl rfl
    exact hv1

theorem stallWrite_within {port w s} : Within 0x4000000000000000000000000000 s (stallWrite port w s) := by
  unfold stallWrite
  refine Within.upd (e := s) ?_ rfl rfl rfl rfl rfl rfl rfl rfl
  exact Within.refl

theorem doorbellTake_within {port fn page offset v qid s} :
    Within 0x281002a28b060d4a67801fff02001f0304000d40000e s (doorbellTake port fn page offset v qid s) := by
  unfold doorbellTake
  extract_lets v1 v2
  refine Within.ite ?_ ?_
  · refine Within.app doorbellApply_within rfl ?_
    refine Within.app touch_within rfl ?_
    exact Within.refl
  · refine Within.ite ?_ ?_
    · refine Within.app dbHold_within rfl ?_
      exact Within.refl
    · refine Within.app stallWrite_within rfl ?_
      refine Within.app startFetch_within rfl ?_
      exact Within.refl

theorem bar2Write_within {port fn page offset len v s} :
    Within 0x281003f7bfd60d4e6f801fff02001f0304000d40003e s (bar2Write port fn page offset len v s) := by
  unfold bar2Write
  refine Within.ite ?_ ?_
  · exact Within.refl
  · extract_lets v1
    split
    · rename_i x2 h3
      refine Within.app doorbellRefused_within rfl ?_
      exact Within.refl
    · rename_i x4 x5 h6
      refine Within.ite ?_ ?_
      · refine Within.app doorbellRefused_within rfl ?_
        exact Within.refl
      · refine Within.ite ?_ ?_
        · refine Within.app doorbellRefused_within rfl ?_
          exact Within.refl
        · refine Within.app settle_within rfl ?_
          refine Within.app doorbellTake_within rfl ?_
          exact Within.refl

theorem evictStart_within {qid s} : Within 0x810028000060d408780100002001f0304000d40000e s (evictStart qid s) := by
  unfold evictStart
  split
  · rename_i x1 x2 t3 h4
    have ht3 : Within 0x810028000060d408780100002001f0304000d40000e s t3 := by
      refine Within2.of h4 ?_
      refine Within2.app hbmRefusal_within rfl ?_
      exact Within.refl
    refine Within.app memLost_within rfl ?_
    exact ht3
  · rename_i x5 t6 h7
    have ht6 : Within 0x810028000060d408780100002001f0304000d40000e s t6 := by
      refine Within2.of h7 ?_
      refine Within2.app hbmRefusal_within rfl ?_
      exact Within.refl
    extract_lets v8 v9
    have hv8 : Within 0x810028000060d408780100002001f0304000d40000e s v8 := by
      unfold v8
      refine Within.app updQueue_within rfl ?_
      exact ht6
    clear_value v8
    refine Within.upd (e := v8) ?_ rfl rfl rfl rfl rfl rfl rfl rfl
    exact hv8

theorem execContextEvictionStart_within {qid s} :
    WithinX 0x281003f7bfd60d5eaf801fff02001f0304000d40003e s (execContextEvictionStart qid s) := by
  unfold execContextEvictionStart
  refine WithinX.next ?_
  refine Within.trans ?_ (epStep_within rfl ?_)
  · exact Within.refl
  · intro t1
    extract_lets v2 v3 v4 v5 v6
    have hv6 : Within 0x281003f7bfd60d5eaf801fff02001f0304000d40003e t1 v6 := by
      unfold v6
      refine Within.upd (e := t1) ?_ rfl rfl rfl rfl rfl rfl rfl rfl
      exact Within.refl
    clear_value v6
    refine Within.ite ?_ ?_
    · refine Within.app evictStart_within rfl ?_
      exact hv6
    · exact hv6

theorem fetchWanted_within {s} : Within 0x400000000000000000000000000 s (fetchWanted s) := by
  unfold fetchWanted
  refine Within.foldl ?_ ?_
  · intro t1 x2
    refine Within.app startFetch_within rfl ?_
    exact Within.refl
  · exact Within.refl

theorem execContextEvictionComplete_within {qid s} :
    WithinX 0x281003f7bfd60d5eaf801fff02001f0304000d40003e s (execContextEvictionComplete qid s) := by
  unfold execContextEvictionComplete
  refine WithinX.next ?_
  refine Within.trans ?_ (epStep_within rfl ?_)
  · exact Within.refl
  · intro t1
    refine Within.ite ?_ ?_
    · exact Within.refl
    · extract_lets v2 v3 v4
      have hv2 : Within 0x281003f7bfd60d5eaf801fff02001f0304000d40003e t1 v2 := by
        unfold v2
        refine Within.app updQueue_within rfl ?_
        exact Within.refl
      clear_value v2
      have hv4 : Within 0x281003f7bfd60d5eaf801fff02001f0304000d40003e t1 v4 := by
        unfold v4
        refine Within.upd (e := v2) ?_ rfl rfl rfl rfl rfl rfl rfl rfl
        exact hv2
      clear_value v4
      refine Within.app fetchWanted_within rfl ?_
      refine Within.app completeWhere_within rfl ?_
      exact hv4

theorem heldApply_within {qid s} : Within 0x281002a28b060d4227801fff02001f0304000d40000e s (heldApply qid s) := by
  unfold heldApply
  extract_lets v1 v2 v3 v4
  have hv3 : Within 0x281002a28b060d4227801fff02001f0304000d40000e s v3 := by
    unfold v3
    refine Within.upd (e := s) ?_ rfl rfl rfl rfl rfl rfl rfl rfl
    exact Within.refl
  clear_value v3
  refine Within.foldl ?_ ?_
  · intro t5 x6
    refine Within.app doorbellApply_within rfl ?_
    exact Within.refl
  · exact hv3

theorem contextEcc_within {q s} : Within 0x281002a28b060d422f801fff02001f0304000d40000e s (contextEcc q s) := by
  unfold contextEcc
  extract_lets v1 v2 v3 v4 v5 v6 v7
  have hv1 : Within 0x281002a28b060d422f801fff02001f0304000d40000e s v1 := by
    unfold v1
    refine Within.app report_within rfl ?_
    exact Within.refl
  clear_value v1
  have hv2 : Within 0x281002a28b060d422f801fff02001f0304000d40000e s v2 := by
    unfold v2
    refine Within.app moveToError_within rfl ?_
    refine Within.app captureFenced_within rfl ?_
    exact hv1
  clear_value v2
  have hv3 : Within 0x281002a28b060d422f801fff02001f0304000d40000e s v3 := by
    unfold v3
    refine Within.app queueError_within rfl ?_
    exact hv2
  clear_value v3
  have hv7 : Within 0x281002a28b060d422f801fff02001f0304000d40000e s v7 := by
    unfold v7
    refine Within.upd (e := v3) ?_ rfl rfl rfl rfl rfl rfl rfl rfl
    exact hv3
  clear_value v7
  refine Within.foldl ?_ ?_
  · intro t8 x9
    refine Within.app sendNotNow_within rfl ?_
    exact Within.refl
  · exact hv7

theorem contextFetched_within {qid eccError s} :
    Within 0x281003f7bf860d4e2f801fff02001f0304000d40003e s (contextFetched qid eccError s) := by
  unfold contextFetched
  split
  · rename_i x1 h2
    exact Within.refl
  · rename_i x3 x4 h5
    refine Within.ite ?_ ?_
    · exact Within.refl
    · extract_lets v6
      have hv6 : Within 0x281003f7bf860d4e2f801fff02001f0304000d40003e s v6 := by
        unfold v6
        refine Within.app touch_within rfl ?_
        refine Within.app updQueue_within rfl ?_
        exact Within.refl
      clear_value v6
      split
      rename_i x7 x8 t9 h10
      have ht9 : Within 0x281003f7bf860d4e2f801fff02001f0304000d40003e s t9 := by
        refine Within2.of h10 ?_
        refine Within2.app hbmRefusal_within rfl ?_
        exact hv6
      extract_lets v11
      have hv11 : Within 0x281003f7bf860d4e2f801fff02001f0304000d40003e s v11 := by
        unfold v11
        refine Within.ite ?_ ?_
        · refine Within.app contextEcc_within rfl ?_
          exact ht9
        · exact ht9
      clear_value v11
      refine Within.app pondRelease_within rfl ?_
      refine Within.app pumpEp_within rfl ?_
      refine Within.app heldApply_within rfl ?_
      exact hv11

theorem execPeerFetchComplete_within {k eccError s} :
    WithinX 0x281003f7bfd60d4e2f801fff02001f0304000d40003e s (execPeerFetchComplete k eccError s) := by
  unfold execPeerFetchComplete
  refine WithinX.next ?_
  refine Within.trans ?_ (trnStep_within rfl ?_)
  · exact Within.refl
  · intro t1
    refine Within.ite ?_ ?_
    · exact Within.refl
    · split
      rename_i x2 x3 t4 h5
      have ht4 : Within 0x281003f7bfd60d4e2f801fff02001f0304000d40003e t1 t4 := by
        refine Within2.of h5 ?_
        refine Within2.app hbmRefusal_within rfl ?_
        exact Within.refl
      extract_lets v6 v7 v8
      have hv7 : Within 0x281003f7bfd60d4e2f801fff02001f0304000d40003e t1 v7 := by
        unfold v7
        refine Within.app updPeer_within rfl ?_
        exact ht4
      clear_value v7
      have hv8 : Within 0x281003f7bfd60d4e2f801fff02001f0304000d40003e t1 v8 := by
        unfold v8
        refine Within.ite ?_ ?_
        · refine Within.app abandon_within rfl ?_
          refine Within.app dropOpen_within rfl ?_
          exact hv7
        · exact hv7
      clear_value v8
      refine Within.app peerWake_within rfl ?_
      refine Within.app pumpAll_within rfl ?_
      refine Within.app pondRelease_within rfl ?_
      exact hv8

theorem execCqStallTimeout_within {qid s} : WithinX 0x281003f7bfd60d4e2f801fff02001f0304000d40003e s (execCqStallTimeout qid s) := by
  unfold execCqStallTimeout
  refine WithinX.next ?_
  refine Within.trans ?_ (epStep_within rfl ?_)
  · exact Within.refl
  · intro t1
    split
    · rename_i x2 h3
      exact Within.refl
    · rename_i x4 x5 h6
      split
      · rename_i x7 x8 x9 h10 h11
        refine Within.ite ?_ ?_
        · exact Within.refl
        · extract_lets v12 v13
          have hv12 : Within 0x281003f7bfd60d4e2f801fff02001f0304000d40003e t1 v12 := by
            unfold v12
            refine Within.app State.advanceTo_within rfl ?_
            exact Within.refl
          clear_value v12
          have hv13 : Within 0x281003f7bfd60d4e2f801fff02001f0304000d40003e t1 v13 := by
            unfold v13
            refine Within.app updSink_within rfl ?_
            refine Within.app enterError_within rfl ?_
            refine Within.app captureFenced_within rfl ?_
            exact hv12
          clear_value v13
          refine Within.app queueEvent_within rfl ?_
          exact hv13
      · rename_i x14 x15 ih
        exact Within.refl

theorem execRefetchGapExpiry_within {qid s} : WithinX 0x281003f7bfd60d4e2f801fff02001f0304000d40003e s (execRefetchGapExpiry qid s) := by
  unfold execRefetchGapExpiry
  refine WithinX.next ?_
  refine Within.trans ?_ (epStep_within rfl ?_)
  · exact Within.refl
  · intro t1
    split
    · rename_i x2 h3
      exact Within.refl
    · rename_i x4 x5 h6
      refine Within.ite ?_ ?_
      · exact Within.refl
      · refine Within.app fetchGo_within rfl ?_
        refine Within.app updFetch_within rfl ?_
        refine Within.app State.advance_within rfl ?_
        exact Within.refl

theorem rehomeQueues_within {c s} : Within 0x20000000000000020400100000000000000000000000 s (rehomeQueues c s) := by
  unfold rehomeQueues
  extract_lets v1 v2 v3
  have hv3 : Within 0x20000000000000020400100000000000000000000000 s v3 := by
    unfold v3
    refine Within.upd (e := s) ?_ rfl rfl rfl rfl rfl rfl rfl rfl
    exact Within.refl
  clear_value v3
  refine Within.ite ?_ ?_
  · refine Within.app wakeDomain_within rfl ?_
    exact hv3
  · exact hv3

theorem retireMpe_within {code s} : Within 0x20000000000000020400100004000000000000000000 s (retireMpe code s) := by
  unfold retireMpe
  extract_lets v1
  have hv1 : Within 0x20000000000000020400100004000000000000000000 s v1 := by
    unfold v1
    refine Within.app updEngine_within rfl ?_
    exact Within.refl
  clear_value v1
  refine Within.ite ?_ ?_
  · refine Within.app rehomeQueues_within rfl ?_
    exact hv1
  · exact hv1

theorem retireCluster_within {n s} : Within 0x281003e2ab060d4227801fff06001f0304000d40003e s (retireCluster n s) := by
  unfold retireCluster
  extract_lets v1 v2
  have hv1 : Within 0x281003e2ab060d4227801fff06001f0304000d40003e s v1 := by
    unfold v1
    refine Within.app updEngine_within rfl ?_
    exact Within.refl
  clear_value v1
  have hv2 : ∀ t3 x4, Within 0x281003e2ab060d4227801fff06001f0304000d40003e t3 (v2 t3 x4) := by
    intro t3 x4
    unfold v2
    extract_lets v5
    refine Within.app wakeDomain_within rfl ?_
    refine Within.app groupWake_within rfl ?_
    refine Within.app rebuildGroup_within rfl ?_
    refine Within.app updGroup_within rfl ?_
    exact Within.refl
  clear_value v2
  refine Within.app chorusDomainOff_within rfl ?_
  refine Within.foldl ?_ ?_
  · intro t6 x7
    refine Within.trans ?_ (hv2 _ _)
    exact Within.refl
  · exact hv1

theorem execEngineWatchdogExpiry_within {code s} :
    WithinX 0x281003f7bfd60d4e2f801fff06001f0304000d40003e s (execEngineWatchdogExpiry code s) := by
  unfold execEngineWatchdogExpiry
  refine WithinX.app (onInstance_within rfl ?_) (sub_self _) ?_
  · intro x1 t2
    refine Within.trans ?_ (epStep_within rfl ?_)
    · exact Within.refl
    · intro t3
      refine Within.ite ?_ ?_
      · exact Within.refl
      · extract_lets v4
        have hv4 : Within 0x281003f7bfd60d4e2f801fff06001f0304000d40003e t3 v4 := by
          unfold v4
          refine Within.app report_within rfl ?_
          refine Within.app State.advance_within rfl ?_
          exact Within.refl
        clear_value v4
        refine Within.ite ?_ ?_
        · refine Within.ite ?_ ?_
          · refine Within.app retireMpe_within rfl ?_
            exact hv4
          · exact hv4
        · refine Within.ite ?_ ?_
          · exact hv4
          · refine Within.app retireCluster_within rfl ?_
            exact hv4
  · exact Within.refl

theorem cutTest_within {b s} : Within 0x3810028000060d400780110032001f02000000000006 s (cutTest b s) := by
  unfold cutTest
  extract_lets v1 v2 v3
  refine Within.ite ?_ ?_
  · refine Within.app portEnable_within rfl ?_
    refine Within.app portDisable_within rfl ?_
    refine Within.app updFport_within rfl ?_
    exact Within.refl
  · refine Within.ite ?_ ?_
    · refine Within.app laneFromTest_within rfl ?_
      refine Within.app dropLeave_within rfl ?_
      exact Within.refl
    · refine Within.ite ?_ ?_
      · refine Within.app dropLeave_within rfl ?_
        exact Within.refl
      · refine Within.ite ?_ ?_
        · refine Within.upd (e := s) ?_ rfl rfl rfl rfl rfl rfl rfl rfl
          exact Within.refl
        · refine Within.ite ?_ ?_
          · refine Within.upd (e := s) ?_ rfl rfl rfl rfl rfl rfl rfl rfl
            exact Within.refl
          · exact Within.refl

theorem cutOne_within {b s} : Within 0x3810028000060d4007801fff32001f02000000000006 s (cutOne b s) := by
  unfold cutOne
  split
  · rename_i x1 h2
    exact Within.refl
  · rename_i x3 x4 h5
    refine Within.app completeCut_within rfl ?_
    refine Within.app cutTest_within rfl ?_
    exact Within.refl

theorem coreHangs_within {n s} : Within 0x3810028000060d4007801fff32001f0304000d40000e s (coreHangs n s) := by
  unfold coreHangs
  extract_lets v1
  have hv1 : Within 0x3810028000060d4007801fff32001f0304000d40000e s v1 := by
    unfold v1
    refine Within.app report_within rfl ?_
    exact Within.refl
  clear_value v1
  refine Within.foldl ?_ ?_
  · intro t2 x3
    split
    rename_i x4 x5 t6 h7
    have ht6 : Within 0x3810028000060d4007801fff32001f0304000d40000e t2 t6 := by
      refine Within2.of h7 ?_
      refine Within2.app State.drawNat_within rfl ?_
      exact Within.refl
    refine Within.ite ?_ ?_
    · refine Within.app cutOne_within rfl ?_
      exact ht6
    · exact ht6
  · exact hv1

theorem execMgcHang_within {n s} : WithinX 0x3810028000060d4007801fff32001f0304000d40000e s (execMgcHang n s) := by
  unfold execMgcHang
  refine WithinX.app (onInstance_within rfl ?_) (sub_self _) ?_
  · intro x1 t2
    refine Within.trans ?_ (whenRunning_within rfl ?_)
    · exact Within.refl
    · intro t3
      refine Within.ite ?_ ?_
      · refine Within.app coreHangs_within rfl ?_
        exact Within.refl
      · extract_lets v4
        have hv4 : Within 0x3810028000060d4007801fff32001f0304000d40000e t3 v4 := by
          unfold v4
          refine Within.app haltEp_within rfl ?_
          refine Within.foldl ?_ ?_
          · intro t5 x6
            refine Within.app report_within rfl ?_
            exact Within.refl
          · exact Within.refl
        clear_value v4
        refine Within.ite ?_ ?_
        · refine Within.app beginWarm_within rfl ?_
          exact hv4
        · exact hv4
  · exact Within.refl

theorem startRetire_within {channel auto s} : Within 0x30000000000000000000 s (startRetire channel auto s) := by
  unfold startRetire
  refine Within.upd (e := s) ?_ rfl rfl rfl rfl rfl rfl rfl rfl
  exact Within.refl

theorem execMemAutoRetire_within {channel dead s} :
    WithinX 0x810028000060d400780100032001f0304000d40000e s (execMemAutoRetire channel dead s) := by
  unfold execMemAutoRetire
  refine WithinX.app (onInstance_within rfl ?_) (sub_self _) ?_
  · intro x1 t2
    refine Within.trans ?_ (whenRunning_within rfl ?_)
    · exact Within.refl
    · intro t3
      split
      rename_i x4 x5 t6 h7
      have ht6 : Within 0x810028000060d400780100032001f0304000d40000e t3 t6 := by
        refine Within2.of h7 ?_
        refine Within2.app State.drawNat_within rfl ?_
        exact Within.refl
      extract_lets v8
      have hv8 : Within 0x810028000060d400780100032001f0304000d40000e t3 v8 := by
        unfold v8
        refine Within.app report_within rfl ?_
        exact ht6
      clear_value v8
      refine Within.ite ?_ ?_
      · refine Within.app startRetire_within rfl ?_
        exact hv8
      · exact hv8
  · exact Within.refl

theorem execMemMigrationComplete_within {s} : WithinX 0x810028000060d4007801fff3a001f0304000d400006 s (execMemMigrationComplete s) := by
  unfold execMemMigrationComplete
  refine WithinX.next ?_
  refine Within.trans ?_ (whenRunning_within rfl ?_)
  · exact Within.refl
  · intro t1
    split
    · rename_i x2 h3
      exact Within.refl
    · rename_i x4 x5 x6 h7
      extract_lets v8 v9
      have hv9 : Within 0x810028000060d4007801fff3a001f0304000d400006 t1 v9 := by
        unfold v9
        refine Within.upd (e := t1) ?_ rfl rfl rfl rfl rfl rfl rfl rfl
        exact Within.refl
      clear_value v9
      refine Within.app completeWhere_within rfl ?_
      refine Within.app report_within rfl ?_
      exact hv9

theorem memtestStart_within {s} : Within 0x20000000000000000000000000000002000000000000 s (memtestStart s) := by
  unfold memtestStart
  extract_lets v1 v2
  refine Within.ite ?_ ?_
  · exact Within.refl
  · refine Within.app askLeave_within rfl ?_
    refine Within.app State.setReg_within rfl ?_
    exact Within.refl

theorem execMemtestDone_within {failed repaired s} : WithinX 0x70000002000000000000 s (execMemtestDone failed repaired s) := by
  unfold execMemtestDone
  refine WithinX.next ?_
  refine Within.trans ?_ (whenRunning_within rfl ?_)
  · exact Within.refl
  · intro t1
    split
    · rename_i x2 h3
      exact Within.refl
    · rename_i x4 x5 h6
      extract_lets v7 v8 v9 v10 v11 v12
      have hv10 : Within 0x70000002000000000000 t1 v10 := by
        unfold v10
        refine Within.upd (e := t1) ?_ rfl rfl rfl rfl rfl rfl rfl rfl
        exact Within.refl
      clear_value v10
      have hv12 : Within 0x70000002000000000000 t1 v12 := by
        unfold v12
        refine Within.app State.setReg_within rfl ?_
        exact hv10
      clear_value v12
      refine Within.ite ?_ ?_
      · refine Within.app startRetire_within rfl ?_
        exact hv12
      · exact hv12

theorem sramRow_within {block inst bank s r} : Within 0x2001f02000000000000 s (sramRow block inst bank s r) := by
  unfold sramRow
  refine Within.app hubTake_within rfl ?_
  exact Within.refl

theorem execSramBistRotation_within {block inst bank rows cells s} :
    WithinX 0x82001f02000000000008 s (execSramBistRotation block inst bank rows cells s) := by
  unfold execSramBistRotation
  refine WithinX.app (onInstance_within rfl ?_) (sub_self _) ?_
  · intro x1 t2
    refine Within.trans ?_ (whenFab_within rfl ?_)
    · exact Within.refl
    · intro t3
      extract_lets v4 v5 v6
      have hv4 : Within 0x82001f02000000000008 t3 v4 := by
        unfold v4
        refine Within.foldl ?_ ?_
        · intro t7 x8
          refine Within.app sramRow_within rfl ?_
          exact Within.refl
        · exact Within.refl
      clear_value v4
      refine Within.ite ?_ ?_
      · refine Within.upd (e := v4) ?_ rfl rfl rfl rfl rfl rfl rfl rfl
        exact hv4
      · exact hv4
  · exact Within.refl

theorem recordJob_within {jid s} : Within 0x2000000201060d4227801fff02001f0200000000000e s (recordJob jid s) := by
  unfold recordJob
  split
  · rename_i x1 h2
    exact Within.refl
  · rename_i x3 x4 h5
    refine Within.ite ?_ ?_
    · exact Within.refl
    · split
      · rename_i x6 t7 h8
        have ht7 : Within 0x2000000201060d4227801fff02001f0200000000000e s t7 := by
          refine Within2.of h8 ?_
          refine Within2.app hbmRefusal_within rfl ?_
          exact Within.refl
        exact ht7
      · rename_i x9 x10 t11 h12
        have ht11 : Within 0x2000000201060d4227801fff02001f0200000000000e s t11 := by
          refine Within2.of h12 ?_
          refine Within2.app hbmRefusal_within rfl ?_
          exact Within.refl
        refine Within.app dropLockRec_within rfl ?_
        refine Within.app endJob_within rfl ?_
        exact ht11

theorem takeJobs_within {qid a1 a2 a3} : Within2 0x281002a28b060d4627801fff02001f0304000d40003e a3 (takeJobs qid a1 a2 a3) := by
  induction a1 generalizing qid a2 a3
  · rw [takeJobs]
    refine Within2.mk ?_
    exact Within.refl
  · rename_i x1 ih
    rw [takeJobs]
    split
    · rename_i x2 h3
      refine Within2.mk ?_
      exact Within.refl
    · rename_i x4 x5 h6
      refine Within2.ite ?_ ?_
      · refine Within2.mk ?_
        exact Within.refl
      · split
        · rename_i x7 h8
          refine Within2.mk ?_
          exact Within.refl
        · rename_i x9 x10 x11 h12
          refine Within2.mk ?_
          refine Within.app headMalformed_within rfl ?_
          exact Within.refl
        · rename_i x13 x14 h15
          refine Within2.mk ?_
          refine Within.app headFailed_within rfl ?_
          exact Within.refl
        · rename_i x16 x17 x18 x19 h20
          split
          rename_i x21 x22 t23 h24
          have ht23 : Within 0x281002a28b060d4627801fff02001f0304000d40003e a3 t23 := by
            refine Within2.of h24 ?_
            refine Within2.app acceptJob_within rfl ?_
            refine Within.app noteStart_within rfl ?_
            exact Within.refl
          refine Within2.app ih rfl ?_
          refine Within.app recordJob_within rfl ?_
          exact ht23

theorem dispatch_within {s} : Within 0x281002a28b060d4f27801fff02001f0304000d40003e s (dispatch s) := by
  unfold dispatch
  extract_lets v1 v2
  split
  · rename_i x3 x4 h5
    exact Within.refl
  · rename_i x6 x7 x8 h9
    extract_lets v10
    split
    · rename_i x11 x12 h13
      exact Within.refl
    · rename_i x14 x15 x16 h17
      extract_lets v18
      split
      · rename_i x19 x20 h21
        exact Within.refl
      · rename_i x22 x23 x24 h25
        extract_lets v26 v27
        split
        rename_i x28 x29 t30 h31
        have ht30 : Within 0x281002a28b060d4f27801fff02001f0304000d40003e s t30 := by
          refine Within2.of h31 ?_
          refine Within2.app takeJobs_within rfl ?_
          refine Within.app touch_within rfl ?_
          exact Within.refl
        refine Within.upd (e := t30) ?_ rfl rfl rfl rfl rfl rfl rfl rfl
        exact ht30

theorem execJobDispatch_within {s} : WithinX 0x281003f7bfd60d4f2f801fff02001f0304000d40003e s (execJobDispatch s) := by
  unfold execJobDispatch
  refine WithinX.next ?_
  refine Within.trans ?_ (epStep_within rfl ?_)
  · exact Within.refl
  · intro t1
    refine Within.app dispatch_within rfl ?_
    exact Within.refl

theorem descriptor_within {op qid s} : Within 0x281003e2ab060d4227801fff02001f0304000d40003e s (descriptor op qid s) := by
  unfold descriptor
  split
  · rename_i x1 h2
    exact Within.refl
  · rename_i x3 x4 h5
    refine Within.ite ?_ ?_
    · exact Within.refl
    · extract_lets v6 v7
      have hv7 : Within 0x281003e2ab060d4227801fff02001f0304000d40003e s v7 := by
        unfold v7
        refine Within.foldl ?_ ?_
        · intro t8 x9
          refine Within.app wakeDomain_within rfl ?_
          exact Within.refl
        · exact Within.refl
      clear_value v7
      refine Within.ite ?_ ?_
      · exact hv7
      · refine Within.app jobStart_within rfl ?_
        exact hv7

theorem execNop_within {qid s} : WithinX 0x281003f7bfd60d4e2f801fff02001f0304000d40003e s (execNop qid s) := by
  unfold execNop
  refine WithinX.next ?_
  refine Within.trans ?_ (epStep_within rfl ?_)
  · exact Within.refl
  · intro t1
    refine Within.app descriptor_within rfl ?_
    exact Within.refl

theorem execSend_within {qid s} : WithinX 0x281003f7bfd60d4e2f801fff02001f0304000d40003e s (execSend qid s) := by
  unfold execSend
  refine WithinX.next ?_
  refine Within.trans ?_ (epStep_within rfl ?_)
  · exact Within.refl
  · intro t1
    refine Within.app descriptor_within rfl ?_
    exact Within.refl

theorem execTsend_within {qid s} : WithinX 0x281003f7bfd60d4e2f801fff02001f0304000d40003e s (execTsend qid s) := by
  unfold execTsend
  refine WithinX.next ?_
  refine Within.trans ?_ (epStep_within rfl ?_)
  · exact Within.refl
  · intro t1
    refine Within.app descriptor_within rfl ?_
    exact Within.refl

theorem execPut_within {qid s} : WithinX 0x281003f7bfd60d4e2f801fff02001f0304000d40003e s (execPut qid s) := by
  unfold execPut
  refine WithinX.next ?_
  refine Within.trans ?_ (epStep_within rfl ?_)
  · exact Within.refl
  · intro t1
    refine Within.app descriptor_within rfl ?_
    exact Within.refl

theorem execGet_within {qid s} : WithinX 0x281003f7bfd60d4e2f801fff02001f0304000d40003e s (execGet qid s) := by
  unfold execGet
  refine WithinX.next ?_
  refine Within.trans ?_ (epStep_within rfl ?_)
  · exact Within.refl
  · intro t1
    refine Within.app descriptor_within rfl ?_
    exact Within.refl

theorem execAtomic_within {qid s} : WithinX 0x281003f7bfd60d4e2f801fff02001f0304000d40003e s (execAtomic qid s) := by
  unfold execAtomic
  refine WithinX.next ?_
  refine Within.trans ?_ (epStep_within rfl ?_)
  · exact Within.refl
  · intro t1
    refine Within.app descriptor_within rfl ?_
    exact Within.refl

theorem offerRecv_within {qid s} : Within 0x281002a28b060d4227801fff02001f0304000d40000e s (offerRecv qid s) := by
  unfold offerRecv
  split
  · rename_i x1 h2
    exact Within.refl
  · rename_i x3 x4 h5
    refine Within.ite ?_ ?_
    · exact Within.refl
    · refine Within.ite ?_ ?_
      · refine Within.app wakeDomain_within rfl ?_
        exact Within.refl
      · split
        · rename_i x6 x7 x8 h9
          refine Within.app headMalformed_within rfl ?_
          exact Within.refl
        · rename_i x10 x11 h12
          refine Within.app headFailed_within rfl ?_
          exact Within.refl
        · rename_i x13 ih ih
          exact Within.refl

theorem execRecv_within {qid s} : WithinX 0x281003f7bfd60d4e2f801fff02001f0304000d40003e s (execRecv qid s) := by
  unfold execRecv
  refine WithinX.next ?_
  refine Within.trans ?_ (epStep_within rfl ?_)
  · exact Within.refl
  · intro t1
    refine Within.app offerRecv_within rfl ?_
    exact Within.refl

theorem execTrecv_within {qid s} : WithinX 0x281003f7bfd60d4e2f801fff02001f0304000d40003e s (execTrecv qid s) := by
  unfold execTrecv
  refine WithinX.next ?_
  refine Within.trans ?_ (epStep_within rfl ?_)
  · exact Within.refl
  · intro t1
    refine Within.app descriptor_within rfl ?_
    exact Within.refl

theorem execTcancel_within {qid s} : WithinX 0x281003f7bfd60d4e2f801fff02001f0304000d40003e s (execTcancel qid s) := by
  unfold execTcancel
  refine WithinX.next ?_
  refine Within.trans ?_ (epStep_within rfl ?_)
  · exact Within.refl
  · intro t1
    refine Within.app descriptor_within rfl ?_
    exact Within.refl

theorem execChorus_within {qid s} : WithinX 0x281003f7bfd60d4e2f801fff02001f0304000d40003e s (execChorus qid s) := by
  unfold execChorus
  refine WithinX.next ?_
  refine Within.trans ?_ (epStep_within rfl ?_)
  · exact Within.refl
  · intro t1
    refine Within.app descriptor_within rfl ?_
    exact Within.refl

theorem execLockAcquire_within {qid s} : WithinX 0x281003f7bfd60d4e2f801fff02001f0304000d40003e s (execLockAcquire qid s) := by
  unfold execLockAcquire
  refine WithinX.next ?_
  refine Within.trans ?_ (epStep_within rfl ?_)
  · exact Within.refl
  · intro t1
    refine Within.app descriptor_within rfl ?_
    exact Within.refl

theorem execLockRelease_within {qid s} : WithinX 0x281003f7bfd60d4e2f801fff02001f0304000d40003e s (execLockRelease qid s) := by
  unfold execLockRelease
  refine WithinX.next ?_
  refine Within.trans ?_ (epStep_within rfl ?_)
  · exact Within.refl
  · intro t1
    refine Within.app descriptor_within rfl ?_
    exact Within.refl

theorem handlePacket_within {kind p tagOk vc s} :
    Within 0x281403f7bf860d4e2f801fff02001f0304000d40003e s (handlePacket kind p tagOk vc s) := by
  unfold handlePacket
  split
  · rename_i x1
    refine Within.app dataPacket_within rfl ?_
    exact Within.refl
  · rename_i x2
    refine Within.trans ?_ (controlPacket_within rfl ?_)
    · exact Within.refl
    · intro x3 t4
      refine Within.app controlKind_within rfl ?_
      exact Within.refl
  · rename_i x5
    refine Within.app groupWake_within rfl ?_
    refine Within.app onResult_within rfl ?_
    exact Within.refl

theorem packetArrives_within {kind p tagOk vc s} :
    Within 0x281403f7bf860d4e3f801fff02001f0304000d40003e s (packetArrives kind p tagOk vc s) := by
  unfold packetArrives
  extract_lets v1 v2 v3 v4
  have hv2 : Within 0x281403f7bf860d4e3f801fff02001f0304000d40003e s v2 := by
    unfold v2
    refine Within.foldl ?_ ?_
    · intro t5 x6
      refine Within.app wakeDomain_within rfl ?_
      exact Within.refl
    · exact Within.refl
  clear_value v2
  refine Within.ite ?_ ?_
  · refine Within.upd (e := v2) ?_ rfl rfl rfl rfl rfl rfl rfl rfl
    exact hv2
  · refine Within.app handlePacket_within rfl ?_
    exact hv2

theorem sleepersGo_within {s} : Within 0x281403f7bf860d4e3f801fff02001f0304000d40003e s (sleepersGo s) := by
  unfold sleepersGo
  refine Within.foldl ?_ ?_
  · intro t1 x2
    refine Within.asOf ?_ ?_
    · intro t3
      refine Within.app packetArrives_within rfl ?_
      exact Within.refl
    · exact Within.refl
  · refine Within.upd (e := s) ?_ rfl rfl rfl rfl rfl rfl rfl rfl
    exact Within.refl

theorem execDataPacketArrival_within {p tagOk vc s} :
    WithinX 0x281403f7bfd60d4e3f801fff02001f0304000d40003e s (execDataPacketArrival p tagOk vc s) := by
  unfold execDataPacketArrival
  refine WithinX.next ?_
  refine Within.trans ?_ (trnStep_within rfl ?_)
  · exact Within.refl
  · intro t1
    refine Within.asOf ?_ ?_
    · intro t2
      refine Within.app packetArrives_within rfl ?_
      exact Within.refl
    · exact Within.refl

theorem execResultArrival_within {p tagOk s} : WithinX 0x281c03f7bfd60d4e3f801fff02001f0304000d40003e s (execResultArrival p tagOk s) := by
  unfold execResultArrival
  refine WithinX.next ?_
  refine Within.trans ?_ (epStep_within rfl ?_)
  · exact Within.refl
  · intro t1
    refine Within.ite ?_ ?_
    · refine Within.app State.count_within rfl ?_
      exact Within.refl
    · refine Within.asOf ?_ ?_
      · intro t2
        refine Within.app packetArrives_within rfl ?_
        exact Within.refl
      · refine Within.app takePassing_within rfl ?_
        exact Within.refl

theorem execResultAckArrival_within {p s} : WithinX 0x281403f7bfd60d4e3f801fff02001f0304000d40003e s (execResultAckArrival p s) := by
  unfold execResultAckArrival
  extract_lets v1
  refine WithinX.next ?_
  refine Within.trans ?_ (trnStep_within rfl ?_)
  · exact Within.refl
  · intro t2
    refine Within.asOf ?_ ?_
    · intro t3
      refine Within.app packetArrives_within rfl ?_
      exact Within.refl
    · exact Within.refl

theorem execResultRetxExpiry_within {group dim s} :
    WithinX 0x281003f7bfd60d4e2f801fff02001f0304000d40003e s (execResultRetxExpiry group dim s) := by
  unfold execResultRetxExpiry
  refine WithinX.next ?_
  refine Within.trans ?_ (epStep_within rfl ?_)
  · exact Within.refl
  · intro t1
    refine Within.app resultRetx_within rfl ?_
    exact Within.refl

theorem execJoinTimeout_within {group s} : WithinX 0x281003f7bfd60d4e2f801fff02001f0304000d40003e s (execJoinTimeout group s) := by
  unfold execJoinTimeout
  refine WithinX.next ?_
  refine Within.trans ?_ (epStep_within rfl ?_)
  · exact Within.refl
  · intro t1
    refine Within.app groupWake_within rfl ?_
    refine Within.app joinTimeout_within rfl ?_
    exact Within.refl

theorem execChunkReduction_within {group opseq block idx s} :
    WithinX 0x281003f7bfd60d4e2f801fff02001f0304000d40003e s (execChunkReduction group opseq block idx s) := by
  unfold execChunkReduction
  refine WithinX.next ?_
  refine Within.trans ?_ (epStep_within rfl ?_)
  · exact Within.refl
  · intro t1
    extract_lets v2
    refine Within.ite ?_ ?_
    · refine Within.app wakeDomain_within rfl ?_
      exact Within.refl
    · refine Within.app laterGo_within rfl ?_
      refine Within.app reduceChunk_within rfl ?_
      exact Within.refl

theorem controlRow_within {t p s} : Within 0x281c03f7bf860d4e3f801fff02001f0304000d40003e s (controlRow t p s) := by
  unfold controlRow
  extract_lets v1
  refine Within.asOf ?_ ?_
  · intro t2
    refine Within.app packetArrives_within rfl ?_
    exact Within.refl
  · refine Within.app takePassing_within rfl ?_
    exact Within.refl

theorem execAckArrival_within {p s} : WithinX 0x281c03f7bfd60d4e3f801fff02001f0304000d40003e s (execAckArrival p s) := by
  unfold execAckArrival
  refine WithinX.next ?_
  refine Within.trans ?_ (trnStep_within rfl ?_)
  · exact Within.refl
  · intro t1
    refine Within.app controlRow_within rfl ?_
    exact Within.refl

theorem execNackArrival_within {p s} : WithinX 0x281c03f7bfd60d4e3f801fff02001f0304000d40003e s (execNackArrival p s) := by
  unfold execNackArrival
  refine WithinX.next ?_
  refine Within.trans ?_ (trnStep_within rfl ?_)
  · exact Within.refl
  · intro t1
    refine Within.app controlRow_within rfl ?_
    exact Within.refl

theorem execNotNowArrival_within {p s} : WithinX 0x281c03f7bfd60d4e3f801fff02001f0304000d40003e s (execNotNowArrival p s) := by
  unfold execNotNowArrival
  refine WithinX.next ?_
  refine Within.trans ?_ (trnStep_within rfl ?_)
  · exact Within.refl
  · intro t1
    refine Within.app controlRow_within rfl ?_
    exact Within.refl

theorem execRefuseArrival_within {p s} : WithinX 0x281c03f7bfd60d4e3f801fff02001f0304000d40003e s (execRefuseArrival p s) := by
  unfold execRefuseArrival
  refine WithinX.next ?_
  refine Within.trans ?_ (trnStep_within rfl ?_)
  · exact Within.refl
  · intro t1
    refine Within.app controlRow_within rfl ?_
    exact Within.refl

theorem execResyncArrival_within {p s} : WithinX 0x281c03f7bfd60d4e3f801fff02001f0304000d40003e s (execResyncArrival p s) := by
  unfold execResyncArrival
  refine WithinX.next ?_
  refine Within.trans ?_ (trnStep_within rfl ?_)
  · exact Within.refl
  · intro t1
    refine Within.app controlRow_within rfl ?_
    exact Within.refl

theorem execOpenReqArrival_within {p s} : WithinX 0x281c03f7bfd60d4e3f801fff02001f0304000d40003e s (execOpenReqArrival p s) := by
  unfold execOpenReqArrival
  refine WithinX.next ?_
  refine Within.trans ?_ (trnStep_within rfl ?_)
  · exact Within.refl
  · intro t1
    refine Within.app controlRow_within rfl ?_
    exact Within.refl

theorem execOpenAckArrival_within {p s} : WithinX 0x281c03f7bfd60d4e3f801fff02001f0304000d40003e s (execOpenAckArrival p s) := by
  unfold execOpenAckArrival
  refine WithinX.next ?_
  refine Within.trans ?_ (trnStep_within rfl ?_)
  · exact Within.refl
  · intro t1
    refine Within.app controlRow_within rfl ?_
    exact Within.refl

theorem execOpenNakArrival_within {p s} : WithinX 0x281c03f7bfd60d4e3f801fff02001f0304000d40003e s (execOpenNakArrival p s) := by
  unfold execOpenNakArrival
  refine WithinX.next ?_
  refine Within.trans ?_ (trnStep_within rfl ?_)
  · exact Within.refl
  · intro t1
    refine Within.app controlRow_within rfl ?_
    exact Within.refl

theorem execCloseReqArrival_within {p s} : WithinX 0x281c03f7bfd60d4e3f801fff02001f0304000d40003e s (execCloseReqArrival p s) := by
  unfold execCloseReqArrival
  refine WithinX.next ?_
  refine Within.trans ?_ (trnStep_within rfl ?_)
  · exact Within.refl
  · intro t1
    refine Within.app controlRow_within rfl ?_
    exact Within.refl

theorem execCloseAckArrival_within {p s} : WithinX 0x281c03f7bfd60d4e3f801fff02001f0304000d40003e s (execCloseAckArrival p s) := by
  unfold execCloseAckArrival
  refine WithinX.next ?_
  refine Within.trans ?_ (trnStep_within rfl ?_)
  · exact Within.refl
  · intro t1
    refine Within.app controlRow_within rfl ?_
    exact Within.refl

theorem execCloseNakArrival_within {p s} : WithinX 0x281c03f7bfd60d4e3f801fff02001f0304000d40003e s (execCloseNakArrival p s) := by
  unfold execCloseNakArrival
  refine WithinX.next ?_
  refine Within.trans ?_ (trnStep_within rfl ?_)
  · exact Within.refl
  · intro t1
    refine Within.app controlRow_within rfl ?_
    exact Within.refl

theorem onSendHalf_within {m k f s} (hm : sub 0x0 m = true) (hf : ∀ x0 t1, Within m t1 (f x0 t1)) : Within m s (onSendHalf k f s) := by
  unfold onSendHalf
  split
  · rename_i x1 h2
    exact Within.refl
  · rename_i x3 x4 h5
    refine Within.trans ?_ (hf _ _)
    exact Within.refl

theorem openAgain_within {k h s} : Within 0x281002a2ab060d4227801fff02001f0304000d40000e s (openAgain k h s) := by
  unfold openAgain
  refine Within.ite ?_ ?_
  · refine Within.app openFailed_within rfl ?_
    exact Within.refl
  · refine Within.app sendOpen_within rfl ?_
    exact Within.refl

theorem execOpenTimeout_within {k s} : WithinX 0x281003f7bfd60d4e2f801fff02001f0304000d40003e s (execOpenTimeout k s) := by
  unfold execOpenTimeout
  refine WithinX.next ?_
  refine Within.trans ?_ (trnStep_within rfl ?_)
  · exact Within.refl
  · intro t1
    refine Within.trans ?_ (onSendHalf_within rfl ?_)
    · exact Within.refl
    · intro x2 t3
      split
      · rename_i x4 h5
        exact Within.refl
      · rename_i x6 x7 h8
        refine Within.ite ?_ ?_
        · exact Within.refl
        · extract_lets v9
          refine Within.app openAgain_within rfl ?_
          refine Within.app updSend_within rfl ?_
          refine Within.app State.advanceTo_within rfl ?_
          exact Within.refl

theorem execOpenBackoffExpiry_within {k s} : WithinX 0x281003f7bfd60d4e2f801fff02001f0304000d40003e s (execOpenBackoffExpiry k s) := by
  unfold execOpenBackoffExpiry
  refine WithinX.next ?_
  refine Within.trans ?_ (trnStep_within rfl ?_)
  · exact Within.refl
  · intro t1
    refine Within.trans ?_ (onSendHalf_within rfl ?_)
    · exact Within.refl
    · intro x2 t3
      split
      · rename_i x4 h5
        exact Within.refl
      · rename_i x6 x7 h8
        refine Within.ite ?_ ?_
        · exact Within.refl
        · refine Within.app openAgain_within rfl ?_
          refine Within.app State.advanceTo_within rfl ?_
          exact Within.refl

theorem execCloseTimeout_within {k s} : WithinX 0x281003f7bfd60d4e2f801fff02001f0304000d40003e s (execCloseTimeout k s) := by
  unfold execCloseTimeout
  refine WithinX.next ?_
  refine Within.trans ?_ (trnStep_within rfl ?_)
  · exact Within.refl
  · intro t1
    split
    · rename_i x2 h3
      exact Within.refl
    · rename_i x4 x5 h6
      split
      · rename_i x7 h8
        exact Within.refl
      · rename_i x9 x10 h11
        refine Within.app closeFailed_within rfl ?_
        refine Within.app State.advanceTo_within rfl ?_
        exact Within.refl

theorem retransmit_within {k h s} : Within 0x281002a7ab060d4227801fff02001f0304000d40000e s (retransmit k h s) := by
  unfold retransmit
  refine Within.ite ?_ ?_
  · refine Within.app updSend_within rfl ?_
    exact Within.refl
  · refine Within.ite ?_ ?_
    · refine Within.app abandon_within rfl ?_
      exact Within.refl
    · extract_lets v1
      have hv1 : Within 0x281002a7ab060d4227801fff02001f0304000d40000e s v1 := by
        unfold v1
        refine Within.app updSend_within rfl ?_
        exact Within.refl
      clear_value v1
      refine Within.app resendAll_within rfl ?_
      exact hv1

theorem execRetransmitTimeout_within {k s} : WithinX 0x281003f7bfd60d4e2f801fff02001f0304000d40003e s (execRetransmitTimeout k s) := by
  unfold execRetransmitTimeout
  refine WithinX.next ?_
  refine Within.trans ?_ (trnStep_within rfl ?_)
  · exact Within.refl
  · intro t1
    refine Within.trans ?_ (onSendHalf_within rfl ?_)
    · exact Within.refl
    · intro x2 t3
      split
      · rename_i x4 h5
        exact Within.refl
      · rename_i x6 x7 h8
        refine Within.ite ?_ ?_
        · exact Within.refl
        · refine Within.app retransmit_within rfl ?_
          refine Within.app State.advanceTo_within rfl ?_
          exact Within.refl

theorem execAckDelayExpiry_within {k s} : WithinX 0x281003f7bfd60d4e2f801fff02001f0304000d40003e s (execAckDelayExpiry k s) := by
  unfold execAckDelayExpiry
  refine WithinX.next ?_
  refine Within.trans ?_ (trnStep_within rfl ?_)
  · exact Within.refl
  · intro t1
    split
    · rename_i x2 h3
      exact Within.refl
    · rename_i x4 x5 h6
      refine Within.app sendAck_within rfl ?_
      refine Within.app State.advanceTo_within rfl ?_
      exact Within.refl

theorem execNackDelayExpiry_within {k s} : WithinX 0x281003f7bfd60d4e2f801fff02001f0304000d40003e s (execNackDelayExpiry k s) := by
  unfold execNackDelayExpiry
  refine WithinX.next ?_
  refine Within.trans ?_ (trnStep_within rfl ?_)
  · exact Within.refl
  · intro t1
    split
    · rename_i x2 h3
      exact Within.refl
    · rename_i x4 x5 h6
      refine Within.app sendNack_within rfl ?_
      refine Within.app State.advanceTo_within rfl ?_
      exact Within.refl

theorem execNotNowBackoffExpiry_within {k psn s} :
    WithinX 0x281003f7bfd60d4e2f801fff02001f0304000d40003e s (execNotNowBackoffExpiry k psn s) := by
  unfold execNotNowBackoffExpiry
  refine WithinX.next ?_
  refine Within.trans ?_ (trnStep_within rfl ?_)
  · exact Within.refl
  · intro t1
    refine Within.trans ?_ (onSendHalf_within rfl ?_)
    · exact Within.refl
    · intro x2 t3
      split
      · rename_i x4 h5
        exact Within.refl
      · rename_i x6 x7 h8
        split
        · rename_i x9 h10
          exact Within.refl
        · rename_i x11 x12 h13
          refine Within.app resendAll_within rfl ?_
          refine Within.app State.advanceTo_within rfl ?_
          exact Within.refl

theorem execUnreachTimeout_within {k s} : WithinX 0x281003f7bfd60d4e2f801fff02001f0304000d40003e s (execUnreachTimeout k s) := by
  unfold execUnreachTimeout
  refine WithinX.next ?_
  refine Within.trans ?_ (trnStep_within rfl ?_)
  · exact Within.refl
  · intro t1
    refine Within.trans ?_ (onSendHalf_within rfl ?_)
    · exact Within.refl
    · intro x2 t3
      split
      · rename_i x4 x5 h6
        refine Within.app openFailed_within rfl ?_
        refine Within.app State.advanceTo_within rfl ?_
        exact Within.refl
      · rename_i x7 x8 x9 h10 h11
        refine Within.app abandon_within rfl ?_
        refine Within.app State.advanceTo_within rfl ?_
        exact Within.refl
      · rename_i x12 x13 ih ih
        exact Within.refl

theorem execMtcUnexpTimeout_within {ctx s} : WithinX 0x281003f7bfd60d4e2f801fff02001f0304000d40003e s (execMtcUnexpTimeout ctx s) := by
  unfold execMtcUnexpTimeout
  refine WithinX.next ?_
  refine Within.trans ?_ (epStep_within rfl ?_)
  · exact Within.refl
  · intro t1
    split
    · rename_i x2 h3
      exact Within.refl
    · rename_i x4 x5 h6
      refine Within.app ctxToError_within rfl ?_
      refine Within.app State.advanceTo_within rfl ?_
      exact Within.refl

theorem execDeregTimeout_within {index s} : WithinX 0x281003f7bfd60d4e2f801fff02001f0304000d40003e s (execDeregTimeout index s) := by
  unfold execDeregTimeout
  refine WithinX.next ?_
  refine Within.trans ?_ (epStep_within rfl ?_)
  · exact Within.refl
  · intro t1
    split
    · rename_i x2 h3
      exact Within.refl
    · rename_i x4 x5 h6
      refine Within.app abandonRegion_within rfl ?_
      refine Within.app State.advanceTo_within rfl ?_
      exact Within.refl

theorem execInvalidationAcknowledged_within {id s} :
    WithinX 0x281003f7bfd63f4e2f801fff02001f0304000d40003e s (execInvalidationAcknowledged id s) := by
  unfold execInvalidationAcknowledged
  refine WithinX.next ?_
  refine Within.trans ?_ (trnStep_within rfl ?_)
  · exact Within.refl
  · intro t1
    refine Within.app invalAck_within rfl ?_
    exact Within.refl

end Sys2Proof.Machine
end

