-- ==== Sys2Proof/Laws/WithinCmdObject.lean ====
section
/-! SUPPORT. What each operation of Machine/CmdObject.lean, Machine/Counters.lean, Machine/Registers.lean can do, as one lemma
of the form of Laws/Within.lean. The numeral is the set of parts it may change. -/

namespace Sys2Proof.Machine

theorem refuse_within {status s} : Within2 0x0 s (refuse status s) := by
  unfold refuse
  refine Within2.mk ?_
  exact Within.refl

theorem adminRead_within {res port mid pkey segs s} :
    Within2 0x810028000060d400780100002001f0304000d400036 s (adminRead res port mid pkey segs s) := by
  unfold adminRead
  split
  · rename_i x1 x2 t3 h4
    have ht3 : Within 0x810028000060d400780100002001f0304000d400036 s t3 := by
      refine Within2.of h4 ?_
      refine Within2.app hostRefusal_within rfl ?_
      exact Within.refl
    refine Within2.mk ?_
    exact ht3
  · rename_i x5 t6 h7
    have ht6 : Within 0x810028000060d400780100002001f0304000d400036 s t6 := by
      refine Within2.of h7 ?_
      refine Within2.app hostRefusal_within rfl ?_
      exact Within.refl
    extract_lets v8 v9 v10
    have hv10 : Within 0x810028000060d400780100002001f0304000d400036 s v10 := by
      unfold v10
      refine Within.app State.emits_within rfl ?_
      exact ht6
    clear_value v10
    split
    · rename_i x11 x12
      refine Within2.mk ?_
      exact hv10
    · rename_i x13
      refine Within2.mk ?_
      exact hv10
    · rename_i x14 x15 x16 x17
      refine Within2.mk ?_
      exact hv10
    · rename_i x18
      refine Within2.mk ?_
      refine Within.app reportPoisoned_within rfl ?_
      refine Within.app failedAccess_within rfl ?_
      exact hv10
    · rename_i x19 x20
      refine Within2.mk ?_
      refine Within.app reportPoisoned_within rfl ?_
      refine Within.app failedAccess_within rfl ?_
      exact hv10
    · rename_i x21
      refine Within2.mk ?_
      refine Within.app reportPoisoned_within rfl ?_
      refine Within.app failedAccess_within rfl ?_
      refine Within.app State.advance_within rfl ?_
      exact hv10
    · rename_i x22 x23
      refine Within2.mk ?_
      refine Within.app reportPoisoned_within rfl ?_
      refine Within.app failedAccess_within rfl ?_
      refine Within.app State.advance_within rfl ?_
      exact hv10

theorem cmdNop_within {a0 a1 a2 a3} : Within2 0x0 a3 (cmdNop a0 a1 a2 a3) := by
  unfold cmdNop
  refine Within2.ite ?_ ?_
  · refine Within2.app refuse_within rfl ?_
    exact Within.refl
  · refine Within2.mk ?_
    exact Within.refl

theorem queryRecord_within {a s} : Within2 0x0 s (queryRecord a s) := by
  unfold queryRecord
  extract_lets v1 v2
  split
  · rename_i x3 h4
    refine Within2.mk ?_
    exact Within.refl
  · rename_i x5 h6
    refine Within2.mk ?_
    exact Within.refl
  · rename_i x7 h8
    refine Within2.mk ?_
    exact Within.refl
  · rename_i x9 h10
    refine Within2.mk ?_
    exact Within.refl
  · rename_i x11 h12
    refine Within2.mk ?_
    exact Within.refl
  · rename_i x13 h14
    refine Within2.mk ?_
    exact Within.refl
  · rename_i x15 h16
    refine Within2.mk ?_
    exact Within.refl
  · rename_i x17 h18
    split
    · rename_i x19 h20
      refine Within2.mk ?_
      exact Within.refl
    · rename_i x21 x22 h23
      refine Within2.mk ?_
      exact Within.refl
  · rename_i x24 h25
    refine Within2.mk ?_
    exact Within.refl
  · rename_i x26 ih ih ih ih ih ih ih ih ih
    refine Within2.mk ?_
    exact Within.refl

theorem cmdQuery_within {a0 a1 a2 a3} : Within2 0x100002001f02000000000006 a3 (cmdQuery a0 a1 a2 a3) := by
  unfold cmdQuery
  extract_lets v1 v2 v3
  refine Within2.ite ?_ ?_
  · refine Within2.app refuse_within rfl ?_
    exact Within.refl
  · split
    · rename_i x4 x5 t6 h7
      have ht6 : Within 0x100002001f02000000000006 a3 t6 := by
        refine Within2.of h7 ?_
        refine Within2.app queryRecord_within rfl ?_
        exact Within.refl
      refine Within2.app refuse_within rfl ?_
      exact ht6
    · rename_i x8 x9 t10 h11
      have ht10 : Within 0x100002001f02000000000006 a3 t10 := by
        refine Within2.of h11 ?_
        refine Within2.app queryRecord_within rfl ?_
        exact Within.refl
      extract_lets v12
      refine Within2.ite ?_ ?_
      · refine Within2.mk ?_
        exact ht10
      · split
        · rename_i x13 x14 t15 h16
          have ht15 : Within 0x100002001f02000000000006 a3 t15 := by
            refine Within2.of h16 ?_
            refine Within2.app hostRefusal_within rfl ?_
            exact ht10
          refine Within2.mk ?_
          exact ht15
        · rename_i x17 t18 h19
          have ht18 : Within 0x100002001f02000000000006 a3 t18 := by
            refine Within2.of h19 ?_
            refine Within2.app hostRefusal_within rfl ?_
            exact ht10
          refine Within2.mk ?_
          refine Within.app State.emits_within rfl ?_
          exact ht18

theorem cmdEndpointConfig_within {a0 a1 a2 a3} : Within2 0x200000000000000000000000000000 a3 (cmdEndpointConfig a0 a1 a2 a3) := by
  unfold cmdEndpointConfig
  extract_lets v1 v2
  have hv2 : ∀ t3, Within2 0x200000000000000000000000000000 t3 (v2 t3) := by
    intro t3
    unfold v2
    refine Within2.mk ?_
    refine Within.upd (e := t3) ?_ rfl rfl rfl rfl rfl rfl rfl rfl
    exact Within.refl
  clear_value v2
  refine Within2.ite ?_ ?_
  · refine Within2.app refuse_within rfl ?_
    exact Within.refl
  · refine Within2.ite ?_ ?_
    · refine Within2.app (hv2 _) (sub_self _) ?_
      exact Within.refl
    · split
      · rename_i x4 h5
        refine Within2.app refuse_within rfl ?_
        exact Within.refl
      · rename_i x6 x7 h8
        refine Within2.ite ?_ ?_
        · refine Within2.app refuse_within rfl ?_
          exact Within.refl
        · refine Within2.ite ?_ ?_
          · refine Within2.app refuse_within rfl ?_
            exact Within.refl
          · refine Within2.app (hv2 _) (sub_self _) ?_
            exact Within.refl

theorem cmdPartitionCreate_within {a0 a1 a2 a3} : Within2 0x800000000000000000000000000000000 a3 (cmdPartitionCreate a0 a1 a2 a3) := by
  unfold cmdPartitionCreate
  extract_lets v1 v2 v3 v4
  refine Within2.ite ?_ ?_
  · refine Within2.app refuse_within rfl ?_
    exact Within.refl
  · refine Within2.ite ?_ ?_
    · refine Within2.app refuse_within rfl ?_
      exact Within.refl
    · refine Within2.mk ?_
      refine Within.upd (e := a3) ?_ rfl rfl rfl rfl rfl rfl rfl rfl
      exact Within.refl

theorem cmdPartitionDestroy_within {a0 a1 a2 a3} : Within2 0x800000000000000000000000000000000 a3 (cmdPartitionDestroy a0 a1 a2 a3) := by
  unfold cmdPartitionDestroy
  extract_lets v1 v2
  refine Within2.ite ?_ ?_
  · refine Within2.app refuse_within rfl ?_
    exact Within.refl
  · refine Within2.ite ?_ ?_
    · refine Within2.app refuse_within rfl ?_
      exact Within.refl
    · refine Within2.ite ?_ ?_
      · refine Within2.app refuse_within rfl ?_
        exact Within.refl
      · refine Within2.mk ?_
        refine Within.upd (e := a3) ?_ rfl rfl rfl rfl rfl rfl rfl rfl
        exact Within.refl

theorem cmdAsidCreate_within {a0 a1 a2 a3} : Within2 0x800000000000000000000000000000 a3 (cmdAsidCreate a0 a1 a2 a3) := by
  unfold cmdAsidCreate
  extract_lets v1 v2 v3 v4 v5
  refine Within2.ite ?_ ?_
  · refine Within2.app refuse_within rfl ?_
    exact Within.refl
  · refine Within2.ite ?_ ?_
    · refine Within2.app refuse_within rfl ?_
      exact Within.refl
    · refine Within2.ite ?_ ?_
      · refine Within2.app refuse_within rfl ?_
        exact Within.refl
      · refine Within2.ite ?_ ?_
        · refine Within2.app refuse_within rfl ?_
          exact Within.refl
        · refine Within2.ite ?_ ?_
          · refine Within2.app refuse_within rfl ?_
            exact Within.refl
          · refine Within2.mk ?_
            refine Within.upd (e := a3) ?_ rfl rfl rfl rfl rfl rfl rfl rfl
            exact Within.refl

theorem cmdAsidDestroy_within {a0 a1 a2 a3} : Within2 0x2000000000060fc00780100002001f02000000000006 a3 (cmdAsidDestroy a0 a1 a2 a3) := by
  unfold cmdAsidDestroy
  extract_lets v1 v2 v3 v4
  have hv3 : Within 0x2000000000060fc00780100002001f02000000000006 a3 v3 := by
    unfold v3
    refine Within.app invalResume_within rfl ?_
    refine Within.app invalApply_within rfl ?_
    refine Within.app invalWake_within rfl ?_
    exact Within.refl
  clear_value v3
  refine Within2.ite ?_ ?_
  · refine Within2.app refuse_within rfl ?_
    exact Within.refl
  · split
    · rename_i x5 h6
      refine Within2.app refuse_within rfl ?_
      exact Within.refl
    · rename_i x7 x8 h9
      refine Within2.ite ?_ ?_
      · refine Within2.app refuse_within rfl ?_
        exact Within.refl
      · refine Within2.ite ?_ ?_
        · refine Within2.app refuse_within rfl ?_
          exact Within.refl
        · refine Within2.mk ?_
          refine Within.upd (e := v3) ?_ rfl rfl rfl rfl rfl rfl rfl rfl
          exact hv3

theorem cacheEntry_within {s} : WithinS 0x400000000000000000000000000 s (cacheEntry s) := by
  unfold cacheEntry
  refine WithinS.ite ?_ ?_
  · refine WithinS.some ?_
    exact Within.refl
  · refine WithinS.map ?_
    intro x1
    refine Within.app updQueue_within rfl ?_
    exact Within.refl

theorem pickHome_within {s} : Within2 0x8 s (pickHome s) := by
  unfold pickHome
  extract_lets v1
  split
  rename_i x2 x3 t4 h5
  have ht4 : Within 0x8 s t4 := by
    refine Within2.of h5 ?_
    refine Within2.app State.drawNat_within rfl ?_
    exact Within.refl
  refine Within2.mk ?_
  exact ht4

theorem cmdQueueCreate_within {a0 a1 a2 a3} : Within2 0x400000000000002000000000008 a3 (cmdQueueCreate a0 a1 a2 a3) := by
  unfold cmdQueueCreate
  extract_lets v1 v2
  split
  · rename_i x3 h4
    refine Within2.app refuse_within rfl ?_
    exact Within.refl
  · rename_i x5 x6 h7
    refine Within2.ite ?_ ?_
    · refine Within2.app refuse_within rfl ?_
      exact Within.refl
    · refine Within2.ite ?_ ?_
      · refine Within2.app refuse_within rfl ?_
        exact Within.refl
      · split
        · rename_i x8 h9
          refine Within2.app refuse_within rfl ?_
          exact Within.refl
        · rename_i x10 x11 h12
          refine Within2.ite ?_ ?_
          · refine Within2.app refuse_within rfl ?_
            exact Within.refl
          · refine Within2.ite ?_ ?_
            · refine Within2.app refuse_within rfl ?_
              exact Within.refl
            · refine Within2.ite ?_ ?_
              · refine Within2.app refuse_within rfl ?_
                exact Within.refl
              · refine Within2.ite ?_ ?_
                · refine Within2.app refuse_within rfl ?_
                  exact Within.refl
                · split
                  · rename_i x13 h14
                    refine Within2.app refuse_within rfl ?_
                    exact Within.refl
                  · rename_i x15 t16 h17
                    have ht16 : Within 0x400000000000002000000000008 a3 t16 := by
                      refine WithinS.of h17 ?_
                      refine WithinS.app cacheEntry_within rfl ?_
                      exact Within.refl
                    split
                    rename_i x18 x19 t20 h21
                    have ht20 : Within 0x400000000000002000000000008 a3 t20 := by
                      refine Within2.of h21 ?_
                      refine Within2.app pickHome_within rfl ?_
                      exact ht16
                    extract_lets v22 v23 v24
                    have hv23 : Within 0x400000000000002000000000008 a3 v23 := by
                      unfold v23
                      refine Within.upd (e := t20) ?_ rfl rfl rfl rfl rfl rfl rfl rfl
                      exact ht20
                    clear_value v23
                    have hv24 : Within 0x400000000000002000000000008 a3 v24 := by
                      unfold v24
                      refine Within.ite ?_ ?_
                      · refine Within.app State.setReg_within rfl ?_
                        refine Within.app State.setReg_within rfl ?_
                        exact hv23
                      · exact hv23
                    clear_value v24
                    refine Within2.mk ?_
                    exact hv24

theorem modifyAttributes_within {q a s} : Within2 0x400000000000000000000000000 s (modifyAttributes q a s) := by
  unfold modifyAttributes
  extract_lets v1 v2 v3 v4 v5 v6
  have hv6 : Within 0x400000000000000000000000000 s v6 := by
    unfold v6
    refine Within.app updQueue_within rfl ?_
    exact Within.refl
  clear_value v6
  refine Within2.ite ?_ ?_
  · refine Within2.app refuse_within rfl ?_
    exact Within.refl
  · refine Within2.ite ?_ ?_
    · refine Within2.app refuse_within rfl ?_
      exact Within.refl
    · refine Within2.mk ?_
      refine Within.ite ?_ ?_
      · refine Within.app startFetch_within rfl ?_
        exact hv6
      · exact hv6

theorem modifyStop_within {q s} : Within2 0x60d4227801fff02001f02000000000006 s (modifyStop q s) := by
  unfold modifyStop
  refine Within2.ite ?_ ?_
  · refine Within2.app refuse_within rfl ?_
    exact Within.refl
  · extract_lets v1 v2
    have hv2 : Within 0x60d4227801fff02001f02000000000006 s v2 := by
      unfold v2
      refine Within.app updQueue_within rfl ?_
      exact Within.refl
    clear_value v2
    refine Within2.mk ?_
    refine Within.app queueIdle_within rfl ?_
    exact hv2

theorem modifyStart_within {q s} : Within2 0x2000000000060d400780100002001f02000000000006 s (modifyStart q s) := by
  unfold modifyStart
  refine Within2.ite ?_ ?_
  · refine Within2.app refuse_within rfl ?_
    exact Within.refl
  · extract_lets v1
    have hv1 : Within 0x2000000000060d400780100002001f02000000000006 s v1 := by
      unfold v1
      refine Within.app dropDrained_within rfl ?_
      refine Within.app updQueue_within rfl ?_
      exact Within.refl
    clear_value v1
    split
    · rename_i x2 h3
      refine Within2.mk ?_
      refine Within.app cqDrain_within rfl ?_
      exact hv1
    · rename_i x4 h5
      refine Within2.mk ?_
      refine Within.app eqRetry_within rfl ?_
      exact hv1
    · rename_i x6 ih ih
      refine Within2.mk ?_
      refine Within.app startRun_within rfl ?_
      refine Within.app wakeDomain_within rfl ?_
      exact hv1

theorem modifyRecover_within {q a s} : Within2 0x2000000000060d400780100002001f02000000000006 s (modifyRecover q a s) := by
  unfold modifyRecover
  extract_lets v1 v2 v3 v4
  have hv4 : Within 0x2000000000060d400780100002001f02000000000006 s v4 := by
    unfold v4
    refine Within.app updQueue_within rfl ?_
    exact Within.refl
  clear_value v4
  refine Within2.ite ?_ ?_
  · refine Within2.app refuse_within rfl ?_
    exact Within.refl
  · refine Within2.ite ?_ ?_
    · refine Within2.app refuse_within rfl ?_
      exact Within.refl
    · split
      · rename_i x5 h6
        refine Within2.mk ?_
        refine Within.app eqFlush_within rfl ?_
        refine Within.app State.setReg_within rfl ?_
        refine Within.app State.setReg_within rfl ?_
        exact hv4
      · rename_i x7 h8
        refine Within2.mk ?_
        refine Within.app cqWake_within rfl ?_
        exact hv4
      · rename_i x9 ih ih
        refine Within2.mk ?_
        refine Within.app startRun_within rfl ?_
        refine Within.app wakeDomain_within rfl ?_
        exact hv4

theorem cmdQueueModify_within {a0 a1 a2 a3} : Within2 0x2000000000060d4227801fff02001f02000000000006 a3 (cmdQueueModify a0 a1 a2 a3) := by
  unfold cmdQueueModify
  extract_lets v1 v2
  refine Within2.ite ?_ ?_
  · refine Within2.app refuse_within rfl ?_
    exact Within.refl
  · split
    · rename_i x3 h4
      refine Within2.app refuse_within rfl ?_
      exact Within.refl
    · rename_i x5 x6 h7
      refine Within2.ite ?_ ?_
      · refine Within2.app refuse_within rfl ?_
        exact Within.refl
      · refine Within2.ite ?_ ?_
        · refine Within2.app refuse_within rfl ?_
          exact Within.refl
        · generalize v2 = w8
          split
          · rename_i x9
            refine Within2.app modifyAttributes_within rfl ?_
            exact Within.refl
          · rename_i x10
            refine Within2.app modifyStop_within rfl ?_
            exact Within.refl
          · rename_i x11
            refine Within2.app modifyStart_within rfl ?_
            exact Within.refl
          · rename_i x12
            refine Within2.app modifyRecover_within rfl ?_
            exact Within.refl
          · rename_i x13 ih ih ih ih
            refine Within2.app refuse_within rfl ?_
            exact Within.refl

theorem cancelPosted_within {qid s} : Within 0x2000000021060d4227801fff02001f02000000000006 s (cancelPosted qid s) := by
  unfold cancelPosted
  extract_lets v1 v2 v3
  have hv3 : Within 0x2000000021060d4227801fff02001f02000000000006 s v3 := by
    unfold v3
    refine Within.upd (e := s) ?_ rfl rfl rfl rfl rfl rfl rfl rfl
    exact Within.refl
  clear_value v3
  refine Within.foldl ?_ ?_
  · intro t4 x5
    refine Within.app endJob_within rfl ?_
    exact Within.refl
  · exact hv3

theorem cmdQueueDestroy_within {a0 a1 a2 a3} : Within2 0x281002a2ab060d4227801fff02001f0304000d40000e a3 (cmdQueueDestroy a0 a1 a2 a3) := by
  unfold cmdQueueDestroy
  extract_lets v1
  refine Within2.ite ?_ ?_
  · refine Within2.app refuse_within rfl ?_
    exact Within.refl
  · split
    · rename_i x2 h3
      refine Within2.app refuse_within rfl ?_
      exact Within.refl
    · rename_i x4 x5 h6
      extract_lets v7 v8 v9 v10
      have hv9 : Within 0x281002a2ab060d4227801fff02001f0304000d40000e a3 v9 := by
        unfold v9
        refine Within.app dropDrained_within rfl ?_
        refine Within.app updQueue_within rfl ?_
        exact Within.refl
      clear_value v9
      have hv10 : Within 0x281002a2ab060d4227801fff02001f0304000d40000e a3 v10 := by
        unfold v10
        refine Within.ite ?_ ?_
        · refine Within.app memberQueueLost_within rfl ?_
          refine Within.app withdrawRts_within rfl ?_
          refine Within.app cancelPosted_within rfl ?_
          exact hv9
        · exact hv9
      clear_value v10
      refine Within2.ite ?_ ?_
      · refine Within2.app refuse_within rfl ?_
        exact Within.refl
      · refine Within2.ite ?_ ?_
        · refine Within2.app refuse_within rfl ?_
          exact Within.refl
        · refine Within2.mk ?_
          refine Within.app queueIdle_within rfl ?_
          exact hv10

theorem cmdQueueEvict_within {a0 a1 a2 a3} : Within2 0x810028000060d408780100002001f0304000d40000e a3 (cmdQueueEvict a0 a1 a2 a3) := by
  unfold cmdQueueEvict
  extract_lets v1 v2
  have hv2 : Within 0x810028000060d408780100002001f0304000d40000e a3 v2 := by
    unfold v2
    refine Within.app evictStart_within rfl ?_
    exact Within.refl
  clear_value v2
  refine Within2.ite ?_ ?_
  · refine Within2.app refuse_within rfl ?_
    exact Within.refl
  · split
    · rename_i x3 h4
      refine Within2.app refuse_within rfl ?_
      exact Within.refl
    · rename_i x5 x6 h7
      refine Within2.ite ?_ ?_
      · refine Within2.app refuse_within rfl ?_
        exact Within.refl
      · refine Within2.ite ?_ ?_
        · refine Within2.mk ?_
          exact Within.refl
        · refine Within2.ite ?_ ?_
          · refine Within2.app refuse_within rfl ?_
            exact Within.refl
          · refine Within2.ite ?_ ?_
            · refine Within2.app refuse_within rfl ?_
              exact hv2
            · refine Within2.mk ?_
              exact hv2

theorem cmdRegionRegister_within {a0 a1 a2 a3} : Within2 0x778d0003001fff02001f02000000000006 a3 (cmdRegionRegister a0 a1 a2 a3) := by
  unfold cmdRegionRegister
  extract_lets v1 v2 v3 v4 v5
  refine Within2.ite ?_ ?_
  · refine Within2.app refuse_within rfl ?_
    exact Within.refl
  · refine Within2.ite ?_ ?_
    · refine Within2.app refuse_within rfl ?_
      exact Within.refl
    · split
      · rename_i x6 h7
        refine Within2.app refuse_within rfl ?_
        exact Within.refl
      · rename_i x8 x9 h10
        refine Within2.ite ?_ ?_
        · refine Within2.app refuse_within rfl ?_
          exact Within.refl
        · refine Within2.ite ?_ ?_
          · refine Within2.app refuse_within rfl ?_
            exact Within.refl
          · refine Within2.ite ?_ ?_
            · refine Within2.app refuse_within rfl ?_
              exact Within.refl
            · extract_lets v11
              split
              · rename_i x12 x13 h14
                refine Within2.app refuse_within rfl ?_
                exact Within.refl
              · rename_i x15 x16 x17 x18 h19 h20
                refine Within2.ite ?_ ?_
                · refine Within2.mk ?_
                  refine Within.app pinGo_within rfl ?_
                  refine Within.upd (e := a3) ?_ rfl rfl rfl rfl rfl rfl rfl rfl
                  exact Within.refl
                · split
                  rename_i x21 x22 t23 h24
                  have ht23 : Within 0x778d0003001fff02001f02000000000006 a3 t23 := by
                    refine Within2.of h24 ?_
                    refine Within2.app takeIndex_within rfl ?_
                    exact Within.refl
                  refine Within2.mk ?_
                  exact ht23
              · rename_i x25 x26 x27 h28 ih
                split
                rename_i x29 x30 t31 h32
                have ht31 : Within 0x778d0003001fff02001f02000000000006 a3 t31 := by
                  refine Within2.of h32 ?_
                  refine Within2.app takeIndex_within rfl ?_
                  exact Within.refl
                refine Within2.mk ?_
                exact ht31

theorem cmdRegionDeregister_within {a0 a1 a2 a3} : Within2 0x50000000001fff02001f02000000000006 a3 (cmdRegionDeregister a0 a1 a2 a3) := by
  unfold cmdRegionDeregister
  extract_lets v1
  refine Within2.ite ?_ ?_
  · refine Within2.app refuse_within rfl ?_
    exact Within.refl
  · split
    · rename_i x2 h3
      refine Within2.app refuse_within rfl ?_
      exact Within.refl
    · rename_i x4 x5 h6
      refine Within2.ite ?_ ?_
      · refine Within2.app refuse_within rfl ?_
        exact Within.refl
      · refine Within2.ite ?_ ?_
        · refine Within2.app refuse_within rfl ?_
          exact Within.refl
        · refine Within2.mk ?_
          refine Within.app regionsSettle_within rfl ?_
          refine Within.app updRegion_within rfl ?_
          exact Within.refl

theorem cmdXltInval_within {a0 a1 a2 a3} : Within2 0x2000000000065f400780100002001f02000000000006 a3 (cmdXltInval a0 a1 a2 a3) := by
  unfold cmdXltInval
  extract_lets v1 v2 v3
  refine Within2.ite ?_ ?_
  · refine Within2.app refuse_within rfl ?_
    exact Within.refl
  · refine Within2.ite ?_ ?_
    · refine Within2.app refuse_within rfl ?_
      exact Within.refl
    · refine Within2.ite ?_ ?_
      · refine Within2.mk ?_
        refine Within.app invalAsk_within rfl ?_
        exact Within.refl
      · split
        · rename_i x4 h5
          refine Within2.app refuse_within rfl ?_
          exact Within.refl
        · rename_i x6 x7 h8
          refine Within2.ite ?_ ?_
          · refine Within2.mk ?_
            refine Within.app invalAsk_within rfl ?_
            exact Within.refl
          · refine Within2.app refuse_within rfl ?_
            exact Within.refl

theorem cmdMatchContextCreate_within {a0 a1 a2 a3} :
    Within2 0x200000000000000000000000000000000000 a3 (cmdMatchContextCreate a0 a1 a2 a3) := by
  unfold cmdMatchContextCreate
  extract_lets v1 v2 v3 v4 v5 v6 v7 v8
  refine Within2.ite ?_ ?_
  · refine Within2.app refuse_within rfl ?_
    exact Within.refl
  · refine Within2.ite ?_ ?_
    · refine Within2.app refuse_within rfl ?_
      exact Within.refl
    · refine Within2.ite ?_ ?_
      · refine Within2.app refuse_within rfl ?_
        exact Within.refl
      · refine Within2.ite ?_ ?_
        · refine Within2.app refuse_within rfl ?_
          exact Within.refl
        · refine Within2.ite ?_ ?_
          · refine Within2.app refuse_within rfl ?_
            exact Within.refl
          · refine Within2.mk ?_
            refine Within.upd (e := a3) ?_ rfl rfl rfl rfl rfl rfl rfl rfl
            exact Within.refl

theorem cmdMatchContextDestroy_within {a0 a1 a2 a3} :
    Within2 0x20000002eb060d4227801fff02001f0200000000000e a3 (cmdMatchContextDestroy a0 a1 a2 a3) := by
  unfold cmdMatchContextDestroy
  extract_lets v1 v2
  have hv2 : Within 0x20000002eb060d4227801fff02001f0200000000000e a3 v2 := by
    unfold v2
    refine Within.app updCtx_within rfl ?_
    exact Within.refl
  clear_value v2
  refine Within2.ite ?_ ?_
  · refine Within2.app refuse_within rfl ?_
    exact Within.refl
  · split
    · rename_i x3 h4
      refine Within2.app refuse_within rfl ?_
      exact Within.refl
    · rename_i x5 x6 h7
      refine Within2.ite ?_ ?_
      · refine Within2.app refuse_within rfl ?_
        exact Within.refl
      · refine Within2.ite ?_ ?_
        · refine Within2.app refuse_within rfl ?_
          exact Within.refl
        · extract_lets v8 v9 v10 v11 v12 v13
          have hv8 : Within 0x20000002eb060d4227801fff02001f0200000000000e a3 v8 := by
            unfold v8
            refine Within.foldl ?_ ?_
            · intro t14 x15
              refine Within.app endJob_within rfl ?_
              exact Within.refl
            · exact hv2
          clear_value v8
          have hv12 : Within 0x20000002eb060d4227801fff02001f0200000000000e a3 v12 := by
            unfold v12
            refine Within.upd (e := v8) ?_ rfl rfl rfl rfl rfl rfl rfl rfl
            exact hv8
          clear_value v12
          have hv13 : Within 0x20000002eb060d4227801fff02001f0200000000000e a3 v13 := by
            unfold v13
            refine Within.foldl ?_ ?_
            · intro t16 x17
              refine Within.app sendFin_within rfl ?_
              exact Within.refl
            · exact hv12
          clear_value v13
          refine Within2.mk ?_
          refine Within.app ctxDrained_within rfl ?_
          exact hv13

theorem chorusInstall_within {mid gn pkey root ws s} :
    Within2 0x228b00000204001fff02001f0200000000000e s (chorusInstall mid gn pkey root ws s) := by
  unfold chorusInstall
  extract_lets v1 v2 v3 v4 v5 v6 v7 v8 v9 v10 v11
  have hv11 : Within 0x228b00000204001fff02001f0200000000000e s v11 := by
    unfold v11
    refine Within.app updGroup_within rfl ?_
    exact Within.refl
  clear_value v11
  split
  · rename_i x12 x13 h14
    refine Within2.ite ?_ ?_
    · refine Within2.app refuse_within rfl ?_
      exact Within.refl
    · refine Within2.ite ?_ ?_
      · refine Within2.app refuse_within rfl ?_
        exact Within.refl
      · refine Within2.ite ?_ ?_
        · refine Within2.mk ?_
          refine Within.app downGo_within rfl ?_
          exact hv11
        · refine Within2.mk ?_
          exact hv11
  · rename_i x15 h16
    refine Within2.ite ?_ ?_
    · refine Within2.app refuse_within rfl ?_
      exact Within.refl
    · split
      rename_i x17 x18 t19 h20
      have ht19 : Within 0x228b00000204001fff02001f0200000000000e s t19 := by
        refine Within2.of h20 ?_
        refine Within2.app makeFlows_within rfl ?_
        exact Within.refl
      extract_lets v21 v22 v23
      have hv23 : Within 0x228b00000204001fff02001f0200000000000e s v23 := by
        unfold v23
        refine Within.upd (e := t19) ?_ rfl rfl rfl rfl rfl rfl rfl rfl
        exact ht19
      clear_value v23
      refine Within2.ite ?_ ?_
      · refine Within2.mk ?_
        refine Within.app joinDone_within rfl ?_
        exact hv23
      · refine Within2.mk ?_
        refine Within.app sendJoin_within rfl ?_
        exact hv23

theorem tableFault_within {x va res s} : Within2 0x200000000000002001f02000000000000 s (tableFault x va res s) := by
  unfold tableFault
  split
  · rename_i x1 x2 x3 x4
    refine Within2.mk ?_
    refine Within.app reportFault_within rfl ?_
    exact Within.refl
  · rename_i x5 ih
    refine Within2.mk ?_
    exact Within.refl

theorem cmdChorusCreate_within {a0 a1 a2 a3} : Within2 0x81002a28b060d4207801fff02001f0304000d40003e a3 (cmdChorusCreate a0 a1 a2 a3) := by
  unfold cmdChorusCreate
  extract_lets v1 v2 v3
  refine Within2.ite ?_ ?_
  · refine Within2.app refuse_within rfl ?_
    exact Within.refl
  · refine Within2.ite ?_ ?_
    · refine Within2.app refuse_within rfl ?_
      exact Within.refl
    · split
      · rename_i x4 h5
        refine Within2.app refuse_within rfl ?_
        exact Within.refl
      · rename_i x6 x7 h8
        refine Within2.ite ?_ ?_
        · refine Within2.app refuse_within rfl ?_
          exact Within.refl
        · split
          · rename_i x9 x10 t11 h12
            have ht11 : Within 0x81002a28b060d4207801fff02001f0304000d40003e a3 t11 := by
              refine Within2.of h12 ?_
              refine Within2.app adminRead_within rfl ?_
              exact Within.refl
            refine Within2.mk ?_
            exact ht11
          · rename_i x13 t14 h15
            have ht14 : Within 0x81002a28b060d4207801fff02001f0304000d40003e a3 t14 := by
              refine Within2.of h15 ?_
              refine Within2.app adminRead_within rfl ?_
              exact Within.refl
            refine Within2.app tableFault_within rfl ?_
            exact ht14
          · rename_i x16 x17 t18 h19
            have ht18 : Within 0x81002a28b060d4207801fff02001f0304000d40003e a3 t18 := by
              refine Within2.of h19 ?_
              refine Within2.app adminRead_within rfl ?_
              exact Within.refl
            extract_lets v20
            refine Within2.ite ?_ ?_
            · refine Within2.app refuse_within rfl ?_
              exact ht18
            · refine Within2.ite ?_ ?_
              · refine Within2.app chorusInstall_within rfl ?_
                exact ht18
              · refine Within2.app refuse_within rfl ?_
                exact ht18

theorem cmdChorusDestroy_within {a0 a1 a2 a3} : Within2 0x228b00000204001fff02001f0200000000000e a3 (cmdChorusDestroy a0 a1 a2 a3) := by
  unfold cmdChorusDestroy
  extract_lets v1
  refine Within2.ite ?_ ?_
  · refine Within2.app refuse_within rfl ?_
    exact Within.refl
  · split
    · rename_i x2 h3
      refine Within2.app refuse_within rfl ?_
      exact Within.refl
    · rename_i x4 x5 h6
      refine Within2.ite ?_ ?_
      · refine Within2.app refuse_within rfl ?_
        exact Within.refl
      · refine Within2.ite ?_ ?_
        · refine Within2.app refuse_within rfl ?_
          exact Within.refl
        · refine Within2.mk ?_
          refine Within.app leaveCheck_within rfl ?_
          refine Within.app updGroup_within rfl ?_
          exact Within.refl

theorem cmdLockAlloc_within {a0 a1 a2 a3} : Within2 0x19000000000000000000000000000000000000 a3 (cmdLockAlloc a0 a1 a2 a3) := by
  unfold cmdLockAlloc
  extract_lets v1 v2 v3 v4 v5 v6 v7
  refine Within2.ite ?_ ?_
  · refine Within2.app refuse_within rfl ?_
    exact Within.refl
  · refine Within2.ite ?_ ?_
    · refine Within2.app refuse_within rfl ?_
      exact Within.refl
    · refine Within2.ite ?_ ?_
      · refine Within2.ite ?_ ?_
        · refine Within2.app refuse_within rfl ?_
          exact Within.refl
        · refine Within2.mk ?_
          refine Within.upd (e := a3) ?_ rfl rfl rfl rfl rfl rfl rfl rfl
          exact Within.refl
      · refine Within2.ite ?_ ?_
        · refine Within2.app refuse_within rfl ?_
          exact Within.refl
        · refine Within2.mk ?_
          refine Within.upd (e := a3) ?_ rfl rfl rfl rfl rfl rfl rfl rfl
          exact Within.refl

theorem forceFree_within {n s} : Within 0x81002838b060d420780100002001f0304000d40000e s (forceFree n s) := by
  unfold forceFree
  split
  · rename_i x1 h2
    exact Within.refl
  · rename_i x3 x4 h5
    extract_lets v6 v7
    have hv6 : Within 0x81002838b060d420780100002001f0304000d40000e s v6 := by
      unfold v6
      refine Within.app boostCheck_within rfl ?_
      refine Within.app updLock_within rfl ?_
      exact Within.refl
    clear_value v6
    have hv7 : Within 0x81002838b060d420780100002001f0304000d40000e s v7 := by
      unfold v7
      refine Within.foldl ?_ ?_
      · intro t8 x9
        refine Within.app sendLockResp_within rfl ?_
        exact Within.refl
      · exact hv6
    clear_value v7
    refine Within.app holderReset_within rfl ?_
    exact hv7

theorem cmdLockFree_within {a0 a1 a2 a3} : Within2 0x810029b8b060d420780100002001f0304000d40000e a3 (cmdLockFree a0 a1 a2 a3) := by
  unfold cmdLockFree
  extract_lets v1 v2 v3 v4 v5 v6 v7 v8 v9 v10
  have hv9 : Within 0x810029b8b060d420780100002001f0304000d40000e a3 v9 := by
    unfold v9
    refine Within.foldl ?_ ?_
    · intro t11 x12
      refine Within.app forceFree_within rfl ?_
      exact Within.refl
    · exact Within.refl
  clear_value v9
  refine Within2.ite ?_ ?_
  · refine Within2.app refuse_within rfl ?_
    exact Within.refl
  · refine Within2.ite ?_ ?_
    · refine Within2.ite ?_ ?_
      · refine Within2.app refuse_within rfl ?_
        exact Within.refl
      · refine Within2.ite ?_ ?_
        · refine Within2.app refuse_within rfl ?_
          exact Within.refl
        · refine Within2.mk ?_
          refine Within.upd (e := a3) ?_ rfl rfl rfl rfl rfl rfl rfl rfl
          exact Within.refl
    · refine Within2.ite ?_ ?_
      · refine Within2.app refuse_within rfl ?_
        exact Within.refl
      · refine Within2.ite ?_ ?_
        · refine Within2.app refuse_within rfl ?_
          exact Within.refl
        · refine Within2.ite ?_ ?_
          · refine Within2.app refuse_within rfl ?_
            exact Within.refl
          · refine Within2.mk ?_
            refine Within.upd (e := v9) ?_ rfl rfl rfl rfl rfl rfl rfl rfl
            exact hv9

theorem cmdGateWrite_within {a0 a1 a2 a3} : Within2 0x2001001f00000000000000 a3 (cmdGateWrite a0 a1 a2 a3) := by
  unfold cmdGateWrite
  extract_lets v1 v2 v3 v4 v5 v6 v7 v8 v9 v10 v11
  have hv9 : Within 0x2001001f00000000000000 a3 v9 := by
    unfold v9
    refine Within.upd (e := a3) ?_ rfl rfl rfl rfl rfl rfl rfl rfl
    exact Within.refl
  clear_value v9
  refine Within2.ite ?_ ?_
  · refine Within2.app refuse_within rfl ?_
    exact Within.refl
  · refine Within2.ite ?_ ?_
    · refine Within2.mk ?_
      exact Within.refl
    · refine Within2.ite ?_ ?_
      · refine Within2.mk ?_
        refine Within.upd (e := v9) ?_ rfl rfl rfl rfl rfl rfl rfl rfl
        exact hv9
      · refine Within2.mk ?_
        refine Within.app audit_within rfl ?_
        exact hv9

theorem pfMsix_within {h vector s} : Within 0x80000000000000000000000006 s (pfMsix h vector s) := by
  unfold pfMsix
  refine Within.app vectorMsix_within rfl ?_
  exact Within.refl

theorem snapshot_within {t s} : Within 0x7900002001f02000000000006 s (snapshot t s) := by
  unfold snapshot
  extract_lets v1 v2
  split
  rename_i x3 x4 t5 h6
  have ht5 : Within 0x7900002001f02000000000006 s t5 := by
    refine Within2.of h6 ?_
    refine Within2.app hostGates_within rfl ?_
    exact Within.refl
  refine Within.ite ?_ ?_
  · refine Within.app dumpSkip_within rfl ?_
    exact ht5
  · extract_lets v7 v8 v9
    have hv8 : Within 0x7900002001f02000000000006 s v8 := by
      unfold v8
      refine Within.app State.emits_within rfl ?_
      refine Within.app State.emit_within rfl ?_
      exact ht5
    clear_value v8
    refine Within.upd (e := v8) ?_ rfl rfl rfl rfl rfl rfl rfl rfl
    exact hv8

theorem execCounterSnapshot_within {s} : WithinX 0x7b00002001f02000000000036 s (execCounterSnapshot s) := by
  unfold execCounterSnapshot
  refine WithinX.next ?_
  refine Within.trans ?_ (whenRunning_within rfl ?_)
  · exact Within.refl
  · intro t1
    refine Within.ite ?_ ?_
    · exact Within.refl
    · extract_lets v2 v3 v4 v5 v6 v7
      have hv4 : Within 0x7b00002001f02000000000036 t1 v4 := by
        unfold v4
        refine Within.ite ?_ ?_
        · refine Within.app State.advanceDtime_within rfl ?_
          exact Within.refl
        · exact Within.refl
      clear_value v4
      have hv7 : Within 0x7b00002001f02000000000036 t1 v7 := by
        unfold v7
        refine Within.app dumpSkip_within rfl ?_
        refine Within.upd (e := v4) ?_ rfl rfl rfl rfl rfl rfl rfl rfl
        exact hv4
      clear_value v7
      refine Within.ite ?_ ?_
      · refine Within.app dumpSkip_within rfl ?_
        exact hv7
      · refine Within.app snapshot_within rfl ?_
        exact hv7

theorem execDumpWriteComplete_within {s} : WithinX 0x86400000000000000000000006 s (execDumpWriteComplete s) := by
  unfold execDumpWriteComplete
  refine WithinX.next ?_
  refine Within.trans ?_ (whenRunning_within rfl ?_)
  · exact Within.refl
  · intro t1
    split
    · rename_i x2 h3
      exact Within.refl
    · rename_i x4 x5 x6 h7
      extract_lets v8 v9 v10
      have hv8 : Within 0x86400000000000000000000006 t1 v8 := by
        unfold v8
        refine Within.app State.emit_within rfl ?_
        exact Within.refl
      have hv10 : Within 0x86400000000000000000000006 t1 v10 := by
        unfold v10
        refine Within.upd (e := v8) ?_ rfl rfl rfl rfl rfl rfl rfl rfl
        exact hv8
      refine Within.ite ?_ ?_
      · refine Within.app pfMsix_within rfl ?_
        exact hv10
      · exact hv10

theorem sampleLost_within {s} : Within 0x100000000000000000000000 s (sampleLost s) := by
  unfold sampleLost
  refine Within.app State.count_within rfl ?_
  exact Within.refl

theorem sampleWrite_within {code subject cross s} : Within 0xd0100002001f02000000000006 s (sampleWrite code subject cross s) := by
  unfold sampleWrite
  extract_lets v1 v2 v3
  refine Within.ite ?_ ?_
  · refine Within.app sampleLost_within rfl ?_
    exact Within.refl
  · split
    rename_i x4 x5 t6 h7
    have ht6 : Within 0xd0100002001f02000000000006 s t6 := by
      refine Within2.of h7 ?_
      refine Within2.app hostGates_within rfl ?_
      exact Within.refl
    refine Within.ite ?_ ?_
    · refine Within.app sampleLost_within rfl ?_
      exact ht6
    · extract_lets v8 v9 v10 v11 v12 v13 v14 v15
      have hv12 : Within 0xd0100002001f02000000000006 s v12 := by
        unfold v12
        refine Within.app State.emit_within rfl ?_
        exact ht6
      have hv14 : Within 0xd0100002001f02000000000006 s v14 := by
        unfold v14
        refine Within.upd (e := v12) ?_ rfl rfl rfl rfl rfl rfl rfl rfl
        exact hv12
      refine Within.ite ?_ ?_
      · refine Within.app pfMsix_within rfl ?_
        refine Within.upd (e := v14) ?_ rfl rfl rfl rfl rfl rfl rfl rfl
        exact hv14
      · exact hv14

theorem execSampleCrossing_within {code s} : WithinX 0xd8100002001f0200000000000e s (execSampleCrossing code s) := by
  unfold execSampleCrossing
  refine WithinX.app (onInstance_within rfl ?_) (sub_self _) ?_
  · intro x1 t2
    refine Within.trans ?_ (whenRunning_within rfl ?_)
    · exact Within.refl
    · intro t3
      refine Within.ite ?_ ?_
      · exact Within.refl
      · refine Within.ite ?_ ?_
        · refine Within.app sampleLost_within rfl ?_
          exact Within.refl
        · refine Within.ite ?_ ?_
          · refine Within.upd (e := t3) ?_ rfl rfl rfl rfl rfl rfl rfl rfl
            exact Within.refl
          · refine Within.app sampleWrite_within rfl ?_
            exact Within.refl
  · exact Within.refl

theorem execSampleCapture_within {code obj s} : WithinX 0xd8100002001f0200000000000e s (execSampleCapture code obj s) := by
  unfold execSampleCapture
  refine WithinX.app (onInstance_within rfl ?_) (sub_self _) ?_
  · intro x1 t2
    refine Within.trans ?_ (whenRunning_within rfl ?_)
    · exact Within.refl
    · intro t3
      split
      · rename_i x4 h5
        exact Within.refl
      · rename_i x6 x7 x8 h9
        extract_lets v10 v11
        have hv11 : Within 0xd8100002001f0200000000000e t3 v11 := by
          unfold v11
          refine Within.upd (e := t3) ?_ rfl rfl rfl rfl rfl rfl rfl rfl
          exact Within.refl
        clear_value v11
        refine Within.ite ?_ ?_
        · refine Within.app sampleWrite_within rfl ?_
          exact hv11
        · exact hv11
  · exact Within.refl

theorem sampleCi_within {v s} : Within 0x60000000000000000000000000 s (sampleCi v s) := by
  unfold sampleCi
  extract_lets v1 v2
  refine Within.ite ?_ ?_
  · refine Within.upd (e := s) ?_ rfl rfl rfl rfl rfl rfl rfl rfl
    exact Within.refl
  · exact Within.refl

theorem sampleEnable_within {s} : Within 0x78000000000000000000000000 s (sampleEnable s) := by
  unfold sampleEnable
  refine Within.upd (e := s) ?_ rfl rfl rfl rfl rfl rfl rfl rfl
  exact Within.refl

theorem execTelemetryArrival_within {ep src ws s} :
    WithinX 0x281003f7bfd60d4e2f801fff02001f0304000d40003e s (execTelemetryArrival ep src ws s) := by
  unfold execTelemetryArrival
  refine WithinX.app (onInstance_within rfl ?_) (sub_self _) ?_
  · intro x1 t2
    refine Within.trans ?_ (trnStep_within rfl ?_)
    · exact Within.refl
    · intro t3
      refine Within.ite ?_ ?_
      · refine Within.app State.count_within rfl ?_
        exact Within.refl
      · split
        · rename_i x4 t5 h6
          have ht5 : Within 0x281003f7bfd60d4e2f801fff02001f0304000d40003e t3 t5 := by
            refine Within2.of h6 ?_
            refine Within2.app frameIn_within rfl ?_
            exact Within.refl
          exact ht5
        · rename_i x7 t8 h9
          have ht8 : Within 0x281003f7bfd60d4e2f801fff02001f0304000d40003e t3 t8 := by
            refine Within2.of h9 ?_
            refine Within2.app frameIn_within rfl ?_
            exact Within.refl
          refine Within.app State.count_within rfl ?_
          exact ht8
  · exact Within.refl

theorem accErr_within {cause port off s} : Within 0x2000000000000 s (accErr cause port off s) := by
  unfold accErr
  refine Within.app State.capture_within rfl ?_
  exact Within.refl

theorem cmdPiSet_within {v s} : Within 0x810028000060d400780100002001f0304000d400006 s (cmdPiSet v s) := by
  unfold cmdPiSet
  extract_lets v1 v2
  refine Within.ite ?_ ?_
  · exact Within.refl
  · refine Within.ite ?_ ?_
    · refine Within.app ringMalformed_within rfl ?_
      exact Within.refl
    · refine Within.app State.setReg_within rfl ?_
      exact Within.refl

theorem eqCiSet_within {q v s} : Within 0x60d400780100002001f02000000000006 s (eqCiSet q v s) := by
  unfold eqCiSet
  extract_lets v1 v2 v3 v4 v5
  have hv5 : Within 0x60d400780100002001f02000000000006 s v5 := by
    unfold v5
    refine Within.app State.setReg_within rfl ?_
    exact Within.refl
  clear_value v5
  refine Within.app eqFlush_within rfl ?_
  refine Within.app updSink_within rfl ?_
  exact hv5

theorem ringEnable_within {s} : Within 0x300000002000000000000 s (ringEnable s) := by
  unfold ringEnable
  extract_lets v1 v2
  have hv1 : Within 0x300000002000000000000 s v1 := by
    unfold v1
    refine Within.app State.setReg_within rfl ?_
    refine Within.app State.setReg_within rfl ?_
    exact Within.refl
  clear_value v1
  refine Within.upd (e := v1) ?_ rfl rfl rfl rfl rfl rfl rfl rfl
  exact hv1

theorem secLockSet_within {mid s} : Within 0x1f02000000000000 s (secLockSet mid s) := by
  unfold secLockSet
  refine Within.ite ?_ ?_
  · exact Within.refl
  · refine Within.app audit_within rfl ?_
    refine Within.app State.setReg_within rfl ?_
    exact Within.refl

theorem secCtrlChanged_within {mid old s} : Within 0x60d400780100002001f02000000000006 s (secCtrlChanged mid old s) := by
  unfold secCtrlChanged
  refine Within.ite ?_ ?_
  · exact Within.refl
  · refine Within.app portsRelease_within rfl ?_
    refine Within.app audit_within rfl ?_
    exact Within.refl

theorem auditRelease_within {s} : Within 0x100000000000000 s (auditRelease s) := by
  unfold auditRelease
  refine Within.upd (e := s) ?_ rfl rfl rfl rfl rfl rfl rfl rfl
  exact Within.refl

theorem dumpFrom_within {t s} : Within 0x200000000000000000000000 s (dumpFrom t s) := by
  unfold dumpFrom
  refine Within.upd (e := s) ?_ rfl rfl rfl rfl rfl rfl rfl rfl
  exact Within.refl

theorem afterWrite_within {a mid old v s} : Within 0x383007f7bff68f4e6fffbfff02011f0304000d40003e s (afterWrite a mid old v s) := by
  unfold afterWrite
  extract_lets v1 v2 v3
  have hv3 : Within 0x383007f7bff68f4e6fffbfff02011f0304000d40003e s v3 := by
    unfold v3
    refine Within.ite ?_ ?_
    · exact Within.refl
    · refine Within.app laneTestChanged_within rfl ?_
      exact Within.refl
  clear_value v3
  split
  · rename_i x4 x5 h6
    refine Within.ite ?_ ?_
    · refine Within.app State.clearOvf_within rfl ?_
      exact Within.refl
    · exact Within.refl
  · rename_i x7 h8
    split
    · rename_i x9 h10
      refine Within.ite ?_ ?_
      · refine Within.app State.clearOvf_within rfl ?_
        exact Within.refl
      · exact Within.refl
    · rename_i x11 h12
      refine Within.app excAdd_within rfl ?_
      exact Within.refl
    · rename_i x13 h14
      refine Within.app excDel_within rfl ?_
      exact Within.refl
    · rename_i x15 h16
      refine Within.ite ?_ ?_
      · refine Within.app qsampleClear_within rfl ?_
        exact Within.refl
      · exact Within.refl
    · rename_i x17 h18
      refine Within.ite ?_ ?_
      · refine Within.app eyeStart_within rfl ?_
        exact Within.refl
      · exact Within.refl
    · rename_i x19 h20
      refine Within.ite ?_ ?_
      · refine Within.app injectOnce_within rfl ?_
        exact hv3
      · exact hv3
    · rename_i x21 h22
      refine Within.ite ?_ ?_
      · exact Within.refl
      · refine Within.app laneTestChanged_within rfl ?_
        exact Within.refl
    · rename_i x23 h24
      refine Within.ite ?_ ?_
      · refine Within.app linkEnableChanged_within rfl ?_
        exact Within.refl
      · refine Within.ite ?_ ?_
        · refine Within.app linkRetrain_within rfl ?_
          exact Within.refl
        · exact Within.refl
    · rename_i x25 h26
      refine Within.app settle_within rfl ?_
      refine Within.app atomicsCheck_within rfl ?_
      exact Within.refl
    · rename_i x27 h28
      refine Within.app reclass_within rfl ?_
      exact Within.refl
    · rename_i x29 h30
      refine Within.ite ?_ ?_
      · refine Within.app warmRequest_within rfl ?_
        exact Within.refl
      · exact Within.refl
    · rename_i x31 h32
      refine Within.app dtimeSet_within rfl ?_
      exact Within.refl
    · rename_i x33 h34
      refine Within.ite ?_ ?_
      · refine Within.app ringEnable_within rfl ?_
        exact Within.refl
      · exact Within.refl
    · rename_i x35 h36
      refine Within.ite ?_ ?_
      · refine Within.app secLockSet_within rfl ?_
        exact Within.refl
      · exact Within.refl
    · rename_i x37 h38
      refine Within.app secCtrlChanged_within rfl ?_
      exact Within.refl
    · rename_i x39 h40
      refine Within.ite ?_ ?_
      · refine Within.app auditRelease_within rfl ?_
        exact Within.refl
      · exact Within.refl
    · rename_i x41 h42
      refine Within.ite ?_ ?_
      · refine Within.app memtestStart_within rfl ?_
        exact Within.refl
      · exact Within.refl
    · rename_i x43 h44
      refine Within.ite ?_ ?_
      · refine Within.app dumpFrom_within rfl ?_
        exact Within.refl
      · exact Within.refl
    · rename_i x45 h46
      refine Within.app dumpFrom_within rfl ?_
      exact Within.refl
    · rename_i x47 h48
      refine Within.ite ?_ ?_
      · refine Within.app sampleEnable_within rfl ?_
        exact Within.refl
      · exact Within.refl
    · rename_i x49 ih ih ih ih ih ih ih ih ih ih ih ih ih ih ih ih ih ih ih ih
      exact Within.refl

theorem writeReg_within {a mid reach v s} : Within 0x383007f7bff68f4e6fffbfff02011f0304000d40003e s (writeReg a mid reach v s) := by
  unfold writeReg
  split
  · rename_i x1 h2
    refine Within.app cmdPiSet_within rfl ?_
    exact Within.refl
  · rename_i x3 h4
    refine Within.app eqCiSet_within rfl ?_
    exact Within.refl
  · rename_i x5 h6
    refine Within.app sampleCi_within rfl ?_
    exact Within.refl
  · rename_i x7 ih ih ih
    extract_lets v8 v9 v10 v11
    refine Within.app afterWrite_within rfl ?_
    refine Within.app State.setReg_within rfl ?_
    exact Within.refl

theorem shadowWrite_within {a reach v s} : Within 0x1000000000e000000000000 s (shadowWrite a reach v s) := by
  unfold shadowWrite
  refine Within.ite ?_ ?_
  · refine Within.app State.setReg_within rfl ?_
    exact Within.refl
  · extract_lets v1 v2 v3
    have hv2 : Within 0x1000000000e000000000000 s v2 := by
      unfold v2
      refine Within.app State.setShadow_within rfl ?_
      exact Within.refl
    clear_value v2
    refine Within.upd (e := v2) ?_ rfl rfl rfl rfl rfl rfl rfl rfl
    exact hv2

theorem writeTo_within {port mid off len v s} : Within 0x383007f7bff68f4e6fffbfff02011f0f04000d40003e s (writeTo port mid off len v s) := by
  unfold writeTo
  extract_lets v1 v2
  refine Within.ite ?_ ?_
  · split
    · rename_i x3 h4
      exact Within.refl
    · rename_i x5 x6 h7
      refine Within.ite ?_ ?_
      · refine Within.app accErr_within rfl ?_
        exact Within.refl
      · refine Within.ite ?_ ?_
        · refine Within.app accErr_within rfl ?_
          exact Within.refl
        · refine Within.app writeReg_within rfl ?_
          exact Within.refl
  · split
    · rename_i x8 h9
      exact Within.refl
    · rename_i x10 x11 h12
      refine Within.app shadowWrite_within rfl ?_
      exact Within.refl

theorem msixTableWrite_within {mid off len v s} : Within 0x80000000000000000000000006 s (msixTableWrite mid off len v s) := by
  unfold msixTableWrite
  split
  · rename_i x1 h2
    exact Within.refl
  · rename_i x3 x4 h5
    extract_lets v6 v7 v8
    refine Within.ite ?_ ?_
    · exact Within.refl
    · refine Within.app msixWrite_within rfl ?_
      exact Within.refl

theorem bar4Write_within {port fn off len v s} :
    Within 0x281003f7bfd60d4e2f801fff02001f0304000d40003e s (bar4Write port fn off len v s) := by
  unfold bar4Write
  refine Within.ite ?_ ?_
  · exact Within.refl
  · refine Within.app settle_within rfl ?_
    refine Within.app msixTableWrite_within rfl ?_
    exact Within.refl

theorem bar0Write_within {port fn off len v s} :
    Within 0x383007f7bff68f4e6fffbfff02011f0f04000d40003e s (bar0Write port fn off len v s) := by
  unfold bar0Write
  refine Within.ite ?_ ?_
  · exact Within.refl
  · extract_lets v1 v2
    split
    rename_i x3 x4 t5 h6
    have ht5 : Within 0x383007f7bff68f4e6fffbfff02011f0f04000d40003e s t5 := by
      refine Within2.of h6 ?_
      split
      · rename_i x7 h8
        refine Within2.mk ?_
        exact Within.refl
      · rename_i x9 x10 h11
        refine Within2.app gateCheck_within rfl ?_
        exact Within.refl
    refine Within.ite ?_ ?_
    · refine Within.app accErr_within rfl ?_
      exact ht5
    · refine Within.ite ?_ ?_
      · exact ht5
      · refine Within.app settle_within rfl ?_
        refine Within.app writeTo_within rfl ?_
        exact ht5

theorem semReply_within {port v s} : Within 0x6 s (semReply port v s) := by
  unfold semReply
  refine Within.app State.emit_within rfl ?_
  exact Within.refl

theorem semAtomic_within {port i kind operand compare s} : Within 0x2000000000006 s (semAtomic port i kind operand compare s) := by
  unfold semAtomic
  extract_lets v1 v2 v3
  have hv3 : Within 0x2000000000006 s v3 := by
    unfold v3
    refine Within.ite ?_ ?_
    · refine Within.app State.setReg_within rfl ?_
      refine Within.app State.setReg_within rfl ?_
      exact Within.refl
    · exact Within.refl
  clear_value v3
  refine Within.ite ?_ ?_
  · refine Within.app semReply_within rfl ?_
    refine Within.app State.setReg_within rfl ?_
    exact Within.refl
  · refine Within.ite ?_ ?_
    · refine Within.app semReply_within rfl ?_
      refine Within.ite ?_ ?_
      · refine Within.app State.setReg_within rfl ?_
        exact Within.refl
      · exact Within.refl
    · refine Within.app semReply_within rfl ?_
      exact hv3

theorem semOp_within {port fn off kind operand compare s} :
    Within 0x100002001f02000000000006 s (semOp port fn off kind operand compare s) := by
  unfold semOp
  refine Within.ite ?_ ?_
  · exact Within.refl
  · extract_lets v1 v2
    refine Within.ite ?_ ?_
    · refine Within.app semReply_within rfl ?_
      exact Within.refl
    · split
      · rename_i x3 x4 t5 h6
        have ht5 : Within 0x100002001f02000000000006 s t5 := by
          refine Within2.of h6 ?_
          refine Within2.app gateCheck_within rfl ?_
          exact Within.refl
        refine Within.app semReply_within rfl ?_
        exact ht5
      · rename_i x7 t8 h9
        have ht8 : Within 0x100002001f02000000000006 s t8 := by
          refine Within2.of h9 ?_
          refine Within2.app gateCheck_within rfl ?_
          exact Within.refl
        refine Within.app semAtomic_within rfl ?_
        exact ht8

theorem execHifSemAtomicop_within {port fn off kind operand compare s} :
    WithinX 0x100002001f0200000000000e s (execHifSemAtomicop port fn off kind operand compare s) := by
  unfold execHifSemAtomicop
  refine WithinX.app (onInstance_within rfl ?_) (sub_self _) ?_
  · intro x1 t2
    refine Within.app semOp_within rfl ?_
    exact Within.refl
  · exact Within.refl

end Sys2Proof.Machine
end

