-- ==== Sys2Proof/Laws/WithinCmdService.lean ====
section
/-! SUPPORT. What each operation of Machine/CmdService.lean, Machine/Command.lean can do, as one lemma
of the form of Laws/Within.lean. The numeral is the set of parts it may change. -/

namespace Sys2Proof.Machine

theorem applyRec_within {s r} : Within 0xc000000000000 s (applyRec s r) := by
  unfold applyRec
  split
  · rename_i x1 h2
    exact Within.refl
  · rename_i x3 x4 h5
    refine Within.foldl ?_ ?_
    · intro t6 x7
      refine Within.app State.setShadow_within rfl ?_
      exact Within.refl
    · exact Within.refl

theorem setShadowState_within {n s} : Within 0x10000000000000000000000 s (setShadowState n s) := by
  unfold setShadowState
  refine Within.upd (e := s) ?_ rfl rfl rfl rfl rfl rfl rfl rfl
  exact Within.refl

theorem setFailOffset_within {off s} : Within 0x2000000000000 s (setFailOffset off s) := by
  unfold setFailOffset
  refine Within.app State.setReg_within rfl ?_
  exact Within.refl

theorem shadowApply_within {a image s} : Within2 0x1000000000c000000000000 s (shadowApply a image s) := by
  unfold shadowApply
  split
  · rename_i x1 x2 h3
    refine Within2.mk ?_
    exact Within.refl
  · rename_i x4 x5 h6
    extract_lets v7
    have hv7 : Within 0x1000000000c000000000000 s v7 := by
      unfold v7
      refine Within.ite ?_ ?_
      · refine Within.app (State.setBank_within bank_rising) rfl ?_
        exact Within.refl
      · exact Within.refl
    clear_value v7
    refine Within2.mk ?_
    refine Within.app setShadowState_within rfl ?_
    refine Within.foldl ?_ ?_
    · intro t8 x9
      refine Within.app applyRec_within rfl ?_
      exact Within.refl
    · exact hv7

theorem cmdShadowLoad_within {a0 a1 a2 a3} : Within2 0x810028000060d400780110002001f0f04000d400036 a3 (cmdShadowLoad a0 a1 a2 a3) := by
  unfold cmdShadowLoad
  extract_lets v1 v2
  refine Within2.ite ?_ ?_
  · refine Within2.app refuse_within rfl ?_
    exact Within.refl
  · refine Within2.ite ?_ ?_
    · refine Within2.app refuse_within rfl ?_
      exact Within.refl
    · split
      · rename_i x3 x4 t5 h6
        have ht5 : Within 0x810028000060d400780110002001f0f04000d400036 a3 t5 := by
          refine Within2.of h6 ?_
          refine Within2.app adminRead_within rfl ?_
          exact Within.refl
        refine Within2.mk ?_
        exact ht5
      · rename_i x7 t8 h9
        have ht8 : Within 0x810028000060d400780110002001f0f04000d400036 a3 t8 := by
          refine Within2.of h9 ?_
          refine Within2.app adminRead_within rfl ?_
          exact Within.refl
        refine Within2.app shadowApply_within rfl ?_
        exact ht8
      · rename_i x10 x11 t12 h13
        have ht12 : Within 0x810028000060d400780110002001f0f04000d400036 a3 t12 := by
          refine Within2.of h13 ?_
          refine Within2.app adminRead_within rfl ?_
          exact Within.refl
        refine Within2.ite ?_ ?_
        · refine Within2.mk ?_
          exact ht12
        · refine Within2.app shadowApply_within rfl ?_
          exact ht12

theorem shadowInForce_within {s} : Within 0x20000000000000000000000 s (shadowInForce s) := by
  unfold shadowInForce
  refine Within.upd (e := s) ?_ rfl rfl rfl rfl rfl rfl rfl rfl
  exact Within.refl

theorem clampPolicers_within {s} : Within 0x8000000000000000000000000000000000000000 s (clampPolicers s) := by
  unfold clampPolicers
  extract_lets v1
  refine Within.updFab ?_ rfl
  exact Within.refl

theorem refillPolicers_within {s} : Within 0x8000000000000000000000000000000000000000 s (refillPolicers s) := by
  unfold refillPolicers
  refine Within.foldl ?_ ?_
  · intro t1 x2
    refine Within.app putPolicer_within rfl ?_
    exact Within.refl
  · exact Within.refl

theorem hingePower_within {code s} : Within 0x20000000000000000000100000000000000000000000 s (hingePower code s) := by
  unfold hingePower
  extract_lets v1 v2 v3 v4
  have hv1 : Within 0x20000000000000000000100000000000000000000000 s v1 := by
    unfold v1
    refine Within.app updPwr_within rfl ?_
    exact Within.refl
  clear_value v1
  have hv3 : Within 0x20000000000000000000100000000000000000000000 s v3 := by
    unfold v3
    refine Within.ite ?_ ?_
    · exact hv1
    · refine Within.app State.count_within rfl ?_
      refine Within.app updPwr_within rfl ?_
      exact hv1
  clear_value v3
  refine Within.app updHolds_within rfl ?_
  refine Within.ite ?_ ?_
  · exact hv3
  · refine Within.app rewidth_within rfl ?_
    exact hv3

theorem hingePort_within {o s n} : Within 0x3810028001060d4227801fff02001f02000000000006 s (hingePort o s n) := by
  unfold hingePort
  extract_lets v1 v2 v3 v4 v5 v6 v7
  have hv6 : Within 0x3810028001060d4227801fff02001f02000000000006 s v6 := by
    unfold v6
    refine Within.ite ?_ ?_
    · refine Within.foldl ?_ ?_
      · intro t8 x9
        refine Within.app updLane_within rfl ?_
        exact Within.refl
      · exact Within.refl
    · exact Within.refl
  clear_value v6
  have hv7 : Within 0x3810028001060d4227801fff02001f02000000000006 s v7 := by
    unfold v7
    refine Within.ite ?_ ?_
    · refine Within.app portDisable_within rfl ?_
      exact hv6
    · refine Within.ite ?_ ?_
      · exact hv6
      · refine Within.ite ?_ ?_
        · refine Within.app portEnable_within rfl ?_
          exact hv6
        · refine Within.ite ?_ ?_
          · refine Within.app portRetrain_within rfl ?_
            exact hv6
          · exact hv6
  clear_value v7
  refine Within.foldl ?_ ?_
  · intro t10 x11
    refine Within.app endJob_within rfl ?_
    exact Within.refl
  · exact hv7

theorem hingeLane_within {o s l} : Within 0x3810028000060d400780100002001f0304000d400006 s (hingeLane o s l) := by
  unfold hingeLane
  extract_lets v1 v2 v3 v4 v5
  have hv4 : Within 0x3810028000060d400780100002001f0304000d400006 s v4 := by
    unfold v4
    refine Within.app laneOff_within rfl ?_
    exact Within.refl
  clear_value v4
  have hv5 : Within 0x3810028000060d400780100002001f0304000d400006 s v5 := by
    unfold v5
    refine Within.ite ?_ ?_
    · refine Within.app laneOff_within rfl ?_
      exact Within.refl
    · exact Within.refl
  clear_value v5
  refine Within.ite ?_ ?_
  · exact Within.refl
  · refine Within.ite ?_ ?_
    · refine Within.ite ?_ ?_
      · refine Within.app activeLeft_within rfl ?_
        exact hv4
      · refine Within.app tryLock_within rfl ?_
        exact hv4
    · refine Within.app laneStart_within rfl ?_
      exact hv5

theorem hingeGrants_within {s} : Within 0x8000000000000000000000000000000000000000000 s (hingeGrants s) := by
  unfold hingeGrants
  refine Within.foldl ?_ ?_
  · intro t1 x2
    refine Within.app grantSlice_within rfl ?_
    exact Within.refl
  · exact Within.refl

theorem ratesOff_within {s} : Within 0x10000000000000000000000000000000000 s (ratesOff s) := by
  unfold ratesOff
  refine Within.ite ?_ ?_
  · exact Within.refl
  · refine Within.upd (e := s) ?_ rfl rfl rfl rfl rfl rfl rfl rfl
    exact Within.refl

theorem hingeCommit_within {o} : Within 0x3892838001060f4227801fff02001f0304000d7c984e o (hingeCommit o) := by
  unfold hingeCommit
  extract_lets v1 v2 v3 v4 v5 v6 v7 v8 v9 v10 v11
  have hv2 : Within 0x3892838001060f4227801fff02001f0304000d7c984e o v2 := by
    unfold v2
    refine Within.app refillPolicers_within rfl ?_
    refine Within.app refill_within rfl ?_
    exact Within.refl
  clear_value v2
  have hv4 : Within 0x3892838001060f4227801fff02001f0304000d7c984e o v4 := by
    unfold v4
    refine Within.upd (e := v2) ?_ rfl rfl rfl rfl rfl rfl rfl rfl
    exact hv2
  clear_value v4
  have hv5 : Within 0x3892838001060f4227801fff02001f0304000d7c984e o v5 := by
    unfold v5
    refine Within.app ratesOff_within rfl ?_
    refine Within.app hingePower_within rfl ?_
    refine Within.app startPolicers_within rfl ?_
    refine Within.app clampPolicers_within rfl ?_
    exact hv4
  clear_value v5
  have hv7 : Within 0x3892838001060f4227801fff02001f0304000d7c984e o v7 := by
    unfold v7
    refine Within.ite ?_ ?_
    · exact hv5
    · refine Within.upd (e := v5) ?_ rfl rfl rfl rfl rfl rfl rfl rfl
      exact hv5
  clear_value v7
  have hv8 : Within 0x3892838001060f4227801fff02001f0304000d7c984e o v8 := by
    unfold v8
    refine Within.ite ?_ ?_
    · exact hv7
    · refine Within.app timeRoleChanged_within rfl ?_
      exact hv7
  clear_value v8
  have hv9 : Within 0x3892838001060f4227801fff02001f0304000d7c984e o v9 := by
    unfold v9
    refine Within.ite ?_ ?_
    · exact hv8
    · refine Within.app clkOutChanged_within rfl ?_
      exact hv8
  clear_value v9
  have hv10 : Within 0x3892838001060f4227801fff02001f0304000d7c984e o v10 := by
    unfold v10
    refine Within.foldl ?_ ?_
    · intro t12 x13
      refine Within.app hingePort_within rfl ?_
      exact Within.refl
    · exact hv9
  clear_value v10
  have hv11 : Within 0x3892838001060f4227801fff02001f0304000d7c984e o v11 := by
    unfold v11
    refine Within.foldl ?_ ?_
    · intro t14 x15
      refine Within.app hingeLane_within rfl ?_
      exact Within.refl
    · exact hv10
  clear_value v11
  refine Within.app fabSettle_within rfl ?_
  refine Within.app hingeGrants_within rfl ?_
  exact hv11

theorem cmdHinge_within {a0 a1 a2 a3} : Within2 0x3892838001060f4227801fff02001f0304000d7c984e a3 (cmdHinge a0 a1 a2 a3) := by
  unfold cmdHinge
  refine Within2.ite ?_ ?_
  · refine Within2.app refuse_within rfl ?_
    exact Within.refl
  · refine Within2.ite ?_ ?_
    · refine Within2.app refuse_within rfl ?_
      exact Within.refl
    · refine Within2.ite ?_ ?_
      · refine Within2.app refuse_within rfl ?_
        exact Within.refl
      · refine Within2.ite ?_ ?_
        · refine Within2.mk ?_
          refine Within.app setShadowState_within rfl ?_
          exact Within.refl
        · split
          · rename_i x1 x2 x3 h4
            refine Within2.mk ?_
            refine Within.app setShadowState_within rfl ?_
            refine Within.app setFailOffset_within rfl ?_
            exact Within.refl
          · rename_i x5 h6
            refine Within2.ite ?_ ?_
            · refine Within2.mk ?_
              exact Within.refl
            · extract_lets v7
              have hv7 : Within 0x3892838001060f4227801fff02001f0304000d7c984e a3 v7 := by
                unfold v7
                refine Within.app hingeCommit_within rfl ?_
                exact Within.refl
              clear_value v7
              refine Within2.mk ?_
              exact hv7

theorem hingeCommitted_within {w s} : Within 0x3892838001060f4227801fff02001f0304000d7c984e s (hingeCommitted w s) := by
  unfold hingeCommitted
  extract_lets v1 v2 v3
  have hv1 : Within 0x3892838001060f4227801fff02001f0304000d7c984e s v1 := by
    unfold v1
    refine Within.app hingeCommit_within rfl ?_
    exact Within.refl
  clear_value v1
  refine Within.upd (e := v1) ?_ rfl rfl rfl rfl rfl rfl rfl rfl
  exact hv1

theorem hingeWork_within {w s} : Within 0x3892838001060f4227801fff02001f0304000d7c984e s (hingeWork w s) := by
  unfold hingeWork
  split
  · rename_i x1 x2 x3 h4
    refine Within.app completeCmd_within rfl ?_
    exact Within.refl
  · rename_i x5 h6
    split
    · rename_i x7 x8 x9 h10
      refine Within.app completeCmd_within rfl ?_
      refine Within.app setShadowState_within rfl ?_
      refine Within.app setFailOffset_within rfl ?_
      exact Within.refl
    · rename_i x11 h12
      refine Within.ite ?_ ?_
      · refine Within.app completeCmd_within rfl ?_
        refine Within.app setShadowState_within rfl ?_
        exact Within.refl
      · refine Within.app hingeCommitted_within rfl ?_
        exact Within.refl

theorem cmdPortFence_within {a0 a1 a2 a3} : Within2 0x892038001060d400780100002001f0304000d40000e a3 (cmdPortFence a0 a1 a2 a3) := by
  unfold cmdPortFence
  refine Within2.ite ?_ ?_
  · refine Within2.app refuse_within rfl ?_
    exact Within.refl
  · refine Within2.mk ?_
    refine Within.app fabSettle_within rfl ?_
    refine Within.app updFport_within rfl ?_
    exact Within.refl

theorem cmdPortUnfence_within {a0 a1 a2 a3} : Within2 0x892038001060d400780100002001f0304000d40000e a3 (cmdPortUnfence a0 a1 a2 a3) := by
  unfold cmdPortUnfence
  refine Within2.ite ?_ ?_
  · refine Within2.app refuse_within rfl ?_
    exact Within.refl
  · refine Within2.mk ?_
    refine Within.app fabSettle_within rfl ?_
    refine Within.app updFport_within rfl ?_
    exact Within.refl

theorem setLoop_within {v s l} : Within 0x2000000000000 s (setLoop v s l) := by
  unfold setLoop
  refine Within.app State.setReg_within rfl ?_
  exact Within.refl

theorem testLane_within {loop s l} : Within 0x10000000000000000000000000000002000000000000 s (testLane loop s l) := by
  unfold testLane
  refine Within.ite ?_ ?_
  · exact Within.refl
  · extract_lets v1
    have hv1 : Within 0x10000000000000000000000000000002000000000000 s v1 := by
      unfold v1
      refine Within.ite ?_ ?_
      · refine Within.app setLoop_within rfl ?_
        exact Within.refl
      · exact Within.refl
    clear_value v1
    refine Within.app updLane_within rfl ?_
    exact hv1

theorem portTestStart_within {n loop s} : Within 0x3810028001060d4227801fff02001f02000000000006 s (portTestStart n loop s) := by
  unfold portTestStart
  extract_lets v1 v2 v3 v4 v5
  have hv2 : Within 0x3810028001060d4227801fff02001f02000000000006 s v2 := by
    unfold v2
    refine Within.app portRelease_within rfl ?_
    exact Within.refl
  clear_value v2
  have hv3 : Within 0x3810028001060d4227801fff02001f02000000000006 s v3 := by
    unfold v3
    refine Within.app updFport_within rfl ?_
    exact hv2
  clear_value v3
  have hv4 : Within 0x3810028001060d4227801fff02001f02000000000006 s v4 := by
    unfold v4
    refine Within.foldl ?_ ?_
    · intro t6 x7
      refine Within.ite ?_ ?_
      · exact Within.refl
      · refine Within.app askExit_within rfl ?_
        refine Within.app updLane_within rfl ?_
        refine Within.app dropLaneReq_within rfl ?_
        exact Within.refl
    · exact hv3
  clear_value v4
  have hv5 : Within 0x3810028001060d4227801fff02001f02000000000006 s v5 := by
    unfold v5
    refine Within.app State.emit_within rfl ?_
    refine Within.foldl ?_ ?_
    · intro t8 x9
      refine Within.app testLane_within rfl ?_
      exact Within.refl
    · exact hv4
  clear_value v5
  refine Within.foldl ?_ ?_
  · intro t10 x11
    refine Within.app endJob_within rfl ?_
    exact Within.refl
  · exact hv5

theorem portTestEnd_within {n errors s} : Within 0x38000000000000000000100000000002000000000000 s (portTestEnd n errors s) := by
  unfold portTestEnd
  extract_lets v1
  have hv1 : Within 0x38000000000000000000100000000002000000000000 s v1 := by
    unfold v1
    refine Within.app updFport_within rfl ?_
    refine Within.app State.count_within rfl ?_
    exact Within.refl
  clear_value v1
  refine Within.app portEnable_within rfl ?_
  refine Within.foldl ?_ ?_
  · intro t2 x3
    refine Within.app laneOff_within rfl ?_
    refine Within.app setLoop_within rfl ?_
    exact Within.refl
  · exact hv1

theorem cmdPortTest_within {a0 a1 a2 a3} : Within2 0x3810028001060d4227801fff02001f02000000000036 a3 (cmdPortTest a0 a1 a2 a3) := by
  unfold cmdPortTest
  extract_lets v1 v2 v3
  have hv3 : Within 0x3810028001060d4227801fff02001f02000000000036 a3 v3 := by
    unfold v3
    refine Within.app portTestStart_within rfl ?_
    exact Within.refl
  clear_value v3
  refine Within2.ite ?_ ?_
  · refine Within2.app refuse_within rfl ?_
    exact Within.refl
  · refine Within2.ite ?_ ?_
    · refine Within2.ite ?_ ?_
      · refine Within2.mk ?_
        refine Within.app portTestEnd_within rfl ?_
        exact Within.refl
      · refine Within2.app refuse_within rfl ?_
        exact Within.refl
    · refine Within2.ite ?_ ?_
      · refine Within2.app refuse_within rfl ?_
        exact Within.refl
      · refine Within2.ite ?_ ?_
        · refine Within2.app refuse_within rfl ?_
          exact Within.refl
        · refine Within2.ite ?_ ?_
          · refine Within2.mk ?_
            exact hv3
          · refine Within2.ite ?_ ?_
            · refine Within2.mk ?_
              exact hv3
            · refine Within2.mk ?_
              refine Within.app portTestEnd_within rfl ?_
              refine Within.app State.advance_within rfl ?_
              exact hv3

theorem portTestWork_within {w s} : Within 0x380000000000000000001fff02001f02000000000006 s (portTestWork w s) := by
  unfold portTestWork
  refine Within.ite ?_ ?_
  · exact Within.refl
  · refine Within.app completeCmd_within rfl ?_
    refine Within.app portTestEnd_within rfl ?_
    exact Within.refl

theorem applyLaneTest_within {l v user s} : Within 0x10000000000000000000000000000002000000000006 s (applyLaneTest l v user s) := by
  unfold applyLaneTest
  extract_lets v1 v2
  have hv1 : Within 0x10000000000000000000000000000002000000000006 s v1 := by
    unfold v1
    refine Within.app State.setReg_within rfl ?_
    exact Within.refl
  clear_value v1
  have hv2 : Within 0x10000000000000000000000000000002000000000006 s v2 := by
    unfold v2
    refine Within.app State.setReg_within rfl ?_
    exact hv1
  clear_value v2
  refine Within.ite ?_ ?_
  · refine Within.app injectOnce_within rfl ?_
    exact hv2
  · exact hv2

theorem cmdLaneTest_within {a0 a1 a2 a3} : Within2 0x3810028000060d400780100002001f0304000d400006 a3 (cmdLaneTest a0 a1 a2 a3) := by
  unfold cmdLaneTest
  extract_lets v1
  refine Within2.ite ?_ ?_
  · refine Within2.app refuse_within rfl ?_
    exact Within.refl
  · refine Within2.ite ?_ ?_
    · refine Within2.ite ?_ ?_
      · refine Within2.app refuse_within rfl ?_
        exact Within.refl
      · split
        rename_i x2 x3 x4 h5
        refine Within2.mk ?_
        refine Within.app laneFromTest_within rfl ?_
        refine Within.app dropLeave_within rfl ?_
        exact Within.refl
    · refine Within2.ite ?_ ?_
      · refine Within2.app refuse_within rfl ?_
        exact Within.refl
      · refine Within2.ite ?_ ?_
        · refine Within2.app refuse_within rfl ?_
          exact Within.refl
        · refine Within2.mk ?_
          refine Within.app laneTestDrive_within rfl ?_
          refine Within.app applyLaneTest_within rfl ?_
          refine Within.app laneToTest_within rfl ?_
          exact Within.refl

theorem cmdEngineRetire_within {a0 a1 a2 a3} : Within2 0x281003e2ab060d4227801fff06001f0304000d40003e a3 (cmdEngineRetire a0 a1 a2 a3) := by
  unfold cmdEngineRetire
  extract_lets v1
  refine Within2.ite ?_ ?_
  · refine Within2.app refuse_within rfl ?_
    exact Within.refl
  · refine Within2.ite ?_ ?_
    · refine Within2.app refuse_within rfl ?_
      exact Within.refl
    · refine Within2.ite ?_ ?_
      · refine Within2.ite ?_ ?_
        · refine Within2.app refuse_within rfl ?_
          exact Within.refl
        · refine Within2.mk ?_
          refine Within.app retireMpe_within rfl ?_
          exact Within.refl
      · refine Within2.ite ?_ ?_
        · refine Within2.app refuse_within rfl ?_
          exact Within.refl
        · refine Within2.mk ?_
          refine Within.app retireCluster_within rfl ?_
          exact Within.refl

theorem cmdEngineRestore_within {a0 a1 a2 a3} :
    Within2 0x20000000000000000000000000000000000000000000 a3 (cmdEngineRestore a0 a1 a2 a3) := by
  unfold cmdEngineRestore
  extract_lets v1
  refine Within2.ite ?_ ?_
  · refine Within2.app refuse_within rfl ?_
    exact Within.refl
  · refine Within2.ite ?_ ?_
    · refine Within2.app refuse_within rfl ?_
      exact Within.refl
    · refine Within2.mk ?_
      refine Within.app askLeave_within rfl ?_
      exact Within.refl

theorem cmdMemChannelRetire_within {a0 a1 a2 a3} : Within2 0x30000000000000000000 a3 (cmdMemChannelRetire a0 a1 a2 a3) := by
  unfold cmdMemChannelRetire
  extract_lets v1
  refine Within2.ite ?_ ?_
  · refine Within2.app refuse_within rfl ?_
    exact Within.refl
  · refine Within2.ite ?_ ?_
    · refine Within2.app refuse_within rfl ?_
      exact Within.refl
    · refine Within2.ite ?_ ?_
      · refine Within2.app refuse_within rfl ?_
        exact Within.refl
      · refine Within2.mk ?_
        refine Within.app startRetire_within rfl ?_
        exact Within.refl

theorem cmdCounterDumpConfig_within {a0 a1 a2 a3} : Within2 0x200000000002000000000000 a3 (cmdCounterDumpConfig a0 a1 a2 a3) := by
  unfold cmdCounterDumpConfig
  refine Within2.ite ?_ ?_
  · refine Within2.app refuse_within rfl ?_
    exact Within.refl
  · extract_lets v1 v2 v3 v4 v5
    have hv4 : Within 0x200000000002000000000000 a3 v4 := by
      unfold v4
      refine Within.app State.setReg_within rfl ?_
      exact Within.refl
    clear_value v4
    have hv5 : Within 0x200000000002000000000000 a3 v5 := by
      unfold v5
      refine Within.app State.setReg_within rfl ?_
      exact hv4
    clear_value v5
    refine Within2.mk ?_
    refine Within.app dumpFrom_within rfl ?_
    exact hv5

theorem fwStaged_within {a image s} : Within2 0x1f00001000000000 s (fwStaged a image s) := by
  unfold fwStaged
  extract_lets v1 v2 v3 v4
  refine Within2.ite ?_ ?_
  · refine Within2.mk ?_
    refine Within.app audit_within rfl ?_
    refine Within.upd (e := s) ?_ rfl rfl rfl rfl rfl rfl rfl rfl
    exact Within.refl
  · refine Within2.mk ?_
    refine Within.app audit_within rfl ?_
    exact Within.refl

theorem cmdFwStage_within {a0 a1 a2 a3} : Within2 0x810028000060d400780100002001f0304100d400036 a3 (cmdFwStage a0 a1 a2 a3) := by
  unfold cmdFwStage
  extract_lets v1 v2 v3
  refine Within2.ite ?_ ?_
  · refine Within2.app refuse_within rfl ?_
    exact Within.refl
  · refine Within2.ite ?_ ?_
    · refine Within2.app refuse_within rfl ?_
      exact Within.refl
    · split
      · rename_i x4 x5 t6 h7
        have ht6 : Within 0x810028000060d400780100002001f0304100d400036 a3 t6 := by
          refine Within2.of h7 ?_
          refine Within2.app adminRead_within rfl ?_
          exact Within.refl
        refine Within2.mk ?_
        exact ht6
      · rename_i x8 t9 h10
        have ht9 : Within 0x810028000060d400780100002001f0304100d400036 a3 t9 := by
          refine Within2.of h10 ?_
          refine Within2.app adminRead_within rfl ?_
          exact Within.refl
        refine Within2.app fwStaged_within rfl ?_
        exact ht9
      · rename_i x11 x12 t13 h14
        have ht13 : Within 0x810028000060d400780100002001f0304100d400036 a3 t13 := by
          refine Within2.of h14 ?_
          refine Within2.app adminRead_within rfl ?_
          exact Within.refl
        refine Within2.ite ?_ ?_
        · refine Within2.mk ?_
          exact ht13
        · refine Within2.app fwStaged_within rfl ?_
          exact ht13

theorem activateSlot_within {slot mid im s} : Within 0x21f00010000000000 s (activateSlot slot mid im s) := by
  unfold activateSlot
  extract_lets v1 v2 v3
  refine Within.app audit_within rfl ?_
  refine Within.upd (e := s) ?_ rfl rfl rfl rfl rfl rfl rfl rfl
  exact Within.refl

theorem cmdFwActivate_within {a0 a1 a2 a3} : Within2 0x810028000060d400780100002021f0307000c400006 a3 (cmdFwActivate a0 a1 a2 a3) := by
  unfold cmdFwActivate
  extract_lets v1
  refine Within2.ite ?_ ?_
  · refine Within2.app refuse_within rfl ?_
    exact Within.refl
  · split
    · rename_i x2 h3
      refine Within2.app refuse_within rfl ?_
      exact Within.refl
    · rename_i x4 x5 h6
      refine Within2.ite ?_ ?_
      · extract_lets v7
        have hv7 : Within 0x810028000060d400780100002021f0307000c400006 a3 v7 := by
          unfold v7
          refine Within.app activateSlot_within rfl ?_
          exact Within.refl
        clear_value v7
        refine Within2.mk ?_
        exact hv7
      · refine Within2.ite ?_ ?_
        · refine Within2.app refuse_within rfl ?_
          exact Within.refl
        · extract_lets v8 v9
          have hv8 : Within 0x810028000060d400780100002021f0307000c400006 a3 v8 := by
            unfold v8
            refine Within.app activateSlot_within rfl ?_
            exact Within.refl
          clear_value v8
          refine Within2.mk ?_
          refine Within.app beginWarm_within rfl ?_
          refine Within.upd (e := v8) ?_ rfl rfl rfl rfl rfl rfl rfl rfl
          exact hv8

theorem keyHold_within {k bits s} : Within 0x80000000000000 s (keyHold k bits s) := by
  unfold keyHold
  refine Within.upd (e := s) ?_ rfl rfl rfl rfl rfl rfl rfl rfl
  exact Within.refl

theorem keyTake_within {mid kind pkey key s} : Within 0x1ff0000000000000 s (keyTake mid kind pkey key s) := by
  unfold keyTake
  refine Within.ite ?_ ?_
  · extract_lets v1 v2
    have hv1 : Within 0x1ff0000000000000 s v1 := by
      unfold v1
      refine Within.app zeroizeStore_within rfl ?_
      exact Within.refl
    clear_value v1
    refine Within.app keyHold_within rfl ?_
    refine Within.upd (e := v1) ?_ rfl rfl rfl rfl rfl rfl rfl rfl
    exact hv1
  · refine Within.ite ?_ ?_
    · refine Within.app keyHold_within rfl ?_
      refine Within.upd (e := s) ?_ rfl rfl rfl rfl rfl rfl rfl rfl
      exact Within.refl
    · refine Within.app keyHold_within rfl ?_
      refine Within.upd (e := s) ?_ rfl rfl rfl rfl rfl rfl rfl rfl
      exact Within.refl

theorem keyRefused_within {mid kind pkey status detail s} : Within2 0x1f00000000000000 s (keyRefused mid kind pkey status detail s) := by
  unfold keyRefused
  refine Within2.mk ?_
  refine Within.app audit_within rfl ?_
  exact Within.refl

theorem keyInstall_within {env a kind pkey s} : Within2 0x810028000060d400780100002001ff304000d400036 s (keyInstall env a kind pkey s) := by
  unfold keyInstall
  extract_lets v1
  have hv1 : ∀ x2 x3 t4, Within2 0x810028000060d400780100002001ff304000d400036 t4 (v1 x2 x3 t4) := by
    intro x2 x3 t4
    unfold v1
    refine Within2.app keyRefused_within rfl ?_
    exact Within.refl
  clear_value v1
  refine Within2.ite ?_ ?_
  · refine Within2.app (hv1 _ _ _) (sub_self _) ?_
    exact Within.refl
  · refine Within2.ite ?_ ?_
    · refine Within2.app (hv1 _ _ _) (sub_self _) ?_
      exact Within.refl
    · split
      · rename_i x5 x6 t7 h8
        have ht7 : Within 0x810028000060d400780100002001ff304000d400036 s t7 := by
          refine Within2.of h8 ?_
          refine Within2.app adminRead_within rfl ?_
          exact Within.refl
        refine Within2.app (hv1 _ _ _) (sub_self _) ?_
        exact ht7
      · rename_i x9 t10 h11
        have ht10 : Within 0x810028000060d400780100002001ff304000d400036 s t10 := by
          refine Within2.of h11 ?_
          refine Within2.app adminRead_within rfl ?_
          exact Within.refl
        refine Within2.app (hv1 _ _ _) (sub_self _) ?_
        exact ht10
      · rename_i x12 x13 t14 h15
        have ht14 : Within 0x810028000060d400780100002001ff304000d400036 s t14 := by
          refine Within2.of h15 ?_
          refine Within2.app adminRead_within rfl ?_
          exact Within.refl
        refine Within2.ite ?_ ?_
        · refine Within2.app (hv1 _ _ _) (sub_self _) ?_
          exact ht14
        · split
          · rename_i x16 h17
            refine Within2.app (hv1 _ _ _) (sub_self _) ?_
            exact ht14
          · rename_i x18 x19 h20
            refine Within2.mk ?_
            refine Within.app audit_within rfl ?_
            refine Within.app keyTake_within rfl ?_
            exact ht14

theorem keyZeroize_within {mid kind pkey s} : Within 0xfffff0000000000000 s (keyZeroize mid kind pkey s) := by
  unfold keyZeroize
  extract_lets v1 v2
  refine Within.app audit_within rfl ?_
  refine Within.upd (e := s) ?_ rfl rfl rfl rfl rfl rfl rfl rfl
  exact Within.refl

theorem cmdKeyInstall_within {a0 a1 a2 a3} : Within2 0x810028000060d400780100002fffff304000d400036 a3 (cmdKeyInstall a0 a1 a2 a3) := by
  unfold cmdKeyInstall
  extract_lets v1 v2
  refine Within2.ite ?_ ?_
  · refine Within2.app refuse_within rfl ?_
    exact Within.refl
  · refine Within2.ite ?_ ?_
    · refine Within2.app keyInstall_within rfl ?_
      exact Within.refl
    · refine Within2.ite ?_ ?_
      · refine Within2.ite ?_ ?_
        · refine Within2.app refuse_within rfl ?_
          exact Within.refl
        · refine Within2.mk ?_
          refine Within.app keyZeroize_within rfl ?_
          exact Within.refl
      · refine Within2.app refuse_within rfl ?_
        exact Within.refl

theorem cmdFaultClear_within {a0 a1 a2 a3} : Within2 0x2000002000000000000 a3 (cmdFaultClear a0 a1 a2 a3) := by
  unfold cmdFaultClear
  extract_lets v1 v2 v3 v4
  have hv2 : Within 0x2000002000000000000 a3 v2 := by
    unfold v2
    refine Within.upd (e := a3) ?_ rfl rfl rfl rfl rfl rfl rfl rfl
    exact Within.refl
  clear_value v2
  have hv3 : Within 0x2000002000000000000 a3 v3 := by
    unfold v3
    refine Within.ite ?_ ?_
    · refine Within.foldl ?_ ?_
      · intro t5 x6
        refine Within.app State.setReg_within rfl ?_
        exact Within.refl
      · exact hv2
    · exact hv2
  clear_value v3
  have hv4 : Within 0x2000002000000000000 a3 v4 := by
    unfold v4
    refine Within.ite ?_ ?_
    · refine Within.app State.setReg_within rfl ?_
      refine Within.app State.setReg_within rfl ?_
      exact hv3
    · exact hv3
  clear_value v4
  refine Within2.ite ?_ ?_
  · refine Within2.app refuse_within rfl ?_
    exact Within.refl
  · refine Within2.mk ?_
    exact hv4

theorem outsideBody_within {op a1 a2 a3 a4} : Within2 0x389283e2ab060f4227801fff36021f0307000d7c987e a4 (outsideBody op a1 a2 a3 a4) := by
  unfold outsideBody
  split
  · rename_i h1
    refine Within2.app cmdNop_within rfl ?_
    exact Within.refl
  · rename_i h2
    split
    · rename_i h3
      refine Within2.app cmdQuery_within rfl ?_
      exact Within.refl
    · rename_i h4
      split
      · rename_i h5
        refine Within2.app cmdHinge_within rfl ?_
        exact Within.refl
      · rename_i h6
        split
        · rename_i h7
          refine Within2.app cmdPortFence_within rfl ?_
          exact Within.refl
        · rename_i h8
          split
          · rename_i h9
            refine Within2.app cmdPortUnfence_within rfl ?_
            exact Within.refl
          · rename_i h10
            split
            · rename_i h11
              refine Within2.app cmdPortTest_within rfl ?_
              exact Within.refl
            · rename_i h12
              split
              · rename_i h13
                refine Within2.app cmdLaneTest_within rfl ?_
                exact Within.refl
              · rename_i h14
                split
                · rename_i h15
                  refine Within2.app cmdEngineRetire_within rfl ?_
                  exact Within.refl
                · rename_i h16
                  split
                  · rename_i h17
                    refine Within2.app cmdEngineRestore_within rfl ?_
                    exact Within.refl
                  · rename_i h18
                    split
                    · rename_i h19
                      refine Within2.app cmdMemChannelRetire_within rfl ?_
                      exact Within.refl
                    · rename_i h20
                      split
                      · rename_i h21
                        refine Within2.app cmdFwActivate_within rfl ?_
                        exact Within.refl
                      · rename_i h22
                        refine Within2.app cmdFaultClear_within rfl ?_
                        exact Within.refl

theorem outsideRun_within {a0 a1} : Within 0x389283e2ab060f4227801fff36021f0307000d7c987e a1 (outsideRun a0 a1) := by
  induction a0 generalizing a1
  · rw [outsideRun]
    exact Within.refl
  · rename_i x1 ih
    rw [outsideRun]
    split
    · rename_i x2 h3
      exact Within.refl
    · rename_i x4 x5 x6 h7
      refine Within.ite ?_ ?_
      · exact Within.refl
      · refine Within.app ih rfl ?_
        refine Within.trans ?_ (beginCmd_within rfl ?_)
        · refine Within.upd (e := a1) ?_ rfl rfl rfl rfl rfl rfl rfl rfl
          exact Within.refl
        · intro x8 x9 x10 t11
          refine Within2.app outsideBody_within rfl ?_
          exact Within.refl

theorem outsideGo_within {s} : Within 0x389283e2ab060f4227801fff36021f0307000d7c987e s (outsideGo s) := by
  unfold outsideGo
  refine Within.app outsideRun_within rfl ?_
  exact Within.refl

theorem workOne_within {s w} : Within 0x3892838001060f4227801fff02001f0f04100d7c984e s (workOne s w) := by
  unfold workOne
  extract_lets v1 v2
  refine Within.ite ?_ ?_
  · refine Within.app hingeWork_within rfl ?_
    exact Within.refl
  · refine Within.ite ?_ ?_
    · refine Within.app portTestWork_within rfl ?_
      exact Within.refl
    · refine Within.ite ?_ ?_
      · unfold v2
        split
        · rename_i x3 x4 x5 x6 x7 t8 h9
          have ht8 : Within 0x3892838001060f4227801fff02001f0f04100d7c984e s t8 := by
            refine Within2.of h9 ?_
            refine Within2.app shadowApply_within rfl ?_
            exact Within.refl
          refine Within.app completeCmd_within rfl ?_
          exact ht8
        · rename_i x10 x11 t12 ih h13
          have ht12 : Within 0x3892838001060f4227801fff02001f0f04100d7c984e s t12 := by
            refine Within2.of h13 ?_
            refine Within2.app shadowApply_within rfl ?_
            exact Within.refl
          exact ht12
      · unfold v2
        split
        · rename_i x14 x15 x16 x17 x18 t19 h20
          have ht19 : Within 0x3892838001060f4227801fff02001f0f04100d7c984e s t19 := by
            refine Within2.of h20 ?_
            refine Within2.app fwStaged_within rfl ?_
            exact Within.refl
          refine Within.app completeCmd_within rfl ?_
          exact ht19
        · rename_i x21 x22 t23 ih h24
          have ht23 : Within 0x3892838001060f4227801fff02001f0f04100d7c984e s t23 := by
            refine Within2.of h24 ?_
            refine Within2.app fwStaged_within rfl ?_
            exact Within.refl
          exact ht23

theorem workGo_within {s} : Within 0x3892838001060f4227801fff02001f0f04100d7c984e s (workGo s) := by
  unfold workGo
  refine Within.foldl ?_ ?_
  · intro t1 x2
    refine Within.app workOne_within rfl ?_
    exact Within.refl
  · exact Within.refl

theorem tickWork_within {s} : Within 0x389283e2ab060f4227801fff36021f0f07100d7c987e s (tickWork s) := by
  unfold tickWork
  refine Within.app groupsGiveUp_within rfl ?_
  refine Within.app outsideGo_within rfl ?_
  refine Within.app workGo_within rfl ?_
  exact Within.refl

theorem onRing_within {m op body env a s} (hm : sub 0x389283e2ab060f4227801fff36021f0307000d7c987e m = true) (hbody : ∀ x0 x1 x2 t3, Within2 m t3 (body x0 x1 x2 t3)) :
    WithinX m s (onRing op body env a s) := by
  unfold onRing
  refine WithinX.next ?_
  refine Within.trans ?_ (runRing_within (sub_trans rfl hm) ?_)
  · refine Within.trans ?_ (whenRunning_within (sub_trans rfl hm) ?_)
    · exact Within.refl
    · intro t1
      refine Within.app outsideGo_within (sub_trans rfl hm) ?_
      exact Within.refl
  · intro x2 x3 x4 t5
    refine Within2.app (hbody _ _ _ _) (sub_self _) ?_
    exact Within.refl

theorem execCmdNop_within {env a s} : WithinX 0x389283e2ab060f4227801fff36021f0307000d7c987e s (execCmdNop env a s) := by
  unfold execCmdNop
  refine WithinX.app (onRing_within rfl ?_) (sub_self _) ?_
  · intro x1 x2 x3 t4
    refine Within2.app cmdNop_within rfl ?_
    exact Within.refl
  · exact Within.refl

theorem execCmdQuery_within {env a s} : WithinX 0x389283e2ab060f4227801fff36021f0307000d7c987e s (execCmdQuery env a s) := by
  unfold execCmdQuery
  refine WithinX.app (onRing_within rfl ?_) (sub_self _) ?_
  · intro x1 x2 x3 t4
    refine Within2.app cmdQuery_within rfl ?_
    exact Within.refl
  · exact Within.refl

theorem execCmdEndpointConfig_within {env a s} :
    WithinX 0x389283e2ab060f6227801fff36021f0307000d7c987e s (execCmdEndpointConfig env a s) := by
  unfold execCmdEndpointConfig
  refine WithinX.app (onRing_within rfl ?_) (sub_self _) ?_
  · intro x1 x2 x3 t4
    refine Within2.app cmdEndpointConfig_within rfl ?_
    exact Within.refl
  · exact Within.refl

theorem execCmdPartitionCreate_within {env a s} :
    WithinX 0x389283e2ab0e0f4227801fff36021f0307000d7c987e s (execCmdPartitionCreate env a s) := by
  unfold execCmdPartitionCreate
  refine WithinX.app (onRing_within rfl ?_) (sub_self _) ?_
  · intro x1 x2 x3 t4
    refine Within2.app cmdPartitionCreate_within rfl ?_
    exact Within.refl
  · exact Within.refl

theorem execCmdPartitionDestroy_within {env a s} :
    WithinX 0x389283e2ab0e0f4227801fff36021f0307000d7c987e s (execCmdPartitionDestroy env a s) := by
  unfold execCmdPartitionDestroy
  refine WithinX.app (onRing_within rfl ?_) (sub_self _) ?_
  · intro x1 x2 x3 t4
    refine Within2.app cmdPartitionDestroy_within rfl ?_
    exact Within.refl
  · exact Within.refl

theorem execCmdAsidCreate_within {env a s} : WithinX 0x389283e2ab060fc227801fff36021f0307000d7c987e s (execCmdAsidCreate env a s) := by
  unfold execCmdAsidCreate
  refine WithinX.app (onRing_within rfl ?_) (sub_self _) ?_
  · intro x1 x2 x3 t4
    refine Within2.app cmdAsidCreate_within rfl ?_
    exact Within.refl
  · exact Within.refl

theorem execCmdAsidDestroy_within {env a s} : WithinX 0x389283e2ab060fc227801fff36021f0307000d7c987e s (execCmdAsidDestroy env a s) := by
  unfold execCmdAsidDestroy
  refine WithinX.app (onRing_within rfl ?_) (sub_self _) ?_
  · intro x1 x2 x3 t4
    refine Within2.app cmdAsidDestroy_within rfl ?_
    exact Within.refl
  · exact Within.refl

theorem execCmdQueueCreate_within {env a s} : WithinX 0x389283e2ab060f4227801fff36021f0307000d7c987e s (execCmdQueueCreate env a s) := by
  unfold execCmdQueueCreate
  refine WithinX.app (onRing_within rfl ?_) (sub_self _) ?_
  · intro x1 x2 x3 t4
    refine Within2.app cmdQueueCreate_within rfl ?_
    exact Within.refl
  · exact Within.refl

theorem execCmdQueueModifyAttributes_within {env a s} :
    WithinX 0x389283e2ab060f4227801fff36021f0307000d7c987e s (execCmdQueueModifyAttributes env a s) := by
  unfold execCmdQueueModifyAttributes
  refine WithinX.app (onRing_within rfl ?_) (sub_self _) ?_
  · intro x1 x2 x3 t4
    refine Within2.app cmdQueueModify_within rfl ?_
    exact Within.refl
  · exact Within.refl

theorem execCmdQueueModifyStop_within {env a s} :
    WithinX 0x389283e2ab060f4227801fff36021f0307000d7c987e s (execCmdQueueModifyStop env a s) := by
  unfold execCmdQueueModifyStop
  refine WithinX.app (onRing_within rfl ?_) (sub_self _) ?_
  · intro x1 x2 x3 t4
    refine Within2.app cmdQueueModify_within rfl ?_
    exact Within.refl
  · exact Within.refl

theorem execCmdQueueModifyStart_within {env a s} :
    WithinX 0x389283e2ab060f4227801fff36021f0307000d7c987e s (execCmdQueueModifyStart env a s) := by
  unfold execCmdQueueModifyStart
  refine WithinX.app (onRing_within rfl ?_) (sub_self _) ?_
  · intro x1 x2 x3 t4
    refine Within2.app cmdQueueModify_within rfl ?_
    exact Within.refl
  · exact Within.refl

theorem execCmdQueueModifyRecover_within {env a s} :
    WithinX 0x389283e2ab060f4227801fff36021f0307000d7c987e s (execCmdQueueModifyRecover env a s) := by
  unfold execCmdQueueModifyRecover
  refine WithinX.app (onRing_within rfl ?_) (sub_self _) ?_
  · intro x1 x2 x3 t4
    refine Within2.app cmdQueueModify_within rfl ?_
    exact Within.refl
  · exact Within.refl

theorem execCmdQueueDestroy_within {env a s} : WithinX 0x389283e2ab060f4227801fff36021f0307000d7c987e s (execCmdQueueDestroy env a s) := by
  unfold execCmdQueueDestroy
  refine WithinX.app (onRing_within rfl ?_) (sub_self _) ?_
  · intro x1 x2 x3 t4
    refine Within2.app cmdQueueDestroy_within rfl ?_
    exact Within.refl
  · exact Within.refl

theorem execCmdQueueEvict_within {env a s} : WithinX 0x389283e2ab060f42a7801fff36021f0307000d7c987e s (execCmdQueueEvict env a s) := by
  unfold execCmdQueueEvict
  refine WithinX.app (onRing_within rfl ?_) (sub_self _) ?_
  · intro x1 x2 x3 t4
    refine Within2.app cmdQueueEvict_within rfl ?_
    exact Within.refl
  · exact Within.refl

theorem execCmdRegionRegister_within {env a s} :
    WithinX 0x389283e2ab778f4227801fff36021f0307000d7c987e s (execCmdRegionRegister env a s) := by
  unfold execCmdRegionRegister
  refine WithinX.app (onRing_within rfl ?_) (sub_self _) ?_
  · intro x1 x2 x3 t4
    refine Within2.app cmdRegionRegister_within rfl ?_
    exact Within.refl
  · exact Within.refl

theorem execCmdRegionDeregister_within {env a s} :
    WithinX 0x389283e2ab560f4227801fff36021f0307000d7c987e s (execCmdRegionDeregister env a s) := by
  unfold execCmdRegionDeregister
  refine WithinX.app (onRing_within rfl ?_) (sub_self _) ?_
  · intro x1 x2 x3 t4
    refine Within2.app cmdRegionDeregister_within rfl ?_
    exact Within.refl
  · exact Within.refl

theorem execCmdXltInval_within {env a s} : WithinX 0x389283e2ab065f4227801fff36021f0307000d7c987e s (execCmdXltInval env a s) := by
  unfold execCmdXltInval
  refine WithinX.app (onRing_within rfl ?_) (sub_self _) ?_
  · intro x1 x2 x3 t4
    refine Within2.app cmdXltInval_within rfl ?_
    exact Within.refl
  · exact Within.refl

theorem execCmdMatchContextCreate_within {env a s} :
    WithinX 0x389283e2ab060f4227801fff36021f0307000d7c987e s (execCmdMatchContextCreate env a s) := by
  unfold execCmdMatchContextCreate
  refine WithinX.app (onRing_within rfl ?_) (sub_self _) ?_
  · intro x1 x2 x3 t4
    refine Within2.app cmdMatchContextCreate_within rfl ?_
    exact Within.refl
  · exact Within.refl

theorem execCmdMatchContextDestroy_within {env a s} :
    WithinX 0x389283e2eb060f4227801fff36021f0307000d7c987e s (execCmdMatchContextDestroy env a s) := by
  unfold execCmdMatchContextDestroy
  refine WithinX.app (onRing_within rfl ?_) (sub_self _) ?_
  · intro x1 x2 x3 t4
    refine Within2.app cmdMatchContextDestroy_within rfl ?_
    exact Within.refl
  · exact Within.refl

theorem execCmdChorusCreate_within {env a s} : WithinX 0x389283e2ab060f4227801fff36021f0307000d7c987e s (execCmdChorusCreate env a s) := by
  unfold execCmdChorusCreate
  refine WithinX.app (onRing_within rfl ?_) (sub_self _) ?_
  · intro x1 x2 x3 t4
    refine Within2.app cmdChorusCreate_within rfl ?_
    exact Within.refl
  · exact Within.refl

theorem execCmdChorusDestroy_within {env a s} :
    WithinX 0x389283e2ab060f4227801fff36021f0307000d7c987e s (execCmdChorusDestroy env a s) := by
  unfold execCmdChorusDestroy
  refine WithinX.app (onRing_within rfl ?_) (sub_self _) ?_
  · intro x1 x2 x3 t4
    refine Within2.app cmdChorusDestroy_within rfl ?_
    exact Within.refl
  · exact Within.refl

theorem execCmdLockAlloc_within {env a s} : WithinX 0x389283fbab060f4227801fff36021f0307000d7c987e s (execCmdLockAlloc env a s) := by
  unfold execCmdLockAlloc
  refine WithinX.app (onRing_within rfl ?_) (sub_self _) ?_
  · intro x1 x2 x3 t4
    refine Within2.app cmdLockAlloc_within rfl ?_
    exact Within.refl
  · exact Within.refl

theorem execCmdLockAllocVariables_within {env a s} :
    WithinX 0x389283fbab060f4227801fff36021f0307000d7c987e s (execCmdLockAllocVariables env a s) := by
  unfold execCmdLockAllocVariables
  refine WithinX.app (onRing_within rfl ?_) (sub_self _) ?_
  · intro x1 x2 x3 t4
    refine Within2.app cmdLockAlloc_within rfl ?_
    exact Within.refl
  · exact Within.refl

theorem execCmdLockFree_within {env a s} : WithinX 0x389283fbab060f4227801fff36021f0307000d7c987e s (execCmdLockFree env a s) := by
  unfold execCmdLockFree
  refine WithinX.app (onRing_within rfl ?_) (sub_self _) ?_
  · intro x1 x2 x3 t4
    refine Within2.app cmdLockFree_within rfl ?_
    exact Within.refl
  · exact Within.refl

theorem execCmdLockFreeForce_within {env a s} :
    WithinX 0x389283fbab060f4227801fff36021f0307000d7c987e s (execCmdLockFreeForce env a s) := by
  unfold execCmdLockFreeForce
  refine WithinX.app (onRing_within rfl ?_) (sub_self _) ?_
  · intro x1 x2 x3 t4
    refine Within2.app cmdLockFree_within rfl ?_
    exact Within.refl
  · exact Within.refl

theorem execCmdLockFreeVariables_within {env a s} :
    WithinX 0x389283fbab060f4227801fff36021f0307000d7c987e s (execCmdLockFreeVariables env a s) := by
  unfold execCmdLockFreeVariables
  refine WithinX.app (onRing_within rfl ?_) (sub_self _) ?_
  · intro x1 x2 x3 t4
    refine Within2.app cmdLockFree_within rfl ?_
    exact Within.refl
  · exact Within.refl

theorem execCmdGateWrite_within {env a s} : WithinX 0x389283e2ab060f4227801fff37021f0307000d7c987e s (execCmdGateWrite env a s) := by
  unfold execCmdGateWrite
  refine WithinX.app (onRing_within rfl ?_) (sub_self _) ?_
  · intro x1 x2 x3 t4
    refine Within2.app cmdGateWrite_within rfl ?_
    exact Within.refl
  · exact Within.refl

theorem execCmdShadowLoad_within {env a s} : WithinX 0x389283e2ab060f4227801fff36021f0f07000d7c987e s (execCmdShadowLoad env a s) := by
  unfold execCmdShadowLoad
  refine WithinX.app (onRing_within rfl ?_) (sub_self _) ?_
  · intro x1 x2 x3 t4
    refine Within2.app cmdShadowLoad_within rfl ?_
    exact Within.refl
  · exact Within.refl

theorem execCmdHinge_within {env a s} : WithinX 0x389283e2ab060f4227801fff36021f0307000d7c987e s (execCmdHinge env a s) := by
  unfold execCmdHinge
  refine WithinX.app (onRing_within rfl ?_) (sub_self _) ?_
  · intro x1 x2 x3 t4
    refine Within2.app cmdHinge_within rfl ?_
    exact Within.refl
  · exact Within.refl

theorem execCmdHingeValidateOnly_within {env a s} :
    WithinX 0x389283e2ab060f4227801fff36021f0307000d7c987e s (execCmdHingeValidateOnly env a s) := by
  unfold execCmdHingeValidateOnly
  refine WithinX.app (onRing_within rfl ?_) (sub_self _) ?_
  · intro x1 x2 x3 t4
    refine Within2.app cmdHinge_within rfl ?_
    exact Within.refl
  · exact Within.refl

theorem execCmdPortFence_within {env a s} : WithinX 0x389283e2ab060f4227801fff36021f0307000d7c987e s (execCmdPortFence env a s) := by
  unfold execCmdPortFence
  refine WithinX.app (onRing_within rfl ?_) (sub_self _) ?_
  · intro x1 x2 x3 t4
    refine Within2.app cmdPortFence_within rfl ?_
    exact Within.refl
  · exact Within.refl

theorem execCmdPortUnfence_within {env a s} : WithinX 0x389283e2ab060f4227801fff36021f0307000d7c987e s (execCmdPortUnfence env a s) := by
  unfold execCmdPortUnfence
  refine WithinX.app (onRing_within rfl ?_) (sub_self _) ?_
  · intro x1 x2 x3 t4
    refine Within2.app cmdPortUnfence_within rfl ?_
    exact Within.refl
  · exact Within.refl

theorem execCmdPortTest_within {env a s} : WithinX 0x389283e2ab060f4227801fff36021f0307000d7c987e s (execCmdPortTest env a s) := by
  unfold execCmdPortTest
  refine WithinX.app (onRing_within rfl ?_) (sub_self _) ?_
  · intro x1 x2 x3 t4
    refine Within2.app cmdPortTest_within rfl ?_
    exact Within.refl
  · exact Within.refl

theorem execCmdPortTestStop_within {env a s} : WithinX 0x389283e2ab060f4227801fff36021f0307000d7c987e s (execCmdPortTestStop env a s) := by
  unfold execCmdPortTestStop
  refine WithinX.app (onRing_within rfl ?_) (sub_self _) ?_
  · intro x1 x2 x3 t4
    refine Within2.app cmdPortTest_within rfl ?_
    exact Within.refl
  · exact Within.refl

theorem execCmdLaneTest_within {env a s} : WithinX 0x389283e2ab060f4227801fff36021f0307000d7c987e s (execCmdLaneTest env a s) := by
  unfold execCmdLaneTest
  refine WithinX.app (onRing_within rfl ?_) (sub_self _) ?_
  · intro x1 x2 x3 t4
    refine Within2.app cmdLaneTest_within rfl ?_
    exact Within.refl
  · exact Within.refl

theorem execCmdLaneTestStop_within {env a s} : WithinX 0x389283e2ab060f4227801fff36021f0307000d7c987e s (execCmdLaneTestStop env a s) := by
  unfold execCmdLaneTestStop
  refine WithinX.app (onRing_within rfl ?_) (sub_self _) ?_
  · intro x1 x2 x3 t4
    refine Within2.app cmdLaneTest_within rfl ?_
    exact Within.refl
  · exact Within.refl

theorem execCmdEngineRetire_within {env a s} : WithinX 0x389283e2ab060f4227801fff36021f0307000d7c987e s (execCmdEngineRetire env a s) := by
  unfold execCmdEngineRetire
  refine WithinX.app (onRing_within rfl ?_) (sub_self _) ?_
  · intro x1 x2 x3 t4
    refine Within2.app cmdEngineRetire_within rfl ?_
    exact Within.refl
  · exact Within.refl

theorem execCmdEngineRestore_within {env a s} :
    WithinX 0x389283e2ab060f4227801fff36021f0307000d7c987e s (execCmdEngineRestore env a s) := by
  unfold execCmdEngineRestore
  refine WithinX.app (onRing_within rfl ?_) (sub_self _) ?_
  · intro x1 x2 x3 t4
    refine Within2.app cmdEngineRestore_within rfl ?_
    exact Within.refl
  · exact Within.refl

theorem execCmdMemChannelRetire_within {env a s} :
    WithinX 0x389283e2ab060f4227801fff36021f0307000d7c987e s (execCmdMemChannelRetire env a s) := by
  unfold execCmdMemChannelRetire
  refine WithinX.app (onRing_within rfl ?_) (sub_self _) ?_
  · intro x1 x2 x3 t4
    refine Within2.app cmdMemChannelRetire_within rfl ?_
    exact Within.refl
  · exact Within.refl

theorem execCmdCounterDumpConfig_within {env a s} :
    WithinX 0x389283e2ab060f4227803fff36021f0307000d7c987e s (execCmdCounterDumpConfig env a s) := by
  unfold execCmdCounterDumpConfig
  refine WithinX.app (onRing_within rfl ?_) (sub_self _) ?_
  · intro x1 x2 x3 t4
    refine Within2.app cmdCounterDumpConfig_within rfl ?_
    exact Within.refl
  · exact Within.refl

theorem execCmdFwStage_within {env a s} : WithinX 0x389283e2ab060f4227801fff36021f0307100d7c987e s (execCmdFwStage env a s) := by
  unfold execCmdFwStage
  refine WithinX.app (onRing_within rfl ?_) (sub_self _) ?_
  · intro x1 x2 x3 t4
    refine Within2.app cmdFwStage_within rfl ?_
    exact Within.refl
  · exact Within.refl

theorem execCmdFwActivate_within {env a s} : WithinX 0x389283e2ab060f4227801fff36021f0307000d7c987e s (execCmdFwActivate env a s) := by
  unfold execCmdFwActivate
  refine WithinX.app (onRing_within rfl ?_) (sub_self _) ?_
  · intro x1 x2 x3 t4
    refine Within2.app cmdFwActivate_within rfl ?_
    exact Within.refl
  · exact Within.refl

theorem execCmdFwActivateNow_within {env a s} :
    WithinX 0x389283e2ab060f4227801fff36021f0307000d7c987e s (execCmdFwActivateNow env a s) := by
  unfold execCmdFwActivateNow
  refine WithinX.app (onRing_within rfl ?_) (sub_self _) ?_
  · intro x1 x2 x3 t4
    refine Within2.app cmdFwActivate_within rfl ?_
    exact Within.refl
  · exact Within.refl

theorem execCmdKeyInstallOwner_within {env a s} :
    WithinX 0x389283e2ab060f4227801fff36fffff307000d7c987e s (execCmdKeyInstallOwner env a s) := by
  unfold execCmdKeyInstallOwner
  refine WithinX.app (onRing_within rfl ?_) (sub_self _) ?_
  · intro x1 x2 x3 t4
    refine Within2.app cmdKeyInstall_within rfl ?_
    exact Within.refl
  · exact Within.refl

theorem execCmdKeyInstallPartition_within {env a s} :
    WithinX 0x389283e2ab060f4227801fff36fffff307000d7c987e s (execCmdKeyInstallPartition env a s) := by
  unfold execCmdKeyInstallPartition
  refine WithinX.app (onRing_within rfl ?_) (sub_self _) ?_
  · intro x1 x2 x3 t4
    refine Within2.app cmdKeyInstall_within rfl ?_
    exact Within.refl
  · exact Within.refl

theorem execCmdKeyInstallFabric_within {env a s} :
    WithinX 0x389283e2ab060f4227801fff36fffff307000d7c987e s (execCmdKeyInstallFabric env a s) := by
  unfold execCmdKeyInstallFabric
  refine WithinX.app (onRing_within rfl ?_) (sub_self _) ?_
  · intro x1 x2 x3 t4
    refine Within2.app cmdKeyInstall_within rfl ?_
    exact Within.refl
  · exact Within.refl

theorem execCmdKeyZeroizePartition_within {env a s} :
    WithinX 0x389283e2ab060f4227801fff36fffff307000d7c987e s (execCmdKeyZeroizePartition env a s) := by
  unfold execCmdKeyZeroizePartition
  refine WithinX.app (onRing_within rfl ?_) (sub_self _) ?_
  · intro x1 x2 x3 t4
    refine Within2.app cmdKeyInstall_within rfl ?_
    exact Within.refl
  · exact Within.refl

theorem execCmdKeyZeroizeFabric_within {env a s} :
    WithinX 0x389283e2ab060f4227801fff36fffff307000d7c987e s (execCmdKeyZeroizeFabric env a s) := by
  unfold execCmdKeyZeroizeFabric
  refine WithinX.app (onRing_within rfl ?_) (sub_self _) ?_
  · intro x1 x2 x3 t4
    refine Within2.app cmdKeyInstall_within rfl ?_
    exact Within.refl
  · exact Within.refl

theorem execCmdKeyZeroizeAll_within {env a s} :
    WithinX 0x389283e2ab060f4227801fff36fffff307000d7c987e s (execCmdKeyZeroizeAll env a s) := by
  unfold execCmdKeyZeroizeAll
  refine WithinX.app (onRing_within rfl ?_) (sub_self _) ?_
  · intro x1 x2 x3 t4
    refine Within2.app cmdKeyInstall_within rfl ?_
    exact Within.refl
  · exact Within.refl

theorem execCmdFaultClear_within {env a s} : WithinX 0x389283e2ab060f4227801fff36021f0307000d7c987e s (execCmdFaultClear env a s) := by
  unfold execCmdFaultClear
  refine WithinX.app (onRing_within rfl ?_) (sub_self _) ?_
  · intro x1 x2 x3 t4
    refine Within2.app cmdFaultClear_within rfl ?_
    exact Within.refl
  · exact Within.refl

theorem refuseOutside_within {chan op status a s} : Within 0x1fff02001f02000000000006 s (refuseOutside chan op status a s) := by
  unfold refuseOutside
  extract_lets v1 v2
  have hv1 : Within 0x1fff02001f02000000000006 s v1 := by
    unfold v1
    refine Within.app cmdErr_within rfl ?_
    exact Within.refl
  clear_value v1
  refine Within.app answer_within rfl ?_
  exact hv1

theorem runOutside_within {chan mid op env a s} :
    Within 0x389283e2ab060f4227801fff36021f0307000d7c987e s (runOutside chan mid op env a s) := by
  unfold runOutside
  extract_lets v1 v2
  refine Within.ite ?_ ?_
  · refine Within.app refuseOutside_within rfl ?_
    exact Within.refl
  · refine Within.app outsideGo_within rfl ?_
    refine Within.upd (e := s) ?_ rfl rfl rfl rfl rfl rfl rfl rfl
    exact Within.refl

theorem execMctpCommand_within {op seq a env s} :
    WithinX 0x389283e2ab060f4227801fff36021f0307000d7c987e s (execMctpCommand op seq a env s) := by
  unfold execMctpCommand
  refine WithinX.next ?_
  refine Within.trans ?_ (whenRunning_within rfl ?_)
  · exact Within.refl
  · intro t1
    extract_lets v2
    refine Within.ite ?_ ?_
    · refine Within.app refuseOutside_within rfl ?_
      exact Within.refl
    · refine Within.ite ?_ ?_
      · refine Within.app refuseOutside_within rfl ?_
        exact Within.refl
      · refine Within.app runOutside_within rfl ?_
        exact Within.refl

theorem execCommandPacketArrival_within {src seq op a tagOk env s} :
    WithinX 0x389283e2ab060f4227801fff36021f0307000d7c987e s (execCommandPacketArrival src seq op a tagOk env s) := by
  unfold execCommandPacketArrival
  refine WithinX.next ?_
  refine Within.trans ?_ (whenRunning_within rfl ?_)
  · exact Within.refl
  · intro t1
    refine Within.ite ?_ ?_
    · refine Within.app runOutside_within rfl ?_
      exact Within.refl
    · refine Within.app State.count_within rfl ?_
      exact Within.refl

theorem dropRemote_within {r s} : Within 0x800000000000000000000 s (dropRemote r s) := by
  unfold dropRemote
  refine Within.upd (e := s) ?_ rfl rfl rfl rfl rfl rfl rfl rfl
  exact Within.refl

theorem execRemoteStatusArrival_within {src seq ws tagOk s} :
    WithinX 0x1fff02001f02000000000006 s (execRemoteStatusArrival src seq ws tagOk s) := by
  unfold execRemoteStatusArrival
  refine WithinX.next ?_
  refine Within.trans ?_ (whenRunning_within rfl ?_)
  · exact Within.refl
  · intro t1
    split
    · rename_i x2 h3
      refine Within.app State.count_within rfl ?_
      exact Within.refl
    · rename_i x4 x5 h6
      refine Within.ite ?_ ?_
      · refine Within.app State.count_within rfl ?_
        exact Within.refl
      · extract_lets v7 v8 v9
        have hv8 : Within 0x1fff02001f02000000000006 t1 v8 := by
          unfold v8
          refine Within.app dropRemote_within rfl ?_
          exact Within.refl
        clear_value v8
        have hv9 : Within 0x1fff02001f02000000000006 t1 v9 := by
          unfold v9
          refine Within.ite ?_ ?_
          · exact hv8
          · refine Within.app cmdErr_within rfl ?_
            exact hv8
        clear_value v9
        refine Within.app answer_within rfl ?_
        exact hv9

theorem execRemoteCommandTimeout_within {seq s} : WithinX 0x1fff02001f02000000000036 s (execRemoteCommandTimeout seq s) := by
  unfold execRemoteCommandTimeout
  refine WithinX.next ?_
  refine Within.trans ?_ (whenRunning_within rfl ?_)
  · exact Within.refl
  · intro t1
    split
    · rename_i x2 h3
      exact Within.refl
    · rename_i x4 x5 h6
      extract_lets v7 v8
      have hv7 : Within 0x1fff02001f02000000000036 t1 v7 := by
        unfold v7
        refine Within.app cmdErr_within rfl ?_
        refine Within.app dropRemote_within rfl ?_
        refine Within.app State.advanceTo_within rfl ?_
        exact Within.refl
      clear_value v7
      refine Within.app answer_within rfl ?_
      exact hv7

end Sys2Proof.Machine
end

