-- ==== Sys2Proof/Laws/WithinStep.lean ====
section
/-! SUPPORT. What each operation of Machine/Posted.lean, Machine/Step.lean can do, as one lemma
of the form of Laws/Within.lean. The numeral is the set of parts it may change. -/

namespace Sys2Proof.Machine

theorem posted_within {port w s} : Within 0x383007f7bff68f4e6fffbfff02011f0f04000d40003e s (posted port w s) := by
  unfold posted
  refine Within.ite ?_ ?_
  · refine Within.app stallWrite_within rfl ?_
    refine Within.app wakeDomain_within rfl ?_
    exact Within.refl
  · refine Within.ite ?_ ?_
    · refine Within.app stallWrite_within rfl ?_
      exact Within.refl
    · split
      · rename_i x1 x2 x3 x4 x5 x6
        refine Within.app bar2Write_within rfl ?_
        exact Within.refl
      · rename_i x7 x8 x9 x10 x11
        refine Within.ite ?_ ?_
        · refine Within.app bar4Write_within rfl ?_
          exact Within.refl
        · refine Within.app bar0Write_within rfl ?_
          exact Within.refl

theorem stalledGo_within {s} : Within 0x383007f7bff68f4e6fffbfff02011f0f04000d40003e s (stalledGo s) := by
  unfold stalledGo
  refine Within.trans ?_ (whenRunning_within rfl ?_)
  · exact Within.refl
  · intro t1
    extract_lets v2 v3
    refine Within.foldl ?_ ?_
    · intro t4 x5
      refine Within.app posted_within rfl ?_
      exact Within.refl
    · refine Within.upd (e := t1) ?_ rfl rfl rfl rfl rfl rfl rfl rfl
      exact Within.refl

theorem postedWrite_within {port w s} : Within 0x383007f7bff68f4e6fffbfff02011f0f04000d40003e s (postedWrite port w s) := by
  unfold postedWrite
  refine Within.trans ?_ (whenRunning_within rfl ?_)
  · exact Within.refl
  · intro t1
    refine Within.app posted_within rfl ?_
    refine Within.app stalledGo_within rfl ?_
    exact Within.refl

theorem execDomainExitComplete_within {dom s} :
    WithinX 0x383407f7bff69f4e7fffbfff02011f0f04000d40003e s (execDomainExitComplete dom s) := by
  unfold execDomainExitComplete
  refine WithinX.next ?_
  refine Within.trans ?_ (whenFab_within rfl ?_)
  · exact Within.refl
  · intro t1
    split
    · rename_i x2 h3
      exact Within.refl
    · rename_i x4 x5 h6
      refine Within.ite ?_ ?_
      · exact Within.refl
      · extract_lets v7 v8
        have hv7 : Within 0x383407f7bff69f4e7fffbfff02011f0f04000d40003e t1 v7 := by
          unfold v7
          refine Within.app invalsGo_within rfl ?_
          refine Within.app sleepersGo_within rfl ?_
          refine Within.app portsRelease_within rfl ?_
          refine Within.app domainOnAgain_within rfl ?_
          exact Within.refl
        clear_value v7
        refine Within.app stalledGo_within rfl ?_
        refine Within.app settle_within rfl ?_
        refine Within.foldl ?_ ?_
        · intro t9 x10
          refine Within.app fetchGo_within rfl ?_
          exact Within.refl
        · exact hv7

theorem doorbellRow_within {op port fn page offset v s} :
    WithinX 0x383007f7bff68f4e6fffbfff02011f0f04000d40003e s (doorbellRow op port fn page offset v s) := by
  unfold doorbellRow
  refine WithinX.app (onInstance_within rfl ?_) (sub_self _) ?_
  · intro x1 t2
    refine Within.app postedWrite_within rfl ?_
    exact Within.refl
  · exact Within.refl

theorem execDoorbellProduce_within {port fn page offset value s} :
    WithinX 0x383007f7bff68f4e6fffbfff02011f0f04000d40003e s (execDoorbellProduce port fn page offset value s) := by
  unfold execDoorbellProduce
  refine WithinX.app doorbellRow_within rfl ?_
  exact Within.refl

theorem execDoorbellConsume_within {port fn page offset value s} :
    WithinX 0x383007f7bff68f4e6fffbfff02011f0f04000d40003e s (execDoorbellConsume port fn page offset value s) := by
  unfold execDoorbellConsume
  refine WithinX.app doorbellRow_within rfl ?_
  exact Within.refl

theorem execDoorbellArm_within {port fn page offset value s} :
    WithinX 0x383007f7bff68f4e6fffbfff02011f0f04000d40003e s (execDoorbellArm port fn page offset value s) := by
  unfold execDoorbellArm
  refine WithinX.app doorbellRow_within rfl ?_
  exact Within.refl

theorem execDoorbellArmSolicited_within {port fn page offset value s} :
    WithinX 0x383007f7bff68f4e6fffbfff02011f0f04000d40003e s (execDoorbellArmSolicited port fn page offset value s) := by
  unfold execDoorbellArmSolicited
  refine WithinX.app doorbellRow_within rfl ?_
  exact Within.refl

theorem execBar2WriteRefused_within {port fn page offset len value s} :
    WithinX 0x383007f7bff68f4e6fffbfff02011f0f04000d40003e s (execBar2WriteRefused port fn page offset len value s) := by
  unfold execBar2WriteRefused
  refine WithinX.app (onInstance_within rfl ?_) (sub_self _) ?_
  · intro x1 t2
    refine Within.app postedWrite_within rfl ?_
    exact Within.refl
  · exact Within.refl

theorem execContextFetchComplete_within {qid eccError s} :
    WithinX 0x383007f7bff68f4e6fffbfff02011f0f04000d40003e s (execContextFetchComplete qid eccError s) := by
  unfold execContextFetchComplete
  refine WithinX.next ?_
  refine Within.app stalledGo_within rfl ?_
  refine Within.trans ?_ (trnStep_within rfl ?_)
  · exact Within.refl
  · intro t1
    refine Within.app contextFetched_within rfl ?_
    exact Within.refl

theorem bar0_within {port fn off len v s} : WithinX 0x383007f7bff68f4e6fffbfff02011f0f04000d40003e s (bar0 port fn off len v s) := by
  unfold bar0
  refine WithinX.app (onInstance_within rfl ?_) (sub_self _) ?_
  · intro x1 t2
    refine Within.app postedWrite_within rfl ?_
    exact Within.refl
  · exact Within.refl

theorem execRegisterWrite_within {port fn off len value s} :
    WithinX 0x383007f7bff68f4e6fffbfff02011f0f04000d40003e s (execRegisterWrite port fn off len value s) := by
  unfold execRegisterWrite
  refine WithinX.app bar0_within rfl ?_
  exact Within.refl

theorem execShadowViewWrite_within {port fn off len value s} :
    WithinX 0x383007f7bff68f4e6fffbfff02011f0f04000d40003e s (execShadowViewWrite port fn off len value s) := by
  unfold execShadowViewWrite
  refine WithinX.app bar0_within rfl ?_
  exact Within.refl

theorem writeOf_within {r inst k port fn v s} :
    WithinX 0x383007f7bff68f4e6fffbfff02011f0f04000d40003e s (writeOf r inst k port fn v s) := by
  unfold writeOf
  refine WithinX.app bar0_within rfl ?_
  exact Within.refl

theorem execCmdPiWrite_within {port fn value s} :
    WithinX 0x383007f7bff68f4e6fffbfff02011f0f04000d40003e s (execCmdPiWrite port fn value s) := by
  unfold execCmdPiWrite
  refine WithinX.app writeOf_within rfl ?_
  exact Within.refl

theorem execCmdRingEnable_within {port fn value s} :
    WithinX 0x383007f7bff68f4e6fffbfff02011f0f04000d40003e s (execCmdRingEnable port fn value s) := by
  unfold execCmdRingEnable
  refine WithinX.app writeOf_within rfl ?_
  exact Within.refl

theorem execQmgEqCiWrite_within {port fn q value s} :
    WithinX 0x383007f7bff68f4e6fffbfff02011f0f04000d40003e s (execQmgEqCiWrite port fn q value s) := by
  unfold execQmgEqCiWrite
  split
  rename_i x1 x2 t3 h4
  have ht3 : Within 0x383007f7bff68f4e6fffbfff02011f0f04000d40003e s t3 := by
    refine Within2.of h4 ?_
    refine Within2.app pickOf_within rfl ?_
    exact Within.refl
  refine WithinX.app writeOf_within rfl ?_
  exact ht3

theorem execQsampleClear_within {port fn value s} :
    WithinX 0x383007f7bff68f4e6fffbfff02011f0f04000d40003e s (execQsampleClear port fn value s) := by
  unfold execQsampleClear
  refine WithinX.app writeOf_within rfl ?_
  exact Within.refl

theorem execHifLinkRetrain_within {port fn host value s} :
    WithinX 0x383007f7bff68f4e6fffbfff02011f0f04000d40003e s (execHifLinkRetrain port fn host value s) := by
  unfold execHifLinkRetrain
  split
  rename_i x1 x2 t3 h4
  have ht3 : Within 0x383007f7bff68f4e6fffbfff02011f0f04000d40003e s t3 := by
    refine Within2.of h4 ?_
    refine Within2.app instOf_within rfl ?_
    exact Within.refl
  refine WithinX.app writeOf_within rfl ?_
  exact ht3

theorem execRteExcAdd_within {port fn value s} :
    WithinX 0x383007f7bff68f4e6fffbfff02011f0f04000d40003e s (execRteExcAdd port fn value s) := by
  unfold execRteExcAdd
  refine WithinX.app writeOf_within rfl ?_
  exact Within.refl

theorem execRteExcDel_within {port fn value s} :
    WithinX 0x383007f7bff68f4e6fffbfff02011f0f04000d40003e s (execRteExcDel port fn value s) := by
  unfold execRteExcDel
  refine WithinX.app writeOf_within rfl ?_
  exact Within.refl

theorem execEyeMeasureStart_within {port fn lane value s} :
    WithinX 0x383007f7bff68f4e6fffbfff02011f0f04000d40003e s (execEyeMeasureStart port fn lane value s) := by
  unfold execEyeMeasureStart
  split
  rename_i x1 x2 t3 h4
  have ht3 : Within 0x383007f7bff68f4e6fffbfff02011f0f04000d40003e s t3 := by
    refine Within2.of h4 ?_
    refine Within2.app instOf_within rfl ?_
    exact Within.refl
  refine WithinX.app writeOf_within rfl ?_
  exact ht3

theorem execInjOnce_within {port fn lane value s} :
    WithinX 0x383007f7bff68f4e6fffbfff02011f0f04000d40003e s (execInjOnce port fn lane value s) := by
  unfold execInjOnce
  split
  rename_i x1 x2 t3 h4
  have ht3 : Within 0x383007f7bff68f4e6fffbfff02011f0f04000d40003e s t3 := by
    refine Within2.of h4 ?_
    refine Within2.app instOf_within rfl ?_
    exact Within.refl
  refine WithinX.app writeOf_within rfl ?_
  exact ht3

theorem execClkDtimeSetWrite_within {port fn value s} :
    WithinX 0x383007f7bff68f4e6fffbfff02011f0f04000d40003e s (execClkDtimeSetWrite port fn value s) := by
  unfold execClkDtimeSetWrite
  refine WithinX.app writeOf_within rfl ?_
  exact Within.refl

theorem execWarmResetRequest_within {port fn value s} :
    WithinX 0x383007f7bff68f4e6fffbfff02011f0f04000d40003e s (execWarmResetRequest port fn value s) := by
  unfold execWarmResetRequest
  refine WithinX.app writeOf_within rfl ?_
  exact Within.refl

theorem execSecLockWrite_within {port fn value s} :
    WithinX 0x383007f7bff68f4e6fffbfff02011f0f04000d40003e s (execSecLockWrite port fn value s) := by
  unfold execSecLockWrite
  refine WithinX.app writeOf_within rfl ?_
  exact Within.refl

theorem execAuditAdvance_within {port fn value s} :
    WithinX 0x383007f7bff68f4e6fffbfff02011f0f04000d40003e s (execAuditAdvance port fn value s) := by
  unfold execAuditAdvance
  refine WithinX.app writeOf_within rfl ?_
  exact Within.refl

theorem execMemtestStart_within {port fn value s} :
    WithinX 0x383007f7bff68f4e6fffbfff02011f0f04000d40003e s (execMemtestStart port fn value s) := by
  unfold execMemtestStart
  refine WithinX.app writeOf_within rfl ?_
  exact Within.refl

theorem execCntSampleCiWrite_within {port fn value s} :
    WithinX 0x383007f7bff68f4e6fffbfff02011f0f04000d40003e s (execCntSampleCiWrite port fn value s) := by
  unfold execCntSampleCiWrite
  refine WithinX.app writeOf_within rfl ?_
  exact Within.refl

theorem execCntSampleEnable_within {port fn value s} :
    WithinX 0x383007f7bff68f4e6fffbfff02011f0f04000d40003e s (execCntSampleEnable port fn value s) := by
  unfold execCntSampleEnable
  refine WithinX.app writeOf_within rfl ?_
  exact Within.refl

theorem idle_within {s} : Within 0x389283e2ab060f4227801fff36021f0f07100d7c987e s (idle s) := by
  unfold idle
  refine Within.trans ?_ (whenFab_within rfl ?_)
  · refine Within.trans ?_ (whenRunning_within rfl ?_)
    · refine Within.app State.advance_within rfl ?_
      exact Within.refl
    · intro t1
      refine Within.app tickWork_within rfl ?_
      exact Within.refl
  · intro t2
    refine Within.app predictor_within rfl ?_
    exact Within.refl

theorem exec_within {i s} : WithinX 0x3ffffffffffffffffffffffffffffffffffffffffffe s (exec i s) := by
  unfold exec
  split
  · exact WithinX.app execCmdNop_within rfl Within.refl
  · exact WithinX.app execCmdQuery_within rfl Within.refl
  · exact WithinX.app execCmdEndpointConfig_within rfl Within.refl
  · exact WithinX.app execCmdPartitionCreate_within rfl Within.refl
  · exact WithinX.app execCmdPartitionDestroy_within rfl Within.refl
  · exact WithinX.app execCmdAsidCreate_within rfl Within.refl
  · exact WithinX.app execCmdAsidDestroy_within rfl Within.refl
  · exact WithinX.app execCmdQueueCreate_within rfl Within.refl
  · exact WithinX.app execCmdQueueModifyAttributes_within rfl Within.refl
  · exact WithinX.app execCmdQueueModifyStop_within rfl Within.refl
  · exact WithinX.app execCmdQueueModifyStart_within rfl Within.refl
  · exact WithinX.app execCmdQueueModifyRecover_within rfl Within.refl
  · exact WithinX.app execCmdQueueDestroy_within rfl Within.refl
  · exact WithinX.app execCmdQueueEvict_within rfl Within.refl
  · exact WithinX.app execCmdRegionRegister_within rfl Within.refl
  · exact WithinX.app execCmdRegionDeregister_within rfl Within.refl
  · exact WithinX.app execCmdXltInval_within rfl Within.refl
  · exact WithinX.app execCmdMatchContextCreate_within rfl Within.refl
  · exact WithinX.app execCmdMatchContextDestroy_within rfl Within.refl
  · exact WithinX.app execCmdChorusCreate_within rfl Within.refl
  · exact WithinX.app execCmdChorusDestroy_within rfl Within.refl
  · exact WithinX.app execCmdLockAlloc_within rfl Within.refl
  · exact WithinX.app execCmdLockAllocVariables_within rfl Within.refl
  · exact WithinX.app execCmdLockFree_within rfl Within.refl
  · exact WithinX.app execCmdLockFreeForce_within rfl Within.refl
  · exact WithinX.app execCmdLockFreeVariables_within rfl Within.refl
  · exact WithinX.app execCmdGateWrite_within rfl Within.refl
  · exact WithinX.app execCmdShadowLoad_within rfl Within.refl
  · exact WithinX.app execCmdHinge_within rfl Within.refl
  · exact WithinX.app execCmdHingeValidateOnly_within rfl Within.refl
  · exact WithinX.app execCmdPortFence_within rfl Within.refl
  · exact WithinX.app execCmdPortUnfence_within rfl Within.refl
  · exact WithinX.app execCmdPortTest_within rfl Within.refl
  · exact WithinX.app execCmdPortTestStop_within rfl Within.refl
  · exact WithinX.app execCmdLaneTest_within rfl Within.refl
  · exact WithinX.app execCmdLaneTestStop_within rfl Within.refl
  · exact WithinX.app execCmdEngineRetire_within rfl Within.refl
  · exact WithinX.app execCmdEngineRestore_within rfl Within.refl
  · exact WithinX.app execCmdMemChannelRetire_within rfl Within.refl
  · exact WithinX.app execCmdCounterDumpConfig_within rfl Within.refl
  · exact WithinX.app execCmdFwStage_within rfl Within.refl
  · exact WithinX.app execCmdFwActivate_within rfl Within.refl
  · exact WithinX.app execCmdFwActivateNow_within rfl Within.refl
  · exact WithinX.app execCmdKeyInstallOwner_within rfl Within.refl
  · exact WithinX.app execCmdKeyInstallPartition_within rfl Within.refl
  · exact WithinX.app execCmdKeyInstallFabric_within rfl Within.refl
  · exact WithinX.app execCmdKeyZeroizePartition_within rfl Within.refl
  · exact WithinX.app execCmdKeyZeroizeFabric_within rfl Within.refl
  · exact WithinX.app execCmdKeyZeroizeAll_within rfl Within.refl
  · exact WithinX.app execCmdFaultClear_within rfl Within.refl
  · exact WithinX.app execCmdPiWrite_within rfl Within.refl
  · exact WithinX.app execCmdRingEnable_within rfl Within.refl
  · exact WithinX.app execMctpCommand_within rfl Within.refl
  · exact WithinX.app execMctpWarmResetRequest_within rfl Within.refl
  · exact WithinX.app execMctpFirmwareImage_within rfl Within.refl
  · exact WithinX.app execCommandPacketArrival_within rfl Within.refl
  · exact WithinX.app execRemoteStatusArrival_within rfl Within.refl
  · exact WithinX.app execRemoteCommandTimeout_within rfl Within.refl
  · exact WithinX.app execDoorbellProduce_within rfl Within.refl
  · exact WithinX.app execDoorbellConsume_within rfl Within.refl
  · exact WithinX.app execDoorbellArm_within rfl Within.refl
  · exact WithinX.app execDoorbellArmSolicited_within rfl Within.refl
  · exact WithinX.app execBar2WriteRefused_within rfl Within.refl
  · exact WithinX.app execPrefetchReadComplete_within rfl Within.refl
  · exact WithinX.app execRefetchGapExpiry_within rfl Within.refl
  · exact WithinX.app execJobDispatch_within rfl Within.refl
  · exact WithinX.app execNop_within rfl Within.refl
  · exact WithinX.app execSend_within rfl Within.refl
  · exact WithinX.app execTsend_within rfl Within.refl
  · exact WithinX.app execPut_within rfl Within.refl
  · exact WithinX.app execGet_within rfl Within.refl
  · exact WithinX.app execAtomic_within rfl Within.refl
  · exact WithinX.app execRecv_within rfl Within.refl
  · exact WithinX.app execTrecv_within rfl Within.refl
  · exact WithinX.app execTcancel_within rfl Within.refl
  · exact WithinX.app execChorus_within rfl Within.refl
  · exact WithinX.app execLockAcquire_within rfl Within.refl
  · exact WithinX.app execLockRelease_within rfl Within.refl
  · exact WithinX.app execEthernetFrameTransmit_within rfl Within.refl
  · exact WithinX.app execQmgEqCiWrite_within rfl Within.refl
  · exact WithinX.app execContextEvictionStart_within rfl Within.refl
  · exact WithinX.app execContextEvictionComplete_within rfl Within.refl
  · exact WithinX.app execContextFetchComplete_within rfl Within.refl
  · exact WithinX.app execPeerFetchComplete_within rfl Within.refl
  · exact WithinX.app execCqStallTimeout_within rfl Within.refl
  · exact WithinX.app execDataPacketArrival_within rfl Within.refl
  · exact WithinX.app execResultArrival_within rfl Within.refl
  · exact WithinX.app execResultAckArrival_within rfl Within.refl
  · exact WithinX.app execResultRetxExpiry_within rfl Within.refl
  · exact WithinX.app execJoinTimeout_within rfl Within.refl
  · exact WithinX.app execChunkReduction_within rfl Within.refl
  · exact WithinX.app execAckArrival_within rfl Within.refl
  · exact WithinX.app execNackArrival_within rfl Within.refl
  · exact WithinX.app execNotNowArrival_within rfl Within.refl
  · exact WithinX.app execRefuseArrival_within rfl Within.refl
  · exact WithinX.app execResyncArrival_within rfl Within.refl
  · exact WithinX.app execOpenReqArrival_within rfl Within.refl
  · exact WithinX.app execOpenAckArrival_within rfl Within.refl
  · exact WithinX.app execOpenNakArrival_within rfl Within.refl
  · exact WithinX.app execOpenTimeout_within rfl Within.refl
  · exact WithinX.app execCloseReqArrival_within rfl Within.refl
  · exact WithinX.app execCloseAckArrival_within rfl Within.refl
  · exact WithinX.app execCloseNakArrival_within rfl Within.refl
  · exact WithinX.app execCloseTimeout_within rfl Within.refl
  · exact WithinX.app execRetransmitTimeout_within rfl Within.refl
  · exact WithinX.app execAckDelayExpiry_within rfl Within.refl
  · exact WithinX.app execNackDelayExpiry_within rfl Within.refl
  · exact WithinX.app execNotNowBackoffExpiry_within rfl Within.refl
  · exact WithinX.app execUnreachTimeout_within rfl Within.refl
  · exact WithinX.app execMtcUnexpTimeout_within rfl Within.refl
  · exact WithinX.app execDeregTimeout_within rfl Within.refl
  · exact WithinX.app execTimingWheelDue_within rfl Within.refl
  · exact WithinX.app execPolicerDeferRelease_within rfl Within.refl
  · exact WithinX.app execCcIncreasePeriod_within rfl Within.refl
  · exact WithinX.app execQueueSamplePeriod_within rfl Within.refl
  · exact WithinX.app execQsampleClear_within rfl Within.refl
  · exact WithinX.app execPageTableReadComplete_within rfl Within.refl
  · exact WithinX.app execAdUpdateCasComplete_within rfl Within.refl
  · exact WithinX.app execInvalidationAcknowledged_within rfl Within.refl
  · exact WithinX.app execHostAtomicopComplete_within rfl Within.refl
  · exact WithinX.app execHostReadComplete_within rfl Within.refl
  · exact WithinX.app execCompletionTimeout_within rfl Within.refl
  · exact WithinX.app execPoisonedWriteReceived_within rfl Within.refl
  · exact WithinX.app execHifSemAtomicop_within rfl Within.refl
  · exact WithinX.app execFunctionLevelReset_within rfl Within.refl
  · exact WithinX.app execVfEnableClear_within rfl Within.refl
  · exact WithinX.app execPerstAssert_within rfl Within.refl
  · exact WithinX.app execHotReset_within rfl Within.refl
  · exact WithinX.app execHifLinkDown_within rfl Within.refl
  · exact WithinX.app execFlrDrainEnd_within rfl Within.refl
  · exact WithinX.app execFlrDrainLimit_within rfl Within.refl
  · exact WithinX.app execHifLinkRetrain_within rfl Within.refl
  · exact WithinX.app execSpdmRequest_within rfl Within.refl
  · exact WithinX.app execSwitchPacketArrival_within rfl Within.refl
  · exact WithinX.app execSharedPoolTransfer_within rfl Within.refl
  · exact WithinX.app execEscapeWaitExpiry_within rfl Within.refl
  · exact WithinX.app execEgressFrameStart_within rfl Within.refl
  · exact WithinX.app execResidueTimeout_within rfl Within.refl
  · exact WithinX.app execAuditPass_within rfl Within.refl
  · exact WithinX.app execCvecPeriodExpiry_within rfl Within.refl
  · exact WithinX.app execCvecArrival_within rfl Within.refl
  · exact WithinX.app execMapPeriodExpiry_within rfl Within.refl
  · exact WithinX.app execRteExcAdd_within rfl Within.refl
  · exact WithinX.app execRteExcDel_within rfl Within.refl
  · exact WithinX.app execLinkDataFrameReceive_within rfl Within.refl
  · exact WithinX.app execLinkAckReceive_within rfl Within.refl
  · exact WithinX.app execReplayReqReceive_within rfl Within.refl
  · exact WithinX.app execMarkerBlockReceive_within rfl Within.refl
  · exact WithinX.app execLinkReplayTimeout_within rfl Within.refl
  · exact WithinX.app execReplayReqResend_within rfl Within.refl
  · exact WithinX.app execStandaloneAckIdle_within rfl Within.refl
  · exact WithinX.app execCreditTimeout_within rfl Within.refl
  · exact WithinX.app execErrorWindowLimit_within rfl Within.refl
  · exact WithinX.app execInitReceive_within rfl Within.refl
  · exact WithinX.app execInitAckReceive_within rfl Within.refl
  · exact WithinX.app execInitSendTimer_within rfl Within.refl
  · exact WithinX.app execGraceExpiry_within rfl Within.refl
  · exact WithinX.app execEthernetFrameReceive_within rfl Within.refl
  · exact WithinX.app execPfcFrameReceive_within rfl Within.refl
  · exact WithinX.app execPfcRefresh_within rfl Within.refl
  · exact WithinX.app execTrainingFrameReceive_within rfl Within.refl
  · exact WithinX.app execPortLockFormed_within rfl Within.refl
  · exact WithinX.app execPortLockLoss_within rfl Within.refl
  · exact WithinX.app execDegradeWaitExpiry_within rfl Within.refl
  · exact WithinX.app execRejoinWaitExpiry_within rfl Within.refl
  · exact WithinX.app execLaneLockLoss_within rfl Within.refl
  · exact WithinX.app execLaneSignalLoss_within rfl Within.refl
  · exact WithinX.app execQuietHoldExpiry_within rfl Within.refl
  · exact WithinX.app execFastTmoExpiry_within rfl Within.refl
  · exact WithinX.app execFullTmoExpiry_within rfl Within.refl
  · exact WithinX.app execQuietIdleExpiry_within rfl Within.refl
  · exact WithinX.app execQuietWake_within rfl Within.refl
  · exact WithinX.app execEyeMeasureStart_within rfl Within.refl
  · exact WithinX.app execEyeMeasureDone_within rfl Within.refl
  · exact WithinX.app execInjOnce_within rfl Within.refl
  · exact WithinX.app execLeaveGrant_within rfl Within.refl
  · exact WithinX.app execNoticeHoldExpiry_within rfl Within.refl
  · exact WithinX.app execArbAgeExpiry_within rfl Within.refl
  · exact WithinX.app execPredictorExitStart_within rfl Within.refl
  · exact WithinX.app execDomainExitComplete_within rfl Within.refl
  · exact WithinX.app execActivityDecayExpiry_within rfl Within.refl
  · exact WithinX.app execBcaCodeChange_within rfl Within.refl
  · exact WithinX.app execPowerFloorStep_within rfl Within.refl
  · exact WithinX.app execPwrBudgetViolation_within rfl Within.refl
  · exact WithinX.app execThermFloorStep_within rfl Within.refl
  · exact WithinX.app execThermTrip_within rfl Within.refl
  · exact WithinX.app execPwrRailFault_within rfl Within.refl
  · exact WithinX.app execRefclkPresent_within rfl Within.refl
  · exact WithinX.app execClkRefLost_within rfl Within.refl
  · exact WithinX.app execRefclkReturn_within rfl Within.refl
  · exact WithinX.app execClockJudgedGood_within rfl Within.refl
  · exact WithinX.app execClkOutOfWindow_within rfl Within.refl
  · exact WithinX.app execTimeExchangePeriod_within rfl Within.refl
  · exact WithinX.app execDelayReqReceive_within rfl Within.refl
  · exact WithinX.app execDelayRespReceive_within rfl Within.refl
  · exact WithinX.app execTimeHoldover_within rfl Within.refl
  · exact WithinX.app execClkDtimeSetWrite_within rfl Within.refl
  · exact WithinX.app execPowerOnReset_within rfl Within.refl
  · exact WithinX.app execColdReset_within rfl Within.refl
  · exact WithinX.app execColdStart_within rfl Within.refl
  · exact WithinX.app execWarmResetRequest_within rfl Within.refl
  · exact WithinX.app execWarmQuiesceDone_within rfl Within.refl
  · exact WithinX.app execWarmRestore_within rfl Within.refl
  · exact WithinX.app execEndpointResume_within rfl Within.refl
  · exact WithinX.app execShadowRetireComplete_within rfl Within.refl
  · exact WithinX.app execShadowViewWrite_within rfl Within.refl
  · exact WithinX.app execRegisterWrite_within rfl Within.refl
  · exact WithinX.app execSecLockWrite_within rfl Within.refl
  · exact WithinX.app execAuditAdvance_within rfl Within.refl
  · exact WithinX.app execDebugUnlock_within rfl Within.refl
  · exact WithinX.app execSecTamper_within rfl Within.refl
  · exact WithinX.app execSecKeyIntegrity_within rfl Within.refl
  · exact WithinX.app execEngineWatchdogExpiry_within rfl Within.refl
  · exact WithinX.app execMgcHang_within rfl Within.refl
  · exact WithinX.app execMemAutoRetire_within rfl Within.refl
  · exact WithinX.app execMemMigrationComplete_within rfl Within.refl
  · exact WithinX.app execMemtestStart_within rfl Within.refl
  · exact WithinX.app execMemtestDone_within rfl Within.refl
  · exact WithinX.app execSramBistRotation_within rfl Within.refl
  · exact WithinX.app execCounterSnapshot_within rfl Within.refl
  · exact WithinX.app execDumpWriteComplete_within rfl Within.refl
  · exact WithinX.app execSampleCrossing_within rfl Within.refl
  · exact WithinX.app execSampleCapture_within rfl Within.refl
  · exact WithinX.app execCntSampleCiWrite_within rfl Within.refl
  · exact WithinX.app execCntSampleEnable_within rfl Within.refl
  · exact WithinX.app execTelemetryArrival_within rfl Within.refl
  · exact WithinX.app execRailRestored_within rfl Within.refl
  · exact WithinX.app execPerstDeassert_within rfl Within.refl
  · exact WithinX.app execHifLinkTrained_within rfl Within.refl
  · exact WithinX.app execVfEnableSet_within rfl Within.refl
  · exact WithinX.app execPfcPauseExpiry_within rfl Within.refl
  · exact WithinX.app execEthernetPortDown_within rfl Within.refl
  · exact WithinX.app execMarkerBlockSend_within rfl Within.refl
  · exact WithinX.app execOpenBackoffExpiry_within rfl Within.refl

/-- A step takes a command off the queue, or lets a cycle pass, and keeps what `Within` says. -/
theorem step_within {s t : State} (h : step s = .next t) :
    Within 0x3ffffffffffffffffffffffffffffffffffffffffffe { s with pending := s.pending.tail } t := by
  unfold step at h
  split at h
  · rename_i e
    cases h
    have : s = { s with pending := s.pending.tail } := by
      cases s
      cases e
      rfl
    rw [← this]
    exact Within.weaken rfl idle_within
  · rename_i e
    rw [e]
    exact exec_within t h

end Sys2Proof.Machine
end

