-- ==== Sys2Proof/Machine/Package.lean ====
section
/-! DEFINITION. The ball map of the package: names, regions, lane balls, supplies and sideband signals (R555-R562). Rows and columns count
from 1. -/

namespace Sys2Proof.Machine

/-- The letters of row names (R555). -/
def rowLetters : List String := ["A", "B", "C", "D", "E", "F", "G", "H", "J", "K", "L", "M", "N", "P", "T", "U", "V", "W", "Y"]

/-- The name of a row (R555). -/
def rowName (r : Nat) : String :=
  let letter := fun i => (rowLetters[i]?).getD ""
  if r ≤ 19 then letter (r - 1) else letter ((r - 20) / 19) ++ letter ((r - 20) % 19)

/-- The name of a ball: its row and its column (R555). -/
def ballName (b : Nat × Nat) : String := rowName b.1 ++ toString b.2

/-- Row and column of side-local coordinates: sides 0 top, 1 right, 2 bottom, 3 left; p clockwise along the edge, u inward (R556). -/
def ballAt (side p u : Nat) : Nat × Nat :=
  match side with
  | 0 => (1 + u, p)
  | 1 => (p, 89 - u)
  | 2 => (89 - u, 90 - p)
  | _ => (90 - p, 1 + u)

/-- The side-local coordinates of a ball on a side, the inverse of R556. -/
def sideLocal (side : Nat) (b : Nat × Nat) : Nat × Nat :=
  match side with
  | 0 => (b.2, b.1 - 1)
  | 1 => (b.1, 89 - b.2)
  | 2 => (90 - b.2, 89 - b.1)
  | _ => (90 - b.1, b.2 - 1)

/-- The regions of the grid (R557). -/
inductive BallRegion where
  | tile (n : Nat)
  | host (n : Nat)
  | strip (side p u : Nat)
  | patch (side p u : Nat)
  | core
  deriving DecidableEq, Repr

/-- The region of a place in the outer band of a side, whose own part ends at p = 65 (R557). -/
def bandRegion (side p u : Nat) : BallRegion :=
  if p ≤ 24 then .tile (2 * side)
  else if 33 ≤ p ∧ p ≤ 56 then .tile (2 * side + 1)
  else if 26 ≤ p ∧ p ≤ 31 then if u ≤ 11 then .host (2 * side) else .patch side p u
  else if 58 ≤ p ∧ p ≤ 63 then if u ≤ 11 then .host (2 * side + 1) else .patch side p u
  else .strip side p u

/-- The region of a ball; the corner squares belong to the side on which they lie at p = 1 to 24 (R557). -/
def ballRegion (b : Nat × Nat) : BallRegion :=
  match (List.range 4).find? (fun s => decide ((sideLocal s b).2 ≤ 23) && decide ((sideLocal s b).1 ≤ 65)) with
  | some s => bandRegion s (sideLocal s b).1 (sideLocal s b).2
  | none => .core

/-- Place of a signal ball within a lane's cell: 0 TX_P, 1 TX_N, 2 RX_P, 3 RX_N (R558). -/
def cellBall (side p0 k width signal : Nat) : Nat × Nat :=
  ballAt side (p0 + 3 * (k % width) + signal % 2) (3 * (k / width) + 2 * (signal / 2))

/-- A ball of fabric lane FLm (R558). -/
def fabricBall (m signal : Nat) : Nat × Nat :=
  let t := m / 64
  cellBall (t / 2) (if t % 2 = 0 then 1 else 33) (m % 64) 8 signal

/-- A ball of host lane HLm (R558). -/
def hostBall (m signal : Nat) : Nat × Nat :=
  let h := m / 8
  cellBall (h / 2) (if h % 2 = 0 then 26 else 58) (m % 8) 2 signal

/-- The sideband signals and their balls (R562). -/
def sideband : List (String × String) :=
  [("REFCLK_P", "N26"), ("REFCLK_N", "N27"), ("CLKOUT", "N29"), ("TD_A", "N30"), ("TD_C", "N31"), ("RESET_N", "T26"), ("PWR_OK", "T27"),
    ("FAULT_N", "T28"), ("THERMTRIP_N", "T29"), ("TAMPER_N", "T30"), ("RAMP_N", "T31"), ("BCA0", "U26"), ("BCA1", "U27"), ("BCA2", "U28"),
    ("BOOT_SEL0", "U29"), ("BOOT_SEL1", "U30")]
    ++ (List.range 6).map (fun h => ("PERST_N" ++ toString h, "V" ++ toString (26 + h)))
    ++ [("PERST_N6", "W26"), ("PERST_N7", "W27"), ("I3C_SCL", "W28"), ("I3C_SDA", "W29"), ("QSPI_CLK", "Y26"), ("QSPI_CS_N", "Y27")]
    ++ (List.range 4).map (fun i => ("QSPI_IO" ++ toString i, "Y" ++ toString (28 + i)))
    ++ [("TCK", "AA26"), ("TMS", "AA27"), ("TDI", "AA28"), ("TDO", "AA29"), ("TRST_N", "AA30")]
    ++ (List.range 6).map (fun i => ("GPIO" ++ toString i, "AB" ++ toString (26 + i)))
    ++ (List.range 6).map (fun i => ("GPIO" ++ toString (i + 6), "AC" ++ toString (26 + i)))
    ++ (List.range 4).map (fun i => ("GPIO" ++ toString (i + 12), "AD" ++ toString (26 + i)))
    ++ [("VSENSE_CORE_P", "AD30"), ("VSENSE_CORE_N", "AD31")]

/-- What a strip or patch ball carries (R560). -/
def bandSupply (patch : Bool) (side p u : Nat) (name : String) : String :=
  if patch && side == 0 && decide (p ≤ 31) then ((sideband.find? (fun x => x.2 = name)).map (·.1)).getD "GND"
  else if (if patch then u + p else u) % 2 = 1 then "GND"
  else if patch then (if side = 0 then "VDD_IO" else "VDD_SER")
  else if p = 64 then "VDD_SERH" else "VDD_SER"

/-- The rail of a ball of the core field (R561). -/
def coreSupply (b : Nat × Nat) : String :=
  if (b.1 + b.2) % 2 = 1 then "GND"
  else if b.1 = 25 then (if 41 ≤ b.2 ∧ b.2 ≤ 49 then "VDD_AON" else "VPP_HBM")
  else if b.1 ≤ 31 then "VDD_HBMQ"
  else if b.1 ≤ 38 then "VDD_SRAM"
  else "VDD_CORE"

/-- A number with at least n digits. -/
def padded (n m : Nat) : String :=
  let d := toString m
  (List.replicate (n - d.length) "0").foldl (fun s z => z ++ s) d

/-- The signal of a lane that a ball of a lane block carries, else ground (R558). -/
def laneUse (prefix_ : String) (digits base n : Nat) (of : Nat → Nat → Nat × Nat) (b : Nat × Nat) : String :=
  let signal := fun g => (["_TX_P", "_TX_N", "_RX_P", "_RX_N"][g]?).getD ""
  (((List.range n).flatMap (fun k => (List.range 4).map (fun g => (base + k, g)))).find? (fun x => of x.1 x.2 = b)).elim "GND"
    (fun x => prefix_ ++ padded digits x.1 ++ signal x.2)

/-- What a ball of the grid carries (R557-R562). -/
def ballUse (b : Nat × Nat) : String :=
  match ballRegion b with
  | .tile n => laneUse "FL" 3 (64 * n) 64 fabricBall b
  | .host n => laneUse "HL" 2 (8 * n) 8 hostBall b
  | .strip side p u => bandSupply false side p u (ballName b)
  | .patch side p u => bandSupply true side p u (ballName b)
  | .core => coreSupply b

end Sys2Proof.Machine
end

