-- ==== Sys2Proof/Tests/Slice0.lean ====
section
/-! SUPPORT. Tests: ill-formed terms, single steps on small states, and states that meet the hypotheses of the statements. -/

namespace Sys2Proof.Tests
open Sys2Proof.Machine

/-! ### Well-formedness: an ill-formed term for each check -/

/-- Command words with every field 0, from function 0 of host port 0. -/
def args0 : CmdArgs :=
  { remote := false, fence := false, rsv := 0, mid := 0, target := 0, tag := 0, badOp := none, w1 := 0, w2 := 0, w3 := 0, w4 := 0, w5 := 0, w6 := 0, w7 := 0 }

def image0 : ImageInfo := { bytes := [] }

def env0 : CmdEnv := { read := .data [], count := 0, errors := 0, segs := [], slow := false }

def key0 : PeerKey := { ep := 0, fa := 0, tc := 0 }

def packet0 : Packet :=
  { src := 0, dst := 0, tc := 0, ptype := 0, first := true, last := true, retx := false, prot := false, immValid := false, solicited := false, kind := false, aux := 0, psn := 0, pkey := 0, group := 0, srcInc := 0, dstInc := 0, e0 := 0, e1 := 0, data := [], sealed := [], marked := false, lockUnit := false }

def swPkt0 : SwPkt :=
  { dst := 0, src := 0, vc := 0, tc := 0, pin := false, salt := 0, detoured := 0, ce := false, mcast := false, mdim := 0, mtype := 0, hops := 0, len := 0, retx := false, pkey := none, body := .words [] }

def marker0 : Marker :=
  { sync := true, count := 0, prev := 65535, gap := 4096, map := 0, quiet := false, port := 0, coord := 0, grant := List.replicate 8 0, audit := none, crcOk := true }

/-- A host that programs nothing. -/
def cfg0 : FuncCfg := ⟨false, [], false, false, 0, 0, 0, false⟩

def boot0 : Boot :=
  { sel := 0, refOk := true, refLost := false, clocksOk := true, flashOk := true, katOk := true, image0 := image0, image1 := image0, counterOk := true, hbmOk := true }

theorem test_wf_good : (Instr.cmdNop env0 args0).wf = true ∧ (Instr.ackArrival packet0).wf = true ∧ (Instr.openTimeout key0).wf = true
    ∧ (Instr.switchPacketArrival .mgmt 0 swPkt0 none).wf = true ∧ (Instr.markerBlockReceive 0 ⟨marker0, []⟩).wf = true := by decide

theorem test_wf_args : ({ args0 with rsv := 4 } : CmdArgs).wf = false ∧ ({ args0 with mid := 4096 } : CmdArgs).wf = false
    ∧ ({ args0 with target := 2 ^ 24 } : CmdArgs).wf = false ∧ ({ args0 with tag := 65536 } : CmdArgs).wf = false := by decide

theorem test_wf_key : ({ key0 with ep := 8 } : PeerKey).wf = false ∧ ({ key0 with fa := 2 ^ 27 } : PeerKey).wf = false
    ∧ ({ key0 with tc := 4 } : PeerKey).wf = false := by decide

theorem test_wf_packet : ({ packet0 with src := 2 ^ 27 } : Packet).wf = false ∧ ({ packet0 with dst := 2 ^ 27 } : Packet).wf = false
    ∧ ({ packet0 with tc := 4 } : Packet).wf = false ∧ ({ packet0 with ptype := 32 } : Packet).wf = false
    ∧ ({ packet0 with aux := 2 ^ 20 } : Packet).wf = false ∧ ({ packet0 with pkey := 65536 } : Packet).wf = false
    ∧ ({ packet0 with group := 4096 } : Packet).wf = false ∧ ({ packet0 with srcInc := 2 ^ 32 } : Packet).wf = false
    ∧ ({ packet0 with dstInc := 65536 } : Packet).wf = false := by decide

theorem test_wf_swPkt : ({ swPkt0 with dst := 2 ^ 27 } : SwPkt).wf = false ∧ ({ swPkt0 with src := 2 ^ 27 } : SwPkt).wf = false
    ∧ ({ swPkt0 with vc := 8 } : SwPkt).wf = false ∧ ({ swPkt0 with tc := 4 } : SwPkt).wf = false
    ∧ ({ swPkt0 with detoured := 16 } : SwPkt).wf = false ∧ ({ swPkt0 with mdim := 4 } : SwPkt).wf = false
    ∧ ({ swPkt0 with mtype := 16 } : SwPkt).wf = false ∧ ({ swPkt0 with hops := 64 } : SwPkt).wf = false := by decide

theorem test_wf_ends : (Source.port 128).wf = false ∧ (Source.ep 8).wf = false ∧ (Source.cluster 8).wf = false
    ∧ (Output.port 128).wf = false ∧ (Output.ep 8).wf = false ∧ (Output.cluster 8).wf = false := by decide

theorem test_wf_marker : ({ marker0 with count := 65536 } : Marker).wf = false ∧ ({ marker0 with prev := 65536 } : Marker).wf = false ∧ ({ marker0 with map := 16 } : Marker).wf = false
    ∧ ({ marker0 with port := 128 } : Marker).wf = false ∧ ({ marker0 with coord := 2 ^ 24 } : Marker).wf = false
    ∧ ({ marker0 with grant := [] } : Marker).wf = false := by decide

theorem test_wf_clock : clockFits 1 = false ∧ clockFits 9 = false ∧ clockFits 0x58 = false := by decide

theorem test_wf_host : (Instr.cmdPiWrite 8 0 0).wf = false ∧ (Instr.cmdPiWrite 0 256 0).wf = false
    ∧ (Instr.registerWrite 8 0 0 8 0).wf = false ∧ (Instr.hifLinkRetrain 0 0 8 0).wf = false
    ∧ (Instr.flrDrainEnd 2048).wf = false ∧ (Instr.vfEnableSet 0 256 cfg0).wf = false
    ∧ (Instr.vfEnableSet 0 0 cfg0).wf = false ∧ (Instr.spdmRequest 8 0 true).wf = false := by decide

theorem test_wf_fabric : (Instr.graceExpiry 128).wf = false ∧ (Instr.fastTmoExpiry 512).wf = false
    ∧ (Instr.trainingFrameReceive 0 (2 ^ 32) true false).wf = false ∧ (Instr.sharedPoolTransfer 8).wf = false ∧ (Instr.eyeMeasureStart 0 0 512 0).wf = false := by decide

theorem test_wf_objects : (Instr.nop (2 ^ 20)).wf = false ∧ (Instr.qmgEqCiWrite 0 0 0 0).wf = false
    ∧ (Instr.qmgEqCiWrite 0 0 4096 0).wf = false ∧ (Instr.mtcUnexpTimeout 65536).wf = false ∧ (Instr.deregTimeout (2 ^ 24)).wf = false
    ∧ (Instr.policerDeferRelease 8 0).wf = false ∧ (Instr.policerDeferRelease 0 3).wf = false
    ∧ (Instr.timingWheelDue (2 ^ 20) key0).wf = false ∧ (Instr.cvecArrival (2 ^ 27) 0 []).wf = false := by decide

theorem test_wf_service : (Instr.predictorExitStart 48).wf = false ∧ (Instr.bcaCodeChange 8).wf = false ∧ (Instr.thermTrip 16).wf = false
    ∧ (Instr.pwrRailFault 7 true).wf = false ∧ (Instr.secTamper 0).wf = false ∧ (Instr.secTamper 3).wf = false
    ∧ (Instr.secKeyIntegrity 4).wf = false ∧ (Instr.engineWatchdogExpiry 0x68).wf = false ∧ (Instr.mgcHang 5).wf = false
    ∧ (Instr.memAutoRetire 32 true).wf = false ∧ (Instr.sramBistRotation 0x17 0 0 [] []).wf = false
    ∧ (Instr.sampleCrossing 0x68).wf = false ∧ (Instr.telemetryArrival 8 0 []).wf = false
    ∧ (Instr.mctpCommand 256 0 args0 env0).wf = false := by decide

/-- No row of the table gives bits, so no word spells a command. -/
theorem test_decode_none : decodeTableWord 64 0 = none ∧ State.reset.withFetchWord 64 0 = State.reset := ⟨rfl, rfl⟩

/-! ### The package: the worked examples and totals of chapter 23 -/

theorem test_row_names : [20, 38, 89].map rowName = ["AA", "AY", "DN"] := by decide

theorem test_fabric_balls : (List.range 4).map (fun g => ballName (fabricBall 70 g)) = ["A51", "A52", "C51", "C52"]
    ∧ (List.range 4).map (fun g => ballName (fabricBall 300 g)) = ["CV77", "CV76", "CT77", "CT76"] := by decide

theorem test_host_balls : (List.range 4).map (fun g => ballName (hostBall 45 g)) = ["DG29", "DG28", "DE29", "DE28"] := by decide

/-! ### Witnesses: states and operands that meet the hypotheses of the statements -/

/-- The device in RUN with an admin ring of 16 entries enabled at position 0 and one command in it; host port 0 is up with its PF. -/
def run0 : State :=
  { State.reset with
    regs := [(0x70000, 0xA000000000001000#64), (0x70010, 1#64)]
    sys := { Sys.reset with stage := .run, resetN := true }
    hif := { Hif.reset with ports := { HostPort.reset with up := true, inReset := false, funcs := [Func.fresh 0 256] } :: List.replicate 7 HostPort.reset } }

/-- Command words W1 to W5 from function 0 of host port 0. -/
def args (w1 w2 w3 w4 w5 : Nat) : CmdArgs := { args0 with w1 := word w1, w2 := word w2, w3 := word w3, w4 := word w4, w5 := word w5 }

/-- What RingTurn asks, as a check. -/
def turnOk (op : Nat) (a : CmdArgs) (s : State) : Bool :=
  s.ringReady && decide (a.rsv = 0) && !a.badOp.elim false reservedOp && !reservedOp op && !a.remote && decide (a.target = 0) && decide (a.mid < 0x800)
    && !s.blocked op a.fence (decide (s.cmdCi = s.cmd.next)) none (objectOf op a) && s.cmd.outside.isEmpty && !s.auditBlocks
    && !s.portHolds (s.fld .cmdRingBase 0 58 56)
    && (List.range 8).all (fun w => decide (s.gateRefuses (0x40 + 8 * s.fld .cmdRingBase 0 58 56 + w) (s.ringAddr s.cmd.next) 64 ⟨mgcMid, none, false⟩ = none))
    && decide (s.gateRefuses 0x17 op 1 ⟨a.mid, none, true⟩ = none)
    && (List.range 8).all (fun w => decide (s.gateRefuses (0x40 + 8 * s.fld .cmdRingBase 0 58 56 + w) (s.statusAddr s.cmd.next) 32 ⟨a.mid, none, true⟩ = none))
    && s.cmd.begun.all (fun b => decide (b.chan ≠ .ring s.cmd.next))

theorem ring_turn_of {op : Nat} {a : CmdArgs} {s : State} (h : turnOk op a s = true) : RingTurn op a s := by
  simp only [turnOk, Bool.and_eq_true, decide_eq_true_eq, Bool.not_eq_true', List.all_eq_true, List.mem_range, List.isEmpty_iff] at h
  obtain ⟨⟨⟨⟨⟨⟨⟨⟨⟨⟨⟨⟨⟨⟨h1, h2⟩, h3⟩, h4⟩, h5⟩, h6⟩, h7⟩, h8⟩, h9⟩, h10⟩, h11⟩, h12⟩, h13⟩, h14⟩, h15⟩ := h
  exact ⟨h1, h2, ⟨h3, h4⟩, ⟨h5, h6⟩, h7, h8, h9, h10, h11, h12, h13, h14, h15⟩

def attr0 (base eq cq : Nat) : QAttr :=
  { mid := 0, ep := 0, asid := 1, pkey := 1, group := 0, base := base, k := 4, chain := false, cq := cq, eq := eq, weight := 1, burst := 1
    tc := 0, pin := false, vector := 0, home := 0 }

/-- A resident queue with its positions 0. -/
def queue (qid : Nat) (kind : QKind) (state : QState) : Queue :=
  { qid := qid, kind := kind, attr := attr0 0x100000 4 0x1003, state := state, ci := 0, fetch := fetchNew 0 0, sink := sinkAt 0 0, resid := .resident
    lastUse := 0, due := false, drainEvt := false
    saved := { attr := attr0 0x100000 4 0x1003, state := state, ci := 0, sinkPi := 0, sinkCi := 0 }, te := 0, reset := false }

/-- A job of a queue, in a phase. -/
def job (jid qid : Nat) (phase : JobPhase) (ws : List Word) : Job :=
  { jid := jid, qid := qid, mid := 0, ep := 0, asid := 1, pkey := 1, group := 0, tc := 0, ws := ws, frags := [], firstPos := 0, phase := phase
    status := 0, data := 0, bytes := 0, imm := none, solicited := false, peerFa := 0, recOp := 0, buf := [], todo := []
    xp := { todo := [], acc := [], segs := [] }, rts := false, late := [], cqe := false, checked := false, psnFirst := none, psnLast := none
    fence := none, acked := false, logBytes := 0, engine := 0, gen := 0, due := none }

def asid1 : Asid := { asid := 1, mid := 0, host := 0, levels := 3, root := 0, adMode := 0, pkey := 1, group := 0 }

def region1 (state : KeyState) : Region :=
  { index := 1, variant := 0, state := state, ep := 0, mid := 0, pkey := 1, group := 0, asid := 1, base := 0, length := 4096, localWrite := true
    rRead := true, rWrite := true, rAtomic := true, scopeGroup := false, pin := false, deregAt := 0 }

def ctx1 : MatchCtx :=
  { num := 1, mid := 0, ep := 0, pkey := 1, home := 0, quota := 64, eq := 4, state := .active, nextSeq := 0, posted := [], unexp := []
    refusedAt := none }

def group1 (state : GroupState) : Group :=
  { num := 1, owner := some 0, treeRoot := none, pkey := 1, crc := 0, rootFa := 0, total := 1, state := state, home := 0, locals := [], ranks := [], expectLocal := 0, children := []
    expectChildren := 0, waiting := [], child := none, named := [], flows := [], head := 0, headEpoch := 0, parentOpen := 0, nextOpseq := [], done := 0, ahead := []
    down := [], ops := [], activeAt := 0, failedAt := 0 }

def lock1 (n : Nat) (owner : Option LockWaiter) : Lock :=
  { num := n, pkey := 1, mid := 0, owner := owner, abandoned := false, waiters := [], inherited := none }

def waiter0 : LockWaiter := { fa := 0, mid := 0, prio := 0, peer := key0, reqPsn := 0, group := 0 }

/-- A partition, an address space, an EQ, an SQ, a CQ, an SRQ, a match context, a region and a group. -/
def world : State :=
  { run0 with
    rma := { Rma.reset with partitions := [⟨1, false, 1⟩], regions := [region1 .valid], fresh := 2 }
    xlt := { Xlt.reset with asids := [asid1] }
    qmg := { Qmg.reset with queues := [queue 4 .eq .active, queue 0x1002 .sq .active, queue 0x1003 .cq .active, queue 0x1005 .srq .active] }
    svc := { Svc.reset with ctxs := [ctx1], groups := [group1 .active], locks := [lock1 0 none] } }

/-- The world with other queues. -/
def withQueues (l : List Queue) (s : State) : State := { s with qmg := { s.qmg with queues := l } }

def withJobs (l : List Job) (s : State) : State := { s with qmg := { s.qmg with jobs := l } }

def withSvc (f : Svc → Svc) (s : State) : State := { s with svc := f s.svc }

theorem witness_StepRunsFrontCommand : ({ run0 with pending := [.coldReset true, .powerOnReset] } : State).pending = .coldReset true :: [.powerOnReset] := rfl

theorem witness_EmptyQueueIsTick : run0.pending = [] ∧ run0.cmd.outside = [] ∧ run0.cmd.working = [] ∧ ∀ g ∈ world.svc.groups, g.state ≠ .failed :=
  ⟨rfl, rfl, rfl, by decide⟩

theorem witness_CommandsLeaveTheQueue : ∃ t, exec (.cmdNop env0 args0) run0 = .next t := ⟨_, rfl⟩

theorem witness_StepKeepsInvariant : run0.regsRising = true ∧ run0.pendingWf = true ∧ ∃ t, step run0 = .next t := ⟨by decide, rfl, _, rfl⟩

theorem witness_StepIsMonotone : ∃ t, step run0 = .next t := ⟨_, rfl⟩

theorem witness_ObjectsChangeOnlyByTheirCommands : Instr.resets (.cmdNop env0 args0) = false ∧ ∃ t, exec (.cmdNop env0 args0) run0 = .next t :=
  ⟨rfl, _, rfl⟩

theorem witness_ObjectsChangePartitions : ∃ t, exec (.cmdPartitionCreate env0 (args 0x1000001 0 0 0 0)) run0 = .next t
    ∧ t.rma.partitions ≠ run0.rma.partitions := ⟨_, rfl, by decide⟩

theorem witness_DeadboltHoldsUntilPowerCycle : ({ run0 with sys := { run0.sys with deadbolt := .tamper } } : State).sys.deadbolt ≠ .none
    ∧ ∃ t, exec (.coldReset true) { run0 with sys := { run0.sys with deadbolt := .tamper } } = .next t := ⟨by decide, _, rfl⟩

theorem witness_FusesOnlyRise : (∃ t, exec (.secKeyIntegrity 1) run0 = .next t) ∧ run0.sec.tamperCount ≤ 16 := ⟨⟨_, rfl⟩, by decide⟩

theorem witness_NopAndQueryComplete : RingTurn 0x00 args0 run0 ∧ badWords args0 [] = false
    ∧ RingTurn 0x01 (args (2 ^ 61 + 1) 0x2000 0 0 0) world ∧ badWords (args (2 ^ 61 + 1) 0x2000 0 0 0) [mask 63 60 + mask 31 0, allBits] = false
    ∧ bits (word (2 ^ 61 + 1)).toNat 63 60 ≠ 7 ∧ (queryRecord (args (2 ^ 61 + 1) 0x2000 0 0 0) world).1 = .ok [1, 0, 1]
    ∧ ∀ w, w < 8 → world.gateRefuses (0x40 + 8 * midPort 0 + w) 0x2000 256 ⟨0, none, true⟩ = none :=
  ⟨ring_turn_of (by decide), by decide, ring_turn_of (by decide), by decide, by decide, by rfl, by decide⟩

theorem witness_FaultClearClears : RingTurn 0x49 (args 0xFF 0 0 0 0) run0 ∧ badWords (args 0xFF 0 0 0 0) [mask 7 0 + mask 63 63] = false
    ∧ run0.regsRising = true := ⟨ring_turn_of (by decide), by decide, by decide⟩

theorem witness_EndpointConfigSetsEventQueue : RingTurn 0x02 (args (at_ 32 4) 1 0 0 0) world
    ∧ badWords (args (at_ 32 4) 1 0 0 0) [mask 51 32, allBits] = false
    ∧ ∃ x, world.queue? (bits (word (at_ 32 4)).toNat 51 32) = some x ∧ x.kind = .eq ∧ x.attr.mid = 0 :=
  ⟨ring_turn_of (by decide), by decide, queue 4 .eq .active, by decide, by decide, by decide⟩

theorem witness_PartitionsAreCreatedAndDestroyed :
    (RingTurn 0x08 (args 0x1000002 0 0 0 0) world ∧ badWords (args 0x1000002 0 0 0 0) [mask 16 0 + mask 31 24] = false
      ∧ bits (word 0x1000002).toNat 31 24 ≠ 0 ∧ ∀ p ∈ world.rma.partitions, p.pkey ≠ bits (word 0x1000002).toNat 15 0)
    ∧ RingTurn 0x09 (args 1 0 0 0 0) world ∧ badWords (args 1 0 0 0 0) [mask 15 0] = false
    ∧ ∃ p ∈ world.rma.partitions, p.pkey = bits (word 1).toNat 15 0 :=
  ⟨⟨ring_turn_of (by decide), by decide, by decide, by decide⟩, ring_turn_of (by decide), by decide, by decide⟩

theorem witness_AddressSpacesAreCreatedAndDestroyed :
    let a := args (at_ 32 1 + 2) 3 0 0 0
    (RingTurn 0x0A a world ∧ badWords a [mask 27 0 + mask 47 32, mask 51 12 + mask 5 4 + mask 2 0] = false
      ∧ 3 ≤ bits a.w2.toNat 2 0 ∧ bits a.w2.toNat 2 0 ≤ 5 ∧ bits a.w2.toNat 5 4 ≠ 3 ∧ world.func? a.mid = some (Func.fresh 0 256)
      ∧ world.asid? (bits a.w1.toNat 15 0) = none ∧ (world.partition? (bits a.w1.toNat 47 32)).isSome = true
      ∧ world.deviceWindow (midPort a.mid) (at_ 12 (bits a.w2.toNat 51 12)) = false
      ∧ (bits a.w2.toNat 5 4 = 1 → world.atomicOn (midPort a.mid) a.mid = true))
    ∧ RingTurn 0x0B (args 1 0 0 0 0) world ∧ badWords (args 1 0 0 0 0) [mask 15 0] = false
    ∧ world.asid? (bits (word 1).toNat 15 0) = some asid1 ∧ ∀ q ∈ world.qmg.queues, q.fetch.held = none ∧ q.sink.recHeld = false :=
  ⟨⟨ring_turn_of (by decide), by decide, by decide, by decide, by decide, by decide, by decide, by decide, by decide, by decide⟩,
    ring_turn_of (by decide), by decide, by decide, by decide⟩

theorem witness_ClassCountersCountEveryMessage : run0.regsRising = true ∧ ∀ c, c < 5 → run0.raw .fltClassCnt 0 c < 2 ^ 32 :=
  ⟨by decide, by decide⟩

theorem witness_BoundQueuesAreNotDestroyed : RingTurn 0x12 (args 0x1003 0 0 0 0) world ∧ badWords (args 0x1003 0 0 0 0) [mask 19 0] = false
    ∧ world.queue? (bits (word 0x1003).toNat 19 0) = some (queue 0x1003 .cq .active)
    ∧ ∃ x ∈ world.qmg.queues, (x.kind = .sq ∨ x.kind = .srq) ∧ x.attr.cq = 0x1003 :=
  ⟨ring_turn_of (by decide), by decide, by decide, by decide⟩

theorem witness_QueueCreateMakesActiveQueue :
    let a := args (at_ 32 1 + at_ 26 4 + at_ 20 2 + 0x1009) 0x200000 (at_ 32 4 + 0x1003) (at_ 8 1 + 1) 0
    RingTurn 0x10 a world ∧ world.regsRising = true ∧ queueKind (bits a.w1.toNat 23 20) = some .sq
      ∧ badWords a [mask 30 0 + mask 47 32, allBits, mask 19 0 + mask 51 32, mask 14 0 + mask 17 16 + mask 31 20] = false
      ∧ world.func? a.mid = some (Func.fresh 0 256) ∧ world.asid? (bits a.w1.toNat 47 32) = some asid1
      ∧ world.createFits .sq a = true ∧ world.queue? (bits a.w1.toNat 19 0) = none ∧ bit a.w1.toNat 25 = false ∧ (cacheEntry world).isSome = true :=
  ⟨ring_turn_of (by decide), by decide, by decide, by decide, by decide, by decide, by decide, by decide, by decide, by decide⟩

/-- Every entry of the context cache is taken, and no context may go: the second case of QueueCreateMakesActiveQueue. -/
theorem witness_QueueCreateNoEntry (l : List Queue) (h : Config.contextCache ≤ (withQueues l run0).cacheUsed)
    (he : l.filter (withQueues l run0).evictable = []) : cacheEntry (withQueues l run0) = none := by
  have h' : ¬ (withQueues l run0).cacheUsed < Config.contextCache := Nat.not_lt.mpr h
  simp only [cacheEntry, h', if_false]
  have : (withQueues l run0).qmg.queues = l := rfl
  rw [this, he]
  rfl

theorem witness_QueueModifyChangesNamedAttributes :
    let a := withW1 23 20 0 (args (at_ 24 2 + 0x1002) 0 0 7 0)
    RingTurn 0x11 a world ∧ badWords a [mask 28 0, 0, mask 19 0 + mask 51 32, mask 14 0 + mask 17 16 + mask 31 20, 0] = false
      ∧ world.queue? (bits a.w1.toNat 19 0) = some (queue 0x1002 .sq .active) ∧ bits a.w1.toNat 28 24 = 2 ∧ bits a.w4.toNat 7 0 ≠ 0 :=
  ⟨ring_turn_of (by decide), by decide, by decide, by decide, by decide⟩

theorem witness_QueueStopEndsPrefetchAndDispatch :
    let a := withW1 23 20 1 (args 0x1002 0 0 0 0)
    RingTurn 0x11 a world ∧ badWords a [mask 28 0, 0, mask 19 0 + mask 51 32, mask 14 0 + mask 17 16 + mask 31 20, 0] = false
      ∧ world.queue? (bits a.w1.toNat 19 0) = some (queue 0x1002 .sq .active) ∧ world.liveJobs 0x1002 = [] ∧ world.evUp = true :=
  ⟨ring_turn_of (by decide), by decide, by decide, by decide, by decide⟩

theorem witness_QueueStartAndRecoverMakeActive :
    let a := withW1 23 20 2 (args 0x1002 0 0 0 0)
    let b := withW1 23 20 3 (args 0x1002 0 0 0 (at_ 32 20 + 4))
    let s := withQueues [queue 0x1002 .sq .stopped] world
    let u := withQueues [queue 0x1002 .sq .error] world
    RingTurn 0x11 a s ∧ badWords a [mask 28 0, 0, mask 19 0 + mask 51 32, mask 14 0 + mask 17 16 + mask 31 20, 0] = false
      ∧ s.queue? (bits a.w1.toNat 19 0) = some (queue 0x1002 .sq .stopped)
      ∧ RingTurn 0x11 b u ∧ badWords b [mask 28 0, 0, mask 19 0 + mask 51 32, mask 14 0 + mask 17 16 + mask 31 20, allBits] = false
      ∧ u.queue? (bits b.w1.toNat 19 0) = some (queue 0x1002 .sq .error) ∧ u.outstanding? (queue 0x1002 .sq .error) = false
      ∧ dist (BitVec.ofNat 32 (bits b.w5.toNat 63 32)) (BitVec.ofNat 32 (bits b.w5.toNat 31 0)) = (queue 0x1002 .sq .error).size :=
  ⟨ring_turn_of (by decide), by decide, by decide, ring_turn_of (by decide), by decide, by decide, by decide, by decide⟩

theorem witness_QueueDestroyDrainsQueue :
    let s := withJobs [job 1 0x1005 .waiting []] world
    let u := withQueues [queue 0x1003 .cq .active] world
    (RingTurn 0x12 (args 0x1002 0 0 0 0) world ∧ badWords (args 0x1002 0 0 0 0) [mask 19 0] = false
      ∧ world.queue? (bits (word 0x1002).toNat 19 0) = some (queue 0x1002 .sq .active))
    ∧ (RingTurn 0x12 (args 0x1005 0 0 0 0) s ∧ s.queue? 0x1005 = some (queue 0x1005 .srq .active) ∧ s.liveJobs 0x1005 ≠ [])
    ∧ RingTurn 0x12 (args 0x1003 0 0 0 0) u ∧ u.queue? 0x1003 = some (queue 0x1003 .cq .active)
      ∧ (∀ x ∈ u.qmg.queues, ¬((x.kind = .sq ∨ x.kind = .srq) ∧ x.attr.cq = 0x1003)) ∧ ∀ j ∈ u.qmg.jobs, j.qid ≠ 0x1003 :=
  ⟨⟨ring_turn_of (by decide), by decide, by decide⟩, ⟨ring_turn_of (by decide), by decide, by decide⟩, ring_turn_of (by decide), by decide, by decide,
    by decide⟩

theorem witness_QueueEvictStartsEviction :
    let q := { queue 0x1002 .sq .active with resid := .evicted }
    let s := withQueues [q] world
    (RingTurn 0x13 (args 0x1002 0 0 0 0) s ∧ badWords (args 0x1002 0 0 0 0) [mask 19 0] = false ∧ s.queue? (bits (word 0x1002).toNat 19 0) = some q)
    ∧ RingTurn 0x13 (args 0x1002 0 0 0 0) world ∧ world.queue? (bits (word 0x1002).toNat 19 0) = some (queue 0x1002 .sq .active)
      ∧ world.evictable (queue 0x1002 .sq .active) = true ∧ ∀ r ∈ world.gates, r.gate < 0x20 ∨ 0x40 ≤ r.gate :=
  ⟨⟨ring_turn_of (by decide), by decide, by decide⟩, ring_turn_of (by decide), by decide, by decide, by decide⟩

theorem witness_RegionRegisterTakesFreeEntry :
    let a := args (at_ 48 1 + at_ 32 1) 0 4096 0 0
    let b := args (at_ 53 1 + at_ 32 1 + 9) 0 (2 ^ 30) 0 0
    (RingTurn 0x18 a world ∧ badWords a [mask 23 0 + mask 53 32, allBits, allBits] = false ∧ world.creator a = csOk
      ∧ world.asid? (bits a.w1.toNat 47 32) = some asid1 ∧ a.w2.toNat + a.w3.toNat ≤ 2 ^ vaBits asid1.levels ∧ world.freeIndex = some 2)
    ∧ RingTurn 0x18 b world ∧ badWords b [mask 23 0 + mask 53 32, allBits, allBits] = false ∧ world.creator b = csOk
      ∧ world.asid? (bits b.w1.toNat 47 32) = some asid1 ∧ b.w2.toNat + b.w3.toNat ≤ 2 ^ vaBits asid1.levels
      ∧ 9 < world.keyringSize ∧ world.region? 9 = none :=
  ⟨⟨ring_turn_of (by decide), by decide, by decide, by decide, by decide, by decide⟩, ring_turn_of (by decide), by decide, by decide, by decide,
    by decide, by decide, by decide⟩

theorem witness_RegionDeregisterStalesKeys :
    RingTurn 0x19 (args 0x100 0 0 0 0) world ∧ badWords (args 0x100 0 0 0 0) [mask 31 0] = false
      ∧ world.region? (bits (word 0x100).toNat 31 8) = some (region1 .valid) ∧ (region1 .valid).variant = bits (word 0x100).toNat 7 0
      ∧ world.regionUsed 1 = false ∧ (∀ x ∈ world.rma.regions, x.state ≠ .draining)
      ∧ (world.rma.regions.filter (fun x => x.index = 1)).length = 1 :=
  ⟨ring_turn_of (by decide), by decide, by decide, by decide, by decide, by decide, by decide⟩

theorem witness_InvalidationRemovesTranslations :
    let a := args (at_ 18 1 + 1) 0x1000 1 0 0
    RingTurn 0x1A a world ∧ badWords a [mask 18 0, allBits, allBits] = false ∧ bits a.w1.toNat 17 16 = 0 ∧ a.w2.toNat % 4096 = 0 ∧ a.w3.toNat ≠ 0
      ∧ a.w3.toNat ≤ 2 ^ 45 ∧ world.asid? (bits a.w1.toNat 15 0) = some asid1 ∧ (∀ i ∈ world.xlt.invals, i.started = true ∧ i.applied = true ∧ i.id < world.xlt.nextInval)
      ∧ ∀ q ∈ world.qmg.queues, q.fetch.held = none ∧ q.sink.recHeld = false :=
  ⟨ring_turn_of (by decide), by decide, by decide, by decide, by decide, by decide, by decide, by decide, by decide⟩

theorem witness_MatchContextsAreCreatedAndDestroyed :
    let a := args (at_ 32 1 + at_ 16 31 + 2) (at_ 32 4 + 64) 0 0 0
    (RingTurn 0x20 a world ∧ badWords a [mask 20 0 + mask 47 32, mask 23 0 + mask 51 32] = false ∧ bits a.w1.toNat 20 16 = 31
      ∧ bits a.w2.toNat 23 0 ≤ 2 ^ 23 ∧ world.creator a = csOk ∧ world.ctx? (bits a.w1.toNat 15 0) = none
      ∧ (world.partition? (bits a.w1.toNat 47 32)).isSome = true ∧ bits a.w2.toNat 51 32 ≠ 0 ∧ world.eqFits (midPort a.mid) (bits a.w2.toNat 51 32) = true)
    ∧ RingTurn 0x21 (args 1 0 0 0 0) world ∧ badWords (args 1 0 0 0 0) [mask 15 0] = false ∧ world.ctx? (bits (word 1).toNat 15 0) = some ctx1 :=
  ⟨⟨ring_turn_of (by decide), by decide, by decide, by decide, by decide, by decide, by decide, by decide, by decide⟩, ring_turn_of (by decide),
    by decide, by decide⟩

/-- A member table of one local member. -/
def table1 : List Byte := toBytes 8 (at_ 32 0x1002)

theorem witness_ChorusGroupsAreCreatedAndLeft :
    let a := args (at_ 16 1 + 2) 0x3000 (at_ 32 1 + 1) 0 0
    let ws := wordsOf (bits a.w3.toNat 18 0) table1
    let crc := word (crc64 0 (bytesOf ws))
    let g := { group1 .active with num := 2, crc := crc }
    let s := withSvc (fun x => { x with groups := [g] }) world
    (RingTurn 0x22 a world ∧ badWords a [mask 11 0 + mask 49 16, allBits, mask 18 0 + mask 47 32] = false ∧ bits a.w3.toNat 18 0 ≠ 0
      ∧ (world.partition? (bits a.w1.toNat 31 16)).isSome = true ∧ world.asid? (bits a.w3.toNat 47 32) = some asid1
      ∧ (∀ w, w < 8 → world.gateRefusesAny (0x40 + 8 * 0 + w) [(0x3000, 8)] ⟨a.mid, some (bits a.w1.toNat 31 16), false⟩ = none)
      ∧ world.tableFits (bits a.w1.toNat 31 16) (bits a.w1.toNat 49 32) ws = true ∧ world.group? (bits a.w1.toNat 11 0) = none)
    ∧ (RingTurn 0x22 a s ∧ s.group? (bits a.w1.toNat 11 0) = some g ∧ g.pkey = bits a.w1.toNat 31 16 ∧ g.owner = some a.mid ∧ g.down = [])
    ∧ RingTurn 0x23 (args 1 0 0 0 0) world ∧ badWords (args 1 0 0 0 0) [mask 11 0] = false ∧ world.group? (bits (word 1).toNat 11 0) = some (group1 .active)
      ∧ ∀ m ∈ (group1 .active).locals, world.chorusLive m.2.1 1 = 0 :=
  ⟨⟨ring_turn_of (by decide), by decide, by decide, by decide, by decide, by decide, by decide, by decide⟩,
    ⟨ring_turn_of (by decide), by rfl, by decide, by rfl, by rfl⟩, ring_turn_of (by decide), by decide, by decide, by decide⟩

theorem witness_LocksAndVariablesAreAllocatedAndFreed :
    let a := withW1 0 0 0 (args (at_ 32 1) 16383 1 0 0)
    let b := withW1 0 0 1 (args (at_ 32 1) 4 2 0 0)
    let c := withW1 1 0 0 (args 0 0 1 0 0)
    let d := withW1 1 0 2 (args 0 0 1 0 0)
    let e := withW1 0 0 1 (args 0 4 1 0 0)
    let o := withSvc (fun x => { x with locks := [lock1 0 (some waiter0)] }) world
    let n := withSvc (fun x => { x with locks := [{ lock1 0 none with mid := 1 }] }) world
    let v := withSvc (fun x => { x with varRuns := [⟨4, 2, 1, 0⟩] }) world
    (RingTurn 0x28 a world ∧ badWords a [1 + mask 47 32, allBits, allBits] = false ∧ a.w2.toNat + a.w3.toNat ≤ lockCount
      ∧ (world.partition? (bits a.w1.toNat 47 32)).isSome = true ∧ ∀ l ∈ world.svc.locks, l.num < a.w2.toNat ∨ a.w2.toNat + a.w3.toNat ≤ l.num)
    ∧ (RingTurn 0x28 b world ∧ badWords b [1 + mask 47 32, allBits, allBits] = false ∧ b.w2.toNat + b.w3.toNat ≤ world.varBytes / 16
      ∧ (world.partition? (bits b.w1.toNat 47 32)).isSome = true ∧ world.varsIn b.w2.toNat b.w3.toNat = 0)
    ∧ (RingTurn 0x29 c world ∧ badWords c [3, allBits, allBits] = false
      ∧ (world.svc.locks.filter (fun l => decide (c.w2.toNat ≤ l.num) && decide (l.num < c.w2.toNat + c.w3.toNat))).length = c.w3.toNat
      ∧ ∀ l ∈ world.svc.locks, l.owner = none ∧ l.waiters = [])
    ∧ (RingTurn 0x29 c n ∧ ∃ l ∈ n.svc.locks, c.w2.toNat ≤ l.num ∧ l.num < c.w2.toNat + c.w3.toNat ∧ l.mid ≠ c.mid)
    ∧ (RingTurn 0x29 c o ∧ ∃ l ∈ o.svc.locks, c.w2.toNat ≤ l.num ∧ l.num < c.w2.toNat + c.w3.toNat ∧ l.owner.isSome = true)
    ∧ (RingTurn 0x29 d o ∧ badWords d [3, allBits, allBits] = false)
    ∧ RingTurn 0x29 e v ∧ badWords e [3, allBits, allBits] = false ∧ v.varsIn e.w2.toNat e.w3.toNat = e.w3.toNat :=
  ⟨⟨ring_turn_of (by decide), by decide, by decide, by decide, by decide⟩, ⟨ring_turn_of (by decide), by decide, by decide, by decide, by decide⟩,
    ⟨ring_turn_of (by decide), by decide, by decide, by decide⟩, ⟨ring_turn_of (by decide), by decide⟩, ⟨ring_turn_of (by decide), by decide⟩,
    ⟨ring_turn_of (by decide), by decide⟩, ring_turn_of (by decide), by decide, by decide⟩

theorem witness_GateWriteReplacesOneRule :
    let a := args (at_ 8 5 + 0x17) 0 0 100 0
    let b := args (at_ 8 63 + 0x40) 0 0 0 0
    let s := { run0.setReg .secLock 0 0 1 with gates := [{ gate := 0x40, rule := 63, w0 := word 0xB800000000000000, base := 0, limit := 2 ^ 64 - 1 }] }
    (RingTurn 0x2A a run0 ∧ badWords a [mask 6 0 + mask 13 8, allBits, allBits, allBits] = false
      ∧ reservedSet a.w2 (mask 63 59 + mask 55 31 + mask 15 0) = false ∧ a.w3.toNat ≤ a.w4.toNat)
    ∧ (RingTurn 0x2A b run0 ∧ badWords b [mask 6 0 + mask 13 8, allBits, allBits, allBits] = false ∧ bits b.w1.toNat 13 8 = 63)
    ∧ (bit (s.raw .secLock 0 0) 0 && bit (s.rule 0x40 63).w0.toNat 59) = true :=
  ⟨⟨ring_turn_of (by decide), by decide, by decide, by decide⟩, ⟨ring_turn_of (by decide), by decide, by decide⟩, by decide⟩

theorem witness_ShadowLoadAppliesWholeImage :
    let a := args 64 0x2000 0 0 0
    RingTurn 0x30 a run0 ∧ badWords a [mask 63 63 + mask 31 0, allBits] = false ∧ env0.slow = false ∧ run0.cmd.shadow ≠ 2 ∧ run0.cmd.shadow ≠ 3
      ∧ (∀ w, w < 8 → run0.gateRefuses (0x40 + 8 * midPort a.mid + w) a.w2.toNat (bits a.w1.toNat 31 0) ⟨a.mid, none, false⟩ = none)
      ∧ imageCheck 64 (toBytes 8 (0x48474531 * 2 ^ 32) ++ List.replicate 56 0) = .ok [] ∧ imageCheck 64 [] = .error 0 :=
  ⟨ring_turn_of (by decide), by decide, rfl, by decide, by decide, by decide, by rfl, by rfl⟩

theorem witness_HingeExchangesBanks :
    let a := withW1 0 0 0 (args 0 0 0 0 0)
    let b := withW1 0 0 1 (args 0 0 0 0 0)
    RingTurn 0x31 a run0 ∧ badWords a [1, allBits] = false ∧ bit a.w1.toNat 0 = false ∧ a.w2 = 0 ∧ run0.cmd.shadow ≠ 5 ∧ run0.regsRising = true
      ∧ env0.slow = false ∧ ({ env0 with slow := true } : CmdEnv).slow = true
      ∧ RingTurn 0x31 b run0 ∧ badWords b [1, allBits] = false ∧ bit b.w1.toNat 0 = true :=
  ⟨ring_turn_of (by decide), by decide, by decide, by decide, by decide, by decide, rfl, rfl, ring_turn_of (by decide), by decide, by decide⟩

theorem witness_PortFenceAndUnfence : RingTurn 0x38 (args 127 0 0 0 0) run0 ∧ badWords (args 127 0 0 0 0) [mask 6 0] = false
    ∧ RingTurn 0x39 (args 127 0 0 0 0) run0 ∧ run0.fab.egress = [] ∧ run0.fab.inject = [] :=
  ⟨ring_turn_of (by decide), by decide, ring_turn_of (by decide), rfl, rfl⟩

/-- The router side with these ports and lanes. -/
def withPorts (l : List Port) (k : List Lane) (s : State) : State := { s with fab := { s.fab with ports := l, lanes := k } }

theorem witness_PortTestRunsOnFencedPort :
    let a := withW1 8 8 0 (args 127 0 0 0 0)
    let b := withW1 8 8 1 (args 127 0 0 0 0)
    let s := withPorts [{ Port.reset 127 with fenced := true }] [] run0
    let u := withPorts [{ Port.reset 127 with fenced := true, testing := true }] [] run0
    let x := { run0 with fab := { run0.fab with dead := [7] } }
    (RingTurn 0x3A a x ∧ x.sliceDead (127 / 16) = true)
    ∧ (RingTurn 0x3A a run0 ∧ run0.sliceDead (127 / 16) = false ∧ badWords a [mask 6 0 + mask 8 8 + mask 13 12, allBits] = false ∧ bit a.w1.toNat 8 = false
      ∧ bits a.w1.toNat 13 12 ≠ 3 ∧ (run0.port 127).fenced = false)
    ∧ (RingTurn 0x3A a s ∧ s.sliceDead (127 / 16) = false ∧ (s.port 127).fenced = true ∧ (s.port 127).testing = false)
    ∧ RingTurn 0x3A b u ∧ badWords b [mask 6 0 + mask 8 8 + mask 13 12, allBits] = false ∧ bit b.w1.toNat 8 = true ∧ (u.port 127).testing = true
      ∧ u.regsRising = true ∧ ∀ l ∈ portLanes 127, (u.lane l).chk = none :=
  ⟨⟨ring_turn_of (by decide), by decide⟩, ⟨ring_turn_of (by decide), by decide, by decide, by decide, by decide, by decide⟩,
    ⟨ring_turn_of (by decide), by decide, by decide, by decide⟩, ring_turn_of (by decide), by decide, by decide, by decide, by decide, by decide⟩

theorem witness_LaneTestHoldsLane :
    let a := withW1 9 9 0 (args 511 0 0 0 0)
    let b := withW1 9 9 1 (args 511 0 0 0 0)
    let s := withPorts [{ Port.reset 127 with state := .up, map := 12 }] [{ Lane.reset 510 with state := .active }, { Lane.reset 511 with state := .active }] run0
    let u := withPorts [] [{ Lane.reset 511 with state := .test }] run0
    let x := { run0 with fab := { run0.fab with dead := [7] } }
    let v := withPorts [] [{ Lane.reset 511 with state := .test, chk := some { since := 0, rate := 1, own := false, period := 0 } }] run0
    (RingTurn 0x3B a x ∧ x.sliceDead (lanePort 511 / 16) = true)
    ∧ (RingTurn 0x3B a run0 ∧ run0.sliceDead (lanePort 511 / 16) = false ∧ badWords a [mask 9 0, allBits, allBits] = false ∧ bit a.w1.toNat 9 = false ∧ run0.laneTestRefused 511 = false)
    ∧ (RingTurn 0x3B a s ∧ s.sliceDead (lanePort 511 / 16) = false ∧ s.laneTestRefused 511 = true)
    ∧ RingTurn 0x3B b u ∧ badWords b [mask 9 0, allBits, allBits] = false ∧ bit b.w1.toNat 9 = true ∧ (u.lane 511).state = .test
      ∧ (u.port (lanePort 511)).testing = false
      ∧ RingTurn 0x3B b v ∧ (v.lane 511).chkBits = 0 ∧ (v.lane 511).chkErrs = 0 ∧ (v.lane 511).chk.isSome = true :=
  ⟨⟨ring_turn_of (by decide), by decide⟩, ⟨ring_turn_of (by decide), by decide, by decide, by decide, by decide⟩,
    ⟨ring_turn_of (by decide), by decide, by decide⟩, ring_turn_of (by decide), by decide, by decide, by decide, by decide, ring_turn_of (by decide),
    by decide, by decide, by decide⟩

theorem witness_EnginesAndChannelsRetire :
    let s := { run0 with engines := [{ code := 0x67, retired := true }] }
    (RingTurn 0x3C (args 0x5F 0 0 0 0) run0 ∧ badWords (args 0x5F 0 0 0 0) [mask 7 0] = false ∧ (run0.engine 0x5F).retired = false
      ∧ run0.retiredMpes < 4 ∧ 2 ≤ run0.activeMpes (0x5F / 4))
    ∧ (RingTurn 0x3C (args 0x60 0 0 0 0) run0 ∧ (run0.engine 0x60).retired = false ∧ 1 < run0.activeClusters)
    ∧ (RingTurn 0x3D (args 0x67 0 0 0 0) s ∧ badWords (args 0x67 0 0 0 0) [mask 7 0] = false ∧ (s.engine 0x67).retired = true)
    ∧ RingTurn 0x3E (args 31 0 0 0 0) run0 ∧ badWords (args 31 0 0 0 0) [mask 4 0] = false ∧ run0.retireIdle 31 = true ∧ run0.retireFits = true :=
  ⟨⟨ring_turn_of (by decide), by decide, by decide, by decide, by decide⟩, ⟨ring_turn_of (by decide), by decide, by decide⟩,
    ⟨ring_turn_of (by decide), by decide, by decide⟩, ring_turn_of (by decide), by decide, by decide, by decide +kernel⟩

theorem witness_DumpsAndFirmwareAreSet :
    let a := args 1 0x4000 1000000 0 0
    let b := args (at_ 32 1) 0x8000 0 0 0
    let c := withW1 1 1 0 (args 1 0 0 0 0)
    let d := withW1 1 1 1 (args 1 0 0 0 0)
    let im : ImageInfo := { bytes := [1] }
    let s := { run0 with sec := { run0.sec with secureBoot := false }, sys := { run0.sys with slots := [image0, im] } }
    (RingTurn 0x40 a run0 ∧ badWords a [1, mask 51 12, mask 31 0] = false ∧ run0.regsRising = true)
    ∧ (RingTurn 0x41 b run0 ∧ badWords b [mask 32 0, allBits] = false ∧ bits b.w1.toNat 32 32 ≠ run0.sys.running
      ∧ (∀ w, w < 8 → run0.gateRefuses (0x40 + 8 * midPort b.mid + w) b.w2.toNat (bits b.w1.toNat 31 0) ⟨b.mid, none, false⟩ = none)
      ∧ env0.slow = false ∧ env0.read = .data [] ∧ ([] : List Byte).length = bits b.w1.toNat 31 0 ∧ imagePasses image0 run0 = false)
    ∧ (RingTurn 0x41 b s ∧ bits b.w1.toNat 32 32 ≠ s.sys.running ∧ imagePasses image0 s = true)
    ∧ (RingTurn 0x42 c s ∧ badWords c [3] = false ∧ bit c.w1.toNat 1 = false ∧ s.sys.slots[bits c.w1.toNat 0 0]? = some im)
    ∧ RingTurn 0x42 d s ∧ badWords d [3] = false ∧ bit d.w1.toNat 1 = true ∧ s.sys.slots[bits d.w1.toNat 0 0]? = some im
      ∧ imagePasses im s = true :=
  ⟨⟨ring_turn_of (by decide), by decide, by decide⟩,
    ⟨ring_turn_of (by decide), by decide, by decide, by decide, rfl, rfl, by decide, by decide +kernel⟩, ⟨ring_turn_of (by decide), by decide, by decide +kernel⟩,
    ⟨ring_turn_of (by decide), by decide, by decide, by decide⟩, ring_turn_of (by decide), by decide, by decide, by decide, by decide +kernel⟩

/-- Bytes 0-23 of a key blob whose nonce is 0. -/
def blobHead (kind pkey : Nat) : List Byte :=
  toBytes 8 (at_ 56 1 + at_ 52 kind + at_ 32 (if kind = 2 then pkey else 0) + keyLength kind) ++ List.replicate 16 0

/-- A key blob that wraps 32 bytes under k: the ephemeral key of an owner key stands before them, the tag after them. -/
def keyBlob (kind pkey : Nat) (pub k : List Byte) (s : State) : List Byte :=
  blobHead kind pkey ++ (pub ++ (List.replicate 32 0
    ++ gcmTag k (List.replicate 12 0) (blobHead kind pkey ++ toBytes 8 (s.raw .sysId 0 0)) (List.replicate 32 0)))

theorem key_blob_unwraps (kind pkey : Nat) (pub k : List Byte) (s : State) (hp : pub.length = if kind = 1 then 96 else 0) (hk : k.length = 32)
    (hw : wrapping kind (keyBlob kind pkey pub k s) s = some k) :
    keyUnwrap kind (keyBlob kind pkey pub k s) s = some (gcmCrypt k (List.replicate 12 0) (List.replicate 32 0)) := by
  have ht := gcmTag_length k (List.replicate 12 0) (blobHead kind pkey ++ toBytes 8 (s.raw .sysId 0 0)) (List.replicate 32 0) hk (by simp)
  have hh : (blobHead kind pkey).length = 24 := by simp [blobHead, toBytes]
  have hn : ((keyBlob kind pkey pub k s).drop 8).take 12 = List.replicate 12 0 := by
    simp [keyBlob, blobHead, toBytes, List.drop_append, List.take_append]
  have ha : (keyBlob kind pkey pub k s).take 24 = blobHead kind pkey := by
    rw [keyBlob, List.take_append_of_le_length (by omega), List.take_of_length_le (by omega)]
  have hb : (keyBlob kind pkey pub k s).drop (if kind = 1 then 120 else 24) = List.replicate 32 0
      ++ gcmTag k (List.replicate 12 0) (blobHead kind pkey ++ toBytes 8 (s.raw .sysId 0 0)) (List.replicate 32 0) := by
    rw [keyBlob, ← List.append_assoc, List.drop_left']
    rw [List.length_append, hh, hp]; split <;> rfl
  have hc : (List.replicate 32 (0 : Byte) ++ gcmTag k (List.replicate 12 0) (blobHead kind pkey ++ toBytes 8 (s.raw .sysId 0 0)) (List.replicate 32 0)).take 32
      = List.replicate 32 0 := List.take_left' (by simp)
  have hd : (List.replicate 32 (0 : Byte) ++ gcmTag k (List.replicate 12 0) (blobHead kind pkey ++ toBytes 8 (s.raw .sysId 0 0)) (List.replicate 32 0)).drop 32
      = gcmTag k (List.replicate 12 0) (blobHead kind pkey ++ toBytes 8 (s.raw .sysId 0 0)) (List.replicate 32 0) := List.drop_left' (by simp)
  simp only [keyUnwrap, hw, hn, ha, hb, hc, hd]
  rw [List.take_of_length_le (by omega), if_pos rfl]

theorem key_blob_fits (kind pkey : Nat) (pub k : List Byte) (s : State) (hp : pub.length = if kind = 1 then 96 else 0) (hk : k.length = 32)
    (h0 : wd (wordsOf 3 (blobHead kind pkey)) 0 = at_ 56 1 + at_ 52 kind + at_ 32 (if kind = 2 then pkey else 0) + keyLength kind)
    (h2 : bits (wd (wordsOf 3 (blobHead kind pkey)) 2) 63 32 = 0) : blobFits kind pkey (keyBlob kind pkey pub k s) = true := by
  have ht := gcmTag_length k (List.replicate 12 0) (blobHead kind pkey ++ toBytes 8 (s.raw .sysId 0 0)) (List.replicate 32 0) hk (by simp)
  have hh : (blobHead kind pkey).length = 24 := by simp [blobHead, toBytes]
  have hw : wordsOf 3 (keyBlob kind pkey pub k s) = wordsOf 3 (blobHead kind pkey) := by
    have h8 : ((blobHead kind pkey).drop 16).take 8 = (blobHead kind pkey).drop 16 := List.take_of_length_le (by simp [hh])
    simp [keyBlob, wordsOf, List.take_append, List.drop_append, hh, h8]
  have hl : (keyBlob kind pkey pub k s).length = keyLength kind := by
    simp only [keyBlob, List.length_append, List.length_replicate, hh, ht, hp, keyLength]
    split <;> rfl
  simp only [blobFits, hw, hl, h0, h2, decide_true, Bool.and_self]

theorem witness_KeysAreInstalledAndErased :
    let a (kind pkey len : Nat) := withW1 3 0 kind (args (at_ 16 pkey) 0x2000 len 0 0)
    let s := { world with sec := { Sec.reset with ownerKey := true }, xlt := Xlt.reset }
    let k (kind : Nat) := derive256 (s.keyOf ownerKeyNum) (Config.kdfInput 0 [kind])
    let b (kind pkey : Nat) := keyBlob kind pkey [] (k kind) s
    (RingTurn 0x48 (a 2 1 72) s ∧ badWords (a 2 1 72) [mask 3 0 + mask 31 16, allBits, allBits] = false ∧ bits (a 2 1 72).w1.toNat 31 16 = 1
      ∧ (a 2 1 72).w3.toNat = keyLength 2 ∧ s.keyRefusal 2 1 = csOk
      ∧ (∀ w, w < 8 → s.gateRefuses (0x40 + 8 * midPort 0 + w) 0x2000 72 ⟨0, some 1, false⟩ = none) ∧ blobFits 2 1 (b 2 1) = true
      ∧ ∃ key, keyUnwrap 2 (b 2 1) s = some key)
    ∧ (RingTurn 0x48 (a 3 0 72) s ∧ s.keyRefusal 3 0 = csOk ∧ (∀ w, w < 8 → s.gateRefuses (0x40 + 8 * midPort 0 + w) 0x2000 72 ⟨0, none, false⟩ = none)
      ∧ blobFits 3 0 (b 3 0) = true ∧ ∃ key, keyUnwrap 3 (b 3 0) s = some key)
    ∧ RingTurn 0x48 (a 8 1 0) world ∧ badWords (a 8 1 0) [mask 3 0 + mask 31 16, allBits, allBits] = false ∧ (world.partition? 1).isSome = true
      ∧ RingTurn 0x48 (a 9 0 0) world ∧ RingTurn 0x48 (a 10 0 0) world :=
  ⟨⟨ring_turn_of (by decide), by decide, by decide, by decide, by decide, by decide,
      key_blob_fits 2 1 [] _ _ rfl (derive256_length _ _) (by decide +kernel) (by decide +kernel), _, key_blob_unwraps 2 1 [] _ _ rfl (derive256_length _ _) rfl⟩,
    ⟨ring_turn_of (by decide), by decide, by decide,
      key_blob_fits 3 0 [] _ _ rfl (derive256_length _ _) (by decide +kernel) (by decide +kernel), _, key_blob_unwraps 3 0 [] _ _ rfl (derive256_length _ _) rfl⟩,
    ring_turn_of (by decide), by decide, by decide, ring_turn_of (by decide), ring_turn_of (by decide)⟩

/-- The owner key of KeysAreInstalledAndErased: any ephemeral key that shares a secret with the device's. -/
theorem witness_OwnerKeyIsInstalled (pub k : List Byte) (hp : pub.length = 96) (hk : ownerWrapKey pub = some k) :
    let a := withW1 3 0 1 (args 0 0x2000 168 0 0)
    RingTurn 0x48 a run0 ∧ a.w3.toNat = keyLength 1 ∧ run0.keyRefusal 1 0 = csOk ∧ blobFits 1 0 (keyBlob 1 0 pub k run0) = true
      ∧ ∃ key, keyUnwrap 1 (keyBlob 1 0 pub k run0) run0 = some key := by
  have hl : k.length = 32 := by
    simp only [ownerWrapKey, Option.map_eq_some_iff] at hk
    obtain ⟨z, -, rfl⟩ := hk
    simp [sha384_length]
  have hw : wrapping 1 (keyBlob 1 0 pub k run0) run0 = some k := by
    have hh : (blobHead 1 0).length = 24 := by simp [blobHead, toBytes]
    have : ((keyBlob 1 0 pub k run0).drop 24).take 96 = pub := by
      rw [keyBlob, List.drop_left' hh, List.take_left' hp]
    simp only [wrapping, this, hk]
    rfl
  exact ⟨ring_turn_of (by decide), by decide, by decide, key_blob_fits 1 0 pub k run0 hp hl (by decide +kernel) (by decide +kernel),
    _, key_blob_unwraps 1 0 pub k run0 hp hl hw⟩

/-- What HostWrite asks, as a check. -/
def hostWriteOk (port off : Nat) (s : State) : Bool :=
  decide (port < 8) && s.running && s.funcUp port 0 && s.qmg.stalled.isEmpty && !s.sleeps (hostDomain port) && !s.ideHolds port
    && (blockAt off).all (fun b => decide (s.gateRefuses b.code (off - b.map.base) 8 ⟨256 * port, none, true⟩ = none))

theorem host_write_of {port off : Nat} {s : State} (h : hostWriteOk port off s = true) : HostWrite port off s := by
  simp only [hostWriteOk, Bool.and_eq_true, decide_eq_true_eq, Bool.not_eq_true', List.isEmpty_iff] at h
  obtain ⟨⟨⟨⟨⟨⟨h1, h2⟩, h3⟩, h4⟩, h5⟩, h6⟩, h7⟩ := h
  refine ⟨h1, h2, h3, h4, h5, h6, fun b hb => ?_⟩
  rw [hb] at h7
  simpa using h7

theorem witness_RegisterWritesTakeEffect :
    ((Instr.eyeMeasureStart 0 0 511 1).regRow? = some (0, 0, ⟨.lnsEyeCtrl, 511, 0⟩, 1) ∧ (Instr.eyeMeasureStart 0 0 511 1).wf = true
      ∧ HostWrite 0 (regAddr .lnsEyeCtrl 511 0) run0)
    ∧ (HostWrite 0 (regAddr .hifSem 0 0) run0 ∧ regAt (regAddr .hifSem 0 0) = some ⟨.hifSem, 0, 0⟩ ∧ Reg.hifSem.info.cs = false)
    ∧ (shadowAt (regAddr .rteDims 0 0) = some ⟨.rteDims, 0, 0⟩ ∧ HostWrite 0 (regAddr .rteDims 0 0) run0 ∧ run0.cmd.shadow ≠ 2)
    ∧ (HostWrite 0 (regAddr .cmdPi 0 0) run0 ∧ dist (16 : Pos) run0.cmdPi ≠ 0 ∧ dist (16 : Pos) run0.cmdCi = 2 ^ run0.ringK)
    ∧ (HostWrite 0 (regAddr .cmdRingBase 0 0) { run0 with regs := [] } ∧ ({ run0 with regs := [] } : State).fld .cmdRingBase 0 63 63 = 0)
    ∧ (HostWrite 0 (regAddr .secLock 0 0) run0 ∧ run0.regsRising = true ∧ run0.secLocked = false)
    ∧ HostWrite 0 (regAddr .secAuditCtrl 0 0) run0 ∧ HostWrite 0 (regAddr .sysCtrl 0 0) run0 :=
  ⟨⟨rfl, by decide, host_write_of (by decide +kernel)⟩, ⟨host_write_of (by decide), by decide +kernel, by decide⟩, ⟨by decide +kernel, host_write_of (by decide), by decide⟩,
    ⟨host_write_of (by decide), by decide, by decide⟩, ⟨host_write_of (by decide), by decide⟩, ⟨host_write_of (by decide), by decide, by decide⟩,
    host_write_of (by decide), host_write_of (by decide)⟩

theorem bar2_write (page off : Nat) (hp : page < 2048) (ho : off < 0x1000) (s : State) (h : s = run0 ∨ s = world ∨ s = withQueues [{ queue 0x1002 .sq .active with resid := .evicted }] run0) :
    Bar2Write 0 0 page off s := by
  rcases h with rfl | rfl | rfl <;> exact ⟨by decide, by decide, by decide, by decide, by decide, by decide, hp, ho⟩

theorem witness_DoorbellsReachTheirQueues :
    let s := withQueues [{ queue 0x1002 .sq .active with resid := .evicted }] run0
    (Bar2Write 0 0 8 16 world ∧ world.queue? (8 * 512 + 16 / 8) = some (queue 0x1002 .sq .active) ∧ bits (word 5).toNat 59 32 = 0)
    ∧ (Bar2Write 0 0 8 16 s ∧ s.queue? (8 * 512 + 16 / 8) = some { queue 0x1002 .sq .active with resid := .evicted } ∧ s.dbRoom 0x1002 = true)
    ∧ (Bar2Write 0 0 2047 0xFFF run0 ∧ run0.queue? (2047 * 512 + 0xFFF / 8) = none)
    ∧ Reg.hifSem.info.n1 - 1 < Reg.hifSem.info.n1 ∧ run0.ideHolds 0 = false
      ∧ ∀ w, run0.gateRefuses 0x09 (semBase + 8 * (Reg.hifSem.info.n1 - 1) - 0x100000) 8 ⟨256 * 0, none, w⟩ = none :=
  ⟨⟨bar2_write 8 16 (by decide) (by decide) world (.inr (.inl rfl)), by decide, by decide⟩,
    ⟨bar2_write 8 16 (by decide) (by decide) _ (.inr (.inr rfl)), by decide, by decide⟩,
    ⟨bar2_write 2047 0xFFF (by decide) (by decide) run0 (.inl rfl), by decide⟩, by decide, by decide, by decide⟩

theorem witness_OutsideCommandsAreAnswered :
    let r : RemoteCmd := { seq := 3, pos := 0, deadline := 1000, opcode := 0, tag := 0, mid := 0, target := 5, obj := (0, 0, 0) }
    let s := { run0 with cmd := { run0.cmd with remote := [r] }, sec := { run0.sec with fabricKey := true } }
    let f := (run0.setReg .cmdFabCtrl 0 0 (2 ^ 63 + 7))
    let u := { f with sec := { f.sec with fabricKey := true } }
    let b := { State.reset with sys := { Sys.reset with stage := .fwLoad, bootSel := 2 }, clk := { Clk.reset with refOk := true } }
    (run0.mctpCount < 4 ∧ outsideOp 0x42 = true ∧ run0.cmd.outside = [] ∧ run0.cmd.working = [] ∧ run0.blocked 0x42 false true none (objectOf 0x42 args0) = false
      ∧ run0.auditBlocks = false ∧ run0.gateRefuses 0x17 0 1 ⟨0x890, none, true⟩ = none)
    ∧ (u.fld .cmdFabCtrl 0 63 63 = 1 ∧ 7 % 2 ^ 27 = u.fld .cmdFabCtrl 0 26 0 ∧ u.sec.fabricKey = true ∧ u.running = true)
    ∧ run0.fld .cmdFabCtrl 0 63 63 = 0
    ∧ (s.cmd.remote.find? (fun r => r.seq = 3) = some r ∧ s.sec.fabricKey = true ∧ 5 % 2 ^ 24 = r.target)
    ∧ (run0.sys.deadbolt = .none ∧ run0.sys.pwrOk = true ∧ run0.sys.stage = .run)
    ∧ b.alive = true ∧ b.clk.refOk = true ∧ b.sys.stage = .fwLoad ∧ b.sys.bootSel = 2 :=
  ⟨⟨by decide, by decide, by decide, rfl, by decide, by decide, by decide⟩, ⟨by decide, by decide, by decide, by decide⟩, by decide,
    ⟨by decide, by decide, by decide⟩, ⟨by decide, by decide, by decide⟩, by decide, by decide, by decide, by decide⟩

/-- A host request of a kind, outstanding. -/
def req (use : ReqFor) : HostReq := { id := 1, port := 0, mid := 0, addr := 0, len := 8, use := use, held := [], live := 1, at_ := 0 }

def withReq (use : ReqFor) (s : State) : State := { s with hif := { s.hif with reqs := [req use], nextReq := 2 } }

def walk1 : Walk :=
  { id := 1, host := 0, asid := 1, va := 0, write := false, unit := 0, fetch := false, level := 3, table := 0, active := true, cas := none, casAddr := 0
    stale := false, waiters := [], readers := [], seen := [], cached := false, gen := 0 }

theorem witness_HostAnswersReachTheirRequests :
    let w := { withReq (.walk 1) run0 with xlt := { Xlt.reset with walks := [walk1] } }
    let q := { queue 0x1002 .sq .active with fetch := { fetchNew 0 0 with waitGap := true } }
    (∀ u, u ∈ [ReqFor.ring 0 0 1, .walk 1, .adCas 1, .atomicOp key0 0 0 0, .payload 1] → (withReq u run0).hostReq? 1 = some (req u))
    ∧ (ReqFor.ring 0 0 1).isRing = true ∧ (ReqFor.walk 1).isWalk = true ∧ (ReqFor.adCas 1).isCas = true ∧ (ReqFor.atomicOp key0 0 0 0).isAtomic = true
    ∧ (ReqFor.payload 1).isRead = true
    ∧ (withReq (.walk 1) run0).hif.reqs.find? (fun r => r.id = 1 && r.live ≠ 0) = some (req (.walk 1))
    ∧ (w.hostReq? 1 = some (req (.walk 1)) ∧ (dropReq (req (.walk 1)) w).xlt.walks.find? (fun y => y.id = 1) = some walk1)
    ∧ ((withQueues [q] run0).epUp = true ∧ (withQueues [q] run0).queue? 0x1002 = some q ∧ q.fetch.waitGap = true)
    ∧ run0.alive = true ∧ (run0.hport 0).up = true :=
  ⟨by decide, by decide, by decide, by decide, by decide, by decide, by decide, ⟨by decide, by decide⟩, ⟨by decide, by decide, by decide⟩, by decide,
    by decide⟩

/-- An SQ whose head is a NOP, taken by prefetch. -/
def readyQueue : Queue :=
  { queue 0x1002 .sq .active with fetch := { fetchNew 1 1 with taken := [{ pos := 0, ws := word (at_ 61 3) :: List.replicate 7 0 }] } }

theorem witness_JobsAreTakenAndStarted :
    let w (op : Nat) : List Word := [word (at_ 61 3 + at_ 48 op), 0, 0, 0, 0, 0, 0, 0]
    let j (op : Nat) := { job 1 0x1002 .accepted (w op) with recOp := op }
    let s (op : Nat) := withJobs [j op] world
    let r := withQueues [readyQueue, queue 0x1003 .cq .active] world
    (r.epUp = true ∧ r.qmg.queues.filter r.ready = [readyQueue] ∧ r.queue? readyQueue.qid = some readyQueue ∧ 1 ≤ r.partWeight (partNum readyQueue)
      ∧ 1 ≤ r.qidWeight readyQueue.qid)
    ∧ ((s opNop).epUp = true ∧ (s opNop).startable 0x1002 = some (j opNop) ∧ (s opNop).job? 1 = some (j opNop)
      ∧ (s opNop).domainOn (engineDomain 0) = true ∧ (j opNop).gen = (s opNop).cmd.gen ∧ dFtab (w opNop) = false)
    ∧ (∀ op, op ∈ [opTcancel, opTrecv, opChorus, opSend, opTsend, opPut, opGet, opAtomic, opLockAcquire, opLockRelease] →
      (s op).startable 0x1002 = some (j op) ∧ dFtab (w op) = false ∧ (s op).keyMissing 1 = false ∧ (s op).txPort 0x1002 = none)
    ∧ (world.epUp = true ∧ world.queue? 0x1005 = some (queue 0x1005 .srq .active) ∧ world.sleeps (engineDomain 0) = false) :=
  ⟨⟨by decide, by decide, by decide, by decide, by decide⟩, ⟨by decide, by decide, by decide, by decide, by decide, by decide⟩, by decide, by decide,
    by decide, by decide⟩

def sendHalf (state : SendState) (out : List OutPkt) : SendHalf :=
  { state := state, openNum := 1, nextPsn := 1, initPsn := 0, epoch := 0, srtt := none, rttvar := 0, timeouts := 0, timerAt := some 0, openedAt := 0
    openBackoff := 0, openHold := false, noRoute := some 0, out := out, queue := [], haltHead := none }

def recvHalf : RecvHalf :=
  { remoteOpen := 1, head := 0, map := 0, op := none, epoch := 0, unacked := 1, unackedAt := some 0, ceCount := 0, gapAt := some 0, nacked := none
    held := [], refused := none, behind := false }

def outPkt : OutPkt :=
  { pkt := packet0, epoch := 0, op := .withdraw, sentAt := 0, sent := true, retried := false, holdUntil := some 0, refusedAt := none, backoff := 0, src := none, again := .no }

def peer1 (send : SendHalf) : Peer :=
  { key := key0, remoteInc := some 0, toldRestart := false, path := none, send := some send, recv := some recvHalf, resident := .resident, lastUse := 0, due := false
    closing := some 0, rate := 1000, lastDec := none, lastMark := none, eligible := 0, keys := [] }

def withPeer (p : Peer) (s : State) : State := { s with trn := { s.trn with peers := [p] } }

theorem witness_ContextsComeAndGo :
    let e := { queue 0x1002 .sq .active with resid := .evicting }
    let f := { queue 0x1002 .sq .active with resid := .fetching }
    let c := { queue 0x1003 .cq .active with sink := { sinkAt 0 0 with refusal := some 0 } }
    let p := { peer1 (sendHalf .opened []) with resident := .fetching }
    let l := { world with bank0 := [(regAddr .qmgEvictCtrl 0 0, word (at_ 32 40000 + 39999))] }
    (l.epUp = true ∧ l.cacheFree < l.lowWater ∧ oldestQueue (l.qmg.queues.filter l.evictable) = some (queue 4 .eq .active))
    ∧ ((withQueues [e] run0).queue? 0x1002 = some e ∧ (withQueues [f] run0).queue? 0x1002 = some f ∧ ∀ r ∈ run0.gates, r.gate < 0x20 ∨ 0x40 ≤ r.gate)
    ∧ (withPeer p run0).peer? key0 = some p
    ∧ (withQueues [c] run0).queue? 0x1003 = some c ∧ c.sink.refusal = some 0 :=
  ⟨⟨by decide, by decide, by decide⟩, ⟨by decide, by decide, by decide⟩, by decide, by decide, by decide⟩

theorem witness_PacketsReachTransport :
    let s := withPeer (peer1 (sendHalf .opened [])) run0
    (∀ k, k ∈ [ArrivalKind.data, .result] → (∀ d ∈ s.domainsFor k packet0, s.domainOn d = true) ∧ ∀ x ∈ s.qmg.asleep, peerOf x.pkt ≠ peerOf packet0)
    ∧ (peerAway (peerOf packet0) s = false ∧ (∀ x ∈ s.qmg.pond, peerOf x.pkt ≠ peerOf packet0) ∧ behindParked packet0 s = false
      ∧ s.missingOf (neededQueues packet0 s) = none ∧ s.fab.handed = [] ∧ s.fab.passing = [] ∧ s.arrivalGen packet0 = s.cmd.gen ∧ s.peer? (peerOf packet0) = some (peer1 (sendHalf .opened []))
      ∧ packet0.dstInc = s.incarnation % 65536 ∧ s.protects packet0.pkey = false)
    ∧ (dist (4097 : Pos) recvHalf.head = 4097 ∧ dist (0 : Pos) recvHalf.head = 0 ∧ dist (1 : Pos) recvHalf.head = 1
      ∧ recvHalf.has 1 = false ∧ recvHalf.refuses 1 = false ∧ recvHalf.deliverable { packet0 with psn := 1 } = true)
    ∧ s.epUp = true ∧ s.tagBad packet0 true = false ∧ Awake .result packet0 ((takePassing packet0 s).view (s.arrivalGen packet0))
    ∧ Awake .data packet0 (s.view (s.arrivalGen packet0)) ∧ ({ world with rma := { world.rma with partitions := [⟨1, true, 1⟩] } } : State).protects 1 = true :=
  ⟨by decide, ⟨by decide, by decide, by decide, by decide, by decide, rfl, by decide, by decide, by decide, by decide⟩,
    ⟨by decide, by decide, by decide, by decide, by decide, by decide⟩, by decide, by decide, ⟨by decide, by decide⟩, ⟨by decide, by decide⟩, by decide⟩

theorem witness_ControlPacketsReachTheirPeer :
    let h := sendHalf .opening [outPkt]
    let s := withPeer (peer1 h) run0
    (Instr.controlRow? (.ackArrival packet0) = some (.ack, packet0) ∧ Awake .control packet0 ((takePassing packet0 s).view (s.arrivalGen packet0))
      ∧ PeerHere (peerOf packet0) ((takePassing packet0 s).view (s.arrivalGen packet0)))
    ∧ (s.peer? (peerOf packet0) = some (peer1 h) ∧ (peer1 h).remoteInc = some packet0.srcInc ∧ h.out.find? (fun o => o.pkt.psn = packet0.psn) = some outPkt
      ∧ h.state = .opening ∧ h.initPsn = packet0.psn ∧ ({ packet0 with e0 := word s.incarnation } : Packet).e0.toNat % 2 ^ 32 = s.incarnation)
    ∧ (peer1 h).closing.isSome = true ∧ closeEchoed (peer1 h) { packet0 with psn := 1 } = true :=
  ⟨⟨rfl, ⟨by decide, by decide⟩, ⟨by decide, by decide⟩⟩, ⟨by decide, by decide, by decide, by decide, by decide, by decide⟩, by decide, by decide⟩

theorem witness_TransportTimersAct :
    let h := sendHalf .opened [outPkt]
    let s := withPeer (peer1 h) run0
    s.running = true ∧ s.peer? key0 = some (peer1 h) ∧ h.timerAt = some 0 ∧ h.out.find? (fun o => o.pkt.psn = 0) = some outPkt
      ∧ outPkt.holdUntil = some 0 ∧ h.noRoute = some 0 ∧ recvHalf.unackedAt = some 0 ∧ recvHalf.gapAt = some 0 ∧ (peer1 h).closing = some 0
      ∧ (sendHalf .opening []).openHold = false ∧ ({ sendHalf .opening [] with openHold := true } : SendHalf).state = .opening :=
  ⟨by decide, by decide, rfl, by decide, rfl, rfl, rfl, rfl, rfl, rfl, rfl⟩

def chunk1 : Chunk :=
  { block := 0, idx := 0, lastc := true, attempt := 0, upAttempt := 0, from_ := [0], part := [], vals := [], bytes := [], elems := none, poison := false
    forwarded := false, gen := 0 }

def op1 : ChorusOp :=
  { opseq := 0, coll := 2, oper := 0, dtype := 0, root := 0, given := none, last := none, top := 0, asked := [], later := [], chunks := [chunk1], results := []
    members := [] }

theorem witness_ObjectTimersAct :
    let r : ResultLog := { psn := 0, opseq := 0, pkt := packet0, left := [3], sentAt := 0, epoch := 0 }
    let f : McFlow := { dim := 0, openNum := 0, next := 1, epoch := 0, log := [r], misses := [(3, 255)] }
    let g := { group1 .active with flows := [f], expectChildren := 1, named := [3] }
    let t := { group1 .active with ops := [op1], locals := [(0, 0x1002, 0)], expectLocal := 1, rootFa := 1 }
    let s := withSvc (fun x => { x with groups := [g], ctxs := [{ ctx1 with refusedAt := some 0 }] }) world
    let u := { withSvc (fun x => { x with groups := [t] }) world with bank0 := [(regAddr .rteDims 0 0, word (at_ 36 3))] }
    let d := { run0 with rma := { Rma.reset with regions := [region1 .draining] } }
    let v := { run0 with xlt := { Xlt.reset with invals := [{ id := 1, chan := .ring 0, scope := ⟨2, 0, 0, 0, false⟩, started := true, waited := false, applied := true, acked := false }] } }
    (s.epUp = true ∧ s.group? 1 = some g ∧ g.flows.find? (fun f => f.dim = 0) = some f ∧ f.log = [r]
      ∧ f.misses.find? (fun x => decide (atLeast1 (s.fld .chrCtrl 0 31 24) ≤ x.2)) = some (3, 255))
    ∧ (g.state = .active ∧ g.children.length < g.expectChildren ∧ g.named.find? (fun c => !(c ∈ g.children)) = some 3)
    ∧ (u.group? 1 = some t ∧ t.op? 0 = some op1 ∧ chunkReady t false op1 chunk1 = true ∧ t.isRoot u = false ∧ t.parent u = some 1
      ∧ op1.coll ≠ 1)
    ∧ s.ctx? 1 = some { ctx1 with refusedAt := some 0 }
    ∧ d.rma.regions.find? (fun r => r.index = 1 && r.state == .draining) = some (region1 .draining)
    ∧ v.xlt.invals.find? (fun i => i.id = 1 && i.applied) = some { id := 1, chan := .ring 0, scope := ⟨2, 0, 0, 0, false⟩, started := true, waited := false, applied := true, acked := false }
      ∧ v.invalBusy ⟨2, 0, 0, 0, false⟩ = false :=
  ⟨⟨by decide, by decide, by decide, by decide, by decide⟩, ⟨by decide, by decide, by decide⟩,
    ⟨by decide, by decide, by decide, by decide, by decide, by decide⟩, by decide, by decide, by decide, by decide⟩

theorem witness_PacingActs :
    let s := withPeer (peer1 (sendHalf .opened [])) world
    let c := s.setReg .qosCcCtrl 0 0 (2 ^ 63)
    let p := s.setReg .qosSampleCtrl 0 0 (2 ^ 63)
    let d := { run0 with fab := { run0.fab with deferred := [{ ep := 7, tc := 0, wait := none, pkts := [swPkt0] }] } }
    (s.epUp = true ∧ s.peer? key0 = some (peer1 (sendHalf .opened [])) ∧ s.queue? 0x1002 = some (queue 0x1002 .sq .active))
    ∧ (d.sliceDead (sliceOf (.ep 7)) = false ∧ d.dieStopped (sliceOf (.ep 7) / 4) = false ∧ d.fabRunning = true
      ∧ d.fab.deferred.find? (fun x => x.ep = 7 && x.tc = 0) = some { ep := 7, tc := 0, wait := none, pkts := [swPkt0] }
      ∧ d.roomFor (.ep 7) swPkt0.vc (cellsOf swPkt0.len) = true ∧ police 7 swPkt0 d = (.color 0, d))
    ∧ (chainOn 0 0 0 3 d).1 = .color 1
    ∧ c.fld .qosCcCtrl 0 63 63 = 1 ∧ c.peer? key0 = some (peer1 (sendHalf .opened [])) ∧ p.fld .qosSampleCtrl 0 63 63 = 1 :=
  ⟨⟨by decide, by decide, by decide⟩, ⟨by decide, by decide, by decide, by decide, by decide, by decide⟩, by decide, by decide, by decide, by decide⟩

/-- Host port 0 with other fields. -/
def withHport (f : HostPort → HostPort) (s : State) : State := updPort 0 f s

theorem witness_HostPortsResetAndTrain :
    let v := withHport (fun p => { p with vfEnable := true, numVfs := 255 }) run0
    let r := withHport (fun p => { p with inReset := true, up := false }) run0
    let t := withHport (fun p => { p with training := true, up := false }) { run0 with clk := { Clk.reset with monitors := [{ src := 0x50, state := 2, ppm := 0, since := 0 }] } }
    let n := { run0 with sys := { run0.sys with stage := .fwLoad } }
    let d := withHport (fun p => { p with funcs := [{ Func.fresh 0 256 with draining := some 0 }] }) run0
    (run0.alive = true ∧ (run0.hport 0).up = true ∧ run0.funcUp 0 0 = true ∧ (run0.hport 0).vfEnable = false ∧ (run0.hport 0).inReset = false
      ∧ ConfigServed run0)
    ∧ (n.alive = true ∧ (n.hport 0).up = true ∧ n.sys.stage ≠ .run ∧ n.sys.stage ≠ .warmQuiesce ∧ n.sys.stage ≠ .warmRestore)
    ∧ (v.alive = true ∧ (v.hport 0).up = true ∧ (v.hport 0).vfEnable = true) ∧ (r.alive = true ∧ (r.hport 0).inReset = true)
    ∧ (t.alive = true ∧ (t.hport 0).training = true ∧ (t.hport 0).inReset = false ∧ (t.hport 0).up = false ∧ t.linkEnabled 0 = true
      ∧ t.sys.silenced = false ∧ t.clockGood 0x50 = true ∧ linkOk 6 8 = true ∧ linkOk 3 4 = true ∧ linkOk 2 4 = false ∧ linkOk 7 8 = false)
    ∧ d.func? 0 = some { Func.fresh 0 256 with draining := some 0 } ∧ d.funcWork 0 = 0 :=
  ⟨⟨by decide, by decide, by decide, by decide, by decide, .inl rfl⟩, ⟨by decide, by decide, by decide, by decide, by decide⟩, ⟨by decide, by decide, by decide⟩, ⟨by decide, by decide⟩,
    ⟨by decide, by decide, by decide, by decide, by decide, by decide, by decide, by decide, by decide, by decide, by decide⟩, by decide, by decide⟩

def entry0 : QEntry :=
  { pid := 1, pkt := { swPkt0 with vc := 0 }, since := 0, wait := some 0, color := 0, avoid := none, detour := none, residue := false, mirror := false, job := none
    begun := false, stalled := false }

def stored0 : Stored :=
  { pid := 1, slice := 7, src := .mgmt, vc := 0, cells := 1, whole := true, seq := 0, shared := true, ended := false, mcast := false, gen := 0 }

/-- A router with one line of 4, an output with one packet queued, and other registers. -/
def withOut (o : Output) (e : QEntry) (s : State) : State :=
  { s with bank0 := [(regAddr .rteDims 0 0, word (at_ 36 3))]
           fab := { s.fab with
             stored := [stored0], nextPid := 2
             egress := [{ out := o, q := [e], deficit := [0, 0, 0], visited := [false, false, false], cur := 2 }] } }

theorem witness_SwitchMovesPackets :
    let q := { swPkt0 with body := .packet packet0 }
    let s := withOut (.port 127) entry0 run0
    let f := withPorts [{ Port.reset 127 with state := .up, creditIn := List.replicate 8 1000 }] [] s
    let w : WinEntry := { seq := 0, pid := 1, cells := 1, pkt := swPkt0, spilled := false }
    let g := withPorts [{ Port.reset 127 with state := .up, win := [w], again := 1 }] [] s
    let k := withOut (.ep 7) entry0 run0
    let r := withOut (.port 127) { entry0 with residue := true } run0
    let a := run0.setReg .swcAudit 7 0 (2 ^ 63)
    let m := { s with bank0 := s.bank0 ++ [(regAddr .rteMapCtrl 0 0, word (2 ^ 63))] }
    (SliceWorks (127 / 16) run0 ∧ SliceWorks 7 run0 ∧ q.body = .packet packet0 ∧ swPkt0.body = .words [])
    ∧ ((s.egress (.port 127)).q.find? (fun e => e.pid = 1 && !e.mirror && !e.residue && !e.begun && decide (e.pkt.vc < 6) && decide (e.pkt.vc % 2 = 0)) = some entry0
      ∧ entry0.wait = some 0)
    ∧ (f.ethPort 127 = false ∧ (f.port 127).state = .up ∧ (f.port 127).quiet = false ∧ (f.egress (.port 127)).q.any (·.begun) = false
      ∧ (g.port 127).replayNext? = some w ∧ (f.port 127).replayNext? = none ∧ (egressNext (noteStalls (.port 127) f) (.port 127)).1 = some entry0)
    ∧ ((egressNext (noteStalls (.ep 7) k) (.ep 7)).1 = some entry0 ∧ entry0.mirror = false ∧ k.dieStopped (7 / 4) = false)
    ∧ (r.egress (.port 127)).q.find? (fun e => e.pid = 1 && e.residue) = some { entry0 with residue := true }
    ∧ a.fldI .swcAudit 7 0 63 63 ≠ 0
    ∧ (s.cvecPeriod ≠ 0 ∧ s.dims ≠ 0 ∧ s.unresolved 3 = [0] ∧ s.routable 3 = true ∧ ∀ v ∈ s.fab.vectors, v.dim = 0 → v.coord = coordOf 3 0 → 0 < subMod (2 ^ 32) 0 v.seq)
    ∧ m.fld .rteMapCtrl 0 63 63 ≠ 0 :=
  ⟨⟨⟨by decide, by decide, by decide⟩, ⟨by decide, by decide, by decide⟩, rfl, rfl⟩, ⟨by decide, by decide⟩,
    ⟨by decide, by decide, by decide, by decide, by decide, by decide, by decide +kernel⟩, ⟨by decide +kernel, by decide, by decide⟩, by decide, by decide,
    ⟨by decide, by decide, by decide, by decide, by decide⟩, by decide⟩

theorem witness_LinkFramesAreTaken :
    let p := { Port.reset 127 with state := .up, rxValid := true, map := 15, locked := true }
    let s := withPorts [p] [] run0
    let m := marker0
    let h := withPorts [{ p with state := .init, rxValid := false }] [] run0
    let a := withPorts [{ p with win := [{ seq := 0, pid := 1, cells := 1, pkt := swPkt0, spilled := false }], again := 1, sbSeen := some 7 }] [] run0
    (s.fabRunning = true ∧ s.linkReceives 127 = true ∧ swPkt0.vc < 8 ∧ (onLinkAck 127 (s.seqMod 127 - 1) s).linkReceives 127 = true)
    ∧ (a.notReached 127 0 = true ∧ s.notReached 127 0 = false ∧ (a.port 127).countDue = some 8 ∧ m.count ≠ 8 ∧ (s.port 127).countDue = none
      ∧ m.map ≠ (s.port 127).map ∧ ({ m with map := 15 } : Marker).map = (s.port 127).map ∧ a.linkReceives 127 = true)
    ∧ (let u := onLinkAck 127 (subMod (s.seqMod 127) 0 1) (linkBusy 127 s); (u.port 127).state = .up ∧ (u.port 127).oldest = 0 % u.seqMod 127)
    ∧ (s.ethPort 127 = false ∧ (s.port 127).map ≠ 0 ∧ (s.port 127).locked = true ∧ m.crcOk = true ∧ m.sync = true ∧ m.audit = none
      ∧ ({ m with crcOk := false } : Marker).crcOk = false)
    ∧ (s.dieStopped (127 / 16 / 4) = false ∧ h.linkReceives 127 = false ∧ h.linkHears 127 = true ∧ run0.linkReceives 127 = false
      ∧ run0.linkHears 127 = false) :=
  ⟨⟨by decide, by decide, by decide, by decide +kernel⟩, ⟨by decide, by decide, by decide, by decide, by decide, by decide, by decide, by decide⟩,
    ⟨by decide +kernel, by decide +kernel⟩,
    ⟨by decide, by decide, by decide, rfl, rfl, rfl, rfl⟩, ⟨by decide, by decide, by decide, by decide, by decide⟩⟩

theorem witness_LinkTimersAct :
    let w : WinEntry := { seq := 0, pid := 1, cells := 1, pkt := swPkt0, spilled := false }
    let p := { Port.reset 127 with state := .up, rxValid := true, map := 15, locked := true, win := [w], reqFor := some 0, ackPending := true,
                                   blocked := [(7, 0)], errors := 65536 }
    let i := { Port.reset 127 with state := .init, locked := true }
    let g := { Port.reset 127 with state := .grace, downAt := some 0 }
    let s := { withPorts [p] [] run0 with bank0 := [(regAddr .llrAudit 127 0, 0)] }
    let u := withPorts [i] [] run0
    let v := withPorts [g] [] run0
    let q := withPorts [{ p with quietReq := true }] [] run0
    (s.fabRunning = true ∧ s.ethPort 127 = false ∧ (s.port 127).map ≠ 0 ∧ s.fldI .llrAudit 127 0 63 63 = 0 ∧ (s.port 127).state = .up
      ∧ (s.port 127).win ≠ [] ∧ s.linkReceives 127 = true ∧ (s.port 127).reqFor = some (s.port 127).expected ∧ (s.port 127).ackPending = true
      ∧ assoc 7 (s.port 127).blocked = some 0 ∧ atLeast1 (s.fldI .llrErrWindow 127 0 47 32) ≤ s.windowErrors 127)
    ∧ ((u.port 127).state = .init ∧ (u.port 127).locked = true ∧ u.ethPort 127 = false ∧ modeOf 0 = u.mode 127 ∧ modeOf 1 ≠ u.mode 127) ∧ ((v.port 127).downAt = some 0
      ∧ (s.port 127).quietReq = false ∧ (q.port 127).quietReq = true ∧ q.quietMay 127 = false ∧ (q.port 127).quiet = false) :=
  ⟨⟨by decide, by decide, by decide, by decide, by decide, by decide, by decide, by decide, by decide, by decide, by decide⟩,
    ⟨by decide, by decide, by decide, by decide, by decide⟩, ⟨by decide, by decide, by decide, by decide, by decide⟩⟩

/-- Port 127 runs as an Ethernet service port that is up. -/
def ether0 (p : Port) (s : State) : State := { withPorts [p] [] s with bank0 := [(regAddr .llrCtrl 127 0, word (2 ^ 8 + 2))] }

theorem witness_EthernetPortsWork :
    let p := { Port.reset 127 with state := .up, xoff := [(7, 0)], paused := [(7, 5)] }
    let e := { entry0 with pkt := { swPkt0 with body := .frame [] } }
    let s := ether0 p run0
    let u := { withOut (.port 127) e s with bank0 := s.bank0 }
    (s.ethUp 127 = true ∧ s.fabRunning = true ∧ ethNext (noteStalls (.port 127) u) 127 = some e ∧ u.ethUp 127 = true ∧ e.job = none ∧ e.mirror = false)
    ∧ (assoc 7 (s.port 127).xoff = some 0 ∧ s.prioCells 127 7 < s.xon 127 ∧ assoc 7 (s.port 127).paused = some 5)
    ∧ ({ s with bank0 := s.bank0 ++ [(regAddr .llrEthPfc 127 0, 0)] } : State).xon 127 ≤ s.prioCells 127 7
    ∧ bit (s.fldI .llrEthCtrl 127 0 63 56) 7 = false
      ∧ bit (({ s with bank0 := s.bank0 ++ [(regAddr .llrEthCtrl 127 0, word (2 ^ 63))] } : State).fldI .llrEthCtrl 127 0 63 56) 7 = true :=
  ⟨⟨by decide, by decide, by decide +kernel, by decide, rfl, rfl⟩, ⟨by decide, by decide, by decide⟩, by decide, by decide, by decide⟩

theorem witness_LanesAcquireAndLock :
    let s := withPorts [] [{ Lane.reset 511 with state := .fast, locked := true, readyRun := 7 }] run0
    let f := withPorts [] [{ Lane.reset 511 with state := .full, fails := 255 }] run0
    let a := withPorts [] [{ Lane.reset 511 with state := .active }] run0
    let o := withPorts [] [{ Lane.reset 511 with state := .full, silent := true, eye := true, locked := true }] run0
    let p := withPorts [{ Port.reset 127 with state := .training, map := 8 }] [{ Lane.reset 511 with state := .ready }] run0
    let z := withPorts [{ Port.reset 127 with state := .up, quiet := true, map := 8, wakeAt := some 0 }] [{ Lane.reset 511 with state := .ready }] run0
    let st := at_ 28 0xA + at_ 26 3 + at_ 25 1
    let st := st + trainCrc st
    let k := withPorts [{ Port.reset 127 with state := .init, locked := true, map := 15 }] [] run0
    let d := withPorts [{ Port.reset 127 with state := .training, readyAt := some 0 }] [] run0
    let g := withPorts [{ Port.reset 127 with state := .grace, lostAt := 5 }] [] run0
    let e := { ether0 { Port.reset 127 with state := .training } run0 with fab := { run0.fab with ports := [{ Port.reset 127 with state := .training }], lanes := (List.range 4).map (fun j => { Lane.reset (508 + j) with state := .full }) } }
    let i := { withPorts [{ Port.reset 127 with state := .up }] [] run0 with bank0 := [(regAddr .rteCvecPeriod 0 0, 0), (regAddr .lnsPortCtrl 508 0, word (2 ^ 63))] }
    let q := withPorts [{ Port.reset 127 with state := .up, quiet := true }] [] run0
    let x := { ether0 { Port.reset 127 with state := .up } run0 with fab := { run0.fab with lanes := [{ Lane.reset 511 with state := .active }] } }
    (s.ethPort (lanePort 511) = false ∧ (s.lane 511).state = .fast ∧ bit (s.raw .lnsCtrl 511 0) 4 = false ∧ (s.lane 511).locked = true
      ∧ 7 ≤ (s.lane 511).readyRun ∧ (s.lane 511).miswire = false ∧ bits st 27 26 = 511 % 4 ∧ bit st 25 = true ∧ (run0.lane 511).readyRun < 7
      ∧ trainGood (s.trainRate 511) st = true ∧ trainGood (s.trainRate 511) 0 = false)
    ∧ (p.sliceDead (127 / 16) = false ∧ p.readyMap 127 &&& (p.port 127).map = (p.port 127).map ∧ (p.port 127).state ≠ .disabled
      ∧ markerValid marker0 = true ∧ p.wakeLate 127 = false
      ∧ e.ethPort 127 = true ∧ (e.port 127).state = .training ∧ e.portEnabled 127 = true ∧ e.ethLanesAcquire 127 = true ∧ (k.port 127).locked = true ∧ (d.port 127).readyAt = some 0
      ∧ (g.port 127).state = .grace ∧ (q.port 127).quiet = true ∧ (z.lane 511).state.inUse = true ∧ (z.port 127).wakeAt = some 0)
    ∧ (i.ethPort 127 = false ∧ (i.port 127).state = .up ∧ (i.port 127).quietReq = false ∧ (i.port 127).win = [] ∧ i.quietMay 127 = true ∧ (i.egress (.port 127)).q = [])
    ∧ ((a.lane 511).state.inUse = true ∧ (a.port (lanePort 511)).quietReq = false ∧ (o.lane 511).state.inUse = false ∧ (o.lane 511).silent = true
      ∧ (o.lane 511).eye = true ∧ (o.lane 511).locked = true)
    ∧ ((f.lane 511).state = .full ∧ (f.lane 511).leave = false ∧ atLeast1 (f.fldI .lnsAcq 511 0 31 24) ≤ (f.lane 511).fails + 1
      ∧ (o.lane 511).fails + 1 < atLeast1 (o.fldI .lnsAcq 511 0 31 24) ∧ f.ethPort (lanePort 511) = false
      ∧ (x.ethPort (lanePort 511) = true ∧ (x.lane 511).state = .active ∧ (o.lane 511).chk = none)) :=
  ⟨⟨by decide, by decide, by decide, by decide, by decide, by decide, by decide +kernel, by decide +kernel, by decide, by decide +kernel, by decide⟩,
    ⟨by decide, by decide, by decide, by decide, by decide, by decide, by decide, by decide, by decide, by decide, by decide, by decide, by decide, by decide,
      by decide⟩,
    ⟨by decide, by decide, by decide, by decide, by decide, by decide⟩, ⟨by decide, by decide, by decide, by decide, by decide, by decide⟩,
    ⟨by decide, by decide, by decide, by decide, by decide, by decide, by decide, by decide⟩⟩

def withPwr (f : Pwr → Pwr) (s : State) : State := updPwr f s

theorem witness_PowerIsArbitrated :
    let r : LeaveReq := { op := .exit 46, prio := 1, step := 4, at_ := 0, heldFor := 0, heldAt := none, aged := false }
    let d : Domain := { num := 46, state := .gated, exiting := none, due := some 100, waiting := [] }
    let s := withPwr (fun p => { p with reqs := [r] }) run0
    let n := withPwr (fun p => { p with rampLow := some 0, noticeGrant := some 0 }) run0
    let t := withPwr (fun p => { p with domains := [d] }) run0
    let x := withPwr (fun p => { p with domains := [{ d with exiting := some 0 }], levels := [{ dom := 46, level := 2, win := 0, count := 0, next := 0, demandAt := 0 }], bcaOk := true, overAt := some 0, cls := 7 }) run0
    let y (l : Option Nat) := withPwr (fun p => { p with reqs := [r], notice := some (.exit 46), rampLow := l }) run0
    let w (s : State) := refill ((refill s).advance ((2500 * r.step - (refill s).fab.pwr.credit + (refill s).rampRate - 1) / (refill s).rampRate))
    let e := { t with bank0 := [(regAddr .pwrPred 0 0, 0)] }
    let h (temps : List Int) := updPwr (fun p => { p with sensors := (temps ++ p.sensors.drop temps.length).take 16 })
      (tick 12 (us (atLeast1 (run0.fld .pwrTherm 0 39 32))) run0)
    let warn : Int := 8 * clamp 60 110 (run0.fld .pwrTherm 0 7 0)
    let low : Int := warn - 8 * run0.fld .pwrTherm 0 23 16
    (s.fabRunning = true ∧ s.leaveHead = some r ∧ run0.leaveHead = none
      ∧ (s.fab.pwr.reqs.filter (fun r => decide (0 < r.rank) && !s.bcaHeld r)).foldl (firstAge (us (atLeast1 (s.fld .pwrArbCtrl 0 15 0)))) none = some r)
    ∧ (n.fab.pwr.noticeGrant = some 0 ∧ n.fab.pwr.rampLow.isSome = true ∧ n.fab.pwr.notice = none)
    ∧ (t.domain? 46 = some d ∧ d.due = some 100 ∧ d.exiting = none) ∧ (x.domain? 46 = some { d with exiting := some 0 } ∧ (x.activity 46).level ≠ 0)
    ∧ (x.fab.pwr.bcaOk = true ∧ 8 % 8 = x.fab.pwr.bcaCode ∧ 7 % 8 ≠ x.fab.pwr.bcaCode ∧ x.fab.pwr.overAt = some 0 ∧ x.fab.pwr.cls = 7)
    ∧ (run0.fab.pwr.bcaOk = false ∧ (s.atLevel = [] ∧ ¬ 4 * atLeast1 ((w s).fld .pwrRampLimit 0 39 32) < (w s).recentSteps + r.step ∧ (w s).fab.pwr.notice ≠ some r.op)
      ∧ ((w (y none)).fab.pwr.notice = some r.op ∧ (w (y none)).fab.pwr.rampLow = none ∧ (w (y (some 0))).fab.pwr.notice = some r.op
        ∧ (w (y (some 0))).fab.pwr.rampLow = some 0))
    ∧ (e.fld .pwrPred 0 63 63 = 0 ∧ t.fld .pwrPred 0 63 63 = 1 ∧ (t.advanceTo (100 - exitTime d.state)).nextEvent 46 ≠ some 100)
    ∧ (warn ≤ (h [1000]).tj.1 ∧ (h [warn - 1]).tj.1 < warn ∧ low ≤ (h [warn - 1]).tj.1 ∧ (h []).tj.1 < low)
    ∧ (run0.sys.deadbolt = .none ∧ run0.sys.pwrOk = true)
    ∧ ({ run0 with sys := { run0.sys with railFault := true } } : State).sys.railFault = true :=
  ⟨⟨by decide, by decide, by decide, by decide⟩, ⟨by decide, by decide, by decide⟩, ⟨by decide, by decide, by decide⟩, ⟨by decide, by decide⟩,
    ⟨by decide, by decide, by decide, by decide, by decide⟩,
    ⟨by decide, ⟨by decide, by decide, by decide⟩, by decide, by decide, by decide, by decide⟩, ⟨by decide, by decide, by decide⟩,
    ⟨by decide, by decide, by decide, by decide⟩, ⟨by decide, by decide⟩, rfl⟩

theorem witness_ClocksAndTimeAreKept :
    let c := { State.reset with sys := { Sys.reset with resetN := true } }
    let b := { run0 with clk := { Clk.reset with refOk := true, monitors := [{ src := 2, state := 1, ppm := 0, since := 0 }] } }
    let g := { run0 with clk := { Clk.reset with refOk := true, monitors := [{ src := 0x4F, state := 2, ppm := 0, since := 0 }] } }
    let l (st : Stage) := { b with sys := { b.sys with stage := st } }
    let w := { State.reset with sys := { Sys.reset with stage := .warmQuiesce, quiesced := true }, clk := { Clk.reset with refOk := true, refWait := true } }
    let f := { withPorts [{ Port.reset 127 with state := .up }] [] run0 with
                clk := { Clk.reset with waiting := true, tState := 2, missed := 8 }, bank0 := [(regAddr .clkTimeCtrl 0 0, word (at_ 8 127 + 2))] }
    let k := { run0 with bank0 := f.bank0 }
    (State.reset.alive = true ∧ State.reset.clk.refOk = false ∧ State.reset.sys.resetN = false ∧ c.sys.resetN = true ∧ c.sys.stage = .rom)
    ∧ (b.alive = true ∧ b.clk.refOk = true ∧ b.running = true ∧ monitored 2 = true ∧ (b.monitor 2).state = 1 ∧ (0 : Int).natAbs ≤ b.windowPpm ∧ b.sys.stage ≠ .clocks
      ∧ b.fabRunning = true)
    ∧ ((l .warmQuiesce).alive = true ∧ (l .warmQuiesce).sys.quiesced = false ∧ (l .warmQuiesce).fabRunning = false ∧ (l .clocks).alive = true
      ∧ ((l .clocks).monitor 2).state = 1 ∧ (l .clocks).windowPpm < (100000 : Int).natAbs)
    ∧ (w.alive = true ∧ w.clk.refWait = true ∧ w.clk.refOk = true ∧ w.sys.quiesced = true)
    ∧ (monitored 0x4F = true ∧ (g.monitor 0x4F).state = 2 ∧ g.windowPpm < (100000 : Int).natAbs ∧ bit (g.raw .clkStatus 0 0) 62 = false
      ∧ bit ((g.setReg .clkStatus 0 0 (2 ^ 62)).raw .clkStatus 0 0) 62 = true)
    ∧ (f.fabRunning = true ∧ f.timeRole = 2 ∧ f.parentUp = true ∧ f.timeParent = 127 ∧ f.clk.waiting = true ∧ f.clk.tState = 2 ∧ 8 ≤ f.clk.missed
      ∧ (f.port 127).state = .up ∧ f.ethPort 127 = false)
    ∧ (k.timeRole = 2 ∧ k.parentUp = false) ∧ HostWrite 0 (regAddr .clkDtimeSet 0 0) run0 ∧ run0.regsRising = true :=
  ⟨⟨by decide, by decide, by decide, by decide, by decide⟩, ⟨by decide, by decide, by decide, by decide, by decide, by decide, by decide, by decide⟩,
    ⟨by decide, by decide, by decide, by decide, by decide, by decide⟩,
    ⟨by decide, by decide, by decide, by decide⟩, ⟨by decide, by decide, by decide, by decide, by decide⟩,
    ⟨by decide, by decide, by decide, by decide, by decide, by decide, by decide, by decide, by decide⟩, ⟨by decide, by decide⟩,
    host_write_of (by decide), by decide⟩

theorem witness_ResetsAndSecurityAct :
    let w := { run0 with sys := { run0.sys with stage := .warmQuiesce } }
    let u (ref wait : Bool) := warmLose (settle { w with clk := { Clk.reset with refOk := ref, refWait := wait } })
    let r := { run0 with sys := { run0.sys with stage := .warmQuiesce, quiesced := true }, clk := { Clk.reset with refOk := true } }
    let e := { run0 with sys := { run0.sys with stage := .warmRestore } }
    let h := { run0 with cmd := { run0.cmd with shadow := 3 } }
    let k := { run0 with sec := { run0.sec with unlockShut := true } }
    let t := run0.setReg .secCtrl 0 0 4
    (run0.sys.pwrOk = true ∧ run0.sys.deadbolt = .none ∧ State.reset.sys.resetN = false ∧ boot0.refOk = true ∧ ({ boot0 with refOk := false } : Boot).refOk = false)
    ∧ (w.alive = true ∧ w.sys.stage = .warmQuiesce ∧ w.sys.quiesced = false ∧ ((u true false).clk.refOk = true ∧ (u true false).clk.refWait = false)
      ∧ (u false true).clk.refWait = true)
    ∧ (r.sys.stage = .warmQuiesce ∧ r.sys.quiesced = true ∧ r.clk.refOk = true ∧ r.clk.refWait = false ∧ r.sys.hbmImage = none)
    ∧ (e.alive = true ∧ e.sys.stage = .warmRestore ∧ ∀ p ∈ e.sys.portsBefore, (e.port p).state = .up)
    ∧ (h.cmd.shadow = 3 ∧ h.formerSet = false) ∧ (k.debugRefused true = true ∧ run0.debugRefused true = false) ∧ t.fld .secCtrl 0 2 2 ≠ 0 :=
  ⟨⟨by decide, by decide, by decide, by decide, by decide⟩,
    ⟨by decide, by decide, by decide, ⟨by decide +kernel, by decide +kernel⟩, by decide +kernel⟩, ⟨by decide, by decide, by decide, by decide, by decide⟩,
    ⟨by decide, by decide, by decide⟩, ⟨by decide, by decide⟩, ⟨by decide, by decide⟩, by decide⟩

theorem witness_ServiceAndTelemetryAct :
    let a := (run0.setReg .fltFirstHi 0 0 (2 ^ 63 + 5)).setReg .fltSvcCtrl 0 0 (2 ^ 63 + 2 ^ 62)
    let b := a.setReg .fltSvcCtrl 0 0 0
    let j := withJobs [{ job 1 0x1002 .readData [] with engine := 0 }] world
    let m := { run0 with mem := { run0.mem with migrating := some (31, true) } }
    let t := { run0 with mem := { run0.mem with testing := some 31 } }
    let d := run0.setReg .cntDumpBase 0 0 (2 ^ 63)
    let x := { run0 with dump := { run0.dump with writing := some (0, 0) } }
    let p := { run0 with dump := { run0.dump with pendingCap := [(0, 0)] } }
    let c := (run0.setReg .cntSampleBase 0 0 (2 ^ 63)).setReg .cntSampleMask 0 1 (2 ^ 39)
    let r := run0.setReg .cntTelemRx 0 7 (2 ^ 63)
    let e (s : State) := report .memEccCorrected 0x16 31 (s.drawNat.1 % (24 * 2 ^ 30) + at_ 35 (b1 false)) s.drawNat.2
    (a.epUp = true ∧ j.engineWorks 0 = true ∧ (withSvc (fun x => { x with groups := [{ group1 .active with home := 7, ops := [op1] }] }) a).engineWorks 0x67 = true ∧ 1 < a.activeClusters ∧ a.retiredMpes < 4)
    ∧ (run0.running = true ∧ run0.retireIdle 31 = true ∧ (e a).fld .fltSvcCtrl 0 62 62 = 1 ∧ (e a).retireIdle 31 = true ∧ (e a).retireFits = true
      ∧ (e b).fld .fltSvcCtrl 0 62 62 ≠ 1)
    ∧ (m.mem.migrating = some (31, true) ∧ t.mem.testing = some 31 ∧ min (3 % 65536) 3 = 3 % 65536 ∧ min (3 % 65536) 2 < 3 % 65536)
    ∧ (∃ r ∈ [(0, false)], r.2 = false)
    ∧ (d.fld .cntDumpBase 0 63 63 = 1 ∧ d.dump.writing = none ∧ x.dump.writing = some (0, 0))
    ∧ (p.dump.pendingCap.find? (fun x => x.1 = 0) = some (0, 0) ∧ c.sampled 0x67 = true ∧ c.sleeps (chorusDomain 7) = false ∧ ∀ t ∈ c.dump.pendingCap, t.1 ≠ 0x67)
    ∧ (run0.fld .cntTelemRx 7 63 63 = 0 ∧ r.fld .cntTelemRx 7 63 63 ≠ 0) :=
  ⟨⟨by decide, by decide, by decide, by decide, by decide⟩,
    ⟨by decide, by decide, by decide +kernel, by decide +kernel, by decide +kernel, by decide +kernel⟩, ⟨by decide, by decide, by decide, by decide⟩, by decide,
    ⟨by decide, by decide, by decide⟩, ⟨by decide, by decide, by decide, by decide⟩, by decide, by decide⟩

end Sys2Proof.Tests
end

namespace Sys2Proof.Machine

/-! ### The invariant of every step (R13, R15, R16) -/

/-- Taking a command off the queue leaves well-formed ones. -/
theorem pendingWf_tail {s t : State} (h : s.pendingWf = true) (ht : t.pending = s.pending.tail) : t.pendingWf = true := by
  unfold State.pendingWf at h ⊢
  rw [ht]
  exact List.all_eq_true.2 fun x hx => List.all_eq_true.1 h x (List.mem_of_mem_tail hx)

/-- Settles O6: a step takes a command off the queue and otherwise stays `Within`, which keeps each register file in canonical form. -/
theorem stepKeepsInvariant : Obligations.StepKeepsInvariant := by
  unfold Obligations.StepKeepsInvariant
  intro s t hregs hwf h
  have w := step_within h
  exact ⟨w.regs hregs, pendingWf_tail hwf w.queue⟩

/-- Settles O5: at reset no register differs from its reset value and no command waits. -/
theorem invariantAtReset : Obligations.InvariantAtReset := by
  unfold Obligations.InvariantAtReset
  exact ⟨rfl, rfl⟩

end Sys2Proof.Machine

namespace Sys2Proof.Machine

/-! ### Register files and registers: what a read returns after a store (R13, R15) -/

/-- A file whose offsets begin at lo holds none below. -/
theorem rfGet_below {f : RegFile} : ∀ {lo x : Nat}, rfRising lo f = true → x < lo → rfGet f x = none := by
  induction f with
  | nil => intros; rfl
  | cons e l _ =>
    intro lo x h hx
    simp only [rfRising, Bool.and_eq_true, decide_eq_true_eq] at h
    simp only [rfGet]
    rw [if_neg (by omega), if_pos (by omega)]

/-- An offset that was removed is not listed; canonical form makes its entry the only one. -/
theorem rfGet_erase {f : RegFile} {x : Nat} : ∀ {lo : Nat}, rfRising lo f = true → rfGet (rfErase f x) x = none := by
  induction f with
  | nil => intros; rfl
  | cons e l ih =>
    intro lo h
    simp only [rfRising, Bool.and_eq_true, decide_eq_true_eq] at h
    simp only [rfErase]
    split
    · exact rfGet_below h.2 (by omega)
    · split
      · simp only [rfGet]; rw [if_neg (by assumption), if_pos (by assumption)]
      · simp only [rfGet]; rw [if_neg (by assumption), if_neg (by assumption)]; exact ih h.2

theorem rfGet_erase_ne {f : RegFile} {x y : Nat} (hy : y ≠ x) : ∀ {lo : Nat}, rfRising lo f = true → rfGet (rfErase f x) y = rfGet f y := by
  induction f with
  | nil => intros; rfl
  | cons e l ih =>
    intro lo h
    simp only [rfRising, Bool.and_eq_true, decide_eq_true_eq] at h
    simp only [rfErase]
    split
    · simp only [rfGet]
      rw [if_neg (by omega)]
      split
      · exact rfGet_below h.2 (by omega)
      · rfl
    · split
      · rfl
      · simp only [rfGet, ih h.2]

/-- The register reads as the value stored, cut to 64 bits. -/
theorem raw_setReg_same {s : State} {r : Reg} {i k v : Nat} (hcs : r.info.cs = false) (hr : s.regsRising = true)
    (hd : r.reset k < 2 ^ 64) : (s.setReg r i k v).raw r i k = v % 2 ^ 64 := by
  simp only [State.regsRising, Bool.and_eq_true] at hr
  obtain ⟨⟨hrise, -⟩, -⟩ := hr
  unfold State.raw State.setReg rfPut
  simp only [hcs, Bool.false_eq_true, if_false]
  by_cases hv : word v = word (r.reset k)
  · have := congrArg BitVec.toNat hv
    simp only [word, BitVec.toNat_ofNat, Nat.mod_eq_of_lt hd] at this
    rw [if_pos hv, rfGet_erase hrise]
    exact this.symm
  · rw [if_neg hv, rfGet_insert]
    simp [word]

/-- The other registers read as before, whatever is stored. -/
theorem raw_setReg_other {s : State} {r q : Reg} {i k j l v : Nat} (hr : s.regsRising = true) (h : regAddr q j l ≠ regAddr r i k) :
    (s.setReg r i k v).raw q j l = s.raw q j l := by
  simp only [State.regsRising, Bool.and_eq_true] at hr
  obtain ⟨⟨hrise, -⟩, -⟩ := hr
  by_cases hv : word v = word (r.reset k)
  · unfold State.raw State.setReg rfPut
    rw [if_pos hv]
    cases q.info.cs with
    | true => rfl
    | false => simp only [Bool.false_eq_true, if_false, rfGet_erase_ne h hrise]
  · exact raw_setReg_ne hv h

/-! ### Where registers lie (R13, R541, R542) -/

/-- The spans of the blocks before b end below the offset. -/
theorem blockAt_eq {off : Nat} {b : Block} {l r : List Block} (hs : allBlocks = l ++ b :: r) (hl : ∀ a ∈ l, a.map.last < b.map.base)
    (h1 : b.map.base ≤ off) (h2 : off ≤ b.map.last) : blockAt off = some b := by
  unfold blockAt
  rw [hs, List.find?_append, List.find?_eq_none.2 fun a ha => ?_]
  · simp [h1, h2]
  · have := hl a ha
    simp; omega

/-- A single register holds its own offset alone. -/
theorem elemAt_single {d : RegDef} {x : Nat} (h1 : d.st1 = 0) (h2 : d.st2 = 0) (hx : x ≠ d.off) : elemAt d x = none := by
  unfold elemAt
  split
  · rfl
  · dsimp only
    rw [if_neg (by omega)]

/-- No element of an array of rows lies past its end. -/
theorem elemAt_past {d : RegDef} {x : Nat} (h1 : 0 < d.st1) (hx : d.off + d.st1 * d.n1 ≤ x) : elemAt d x = none := by
  have : d.n1 ≤ (x - d.off) / d.st1 := (Nat.le_div_iff_mul_le h1).2 (by rw [Nat.mul_comm]; omega)
  unfold elemAt
  split
  · rfl
  · simp [show d.st1 ≠ 0 by omega]; omega

/-- Registers that do not hold the offset are passed over. -/
theorem findReg_append {i x : Nat} {l m : List Reg} (h : ∀ r ∈ l, elemAt r.info x = none) : findReg i x (l ++ m) = findReg i x m := by
  induction l with
  | nil => rfl
  | cons r l ih =>
    rw [List.cons_append, findReg, h r List.mem_cons_self]
    exact ih fun r hr => h r (List.mem_cons_of_mem _ hr)

/-- The register at its own address is found there, in the part of the active view that writes of BAR0 reach. -/
structure Located (x : RegAt) : Prop where
  found : regAt (regAddr x.reg x.inst x.k) = some x
  reach : regAddr x.reg x.inst x.k < 0x08000000
  aligned : regAddr x.reg x.inst x.k % 8 = 0
  active : x.reg.info.cs = false

/-- A register that stands alone in a block: its place is computed. -/
theorem located_single {r : Reg} (h : regAt (regAddr r 0 0) = some ⟨r, 0, 0⟩) (h1 : regAddr r 0 0 < 0x08000000) (h2 : regAddr r 0 0 % 8 = 0)
    (h3 : r.info.cs = false) : Located ⟨r, 0, 0⟩ := ⟨h, h1, h2, h3⟩

theorem located_hifLinkCtrl {h : Nat} (hh : h < 8) : Located ⟨.hifLinkCtrl, h, 0⟩ := by
  have ha : regAddr .hifLinkCtrl h 0 = 0x100000 + h * 0x10000 := rfl
  refine ⟨?_, by simp only [ha]; omega, by simp only [ha]; omega, rfl⟩
  have hb : blockAt (0x100000 + h * 0x10000) = some .hif :=
    blockAt_eq (l := [.sys, .clk, .pwr, .flt, .cnt, .gte, .sec, .cmd, .lck]) rfl (by decide) (by simp [Block.map]) (by simp [Block.map]; omega)
  simp only [ha, regAt, regWhere, hb, Block.map]
  rw [if_neg (c := 0x10000 = 0) (by decide), if_neg (c := 0x10000 = 0) (by decide), show (0x100000 + h * 0x10000 - 0x100000) / 0x10000 = h by omega,
    show (0x100000 + h * 0x10000 - 0x100000) % 0x10000 = 0 by omega, if_neg (by omega)]
  rfl

/-- A register of a lane. -/
theorem located_lane {r : Reg} {lane : Nat} (hl : lane < 512) (hr : r.info = { r.info with block := .lns, st1 := 0, st2 := 0, cs := false })
    (ho : r.info.off < 0x1000) (h8 : r.info.off % 8 = 0)
    (hf : findReg lane r.info.off (regsOfLns.filter (fun _ => true)) = some ⟨r, lane, 0⟩) : Located ⟨r, lane, 0⟩ := by
  have ha : regAddr r lane 0 = 0x2000000 + lane * 0x1000 + r.info.off := by
    unfold regAddr
    rw [hr]
    simp [Block.map]
  refine ⟨?_, by simp only [ha]; omega, by simp only [ha]; omega, by rw [hr]⟩
  have hb : blockAt (0x2000000 + lane * 0x1000 + r.info.off) = some .lns :=
    blockAt_eq (l := allBlocks.take 21) (r := [.mem]) rfl (by decide) (by simp [Block.map]; omega) (by simp [Block.map]; omega)
  simp only [ha, regAt, regWhere, hb, Block.map]
  rw [if_neg (c := 0x1000 = 0) (by decide), if_neg (c := 0x1000 = 0) (by decide), show (0x2000000 + lane * 0x1000 + r.info.off - 0x2000000) / 0x1000 = lane by omega,
    show (0x2000000 + lane * 0x1000 + r.info.off - 0x2000000) % 0x1000 = r.info.off by omega, if_neg (by omega)]
  exact hf

theorem located_qmgEqCi {q : Nat} (h1 : 1 ≤ q) (h2 : q < 4096) : Located ⟨.qmgEqCi, 0, q⟩ := by
  have ha : regAddr .qmgEqCi 0 q = 0x310008 + 16 * q := by
    simp only [regAddr, Reg.info, Block.map, Nat.div_one, Nat.mod_one]
    omega
  refine ⟨?_, by simp only [ha]; omega, by simp only [ha]; omega, rfl⟩
  have hb : blockAt (0x310008 + 16 * q) = some .qmg :=
    blockAt_eq (l := allBlocks.take 11) (r := allBlocks.drop 12) rfl (by decide) (by simp [Block.map]; omega) (by simp [Block.map]; omega)
  simp only [ha, regAt, regWhere, hb, Block.map, if_true]
  rw [if_neg (by decide), show 0x310008 + 16 * q - 0x300000 = 0x10008 + 16 * q by omega]
  have hbelow : ∀ r ∈ regsOfQmg.take 12, r.info.st1 = 0 ∧ r.info.st2 = 0 ∧ r.info.off < 0x10008
      ∨ 0 < r.info.st1 ∧ r.info.off + r.info.st1 * r.info.n1 ≤ 0x10008 := by decide
  show findReg 0 _ (regsOfQmg.take 12 ++ [.qmgEqPi, .qmgEqCi]) = _
  rw [findReg_append fun r hr => ?_]
  · have hpi : elemAt Reg.qmgEqPi.info (0x10008 + 16 * q) = none := by
      simp only [elemAt, Reg.info]
      rw [if_neg (by omega), if_neg (by simp; omega)]
    have hci : elemAt Reg.qmgEqCi.info (0x10008 + 16 * q) = some q := by
      simp only [elemAt, Reg.info]
      rw [if_neg (by omega), if_pos (by simp; omega)]
      simp
    simp only [findReg, hpi, hci]
    rfl
  · obtain ⟨hs1, hs2, hoff⟩ | ⟨hs, hend⟩ := hbelow r hr
    · exact elemAt_single hs1 hs2 (by omega)
    · exact elemAt_past hs (by omega)

end Sys2Proof.Machine

namespace Sys2Proof.Machine

/-! ### A write of the PF that is served (R15, R42, R409, R444, R478, R495) -/

/-- No posted credit is withheld: nothing waits, and nothing goes on. -/
theorem stalledGo_of_nil {s : State} (h : s.qmg.stalled = []) : stalledGo s = s := by
  have hs : ({ s with qmg := { s.qmg with stalled := [] } } : State) = s := by rw [← h]
  unfold stalledGo whenRunning
  dsimp only
  rw [h, List.foldl_nil, hs, ite_self]

/-- A value in range stands for itself (log 128). -/
theorem pickOf_of_ok {ok : Bool} {n : Nat} {of : Nat → Nat} {s : State} (h : ok = true) : pickOf ok n of s = (n, s) := if_pos h

theorem instOf_of_lt {count n : Nat} {s : State} (h : n < count) : instOf count n s = (n, s) := pickOf_of_ok (decide_eq_true h)

/-- The gate of the block permits the write: it reaches the register. -/
theorem bar0Write_permitted {p off : Nat} {v : Word} {s : State} (h : HostWrite p (off % 0x08000000) s) (h8 : off % 8 = 0) :
    bar0Write p 0 off 8 v s = settle (writeTo p (256 * p) off 8 v s) := by
  have hw : widthOk off 8 = true := by simp [widthOk, h8]
  unfold bar0Write
  rw [if_neg (by simp [h.running, h.reach, h.ide])]
  dsimp only
  rw [if_neg (by simp [hw]), Nat.add_zero]
  cases hb : blockAt (off % 0x08000000) with
  | none => exact if_neg (by simp)
  | some b =>
    have hgate : gateCheck b.code (off % 0x08000000 - b.map.base) 8 1 (256 * p) none s = (none, s) := gateCheck_write (by decide) (h.gate b hb)
    simp [hgate]

/-- A BAR0 write that is served reaches its register: neither credit, sleep, IDE nor a gate stops it. -/
theorem bar0_served {p off : Nat} {v : Word} {s : State} (h : HostWrite p (off % 0x08000000) s) (h8 : off % 8 = 0) (ho : off < barReach) :
    bar0 p 0 off 8 v s = .next (settle (writeTo p (256 * p) off 8 v s)) := by
  have hport : s.portStalled p = false := by unfold State.portStalled; rw [h.credit]; rfl
  have hposted : posted p (.bar0 0 off 8 v) s = settle (writeTo p (256 * p) off 8 v s) := by
    unfold posted
    rw [if_neg (by simp [h.awake]), if_neg (by simp [hport])]
    dsimp only
    rw [if_neg (Nat.not_le.2 ho), bar0Write_permitted h h8]
  unfold bar0 onInstance postedWrite whenRunning
  rw [instOf_of_lt h.inst]
  dsimp only
  rw [if_pos h.running, stalledGo_of_nil h.credit, hposted]

/-- In the active view an aligned 8-byte write reaches the register at its offset. -/
theorem writeTo_active {p mid off : Nat} {x : RegAt} {v : Word} {s : State} (ho : off < 0x08000000) (h8 : off % 8 = 0) (hx : regAt off = some x)
    (hcs : x.reg.info.cs = false) : writeTo p mid off 8 v s = writeReg x mid (2 ^ 64 - 1) v.toNat s := by
  unfold writeTo
  dsimp only
  rw [if_pos ho, show off / 8 * 8 = off by omega, hx]
  dsimp only
  rw [if_neg (by simp [hcs]), if_neg (by omega)]
  rfl

/-- In the shadow view it reaches the shadow copy. -/
theorem writeTo_shadow {p mid off : Nat} {x : RegAt} {v : Word} {s : State} (h8 : off % 8 = 0) (hx : shadowAt off = some x) :
    writeTo p mid (off + 0x08000000) 8 v s = shadowWrite x (2 ^ 64 - 1) v.toNat s := by
  unfold writeTo
  dsimp only
  rw [if_neg (by omega), show (off + 0x08000000 - 0x08000000) / 8 * 8 = off by omega, hx]
  rfl

/-- While neither a hinge validates nor the former set retires, the shadow copy takes the value and the set is MODIFIED. -/
theorem shadowWrite_open {x : RegAt} {reach v : Nat} {s : State} (h2 : s.cmd.shadow ≠ 2) (h3 : s.cmd.shadow ≠ 3) :
    shadowWrite x reach v s =
      (let u := s.setShadow x.reg x.inst x.k (putMask (s.writable x.reg &&& reach) (s.shadowRaw x.reg x.inst x.k) v)
       { u with cmd := { u.cmd with shadow := 1 } }) := by
  unfold shadowWrite
  rw [if_neg (by simp [h2, h3])]

/-- A write of a register at its own address does what a write of that register does. -/
theorem writeOf_served {p : Nat} {x : RegAt} {v : Word} {s : State} (hx : Located x) (h : HostWrite p (regAddr x.reg x.inst x.k) s) :
    writeOf x.reg x.inst x.k p 0 v s = .next (settle (writeReg x (256 * p) (2 ^ 64 - 1) v.toNat s)) := by
  have hr := hx.reach
  unfold writeOf
  rw [bar0_served (by rwa [Nat.mod_eq_of_lt hr]) hx.aligned (by unfold barReach; omega), writeTo_active hr hx.aligned hx.found hx.active]

/-- A row for one register is a write of it by the function that the row names, and a well-formed row names a register that the part has. -/
theorem regRow_writes {c : Instr} {p f : Nat} {x : RegAt} {v : Word} (h : c.regRow? = some (p, f, x, v)) (hwf : c.wf = true) (s : State) :
    exec c s = writeOf x.reg x.inst x.k p f v s ∧ Located x := by
  unfold Instr.regRow? at h
  split at h <;> cases h <;> simp only [Instr.wf, Bool.and_eq_true, decide_eq_true_eq] at hwf
  -- the rows that name an EQ, a host port or a lane beside the register
  case h_3 =>
    obtain ⟨⟨-, h1⟩, h2⟩ := hwf
    refine ⟨?_, located_qmgEqCi h1 h2⟩
    show execQmgEqCiWrite _ _ _ _ s = _
    unfold execQmgEqCiWrite
    rw [pickOf_of_ok (by simp [h1, h2])]
  case h_7 =>
    refine ⟨?_, located_hifLinkCtrl hwf.2⟩
    show execHifLinkRetrain _ _ _ _ s = _
    unfold execHifLinkRetrain
    rw [instOf_of_lt hwf.2]
  case h_8 =>
    refine ⟨?_, located_lane hwf.2 rfl (by decide) rfl rfl⟩
    show execEyeMeasureStart _ _ _ _ s = _
    unfold execEyeMeasureStart
    rw [instOf_of_lt hwf.2]
  case h_9 =>
    refine ⟨?_, located_lane hwf.2 rfl (by decide) rfl rfl⟩
    show execInjOnce _ _ _ _ s = _
    unfold execInjOnce
    rw [instOf_of_lt hwf.2]
  all_goals exact ⟨rfl, located_single rfl (by decide) rfl rfl⟩

end Sys2Proof.Machine

namespace Sys2Proof.Machine

/-! ### What follows the writes of single registers (R440, R451, R452, R497, R498, R501) -/

/-- The bits that a whole write replaces. -/
def wholeMask (x : RegAt) (s : State) : Nat :=
  s.writable x.reg &&& (2 ^ 64 - 1) &&& (2 ^ 64 - 1 - s.frozen x.reg) &&& (2 ^ 64 - 1 - reservedAt x.reg x.k)

/-- The value that a whole write stores. -/
def writtenValue (x : RegAt) (v : Nat) (s : State) : Nat :=
  putMask (wholeMask x s) (s.raw x.reg x.inst x.k) v &&& (2 ^ 64 - 1 - (v &&& w1cMask x.reg))

theorem bit_eq_testBit (n i : Nat) : bit n i = n.testBit i := by
  rw [bit, Nat.testBit_eq_decide_div_mod_eq]

theorem bit_eq_bits (n i : Nat) : bit n i = decide (bits n i i = 1) := by
  rw [bit, bits, show i + 1 - i = 1 by omega, Nat.pow_one]

theorem bit_mod_word {n i : Nat} (h : i < 64) : bit (n % 2 ^ 64) i = bit n i := by
  rw [bit_eq_testBit, bit_eq_testBit, Nat.testBit_mod_two_pow]
  simp [h]

/-- A position ahead that fits the ring is taken (R452). -/
theorem cmdPiSet_ahead {v : Nat} {s : State} (h0 : dist (BitVec.ofNat 32 v) s.cmdPi ≠ 0) (h1 : dist (BitVec.ofNat 32 v) s.cmdPi < 2 ^ 31)
    (h2 : dist (BitVec.ofNat 32 v) s.cmdCi ≤ 2 ^ s.ringK) : cmdPiSet v s = s.setReg .cmdPi 0 0 (BitVec.ofNat 32 v : Pos).toNat := by
  unfold cmdPiSet
  dsimp only
  rw [if_neg (by omega), if_neg (by omega)]

/-- EN goes from 0 to 1 (R451). -/
theorem writeReg_ringBase {mid v : Nat} {s : State} (hb : bit (s.raw .cmdRingBase 0 0) 63 = false)
    (h : bit ((s.setReg .cmdRingBase 0 0 (writtenValue ⟨.cmdRingBase, 0, 0⟩ v s)).raw .cmdRingBase 0 0) 63 = true) :
    writeReg ⟨.cmdRingBase, 0, 0⟩ mid (2 ^ 64 - 1) v s = ringEnable (s.setReg .cmdRingBase 0 0 (writtenValue ⟨.cmdRingBase, 0, 0⟩ v s)) := by
  show (if (!bit (s.raw .cmdRingBase 0 0) 63 && bit ((s.setReg .cmdRingBase 0 0 (writtenValue ⟨.cmdRingBase, 0, 0⟩ v s)).raw .cmdRingBase 0 0) 63) = true then _ else _) = _
  rw [hb, h]
  rfl

theorem writeReg_secLock {mid v : Nat} {s : State} (h : bit v 0 = true) :
    writeReg ⟨.secLock, 0, 0⟩ mid (2 ^ 64 - 1) v s = secLockSet mid (s.setReg .secLock 0 0 (writtenValue ⟨.secLock, 0, 0⟩ v s)) := if_pos h

theorem writeReg_secAuditCtrl {mid v : Nat} {s : State} (h : bit v 63 = true) :
    writeReg ⟨.secAuditCtrl, 0, 0⟩ mid (2 ^ 64 - 1) v s = auditRelease (s.setReg .secAuditCtrl 0 0 (writtenValue ⟨.secAuditCtrl, 0, 0⟩ v s)) := if_pos h

theorem writeReg_sysCtrl {mid v : Nat} {s : State} (h : bit v 0 = true) :
    writeReg ⟨.sysCtrl, 0, 0⟩ mid (2 ^ 64 - 1) v s = warmRequest (s.setReg .sysCtrl 0 0 (writtenValue ⟨.sysCtrl, 0, 0⟩ v s)) := if_pos h

/-- While EN is 0 a write of CMD_RING_BASE takes EN from the value written. -/
theorem writtenValue_ringBase_enable {v : Nat} {s : State} (he : s.fld .cmdRingBase 0 63 63 = 0) (hv : bit v 63 = true) :
    bit (writtenValue ⟨.cmdRingBase, 0, 0⟩ v s) 63 = true := by
  have hf : s.frozen .cmdRingBase = 0 := if_neg (by omega)
  have hall : (2 ^ 64 - 1).testBit 63 = true := by decide
  have hw : s.writable .cmdRingBase = 0xFF0FFFFFFFFFF000 := by
    simp [State.writable, maskWhere, Reg.info, fieldMask]
  have hm : (wholeMask ⟨.cmdRingBase, 0, 0⟩ s).testBit 63 = true := by
    unfold wholeMask
    dsimp only
    rw [hf, hw, show reservedAt .cmdRingBase 0 = 0 from rfl]
    decide
  have hc : w1cMask .cmdRingBase = 0 := rfl
  rw [bit_eq_testBit] at hv ⊢
  unfold writtenValue putMask
  simp only [hc, Nat.testBit_and, Nat.testBit_or, Nat.and_zero, Nat.sub_zero, hall, hm, hv, Bool.and_true, Bool.true_or]

theorem setReg_rising {s : State} {r : Reg} {i k v : Nat} (hr : s.regsRising = true) : (s.setReg r i k v).regsRising = true :=
  State.setReg_within.regs hr

/-- The ring starts at position 0, and CMD_RING_BASE stays as written. -/
theorem ringEnable_started {s : State} (hr : s.regsRising = true) :
    (ringEnable s).raw .cmdRingBase 0 0 = s.raw .cmdRingBase 0 0 ∧ (ringEnable s).cmdPi = 0 ∧ (ringEnable s).cmdCi = 0 := by
  have hraw : ∀ r : Reg, r.info.cs = false → (ringEnable s).raw r 0 0 = ((s.setReg .cmdPi 0 0 0).setReg .cmdCi 0 0 0).raw r 0 0 :=
    fun r hcs => raw_congr hcs rfl
  have hp := setReg_rising (r := .cmdPi) (i := 0) (k := 0) (v := 0) hr
  refine ⟨?_, ?_, ?_⟩
  · rw [hraw _ rfl, raw_setReg_other hp (by decide), raw_setReg_other hr (by decide)]
  · rw [State.cmdPi, hraw _ rfl, raw_setReg_other hp (by decide), raw_setReg_same rfl hr (by decide)]
    rfl
  · rw [State.cmdCi, hraw _ rfl, raw_setReg_same rfl hp (by decide)]
    rfl

/-- A write that sets EN of a ring that is not enabled enables it, at position 0. -/
theorem writeReg_ringBase_enables {mid v : Nat} {s : State} (hr : s.regsRising = true) (he : s.fld .cmdRingBase 0 63 63 = 0) (hv : bit v 63 = true) :
    let u := ringEnable (s.setReg .cmdRingBase 0 0 (writtenValue ⟨.cmdRingBase, 0, 0⟩ v s))
    writeReg ⟨.cmdRingBase, 0, 0⟩ mid (2 ^ 64 - 1) v s = u ∧ u.fld .cmdRingBase 0 63 63 = 1 ∧ u.cmdPi = 0 ∧ u.cmdCi = 0 := by
  intro u
  obtain ⟨hbase, hpi, hci⟩ := ringEnable_started (s := s.setReg .cmdRingBase 0 0 (writtenValue ⟨.cmdRingBase, 0, 0⟩ v s)) (setReg_rising hr)
  have hoff : bit (s.raw .cmdRingBase 0 0) 63 = false := by
    rw [bit_eq_bits, show bits _ 63 63 = 0 from he]
    rfl
  have hon : bit ((s.setReg .cmdRingBase 0 0 (writtenValue ⟨.cmdRingBase, 0, 0⟩ v s)).raw .cmdRingBase 0 0) 63 = true := by
    rw [raw_setReg_same rfl hr (by decide), bit_mod_word (by decide), writtenValue_ringBase_enable he hv]
  refine ⟨writeReg_ringBase hoff hon, ?_, hpi, hci⟩
  rw [State.fld, hbase]
  exact of_decide_eq_true ((bit_eq_bits _ _).symm.trans hon)

/-- SEC_LOCK stays set or is set. -/
theorem secLockSet_locked {mid : Nat} {s : State} (hr : s.regsRising = true) : (secLockSet mid s).secLocked = true := by
  unfold secLockSet
  split
  · assumption
  · unfold State.secLocked State.fld
    rw [raw_congr rfl (audit_within.keeps_regs rfl), raw_setReg_same rfl hr (by decide)]
    rfl

/-- Quiescing moves the stage and leaves the cause and the count. -/
theorem quiesce_sys {s : State} :
    (quiesce s).sys.stage = .warmQuiesce ∧ (quiesce s).sys.resetCause = s.sys.resetCause ∧ (quiesce s).sys.warmCount = s.sys.warmCount := by
  unfold quiesce
  extract_lets up v
  have hv : Within 0x60d400780100002001f02000000000006 s v := Within.foldl (fun _ _ => allEndpoints_within) Within.refl
  refine ⟨portsDownAll_within.keeps_sys_stage rfl, ?_, ?_⟩
  · exact (portsDownAll_within.keeps_sys_resetCause rfl).trans (hv.keeps_sys_resetCause rfl)
  · exact (portsDownAll_within.keeps_sys_warmCount rfl).trans (hv.keeps_sys_warmCount rfl)

/-- While the device runs a warm reset begins: it is counted, its cause is kept, and the device quiesces. -/
theorem beginWarm_of_running {cause : Nat} {s : State} (h : s.running = true) :
    (beginWarm cause s).sys.stage = .warmQuiesce ∧ (beginWarm cause s).sys.resetCause = cause ∧
      (beginWarm cause s).sys.warmCount = (s.sys.warmCount + 1) % 2 ^ 32 := by
  have hrun : ¬(!s.running) = true := by simp [h]
  have hq : beginWarm cause s =
      quiesce { s with sys := { s.sys with warmCount := (s.sys.warmCount + 1) % 2 ^ 32, resetCause := cause } } := if_neg hrun
  rw [hq]
  exact quiesce_sys

theorem ringEnable_frame {v : Nat} {s : State} : Only [.regs, .ring] s (ringEnable (s.setReg .cmdRingBase 0 0 v)) := by
  have h : Within 0x2000000000000 s (s.setReg .cmdRingBase 0 0 v) := State.setReg_within
  have h : Within (Nat.lor Part.regs.mask Part.ring.mask) s (ringEnable (s.setReg .cmdRingBase 0 0 v)) := ringEnable_within.app rfl (h.weaken rfl)
  exact h.only _ (by intro p; cases p <;> decide)

theorem secLockSet_frame {mid v : Nat} {s : State} : Only [.regs, .draws, .audit] s (secLockSet mid (s.setReg .secLock 0 0 v)) := by
  have h : Within (Nat.lor Part.regs.mask Part.audit.mask) s (secLockSet mid (s.setReg .secLock 0 0 v)) :=
    secLockSet_within.app rfl (State.setReg_within.weaken rfl)
  exact h.only _ (by intro p; cases p <;> decide)

theorem auditRelease_frame {v : Nat} {s : State} : Only [.regs, .audit] s (auditRelease (s.setReg .secAuditCtrl 0 0 v)) := by
  have h : Within (Nat.lor Part.regs.mask Part.audit.mask) s (auditRelease (s.setReg .secAuditCtrl 0 0 v)) :=
    auditRelease_within.app rfl (State.setReg_within.weaken rfl)
  exact h.only _ (by intro p; cases p <;> decide)

/-- Settles O40: a served write reaches its register, and what each register attaches to a write follows. -/
theorem registerWritesTakeEffect : Obligations.RegisterWritesTakeEffect := by
  unfold Obligations.RegisterWritesTakeEffect
  have hcmdPi : Located ⟨.cmdPi, 0, 0⟩ := located_single rfl (by decide) rfl rfl
  have hring : Located ⟨.cmdRingBase, 0, 0⟩ := located_single rfl (by decide) rfl rfl
  have hlock : Located ⟨.secLock, 0, 0⟩ := located_single rfl (by decide) rfl rfl
  have haudit : Located ⟨.secAuditCtrl, 0, 0⟩ := located_single rfl (by decide) rfl rfl
  have hsys : Located ⟨.sysCtrl, 0, 0⟩ := located_single rfl (by decide) rfl rfl
  refine ⟨?_, ?_, ?_, ?_, ?_, ?_, ?_, ?_⟩
  · intro c p x v s hrow hwf hw
    obtain ⟨hexec, hx⟩ := regRow_writes hrow hwf s
    rw [hexec, writeOf_served hx hw]
  · intro p x off v s hw ho h8 hx hcs
    have hmod : off % 0x08000000 = off := Nat.mod_eq_of_lt ho
    show bar0 p 0 off 8 v s = _
    rw [bar0_served (by rwa [hmod]) h8 (by unfold barReach; omega), writeTo_active ho h8 hx hcs]
  · intro p x off v s hw h8 hx h2 h3
    show bar0 p 0 (off % 0x08000000 + 0x08000000) 8 v s = _
    rw [bar0_served (by rwa [show (off % 0x08000000 + 0x08000000) % 0x08000000 = off % 0x08000000 by omega]) (by omega)
      (by unfold barReach; omega), writeTo_shadow (by omega) hx, shadowWrite_open h2 h3]
  · intro p v s hw n h0 h1 h2
    refine (writeOf_served hcmdPi hw).trans ?_
    rw [show writeReg ⟨.cmdPi, 0, 0⟩ (256 * p) (2 ^ 64 - 1) v.toNat s = cmdPiSet v.toNat s from rfl, cmdPiSet_ahead h0 h1 h2]
  · intro p v s hw hr he hv
    obtain ⟨hwrite, hen, hpi, hci⟩ := writeReg_ringBase_enables (mid := 256 * p) hr he hv
    exact ⟨_, (writeOf_served hring hw).trans (by rw [hwrite]), hen, hpi, hci, rfl, rfl, ringEnable_frame⟩
  · intro p v s hw hr _ hv
    refine ⟨_, (writeOf_served hlock hw).trans (by rw [writeReg_secLock hv]), secLockSet_locked (setReg_rising hr), ?_⟩
    exact secLockSet_frame
  · intro p v s hw hv
    refine ⟨_, (writeOf_served haudit hw).trans (by rw [writeReg_secAuditCtrl hv]), rfl, ?_⟩
    exact auditRelease_frame
  · intro p v s hw hv
    refine ⟨_, (writeOf_served hsys hw).trans (by rw [writeReg_sysCtrl hv]), ?_⟩
    exact beginWarm_of_running (s := s.setReg .sysCtrl 0 0 _) hw.running

end Sys2Proof.Machine

namespace Sys2Proof.Machine

/-! ### Power-on and cold reset, and the start-up (R16, R440-R442, R446-R448) -/

/-- A cold reset while the device is powered and no deadbolt holds it. -/
theorem execColdReset_alive {b : Bool} {s : State} (hp : s.sys.pwrOk = true) (hd : s.sys.deadbolt = .none) :
    execColdReset b s = .next (let t := coldState 1 s; { t with sys := { t.sys with pwrOk := b } }) := by
  unfold execColdReset
  rw [if_neg (by simp [hp]), if_neg (by simp [hd])]

/-- RESET_N rises while the device is powered and no deadbolt holds it: the sequence begins. -/
theorem execColdStart_begins {b : Boot} {s : State} (hp : s.sys.pwrOk = true) (hn : s.sys.resetN = false) (hd : s.sys.deadbolt = .none) :
    execColdStart b s = .next (coldBegin (if b.sel % 4 = 1 then 1 else 0) b s) := by
  unfold execColdStart
  rw [if_neg (by simp [hp, hn, hd])]

/-- Without REFCLK the sequence ends with boot error 0x01 (R448). -/
theorem coldBegin_noRef {first : Nat} {b : Boot} {s : State} (hr : b.refOk = false) :
    (coldBegin first b s).sys.stage = .error ∧ (coldBegin first b s).sys.error = 1 := by
  unfold coldBegin
  extract_lets sel t
  rw [if_pos (by simp [hr])]
  exact ⟨rfl, rfl⟩

/-! ### Warm reset (R433, R441-R445, R466) -/

/-- What R441 names is lost. -/
theorem warmLose_empties {s : State} :
    (warmLose s).hif.reqs = [] ∧ (warmLose s).trn.opens = [] ∧ (warmLose s).qmg.pond = [] ∧ (warmLose s).qmg.heldDb = [] := ⟨rfl, rfl, rfl, rfl⟩

/-- The end of quiescing: host requests still outstanding fail, and what R441 names is lost; without REFCLK the transmitters stop and host
links fall (R433). -/
theorem execWarmQuiesceDone_eq {s u : State} (ha : s.alive = true) (hg : s.sys.stage = .warmQuiesce) (hq : s.sys.quiesced = false)
    (hu : u = warmLose (settle (s.hif.reqs.foldl (fun s r => reqDone r .timedOut s) s))) :
    execWarmQuiesceDone s = .next (if u.clk.refOk && !u.clk.refWait then { u with sys := { u.sys with quiesced := true } }
      else refSilence { u with sys := { u.sys with quiesced := true } }) := by
  subst hu
  unfold execWarmQuiesceDone
  rw [if_neg (by simp [ha, hg, hq])]

/-- The state that a warm reset restores, before its lanes begin to acquire (R443). -/
def restoredState (lost : List Nat) (s : State) : State :=
  let u := monitorsStart true true (endSessions (warmContexts lost (startPolicers (warmPower (warmConfig
    { s with sys := { s.sys with stage := .warmRestore, halt := false, quiesced := false, silenced := false } })))))
  timeRestored (s.timeRole, s.timeParent)
    (((List.range 8).filter (fun h => !s.linkEnabled h)).foldl (fun s h => linkEnableChanged h s) u)

/-- The clocks are good again and the firmware copy passes: the state is restored, and its lanes begin to acquire (R443). -/
theorem execWarmRestore_eq {lost : List Nat} {b : Boot} {s : State} (hg : s.sys.stage = .warmQuiesce) (hq : s.sys.quiesced = true)
    (hr : s.clk.refOk = true) (hw : s.clk.refWait = false) (hd : s.sys.deadbolt = .none) (hi : s.sys.hbmImage = none) :
    execWarmRestore true true lost b s = .next (portsAcquire (portsRelease
      (if s.raw .clkOutCtrl 0 0 ≠ (restoredState lost s).raw .clkOutCtrl 0 0 then clkOutChanged s.clkOut (restoredState lost s)
        else restoredState lost s))) := by
  unfold execWarmRestore
  rw [if_neg (by simp [hg, hq, hr, hw, hd]), if_neg (by simp)]
  extract_lets links role out was old x src y
  have hy : y = x := by
    show x.sys.hbmImage.elim x _ = x
    rw [show x.sys.hbmImage = none from hi]
    rfl
  clear_value y
  subst hy
  rfl

/-- The state in which the endpoints resume, before what waited goes on (R252, R445). -/
theorem execEndpointResume_eq {s : State} (ha : s.alive = true) (hg : s.sys.stage = .warmRestore)
    (hu : ∀ p ∈ s.sys.portsBefore, (s.port p).state = .up) :
    let u := setStage .run { s with sys := { s.sys with portsBefore := [], hbmImage := none }, dump := { s.dump with lastT := max s.dump.lastT s.dtimeNs } }
    let v := resumeJobs (resumeTargets (resumePeers (resumeSinks (cutCommands (allEndpoints evResumed u.sys.bootCount 0 0 u)))))
    let w := v.svc.rndvs.foldl (fun s r => rndvGo r.peer r.rts s) v
    execEndpointResume s = .next (settle ((w.svc.groups.map (·.num)).foldl (fun s g => groupWake g (rebuildGroup g s)) w)) := by
  have hup : s.sys.portsBefore.all (fun p => decide ((s.port p).state = .up)) = true :=
    List.all_eq_true.2 fun p hp => decide_eq_true (hu p hp)
  intro u v w
  unfold execEndpointResume
  rw [if_neg (by simp [ha, hg])]
  dsimp only
  rw [if_pos hup]

/-! ### The end of RETIRING (R466, R588) -/

/-- Nothing looked up under the former set remains: it is CLEAN. -/
theorem execShadowRetireComplete_clean {s : State} (ha : s.alive = true) (h3 : s.cmd.shadow = 3) (hf : s.formerSet = false) :
    execShadowRetireComplete s = .next { s with cmd := { s.cmd with shadow := 4 } } := by
  unfold execShadowRetireComplete
  rw [if_neg (by simp [ha, h3, hf])]

theorem shadowSet_frame {s : State} {n : Nat} : Only [.sets] s { s with cmd := { s.cmd with shadow := n } } := by
  have h : Within Part.sets.mask s { s with cmd := { s.cmd with shadow := n } } :=
    Within.refl.upd (e := s) rfl rfl rfl rfl rfl rfl rfl rfl
  exact h.only _ (by intro p; cases p <;> decide)

/-! ### Debug unlock (R493, R500) -/

section
variable {event mid detail : Nat} {s : State}

@[simp] theorem audit_partKeys : (audit event mid detail s).sec.partKeys = s.sec.partKeys := audit_within.keeps_sec_partKeys rfl

@[simp] theorem audit_fabricKey : (audit event mid detail s).sec.fabricKey = s.sec.fabricKey := audit_within.keeps_sec_fabricKey rfl

@[simp] theorem audit_ownerKey : (audit event mid detail s).sec.ownerKey = s.sec.ownerKey := audit_within.keeps_sec_ownerKey rfl

@[simp] theorem audit_tamperCount : (audit event mid detail s).sec.tamperCount = s.sec.tamperCount := audit_within.keeps_sec_tamperCount rfl

@[simp] theorem audit_fails : (audit event mid detail s).sec.fails = s.sec.fails := audit_within.keeps_sec_fails rfl

@[simp] theorem audit_unlockShut : (audit event mid detail s).sec.unlockShut = s.sec.unlockShut := audit_within.keeps_sec_unlockShut rfl

@[simp] theorem audit_debugUnlocked : (audit event mid detail s).sec.debugUnlocked = s.sec.debugUnlocked :=
  audit_within.keeps_sec_debugUnlocked rfl

@[simp] theorem zeroizeStore_partKeys : (zeroizeStore mid s).sec.partKeys = [] := by
  unfold zeroizeStore
  dsimp only
  split <;> simp

@[simp] theorem zeroizeStore_fabricKey : (zeroizeStore mid s).sec.fabricKey = false := by
  unfold zeroizeStore
  dsimp only
  split <;> simp

/-- The owner key stays sealed. -/
@[simp] theorem zeroizeStore_ownerKey : (zeroizeStore mid s).sec.ownerKey = s.sec.ownerKey := by
  unfold zeroizeStore
  dsimp only
  split <;> simp

@[simp] theorem zeroizeStore_tamperCount : (zeroizeStore mid s).sec.tamperCount = s.sec.tamperCount := zeroizeStore_within.keeps_sec_tamperCount rfl

@[simp] theorem zeroizeStore_unlockShut : (zeroizeStore mid s).sec.unlockShut = s.sec.unlockShut := zeroizeStore_within.keeps_sec_unlockShut rfl

end

/-- A refusal is counted, and eight in a row shut the unlock. -/
theorem execDebugUnlock_refused {ok : Bool} {s : State} (hd : s.sys.deadbolt = .none) (hp : s.sys.pwrOk = true) (h : s.debugRefused ok = true) :
    ∃ t, execDebugUnlock ok s = .next t ∧ Only [.regs, .draws, .audit, .access] s t
      ∧ t.sec.fails = min 255 (s.sec.fails + 1) ∧ t.sec.debugUnlocked = s.sec.debugUnlocked
      ∧ t.sec.unlockShut = (s.sec.unlockShut || decide (8 ≤ min 255 (s.sec.fails + 1))) := by
  unfold execDebugUnlock
  rw [if_neg (by simp [hd, hp]), if_pos h]
  extract_lets n
  refine ⟨_, rfl, ?_, audit_fails, audit_debugUnlocked, audit_unlockShut⟩
  have hw : Within (Nat.lor Part.audit.mask Part.access.mask) s
      (audit 0x0022 0 n { s with sec := { s.sec with fails := n, unlockShut := s.sec.unlockShut || decide (8 ≤ n) } }) :=
    audit_within.app rfl (Within.refl.upd (e := s) rfl rfl rfl rfl rfl rfl rfl rfl)
  exact hw.only _ (by intro p; cases p <;> decide)

/-- An unlock erases the keys, all but the sealed owner key. -/
theorem execDebugUnlock_granted {ok : Bool} {s : State} (hd : s.sys.deadbolt = .none) (hp : s.sys.pwrOk = true) (h : s.debugRefused ok = false) :
    ∃ t, execDebugUnlock ok s = .next t ∧ Only [.regs, .draws, .audit, .access, .keys] s t
      ∧ t.sec.fails = 0 ∧ t.sec.unlockShut = false ∧ t.sec.debugUnlocked = true ∧ t.sec.partKeys = [] ∧ t.sec.fabricKey = false
      ∧ t.sec.ownerKey = s.sec.ownerKey := by
  have hshut : s.sec.unlockShut = false := by
    unfold State.debugRefused at h
    simp only [Bool.or_eq_false_iff] at h
    exact h.1.2
  have hform : execDebugUnlock ok s = .next (audit 0x0021 0 s.sec.fails
      { zeroizeStore 0 s with sec := { (zeroizeStore 0 s).sec with debugUnlocked := true, fails := 0 } }) := by
    unfold execDebugUnlock
    rw [if_neg (by simp [hd, hp]), if_neg (by simp [h])]
  refine ⟨_, hform, execDebugUnlock_within.only _ (by intro p; cases p <;> decide) hform, audit_fails, ?_, audit_debugUnlocked, ?_, ?_, ?_⟩
  · rw [audit_unlockShut]
    exact zeroizeStore_unlockShut.trans hshut
  · rw [audit_partKeys]
    exact zeroizeStore_partKeys
  · rw [audit_fabricKey]
    exact zeroizeStore_fabricKey
  · rw [audit_ownerKey]
    exact zeroizeStore_ownerKey

/-! ### Tampering and key failures (R493, R499) -/

theorem silenceAll_sys {s : State} : (silenceAll s).sys = { s.sys with silenced := true } := rfl

theorem silenceAll_sec {s : State} : (silenceAll s).sec = s.sec := rfl

theorem allOff_sys {s : State} : (allOff s).sys = s.sys := rfl

theorem allOff_sec {s : State} : (allOff s).sec = s.sec := rfl

/-- Every domain but PD47 is OFF (R410, R423). -/
theorem allOff_domains {s : State} : ∀ d ∈ (allOff s).fab.pwr.domains, d.state = .off := by
  intro d hd
  have hd : d ∈ (List.range 47).map (fun n => ({ num := n, state := .off, exiting := none, due := none, waiting := [] } : Domain)) := hd
  obtain ⟨n, -, rfl⟩ := List.mem_map.1 hd
  rfl

/-- What the response to tampering or a key failure leaves. -/
structure Responded (fuse : Bool) (s t : State) : Prop where
  deadbolt : t.sys.deadbolt = .tamper
  silenced : t.sys.silenced = true
  faultN : t.sys.faultNForced = true
  partKeys : t.sec.partKeys = []
  fabricKey : t.sec.fabricKey = false
  count : t.sec.tamperCount = if fuse then min 16 (s.sec.tamperCount + 1) else s.sec.tamperCount
  domains : ∀ d ∈ t.fab.pwr.domains, d.state = .off

/-- What comes last: the deadbolt, FAULT_N, the fuse, the transmitters and the domains. -/
theorem response_ends {fuse : Bool} {s v : State} (hpart : v.sec.partKeys = []) (hfab : v.sec.fabricKey = false)
    (hcount : v.sec.tamperCount = s.sec.tamperCount) :
    Responded fuse s (let w : State := { v with sys := { v.sys with deadbolt := .tamper, faultNForced := true } }
      let w := if fuse then { w with sec := { w.sec with tamperCount := min 16 (w.sec.tamperCount + 1) } } else w
      allOff (silenceAll w)) := by
  cases fuse with
  | false =>
    refine ⟨rfl, rfl, rfl, ?_, ?_, ?_, allOff_domains⟩ <;> simpa only [allOff_sec, silenceAll_sec]
  | true =>
    refine ⟨rfl, rfl, rfl, ?_, ?_, ?_, allOff_domains⟩
    · simpa only [allOff_sec, silenceAll_sec]
    · simpa only [allOff_sec, silenceAll_sec]
    · simp only [allOff_sec, silenceAll_sec, if_true, hcount]

theorem allEndpoints_tamperCount {kind d0 d1 subject : Nat} {s : State} :
    (allEndpoints kind d0 d1 subject s).sec.tamperCount = s.sec.tamperCount := allEndpoints_within.keeps_sec_tamperCount rfl

theorem hubTake_tamperCount {k : FKind} {source inst addr : Nat} {s : State} :
    (hubTake k source inst addr s).sec.tamperCount = s.sec.tamperCount := hubTake_within.keeps_sec_tamperCount rfl

/-- The report, the events and the records of a response blow no fuse. -/
theorem response_tamperCount {k : FKind} {source lo hi : Nat} {s : State} :
    (audit 0x0050 0 source (zeroizeStore 0 (allEndpoints evDeviceFault lo hi k.code (hubTake k 0x06 0 source s)))).sec.tamperCount
      = s.sec.tamperCount := by
  rw [audit_tamperCount, zeroizeStore_tamperCount, allEndpoints_tamperCount, hubTake_tamperCount]

/-- A device that is powered and that no deadbolt holds responds (R499). -/
theorem secResponse_responded {k : FKind} {source : Nat} {fuse : Bool} {s : State} (hd : s.sys.deadbolt = .none) (hp : s.sys.pwrOk = true) :
    Responded fuse s (secResponse k source fuse s) := by
  unfold secResponse
  rw [if_neg (by simp [hd, hp])]
  refine response_ends ?_ ?_ ?_
  · rw [audit_partKeys, zeroizeStore_partKeys]
  · rw [audit_fabricKey, zeroizeStore_fabricKey]
  · exact response_tamperCount

/-- Time that passes before the response changes nothing of it. -/
theorem secResponse_later {k : FKind} {source time : Nat} {fuse : Bool} {s : State} (hd : s.sys.deadbolt = .none) (hp : s.sys.pwrOk = true) :
    Responded fuse s (secResponse k source fuse (s.advanceTo time)) := by
  have hsys : (s.advanceTo time).sys = s.sys := advance_sys
  have hsec : (s.advanceTo time).sec = s.sec := advance_sec
  have r := secResponse_responded (k := k) (source := source) (fuse := fuse) (s := s.advanceTo time) (by rw [hsys, hd]) (by rw [hsys, hp])
  exact { r with count := by rw [r.count, hsec] }

/-- Tampering seen by the pin while TAMPER_EN is 1, or by the voltage detector. -/
theorem execSecTamper_responds {cause : Nat} {s : State} (hd : s.sys.deadbolt = .none) (hp : s.sys.pwrOk = true)
    (hc : cause = 1 ∧ s.fld .secCtrl 0 2 2 ≠ 0 ∨ cause = 2) : ∃ t, execSecTamper cause s = .next t ∧ Responded true s t := by
  obtain ⟨rfl, hen⟩ | rfl := hc
  · refine ⟨secResponse .secTamper 1 true s, ?_, secResponse_responded hd hp⟩
    unfold execSecTamper
    rw [pickOf_of_ok (by decide)]
    dsimp only
    rw [if_neg (by simp [hen]), if_neg (by simp)]
  · refine ⟨secResponse .secTamper 2 true (s.advanceTo (s.sys.pwrAt + us 100)), ?_, ?_⟩
    · unfold execSecTamper
      rw [pickOf_of_ok (by decide)]
      dsimp only
      rw [if_neg (by simp), if_pos (by simp [State.alive, hd, hp])]
    · exact secResponse_later hd hp

/-- A check value, a self-test or the entropy source fails; no fuse counts it. -/
theorem execSecKeyIntegrity_responds {cause : Nat} {s : State} (hd : s.sys.deadbolt = .none) (hp : s.sys.pwrOk = true)
    (h1 : 1 ≤ cause) (h3 : cause ≤ 3) : ∃ t, execSecKeyIntegrity cause s = .next t ∧ Responded false s t := by
  refine ⟨secResponse .secKeyIntegrity cause false s, ?_, secResponse_responded hd hp⟩
  unfold execSecKeyIntegrity
  rw [pickOf_of_ok (by simp [h1, h3])]

/-- Settles O59: each reset, and each answer to a security event, by the lemma about its row. -/
theorem resetsAndSecurityAct : Obligations.ResetsAndSecurityAct := by
  unfold Obligations.ResetsAndSecurityAct
  refine ⟨?_, ?_, ?_, ?_, ?_, ?_, ?_, ?_, ?_⟩
  · intro s
    exact ⟨_, rfl, rfl, rfl, rfl, rfl, rfl, rfl, rfl, rfl, rfl, rfl, rfl, rfl, rfl, rfl⟩
  · intro b s hp hd
    exact ⟨_, execColdReset_alive hp hd, rfl, rfl, rfl, rfl, rfl, rfl, rfl, rfl, rfl, rfl, rfl, rfl⟩
  · intro b s hp hn hd
    have hbegin := execColdStart_begins (b := b) hp hn hd
    exact ⟨hbegin, fun hr => ⟨_, hbegin, coldBegin_noRef hr⟩⟩
  · intro s ha hg hq u v
    have heq := execWarmQuiesceDone_eq (u := u) ha hg hq rfl
    obtain ⟨hreqs, hopens, hpond, hheld⟩ : u.hif.reqs = [] ∧ u.trn.opens = [] ∧ u.qmg.pond = [] ∧ u.qmg.heldDb = [] := warmLose_empties
    clear_value u
    refine ⟨fun hok hw => ⟨heq.trans ?_, hreqs, hopens, hpond, hheld⟩, fun h => heq.trans ?_⟩
    · rw [if_pos (by simp [hok, hw])]
    · rw [if_neg (by simpa [imp_iff_not_or] using h)]
      rfl
  · intro lost b s hg hq hr hw hd hi u v
    have heq := execWarmRestore_eq (lost := lost) (b := b) hg hq hr hw hd hi
    rw [show restoredState lost s = v from rfl] at heq
    exact ⟨fun hout => heq.trans (by rw [if_neg (not_not.2 hout)]), fun hout => heq.trans (by rw [if_pos hout])⟩
  · intro s ha hg hu
    exact execEndpointResume_eq ha hg hu
  · intro s ha h3 hf
    exact ⟨_, execShadowRetireComplete_clean ha h3 hf, shadowSet_frame, rfl⟩
  · intro ok s hd hp
    exact ⟨execDebugUnlock_refused hd hp, execDebugUnlock_granted hd hp⟩
  · intro cause s hd hp
    refine ⟨fun hc => ?_, fun h1 h3 => ?_⟩
    · obtain ⟨t, ht, r⟩ := execSecTamper_responds hd hp hc
      exact ⟨t, ht, r.deadbolt, r.silenced, r.faultN, r.partKeys, r.fabricKey, r.count, r.domains⟩
    · obtain ⟨t, ht, r⟩ := execSecKeyIntegrity_responds hd hp h1 h3
      exact ⟨t, ht, r.deadbolt, r.silenced, r.faultN, r.partKeys, r.fabricKey, r.count⟩

end Sys2Proof.Machine

namespace Sys2Proof.Machine

/-! ### A command of the admin ring at its turn: what taking it and completing it leave (R409, R451, R455) -/

/-- An operation that may change no part of the queue manager keeps it whole. -/
theorem Within.keeps_qmg {m : Nat} {s t : State} (h : Within m s t) (k : ∀ c : Qmg, eraseQmg m c = c) : t.qmg = s.qmg := by
  have e := congrArg (fun x : State => x.qmg) h.rest
  simpa only [erase, k] using e

theorem Within.keeps_sys {m : Nat} {s t : State} (h : Within m s t) (k : ∀ c : Sys, eraseSys m c = c) : t.sys = s.sys := by
  have e := congrArg (fun x : State => x.sys) h.rest
  simpa only [erase, k] using e

theorem Within.keeps_hif {m : Nat} {s t : State} (h : Within m s t) (k : ∀ c : Hif, eraseHif m c = c) : t.hif = s.hif := by
  have e := congrArg (fun x : State => x.hif) h.rest
  simpa only [erase, k] using e

theorem Within.keeps_cmd {m : Nat} {s t : State} (h : Within m s t) (k : ∀ c : Cmd, eraseCmd m c = c) : t.cmd = s.cmd := by
  have e := congrArg (fun x : State => x.cmd) h.rest
  simpa only [erase, k] using e

/-- A request whose port may issue it goes out; nothing else changes. -/
theorem emit_of_goes {s : State} {o : Out} (h : o.hostPort.elim false s.portHolds = false) : s.emit o = { s with out := s.out ++ [o] } := by
  unfold State.emit State.emitInto
  rw [if_neg (by simp [h])]

section
variable {op : Nat} {a : CmdArgs} {s : State}

/-- Reading a command and beginning it, and waking the domain of its object. -/
theorem takenBy_within : Within 0x20000000000000000000100500000000000000000006 s (takenBy op a s) := by
  obtain ⟨x, y, he, hx, -⟩ := emit_form ({ s with cmd := { s.cmd with next := s.cmd.next + 1 } } : State)
    (.hostRead s.hif.nextReq (s.fld .cmdRingBase 0 58 56) (s.ringAddr s.cmd.next) 64 false)
  rw [takenBy_eq]
  refine wakeForCommand_within.app rfl ?_
  unfold begunIn
  rw [he]
  exact Within.refl.put (e := s) hx (Nat.le_refl _) (Nat.le_refl _) rfl rfl rfl rfl rfl

/-- At the turn of the command its port issues the read at once. -/
theorem RingTurn.taken_within (h : RingTurn op a s) : Within 0x20000000000000000000100500000000000000000002 s (takenBy op a s) := by
  have hgo : (Out.hostRead s.hif.nextReq (s.fld .cmdRingBase 0 58 56) (s.ringAddr s.cmd.next) 64 false).hostPort.elim false
      ({ s with cmd := { s.cmd with next := s.cmd.next + 1 } } : State).portHolds = false := h.port
  rw [takenBy_eq]
  refine wakeForCommand_within.app rfl ?_
  unfold begunIn
  rw [emit_of_goes hgo]
  exact Within.refl.put (e := s) (List.prefix_append _ _) (Nat.le_refl _) (Nat.le_refl _) rfl rfl rfl rfl rfl

@[simp] theorem takenBy_qmg : (takenBy op a s).qmg = s.qmg := takenBy_within.keeps_qmg fun _ => rfl

@[simp] theorem takenBy_sys : (takenBy op a s).sys = s.sys := takenBy_within.keeps_sys fun _ => rfl

@[simp] theorem takenBy_hif : (takenBy op a s).hif = s.hif := takenBy_within.keeps_hif fun _ => rfl

@[simp] theorem takenBy_regs : (takenBy op a s).regs = s.regs := takenBy_within.keeps_regs rfl

@[simp] theorem takenBy_gates : (takenBy op a s).gates = s.gates := takenBy_within.keeps_gates rfl

@[simp] theorem takenBy_engines : (takenBy op a s).engines = s.engines := takenBy_within.keeps_engines rfl

@[simp] theorem takenBy_freeCtr : (takenBy op a s).freeCtr = s.freeCtr := takenBy_within.keeps_freeCtr rfl

@[simp] theorem takenBy_asids : (takenBy op a s).xlt.asids = s.xlt.asids := takenBy_within.keeps_xlt_asids rfl

@[simp] theorem takenBy_queue? (n : Nat) : (takenBy op a s).queue? n = s.queue? n := by
  unfold State.queue?
  rw [takenBy_qmg]

@[simp] theorem takenBy_liveJobs (n : Nat) : (takenBy op a s).liveJobs n = s.liveJobs n := by
  unfold State.liveJobs
  rw [takenBy_qmg]

/-- What a completed command leaves alone is what its body left alone, but for the registers, the ring and what was put out; the queues
are those of the body. -/
theorem completeCmd_leaves {u : State} {status detail r0 r1 : Nat} {l : List Part} (h : RingTurn op a s) (k : RingKept op a s u)
    (hl : Only l s u) (hsub : ∀ p ∈ [Part.ring, .regs, .held], p ∈ l) :
    Answered op a s u (completeCmd (begunAs op a s) status detail r0 r1 u) status detail r0 r1
      ∧ Only l s (completeCmd (begunAs op a s) status detail r0 r1 u)
      ∧ (completeCmd (begunAs op a s) status detail r0 r1 u).qmg = u.qmg := by
  refine ⟨completeCmd_answered h k, ?_⟩
  obtain ⟨x, y, r, d, w, e, hx, -⟩ := completeCmd_form (status := status) (detail := detail) (r0 := r0) (r1 := r1) h k
  obtain ⟨hpending, hout, hsame⟩ := hl
  rw [e]
  refine ⟨⟨hpending, hout.trans hx, fun p hp => ?_⟩, rfl⟩
  have hp' := hsame p hp
  cases p
  case ring => exact absurd (hsub _ (by simp)) hp
  case regs => exact absurd (hsub _ (by simp)) hp
  case held => exact absurd (hsub _ (by simp)) hp
  all_goals exact hp'

/-- A command whose body completes it at its turn and leaves the registers, the gates and the ring. -/
theorem ring_completes {body : CmdBody} {env : CmdEnv} {u : State} {status detail r0 r1 : Nat} {l : List Part} (h : RingTurn op a s)
    (hb : body env a (begunAs op a s) (takenBy op a s) = (.done status detail r0 r1, u)) (hc : u.cmd = (takenBy op a s).cmd)
    (hr : u.regs = s.regs) (hg : u.gates = s.gates) (ho : u.out = (takenBy op a s).out)
    (hl : Only l s u) (hsub : ∀ p ∈ [Part.ring, .regs, .held], p ∈ l) :
    ∃ t, onRing op body env a s = .next t ∧ Answered op a s s t status detail r0 r1 ∧ Only l s t ∧ t.qmg = u.qmg := by
  obtain ⟨hanswered, honly, hqmg⟩ := completeCmd_leaves (status := status) (detail := detail) (r0 := r0) (r1 := r1) h (.of h hc hr hg ho) hl hsub
  refine ⟨_, by rw [ring_turn h, hb], hanswered.congr hr.symm, honly, hqmg⟩

/-- A command that fails at once changes nothing but the ring, the registers, what is put out, and what waking a domain changes. -/
theorem ring_refuses {body : CmdBody} {env : CmdEnv} {status : Nat} (h : RingTurn op a s)
    (hb : body env a (begunAs op a s) (takenBy op a s) = refuse status (takenBy op a s)) :
    ∃ t, onRing op body env a s = .next t ∧ Answered op a s s t status 0 0 0 ∧ Only [.ring, .regs, .held, .power, .counters] s t := by
  have hl : Only [.ring, .regs, .held, .power, .counters] s (takenBy op a s) := takenBy_within.only _ (by intro p; cases p <;> decide)
  obtain ⟨t, ht, hanswered, honly, -⟩ := ring_completes h hb rfl takenBy_regs takenBy_gates rfl hl (by decide)
  exact ⟨t, ht, hanswered, honly⟩

/-- A command whose body changes queues alone and completes OK. -/
theorem ring_changes_queues {body : CmdBody} {env : CmdEnv} {u : State} (h : RingTurn op a s)
    (hb : body env a (begunAs op a s) (takenBy op a s) = (.ok, u)) (hin : Within 0x400000000000000000000000000 (takenBy op a s) u) :
    ∃ t, onRing op body env a s = .next t ∧ Answered op a s s t csOk 0 0 0 ∧ Only [.ring, .regs, .held, .queues, .power, .counters] s t
      ∧ t.qmg = u.qmg := by
  have hsu : Within 0x20000000000000000400100500000000000000000006 s u := hin.app rfl (takenBy_within.weaken rfl)
  have hl : Only [.ring, .regs, .held, .queues, .power, .counters] s u := hsu.only _ (by intro p; cases p <;> decide)
  exact ring_completes h hb (hin.keeps_cmd fun _ => rfl) (hsu.keeps_regs rfl) (hsu.keeps_gates rfl) (hin.keeps_out rfl) hl (by decide)

end

/-- The function that owns an object may name it. -/
theorem mayName_of_eq {a : CmdArgs} {mid : Nat} (h : mid = a.mid) : mayName a mid = true := by
  simp [mayName, h]

end Sys2Proof.Machine

namespace Sys2Proof.Machine

/-! ### Queues by QID: what a change of one leaves -/

theorem updAll_eq_map {α : Type} (p : α → Bool) (f : α → α) (l : List α) : updAll p f l = l.map (fun x => if p x then f x else x) := by
  induction l with
  | nil => rfl
  | cons x l ih => rw [updAll, ih, List.map_cons]

theorem qid_of_queue? {s : State} {n : Nat} {q : Queue} (h : s.queue? n = some q) : q.qid = n := by
  simpa using List.find?_some h

theorem updQueue_queues {n : Nat} {f : Queue → Queue} {s : State} :
    (updQueue n f s).qmg.queues = s.qmg.queues.map (fun x => if x.qid = n then f x else x) := by
  simp [updQueue, updAll_eq_map]

/-- A change that keeps the QIDs changes the queue that each QID names. -/
theorem find?_map_qid {g : Queue → Queue} (hg : ∀ x, (g x).qid = x.qid) (l : List Queue) (n : Nat) :
    (l.map g).find? (fun x => x.qid = n) = (l.find? (fun x => x.qid = n)).map g := by
  rw [List.find?_map]
  congr 2
  funext x
  simp [hg]

theorem queue?_updQueue {n m : Nat} {f : Queue → Queue} {s : State} (hf : ∀ x, (f x).qid = x.qid) :
    (updQueue n f s).queue? m = (s.queue? m).map (fun x => if x.qid = n then f x else x) := by
  unfold State.queue?
  rw [updQueue_queues, find?_map_qid]
  intro x
  split
  · exact hf x
  · rfl

theorem queue?_updQueue_same {n : Nat} {f : Queue → Queue} {s : State} {q : Queue} (hf : ∀ x, (f x).qid = x.qid) (h : s.queue? n = some q) :
    (updQueue n f s).queue? n = some (f q) := by
  rw [queue?_updQueue hf, h, Option.map_some, if_pos (qid_of_queue? h)]

/-- A queue without the QUEUE_DRAINED events of one that wait in it. -/
def withoutDrained (n : Nat) (x : Queue) : Queue :=
  { x with sink := { x.sink with evWait := x.sink.evWait.filter (fun e => !(e.kind == evQueueDrained && e.qid == n)) } }

theorem dropDrained_queues {n : Nat} {s : State} : (dropDrained n s).qmg.queues = s.qmg.queues.map (withoutDrained n) := rfl

theorem queue?_dropDrained {n m : Nat} {s : State} : (dropDrained n s).queue? m = (s.queue? m).map (withoutDrained n) :=
  find?_map_qid (g := withoutDrained n) (fun _ => rfl) _ _

/-- No such event waits any more. -/
theorem drainedWaits_dropDrained {n : Nat} {s : State} : (dropDrained n s).drainedWaits n = false := by
  unfold State.drainedWaits
  rw [dropDrained_queues, List.any_eq_false]
  intro x hx
  obtain ⟨y, -, rfl⟩ := List.mem_map.1 hx
  simp only [withoutDrained, List.any_eq_true, List.mem_filter, not_exists, not_and]
  intro e he
  simpa [← not_and_or] using he.2

/-! ### CMD_QUEUE_DESTROY: its body (R73, R74) -/

/-- A queue as CMD_QUEUE_DESTROY leaves it: in DRAINING, without what it had not accepted. -/
def drained (work : Bool) (x : Queue) : Queue :=
  { x with state := .draining, drainEvt := work && !x.reset, fetch := x.fetch.restart x.fetch.known x.ci }

section
variable {env : CmdEnv} {a : CmdArgs} {b : Begun} {u : State} {q : Queue}

/-- A CQ or EQ to which another queue is bound is BUSY. -/
theorem cmdQueueDestroy_bound (hw : badWords a [mask 19 0] = false) (hq : u.queue? (bits a.w1.toNat 19 0) = some q) (hm : q.attr.mid = a.mid)
    (hbound : ∃ x ∈ u.qmg.queues, (q.kind = .cq ∧ (x.kind = .sq ∨ x.kind = .srq) ∧ x.attr.cq = q.qid)
      ∨ (q.kind = .eq ∧ x.kind ≠ .eq ∧ x.attr.eq = q.qid)) :
    cmdQueueDestroy env a b u = refuse csBusy u := by
  have hany : u.qmg.queues.any (fun x => (q.kind == .cq && (x.kind == .sq || x.kind == .srq) && x.attr.cq == q.qid)
      || (q.kind == .eq && x.kind != .eq && x.attr.eq == q.qid)) = true := by
    simpa [and_assoc] using hbound
  unfold cmdQueueDestroy
  dsimp only
  rw [hw, hq, ← qid_of_queue? hq]
  simp [mayName_of_eq hm, hany]

/-- A queue to which none is bound begins to drain. -/
theorem cmdQueueDestroy_drains (hw : badWords a [mask 19 0] = false) (hq : u.queue? (bits a.w1.toNat 19 0) = some q) (hm : q.attr.mid = a.mid)
    (hs : q.state ≠ .draining)
    (hfree : ∀ x ∈ u.qmg.queues, ¬(q.kind = .cq ∧ (x.kind = .sq ∨ x.kind = .srq) ∧ x.attr.cq = q.qid)
      ∧ ¬(q.kind = .eq ∧ x.kind ≠ .eq ∧ x.attr.eq = q.qid)) :
    cmdQueueDestroy env a b u = (.wait, queueIdle q.qid
      (let v := dropDrained q.qid (updQueue q.qid (drained (q.kind == .sq || q.kind == .srq)) u)
       if q.kind = .sq then memberQueueLost q.qid (withdrawRts q.qid (cancelPosted q.qid v)) else v)) := by
  have hany : u.qmg.queues.any (fun x => (q.kind == .cq && (x.kind == .sq || x.kind == .srq) && x.attr.cq == q.qid)
      || (q.kind == .eq && x.kind != .eq && x.attr.eq == q.qid)) = false := by
    simpa [and_assoc] using hfree
  unfold cmdQueueDestroy
  dsimp only
  rw [hw, hq, ← qid_of_queue? hq]
  simp [mayName_of_eq hm, hany, hs]
  rfl

end

/-! ### The end of draining (R73, R583) -/

/-- While a job of the queue is outstanding nothing happens. -/
theorem queueIdle_of_live {n : Nat} {s : State} (h : s.liveJobs n ≠ []) : queueIdle n s = s := by
  unfold queueIdle
  split
  · rfl
  · rw [if_pos (by simp [h])]

/-- A queue that owes no QUEUE_DRAINED event and is not in DRAINING stays as it is. -/
theorem queueIdle_of_quiet {n : Nat} {s : State} {q : Queue} (h : s.queue? n = some q) (he : q.drainEvt = false) (hs : q.state ≠ .draining) :
    queueIdle n s = s := by
  unfold queueIdle
  rw [h]
  simp [he, hs]

/-- A queue in DRAINING without jobs that owes no event is freed, and the command that waits for it completes. -/
theorem queueIdle_frees {n : Nat} {s : State} {q : Queue} (h : s.queue? n = some q) (hj : s.liveJobs n = []) (he : q.drainEvt = false)
    (hs : q.state = .draining) (hd : s.drainedWaits n = false) :
    queueIdle n s = completeWhere (isDestroyOf n) csOk 0 0 0 (freeQueue q s) := by
  unfold queueIdle
  rw [h]
  simp [hj, he, hs, hd]

/-- Records of a queue that goes keep the consumer position that it ended with. -/
def keepPosition (q : Queue) (k : Sink) : Sink :=
  { k with recWait := k.recWait.map (fun r => if r.qid = q.qid ∧ r.ciLo = none then { r with ciLo := some (q.ci.toNat % 65536) } else r) }

/-- A queue without jobs in which no record waits is freed: it goes, and the doorbells held for it. -/
theorem freeQueue_eq {s : State} {q : Queue} (hr : q.sink.recWait = []) (hw : q.sink.slotWait = []) (hj : ∀ j ∈ s.qmg.jobs, j.qid ≠ q.qid) :
    freeQueue q s = { s with qmg := { s.qmg with
      queues := (updSink q.attr.cq (keepPosition q) s).qmg.queues.filter (fun x => x.qid ≠ q.qid)
      heldDb := s.qmg.heldDb.filter (fun d => d.qid ≠ q.qid) } } := by
  have hjobs : s.qmg.jobs.filter (fun j => j.qid ≠ q.qid) = s.qmg.jobs := List.filter_eq_self.2 fun j h => by simpa using hj j h
  unfold freeQueue
  rw [hr, hw]
  show ({ s with qmg := { s.qmg with
      queues := (updSink q.attr.cq (keepPosition q) s).qmg.queues.filter (fun x => x.qid ≠ q.qid)
      jobs := s.qmg.jobs.filter (fun j => j.qid ≠ q.qid)
      heldDb := s.qmg.heldDb.filter (fun d => d.qid ≠ q.qid) } } : State) = _
  rw [hjobs]

/-- The command that has just begun is the one that a test for it finds. -/
theorem completeWhere_begun {op : Nat} {a : CmdArgs} {s u : State} {p : Begun → Bool} {status detail r0 r1 : Nat}
    (hc : u.cmd.begun = s.cmd.begun ++ [begunAs op a s]) (hp : p (begunAs op a s) = true) (hn : ∀ b ∈ s.cmd.begun, p b = false) :
    completeWhere p status detail r0 r1 u = completeCmd (begunAs op a s) status detail r0 r1 u := by
  have hfind : u.cmd.begun.find? p = some (begunAs op a s) := by
    rw [hc, List.find?_append, List.find?_eq_none.2 fun b hb => by simp [hn b hb]]
    simp [hp]
  unfold completeWhere
  rw [hfind]

/-- No command in progress names the object of one at its turn (R454). -/
theorem RingTurn.other_objects {op : Nat} {a : CmdArgs} {s : State} (h : RingTurn op a s) : ∀ b ∈ s.cmd.begun, sameObj (objectOf op a) b.obj = false := by
  have := h.free
  unfold State.blocked at this
  simp only [Bool.or_eq_false_iff, Option.elim_none, List.any_eq_false, Bool.not_eq_true] at this
  exact this.2

end Sys2Proof.Machine

namespace Sys2Proof.Machine

/-- Settles O18: the body finds the queue bound and refuses. -/
theorem boundQueuesAreNotDestroyed : Obligations.BoundQueuesAreNotDestroyed := by
  unfold Obligations.BoundQueuesAreNotDestroyed
  intro env a s q h hw hq hm hbound
  exact ring_refuses h (cmdQueueDestroy_bound hw (by simpa using hq) hm (by simpa using hbound))

/-- The QID that the command names is the object it holds. -/
theorem objectOf_queue {op : Nat} {a : CmdArgs} (h : 0x10 ≤ op ∧ op ≤ 0x13) : objectOf op a = (1, bits a.w1.toNat 19 0, bits a.w1.toNat 19 0) := by
  unfold objectOf
  dsimp only
  rw [if_neg (by omega), if_neg (by omega), if_neg (by omega), if_neg (by omega), if_pos h]

section
variable {a : CmdArgs} {s : State} {q : Queue}

/-- The state that the draining of a queue starts from, after dropping what the queue had not accepted. -/
def drainFrom (q : Queue) (s : State) : State := dropDrained q.qid (updQueue q.qid (drained (q.kind == .sq || q.kind == .srq)) s)

theorem drainFrom_within : Within 0x400000000000000000000000000 s (drainFrom q s) :=
  dropDrained_within.app rfl updQueue_within

theorem drainFrom_queue (hq : s.queue? q.qid = some q) :
    (drainFrom q s).queue? q.qid = some (withoutDrained q.qid (drained (q.kind == .sq || q.kind == .srq) q)) := by
  unfold drainFrom
  rw [queue?_dropDrained, queue?_updQueue_same (by intro; rfl) hq]
  rfl

theorem drainFrom_cmd : (drainFrom q s).cmd = s.cmd := rfl

theorem drainFrom_out : (drainFrom q s).out = s.out := rfl

theorem drainFrom_liveJobs (n : Nat) : (drainFrom q s).liveJobs n = s.liveJobs n := rfl

theorem drainFrom_congr {t : State} (h : t.qmg = s.qmg) : (drainFrom q t).qmg = (drainFrom q s).qmg := by
  unfold drainFrom dropDrained updQueue
  rw [h]

/-- Each other queue stands as it did. -/
theorem drainFrom_other_state {n : Nat} (h : n ≠ q.qid) : ((drainFrom q s).queue? n).map (·.state) = (s.queue? n).map (·.state) := by
  unfold drainFrom
  rw [queue?_dropDrained, queue?_updQueue (by intro; rfl), Option.map_map, Option.map_map]
  cases hx : s.queue? n with
  | none => rfl
  | some x =>
    have : x.qid ≠ q.qid := by rwa [qid_of_queue? hx]
    simp [withoutDrained, this]

/-- Freeing a queue without jobs of which no record waits changes the queues and the held doorbells alone. -/
structure Freed (n : Nat) (s t : State) : Prop where
  within : Within 0x2400000000000000000000000000 s t
  cmd : t.cmd = s.cmd
  out : t.out = s.out
  gone : t.queue? n = none
  other : ∀ m, m ≠ n → (t.queue? m).map (·.state) = (s.queue? m).map (·.state)

theorem freeQueue_freed (hr : q.sink.recWait = []) (hw : q.sink.slotWait = []) (hj : ∀ j ∈ s.qmg.jobs, j.qid ≠ q.qid) :
    Freed q.qid s (freeQueue q s) := by
  rw [freeQueue_eq hr hw hj]
  refine ⟨Within.refl.upd (e := s) rfl rfl rfl rfl rfl rfl rfl rfl, rfl, rfl, ?_, fun n hn => ?_⟩
  · simp [State.queue?, List.find?_eq_none]
  · have hfind : ((updSink q.attr.cq (keepPosition q) s).qmg.queues.filter (fun x => x.qid ≠ q.qid)).find? (fun x => x.qid = n)
        = (updSink q.attr.cq (keepPosition q) s).queue? n := by
      rw [List.find?_filter]
      unfold State.queue?
      congr 1
      funext x
      by_cases hx : x.qid = n <;> simp [hx, hn]
    show Option.map _ (List.find? _ _) = _
    rw [hfind]
    unfold updSink
    rw [queue?_updQueue (by intro; rfl), Option.map_map]
    congr 1
    funext x
    simp only [Function.comp]
    split <;> rfl

/-- A CQ or EQ without records and jobs is freed by the command itself, which completes OK. -/
theorem destroy_completes (h : RingTurn 0x12 a s) (hq : s.queue? (bits a.w1.toNat 19 0) = some q) (hk : q.kind = .cq ∨ q.kind = .eq)
    (hr : q.sink.recWait = []) (hw : q.sink.slotWait = []) (hj : ∀ j ∈ s.qmg.jobs, j.qid ≠ q.qid) :
    ∃ v, queueIdle q.qid (drainFrom q (takenBy 0x12 a s)) = completeCmd (begunAs 0x12 a s) csOk 0 0 0 v
      ∧ Freed q.qid (drainFrom q (takenBy 0x12 a s)) v := by
  have hid : q.qid = bits a.w1.toNat 19 0 := qid_of_queue? hq
  rw [← hid] at hq
  have hqueue := drainFrom_queue (q := q) (s := takenBy 0x12 a s) (by simpa using hq)
  have hlive : (drainFrom q (takenBy 0x12 a s)).liveJobs q.qid = [] := by
    rw [drainFrom_liveJobs, takenBy_liveJobs]
    exact List.filter_eq_nil_iff.2 fun j hmem => by simp [hj j hmem]
  have hevt : (withoutDrained q.qid (drained (q.kind == .sq || q.kind == .srq) q)).drainEvt = false := by
    obtain hk | hk := hk <;> simp [withoutDrained, drained, hk]
  have hfreed := freeQueue_freed (s := drainFrom q (takenBy 0x12 a s)) (q := withoutDrained q.qid (drained (q.kind == .sq || q.kind == .srq) q))
    hr hw (by show ∀ j ∈ (takenBy 0x12 a s).qmg.jobs, _; rwa [takenBy_qmg])
  refine ⟨_, ?_, hfreed⟩
  rw [queueIdle_frees hqueue hlive hevt rfl drainedWaits_dropDrained]
  have hobj : objectOf 0x12 a = (1, q.qid, q.qid) := by rw [objectOf_queue (by decide), hid]
  refine completeWhere_begun ?_ (by simp [isDestroyOf, begunAs, hobj]) fun b hb => ?_
  · rw [hfreed.cmd]
    show (takenBy 0x12 a s).cmd.begun = _
    rw [(takenBy_keeps 0x12 a s).1]
  · have hother := h.other_objects b hb
    rw [hobj] at hother
    unfold isDestroyOf
    by_contra hne
    rw [Bool.not_eq_false, Bool.and_eq_true, decide_eq_true_eq] at hne
    rw [hne.2] at hother
    simp [sameObj] at hother

end

/-- Settles O23: the body moves the queue to DRAINING; what `queueIdle` then does rests on its kind and its jobs. -/
theorem queueDestroyDrainsQueue : Obligations.QueueDestroyDrainsQueue := by
  unfold Obligations.QueueDestroyDrainsQueue
  intro env a s q h hw hq hm hs hfree drain d u
  have hid : q.qid = bits a.w1.toNat 19 0 := qid_of_queue? hq
  have hexec : exec (.cmdQueueDestroy env a) s = .next (queueIdle q.qid
      (if q.kind = .sq then memberQueueLost q.qid (withdrawRts q.qid (cancelPosted q.qid u)) else u)) :=
    ring_wait h (cmdQueueDestroy_drains hw (by simpa using hq) hm hs (by simpa using hfree))
  have hother : q.kind ≠ .sq → exec (.cmdQueueDestroy env a) s = .next (queueIdle q.qid u) := fun hk => by rw [hexec, if_neg hk]
  refine ⟨fun hk => by rw [hexec, if_pos hk], hother, fun hk hlive => ?_, fun hk hr hslot hj => ?_⟩
  · have hidle : queueIdle q.qid u = u := queueIdle_of_live (by
      show (drainFrom q (takenBy 0x12 a s)).liveJobs q.qid ≠ []
      rwa [drainFrom_liveJobs, takenBy_liveJobs])
    have hcmd : u.cmd = (takenBy 0x12 a s).cmd := drainFrom_cmd (q := q)
    have hwithin : Within 0x20000000000000000400100500000000000000000002 s u := drainFrom_within.app rfl (h.taken_within.weaken rfl)
    refine ⟨u, by rw [hother (by simp [hk]), hidle], ?_, hwithin.only _ (by intro p; cases p <;> decide), ?_⟩
    · rw [InProgress, hcmd, (takenBy_keeps 0x12 a s).1]
      exact ⟨rfl, rfl, rfl⟩
    · exact congrArg (·.queues) (drainFrom_congr takenBy_qmg)
  · have hne : q.kind ≠ .sq := by obtain hk | hk := hk <;> simp [hk]
    obtain ⟨v, hv, hfreed⟩ := destroy_completes h hq hk hr hslot hj
    have hin : Within 0x20000000000000002400100500000000000000000006 s v :=
      hfreed.within.app rfl (drainFrom_within.app rfl (takenBy_within.weaken rfl))
    have hregs : v.regs = s.regs := hin.keeps_regs rfl
    have hframe : Only [.ring, .regs, .held, .queues, .doorbells, .power, .counters] s v := hin.only _ (by intro p; cases p <;> decide)
    obtain ⟨hanswered, honly, hqmg⟩ := completeCmd_leaves (status := csOk) (detail := 0) (r0 := 0) (r1 := 0) h
      (.of h (hfreed.cmd.trans drainFrom_cmd) hregs (hin.keeps_gates rfl) (hfreed.out.trans drainFrom_out)) hframe (by decide)
    have hqueue : ∀ n, (completeCmd (begunAs 0x12 a s) csOk 0 0 0 v).queue? n = v.queue? n := fun n => by
      unfold State.queue?
      rw [hqmg]
    refine ⟨_, by rw [hother hne, show u = drainFrom q (takenBy 0x12 a s) from rfl, hv], hanswered.congr hregs.symm, honly, ?_, fun n hn => ?_⟩
    · rw [hqueue]
      exact hfreed.gone
    · rw [hqueue, hfreed.other n hn, drainFrom_other_state hn, takenBy_queue?]

end Sys2Proof.Machine

namespace Sys2Proof.Machine

/-! ### CMD_QUEUE_EVICT (R57, R59, R485) -/

/-- While no rule of a device memory gate differs from its reset value, no access to device memory is refused (R485). -/
theorem hbmRefusal_of_open {mid kind len : Nat} {pkey : Option Nat} {s : State} (h : ∀ r ∈ s.gates, r.gate < 0x20 ∨ 0x40 ≤ r.gate) :
    hbmRefusal mid kind len pkey s = (none, s) := by
  have hany : s.gates.any (fun r => decide (0x20 ≤ r.gate) && decide (r.gate < 0x40)) = false := by
    rw [List.any_eq_false]
    intro r hr
    have := h r hr
    simp
    omega
  unfold hbmRefusal
  rw [hany]
  rfl

/-- An eviction that no gate refuses: the context goes, its image is written, and its QID holds a slot of the journal. -/
theorem evictStart_of_open {n : Nat} {s : State} (h : ∀ r ∈ s.gates, r.gate < 0x20 ∨ 0x40 ≤ r.gate) :
    evictStart n s = (let t := updQueue n (fun x => { x with resid := .evicting, saved := x.image }) s
      { t with qmg := { t.qmg with journal := if n ∈ t.qmg.journal then t.qmg.journal else t.qmg.journal ++ [n] } }) := by
  unfold evictStart
  rw [hbmRefusal_of_open h]

theorem neededQueues_congr {p : Packet} {s t : State} (h : t.qmg = s.qmg) : neededQueues p t = neededQueues p s := by
  unfold neededQueues State.queue?
  rw [h]

theorem evictable_congr {s t : State} (h : t.qmg = s.qmg) : t.evictable = s.evictable := by
  funext q
  unfold State.evictable
  simp only [neededQueues_congr h, h]

section
variable {env : CmdEnv} {a : CmdArgs} {b : Begun} {s u : State} {q : Queue}

theorem cmdQueueEvict_stored (hw : badWords a [mask 19 0] = false) (hq : u.queue? (bits a.w1.toNat 19 0) = some q) (hm : q.attr.mid = a.mid)
    (hr : q.resid = .evicted) : cmdQueueEvict env a b u = (.ok, u) := by
  unfold cmdQueueEvict
  dsimp only
  rw [hw, hq]
  simp [mayName_of_eq hm, hr]

theorem cmdQueueEvict_starts (hw : badWords a [mask 19 0] = false) (hq : u.queue? (bits a.w1.toNat 19 0) = some q) (hm : q.attr.mid = a.mid)
    (hr : q.resid ≠ .evicted) (he : u.evictable q = true) (hg : ∀ r ∈ u.gates, r.gate < 0x20 ∨ 0x40 ≤ r.gate) :
    cmdQueueEvict env a b u = (.wait, evictStart (bits a.w1.toNat 19 0) u) := by
  have hgoing : (evictStart (bits a.w1.toNat 19 0) u).queue? (bits a.w1.toNat 19 0) = some { q with resid := .evicting, saved := q.image } := by
    rw [evictStart_of_open hg]
    exact queue?_updQueue_same (by intro; rfl) hq
  unfold cmdQueueEvict
  dsimp only
  rw [hw, hq]
  simp [mayName_of_eq hm, hr, he, hgoing]

/-- What starting an eviction changes, where no gate refuses it. -/
theorem evictStart_within_of_open {n : Nat} (h : ∀ r ∈ s.gates, r.gate < 0x20 ∨ 0x40 ≤ r.gate) :
    Within 0x8400000000000000000000000000 s (evictStart n s) := by
  rw [evictStart_of_open h]
  exact Within.refl.upd (e := s) rfl rfl rfl rfl rfl rfl rfl rfl

end

/-- Settles O24: one already in the store leaves the state, an evictable one goes through the journal. -/
theorem queueEvictStartsEviction : Obligations.QueueEvictStartsEviction := by
  unfold Obligations.QueueEvictStartsEviction
  intro env a s q h hw hq hm
  refine ⟨fun hr => ?_, fun hr he hg => ?_⟩
  · have hl : Only [.ring, .regs, .held, .power, .counters] s (takenBy 0x13 a s) := takenBy_within.only _ (by intro p; cases p <;> decide)
    have hbody : cmdQueueEvict env a (begunAs 0x13 a s) (takenBy 0x13 a s) = (.ok, takenBy 0x13 a s) :=
      cmdQueueEvict_stored hw (by simpa using hq) hm hr
    obtain ⟨t, ht, hanswered, honly, -⟩ := ring_completes h hbody rfl takenBy_regs takenBy_gates rfl hl (by decide)
    exact ⟨t, ht, hanswered, honly⟩
  · have hopen : ∀ r ∈ (takenBy 0x13 a s).gates, r.gate < 0x20 ∨ 0x40 ≤ r.gate := by simpa using hg
    have hbody : cmdQueueEvict env a (begunAs 0x13 a s) (takenBy 0x13 a s) = (.wait, evictStart (bits a.w1.toNat 19 0) (takenBy 0x13 a s)) :=
      cmdQueueEvict_starts hw (by simpa using hq) hm hr (by rwa [evictable_congr takenBy_qmg]) hopen
    have hwithin : Within 0x20000000000000008400100500000000000000000002 s (evictStart (bits a.w1.toNat 19 0) (takenBy 0x13 a s)) :=
      (evictStart_within_of_open hopen).app rfl (h.taken_within.weaken rfl)
    have hcmd : (evictStart (bits a.w1.toNat 19 0) (takenBy 0x13 a s)).cmd = (takenBy 0x13 a s).cmd := by rw [evictStart_of_open hopen]; rfl
    refine ⟨_, ring_wait h hbody, ?_, hwithin.only _ (by intro p; cases p <;> decide), ?_, ?_⟩
    · rw [InProgress, hcmd, (takenBy_keeps 0x13 a s).1]
      exact ⟨rfl, rfl, rfl⟩
    · rw [evictStart_of_open hopen]
      dsimp only
      split
      · assumption
      · exact List.mem_append_right _ (List.mem_singleton_self _)
    · rw [evictStart_of_open hopen]
      exact updQueue_queues.trans (by rw [takenBy_qmg])

end Sys2Proof.Machine

namespace Sys2Proof.Machine

/-! ### CMD_QUEUE_MODIFY: its body (R32, R58, R73, R96) -/

/-- The row fixes ACTION, bits [23:20] of W1 (R459). -/
theorem bits_action {a : CmdArgs} {v : Nat} (hv : v < 16) : bits (withW1 23 20 v a).w1.toNat 23 20 = v := by
  have hw : a.w1.toNat < 2 ^ 64 := a.w1.isLt
  simp only [withW1, word, putBits, bits, BitVec.toNat_ofNat]
  omega

section
variable {hi lo v : Nat} {a : CmdArgs}

@[simp] theorem withW1_mid : (withW1 hi lo v a).mid = a.mid := by unfold withW1; rfl

@[simp] theorem withW1_w3 : (withW1 hi lo v a).w3 = a.w3 := by unfold withW1; rfl

@[simp] theorem withW1_w4 : (withW1 hi lo v a).w4 = a.w4 := by unfold withW1; rfl

@[simp] theorem withW1_w5 : (withW1 hi lo v a).w5 = a.w5 := by unfold withW1; rfl

end

section
variable {env : CmdEnv} {a : CmdArgs} {b : Begun} {s u : State} {q : Queue}

/-- A queue of the function that is not DRAINING: what its ACTION does. -/
theorem cmdQueueModify_acts {act : Nat} (ha : bits a.w1.toNat 23 20 = act)
    (hw : badWords a [mask 28 0, 0, mask 19 0 + mask 51 32, mask 14 0 + mask 17 16 + mask 31 20, if act = 3 then allBits else 0] = false)
    (hq : u.queue? (bits a.w1.toNat 19 0) = some q) (hm : q.attr.mid = a.mid) (hs : q.state ≠ .draining) :
    cmdQueueModify env a b u = (if act = 0 then modifyAttributes q a u else if act = 1 then modifyStop q u
      else if act = 2 then modifyStart q u else if act = 3 then modifyRecover q a u else refuse csInvalid u) := by
  unfold cmdQueueModify
  dsimp only
  rw [ha, hw, hq]
  simp only [mayName_of_eq hm, hs, Bool.false_eq_true, if_false, Bool.not_true]
  match act with
  | 0 | 1 | 2 | 3 => rfl
  | n + 4 => rfl

@[simp] theorem takenBy_raw {op : Nat} (r : Reg) (i k : Nat) : (takenBy op a s).raw r i k = s.raw r i k := by
  have h := takenBy_within (op := op) (a := a) (s := s)
  unfold State.raw State.bank
  rw [h.keeps_regs rfl, h.keeps_bank0 rfl, h.keeps_bank1 rfl, h.keeps_cmd_bank rfl]

@[simp] theorem takenBy_pinRoom {op : Nat} : (takenBy op a s).pinRoom = s.pinRoom := by
  unfold State.pinRoom State.pinned
  rw [takenBy_qmg, takenBy_raw]

@[simp] theorem takenBy_eqFits {op : Nat} (ep n : Nat) : (takenBy op a s).eqFits ep n = s.eqFits ep n := by
  unfold State.eqFits
  rw [takenBy_queue?]

@[simp] theorem takenBy_cacheUsed {op : Nat} : (takenBy op a s).cacheUsed = s.cacheUsed := by
  unfold State.cacheUsed
  rw [takenBy_qmg]

/-! ### ACTION 0x0 (R32, R58, R96) -/

/-- The attributes that the change mask of a CMD_QUEUE_MODIFY leaves. -/
def modified (m : Nat) (a : CmdArgs) (x : QAttr) : QAttr :=
  { x with
    eq := if bit m 0 then bits a.w3.toNat 51 32 else x.eq
    weight := if bit m 1 then bits a.w4.toNat 7 0 else x.weight
    burst := if bit m 2 then bits a.w4.toNat 14 8 else x.burst
    tc := if bit m 3 then bits a.w4.toNat 17 16 else x.tc
    pin := if bit m 4 then !x.pin else x.pin }

/-- New values that apply to the kind of the queue and are in range, and room for a context to be pinned. -/
structure ModifyFits (q : Queue) (a : CmdArgs) (m : Nat) (s : State) : Prop where
  eq : bit m 0 = true → q.kind ≠ .eq ∧ s.eqFits q.attr.ep (bits a.w3.toNat 51 32) = true
  weight : bit m 1 = true → (q.kind = .sq ∨ q.kind = .srq) ∧ bits a.w4.toNat 7 0 ≠ 0
  burst : bit m 2 = true → (q.kind = .sq ∨ q.kind = .srq) ∧ 1 ≤ bits a.w4.toNat 14 8 ∧ bits a.w4.toNat 14 8 ≤ 64
  tc : bit m 3 = true → q.kind = .sq ∧ bits a.w4.toNat 17 16 ≠ 3
  pin : bit m 4 = true → q.attr.pin = false → s.pinRoom = true

/-- New values that fit are taken, and a context that becomes pinned is fetched. -/
theorem modifyAttributes_fits (h : ModifyFits q a (bits a.w1.toNat 28 24) u) :
    modifyAttributes q a u = (.ok,
      let v := updQueue q.qid (fun x => { x with attr := modified (bits a.w1.toNat 28 24) a x.attr }) u
      if bit (bits a.w1.toNat 28 24) 4 && !q.attr.pin then startFetch q.qid v else v) := by
  have hbad : ((bit (bits a.w1.toNat 28 24) 0 && (q.kind == .eq || !u.eqFits q.attr.ep (bits a.w3.toNat 51 32)))
    || (bit (bits a.w1.toNat 28 24) 1 && (!(q.kind == .sq || q.kind == .srq) || decide (bits a.w4.toNat 7 0 = 0)))
    || (bit (bits a.w1.toNat 28 24) 2 && (!(q.kind == .sq || q.kind == .srq) || decide (bits a.w4.toNat 14 8 = 0) || decide (64 < bits a.w4.toNat 14 8)))
    || (bit (bits a.w1.toNat 28 24) 3 && (q.kind != .sq || decide (bits a.w4.toNat 17 16 = 3)))) = false := by
    obtain ⟨heq, hweight, hburst, htc, -⟩ := h
    simp only [Bool.or_eq_false_iff, Bool.and_eq_false_imp]
    refine ⟨⟨⟨fun hb => ?_, fun hb => ?_⟩, fun hb => ?_⟩, fun hb => ?_⟩
    · simpa using heq hb
    · simpa [or_iff_not_imp_left] using hweight hb
    · simpa [Nat.one_le_iff_ne_zero, and_assoc, or_iff_not_imp_left] using hburst hb
    · simpa using htc hb
  have hpin : (bit (bits a.w1.toNat 28 24) 4 && !q.attr.pin && !u.pinRoom) = false := by
    rw [Bool.and_eq_false_imp]
    intro hb
    rw [Bool.and_eq_true, Bool.not_eq_true'] at hb
    simpa using h.pin hb.1 hb.2
  unfold modifyAttributes
  dsimp only
  rw [hbad, hpin]
  rfl

theorem startFetch_queues {n : Nat} : (startFetch n s).qmg.queues = s.qmg.queues.map (fun x =>
    if x.qid = n ∧ x.resid = .evicted ∧ s.cacheUsed < Config.contextCache then { x with resid := .fetching } else x) := by
  unfold startFetch
  split
  · rw [updQueue_queues]
    refine List.map_congr_left fun x _ => ?_
    by_cases hn : x.qid = n <;> by_cases hr : x.resid = .evicted <;> simp [*]
  · simp [*]

/-- New attributes need no entry of the cache and give none up. -/
theorem cacheUsed_updQueue {n : Nat} {f : Queue → Queue} (hf : ∀ x, (f x).resid = x.resid) : (updQueue n f s).cacheUsed = s.cacheUsed := by
  unfold State.cacheUsed
  rw [updQueue_queues, List.filter_map, List.length_map]
  congr 2
  funext x
  by_cases hn : x.qid = n <;> simp [hn, hf]

/-- A queue as ACTION 0x0 leaves it, where a context that becomes pinned finds a free entry of the cache or does not. -/
def modifiedQueue (m : Nat) (a : CmdArgs) (pinned room : Bool) (x : Queue) : Queue :=
  { x with
    attr := modified m a x.attr
    resid := if bit m 4 && !pinned && decide (x.resid = .evicted) && room then .fetching else x.resid }

/-- ACTION 0x0 changes the queues that its QID names, and nothing else. -/
theorem modifyAttributes_leaves (h : ModifyFits q a (bits a.w1.toNat 28 24) u) :
    ∃ v, modifyAttributes q a u = (.ok, v) ∧ Within 0x400000000000000000000000000 u v
      ∧ v.qmg.queues = u.qmg.queues.map (fun x => if x.qid = q.qid then
          modifiedQueue (bits a.w1.toNat 28 24) a q.attr.pin (decide (u.cacheUsed < Config.contextCache)) x else x) := by
  refine ⟨_, modifyAttributes_fits h, Within.ite (startFetch_within.app rfl updQueue_within) updQueue_within, ?_⟩
  by_cases hp : (bit (bits a.w1.toNat 28 24) 4 && !q.attr.pin) = true
  · rw [if_pos hp, startFetch_queues, updQueue_queues, List.map_map, cacheUsed_updQueue (by intro; rfl)]
    refine List.map_congr_left fun x _ => ?_
    by_cases hn : x.qid = q.qid
    · by_cases hr : x.resid = .evicted <;> by_cases hroom : u.cacheUsed < Config.contextCache <;>
        simp [hn, hr, hroom, modifiedQueue, hp]
    · simp [hn]
  · rw [if_neg hp, updQueue_queues]
    refine List.map_congr_left fun x _ => ?_
    by_cases hn : x.qid = q.qid
    · simp [hn, modifiedQueue, Bool.eq_false_iff.2 hp]
    · simp [hn]

/-- CMD_QUEUE_MODIFY with ACTION 0x0 and values that fit. -/
theorem modify_completes (h : RingTurn 0x11 a s) (ha : bits a.w1.toNat 23 20 = 0)
    (hw : badWords a [mask 28 0, 0, mask 19 0 + mask 51 32, mask 14 0 + mask 17 16 + mask 31 20, 0] = false)
    (hq : s.queue? (bits a.w1.toNat 19 0) = some q) (hm : q.attr.mid = a.mid) (hs : q.state ≠ .draining)
    (hfits : ModifyFits q a (bits a.w1.toNat 28 24) s) :
    ∃ t, onRing 0x11 cmdQueueModify env a s = .next t ∧ Answered 0x11 a s s t csOk 0 0 0 ∧ Only [.ring, .regs, .held, .queues, .power, .counters] s t
      ∧ t.qmg.queues = s.qmg.queues.map (fun x => if x.qid = q.qid then
          modifiedQueue (bits a.w1.toNat 28 24) a q.attr.pin (decide (s.cacheUsed < Config.contextCache)) x else x) := by
  obtain ⟨heq, hweight, hburst, htc, hpin⟩ := hfits
  have htaken : ModifyFits q a (bits a.w1.toNat 28 24) (takenBy 0x11 a s) := ⟨by simpa using heq, hweight, hburst, htc, by simpa using hpin⟩
  obtain ⟨v, hv, hin, hqueues⟩ := modifyAttributes_leaves htaken
  have hbody : cmdQueueModify env a (begunAs 0x11 a s) (takenBy 0x11 a s) = (.ok, v) :=
    (cmdQueueModify_acts ha hw (by simpa using hq) hm hs).trans hv
  obtain ⟨t, ht, hanswered, honly, hqmg⟩ := ring_changes_queues h hbody hin
  refine ⟨t, ht, hanswered, honly, ?_⟩
  rw [hqmg, hqueues, takenBy_qmg, takenBy_cacheUsed]

end

/-- Settles O20: the attributes take their new values, queue by queue, and the fetch of a context that became pinned begins. -/
theorem queueModifyChangesNamedAttributes : Obligations.QueueModifyChangesNamedAttributes := by
  unfold Obligations.QueueModifyChangesNamedAttributes
  intro env a s q h hw hq hm hs m heq hweight hburst htc hpin
  have hfits : ModifyFits q (withW1 23 20 0 a) m s :=
    ⟨by simpa only [withW1_w3] using heq, by simpa only [withW1_w4] using hweight, by simpa only [withW1_w4] using hburst,
      by simpa only [withW1_w4] using htc, hpin⟩
  obtain ⟨t, ht, hanswered, honly, hqueues⟩ := modify_completes (env := env) h (bits_action (by decide)) hw hq (hm.trans withW1_mid.symm) hs hfits
  refine ⟨t, ht, hanswered, honly, ?_⟩
  simpa only [modifiedQueue, modified, withW1_w3, withW1_w4] using hqueues

end Sys2Proof.Machine

namespace Sys2Proof.Machine

/-! ### STOP (R73, R583) -/

@[simp] theorem takenBy_evUp {op : Nat} {a : CmdArgs} {s : State} : (takenBy op a s).evUp = s.evUp := by
  unfold State.evUp State.epUp State.running
  rw [takenBy_sys]

/-- A queue as STOP leaves it: no run goes on, and nothing that was taken stays. -/
def stopped (work : Bool) (x : Queue) : Queue :=
  { x with state := .stopped, drainEvt := work, fetch := x.fetch.restart x.fetch.known x.ci }

/-- The QUEUE_DRAINED event that is due is written. -/
theorem queueIdle_drained {n : Nat} {s : State} {q : Queue} (h : s.queue? n = some q) (hj : s.liveJobs n = []) (he : q.drainEvt = true)
    (hu : s.evUp = true) (hs : q.state ≠ .draining) :
    queueIdle n s = queueEvent q evQueueDrained q.ci.toNat 0 (updQueue n (fun x => { x with drainEvt := false }) s) := by
  unfold queueIdle
  rw [h]
  simp [hj, he, hu, hs]

/-- While no event may be written, one that is due waits. -/
theorem queueIdle_of_mute {n : Nat} {s : State} {q : Queue} (h : s.queue? n = some q) (he : q.drainEvt = true) (hu : s.evUp = false) :
    queueIdle n s = s := by
  unfold queueIdle
  rw [h]
  simp [he, hu]

section
variable {env : CmdEnv} {a : CmdArgs} {b : Begun} {s u : State} {q : Queue}

theorem modifyStop_stops (hs : q.state = .active) :
    modifyStop q u = (.ok, queueIdle q.qid (updQueue q.qid (stopped (q.kind == .sq || q.kind == .srq)) u)) := by
  unfold modifyStop
  rw [if_neg (by simp [hs])]
  rfl

theorem stop_queue (hq : u.queue? q.qid = some q) (work : Bool) : (updQueue q.qid (stopped work) u).queue? q.qid = some (stopped work q) :=
  queue?_updQueue_same (by intro; rfl) hq

/-- A work queue with nothing outstanding is drained at once. -/
theorem stop_drained (hq : u.queue? q.qid = some q) (hk : q.kind = .sq ∨ q.kind = .srq) (hj : u.liveJobs q.qid = []) (he : u.evUp = true) :
    queueIdle q.qid (updQueue q.qid (stopped (q.kind == .sq || q.kind == .srq)) u)
      = queueEvent (stopped (q.kind == .sq || q.kind == .srq) q) evQueueDrained q.ci.toNat 0
          (updQueue q.qid (fun x => { x with drainEvt := false }) (updQueue q.qid (stopped (q.kind == .sq || q.kind == .srq)) u)) :=
  queueIdle_drained (stop_queue hq _) hj (by obtain hk | hk := hk <;> simp [stopped, hk]) he (by simp [stopped])

/-- Any other queue stays as STOP leaves it. -/
theorem stop_waits (hq : u.queue? q.qid = some q) (hn : ¬((q.kind = .sq ∨ q.kind = .srq) ∧ u.liveJobs q.qid = [] ∧ u.evUp = true)) :
    queueIdle q.qid (updQueue q.qid (stopped (q.kind == .sq || q.kind == .srq)) u)
      = updQueue q.qid (stopped (q.kind == .sq || q.kind == .srq)) u := by
  have hqueue := stop_queue hq (q.kind == .sq || q.kind == .srq)
  by_cases hk : q.kind = .sq ∨ q.kind = .srq
  · by_cases hj : u.liveJobs q.qid = []
    · have he : u.evUp = false := by simpa using fun he => hn ⟨hk, hj, he⟩
      exact queueIdle_of_mute hqueue (by obtain hk | hk := hk <;> simp [stopped, hk]) he
    · exact queueIdle_of_live hj
  · exact queueIdle_of_quiet hqueue (by simpa [stopped] using hk) (by simp [stopped])

end

/-- Settles O21: the queue stops, and `queueIdle` writes the QUEUE_DRAINED event where it is due and may be written. -/
theorem queueStopEndsPrefetchAndDispatch : Obligations.QueueStopEndsPrefetchAndDispatch := by
  unfold Obligations.QueueStopEndsPrefetchAndDispatch
  intro env a s q h hw hq hm hs stop u
  have hid : q.qid = bits (withW1 23 20 1 a).w1.toNat 19 0 := qid_of_queue? hq
  have hq' : (takenBy 0x11 (withW1 23 20 1 a) s).queue? q.qid = some q := by rw [takenBy_queue?, hid, hq]
  have hbody : cmdQueueModify env (withW1 23 20 1 a) (begunAs 0x11 (withW1 23 20 1 a) s) (takenBy 0x11 (withW1 23 20 1 a) s)
      = (.ok, queueIdle q.qid u) :=
    (cmdQueueModify_acts (act := 1) (bits_action (by decide)) hw (by rw [takenBy_queue?, hq]) (hm.trans withW1_mid.symm) (by simp [hs])).trans
      (modifyStop_stops hs)
  split
  next hdue =>
    have hidle := stop_drained hq' hdue.1 (by rw [takenBy_liveJobs, hdue.2.1]) (by rw [takenBy_evUp, hdue.2.2])
    refine (ring_turn h).trans ?_
    rw [hbody]
    exact congrArg (fun v => Host.Outcome.next (completeCmd _ csOk 0 0 0 v)) hidle
  next hdue =>
    have hidle : queueIdle q.qid u = u := stop_waits hq' (by rwa [takenBy_liveJobs, takenBy_evUp])
    rw [hidle] at hbody
    obtain ⟨t, ht, hanswered, honly, hqmg⟩ := ring_changes_queues h hbody updQueue_within
    refine ⟨t, ht, hanswered, honly, ?_⟩
    rw [hqmg]
    exact updQueue_queues.trans (by rw [takenBy_qmg])

/-! ### START and RECOVER (R46, R73, R582) -/

/-- A queue as RECOVER leaves it at the positions p and c: what the next events need stays (R394, log 125). -/
def recovered (p c : Pos) (x : Queue) : Queue :=
  { x with
    state := .active, reset := false, ci := c, fetch := x.fetch.restart p c
    sink := { sinkAt p c with evWait := x.sink.evWait, lost := x.sink.lost, slotWait := x.sink.slotWait, vecReady := x.sink.vecReady } }

section
variable {a : CmdArgs} {s u : State} {q : Queue}

/-- What START goes on with: records that waited, events that waited, or a run of reads. -/
theorem modifyStart_starts (hs : q.state = .stopped) :
    modifyStart q u = (.ok, let v := dropDrained q.qid (updQueue q.qid (fun x => { x with state := .active, drainEvt := false }) u)
      match q.kind with
      | .cq => cqDrain q.qid (q.sink.recWait.length + 1) v
      | .eq => eqRetry q.qid v
      | _ => startRun q.qid (wakeDomain (engineDomain q.attr.home) v)) := by
  unfold modifyStart
  rw [if_neg (by simp [hs])]
  cases q.kind <;> rfl

@[simp] theorem takenBy_outstanding {op : Nat} : (takenBy op a s).outstanding? q = s.outstanding? q := by
  unfold State.outstanding?
  rw [takenBy_liveJobs]

/-- What RECOVER goes on with, once the queue has taken its positions. -/
theorem modifyRecover_recovers {p c : Pos} (hs : q.state = .error) (ho : u.outstanding? q = false)
    (hp : BitVec.ofNat 32 (bits a.w5.toNat 63 32) = p) (hc : BitVec.ofNat 32 (bits a.w5.toNat 31 0) = c) (hd : dist p c ≤ q.size) :
    modifyRecover q a u = (.ok, let v := updQueue q.qid (recovered p c) u
      match q.kind with
      | .eq => eqFlush q.qid ((v.setReg .qmgEqPi 0 q.qid p.toNat).setReg .qmgEqCi 0 q.qid c.toNat)
      | .cq => cqWake q.qid v
      | _ => startRun q.qid (wakeDomain (engineDomain q.attr.home) v)) := by
  unfold modifyRecover
  rw [hp, hc]
  dsimp only
  rw [if_neg (by simp [hs, ho]), if_neg (by omega)]
  cases q.kind <;> rfl

end

/-- Settles O22: the queue becomes ACTIVE, and what goes on after that rests on its kind. -/
theorem queueStartAndRecoverMakeActive : Obligations.QueueStartAndRecoverMakeActive := by
  unfold Obligations.QueueStartAndRecoverMakeActive
  refine ⟨?_, ?_⟩
  · intro env a s q h hw hq hm hs u
    have hbody := (cmdQueueModify_acts (env := env) (b := begunAs 0x11 (withW1 23 20 2 a) s) (act := 2) (bits_action (by decide)) hw
      (by rw [takenBy_queue?, hq]) (hm.trans withW1_mid.symm) (by simp [hs])).trans (modifyStart_starts (u := takenBy 0x11 (withW1 23 20 2 a) s) hs)
    refine (ring_turn h).trans ?_
    rw [hbody]
    cases q.kind <;> rfl
  · intro env a s q h hw hq hm hs ho p c hd u
    have hrecover : modifyRecover q (withW1 23 20 3 a) (takenBy 0x11 (withW1 23 20 3 a) s) = _ :=
      modifyRecover_recovers (p := p) (c := c) hs (by rw [takenBy_outstanding, ho]) (by rw [withW1_w5]) (by rw [withW1_w5]) hd
    have hbody := (cmdQueueModify_acts (env := env) (b := begunAs 0x11 (withW1 23 20 3 a) s) (act := 3) (bits_action (by decide)) hw
      (by rw [takenBy_queue?, hq]) (hm.trans withW1_mid.symm) (by simp [hs])).trans hrecover
    refine (ring_turn h).trans ?_
    rw [hbody]
    cases q.kind <;> rfl

end Sys2Proof.Machine

namespace Sys2Proof.Machine

/-! ### CMD_QUEUE_CREATE (R31-R33, R57, R73) -/

/-- The function may create this queue: its words are in range, the QID is UNUSED, and a context may be pinned where it asks for that. -/
structure Creatable (k : QKind) (a : CmdArgs) (x : Asid) (s : State) : Prop where
  kind : queueKind (bits a.w1.toNat 23 20) = some k
  words : badWords a [mask 30 0 + mask 47 32, allBits, mask 19 0 + mask 51 32, mask 14 0 + mask 17 16 + mask 31 20] = false
  creator : s.creator a = csOk
  asid : s.asid? (bits a.w1.toNat 47 32) = some x
  owner : x.mid = a.mid
  fits : s.createFits k a = true
  unused : s.queue? (bits a.w1.toNat 19 0) = none
  pin : bit a.w1.toNat 25 = true → s.pinRoom = true

/-- The registers of an EQ that begins: both its positions are 0 (R33). -/
def eqBegins (k : QKind) (n : Nat) (s : State) : State := if k = .eq then (s.setReg .qmgEqPi 0 n 0).setReg .qmgEqCi 0 n 0 else s

/-- The state with the new queue, whose context takes the entry of the cache that v has free. -/
def created (k : QKind) (a : CmdArgs) (x : Asid) (v : State) : State :=
  let qid := bits a.w1.toNat 19 0
  let w := (pickHome v).2
  eqBegins k qid { w with qmg := { w.qmg with queues := w.qmg.queues ++ [newQueue qid k (createAttr k a x (pickHome v).1) w.qmg.useClock] } }

section
variable {env : CmdEnv} {a : CmdArgs} {b : Begun} {s t u v : State} {k : QKind} {x : Asid}

theorem creator_of_func? {f : Func} (h : s.func? a.mid = some f) (hd : f.draining = none) : s.creator a = csOk := by
  unfold State.creator
  rw [h]
  simp [hd]

theorem cmdQueueCreate_creates (h : Creatable k a x u) (he : cacheEntry u = some v) :
    cmdQueueCreate env a b u = (.result (pickHome v).1, created k a x v) := by
  obtain ⟨hkind, hwords, hcreator, hasid, howner, hfits, hunused, hpin⟩ := h
  have hroom : (bit a.w1.toNat 25 && !u.pinRoom) = false := by simpa [Bool.and_eq_false_imp] using hpin
  unfold cmdQueueCreate
  dsimp only
  rw [hkind]
  dsimp only
  rw [hwords, hcreator, hasid]
  simp only [mayName_of_eq howner, hfits, hunused, hroom, he, Bool.not_true, Bool.false_eq_true, if_false, ne_eq, not_true, Option.isSome_none]
  rfl

theorem cmdQueueCreate_full (h : Creatable k a x u) (he : cacheEntry u = none) : cmdQueueCreate env a b u = refuse csNoResource u := by
  obtain ⟨hkind, hwords, hcreator, hasid, howner, hfits, hunused, hpin⟩ := h
  have hroom : (bit a.w1.toNat 25 && !u.pinRoom) = false := by simpa [Bool.and_eq_false_imp] using hpin
  unfold cmdQueueCreate
  dsimp only
  rw [hkind]
  dsimp only
  rw [hwords, hcreator, hasid]
  simp only [mayName_of_eq howner, hfits, hunused, hroom, he, Bool.not_true, Bool.false_eq_true, if_false, ne_eq, not_true, Option.isSome_none]

/-- Taking the command leaves all that this rests on. -/
theorem Creatable.taken {op : Nat} (h : Creatable k a x s) : Creatable k a x (takenBy op a s) := by
  obtain ⟨hkind, hwords, hcreator, hasid, howner, hfits, hunused, hpin⟩ := h
  have hfunc : (takenBy op a s).func? a.mid = s.func? a.mid := by
    unfold State.func?
    rw [takenBy_hif]
  refine ⟨hkind, hwords, ?_, ?_, howner, ?_, by rwa [takenBy_queue?], by rwa [takenBy_pinRoom]⟩
  · unfold State.creator at hcreator ⊢
    rwa [hfunc]
  · unfold State.asid? at hasid ⊢
    rwa [takenBy_asids]
  · unfold State.createFits at hfits ⊢
    simpa only [takenBy_queue?, takenBy_eqFits, hfunc] using hfits

/-- A command on a queue that does not exist wakes no domain. -/
theorem takenBy_of_unused {op : Nat} (ho : 0x10 ≤ op ∧ op ≤ 0x13) (h : s.queue? (bits a.w1.toNat 19 0) = none) :
    Within 0x500000000000000000006 s (takenBy op a s) := by
  obtain ⟨y, z, he, hy, -⟩ := emit_form ({ s with cmd := { s.cmd with next := s.cmd.next + 1 } } : State)
    (.hostRead s.hif.nextReq (s.fld .cmdRingBase 0 58 56) (s.ringAddr s.cmd.next) 64 false)
  have hqueue : (begunIn op a s).queue? (bits a.w1.toNat 19 0) = none := by
    unfold begunIn
    rw [he]
    exact h
  have hsame : takenBy op a s = begunIn op a s := by
    rw [takenBy_eq, objectOf_queue ho, wakeForCommand, if_pos rfl, hqueue]
    rfl
  rw [hsame]
  unfold begunIn
  rw [he]
  exact Within.refl.put (e := s) hy (Nat.le_refl _) (Nat.le_refl _) rfl rfl rfl rfl rfl

/-- What makes room in the cache rests on the queues, the jobs and the pond alone. -/
theorem cacheEntry_congr (h : t.qmg = s.qmg) (hv : cacheEntry s = some v) :
    ∃ w, cacheEntry t = some w ∧ w.qmg = v.qmg ∧ Within 0x400000000000000000000000000 t w := by
  have hused : t.cacheUsed = s.cacheUsed := by
    unfold State.cacheUsed
    rw [h]
  unfold cacheEntry at hv ⊢
  rw [hused, evictable_congr h, h]
  split at hv
  · rw [if_pos (by assumption)]
    cases hv
    exact ⟨t, rfl, h, Within.refl⟩
  · rw [if_neg (by assumption)]
    obtain ⟨q, hq, rfl⟩ := Option.map_eq_some_iff.1 hv
    rw [hq]
    exact ⟨_, rfl, by unfold updQueue; rw [h], updQueue_within⟩

theorem cacheEntry_none_congr (h : t.qmg = s.qmg) (hv : cacheEntry s = none) : cacheEntry t = none := by
  cases ht : cacheEntry t with
  | none => rfl
  | some w =>
    obtain ⟨v, hs, -⟩ := cacheEntry_congr h.symm ht
    rw [hv] at hs
    cases hs

theorem pickHome_congr (he : t.engines = s.engines) (hf : t.freeCtr = s.freeCtr) : (pickHome t).1 = (pickHome s).1 := by
  have hactive : t.activeMpes = s.activeMpes := by
    funext c
    unfold State.activeMpes State.engine
    rw [he]
  unfold pickHome State.drawNat
  rw [hactive, hf]

/-! The position registers of an EQ lie apart from those of the ring and of the windows. -/

/-- Neither position register of an EQ lies at this offset. -/
def AwayFromEq (n addr : Nat) : Prop := addr ≠ regAddr .qmgEqPi 0 n ∧ addr ≠ regAddr .qmgEqCi 0 n

theorem awayFromEq_ring {r : Reg} {n : Nat} (h : r = .cmdRingBase ∨ r = .cmdStatusBase ∨ r = .cmdCi) : AwayFromEq n (regAddr r 0 0) := by
  unfold AwayFromEq
  obtain rfl | rfl | rfl := h <;> simp only [regAddr, Reg.info, Block.map, Nat.div_one, Nat.mod_one] <;> omega

theorem awayFromEq_window {r : Reg} {n i : Nat} (h : r = .gteHostwinBase ∨ r = .gteHostwinLimit) (hi : i < 64) : AwayFromEq n (regAddr r 0 i) := by
  unfold AwayFromEq
  obtain rfl | rfl := h <;> simp only [regAddr, Reg.info, Block.map, Nat.div_one, Nat.mod_one] <;> omega

theorem eqBegins_raw {n : Nat} {r : Reg} {i : Nat} (hs : s.regsRising = true) (h : AwayFromEq n (regAddr r 0 i)) :
    (eqBegins k n s).raw r 0 i = s.raw r 0 i := by
  unfold eqBegins
  split
  · rw [raw_setReg_other ?_ h.2, raw_setReg_other hs h.1]
    exact (State.setReg_within (s := s)).regs hs
  · rfl

theorem eqBegins_regs {n : Nat} (h : t.regs = s.regs) : (eqBegins k n t).regs = (eqBegins k n s).regs := by
  unfold eqBegins
  split
  · exact setReg_congr (setReg_congr h)
  · exact h

theorem eqBegins_within {n : Nat} : Within 0x2000000000000 s (eqBegins k n s) := by
  unfold eqBegins
  exact Within.ite (State.setReg_within.app rfl State.setReg_within) Within.refl

theorem eqBegins_qmg {n : Nat} : (eqBegins k n s).qmg = s.qmg := eqBegins_within.keeps_qmg fun _ => rfl

theorem created_within : Within 0x400000000000002000000000008 v (created k a x v) := by
  refine eqBegins_within.app rfl ?_
  exact Within.refl.put (e := v) (List.prefix_refl _) (Nat.le_succ _) (Nat.le_refl _) rfl rfl rfl rfl rfl

/-- The new queue stands behind the others. -/
theorem created_queues : (created k a x v).qmg.queues
    = v.qmg.queues ++ [newQueue (bits a.w1.toNat 19 0) k (createAttr k a x (pickHome v).1) v.qmg.useClock] :=
  congrArg (·.queues) eqBegins_qmg

theorem created_regs (h : v.regs = s.regs) : (created k a x v).regs = (eqBegins k (bits a.w1.toNat 19 0) s).regs := eqBegins_regs h

theorem created_raw {r : Reg} {i : Nat} (hv : v.regsRising = true) (h : AwayFromEq (bits a.w1.toNat 19 0) (regAddr r 0 i)) :
    (created k a x v).raw r 0 i = v.raw r 0 i :=
  eqBegins_raw (s := { (pickHome v).2 with qmg := _ }) hv h

/-- What completing the command reads stands as it did. -/
theorem created_ringKept {op : Nat} (h : RingTurn op a s) (hs : s.regsRising = true)
    (hin : Within 0x400000000000000000000000000 (takenBy op a s) v) : RingKept op a s (created k a x v) := by
  have hv : v.regsRising = true := hin.regs (takenBy_within.regs hs)
  have hraw : ∀ (r : Reg) (i : Nat), AwayFromEq (bits a.w1.toNat 19 0) (regAddr r 0 i) → r.info.cs = false →
      (created k a x v).raw r 0 i = s.raw r 0 i := fun r i haway hcs => by
    rw [created_raw hv haway, raw_congr hcs ((hin.keeps_regs rfl).trans takenBy_regs)]
  have hin' : Within 0x400000000000002000000000008 (takenBy op a s) (created k a x v) := created_within.app rfl (hin.weaken rfl)
  have hport : s.fld .cmdRingBase 0 58 56 < 8 := bits_lt
  refine ⟨?_, hraw _ _ (awayFromEq_ring (by simp)) rfl, hraw _ _ (awayFromEq_ring (by simp)) rfl, hraw _ _ (awayFromEq_ring (by simp)) rfl,
    fun w hw => ?_, ?_⟩
  · rw [hin'.keeps_cmd fun _ => rfl, (takenBy_keeps op a s).1]
    exact ⟨rfl, rfl, rfl, rfl⟩
  · have hn : 0x40 + 8 * s.fld .cmdRingBase 0 58 56 + w - 0x40 < 64 := by omega
    rw [gateRefuses_congr ((hin'.keeps_gates rfl).trans takenBy_gates) (hraw _ _ (awayFromEq_window (by simp) hn) rfl)
      (hraw _ _ (awayFromEq_window (by simp) hn) rfl)]
    exact h.slot w hw
  · rw [hin'.keeps_out rfl]
    exact takenBy_within.out

/-- Where the cache has an entry, or gives one up, the command completes with the new queue. -/
theorem create_completes (h : RingTurn 0x10 a s) (hs : s.regsRising = true) (hc : Creatable k a x s) (he : cacheEntry s = some u) :
    ∃ t, onRing 0x10 cmdQueueCreate env a s = .next t
      ∧ Answered 0x10 a s (eqBegins k (bits a.w1.toNat 19 0) s) t csOk 0 (pickHome s).1 0 ∧ Only [.ring, .regs, .held, .draws, .queues] s t
      ∧ ∃ n, t.qmg.queues = u.qmg.queues ++ [newQueue (bits a.w1.toNat 19 0) k (createAttr k a x (pickHome s).1) n] := by
  obtain ⟨v, hv, hqmg, hin⟩ := cacheEntry_congr (takenBy_qmg (op := 0x10) (a := a)) he
  have htaken : Within 0x500000000000000000006 s (takenBy 0x10 a s) := takenBy_of_unused (by decide) hc.unused
  have hhome : (pickHome v).1 = (pickHome s).1 :=
    pickHome_congr ((hin.keeps_engines rfl).trans takenBy_engines) ((hin.keeps_freeCtr rfl).trans takenBy_freeCtr)
  have hbody : cmdQueueCreate env a (begunAs 0x10 a s) (takenBy 0x10 a s) = (.result (pickHome s).1, created k a x v) := by
    rw [cmdQueueCreate_creates hc.taken hv, hhome]
  have hsv : Within 0x40000050000000200000000000e s (created k a x v) := created_within.app rfl (hin.app rfl (htaken.weaken rfl))
  have hl : Only [.ring, .regs, .held, .draws, .queues] s (created k a x v) := hsv.only _ (by intro p; cases p <;> decide)
  obtain ⟨hanswered, honly, hleft⟩ := completeCmd_leaves (status := csOk) (detail := 0) (r0 := (pickHome s).1) (r1 := 0) h
    (created_ringKept h hs hin) hl (by decide)
  refine ⟨_, by rw [ring_turn h, hbody]; rfl, hanswered.congr (created_regs ((hin.keeps_regs rfl).trans takenBy_regs)).symm, honly, u.qmg.useClock, ?_⟩
  rw [hleft, created_queues, hqmg, hhome]

/-- Where it has none, nothing is created. -/
theorem create_refuses (h : RingTurn 0x10 a s) (hc : Creatable k a x s) (he : cacheEntry s = none) :
    ∃ t, onRing 0x10 cmdQueueCreate env a s = .next t ∧ Answered 0x10 a s s t csNoResource 0 0 0 ∧ Only [.ring, .regs, .held] s t := by
  have hbody : cmdQueueCreate env a (begunAs 0x10 a s) (takenBy 0x10 a s) = refuse csNoResource (takenBy 0x10 a s) :=
    cmdQueueCreate_full hc.taken (cacheEntry_none_congr takenBy_qmg he)
  have htaken : Within 0x500000000000000000006 s (takenBy 0x10 a s) := takenBy_of_unused (by decide) hc.unused
  have hl : Only [.ring, .regs, .held] s (takenBy 0x10 a s) := htaken.only _ (by intro p; cases p <;> decide)
  obtain ⟨t, ht, hanswered, honly, -⟩ := ring_completes h hbody rfl takenBy_regs takenBy_gates rfl hl (by decide)
  exact ⟨t, ht, hanswered, honly⟩

end

/-- Settles O19: with an entry of the cache the queue is created, without one the command finds no resource. -/
theorem queueCreateMakesActiveQueue : Obligations.QueueCreateMakesActiveQueue := by
  unfold Obligations.QueueCreateMakesActiveQueue
  refine ⟨?_, ?_⟩
  · intro env a s k x f u h hs hkind hwords hfunc hdrain hasid howner hfits hunused hpin he
    obtain ⟨t, ht, hanswered, honly, n, hqueues⟩ := create_completes (env := env) h hs
      ⟨hkind, hwords, creator_of_func? hfunc hdrain, hasid, howner, hfits, hunused, hpin⟩ he
    exact ⟨t, ht, hanswered, honly, _, hqueues, rfl, rfl, rfl, rfl, rfl, rfl, rfl, rfl⟩
  · intro env a s k x f h hkind hwords hfunc hdrain hasid howner hfits hunused hpin he
    exact create_refuses h ⟨hkind, hwords, creator_of_func? hfunc hdrain, hasid, howner, hfits, hunused, hpin⟩ he

end Sys2Proof.Machine

namespace Sys2Proof.Machine

/-! ### Writes to BAR2 (R38-R42, R97, R393) -/

section
variable {p fn page off len : Nat} {v : Word} {s : State} {q : Queue}

/-- A write that no sleep, IDE or withheld credit holds back reaches BAR2. -/
theorem bar2_served (h : Bar2Write p fn page off s) :
    onInstance 8 p (fun port => postedWrite port (.bar2 fn page off len v)) s = .next (bar2Write p fn page off len v s) := by
  have hport : s.portStalled p = false := by
    unfold State.portStalled
    rw [h.credit]
    rfl
  unfold onInstance postedWrite whenRunning posted
  rw [instOf_of_lt h.inst]
  dsimp only
  rw [if_pos h.running, stalledGo_of_nil h.credit, if_neg (by simp [h.awake]), if_neg (by simp [hport])]

/-- BAR2 is reached. -/
theorem Bar2Write.reached (h : Bar2Write p fn page off s) :
    ¬((!s.running) = true ∨ (!s.funcUp p fn) = true ∨ s.ideHolds p = true ∨ 2048 ≤ page ∨ 0x1000 ≤ off) := by
  have hpage := h.pages
  have hoff := h.offsets
  simp [h.running, h.reach, h.ide]
  omega

/-- An aligned 8-byte write of the page word of a work or completion queue of the function is a doorbell. -/
theorem bar2Write_doorbell (h : Bar2Write p fn page off s) (h8 : off % 8 = 0) (hq : s.queue? (page * 512 + off / 8) = some q)
    (hk : q.kind ≠ .eq) (hm : q.attr.mid = 256 * p + fn) (hr : bits v.toNat 59 32 = 0) (hop : bits v.toNat 63 60 < 4) :
    bar2Write p fn page off 8 v s = settle (doorbellTake p fn page off v q.qid s) := by
  unfold bar2Write
  rw [if_neg h.reached]
  dsimp only
  rw [hq]
  dsimp only
  rw [if_neg (by simp [h8, hk, hm]), if_neg (by omega)]

/-- Any other write is refused. -/
theorem bar2Write_refused (h : Bar2Write p fn page off s)
    (hn : ∀ q, s.queue? (page * 512 + off / 8) = some q → len ≠ 8 ∨ off % 8 ≠ 0 ∨ q.kind = .eq ∨ q.attr.mid ≠ 256 * p + fn
      ∨ bits v.toNat 59 32 ≠ 0 ∨ 4 ≤ bits v.toNat 63 60) :
    bar2Write p fn page off len v s = doorbellRefused p fn (page * 0x1000 + off) s := by
  unfold bar2Write
  rw [if_neg h.reached]
  dsimp only
  split
  · rfl
  next q hq =>
    split
    · rfl
    next hw =>
      have hrest := hn q hq
      rw [if_pos (by tauto)]

theorem doorbellRefused_counters {addr : Nat} : (doorbellRefused p fn addr s).counters = (s.count (cntHif p 0) 1).counters :=
  hifErr_within.keeps_counters rfl

/-- The word of a row: its OP, and the rest of the value. -/
theorem doorbell_word {op : Nat} (hop : op < 4) :
    bits (word (putBits v.toNat 63 60 op)).toNat 63 60 = op ∧ bits (word (putBits v.toNat 63 60 op)).toNat 59 32 = bits v.toNat 59 32
      ∧ (BitVec.ofNat 32 (word (putBits v.toNat 63 60 op)).toNat : Pos) = BitVec.ofNat 32 v.toNat := by
  have hv : v.toNat < 2 ^ 64 := v.isLt
  refine ⟨?_, ?_, BitVec.eq_of_toNat_eq ?_⟩ <;> simp only [word, putBits, bits, BitVec.toNat_ofNat] <;> omega

theorem doorbellRow_takes {op : Nat} (hop : op < 4) (h : Bar2Write p fn page off s) (h8 : off % 8 = 0)
    (hq : s.queue? (page * 512 + off / 8) = some q) (hk : q.kind ≠ .eq) (hm : q.attr.mid = 256 * p + fn) (hr : bits v.toNat 59 32 = 0) :
    doorbellRow op p fn page off v s = .next (settle (doorbellTake p fn page off (word (putBits v.toNat 63 60 op)) q.qid s)) := by
  obtain ⟨hrow, hrest, -⟩ := doorbell_word (v := v) hop
  unfold doorbellRow
  rw [bar2_served h, bar2Write_doorbell h h8 hq hk hm (by rw [hrest, hr]) (by rw [hrow]; exact hop)]

theorem doorbellTake_resident {op : Nat} (hop : op < 4) (hq : s.queue? q.qid = some q) (hr : q.resid = .resident) :
    doorbellTake p fn page off (word (putBits v.toNat 63 60 op)) q.qid s
      = doorbellApply p fn (dbOffset q.qid) q.qid op (BitVec.ofNat 32 v.toNat) (touch [q.qid] s) := by
  obtain ⟨hrow, -, hpos⟩ := doorbell_word (v := v) hop
  unfold doorbellTake
  dsimp only
  rw [hrow, hpos, hq, if_pos (by simp [hr])]

theorem doorbellTake_held {op : Nat} (hop : op < 4) (hq : s.queue? q.qid = some q) (hr : q.resid ≠ .resident) (hroom : s.dbRoom q.qid = true) :
    doorbellTake p fn page off (word (putBits v.toNat 63 60 op)) q.qid s = dbHold q.qid op (BitVec.ofNat 32 v.toNat) s := by
  obtain ⟨hrow, -, hpos⟩ := doorbell_word (v := v) hop
  unfold doorbellTake
  dsimp only
  rw [hrow, hpos, hq, if_neg (by simp [hr]), if_pos hroom]

/-- The buffer holds an entry of the queue then. -/
theorem dbHold_holds {n op : Nat} {pos : Pos} : ∃ d ∈ (dbHold n op pos s).qmg.heldDb, d.qid = n := by
  unfold dbHold
  dsimp only
  split
  next hany =>
    obtain ⟨d, hd, hn⟩ := List.any_eq_true.1 hany
    have hdn : d.qid = n := by simpa using hn
    refine ⟨{ d with words := dbMerge op pos d.words }, ?_, hdn⟩
    dsimp only
    rw [updAll_eq_map]
    exact List.mem_map.2 ⟨d, hd, by simp [hdn]⟩
  next => exact ⟨_, List.mem_append_right _ (List.mem_singleton_self _), rfl⟩

end

/-! ### AtomicOps on HIF_SEM (R397) -/

theorem gateCheck_atomic {gate a len mid : Nat} {s : State} (h : ∀ w, s.gateRefuses gate a len ⟨mid, none, w⟩ = none) :
    gateCheck gate a len 2 mid none s = (none, s) := by
  have hread := h false
  have hwrite := h true
  rw [State.gateRefuses] at hread hwrite
  simp [gateCheck, gateCheckAll, hread, hwrite]

/-- A FetchAdd or CAS of 64 bits that is served answers the old value. -/
theorem semOp_served {p i kind x y : Nat} {s : State} (hrun : s.running = true) (hup : s.funcUp p 0 = true) (hide : s.ideHolds p = false)
    (hi : i < Reg.hifSem.info.n1) (hk : kind ≤ 1) (hg : ∀ w, s.gateRefuses 0x09 (semBase + 8 * i - 0x100000) 8 ⟨256 * p, none, w⟩ = none) :
    semOp p 0 (semBase + 8 * i) kind x y s = semAtomic p i kind x y s := by
  unfold semOp
  rw [if_neg (by simp [hrun, hup])]
  dsimp only
  rw [if_neg (by omega : ¬ kind = 2), show (semBase + 8 * i - semBase) / 8 = i by omega, if_neg ?_, gateCheck_atomic hg]
  have hbase : semBase % 8 = 0 := rfl
  simp [hide]
  omega

/-- FetchAdd stores the sum, CAS the operand where the old value is the compared one; both answer the old value. -/
theorem semAtomic_eq {p i kind x y : Nat} {s : State} (hk : kind ≤ 1) :
    semAtomic p i kind x y s = (if kind = 0 then s.setReg .hifSem 0 i ((s.raw .hifSem 0 i + x) % 2 ^ 64)
      else if s.raw .hifSem 0 i = y % 2 ^ 64 then s.setReg .hifSem 0 i (x % 2 ^ 64) else s).emit
        (.hostReply p (some (toBytes 8 (s.raw .hifSem 0 i)))) := by
  unfold semAtomic semReply
  dsimp only
  by_cases h0 : kind = 0
  · rw [if_pos h0, if_pos h0]
  · rw [if_neg h0, if_neg h0, if_pos (by omega : kind = 1)]

/-- The instruction of a doorbell row. -/
def doorbellInstr (op p fn page off : Nat) (v : Word) : Instr :=
  if op = 0 then .doorbellProduce p fn page off v else if op = 1 then .doorbellConsume p fn page off v
  else if op = 2 then .doorbellArm p fn page off v else .doorbellArmSolicited p fn page off v

theorem exec_doorbellInstr {op p fn page off : Nat} {v : Word} {s : State} (hop : op < 4) :
    exec (doorbellInstr op p fn page off v) s = doorbellRow op p fn page off v s := by
  match op, hop with
  | 0, _ | 1, _ | 2, _ | 3, _ => rfl

/-- Settles O41: a doorbell goes to its context or to the buffer, another write of BAR2 is refused, and HIF_SEM answers. -/
theorem doorbellsReachTheirQueues : Obligations.DoorbellsReachTheirQueues := by
  unfold Obligations.DoorbellsReachTheirQueues
  refine ⟨?_, ?_, ?_⟩
  · intro op p fn page off v s q hop h h8 hq hk hm hr row n
    have hrow : exec row s = doorbellRow op p fn page off v s := exec_doorbellInstr hop
    have hself : s.queue? q.qid = some q := by rw [qid_of_queue? hq, hq]
    rw [hrow, doorbellRow_takes hop h h8 hq hk hm hr]
    refine ⟨fun hresident => by rw [doorbellTake_resident hop hself hresident], fun hnot hroom => ⟨by rw [doorbellTake_held hop hself hnot hroom], ?_⟩⟩
    exact dbHold_holds
  · intro p fn page off len v s h hn
    refine ⟨_, (bar2_served h).trans (by rw [bar2Write_refused h hn]), doorbellRefused_within.only _ (by intro p; cases p <;> decide),
      doorbellRefused_counters⟩
  · intro p i kind x y s hp hrun hup hide hi hk hg old
    have hexec : exec (.hifSemAtomicop p 0 (semBase + 8 * i) kind x y) s = .next (semAtomic p i kind x y s) := by
      show execHifSemAtomicop p 0 (semBase + 8 * i) kind x y s = _
      unfold execHifSemAtomicop onInstance
      rw [instOf_of_lt hp]
      dsimp only
      rw [semOp_served hrun hup hide hi hk hg]
    rw [hexec, semAtomic_eq hk]

end Sys2Proof.Machine

namespace Sys2Proof.Machine

/-! ### Contexts and peer states come and go (R42, R57, R59, R62-R64, R69, R190) -/

/-- A step of the endpoint side while it is up. -/
theorem epStep_of_up {f : State → State} {s : State} (h : s.epUp = true) : epStep f s = settle (f s) := by
  unfold epStep whenEp
  rw [if_pos h]

/-- A step of transport while the chip runs. -/
theorem trnStep_of_running {f : State → State} {s : State} (h : s.running = true) : trnStep f s = settle (f s) := by
  unfold trnStep whenRunning
  rw [if_pos h]

/-- Whether a context may be evicted does not depend on the run of evictions. -/
theorem evictable_evictRun {s : State} {r : Bool} : State.evictable { s with qmg := { s.qmg with evictRun := r } } = s.evictable := rfl

section
variable {n : Nat} {k : PeerKey} {s : State} {q : Queue} {x : Peer}

/-- Below LOW_WATER the run of evictions is on, and its next context goes (R57). -/
theorem contextEvictionStart_below (hup : s.epUp = true) (hlow : s.cacheFree < s.lowWater)
    (hold : oldestQueue (s.qmg.queues.filter s.evictable) = some q) (hn : q.qid = n) :
    execContextEvictionStart n s = .next (settle (evictStart n { s with qmg := { s.qmg with evictRun := true } })) := by
  unfold execContextEvictionStart
  rw [epStep_of_up hup]
  simp only [hlow, decide_true, Bool.true_or, evictable_evictRun, hold, Option.map_some, hn, Bool.and_self, if_true]

/-- A context that has been written back leaves the cache, and its journal slot is retired (R59). -/
theorem contextEvictionComplete_going (hup : s.epUp = true) (hq : s.queue? n = some q) (hr : q.resid = .evicting) :
    execContextEvictionComplete n s = .next (settle (
      let u := updQueue n (fun q => { q with resid := .evicted }) s
      fetchWanted (completeWhere (fun b => b.opcode == 0x13 && decide (b.obj = (1, n, n))) csOk 0 0 0 { u with qmg := { u.qmg with
        journal := u.qmg.journal.filter (· ≠ n), evictRun := u.qmg.evictRun && decide (u.cacheFree < s.highWater) } }))) := by
  unfold execContextEvictionComplete
  rw [epStep_of_up hup]
  dsimp only
  rw [hq, if_neg (by simp [hr])]
  rfl

/-- A context that has been fetched without error, where no gate refuses, serves what waited for it (R42, R62, R64). -/
theorem contextFetched_of_open (hq : s.queue? n = some q) (hr : q.resid = .fetching) (hg : ∀ r ∈ s.gates, r.gate < 0x20 ∨ 0x40 ≤ r.gate) :
    contextFetched n false s = pondRelease (pumpEp q.attr.ep (heldApply n
      (touch [n] (updQueue n (fun q => { q with resid := .resident, due := false }) s)))) := by
  have hgates : (touch [n] (updQueue n (fun q => { q with resid := .resident, due := false }) s)).gates = s.gates :=
    (touch_within.keeps_gates rfl).trans (updQueue_within.keeps_gates rfl)
  unfold contextFetched
  rw [hq]
  dsimp only
  rw [if_neg (by simp [hr]), hbmRefusal_of_open (by rwa [hgates])]
  rfl

/-- A peer state that has been fetched without error, where no gate refuses, sends (R63, R190). -/
theorem peerFetchComplete_of_open (hrun : s.running = true) (hx : s.peer? k = some x) (hr : x.resident = .fetching)
    (hg : ∀ r ∈ s.gates, r.gate < 0x20 ∨ 0x40 ≤ r.gate) :
    execPeerFetchComplete k false s = .next (settle (peerWake (pumpAll k (pondRelease
      (updPeer k (fun p => { p with resident := .resident, due := false, lastUse := s.clk.now }) s))))) := by
  unfold execPeerFetchComplete
  rw [trnStep_of_running hrun]
  dsimp only
  rw [hx, if_neg (by simp [hr]), hbmRefusal_of_open hg]
  rfl

/-- A CQ that has refused for the whole of QMG_CQ_STALL_TMO enters ERROR, and its EQ says so (R69). -/
theorem cqStallTimeout_refused {moment : Nat} (hup : s.epUp = true) (hq : s.queue? n = some q) (hk : q.kind = .cq)
    (hrefused : q.sink.refusal = some moment) (hst : q.state = .active ∨ q.state = .stopped) :
    execCqStallTimeout n s = .next (settle (queueEvent q evCqOverrun q.sink.pi.toNat 0 (updSink n (fun k => { k with refusal := none })
      (enterError n (captureFenced n (s.advanceTo (moment + us (atLeast1 (s.fld .qmgCqStallTmo 0 19 0))))))))) := by
  unfold execCqStallTimeout
  rw [epStep_of_up hup]
  dsimp only
  rw [hq]
  dsimp only
  rw [hk, hrefused]
  dsimp only
  rw [if_neg (by tauto)]

end

/-- Settles O45: each row is its function of the model, where the cache, the context, the peer state or the CQ is as the row wants it. -/
theorem contextsComeAndGo : Obligations.ContextsComeAndGo := by
  unfold Obligations.ContextsComeAndGo
  refine ⟨?_, ?_, ?_, ?_, ?_⟩
  · intro n s q hup hlow hold hn
    exact contextEvictionStart_below hup hlow hold hn
  · intro n s q hup hq hr
    exact contextEvictionComplete_going hup hq hr
  · intro n s q hrun hq hr hg
    show execContextFetchComplete n false s = _
    rw [execContextFetchComplete, trnStep_of_running hrun, contextFetched_of_open hq hr hg]
  · intro k s x hrun hx hr hg
    exact peerFetchComplete_of_open hrun hx hr hg
  · intro n s q moment hup hq hk hrefused hst
    exact cqStallTimeout_refused hup hq hk hrefused hst

end Sys2Proof.Machine

namespace Sys2Proof.Machine

/-! ### A power-domain list that names a domain twice

`State.domainOn` asks the first entry of a domain, `State.sleeps` asks every entry. The statements O44 and O46 take the first as their
premise and the rows they speak of test the second, so a state whose list names a domain twice, ON and then GATED, tells them apart. -/

/-- A reset state that runs, whose power-domain list names a domain twice: ON, then GATED. -/
def runningListedTwice (n : Nat) : State :=
  updPwr (fun p => { p with domains := [⟨n, .on, none, none, []⟩, ⟨n, .gated, none, none, []⟩] })
    { State.reset with sys := { State.reset.sys with stage := .run } }

theorem running_listedTwice {n : Nat} : (runningListedTwice n).running = true := rfl

section
variable {n : Nat} {s : State}

theorem domainOn_of_listedTwice (h : s.fab = (runningListedTwice n).fab) : s.domainOn n = true := by
  simp [State.domainOn, State.domain?, h, runningListedTwice, updPwr]

theorem sleeps_of_listedTwice (h : s.fab = (runningListedTwice n).fab) : s.sleeps n = true := by
  simp [State.sleeps, h, runningListedTwice, updPwr]

/-- Waking the domain does nothing: its first entry is ON. -/
theorem wakeDomain_of_listedTwice (h : s.fab = (runningListedTwice n).fab) : wakeDomain n s = s := by
  simp [wakeDomain, State.domain?, h, runningListedTwice, updPwr]

end

/-! ### O46 -/

/-- A packet of peer state 0 that is not the first of its operation. -/
def laterPacket : Packet :=
  { src := 0, dst := 0, tc := 0, ptype := PType.put.code, first := false, last := false, retx := false, prot := false, immValid := false
    solicited := false, kind := false, aux := 0, psn := 0, pkey := 0, group := 0, srcInc := 0, dstInc := 0, e0 := 0, e1 := 0, data := []
    sealed := [], marked := false, lockUnit := false }

theorem domainsFor_laterPacket : (runningListedTwice 40).domainsFor .data laterPacket = [40] := by decide

theorem arrivalGen_laterPacket : (runningListedTwice 40).arrivalGen laterPacket = (runningListedTwice 40).cmd.gen := by decide

theorem view_arrivalGen_laterPacket :
    (runningListedTwice 40).view ((runningListedTwice 40).arrivalGen laterPacket) = runningListedTwice 40 := by
  rw [arrivalGen_laterPacket, State.view, if_pos rfl]

theorem awake_laterPacket : Awake .data laterPacket ((runningListedTwice 40).view ((runningListedTwice 40).arrivalGen laterPacket)) := by
  rw [view_arrivalGen_laterPacket]
  refine ⟨fun d hd => ?_, fun x hx => nomatch hx⟩
  rw [domainsFor_laterPacket] at hd
  obtain rfl := List.mem_singleton.1 hd
  exact domainOn_of_listedTwice rfl

/-- The packet waits for the domain. -/
theorem packetArrives_sleeps : (packetArrives .data laterPacket true 0 (runningListedTwice 40)).qmg.asleep.length = 1 := by
  unfold packetArrives
  rw [domainsFor_laterPacket]
  simp only [List.foldl_cons, List.foldl_nil, wakeDomain_of_listedTwice (n := 40) (s := runningListedTwice 40) rfl, List.any_cons,
    sleeps_of_listedTwice (n := 40) (s := runningListedTwice 40) rfl, Bool.true_or, if_true]
  rfl

theorem settle_asleep {s : State} : (settle s).qmg.asleep = s.qmg.asleep := settle_within.keeps_qmg_asleep rfl

/-- Refutes O46: where the power-domain list names the host domain of a packet ON and then GATED, its first entry is ON, as the premise
asks, and the packet still waits for the domain. -/
theorem not_packetsReachTransport : ¬ Obligations.PacketsReachTransport := by
  unfold Obligations.PacketsReachTransport
  rintro ⟨h, -⟩
  have heq := h laterPacket true 0 (runningListedTwice 40) running_listedTwice awake_laterPacket
  have hrow : exec (.dataPacketArrival laterPacket true 0) (runningListedTwice 40)
      = .next (settle (packetArrives .data laterPacket true 0 (runningListedTwice 40))) := by
    show execDataPacketArrival laterPacket true 0 (runningListedTwice 40) = _
    rw [execDataPacketArrival, trnStep_of_running running_listedTwice, arrivalGen_laterPacket, asOf, if_pos rfl]
  rw [hrow, arrivalGen_laterPacket, asOf, if_pos rfl] at heq
  have hstate : settle (packetArrives .data laterPacket true 0 (runningListedTwice 40))
      = settle (dataPacket laterPacket true 0 (runningListedTwice 40)) := by injection heq
  have hlength := congrArg (fun t : State => t.qmg.asleep.length) hstate
  simp only [settle_asleep, dataPacket_within.keeps_qmg_asleep rfl, packetArrives_sleeps] at hlength
  exact absurd hlength (by decide)

end Sys2Proof.Machine

namespace Sys2Proof.Machine

/-! ### O44 -/

/-- The next job of a queue stays where it is while a cluster that it needs sleeps (R409). -/
theorem descriptor_sleeps {op n : Nat} {s : State} {j : Job} (hj : s.startable n = some j) (hop : j.recOp = op) (hc : op ≠ opChorus)
    (hwake : wakeDomain (engineDomain j.engine) s = s) (hsleeps : s.sleeps (engineDomain j.engine) = true) : descriptor op n s = s := by
  subst hop
  unfold descriptor
  rw [hj]
  simp [hc, hwake, hsleeps]

/-- An accepted NOP of engine 0. -/
def acceptedNop : Job :=
  { jid := 0, qid := 0, mid := 0, ep := 0, asid := 0, pkey := 0, group := 0, tc := 0, ws := [], frags := [], firstPos := 0
    phase := .accepted, status := 0, data := 0, bytes := 0, imm := none, solicited := false, peerFa := 0, recOp := opNop, buf := []
    todo := [], xp := xStart [], rts := false, late := [], cqe := false, checked := false, psnFirst := none, psnLast := none
    fence := none, acked := false, logBytes := 0, engine := 0, gen := 0, due := none }

/-- The running state whose power-domain list names the domain of engine 0 twice, with that NOP accepted. -/
def nopListedTwice : State :=
  { runningListedTwice 24 with qmg := { (runningListedTwice 24).qmg with jobs := [acceptedNop] } }

theorem startable_nopListedTwice : nopListedTwice.startable 0 = some acceptedNop := by decide

theorem job?_nopListedTwice : nopListedTwice.job? acceptedNop.jid = some acceptedNop := by decide

/-- The NOP does not start. -/
theorem exec_nop_nopListedTwice : exec (.nop 0) nopListedTwice = .next (settle nopListedTwice) := by
  show execNop 0 nopListedTwice = _
  have hstays : descriptor opNop 0 nopListedTwice = nopListedTwice :=
    descriptor_sleeps startable_nopListedTwice rfl (by decide) (wakeDomain_of_listedTwice (n := 24) rfl) (sleeps_of_listedTwice (n := 24) rfl)
  rw [execNop, epStep_of_up rfl, hstays]

/-- A NOP that does not start stays, one that starts is over. -/
theorem jobs_settle_nopListedTwice : (settle nopListedTwice).qmg.jobs.length = 1 := by decide

theorem jobs_settle_jobStart_nopListedTwice : (settle (jobStart acceptedNop.jid nopListedTwice)).qmg.jobs.length = 0 := by decide

/-- Refutes O44: where the power-domain list names the cluster of an accepted NOP ON and then GATED, its first entry is ON, as the
premise asks, and the NOP still waits for the cluster. -/
theorem not_jobsAreTakenAndStarted : ¬ Obligations.JobsAreTakenAndStarted := by
  unfold Obligations.JobsAreTakenAndStarted
  rintro ⟨-, h, -⟩
  have hchorus : opNop = opChorus → ∀ g, nopListedTwice.group? (dGroup acceptedNop.ws) = some g →
      nopListedTwice.domainOn (chorusDomain g.home) = true := fun hop => absurd hop (by decide)
  obtain ⟨hstarts, -⟩ := h (.nop 0) opNop 0 nopListedTwice acceptedNop rfl rfl startable_nopListedTwice job?_nopListedTwice rfl
    (domainOn_of_listedTwice (n := 24) rfl) hchorus
  rw [exec_nop_nopListedTwice] at hstarts
  have hstate : settle nopListedTwice = settle (jobStart acceptedNop.jid nopListedTwice) := by injection hstarts
  have hlength := congrArg (fun t : State => t.qmg.jobs.length) hstate
  simp only [jobs_settle_nopListedTwice, jobs_settle_jobStart_nopListedTwice] at hlength
  exact absurd hlength (by decide)

end Sys2Proof.Machine

namespace Sys2Proof.Machine

/-! ### Managed objects: which rows may change them (R51, R96, R134, R136, R164, R186, R297, R486) -/

/-- What software manages by commands, and the credits of dispatch and the map numbers, which the device keeps for itself. -/
def managedParts : List Part := [.partitions, .asids, .events, .gates, .turns, .maps]

/-- The managed parts that a row may change. -/
def managedBy : Instr → List Part
  | .cmdPartitionCreate .. | .cmdPartitionDestroy .. => [.partitions]
  | .cmdAsidCreate .. | .cmdAsidDestroy .. => [.asids]
  | .cmdEndpointConfig .. => [.events]
  | .cmdGateWrite .. => [.gates]
  | .jobDispatch => [.turns]
  | .mapPeriodExpiry => [.maps]
  | .powerOnReset | .coldReset .. | .warmRestore .. => managedParts
  | _ => []

/-- The places that `exec_within` leaves to every row but those of the managed parts, and those of the parts of l. -/
def ownMask (l : List Part) : Nat := (0x3ffffffffffffffffffffffffffffffffffffffffffe ^^^ partMask managedParts) ||| partMask l

theorem WithinX.owns {a : Nat} {s : State} {o : Host.Outcome State Fault Refusal} (k : WithinX a s o) (l : List Part)
    (h : sub a (ownMask l) = true) : WithinX (ownMask l) s o := k.app h Within.refl

/-- Of the managed parts a row changes its own alone: what each meaning stays `Within` holds no other. -/
theorem exec_within_ownMask (s : State) : ∀ c : Instr, WithinX (ownMask (managedBy c)) s (exec c s)
  | .cmdNop .. => execCmdNop_within.owns [] rfl
  | .cmdQuery .. => execCmdQuery_within.owns [] rfl
  | .cmdEndpointConfig .. => execCmdEndpointConfig_within.owns [.events] rfl
  | .cmdPartitionCreate .. => execCmdPartitionCreate_within.owns [.partitions] rfl
  | .cmdPartitionDestroy .. => execCmdPartitionDestroy_within.owns [.partitions] rfl
  | .cmdAsidCreate .. => execCmdAsidCreate_within.owns [.asids] rfl
  | .cmdAsidDestroy .. => execCmdAsidDestroy_within.owns [.asids] rfl
  | .cmdQueueCreate .. => execCmdQueueCreate_within.owns [] rfl
  | .cmdQueueModifyAttributes .. => execCmdQueueModifyAttributes_within.owns [] rfl
  | .cmdQueueModifyStop .. => execCmdQueueModifyStop_within.owns [] rfl
  | .cmdQueueModifyStart .. => execCmdQueueModifyStart_within.owns [] rfl
  | .cmdQueueModifyRecover .. => execCmdQueueModifyRecover_within.owns [] rfl
  | .cmdQueueDestroy .. => execCmdQueueDestroy_within.owns [] rfl
  | .cmdQueueEvict .. => execCmdQueueEvict_within.owns [] rfl
  | .cmdRegionRegister .. => execCmdRegionRegister_within.owns [] rfl
  | .cmdRegionDeregister .. => execCmdRegionDeregister_within.owns [] rfl
  | .cmdXltInval .. => execCmdXltInval_within.owns [] rfl
  | .cmdMatchContextCreate .. => execCmdMatchContextCreate_within.owns [] rfl
  | .cmdMatchContextDestroy .. => execCmdMatchContextDestroy_within.owns [] rfl
  | .cmdChorusCreate .. => execCmdChorusCreate_within.owns [] rfl
  | .cmdChorusDestroy .. => execCmdChorusDestroy_within.owns [] rfl
  | .cmdLockAlloc .. => execCmdLockAlloc_within.owns [] rfl
  | .cmdLockAllocVariables .. => execCmdLockAllocVariables_within.owns [] rfl
  | .cmdLockFree .. => execCmdLockFree_within.owns [] rfl
  | .cmdLockFreeForce .. => execCmdLockFreeForce_within.owns [] rfl
  | .cmdLockFreeVariables .. => execCmdLockFreeVariables_within.owns [] rfl
  | .cmdGateWrite .. => execCmdGateWrite_within.owns [.gates] rfl
  | .cmdShadowLoad .. => execCmdShadowLoad_within.owns [] rfl
  | .cmdHinge .. => execCmdHinge_within.owns [] rfl
  | .cmdHingeValidateOnly .. => execCmdHingeValidateOnly_within.owns [] rfl
  | .cmdPortFence .. => execCmdPortFence_within.owns [] rfl
  | .cmdPortUnfence .. => execCmdPortUnfence_within.owns [] rfl
  | .cmdPortTest .. => execCmdPortTest_within.owns [] rfl
  | .cmdPortTestStop .. => execCmdPortTestStop_within.owns [] rfl
  | .cmdLaneTest .. => execCmdLaneTest_within.owns [] rfl
  | .cmdLaneTestStop .. => execCmdLaneTestStop_within.owns [] rfl
  | .cmdEngineRetire .. => execCmdEngineRetire_within.owns [] rfl
  | .cmdEngineRestore .. => execCmdEngineRestore_within.owns [] rfl
  | .cmdMemChannelRetire .. => execCmdMemChannelRetire_within.owns [] rfl
  | .cmdCounterDumpConfig .. => execCmdCounterDumpConfig_within.owns [] rfl
  | .cmdFwStage .. => execCmdFwStage_within.owns [] rfl
  | .cmdFwActivate .. => execCmdFwActivate_within.owns [] rfl
  | .cmdFwActivateNow .. => execCmdFwActivateNow_within.owns [] rfl
  | .cmdKeyInstallOwner .. => execCmdKeyInstallOwner_within.owns [] rfl
  | .cmdKeyInstallPartition .. => execCmdKeyInstallPartition_within.owns [] rfl
  | .cmdKeyInstallFabric .. => execCmdKeyInstallFabric_within.owns [] rfl
  | .cmdKeyZeroizePartition .. => execCmdKeyZeroizePartition_within.owns [] rfl
  | .cmdKeyZeroizeFabric .. => execCmdKeyZeroizeFabric_within.owns [] rfl
  | .cmdKeyZeroizeAll .. => execCmdKeyZeroizeAll_within.owns [] rfl
  | .cmdFaultClear .. => execCmdFaultClear_within.owns [] rfl
  | .cmdPiWrite .. => execCmdPiWrite_within.owns [] rfl
  | .cmdRingEnable .. => execCmdRingEnable_within.owns [] rfl
  | .mctpCommand .. => execMctpCommand_within.owns [] rfl
  | .mctpWarmResetRequest .. => execMctpWarmResetRequest_within.owns [] rfl
  | .mctpFirmwareImage _ _ _ image => (execMctpFirmwareImage_within (a3 := image)).owns [] rfl
  | .commandPacketArrival .. => execCommandPacketArrival_within.owns [] rfl
  | .remoteStatusArrival .. => execRemoteStatusArrival_within.owns [] rfl
  | .remoteCommandTimeout .. => execRemoteCommandTimeout_within.owns [] rfl
  | .doorbellProduce .. => execDoorbellProduce_within.owns [] rfl
  | .doorbellConsume .. => execDoorbellConsume_within.owns [] rfl
  | .doorbellArm .. => execDoorbellArm_within.owns [] rfl
  | .doorbellArmSolicited .. => execDoorbellArmSolicited_within.owns [] rfl
  | .bar2WriteRefused .. => execBar2WriteRefused_within.owns [] rfl
  | .prefetchReadComplete .. => execPrefetchReadComplete_within.owns [] rfl
  | .refetchGapExpiry .. => execRefetchGapExpiry_within.owns [] rfl
  | .jobDispatch => execJobDispatch_within.owns [.turns] rfl
  | .nop .. => execNop_within.owns [] rfl
  | .send .. => execSend_within.owns [] rfl
  | .tsend .. => execTsend_within.owns [] rfl
  | .put .. => execPut_within.owns [] rfl
  | .get .. => execGet_within.owns [] rfl
  | .atomic .. => execAtomic_within.owns [] rfl
  | .recv .. => execRecv_within.owns [] rfl
  | .trecv .. => execTrecv_within.owns [] rfl
  | .tcancel .. => execTcancel_within.owns [] rfl
  | .chorus .. => execChorus_within.owns [] rfl
  | .lockAcquire .. => execLockAcquire_within.owns [] rfl
  | .lockRelease .. => execLockRelease_within.owns [] rfl
  | .ethernetFrameTransmit .. => execEthernetFrameTransmit_within.owns [] rfl
  | .qmgEqCiWrite .. => execQmgEqCiWrite_within.owns [] rfl
  | .contextEvictionStart .. => execContextEvictionStart_within.owns [] rfl
  | .contextEvictionComplete .. => execContextEvictionComplete_within.owns [] rfl
  | .contextFetchComplete .. => execContextFetchComplete_within.owns [] rfl
  | .peerFetchComplete .. => execPeerFetchComplete_within.owns [] rfl
  | .cqStallTimeout .. => execCqStallTimeout_within.owns [] rfl
  | .dataPacketArrival .. => execDataPacketArrival_within.owns [] rfl
  | .resultArrival .. => execResultArrival_within.owns [] rfl
  | .resultAckArrival .. => execResultAckArrival_within.owns [] rfl
  | .resultRetxExpiry .. => execResultRetxExpiry_within.owns [] rfl
  | .joinTimeout .. => execJoinTimeout_within.owns [] rfl
  | .chunkReduction .. => execChunkReduction_within.owns [] rfl
  | .ackArrival .. => execAckArrival_within.owns [] rfl
  | .nackArrival .. => execNackArrival_within.owns [] rfl
  | .notNowArrival .. => execNotNowArrival_within.owns [] rfl
  | .refuseArrival .. => execRefuseArrival_within.owns [] rfl
  | .resyncArrival .. => execResyncArrival_within.owns [] rfl
  | .openReqArrival .. => execOpenReqArrival_within.owns [] rfl
  | .openAckArrival .. => execOpenAckArrival_within.owns [] rfl
  | .openNakArrival .. => execOpenNakArrival_within.owns [] rfl
  | .openTimeout .. => execOpenTimeout_within.owns [] rfl
  | .closeReqArrival .. => execCloseReqArrival_within.owns [] rfl
  | .closeAckArrival .. => execCloseAckArrival_within.owns [] rfl
  | .closeNakArrival .. => execCloseNakArrival_within.owns [] rfl
  | .closeTimeout .. => execCloseTimeout_within.owns [] rfl
  | .retransmitTimeout .. => execRetransmitTimeout_within.owns [] rfl
  | .ackDelayExpiry .. => execAckDelayExpiry_within.owns [] rfl
  | .nackDelayExpiry .. => execNackDelayExpiry_within.owns [] rfl
  | .notNowBackoffExpiry .. => execNotNowBackoffExpiry_within.owns [] rfl
  | .unreachTimeout .. => execUnreachTimeout_within.owns [] rfl
  | .mtcUnexpTimeout .. => execMtcUnexpTimeout_within.owns [] rfl
  | .deregTimeout .. => execDeregTimeout_within.owns [] rfl
  | .timingWheelDue .. => execTimingWheelDue_within.owns [] rfl
  | .policerDeferRelease .. => execPolicerDeferRelease_within.owns [] rfl
  | .ccIncreasePeriod .. => execCcIncreasePeriod_within.owns [] rfl
  | .queueSamplePeriod => execQueueSamplePeriod_within.owns [] rfl
  | .qsampleClear .. => execQsampleClear_within.owns [] rfl
  | .pageTableReadComplete .. => execPageTableReadComplete_within.owns [] rfl
  | .adUpdateCasComplete .. => execAdUpdateCasComplete_within.owns [] rfl
  | .invalidationAcknowledged .. => execInvalidationAcknowledged_within.owns [] rfl
  | .hostAtomicopComplete .. => execHostAtomicopComplete_within.owns [] rfl
  | .hostReadComplete .. => execHostReadComplete_within.owns [] rfl
  | .completionTimeout .. => execCompletionTimeout_within.owns [] rfl
  | .poisonedWriteReceived .. => execPoisonedWriteReceived_within.owns [] rfl
  | .hifSemAtomicop .. => execHifSemAtomicop_within.owns [] rfl
  | .functionLevelReset .. => execFunctionLevelReset_within.owns [] rfl
  | .vfEnableClear .. => execVfEnableClear_within.owns [] rfl
  | .perstAssert .. => execPerstAssert_within.owns [] rfl
  | .hotReset .. => execHotReset_within.owns [] rfl
  | .hifLinkDown .. => execHifLinkDown_within.owns [] rfl
  | .flrDrainEnd .. => execFlrDrainEnd_within.owns [] rfl
  | .flrDrainLimit .. => execFlrDrainLimit_within.owns [] rfl
  | .hifLinkRetrain .. => execHifLinkRetrain_within.owns [] rfl
  | .spdmRequest .. => execSpdmRequest_within.owns [] rfl
  | .switchPacketArrival .. => execSwitchPacketArrival_within.owns [] rfl
  | .sharedPoolTransfer .. => execSharedPoolTransfer_within.owns [] rfl
  | .escapeWaitExpiry .. => execEscapeWaitExpiry_within.owns [] rfl
  | .egressFrameStart .. => execEgressFrameStart_within.owns [] rfl
  | .residueTimeout .. => execResidueTimeout_within.owns [] rfl
  | .auditPass .. => execAuditPass_within.owns [] rfl
  | .cvecPeriodExpiry => execCvecPeriodExpiry_within.owns [] rfl
  | .cvecArrival .. => execCvecArrival_within.owns [] rfl
  | .mapPeriodExpiry => execMapPeriodExpiry_within.owns [.maps] rfl
  | .rteExcAdd .. => execRteExcAdd_within.owns [] rfl
  | .rteExcDel .. => execRteExcDel_within.owns [] rfl
  | .linkDataFrameReceive .. => execLinkDataFrameReceive_within.owns [] rfl
  | .linkAckReceive .. => execLinkAckReceive_within.owns [] rfl
  | .replayReqReceive .. => execReplayReqReceive_within.owns [] rfl
  | .markerBlockReceive .. => execMarkerBlockReceive_within.owns [] rfl
  | .linkReplayTimeout .. => execLinkReplayTimeout_within.owns [] rfl
  | .replayReqResend .. => execReplayReqResend_within.owns [] rfl
  | .standaloneAckIdle .. => execStandaloneAckIdle_within.owns [] rfl
  | .creditTimeout .. => execCreditTimeout_within.owns [] rfl
  | .errorWindowLimit .. => execErrorWindowLimit_within.owns [] rfl
  | .initReceive .. => execInitReceive_within.owns [] rfl
  | .initAckReceive .. => execInitAckReceive_within.owns [] rfl
  | .initSendTimer .. => execInitSendTimer_within.owns [] rfl
  | .graceExpiry .. => execGraceExpiry_within.owns [] rfl
  | .ethernetFrameReceive .. => execEthernetFrameReceive_within.owns [] rfl
  | .pfcFrameReceive .. => execPfcFrameReceive_within.owns [] rfl
  | .pfcRefresh .. => execPfcRefresh_within.owns [] rfl
  | .trainingFrameReceive .. => execTrainingFrameReceive_within.owns [] rfl
  | .portLockFormed .. => execPortLockFormed_within.owns [] rfl
  | .portLockLoss .. => execPortLockLoss_within.owns [] rfl
  | .degradeWaitExpiry .. => execDegradeWaitExpiry_within.owns [] rfl
  | .rejoinWaitExpiry .. => execRejoinWaitExpiry_within.owns [] rfl
  | .laneLockLoss .. => execLaneLockLoss_within.owns [] rfl
  | .laneSignalLoss .. => execLaneSignalLoss_within.owns [] rfl
  | .quietHoldExpiry .. => execQuietHoldExpiry_within.owns [] rfl
  | .fastTmoExpiry .. => execFastTmoExpiry_within.owns [] rfl
  | .fullTmoExpiry .. => execFullTmoExpiry_within.owns [] rfl
  | .quietIdleExpiry .. => execQuietIdleExpiry_within.owns [] rfl
  | .quietWake .. => execQuietWake_within.owns [] rfl
  | .eyeMeasureStart .. => execEyeMeasureStart_within.owns [] rfl
  | .eyeMeasureDone .. => execEyeMeasureDone_within.owns [] rfl
  | .injOnce .. => execInjOnce_within.owns [] rfl
  | .leaveGrant .. => execLeaveGrant_within.owns [] rfl
  | .noticeHoldExpiry => execNoticeHoldExpiry_within.owns [] rfl
  | .arbAgeExpiry => execArbAgeExpiry_within.owns [] rfl
  | .predictorExitStart .. => execPredictorExitStart_within.owns [] rfl
  | .domainExitComplete .. => execDomainExitComplete_within.owns [] rfl
  | .activityDecayExpiry .. => execActivityDecayExpiry_within.owns [] rfl
  | .bcaCodeChange .. => execBcaCodeChange_within.owns [] rfl
  | .powerFloorStep .. => execPowerFloorStep_within.owns [] rfl
  | .pwrBudgetViolation => execPwrBudgetViolation_within.owns [] rfl
  | .thermFloorStep .. => execThermFloorStep_within.owns [] rfl
  | .thermTrip .. => execThermTrip_within.owns [] rfl
  | .pwrRailFault .. => execPwrRailFault_within.owns [] rfl
  | .refclkPresent => execRefclkPresent_within.owns [] rfl
  | .clkRefLost => execClkRefLost_within.owns [] rfl
  | .refclkReturn => execRefclkReturn_within.owns [] rfl
  | .clockJudgedGood .. => execClockJudgedGood_within.owns [] rfl
  | .clkOutOfWindow .. => execClkOutOfWindow_within.owns [] rfl
  | .timeExchangePeriod => execTimeExchangePeriod_within.owns [] rfl
  | .delayReqReceive .. => execDelayReqReceive_within.owns [] rfl
  | .delayRespReceive .. => execDelayRespReceive_within.owns [] rfl
  | .timeHoldover => execTimeHoldover_within.owns [] rfl
  | .clkDtimeSetWrite .. => execClkDtimeSetWrite_within.owns [] rfl
  | .powerOnReset => execPowerOnReset_within.owns managedParts rfl
  | .coldReset .. => execColdReset_within.owns managedParts rfl
  | .coldStart .. => execColdStart_within.owns [] rfl
  | .warmResetRequest .. => execWarmResetRequest_within.owns [] rfl
  | .warmQuiesceDone => execWarmQuiesceDone_within.owns [] rfl
  | .warmRestore .. => execWarmRestore_within.owns managedParts rfl
  | .endpointResume => execEndpointResume_within.owns [] rfl
  | .shadowRetireComplete => execShadowRetireComplete_within.owns [] rfl
  | .shadowViewWrite .. => execShadowViewWrite_within.owns [] rfl
  | .registerWrite .. => execRegisterWrite_within.owns [] rfl
  | .secLockWrite .. => execSecLockWrite_within.owns [] rfl
  | .auditAdvance .. => execAuditAdvance_within.owns [] rfl
  | .debugUnlock .. => execDebugUnlock_within.owns [] rfl
  | .secTamper .. => execSecTamper_within.owns [] rfl
  | .secKeyIntegrity .. => execSecKeyIntegrity_within.owns [] rfl
  | .engineWatchdogExpiry .. => execEngineWatchdogExpiry_within.owns [] rfl
  | .mgcHang .. => execMgcHang_within.owns [] rfl
  | .memAutoRetire .. => execMemAutoRetire_within.owns [] rfl
  | .memMigrationComplete => execMemMigrationComplete_within.owns [] rfl
  | .memtestStart .. => execMemtestStart_within.owns [] rfl
  | .memtestDone .. => execMemtestDone_within.owns [] rfl
  | .sramBistRotation .. => execSramBistRotation_within.owns [] rfl
  | .counterSnapshot => execCounterSnapshot_within.owns [] rfl
  | .dumpWriteComplete => execDumpWriteComplete_within.owns [] rfl
  | .sampleCrossing .. => execSampleCrossing_within.owns [] rfl
  | .sampleCapture .. => execSampleCapture_within.owns [] rfl
  | .cntSampleCiWrite .. => execCntSampleCiWrite_within.owns [] rfl
  | .cntSampleEnable .. => execCntSampleEnable_within.owns [] rfl
  | .telemetryArrival .. => execTelemetryArrival_within.owns [] rfl
  | .railRestored => execRailRestored_within.owns [] rfl
  | .perstDeassert .. => execPerstDeassert_within.owns [] rfl
  | .hifLinkTrained .. => execHifLinkTrained_within.owns [] rfl
  | .vfEnableSet .. => execVfEnableSet_within.owns [] rfl
  | .pfcPauseExpiry .. => execPfcPauseExpiry_within.owns [] rfl
  | .ethernetPortDown .. => execEthernetPortDown_within.owns [] rfl
  | .markerBlockSend .. => execMarkerBlockSend_within.owns [] rfl
  | .openBackoffExpiry .. => execOpenBackoffExpiry_within.owns [] rfl

/-- A managed part that is not the row's own lies outside its mask. -/
theorem ownMask_disjoint (c : Instr) : ∀ p ∈ managedParts, p ∉ managedBy c → Nat.land (ownMask (managedBy c)) p.mask = 0 := by
  unfold managedBy
  split <;> decide

/-- A row that changes a managed part is one that manages it. -/
theorem mem_managedBy_of_changed {c : Instr} {s t : State} (h : exec c s = .next t) (p : Part) (hp : p ∈ managedParts)
    (hne : ¬ p.same s t) : p ∈ managedBy c :=
  Decidable.by_contra fun hn => hne ((exec_within_ownMask s c t h).same p (ownMask_disjoint c p hp hn))

/-- But for the resets each managed part has its own rows. -/
theorem manager_of_mem_managedBy {c : Instr} (hc : c.resets = false) :
    (.partitions ∈ managedBy c → c.isOp [0x08, 0x09]) ∧ (.asids ∈ managedBy c → c.isOp [0x0A, 0x0B])
      ∧ (.events ∈ managedBy c → c.isOp [0x02]) ∧ (.gates ∈ managedBy c → c.isOp [0x2A])
      ∧ (.turns ∈ managedBy c → c = .jobDispatch) ∧ (.maps ∈ managedBy c → c = .mapPeriodExpiry) := by
  unfold managedBy
  split
  case h_9 | h_10 | h_11 => exact absurd hc (by simp [Instr.resets])
  all_goals simp [Instr.isOp, Instr.opcode?]

/-- Settles O8: a row that changes a managed part is one that manages it. -/
theorem objectsChangeOnlyByTheirCommands : Obligations.ObjectsChangeOnlyByTheirCommands := by
  unfold Obligations.ObjectsChangeOnlyByTheirCommands
  intro c s t h hc
  obtain ⟨hpartitions, hasids, hevents, hgates, hturns, hmaps⟩ := manager_of_mem_managedBy hc
  have own := mem_managedBy_of_changed h
  exact ⟨hpartitions ∘ own .partitions (by decide), hasids ∘ own .asids (by decide), hevents ∘ own .events (by decide),
    hgates ∘ own .gates (by decide), hturns ∘ own .turns (by decide), hmaps ∘ own .maps (by decide)⟩

end Sys2Proof.Machine

namespace Sys2Proof.Machine

/-! ### CMD_ENDPOINT_CONFIG (R96) -/

theorem setNth_eq_set {α : Type} (v : α) (l : List α) (i : Nat) : setNth i v l = l.set i v := by
  induction l generalizing i with
  | nil => rw [setNth, List.set_nil]
  | cons x l ih =>
    cases i with
    | zero => rw [setNth, List.set_cons_zero]
    | succ i => rw [setNth, ih, List.set_cons_succ]

/-- A state whose endpoint of a host port has this asynchronous EQ and event mask. -/
def withEpEq (port : Nat) (v : Nat × Word) (s : State) : State :=
  { s with qmg := { s.qmg with epEq := s.qmg.epEq.set port v } }

theorem withEpEq_within {port : Nat} {v : Nat × Word} {s : State} : Within 0x200000000000000000000000000000 s (withEpEq port v s) :=
  Within.refl.upd (e := s) rfl rfl rfl rfl rfl rfl rfl rfl

/-- With QID 0 or an EQ of the commanding function the body sets the EQ and the mask and completes OK. -/
theorem cmdEndpointConfig_sets {env : CmdEnv} {a : CmdArgs} {b : Begun} {u : State} (hw : badWords a [mask 51 32, allBits] = false)
    (hq : bits a.w1.toNat 51 32 = 0 ∨ ∃ x, u.queue? (bits a.w1.toNat 51 32) = some x ∧ x.kind = .eq ∧ x.attr.mid = a.mid) :
    cmdEndpointConfig env a b u = (.ok, withEpEq (midPort a.mid) (bits a.w1.toNat 51 32, a.w2) u) := by
  unfold cmdEndpointConfig withEpEq
  dsimp only
  rw [hw, if_neg (by decide), setNth_eq_set]
  by_cases hzero : bits a.w1.toNat 51 32 = 0
  · rw [if_pos hzero]
  · obtain ⟨x, hx, hkind, hmid⟩ := hq.resolve_left hzero
    rw [if_neg hzero, hx]
    simp [hkind, mayName_of_eq hmid]

/-- Settles O13: the body sets the entry of its host port, and taking and completing the command leave the queue manager. -/
theorem endpointConfigSetsEventQueue : Obligations.EndpointConfigSetsEventQueue := by
  unfold Obligations.EndpointConfigSetsEventQueue
  intro env a s h hw hq
  have hb := cmdEndpointConfig_sets (env := env) (b := begunAs 0x02 a s) (u := takenBy 0x02 a s) hw (by simpa using hq)
  have hset := withEpEq_within (port := midPort a.mid) (v := (bits a.w1.toNat 51 32, a.w2)) (s := takenBy 0x02 a s)
  have honly := (hset.app rfl (takenBy_within.weaken rfl) : Within 0x20000000000000200000100500000000000000000006 s _).only
    [.ring, .regs, .held, .events, .power, .counters] (by intro p; cases p <;> decide)
  obtain ⟨t, ht, hanswered, hframe, hqmg⟩ := ring_completes h hb rfl takenBy_regs takenBy_gates rfl honly (by decide)
  refine ⟨t, ht, hanswered, hframe, ?_⟩
  rw [hqmg]
  simp [withEpEq]

end Sys2Proof.Machine

namespace Sys2Proof.Machine

/-! ### Match contexts: what taking and completing a command leaves of the service units (R101, R409) -/

/-- An operation that may change no part of the service units keeps them whole. -/
theorem Within.keeps_svc {m : Nat} {s t : State} (h : Within m s t) (k : ∀ c : Svc, eraseSvc m c = c) : t.svc = s.svc := by
  have e := congrArg (fun x : State => x.svc) h.rest
  simpa only [erase, k] using e

section
variable {op : Nat} {a : CmdArgs} {s : State}

@[simp] theorem takenBy_svc : (takenBy op a s).svc = s.svc := takenBy_within.keeps_svc fun _ => rfl

@[simp] theorem takenBy_ctx? (n : Nat) : (takenBy op a s).ctx? n = s.ctx? n := by
  unfold State.ctx?
  rw [takenBy_svc]

@[simp] theorem takenBy_creator : (takenBy op a s).creator a = s.creator a := by
  unfold State.creator State.func?
  rw [takenBy_hif]

@[simp] theorem takenBy_partition? (n : Nat) : (takenBy op a s).partition? n = s.partition? n := by
  unfold State.partition?
  rw [takenBy_within.keeps_rma_partitions rfl]

@[simp] theorem takenBy_freestUnit : (takenBy op a s).freestUnit = s.freestUnit := by
  unfold State.freestUnit State.unitEntries
  rw [takenBy_svc]

/-- A command that wakes no domain changes the ring and what is put out or held, and nothing else. -/
theorem takenBy_of_unwoken (h : wakeForCommand (objectOf op a) (begunIn op a s) = begunIn op a s) :
    Within 0x500000000000000000006 s (takenBy op a s) := by
  obtain ⟨y, z, he, hy, -⟩ := emit_form ({ s with cmd := { s.cmd with next := s.cmd.next + 1 } } : State)
    (.hostRead s.hif.nextReq (s.fld .cmdRingBase 0 58 56) (s.ringAddr s.cmd.next) 64 false)
  rw [takenBy_eq, h]
  unfold begunIn
  rw [he]
  exact Within.refl.put (e := s) hy (Nat.le_refl _) (Nat.le_refl _) rfl rfl rfl rfl rfl

theorem begunIn_svc : (begunIn op a s).svc = s.svc := by
  obtain ⟨y, z, he, -, -⟩ := emit_form ({ s with cmd := { s.cmd with next := s.cmd.next + 1 } } : State)
    (.hostRead s.hif.nextReq (s.fld .cmdRingBase 0 58 56) (s.ringAddr s.cmd.next) 64 false)
  unfold begunIn
  rw [he]

/-- A command on a match context that does not exist wakes no domain. -/
theorem takenBy_of_noCtx (ho : op = 0x20 ∨ op = 0x21) (h : s.ctx? (bits a.w1.toNat 15 0) = none) :
    Within 0x500000000000000000006 s (takenBy op a s) := by
  have hobj : objectOf op a = (5, bits a.w1.toNat 15 0, bits a.w1.toNat 15 0) := by obtain rfl | rfl := ho <;> rfl
  refine takenBy_of_unwoken ?_
  unfold State.ctx? at h
  simp [hobj, wakeForCommand, begunIn_svc, h]

/-- Completing a command leaves the service units. -/
theorem completeCmd_svc {u : State} {status detail r0 r1 : Nat} (h : RingTurn op a s) (k : RingKept op a s u) :
    (completeCmd (begunAs op a s) status detail r0 r1 u).svc = u.svc := by
  obtain ⟨x, y, r, d, w, e, -, -⟩ := completeCmd_form (status := status) (detail := detail) (r0 := r0) (r1 := r1) h k
  rw [e]

end

/-! ### CMD_MATCH_CONTEXT_CREATE (R101) -/

/-- The function may create this match context: its words are in range, the number is unused, and partition and EQ exist. -/
structure CtxCreatable (a : CmdArgs) (s : State) : Prop where
  words : badWords a [mask 20 0 + mask 47 32, mask 23 0 + mask 51 32] = false
  home : bits a.w1.toNat 20 16 < 24 ∨ bits a.w1.toNat 20 16 = 31
  quota : bits a.w2.toNat 23 0 ≤ 2 ^ 23
  creator : s.creator a = csOk
  unused : s.ctx? (bits a.w1.toNat 15 0) = none
  partition : (s.partition? (bits a.w1.toNat 47 32)).isSome = true
  eq : bits a.w2.toNat 51 32 ≠ 0
  eqFits : s.eqFits (midPort a.mid) (bits a.w2.toNat 51 32) = true

/-- The home unit that the command asks for, or leaves to the device. -/
def ctxHome (a : CmdArgs) (s : State) : Nat := if bits a.w1.toNat 20 16 = 31 then s.freestUnit else bits a.w1.toNat 20 16

/-- The context that the command creates at a unit. -/
def newCtx (a : CmdArgs) (home : Nat) : MatchCtx :=
  { num := bits a.w1.toNat 15 0, mid := a.mid, ep := midPort a.mid, pkey := bits a.w1.toNat 47 32, home := home, quota := bits a.w2.toNat 23 0
    eq := bits a.w2.toNat 51 32, state := .active, nextSeq := 0, posted := [], unexp := [], refusedAt := none }

/-- The state with one more match context. -/
def withCtx (c : MatchCtx) (s : State) : State := { s with svc := { s.svc with ctxs := s.svc.ctxs ++ [c] } }

section
variable {env : CmdEnv} {a : CmdArgs} {b : Begun} {s u : State}

theorem withCtx_within {c : MatchCtx} : Within 0x200000000000000000000000000000000000 s (withCtx c s) :=
  Within.refl.upd (e := s) rfl rfl rfl rfl rfl rfl rfl rfl

theorem CtxCreatable.taken {op : Nat} (h : CtxCreatable a s) : CtxCreatable a (takenBy op a s) where
  words := h.words
  home := h.home
  quota := h.quota
  creator := takenBy_creator.trans h.creator
  unused := (takenBy_ctx? _).trans h.unused
  partition := by rw [takenBy_partition?, h.partition]
  eq := h.eq
  eqFits := (takenBy_eqFits _ _).trans h.eqFits

theorem cmdMatchContextCreate_creates (h : CtxCreatable a u) :
    cmdMatchContextCreate env a b u = (.result (ctxHome a u), withCtx (newCtx a (ctxHome a u)) u) := by
  obtain ⟨hwords, hhome, hquota, hcreator, hunused, hpartition, heq, hfits⟩ := h
  have hrange : ¬(badWords a [mask 20 0 + mask 47 32, mask 23 0 + mask 51 32] = true
      ∨ (24 ≤ bits a.w1.toNat 20 16 ∧ bits a.w1.toNat 20 16 ≠ 31) ∨ 2 ^ 23 < bits a.w2.toNat 23 0) := by
    rw [hwords, Bool.false_eq_true, false_or]
    omega
  have hevents : ¬(bits a.w2.toNat 51 32 = 0 ∨ (!u.eqFits (midPort a.mid) (bits a.w2.toNat 51 32)) = true) := by simp [heq, hfits]
  unfold cmdMatchContextCreate
  dsimp only
  rw [if_neg hrange, if_neg (not_not.2 hcreator), hunused, if_neg (by decide), if_neg (by simpa [Option.isSome_iff_ne_none] using hpartition),
    if_neg hevents]
  rfl

/-- The command completes with the new context, and nothing else changes. -/
theorem ctxCreate_completes (h : RingTurn 0x20 a s) (hc : CtxCreatable a s) :
    ∃ t, onRing 0x20 cmdMatchContextCreate env a s = .next t ∧ Answered 0x20 a s s t csOk 0 (ctxHome a s) 0
      ∧ Only [.ring, .regs, .held, .matching] s t ∧ t.svc = (withCtx (newCtx a (ctxHome a s)) s).svc := by
  have hbody : cmdMatchContextCreate env a (begunAs 0x20 a s) (takenBy 0x20 a s)
      = (.result (ctxHome a s), withCtx (newCtx a (ctxHome a s)) (takenBy 0x20 a s)) := by
    rw [cmdMatchContextCreate_creates hc.taken, ctxHome, takenBy_freestUnit, ← ctxHome]
  have hsu : Within 0x200000000000000500000000000000000006 s (withCtx (newCtx a (ctxHome a s)) (takenBy 0x20 a s)) :=
    withCtx_within.app rfl ((takenBy_of_noCtx (.inl rfl) hc.unused).weaken rfl)
  have hl : Only [.ring, .regs, .held, .matching] s (withCtx (newCtx a (ctxHome a s)) (takenBy 0x20 a s)) :=
    hsu.only _ (by intro p; cases p <;> decide)
  have hk : RingKept 0x20 a s (withCtx (newCtx a (ctxHome a s)) (takenBy 0x20 a s)) := .of h rfl takenBy_regs takenBy_gates rfl
  obtain ⟨hanswered, honly, -⟩ := completeCmd_leaves (status := csOk) (detail := 0) (r0 := ctxHome a s) (r1 := 0) h hk hl (by decide)
  refine ⟨_, by rw [ring_turn h, hbody]; rfl, hanswered.congr takenBy_regs.symm, honly, (completeCmd_svc h hk).trans ?_⟩
  rw [withCtx, takenBy_svc]
  rfl

/-! ### CMD_MATCH_CONTEXT_DESTROY (R132) -/

theorem num_of_ctx? {n : Nat} {c : MatchCtx} (h : s.ctx? n = some c) : c.num = n := by
  simpa using List.find?_some h

/-- The context without what was posted, and with the unexpected messages alone that a receive has claimed. -/
def drainedCtx (c : MatchCtx) : MatchCtx :=
  { c with state := .draining, posted := [], refusedAt := none, unexp := c.unexp.filter (·.claimed.isSome) }

/-- The unexpected eager messages of a context that no receive has claimed are lost. -/
def countLost (c : MatchCtx) (s : State) : State :=
  { s with svc := { s.svc with unexpLost := s.svc.unexpLost + (c.unexp.filter (fun u => !u.rts && u.claimed.isNone)).length } }

/-- What a context that drains gives up: its posted receives, the unexpected messages that no receive has claimed, and then, when nothing
of it is left, its number. -/
def ctxGivesUp (c : MatchCtx) (s : State) : State :=
  ctxDrained c.num ((c.unexp.filter (fun u => u.rts && u.claimed.isNone)).foldl (fun s u => sendFin u.peer u.psn u.pkey u.group stCanceled s)
    (countLost c (c.posted.foldl (fun s r => endJob r.jid stCanceled s) (updCtx c.num drainedCtx s))))

theorem cmdMatchContextDestroy_drains {c : MatchCtx} (hw : badWords a [mask 15 0] = false) (hc : u.ctx? (bits a.w1.toNat 15 0) = some c)
    (hm : c.mid = a.mid) (hd : c.state ≠ .draining) : cmdMatchContextDestroy env a b u = (.wait, ctxGivesUp c u) := by
  unfold cmdMatchContextDestroy
  dsimp only
  rw [hw, if_neg (by decide), hc]
  dsimp only
  rw [mayName_of_eq hm, if_neg (by decide), if_neg hd, ← num_of_ctx? hc]
  rfl

end

/-- Settles O28: a created context stands behind the others, and a destroyed one gives up what it holds. -/
theorem matchContextsAreCreatedAndDestroyed : Obligations.MatchContextsAreCreatedAndDestroyed := by
  unfold Obligations.MatchContextsAreCreatedAndDestroyed
  refine ⟨?_, ?_⟩
  · intro env a s h hwords hhome hquota hcreator hunused hpartition heq hfits home
    obtain ⟨t, ht, hanswered, honly, hsvc⟩ := ctxCreate_completes (env := env) h
      ⟨hwords, hhome, hquota, hcreator, hunused, hpartition, heq, hfits⟩
    exact ⟨t, ht, hanswered, honly, congrArg (·.rndvs) hsvc, congrArg (·.ctxs) hsvc⟩
  · intro env a s c h hw hc hm hd
    exact ring_wait h (cmdMatchContextDestroy_drains hw ((takenBy_ctx? _).trans hc) hm hd)

end Sys2Proof.Machine

namespace Sys2Proof.Machine

/-! ### Timers of chorus groups, match contexts, regions and invalidations (R129, R143, R183, R231, R235, R236, R247, R248) -/

section
variable {g dim openNum : Nat} {s : State} {x : Group}

/-- A RESULT as it goes again to the children that have left it unacknowledged: sealed anew, and not at all without its key (R221, R247). -/
def resent (g dim openNum : Nat) (s : State) (r : ResultLog) : Option Out :=
  let p := sealPkt [r.pkt.src, g, dim, s.incarnation, openNum] r.epoch { r.pkt with retx := true } s
  if p.prot && s.keyMissing p.pkey then none else some (.multicast dim r.left p)

/-- The state after RESULTs went again. -/
def withResent (g dim openNum : Nat) (l : List ResultLog) (s : State) : State :=
  { s with out := s.out ++ l.filterMap (resent g dim openNum s) }

/-- How a RESULT goes again does not depend on what was put out before. -/
theorem resent_withResent {l : List ResultLog} : resent g dim openNum (withResent g dim openNum l s) = resent g dim openNum s := rfl

theorem withResent_within {l : List ResultLog} : Within 0x2 s (withResent g dim openNum l s) :=
  Within.refl.put (e := s) (List.prefix_append _ _) (Nat.le_refl _) (Nat.le_refl _) rfl rfl rfl rfl rfl

theorem emit_multicast {kids : List Nat} {p : Packet} : s.emit (.multicast dim kids p) = { s with out := s.out ++ [.multicast dim kids p] } :=
  emit_of_goes rfl

theorem resent_one (r : ResultLog) :
    (let p := sealPkt [r.pkt.src, g, dim, s.incarnation, openNum] r.epoch { r.pkt with retx := true } s
     if p.prot && s.keyMissing p.pkey then s else s.emit (.multicast dim r.left p)) = withResent g dim openNum [r] s := by
  unfold withResent resent
  dsimp only [List.filterMap_cons, List.filterMap_nil]
  split
  · rw [List.append_nil]
  · rw [emit_multicast]

theorem withResent_append {l m : List ResultLog} :
    withResent g dim openNum m (withResent g dim openNum l s) = withResent g dim openNum (l ++ m) s := by
  rw [withResent, resent_withResent]
  simp only [withResent, List.filterMap_append, List.append_assoc]

/-- RESULTs that go again one after the other. -/
theorem foldl_resent (l : List ResultLog) : ∀ s : State, l.foldl (fun s r => withResent g dim openNum [r] s) s = withResent g dim openNum l s := by
  induction l with
  | nil =>
    intro s
    simp [withResent]
  | cons r l ih =>
    intro s
    rw [List.foldl_cons, ih, withResent_append, List.singleton_append]

/-- The state in which a child that left too many resends of a flow unacknowledged has been declared lost (R248). -/
def withLost (g limit : Nat) (f : McFlow) (s : State) : State :=
  (f.misses.find? (fun x => decide (limit ≤ x.2))).elim s (fun m => chorusLoss g 3 m.1 none s)

/-- A loss takes no time. -/
theorem withLost_now {limit : Nat} {f : McFlow} : (withLost g limit f s).clk.now = s.clk.now := by
  unfold withLost
  cases f.misses.find? (fun x => decide (limit ≤ x.2)) with
  | none => rfl
  | some m => exact chorusLoss_within.keeps_clk_now rfl

/-- A flow with RESULTs that children left: one that left too many is lost, and the RESULTs that are due go again (R247, R248). -/
theorem resultRetx_resends {f : McFlow} {r : ResultLog} {l : List ResultLog} (hx : s.group? g = some x)
    (hf : x.flows.find? (fun f => f.dim = dim) = some f) (hl : f.log = r :: l) :
    let gap := us (atLeast1 (s.fld .chrCtrl 0 47 32))
    let u := s.advanceTo (r.sentAt + gap)
    ∃ k, resultRetx g dim s = updGroup g k (withResent g dim f.openNum (f.log.filter (fun x => decide (x.sentAt + gap ≤ u.clk.now)))
      (withLost g (atLeast1 (s.fld .chrCtrl 0 31 24)) f u)) := by
  intro gap u
  rw [← withLost_now (g := g) (limit := atLeast1 (s.fld .chrCtrl 0 31 24)) (f := f) (s := u)]
  unfold resultRetx
  rw [hx, Option.bind_some, hf]
  dsimp only
  rw [hl]
  dsimp only
  rw [← hl]
  simp only [resent_one, foldl_resent]
  exact ⟨_, rfl⟩

/-- A group that misses a member which its table names fails (R235, R248). -/
theorem joinTimeout_misses {c : Nat} (hx : s.group? g = some x) (ha : x.state = .active) (hk : x.children.length < x.expectChildren)
    (hc : x.named.find? (fun c => !(c ∈ x.children)) = some c) :
    joinTimeout g s = chorusLoss g 5 c none (s.advanceTo (x.activeAt + ms (atLeast1 (s.fld .chrCtrl 0 23 8)))) := by
  unfold joinTimeout
  rw [hx]
  dsimp only
  rw [if_neg (not_not.2 ha), if_pos hk, hc]

/-- A complete chunk of a node below the root goes to its parent, as POISON at a node in LEAVING (R231, R236). -/
theorem reduceChunk_sendsUp {q b i p : Nat} {o : ChorusOp} {c : Chunk} (hx : s.group? g = some x) (ho : x.op? q = some o)
    (hc : o.chunks.find? (fun c => c.block = b && c.idx = i) = some c) (hs : x.state ≠ .failed) (hr : x.isRoot s = false)
    (hready : chunkReady x false o c = true) (hp : x.parent s = some p) (hcoll : o.coll ≠ 1) :
    reduceChunk g q b i s = sendChunk x o { c with poison := c.poison || x.state == .leaving } ckContrib p
      (updOp g q (updChunk b i (fun c => { c with forwarded := true })) s) := by
  have hgoes : chunkReady x false o { c with poison := c.poison || x.state == .leaving } = true := hready
  have hup : x.parent (updOp g q (updChunk b i (fun c => { c with forwarded := true })) s) = some p := hp
  unfold reduceChunk
  rw [hx]
  dsimp only
  rw [ho]
  dsimp only
  rw [hc]
  dsimp only
  rw [hr, hgoes, if_neg (by simp [hs]), if_pos (by decide), hup]
  dsimp only
  rw [if_neg hcoll]

/-- An invalidation that all units have applied and no access uses is acknowledged, and others go on (R183, R185). -/
theorem invalAck_acknowledges {id : Nat} {i : Inval} (hi : s.xlt.invals.find? (fun i => i.id = id && i.applied) = some i)
    (hb : s.invalBusy i.scope = false) :
    invalAck id s =
      let u := { s with xlt := { s.xlt with invals := updAll (fun x => x.id = id) (fun x => { x with acked := true }) s.xlt.invals } }
      let v := invalFinish (u.xlt.invals.length + 1) u
      invalsGo (invalStart v.xlt.invals.length v) := by
  unfold invalAck
  rw [hi]
  dsimp only
  rw [if_neg (by simp [hb])]

end

/-- Settles O49: each row is its function of the model, where the group, the chunk, the context, the region or the invalidation is as the
row wants it. -/
theorem objectTimersAct : Obligations.ObjectTimersAct := by
  unfold Obligations.ObjectTimersAct
  refine ⟨?_, ?_, ?_, ?_, ?_, ?_, ?_⟩
  · intro g dim s x f r l hup hx hf hl u lost v due
    obtain ⟨k, hk⟩ := resultRetx_resends hx hf hl
    have hw : Within 0x20000000000000000000000000000000000002 v (updGroup g k (withResent g dim f.openNum due v)) :=
      updGroup_within.app rfl (withResent_within.weaken rfl)
    refine ⟨_, ?_, hw.only _ (by intro p; cases p <;> decide), rfl⟩
    show execResultRetxExpiry g dim s = _
    rw [execResultRetxExpiry, epStep_of_up hup, hk]
    rfl
  · intro g s x c hup hx ha hk hc
    show execJoinTimeout g s = _
    rw [execJoinTimeout, epStep_of_up hup, joinTimeout_misses hx ha hk hc]
  · intro g n b i s x o c p hup hx hawake q ho hc hs hr hready hp hcoll
    show execChunkReduction g n b i s = _
    rw [execChunkReduction, epStep_of_up hup]
    dsimp only
    rw [hx, Option.elim_some, if_neg (by simp [hawake]), reduceChunk_sendsUp hx ho hc hs hr hready hp hcoll]
  · intro g n b i s x hup hx hsleeps
    show execChunkReduction g n b i s = _
    rw [execChunkReduction, epStep_of_up hup]
    dsimp only
    rw [hx, Option.elim_some, if_pos hsleeps]
  · intro n s x t hup hx hr
    show execMtcUnexpTimeout n s = _
    rw [execMtcUnexpTimeout, epStep_of_up hup, hx, Option.bind_some, hr]
  · intro i s r hup hr
    show execDeregTimeout i s = _
    rw [execDeregTimeout, epStep_of_up hup, hr]
  · intro id s i hrun hi hb
    show execInvalidationAcknowledged id s = _
    rw [execInvalidationAcknowledged, trnStep_of_running hrun, invalAck_acknowledges hi hb]

end Sys2Proof.Machine

namespace Sys2Proof.Machine

/-! ### Completions of host requests (R47, R153, R169, R172, R387, R399, R581, R586) -/

/-- Putting requests out leaves the list of outstanding ones. -/
theorem emits_hif {s : State} {l : List Nat} {os : List Out} : (State.emits s l os).hif = s.hif :=
  State.emits_within.keeps_hif fun _ => rfl

/-- A change of requests that keeps their identifiers leaves the list of identifiers. -/
theorem map_updAll_of_kept {α β : Type} {p : α → Bool} {f : α → α} {g : α → β} (h : ∀ x, g (f x) = g x) (l : List α) :
    (updAll p f l).map g = l.map g := by
  rw [updAll_eq_map, List.map_map]
  refine List.map_congr_left fun x _ => ?_
  dsimp only [Function.comp_apply]
  split
  · exact h x
  · rfl

/-- The identifiers of the outstanding requests. -/
def reqIds (s : State) : List Nat := s.hif.reqs.map (·.id)

/-- Issuing what waits on a port changes no identifier. -/
theorem issueNext_reqIds {port : Nat} {s : State} : reqIds (issueNext port s) = reqIds s := by
  unfold issueNext
  split
  · rfl
  · rename_i hrun
    clear hrun
    generalize s.hif.reqs.filter (fun r => r.port = port) = l
    induction l generalizing s with
    | nil => rfl
    | cons r l ih =>
      rw [List.foldl_cons, ih]
      dsimp only
      split
      · rfl
      · rw [reqIds, emits_hif]
        refine map_updAll_of_kept ?_ _
        exact fun _ => rfl

/-- A request that is over is outstanding no more. -/
theorem dropReq_reqIds {r : HostReq} {s : State} : r.id ∉ reqIds (dropReq r s) := by
  rw [dropReq, issueNext_reqIds]
  simp [reqIds]

section
variable {id : Nat} {s : State} {r : HostReq}

theorem hostReq?_of_unlisted (h : id ∉ reqIds s) : s.hostReq? id = none := by
  refine List.find?_eq_none.2 fun x hx hp => h (List.mem_map.2 ⟨x, hx, ?_⟩)
  simp only [Bool.and_eq_true, decide_eq_true_eq] at hp
  exact hp.1

theorem id_of_hostReq? (h : s.hostReq? id = some r) : r.id = id := by
  have hp := List.find?_some h
  simp only [Bool.and_eq_true, decide_eq_true_eq] at hp
  exact hp.1

/-- A completed request is over, however it ended. -/
theorem countFailure_dropReq_over {miss : Bool} {res : HostResult} : (countFailure r miss res (dropReq r s)).hostReq? r.id = none := by
  refine hostReq?_of_unlisted ?_
  rw [reqIds, countFailure_within.keeps_hif_reqs rfl]
  exact dropReq_reqIds

/-- While the chip runs, a completion that came acts and what it leaves settles. -/
theorem hostStep_of_running {f : State → State} (h : s.running = true) : hostStep f s = settle (f s) := by
  unfold hostStep
  rw [if_pos (.inl h)]

/-- The row of a request's kind completes it. -/
theorem hostStep_complete {kind : ReqFor → Bool} {res : HostResult} (hrun : s.running = true) (hr : s.hostReq? id = some r)
    (hk : kind r.use = true) : hostStep (complete kind id res) s = settle (reqDone r res s) := by
  rw [hostStep_of_running hrun, complete, hr]
  dsimp only
  rw [if_pos hk]

/-- A request that brought its data has failed in nothing. -/
theorem countFailure_data {miss : Bool} {bs : List Byte} : countFailure r miss (.data bs) s = s := by
  unfold countFailure failedAccess
  split
  · rfl
  · simp

theorem reqDone_walk {w : Nat} {x : Walk} {bs : List Byte} (hu : r.use = .walk w)
    (hx : (dropReq r s).xlt.walks.find? (fun y => y.id = w) = some x) : reqDone r (.data bs) s = walkEntry x (.data bs) (dropReq r s) := by
  unfold reqDone
  dsimp only
  rw [countFailure_data, hu]
  dsimp only
  rw [hx]

theorem reqDone_adCas {w : Nat} {x : Walk} {bs : List Byte} (hu : r.use = .adCas w)
    (hx : (dropReq r s).xlt.walks.find? (fun y => y.id = w) = some x) : reqDone r (.data bs) s = walkCas x (.data bs) (dropReq r s) := by
  unfold reqDone
  dsimp only
  rw [countFailure_data, hu]
  dsimp only
  rw [hx]

theorem reqDone_ring {q n : Nat} {pos : Pos} {bs : List Byte} (hu : r.use = .ring q pos n) :
    reqDone r (.data bs) s = ringData q r.id (.data bs) (dropReq r s) := by
  unfold reqDone
  dsimp only
  rw [countFailure_data, hu]

end

/-- Every completion timeout has a range (R581). -/
theorem cplRange_ordered (v : Nat) : (cplRange v).1 ≤ (cplRange v).2 := by
  unfold cplRange
  split <;> decide

/-- A timeout that is drawn lies in the range of its request's function, and the request then fails as timed out (R581). -/
theorem execCompletionTimeout_ends {id : Nat} {s : State} {r : HostReq} (hrun : s.running = true)
    (hr : s.hif.reqs.find? (fun r => r.id = id && r.live ≠ 0) = some r) :
    ∃ d, (s.cplTmo r).1 ≤ d ∧ d ≤ (s.cplTmo r).2
      ∧ execCompletionTimeout id s = .next (settle (reqDone r .timedOut (s.drawNat.2.advanceTo (r.at_ + d)))) := by
  have hrange : (s.cplTmo r).1 ≤ (s.cplTmo r).2 := cplRange_ordered _
  refine ⟨(s.cplTmo r).1 + s.drawNat.1 % ((s.cplTmo r).2 - (s.cplTmo r).1 + 1), Nat.le_add_right _ _, ?_, ?_⟩
  · have hmod : s.drawNat.1 % ((s.cplTmo r).2 - (s.cplTmo r).1 + 1) < (s.cplTmo r).2 - (s.cplTmo r).1 + 1 := Nat.mod_lt _ (Nat.succ_pos _)
    omega
  · rw [execCompletionTimeout, hostStep_of_running hrun, hr, ← Nat.add_assoc]
    rfl

/-- Settles O43: each row runs `reqDone` for the request it completes, which does what the request was for. -/
theorem hostAnswersReachTheirRequests : Obligations.HostAnswersReachTheirRequests := by
  unfold Obligations.HostAnswersReachTheirRequests
  refine ⟨?_, ?_, ?_, ?_, ?_⟩
  · intro id res s r hrun hr
    have hrow {kind : ReqFor → Bool} (hk : kind r.use = true) :
        (.next (hostStep (complete kind id res) s) : Host.Outcome State Fault Refusal) = .next (settle (reqDone r res s)) := by
      rw [hostStep_complete hrun hr hk]
    refine ⟨hrow, hrow, hrow, hrow, hrow, fun miss => ?_⟩
    rw [← id_of_hostReq? hr]
    exact countFailure_dropReq_over
  · intro id s r hrun hr
    exact execCompletionTimeout_ends hrun hr
  · intro bs s r _
    exact ⟨fun _ _ hu hx => reqDone_walk hu hx, fun _ _ hu hx => reqDone_adCas hu hx, fun _ _ _ hu => reqDone_ring hu⟩
  · intro qid s q hup hq hgap
    show execRefetchGapExpiry qid s = _
    rw [execRefetchGapExpiry, epStep_of_up hup, hq]
    dsimp only
    rw [if_neg (by simp [hgap])]
  · intro p fn addr s hp halive hport
    show execPoisonedWriteReceived p fn addr s = _
    rw [execPoisonedWriteReceived, onInstance, instOf_of_lt hp]
    dsimp only
    rw [if_pos ⟨halive, hport⟩]

end Sys2Proof.Machine

namespace Sys2Proof.Machine

/-! ### Partitions, address spaces and regions: what taking and completing a command leaves of them (R134-R139, R409) -/

/-- An operation that may change no part of remote memory keeps it whole. -/
theorem Within.keeps_rma {m : Nat} {s t : State} (h : Within m s t) (k : ∀ c : Rma, eraseRma m c = c) : t.rma = s.rma := by
  have e := congrArg (fun x : State => x.rma) h.rest
  simpa only [erase, k] using e

theorem Within.keeps_xlt {m : Nat} {s t : State} (h : Within m s t) (k : ∀ c : Xlt, eraseXlt m c = c) : t.xlt = s.xlt := by
  have e := congrArg (fun x : State => x.xlt) h.rest
  simpa only [erase, k] using e

theorem Within.keeps_trn {m : Nat} {s t : State} (h : Within m s t) (k : ∀ c : Trn, eraseTrn m c = c) : t.trn = s.trn := by
  have e := congrArg (fun x : State => x.trn) h.rest
  simpa only [erase, k] using e

section
variable {op : Nat} {a : CmdArgs} {s : State}

@[simp] theorem takenBy_rma : (takenBy op a s).rma = s.rma := takenBy_within.keeps_rma fun _ => rfl

@[simp] theorem takenBy_xlt : (takenBy op a s).xlt = s.xlt := takenBy_within.keeps_xlt fun _ => rfl

@[simp] theorem takenBy_trn : (takenBy op a s).trn = s.trn := takenBy_within.keeps_trn fun _ => rfl

@[simp] theorem takenBy_now : (takenBy op a s).clk.now = s.clk.now := takenBy_within.keeps_clk_now rfl

@[simp] theorem takenBy_asid? (n : Nat) : (takenBy op a s).asid? n = s.asid? n := by
  unfold State.asid?
  rw [takenBy_xlt]

@[simp] theorem takenBy_region? (n : Nat) : (takenBy op a s).region? n = s.region? n := by
  unfold State.region?
  rw [takenBy_rma]

@[simp] theorem takenBy_keyringSize : (takenBy op a s).keyringSize = s.keyringSize := by
  unfold State.keyringSize State.fld
  rw [takenBy_raw]

@[simp] theorem takenBy_freeIndex : (takenBy op a s).freeIndex = s.freeIndex := by
  unfold State.freeIndex
  rw [takenBy_rma, takenBy_keyringSize]

/-- At its turn a command that names a partition or a region, or nothing, wakes no domain: the ring moves on, and nothing else. -/
theorem RingTurn.taken_unwoken (h : RingTurn op a s) (ho : (objectOf op a).1 ∈ [0, 2, 4]) : Within 0x500000000000000000002 s (takenBy op a s) := by
  have hgo : (Out.hostRead s.hif.nextReq (s.fld .cmdRingBase 0 58 56) (s.ringAddr s.cmd.next) 64 false).hostPort.elim false
      ({ s with cmd := { s.cmd with next := s.cmd.next + 1 } } : State).portHolds = false := h.port
  have hwake : wakeForCommand (objectOf op a) (begunIn op a s) = begunIn op a s := by
    simp only [List.mem_cons, List.not_mem_nil, or_false] at ho
    obtain ho | ho | ho := ho <;> simp [wakeForCommand, ho]
  rw [takenBy_eq, hwake]
  unfold begunIn
  rw [emit_of_goes hgo]
  exact Within.refl.put (e := s) (List.prefix_append _ _) (Nat.le_refl _) (Nat.le_refl _) rfl rfl rfl rfl rfl

/-- Completing a command leaves partitions, regions, address spaces and translations. -/
theorem completeCmd_memory {u : State} {status detail r0 r1 : Nat} (h : RingTurn op a s) (k : RingKept op a s u) :
    (completeCmd (begunAs op a s) status detail r0 r1 u).rma = u.rma ∧ (completeCmd (begunAs op a s) status detail r0 r1 u).xlt = u.xlt := by
  obtain ⟨x, y, r, d, w, e, -, -⟩ := completeCmd_form (status := status) (detail := detail) (r0 := r0) (r1 := r1) h k
  rw [e]
  exact ⟨rfl, rfl⟩

/-- A command whose body completes it at its turn and changes nothing of the registers, the gates and the ring: what it left of partitions,
regions, address spaces and translations stands. -/
theorem ring_sets_memory {body : CmdBody} {env : CmdEnv} {u : State} {status r0 : Nat} {l : List Part} (h : RingTurn op a s)
    (hb : body env a (begunAs op a s) (takenBy op a s) = (.done status 0 r0 0, u)) (k : RingKept op a s u) (hr : u.regs = s.regs)
    (hl : Only l s u) (hsub : ∀ p ∈ [Part.ring, .regs, .held], p ∈ l) :
    ∃ t, onRing op body env a s = .next t ∧ Answered op a s s t status 0 r0 0 ∧ Only l s t ∧ t.rma = u.rma ∧ t.xlt = u.xlt := by
  obtain ⟨hanswered, honly, -⟩ := completeCmd_leaves (status := status) (detail := 0) (r0 := r0) (r1 := 0) h k hl hsub
  exact ⟨_, by rw [ring_turn h, hb], hanswered.congr hr.symm, honly, completeCmd_memory h k⟩

end

end Sys2Proof.Machine

namespace Sys2Proof.Machine

/-! ### CMD_PARTITION_CREATE and CMD_PARTITION_DESTROY (R134, R136) -/

/-- The state with these partitions. -/
def withPartitions (l : List Partition) (s : State) : State := { s with rma := { s.rma with partitions := l } }

theorem withPartitions_within {l : List Partition} {s : State} : Within 0x800000000000000000000000000000000 s (withPartitions l s) :=
  Within.refl.upd (e := s) rfl rfl rfl rfl rfl rfl rfl rfl

/-- The partition that CMD_PARTITION_CREATE describes. -/
def newPartition (a : CmdArgs) : Partition :=
  { pkey := bits a.w1.toNat 15 0, protect := bit a.w1.toNat 16, weight := bits a.w1.toNat 31 24 }

section
variable {op : Nat} {env : CmdEnv} {a : CmdArgs} {b : Begun} {s u : State}

theorem partition?_of_unused {n : Nat} (h : ∀ p ∈ s.rma.partitions, p.pkey ≠ n) : s.partition? n = none :=
  List.find?_eq_none.2 fun p hp => by simp [h p hp]

theorem partition?_of_used {n : Nat} (h : ∃ p ∈ s.rma.partitions, p.pkey = n) : (s.partition? n).isSome = true := by
  obtain ⟨p, hp, hn⟩ := h
  exact List.find?_isSome.2 ⟨p, hp, by simp [hn]⟩

@[simp] theorem takenBy_partitionUsed (n : Nat) : (takenBy op a s).partitionUsed n = s.partitionUsed n := by
  unfold State.partitionUsed
  rw [takenBy_rma, takenBy_qmg, takenBy_xlt, takenBy_svc]

theorem objectOf_partition (ho : op = 0x08 ∨ op = 0x09) : (objectOf op a).1 ∈ [0, 2, 4] := by
  obtain rfl | rfl := ho <;> exact List.mem_of_elem_eq_true rfl

theorem cmdPartitionCreate_adds (hw : badWords a [mask 16 0 + mask 31 24] = false) (hweight : bits a.w1.toNat 31 24 ≠ 0)
    (hn : u.partition? (bits a.w1.toNat 15 0) = none) :
    cmdPartitionCreate env a b u = (.ok, withPartitions (u.rma.partitions ++ [newPartition a]) u) := by
  unfold cmdPartitionCreate
  dsimp only
  rw [if_neg (by simp [hw, hweight]), hn, if_neg (by decide)]
  rfl

theorem cmdPartitionDestroy_acts (hw : badWords a [mask 15 0] = false) (hp : (u.partition? (bits a.w1.toNat 15 0)).isSome = true) :
    cmdPartitionDestroy env a b u = if u.partitionUsed (bits a.w1.toNat 15 0) then refuse csBusy u
      else (.ok, withPartitions (u.rma.partitions.filter (fun p => p.pkey ≠ bits a.w1.toNat 15 0)) u) := by
  unfold cmdPartitionDestroy
  dsimp only
  rw [hw, if_neg (by decide), if_neg (by simp [Option.isSome_iff_ne_none.1 hp])]
  rfl

/-- A command on a partition that sets the list of partitions completes, and nothing else changes. -/
theorem ring_sets_partitions {body : CmdBody} {l : List Partition} (h : RingTurn op a s) (ho : op = 0x08 ∨ op = 0x09)
    (hb : body env a (begunAs op a s) (takenBy op a s) = (.ok, withPartitions l (takenBy op a s))) :
    ∃ t, onRing op body env a s = .next t ∧ Answered op a s s t csOk 0 0 0 ∧ Only [.ring, .regs, .held, .partitions] s t
      ∧ t.rma.partitions = l := by
  have hsu : Within 0x800000000000500000000000000000002 s (withPartitions l (takenBy op a s)) :=
    withPartitions_within.app rfl ((h.taken_unwoken (objectOf_partition ho)).weaken rfl)
  obtain ⟨t, ht, hanswered, honly, hrma, -⟩ := ring_sets_memory (l := [.ring, .regs, .held, .partitions]) h hb
    (.of h rfl takenBy_regs takenBy_gates rfl) takenBy_regs (hsu.only _ (by intro p; cases p <;> decide)) (by decide)
  exact ⟨t, ht, hanswered, honly, congrArg (·.partitions) hrma⟩

/-- A command that wakes no domain and fails changes nothing but the ring and the registers. -/
theorem ring_refuses_unwoken {body : CmdBody} {status : Nat} (h : RingTurn op a s) (ho : (objectOf op a).1 ∈ [0, 2, 4])
    (hb : body env a (begunAs op a s) (takenBy op a s) = refuse status (takenBy op a s)) :
    ∃ t, onRing op body env a s = .next t ∧ Answered op a s s t status 0 0 0 ∧ Only [.ring, .regs, .held] s t := by
  obtain ⟨t, ht, hanswered, honly, -⟩ := ring_sets_memory (l := [.ring, .regs, .held]) h hb
    (.of h rfl takenBy_regs takenBy_gates rfl) takenBy_regs ((h.taken_unwoken ho).only _ (by intro p; cases p <;> decide)) (by decide)
  exact ⟨t, ht, hanswered, honly⟩

end

/-- Settles O14: the bodies set the list of partitions or refuse, and taking and completing a command leaves it. -/
theorem partitionsAreCreatedAndDestroyed : Obligations.PartitionsAreCreatedAndDestroyed := by
  unfold Obligations.PartitionsAreCreatedAndDestroyed
  refine ⟨?_, ?_⟩
  · intro env a s h hw hweight hn
    have hbody := cmdPartitionCreate_adds (env := env) (b := begunAs 0x08 a s) (u := takenBy 0x08 a s) hw hweight
      ((takenBy_partition? _).trans (partition?_of_unused hn))
    rw [takenBy_rma] at hbody
    exact ring_sets_partitions h (.inl rfl) hbody
  · intro env a s h hw hp
    have hbody := cmdPartitionDestroy_acts (env := env) (b := begunAs 0x09 a s) (u := takenBy 0x09 a s) hw
      (by rw [takenBy_partition?, partition?_of_used hp])
    rw [takenBy_partitionUsed, takenBy_rma] at hbody
    by_cases hused : s.partitionUsed (bits a.w1.toNat 15 0) = true
    · simp only [if_pos hused] at hbody ⊢
      exact ring_refuses_unwoken h (objectOf_partition (.inr rfl)) hbody
    · simp only [if_neg hused] at hbody ⊢
      exact ring_sets_partitions h (.inr rfl) hbody

end Sys2Proof.Machine

namespace Sys2Proof.Machine

/-! ### CMD_ASID_CREATE and CMD_ASID_DESTROY (R134, R136, R164, R186) -/

/-- The address space that CMD_ASID_CREATE describes. -/
def newAsid (a : CmdArgs) : Asid :=
  { asid := bits a.w1.toNat 15 0, mid := a.mid, host := midPort a.mid, levels := bits a.w2.toNat 2 0
    root := at_ 12 (bits a.w2.toNat 51 12), adMode := bits a.w2.toNat 5 4, pkey := bits a.w1.toNat 47 32, group := bits a.w1.toNat 27 16 }

/-- The state with these address spaces. -/
def withAsids (l : List Asid) (s : State) : State := { s with xlt := { s.xlt with asids := l } }

theorem withAsids_within {l : List Asid} {s : State} : Within 0x800000000000000000000000000000 s (withAsids l s) :=
  Within.refl.upd (e := s) rfl rfl rfl rfl rfl rfl rfl rfl

/-- The function may create this address space: its words are in range, the ASID is unused, the partition exists, the root lies outside
device windows, and AtomicOps are enabled where the A/D mode needs them. -/
structure AsidCreatable (a : CmdArgs) (s : State) : Prop where
  words : badWords a [mask 27 0 + mask 47 32, mask 51 12 + mask 5 4 + mask 2 0] = false
  shallow : 3 ≤ bits a.w2.toNat 2 0
  deep : bits a.w2.toNat 2 0 ≤ 5
  mode : bits a.w2.toNat 5 4 ≠ 3
  creator : s.creator a = csOk
  unused : s.asid? (bits a.w1.toNat 15 0) = none
  partition : (s.partition? (bits a.w1.toNat 47 32)).isSome = true
  root : s.deviceWindow (midPort a.mid) (at_ 12 (bits a.w2.toNat 51 12)) = false
  atomic : bits a.w2.toNat 5 4 = 1 → s.atomicOn (midPort a.mid) a.mid = true

/-- What CMD_ASID_DESTROY invalidates: every translation of the address space, with the walk caches (R186). -/
def asidScope (n : Nat) : InvalScope := { kind := 1, asid := n, base := 0, pages := 0, wc := true }

theorem asidScope_covers (n x va size : Nat) : (asidScope n).covers x va size = decide (x = n) := rfl

theorem asidScope_takes (n : Nat) (e : WcEntry) : (asidScope n).takes e = decide (e.asid = n) := rfl

/-- A region or a queue uses the address space (R136). -/
def asidUsed (s : State) (n : Nat) : Bool :=
  s.rma.regions.any (fun r => r.asid == n && r.state != .free) || s.qmg.queues.any (fun q => q.attr.asid == n)

section
variable {op : Nat} {env : CmdEnv} {a : CmdArgs} {b : Begun} {s u : State}

theorem cmdAsidCreate_adds (h : AsidCreatable a u) : cmdAsidCreate env a b u = (.ok, withAsids (u.xlt.asids ++ [newAsid a]) u) := by
  obtain ⟨hwords, hshallow, hdeep, hmode, hcreator, hunused, hpartition, hroot, hatomic⟩ := h
  have hrange : ¬(badWords a [mask 27 0 + mask 47 32, mask 51 12 + mask 5 4 + mask 2 0] = true
      ∨ bits a.w2.toNat 2 0 < 3 ∨ 5 < bits a.w2.toNat 2 0 ∨ bits a.w2.toNat 5 4 = 3) := by
    rw [hwords, Bool.false_eq_true, false_or]
    omega
  have hmemory : ¬(u.deviceWindow (midPort a.mid) (at_ 12 (bits a.w2.toNat 51 12)) = true
      ∨ bits a.w2.toNat 5 4 = 1 ∧ (!u.atomicOn (midPort a.mid) a.mid) = true) := by
    rw [hroot, Bool.false_eq_true, false_or]
    rintro ⟨hone, hoff⟩
    simp [hatomic hone] at hoff
  unfold cmdAsidCreate
  dsimp only
  rw [if_neg hrange, if_neg (not_not.2 hcreator), hunused, if_neg (by decide), if_neg (by simp [Option.isSome_iff_ne_none.1 hpartition]),
    if_neg hmemory]
  rfl

@[simp] theorem takenBy_deviceWindow (host x : Nat) : (takenBy op a s).deviceWindow host x = s.deviceWindow host x := by
  unfold State.deviceWindow State.fld
  simp only [takenBy_raw]

@[simp] theorem takenBy_atomicOn (host mid : Nat) : (takenBy op a s).atomicOn host mid = s.atomicOn host mid := by
  unfold State.atomicOn
  rw [takenBy_raw, takenBy_hif]

theorem AsidCreatable.taken (h : AsidCreatable a s) : AsidCreatable a (takenBy op a s) where
  words := h.words
  shallow := h.shallow
  deep := h.deep
  mode := h.mode
  creator := takenBy_creator.trans h.creator
  unused := (takenBy_asid? _).trans h.unused
  partition := by rw [takenBy_partition?, h.partition]
  root := (takenBy_deviceWindow _ _).trans h.root
  atomic := fun hone => (takenBy_atomicOn _ _).trans (h.atomic hone)

theorem begunIn_xlt : (begunIn op a s).xlt = s.xlt := by
  obtain ⟨y, z, he, -, -⟩ := emit_form ({ s with cmd := { s.cmd with next := s.cmd.next + 1 } } : State)
    (.hostRead s.hif.nextReq (s.fld .cmdRingBase 0 58 56) (s.ringAddr s.cmd.next) 64 false)
  unfold begunIn
  rw [he]

/-- A command on an address space that does not exist wakes no domain. -/
theorem takenBy_of_noAsid (ho : op = 0x0A ∨ op = 0x0B) (h : s.asid? (bits a.w1.toNat 15 0) = none) :
    Within 0x500000000000000000006 s (takenBy op a s) := by
  have hobj : objectOf op a = (3, bits a.w1.toNat 15 0, bits a.w1.toNat 15 0) := by obtain rfl | rfl := ho <;> rfl
  refine takenBy_of_unwoken ?_
  unfold State.asid? at h
  simp [hobj, wakeForCommand, State.asidHost, begunIn_xlt, h]

/-- The command completes with the new address space behind the others, and nothing else changes. -/
theorem asidCreate_completes (h : RingTurn 0x0A a s) (hc : AsidCreatable a s) :
    ∃ t, onRing 0x0A cmdAsidCreate env a s = .next t ∧ Answered 0x0A a s s t csOk 0 0 0 ∧ Only [.ring, .regs, .held, .asids] s t
      ∧ t.xlt.asids = s.xlt.asids ++ [newAsid a] := by
  have hbody := cmdAsidCreate_adds (env := env) (b := begunAs 0x0A a s) (hc.taken (op := 0x0A))
  rw [takenBy_xlt] at hbody
  have hsu : Within 0x800000000500000000000000000006 s (withAsids (s.xlt.asids ++ [newAsid a]) (takenBy 0x0A a s)) :=
    withAsids_within.app rfl ((takenBy_of_noAsid (.inl rfl) hc.unused).weaken rfl)
  obtain ⟨t, ht, hanswered, honly, -, hxlt⟩ := ring_sets_memory (l := [.ring, .regs, .held, .asids]) h hbody
    (.of h rfl takenBy_regs takenBy_gates rfl) takenBy_regs (hsu.only _ (by intro p; cases p <;> decide)) (by decide)
  exact ⟨t, ht, hanswered, honly, congrArg (·.asids) hxlt⟩

/-- The state without an address space and its translations, as CMD_ASID_DESTROY leaves it. -/
def destroyAsid (n : Nat) (s : State) : State :=
  let t := invalResume (asidScope n) (invalApply (asidScope n) (invalWake s))
  withAsids (t.xlt.asids.filter (fun y => y.asid ≠ n)) t

theorem cmdAsidDestroy_acts {x : Asid} (hw : badWords a [mask 15 0] = false) (hx : u.asid? (bits a.w1.toNat 15 0) = some x) (hm : x.mid = a.mid) :
    cmdAsidDestroy env a b u = if asidUsed u (bits a.w1.toNat 15 0) then refuse csBusy u else (.ok, destroyAsid (bits a.w1.toNat 15 0) u) := by
  unfold cmdAsidDestroy
  dsimp only
  rw [hw, if_neg (by decide), hx]
  dsimp only
  rw [mayName_of_eq hm, if_neg (by decide)]
  unfold asidUsed destroyAsid withAsids asidScope
  rfl

theorem takenBy_asidUsed (n : Nat) : asidUsed (takenBy op a s) n = asidUsed s n := by
  unfold asidUsed
  rw [takenBy_rma, takenBy_qmg]

/-- With no ring read and no record write stopped by a fault nothing goes on (R181). -/
theorem invalResume_of_none {c : InvalScope} (h : ∀ q ∈ s.qmg.queues, q.fetch.held = none ∧ q.sink.recHeld = false) : invalResume c s = s := by
  unfold invalResume
  refine List.foldlRecOn (motive := fun t => t = s) _ _ rfl fun t ht q hq => ?_
  obtain ⟨hheld, hrec⟩ := h q hq
  simp [hheld, hrec, ht]

theorem invalApply_invalWake_qmg {c : InvalScope} : (invalApply c (invalWake s)).qmg = s.qmg := by
  have h : (invalWake s).qmg = s.qmg := invalWake_within.keeps_qmg fun _ => rfl
  rw [invalApply, h]

/-- Destroying an address space with no queue stopped by a fault: domains wake, its translations go, and its walks are marked. -/
theorem destroyAsid_within {n : Nat} (h : ∀ q ∈ s.qmg.queues, q.fetch.held = none ∧ q.sink.recHeld = false) :
    Within 0x20000000000007800000100000000000000000000000 s (destroyAsid n s) := by
  rw [destroyAsid, invalResume_of_none (by rwa [invalApply_invalWake_qmg])]
  exact withAsids_within.app rfl (invalApply_within.app rfl (invalWake_within.weaken rfl))

theorem destroyAsid_xlt {n : Nat} (h : ∀ q ∈ s.qmg.queues, q.fetch.held = none ∧ q.sink.recHeld = false) :
    (destroyAsid n s).xlt.asids = s.xlt.asids.filter (fun y => y.asid ≠ n)
      ∧ (destroyAsid n s).xlt.tlb = s.xlt.tlb.filter (fun e => e.asid ≠ n) ∧ (destroyAsid n s).xlt.wc = s.xlt.wc.filter (fun e => e.asid ≠ n) := by
  have hxlt : (invalWake s).xlt = s.xlt := invalWake_within.keeps_xlt fun _ => rfl
  rw [destroyAsid, invalResume_of_none (by rwa [invalApply_invalWake_qmg])]
  simp [withAsids, invalApply, hxlt, asidScope_covers, asidScope_takes]

/-- The command removes the address space with its translations and completes OK. -/
theorem asidDestroy_completes {x : Asid} (h : RingTurn 0x0B a s) (hw : badWords a [mask 15 0] = false)
    (hx : s.asid? (bits a.w1.toNat 15 0) = some x) (hm : x.mid = a.mid) (hf : ∀ q ∈ s.qmg.queues, q.fetch.held = none ∧ q.sink.recHeld = false)
    (hused : asidUsed s (bits a.w1.toNat 15 0) = false) :
    ∃ t, onRing 0x0B cmdAsidDestroy env a s = .next t ∧ Answered 0x0B a s s t csOk 0 0 0
      ∧ Only [.ring, .regs, .held, .asids, .caches, .walks, .power, .counters] s t
      ∧ t.xlt = (destroyAsid (bits a.w1.toNat 15 0) (takenBy 0x0B a s)).xlt := by
  have hbody := cmdAsidDestroy_acts (env := env) (b := begunAs 0x0B a s) (u := takenBy 0x0B a s) hw ((takenBy_asid? (op := 0x0B) _).trans hx) hm
  rw [takenBy_asidUsed, hused, if_neg (by decide)] at hbody
  have hin := destroyAsid_within (n := bits a.w1.toNat 15 0) (s := takenBy 0x0B a s) (by rwa [takenBy_qmg])
  have hsu : Within 0x20000000000007800000100500000000000000000006 s (destroyAsid (bits a.w1.toNat 15 0) (takenBy 0x0B a s)) :=
    hin.app rfl (takenBy_within.weaken rfl)
  have hk : RingKept 0x0B a s (destroyAsid (bits a.w1.toNat 15 0) (takenBy 0x0B a s)) :=
    .of h (hin.keeps_cmd fun _ => rfl) (hsu.keeps_regs rfl) (hsu.keeps_gates rfl) (hin.keeps_out rfl)
  obtain ⟨t, ht, hanswered, honly, -, hxlt⟩ := ring_sets_memory (l := [.ring, .regs, .held, .asids, .caches, .walks, .power, .counters]) h hbody hk
    (hsu.keeps_regs rfl) (hsu.only _ (by intro p; cases p <;> decide)) (by decide)
  exact ⟨t, ht, hanswered, honly, hxlt⟩

end

/-- Settles O15: a created address space stands behind the others; one that is destroyed goes with its translations. -/
theorem addressSpacesAreCreatedAndDestroyed : Obligations.AddressSpacesAreCreatedAndDestroyed := by
  unfold Obligations.AddressSpacesAreCreatedAndDestroyed
  refine ⟨?_, ?_⟩
  · intro env a s f h hw hshallow hdeep hmode hf hd hunused hpartition hroot hatomic
    exact asidCreate_completes h ⟨hw, hshallow, hdeep, hmode, creator_of_func? hf hd, hunused, hpartition, hroot, hatomic⟩
  · intro env a s x h hw hx hm hf
    show ∃ t, exec (.cmdAsidDestroy env a) s = .next t ∧ if asidUsed s (bits a.w1.toNat 15 0) = true then _ else _
    cases hused : asidUsed s (bits a.w1.toNat 15 0) with
    | true =>
      have hbody := cmdAsidDestroy_acts (env := env) (b := begunAs 0x0B a s) (u := takenBy 0x0B a s) hw ((takenBy_asid? (op := 0x0B) _).trans hx) hm
      rw [takenBy_asidUsed, hused, if_pos rfl] at hbody
      exact ring_refuses h hbody
    | false =>
      obtain ⟨t, ht, hanswered, honly, hxlt⟩ := asidDestroy_completes (env := env) h hw hx hm hf hused
      obtain ⟨hasids, htlb, hwc⟩ := destroyAsid_xlt (n := bits a.w1.toNat 15 0) (s := takenBy 0x0B a s) (by rwa [takenBy_qmg])
      rw [takenBy_xlt, ← hxlt] at hasids htlb hwc
      exact ⟨t, ht, hanswered, honly, hasids, htlb, hwc⟩

end Sys2Proof.Machine

namespace Sys2Proof.Machine

/-! ### CMD_REGION_REGISTER (R137-R139, R142) -/

section
variable {s : State} {r : Region} {n m : Nat}

/-- The key that taking an entry returns: its index and its variant. -/
theorem takeIndex_key : (takeIndex n r s).1 = 256 * n + (s.region? n).elim 0 (·.variant) := rfl

theorem takeIndex_regions : (takeIndex n r s).2.rma.regions = s.rma.regions.filter (fun x => x.index ≠ n)
    ++ [{ r with index := n, variant := (s.region? n).elim 0 (·.variant), state := .valid }] := rfl

/-- The entry that was taken holds the region, under the variant it had. -/
theorem takeIndex_region? : (takeIndex n r s).2.region? n
    = some { r with index := n, variant := (s.region? n).elim 0 (·.variant), state := .valid } := by
  rw [State.region?, takeIndex_regions, List.find?_append, List.find?_eq_none.2 fun x hx => by simpa using (List.mem_filter.1 hx).2]
  simp

theorem takeIndex_other (h : m ≠ n) : (takeIndex n r s).2.region? m = s.region? m := by
  have hkept : (fun x : Region => decide (decide (x.index ≠ n) = true ∧ decide (x.index = m) = true)) = fun x => decide (x.index = m) := by
    funext x
    by_cases hx : x.index = m <;> simp [hx, h]
  rw [State.region?, takeIndex_regions, List.find?_append, List.find?_filter, hkept, ← State.region?]
  simp [Ne.symm h]

end

/-- The region that the words of CMD_REGION_REGISTER describe, in an address space, under an index and a variant. -/
def wordsRegion (a : CmdArgs) (x : Asid) (i v : Nat) : Region :=
  { index := i, variant := v, state := .valid, ep := midPort a.mid, mid := a.mid, pkey := x.pkey, group := x.group, asid := x.asid
    base := a.w2.toNat, length := a.w3.toNat, localWrite := bit a.w1.toNat 48, rRead := bit a.w1.toNat 49
    rWrite := bit a.w1.toNat 50, rAtomic := bit a.w1.toNat 51, scopeGroup := bit a.w1.toNat 52, pin := bit a.w1.toNat 53, deregAt := 0 }

/-- The function may register this region under entry n: its words are in range, its address space holds it, and the entry is the one asked
for, which is FREE, or the one FREE longest. -/
structure Registrable (a : CmdArgs) (x : Asid) (n : Nat) (s : State) : Prop where
  words : badWords a [mask 23 0 + mask 53 32, allBits, allBits] = false
  creator : s.creator a = csOk
  asid : s.asid? (bits a.w1.toNat 47 32) = some x
  owner : x.mid = a.mid
  nonempty : 0 < a.w3.toNat
  length : a.w3.toNat ≤ 2 ^ 46
  range : a.w2.toNat + a.w3.toNat ≤ 2 ^ vaBits x.levels
  entry : if bits a.w1.toNat 23 0 = 0 then s.freeIndex = some n
    else n = bits a.w1.toNat 23 0 ∧ n < s.keyringSize ∧ ∀ r, s.region? n = some r → r.state = .free

/-- What a registration that needs its pages waits for: the walk of its pages has started. -/
def startPin (pos : Pos) (r : Region) (s : State) : State :=
  pinGo s.xlt.nextTok
    { s with xlt := { s.xlt with pinned := s.xlt.pinned ++ [(s.xlt.nextTok, pos, r, r.base)], nextTok := s.xlt.nextTok + 1 } }

section
variable {op : Nat} {env : CmdEnv} {a : CmdArgs} {x : Asid} {n : Nat} {s u : State}

theorem Registrable.inRange (h : Registrable a x n s) : ¬(a.w3.toNat = 0 ∨ 2 ^ 46 < a.w3.toNat ∨ 2 ^ vaBits x.levels < a.w2.toNat + a.w3.toNat
    ∨ (bits a.w1.toNat 23 0 ≠ 0 ∧ s.keyringSize ≤ bits a.w1.toNat 23 0)) := by
  have hentry := h.entry
  rintro (hzero | hlong | hover | ⟨hasked, hpast⟩)
  · exact h.nonempty.ne' hzero
  · exact hlong.not_ge h.length
  · exact hover.not_ge h.range
  · rw [if_neg hasked] at hentry
    obtain ⟨rfl, hlt, -⟩ := hentry
    exact hlt.not_ge hpast

theorem Registrable.entryFree (h : Registrable a x n s) :
    ¬(bits a.w1.toNat 23 0 ≠ 0 ∧ (s.region? (bits a.w1.toNat 23 0)).elim false (fun r => r.state != .free) = true) := by
  rintro ⟨hasked, hbusy⟩
  have hentry := h.entry
  rw [if_neg hasked] at hentry
  obtain ⟨rfl, -, hfree⟩ := hentry
  cases hr : s.region? (bits a.w1.toNat 23 0) with
  | none => simp [hr] at hbusy
  | some r => simp [hr, hfree r hr] at hbusy

/-- The entry that the command takes: the one asked for, or the one FREE longest. -/
theorem Registrable.entryTaken (h : Registrable a x n s) :
    (if bits a.w1.toNat 23 0 ≠ 0 then some (bits a.w1.toNat 23 0) else s.freeIndex) = some n := by
  have hentry := h.entry
  by_cases hzero : bits a.w1.toNat 23 0 = 0
  · rwa [if_neg (not_not.2 hzero), ← if_pos (c := bits a.w1.toNat 23 0 = 0) (t := s.freeIndex = some n) hzero]
  · rw [if_neg hzero] at hentry
    rw [if_pos hzero, hentry.1]

theorem cmdRegionRegister_takes (h : Registrable a x n u) :
    cmdRegionRegister env a (begunAs 0x18 a s) u = if bit a.w1.toNat 53 then (.wait, startPin s.cmd.next (wordsRegion a x (bits a.w1.toNat 23 0) 0) u)
      else (.result (takeIndex n (wordsRegion a x (bits a.w1.toNat 23 0) 0) u).1, (takeIndex n (wordsRegion a x (bits a.w1.toNat 23 0) 0) u).2) := by
  unfold cmdRegionRegister
  dsimp only
  rw [h.words, if_neg (by decide), if_neg (not_not.2 h.creator), h.asid]
  dsimp only
  rw [mayName_of_eq h.owner, if_neg (by decide), if_neg h.inRange, if_neg h.entryFree, h.entryTaken]
  rfl

theorem Registrable.taken (h : Registrable a x n s) : Registrable a x n (takenBy op a s) where
  words := h.words
  creator := takenBy_creator.trans h.creator
  asid := (takenBy_asid? _).trans h.asid
  owner := h.owner
  nonempty := h.nonempty
  length := h.length
  range := h.range
  entry := by simpa using h.entry

theorem objectOf_register : (objectOf 0x18 a).1 ∈ [0, 2, 4] := by
  show (if bits a.w1.toNat 23 0 = 0 then ((0, 0, 0) : Nat × Nat × Nat) else _).1 ∈ [0, 2, 4]
  split <;> simp

/-- Without PIN the command completes with the key of the entry it took, and nothing else changes. -/
theorem register_completes (h : RingTurn 0x18 a s) (hr : Registrable a x n s) (hp : bit a.w1.toNat 53 = false) :
    ∃ t, onRing 0x18 cmdRegionRegister env a s = .next t
      ∧ Answered 0x18 a s s t csOk 0 (256 * n + (s.region? n).elim 0 (·.variant)) 0 ∧ Only [.ring, .regs, .held, .regions] s t
      ∧ t.region? n = some (wordsRegion a x n ((s.region? n).elim 0 (·.variant))) ∧ ∀ m, m ≠ n → t.region? m = s.region? m := by
  have hbody := cmdRegionRegister_takes (env := env) (s := s) (hr.taken (op := 0x18))
  rw [hp, if_neg (by decide), takeIndex_key, takenBy_region?] at hbody
  have hsu : Within 0x7000000000000500000000000000000002 s (takeIndex n (wordsRegion a x (bits a.w1.toNat 23 0) 0) (takenBy 0x18 a s)).2 :=
    takeIndex_within.app rfl ((h.taken_unwoken objectOf_register).weaken rfl)
  obtain ⟨t, ht, hanswered, honly, hrma, -⟩ := ring_sets_memory (l := [.ring, .regs, .held, .regions]) h hbody
    (.of h rfl takenBy_regs takenBy_gates rfl) takenBy_regs (hsu.only _ (by intro p; cases p <;> decide)) (by decide)
  have hregion (m : Nat) : t.region? m = (takeIndex n (wordsRegion a x (bits a.w1.toNat 23 0) 0) (takenBy 0x18 a s)).2.region? m := by
    rw [State.region?, hrma, ← State.region?]
  refine ⟨t, ht, hanswered, honly, ?_, fun m hm => ?_⟩
  · rw [hregion, takeIndex_region?, takenBy_region?]
    rfl
  · rw [hregion, takeIndex_other hm, takenBy_region?]

end

/-- Settles O25: the body takes the entry, or with PIN starts the walk of the region's pages. -/
theorem regionRegisterTakesFreeEntry : Obligations.RegionRegisterTakesFreeEntry := by
  unfold Obligations.RegionRegisterTakesFreeEntry
  intro env a s x n h hw hcreator hx hm hnonempty hlength hrange hentry v reg
  have hr : Registrable a x n s := ⟨hw, hcreator, hx, hm, hnonempty, hlength, hrange, hentry⟩
  refine ⟨fun hp => register_completes h hr hp, fun hp => ?_⟩
  have hbody := cmdRegionRegister_takes (env := env) (s := s) (hr.taken (op := 0x18))
  rw [hp, if_pos rfl] at hbody
  refine (ring_wait h hbody).trans ?_
  rw [startPin, takenBy_xlt]
  rfl

end Sys2Proof.Machine

namespace Sys2Proof.Machine

/-! ### CMD_REGION_DEREGISTER (R138, R143) -/

section
variable {s t : State} {r : Region} {i m : Nat}

theorem index_of_region? (h : s.region? i = some r) : r.index = i := by
  simpa using List.find?_some h

/-- Whether an accepted operation references an entry does not rest on the keyring. -/
theorem regionUsed_congr (ht : t.rma.targets = s.rma.targets) (hpeers : t.trn = s.trn) (hjobs : t.qmg.jobs = s.qmg.jobs) (hheld : t.heldOut = s.heldOut) :
    t.regionUsed i = s.regionUsed i := by
  unfold State.regionUsed State.resendsFrom
  rw [ht, hpeers, hjobs, hheld]

theorem region?_updRegion {f : Region → Region} (hf : ∀ x, (f x).index = x.index) :
    (updRegion i f s).region? m = (s.region? m).map (fun x => if x.index = i then f x else x) := by
  unfold State.region? updRegion
  dsimp only
  rw [updAll_eq_map, List.find?_map]
  congr 1
  · funext x
    simp
  · congr 1
    funext x
    dsimp only [Function.comp_apply]
    split <;> simp [hf]

theorem region?_updRegion_same {f : Region → Region} (hf : ∀ x, (f x).index = x.index) (h : s.region? i = some r) :
    (updRegion i f s).region? i = some (f r) := by
  rw [region?_updRegion hf, h]
  simp [index_of_region? h]

theorem region?_updRegion_other {f : Region → Region} (hf : ∀ x, (f x).index = x.index) (hm : m ≠ i) :
    (updRegion i f s).region? m = s.region? m := by
  rw [region?_updRegion hf]
  cases h : s.region? m with
  | none => rfl
  | some x => simp [index_of_region? h, hm]

/-- The regions of a state that may be freed: in DRAINING, and referenced by nothing. -/
def freeable (s : State) : List Region := (s.rma.regions.filter (fun r => r.state == .draining)).filter (fun r => !s.regionUsed r.index)

theorem regionsSettle_eq (s : State) : regionsSettle s = (freeable s).foldl (fun s r => freeRegion r.index s) s := rfl

end

section
variable {env : CmdEnv} {a : CmdArgs} {b : Begun} {s u : State} {r : Region}

/-- The state in which a region has been deregistered, before anything that drains is freed. -/
def withLeft (r : Region) (s : State) : State := updRegion r.index (fun r => r.leave s.clk.now) s

theorem withLeft_within : Within 0x1000000000000000000000000000000000 s (withLeft r s) :=
  Within.refl.upd (e := s) rfl rfl rfl rfl rfl rfl rfl rfl

theorem bits_split (n : Nat) : bits n 31 0 / 256 = bits n 31 8 ∧ bits n 31 0 % 256 = bits n 7 0 := by
  simp only [bits]
  omega

theorem cmdRegionDeregister_leaves (hw : badWords a [mask 31 0] = false) (hr : u.region? (bits a.w1.toNat 31 8) = some r) (hs : r.state = .valid)
    (hv : r.variant = bits a.w1.toNat 7 0) (hm : r.mid = a.mid) : cmdRegionDeregister env a b u = (.wait, regionsSettle (withLeft r u)) := by
  obtain ⟨hindex, hvariant⟩ := bits_split a.w1.toNat
  unfold cmdRegionDeregister
  dsimp only
  rw [hw, if_neg (by decide), hindex, hvariant, hr]
  dsimp only
  rw [if_neg (by simp [hs, hv]), mayName_of_eq hm, if_neg (by decide)]
  rfl

theorem withLeft_regionUsed (i : Nat) : (withLeft r s).regionUsed i = s.regionUsed i := regionUsed_congr rfl rfl rfl rfl

/-- At its turn the command puts its read out, so that no operation's use of a region changes. -/
theorem RingTurn.taken_regionUsed {op : Nat} (h : RingTurn op a s) (i : Nat) : (takenBy op a s).regionUsed i = s.regionUsed i :=
  regionUsed_congr (by rw [takenBy_rma]) takenBy_trn (by rw [takenBy_qmg]) (h.taken_within.keeps_heldOut rfl)

/-- While everything that drains is referenced nothing is freed. -/
theorem regionsSettle_of_used (h : ∀ x ∈ s.rma.regions, x.state = .draining → s.regionUsed x.index = true) : regionsSettle s = s := by
  have hnone : freeable s = [] := by
    simp only [freeable, List.filter_eq_nil_iff, List.mem_filter, beq_iff_eq]
    rintro x ⟨hx, hd⟩
    simp [h x hx hd]
  rw [regionsSettle_eq, hnone]
  rfl

/-- The only match in a list is the one that is found first. -/
theorem filter_of_single {α : Type} {p : α → Bool} {l : List α} {x : α} (hlen : (l.filter p).length = 1) (hx : l.find? p = some x) :
    l.filter p = [x] := by
  obtain ⟨y, hy⟩ := List.length_eq_one_iff.1 hlen
  rw [← List.head?_filter, hy] at hx
  rw [hy, Option.some.inj hx]

/-- With nothing else in DRAINING, the region that leaves and is referenced by nothing is the only one to be freed. -/
theorem freeable_withLeft (hr : s.region? r.index = some r) (hn : ∀ x ∈ s.rma.regions, x.state ≠ .draining)
    (hone : (s.rma.regions.filter (fun x => x.index = r.index)).length = 1) (hu : s.regionUsed r.index = false) :
    freeable (withLeft r s) = [r.leave s.clk.now] := by
  have hdraining : (withLeft r s).rma.regions.filter (fun x => x.state == .draining) = [r.leave s.clk.now] := by
    show (updAll (fun x => x.index = r.index) (fun x => x.leave s.clk.now) s.rma.regions).filter _ = _
    have hmatch : ∀ x ∈ s.rma.regions, ((fun x => x.state == KeyState.draining) ∘ fun x : Region =>
        if decide (x.index = r.index) = true then x.leave s.clk.now else x) x = decide (x.index = r.index) := by
      intro x hx
      by_cases hi : x.index = r.index
      · simp [hi, Region.leave]
      · simp [hi, hn x hx]
    rw [updAll_eq_map, List.filter_map, List.filter_congr hmatch, filter_of_single hone hr]
    simp
  have hkept : (withLeft r s).regionUsed (r.leave s.clk.now).index = false := by
    rw [withLeft_regionUsed]
    exact hu
  rw [freeable, hdraining]
  simp [hkept]

/-- The state in which an entry in DRAINING has become FREE, last in line. -/
def withFreed (i : Nat) (s : State) : State :=
  let t := updRegion i (fun r => { r with state := .free }) s
  { t with rma := { t.rma with freed := t.rma.freed ++ [i] } }

theorem freeRegion_eq (i : Nat) : freeRegion i s = completeWhere (isDeregOf i) csOk 0 0 0 (withFreed i s) := rfl

theorem withFreed_within {i : Nat} : Within 0x5000000000000000000000000000000000 s (withFreed i s) :=
  Within.refl.upd (e := s) rfl rfl rfl rfl rfl rfl rfl rfl

theorem withFreed_region? {i m : Nat} : (withFreed i s).region? m = (updRegion i (fun r => { r with state := .free }) s).region? m := rfl

/-- The state that the command completes in: the entry is FREE under a new variant. -/
def deregistered (r : Region) (s : State) : State := withFreed r.index (withLeft r s)

theorem deregistered_cmd : (deregistered r s).cmd = s.cmd := rfl

theorem deregistered_regs : (deregistered r s).regs = s.regs := rfl

theorem deregistered_gates : (deregistered r s).gates = s.gates := rfl

theorem deregistered_out : (deregistered r s).out = s.out := rfl

theorem deregistered_freed : (deregistered r s).rma.freed = s.rma.freed ++ [r.index] := rfl

theorem deregistered_region? (hr : s.region? r.index = some r) :
    (deregistered r s).region? r.index = some { r.leave s.clk.now with state := .free } := by
  have hleft : (withLeft r s).region? r.index = some (r.leave s.clk.now) :=
    region?_updRegion_same (f := fun r => r.leave s.clk.now) (fun _ => rfl) hr
  rw [deregistered, withFreed_region?, region?_updRegion_same (by exact fun _ => rfl) hleft]

theorem deregistered_other {m : Nat} (hm : m ≠ r.index) : (deregistered r s).region? m = s.region? m := by
  rw [deregistered, withFreed_region?, region?_updRegion_other (by exact fun _ => rfl) hm, withLeft, region?_updRegion_other (by exact fun _ => rfl) hm]

/-- At its turn the command is the one in progress that waits for its entry. -/
theorem RingTurn.isDeregOf_self (h : RingTurn 0x19 a s) :
    isDeregOf (bits a.w1.toNat 31 8) (begunAs 0x19 a s) = true ∧ ∀ b ∈ s.cmd.begun, isDeregOf (bits a.w1.toNat 31 8) b = false := by
  have hobj : objectOf 0x19 a = (2, bits a.w1.toNat 31 8, bits a.w1.toNat 31 8) := rfl
  refine ⟨by simp [isDeregOf, begunAs, hobj], fun b hb => ?_⟩
  have hother := h.other_objects b hb
  rw [hobj] at hother
  unfold isDeregOf
  by_contra hne
  rw [Bool.not_eq_false, Bool.and_eq_true, decide_eq_true_eq] at hne
  rw [hne.2] at hother
  simp [sameObj] at hother

theorem objectOf_deregister : (objectOf 0x19 a).1 ∈ [0, 2, 4] := List.mem_of_elem_eq_true rfl

/-- With nothing that references the entry it is FREE, and the command completes. -/
theorem deregister_completes (h : RingTurn 0x19 a s) (hw : badWords a [mask 31 0] = false) (hr : s.region? (bits a.w1.toNat 31 8) = some r)
    (hs : r.state = .valid) (hv : r.variant = bits a.w1.toNat 7 0) (hm : r.mid = a.mid) (hu : s.regionUsed r.index = false)
    (hn : ∀ x ∈ s.rma.regions, x.state ≠ .draining) (hone : (s.rma.regions.filter (fun x => x.index = r.index)).length = 1) :
    ∃ t, onRing 0x19 cmdRegionDeregister env a s = .next t ∧ Answered 0x19 a s s t csOk 0 0 0 ∧ Only [.ring, .regs, .held, .regions] s t
      ∧ t.rma = (deregistered r (takenBy 0x19 a s)).rma := by
  have hi : r.index = bits a.w1.toNat 31 8 := index_of_region? hr
  rw [← hi] at hr
  have hk : RingKept 0x19 a s (deregistered r (takenBy 0x19 a s)) :=
    .of h deregistered_cmd (deregistered_regs.trans takenBy_regs) (deregistered_gates.trans takenBy_gates) deregistered_out
  obtain ⟨hmine, hothers⟩ := h.isDeregOf_self
  rw [← hi] at hmine hothers
  have hbody : regionsSettle (withLeft r (takenBy 0x19 a s)) = completeCmd (begunAs 0x19 a s) csOk 0 0 0 (deregistered r (takenBy 0x19 a s)) := by
    rw [regionsSettle_eq, freeable_withLeft (by simpa using hr) (by simpa using hn) (by simpa using hone) (by rwa [h.taken_regionUsed])]
    show freeRegion r.index _ = _
    rw [freeRegion_eq]
    exact completeWhere_begun hk.cmd.2.1 hmine hothers
  have hsu : Within 0x5000000000000500000000000000000002 s (deregistered r (takenBy 0x19 a s)) :=
    withFreed_within.app rfl (withLeft_within.app rfl ((h.taken_unwoken objectOf_deregister).weaken rfl))
  obtain ⟨hanswered, honly, -⟩ := completeCmd_leaves (status := csOk) (detail := 0) (r0 := 0) (r1 := 0) (l := [.ring, .regs, .held, .regions]) h hk
    (hsu.only _ (by intro p; cases p <;> decide)) (by decide)
  refine ⟨_, ?_, hanswered.congr (deregistered_regs.trans takenBy_regs).symm, honly, (completeCmd_memory h hk).1⟩
  rw [ring_wait h (cmdRegionDeregister_leaves hw (by simpa [hi] using hr) hs hv hm), hbody]

/-- While something references the entry it drains, and the command is in progress. -/
theorem deregister_waits (h : RingTurn 0x19 a s) (hw : badWords a [mask 31 0] = false) (hr : s.region? (bits a.w1.toNat 31 8) = some r)
    (hs : r.state = .valid) (hv : r.variant = bits a.w1.toNat 7 0) (hm : r.mid = a.mid) (hu : s.regionUsed r.index = true)
    (hall : ∀ x ∈ s.rma.regions, x.state = .draining → s.regionUsed x.index = true) :
    onRing 0x19 cmdRegionDeregister env a s = .next (withLeft r (takenBy 0x19 a s)) := by
  have hused : ∀ x ∈ (withLeft r (takenBy 0x19 a s)).rma.regions, x.state = .draining → (withLeft r (takenBy 0x19 a s)).regionUsed x.index = true := by
    intro x hx hd
    rw [withLeft_regionUsed, h.taken_regionUsed]
    have hx' : x ∈ updAll (fun y => y.index = r.index) (fun y => y.leave (takenBy 0x19 a s).clk.now) (takenBy 0x19 a s).rma.regions := hx
    rw [updAll_eq_map, takenBy_rma] at hx'
    obtain ⟨y, hy, rfl⟩ := List.mem_map.1 hx'
    by_cases hi : y.index = r.index
    · simpa [hi, Region.leave] using hu
    · simp only [hi, decide_false, Bool.false_eq_true, if_false] at hd ⊢
      exact hall y hy hd
  rw [ring_wait h (cmdRegionDeregister_leaves hw ((takenBy_region? _).trans hr) hs hv hm), regionsSettle_of_used hused]

end

/-- Settles O26: the body moves the entry to DRAINING, and `regionsSettle` frees it at once where nothing references it. -/
theorem regionDeregisterStalesKeys : Obligations.RegionDeregisterStalesKeys := by
  unfold Obligations.RegionDeregisterStalesKeys
  intro env a s r h hw hr hs hv hm
  have hr' : s.region? r.index = some r := by rwa [index_of_region? hr]
  have htaken : (takenBy 0x19 a s).region? r.index = some r := (takenBy_region? _).trans hr'
  refine ⟨fun hu hall => ?_, fun hu hn hone => ?_⟩
  · have hsu : Within 0x1000000000000500000000000000000002 s (withLeft r (takenBy 0x19 a s)) :=
      withLeft_within.app rfl ((h.taken_unwoken objectOf_deregister).weaken rfl)
    refine ⟨_, deregister_waits h hw hr hs hv hm hu hall, ?_, hsu.only _ (by intro p; cases p <;> decide), ?_, fun m hm' => ?_⟩
    · show InProgress 0x19 a s (takenBy 0x19 a s)
      rw [InProgress, (takenBy_keeps 0x19 a s).1]
      exact ⟨rfl, rfl, rfl⟩
    · rw [withLeft, takenBy_now, region?_updRegion_same (by exact fun _ => rfl) htaken]
    · rw [withLeft, region?_updRegion_other (by exact fun _ => rfl) hm', takenBy_region?]
  · obtain ⟨t, ht, hanswered, honly, hrma⟩ := deregister_completes (env := env) h hw hr hs hv hm hu hn hone
    have hregion (m : Nat) : t.region? m = (deregistered r (takenBy 0x19 a s)).region? m := by
      rw [State.region?, hrma, ← State.region?]
    refine ⟨t, ht, hanswered, honly, ?_, ?_, fun m hm' => ?_⟩
    · rw [hregion, deregistered_region? htaken, takenBy_now]
    · rw [hrma, deregistered_freed, takenBy_rma]
    · rw [hregion, deregistered_other hm', takenBy_region?]

end Sys2Proof.Machine

namespace Sys2Proof.Machine

/-! ### ETHERNET_FRAME_TRANSMIT on a die that forwards nothing (R361, R432)

O55 asks of a service port only that it is in service. The row that sends its next frame also asks that its core die forwards: a die with a
failed PLL forwards nothing until a warm reset (R432), whatever the state of its ports. -/

/-- A frame without bytes, queued at priority 7. -/
def queuedFrame : QEntry := entry0 1
  { dst := 0, src := 0, vc := 7, tc := 3, pin := false, salt := 0, detoured := 0, ce := false, mcast := false, mdim := 0, mtype := 0, hops := 0, len := 0
    retx := false, pkey := none, body := .frame [] }

/-- A running state with a failed PLL of core die 0, whose service port 0 is in service and has a frame to send. -/
def stoppedWithFrame : State :=
  { State.reset with
    sys := { State.reset.sys with stage := .run }
    clk := { State.reset.clk with monitors := [{ src := 2, state := 3, ppm := 0, since := 0 }] }
    bank0 := [(regAddr .llrCtrl 0 0, word 2)]
    fab := { State.reset.fab with
      ports := [{ Port.reset 0 with state := .up }]
      egress := [{ out := .port 0, q := [queuedFrame], deficit := [0, 0, 0], visited := [false, false, false], cur := 2 }] } }

theorem fabRunning_stoppedWithFrame : stoppedWithFrame.fabRunning = true := rfl

theorem dieStopped_stoppedWithFrame : stoppedWithFrame.dieStopped 0 = true := rfl

theorem ethUp_stoppedWithFrame : stoppedWithFrame.ethUp 0 = true := by decide

theorem ethNext_stoppedWithFrame : ethNext (noteStalls (.port 0) stoppedWithFrame) 0 = some queuedFrame := by decide

section
variable {n : Nat} {s : State}

/-- A port of a die that forwards nothing sends no frame. -/
theorem execEthernetFrameTransmit_of_dieStopped (hn : n < 128) (h : s.dieStopped (n / 16 / 4) = true) : execEthernetFrameTransmit n s = .next s := by
  rw [execEthernetFrameTransmit, onInstance, instOf_of_lt hn, whenForwarding, if_pos h]

/-- Emitting an Ethernet frame puts it out, whatever host ports hold. -/
theorem emit_ether_out {v : Nat} {b : List Byte} : (s.emit (.ether n v b)).out = s.out ++ [.ether n v b] := by
  rw [emit_of_goes rfl]

/-- What O55 says that the row leaves has put one more thing out. -/
theorem sent_out_length {d p dir pid vc v a i j : Nat} {o o' : Output} {e : QEntry} {b : List Byte} {q : SwPkt} :
    s.out.length < (fabSettle (dropEntry o e (mirrorCopies p dir pid q
      ((((noteStart d (noteStalls o' s)).emit (.ether n vc b)).count v a).count i j)))).out.length := by
  have hbefore : s.out <+: (noteStart d (noteStalls o' s)).out := noteStalls_within.out.trans noteStart_within.out
  generalize noteStart d (noteStalls o' s) = u at hbefore ⊢
  have hafter : (u.emit (.ether n vc b)).out <+: (fabSettle (dropEntry o e (mirrorCopies p dir pid q
      (((u.emit (.ether n vc b)).count v a).count i j)))).out :=
    (((State.count_within.out.trans State.count_within.out).trans mirrorCopies_within.out).trans dropEntry_within.out).trans fabSettle_within.out
  have hlen := hafter.length_le
  rw [emit_ether_out, List.length_append, List.length_singleton] at hlen
  exact Nat.lt_of_le_of_lt hbefore.length_le hlen

end

/-- Refutes O55: port 0 of a core die whose PLL has failed is in service and has a frame to send, but the row changes nothing. -/
theorem not_ethernetPortsWork : ¬ Obligations.EthernetPortsWork := by
  unfold Obligations.EthernetPortsWork
  intro h
  obtain ⟨-, hsend, -⟩ := h.1 0 stoppedWithFrame (by decide) fabRunning_stoppedWithFrame ethUp_stoppedWithFrame
  have hsent := hsend queuedFrame [] ethNext_stoppedWithFrame rfl rfl rfl
  have hkept : exec (.ethernetFrameTransmit 0) stoppedWithFrame = .next stoppedWithFrame :=
    execEthernetFrameTransmit_of_dieStopped (by decide) dieStopped_stoppedWithFrame
  have hsame := Host.Outcome.next.inj (hkept.symm.trans hsent)
  exact absurd (congrArg (fun t : State => t.out.length) hsame) (Nat.ne_of_lt sent_out_length)

end Sys2Proof.Machine

namespace Sys2Proof.Machine

/-! ### Domains that an invalidation wakes (R183, R406, R409, R411) -/

/-- Requests to the power unit that leave the domains and withdraw no operation. -/
structure KeepsLeave (s t : State) : Prop where
  domains : t.fab.pwr.domains = s.fab.pwr.domains
  ops : s.fab.pwr.reqs.map (·.op) ⊆ t.fab.pwr.reqs.map (·.op)

theorem KeepsLeave.refl {s : State} : KeepsLeave s s := ⟨rfl, List.Subset.refl _⟩

theorem KeepsLeave.trans {s t u : State} (h : KeepsLeave s t) (k : KeepsLeave t u) : KeepsLeave s u :=
  ⟨k.domains.trans h.domains, List.Subset.trans h.ops k.ops⟩

/-- A change outside the power unit, and requests to it. -/
theorem KeepsLeave.of_pwr {s t u : State} (h : t.fab.pwr = s.fab.pwr) (k : KeepsLeave t u) : KeepsLeave s u :=
  ⟨h ▸ k.domains, h ▸ k.ops⟩

theorem KeepsLeave.domain? {s t : State} (h : KeepsLeave s t) (n : Nat) : t.domain? n = s.domain? n := by
  rw [State.domain?, h.domains, State.domain?]

theorem KeepsLeave.sleeps {s t : State} (h : KeepsLeave s t) : t.sleeps = s.sleeps := by
  funext n
  rw [State.sleeps, h.domains, State.sleeps]

/-- The exit of a domain has been asked for or is under way, or the domain needs none. -/
def Woken (d : Nat) (s : State) : Prop :=
  (∃ r ∈ s.fab.pwr.reqs, r.op = .exit d) ∨ ∃ x, s.domain? d = some x ∧ (x.state = .on ∨ x.state = .off ∨ x.exiting.isSome = true)

theorem Woken.mono {d : Nat} {s t : State} (h : KeepsLeave s t) : Woken d s → Woken d t
  | .inl ⟨r, hr, hop⟩ => by
    obtain ⟨q, hq, hqop⟩ := List.mem_map.1 (h.ops (List.mem_map_of_mem hr))
    exact .inl ⟨q, hq, hqop.trans hop⟩
  | .inr hx => .inr (by rwa [h.domain?])

/-- A domain that sleeps is listed. -/
theorem domain?_of_sleeps {n : Nat} {s : State} (h : s.sleeps n = true) : (s.domain? n).isSome = true := by
  obtain ⟨d, hd, hboth⟩ := List.any_eq_true.1 h
  obtain ⟨hn, -⟩ := Bool.and_eq_true_iff.1 hboth
  exact List.find?_isSome.2 ⟨d, hd, hn⟩

section
variable {n prio : Nat} {r : LeaveReq} {s : State}

/-- Requests that change and keep their operations. -/
theorem map_op_subset {l m : List LeaveReq} (h : m.map (·.op) = l.map (·.op)) : l.map (·.op) ⊆ m.map (·.op) := by
  rw [h]
  exact List.Subset.refl _

theorem noticeCheck_keepsLeave : KeepsLeave s (noticeCheck s) := by
  unfold noticeCheck
  split
  · exact .refl
  · dsimp only
    split
    · exact .refl
    · exact ⟨rfl, List.Subset.refl _⟩

/-- Requests keep their operations while the times that they are held are brought up to date. -/
theorem updHolds_keepsLeave : KeepsLeave s (updHolds s) := by
  refine KeepsLeave.trans ?_ noticeCheck_keepsLeave
  refine ⟨rfl, map_op_subset ?_⟩
  simp only [updPwr, List.map_map]
  refine List.map_congr_left fun r _ => ?_
  dsimp only [Function.comp_apply]
  split <;> rfl

theorem enqueueReq_keepsLeave : KeepsLeave s (enqueueReq r s) := by
  refine KeepsLeave.trans ?_ updHolds_keepsLeave
  exact ⟨rfl, List.map_subset _ (List.subset_append_left _ _)⟩

theorem enqueueReq_op : r.op ∈ (enqueueReq r s).fab.pwr.reqs.map (·.op) :=
  updHolds_keepsLeave.ops (List.mem_map_of_mem (List.mem_append_right _ (List.mem_singleton_self r)))

theorem askExit_keepsLeave : KeepsLeave s (askExit n prio s) := by
  unfold askExit
  split
  · exact .refl
  · split
    · exact .refl
    · split
      · refine KeepsLeave.trans ?_ updHolds_keepsLeave
        exact ⟨rfl, map_op_subset (map_updAll_of_kept (by intro; rfl) _)⟩
      · exact enqueueReq_keepsLeave

/-- After it is asked to leave its state a domain is on its way, or ON. -/
theorem askExit_woken (h : (s.domain? n).isSome = true) : Woken n (askExit n prio s) := by
  obtain ⟨d, hd⟩ := Option.isSome_iff_exists.1 h
  by_cases hgoes : d.state = .on ∨ d.exiting.isSome = true
  · exact Woken.mono askExit_keepsLeave (.inr ⟨d, hd, hgoes.imp_right .inr⟩)
  · by_cases hreq : s.fab.pwr.reqs.any (fun r => r.op = .exit n) = true
    · refine Woken.mono askExit_keepsLeave (.inl ?_)
      simpa using hreq
    · have hasked : askExit n prio s = enqueueReq (leaveReq (.exit n) prio (exitStep d.state) s) s := by
        unfold askExit
        rw [hd]
        dsimp only
        rw [if_neg hgoes, if_neg hreq]
      rw [hasked]
      exact .inl (List.mem_map.1 (enqueueReq_op (r := leaveReq (.exit n) prio (exitStep d.state) s)))

/-- Waking a domain does nothing, or counts the exit or does not, and asks for it. -/
theorem wakeDomain_cases (n : Nat) (s : State) :
    (wakeDomain n s = s ∧ ((s.domain? n).isSome = true → Woken n s))
      ∨ wakeDomain n s = askExit n 1 s ∨ wakeDomain n s = askExit n 1 (s.count 52 1) := by
  unfold wakeDomain
  cases hd : s.domain? n with
  | none => exact .inl ⟨rfl, fun h => nomatch h⟩
  | some d =>
    dsimp only
    split
    next hgoes => exact .inl ⟨rfl, fun _ => .inr ⟨d, hd, hgoes⟩⟩
    · split
      · exact .inr (.inl rfl)
      · exact .inr (.inr rfl)

theorem wakeDomain_keepsLeave : KeepsLeave s (wakeDomain n s) := by
  obtain ⟨h, -⟩ | h | h := wakeDomain_cases n s
  · exact h.symm ▸ .refl
  · exact h ▸ askExit_keepsLeave
  · exact h ▸ KeepsLeave.of_pwr (t := s.count 52 1) rfl askExit_keepsLeave

theorem wakeDomain_woken (hd : (s.domain? n).isSome = true) : Woken n (wakeDomain n s) := by
  obtain ⟨h, hwoken⟩ | h | h := wakeDomain_cases n s
  · exact h.symm ▸ hwoken hd
  · exact h ▸ askExit_woken hd
  · exact h ▸ askExit_woken (s := s.count 52 1) hd

/-- Waking the domain of an object that may not exist. -/
theorem wakeDomainOf_keepsLeave {α : Type} (o : Option α) (domain : α → Nat) : KeepsLeave s (o.elim s (fun x => wakeDomain (domain x) s)) := by
  cases o with
  | none => exact .refl
  | some x => exact wakeDomain_keepsLeave

theorem wakeForCommand_keepsLeave {obj : Nat × Nat × Nat} : KeepsLeave s (wakeForCommand obj s) := by
  unfold wakeForCommand
  split
  · exact wakeDomainOf_keepsLeave _ _
  split
  · exact wakeDomainOf_keepsLeave _ _
  split
  · exact wakeDomainOf_keepsLeave _ _
  split
  · exact wakeDomainOf_keepsLeave _ _
  · exact .refl

theorem wakeAll_keepsLeave (l : List Nat) (s : State) : KeepsLeave s (l.foldl (fun s d => wakeDomain d s) s) := by
  induction l generalizing s with
  | nil => exact .refl
  | cons d l ih => exact wakeDomain_keepsLeave.trans (ih _)

/-- What wakes one domain after the other wakes each that is listed. -/
theorem wakeAll_woken {l : List Nat} (hn : n ∈ l) (hd : (s.domain? n).isSome = true) : Woken n (l.foldl (fun s d => wakeDomain d s) s) := by
  induction l generalizing s with
  | nil => exact nomatch hn
  | cons d l ih =>
    obtain rfl | hn := List.mem_cons.1 hn
    · exact (wakeDomain_woken hd).mono (wakeAll_keepsLeave l _)
    · exact ih hn (by rwa [wakeDomain_keepsLeave.domain?])

theorem invalWake_keepsLeave : KeepsLeave s (invalWake s) := wakeAll_keepsLeave _ _

theorem invalWake_woken (hn : n ∈ xltDomains) (h : s.sleeps n = true) : Woken n (invalWake s) :=
  wakeAll_woken hn (domain?_of_sleeps h)

@[simp] theorem invalWake_xlt : (invalWake s).xlt = s.xlt := invalWake_within.keeps_xlt fun _ => rfl

@[simp] theorem invalWake_qmg : (invalWake s).qmg = s.qmg := invalWake_within.keeps_qmg fun _ => rfl

theorem begunIn_fab {op : Nat} {a : CmdArgs} : (begunIn op a s).fab = s.fab := by
  obtain ⟨y, z, he, -, -⟩ := emit_form ({ s with cmd := { s.cmd with next := s.cmd.next + 1 } } : State)
    (.hostRead s.hif.nextReq (s.fld .cmdRingBase 0 58 56) (s.ringAddr s.cmd.next) 64 false)
  unfold begunIn
  rw [he]

/-- Taking a command leaves the domains and withdraws no request. -/
theorem takenBy_keepsLeave {op : Nat} {a : CmdArgs} : KeepsLeave s (takenBy op a s) := by
  rw [takenBy_eq]
  exact .of_pwr (by rw [begunIn_fab]) wakeForCommand_keepsLeave

end

end Sys2Proof.Machine

namespace Sys2Proof.Machine

/-! ### CMD_XLT_INVAL (R182, R183, R185, R409) -/

/-- What CMD_XLT_INVAL invalidates, as its words name it. -/
def wordsScope (a : CmdArgs) : InvalScope :=
  { kind := bits a.w1.toNat 17 16, asid := bits a.w1.toNat 15 0, base := a.w2.toNat, pages := a.w3.toNat, wc := bit a.w1.toNat 18 }

/-- An invalidation under the next identifier: whether it had to wait, has started, and has had its entries removed. -/
def newInval (chan : Channel) (c : InvalScope) (waited started applied : Bool) (s : State) : Inval :=
  { id := s.xlt.nextInval, chan := chan, scope := c, started := started, waited := waited, applied := applied, acked := false }

/-- The state with these invalidations. -/
def withInvals (l : List Inval) (s : State) : State := { s with xlt := { s.xlt with invals := l } }

/-- The state with one more invalidation, and its identifier used. -/
def withInval (i : Inval) (s : State) : State :=
  { s with xlt := { s.xlt with invals := s.xlt.invals ++ [i], nextInval := s.xlt.nextInval + 1 } }

/-- The scope that the words name is one that the function may invalidate: a range of at most 2^45 pages of an address space, one of its
address spaces, or all. -/
structure Invalidatable (a : CmdArgs) (s : State) : Prop where
  words : badWords a [mask 18 0, allBits, allBits] = false
  kind : bits a.w1.toNat 17 16 ≠ 3
  range : bits a.w1.toNat 17 16 = 0 → a.w2.toNat % 4096 = 0 ∧ a.w3.toNat ≠ 0 ∧ a.w3.toNat ≤ 2 ^ 45
  owner : bits a.w1.toNat 17 16 ≠ 2 → ∃ x, s.asid? (bits a.w1.toNat 15 0) = some x ∧ x.mid = a.mid

/-- The invalidations in progress have all started and are applied, and the next identifier is above theirs. -/
def InvalsApplied (s : State) : Prop := ∀ i ∈ s.xlt.invals, i.started = true ∧ i.applied = true ∧ i.id < s.xlt.nextInval

section
variable {env : CmdEnv} {a : CmdArgs} {b : Begun} {chan : Channel} {c : InvalScope} {s u : State}

theorem Invalidatable.taken {op : Nat} (h : Invalidatable a s) : Invalidatable a (takenBy op a s) :=
  ⟨h.words, h.kind, h.range, by simpa using h.owner⟩

/-- A scope that the function may invalidate: the command waits for its invalidation. -/
theorem cmdXltInval_asks (h : Invalidatable a u) : cmdXltInval env a b u = (.wait, invalAsk b.chan (wordsScope a) u) := by
  obtain ⟨hwords, hkind, hrange, howner⟩ := h
  have hfits : ¬(bits a.w1.toNat 17 16 = 0 ∧ (a.w2.toNat % 4096 ≠ 0 ∨ a.w3.toNat = 0 ∨ 2 ^ 45 < a.w3.toNat)) := by
    rintro ⟨hzero, hbad⟩
    obtain ⟨halign, hsome, hmost⟩ := hrange hzero
    omega
  unfold cmdXltInval
  dsimp only
  rw [if_neg (by simp [hwords, hkind]), if_neg hfits]
  split
  · rfl
  next hall =>
    obtain ⟨x, hx, hm⟩ := howner hall
    rw [hx]
    dsimp only
    rw [mayName_of_eq hm, if_pos rfl]
    rfl

/-- A change of the newest invalidation leaves the others. -/
theorem updAll_newest {i : Inval} {f : Inval → Inval} (h : InvalsApplied s) (hi : i.id = s.xlt.nextInval) :
    updAll (fun x => x.id = i.id) f (s.xlt.invals ++ [i]) = s.xlt.invals ++ [f i] := by
  have hothers : s.xlt.invals.map (fun x => if decide (x.id = i.id) = true then f x else x) = s.xlt.invals.map id := by
    refine List.map_congr_left fun x hx => ?_
    obtain ⟨-, -, hlt⟩ := h x hx
    rw [hi, if_neg (by simpa using hlt.ne), id]
  rw [updAll_eq_map, List.map_append, hothers]
  simp

/-- An invalidation that has not started is the first that has not, and those that have are the others. -/
theorem withInval_unstarted {i : Inval} (h : InvalsApplied s) (hi : i.started = false) :
    (withInval i s).xlt.invals.find? (fun x => !x.started) = some i ∧ (withInval i s).xlt.invals.filter (·.started) = s.xlt.invals := by
  have hstarted : ∀ x ∈ s.xlt.invals, x.started = true := fun x hx => (h x hx).left
  have hnone : s.xlt.invals.find? (fun x => !x.started) = none := List.find?_eq_none.2 fun x hx => by simp [hstarted x hx]
  have hall : s.xlt.invals.filter (·.started) = s.xlt.invals := List.filter_eq_self.2 hstarted
  simp [withInval, hnone, hall, hi]

/-- Of the invalidations that are to be applied the newest alone is left, if it has started. -/
theorem withInval_due {i : Inval} (h : InvalsApplied s) :
    (withInval i s).xlt.invals.filter (fun x => x.started && !x.applied) = if i.started && !i.applied then [i] else [] := by
  have hnone : s.xlt.invals.filter (fun x => x.started && !x.applied) = [] := by
    refine List.filter_eq_nil_iff.2 fun x hx => ?_
    obtain ⟨-, happlied, -⟩ := h x hx
    simp [happlied]
  simp [withInval, hnone, List.filter_cons]

theorem withInval_invals {i : Inval} : (withInval i s).xlt.invals = s.xlt.invals ++ [i] := rfl

theorem withInval_within {i : Inval} : Within 0x70000000000000000000000000000000 s (withInval i s) :=
  Within.refl.upd (e := s) rfl rfl rfl rfl rfl rfl rfl rfl

theorem withInvals_within {l : List Inval} : Within 0x70000000000000000000000000000000 s (withInvals l s) :=
  Within.refl.upd (e := s) rfl rfl rfl rfl rfl rfl rfl rfl

theorem withInvals_qmg {l : List Inval} : (withInvals l s).qmg = s.qmg := rfl

theorem invalApply_qmg : (invalApply c s).qmg = s.qmg := rfl

/-- The caches after an invalidation that changed the list of them. -/
theorem invalApply_caches {l : List Inval} : (invalApply c (withInvals l s)).xlt.tlb = s.xlt.tlb.filter (fun e => !c.covers e.asid e.va e.size)
    ∧ (invalApply c (withInvals l s)).xlt.wc = s.xlt.wc.filter (fun e => !c.takes e)
    ∧ (invalApply c (withInvals l s)).xlt.invals = l := ⟨rfl, rfl, rfl⟩

/-- With WC walk-cache entries go like translations; without it they stay. -/
theorem filter_takes {l : List WcEntry} : l.filter (fun e => !c.takes e)
    = if c.wc then l.filter (fun e => !c.covers e.asid (e.vaHigh * pageSize e.level) (pageSize e.level)) else l := by
  cases hw : c.wc <;> simp [InvalScope.takes, hw]

/-- With 16 or more in progress the invalidation waits (R185). -/
theorem invalAsk_waits (h : InvalsApplied s) (hn : ¬ s.xlt.invals.length < invalLimit) :
    invalAsk chan c s = withInval (newInval chan c true false false s) s := by
  obtain ⟨hfind, hstarted⟩ := withInval_unstarted (i := newInval chan c true false false s) h rfl
  have hstart : invalStart 1 (withInval (newInval chan c true false false s) s) = withInval (newInval chan c true false false s) s := by
    rw [invalStart, hfind]
    dsimp only
    rw [hstarted, if_neg hn]
  have hask : invalAsk chan c s = invalsGo (invalStart 1 (withInval (newInval chan c true false false s) s)) := by
    unfold invalAsk
    rw [decide_eq_true (Nat.le_of_not_lt hn)]
    rfl
  rw [hask, hstart, invalsGo, withInval_due h]
  exact ite_self _

/-- The state in which an invalidation has started: the clusters and host islands are asked to wake (R183, R409). -/
def invalBegun (chan : Channel) (c : InvalScope) (s : State) : State := invalWake (withInval (newInval chan c false true false s) s)

/-- With fewer than 16 in progress the invalidation starts. -/
theorem invalAsk_starts (h : InvalsApplied s) (hn : s.xlt.invals.length < invalLimit) :
    invalAsk chan c s = invalsGo (invalBegun chan c s) := by
  obtain ⟨hfind, hstarted⟩ := withInval_unstarted (i := newInval chan c false false false s) h rfl
  have hgo := updAll_newest (i := newInval chan c false false false s) (f := fun x => { x with started := true }) h rfl
  have hstart : invalStart 1 (withInval (newInval chan c false false false s) s) = invalBegun chan c s := by
    rw [invalStart, hfind]
    dsimp only
    rw [hstarted, if_pos hn, invalStart]
    exact congrArg (fun l => invalWake (withInvals l (withInval (newInval chan c false false false s) s))) hgo
  have hask : invalAsk chan c s = invalsGo (invalStart 1 (withInval (newInval chan c false false false s) s)) := by
    unfold invalAsk
    rw [decide_eq_false (Nat.not_le_of_lt hn)]
    rfl
  rw [hask, hstart]

theorem invalBegun_xlt : (invalBegun chan c s).xlt = (withInval (newInval chan c false true false s) s).xlt := invalWake_xlt

theorem invalBegun_keepsLeave : KeepsLeave s (invalBegun chan c s) :=
  KeepsLeave.of_pwr (t := withInval (newInval chan c false true false s) s) rfl invalWake_keepsLeave

/-- Each domain that sleeps is asked to wake, or wakes already. -/
theorem invalBegun_woken {d : Nat} (hd : d ∈ xltDomains) (h : s.sleeps d = true) : Woken d (invalBegun chan c s) :=
  invalWake_woken (s := withInval (newInval chan c false true false s) s) hd h

/-- Where a domain sleeps the translations stay until all are ON (R409). -/
theorem invalsGo_of_sleeper (h : xltDomains.any s.sleeps = true) : invalsGo s = s := if_pos h

/-- The state in which an invalidation has removed what it covers. -/
def invalRemoved (chan : Channel) (c : InvalScope) (s : State) : State :=
  invalApply c (withInvals (s.xlt.invals ++ [newInval chan c false true true s]) (invalBegun chan c s))

/-- Where no domain sleeps and no queue waits for an invalidation, it is applied at once (R183). -/
theorem invalsGo_applies (h : InvalsApplied s) (hs : xltDomains.any s.sleeps = false)
    (hq : ∀ q ∈ s.qmg.queues, q.fetch.held = none ∧ q.sink.recHeld = false) : invalsGo (invalBegun chan c s) = invalRemoved chan c s := by
  have hqmg : (invalBegun chan c s).qmg = s.qmg := invalWake_qmg
  have hdone : updAll (fun x => x.id = (newInval chan c false true false s).id) (fun x => { x with applied := true }) (invalBegun chan c s).xlt.invals
      = s.xlt.invals ++ [newInval chan c false true true s] := by
    rw [invalBegun_xlt]
    exact updAll_newest h rfl
  have hgo : invalGo (newInval chan c false true false s) (invalBegun chan c s) = invalResume c (invalRemoved chan c s) :=
    congrArg (fun l => invalResume c (invalApply c (withInvals l (invalBegun chan c s)))) hdone
  have hresume : invalResume c (invalRemoved chan c s) = invalRemoved chan c s :=
    invalResume_of_none (by rwa [invalRemoved, invalApply_qmg, withInvals_qmg, hqmg])
  unfold invalsGo
  rw [invalBegun_keepsLeave.sleeps, hs, if_neg (by decide), invalBegun_xlt, (withInval_due h).trans (if_pos rfl),
    List.foldl_cons, List.foldl_nil, hgo, hresume]

theorem invalBegun_within : Within 0x20000000000070000000100000000000000000000000 s (invalBegun chan c s) :=
  invalWake_within.app rfl (withInval_within.weaken rfl)

theorem invalRemoved_within : Within 0x20000000000077000000100000000000000000000000 s (invalRemoved chan c s) :=
  invalApply_within.app rfl (withInvals_within.app rfl (invalBegun_within.weaken rfl))

/-- Once an invalidation is applied no TLB keeps what its scope covers and, with WC, no walk cache does; the other entries stay. -/
theorem invalRemoved_xlt : (invalRemoved chan c s).xlt.invals = s.xlt.invals ++ [newInval chan c false true true s]
    ∧ (invalRemoved chan c s).xlt.tlb = s.xlt.tlb.filter (fun e => !c.covers e.asid e.va e.size)
    ∧ (invalRemoved chan c s).xlt.wc = if c.wc then s.xlt.wc.filter (fun e => !c.covers e.asid (e.vaHigh * pageSize e.level) (pageSize e.level))
        else s.xlt.wc := by
  obtain ⟨htlb, hwc, hinvals⟩ := invalApply_caches (c := c) (s := invalBegun chan c s) (l := s.xlt.invals ++ [newInval chan c false true true s])
  rw [invalBegun_xlt] at htlb hwc
  rw [invalRemoved, hinvals, htlb, hwc, filter_takes, withInval]
  exact ⟨rfl, rfl, rfl⟩

end

/-! ### CMD_XLT_INVAL at its turn -/

section
variable {op : Nat} {env : CmdEnv} {a : CmdArgs} {s : State}

/-- The ring moved on, and the command stays in progress, where its body changes nothing of the ring. -/
theorem inProgress_of_cmd {t : State} (h : t.cmd = (takenBy op a s).cmd) : InProgress op a s t := by
  rw [InProgress, h, (takenBy_keeps op a s).1]
  exact ⟨rfl, rfl, rfl⟩

theorem InvalsApplied.taken (h : InvalsApplied s) : InvalsApplied (takenBy op a s) := by
  rwa [InvalsApplied, takenBy_xlt]

@[simp] theorem takenBy_sleeps : (takenBy op a s).sleeps = s.sleeps := takenBy_keepsLeave.sleeps

@[simp] theorem newInval_takenBy {chan : Channel} {c : InvalScope} {waited started applied : Bool} :
    newInval chan c waited started applied (takenBy op a s) = newInval chan c waited started applied s := by
  rw [newInval, takenBy_xlt, newInval]

variable (h : RingTurn 0x1A a s) (hi : Invalidatable a s) (happlied : InvalsApplied s)
include h hi

/-- The command goes on with its invalidation asked for. -/
theorem xltInval_turn : exec (.cmdXltInval env a) s = .next (invalAsk (.ring s.cmd.next) (wordsScope a) (takenBy 0x1A a s)) :=
  ring_wait h (cmdXltInval_asks hi.taken)

include happlied

/-- With 16 or more in progress it is appended to those that wait, and nothing is removed (R185). -/
theorem xltInval_waits (hn : ¬ s.xlt.invals.length < 16) :
    ∃ t, exec (.cmdXltInval env a) s = .next t ∧ InProgress 0x1A a s t ∧ Only [.ring, .invals, .power, .counters] s t
      ∧ t.xlt.invals = s.xlt.invals ++ [newInval (.ring s.cmd.next) (wordsScope a) true false false s] := by
  have hask := invalAsk_waits (chan := .ring s.cmd.next) (c := wordsScope a) happlied.taken (s := takenBy 0x1A a s) (by rwa [takenBy_xlt])
  have hin : Within 0x20000000000070000000100500000000000000000002 s
      (withInval (newInval (.ring s.cmd.next) (wordsScope a) true false false (takenBy 0x1A a s)) (takenBy 0x1A a s)) :=
    withInval_within.app rfl (h.taken_within.weaken rfl)
  refine ⟨_, (xltInval_turn h hi).trans (congrArg _ hask), inProgress_of_cmd (withInval_within.keeps_cmd fun _ => rfl),
    hin.only _ (by intro p; cases p <;> decide), ?_⟩
  rw [withInval_invals, newInval_takenBy, takenBy_xlt]

/-- With fewer, where a domain sleeps, it starts, and every domain that sleeps is asked to wake (R183, R409). -/
theorem xltInval_wakes (hn : s.xlt.invals.length < 16) (hs : xltDomains.any s.sleeps = true) :
    ∃ t, exec (.cmdXltInval env a) s = .next t ∧ InProgress 0x1A a s t ∧ Only [.ring, .invals, .power, .counters] s t
      ∧ t.xlt.invals = s.xlt.invals ++ [newInval (.ring s.cmd.next) (wordsScope a) false true false s]
      ∧ ∀ d ∈ xltDomains, s.sleeps d = true → t.sleeps d = true ∧ Woken d t := by
  have hask := invalAsk_starts (chan := .ring s.cmd.next) (c := wordsScope a) happlied.taken (s := takenBy 0x1A a s) (by rwa [takenBy_xlt])
  have hkeeps : KeepsLeave (takenBy 0x1A a s) (invalBegun (.ring s.cmd.next) (wordsScope a) (takenBy 0x1A a s)) := invalBegun_keepsLeave
  rw [invalsGo_of_sleeper (by rwa [hkeeps.sleeps, takenBy_sleeps])] at hask
  have hin : Within 0x20000000000070000000100500000000000000000002 s (invalBegun (.ring s.cmd.next) (wordsScope a) (takenBy 0x1A a s)) :=
    invalBegun_within.app rfl (h.taken_within.weaken rfl)
  refine ⟨_, (xltInval_turn h hi).trans (congrArg _ hask), inProgress_of_cmd (invalBegun_within.keeps_cmd fun _ => rfl),
    hin.only _ (by intro p; cases p <;> decide), ?_, fun d hd hsleeps => ⟨?_, ?_⟩⟩
  · rw [invalBegun_xlt, withInval_invals, newInval_takenBy, takenBy_xlt]
  · rwa [hkeeps.sleeps, takenBy_sleeps]
  · exact invalBegun_woken hd (by rwa [takenBy_sleeps])

/-- With fewer, where none sleeps, what it covers is gone at once (R182, R183). -/
theorem xltInval_applies (hn : s.xlt.invals.length < 16) (hs : xltDomains.any s.sleeps = false)
    (hq : ∀ q ∈ s.qmg.queues, q.fetch.held = none ∧ q.sink.recHeld = false) :
    ∃ t, exec (.cmdXltInval env a) s = .next t ∧ InProgress 0x1A a s t ∧ Only [.ring, .invals, .caches, .walks, .power, .counters] s t
      ∧ t.xlt.invals = s.xlt.invals ++ [newInval (.ring s.cmd.next) (wordsScope a) false true true s]
      ∧ t.xlt.tlb = s.xlt.tlb.filter (fun e => !(wordsScope a).covers e.asid e.va e.size)
      ∧ t.xlt.wc = if (wordsScope a).wc then
          s.xlt.wc.filter (fun e => !(wordsScope a).covers e.asid (e.vaHigh * pageSize e.level) (pageSize e.level)) else s.xlt.wc := by
  have hask := invalAsk_starts (chan := .ring s.cmd.next) (c := wordsScope a) happlied.taken (s := takenBy 0x1A a s) (by rwa [takenBy_xlt])
  rw [invalsGo_applies happlied.taken (by rwa [takenBy_sleeps]) (by rwa [takenBy_qmg])] at hask
  have hin : Within 0x20000000000077000000100500000000000000000002 s (invalRemoved (.ring s.cmd.next) (wordsScope a) (takenBy 0x1A a s)) :=
    invalRemoved_within.app rfl (h.taken_within.weaken rfl)
  have hxlt := invalRemoved_xlt (chan := .ring s.cmd.next) (c := wordsScope a) (s := takenBy 0x1A a s)
  rw [newInval_takenBy, takenBy_xlt] at hxlt
  exact ⟨_, (xltInval_turn h hi).trans (congrArg _ hask), inProgress_of_cmd (invalRemoved_within.keeps_cmd fun _ => rfl),
    hin.only _ (by intro p; cases p <;> decide), hxlt⟩

end

/-- Settles O27: with 16 in progress the new invalidation waits; else it starts, and is applied at once where no domain sleeps. -/
theorem invalidationRemovesTranslations : Obligations.InvalidationRemovesTranslations := by
  unfold Obligations.InvalidationRemovesTranslations
  intro env a s h hw hkind hrange howner happlied hq c i
  have hi : Invalidatable a s := ⟨hw, hkind, hrange, howner⟩
  by_cases hn : s.xlt.invals.length < 16
  · by_cases hs : xltDomains.any s.sleeps = true
    · obtain ⟨t, ht, hprogress, hrest⟩ := xltInval_wakes (env := env) h hi happlied hn hs
      refine ⟨t, ht, hprogress, ?_⟩
      rw [if_pos ⟨hn, hs⟩]
      exact hrest
    · obtain ⟨t, ht, hprogress, hrest⟩ := xltInval_applies (env := env) h hi happlied hn (Bool.eq_false_iff.2 hs) hq
      refine ⟨t, ht, hprogress, ?_⟩
      rw [if_neg (fun hboth => hs hboth.2), if_pos hn]
      exact hrest
  · obtain ⟨t, ht, hprogress, hrest⟩ := xltInval_waits (env := env) h hi happlied hn
    refine ⟨t, ht, hprogress, ?_⟩
    rw [if_neg (fun hboth => hn hboth.1), if_neg hn]
    exact hrest

end Sys2Proof.Machine

namespace Sys2Proof.Machine

/-! ### Timers of a peer state (R191, R192, R206, R211, R214, R219, R295) -/

section
variable {k : PeerKey} {s : State} {x : Peer} {h : SendHalf} {r : RecvHalf} {t : Nat}

/-- What concerns a send half that is held acts on it. -/
theorem onSendHalf_of_held {f : SendHalf → State → State} (hx : s.peer? k = some x) (hh : x.send = some h) : onSendHalf k f s = f h s := by
  rw [onSendHalf, hx, Option.bind_some, hh]

variable (hrun : s.running = true) (hx : s.peer? k = some x)
include hrun hx

/-- An OPEN_REQ without an answer goes again after the retransmit timeout and the next backoff (R192). -/
theorem openTimeout_unanswered (hh : x.send = some h) (ht : h.timerAt = some t) (hst : h.state = .opening) (hhold : h.openHold = false) :
    execOpenTimeout k s = .next (settle (openAgain k h (updSend k (fun y => { y with openBackoff := s.openWait h })
      (s.advanceTo (t + s.rto h + ns (s.openWait h)))))) := by
  rw [execOpenTimeout, trnStep_of_running hrun, onSendHalf_of_held hx hh, ht]
  dsimp only
  rw [if_neg (by simp [hst, hhold])]

/-- An OPEN_REQ that an OPEN_NAK put off goes again after its backoff (R192, R214). -/
theorem openBackoffExpiry_putOff (hh : x.send = some h) (ht : h.timerAt = some t) (hst : h.state = .opening) (hhold : h.openHold = true) :
    execOpenBackoffExpiry k s = .next (settle (openAgain k h (s.advanceTo (t + ns h.openBackoff)))) := by
  rw [execOpenBackoffExpiry, trnStep_of_running hrun, onSendHalf_of_held hx hh, ht]
  dsimp only
  rw [if_neg (by simp [hst, hhold])]

/-- Packets outstanding when the timer of an open half runs out are sent again, or the half is abandoned (R211). -/
theorem retransmitTimeout_outstanding (hh : x.send = some h) (ht : h.timerAt = some t) (hst : h.state = .opened) (hout : h.out ≠ []) :
    execRetransmitTimeout k s = .next (settle (retransmit k h (s.advanceTo (t + s.timeout h)))) := by
  rw [execRetransmitTimeout, trnStep_of_running hrun, onSendHalf_of_held hx hh, ht]
  dsimp only
  rw [if_neg (by simp [hst, hout])]

/-- A CLOSE_REQ without an answer is given up: after the timeout of the send half, or after bits [31:16] of TRN_RTO without one
(R191, R211; the latter DEDUCED, log 95). -/
theorem closeTimeout_unanswered (hclosing : x.closing = some t) :
    execCloseTimeout k s = .next (settle (closeFailed k
      (s.advanceTo (t + x.send.elim (us (atLeast1 (s.fld .trnRto 0 31 16))) s.timeout)))) := by
  rw [execCloseTimeout, trnStep_of_running hrun, hx]
  dsimp only
  rw [hclosing]

/-- An ACK that was put off goes (R206). -/
theorem ackDelayExpiry_unacked (hr : x.recv = some r) (ht : r.unackedAt = some t) :
    execAckDelayExpiry k s = .next (settle (sendAck k (s.advanceTo (t + ns (s.fld .trnAck 0 31 16))))) := by
  rw [execAckDelayExpiry, trnStep_of_running hrun, hx, Option.bind_some, hr, Option.bind_some, ht]

/-- A NACK that was put off goes (R206). -/
theorem nackDelayExpiry_gap (hr : x.recv = some r) (ht : r.gapAt = some t) :
    execNackDelayExpiry k s = .next (settle (sendNack k (s.advanceTo (t + ns (atLeast1 (s.fld .trnAck 0 47 32)))))) := by
  rw [execNackDelayExpiry, trnStep_of_running hrun, hx, Option.bind_some, hr, Option.bind_some, ht]

/-- A packet held by a NOT_NOW goes again when its backoff ends (R214). -/
theorem notNowBackoffExpiry_held {psn : Pos} {o : OutPkt} (hh : x.send = some h) (ho : h.out.find? (fun o => o.pkt.psn = psn) = some o)
    (ht : o.holdUntil = some t) : execNotNowBackoffExpiry k psn s = .next (settle (resendAll k [o] (s.advanceTo t))) := by
  rw [execNotNowBackoffExpiry, trnStep_of_running hrun, onSendHalf_of_held hx hh, ho]
  dsimp only
  rw [ht]

/-- A half that has been OPENING for UNREACH_TMO fails to open (R192). -/
theorem unreachTimeout_opening (hh : x.send = some h) (hst : h.state = .opening) :
    execUnreachTimeout k s = .next (settle (openFailed k (s.advanceTo (h.openedAt + s.unreachTmo)))) := by
  rw [execUnreachTimeout, trnStep_of_running hrun, onSendHalf_of_held hx hh, hst]

/-- A flow without a route for UNREACH_TMO is abandoned (R219, R295). -/
theorem unreachTimeout_noRoute (hh : x.send = some h) (hst : h.state = .opened) (ht : h.noRoute = some t) :
    execUnreachTimeout k s = .next (settle (abandon k 2 (s.advanceTo (t + s.unreachTmo)))) := by
  rw [execUnreachTimeout, trnStep_of_running hrun, onSendHalf_of_held hx hh, hst, ht]

end

/-- Settles O48: each row is its function of the model at the moment its timer runs out, where the half is as the row wants it. -/
theorem transportTimersAct : Obligations.TransportTimersAct := by
  unfold Obligations.TransportTimersAct
  intro k s x hrun hx
  refine ⟨fun h t hh ht => ⟨?_, ?_, ?_⟩, ?_, ?_, ?_, ?_, ?_, ?_⟩
  · exact openTimeout_unanswered hrun hx hh ht
  · exact openBackoffExpiry_putOff hrun hx hh ht
  · exact retransmitTimeout_outstanding hrun hx hh ht
  · intro t hclosing
    exact closeTimeout_unanswered hrun hx hclosing
  · intro r t hr ht
    exact ackDelayExpiry_unacked hrun hx hr ht
  · intro r t hr ht
    exact nackDelayExpiry_gap hrun hx hr ht
  · intro h psn o t hh ho ht
    exact notNowBackoffExpiry_held hrun hx hh ho ht
  · intro h hh hst
    exact unreachTimeout_opening hrun hx hh hst
  · intro h t hh hst ht
    exact unreachTimeout_noRoute hrun hx hh hst ht

end Sys2Proof.Machine

namespace Sys2Proof.Machine

/-! ### O47 -/

/-- An ACK for peer state 0, which does not exist. -/
def ackPacket : Packet := { laterPacket with ptype := PType.ack.code }

theorem domainsFor_ackPacket : (runningListedTwice 40).domainsFor .control ackPacket = [40] := by decide

theorem arrivalGen_ackPacket : (runningListedTwice 40).arrivalGen ackPacket = (runningListedTwice 40).cmd.gen := by decide

theorem takePassing_ackPacket : takePassing ackPacket (runningListedTwice 40) = runningListedTwice 40 := rfl

/-- The ACK sees the configuration set in force. -/
theorem view_ackPacket : (takePassing ackPacket (runningListedTwice 40)).view ((runningListedTwice 40).arrivalGen ackPacket)
    = runningListedTwice 40 := by
  rw [takePassing_ackPacket, arrivalGen_ackPacket, State.view, if_pos rfl]

theorem awake_ackPacket : Awake .control ackPacket (runningListedTwice 40) := by
  refine ⟨fun d hd => ?_, fun _ hx => nomatch hx⟩
  rw [domainsFor_ackPacket] at hd
  obtain rfl := List.mem_singleton.1 hd
  exact domainOn_of_listedTwice rfl

theorem peerHere_ackPacket : PeerHere (peerOf ackPacket) (runningListedTwice 40) := ⟨rfl, fun _ hx => nomatch hx⟩

/-- A packet that one domain handles waits for it where the list names the domain twice. -/
theorem packetArrives_listedTwice {n vc : Nat} {kind : ArrivalKind} {p : Packet} {tagOk : Bool}
    (hd : (runningListedTwice n).domainsFor kind p = [n]) : (packetArrives kind p tagOk vc (runningListedTwice n)).qmg.asleep.length = 1 := by
  unfold packetArrives
  rw [hd]
  simp only [List.foldl_cons, List.foldl_nil, wakeDomain_of_listedTwice (n := n) (s := runningListedTwice n) rfl, List.any_cons,
    sleeps_of_listedTwice (n := n) (s := runningListedTwice n) rfl, Bool.true_or, if_true]
  rfl

theorem exec_ackPacket : exec (.ackArrival ackPacket) (runningListedTwice 40)
    = .next (settle (packetArrives .control ackPacket true 6 (runningListedTwice 40))) := by
  show execAckArrival ackPacket (runningListedTwice 40) = _
  have hrow : controlRow .ack ackPacket (runningListedTwice 40) = packetArrives .control ackPacket true 6 (runningListedTwice 40) := by
    show asOf ((runningListedTwice 40).arrivalGen ackPacket) (packetArrives .control ackPacket true 6) (takePassing ackPacket (runningListedTwice 40)) = _
    rw [takePassing_ackPacket, arrivalGen_ackPacket, asOf, if_pos rfl]
  rw [execAckArrival, trnStep_of_running running_listedTwice, hrow]

/-- A control packet that is handled leaves the packets that wait for a domain. -/
theorem controlKind_usePeer_asleep {n : Nat} {p : Packet} {s : State} :
    (controlKind n p (if usesPeer p then usePeer (peerOf p) s else s)).qmg.asleep = s.qmg.asleep := by
  have huse : (if usesPeer p then usePeer (peerOf p) s else s).qmg.asleep = s.qmg.asleep := by
    split
    · exact usePeer_within.keeps_qmg_asleep rfl
    · rfl
  exact (controlKind_within.keeps_qmg_asleep rfl).trans huse

/-- Refutes O47: where the power-domain list names the host domain of a control packet ON and then GATED, its first entry is ON, as the
premise asks, and the packet still waits for the domain. -/
theorem not_controlPacketsReachTheirPeer : ¬ Obligations.ControlPacketsReachTheirPeer := by
  unfold Obligations.ControlPacketsReachTheirPeer
  rintro ⟨h, -⟩
  have heq : exec (.ackArrival ackPacket) (runningListedTwice 40)
      = .next (settle (asOf ((runningListedTwice 40).arrivalGen ackPacket)
        (fun s => controlKind PType.ack.code ackPacket (if usesPeer ackPacket then usePeer (peerOf ackPacket) s else s))
        (takePassing ackPacket (runningListedTwice 40)))) :=
    h (.ackArrival ackPacket) .ack ackPacket (runningListedTwice 40) rfl running_listedTwice
      (view_ackPacket.symm ▸ awake_ackPacket) (view_ackPacket.symm ▸ peerHere_ackPacket)
  rw [exec_ackPacket, takePassing_ackPacket, arrivalGen_ackPacket, asOf, if_pos rfl] at heq
  have hstate := Host.Outcome.next.inj heq
  have hlength := congrArg (fun t : State => t.qmg.asleep.length) hstate
  simp only [settle_asleep, controlKind_usePeer_asleep, packetArrives_listedTwice domainsFor_ackPacket] at hlength
  exact absurd hlength (by decide)

end Sys2Proof.Machine

namespace Sys2Proof.Machine

/-! ### O29 -/

open Sys2Proof.Tests

/-- Group n, where it stands here, lists a child. -/
def ListsChild (n : Nat) (s : State) : Prop := ∀ y, s.group? n = some y → y.children ≠ []

section
variable {n : Nat} {s t : State} {x : Group}

theorem group?_updGroup {f : Group → Group} (hf : ∀ y, (f y).num = y.num) : (updGroup n f s).group? n = (s.group? n).map f := by
  have hnum : ((fun y : Group => decide (y.num = n)) ∘ fun y => if decide (y.num = n) = true then f y else y)
      = fun y => decide (y.num = n) := by
    funext y
    by_cases hy : y.num = n <;> simp [hy, hf]
  show (updAll (fun y => decide (y.num = n)) f s.svc.groups).find? (fun y => decide (y.num = n)) = _
  rw [updAll_eq_map, List.find?_map, hnum]
  cases hfound : s.svc.groups.find? (fun y => decide (y.num = n)) with
  | none => simp [State.group?, hfound]
  | some y =>
    have hy : y.num = n := by simpa using List.find?_some hfound
    simp [State.group?, hfound, hy]

theorem group?_of_updGroup {f : Group → Group} (hx : (updGroup n f s).group? n = some x) (hf : ∀ y, (f y).num = y.num) :
    ∃ y, s.group? n = some y ∧ f y = x :=
  Option.map_eq_some_iff.1 ((group?_updGroup hf).symm.trans hx)

theorem group?_of_groups (h : t.svc.groups = s.svc.groups) : t.group? n = s.group? n := by
  rw [State.group?, h, State.group?]

theorem completeWhere_group? {p : Begun → Bool} {status detail r0 r1 : Nat} :
    (completeWhere p status detail r0 r1 s).group? n = s.group? n :=
  group?_of_groups (completeWhere_within.keeps_svc_groups rfl)

theorem addChild_listsChild {child : Nat} : ListsChild n (addChild n child s) := by
  intro y hy
  obtain ⟨z, -, rfl⟩ := group?_of_updGroup hy fun _ => rfl
  dsimp only
  split
  · exact List.ne_nil_of_mem ‹_›
  · simp

/-- The group as it enters ACTIVE, its waiting children not yet acknowledged. -/
def activated (s : State) (x : Group) : Group := { x with state := .active, activeAt := s.clk.now }

/-- Each waiting child of a group that enters ACTIVE is listed and acknowledged (R233, R235). -/
def ackWaiting (n : Nat) (s : State) (x : Group) : State :=
  x.waiting.foldl (fun t w => joinAck (activated s x) w.fa (addChild n w.fa t)) (updGroup n (activated s) s)

theorem joinDone_of_group? (hx : s.group? n = some x) :
    joinDone n s = completeWhere (isCreateOf n) csOk 0 x.home 0 (updGroup n (fun y => { y with waiting := [] }) (ackWaiting n s x)) := by
  have hact : (updGroup n (activated s) s).group? n = some (activated s x) := by
    rw [group?_updGroup (f := activated s) fun _ => rfl, hx]
    rfl
  show (match (updGroup n (activated s) s).group? n with
    | none => _
    | some z => _) = _
  rw [hact]
  rfl

/-- With no child waiting, a group enters ACTIVE without taking an open number. -/
theorem joinDone_openCount (hx : s.group? n = some x) (hw : x.waiting = []) : (joinDone n s).trn.openCount = s.trn.openCount := by
  rw [joinDone_of_group? hx, completeWhere_within.keeps_trn_openCount rfl, updGroup_trn, ackWaiting, hw, List.foldl_nil, updGroup_trn]

/-- With a child waiting, a group that enters ACTIVE lists a child. -/
theorem joinDone_listsChild (hx : s.group? n = some x) (hw : x.waiting ≠ []) : ListsChild n (joinDone n s) := by
  obtain ⟨l, w, hlast⟩ := (List.eq_nil_or_concat x.waiting).resolve_left hw
  have hack : ListsChild n (ackWaiting n s x) := by
    rw [ackWaiting, hlast, List.concat_eq_append, List.foldl_concat]
    intro y hy
    rw [group?_of_groups (joinAck_within.keeps_svc_groups rfl)] at hy
    exact addChild_listsChild y hy
  intro y hy
  rw [joinDone_of_group? hx, completeWhere_group?] at hy
  obtain ⟨z, hz, rfl⟩ := group?_of_updGroup hy fun _ => rfl
  exact hack z hz

/-- Asking the parent leaves the groups. -/
theorem sendJoin_group? : (sendJoin x s).group? n = s.group? n := group?_of_groups (sendJoin_within.keeps_svc_groups rfl)

/-- A group added under a number that no other has is found under it. -/
theorem group?_of_added (hnone : s.group? x.num = none) (hadd : t.svc.groups = s.svc.groups ++ [x]) : t.group? x.num = some x := by
  unfold State.group? at hnone ⊢
  rw [hadd, List.find?_append, hnone]
  simp

/-- A new group that a step asks its parent for, or brings to ACTIVE, is in the end still JOINING, or lists a child, or no open number has
been taken. -/
theorem newGroup_cases (hx : s.group? x.num = some x) (hj : x.state = .joining) (ht : t = if (x.parent s).isNone then joinDone x.num s else sendJoin x s) :
    (∃ y, t.group? x.num = some y ∧ y.state = .joining) ∨ ListsChild x.num t ∨ t.trn.openCount = s.trn.openCount := by
  subst ht
  split
  · by_cases hw : x.waiting = []
    · exact .inr (.inr (joinDone_openCount hx hw))
    · exact .inr (.inl (joinDone_listsChild hx hw))
  · exact .inl ⟨x, sendJoin_group?.trans hx, hj⟩

end

/-- The world on a line of four routers, of which this is router 0. -/
def lineWorld : State := { world with bank0 := [(regAddr .rteDims 0 0, word (at_ 36 3))] }

/-- CMD_CHORUS_CREATE of group 2 from a table of one member, which is here, so that this router is the root. -/
def rootArgs : CmdArgs := args (at_ 16 1 + 2) 0x3000 (at_ 32 1 + 1) 0 0

def tableEnv : CmdEnv := { env0 with read := .data table1, segs := [(0x3000, 8)] }

/-- The root of the line has a flow for its one dimension, whose open number the count gives (R194, R247). -/
theorem exec_rootArgs : ∃ t y, exec (.cmdChorusCreate tableEnv rootArgs) lineWorld = .next t ∧ t.trn.openCount = 1
    ∧ t.group? 2 = some y ∧ y.state = .active ∧ y.children = [] :=
  ⟨_, _, rfl, by decide, rfl, rfl, rfl⟩

/-- Refutes O29: the root of a line of four routers takes an open number for the flow of the group it installs, which the frame of the
statement leaves as it was. -/
theorem not_chorusGroupsAreCreatedAndLeft : ¬ Obligations.ChorusGroupsAreCreatedAndLeft := by
  unfold Obligations.ChorusGroupsAreCreatedAndLeft
  rintro ⟨hcreate, -⟩
  have hinstall := (hcreate tableEnv rootArgs lineWorld asid1 table1 (ring_turn_of (by decide)) (by decide) (by decide) (by decide)
    (by decide) (by decide) rfl rfl (by decide) (by decide)).2
  obtain ⟨g, u, hnum, -, -, -, hjoining, -, -, -, -, hsvc, ⟨-, -, hparts⟩, hexec⟩ := hinstall (by decide) (by decide)
  have hpeers : Part.peers.same lineWorld u := hparts .peers (by decide)
  have hcount : u.trn.openCount = 0 := hpeers.2.1
  have hg2 : g.num = 2 := hnum
  have hg : u.group? g.num = some g := group?_of_added (s := lineWorld) (by rw [hg2]; decide) (congrArg (·.groups) hsvc)
  obtain ⟨t, y, ht, hopen, hy, hactive, hchildless⟩ := exec_rootArgs
  have hnext := Host.Outcome.next.inj (ht.symm.trans hexec)
  rw [← hg2] at hy
  obtain ⟨z, hz, hstill⟩ | hlists | hkept := newGroup_cases hg hjoining hnext
  · rw [hy] at hz
    obtain rfl := Option.some.inj hz
    rw [hactive] at hstill
    cases hstill
  · exact hlists y hy hchildless
  · omega

end Sys2Proof.Machine

namespace Sys2Proof.Machine

/-! ### Locks and device variables: what taking and completing a command leaves of them (R254, R268, R458) -/

/-- The number lies in the run of count numbers from first. -/
def inRun (first count n : Nat) : Bool := decide (first ≤ n) && decide (n < first + count)

/-- The state with these locks. -/
def withLocks (l : List Lock) (s : State) : State := { s with svc := { s.svc with locks := l } }

/-- The state with these runs of variable slots and these values in them. -/
def withVariables (r : List VarRun) (v : List (Nat × Nat)) (s : State) : State := { s with svc := { s.svc with varRuns := r, vars := v } }

/-- The values of variable slots outside a run. -/
def varsOutside (first count : Nat) (s : State) : List (Nat × Nat) :=
  s.svc.vars.filter (fun v => decide (v.1 < first) || decide (first + count ≤ v.1))

theorem inRun_iff {first count n : Nat} : inRun first count n = true ↔ first ≤ n ∧ n < first + count := by
  simp [inRun]

theorem withLocks_within {l : List Lock} {s : State} : Within 0x1000000000000000000000000000000000000 s (withLocks l s) :=
  Within.refl.upd (e := s) rfl rfl rfl rfl rfl rfl rfl rfl

theorem withVariables_within {r : List VarRun} {v : List (Nat × Nat)} {s : State} :
    Within 0x18000000000000000000000000000000000000 s (withVariables r v s) :=
  Within.refl.upd (e := s) rfl rfl rfl rfl rfl rfl rfl rfl

theorem mem_varsOutside {first count : Nat} {s : State} {v : Nat × Nat} :
    v ∈ varsOutside first count s ↔ v ∈ s.svc.vars ∧ (v.1 < first ∨ first + count ≤ v.1) := by
  simp [varsOutside]

section
variable {op : Nat} {a : CmdArgs} {s : State}

@[simp] theorem takenBy_varBytes : (takenBy op a s).varBytes = s.varBytes := by
  unfold State.varBytes State.fld
  rw [takenBy_raw]

@[simp] theorem takenBy_varsIn (first count : Nat) : (takenBy op a s).varsIn first count = s.varsIn first count := by
  unfold State.varsIn
  rw [takenBy_svc]

@[simp] theorem takenBy_varsOutside (first count : Nat) : varsOutside first count (takenBy op a s) = varsOutside first count s := by
  unfold varsOutside
  rw [takenBy_svc]

/-- A command on locks or variable slots wakes no domain. -/
theorem takenBy_of_lockOp (ho : op = 0x28 ∨ op = 0x29) : Within 0x500000000000000000006 s (takenBy op a s) := by
  have hobj : (objectOf op a).1 = if bit a.w1.toNat 0 then 8 else 7 := by obtain rfl | rfl := ho <;> rfl
  refine takenBy_of_unwoken ?_
  unfold wakeForCommand
  rw [hobj]
  split <;> rfl

variable {body : CmdBody} {env : CmdEnv}

/-- A command on locks or variable slots whose body changes these alone: it completes, and what the body left of the service units stands. -/
theorem ring_sets_services {u : State} {status : Nat} {l : List Part} (h : RingTurn op a s)
    (hb : body env a (begunAs op a s) (takenBy op a s) = (.done status 0 0 0, u))
    (hin : Within 0x19000000000000000000000000000000000000 (takenBy op a s) u) (hl : Only l s u)
    (hsub : ∀ p ∈ [Part.ring, .regs, .held], p ∈ l) :
    ∃ t, onRing op body env a s = .next t ∧ Answered op a s s t status 0 0 0 ∧ Only l s t ∧ t.svc = u.svc := by
  have hregs : u.regs = s.regs := (hin.keeps_regs rfl).trans takenBy_regs
  have hkept : RingKept op a s u := .of h (hin.keeps_cmd fun _ => rfl) hregs ((hin.keeps_gates rfl).trans takenBy_gates) (hin.keeps_out rfl)
  obtain ⟨hanswered, honly, -⟩ := completeCmd_leaves (status := status) (detail := 0) (r0 := 0) (r1 := 0) h hkept hl hsub
  exact ⟨_, by rw [ring_turn h, hb], hanswered.congr hregs.symm, honly, completeCmd_svc h hkept⟩

theorem ring_sets_locks {l : List Lock} (h : RingTurn op a s) (ho : op = 0x28 ∨ op = 0x29)
    (hb : body env a (begunAs op a s) (takenBy op a s) = (.ok, withLocks l (takenBy op a s))) :
    ∃ t, onRing op body env a s = .next t ∧ Answered op a s s t csOk 0 0 0 ∧ Only [.ring, .regs, .held, .locks] s t ∧ t.svc.locks = l := by
  have hsu : Within 0x1000000000000000500000000000000000006 s (withLocks l (takenBy op a s)) :=
    withLocks_within.app rfl ((takenBy_of_lockOp ho).weaken rfl)
  obtain ⟨t, ht, hanswered, honly, hsvc⟩ := ring_sets_services (l := [.ring, .regs, .held, .locks]) h hb (withLocks_within.weaken rfl)
    (hsu.only _ (by intro p; cases p <;> decide)) (by decide)
  exact ⟨t, ht, hanswered, honly, congrArg (·.locks) hsvc⟩

theorem ring_sets_variables {r : List VarRun} {v : List (Nat × Nat)} (h : RingTurn op a s) (ho : op = 0x28 ∨ op = 0x29)
    (hb : body env a (begunAs op a s) (takenBy op a s) = (.ok, withVariables r v (takenBy op a s))) :
    ∃ t, onRing op body env a s = .next t ∧ Answered op a s s t csOk 0 0 0 ∧ Only [.ring, .regs, .held, .variables] s t
      ∧ t.svc.varRuns = r ∧ t.svc.vars = v := by
  have hsu : Within 0x18000000000000000500000000000000000006 s (withVariables r v (takenBy op a s)) :=
    withVariables_within.app rfl ((takenBy_of_lockOp ho).weaken rfl)
  obtain ⟨t, ht, hanswered, honly, hsvc⟩ := ring_sets_services (l := [.ring, .regs, .held, .variables]) h hb
    (withVariables_within.weaken rfl) (hsu.only _ (by intro p; cases p <;> decide)) (by decide)
  exact ⟨t, ht, hanswered, honly, congrArg (·.varRuns) hsvc, congrArg (·.vars) hsvc⟩

theorem ring_refuses_lockOp {status : Nat} (h : RingTurn op a s) (ho : op = 0x28 ∨ op = 0x29)
    (hb : body env a (begunAs op a s) (takenBy op a s) = refuse status (takenBy op a s)) :
    ∃ t, onRing op body env a s = .next t ∧ Answered op a s s t status 0 0 0 ∧ Only [.ring, .regs, .held] s t := by
  obtain ⟨t, ht, hanswered, honly, -⟩ := ring_sets_services (l := [.ring, .regs, .held]) h hb Within.refl
    ((takenBy_of_lockOp ho).only _ (by intro p; cases p <;> decide)) (by decide)
  exact ⟨t, ht, hanswered, honly⟩

end

end Sys2Proof.Machine

namespace Sys2Proof.Machine

/-! ### CMD_LOCK_ALLOC (R254, R268, R458) -/

/-- A lock FREE for the partition and the function that the command names. -/
def newLock (a : CmdArgs) (n : Nat) : Lock :=
  { num := n, pkey := bits a.w1.toNat 47 32, mid := a.mid, owner := none, abandoned := false, waiters := [], inherited := none }

/-- The locks of the run that the command names. -/
def newLocks (a : CmdArgs) : List Lock := (List.range a.w3.toNat).map (fun i => newLock a (a.w2.toNat + i))

/-- The run of variable slots that the command names, for its partition and function. -/
def newVarRun (a : CmdArgs) : VarRun :=
  { first := a.w2.toNat, count := a.w3.toNat, pkey := bits a.w1.toNat 47 32, mid := a.mid }

section
variable {env : CmdEnv} {a : CmdArgs} {b : Begun} {s u : State}

/-- A run of unallocated locks is allocated. -/
theorem cmdLockAlloc_adds (hw : badWords a [1 + mask 47 32, allBits, allBits] = false) (hvar : bit a.w1.toNat 0 = false)
    (hcount : 0 < a.w3.toNat) (htop : a.w2.toNat + a.w3.toNat ≤ lockCount) (hp : (u.partition? (bits a.w1.toNat 47 32)).isSome = true)
    (hunused : ∀ l ∈ u.svc.locks, l.num < a.w2.toNat ∨ a.w2.toNat + a.w3.toNat ≤ l.num) :
    cmdLockAlloc env a b u = (.ok, withLocks (u.svc.locks ++ newLocks a) u) := by
  have hnone : u.svc.locks.any (fun l => decide (a.w2.toNat ≤ l.num) && decide (l.num < a.w2.toNat + a.w3.toNat)) = false := by
    refine List.any_eq_false.2 fun l hl => ?_
    have := hunused l hl
    simp only [Bool.and_eq_true, decide_eq_true_eq]
    omega
  unfold cmdLockAlloc
  dsimp only
  rw [hvar, if_neg (by simp [hw]; omega), if_neg (by simp [Option.isSome_iff_ne_none.1 hp]), if_neg (by decide), hnone, if_neg (by decide)]
  rfl

/-- A run of unallocated variable slots is allocated and zeroed. -/
theorem cmdLockAlloc_adds_variables (hw : badWords a [1 + mask 47 32, allBits, allBits] = false) (hvar : bit a.w1.toNat 0 = true)
    (hcount : 0 < a.w3.toNat) (htop : a.w2.toNat + a.w3.toNat ≤ u.varBytes / 16)
    (hp : (u.partition? (bits a.w1.toNat 47 32)).isSome = true) (hunused : u.varsIn a.w2.toNat a.w3.toNat = 0) :
    cmdLockAlloc env a b u = (.ok, withVariables (u.svc.varRuns ++ [newVarRun a]) (varsOutside a.w2.toNat a.w3.toNat u) u) := by
  unfold cmdLockAlloc
  dsimp only
  rw [hvar, if_neg (by simp [hw]; omega), if_neg (by simp [Option.isSome_iff_ne_none.1 hp]), if_pos rfl, if_neg (not_not.2 hunused)]
  rfl

theorem find?_newLocks (n : Nat) : (newLocks a).find? (fun l => l.num = n)
    = if a.w2.toNat ≤ n ∧ n < a.w2.toNat + a.w3.toNat then some (newLock a n) else none := by
  split
  next h =>
    have hfirst : (List.range a.w3.toNat).find? ((fun l : Lock => decide (l.num = n)) ∘ fun i => newLock a (a.w2.toNat + i))
        = some (n - a.w2.toNat) := by
      refine List.find?_range_eq_some.2 ⟨decide_eq_true (Nat.add_sub_cancel' h.1), List.mem_range.2 (by omega), fun j hj => ?_⟩
      have hne : a.w2.toNat + j ≠ n := by omega
      simpa [newLock] using hne
    rw [newLocks, List.find?_map, hfirst]
    simp [Nat.add_sub_cancel' h.1]
  next h =>
    rw [List.find?_eq_none]
    simp only [newLocks, List.mem_map, List.mem_range, decide_eq_true_eq]
    rintro l ⟨i, hi, rfl⟩ rfl
    exact h ⟨Nat.le_add_right _ _, Nat.add_lt_add_left hi _⟩

/-- Behind locks outside the run, the new ones are those of the run. -/
theorem find?_append_newLocks {l : List Lock} (h : ∀ x ∈ l, x.num < a.w2.toNat ∨ a.w2.toNat + a.w3.toNat ≤ x.num) (n : Nat) :
    (l ++ newLocks a).find? (fun l => l.num = n)
      = if a.w2.toNat ≤ n ∧ n < a.w2.toNat + a.w3.toNat then some (newLock a n) else l.find? (fun l => l.num = n) := by
  rw [List.find?_append, find?_newLocks]
  split
  next hn =>
    have hnone : l.find? (fun l => l.num = n) = none := by
      refine List.find?_eq_none.2 fun x hx => ?_
      have := h x hx
      simp only [decide_eq_true_eq]
      omega
    rw [hnone, Option.none_or]
  next => rw [Option.or_none]

end

end Sys2Proof.Machine

namespace Sys2Proof.Machine

/-! ### CMD_LOCK_FREE of locks (R257, R263, R458) -/

/-- No lock of the run has an owner or waiters. -/
def RunFree (first count : Nat) (l : List Lock) : Prop := ∀ x ∈ l, inRun first count x.num = true → x.owner = none ∧ x.waiters = []

/-- The locks outside a run. -/
def locksOutside (first count : Nat) (l : List Lock) : List Lock := l.filter (fun x => !inRun first count x.num)

/-- The locks of a run are taken from their waiters and owners. -/
def forceAll (l : List Lock) (s : State) : State := l.foldl (fun s x => forceFree x.num s) s

theorem find?_locksOutside (first count n : Nat) (l : List Lock) : (locksOutside first count l).find? (fun x => x.num = n)
    = if first ≤ n ∧ n < first + count then none else l.find? (fun x => x.num = n) := by
  rw [locksOutside, List.find?_filter]
  split
  next h =>
    refine List.find?_eq_none.2 fun x _ => ?_
    simp only [Bool.not_eq_true', decide_eq_true_eq, not_and]
    rintro hout rfl
    rw [inRun_iff.2 h] at hout
    cases hout
  next h =>
    congr 1
    funext x
    by_cases hx : x.num = n
    · have hout : inRun first count x.num = false := by rwa [hx, Bool.eq_false_iff, ne_eq, inRun_iff]
      simp [hout]
    · simp [hx]

section
variable {first count n : Nat} {s : State}

/-- The states that the command may pass through as it takes the locks of a free run: no lock outside the run changes, and the run
stays free. -/
def RunKept (first count : Nat) (s u : State) : Prop :=
  ∃ l, u = withLocks l s ∧ locksOutside first count l = locksOutside first count s.svc.locks ∧ RunFree first count l

theorem RunKept.refl (h : RunFree first count s.svc.locks) : RunKept first count s s := ⟨_, rfl, rfl, h⟩

theorem RunKept.trans {u v : State} (h : RunKept first count s u) (k : RunKept first count u v) : RunKept first count s v := by
  obtain ⟨l, rfl, hl, -⟩ := h
  obtain ⟨m, rfl, hm, hfree⟩ := k
  exact ⟨m, rfl, hm.trans hl, hfree⟩

theorem RunKept.free {u : State} (h : RunKept first count s u) : RunFree first count u.svc.locks := by
  obtain ⟨l, rfl, -, hfree⟩ := h
  exact hfree

theorem locksOutside_updAll {f : Lock → Lock} {l : List Lock} (hn : inRun first count n = true) (hf : ∀ x, (f x).num = x.num) :
    locksOutside first count (updAll (fun x => x.num = n) f l) = locksOutside first count l := by
  induction l with
  | nil => rfl
  | cons x l ih =>
    rw [updAll, locksOutside, List.filter_cons, locksOutside, List.filter_cons, ← locksOutside, ih, ← locksOutside]
    by_cases hx : x.num = n <;> simp [hx, hf, hn]

/-- A change of a lock of a free run that gives it neither owner nor waiters. -/
theorem RunFree.keeps_updLock {f : Lock → Lock} (h : RunFree first count s.svc.locks) (hn : inRun first count n = true)
    (hf : ∀ l, (f l).num = l.num ∧ (f l).owner = l.owner ∧ ((f l).waiters = l.waiters ∨ (f l).waiters = [])) :
    RunKept first count s (updLock n f s) := by
  refine ⟨_, rfl, locksOutside_updAll hn fun l => (hf l).1, fun x hx hin => ?_⟩
  rw [updAll_eq_map, List.mem_map] at hx
  obtain ⟨y, hy, rfl⟩ := hx
  split at hin
  next hnum =>
    obtain ⟨hkept, howner, hwaiters⟩ := hf y
    obtain ⟨hnone, hnil⟩ := h y hy (hkept ▸ hin)
    rw [if_pos hnum, howner, hnone]
    exact ⟨rfl, hwaiters.elim (·.trans hnil) id⟩
  next hnum =>
    rw [if_neg hnum]
    exact h y hy hin

theorem RunFree.of_lock? {l : Lock} (h : RunFree first count s.svc.locks) (hn : inRun first count n = true) (hl : s.lock? n = some l) :
    l.owner = none ∧ l.waiters = [] := by
  have hnum : l.num = n := by simpa using List.find?_some hl
  exact h l (List.mem_of_find?_eq_some hl) (hnum ▸ hn)

/-- The inherited priority of a lock without owner becomes none, and nobody is told. -/
theorem RunFree.keeps_boostCheck (h : RunFree first count s.svc.locks) (hn : inRun first count n = true) :
    RunKept first count s (boostCheck n s) := by
  unfold boostCheck
  split
  next => exact .refl h
  next l hl =>
    obtain ⟨howner, -⟩ := h.of_lock? hn hl
    split
    · exact .refl h
    · rw [howner]
      exact h.keeps_updLock hn fun _ => ⟨rfl, rfl, .inl rfl⟩

/-- A lock without owner has no holder to reset. -/
theorem RunFree.holderReset_eq (h : RunFree first count s.svc.locks) (hn : inRun first count n = true) : holderReset n s = s := by
  unfold holderReset
  split
  next => rfl
  next l hl => rw [(h.of_lock? hn hl).1]

theorem RunFree.keeps_forceFree (h : RunFree first count s.svc.locks) (hn : inRun first count n = true) : RunKept first count s (forceFree n s) := by
  unfold forceFree
  split
  next => exact .refl h
  next l hl =>
    have hcleared : RunKept first count s (updLock n (fun l => { l with waiters := [] }) s) :=
      h.keeps_updLock hn fun _ => ⟨rfl, rfl, .inr rfl⟩
    have hboost := hcleared.trans (hcleared.free.keeps_boostCheck hn)
    rw [(h.of_lock? hn hl).2]
    dsimp only [List.foldl_nil]
    rw [hboost.free.holderReset_eq hn]
    exact hboost

theorem RunFree.keeps_forceAll {l : List Lock} (hl : ∀ x ∈ l, inRun first count x.num = true) (h : RunFree first count s.svc.locks) :
    RunKept first count s (forceAll l s) := by
  induction l generalizing s with
  | nil => exact .refl h
  | cons x l ih =>
    have hx := h.keeps_forceFree (hl x (List.mem_cons_self ..))
    exact hx.trans (ih (fun y hy => hl y (List.mem_cons_of_mem _ hy)) hx.free)

end

section
variable {env : CmdEnv} {a : CmdArgs} {b : Begun} {s u : State}

/-- The locks of the run that the command names. -/
def State.locksNamed (s : State) (a : CmdArgs) : List Lock := s.svc.locks.filter (fun l => inRun a.w2.toNat a.w3.toNat l.num)

theorem mem_locksNamed {l : Lock} : l ∈ s.locksNamed a ↔ l ∈ s.svc.locks ∧ a.w2.toNat ≤ l.num ∧ l.num < a.w2.toNat + a.w3.toNat := by
  rw [State.locksNamed, List.mem_filter, inRun_iff]

@[simp] theorem takenBy_locksNamed {op : Nat} {c : CmdArgs} : (takenBy op c s).locksNamed a = s.locksNamed a := by
  unfold State.locksNamed
  rw [takenBy_svc]

/-- The words of CMD_LOCK_FREE name a run of allocated locks. -/
structure FreesLocks (a : CmdArgs) (s : State) : Prop where
  words : badWords a [3, allBits, allBits] = false
  locks : bit a.w1.toNat 0 = false
  count : 0 < a.w3.toNat
  top : a.w2.toNat + a.w3.toNat ≤ lockCount
  allocated : (s.locksNamed a).length = a.w3.toNat

theorem FreesLocks.taken {op : Nat} (h : FreesLocks a s) : FreesLocks a (takenBy op a s) :=
  ⟨h.words, h.locks, h.count, h.top, by rw [takenBy_locksNamed, h.allocated]⟩

/-- The state in which the locks of the run that the command names are unallocated. -/
def unallocated (a : CmdArgs) (s : State) : State := withLocks (locksOutside a.w2.toNat a.w3.toNat s.svc.locks) s

theorem cmdLockFree_of_locks (h : FreesLocks a u) :
    cmdLockFree env a b u = if (u.locksNamed a).any (fun x => !mayName a x.mid) then refuse csProtection u
      else if !bit a.w1.toNat 1 && (u.locksNamed a).any (fun x => x.owner.isSome) then refuse csBusy u
      else (.ok, unallocated a (forceAll (u.locksNamed a) u)) := by
  obtain ⟨hwords, hlocks, hcount, htop, hallocated⟩ := h
  unfold cmdLockFree
  dsimp only
  rw [hlocks, if_neg (by simp [hwords]; omega), if_neg (by decide)]
  exact if_neg (not_not.2 hallocated)

/-- A lock of the run belongs to another function. -/
theorem cmdLockFree_protects (h : FreesLocks a u) (hhost : a.mid < 0x800) (hother : ∃ l ∈ u.locksNamed a, l.mid ≠ a.mid) :
    cmdLockFree env a b u = refuse csProtection u := by
  obtain ⟨l, hl, hmid⟩ := hother
  have hmay : mayName a l.mid = false := by simp [mayName, Ne.symm hmid, hhost]
  rw [cmdLockFree_of_locks h, if_pos (List.any_eq_true.2 ⟨l, hl, by rw [hmay]; rfl⟩)]

theorem any_not_mayName_of_owned {α : Type} {f : α → Nat} {l : List α} (h : ∀ x ∈ l, f x = a.mid) : l.any (fun x => !mayName a (f x)) = false :=
  List.any_eq_false.2 fun x hx => by simp [mayName_of_eq (h x hx)]

/-- A lock of the run is held. -/
theorem cmdLockFree_busy (h : FreesLocks a u) (hforce : bit a.w1.toNat 1 = false) (hown : ∀ l ∈ u.locksNamed a, l.mid = a.mid)
    (hheld : ∃ l ∈ u.locksNamed a, l.owner.isSome = true) : cmdLockFree env a b u = refuse csBusy u := by
  rw [cmdLockFree_of_locks h, any_not_mayName_of_owned hown, if_neg (by decide), hforce, List.any_eq_true.2 hheld,
    if_pos (by decide)]

/-- With FORCE a held lock is no obstacle. -/
theorem cmdLockFree_forces (h : FreesLocks a u) (hforce : bit a.w1.toNat 1 = true) (hown : ∀ l ∈ u.locksNamed a, l.mid = a.mid) :
    cmdLockFree env a b u = (.ok, unallocated a (forceAll (u.locksNamed a) u)) := by
  rw [cmdLockFree_of_locks h, any_not_mayName_of_owned hown, if_neg (by decide), hforce, Bool.not_true, Bool.false_and, if_neg (by decide)]

/-- Locks that nobody holds or waits for go, and no other lock changes. -/
theorem cmdLockFree_frees (h : FreesLocks a u) (hown : ∀ l ∈ u.locksNamed a, l.mid = a.mid)
    (hfree : ∀ l ∈ u.locksNamed a, l.owner = none ∧ l.waiters = []) : cmdLockFree env a b u = (.ok, unallocated a u) := by
  have hnone : (u.locksNamed a).any (fun x => x.owner.isSome) = false := 
    List.any_eq_false.2 fun x hx => by simp [(hfree x hx).1]
  have hrun : RunFree a.w2.toNat a.w3.toNat u.svc.locks := fun x hx hin => hfree x (List.mem_filter.2 ⟨hx, hin⟩)
  obtain ⟨l, hl, hout, -⟩ := hrun.keeps_forceAll (l := u.locksNamed a) fun x hx => (List.mem_filter.1 hx).2
  rw [cmdLockFree_of_locks h, any_not_mayName_of_owned hown, if_neg (by decide), hnone, Bool.and_false, if_neg (by decide), hl,
    unallocated, unallocated, ← hout]
  rfl

end

end Sys2Proof.Machine

namespace Sys2Proof.Machine

/-! ### CMD_LOCK_FREE of variable slots (R268, R458) -/

/-- A run holds a slot. -/
def VarRun.covers (r : VarRun) (n : Nat) : Prop := r.first ≤ n ∧ n < r.first + r.count

/-- What is left of a run of variable slots when those of a range go. -/
def keptRuns (first count : Nat) (r : VarRun) : List VarRun :=
  if r.first + r.count ≤ first ∨ first + count ≤ r.first then [r] else cutRun first count r

theorem exists_mem_cutRun {first count n k : Nat} {r : VarRun} (h : first < r.first + r.count ∧ r.first < first + count) :
    (∃ x ∈ cutRun first count r, x.pkey = k ∧ x.covers n) ↔ (n < first ∨ first + count ≤ n) ∧ r.pkey = k ∧ r.covers n := by
  simp only [cutRun, List.mem_filter, List.mem_cons, List.not_mem_nil, or_false, decide_eq_true_eq, or_and_right, exists_or, and_assoc,
    exists_eq_left, VarRun.covers]
  omega

/-- A slot outside the range stays with its partition, and one of the range goes. -/
theorem exists_mem_keptRuns {first count n k : Nat} {r : VarRun} :
    (∃ x ∈ keptRuns first count r, x.pkey = k ∧ x.covers n) ↔ (n < first ∨ first + count ≤ n) ∧ r.pkey = k ∧ r.covers n := by
  unfold keptRuns
  split
  next h =>
    simp only [List.mem_singleton, exists_eq_left, VarRun.covers]
    omega
  next h => exact exists_mem_cutRun (by omega)

theorem exists_mem_flatMap_keptRuns {first count n k : Nat} {l : List VarRun} :
    (∃ x ∈ l.flatMap (keptRuns first count), x.pkey = k ∧ x.covers n)
      ↔ (n < first ∨ first + count ≤ n) ∧ ∃ r ∈ l, r.pkey = k ∧ r.covers n := by
  have hassoc : (∃ x ∈ l.flatMap (keptRuns first count), x.pkey = k ∧ x.covers n)
      ↔ ∃ r ∈ l, ∃ x ∈ keptRuns first count r, x.pkey = k ∧ x.covers n := by
    simp only [List.mem_flatMap]
    tauto
  simp only [hassoc, exists_mem_keptRuns]
  constructor
  · rintro ⟨r, hr, hn, hkn⟩
    exact ⟨hn, r, hr, hkn⟩
  · rintro ⟨hn, r, hr, hkn⟩
    exact ⟨r, hr, hn, hkn⟩

theorem cmdLockFree_frees_variables {env : CmdEnv} {a : CmdArgs} {b : Begun} {u : State} (hw : badWords a [3, allBits, allBits] = false)
    (hvar : bit a.w1.toNat 0 = true) (hcount : 0 < a.w3.toNat) (htop : a.w2.toNat + a.w3.toNat ≤ u.varBytes / 16)
    (hallocated : u.varsIn a.w2.toNat a.w3.toNat = a.w3.toNat)
    (hown : ∀ r ∈ u.svc.varRuns, r.first < a.w2.toNat + a.w3.toNat → a.w2.toNat < r.first + r.count → r.mid = a.mid) :
    cmdLockFree env a b u = (.ok,
      withVariables (u.svc.varRuns.flatMap (keptRuns a.w2.toNat a.w3.toNat)) (varsOutside a.w2.toNat a.w3.toNat u) u) := by
  have hmay : u.svc.varRuns.any (fun r => decide (r.first < a.w2.toNat + a.w3.toNat) && decide (a.w2.toNat < r.first + r.count)
      && !mayName a r.mid) = false := by
    refine List.any_eq_false.2 fun r hr => ?_
    simp only [Bool.and_eq_true, decide_eq_true_eq, Bool.not_eq_true', not_and, Bool.not_eq_false, and_imp]
    exact fun hlow hhigh => mayName_of_eq (hown r hr hlow hhigh)
  unfold cmdLockFree
  dsimp only
  rw [hvar, if_neg (by simp [hw]; omega), if_pos rfl, if_neg (not_not.2 hallocated), hmay, if_neg (by decide)]
  rfl

end Sys2Proof.Machine

namespace Sys2Proof.Machine

/-! ### Locks and variable slots are allocated and freed (R254, R257, R263, R268, R458) -/

section
variable {env : CmdEnv} {a : CmdArgs} {s : State}

theorem lockAlloc_completes (h : RingTurn 0x28 a s) (hw : badWords a [1 + mask 47 32, allBits, allBits] = false)
    (hvar : bit a.w1.toNat 0 = false) (hcount : 0 < a.w3.toNat) (htop : a.w2.toNat + a.w3.toNat ≤ lockCount)
    (hp : (s.partition? (bits a.w1.toNat 47 32)).isSome = true)
    (hunused : ∀ l ∈ s.svc.locks, l.num < a.w2.toNat ∨ a.w2.toNat + a.w3.toNat ≤ l.num) :
    ∃ t, onRing 0x28 cmdLockAlloc env a s = .next t ∧ Answered 0x28 a s s t csOk 0 0 0 ∧ Only [.ring, .regs, .held, .locks] s t
      ∧ ∀ n, t.lock? n = if a.w2.toNat ≤ n ∧ n < a.w2.toNat + a.w3.toNat then some (newLock a n) else s.lock? n := by
  have hbody := cmdLockAlloc_adds (env := env) (b := begunAs 0x28 a s) (u := takenBy 0x28 a s) hw hvar hcount htop
    (by rwa [takenBy_partition?]) (by rwa [takenBy_svc])
  obtain ⟨t, ht, hanswered, honly, hlocks⟩ := ring_sets_locks h (.inl rfl) hbody
  refine ⟨t, ht, hanswered, honly, fun n => ?_⟩
  rw [State.lock?, hlocks, takenBy_svc, find?_append_newLocks hunused]
  rfl

theorem lockAlloc_completes_variables (h : RingTurn 0x28 a s) (hw : badWords a [1 + mask 47 32, allBits, allBits] = false)
    (hvar : bit a.w1.toNat 0 = true) (hcount : 0 < a.w3.toNat) (htop : a.w2.toNat + a.w3.toNat ≤ s.varBytes / 16)
    (hp : (s.partition? (bits a.w1.toNat 47 32)).isSome = true) (hunused : s.varsIn a.w2.toNat a.w3.toNat = 0) :
    ∃ t, onRing 0x28 cmdLockAlloc env a s = .next t ∧ Answered 0x28 a s s t csOk 0 0 0 ∧ Only [.ring, .regs, .held, .variables] s t
      ∧ t.svc.varRuns = s.svc.varRuns ++ [newVarRun a] ∧ t.svc.vars = varsOutside a.w2.toNat a.w3.toNat s := by
  have hbody := cmdLockAlloc_adds_variables (env := env) (b := begunAs 0x28 a s) (u := takenBy 0x28 a s) hw hvar hcount
    (by rwa [takenBy_varBytes]) (by rwa [takenBy_partition?]) (by rwa [takenBy_varsIn])
  rw [takenBy_varsOutside, takenBy_svc] at hbody
  exact ring_sets_variables h (.inl rfl) hbody

theorem lockFree_protects (h : RingTurn 0x29 a s) (hf : FreesLocks a s) (hother : ∃ l ∈ s.locksNamed a, l.mid ≠ a.mid) :
    ∃ t, onRing 0x29 cmdLockFree env a s = .next t ∧ Answered 0x29 a s s t csProtection 0 0 0 ∧ Only [.ring, .regs, .held] s t :=
  ring_refuses_lockOp h (.inr rfl) (cmdLockFree_protects hf.taken h.host (by rwa [takenBy_locksNamed]))

theorem lockFree_busy (h : RingTurn 0x29 a s) (hf : FreesLocks a s) (hforce : bit a.w1.toNat 1 = false)
    (hown : ∀ l ∈ s.locksNamed a, l.mid = a.mid) (hheld : ∃ l ∈ s.locksNamed a, l.owner.isSome = true) :
    ∃ t, onRing 0x29 cmdLockFree env a s = .next t ∧ Answered 0x29 a s s t csBusy 0 0 0 ∧ Only [.ring, .regs, .held] s t :=
  ring_refuses_lockOp h (.inr rfl) (cmdLockFree_busy hf.taken hforce (by rwa [takenBy_locksNamed]) (by rwa [takenBy_locksNamed]))

theorem lockFree_completes (h : RingTurn 0x29 a s) (hf : FreesLocks a s) (hown : ∀ l ∈ s.locksNamed a, l.mid = a.mid)
    (hfree : ∀ l ∈ s.locksNamed a, l.owner = none ∧ l.waiters = []) :
    ∃ t, onRing 0x29 cmdLockFree env a s = .next t ∧ Answered 0x29 a s s t csOk 0 0 0 ∧ Only [.ring, .regs, .held, .locks] s t
      ∧ ∀ n, t.lock? n = if a.w2.toNat ≤ n ∧ n < a.w2.toNat + a.w3.toNat then none else s.lock? n := by
  have hbody := cmdLockFree_frees (env := env) (b := begunAs 0x29 a s) (hf.taken (op := 0x29))
    (by rwa [takenBy_locksNamed]) (by rwa [takenBy_locksNamed])
  obtain ⟨t, ht, hanswered, honly, hlocks⟩ := ring_sets_locks h (.inr rfl) hbody
  refine ⟨t, ht, hanswered, honly, fun n => ?_⟩
  rw [State.lock?, hlocks, takenBy_svc, find?_locksOutside]
  rfl

theorem lockFree_completes_forced (h : RingTurn 0x29 a s) (hf : FreesLocks a s) (hforce : bit a.w1.toNat 1 = true)
    (hown : ∀ l ∈ s.locksNamed a, l.mid = a.mid) :
    onRing 0x29 cmdLockFree env a s
      = .next (completeCmd (begunAs 0x29 a s) csOk 0 0 0 (unallocated a (forceAll (s.locksNamed a) (takenBy 0x29 a s)))) := by
  rw [ring_turn h, cmdLockFree_forces hf.taken hforce (by rwa [takenBy_locksNamed]), takenBy_locksNamed]
  rfl

theorem lockFree_completes_variables (h : RingTurn 0x29 a s) (hw : badWords a [3, allBits, allBits] = false)
    (hvar : bit a.w1.toNat 0 = true) (hcount : 0 < a.w3.toNat) (htop : a.w2.toNat + a.w3.toNat ≤ s.varBytes / 16)
    (hallocated : s.varsIn a.w2.toNat a.w3.toNat = a.w3.toNat)
    (hown : ∀ r ∈ s.svc.varRuns, r.first < a.w2.toNat + a.w3.toNat → a.w2.toNat < r.first + r.count → r.mid = a.mid) :
    ∃ t, onRing 0x29 cmdLockFree env a s = .next t ∧ Answered 0x29 a s s t csOk 0 0 0 ∧ Only [.ring, .regs, .held, .variables] s t
      ∧ t.svc.varRuns = s.svc.varRuns.flatMap (keptRuns a.w2.toNat a.w3.toNat) ∧ t.svc.vars = varsOutside a.w2.toNat a.w3.toNat s := by
  have hbody := cmdLockFree_frees_variables (env := env) (b := begunAs 0x29 a s) (u := takenBy 0x29 a s) hw hvar hcount
    (by rwa [takenBy_varBytes]) (by rwa [takenBy_varsIn]) (by rwa [takenBy_svc])
  rw [takenBy_varsOutside, takenBy_svc] at hbody
  exact ring_sets_variables h (.inr rfl) hbody

end

/-- Settles O30: the bodies add the run or take it away; a run that nobody holds or waits for is taken without a message. -/
theorem locksAndVariablesAreAllocatedAndFreed : Obligations.LocksAndVariablesAreAllocatedAndFreed := by
  unfold Obligations.LocksAndVariablesAreAllocatedAndFreed
  refine ⟨?_, ?_, ?_, ?_, ?_⟩
  · intro env a s h hw hvar hcount htop hp hunused
    exact lockAlloc_completes h hw hvar hcount htop hp hunused
  · intro env a s h hw hvar hcount htop hp hunused
    obtain ⟨t, ht, hanswered, honly, hruns, hvars⟩ := lockAlloc_completes_variables (env := env) h hw hvar hcount htop hp hunused
    exact ⟨t, ht, hanswered, honly, hruns, fun v => by rw [hvars]; exact mem_varsOutside⟩
  · intro env a s h hw hvar hforce hcount htop hlen
    have hf : FreesLocks (withW1 1 0 0 a) s := ⟨hw, hvar, hcount, htop, hlen⟩
    refine ⟨?_, fun hmine => ?_⟩
    · rintro ⟨l, hl, hlow, hhigh, hmid⟩
      exact lockFree_protects h hf ⟨l, mem_locksNamed.2 ⟨hl, hlow, hhigh⟩, hmid⟩
    have hown : ∀ l ∈ s.locksNamed (withW1 1 0 0 a), l.mid = a.mid := fun l hl => by
      obtain ⟨hmem, hlow, hhigh⟩ := mem_locksNamed.1 hl
      exact hmine l hmem hlow hhigh
    refine ⟨fun hfree => ?_, ?_⟩
    · refine lockFree_completes h hf hown fun l hl => ?_
      obtain ⟨hmem, hlow, hhigh⟩ := mem_locksNamed.1 hl
      exact hfree l hmem hlow hhigh
    · rintro ⟨l, hl, hlow, hhigh, hheld⟩
      exact lockFree_busy h hf hforce hown ⟨l, mem_locksNamed.2 ⟨hl, hlow, hhigh⟩, hheld⟩
  · intro env a s h hw hvar hforce hcount htop l hlen hown
    exact lockFree_completes_forced h ⟨hw, hvar, hcount, htop, hlen⟩ hforce hown
  · intro env a s h hw hvar hcount htop hallocated hown
    obtain ⟨t, ht, hanswered, honly, hruns, hvars⟩ := lockFree_completes_variables (env := env) h hw hvar hcount htop hallocated hown
    refine ⟨t, ht, hanswered, honly, fun n k => ?_, fun v => by rw [hvars]; exact mem_varsOutside⟩
    rw [hruns]
    exact exists_mem_flatMap_keptRuns

end Sys2Proof.Machine

namespace Sys2Proof.Machine

/-! ### Rows of the fabric side on a unit that the device has, while the fabric side runs (R20, R432, R443, R514) -/

section
variable {s : State} {f : State → State} {g : Nat → State → State} {count n : Nat}

theorem onInstance_of_lt (h : n < count) : onInstance count n g s = .next (g n s) := by
  rw [onInstance, instOf_of_lt h]

theorem whenFab_of_running (h : s.fabRunning = true) : whenFab f s = f s := if_pos h

theorem whenForwarding_of_running (hd : s.dieStopped (n / 4) = false) (h : s.fabRunning = true) : whenForwarding n f s = f s := by
  rw [whenForwarding, if_neg (by simp [hd]), whenFab_of_running h]

theorem SliceWorks.source (h : SliceWorks n s) : whenSource n f s = f s := by
  rw [whenSource, if_neg (by simp [h.alive]), whenForwarding_of_running h.die h.fab]

end

/-! ### Packets enter their slice (R299, R302, R309) -/

section
variable {s : State} {n seq : Nat} {p : SwPkt} {m : Option (Nat × List Nat)}

theorem portArrival_of_works (hn : n < 128) (h : SliceWorks (n / 16) s) :
    exec (.switchPacketArrival (.port n) seq p m) s = .next (headArrives n seq p s) := by
  show execSwitchPacketArrival (.port n) seq p m s = _
  rw [execSwitchPacketArrival, onInstance_of_lt hn, show sliceOf (.port n) = n / 16 from rfl, h.source]

theorem epArrival_of_works {q : Packet} (hn : n < 8) (h : SliceWorks n s) (hb : p.body = .packet q) :
    exec (.switchPacketArrival (.ep n) seq p m) s = .next (injectEp n (swPacket { q with src := s.ownFa n } s) s) := by
  show execSwitchPacketArrival (.ep n) seq p m s = _
  rw [execSwitchPacketArrival, onInstance_of_lt hn, show sliceOf (.ep n) = n from rfl, h.source, hb]

theorem clusterArrival_of_works {q : Packet} (hn : n < 8) (h : SliceWorks n s) (hb : p.body = .packet q) :
    exec (.switchPacketArrival (.cluster n) seq p m) s
      = .next (inject { src := .cluster n, pkt := swPacket q s, mcast := m, port := none } s) := by
  show execSwitchPacketArrival (.cluster n) seq p m s = _
  rw [execSwitchPacketArrival, onInstance_of_lt hn, show sliceOf (.cluster n) = n from rfl, h.source, hb]

theorem mgmtArrival_of_works {ws : List Word} (h : SliceWorks 7 s) (hb : p.body = .words ws) :
    exec (.switchPacketArrival .mgmt seq p m) s
      = .next (inject { src := .mgmt, pkt := { vc7Packet p.dst p.mtype ws s with src := p.src }, mcast := m, port := none } s) := by
  refine congrArg Host.Outcome.next (h.source.trans ?_)
  rw [hb]

end

/-! ### The next frame of an output (R317, R320, R346) -/

section
variable {s : State} {n ecc cell : Nat} {e : QEntry} {x : Egress}

theorem portFrameStart (hn : n < 128) (h : s.fabRunning = true) (hd : s.dieStopped (n / 16 / 4) = false) :
    exec (.egressFrameStart (.port n) ecc cell) s = .next (if s.ethPort n then ethTx n ecc cell s else portStart n ecc cell s) := by
  show execEgressFrameStart (.port n) ecc cell s = _
  rw [execEgressFrameStart, onInstance_of_lt hn, whenForwarding_of_running hd h]

/-- Nothing keeps a fabric port from starting a frame: its link is up and not quiet, and no frame has begun. -/
structure PortSends (n : Nat) (s : State) : Prop where
  up : (s.port n).state = .up
  awake : (s.port n).quiet = false
  idle : (s.egress (.port n)).q.any (·.begun) = false

theorem PortSends.stops (h : PortSends n s) : portStart n 2 cell s = controlEcc (n / 16) cell s := by
  rw [portStart, if_neg (by simp [h.up, h.awake, h.idle]), if_pos rfl]

theorem PortSends.replay {w : WinEntry} (h : PortSends n s) (he : ecc ≠ 2) (hw : (s.port n).replayNext? = some w) :
    portStart n ecc cell s = replayFrame n w ecc cell (noteStart (16 + n / 16) s) := by
  rw [portStart, if_neg (by simp [h.up, h.awake, h.idle]), if_neg he]
  simp only [hw]

theorem PortSends.next (h : PortSends n s) (he : ecc ≠ 2) (hw : (s.port n).replayNext? = none)
    (hx : egressNext (noteStalls (.port n) s) (.port n) = (some e, x)) :
    let u := noteStart (16 + n / 16) (noteStalls (.port n) s)
    portStart n ecc cell s = fabSettle (portSend n e ecc cell
      (updEgress (.port n) (fun _ => x) (paceWait n (if ecc = 3 then bufferCorrected (u.sliceOfPid e.pid) u else u)))) := by
  rw [portStart, if_neg (by simp [h.up, h.awake, h.idle]), if_neg he]
  simp only [hw, hx]

/-- The slice of an internal sink, as the rows number them. -/
theorem outSlice_of_sink {o : Output} (ho : o = .ep n ∧ n < 8 ∨ o = .cluster n ∧ n < 8 ∨ o = .mgmt ∧ n = 7) : outSlice o = n := by
  obtain ⟨rfl, -⟩ | ⟨rfl, -⟩ | ⟨rfl, rfl⟩ := ho <;> rfl

theorem sinkFrameStart {o : Output} (ho : o = .ep n ∧ n < 8 ∨ o = .cluster n ∧ n < 8 ∨ o = .mgmt ∧ n = 7)
    (h : s.fabRunning = true) (hd : s.dieStopped (n / 4) = false) :
    exec (.egressFrameStart o ecc cell) s = .next (if ecc = 2 then controlEcc n cell s else sinkStart o ecc cell s) := by
  show execEgressFrameStart o ecc cell s = _
  obtain ⟨rfl, hn⟩ | ⟨rfl, hn⟩ | ⟨rfl, rfl⟩ := ho
  · rw [execEgressFrameStart, onInstance_of_lt hn, whenForwarding_of_running hd h]
  · rw [execEgressFrameStart, onInstance_of_lt hn, whenForwarding_of_running hd h]
  · rw [execEgressFrameStart, whenForwarding_of_running hd h]

theorem sinkStart_uncorrectable {o : Output} (hx : egressNext (noteStalls o s) o = (some e, x)) :
    sinkStart o 1 cell s = fabSettle (cellEcc o e cell (updEgress o (fun _ => x) (noteStart (16 + outSlice o) (noteStalls o s)))) := by
  unfold sinkStart
  extract_lets u
  rw [hx]
  rfl

theorem sinkStart_delivers {o : Output} (hx : egressNext (noteStalls o s) o = (some e, x)) (hm : e.mirror = false) :
    let u := updEgress o (fun _ => x) (noteStart (16 + outSlice o) (noteStalls o s))
    let v := updFab (fun f => { f with
      handed := f.handed ++ (holdable o e.pkt).toList.map (fun q => (e.pid, q))
      passing := f.passing ++ passingBy (u.genOfPid e.pid) e.pkt }) (dropEntry o e u)
    sinkStart o 0 cell s = fabSettle ((if u.ownPid e.pid then noteRoute true e.pkt v else v).emit (.deliver o e.pkt)) := by
  intro u v
  unfold sinkStart
  extract_lets w
  rw [hx]
  dsimp only
  rw [hm, if_neg (by decide : ¬ 0 = 1), if_neg (by decide : ¬ 0 = 3)]

end
end Sys2Proof.Machine

namespace Sys2Proof.Machine

/-! ### What follows a step of the switch core (R278, R281, R305) -/

/-- Where no packet is queued and none waits to enter, charges end and nothing else follows. -/
theorem fabSettle_of_idle {s : State} (he : s.fab.egress = []) (hi : s.fab.inject = []) : fabSettle s = settleCells s := by
  have hegress : (settleCells s).fab.egress = [] := (settleCells_within.keeps_fab_egress rfl).trans he
  have hinject : (settleCells s).fab.inject = [] := (settleCells_within.keeps_fab_inject rfl).trans hi
  have hrewait : rewaitAll (settleCells s) = settleCells s := by rw [rewaitAll, hegress, List.foldl_nil]
  rw [fabSettle, hinject, List.isEmpty_nil, if_pos rfl, hrewait, noteBlockedAll, hegress, List.foldl_nil]

/-! ### The shared pool, the escape, and residues (R281, R302, R310) -/

section
variable {s : State} {n pid : Nat} {e : QEntry}

theorem sharedPoolTransfer_moves (hn : n < 8) (h : s.fabRunning = true) :
    exec (.sharedPoolTransfer n) s
      = .next (fabSettle (grantSlice n ((s.fab.stored.filter (fun x => x.slice = n)).foldl (fun s x => shareOne x s) s))) := by
  show execSharedPoolTransfer n s = _
  rw [execSharedPoolTransfer, onInstance_of_lt hn, whenFab_of_running h]

theorem escapeWaitExpiry_due {w : Nat} (hn : n < 128) (h : s.fabRunning = true) (hw : e.wait = some w)
    (he : (s.egress (.port n)).q.find? (fun e => e.pid = pid && !e.mirror && !e.residue && !e.begun && decide (e.pkt.vc < 6)
      && decide (e.pkt.vc % 2 = 0)) = some e) :
    exec (.escapeWaitExpiry n pid) s = .next (fabSettle (escapeDue n e w
      (s.advanceTo (w + ns (atLeast1 ((s.view (s.genOfPid pid)).fld .rteRouteCtrl 0 63 48)))))) := by
  show execEscapeWaitExpiry n pid s = _
  rw [execEscapeWaitExpiry, onInstance_of_lt hn, whenFab_of_running h, he]
  dsimp only
  rw [hw]

theorem residueTimeout_fences (hn : n < 128) (h : s.fabRunning = true)
    (he : (s.egress (.port n)).q.find? (fun e => e.pid = pid && e.residue) = some e) :
    let k := s.sliceOfPid pid
    let u := dropEntry (.port n) e (s.advanceTo (e.since + us (atLeast1 ((s.view (s.genOfPid pid)).fldI .swcResidueTmo k 0 19 0))))
    exec (.residueTimeout n pid) s = .next (fabSettle (updFport n (fun p => { p with fenced := true })
      (report .swcResidueStall 0x13 k n (u.capture .swcErr k 0 (at_ 60 3 + at_ 32 n))))) := by
  show execResidueTimeout n pid s = _
  rw [execResidueTimeout, onInstance_of_lt hn, whenFab_of_running h, he]

end

/-! ### Audit passes (R316) -/

/-- The state in which the suspect cells of a slice are those of them that p holds of. -/
def keepSuspects (n : Nat) (p : Nat → Bool) (s : State) : State :=
  updFab (fun f => { f with suspects := f.suspects.filter (fun x => decide (x.1 ≠ n) || p x.2) }) s

section
variable {s : State} {n : Nat}

theorem keepSuspects_within {p : Nat → Bool} : Within 0x4000000000000000000000000000000000000000000 s (keepSuspects n p s) :=
  Within.refl.updFab rfl

theorem auditPass_judges {leaked doubled : List Nat} (hn : n < 8) (h : s.fabRunning = true) (he : s.fldI .swcAudit n 0 63 63 ≠ 0) :
    let l := (leaked.map (· % 131072)).eraseDups
    let d := ((doubled.map (· % 131072)).filter (fun c => !l.contains c)).eraseDups
    exec (.auditPass n leaked doubled) s = .next (fabSettle (d.foldl (doubleCell n) (l.foldl (auditCell n)
      (keepSuspects n l.contains (tick n (ms (atLeast1 (s.fldI .swcAudit n 0 15 0))) s))))) := by
  show execAuditPass n leaked doubled s = _
  rw [execAuditPass, onInstance_of_lt hn, whenFab_of_running h, if_neg he]
  rfl

/-- A pass that finds no cell forgets the suspects of its slice. -/
theorem auditPass_forgets (hn : n < 8) (h : s.fabRunning = true) (he : s.fldI .swcAudit n 0 63 63 ≠ 0) :
    ∃ t, exec (.auditPass n [] []) s = .next t ∧ (∀ x ∈ t.fab.suspects, x.1 ≠ n)
      ∧ (s.fab.egress = [] → s.fab.inject = [] → Only [.clock, .suspects, .stored, .ports, .periods] s t) := by
  let u := keepSuspects n ([] : List Nat).contains (tick n (ms (atLeast1 (s.fldI .swcAudit n 0 15 0))) s)
  have hticked : Within 0x5000000000000000000000000000000000000000030 s u := keepSuspects_within.app rfl (tick_within.weaken rfl)
  refine ⟨fabSettle u, auditPass_judges (leaked := []) (doubled := []) hn h he, fun x hx => ?_, fun hegress hinject => ?_⟩
  · rw [fabSettle_within.keeps_fab_suspects rfl] at hx
    simpa using (List.mem_filter.1 hx).2
  · refine Within.only (m := 0xd100080000000000000000000000000000000000030) _ ?_ (by intro p; cases p <;> decide)
    rw [fabSettle_of_idle ((hticked.keeps_fab_egress rfl).trans hegress) ((hticked.keeps_fab_inject rfl).trans hinject)]
    exact settleCells_within.app rfl (hticked.weaken rfl)

end

/-! ### Congestion vectors (R287, R289) -/

section
variable {s : State}

/-- A period that ends leaves the registers and the configuration sets. -/
theorem tick_raw {code period k : Nat} (r : Reg) (i : Nat) : (tick code period s).raw r i k = s.raw r i k := by
  have h := tick_within (code := code) (period := period) (s := s)
  unfold State.raw State.bank
  rw [h.keeps_regs rfl, h.keeps_bank0 rfl, h.keeps_bank1 rfl, h.keeps_cmd_bank rfl]

theorem cvecPeriodExpiry_sends (h : s.fabRunning = true) (hp : s.cvecPeriod ≠ 0) (hd : s.dims ≠ 0) :
    let u := tick 8 (ns s.cvecPeriod) s
    let ws := word u.dtimeNs :: word (at_ 32 u.fab.vecSeq) :: u.vector
    exec .cvecPeriodExpiry s = .next (updFab (fun f => { f with vecSeq := (f.vecSeq + 1) % 2 ^ 32, vecLast := u.vector })
      ((List.range (ndimOf s.dims)).foldl
        (fun t d => inject { src := .mgmt, pkt := vc7Packet 0 1 ws t, mcast := some (d, t.lineCoords d), port := none } t) u)) := by
  show execCvecPeriodExpiry s = _
  rw [execCvecPeriodExpiry, whenFab_of_running h, if_neg (by simp [hp, hd])]
  dsimp only
  rw [show (tick 8 (ns s.cvecPeriod) s).dims = s.dims from tick_raw _ _]

/-- The state with a vector kept as the latest of its neighbour. -/
def withVector (v : Vector_) (s : State) : State :=
  updFab (fun f => { f with vectors := v :: f.vectors.filter (fun x => !(x.dim = v.dim && x.coord = v.coord)) }) s

theorem withVector_within {v : Vector_} : Within 0x800000000000000000000000000000000000000 s (withVector v s) :=
  Within.refl.updFab rfl

theorem cvecArrival_keeps {src : Fa} {seq d : Nat} {ws : List Word} (h : s.fabRunning = true) (hu : s.unresolved src = [d])
    (hr : s.routable src = true)
    (hnew : ∀ v ∈ s.fab.vectors, v.dim = d → v.coord = coordOf src d → 0 < subMod (2 ^ 32) seq v.seq ∧ subMod (2 ^ 32) seq v.seq < 2 ^ 31) :
    exec (.cvecArrival src seq ws) s
      = .next (withVector { dim := d, coord := coordOf src d, seq := seq % 2 ^ 32, at_ := s.clk.now, ws := ws.take 8 } s) := by
  show execCvecArrival src seq ws s = _
  rw [execCvecArrival, whenFab_of_running h, hu]
  dsimp only
  have hnone : s.fab.vectors.any (fun v => v.dim = d && v.coord = coordOf src d
      && !(decide (0 < subMod (2 ^ 32) seq v.seq) && decide (subMod (2 ^ 32) seq v.seq < 2 ^ 31))) = false := by
    refine List.any_eq_false.2 fun v hv => ?_
    rw [Bool.and_eq_true, Bool.and_eq_true, decide_eq_true_eq, decide_eq_true_eq]
    rintro ⟨⟨hdim, hcoord⟩, hold⟩
    obtain ⟨hahead, hbelow⟩ := hnew v hv hdim hcoord
    rw [decide_eq_true hahead, decide_eq_true hbelow] at hold
    exact Bool.noConfusion hold
  rw [if_neg (by simp only [hr, hnone]; decide)]
  rfl

end

/-! ### Congestion map records (R297, R536) -/

section
variable {s : State}

theorem mapPeriodExpiry_sends (h : s.fabRunning = true) (he : s.fld .rteMapCtrl 0 63 63 ≠ 0) :
    let u := tick 9 s.mapPeriod s
    exec .mapPeriodExpiry s = .next (inject { src := .mgmt, pkt := vc7Packet (s.fld .rteMapCtrl 0 31 0) 3 u.mapRecord u, mcast := none, port := none }
      (updFab (fun f => { f with mapSeq := (f.mapSeq + 1) % 2 ^ 32 }) u)) := by
  show execMapPeriodExpiry s = _
  rw [execMapPeriodExpiry, whenFab_of_running h, if_neg he]
  dsimp only
  rw [show (tick 9 s.mapPeriod s).fld .rteMapCtrl 0 31 0 = s.fld .rteMapCtrl 0 31 0 from congrArg (bits · 31 0) (tick_raw _ _)]

theorem isMapRecord_vc7Packet {dst : Fa} {ws : List Word} : isMapRecord true (vc7Packet dst 3 ws s) = true := rfl

variable {v w : State} {c pid : Nat} {p : SwPkt}

theorem placePacket_mapRecord_dropped {r : Nat} (hp : isMapRecord true p = true) (hr : routeHop (v.lastHop p) p v = (.none r, w)) :
    placePacket true c pid p v = w.count 3 1 := by
  unfold placePacket
  extract_lets avoid base e sent
  rw [show avoid = v.lastHop p from rfl, hr]
  exact if_pos hp

theorem placePacket_mapRecord_sent {q vc : Nat} {d : Option Nat} {b : Bool} (hp : isMapRecord true p = true)
    (hr : routeHop (v.lastHop p) p v = (.via q vc d b, w)) : (placePacket true c pid p v).counters = (w.count 2 1).counters := by
  unfold placePacket
  extract_lets avoid base e sent
  rw [show avoid = v.lastHop p from rfl, hr]
  refine (congrArg State.counters (if_pos hp)).trans ?_
  exact congrArg (countIn · 2 1) (queueAt_within.keeps_counters rfl)

end

/-- Settles O52: each row of the switch core acts on a unit that the device has, so it takes the branch that the hypotheses name. -/
theorem switchMovesPackets : Obligations.SwitchMovesPackets := by
  unfold Obligations.SwitchMovesPackets
  refine ⟨fun n seq p m s => portArrival_of_works, fun n seq p m q s hn h hb => ⟨epArrival_of_works hn h hb, clusterArrival_of_works hn h hb⟩,
    fun seq p m ws s => mgmtArrival_of_works, fun n s => sharedPoolTransfer_moves, fun n pid s e w => escapeWaitExpiry_due,
    fun n ecc cell s hn h hd => ⟨fun he => ?_, fun he hup hquiet hidle => ?_⟩,
    fun o n cell s e x ho h hd => ?_, fun n pid s e => residueTimeout_fences,
    fun n leaked doubled s hn h he => ⟨auditPass_judges hn h he, auditPass_forgets hn h he⟩, fun s => cvecPeriodExpiry_sends,
    fun src seq ws s d h hu hr hnew => ?_,
    fun s h he => ⟨mapPeriodExpiry_sends h he, fun c pid r v w => placePacket_mapRecord_dropped isMapRecord_vc7Packet,
      fun c pid q vc d b v w => placePacket_mapRecord_sent isMapRecord_vc7Packet⟩⟩
  · rw [portFrameStart hn h hd, if_pos he]
  · have hsends : PortSends n s := ⟨hup, hquiet, hidle⟩
    rw [portFrameStart hn h hd, if_neg (by simp [he])]
    refine ⟨fun hecc => ?_, fun hecc => ⟨fun w hw => ?_, fun hw e x hx => ?_⟩⟩
    · rw [hecc, hsends.stops]
    · rw [hsends.replay hecc hw]
    · exact congrArg _ (hsends.next hecc hw hx)
  · refine ⟨by rw [sinkFrameStart ho h hd, if_pos rfl], fun hx => ⟨?_, fun hm => ?_⟩⟩
    · rw [sinkFrameStart ho h hd, if_neg (by decide), sinkStart_uncorrectable hx, outSlice_of_sink ho]
    · have hsent := sinkStart_delivers (cell := cell) hx hm
      rw [outSlice_of_sink ho] at hsent
      rw [sinkFrameStart ho h hd, if_neg (by decide), hsent]
  · exact ⟨_, cvecArrival_keeps h hu hr hnew, withVector_within.only _ (by intro p; cases p <;> decide),
      _, List.mem_cons_self, rfl, rfl, rfl, rfl⟩

end Sys2Proof.Machine

namespace Sys2Proof.Machine

/-! ### The fence and the link of each port (R278, R357): what settling the switch core leaves -/

/-- What a lookup asks of a port itself: its fence, and its link's state (R278). -/
def State.portUse (s : State) (n : Nat) : Bool × LinkState := ((s.port n).fenced, (s.port n).state)

section
variable {s t : State}

theorem portUse_of_ports (h : t.fab.ports = s.fab.ports) : t.portUse = s.portUse := by
  unfold State.portUse State.port
  rw [h]

/-- Whatever leaves the ports leaves their use. -/
theorem Within.keeps_portUse {m : Nat} (h : Within m s t) (k : m.testBit 171 = false) : t.portUse = s.portUse :=
  portUse_of_ports (h.keeps_fab_ports k)

theorem num_of_port (n : Nat) : (s.port n).num = n := by
  unfold State.port
  cases h : s.fab.ports.find? (fun p => p.num = n) with
  | none => rfl
  | some p => exact of_decide_eq_true (List.find?_some (p := fun p : Port => decide (p.num = n)) h)

theorem port_updFport {n : Nat} {f : Port → Port} (hf : ∀ p, (f p).num = p.num) (m : Nat) :
    (updFport n f s).port m = if m = n then f (s.port n) else s.port m := by
  have hnum : (f (s.port n)).num = n := (hf _).trans (num_of_port n)
  show ((f (s.port n) :: s.fab.ports.filter (fun p => p.num ≠ n)).find? (fun p => p.num = m)).getD (Port.reset m) = _
  by_cases hm : m = n
  · rw [List.find?_cons_of_pos (by simp [hnum, hm]), if_pos hm, Option.getD_some]
  · rw [List.find?_cons_of_neg (by simp [hnum, Ne.symm hm]), if_neg hm, List.find?_filter]
    unfold State.port
    congr 2
    funext p
    grind

/-- An update of a port that leaves its number, its fence and its link's state. -/
theorem updFport_portUse {n : Nat} {f : Port → Port} (hnum : ∀ p, (f p).num = p.num) (hfence : ∀ p, (f p).fenced = p.fenced)
    (hstate : ∀ p, (f p).state = p.state) : (updFport n f s).portUse = s.portUse := by
  funext m
  unfold State.portUse
  rw [port_updFport hnum]
  split
  next h => rw [h, hfence, hstate]
  next => rfl

theorem foldl_portUse {α : Type} {f : State → α → State} (hf : ∀ s x, (f s x).portUse = s.portUse) (l : List α) (s : State) :
    (l.foldl f s).portUse = s.portUse := by
  induction l generalizing s with
  | nil => rfl
  | cons x l ih => exact (ih (f s x)).trans (hf s x)

@[simp] theorem updEgress_portUse {o : Output} {f : Egress → Egress} : (updEgress o f s).portUse = s.portUse := rfl

@[simp] theorem count_portUse {i n : Nat} : (s.count i n).portUse = s.portUse := rfl

/-! #### Charges and credit -/

@[simp] theorem grantCells_portUse {src : Source} {v : Nat} : (grantCells src v s).portUse = s.portUse := by
  unfold grantCells
  split
  next p =>
    extract_lets want n more
    split
    · rfl
    · exact updFport_portUse (fun _ => rfl) (fun _ => rfl) (fun _ => rfl)
  next => rfl

@[simp] theorem shareOne_portUse {x : Stored} : (shareOne x s).portUse = s.portUse := by
  unfold shareOne
  split
  · split
    · exact grantCells_portUse
    · rfl
  · rfl

@[simp] theorem recharge_portUse {x : Stored} {replay : Bool} : (recharge x replay s).portUse = s.portUse := by
  unfold recharge
  extract_lets put s'
  have hs' : s'.portUse = s.portUse := by cases replay <;> rfl
  split
  · cases replay <;> rfl
  · split
    · rfl
    · exact grantCells_portUse.trans hs'

@[simp] theorem mirrorCharge_portUse {x : Stored} : (mirrorCharge x s).portUse = s.portUse := by
  unfold mirrorCharge
  extract_lets u
  split
  · rfl
  · split
    · rfl
    · exact grantCells_portUse

@[simp] theorem settleOne_portUse {x : Stored} : (settleOne x s).portUse = s.portUse := by
  unfold settleOne
  extract_lets u
  split
  · rfl
  · split
    · exact recharge_portUse
    · split
      · exact mirrorCharge_portUse
      · split
        · exact recharge_portUse
        · split
          · rfl
          · exact grantCells_portUse

@[simp] theorem settleCells_portUse : (settleCells s).portUse = s.portUse := foldl_portUse (fun _ _ => settleOne_portUse) _ _

@[simp] theorem storePacket_portUse {src : Source} {v len seq : Nat} {whole mcast : Bool} :
    (storePacket src v len whole mcast seq s).2.portUse = s.portUse := shareOne_portUse

/-! #### Queues and routes -/

@[simp] theorem quietEnds_portUse {port : Nat} : (quietEnds port s).portUse = s.portUse := by
  unfold quietEnds
  split
  · exact updFport_portUse (fun _ => rfl) (fun _ => rfl) (fun _ => rfl)
  · rfl

@[simp] theorem queueAt_portUse {port : Nat} {e : QEntry} : (queueAt port e s).portUse = s.portUse := by
  unfold queueAt
  split
  next mark u hmark =>
    have hu : u.portUse = s.portUse := by
      refine (Within2.of (m := 0x8) hmark ?_).keeps_portUse rfl
      exact Within2.ite Within.refl markDraw_within
    exact quietEnds_portUse.trans hu

/-- A packet without a route takes no port down: its report is of class C1, which the hub alone takes (R295, R507). -/
@[simp] theorem noRouteTransit_portUse {cause : Nat} {p : SwPkt} : (noRouteTransit cause p s).portUse = s.portUse :=
  (hubTake_within.app (m := 0x100002001f02000000000000) rfl
    (State.capture_within.app rfl (State.count_within.weaken rfl))).keeps_portUse rfl

@[simp] theorem noRoute_portUse {source : Bool} {cause : Nat} {p : SwPkt} : (noRoute source cause p s).portUse = s.portUse := by
  unfold noRoute
  split
  · exact noteRoute_within.keeps_portUse rfl
  · exact noRouteTransit_portUse

@[simp] theorem placePacket_portUse {source : Bool} {color pid : Nat} {p : SwPkt} : (placePacket source color pid p s).portUse = s.portUse := by
  unfold placePacket
  extract_lets avoid base e sent
  have hsent : ∀ t, (sent t).portUse = t.portUse := fun t => by
    show (if _ then _ else _ : State).portUse = _
    split <;> rfl
  clear_value sent
  have hroute : ∀ {hop u}, routeHop avoid p s = (hop, u) → u.portUse = s.portUse := fun h =>
    (Within2.of h routeHop_within).keeps_portUse rfl
  split
  next u h => exact (hsent _).trans (updEgress_portUse.trans (hroute h))
  next u h => exact (hsent _).trans (queueAt_portUse.trans (hroute h))
  next u h =>
    split
    · exact count_portUse.trans (hroute h)
    · exact noRoute_portUse.trans (hroute h)

@[simp] theorem placeCopy_portUse {dim pid coord : Nat} {p : SwPkt} : (placeCopy dim pid p coord s).portUse = s.portUse := by
  unfold placeCopy
  extract_lets q ports
  split
  · rfl
  · split
    next u h => exact queueAt_portUse.trans ((Within2.of h pickOne_within).keeps_portUse rfl)
    next u h =>
      have hu : u.portUse = s.portUse := (Within2.of h pickOne_within).keeps_portUse rfl
      split
      · exact hu
      · exact placePacket_portUse.trans hu

@[simp] theorem rewait_portUse {port : Nat} {e : QEntry} : (rewait port e s).portUse = s.portUse := by
  unfold rewait
  extract_lets gen put hold out fenced
  have hput : ∀ w t, (put w t).portUse = t.portUse := fun _ _ => rfl
  have hhold : ∀ t, (hold t).portUse = t.portUse := fun _ => rfl
  have hout : ∀ t, (out t).portUse = t.portUse := fun _ => rfl
  clear_value put hold out
  split
  · rfl
  split
  · split
    · rfl
    · exact hput _ _
  split
  · split
    · exact hput _ _
    · exact hhold _
  split
  next l credit _ =>
  split
  · exact hput _ _
  split
  · exact hhold _
  split
  · split
    · exact hput _ _
    · exact hhold _
  split
  next hop v _ =>
  extract_lets u stays
  have hu : u.portUse = s.portUse := rfl
  clear_value u
  split
  next q vc d c =>
    extract_lets blocked
    split
    · exact (hhold _).trans hu
    · exact queueAt_portUse.trans ((hout _).trans hu)
  next cause => exact noRoute_portUse.trans ((hout _).trans hu)
  next => exact hu

@[simp] theorem rewaitAll_portUse : (rewaitAll s).portUse = s.portUse := by
  refine foldl_portUse (fun s x => ?_) _ _
  split
  · split
    · rfl
    · exact foldl_portUse (fun _ _ => rewait_portUse) _ _
  · rfl

@[simp] theorem noteBlocked_portUse {p : Nat} : (noteBlocked p s).portUse = s.portUse := by
  unfold noteBlocked
  extract_lets e l
  split
  · rfl
  · exact updFport_portUse (fun _ => rfl) (fun _ => rfl) (fun _ => rfl)

@[simp] theorem noteBlockedAll_portUse : (noteBlockedAll s).portUse = s.portUse := by
  refine foldl_portUse (fun s x => ?_) _ _
  split
  · split
    · rfl
    · exact noteBlocked_portUse
  · rfl

/-! #### Packets that wait to enter -/

@[simp] theorem injectNow_portUse {color : Nat} {x : Inject} : (injectNow color x s).portUse = s.portUse := by
  unfold injectNow
  split
  next pid u h =>
    have hu : u.portUse = s.portUse := (congrArg (fun y => y.2.portUse) h).symm.trans storePacket_portUse
    split
    · exact queueAt_portUse.trans hu
    · exact placePacket_portUse.trans hu
    · exact (foldl_portUse (fun _ _ => placeCopy_portUse) _ _).trans hu

@[simp] theorem injectGo_portUse (l kept : List Inject) : (injectGo l kept s).portUse = s.portUse := by
  induction l generalizing kept s with
  | nil => rfl
  | cons x rest ih =>
    rw [injectGo]
    split
    · exact ih _
    · exact (ih _).trans injectNow_portUse

@[simp] theorem fabSettle_portUse : (fabSettle s).portUse = s.portUse := by
  unfold fabSettle
  extract_lets u
  have hu : u.portUse = s.portUse := settleCells_portUse
  refine noteBlockedAll_portUse.trans (rewaitAll_portUse.trans ?_)
  split
  · exact hu
  · exact (injectGo_portUse _ _).trans hu

end

end Sys2Proof.Machine

namespace Sys2Proof.Machine

/-! ### CMD_PORT_FENCE and CMD_PORT_UNFENCE (R278, R357, R521) -/

/-- A port's fence is set or lifted. -/
def setFence (n : Nat) (b : Bool) (s : State) : State := updFport n (fun p => { p with fenced := b }) s

/-- A port's fence is set or lifted, and what is queued is looked up again. -/
def fencePort (n : Nat) (b : Bool) (s : State) : State := fabSettle (setFence n b s)

section
variable {s : State} {n : Nat} {b : Bool}

theorem setFence_port (m : Nat) : (setFence n b s).port m = if m = n then { s.port n with fenced := b } else s.port m :=
  port_updFport (f := fun p => { p with fenced := b }) (fun _ => rfl) m

theorem fencePort_portUse (m : Nat) : (fencePort n b s).portUse m = (if m = n then b else (s.port m).fenced, (s.port m).state) := by
  rw [fencePort, fabSettle_portUse, State.portUse, setFence_port]
  split
  next h => rw [h]
  next => rfl

/-- Where no packet is queued and none waits to enter, only charges end. -/
theorem fencePort_within_of_idle (he : s.fab.egress = []) (hi : s.fab.inject = []) :
    Within 0x8100080000000000000000000000000000000000000 s (fencePort n b s) := by
  rw [fencePort, fabSettle_of_idle (s := setFence n b s) he hi]
  exact settleCells_within.app rfl (updFport_within.weaken rfl)

end

section
variable {op : Nat} {a : CmdArgs} {s : State}

/-- A command that names a port wakes no domain. -/
theorem takenBy_of_portOp (ho : op = 0x38 ∨ op = 0x39) : Within 0x500000000000000000006 s (takenBy op a s) := by
  have hobj : (objectOf op a).1 = 9 := by obtain rfl | rfl := ho <;> rfl
  refine takenBy_of_unwoken ?_
  unfold wakeForCommand
  rw [hobj]
  rfl

variable {body : CmdBody} {env : CmdEnv} {n : Nat} {b : Bool}

/-- The state after a command that set the fence of a port has completed. -/
def fenceDone (op : Nat) (a : CmdArgs) (n : Nat) (b : Bool) (s : State) : State :=
  completeCmd (begunAs op a s) csOk 0 0 0 (fencePort n b (takenBy op a s))

theorem fenceDone_portUse (m : Nat) : (fenceDone op a n b s).portUse m = (if m = n then b else (s.port m).fenced, (s.port m).state) := by
  have htaken : (takenBy op a s).portUse = s.portUse := takenBy_within.keeps_portUse rfl
  have hm := congrFun htaken m
  rw [fenceDone, completeCmd_within.keeps_portUse rfl, fencePort_portUse]
  rw [State.portUse, State.portUse, Prod.mk.injEq] at hm
  rw [hm.1, hm.2]

theorem fenceDone_leaves (h : RingTurn op a s) (ho : op = 0x38 ∨ op = 0x39) (he : s.fab.egress = []) (hi : s.fab.inject = []) :
    Answered op a s s (fenceDone op a n b s) csOk 0 0 0 ∧ Only [.ring, .regs, .held, .stored, .ports] s (fenceDone op a n b s) := by
  have htaken := takenBy_of_portOp (a := a) (s := s) ho
  have hset : Within 0x8100080000000000000000000000000000000000000 (takenBy op a s) (fencePort n b (takenBy op a s)) :=
    fencePort_within_of_idle ((htaken.keeps_fab_egress rfl).trans he) ((htaken.keeps_fab_inject rfl).trans hi)
  have hboth : Within 0x8100080000000000000000500000000000000000006 s (fencePort n b (takenBy op a s)) :=
    hset.app rfl (htaken.weaken rfl)
  have hregs : (fencePort n b (takenBy op a s)).regs = s.regs := hboth.keeps_regs rfl
  have hkept : RingKept op a s (fencePort n b (takenBy op a s)) :=
    .of h (hset.keeps_cmd fun _ => rfl) hregs (hboth.keeps_gates rfl) (hset.keeps_out rfl)
  obtain ⟨hanswered, honly, -⟩ := completeCmd_leaves (status := csOk) (detail := 0) (r0 := 0) (r1 := 0)
    (l := [.ring, .regs, .held, .stored, .ports]) h hkept (hboth.only _ (by intro p; cases p <;> decide)) (by decide)
  exact ⟨hanswered.congr hregs.symm, honly⟩

theorem ring_sets_fence (h : RingTurn op a s)
    (hb : body env a (begunAs op a s) (takenBy op a s) = (.ok, fencePort n b (takenBy op a s))) :
    onRing op body env a s = .next (fenceDone op a n b s) := by
  rw [ring_turn h, hb]
  rfl

theorem fence_turn (h : RingTurn 0x38 a s) (hw : badWords a [mask 6 0] = false) :
    exec (.cmdPortFence env a) s = .next (fenceDone 0x38 a (bits a.w1.toNat 6 0) true s) :=
  ring_sets_fence h (if_neg (by simp [hw]))

theorem unfence_turn (h : RingTurn 0x39 a s) (hw : badWords a [mask 6 0] = false) :
    exec (.cmdPortUnfence env a) s = .next (fenceDone 0x39 a (bits a.w1.toNat 6 0) false s) :=
  ring_sets_fence h (if_neg (by simp [hw]))

end

/-- Settles O34: settling the switch core looks queued packets up again but leaves every port's fence and link, whatever they meet. -/
theorem portFenceAndUnfence : Obligations.PortFenceAndUnfence := by
  unfold Obligations.PortFenceAndUnfence
  refine ⟨fun env a s h hw => ?_, fun env a s h hw => ?_⟩
  · have huse := fenceDone_portUse (op := 0x38) (a := a) (s := s) (n := bits a.w1.toNat 6 0) (b := true)
    simp only [State.portUse, Prod.mk.injEq] at huse
    refine ⟨_, fence_turn h hw, rfl, fenceDone_leaves h (.inl rfl), fun n => ⟨?_, (huse n).2⟩, ?_⟩
    · rw [(huse n).1]
      split <;> simp [*]
    · have hfenced := (huse (bits a.w1.toNat 6 0)).1
      rw [if_pos rfl] at hfenced
      simp [State.usable, hfenced]
  · have huse := fenceDone_portUse (op := 0x39) (a := a) (s := s) (n := bits a.w1.toNat 6 0) (b := false)
    simp only [State.portUse, Prod.mk.injEq] at huse
    refine ⟨_, unfence_turn h hw, rfl, fenceDone_leaves h (.inr rfl), fun n => ⟨?_, (huse n).2⟩⟩
    rw [(huse n).1]
    split <;> simp [*]

end Sys2Proof.Machine

namespace Sys2Proof.Machine

/-! ### Whole cells (R300) -/

/-- The number of cells is the least that holds the packet. -/
theorem cellsOf_le_iff {L n : Nat} : cellsOf L ≤ n ↔ L ≤ 128 * n := by
  unfold cellsOf
  omega

/-- Settles O17: the least number of cells that holds L bytes leaves less than one cell unused. -/
theorem packetsOccupyWholeCells : Obligations.PacketsOccupyWholeCells := by
  unfold Obligations.PacketsOccupyWholeCells
  refine ⟨fun L => ⟨cellsOf_le_iff.1 le_rfl, ?_⟩, rfl⟩
  by_contra hunused
  have hfewer : cellsOf L ≤ cellsOf L - 1 := cellsOf_le_iff.2 (by omega)
  omega

/-! ### Every command goes on (R299, R431) -/

/-- Settles O3: a command stands for an instance that the part has where its operand names none (`onInstance`, log 128), so its meaning
is a next state by definition; only these two first ask which kind of unit the operand names. -/
theorem noCommandStops : Obligations.NoCommandStops := by
  unfold Obligations.NoCommandStops
  intro i s
  cases i with
  | switchPacketArrival src =>
    cases src with
    | port | ep | cluster | mgmt => exact ⟨_, rfl⟩
  | egressFrameStart out =>
    cases out with
    | port | ep | cluster | mgmt => exact ⟨_, rfl⟩
  | _ => exact ⟨_, rfl⟩

end Sys2Proof.Machine

namespace Sys2Proof.Machine

/-! ### Steps (R436, R453, R461) -/

/-- Settles O1: a step with a command waiting is that command, and no command touches the queue of those that wait. -/
theorem stepRunsFrontCommand : Obligations.StepRunsFrontCommand := by
  unfold Obligations.StepRunsFrontCommand
  intro c rest s hs
  have hstep : step s = exec c { s with pending := rest } := by
    unfold step
    rw [hs]
  exact ⟨hstep, fun t ht => (exec_within t (hstep.symm.trans ht)).queue⟩

/-- Settles O4: what a command does is `Within`, which keeps the queue. -/
theorem commandsLeaveTheQueue : Obligations.CommandsLeaveTheQueue := by
  unfold Obligations.CommandsLeaveTheQueue
  exact fun i s t h => (exec_within t h).queue

/-- Settles O7: what a step does is `Within`, which lets outputs and time only grow. -/
theorem stepIsMonotone : Obligations.StepIsMonotone := by
  unfold Obligations.StepIsMonotone
  exact fun s t h => ⟨(step_within h).out, (step_within h).time⟩

end Sys2Proof.Machine

namespace Sys2Proof.Machine
/-- Nothing waits outside the ring, nothing is at work and no group has failed: the endpoint side has nothing to go on with. -/
theorem tickWork_of_quiet {s : State} (ho : s.cmd.outside = []) (hw : s.cmd.working = []) (hg : ∀ g ∈ s.svc.groups, g.state ≠ .failed) :
    tickWork s = s := by
  have hwork : workGo s = s := by unfold workGo; rw [hw, List.foldl_nil]
  have houtside : outsideGo s = s := by unfold outsideGo; rw [ho]; rfl
  have hnone : s.svc.groups.filter (fun g => g.state == .failed && decide (g.failedAt + s.resultWait ≤ s.clk.now)) = [] :=
    List.filter_eq_nil_iff.2 fun g hmem => by simp [hg g hmem]
  unfold tickWork groupsGiveUp
  rw [hwork, houtside, hnone, List.foldl_nil]

/-- Settles O2: time passes, the endpoint side goes on with what it works on, and the predictor acts on the power unit. -/
theorem emptyQueueIsTick : Obligations.EmptyQueueIsTick := by
  unfold Obligations.EmptyQueueIsTick
  intro s hs
  have hstep : step s = .next (idle s) := by
    unfold step
    rw [hs]
  have hpredict {u : State} : Within 0x20000000000000000000100000000000000000000000 u (whenFab predictor u) :=
    whenFab_within rfl fun _ => predictor_within
  have htick : Within 0x389283e2ab060f4227801fff36021f0f07100d7c987e (s.advance Config.refCycle) (idle s) :=
    (whenRunning_within rfl fun _ => tickWork_within).trans (hpredict.weaken rfl)
  refine ⟨idle s, hstep, htick.queue.trans hs, htick.time, fun ho hw hg => ?_⟩
  have hidle : idle s = whenFab predictor (s.advance Config.refCycle) := by
    unfold idle whenRunning
    rw [tickWork_of_quiet (s := s.advance Config.refCycle) ho hw hg, ite_self]
  rw [hidle]
  have hall : Within 0x20000000000000000000100000000000000000000030 s (whenFab predictor (s.advance Config.refCycle)) :=
    State.advance_within.weaken rfl |>.trans (hpredict.weaken rfl)
  exact ⟨hall.keeps_out rfl, hpredict.keeps_clk_now rfl, hall.only _ (by intro p; cases p <;> decide)⟩

end Sys2Proof.Machine

namespace Sys2Proof.Machine

/-! ### Under a deadbolt (R423, R442, R499, R513) -/

/-- A deadbolt holds: neither the device, nor its fabric side, nor its endpoint side runs, and it is not alive. -/
structure Deadbolted (s : State) : Prop where
  held : s.sys.deadbolt ≠ .none

section
variable {s : State} {f : State → State} (h : Deadbolted s)
include h

theorem Deadbolted.running : s.running = false := by simp [State.running, h.held]

theorem Deadbolted.fabRunning : s.fabRunning = false := by simp [State.fabRunning, h.held]

theorem Deadbolted.alive : s.alive = false := by simp [State.alive, h.held]

theorem Deadbolted.epUp : s.epUp = false := by simp [State.epUp, h.running]

theorem Deadbolted.whenRunning : whenRunning f s = s := if_neg (by simp [h.running])

theorem Deadbolted.whenFab : whenFab f s = s := if_neg (by simp [h.fabRunning])

theorem Deadbolted.epStep : epStep f s = s := if_neg (by simp [h.epUp])

theorem Deadbolted.trnStep : trnStep f s = s := h.whenRunning

theorem Deadbolted.hostStep : hostStep f s = s := if_neg (by simp [h.running, h.alive])

theorem Deadbolted.whenForwarding {n : Nat} : whenForwarding n f s = s := by
  unfold Machine.whenForwarding
  rw [h.whenFab, ite_self]

theorem Deadbolted.whenSource {n : Nat} : whenSource n f s = s := by
  unfold Machine.whenSource
  rw [h.whenForwarding, ite_self]

theorem Deadbolted.configRequest {p : Nat} (hf : f s = s) : configRequest p f s = s := by
  unfold Machine.configRequest
  dsimp only
  rw [hf, if_neg (c := _ ∧ _) (by simp [h.alive]), ite_self]

theorem Deadbolted.stalledGo : stalledGo s = s := h.whenRunning

theorem Deadbolted.postedWrite {p : Nat} {w : PostedWrite} : postedWrite p w s = s := h.whenRunning

theorem Deadbolted.semOp {p fn off kind x y : Nat} : semOp p fn off kind x y s = s := if_pos (by simp [h.running])

theorem Deadbolted.secResponse {k : FKind} {source : Nat} {fuse : Bool} : secResponse k source fuse s = s := if_pos (.inl h.held)

theorem Deadbolted.onRing {op : Nat} {body : CmdBody} {env : CmdEnv} {a : CmdArgs} : onRing op body env a s = .next s := by
  unfold Machine.onRing runRing
  rw [h.whenRunning, if_pos (by simp [State.ringReady, h.running])]

end

/-- The command answers the state as it is, but for the count of free values. -/
def Stays (s : State) (o : Host.Outcome State Fault Refusal) : Prop := ∃ n, o = .next { s with freeCtr := n }

section
variable {s : State}

theorem stays_of_eq {t : State} (h : t = s) : Stays s (.next t) := ⟨s.freeCtr, by rw [h]⟩

/-- An operand that names no part draws a free value, and nothing else. -/
theorem pickOf_draws (ok : Bool) (n : Nat) (of : Nat → Nat) (s : State) : ∃ k, (pickOf ok n of s).2 = { s with freeCtr := k } := by
  unfold pickOf
  split
  · exact ⟨s.freeCtr, rfl⟩
  · exact ⟨_, rfl⟩

theorem Deadbolted.drawn (h : Deadbolted s) (k : Nat) : Deadbolted { s with freeCtr := k } := ⟨h.held⟩

/-- A row on a part that its operand names stays where it stays on each part. -/
theorem stays_of_pick {ok : Bool} {n : Nat} {of : Nat → Nat} {g : Nat → State → Host.Outcome State Fault Refusal} (h : Deadbolted s)
    (hg : ∀ m u, Deadbolted u → Stays u (g m u)) : Stays s (g (pickOf ok n of s).1 (pickOf ok n of s).2) := by
  obtain ⟨k, hk⟩ := pickOf_draws ok n of s
  rw [hk]
  obtain ⟨m, hm⟩ := hg (pickOf ok n of s).1 _ (h.drawn k)
  exact ⟨m, hm⟩

theorem stays_onInstance {count n : Nat} {f : Nat → State → State} (h : Deadbolted s) (hf : ∀ m u, Deadbolted u → f m u = u) :
    Stays s (onInstance count n f s) :=
  stays_of_pick (g := fun m u => .next (f m u)) h fun m u hu => stays_of_eq (hf m u hu)

theorem stays_onRing {op : Nat} {body : CmdBody} {env : CmdEnv} {a : CmdArgs} (h : Deadbolted s) : Stays s (onRing op body env a s) := by
  rw [h.onRing]
  exact stays_of_eq rfl

theorem stays_bar0 {p fn off len : Nat} {v : Word} (h : Deadbolted s) : Stays s (bar0 p fn off len v s) :=
  stays_onInstance h fun _ _ hu => hu.postedWrite

/-- A draw that came first is a draw. -/
theorem Stays.of_drawn {k : Nat} {o : Host.Outcome State Fault Refusal} (h : Stays { s with freeCtr := k } o) : Stays s o := h

/-- A part in a configuration request: the draw within it, too, leaves all but the count of free values. -/
theorem stays_onPort {count n : Nat} {f : Nat → State → State} (h : Deadbolted s)
    (hf : ∀ m u, Deadbolted u → Stays u (.next (f m u))) : Stays s (onInstance count n f s) :=
  stays_of_pick (g := fun m u => .next (f m u)) h hf

/-- A configuration request of a device that is not alive is not answered, and one that is served draws a free value at most. -/
theorem stays_configRequest {p : Nat} {f : State → State} (h : Deadbolted s) (hf : Stays s (.next (f s))) :
    Stays s (.next (configRequest p f s)) := by
  unfold configRequest
  dsimp only
  split
  · exact hf
  · exact stays_of_eq (if_neg (by simp [h.alive]))

end

section
variable {s : State}

theorem stays_functionLevelReset {p fn : Nat} (h : Deadbolted s) : Stays s (execFunctionLevelReset p fn s) := by
  unfold execFunctionLevelReset instOf
  refine stays_onPort h fun m u hu => stays_configRequest hu ?_
  obtain ⟨k, hk⟩ := pickOf_draws (decide (fn < 256)) fn (· % 256) u
  refine ⟨k, congrArg _ ?_⟩
  dsimp only
  rw [hk, if_neg (by simp [(hu.drawn k).alive])]

/-- Making VFs: the PF at the port's function 0 must be reachable, which a device under a deadbolt is not. -/
theorem stays_vfEnableSet {p n : Nat} {cfg : FuncCfg} (h : Deadbolted s) : Stays s (execVfEnableSet p n cfg s) := by
  unfold execVfEnableSet
  refine stays_onPort h fun m u hu => stays_configRequest hu ?_
  obtain ⟨k, hk⟩ := pickOf_draws (decide (1 ≤ n) && decide (n ≤ 255)) n (fun v => 1 + v % 255) u
  refine ⟨k, congrArg _ ?_⟩
  dsimp only
  rw [hk, if_pos (by simp [(hu.drawn k).alive])]

theorem stays_qmgEqCiWrite {p fn q : Nat} {v : Word} (h : Deadbolted s) : Stays s (execQmgEqCiWrite p fn q v s) := by
  unfold execQmgEqCiWrite
  obtain ⟨k, hk⟩ := pickOf_draws (decide (1 ≤ q) && decide (q < 4096)) q (fun v => 1 + v % 4095) s
  dsimp only
  rw [hk]
  exact (stays_bar0 (h.drawn k)).of_drawn

/-- A write of a register of a part that the operand names. -/
theorem stays_writeOfInst {count n p fn : Nat} {r : Reg} {v : Word} (h : Deadbolted s) :
    Stays s (writeOf r (instOf count n s).1 0 p fn v (instOf count n s).2) := by
  unfold instOf
  obtain ⟨k, hk⟩ := pickOf_draws (decide (n < count)) n (· % count) s
  rw [hk]
  exact (stays_bar0 (h.drawn k)).of_drawn

/-- A source with a stopped kind or none: each kind of port forwards nothing under a deadbolt. -/
theorem stays_switchPacketArrival {src : Source} {seq : Nat} {p : SwPkt} {mcast : Option (Nat × List Nat)} (h : Deadbolted s) :
    Stays s (execSwitchPacketArrival src seq p mcast s) := by
  cases src with
  | port | ep | cluster =>
    dsimp only [execSwitchPacketArrival]
    refine stays_onInstance h ?_
    exact fun _ _ hu => hu.whenSource
  | mgmt => exact stays_of_eq h.whenSource

theorem stays_egressFrameStart {out : Output} {ecc cell : Nat} (h : Deadbolted s) : Stays s (execEgressFrameStart out ecc cell s) := by
  cases out with
  | port | ep | cluster =>
    dsimp only [execEgressFrameStart]
    refine stays_onInstance h ?_
    exact fun _ _ hu => hu.whenForwarding
  | mgmt => exact stays_of_eq h.whenForwarding

theorem stays_clockJudgedGood {clock : Nat} {ppm : Int} (h : Deadbolted s) : Stays s (execClockJudgedGood clock ppm s) := by
  unfold execClockJudgedGood clockOf
  obtain ⟨k, hk⟩ := pickOf_draws (monitored clock) clock (fun v => if v % 79 < 7 then 2 + v % 79 else 9 + v % 79) s
  dsimp only
  rw [hk]
  exact ⟨k, congrArg _ (if_pos (.inl (by simp [(h.drawn k).alive])))⟩

theorem stays_clkOutOfWindow {clock : Nat} {ppm : Int} (h : Deadbolted s) : Stays s (execClkOutOfWindow clock ppm s) := by
  unfold execClkOutOfWindow clockOf
  obtain ⟨k, hk⟩ := pickOf_draws (monitored clock) clock (fun v => if v % 79 < 7 then 2 + v % 79 else 9 + v % 79) s
  dsimp only
  rw [hk]
  exact ⟨k, congrArg _ (if_pos (.inl (by simp [(h.drawn k).alive])))⟩

theorem stays_secTamper {cause : Nat} (h : Deadbolted s) : Stays s (execSecTamper cause s) := by
  dsimp only [execSecTamper]
  refine stays_of_pick (g := fun m u => .next (if m = 1 ∧ u.fld .secCtrl 0 2 2 = 0 then u
    else secResponse .secTamper m true (if m = 2 ∧ u.alive then u.advanceTo (u.sys.pwrAt + us 100) else u))) h fun m u hu => stays_of_eq ?_
  rw [if_neg (c := m = 2 ∧ _) (by simp [hu.alive]), hu.secResponse, ite_self]

/-- Every command but the power cycle and COLD_RESET stays where it is under a deadbolt. -/
theorem stays_of_deadbolt (h : Deadbolted s) (c : Instr) (hp : c ≠ .powerOnReset) (hc : ∀ p, c ≠ .coldReset p) : Stays s (exec c s) := by
  cases c
  case powerOnReset => exact absurd rfl hp
  case coldReset p => exact absurd rfl (hc p)
  -- commands of the admin ring, and those from outside it
  case cmdNop | cmdQuery | cmdEndpointConfig | cmdPartitionCreate | cmdPartitionDestroy | cmdAsidCreate | cmdAsidDestroy | cmdQueueCreate
    | cmdQueueModifyAttributes | cmdQueueModifyStop | cmdQueueModifyStart | cmdQueueModifyRecover | cmdQueueDestroy | cmdQueueEvict
    | cmdRegionRegister | cmdRegionDeregister | cmdXltInval | cmdMatchContextCreate | cmdMatchContextDestroy | cmdChorusCreate
    | cmdChorusDestroy | cmdLockAlloc | cmdLockAllocVariables | cmdLockFree | cmdLockFreeForce | cmdLockFreeVariables | cmdGateWrite
    | cmdShadowLoad | cmdHinge | cmdHingeValidateOnly | cmdPortFence | cmdPortUnfence | cmdPortTest | cmdPortTestStop | cmdLaneTest
    | cmdLaneTestStop | cmdEngineRetire | cmdEngineRestore | cmdMemChannelRetire | cmdCounterDumpConfig | cmdFwStage | cmdFwActivate
    | cmdFwActivateNow | cmdKeyInstallOwner | cmdKeyInstallPartition | cmdKeyInstallFabric | cmdKeyZeroizePartition
    | cmdKeyZeroizeFabric | cmdKeyZeroizeAll | cmdFaultClear => exact stays_onRing h
  case mctpCommand | commandPacketArrival | remoteStatusArrival | remoteCommandTimeout => exact stays_of_eq h.whenRunning
  -- writes of the host
  case cmdPiWrite | cmdRingEnable | qsampleClear | rteExcAdd | rteExcDel | clkDtimeSetWrite | warmResetRequest | secLockWrite | auditAdvance
    | memtestStart | cntSampleCiWrite | cntSampleEnable | registerWrite | shadowViewWrite => exact stays_bar0 h
  case qmgEqCiWrite p fn q v => exact stays_qmgEqCiWrite h
  case hifLinkRetrain | eyeMeasureStart | injOnce => exact stays_writeOfInst h
  case doorbellProduce | doorbellConsume | doorbellArm | doorbellArmSolicited | bar2WriteRefused =>
    dsimp only [exec, execDoorbellProduce, execDoorbellConsume, execDoorbellArm, execDoorbellArmSolicited, execBar2WriteRefused]
    refine stays_onInstance h ?_
    exact fun _ _ hu => hu.postedWrite
  case hifSemAtomicop =>
    dsimp only [exec, execHifSemAtomicop]
    refine stays_onInstance h ?_
    exact fun _ _ hu => hu.semOp
  -- the endpoint side, the transport and the host's answers
  case refetchGapExpiry | jobDispatch | nop | send | tsend | put | get | atomic | recv | trecv | tcancel | chorus | lockAcquire | lockRelease
    | contextEvictionStart | contextEvictionComplete | cqStallTimeout | resultArrival | resultRetxExpiry | joinTimeout | chunkReduction
    | mtcUnexpTimeout | deregTimeout | timingWheelDue => exact stays_of_eq h.epStep
  case peerFetchComplete | dataPacketArrival | resultAckArrival | ackArrival | nackArrival | notNowArrival | refuseArrival | resyncArrival
    | openReqArrival | openAckArrival | openNakArrival | openTimeout | closeReqArrival | closeAckArrival | closeNakArrival | closeTimeout
    | retransmitTimeout | ackDelayExpiry | nackDelayExpiry | notNowBackoffExpiry | unreachTimeout | ccIncreasePeriod
    | invalidationAcknowledged | openBackoffExpiry => exact stays_of_eq h.trnStep
  case contextFetchComplete => exact stays_of_eq (by rw [h.trnStep, h.stalledGo])
  case prefetchReadComplete | pageTableReadComplete | adUpdateCasComplete | hostAtomicopComplete | hostReadComplete | completionTimeout =>
    exact stays_of_eq h.hostStep
  case engineWatchdogExpiry =>
    dsimp only [exec, execEngineWatchdogExpiry]
    refine stays_onInstance h ?_
    exact fun _ _ hu => hu.epStep
  case telemetryArrival =>
    dsimp only [exec, execTelemetryArrival]
    refine stays_onInstance h ?_
    exact fun _ _ hu => hu.trnStep
  -- host ports
  case functionLevelReset p fn => exact stays_functionLevelReset h
  case vfEnableSet p n cfg => exact stays_vfEnableSet h
  case vfEnableClear =>
    dsimp only [exec, execVfEnableClear]
    refine stays_onInstance h ?_
    exact fun _ _ hu => hu.configRequest (if_pos (by simp [hu.alive]))
  case perstAssert | hifLinkTrained | pwrRailFault =>
    dsimp only [exec, execPerstAssert, execHifLinkTrained, execPwrRailFault]
    refine stays_onInstance h ?_
    exact fun _ _ hu => if_pos (by simp [hu.alive])
  case perstDeassert | hotReset | hifLinkDown | flrDrainEnd | poisonedWriteReceived =>
    dsimp only [exec, execPerstDeassert, execHotReset, execHifLinkDown, execFlrDrainEnd, execPoisonedWriteReceived]
    refine stays_onInstance h ?_
    exact fun _ _ hu => if_neg (by simp [hu.alive])
  case flrDrainLimit =>
    dsimp only [exec, execFlrDrainLimit]
    refine stays_onInstance h ?_
    exact fun _ u hu => by simp [hu.alive]
  -- the fabric, its ports and lanes, and the power unit
  case sharedPoolTransfer | escapeWaitExpiry | residueTimeout | auditPass | linkDataFrameReceive | linkAckReceive | replayReqReceive |
    markerBlockReceive | linkReplayTimeout | replayReqResend | standaloneAckIdle | creditTimeout | errorWindowLimit | initReceive |
    initAckReceive | initSendTimer | graceExpiry | ethernetFrameReceive | pfcFrameReceive | pfcRefresh | trainingFrameReceive |
    portLockFormed | portLockLoss | degradeWaitExpiry | rejoinWaitExpiry | laneLockLoss | laneSignalLoss | quietHoldExpiry |
    fastTmoExpiry | fullTmoExpiry | quietIdleExpiry | quietWake | eyeMeasureDone | delayReqReceive | delayRespReceive | sramBistRotation
    | pfcPauseExpiry | ethernetPortDown | markerBlockSend =>
    dsimp only [exec, execSharedPoolTransfer, execEscapeWaitExpiry, execResidueTimeout, execAuditPass, execLinkDataFrameReceive,
      execLinkAckReceive, execReplayReqReceive, execMarkerBlockReceive, execLinkReplayTimeout, execReplayReqResend,
      execStandaloneAckIdle, execCreditTimeout, execErrorWindowLimit, execInitReceive, execInitAckReceive, execInitSendTimer,
      execGraceExpiry, execEthernetFrameReceive, execPfcFrameReceive, execPfcRefresh, execTrainingFrameReceive, execPortLockFormed,
      execPortLockLoss, execDegradeWaitExpiry, execRejoinWaitExpiry, execLaneLockLoss, execLaneSignalLoss, execQuietHoldExpiry,
      execFastTmoExpiry, execFullTmoExpiry, execQuietIdleExpiry, execQuietWake, execEyeMeasureDone, execDelayReqReceive,
      execDelayRespReceive, execSramBistRotation, execPfcPauseExpiry, execEthernetPortDown, execMarkerBlockSend]
    refine stays_onInstance h ?_
    exact fun _ _ hu => hu.whenFab
  case queueSamplePeriod | cvecPeriodExpiry | cvecArrival | mapPeriodExpiry | leaveGrant | noticeHoldExpiry | arbAgeExpiry |
    predictorExitStart | domainExitComplete | activityDecayExpiry | bcaCodeChange | powerFloorStep | pwrBudgetViolation | thermFloorStep
    | timeExchangePeriod | timeHoldover => exact stays_of_eq h.whenFab
  case memMigrationComplete | memtestDone | counterSnapshot | dumpWriteComplete => exact stays_of_eq h.whenRunning
  case mgcHang | memAutoRetire | sampleCrossing | sampleCapture =>
    dsimp only [exec, execMgcHang, execMemAutoRetire, execSampleCrossing, execSampleCapture]
    refine stays_onInstance h ?_
    exact fun _ _ hu => hu.whenRunning
  case ethernetFrameTransmit =>
    dsimp only [exec, execEthernetFrameTransmit]
    refine stays_onInstance h ?_
    exact fun _ _ hu => hu.whenForwarding
  case policerDeferRelease =>
    dsimp only [exec, execPolicerDeferRelease]
    refine stays_onInstance h ?_
    exact fun _ _ hu => hu.whenSource
  case switchPacketArrival src seq p mcast => exact stays_switchPacketArrival h
  case egressFrameStart out ecc cell => exact stays_egressFrameStart h
  case mctpWarmResetRequest | coldStart | warmRestore | debugUnlock | thermTrip => exact stays_of_eq (if_pos (by simp [h.held]))
  case mctpFirmwareImage | refclkPresent | clkRefLost | refclkReturn | warmQuiesceDone | endpointResume | shadowRetireComplete
    | railRestored => exact stays_of_eq (if_pos (by simp [h.alive]))
  -- rows whose operand names a channel, a clock or a cause
  case spdmRequest chan req ok =>
    dsimp only [exec, execSpdmRequest]
    exact stays_of_pick (g := fun m u => .next (whenRunning (spdmAnswer m req ok) u)) h fun _ _ hu => stays_of_eq hu.whenRunning
  case clockJudgedGood => exact stays_clockJudgedGood h
  case clkOutOfWindow => exact stays_clkOutOfWindow h
  case secTamper => exact stays_secTamper h
  case secKeyIntegrity cause =>
    dsimp only [exec, execSecKeyIntegrity]
    exact stays_of_pick (g := fun m u => .next (secResponse .secKeyIntegrity m false u)) h fun _ _ hu => stays_of_eq hu.secResponse

/-- COLD_RESET records the level of PWR_OK, once the rails are in range. -/
theorem execColdReset_of_deadbolt {p : Bool} (h : Deadbolted s) :
    Stays s (execColdReset p s) ∨ execColdReset p s = .next { s with sys := { s.sys with pwrOk := p } } := by
  unfold execColdReset
  cases s.sys.pwrOk with
  | false => exact .inl (stays_of_eq rfl)
  | true => exact .inr (congrArg _ (if_pos h.held))

/-- Settles O9: each row asks for a part that runs or lives, which none does under a deadbolt. -/
theorem deadboltHoldsUntilPowerCycle : Obligations.DeadboltHoldsUntilPowerCycle := by
  unfold Obligations.DeadboltHoldsUntilPowerCycle
  intro c s t hs ht hc
  have hstays (hstay : Stays s (exec c s)) : ∃ n, t = { s with freeCtr := n } := by
    obtain ⟨n, hn⟩ := hstay
    exact ⟨n, Host.Outcome.next.inj (ht.symm.trans hn)⟩
  by_cases hcold : ∃ p, c = .coldReset p
  · obtain ⟨p, rfl⟩ := hcold
    obtain hstay | hrecord := execColdReset_of_deadbolt (p := p) ⟨hs⟩
    · exact .inl (hstays hstay)
    · exact .inr ⟨p, rfl, Host.Outcome.next.inj (ht.symm.trans hrecord)⟩
  · exact .inl (hstays (stays_of_deadbolt ⟨hs⟩ c hc fun p hp => hcold ⟨p, hp⟩))

end

end Sys2Proof.Machine

namespace Sys2Proof.Machine

/-! ### The fuses (R489, R499) -/

/-- Neither the SVN fuse nor the count of TAMPER_COUNT fuses falls, while at most all 16 of these are burnt. -/
def FusesRise (s t : State) : Prop :=
  s.sec.svn ≤ t.sec.svn ∧ (s.sec.tamperCount ≤ 16 → s.sec.tamperCount ≤ t.sec.tamperCount ∧ t.sec.tamperCount ≤ 16)

/-- Each next state that a row answers has fuses that only rose. -/
def FusesRiseX (s : State) (o : Host.Outcome State Fault Refusal) : Prop := ∀ t, o = .next t → FusesRise s t

theorem FusesRise.of_eq {s t : State} (hsvn : t.sec.svn = s.sec.svn) (htamper : t.sec.tamperCount = s.sec.tamperCount) : FusesRise s t :=
  ⟨hsvn.ge, fun h => ⟨htamper.ge, htamper.trans_le h⟩⟩

theorem FusesRise.refl {s : State} : FusesRise s s := .of_eq rfl rfl

theorem FusesRise.trans {s t u : State} (h : FusesRise s t) (k : FusesRise t u) : FusesRise s u := by
  obtain ⟨hsvn, htamper⟩ := h
  obtain ⟨ksvn, ktamper⟩ := k
  exact ⟨hsvn.trans ksvn, fun hs => ⟨(htamper hs).1.trans (ktamper (htamper hs).2).1, (ktamper (htamper hs).2).2⟩⟩

theorem FusesRise.ite {c : Prop} [Decidable c] {s t u : State} (ht : c → FusesRise s t) (hu : ¬ c → FusesRise s u) :
    FusesRise s (if c then t else u) := by
  split
  · exact ht ‹_›
  · exact hu ‹_›

section
variable {m : Nat} {s t u : State}

/-- What leaves the two fuses alone lets them rise. -/
theorem Within.fusesRise (h : Within m s t) (hsvn : m.testBit 65 = false) (htamper : m.testBit 68 = false) : FusesRise s t :=
  .of_eq (h.keeps_sec_svn hsvn) (h.keeps_sec_tamperCount htamper)

theorem Within2.fusesRise {α : Type} {p : α × State} (h : Within2 m s p) (hsvn : m.testBit 65 = false) (htamper : m.testBit 68 = false) :
    FusesRise s p.2 := h.snd.fusesRise hsvn htamper

theorem WithinX.fusesRise {o : Host.Outcome State Fault Refusal} (h : WithinX m s o) (hsvn : m.testBit 65 = false)
    (htamper : m.testBit 68 = false) : FusesRiseX s o := fun t ht => (h t ht).fusesRise hsvn htamper

theorem FusesRise.next (h : FusesRise s t) : FusesRiseX s (.next t) := fun _ hnext => Host.Outcome.next.inj hnext ▸ h

theorem FusesRise.app (k : Within m t u) (hsvn : m.testBit 65 = false) (htamper : m.testBit 68 = false) (h : FusesRise s t) :
    FusesRise s u := h.trans (k.fusesRise hsvn htamper)

end

/-! #### The operations that burn a fuse -/

section
variable {s : State}

theorem burnTamper_fusesRise {fuse : Bool} :
    FusesRise s (if fuse then { s with sec := { s.sec with tamperCount := min 16 (s.sec.tamperCount + 1) } } else s) :=
  .ite (fun _ => ⟨le_rfl, fun h => by dsimp only; omega⟩) fun _ => .refl

/-- A response burns one TAMPER_COUNT fuse at most. -/
theorem secResponse_fusesRise {k : FKind} {source : Nat} {fuse : Bool} : FusesRise s (secResponse k source fuse s) := by
  unfold secResponse
  refine .ite (fun _ => .refl) fun _ => ?_
  extract_lets taken told audited sys bolted sec burnt
  have haudited : FusesRise s audited :=
    .app audit_within rfl rfl (.app zeroizeStore_within rfl rfl (.app allEndpoints_within rfl rfl (hubTake_within.fusesRise rfl rfl)))
  clear_value audited
  have hburnt : FusesRise s burnt := (haudited.trans (.of_eq (t := bolted) rfl rfl)).trans burnTamper_fusesRise
  clear_value burnt
  exact .app allOff_within rfl rfl (.app silenceAll_within rfl rfl hburnt)

/-- An activation raises the SVN fuse to that of the image, or leaves it. -/
theorem activateSlot_fusesRise {slot mid : Nat} {im : ImageInfo} : FusesRise s (activateSlot slot mid im s) := by
  refine .app (t := { s with
    sys := { s.sys with nextSlot := slot }
    sec := { s.sec with svn := if imgCommitSvn im && decide (s.imageStep im = 0) then max s.sec.svn (imgSvn im) else s.sec.svn } })
    audit_within rfl rfl ⟨?_, fun h => ⟨le_rfl, h⟩⟩
  dsimp only
  split
  · exact le_max_left _ _
  · exact le_rfl

theorem keyZeroize_fusesRise {mid kind pkey : Nat} : FusesRise s (keyZeroize mid kind pkey s) := by
  unfold keyZeroize
  refine .app audit_within rfl rfl (.of_eq ?_ ?_) <;> split_ifs <;> rfl

/-- A cold reset keeps the fuses. -/
theorem coldState_fusesRise {cause : Nat} : FusesRise s (coldState cause s) := .of_eq rfl rfl

/-! #### The boot (R442-R447) -/

theorem bootLoad_fusesRise {first : Nat} {b : Boot} : FusesRise s (bootLoad first b s) := by
  unfold bootLoad
  extract_lets sel sys silent trained loading
  have hsilent : FusesRise s silent := .of_eq rfl rfl
  clear_value silent
  have htrained : FusesRise s trained :=
    .app (Within.foldl (fun _ _ => linkTrain_within) Within.refl) rfl rfl (.app setStage_within rfl rfl hsilent)
  clear_value trained
  have hloading : FusesRise s loading := .app setStage_within rfl rfl htrained
  clear_value loading
  refine .ite (fun _ => htrained) fun _ => .ite (fun _ => hloading.trans secResponse_fusesRise) fun _ => ?_
  refine .ite (fun _ => hloading.trans (.of_eq rfl rfl)) fun _ => .ite (fun _ => .app bootError_within rfl rfl hloading) fun _ => ?_
  exact .app bootSlots_within rfl rfl (hloading.trans (.of_eq rfl rfl))

theorem coldBegin_fusesRise {first : Nat} {b : Boot} : FusesRise s (coldBegin first b s) := by
  unfold coldBegin
  extract_lets sel clk sys sec begun
  have hbegun : FusesRise s begun := .of_eq rfl rfl
  clear_value begun
  refine .ite (fun _ => .app bootError_within rfl rfl hbegun) fun _ => .ite (fun _ => .app bootHold_within rfl rfl hbegun) fun _ => ?_
  refine .ite (fun _ => .app bootError_within rfl rfl (.app setStage_within rfl rfl hbegun)) fun _ => ?_
  exact .trans (.app monitorsStart_within rfl rfl hbegun) bootLoad_fusesRise

/-! #### The rows of power, reset and clocks -/

theorem execPowerOnReset_fusesRise : FusesRiseX s (execPowerOnReset s) :=
  FusesRise.next (.of_eq rfl rfl)

theorem execColdReset_fusesRise {pwrOk : Bool} : FusesRiseX s (execColdReset pwrOk s) := by
  exact FusesRise.next (.ite (fun _ => .refl) fun _ => .ite (fun _ => .of_eq rfl rfl) fun _ => .of_eq rfl rfl)

theorem execColdStart_fusesRise {b : Boot} : FusesRiseX s (execColdStart b s) :=
  FusesRise.next (.ite (fun _ => .refl) fun _ => coldBegin_fusesRise)

/-- The last clock of a die that is judged good loads the firmware. -/
theorem execClockJudgedGood_fusesRise {clock : Nat} {ppm : Int} : FusesRiseX s (execClockJudgedGood clock ppm s) := by
  unfold execClockJudgedGood
  have hclock : FusesRise s (clockOf clock s).2 := clockOf_within.fusesRise rfl rfl
  generalize clockOf clock s = r at hclock ⊢
  obtain ⟨clock, named⟩ := r
  refine FusesRise.next (.ite (fun _ => hclock) fun _ => ?_)
  extract_lets advanced judged loaded
  have hjudged : FusesRise s judged := .app setMonitor_within rfl rfl (.app State.advanceTo_within rfl rfl hclock)
  clear_value judged
  have hloaded : FusesRise s loaded := by
    unfold loaded
    split
    · exact .ite (fun _ => hjudged.trans bootLoad_fusesRise) fun _ => hjudged
    · exact hjudged
  clear_value loaded
  exact .app (whenFab_within rfl fun _ => Within.foldl (fun _ _ => laneStart_within) Within.refl) rfl rfl hloaded

theorem execSecTamper_fusesRise {cause : Nat} : FusesRiseX s (execSecTamper cause s) := by
  dsimp only [execSecTamper]
  have hpick : FusesRise s (pickOf (cause == 1 || cause == 2) cause (fun v => 1 + v % 2) s).2 := pickOf_within.fusesRise rfl rfl
  refine FusesRise.next (.ite (fun _ => hpick) fun _ => hpick.trans (.trans ?_ secResponse_fusesRise))
  exact .ite (fun _ => State.advanceTo_within.fusesRise rfl rfl) fun _ => .refl

theorem execSecKeyIntegrity_fusesRise {cause : Nat} : FusesRiseX s (execSecKeyIntegrity cause s) := by
  dsimp only [execSecKeyIntegrity]
  exact FusesRise.next ((pickOf_within.fusesRise rfl rfl).trans secResponse_fusesRise)

/-- A warm reset begins a cold boot where the firmware fails, and else restores what it keeps. -/
theorem execWarmRestore_fusesRise {clocksOk fwOk : Bool} {lost : List Nat} {b : Boot} :
    FusesRiseX s (execWarmRestore clocksOk fwOk lost b s) := by
  unfold execWarmRestore
  refine FusesRise.next (.ite (fun _ => .refl) fun _ => .ite (fun _ => coldState_fusesRise.trans coldBegin_fusesRise) fun _ => ?_)
  extract_lets links role out was sys restoring sys' imaged policed ended monitored enabled timed
  have himaged : FusesRise s imaged := by
    unfold imaged
    cases restoring.sys.hbmImage with
    | none => exact .of_eq rfl rfl
    | some im => exact .of_eq rfl rfl
  clear_value imaged
  have hpoliced : FusesRise s policed :=
    .app startPolicers_within rfl rfl (.app warmPower_within rfl rfl (.app warmConfig_within rfl rfl himaged))
  clear_value policed
  have hended : FusesRise s ended := .app endSessions_within rfl rfl (.app warmContexts_within rfl rfl hpoliced)
  clear_value ended
  have henabled : FusesRise s enabled :=
    .app (Within.foldl (fun _ _ => linkEnableChanged_within) Within.refl) rfl rfl (.app monitorsStart_within rfl rfl hended)
  clear_value enabled
  have htimed : FusesRise s timed := .app timeRestored_within rfl rfl henabled
  clear_value timed
  refine .app portsAcquire_within rfl rfl (.app portsRelease_within rfl rfl ?_)
  exact .ite (fun _ => .app clkOutChanged_within rfl rfl htimed) fun _ => htimed

/-! #### Commands of the admin ring and from outside it -/

theorem cmdFwActivate_fusesRise {env : CmdEnv} {a : CmdArgs} {b : Begun} : FusesRise s (cmdFwActivate env a b s).2 := by
  unfold cmdFwActivate
  extract_lets slot
  split
  · exact refuse_within.fusesRise rfl rfl
  · cases s.sys.slots[slot]? with
    | none => exact refuse_within.fusesRise rfl rfl
    | some im =>
      dsimp only
      split
      · exact activateSlot_fusesRise
      · split
        · exact refuse_within.fusesRise rfl rfl
        · exact .app beginWarm_within rfl rfl (activateSlot_fusesRise.trans (.of_eq rfl rfl))

theorem cmdKeyInstall_fusesRise {env : CmdEnv} {a : CmdArgs} {b : Begun} : FusesRise s (cmdKeyInstall env a b s).2 := by
  unfold cmdKeyInstall
  extract_lets kind pkey
  split
  · exact refuse_within.fusesRise rfl rfl
  · split
    · exact keyInstall_within.fusesRise rfl rfl
    · split
      · split
        · exact refuse_within.fusesRise rfl rfl
        · exact keyZeroize_fusesRise
      · exact refuse_within.fusesRise rfl rfl

section
variable {op : Nat} {env : CmdEnv} {a : CmdArgs} {body : CmdBody} (hbody : ∀ env a b s, FusesRise s (body env a b s).2)
include hbody

/-- A command that begins burns what its body burns. -/
theorem beginCmd_fusesRise {chan : Channel} : FusesRise s (beginCmd op chan env a body s) := by
  unfold beginCmd
  extract_lets b cmd begun
  have hbegun : FusesRise s begun := .of_eq rfl rfl
  clear_value begun
  have hadmit : FusesRise s (admitCmd b begun).2 := hbegun.trans (admitCmd_within.fusesRise rfl rfl)
  generalize admitCmd b begun = r at hadmit ⊢
  obtain ⟨answer, admitted⟩ := r
  cases answer with
  | some answer => exact .app completeCmd_within rfl rfl hadmit
  | none =>
    refine .ite (fun _ => .app completeCmd_within rfl rfl hadmit) fun _ => ?_
    have hdone : FusesRise s (body env a b (wakeForCommand b.obj admitted)).2 :=
      .trans (.app wakeForCommand_within rfl rfl hadmit) (hbody _ _ _ _)
    generalize body env a b (wakeForCommand b.obj admitted) = r at hdone ⊢
    obtain ⟨outcome, done⟩ := r
    cases outcome with
    | done => exact .app completeCmd_within rfl rfl hdone
    | wait => exact hdone
    | work => exact hdone.trans (.of_eq rfl rfl)

theorem runRing_fusesRise : FusesRise s (runRing op env a body s) := by
  unfold runRing
  extract_lets p code host
  refine .ite (fun _ => .refl) fun _ => .ite (fun _ => .refl) fun _ => .ite (fun _ => wakeDomain_within.fusesRise rfl rfl) fun _ => ?_
  have hread : FusesRise s (readRing s).2 := readRing_within.fusesRise rfl rfl
  generalize readRing s = r at hread ⊢
  obtain ⟨ok, read⟩ := r
  refine .ite (fun _ => hread) fun _ => .ite (fun _ => .app ringMalformed_within rfl rfl hread) fun _ => ?_
  exact .ite (fun _ => .app sendRemote_within rfl rfl hread) fun _ => hread.trans (beginCmd_fusesRise hbody)

end

theorem outsideBody_fusesRise {op : Nat} {env : CmdEnv} {a : CmdArgs} {b : Begun} : FusesRise s (outsideBody op env a b s).2 := by
  unfold outsideBody
  by_cases hop : op = 0x42
  · subst hop
    exact cmdFwActivate_fusesRise (env := env) (b := b)
  · rw [if_neg hop]
    split_ifs
    · exact cmdNop_within.fusesRise rfl rfl
    · exact cmdQuery_within.fusesRise rfl rfl
    · exact cmdHinge_within.fusesRise rfl rfl
    · exact cmdPortFence_within.fusesRise rfl rfl
    · exact cmdPortUnfence_within.fusesRise rfl rfl
    · exact cmdPortTest_within.fusesRise rfl rfl
    · exact cmdLaneTest_within.fusesRise rfl rfl
    · exact cmdEngineRetire_within.fusesRise rfl rfl
    · exact cmdEngineRestore_within.fusesRise rfl rfl
    · exact cmdMemChannelRetire_within.fusesRise rfl rfl
    · exact cmdFaultClear_within.fusesRise rfl rfl

theorem outsideRun_fusesRise {n : Nat} : FusesRise s (outsideRun n s) := by
  induction n generalizing s with
  | zero => exact .refl
  | succ n ih =>
    rw [outsideRun]
    split
    · exact .refl
    · refine .ite (fun _ => .refl) fun _ => .trans ?_ ih
      refine .trans ?_ (beginCmd_fusesRise fun _ _ _ _ => outsideBody_fusesRise)
      exact .of_eq rfl rfl

theorem outsideGo_fusesRise : FusesRise s (outsideGo s) := by
  unfold outsideGo
  exact outsideRun_fusesRise

theorem whenRunning_fusesRise {f : State → State} (hf : ∀ s, FusesRise s (f s)) : FusesRise s (whenRunning f s) :=
  .ite (fun _ => hf s) fun _ => .refl

/-- A row of the ring: what waits outside goes first. -/
theorem onRing_fusesRise {op : Nat} {env : CmdEnv} {a : CmdArgs} {body : CmdBody} (hbody : ∀ env a b s, FusesRise s (body env a b s).2) :
    FusesRiseX s (onRing op body env a s) := by
  unfold onRing
  exact FusesRise.next ((whenRunning_fusesRise fun _ => outsideGo_fusesRise).trans (runRing_fusesRise hbody))

theorem runOutside_fusesRise {chan : Channel} {mid op : Nat} {env : CmdEnv} {a : CmdArgs} : FusesRise s (runOutside chan mid op env a s) := by
  unfold runOutside
  extract_lets a cmd
  refine .ite (fun _ => refuseOutside_within.fusesRise rfl rfl) fun _ => .trans ?_ outsideGo_fusesRise
  exact .of_eq rfl rfl

theorem execMctpCommand_fusesRise {op seq : Nat} {a : CmdArgs} {env : CmdEnv} : FusesRiseX s (execMctpCommand op seq a env s) := by
  refine FusesRise.next (whenRunning_fusesRise fun _ => .ite (fun _ => refuseOutside_within.fusesRise rfl rfl) fun _ => ?_)
  exact .ite (fun _ => refuseOutside_within.fusesRise rfl rfl) fun _ => runOutside_fusesRise

theorem execCommandPacketArrival_fusesRise {src seq op : Nat} {a : CmdArgs} {tagOk : Bool} {env : CmdEnv} :
    FusesRiseX s (execCommandPacketArrival src seq op a tagOk env s) :=
  FusesRise.next (whenRunning_fusesRise fun _ => .ite (fun _ => runOutside_fusesRise) fun _ => State.count_within.fusesRise rfl rfl)

/-- No command lowers a fuse. -/
theorem exec_fusesRise : ∀ c : Instr, FusesRiseX s (exec c s)
  | .cmdNop .. => onRing_fusesRise fun _ _ _ _ => cmdNop_within.fusesRise rfl rfl
  | .cmdQuery .. => onRing_fusesRise fun _ _ _ _ => cmdQuery_within.fusesRise rfl rfl
  | .cmdEndpointConfig .. => onRing_fusesRise fun _ _ _ _ => cmdEndpointConfig_within.fusesRise rfl rfl
  | .cmdPartitionCreate .. => onRing_fusesRise fun _ _ _ _ => cmdPartitionCreate_within.fusesRise rfl rfl
  | .cmdPartitionDestroy .. => onRing_fusesRise fun _ _ _ _ => cmdPartitionDestroy_within.fusesRise rfl rfl
  | .cmdAsidCreate .. => onRing_fusesRise fun _ _ _ _ => cmdAsidCreate_within.fusesRise rfl rfl
  | .cmdAsidDestroy .. => onRing_fusesRise fun _ _ _ _ => cmdAsidDestroy_within.fusesRise rfl rfl
  | .cmdQueueCreate .. => onRing_fusesRise fun _ _ _ _ => cmdQueueCreate_within.fusesRise rfl rfl
  | .cmdQueueModifyAttributes .. => onRing_fusesRise fun _ _ _ _ => cmdQueueModify_within.fusesRise rfl rfl
  | .cmdQueueModifyStop .. => onRing_fusesRise fun _ _ _ _ => cmdQueueModify_within.fusesRise rfl rfl
  | .cmdQueueModifyStart .. => onRing_fusesRise fun _ _ _ _ => cmdQueueModify_within.fusesRise rfl rfl
  | .cmdQueueModifyRecover .. => onRing_fusesRise fun _ _ _ _ => cmdQueueModify_within.fusesRise rfl rfl
  | .cmdQueueDestroy .. => onRing_fusesRise fun _ _ _ _ => cmdQueueDestroy_within.fusesRise rfl rfl
  | .cmdQueueEvict .. => onRing_fusesRise fun _ _ _ _ => cmdQueueEvict_within.fusesRise rfl rfl
  | .cmdRegionRegister .. => onRing_fusesRise fun _ _ _ _ => cmdRegionRegister_within.fusesRise rfl rfl
  | .cmdRegionDeregister .. => onRing_fusesRise fun _ _ _ _ => cmdRegionDeregister_within.fusesRise rfl rfl
  | .cmdXltInval .. => onRing_fusesRise fun _ _ _ _ => cmdXltInval_within.fusesRise rfl rfl
  | .cmdMatchContextCreate .. => onRing_fusesRise fun _ _ _ _ => cmdMatchContextCreate_within.fusesRise rfl rfl
  | .cmdMatchContextDestroy .. => onRing_fusesRise fun _ _ _ _ => cmdMatchContextDestroy_within.fusesRise rfl rfl
  | .cmdChorusCreate .. => onRing_fusesRise fun _ _ _ _ => cmdChorusCreate_within.fusesRise rfl rfl
  | .cmdChorusDestroy .. => onRing_fusesRise fun _ _ _ _ => cmdChorusDestroy_within.fusesRise rfl rfl
  | .cmdLockAlloc .. => onRing_fusesRise fun _ _ _ _ => cmdLockAlloc_within.fusesRise rfl rfl
  | .cmdLockAllocVariables .. => onRing_fusesRise fun _ _ _ _ => cmdLockAlloc_within.fusesRise rfl rfl
  | .cmdLockFree .. => onRing_fusesRise fun _ _ _ _ => cmdLockFree_within.fusesRise rfl rfl
  | .cmdLockFreeForce .. => onRing_fusesRise fun _ _ _ _ => cmdLockFree_within.fusesRise rfl rfl
  | .cmdLockFreeVariables .. => onRing_fusesRise fun _ _ _ _ => cmdLockFree_within.fusesRise rfl rfl
  | .cmdGateWrite .. => onRing_fusesRise fun _ _ _ _ => cmdGateWrite_within.fusesRise rfl rfl
  | .cmdShadowLoad .. => onRing_fusesRise fun _ _ _ _ => cmdShadowLoad_within.fusesRise rfl rfl
  | .cmdHinge .. => onRing_fusesRise fun _ _ _ _ => cmdHinge_within.fusesRise rfl rfl
  | .cmdHingeValidateOnly .. => onRing_fusesRise fun _ _ _ _ => cmdHinge_within.fusesRise rfl rfl
  | .cmdPortFence .. => onRing_fusesRise fun _ _ _ _ => cmdPortFence_within.fusesRise rfl rfl
  | .cmdPortUnfence .. => onRing_fusesRise fun _ _ _ _ => cmdPortUnfence_within.fusesRise rfl rfl
  | .cmdPortTest .. => onRing_fusesRise fun _ _ _ _ => cmdPortTest_within.fusesRise rfl rfl
  | .cmdPortTestStop .. => onRing_fusesRise fun _ _ _ _ => cmdPortTest_within.fusesRise rfl rfl
  | .cmdLaneTest .. => onRing_fusesRise fun _ _ _ _ => cmdLaneTest_within.fusesRise rfl rfl
  | .cmdLaneTestStop .. => onRing_fusesRise fun _ _ _ _ => cmdLaneTest_within.fusesRise rfl rfl
  | .cmdEngineRetire .. => onRing_fusesRise fun _ _ _ _ => cmdEngineRetire_within.fusesRise rfl rfl
  | .cmdEngineRestore .. => onRing_fusesRise fun _ _ _ _ => cmdEngineRestore_within.fusesRise rfl rfl
  | .cmdMemChannelRetire .. => onRing_fusesRise fun _ _ _ _ => cmdMemChannelRetire_within.fusesRise rfl rfl
  | .cmdCounterDumpConfig .. => onRing_fusesRise fun _ _ _ _ => cmdCounterDumpConfig_within.fusesRise rfl rfl
  | .cmdFwStage .. => onRing_fusesRise fun _ _ _ _ => cmdFwStage_within.fusesRise rfl rfl
  | .cmdFwActivate .. => onRing_fusesRise fun _ _ _ _ => cmdFwActivate_fusesRise
  | .cmdFwActivateNow .. => onRing_fusesRise fun _ _ _ _ => cmdFwActivate_fusesRise
  | .cmdKeyInstallOwner .. => onRing_fusesRise fun _ _ _ _ => cmdKeyInstall_fusesRise
  | .cmdKeyInstallPartition .. => onRing_fusesRise fun _ _ _ _ => cmdKeyInstall_fusesRise
  | .cmdKeyInstallFabric .. => onRing_fusesRise fun _ _ _ _ => cmdKeyInstall_fusesRise
  | .cmdKeyZeroizePartition .. => onRing_fusesRise fun _ _ _ _ => cmdKeyInstall_fusesRise
  | .cmdKeyZeroizeFabric .. => onRing_fusesRise fun _ _ _ _ => cmdKeyInstall_fusesRise
  | .cmdKeyZeroizeAll .. => onRing_fusesRise fun _ _ _ _ => cmdKeyInstall_fusesRise
  | .cmdFaultClear .. => onRing_fusesRise fun _ _ _ _ => cmdFaultClear_within.fusesRise rfl rfl
  | .cmdPiWrite .. => execCmdPiWrite_within.fusesRise rfl rfl
  | .cmdRingEnable .. => execCmdRingEnable_within.fusesRise rfl rfl
  | .mctpCommand .. => execMctpCommand_fusesRise
  | .mctpWarmResetRequest .. => execMctpWarmResetRequest_within.fusesRise rfl rfl
  | .mctpFirmwareImage _ _ _ image => (execMctpFirmwareImage_within (a3 := image)).fusesRise rfl rfl
  | .commandPacketArrival .. => execCommandPacketArrival_fusesRise
  | .remoteStatusArrival .. => execRemoteStatusArrival_within.fusesRise rfl rfl
  | .remoteCommandTimeout .. => execRemoteCommandTimeout_within.fusesRise rfl rfl
  | .doorbellProduce .. => execDoorbellProduce_within.fusesRise rfl rfl
  | .doorbellConsume .. => execDoorbellConsume_within.fusesRise rfl rfl
  | .doorbellArm .. => execDoorbellArm_within.fusesRise rfl rfl
  | .doorbellArmSolicited .. => execDoorbellArmSolicited_within.fusesRise rfl rfl
  | .bar2WriteRefused .. => execBar2WriteRefused_within.fusesRise rfl rfl
  | .prefetchReadComplete .. => execPrefetchReadComplete_within.fusesRise rfl rfl
  | .refetchGapExpiry .. => execRefetchGapExpiry_within.fusesRise rfl rfl
  | .jobDispatch .. => execJobDispatch_within.fusesRise rfl rfl
  | .nop .. => execNop_within.fusesRise rfl rfl
  | .send .. => execSend_within.fusesRise rfl rfl
  | .tsend .. => execTsend_within.fusesRise rfl rfl
  | .put .. => execPut_within.fusesRise rfl rfl
  | .get .. => execGet_within.fusesRise rfl rfl
  | .atomic .. => execAtomic_within.fusesRise rfl rfl
  | .recv .. => execRecv_within.fusesRise rfl rfl
  | .trecv .. => execTrecv_within.fusesRise rfl rfl
  | .tcancel .. => execTcancel_within.fusesRise rfl rfl
  | .chorus .. => execChorus_within.fusesRise rfl rfl
  | .lockAcquire .. => execLockAcquire_within.fusesRise rfl rfl
  | .lockRelease .. => execLockRelease_within.fusesRise rfl rfl
  | .ethernetFrameTransmit .. => execEthernetFrameTransmit_within.fusesRise rfl rfl
  | .qmgEqCiWrite .. => execQmgEqCiWrite_within.fusesRise rfl rfl
  | .contextEvictionStart .. => execContextEvictionStart_within.fusesRise rfl rfl
  | .contextEvictionComplete .. => execContextEvictionComplete_within.fusesRise rfl rfl
  | .contextFetchComplete .. => execContextFetchComplete_within.fusesRise rfl rfl
  | .peerFetchComplete .. => execPeerFetchComplete_within.fusesRise rfl rfl
  | .cqStallTimeout .. => execCqStallTimeout_within.fusesRise rfl rfl
  | .dataPacketArrival .. => execDataPacketArrival_within.fusesRise rfl rfl
  | .resultArrival .. => execResultArrival_within.fusesRise rfl rfl
  | .resultAckArrival .. => execResultAckArrival_within.fusesRise rfl rfl
  | .resultRetxExpiry .. => execResultRetxExpiry_within.fusesRise rfl rfl
  | .joinTimeout .. => execJoinTimeout_within.fusesRise rfl rfl
  | .chunkReduction .. => execChunkReduction_within.fusesRise rfl rfl
  | .ackArrival .. => execAckArrival_within.fusesRise rfl rfl
  | .nackArrival .. => execNackArrival_within.fusesRise rfl rfl
  | .notNowArrival .. => execNotNowArrival_within.fusesRise rfl rfl
  | .refuseArrival .. => execRefuseArrival_within.fusesRise rfl rfl
  | .resyncArrival .. => execResyncArrival_within.fusesRise rfl rfl
  | .openReqArrival .. => execOpenReqArrival_within.fusesRise rfl rfl
  | .openAckArrival .. => execOpenAckArrival_within.fusesRise rfl rfl
  | .openNakArrival .. => execOpenNakArrival_within.fusesRise rfl rfl
  | .openTimeout .. => execOpenTimeout_within.fusesRise rfl rfl
  | .closeReqArrival .. => execCloseReqArrival_within.fusesRise rfl rfl
  | .closeAckArrival .. => execCloseAckArrival_within.fusesRise rfl rfl
  | .closeNakArrival .. => execCloseNakArrival_within.fusesRise rfl rfl
  | .closeTimeout .. => execCloseTimeout_within.fusesRise rfl rfl
  | .retransmitTimeout .. => execRetransmitTimeout_within.fusesRise rfl rfl
  | .ackDelayExpiry .. => execAckDelayExpiry_within.fusesRise rfl rfl
  | .nackDelayExpiry .. => execNackDelayExpiry_within.fusesRise rfl rfl
  | .notNowBackoffExpiry .. => execNotNowBackoffExpiry_within.fusesRise rfl rfl
  | .unreachTimeout .. => execUnreachTimeout_within.fusesRise rfl rfl
  | .mtcUnexpTimeout .. => execMtcUnexpTimeout_within.fusesRise rfl rfl
  | .deregTimeout .. => execDeregTimeout_within.fusesRise rfl rfl
  | .timingWheelDue .. => execTimingWheelDue_within.fusesRise rfl rfl
  | .policerDeferRelease .. => execPolicerDeferRelease_within.fusesRise rfl rfl
  | .ccIncreasePeriod .. => execCcIncreasePeriod_within.fusesRise rfl rfl
  | .queueSamplePeriod .. => execQueueSamplePeriod_within.fusesRise rfl rfl
  | .qsampleClear .. => execQsampleClear_within.fusesRise rfl rfl
  | .pageTableReadComplete .. => execPageTableReadComplete_within.fusesRise rfl rfl
  | .adUpdateCasComplete .. => execAdUpdateCasComplete_within.fusesRise rfl rfl
  | .invalidationAcknowledged .. => execInvalidationAcknowledged_within.fusesRise rfl rfl
  | .hostAtomicopComplete .. => execHostAtomicopComplete_within.fusesRise rfl rfl
  | .hostReadComplete .. => execHostReadComplete_within.fusesRise rfl rfl
  | .completionTimeout .. => execCompletionTimeout_within.fusesRise rfl rfl
  | .poisonedWriteReceived .. => execPoisonedWriteReceived_within.fusesRise rfl rfl
  | .hifSemAtomicop .. => execHifSemAtomicop_within.fusesRise rfl rfl
  | .functionLevelReset .. => execFunctionLevelReset_within.fusesRise rfl rfl
  | .vfEnableClear .. => execVfEnableClear_within.fusesRise rfl rfl
  | .perstAssert .. => execPerstAssert_within.fusesRise rfl rfl
  | .hotReset .. => execHotReset_within.fusesRise rfl rfl
  | .hifLinkDown .. => execHifLinkDown_within.fusesRise rfl rfl
  | .flrDrainEnd .. => execFlrDrainEnd_within.fusesRise rfl rfl
  | .flrDrainLimit .. => execFlrDrainLimit_within.fusesRise rfl rfl
  | .hifLinkRetrain .. => execHifLinkRetrain_within.fusesRise rfl rfl
  | .spdmRequest .. => execSpdmRequest_within.fusesRise rfl rfl
  | .switchPacketArrival .. => execSwitchPacketArrival_within.fusesRise rfl rfl
  | .sharedPoolTransfer .. => execSharedPoolTransfer_within.fusesRise rfl rfl
  | .escapeWaitExpiry .. => execEscapeWaitExpiry_within.fusesRise rfl rfl
  | .egressFrameStart .. => execEgressFrameStart_within.fusesRise rfl rfl
  | .residueTimeout .. => execResidueTimeout_within.fusesRise rfl rfl
  | .auditPass .. => execAuditPass_within.fusesRise rfl rfl
  | .cvecPeriodExpiry .. => execCvecPeriodExpiry_within.fusesRise rfl rfl
  | .cvecArrival .. => execCvecArrival_within.fusesRise rfl rfl
  | .mapPeriodExpiry .. => execMapPeriodExpiry_within.fusesRise rfl rfl
  | .rteExcAdd .. => execRteExcAdd_within.fusesRise rfl rfl
  | .rteExcDel .. => execRteExcDel_within.fusesRise rfl rfl
  | .linkDataFrameReceive .. => execLinkDataFrameReceive_within.fusesRise rfl rfl
  | .linkAckReceive .. => execLinkAckReceive_within.fusesRise rfl rfl
  | .replayReqReceive .. => execReplayReqReceive_within.fusesRise rfl rfl
  | .markerBlockReceive .. => execMarkerBlockReceive_within.fusesRise rfl rfl
  | .linkReplayTimeout .. => execLinkReplayTimeout_within.fusesRise rfl rfl
  | .replayReqResend .. => execReplayReqResend_within.fusesRise rfl rfl
  | .standaloneAckIdle .. => execStandaloneAckIdle_within.fusesRise rfl rfl
  | .creditTimeout .. => execCreditTimeout_within.fusesRise rfl rfl
  | .errorWindowLimit .. => execErrorWindowLimit_within.fusesRise rfl rfl
  | .initReceive .. => execInitReceive_within.fusesRise rfl rfl
  | .initAckReceive .. => execInitAckReceive_within.fusesRise rfl rfl
  | .initSendTimer .. => execInitSendTimer_within.fusesRise rfl rfl
  | .graceExpiry .. => execGraceExpiry_within.fusesRise rfl rfl
  | .ethernetFrameReceive .. => execEthernetFrameReceive_within.fusesRise rfl rfl
  | .pfcFrameReceive .. => execPfcFrameReceive_within.fusesRise rfl rfl
  | .pfcRefresh .. => execPfcRefresh_within.fusesRise rfl rfl
  | .trainingFrameReceive .. => execTrainingFrameReceive_within.fusesRise rfl rfl
  | .portLockFormed .. => execPortLockFormed_within.fusesRise rfl rfl
  | .portLockLoss .. => execPortLockLoss_within.fusesRise rfl rfl
  | .degradeWaitExpiry .. => execDegradeWaitExpiry_within.fusesRise rfl rfl
  | .rejoinWaitExpiry .. => execRejoinWaitExpiry_within.fusesRise rfl rfl
  | .laneLockLoss .. => execLaneLockLoss_within.fusesRise rfl rfl
  | .laneSignalLoss .. => execLaneSignalLoss_within.fusesRise rfl rfl
  | .quietHoldExpiry .. => execQuietHoldExpiry_within.fusesRise rfl rfl
  | .fastTmoExpiry .. => execFastTmoExpiry_within.fusesRise rfl rfl
  | .fullTmoExpiry .. => execFullTmoExpiry_within.fusesRise rfl rfl
  | .quietIdleExpiry .. => execQuietIdleExpiry_within.fusesRise rfl rfl
  | .quietWake .. => execQuietWake_within.fusesRise rfl rfl
  | .eyeMeasureStart .. => execEyeMeasureStart_within.fusesRise rfl rfl
  | .eyeMeasureDone .. => execEyeMeasureDone_within.fusesRise rfl rfl
  | .injOnce .. => execInjOnce_within.fusesRise rfl rfl
  | .leaveGrant .. => execLeaveGrant_within.fusesRise rfl rfl
  | .noticeHoldExpiry .. => execNoticeHoldExpiry_within.fusesRise rfl rfl
  | .arbAgeExpiry .. => execArbAgeExpiry_within.fusesRise rfl rfl
  | .predictorExitStart .. => execPredictorExitStart_within.fusesRise rfl rfl
  | .domainExitComplete .. => execDomainExitComplete_within.fusesRise rfl rfl
  | .activityDecayExpiry .. => execActivityDecayExpiry_within.fusesRise rfl rfl
  | .bcaCodeChange .. => execBcaCodeChange_within.fusesRise rfl rfl
  | .powerFloorStep .. => execPowerFloorStep_within.fusesRise rfl rfl
  | .pwrBudgetViolation .. => execPwrBudgetViolation_within.fusesRise rfl rfl
  | .thermFloorStep .. => execThermFloorStep_within.fusesRise rfl rfl
  | .thermTrip .. => execThermTrip_within.fusesRise rfl rfl
  | .pwrRailFault .. => execPwrRailFault_within.fusesRise rfl rfl
  | .refclkPresent .. => execRefclkPresent_within.fusesRise rfl rfl
  | .clkRefLost .. => execClkRefLost_within.fusesRise rfl rfl
  | .refclkReturn .. => execRefclkReturn_within.fusesRise rfl rfl
  | .clockJudgedGood .. => execClockJudgedGood_fusesRise
  | .clkOutOfWindow .. => execClkOutOfWindow_within.fusesRise rfl rfl
  | .timeExchangePeriod .. => execTimeExchangePeriod_within.fusesRise rfl rfl
  | .delayReqReceive .. => execDelayReqReceive_within.fusesRise rfl rfl
  | .delayRespReceive .. => execDelayRespReceive_within.fusesRise rfl rfl
  | .timeHoldover .. => execTimeHoldover_within.fusesRise rfl rfl
  | .clkDtimeSetWrite .. => execClkDtimeSetWrite_within.fusesRise rfl rfl
  | .powerOnReset => execPowerOnReset_fusesRise
  | .coldReset .. => execColdReset_fusesRise
  | .coldStart .. => execColdStart_fusesRise
  | .warmResetRequest .. => execWarmResetRequest_within.fusesRise rfl rfl
  | .warmQuiesceDone .. => execWarmQuiesceDone_within.fusesRise rfl rfl
  | .warmRestore .. => execWarmRestore_fusesRise
  | .endpointResume .. => execEndpointResume_within.fusesRise rfl rfl
  | .shadowRetireComplete .. => execShadowRetireComplete_within.fusesRise rfl rfl
  | .shadowViewWrite .. => execShadowViewWrite_within.fusesRise rfl rfl
  | .registerWrite .. => execRegisterWrite_within.fusesRise rfl rfl
  | .secLockWrite .. => execSecLockWrite_within.fusesRise rfl rfl
  | .auditAdvance .. => execAuditAdvance_within.fusesRise rfl rfl
  | .debugUnlock .. => execDebugUnlock_within.fusesRise rfl rfl
  | .secTamper .. => execSecTamper_fusesRise
  | .secKeyIntegrity .. => execSecKeyIntegrity_fusesRise
  | .engineWatchdogExpiry .. => execEngineWatchdogExpiry_within.fusesRise rfl rfl
  | .mgcHang .. => execMgcHang_within.fusesRise rfl rfl
  | .memAutoRetire .. => execMemAutoRetire_within.fusesRise rfl rfl
  | .memMigrationComplete .. => execMemMigrationComplete_within.fusesRise rfl rfl
  | .memtestStart .. => execMemtestStart_within.fusesRise rfl rfl
  | .memtestDone .. => execMemtestDone_within.fusesRise rfl rfl
  | .sramBistRotation .. => execSramBistRotation_within.fusesRise rfl rfl
  | .counterSnapshot .. => execCounterSnapshot_within.fusesRise rfl rfl
  | .dumpWriteComplete .. => execDumpWriteComplete_within.fusesRise rfl rfl
  | .sampleCrossing .. => execSampleCrossing_within.fusesRise rfl rfl
  | .sampleCapture .. => execSampleCapture_within.fusesRise rfl rfl
  | .cntSampleCiWrite .. => execCntSampleCiWrite_within.fusesRise rfl rfl
  | .cntSampleEnable .. => execCntSampleEnable_within.fusesRise rfl rfl
  | .telemetryArrival .. => execTelemetryArrival_within.fusesRise rfl rfl
  | .railRestored .. => execRailRestored_within.fusesRise rfl rfl
  | .perstDeassert .. => execPerstDeassert_within.fusesRise rfl rfl
  | .hifLinkTrained .. => execHifLinkTrained_within.fusesRise rfl rfl
  | .vfEnableSet .. => execVfEnableSet_within.fusesRise rfl rfl
  | .pfcPauseExpiry .. => execPfcPauseExpiry_within.fusesRise rfl rfl
  | .ethernetPortDown .. => execEthernetPortDown_within.fusesRise rfl rfl
  | .markerBlockSend .. => execMarkerBlockSend_within.fusesRise rfl rfl
  | .openBackoffExpiry .. => execOpenBackoffExpiry_within.fusesRise rfl rfl

/-- Settles O10: a response burns a fuse more, an activation takes the larger SVN, and a reset keeps both. -/
theorem fusesOnlyRise : Obligations.FusesOnlyRise := by
  unfold Obligations.FusesOnlyRise
  intro c s t ht
  obtain ⟨hsvn, htamper⟩ := exec_fusesRise c t ht
  exact ⟨hsvn, fun h => (htamper h).1⟩

end

end Sys2Proof.Machine

namespace Sys2Proof.Machine

section
open Tests

/-! ### CMD_NOP and CMD_QUERY (R386, R459) -/

/-- CMD_QUERY of partition 1 into the buffer at 0x2000. -/
def queryArgs : CmdArgs := args (2 ^ 61 + 1) 0x2000 0 0 0

/-- The function writes at most 128 bytes at once (R386), so the record of 256 bytes goes out as two writes. -/
theorem exec_queryArgs : ∃ t, exec (.cmdQuery env0 queryArgs) world = .next t
    ∧ t.out.all (fun o => match o with | .record _ _ _ ws _ => decide (ws.length ≤ 16) | _ => true) = true ∧ t.heldOut = [] :=
  ⟨_, rfl, by decide, by decide⟩

/-- Refutes O11: with a Max_Payload_Size of 128 bytes no single write carries the record of CMD_QUERY. -/
theorem not_nopAndQueryComplete : ¬ Obligations.NopAndQueryComplete := by
  unfold Obligations.NopAndQueryComplete
  rintro ⟨-, hquery⟩
  obtain ⟨-, -, hturn, hwords, hkind, hrecord, hgate⟩ := witness_NopAndQueryComplete
  obtain ⟨u, hu, -, hputs, -⟩ := hquery env0 queryArgs world [1, 0, 1] hturn hwords hkind hrecord hgate
  obtain ⟨t, ht, hshort, hheld⟩ := exec_queryArgs
  obtain rfl := Host.Outcome.next.inj (ht.symm.trans hu)
  obtain hout | ⟨x, hx, -⟩ := hputs
  · have hlength := List.all_eq_true.1 hshort _ (List.mem_of_mem_drop hout)
    simp at hlength
  · rw [hheld] at hx
    exact absurd hx (List.not_mem_nil)

end

end Sys2Proof.Machine

namespace Sys2Proof.Machine

/-! ### Commands whose bodies store registers (R455) -/

section
variable {op : Nat} {a : CmdArgs} {env : CmdEnv} {body : CmdBody} {s t u : State} {status detail r0 r1 : Nat}

/-- The registers of the ring and of the windows that the completion of a command reads. -/
inductive RingReads : Reg → Nat → Prop
  | ringBase : RingReads .cmdRingBase 0
  | statusBase : RingReads .cmdStatusBase 0
  | ci : RingReads .cmdCi 0
  | windowBase {i : Nat} (h : i < 64) : RingReads .gteHostwinBase i
  | windowLimit {i : Nat} (h : i < 64) : RingReads .gteHostwinLimit i

/-- None of them has a shadow copy. -/
theorem RingReads.plain {r : Reg} {i : Nat} (h : RingReads r i) : r.info.cs = false := by cases h <;> rfl

/-- A body that changes neither a gate, nor what completing the command reads of the ring and of the registers. -/
theorem RingKept.of_reads {m : Nat} (h : RingTurn op a s) (hin : Within m (takenBy op a s) u)
    (hm : sub m 0x3ffffffffffffffffffffff0fefffffffffffffffffe = true)
    (hraw : ∀ r i, RingReads r i → u.raw r 0 i = s.raw r 0 i) : RingKept op a s u := by
  have hin' : Within 0x3ffffffffffffffffffffff0fefffffffffffffffffe (takenBy op a s) u := hin.weaken hm
  obtain ⟨hcmd, -, -, hout⟩ := takenBy_keeps op a s
  refine ⟨?_, hraw _ _ .ringBase, hraw _ _ .statusBase, hraw _ _ .ci, fun w hw => ?_, hout.trans hin'.out⟩
  · rw [hin'.keeps_cmd_next rfl, hin'.keeps_cmd_begun rfl, hin'.keeps_cmd_remote rfl, hin'.keeps_cmd_doneAhead rfl, hcmd]
    exact ⟨rfl, rfl, rfl, rfl⟩
  · have hport : s.fld .cmdRingBase 0 58 56 < 8 := bits_lt
    have hn : 0x40 + 8 * s.fld .cmdRingBase 0 58 56 + w - 0x40 < 64 := by omega
    rw [gateRefuses_congr ((hin'.keeps_gates rfl).trans takenBy_gates) (hraw _ _ (.windowBase hn)) (hraw _ _ (.windowLimit hn))]
    exact h.slot w hw

/-- A completed command changes the ring, the registers and what is put out of the state that its body left, and nothing else. -/
theorem completeCmd_settles (h : RingTurn op a s) (k : RingKept op a s u) :
    Within 0xff00000002000000000006 u (completeCmd (begunAs op a s) status detail r0 r1 u) := by
  obtain ⟨x, y, r, d, w, e, hx, -⟩ := completeCmd_form (status := status) (detail := detail) (r0 := r0) (r1 := r1) h k
  have hregs := (completeCmd_within (b := begunAs op a s) (status := status) (detail := detail) (r0 := r0) (r1 := r1) (s := u)).regs
  rw [e] at hregs ⊢
  exact ⟨rfl, hx, le_rfl, le_rfl, hregs, rfl⟩

/-- A command completed at its turn: what it answers, and what it leaves of the state that its body left. -/
theorem ring_settles (h : RingTurn op a s) (hb : body env a (begunAs op a s) (takenBy op a s) = (.done status detail r0 r1, u))
    (k : RingKept op a s u) :
    ∃ t, onRing op body env a s = .next t ∧ Answered op a s u t status detail r0 r1 ∧ Within 0xff00000002000000000006 u t := by
  rw [ring_turn h, hb]
  exact ⟨_, rfl, completeCmd_answered h k, completeCmd_settles h k⟩

/-- A register apart from CMD_CI reads, after the command completed OK, as its body left it. -/
theorem Answered.raw {r : Reg} {i k : Nat} (h : Answered op a s u t csOk detail r0 r1) (hrising : u.regsRising = true)
    (hcs : r.info.cs = false) (hapart : regAddr r i k ≠ regAddr .cmdCi 0 0) : t.raw r i k = u.raw r i k := by
  obtain ⟨-, -, -, hregs, -⟩ := h
  rw [← raw_setReg_other (k := 0) (v := (ciAfter (s.cmd.doneAhead.length + 1) (s.cmd.next :: s.cmd.doneAhead) s.cmdCi).1.toNat) hrising hapart]
  exact raw_congr hcs hregs

end

/-! ### CMD_FAULT_CLEAR (R510) -/

section
variable {s : State}

/-- The class counters of a list read 0. -/
def clearCounts (l : List Nat) (s : State) : State := l.foldl (fun s c => s.setReg .fltClassCnt 0 c 0) s

/-- FLT_FIRST_HI.VALID and FLT_OVERFLOW read 0. -/
def clearFirst (s : State) : State := (s.setReg .fltFirstHi 0 0 (s.raw .fltFirstHi 0 0 % 2 ^ 63)).setReg .fltOverflow 0 0 0

/-- The pending bits that CMD_FAULT_CLEAR of a kind leaves. -/
def clearPend (k : Nat) (s : State) : State :=
  { s with pend := s.pend.filter (fun x => decide (classOfCode x = 4) || decide (k ≠ 0xFF ∧ x ≠ k)) }

/-- Every class counter, where the kind is 0xFF. -/
def countsCleared (k : Nat) (s : State) : State := if k = 0xFF then clearCounts (List.range 5) (clearPend k s) else clearPend k s

def faultCleared (k : Nat) (first : Bool) (s : State) : State := if first then clearFirst (countsCleared k s) else countsCleared k s

theorem cmdFaultClear_clears {env : CmdEnv} {a : CmdArgs} {b : Begun} (h : badWords a [mask 7 0 + mask 63 63] = false) :
    cmdFaultClear env a b s = (.ok, faultCleared (bits a.w1.toNat 7 0) (bit a.w1.toNat 63) s) := by
  unfold cmdFaultClear
  simp only [h, Bool.false_eq_true, if_false]
  rfl

theorem clearCounts_within {l : List Nat} : Within 0x2000000000000 s (clearCounts l s) := Within.foldl (fun _ _ => State.setReg_within) Within.refl

theorem clearFirst_within : Within 0x2000000000000 s (clearFirst s) := State.setReg_within.app rfl State.setReg_within

theorem clearPend_within {k : Nat} : Within 0x2000000000000000000 s (clearPend k s) :=
  Within.upd (e := s) Within.refl rfl rfl rfl rfl rfl rfl rfl rfl

theorem countsCleared_within {k : Nat} : Within 0x2000002000000000000 s (countsCleared k s) :=
  .ite (clearCounts_within.app rfl (clearPend_within.weaken rfl)) (clearPend_within.weaken rfl)

theorem faultCleared_within {k : Nat} {first : Bool} : Within 0x2000002000000000000 s (faultCleared k first s) :=
  .ite (clearFirst_within.app rfl countsCleared_within) countsCleared_within

theorem faultCleared_pend {k : Nat} {first : Bool} :
    (faultCleared k first s).pend = s.pend.filter (fun x => decide (classOfCode x = 4) || decide (k ≠ 0xFF ∧ x ≠ k)) := by
  have hcounts : (countsCleared k s).pend = (clearPend k s).pend := by
    unfold countsCleared
    split
    · exact clearCounts_within.keeps_pend rfl
    · rfl
  unfold faultCleared
  split
  · exact (clearFirst_within.keeps_pend rfl).trans hcounts
  · exact hcounts

/-! The registers that it stores lie apart from each other, and from those of the ring and of the windows. -/

theorem regAddr_classCnt {c : Nat} : regAddr .fltClassCnt 0 c = 0x30020 + 8 * c := by
  simp [regAddr, Reg.info, Block.map]

theorem clearCounts_raw_apart (hs : s.regsRising = true) {l : List Nat} {r : Reg} {i : Nat}
    (h : ∀ c ∈ l, regAddr r 0 i ≠ regAddr .fltClassCnt 0 c) : (clearCounts l s).raw r 0 i = s.raw r 0 i := by
  induction l generalizing s with
  | nil => rfl
  | cons c l ih =>
    obtain ⟨hc, hl⟩ := List.forall_mem_cons.1 h
    exact (ih (setReg_rising hs) hl).trans (raw_setReg_other hs hc)

theorem clearCounts_raw_cleared (hs : s.regsRising = true) {l : List Nat} {c : Nat} (h : c ∈ l) : (clearCounts l s).raw .fltClassCnt 0 c = 0 := by
  induction l generalizing s with
  | nil => cases h
  | cons d l ih =>
    by_cases hc : c ∈ l
    · exact ih (setReg_rising hs) hc
    · obtain rfl : c = d := (List.mem_cons.1 h).resolve_right hc
      have hlater : ∀ e ∈ l, regAddr .fltClassCnt 0 c ≠ regAddr .fltClassCnt 0 e := fun e he heq => by
        rw [regAddr_classCnt, regAddr_classCnt] at heq
        obtain rfl : c = e := by omega
        exact hc he
      exact (clearCounts_raw_apart (setReg_rising hs) hlater).trans (raw_setReg_same rfl hs (Nat.two_pow_pos 64))

theorem clearFirst_raw_apart (hs : s.regsRising = true) {r : Reg} {i : Nat} (hhi : regAddr r 0 i ≠ regAddr .fltFirstHi 0 0)
    (hover : regAddr r 0 i ≠ regAddr .fltOverflow 0 0) : (clearFirst s).raw r 0 i = s.raw r 0 i :=
  (raw_setReg_other (setReg_rising hs) hover).trans (raw_setReg_other hs hhi)

theorem clearFirst_overflow (hs : s.regsRising = true) : (clearFirst s).raw .fltOverflow 0 0 = 0 :=
  raw_setReg_same rfl (setReg_rising hs) (by decide)

theorem clearFirst_valid (hs : s.regsRising = true) : bit ((clearFirst s).raw .fltFirstHi 0 0) 63 = false := by
  have hstored : (clearFirst s).raw .fltFirstHi 0 0 = s.raw .fltFirstHi 0 0 % 2 ^ 63 % 2 ^ 64 :=
    (raw_setReg_other (setReg_rising hs) (by decide)).trans (raw_setReg_same rfl hs (by decide))
  rw [hstored, bit, decide_eq_false_iff_not]
  omega

theorem countsCleared_raw_apart (hs : s.regsRising = true) {k i : Nat} {r : Reg} (hcs : r.info.cs = false)
    (h : ∀ c < 5, regAddr r 0 i ≠ regAddr .fltClassCnt 0 c) : (countsCleared k s).raw r 0 i = s.raw r 0 i := by
  unfold countsCleared
  split
  · exact (clearCounts_raw_apart (clearPend_within.regs hs) fun c hc => h c (List.mem_range.1 hc)).trans (raw_congr hcs rfl)
  · exact raw_congr hcs rfl

/-- A register apart from those that the command stores reads as before. -/
theorem faultCleared_raw_apart (hs : s.regsRising = true) {k i : Nat} {first : Bool} {r : Reg} (hcs : r.info.cs = false)
    (hcnt : ∀ c < 5, regAddr r 0 i ≠ regAddr .fltClassCnt 0 c) (hhi : regAddr r 0 i ≠ regAddr .fltFirstHi 0 0)
    (hover : regAddr r 0 i ≠ regAddr .fltOverflow 0 0) : (faultCleared k first s).raw r 0 i = s.raw r 0 i := by
  have hcounts := countsCleared_raw_apart (k := k) hs hcs hcnt
  unfold faultCleared
  split
  · exact (clearFirst_raw_apart (countsCleared_within.regs hs) hhi hover).trans hcounts
  · exact hcounts

theorem faultCleared_ringReads (hs : s.regsRising = true) {k i : Nat} {first : Bool} {r : Reg} (h : RingReads r i) :
    (faultCleared k first s).raw r 0 i = s.raw r 0 i := by
  refine faultCleared_raw_apart hs h.plain ?_ ?_ ?_ <;> cases h <;> simp only [regAddr, Reg.info, Block.map] <;> omega

theorem faultCleared_classCnt (hs : s.regsRising = true) {k c : Nat} {first : Bool} (hc : c < 5) :
    (faultCleared k first s).raw .fltClassCnt 0 c = if k = 0xFF then 0 else s.raw .fltClassCnt 0 c := by
  have hcounts : (countsCleared k s).raw .fltClassCnt 0 c = if k = 0xFF then 0 else s.raw .fltClassCnt 0 c := by
    unfold countsCleared
    split
    · exact clearCounts_raw_cleared (clearPend_within.regs hs) (List.mem_range.2 hc)
    · exact raw_congr rfl rfl
  unfold faultCleared
  split
  · refine (clearFirst_raw_apart (countsCleared_within.regs hs) ?_ ?_).trans hcounts <;>
      simp only [regAddr, Reg.info, Block.map] <;> omega
  · exact hcounts

theorem faultCleared_overflow (hs : s.regsRising = true) {k : Nat} {first : Bool} :
    (faultCleared k first s).raw .fltOverflow 0 0 = if first then 0 else s.raw .fltOverflow 0 0 := by
  unfold faultCleared
  split
  · exact clearFirst_overflow (countsCleared_within.regs hs)
  · exact countsCleared_raw_apart hs rfl (by decide)

theorem faultCleared_valid (hs : s.regsRising = true) {k : Nat} {first : Bool} :
    bit ((faultCleared k first s).raw .fltFirstHi 0 0) 63 = (!first && bit (s.raw .fltFirstHi 0 0) 63) := by
  cases first with
  | true => exact clearFirst_valid (countsCleared_within.regs hs)
  | false => exact congrArg (bit · 63) (countsCleared_raw_apart hs rfl (by decide))

/-- Settles O12: the body stores the counters and the latch as asked, and completing it stores CMD_CI apart from them. -/
theorem faultClearClears : Obligations.FaultClearClears := by
  unfold Obligations.FaultClearClears
  intro env a s hturn hwords hs
  have htaken : (takenBy 0x49 a s).regsRising = true := takenBy_within.regs hs
  have hin := faultCleared_within (s := takenBy 0x49 a s) (k := bits a.w1.toNat 7 0) (first := bit a.w1.toNat 63)
  have hrising := hin.regs htaken
  have hkept : RingKept 0x49 a s (faultCleared (bits a.w1.toNat 7 0) (bit a.w1.toNat 63) (takenBy 0x49 a s)) :=
    .of_reads hturn hin rfl fun r i hr => (faultCleared_ringReads htaken hr).trans (takenBy_raw r 0 i)
  obtain ⟨t, ht, hanswered, hleft⟩ := ring_settles hturn (cmdFaultClear_clears (env := env) hwords) hkept
  have hraw {r : Reg} {i : Nat} (hcs : r.info.cs = false) (hr : regAddr r 0 i ≠ regAddr .cmdCi 0 0) :=
    hanswered.raw hrising hcs hr
  have hpend : t.pend = _ := (hleft.keeps_pend rfl).trans (faultCleared_pend.trans (by rw [takenBy_within.keeps_pend rfl]))
  have hst : Within 0xff02000002000000000006 s t :=
    ((hturn.taken_unwoken (List.mem_of_elem_eq_true rfl)).weaken rfl).trans ((hin.weaken rfl).trans (hleft.weaken rfl))
  obtain ⟨hnext, hbegun, -⟩ := hanswered
  refine ⟨t, ht, hnext, hbegun, hst.only _ (by intro p; cases p <;> decide), fun x => ?_, fun c hc => ?_, ?_, ?_⟩
  · rw [hpend]
    simp
  · rw [hraw rfl (by rw [regAddr_classCnt]; simp only [regAddr, Reg.info, Block.map]; omega), faultCleared_classCnt htaken hc, takenBy_raw]
  · rw [hraw rfl (by decide), faultCleared_overflow htaken, takenBy_raw]
  · rw [hraw rfl (by decide), faultCleared_valid htaken, takenBy_raw]

end

end Sys2Proof.Machine

namespace Sys2Proof.Machine

/-! ### FLT_CLASS_CNT (R16, R509) -/

/-- The canonical registers whose counter of class 0 holds 2^32, a bit above the field. -/
def wideCounter : State := { State.reset with regs := [(regAddr .fltClassCnt 0 0, word (2 ^ 32))] }

/-- Refutes O16: the clause of the warm reset has no bound on the counters, and a warm reset keeps the 32 bits of the field alone. -/
theorem not_classCountersCountEveryMessage : ¬ Obligations.ClassCountersCountEveryMessage := by
  unfold Obligations.ClassCountersCountEveryMessage
  rintro ⟨-, hwarm⟩
  have hkept := hwarm wideCounter 0 (by decide) (by decide)
  have hread : wideCounter.raw .fltClassCnt 0 0 = 2 ^ 32 := by decide
  have hmasked : ({ wideCounter with regs := warmRegs wideCounter.regs } : State).raw .fltClassCnt 0 0 = 0 := by decide
  rw [hread, hmasked] at hkept
  exact absurd hkept (by decide)

end Sys2Proof.Machine

namespace Sys2Proof.Machine

/-! ### CMD_GATE_WRITE (R479, R480, R486, R497) -/

section
variable {s u : State} {gate n : Nat} {a : CmdArgs} {env : CmdEnv} {b : Begun}

theorem rule_gate : (s.rule gate n).gate = gate := by
  unfold State.rule
  cases h : s.gates.find? (fun r => r.gate = gate && r.rule = n) with
  | none => rfl
  | some r => simpa using (And.left (by simpa using List.find?_some h))

theorem rule_rule : (s.rule gate n).rule = n := by
  unfold State.rule
  cases h : s.gates.find? (fun r => r.gate = gate && r.rule = n) with
  | none => rfl
  | some r => simpa using (And.right (by simpa using List.find?_some h))

/-- Lists that agree on what satisfies one condition agree on what satisfies another with it. -/
theorem filter_and_congr {α : Type} {l m : List α} {p q : α → Bool} (h : l.filter p = m.filter p) :
    l.filter (fun x => p x && q x) = m.filter (fun x => p x && q x) := by
  simp only [Bool.and_comm (p _)]
  rw [← List.filter_filter, ← List.filter_filter, h]

/-- Two states hold the same rules of a gate. -/
def SameRules (gate : Nat) (s u : State) : Prop := u.gates.filter (fun r => r.gate = gate) = s.gates.filter (fun r => r.gate = gate)

theorem SameRules.rule (h : SameRules gate s u) : u.rule gate n = s.rule gate n := by
  unfold State.rule
  rw [← List.head?_filter, ← List.head?_filter, filter_and_congr h]

/-- What a gate decides rests on its own rules and on its window. -/
theorem SameRules.gateRefuses {addr len : Nat} {x : Access_} (h : SameRules gate s u)
    (hb : u.raw .gteHostwinBase 0 (gate - 0x40) = s.raw .gteHostwinBase 0 (gate - 0x40))
    (hl : u.raw .gteHostwinLimit 0 (gate - 0x40) = s.raw .gteHostwinLimit 0 (gate - 0x40)) :
    u.gateRefuses gate addr len x = s.gateRefuses gate addr len x := by
  have hdecider : ∀ n, u.decider gate n x = s.decider gate n x := fun n => by
    unfold State.decider
    simp only [Bool.and_assoc]
    rw [filter_and_congr h, h.rule]
  have hcovers : ∀ n, u.covers gate n = s.covers gate n := fun n => by simp only [State.covers, State.fld, hb, hl]; rfl
  have hedges : u.edges gate addr len = s.edges gate addr len := by
    unfold State.edges
    simp only [show u.gates.filter (fun r => r.gate = gate) = s.gates.filter (fun r => r.gate = gate) from h, State.fld, hb]
  unfold State.gateRefuses State.gateRefusesAny
  simp only [List.flatMap_cons, List.flatMap_nil, hedges, hdecider, hcovers]

/-- The rule that the words of a command name. -/
def writtenRule (a : CmdArgs) (gate rule : Nat) (s : State) : GateRule :=
  if rule = 63 then { s.rule gate rule with w0 := word (ruleReset 63 - 2 ^ 62 + (a.w2.toNat &&& (2 ^ 62 + 2 ^ 59))) }
  else { gate := gate, rule := rule, w0 := a.w2, base := a.w3.toNat, limit := a.w4.toNat }

/-- A rule in place of the one that its gate has under its number. -/
def putRule (new : GateRule) (s : State) : State :=
  { s with gates := new :: s.gates.filter (fun r => !(r.gate == new.gate && r.rule == new.rule)) }

theorem putRule_within {new : GateRule} : Within 0x1000000000000000000 s (putRule new s) :=
  Within.upd (e := s) Within.refl rfl rfl rfl rfl rfl rfl rfl rfl

theorem putRule_sameRules {new : GateRule} (h : gate ≠ new.gate) : SameRules gate s (putRule new s) := by
  unfold SameRules putRule
  rw [List.filter_cons_of_neg (by simpa using h.symm), List.filter_filter]
  refine List.filter_congr fun r _ => ?_
  by_cases hr : r.gate = gate
  · simp [hr, h]
  · simp [hr]

theorem putRule_rule {new : GateRule} : (putRule new s).rule new.gate new.rule = new := by
  simp [State.rule, putRule]

theorem putRule_rule_other {new : GateRule} (h : (gate, n) ≠ (new.gate, new.rule)) : (putRule new s).rule gate n = s.rule gate n := by
  have hnew : ¬ (new.gate = gate ∧ new.rule = n) := fun he => h (Prod.ext_iff.2 ⟨he.1.symm, he.2.symm⟩)
  unfold State.rule putRule
  rw [← List.head?_filter, ← List.head?_filter, List.filter_cons_of_neg (by simpa using hnew), List.filter_filter]
  refine congrArg (fun l : List GateRule => l.head?.getD _) (List.filter_congr fun r _ => ?_)
  by_cases hr : r.gate = gate ∧ r.rule = n
  · obtain ⟨rfl, rfl⟩ := hr
    have : ¬ (r.gate = new.gate ∧ r.rule = new.rule) := fun he => hnew ⟨he.1.symm, he.2.symm⟩
    simpa [imp_iff_not_or] using this
  · have : (decide (r.gate = gate) && decide (r.rule = n)) = false := by simpa using hr
    rw [this, Bool.false_and]

theorem writtenRule_eq {rule : Nat} : writtenRule a gate rule s =
    if rule = 63 then { s.rule gate 63 with w0 := word (0xB000000000000000 + (a.w2.toNat &&& (2 ^ 62 + 2 ^ 59))) }
    else { gate := gate, rule := rule, w0 := a.w2, base := a.w3.toNat, limit := a.w4.toNat } := by
  unfold writtenRule
  split
  · subst_vars
    rfl
  · rfl

theorem writtenRule_place {rule : Nat} : (writtenRule a gate rule s).gate = gate ∧ (writtenRule a gate rule s).rule = rule := by
  unfold writtenRule
  split
  · exact ⟨rule_gate, rule_rule⟩
  · exact ⟨rfl, rfl⟩

/-- The words of a command name a rule that a gate can hold. -/
structure RuleWords (a : CmdArgs) : Prop where
  words : badWords a [mask 6 0 + mask 13 8, allBits, allBits, allBits] = false
  gate : bits a.w1.toNat 6 0 < 0x18 ∨ 0x20 ≤ bits a.w1.toNat 6 0
  fields : bits a.w1.toNat 13 8 ≠ 63 → reservedSet a.w2 (mask 63 59 + mask 55 31 + mask 15 0) = false ∧ a.w3.toNat ≤ a.w4.toNat

/-- The rule that a command names is locked. -/
def State.ruleLocked (s : State) (gate rule : Nat) : Bool := bit (s.raw .secLock 0 0) 0 && bit (s.rule gate rule).w0.toNat 59

theorem RuleWords.good (h : RuleWords a) :
    (badWords a [mask 6 0 + mask 13 8, allBits, allBits, allBits]
      || (decide (0x18 ≤ bits a.w1.toNat 6 0) && decide (bits a.w1.toNat 6 0 < 0x20))
      || (bits a.w1.toNat 13 8 != 63
        && (reservedSet a.w2 (mask 63 59 + mask 55 31 + mask 15 0) || decide (a.w4.toNat < a.w3.toNat)))) = false := by
  obtain ⟨hwords, hgate, hfields⟩ := h
  have hexists : (decide (0x18 ≤ bits a.w1.toNat 6 0) && decide (bits a.w1.toNat 6 0 < 0x20)) = false := by
    rw [Bool.and_eq_false_iff, decide_eq_false_iff_not, decide_eq_false_iff_not]
    omega
  rw [hwords, hexists, Bool.false_or, Bool.false_or, Bool.and_eq_false_imp]
  intro hrule
  obtain ⟨hreserved, hrange⟩ := hfields (by simpa using hrule)
  rw [hreserved, Bool.false_or, decide_eq_false_iff_not]
  omega

/-- The state in which the command has stored its rule, and the accesses that it must wait for. -/
def ruleStored (a : CmdArgs) (s : State) : State := putRule (writtenRule a (bits a.w1.toNat 6 0) (bits a.w1.toNat 13 8) s) s

def ruleDetail (a : CmdArgs) : Nat := at_ 8 (bits a.w1.toNat 6 0) + bits a.w1.toNat 13 8

def ruleWait (a : CmdArgs) (b : Begun) (s : State) : GateWait := s.gateWait b ((bits a.w1.toNat 6 0 - 0x40) / 8) (ruleDetail a)

theorem ruleStored_gates : ruleStored a s = { s with
    gates := writtenRule a (bits a.w1.toNat 6 0) (bits a.w1.toNat 13 8) s
      :: s.gates.filter (fun r => !(r.gate == bits a.w1.toNat 6 0 && r.rule == bits a.w1.toNat 13 8)) } := by
  unfold ruleStored putRule
  rw [writtenRule_place.1, writtenRule_place.2]

/-- What CMD_GATE_WRITE does once its words are in order and the rule is not locked. -/
theorem cmdGateWrite_writes (h : RuleWords a) (hl : s.ruleLocked (bits a.w1.toNat 6 0) (bits a.w1.toNat 13 8) = false) :
    cmdGateWrite env a b s =
      if 0x40 ≤ bits a.w1.toNat 6 0 ∧ (ruleStored a s).gateWaiting (ruleWait a b (ruleStored a s)) then
        (.wait, { ruleStored a s with cmd := { s.cmd with gateWaits := s.cmd.gateWaits ++ [ruleWait a b (ruleStored a s)] } })
      else (.ok, audit 0x0030 a.mid (ruleDetail a) (ruleStored a s)) := by
  unfold cmdGateWrite
  simp only [h.good, Bool.false_eq_true, if_false]
  rw [if_neg (by rw [show (bit (s.raw .secLock 0 0) 0 && _) = false from hl]; decide), ruleStored_gates]
  rfl

theorem cmdGateWrite_locked (h : RuleWords a) (hl : s.ruleLocked (bits a.w1.toNat 6 0) (bits a.w1.toNat 13 8) = true) :
    cmdGateWrite env a b s = (.done csProtection (ruleDetail a) 0 0, s) := by
  unfold cmdGateWrite
  simp only [h.good, Bool.false_eq_true, if_false]
  rw [if_pos (show (bit (s.raw .secLock 0 0) 0 && _) = true from hl)]
  rfl

end

/-! #### At its turn -/

section
variable {s : State} {a : CmdArgs} {env : CmdEnv}

theorem takenBy_rule {op gate n : Nat} : (takenBy op a s).rule gate n = s.rule gate n := by
  unfold State.rule
  rw [takenBy_gates]

theorem takenBy_ruleLocked {op gate n : Nat} : (takenBy op a s).ruleLocked gate n = s.ruleLocked gate n := by
  unfold State.ruleLocked
  rw [takenBy_raw, takenBy_rule]

theorem ruleStored_rule : (ruleStored a s).rule (bits a.w1.toNat 6 0) (bits a.w1.toNat 13 8)
    = writtenRule a (bits a.w1.toNat 6 0) (bits a.w1.toNat 13 8) s := by
  have hput := putRule_rule (s := s) (new := writtenRule a (bits a.w1.toNat 6 0) (bits a.w1.toNat 13 8) s)
  rwa [writtenRule_place.1, writtenRule_place.2] at hput

theorem ruleStored_within : Within 0x1000000000000000000 s (ruleStored a s) := putRule_within

theorem ruleStored_sameRules {gate : Nat} (h : gate ≠ bits a.w1.toNat 6 0) : SameRules gate s (ruleStored a s) :=
  putRule_sameRules (writtenRule_place.1 ▸ h)

/-- The answer goes through the windows of the ring, whose rules stand where the gate is another one. -/
theorem ruleStored_ringKept (h : RingTurn 0x2A a s) (hgate : bits a.w1.toNat 6 0 < 0x40) :
    RingKept 0x2A a s (audit 0x0030 a.mid (ruleDetail a) (ruleStored a (takenBy 0x2A a s))) := by
  have hin : Within 0x1001f00000000000000 (takenBy 0x2A a s) (audit 0x0030 a.mid (ruleDetail a) (ruleStored a (takenBy 0x2A a s))) :=
    audit_within.app rfl (ruleStored_within.weaken rfl)
  have hraw : ∀ (r : Reg) (i : Nat), r.info.cs = false →
      (audit 0x0030 a.mid (ruleDetail a) (ruleStored a (takenBy 0x2A a s))).raw r 0 i = s.raw r 0 i := fun r i hcs =>
    raw_congr hcs ((hin.keeps_regs rfl).trans takenBy_regs)
  refine ⟨?_, hraw _ _ rfl, hraw _ _ rfl, hraw _ _ rfl, fun w hw => ?_, ?_⟩
  · rw [hin.keeps_cmd fun _ => rfl, (takenBy_keeps 0x2A a s).1]
    exact ⟨rfl, rfl, rfl, rfl⟩
  · have hsame : SameRules (0x40 + 8 * s.fld .cmdRingBase 0 58 56 + w) s (audit 0x0030 a.mid (ruleDetail a) (ruleStored a (takenBy 0x2A a s))) := by
      have hput := ruleStored_sameRules (s := takenBy 0x2A a s) (a := a) (gate := 0x40 + 8 * s.fld .cmdRingBase 0 58 56 + w) (by omega)
      unfold SameRules at hput ⊢
      rw [audit_within.keeps_gates rfl, hput, takenBy_gates]
    rw [hsame.gateRefuses (hraw _ _ rfl) (hraw _ _ rfl)]
    exact h.slot w hw
  · rw [hin.keeps_out rfl]
    exact (takenBy_keeps 0x2A a s).2.2.2

/-- A rule of a gate that has no part in the answer: the command completes OK with the rule stored and recorded. -/
theorem gateWrite_answers (h : RingTurn 0x2A a s) (hr : RuleWords a)
    (hl : s.ruleLocked (bits a.w1.toNat 6 0) (bits a.w1.toNat 13 8) = false) (hgate : bits a.w1.toNat 6 0 < 0x40) :
    ∃ t, exec (.cmdGateWrite env a) s = .next t ∧ Answered 0x2A a s s t csOk 0 0 0 ∧ Only [.ring, .regs, .held, .draws, .gates, .audit] s t
      ∧ t.gates = (ruleStored a s).gates := by
  have hbody : cmdGateWrite env a (begunAs 0x2A a s) (takenBy 0x2A a s)
      = (.ok, audit 0x0030 a.mid (ruleDetail a) (ruleStored a (takenBy 0x2A a s))) := by
    rw [cmdGateWrite_writes hr (takenBy_ruleLocked.trans hl), if_neg (by omega)]
  obtain ⟨t, ht, hanswered, hleft⟩ := ring_settles h hbody (ruleStored_ringKept h hgate)
  have hin : Within 0x1001f00000000000000 (takenBy 0x2A a s) (audit 0x0030 a.mid (ruleDetail a) (ruleStored a (takenBy 0x2A a s))) :=
    audit_within.app rfl (ruleStored_within.weaken rfl)
  have hall : Within 0xff01001f02000000000006 s t :=
    ((h.taken_unwoken (List.mem_of_elem_eq_true rfl)).weaken rfl).trans ((hin.weaken rfl).trans (hleft.weaken rfl))
  refine ⟨t, ht, hanswered.congr ((hin.keeps_regs rfl).trans takenBy_regs).symm, hall.only _ (by intro p; cases p <;> decide), ?_⟩
  rw [hleft.keeps_gates rfl, audit_within.keeps_gates rfl, ruleStored_gates, ruleStored_gates]
  simp only [takenBy_gates, writtenRule, takenBy_rule]

/-- A locked rule: PROTECTION names it, and nothing else changes. -/
theorem gateWrite_protects (h : RingTurn 0x2A a s) (hr : RuleWords a)
    (hl : s.ruleLocked (bits a.w1.toNat 6 0) (bits a.w1.toNat 13 8) = true) :
    ∃ t, exec (.cmdGateWrite env a) s = .next t ∧ Answered 0x2A a s s t csProtection (ruleDetail a) 0 0 ∧ Only [.ring, .regs, .held] s t := by
  have hbody := cmdGateWrite_locked (s := takenBy 0x2A a s) (env := env) (b := begunAs 0x2A a s) hr (takenBy_ruleLocked.trans hl)
  obtain ⟨t, ht, hanswered, hleft⟩ := ring_settles h hbody (.of h rfl takenBy_regs takenBy_gates rfl)
  have hall : Within 0xff00000002000000000006 s t :=
    ((h.taken_unwoken (List.mem_of_elem_eq_true rfl)).weaken rfl).trans hleft
  exact ⟨t, ht, hanswered.congr takenBy_regs.symm, hall.only _ (by intro p; cases p <;> decide)⟩

/-- Settles O31: the rule of the words takes the place of the former one, and only the gate and number that it names read otherwise. -/
theorem gateWriteReplacesOneRule : Obligations.GateWriteReplacesOneRule := by
  unfold Obligations.GateWriteReplacesOneRule
  intro env a s hturn hwords gate rule hgate hfields new v w
  have hr : RuleWords a := ⟨hwords, hgate, hfields⟩
  have hnew : new = writtenRule a gate rule s := writtenRule_eq.symm
  have hv : v = ruleStored a (takenBy 0x2A a s) := by
    rw [ruleStored_gates, takenBy_gates]
    simp only [v, hnew, writtenRule, takenBy_rule]
    rfl
  refine ⟨fun hl hlow => ?_, fun hl hhigh => ?_, gateWrite_protects hturn hr⟩
  · obtain ⟨t, ht, hanswered, honly, hgates⟩ := gateWrite_answers (env := env) hturn hr hl hlow
    have hrule : ∀ g n, t.rule g n = (ruleStored a s).rule g n := fun g n => by
      unfold State.rule
      rw [hgates]
    refine ⟨t, ht, hanswered, honly, ?_, fun g n hgn => ?_⟩
    · rw [hrule, hnew]
      exact ruleStored_rule
    · rw [hrule]
      exact putRule_rule_other (by rwa [writtenRule_place.1, writtenRule_place.2])
  · show onRing 0x2A cmdGateWrite env a s = _
    rw [ring_turn hturn, cmdGateWrite_writes hr (takenBy_ruleLocked.trans hl), ← hv]
    by_cases hwait : v.gateWaiting w = true
    · rw [if_pos ⟨hhigh, hwait⟩, if_pos hwait]
      rfl
    · rw [if_neg fun hboth => hwait hboth.2, if_neg hwait]
      rfl

end

end Sys2Proof.Machine

namespace Sys2Proof.Machine

/-! ### Commands that read host memory (R399, R458) -/

section
variable {op : Nat} {a : CmdArgs} {s u : State} {m : Nat}

/-- A body that changes neither a register, nor a gate, nor what completing the command reads of the ring. -/
theorem RingKept.of_within (h : RingTurn op a s) (hin : Within m (takenBy op a s) u)
    (hm : sub m 0x3ffffffffffffffffffffff0fefffffdfffffffffffe = true) : RingKept op a s u := by
  have hregs : u.regs = s.regs := ((hin.weaken hm).keeps_regs rfl).trans takenBy_regs
  exact .of_reads h (hin.weaken hm) rfl fun r i hr => raw_congr hr.plain hregs

/-- Every window permits a read of host memory. -/
theorem hostRefusal_permits {port mid addr len : Nat} {pkey : Option Nat} (h : ∀ w, w < 8 → s.gateRefuses (0x40 + 8 * port + w) addr len ⟨mid, pkey, false⟩ = none) :
    hostRefusal port 0 mid pkey [(addr, len)] s = (none, s) := by
  have hgates : hostGates port 0 mid pkey [(addr, len)] s = (true, s) := hostGates_permits fun w hw => gateCheck_read (h w hw)
  unfold hostGates at hgates
  obtain ⟨hnone, hstate⟩ := Prod.ext_iff.1 hgates
  exact Prod.ext (Option.isNone_iff_eq_none.1 hnone) hstate

/-- A read that is permitted and brings its bytes puts its requests out. -/
theorem adminRead_data {port mid addr len : Nat} {pkey : Option Nat} {bs : List Byte}
    (h : ∀ w, w < 8 → s.gateRefuses (0x40 + 8 * port + w) addr len ⟨mid, pkey, false⟩ = none) :
    ∃ u, adminRead (.data bs) port mid pkey [(addr, len)] s = (.ok bs, u) ∧ Within 0x6 s u := by
  unfold adminRead
  rw [hostRefusal_permits h]
  exact ⟨_, rfl, State.emits_within⟩

/-- The same for a command at its turn. -/
theorem adminRead_taken {port mid addr len : Nat} {pkey : Option Nat} {bs : List Byte}
    (h : ∀ w, w < 8 → s.gateRefuses (0x40 + 8 * port + w) addr len ⟨mid, pkey, false⟩ = none) :
    ∃ u, adminRead (.data bs) port mid pkey [(addr, len)] (takenBy op a s) = (.ok bs, u) ∧ Within 0x6 (takenBy op a s) u :=
  adminRead_data fun w hw => (gateRefuses_congr takenBy_gates (takenBy_raw ..) (takenBy_raw ..)).trans (h w hw)

end

/-! ### CMD_SHADOW_LOAD (R466, R469) -/

section
variable {a : CmdArgs} {env : CmdEnv} {s u : State} {bs : List Byte}

/-- What the records of an image make of the banks rests on the banks and on SEC_LOCK. -/
structure SameSets (s u : State) : Prop where
  regs : u.regs = s.regs
  bank0 : u.bank0 = s.bank0
  bank1 : u.bank1 = s.bank1
  sel : u.cmd.bank = s.cmd.bank

theorem SameSets.bank (h : SameSets s u) (b : Bool) : u.bank b = s.bank b := by
  unfold State.bank
  rw [h.bank0, h.bank1, h.sel]

theorem SameSets.setBank (h : SameSets s u) (b : Bool) (f : RegFile) : SameSets (s.setBank b f) (u.setBank b f) := by
  obtain ⟨hregs, h0, h1, hsel⟩ := h
  unfold State.setBank
  rw [hsel]
  split
  · exact ⟨hregs, h0, rfl, hsel⟩
  · exact ⟨hregs, rfl, h1, hsel⟩

theorem SameSets.foldl {α : Type} {f : State → α → State} (hf : ∀ {s u : State}, SameSets s u → ∀ x, SameSets (f s x) (f u x)) (l : List α)
    (h : SameSets s u) : SameSets (l.foldl f s) (l.foldl f u) := by
  induction l generalizing s u with
  | nil => exact h
  | cons x l ih => exact ih (hf h x)

theorem SameSets.setShadow (h : SameSets s u) (r : Reg) (i k v : Nat) : SameSets (s.setShadow r i k v) (u.setShadow r i k v) := by
  unfold State.setShadow
  rw [h.bank]
  exact h.setBank _ _

theorem SameSets.shadowRaw (h : SameSets s u) (r : Reg) (i k : Nat) : u.shadowRaw r i k = s.shadowRaw r i k := by
  unfold State.shadowRaw
  rw [h.bank]

theorem SameSets.writable (h : SameSets s u) (r : Reg) : u.writable r = s.writable r := by
  have hlock : u.secLocked = s.secLocked := by
    unfold State.secLocked State.fld
    rw [raw_congr rfl h.regs]
  unfold State.writable
  rw [hlock]

theorem SameSets.applyRec (h : SameSets s u) (r : ImageRec) : SameSets (applyRec s r) (applyRec u r) := by
  unfold Machine.applyRec
  cases r.target with
  | none => exact h
  | some x =>
    refine h.foldl (fun hk j => ?_) _
    rw [hk.writable, hk.shadowRaw]
    exact hk.setShadow ..

/-- The sets that the records of an image leave. -/
def loaded (copy : Bool) (rs : List ImageRec) (s : State) : State := rs.foldl applyRec (if copy then s.setBank false (s.bank true) else s)

theorem SameSets.loaded (h : SameSets s u) (copy : Bool) (rs : List ImageRec) : SameSets (loaded copy rs s) (loaded copy rs u) := by
  refine SameSets.foldl (fun hk r => hk.applyRec r) rs ?_
  split
  · rw [h.bank]
    exact h.setBank _ _
  · exact h

theorem loaded_within {copy : Bool} {rs : List ImageRec} : Within 0xc000000000000 s (loaded copy rs s) :=
  Within.foldl (fun _ _ => applyRec_within) (.ite (State.setBank_within fun hs => bank_rising hs) Within.refl)

/-! The shadow set alone is stored into. -/

theorem setBank_false_active (f : RegFile) : (s.setBank false f).bank true = s.bank true := by
  unfold State.setBank State.bank
  cases h : s.cmd.bank <;> simp [h]

theorem applyRec_active (r : ImageRec) : (applyRec s r).bank true = s.bank true := by
  unfold applyRec
  cases r.target with
  | none => rfl
  | some x =>
    refine List.foldlRecOn (motive := fun u => State.bank u true = s.bank true) _ _ rfl fun u hu j _ => ?_
    exact (setBank_false_active _).trans hu

theorem loaded_active {copy : Bool} {rs : List ImageRec} : (loaded copy rs s).bank true = s.bank true := by
  unfold loaded
  refine List.foldlRecOn (motive := fun u => State.bank u true = s.bank true) _ _ ?_ fun u hu r _ => (applyRec_active r).trans hu
  split
  · exact setBank_false_active _
  · rfl

/-- What CMD_SHADOW_LOAD does with an image that it has read. -/
theorem cmdShadowLoad_reads {b : Begun} (hwords : badWords a [mask 63 63 + mask 31 0, allBits] = false) (h2 : s.cmd.shadow ≠ 2)
    (h3 : s.cmd.shadow ≠ 3) (hslow : env.slow = false)
    (hread : adminRead env.read (midPort a.mid) a.mid none [(a.w2.toNat, bits a.w1.toNat 31 0)] s = (.ok bs, u)) :
    cmdShadowLoad env a b s = shadowApply a (some bs) u := by
  unfold cmdShadowLoad
  simp only [hwords, Bool.false_eq_true, if_false, h2, h3, or_self, hread, hslow]

theorem shadowApply_ok {rs : List ImageRec} (h : imageCheck (bits a.w1.toNat 31 0) bs = .ok rs) :
    shadowApply a (some bs) s = (.result rs.length, setShadowState 1 (loaded (bit a.w1.toNat 63) rs s)) := by
  unfold shadowApply
  simp only [Option.elim_some, h]
  rfl

theorem shadowApply_error {off : Nat} (h : imageCheck (bits a.w1.toNat 31 0) bs = .error off) :
    shadowApply a (some bs) s = (.done csValidation 0 0 off, s) := by
  unfold shadowApply
  simp only [Option.elim_some, h]

/-- Settles O32: the image is read and checked whole before a record of it is applied. -/
theorem shadowLoadAppliesWholeImage : Obligations.ShadowLoadAppliesWholeImage := by
  unfold Obligations.ShadowLoadAppliesWholeImage
  intro env a s bs hturn hwords h2 h3 hs hgates hread hslow
  obtain ⟨u, hu, hput⟩ := adminRead_taken (op := 0x30) (a := a) (bs := bs) hgates
  have htaken := hturn.taken_unwoken (List.mem_of_elem_eq_true rfl)
  have hsu : Within 0x500000000000000000006 s u := (htaken.weaken rfl).trans (hput.weaken rfl)
  have hbody : cmdShadowLoad env a (begunAs 0x30 a s) (takenBy 0x30 a s) = shadowApply a (some bs) u :=
    cmdShadowLoad_reads hwords (by rwa [htaken.keeps_cmd_shadow rfl]) (by rwa [htaken.keeps_cmd_shadow rfl]) hslow (hread ▸ hu)
  refine ⟨fun rs himage => ?_, fun off himage => ?_⟩
  · rw [shadowApply_ok himage] at hbody
    have hloaded : Within 0x1000000000c000000000000 u (setShadowState 1 (loaded (bit a.w1.toNat 63) rs u)) :=
      setShadowState_within.app rfl (loaded_within.weaken rfl)
    have hin : Within 0x1000000000c000000000006 (takenBy 0x30 a s) (setShadowState 1 (loaded (bit a.w1.toNat 63) rs u)) :=
      hloaded.app rfl (hput.weaken rfl)
    obtain ⟨t, ht, hanswered, hleft⟩ := ring_settles hturn hbody (.of_within hturn hin rfl)
    have hall : Within 0x1ff0000000e000000000006 s t := (hsu.weaken rfl).trans ((hloaded.weaken rfl).trans (hleft.weaken rfl))
    have hregs : (setShadowState 1 (loaded (bit a.w1.toNat 63) rs u)).regs = s.regs := (hloaded.keeps_regs rfl).trans (hsu.keeps_regs rfl)
    have hsame : SameSets s u := ⟨hsu.keeps_regs rfl, hsu.keeps_bank0 rfl, hsu.keeps_bank1 rfl, hsu.keeps_cmd_bank rfl⟩
    have hbank (b : Bool) : t.bank b = (loaded (bit a.w1.toNat 63) rs s).bank b := by
      refine Eq.trans ?_ ((hsame.loaded (bit a.w1.toNat 63) rs).bank b)
      unfold State.bank
      rw [hleft.keeps_bank0 rfl, hleft.keeps_bank1 rfl, hleft.keeps_cmd_bank rfl]
      rfl
    exact ⟨t, ht, hanswered.congr hregs.symm, hall.only _ (by intro p; cases p <;> decide), hleft.keeps_cmd_shadow rfl,
      hall.keeps_cmd_bank rfl, hall.keeps_cmd_gen rfl, (hbank true).trans loaded_active, hbank false⟩
  · rw [shadowApply_error himage] at hbody
    obtain ⟨t, ht, hanswered, hleft⟩ := ring_settles hturn hbody (.of_within hturn hput rfl)
    have hall : Within 0xff00000002000000000006 s t := (hsu.weaken rfl).trans hleft
    exact ⟨t, ht, hanswered.congr (hsu.keeps_regs rfl).symm, hall.only _ (by intro p; cases p <;> decide)⟩

end

end Sys2Proof.Machine

namespace Sys2Proof.Machine

/-! ### CMD_HINGE (R466, R470, R471) -/

/-- The set in force, its generation and the state of the shadow set stand. -/
def KeepsSets (s t : State) : Prop := t.cmd.bank = s.cmd.bank ∧ t.cmd.gen = s.cmd.gen ∧ t.cmd.shadow = s.cmd.shadow

section
variable {m : Nat} {s t u : State}

theorem KeepsSets.refl : KeepsSets s s := ⟨rfl, rfl, rfl⟩

theorem KeepsSets.trans (h : KeepsSets s t) (k : KeepsSets t u) : KeepsSets s u :=
  ⟨k.1.trans h.1, k.2.1.trans h.2.1, k.2.2.trans h.2.2⟩

theorem KeepsSets.app (k : Within m t u) (hm : sub m 0x3ffffffffffffffffffff8fffffffffffffffffffffe = true) (h : KeepsSets s t) : KeepsSets s u := by
  have k' := k.weaken hm
  exact h.trans ⟨k'.keeps_cmd_bank rfl, k'.keeps_cmd_gen rfl, k'.keeps_cmd_shadow rfl⟩

theorem KeepsSets.ite {c : Prop} [Decidable c] (ht : KeepsSets s t) (hu : KeepsSets s u) : KeepsSets s (if c then t else u) := by
  split <;> assumption

theorem KeepsSets.foldl {α : Type} {f : State → α → State} (hf : ∀ t x, KeepsSets t (f t x)) (l : List α) (h : KeepsSets s t) :
    KeepsSets s (l.foldl f t) := by
  induction l generalizing t with
  | nil => exact h
  | cons x l ih => exact ih (h.trans (hf t x))

end

/-! #### What ends a job leaves the sets -/

section
variable {s : State}

theorem ringDone_keepsSets {p : Pos} : KeepsSets s (ringDone p s) := ⟨rfl, rfl, rfl⟩

theorem answer_keepsSets {chan : Channel} {mid : Nat} {ws : Bool → List Word} : KeepsSets s (answer chan mid ws s) := by
  cases chan with
  | ring p =>
    have hgates : KeepsSets s (hostGates (s.fld .cmdRingBase 0 58 56) 1 mid none [(s.statusAddr p, 32)] s).2 :=
      .app hostGates_within rfl .refl
    refine .trans ?_ ringDone_keepsSets
    exact .ite (.app State.emit_within rfl hgates) hgates
  | mctp q => exact .app State.emit_within rfl .refl
  | packet src q => exact .app State.emit_within rfl .refl

theorem completeCmd_keepsSets {b : Begun} {status detail r0 r1 : Nat} : KeepsSets s (completeCmd b status detail r0 r1 s) := by
  unfold completeCmd
  extract_lets cmd ended captured t
  have hended : KeepsSets s ended := ⟨rfl, rfl, rfl⟩
  exact .trans (.ite hended (.app cmdErr_within rfl hended)) answer_keepsSets

theorem completeWhere_keepsSets {p : Begun → Bool} {status detail r0 r1 : Nat} : KeepsSets s (completeWhere p status detail r0 r1 s) := by
  unfold completeWhere
  split
  · exact completeCmd_keepsSets
  · exact .refl

theorem queueIdle_keepsSets {qid : Nat} : KeepsSets s (queueIdle qid s) := by
  unfold queueIdle
  split
  · exact .refl
  · refine .ite .refl ?_
    extract_lets told
    have htold : KeepsSets s told := .ite (.app queueEvent_within rfl (.app updQueue_within rfl .refl)) .refl
    exact .ite (.trans (.app freeQueue_within rfl htold) completeWhere_keepsSets) htold

theorem jobEnded_keepsSets {jid : Nat} {after : Option BoundEvent} : KeepsSets s (jobEnded jid after s) := by
  unfold jobEnded
  split
  · exact .refl
  · split
    · exact .app dropJob_within rfl .refl
    · extract_lets cq record released flushed
      have hreleased : KeepsSets s released := by
        refine .ite (.app cqWake_within rfl (.app cqRelease_within rfl (.app dropJob_within rfl .refl))) (.ite ?_ (.ite .refl ?_))
        · exact .app cqPush_within rfl (.app dropJob_within rfl .refl)
        · exact .app cqWake_within rfl (.app cqRelease_within rfl .refl)
      have hflushed : KeepsSets s flushed := .ite hreleased (.app batchFlush_within rfl hreleased)
      exact .app domainSleep_within rfl (hflushed.trans queueIdle_keepsSets)

theorem endJob_keepsSets {jid status : Nat} : KeepsSets s (endJob jid status s) := by
  unfold endJob endJobAfter
  split
  · exact .refl
  · refine .ite .refl (.trans ?_ jobEnded_keepsSets)
    exact .app endRefusals_within rfl (.app updJob_within rfl .refl)

/-! #### The commit -/

theorem hingePort_keepsSets {o : State} {n : Nat} : KeepsSets s (hingePort o s n) := by
  unfold hingePort
  extract_lets was now changed rate jobs slowed switched
  have hslowed : KeepsSets s slowed := .ite (.foldl (fun _ _ => .app updLane_within rfl .refl) _ .refl) .refl
  have hswitched : KeepsSets s switched :=
    .ite (.app portDisable_within rfl hslowed) <| .ite hslowed <| .ite (.app portEnable_within rfl hslowed) <|
      .ite (.app portRetrain_within rfl hslowed) hslowed
  exact .foldl (fun _ _ => endJob_keepsSets) _ hswitched

/-- The commit puts the other bank in force under the next generation. -/
theorem hingeCommit_sets {o : State} : (hingeCommit o).cmd.bank = !o.cmd.bank ∧ (hingeCommit o).cmd.gen = (o.cmd.gen + 1) % 2 ^ 64
    ∧ (hingeCommit o).cmd.shadow = 3 := by
  unfold hingeCommit
  extract_lets code refilled cmd switched rated xlt walked timed clocked ported laned
  have hrated : KeepsSets switched rated :=
    .app ratesOff_within rfl (.app hingePower_within rfl (.app startPolicers_within rfl (.app clampPolicers_within rfl .refl)))
  clear_value rated
  have hwalked : KeepsSets switched walked := .ite hrated (hrated.trans ⟨rfl, rfl, rfl⟩)
  clear_value walked
  have htimed : KeepsSets switched timed := .ite hwalked (.app timeRoleChanged_within rfl hwalked)
  clear_value timed
  have hclocked : KeepsSets switched clocked := .ite htimed (.app clkOutChanged_within rfl htimed)
  clear_value clocked
  have hported : KeepsSets switched ported := .foldl (fun _ _ => hingePort_keepsSets) _ hclocked
  clear_value ported
  have hlaned : KeepsSets switched laned := .foldl (fun _ _ => .app hingeLane_within rfl .refl) _ hported
  clear_value laned
  have hswitched : Within 0x20008000000000000000000000000000000000000000 o refilled :=
    refillPolicers_within.app rfl (refill_within.weaken rfl)
  obtain ⟨hbank, hgen, hshadow⟩ : KeepsSets switched _ := .app fabSettle_within rfl (.app hingeGrants_within rfl hlaned)
  rw [hbank, hgen, hshadow]
  exact ⟨congrArg (! ·) (hswitched.keeps_cmd_bank rfl), congrArg (fun g => (g + 1) % 2 ^ 64) (hswitched.keeps_cmd_gen rfl), rfl⟩

end

/-! #### The validation -/

section
variable {s : State} {a : CmdArgs} {env : CmdEnv}

/-- A command that wakes no domain takes its place in the ring, and the read of it goes out. -/
theorem takenBy_form {op : Nat} (ho : (objectOf op a).1 ∈ [0, 2, 4]) :
    ∃ x y, takenBy op a s = { s with
      out := x, heldOut := y
      cmd := { s.cmd with next := s.cmd.next + 1, begun := s.cmd.begun ++ [begunAs op a s] } } := by
  obtain ⟨x, y, he, -, -⟩ := emit_form ({ s with cmd := { s.cmd with next := s.cmd.next + 1 } } : State)
    (.hostRead s.hif.nextReq (s.fld .cmdRingBase 0 58 56) (s.ringAddr s.cmd.next) 64 false)
  have hwake : wakeForCommand (objectOf op a) (begunIn op a s) = begunIn op a s := by
    simp only [List.mem_cons, List.not_mem_nil, or_false] at ho
    obtain ho | ho | ho := ho <;> simp [wakeForCommand, ho]
  refine ⟨x, y, ?_⟩
  rw [takenBy_eq, hwake]
  unfold begunIn
  rw [he]

theorem chainLong_congr {t u : State} (h : ∀ n, u.raw .qosPolCtrl 0 n = t.raw .qosPolCtrl 0 n) (n fuel : Nat) :
    chainLong u n fuel = chainLong t n fuel := by
  induction fuel generalizing n with
  | zero => rfl
  | succ fuel ih => simp only [chainLong, h, ih]

theorem lineTwice_congr {t u : State} (h : ∀ d c, u.lineTo d c = t.lineTo d c) (l : List (Nat × Nat)) (seen : List Nat) :
    lineTwice u l seen = lineTwice t l seen := by
  induction l generalizing seen with
  | nil => rfl
  | cons x l ih => simp only [lineTwice, h, ih]

/-- What a validation reads, taking the command leaves. -/
theorem takenBy_hingeFails : (takenBy 0x31 a s).hingeFails = s.hingeFails := by
  obtain ⟨x, y, he⟩ := takenBy_form (op := 0x31) (a := a) (s := s) (List.mem_of_elem_eq_true rfl)
  have hline : lineTwice (shadowInForce (takenBy 0x31 a s)) lineEntries [] = lineTwice (shadowInForce s) lineEntries [] :=
    lineTwice_congr (fun _ _ => by rw [he]; rfl) _ _
  have hchain (n : Nat) : chainLong (shadowInForce (takenBy 0x31 a s)) n 4 = chainLong (shadowInForce s) n 4 :=
    chainLong_congr (fun _ => by rw [he]; rfl) _ _
  unfold State.hingeFails
  simp only [hline, hchain]
  rw [he]
  rfl

/-- What CMD_HINGE asks of its words and of the shadow set. -/
structure Hingeable (a : CmdArgs) (s : State) : Prop where
  words : badWords a [1, allBits] = false
  gen : a.w2 = 0 ∨ a.w2.toNat = s.cmd.gen
  validating : s.cmd.shadow ≠ 2
  retiring : s.cmd.shadow ≠ 3
  invalid : s.cmd.shadow ≠ 5

/-- What CMD_HINGE does then. -/
theorem cmdHinge_goes {b : Begun} (h : Hingeable a s) : cmdHinge env a b s =
    if env.slow then (.work, setShadowState 2 s)
    else match s.hingeFails with
      | off :: _ => (.done csValidation 0 0 off, setShadowState 1 (setFailOffset off s))
      | [] => if bit a.w1.toNat 0 then (.result s.cmd.gen, s) else (.done csOk 0 (hingeCommit s).cmd.gen (hingeCommit s).dtimeNs, hingeCommit s) := by
  obtain ⟨hwords, hgen, h2, h3, h5⟩ := h
  have hnot : ¬ ((a.w2 ≠ 0 ∧ a.w2.toNat ≠ s.cmd.gen) ∨ s.cmd.shadow = 2 ∨ s.cmd.shadow = 3) := by
    rintro (⟨hne, hother⟩ | h | h)
    · exact hgen.elim hne hother
    · exact h2 h
    · exact h3 h
  unfold cmdHinge
  rw [if_neg (by simp [hwords]), if_neg hnot, if_neg h5] <;> rfl

/-- Taking the command leaves what it asks. -/
theorem Hingeable.taken (h : Hingeable a s) : Hingeable a (takenBy 0x31 a s) := by
  obtain ⟨hwords, hgen, h2, h3, h5⟩ := h
  have hcmd := (takenBy_keeps 0x31 a s).1
  refine ⟨hwords, ?_, ?_, ?_, ?_⟩ <;> rw [hcmd] <;> assumption

end

section
variable {s : State} {a : CmdArgs} {env : CmdEnv}

/-- The hinge that passes. -/
theorem hinge_commits (h : RingTurn 0x31 a s) (hh : Hingeable a s) (hslow : env.slow = false) (hfails : s.hingeFails = [])
    (hw : bit a.w1.toNat 0 = false) :
    onRing 0x31 cmdHinge env a s = .next (completeCmd (begunAs 0x31 a s) csOk 0 (hingeCommit (takenBy 0x31 a s)).cmd.gen
      (hingeCommit (takenBy 0x31 a s)).dtimeNs (hingeCommit (takenBy 0x31 a s))) := by
  rw [ring_turn h, cmdHinge_goes hh.taken, takenBy_hingeFails, hfails]
  simp only [hslow, hw, Bool.false_eq_true, if_false]

/-- What is in force after it. -/
theorem hinge_exchanges (u : State) (b : Begun) (r0 r1 : Nat) :
    let t := completeCmd b csOk 0 r0 r1 (hingeCommit u)
    t.cmd.bank = (!u.cmd.bank) ∧ t.cmd.gen = (u.cmd.gen + 1) % 2 ^ 64 ∧ t.cmd.shadow = 3
      ∧ t.bank0 = u.bank0 ∧ t.bank1 = u.bank1 ∧ t.fab.exc = u.fab.exc ∧ t.gates = u.gates := by
  intro t
  obtain ⟨hbank, hgen, hshadow⟩ := hingeCommit_sets (o := u)
  obtain ⟨kbank, kgen, kshadow⟩ : KeepsSets (hingeCommit u) t := completeCmd_keepsSets
  have hin : Within 0x3892838001060f4227801fff02001f0304000d7c984e u t := completeCmd_within.app rfl (hingeCommit_within)
  exact ⟨kbank.trans hbank, kgen.trans hgen, kshadow.trans hshadow, hin.keeps_bank0 rfl, hin.keeps_bank1 rfl, hin.keeps_fab_exc rfl,
    hin.keeps_gates rfl⟩

/-- The hinge that fails. -/
theorem hinge_fails (h : RingTurn 0x31 a s) (hh : Hingeable a s) (hs : s.regsRising = true) (hslow : env.slow = false) {off : Nat}
    {rest : List Nat} (hfails : s.hingeFails = off :: rest) :
    ∃ t, onRing 0x31 cmdHinge env a s = .next t ∧ Answered 0x31 a s (setFailOffset off s) t csValidation 0 0 off
      ∧ Only [.ring, .regs, .held, .sets] s t ∧ t.cmd.shadow = 1 ∧ t.cmd.bank = s.cmd.bank ∧ t.cmd.gen = s.cmd.gen
      ∧ t.bank0 = s.bank0 ∧ t.bank1 = s.bank1 := by
  have hbody : cmdHinge env a (begunAs 0x31 a s) (takenBy 0x31 a s)
      = (.done csValidation 0 0 off, setShadowState 1 (setFailOffset off (takenBy 0x31 a s))) := by
    rw [cmdHinge_goes hh.taken, takenBy_hingeFails, hfails]
    simp only [hslow, Bool.false_eq_true, if_false]
  have hin : Within 0x10000000002000000000000 (takenBy 0x31 a s) (setShadowState 1 (setFailOffset off (takenBy 0x31 a s))) :=
    setShadowState_within.app rfl (setFailOffset_within.weaken rfl)
  have htaken := h.taken_unwoken (List.mem_of_elem_eq_true rfl)
  have hkept : RingKept 0x31 a s (setShadowState 1 (setFailOffset off (takenBy 0x31 a s))) := by
    refine .of_reads h hin rfl fun r i hr => ?_
    have hstored : (setFailOffset off (takenBy 0x31 a s)).raw r 0 i = (takenBy 0x31 a s).raw r 0 i := by
      refine raw_setReg_other (htaken.regs hs) ?_
      cases hr <;> simp only [regAddr, Reg.info, Block.map] <;> omega
    exact (raw_congr hr.plain rfl).trans (hstored.trans (takenBy_raw r 0 i))
  obtain ⟨t, ht, hanswered, hleft⟩ := ring_settles h hbody hkept
  have hall : Within 0x1ff00000002000000000006 s t := (htaken.weaken rfl).trans ((hin.weaken rfl).trans (hleft.weaken rfl))
  have hregs : (setFailOffset off s).regs = (setShadowState 1 (setFailOffset off (takenBy 0x31 a s))).regs := by
    show _ = (setFailOffset off (takenBy 0x31 a s)).regs
    unfold setFailOffset
    rw [takenBy_raw]
    exact (setReg_congr takenBy_regs).symm
  exact ⟨t, ht, hanswered.congr hregs, hall.only _ (by intro p; cases p <;> decide), hleft.keeps_cmd_shadow rfl, hall.keeps_cmd_bank rfl,
    hall.keeps_cmd_gen rfl, hall.keeps_bank0 rfl, hall.keeps_bank1 rfl⟩

/-- The hinge that validates alone. -/
theorem hinge_validates (h : RingTurn 0x31 a s) (hh : Hingeable a s) (hslow : env.slow = false) (hfails : s.hingeFails = [])
    (hw : bit a.w1.toNat 0 = true) :
    ∃ t, onRing 0x31 cmdHinge env a s = .next t ∧ Answered 0x31 a s s t csOk 0 s.cmd.gen 0 ∧ Only [.ring, .regs, .held] s t := by
  have htaken := h.taken_unwoken (List.mem_of_elem_eq_true rfl)
  have hbody : cmdHinge env a (begunAs 0x31 a s) (takenBy 0x31 a s) = (.result s.cmd.gen, takenBy 0x31 a s) := by
    rw [cmdHinge_goes hh.taken, takenBy_hingeFails, hfails, htaken.keeps_cmd_gen rfl]
    simp only [hslow, hw, Bool.false_eq_true, if_false, if_true]
  obtain ⟨t, ht, hanswered, hleft⟩ := ring_settles h hbody (.of_within h (m := 0) Within.refl rfl)
  have hall : Within 0xff00000002000000000006 s t := (htaken.weaken rfl).trans hleft
  exact ⟨t, ht, hanswered.congr takenBy_regs.symm, hall.only _ (by intro p; cases p <;> decide)⟩

/-- The hinge that is still at work when its step ends. -/
theorem hinge_works (h : RingTurn 0x31 a s) (hh : Hingeable a s) (hslow : env.slow = true) :
    ∃ t, onRing 0x31 cmdHinge env a s = .next t ∧ Only [.ring, .sets] s t ∧ t.cmd.shadow = 2 ∧ t.cmd.bank = s.cmd.bank ∧ t.cmd.gen = s.cmd.gen
      ∧ t.bank0 = s.bank0 ∧ t.bank1 = s.bank1 ∧ t.cmd.begun = s.cmd.begun ++ [begunAs 0x31 a s] := by
  have htaken := h.taken_unwoken (List.mem_of_elem_eq_true rfl)
  have hworking := ring_turn (body := cmdHinge) (env := env) h
  rw [cmdHinge_goes hh.taken, if_pos hslow] at hworking
  have hcmd := (takenBy_keeps 0x31 a s).1
  refine ⟨_, hworking, ?_, rfl, htaken.keeps_cmd_bank rfl, htaken.keeps_cmd_gen rfl, htaken.keeps_bank0 rfl, htaken.keeps_bank1 rfl,
    congrArg (·.begun) hcmd⟩
  have hall : Within 0x1ff00000000000000000002 s (setShadowState 2 (takenBy 0x31 a s)) :=
    setShadowState_within.app rfl (htaken.weaken rfl)
  exact Within.only (m := 0x1ff00000000000000000002) _ (Within.upd (e := setShadowState 2 (takenBy 0x31 a s)) hall rfl rfl rfl rfl rfl rfl rfl rfl)
    (by intro p; cases p <;> decide)

end

/-- Settles O33: the commit exchanges the banks and no side effect of it touches them; what fails or validates alone stores no set. -/
theorem hingeExchangesBanks : Obligations.HingeExchangesBanks := by
  unfold Obligations.HingeExchangesBanks
  refine ⟨fun env a s hturn hwords hw hgen h2 h3 h5 hs hslow => ?_, fun env a s hturn hwords hw hgen h2 h3 h5 hfails hslow => ?_,
    fun env a s v hv hturn hwords hgen h2 h3 h5 hslow => ?_⟩
  · have hh : Hingeable (withW1 0 0 0 a) s := ⟨hwords, hgen, h2, h3, h5⟩
    refine ⟨fun hfails => ?_, fun off rest hfails => hinge_fails hturn hh hs hslow hfails⟩
    dsimp only
    have hexec : exec (.cmdHinge env a) s = onRing 0x31 cmdHinge env (withW1 0 0 0 a) s := rfl
    have hcommit := hexec.trans (hinge_commits hturn hh hslow hfails hw)
    obtain ⟨hbank, hgen', hshadow, h0, h1, hexc, hgates⟩ := hinge_exchanges (takenBy 0x31 (withW1 0 0 0 a) s)
      (begunAs 0x31 (withW1 0 0 0 a) s) (hingeCommit (takenBy 0x31 (withW1 0 0 0 a) s)).cmd.gen
      (hingeCommit (takenBy 0x31 (withW1 0 0 0 a) s)).dtimeNs
    have htaken := hturn.taken_unwoken (List.mem_of_elem_eq_true rfl)
    refine ⟨hcommit, _, hcommit, ?_⟩
    exact ⟨hbank.trans (congrArg (! ·) (htaken.keeps_cmd_bank rfl)),
      hgen'.trans (congrArg (fun g => (g + 1) % 2 ^ 64) (htaken.keeps_cmd_gen rfl)), hshadow, h0.trans (htaken.keeps_bank0 rfl),
      h1.trans (htaken.keeps_bank1 rfl), hexc.trans (htaken.keeps_fab_exc rfl), hgates.trans takenBy_gates⟩
  · exact hinge_validates hturn ⟨hwords, hgen, h2, h3, h5⟩ hslow hfails hw
  · obtain rfl | rfl := hv
    · exact hinge_works hturn ⟨hwords, hgen, h2, h3, h5⟩ hslow
    · exact hinge_works hturn ⟨hwords, hgen, h2, h3, h5⟩ hslow

end Sys2Proof.Machine

namespace Sys2Proof.Machine

/-! ### CMD_KEY_INSTALL (R490-R492, R497) -/

section
variable {s u : State} {a : CmdArgs} {env : CmdEnv} {kind pkey mid : Nat} {bs key : List Byte}

/-- The row fixes KIND, bits [3:0] of W1 (R459). -/
theorem bits_kind {v : Nat} (hv : v < 16) : bits (withW1 3 0 v a).w1.toNat 3 0 = v := by
  have hw : a.w1.toNat < 2 ^ 64 := a.w1.isLt
  simp only [withW1, word, putBits, bits, BitVec.toNat_ofNat]
  omega

/-- What a refusal rests on. -/
theorem keyRefusal_congr (hr : u.regs = s.regs) (hp : u.rma = s.rma) (hx : u.xlt = s.xlt) (hk : u.sec.partKeys = s.sec.partKeys)
    (ho : u.sec.ownerKey = s.sec.ownerKey) : u.keyRefusal kind pkey = s.keyRefusal kind pkey := by
  unfold State.keyRefusal State.secLocked State.fld State.partition?
  rw [raw_congr rfl hr, hp, hx, hk, ho]

theorem takenBy_keyRefusal {op : Nat} : (takenBy op a s).keyRefusal kind pkey = s.keyRefusal kind pkey :=
  keyRefusal_congr takenBy_regs takenBy_rma takenBy_xlt (takenBy_within.keeps_sec_partKeys rfl) (takenBy_within.keeps_sec_ownerKey rfl)

/-- What unwrapping a key rests on. -/
theorem keyUnwrap_congr (hr : u.regs = s.regs) (hk : u.sec.keyBits = s.sec.keyBits) (hd : u.sys = s.sys) : keyUnwrap kind bs u = keyUnwrap kind bs s := by
  unfold keyUnwrap wrapping State.keyOf State.dukOpen
  rw [raw_congr rfl hr, hk, hd]

/-- A blob that is permitted, read and fits, and whose key its unwrapping gives. -/
theorem cmdKeyInstall_installs {b : Begun} (hwords : badWords a [mask 3 0 + mask 31 16, allBits, allBits] = false)
    (hkind : bits a.w1.toNat 3 0 = kind) (h1 : 1 ≤ kind ∧ kind ≤ 3) (hpkey : (if kind = 2 then bits a.w1.toNat 31 16 else 0) = pkey)
    (hlen : a.w3.toNat = keyLength kind) (hrefusal : s.keyRefusal kind pkey = csOk)
    (hread : adminRead env.read (midPort a.mid) a.mid (if kind = 2 then some pkey else none) [(a.w2.toNat, keyLength kind)] s = (.ok bs, u))
    (hfits : blobFits kind pkey bs = true) (hkey : keyUnwrap kind bs u = some key) :
    cmdKeyInstall env a b s = (.ok, audit 0x0010 a.mid (keyDetail kind pkey 0) (keyTake a.mid kind pkey key u)) := by
  have h8 : (kind = 2 ∨ kind = 8) ↔ kind = 2 := by omega
  unfold cmdKeyInstall
  simp only [hwords, Bool.false_eq_true, if_false, hkind, h1, and_self, if_true, h8, hpkey]
  unfold keyInstall
  simp only [hlen, hrefusal, hread, hfits, hkey, ne_eq, not_true, if_false, Bool.not_true, Bool.false_eq_true]

/-- The store after a key is taken. -/
theorem keyTake_store (h1 : 1 ≤ kind ∧ kind ≤ 3) :
    (keyTake mid kind pkey key s).sec.ownerKey = (decide (kind = 1) || s.sec.ownerKey)
    ∧ (keyTake mid kind pkey key s).sec.partKeys = (if kind = 1 then [] else if kind = 2 then pkey :: s.sec.partKeys else s.sec.partKeys)
    ∧ (keyTake mid kind pkey key s).sec.fabricKey = (if kind = 1 then false else if kind = 2 then s.sec.fabricKey else true) := by
  obtain rfl | rfl | rfl : kind = 1 ∨ kind = 2 ∨ kind = 3 := by omega
  · exact ⟨rfl, zeroizeStore_partKeys, zeroizeStore_fabricKey⟩
  · exact ⟨by simp [keyTake, keyHold], rfl, rfl⟩
  · exact ⟨by simp [keyTake, keyHold], rfl, rfl⟩

/-- Kinds 0x8 to 0xA, where the partition of kind 0x8 exists. -/
theorem cmdKeyInstall_zeroizes {b : Begun} (hwords : badWords a [mask 3 0 + mask 31 16, allBits, allBits] = false)
    (hkind : bits a.w1.toNat 3 0 = kind) (h8 : 8 ≤ kind ∧ kind ≤ 10) (hpart : kind = 8 → (s.partition? (bits a.w1.toNat 31 16)).isSome = true) :
    cmdKeyInstall env a b s = (.ok, keyZeroize a.mid kind (if kind = 8 then bits a.w1.toNat 31 16 else 0) s) := by
  have h3 : ¬ (1 ≤ kind ∧ kind ≤ 3) := by omega
  have h2 : (kind = 2 ∨ kind = 8) ↔ kind = 8 := by omega
  have hnone : ¬ (kind = 8 ∧ (s.partition? (if kind = 8 then bits a.w1.toNat 31 16 else 0)).isNone = true) := by
    rintro ⟨rfl, h⟩
    simp [Option.isSome_iff_ne_none.1 (hpart rfl)] at h
  unfold cmdKeyInstall
  simp only [hwords, Bool.false_eq_true, if_false, hkind, h3, h8, and_self, if_true, h2]
  rw [if_neg hnone]

/-- The store after keys are erased. -/
theorem keyZeroize_store (h8 : 8 ≤ kind ∧ kind ≤ 10) :
    (keyZeroize mid kind pkey s).sec.ownerKey = (decide (kind ≠ 10) && s.sec.ownerKey)
    ∧ (keyZeroize mid kind pkey s).sec.partKeys
      = (if kind = 8 then s.sec.partKeys.filter (· ≠ pkey) else if kind = 9 then s.sec.partKeys else [])
    ∧ (keyZeroize mid kind pkey s).sec.fabricKey = (decide (kind = 8) && s.sec.fabricKey) := by
  obtain rfl | rfl | rfl : kind = 8 ∨ kind = 9 ∨ kind = 10 := by omega
  all_goals exact ⟨by simp [keyZeroize], by simp [keyZeroize], by simp [keyZeroize]⟩

/-- Erasing keys changes the store and the audit log alone. -/
theorem keyZeroize_keys (h8 : 8 ≤ kind ∧ kind ≤ 10) : Within 0x1ff0000000000000 s (keyZeroize mid kind pkey s) := by
  unfold keyZeroize
  obtain rfl | rfl | rfl : kind = 8 ∨ kind = 9 ∨ kind = 10 := by omega
  all_goals exact audit_within.app rfl (Within.upd (e := s) Within.refl rfl rfl rfl rfl rfl rfl rfl rfl)

/-- What keys and the audit log alone change, the command completes with. -/
theorem ring_sets_keys {body : CmdBody} (h : RingTurn 0x48 a s) (hb : body env a (begunAs 0x48 a s) (takenBy 0x48 a s) = (.ok, u))
    (hin : Within 0x1ff000000000000e (takenBy 0x48 a s) u) (hregs : u.regs = s.regs) :
    ∃ t, onRing 0x48 body env a s = .next t ∧ Answered 0x48 a s s t csOk 0 0 0 ∧ Only [.ring, .regs, .held, .draws, .keys, .audit] s t
      ∧ t.sec.ownerKey = u.sec.ownerKey ∧ t.sec.partKeys = u.sec.partKeys ∧ t.sec.fabricKey = u.sec.fabricKey := by
  obtain ⟨t, ht, hanswered, hleft⟩ := ring_settles h hb (.of_within h hin rfl)
  have hall : Within 0xff00001ff200000000000e s t :=
    ((h.taken_unwoken (List.mem_of_elem_eq_true rfl)).weaken rfl).trans ((hin.weaken rfl).trans (hleft.weaken rfl))
  exact ⟨t, ht, hanswered.congr hregs.symm, hall.only _ (by intro p; cases p <;> decide), hleft.keeps_sec_ownerKey rfl,
    hleft.keeps_sec_partKeys rfl, hleft.keeps_sec_fabricKey rfl⟩

theorem keyInstall_answers (h : RingTurn 0x48 a s) (hwords : badWords a [mask 3 0 + mask 31 16, allBits, allBits] = false)
    (hkind : bits a.w1.toNat 3 0 = kind) (h1 : 1 ≤ kind ∧ kind ≤ 3) (hpkey : (if kind = 2 then bits a.w1.toNat 31 16 else 0) = pkey)
    (hlen : a.w3.toNat = keyLength kind) (hrefusal : s.keyRefusal kind pkey = csOk)
    (hgates : ∀ w, w < 8 → s.gateRefuses (0x40 + 8 * midPort a.mid + w) a.w2.toNat (keyLength kind)
      ⟨a.mid, if kind = 2 then some pkey else none, false⟩ = none)
    (hread : env.read = .data bs) (hfits : blobFits kind pkey bs = true) (hkey : keyUnwrap kind bs s = some key) :
    ∃ t, onRing 0x48 cmdKeyInstall env a s = .next t ∧ Answered 0x48 a s s t csOk 0 0 0
      ∧ Only [.ring, .regs, .held, .draws, .keys, .audit] s t
      ∧ t.sec.ownerKey = (decide (kind = 1) || s.sec.ownerKey)
      ∧ t.sec.partKeys = (if kind = 1 then [] else if kind = 2 then pkey :: s.sec.partKeys else s.sec.partKeys)
      ∧ t.sec.fabricKey = (if kind = 1 then false else if kind = 2 then s.sec.fabricKey else true) := by
  obtain ⟨v, hv, hput⟩ := adminRead_taken (op := 0x48) (a := a) (bs := bs) hgates
  have htaken := h.taken_unwoken (List.mem_of_elem_eq_true rfl)
  have hsv : Within 0x500000000000000000006 s v := (htaken.weaken rfl).trans (hput.weaken rfl)
  have hunwrap : keyUnwrap kind bs v = some key :=
    (keyUnwrap_congr (hsv.keeps_regs rfl) (hsv.keeps_sec_keyBits rfl) (hsv.keeps_sys fun _ => rfl)).trans hkey
  have hbody := cmdKeyInstall_installs (env := env) (b := begunAs 0x48 a s) hwords hkind h1 hpkey hlen (takenBy_keyRefusal.trans hrefusal)
    (hread ▸ hv) hfits hunwrap
  have hin : Within 0x1ff0000000000000 v (audit 0x0010 a.mid (keyDetail kind pkey 0) (keyTake a.mid kind pkey key v)) :=
    audit_within.app rfl keyTake_within
  obtain ⟨t, ht, hanswered, honly, howner, hpart, hfabric⟩ :=
    ring_sets_keys h hbody (hin.app rfl (hput.weaken rfl)) ((hin.keeps_regs rfl).trans (hsv.keeps_regs rfl))
  obtain ⟨kowner, kpart, kfabric⟩ := keyTake_store (s := v) (mid := a.mid) (pkey := pkey) (key := key) h1
  rw [hsv.keeps_sec_ownerKey rfl] at kowner
  rw [hsv.keeps_sec_partKeys rfl] at kpart
  rw [hsv.keeps_sec_fabricKey rfl] at kfabric
  exact ⟨t, ht, hanswered, honly, howner.trans (audit_ownerKey.trans kowner), hpart.trans (audit_partKeys.trans kpart),
    hfabric.trans (audit_fabricKey.trans kfabric)⟩

theorem keyZeroize_answers (h : RingTurn 0x48 a s) (hwords : badWords a [mask 3 0 + mask 31 16, allBits, allBits] = false)
    (hkind : bits a.w1.toNat 3 0 = kind) (h8 : 8 ≤ kind ∧ kind ≤ 10) (hpart : kind = 8 → (s.partition? (bits a.w1.toNat 31 16)).isSome = true) :
    ∃ t, onRing 0x48 cmdKeyInstall env a s = .next t ∧ Answered 0x48 a s s t csOk 0 0 0
      ∧ Only [.ring, .regs, .held, .draws, .keys, .audit] s t
      ∧ t.sec.ownerKey = (decide (kind ≠ 10) && s.sec.ownerKey)
      ∧ t.sec.partKeys = (if kind = 8 then s.sec.partKeys.filter (· ≠ bits a.w1.toNat 31 16) else if kind = 9 then s.sec.partKeys else [])
      ∧ t.sec.fabricKey = (decide (kind = 8) && s.sec.fabricKey) := by
  have hbody := cmdKeyInstall_zeroizes (s := takenBy 0x48 a s) (env := env) (b := begunAs 0x48 a s) hwords hkind h8
    (by rwa [takenBy_partition?])
  have hin : Within 0x1ff0000000000000 (takenBy 0x48 a s) (keyZeroize a.mid kind (if kind = 8 then bits a.w1.toNat 31 16 else 0) (takenBy 0x48 a s)) :=
    keyZeroize_keys h8
  obtain ⟨t, ht, hanswered, honly, howner, hkeys, hfabric⟩ :=
    ring_sets_keys h hbody (hin.weaken rfl) ((hin.keeps_regs rfl).trans takenBy_regs)
  obtain ⟨kowner, kpart, kfabric⟩ := keyZeroize_store (s := takenBy 0x48 a s) (mid := a.mid)
    (pkey := if kind = 8 then bits a.w1.toNat 31 16 else 0) h8
  rw [takenBy_within.keeps_sec_ownerKey rfl] at kowner
  rw [takenBy_within.keeps_sec_partKeys rfl] at kpart
  rw [takenBy_within.keeps_sec_fabricKey rfl] at kfabric
  refine ⟨t, ht, hanswered, honly, howner.trans kowner, hkeys.trans (kpart.trans ?_), hfabric.trans kfabric⟩
  by_cases hk : kind = 8
  · simp only [if_pos hk]
  · simp only [if_neg hk]

end

/-- Settles O39: kinds 0x1 to 0x3 take the key that the blob carries, kinds 0x8 to 0xA erase. -/
theorem keysAreInstalledAndErased : Obligations.KeysAreInstalledAndErased := by
  unfold Obligations.KeysAreInstalledAndErased
  refine ⟨?_, ?_⟩
  · intro env a s bs kind key hkind hturn hwords pkey hlen hrefusal hgates hread hfits hkey row
    have h1 : 1 ≤ kind ∧ kind ≤ 3 := by omega
    have hrow : exec row s = onRing 0x48 cmdKeyInstall env (withW1 3 0 kind a) s := by
      obtain rfl | rfl | rfl := hkind <;> rfl
    rw [hrow]
    exact keyInstall_answers hturn hwords (bits_kind (by omega)) h1 rfl hlen hrefusal hgates hread hfits hkey
  · intro env a s kind hkind hturn hwords pkey hpart row
    have h8 : 8 ≤ kind ∧ kind ≤ 10 := by omega
    have hrow : exec row s = onRing 0x48 cmdKeyInstall env (withW1 3 0 kind a) s := by
      obtain rfl | rfl | rfl := hkind <;> rfl
    rw [hrow]
    exact keyZeroize_answers hturn hwords (bits_kind (by omega)) h8 hpart

end Sys2Proof.Machine

namespace Sys2Proof.Machine

/-! ### CMD_COUNTER_DUMP_CONFIG (R530, R531) -/

/-- A parameter word with no reserved bit set lies below the field that the mask names. -/
theorem lt_of_unreserved {w : Word} {m n : Nat} (hm : m < 2 ^ n) (hn : n ≤ 64) (h : reservedSet w m = false) : w.toNat < 2 ^ n := by
  have hand : w.toNat &&& (2 ^ 64 - (m + 1)) = 0 := by
    rw [show 2 ^ 64 - (m + 1) = 2 ^ 64 - 1 - m by omega]
    simpa [reservedSet] using h
  have hm64 : m < 2 ^ 64 := hm.trans_le (Nat.pow_le_pow_right (by decide) hn)
  refine Nat.lt_pow_two_of_testBit _ fun i hi => ?_
  have hbit := congrArg (fun x : Nat => x.testBit i) hand
  rw [Nat.testBit_and, Nat.testBit_two_pow_sub_succ hm64, Nat.zero_testBit,
    Nat.testBit_lt_two_pow (hm.trans_le (Nat.pow_le_pow_right (by decide) hi))] at hbit
  by_cases h64 : i < 64
  · simpa [h64] using hbit
  · exact Nat.testBit_lt_two_pow (w.isLt.trans_le (Nat.pow_le_pow_right (by decide) (by omega)))

section
variable {s : State} {a : CmdArgs} {env : CmdEnv}

theorem dumpWords (h : badWords a [1, mask 51 12, mask 31 0] = false) : a.w2.toNat < 2 ^ 52 ∧ a.w3.toNat < 2 ^ 32 := by
  have hall := List.any_eq_false.1 h
  refine ⟨lt_of_unreserved (m := mask 51 12) (by decide) (by decide) ?_, lt_of_unreserved (m := mask 31 0) (by decide) (by decide) ?_⟩
  · exact Bool.eq_false_iff.2 (hall (a.w2, 1) (by simp [argWords]))
  · exact Bool.eq_false_iff.2 (hall (a.w3, 2) (by simp [argWords]))

/-- CNT_DUMP_BASE of the words of the command. -/
def dumpBase (a : CmdArgs) (s : State) : Nat :=
  at_ 63 (b1 (bit a.w1.toNat 0)) + at_ 59 (bits (s.raw .cntDumpBase 0 0) 62 59) + at_ 56 (midPort a.mid) + a.w2.toNat

theorem dumpBase_lt (h : a.mid < 0x800) (h2 : a.w2.toNat < 2 ^ 52) : dumpBase a s < 2 ^ 64 := by
  have hport : midPort a.mid < 8 := by unfold midPort; omega
  have hold : bits (s.raw .cntDumpBase 0 0) 62 59 < 2 ^ 4 := bits_lt
  have hen : b1 (bit a.w1.toNat 0) ≤ 1 := by unfold b1; split <;> omega
  unfold dumpBase at_
  omega

/-- What the low 32 bits read after a value is put into them. -/
theorem bits_putBits_low {w v : Nat} (hv : v < 2 ^ 32) : bits (putBits w 31 0 v) 31 0 = v := by
  simp only [putBits, bits]
  omega

theorem bits_mod64 {w hi : Nat} (h : hi < 64) : bits (w % 2 ^ 64) hi 0 = bits w hi 0 := by
  simp only [bits, Nat.sub_zero, Nat.pow_zero, Nat.div_one]
  exact Nat.mod_mod_of_dvd _ (Nat.pow_dvd_pow 2 (by omega))

/-- The registers of the dump, and when its next record falls due. -/
def dumpSet (at_ base period : Nat) (s : State) : State := dumpFrom at_ ((s.setReg .cntDumpBase 0 0 base).setReg .cntDumpPeriod 0 0 period)

/-- When the next record falls due: an enabled dump starts now. -/
def dumpDue (a : CmdArgs) (s : State) : Nat :=
  if bit a.w1.toNat 0 && !bit (s.raw .cntDumpBase 0 0) 63 then s.dtimeNs else max s.dump.lastT s.dtimeNs

section
variable {due base period : Nat}

theorem dumpSet_within : Within 0x200000000002000000000000 s (dumpSet due base period s) :=
  dumpFrom_within.app rfl (State.setReg_within.app rfl (State.setReg_within.weaken rfl))

theorem dumpSet_base (hs : s.regsRising = true) (hbase : base < 2 ^ 64) : (dumpSet due base period s).raw .cntDumpBase 0 0 = base := by
  have hperiod : (dumpSet due base period s).raw .cntDumpBase 0 0 = (s.setReg .cntDumpBase 0 0 base).raw .cntDumpBase 0 0 :=
    (raw_congr rfl (dumpFrom_within.keeps_regs rfl)).trans (raw_setReg_other (setReg_rising hs) (by decide))
  rw [hperiod, raw_setReg_same rfl hs (by decide), Nat.mod_eq_of_lt hbase]

theorem dumpSet_period (hs : s.regsRising = true) : (dumpSet due base period s).raw .cntDumpPeriod 0 0 = period % 2 ^ 64 :=
  (raw_congr rfl (dumpFrom_within.keeps_regs rfl)).trans (raw_setReg_same rfl (setReg_rising hs) (by decide))

end

theorem dumpSet_due {due base period : Nat} : (dumpSet due base period s).dump.lastT = due := rfl

theorem cmdCounterDumpConfig_sets {b : Begun} (hs : s.regsRising = true) (h : badWords a [1, mask 51 12, mask 31 0] = false) :
    cmdCounterDumpConfig env a b s =
      (.ok, dumpSet (dumpDue a s) (dumpBase a s) (putBits (s.raw .cntDumpPeriod 0 0) 31 0 a.w3.toNat) s) := by
  have hperiod : (s.setReg .cntDumpBase 0 0 (dumpBase a s)).raw .cntDumpPeriod 0 0 = s.raw .cntDumpPeriod 0 0 :=
    raw_setReg_other hs (by decide)
  have hstored : Within 0x2000000000000 s ((s.setReg .cntDumpBase 0 0 (dumpBase a s)).setReg .cntDumpPeriod 0 0
      (putBits (s.raw .cntDumpPeriod 0 0) 31 0 a.w3.toNat)) := State.setReg_within.app rfl State.setReg_within
  have hnow := hstored.keeps_clk_dtime rfl
  have hlast := hstored.keeps_dump_lastT rfl
  unfold cmdCounterDumpConfig dumpSet dumpDue State.dtimeNs
  rw [if_neg (by simp [h])]
  unfold dumpBase at hperiod hnow hlast ⊢
  simp only [hperiod, hnow, hlast]

theorem counterDumpConfig_answers (h : RingTurn 0x40 a s) (hwords : badWords a [1, mask 51 12, mask 31 0] = false) (hs : s.regsRising = true) :
    ∃ u, onRing 0x40 cmdCounterDumpConfig env a s = .next (completeCmd (begunAs 0x40 a s) csOk 0 0 0 u) ∧ Only [.ring, .regs, .dump] s u
      ∧ u.raw .cntDumpBase 0 0 = dumpBase a s ∧ bits (u.raw .cntDumpPeriod 0 0) 31 0 = a.w3.toNat
      ∧ u.dump.lastT = (if bit a.w1.toNat 0 && !bit (s.raw .cntDumpBase 0 0) 63 then s.dtimeNs else max s.dump.lastT s.dtimeNs) := by
  have htaken := h.taken_unwoken (List.mem_of_elem_eq_true rfl)
  have hrising : (takenBy 0x40 a s).regsRising = true := htaken.regs hs
  obtain ⟨h2, h3⟩ := dumpWords hwords
  have hdue : dumpDue a (takenBy 0x40 a s) = dumpDue a s := by
    unfold dumpDue State.dtimeNs
    rw [takenBy_raw, htaken.keeps_clk_dtime rfl, htaken.keeps_dump_lastT rfl]
  have hbase : dumpBase a (takenBy 0x40 a s) = dumpBase a s := by unfold dumpBase; rw [takenBy_raw]
  have hbody := cmdCounterDumpConfig_sets (env := env) (b := begunAs 0x40 a s) hrising hwords
  rw [hdue, hbase, takenBy_raw] at hbody
  have hlow : bits (putBits (s.raw .cntDumpPeriod 0 0) 31 0 a.w3.toNat) 31 0 = a.w3.toNat := bits_putBits_low h3
  have hset : Within 0x200500000002000000000002 s (dumpSet (dumpDue a s) (dumpBase a s) (putBits (s.raw .cntDumpPeriod 0 0) 31 0 a.w3.toNat) (takenBy 0x40 a s)) :=
    dumpSet_within.app rfl (htaken.weaken rfl)
  have hperiod : bits (putBits (s.raw .cntDumpPeriod 0 0) 31 0 a.w3.toNat % 2 ^ 64) 31 0 = a.w3.toNat := (bits_mod64 (by decide)).trans hlow
  refine ⟨_, ?_, hset.only _ (by intro p; cases p <;> decide), dumpSet_base hrising (dumpBase_lt h.host h2), ?_, dumpSet_due⟩
  · rw [ring_turn h, hbody]
    rfl
  · rw [dumpSet_period hrising, hperiod]

end

/-! ### Firmware (R473, R474, R488, R489) -/

section
variable {s u : State} {a : CmdArgs} {env : CmdEnv} {im : ImageInfo} {bs : List Byte} {m : Nat}

/-- The steps of R488 read fuses of the device alone. -/
theorem imageStep_kept (h : Within m s u) (hm : sub m 0xfffffffffffffffffffffffffffd1ffffffffffffffff = true) : u.imageStep im = s.imageStep im := by
  have h' := h.weaken hm
  unfold State.imageStep
  rw [h'.keeps_sec_revoke rfl, h'.keeps_sec_rootHash rfl, h'.keeps_sec_svn rfl]

theorem imagePasses_kept (h : Within m s u) (hm : sub m 0xfffffffffffffffffffffffffffd1ffffffffffffffff = true) : imagePasses im u = imagePasses im s := by
  unfold imagePasses
  rw [imageStep_kept h hm, (h.weaken hm).keeps_sec_secureBoot rfl]

theorem cmdFwStage_reads {b : Begun} (hwords : badWords a [mask 32 0, allBits] = false) (hslot : bits a.w1.toNat 32 32 ≠ s.sys.running)
    (hslow : env.slow = false) (hread : adminRead env.read (midPort a.mid) a.mid none [(a.w2.toNat, bits a.w1.toNat 31 0)] s = (.ok bs, u)) :
    cmdFwStage env a b s = fwStaged a (some bs) u := by
  unfold cmdFwStage
  simp only [hwords, Bool.false_eq_true, if_false, hslot, hread, hslow]

/-- An image of the length given that passes is written to its slot. -/
theorem fwStaged_passes (hlen : bs.length = bits a.w1.toNat 31 0) (h : imagePasses { bytes := bs } s = true) :
    fwStaged a (some bs) s = (.result (imgVersion { bytes := bs }),
      audit 0x0003 a.mid (imgVersion { bytes := bs } + at_ 32 (bits a.w1.toNat 32 32))
        { s with sys := { s.sys with slots := s.sys.slots.set (bits a.w1.toNat 32 32) { bytes := bs } } }) :=
  if_pos ⟨rfl, hlen, h⟩

theorem fwStaged_fails (h : imagePasses { bytes := bs } s = false) :
    fwStaged a (some bs) s = (.fail csAuthFailed, audit 0x0004 a.mid (imgVersion { bytes := bs } + at_ 32 (bits a.w1.toNat 32 32)) s) :=
  if_neg fun hall => Bool.eq_false_iff.1 h hall.2.2

theorem slotsSet_within {l : List ImageInfo} : Within 0x1000000000 s { s with sys := { s.sys with slots := l } } :=
  Within.upd (e := s) Within.refl rfl rfl rfl rfl rfl rfl rfl rfl

/-- CMD_FW_STAGE at its turn, once its image is read: both outcomes. -/
theorem fwStage_reads (h : RingTurn 0x41 a s) (hwords : badWords a [mask 32 0, allBits] = false) (hslot : bits a.w1.toNat 32 32 ≠ s.sys.running)
    (hgates : ∀ w, w < 8 → s.gateRefuses (0x40 + 8 * midPort a.mid + w) a.w2.toNat (bits a.w1.toNat 31 0) ⟨a.mid, none, false⟩ = none)
    (hread : env.read = .data bs) (hslow : env.slow = false) :
    ∃ u, adminRead env.read (midPort a.mid) a.mid none [(a.w2.toNat, bits a.w1.toNat 31 0)] (takenBy 0x41 a s) = (.ok bs, u)
      ∧ cmdFwStage env a (begunAs 0x41 a s) (takenBy 0x41 a s) = fwStaged a (some bs) u
      ∧ Within 0x6 (takenBy 0x41 a s) u ∧ Within 0x500000000000000000006 s u := by
  obtain ⟨u, hu, hput⟩ := adminRead_taken (op := 0x41) (a := a) (bs := bs) hgates
  rw [← hread] at hu
  exact ⟨u, hu, cmdFwStage_reads hwords (by rwa [takenBy_sys]) hslow hu, hput,
    ((h.taken_unwoken (List.mem_of_elem_eq_true rfl)).weaken rfl).trans (hput.weaken rfl)⟩

theorem fwStage_passes (h : RingTurn 0x41 a s) (hsys : u.sys = s.sys) (hlen : bs.length = bits a.w1.toNat 31 0)
    (hbody : cmdFwStage env a (begunAs 0x41 a s) (takenBy 0x41 a s) = fwStaged a (some bs) u)
    (hput : Within 0x6 (takenBy 0x41 a s) u) (hsu : Within 0x500000000000000000006 s u) (hpass : imagePasses { bytes := bs } s = true) :
    onRing 0x41 cmdFwStage env a s = .next (completeCmd (begunAs 0x41 a s) csOk 0 (imgVersion { bytes := bs }) 0
        (audit 0x0003 a.mid (imgVersion { bytes := bs } + at_ 32 (bits a.w1.toNat 32 32))
          { u with sys := { s.sys with slots := s.sys.slots.set (bits a.w1.toNat 32 32) { bytes := bs } } }))
      ∧ ∃ t, onRing 0x41 cmdFwStage env a s = .next t ∧ Only [.ring, .regs, .held, .draws, .boot, .audit] s t
        ∧ t.sys = { s.sys with slots := s.sys.slots.set (bits a.w1.toNat 32 32) { bytes := bs } } := by
  rw [fwStaged_passes hlen ((imagePasses_kept hsu rfl).trans hpass), hsys] at hbody
  refine ⟨?_, ?_⟩
  · rw [ring_turn h, hbody]
    rfl
  · have hset : Within 0x1000000000 u { u with sys := { s.sys with slots := s.sys.slots.set (bits a.w1.toNat 32 32) { bytes := bs } } } :=
      hsys ▸ slotsSet_within
    have hin : Within 0x1f00001000000000 u (audit 0x0003 a.mid (imgVersion { bytes := bs } + at_ 32 (bits a.w1.toNat 32 32))
        { u with sys := { s.sys with slots := s.sys.slots.set (bits a.w1.toNat 32 32) { bytes := bs } } }) := audit_within.app rfl (hset.weaken rfl)
    have hdone : Within 0x1f00001000000006 (takenBy 0x41 a s) _ := hin.app rfl (hput.weaken rfl)
    obtain ⟨t, ht, -, hleft⟩ := ring_settles h hbody (.of_within h hdone rfl)
    have hall : Within 0xff00001f02001000000006 s t := (hsu.weaken rfl).trans ((hin.weaken rfl).trans (hleft.weaken rfl))
    exact ⟨t, ht, hall.only _ (by intro p; cases p <;> decide), (hleft.keeps_sys fun _ => rfl).trans (audit_within.keeps_sys fun _ => rfl)⟩

/-! CMD_FW_ACTIVATE. -/

theorem activateSlot_sys {slot mid : Nat} : (activateSlot slot mid im s).sys = { s.sys with nextSlot := slot } := audit_within.keeps_sys fun _ => rfl

theorem activateSlot_svn {slot mid : Nat} :
    (activateSlot slot mid im s).sec.svn = (if imgCommitSvn im && decide (s.imageStep im = 0) then max s.sec.svn (imgSvn im) else s.sec.svn) :=
  audit_within.keeps_sec_svn rfl

/-- Bit 1 is clear: the slot is activated, and the command completes. -/
theorem cmdFwActivate_activates {b : Begun} (hwords : badWords a [3] = false) (hlater : bit a.w1.toNat 1 = false)
    (him : s.sys.slots[bits a.w1.toNat 0 0]? = some im) :
    cmdFwActivate env a b s = (.result s.sys.runVersion, activateSlot (bits a.w1.toNat 0 0) a.mid im s) := by
  unfold cmdFwActivate
  simp only [hwords, Bool.false_eq_true, if_false, him, hlater, Bool.not_false, if_true, activateSlot_sys]

/-- NOW with an image that passes: the warm reset that runs it begins. -/
theorem cmdFwActivate_now {b : Begun} (hwords : badWords a [3] = false) (hnow : bit a.w1.toNat 1 = true)
    (him : s.sys.slots[bits a.w1.toNat 0 0]? = some im) (hpass : imagePasses im s = true) :
    cmdFwActivate env a b s = (.wait, beginWarm 6 { activateSlot (bits a.w1.toNat 0 0) a.mid im s with
      sys := { s.sys with nextSlot := bits a.w1.toNat 0 0, hbmImage := some im } }) := by
  unfold cmdFwActivate
  simp only [hwords, Bool.false_eq_true, if_false, him, hnow, hpass, Bool.not_true, activateSlot_sys]

theorem fwActivate_answers (h : RingTurn 0x42 a s) (hwords : badWords a [3] = false) (hlater : bit a.w1.toNat 1 = false)
    (him : s.sys.slots[bits a.w1.toNat 0 0]? = some im) :
    ∃ t, onRing 0x42 cmdFwActivate env a s = .next t ∧ Answered 0x42 a s s t csOk 0 s.sys.runVersion 0
      ∧ Only [.ring, .regs, .held, .draws, .boot, .audit, .fuses] s t
      ∧ t.sys = { s.sys with nextSlot := bits a.w1.toNat 0 0 }
      ∧ t.sec.svn = (if imgCommitSvn im && decide (s.imageStep im = 0) then max s.sec.svn (imgSvn im) else s.sec.svn) := by
  have htaken := h.taken_unwoken (List.mem_of_elem_eq_true rfl)
  have hbody := cmdFwActivate_activates (env := env) (b := begunAs 0x42 a s) (s := takenBy 0x42 a s) hwords hlater (by rwa [takenBy_sys])
  rw [takenBy_sys] at hbody
  have hin : Within 0x21f00010000000000 (takenBy 0x42 a s) (activateSlot (bits a.w1.toNat 0 0) a.mid im (takenBy 0x42 a s)) :=
    activateSlot_within
  obtain ⟨t, ht, hanswered, hleft⟩ := ring_settles h hbody (.of_within h hin rfl)
  have hall : Within 0xff00021f02010000000006 s t := (htaken.weaken rfl).trans ((hin.weaken rfl).trans (hleft.weaken rfl))
  refine ⟨t, ht, hanswered.congr ((hin.keeps_regs rfl).trans takenBy_regs).symm, hall.only _ (by intro p; cases p <;> decide), ?_, ?_⟩
  · rw [hleft.keeps_sys fun _ => rfl, activateSlot_sys, takenBy_sys]
  · rw [hleft.keeps_sec_svn rfl, activateSlot_svn, imageStep_kept htaken rfl, htaken.keeps_sec_svn rfl]

/-- Quiescing leaves the slot that boots next and the image in HBM. -/
theorem quiesce_images : (quiesce s).sys.hbmImage = s.sys.hbmImage ∧ (quiesce s).sys.nextSlot = s.sys.nextSlot := by
  unfold quiesce
  extract_lets up v
  have hv : Within 0x60d400780100002001f02000000000006 s v := Within.foldl (fun _ _ => allEndpoints_within) Within.refl
  exact ⟨(portsDownAll_within.keeps_sys_hbmImage rfl).trans (hv.keeps_sys_hbmImage rfl),
    (portsDownAll_within.keeps_sys_nextSlot rfl).trans (hv.keeps_sys_nextSlot rfl)⟩

theorem beginWarm_images {cause : Nat} : (beginWarm cause s).sys.hbmImage = s.sys.hbmImage ∧ (beginWarm cause s).sys.nextSlot = s.sys.nextSlot := by
  unfold beginWarm
  extract_lets v
  split
  · exact ⟨rfl, rfl⟩
  · exact quiesce_images

theorem fwActivate_warm (h : RingTurn 0x42 a s) (hwords : badWords a [3] = false) (hnow : bit a.w1.toNat 1 = true)
    (him : s.sys.slots[bits a.w1.toNat 0 0]? = some im) (hpass : imagePasses im s = true) :
    ∃ t, onRing 0x42 cmdFwActivate env a s = .next t ∧ t.sys.stage = .warmQuiesce ∧ t.sys.resetCause = 6
      ∧ t.sys.hbmImage = some im ∧ t.sys.nextSlot = bits a.w1.toNat 0 0 := by
  have hrun : s.running = true := by
    have hready := h.ready
    simp only [State.ringReady, Bool.and_eq_true] at hready
    obtain ⟨⟨⟨hrun, -⟩, -⟩, -⟩ := hready
    exact hrun
  have htaken := h.taken_unwoken (List.mem_of_elem_eq_true rfl)
  have hbody := cmdFwActivate_now (env := env) (b := begunAs 0x42 a s) (s := takenBy 0x42 a s) hwords hnow (by rwa [takenBy_sys])
    ((imagePasses_kept htaken rfl).trans hpass)
  rw [takenBy_sys] at hbody
  rw [ring_turn h, hbody]
  obtain ⟨hstage, hcause, -⟩ := beginWarm_of_running (cause := 6) (s := { activateSlot (bits a.w1.toNat 0 0) a.mid im (takenBy 0x42 a s) with
      sys := { s.sys with nextSlot := bits a.w1.toNat 0 0, hbmImage := some im } }) hrun
  exact ⟨_, rfl, hstage, hcause, beginWarm_images⟩

end

/-- Settles O38: each body at its turn, by what its words ask. -/
theorem dumpsAndFirmwareAreSet : Obligations.DumpsAndFirmwareAreSet := by
  unfold Obligations.DumpsAndFirmwareAreSet
  refine ⟨?_, ?_, ?_, ?_⟩
  · intro env a s hturn hwords hs
    exact counterDumpConfig_answers hturn hwords hs
  · intro env a s bs hturn hwords hslot hgates hread hslow hlen im u
    obtain ⟨v, hv, hbody, hput, hsv⟩ := fwStage_reads hturn hwords hslot hgates hread hslow
    have huv : u = v := congrArg Prod.snd hv
    rw [huv]
    refine ⟨fwStage_passes hturn (hsv.keeps_sys fun _ => rfl) hlen hbody hput hsv, fun hfail => ?_⟩
    rw [fwStaged_fails ((imagePasses_kept hsv rfl).trans hfail)] at hbody
    exact (ring_turn hturn).trans (by rw [hbody]; rfl)
  · intro env a s im hturn hwords hlater him
    exact fwActivate_answers hturn hwords hlater him
  · intro env a s im hturn hwords hnow him hpass
    exact fwActivate_warm hturn hwords hnow him hpass

end Sys2Proof.Machine

namespace Sys2Proof.Machine

/-! ### Commands that wake no domain (R409) -/

/-- An operation that may change no part of device memory keeps it whole. -/
theorem Within.keeps_mem {m : Nat} {s t : State} (h : Within m s t) (k : ∀ c : Mem, eraseMem m c = c) : t.mem = s.mem := by
  have e := congrArg (fun x : State => x.mem) h.rest
  simpa only [erase, k] using e

section
variable {op : Nat} {a : CmdArgs} {s u : State}

/-- A command on no queue, address space, context or group wakes no domain. -/
theorem wakeForCommand_silent {obj : Nat × Nat × Nat} (h : obj.1 ∉ [1, 3, 5, 6]) : wakeForCommand obj s = s := by
  simp only [List.mem_cons, List.not_mem_nil, or_false, not_or] at h
  obtain ⟨h1, h3, h5, h6⟩ := h
  unfold wakeForCommand
  rw [if_neg h1, if_neg h3, if_neg h5, if_neg h6]

/-- At its turn such a command moves the ring on, and nothing else. -/
theorem RingTurn.taken_silent (h : RingTurn op a s) (ho : (objectOf op a).1 ∉ [1, 3, 5, 6]) :
    Within 0x500000000000000000002 s (takenBy op a s) := by
  have hgo : (Out.hostRead s.hif.nextReq (s.fld .cmdRingBase 0 58 56) (s.ringAddr s.cmd.next) 64 false).hostPort.elim false
      ({ s with cmd := { s.cmd with next := s.cmd.next + 1 } } : State).portHolds = false := h.port
  rw [takenBy_eq, wakeForCommand_silent ho]
  unfold begunIn
  rw [emit_of_goes hgo]
  exact Within.refl.put (e := s) (List.prefix_append _ _) (Nat.le_refl _) (Nat.le_refl _) rfl rfl rfl rfl rfl

/-- A command whose body waits at its turn is in progress. -/
theorem inProgress_of_waits {m : Nat} (hin : Within m (takenBy op a s) u)
    (hm : sub m 0xffffffffffffffffffffffff2fffffffffffffffffffe = true) : InProgress op a s u := by
  have hin' := hin.weaken hm
  have hcmd := (takenBy_keeps op a s).1
  refine ⟨(hin'.keeps_cmd_next rfl).trans ?_, (hin'.keeps_cmd_begun rfl).trans ?_, (hin'.keeps_cmd_remote rfl).trans ?_⟩ <;> rw [hcmd]

end

/-! ### Leave is asked of the power unit alone (R411) -/

section
variable {s u : State} {r : LeaveReq} {n prio step : Nat}

/-- States that the order of requests does not tell apart. -/
structure SamePower (s u : State) : Prop where
  pwr : u.fab.pwr = s.fab.pwr
  now : u.clk.now = s.clk.now
  raw : ∀ r i k, u.raw r i k = s.raw r i k

theorem SamePower.updPwr (h : SamePower s u) {f : Pwr → Pwr} : SamePower (updPwr f s) (updPwr f u) :=
  ⟨congrArg f h.pwr, h.now, h.raw⟩

theorem SamePower.fld (h : SamePower s u) {r : Reg} {i hi lo : Nat} : u.fld r i hi lo = s.fld r i hi lo := by
  unfold State.fld
  rw [h.raw]

theorem SamePower.bcaHeld (h : SamePower s u) (r : LeaveReq) : u.bcaHeld r = s.bcaHeld r := by
  unfold State.bcaHeld State.bcaField
  simp only [h.pwr, h.fld]

theorem SamePower.noticeCheck (h : SamePower s u) : SamePower (noticeCheck s) (noticeCheck u) := by
  unfold Machine.noticeCheck
  simp only [h.pwr, h.bcaHeld, h.now, h.fld]
  cases s.fab.pwr.notice with
  | none => exact h
  | some o =>
    dsimp only
    split
    · exact h
    · exact h.updPwr

theorem SamePower.updHolds (h : SamePower s u) : SamePower (updHolds s) (updHolds u) := by
  unfold Machine.updHolds
  simp only [h.bcaHeld, h.now]
  exact (h.updPwr (f := _)).noticeCheck

theorem SamePower.enqueueReq (h : SamePower s u) : SamePower (enqueueReq r s) (enqueueReq r u) := h.updPwr.updHolds

theorem SamePower.leaveReq {op : LeaveOp} (h : SamePower s u) : leaveReq op prio step u = leaveReq op prio step s := by
  unfold Machine.leaveReq
  rw [h.now]

theorem SamePower.domain? (h : SamePower s u) : u.domain? n = s.domain? n := by
  unfold State.domain?
  rw [h.pwr]

theorem SamePower.askExit (h : SamePower s u) : SamePower (askExit n prio s) (askExit n prio u) := by
  unfold Machine.askExit
  rw [h.domain?, h.pwr]
  cases s.domain? n with
  | none => exact h
  | some d =>
    dsimp only
    split
    · exact h
    · split
      · exact h.updPwr.updHolds
      · rw [h.leaveReq]
        exact h.enqueueReq

theorem SamePower.askLeave {op : LeaveOp} (h : SamePower s u) : SamePower (askLeave op prio step s) (askLeave op prio step u) := by
  unfold Machine.askLeave State.domainOn
  dsimp only
  rw [h.leaveReq, h.domain?]
  split
  · exact h.enqueueReq
  · exact h.updPwr.askExit

end

/-! ### Engines (R518, R519) -/

section
variable {s : State} {a : CmdArgs} {env : CmdEnv} {c e : Nat} {b : Begun}

/-- The engine of a number, as it is retired. -/
def retiredEngine (e : Nat) (s : State) : State := updEngine e (fun x => { x with retired := true }) s

theorem engine_code : (s.engine e).code = e := by
  unfold State.engine
  cases h : s.engines.find? (fun x => x.code = e) with
  | none => rfl
  | some x => simpa using List.find?_some h

theorem retiredEngine_engines :
    (retiredEngine e s).engines = { s.engine e with retired := true } :: s.engines.filter (fun x => x.code ≠ e) := rfl

theorem retiredEngine_same : ((retiredEngine e s).engine e).retired = true := by
  have hhead : decide (({ s.engine e with retired := true } : Engine).code = e) = true := decide_eq_true engine_code
  rw [State.engine, retiredEngine_engines, List.find?_cons_of_pos (p := fun x : Engine => decide (x.code = e)) hhead]
  rfl

theorem retiredEngine_other (h : c ≠ e) : (retiredEngine e s).engine c = s.engine c := by
  have hfind : (s.engines.filter (fun x => x.code ≠ e)).find? (fun x => x.code = c) = s.engines.find? (fun x => x.code = c) := by
    rw [List.find?_filter]
    refine List.find?_congr fun x _ => ?_
    by_cases hx : x.code = c
    · simp [hx, h]
    · simp [hx]
  have hhead : (s.engine e).code ≠ c := engine_code ▸ h.symm
  rw [State.engine, retiredEngine_engines, List.find?_cons_of_neg (by simpa using hhead), hfind]
  rfl

/-- While another MPE of its cluster is in service, retiring one leaves one. -/
theorem activeMpes_retired (h : 2 ≤ s.activeMpes (e / 4)) : (retiredEngine e s).activeMpes (e / 4) ≠ 0 := by
  intro hnone
  have hgone : ∀ i, i < 4 → 4 * (e / 4) + i ≠ e → (s.engine (4 * (e / 4) + i)).retired = true := fun i hi hne => by
    have hlist := List.filter_eq_nil_iff.1 (List.length_eq_zero_iff.1 hnone) i (List.mem_range.2 hi)
    rw [retiredEngine_other hne] at hlist
    simpa using hlist
  have hone : (List.range 4).filter (fun i => !(s.engine (4 * (e / 4) + i)).retired) ⊆ [e % 4] := fun i hi => by
    obtain ⟨hrange, hactive⟩ := List.mem_filter.1 hi
    by_contra hother
    have hne : 4 * (e / 4) + i ≠ e := fun heq => hother (List.mem_singleton.2 (by omega))
    simp [hgone i (List.mem_range.1 hrange) hne] at hactive
  have hle := (List.nodup_range.filter _).subperm hone |>.length_le
  unfold State.activeMpes at h
  simp only [List.length_singleton] at hle
  omega

/-- The queues of its cluster stay where they are. -/
theorem retireMpe_stays (h : 2 ≤ s.activeMpes (e / 4)) : retireMpe e s = retiredEngine e s := if_neg (activeMpes_retired h)

theorem cmdEngineRetire_mpe (hwords : badWords a [mask 7 0] = false) (hactive : (s.engine (bits a.w1.toNat 7 0)).retired = false)
    (hmpe : bits a.w1.toNat 7 0 < 0x60) (hfew : s.retiredMpes < 4) :
    cmdEngineRetire env a b s = (.ok, retireMpe (bits a.w1.toNat 7 0) s) := by
  unfold cmdEngineRetire
  dsimp only
  rw [if_neg (by simp [hwords]; omega), if_neg (by simp [hactive]), if_pos hmpe, if_neg (by omega)]

theorem cmdEngineRetire_cluster (hwords : badWords a [mask 7 0] = false) (hactive : (s.engine (bits a.w1.toNat 7 0)).retired = false)
    (hengine : bits a.w1.toNat 7 0 < 0x68) (hcluster : 0x60 ≤ bits a.w1.toNat 7 0) (hmore : 1 < s.activeClusters) :
    cmdEngineRetire env a b s = (.ok, retireCluster (bits a.w1.toNat 7 0 - 0x60) s) := by
  unfold cmdEngineRetire
  dsimp only
  rw [if_neg (by simp [hwords]; omega), if_neg (by simp [hactive]), if_neg (by omega), if_neg (by omega)]

theorem cmdEngineRestore_asks (hwords : badWords a [mask 7 0] = false) (hretired : (s.engine (bits a.w1.toNat 7 0)).retired = true)
    (hengine : bits a.w1.toNat 7 0 < 0x68) : cmdEngineRestore env a b s = (.wait, askLeave (.restore (bits a.w1.toNat 7 0)) 3 8 s) := by
  unfold cmdEngineRestore
  dsimp only
  rw [if_neg (by simp [hwords]; omega), if_neg (by simp [hretired])]

theorem cmdMemChannelRetire_starts (hwords : badWords a [mask 4 0] = false) (hidle : s.retireIdle (bits a.w1.toNat 4 0) = true)
    (hfits : s.retireFits = true) : cmdMemChannelRetire env a b s = (.wait, startRetire (bits a.w1.toNat 4 0) false s) := by
  unfold cmdMemChannelRetire
  dsimp only
  rw [if_neg (by simp [hwords]), if_neg (by simp [hidle]), if_neg (by simp [hfits])]

theorem retireIdle_congr {u : State} (h : u.mem = s.mem) : u.retireIdle c = s.retireIdle c := by
  unfold State.retireIdle
  rw [h]

theorem retireFits_congr {u : State} (h : u.mem = s.mem) (hraw : ∀ r i k, u.raw r i k = s.raw r i k) : u.retireFits = s.retireFits := by
  have hfld (r : Reg) (i hi lo : Nat) : u.fld r i hi lo = s.fld r i hi lo := congrArg (bits · hi lo) (hraw r 0 i)
  have hfldI (r : Reg) (i k hi lo : Nat) : u.fldI r i k hi lo = s.fldI r i k hi lo := congrArg (bits · hi lo) (hraw r i k)
  unfold State.retireFits State.storesMiB
  simp only [hfld, hfldI, h]

theorem objectOf_engine : (objectOf 0x3C a).1 ∉ [1, 3, 5, 6] ∧ (objectOf 0x3D a).1 ∉ [1, 3, 5, 6] ∧ (objectOf 0x3E a).1 ∉ [1, 3, 5, 6] := by
  refine ⟨?_, ?_, ?_⟩ <;> exact of_decide_eq_true rfl

theorem retiredEngine_within : Within 0x4000000000000000000 s (retiredEngine e s) := updEngine_within

theorem takenBy_engine {op : Nat} : (takenBy op a s).engine c = s.engine c := by
  unfold State.engine
  rw [takenBy_engines]

theorem takenBy_activeMpes {op : Nat} : (takenBy op a s).activeMpes c = s.activeMpes c := by
  unfold State.activeMpes
  simp only [takenBy_engine]

/-- CMD_ENGINE_RETIRE of an MPE, where another of its cluster is in service. -/
theorem engineRetire_answers (h : RingTurn 0x3C a s) (hmore : 2 ≤ s.activeMpes (e / 4))
    (hbody : cmdEngineRetire env a (begunAs 0x3C a s) (takenBy 0x3C a s) = (.ok, retireMpe e (takenBy 0x3C a s))) :
    ∃ t, onRing 0x3C cmdEngineRetire env a s = .next t ∧ Answered 0x3C a s s t csOk 0 0 0
      ∧ Only [.ring, .regs, .held, .engines] s t ∧ (t.engine e).retired = true ∧ ∀ c, c ≠ e → t.engine c = s.engine c := by
  rw [retireMpe_stays (hmore.trans_eq takenBy_activeMpes.symm)] at hbody
  have hin : Within 0x4000000000000000000 (takenBy 0x3C a s) (retiredEngine e (takenBy 0x3C a s)) := retiredEngine_within
  obtain ⟨t, ht, hanswered, hleft⟩ := ring_settles h hbody (.of_reads h hin rfl fun r i hr =>
    (raw_congr hr.plain (hin.keeps_regs rfl)).trans (takenBy_raw ..))
  have hall : Within 0xff04000002000000000006 s t :=
    ((h.taken_silent objectOf_engine.1).weaken rfl).trans ((hin.weaken rfl).trans (hleft.weaken rfl))
  have hengine (n : Nat) : t.engine n = (retiredEngine e (takenBy 0x3C a s)).engine n := by
    unfold State.engine
    rw [hleft.keeps_engines rfl]
  refine ⟨t, ht, hanswered.congr ((hin.keeps_regs rfl).trans takenBy_regs).symm, hall.only _ (by intro p; cases p <;> decide), ?_, fun n hn => ?_⟩
  · rw [hengine, retiredEngine_same]
  · rw [hengine, retiredEngine_other hn, takenBy_engine]

/-- CMD_ENGINE_RESTORE of a retired engine. -/
theorem engineRestore_asks (h : RingTurn 0x3D a s)
    (hbody : cmdEngineRestore env a (begunAs 0x3D a s) (takenBy 0x3D a s) = (.wait, askLeave (.restore e) 3 8 (takenBy 0x3D a s))) :
    ∃ t, onRing 0x3D cmdEngineRestore env a s = .next t ∧ InProgress 0x3D a s t ∧ Only [.ring, .power] s t
      ∧ t.fab.pwr = (askLeave (.restore e) 3 8 s).fab.pwr := by
  have htaken := h.taken_silent objectOf_engine.2.1
  have hsame : SamePower s (takenBy 0x3D a s) := ⟨htaken.keeps_fab_pwr rfl, htaken.keeps_clk_now rfl, fun _ _ _ => takenBy_raw ..⟩
  have hall : Within 0x20000000000000000000000500000000000000000002 s (askLeave (.restore e) 3 8 (takenBy 0x3D a s)) :=
    askLeave_within.app rfl (htaken.weaken rfl)
  rw [ring_turn h, hbody]
  exact ⟨_, rfl, inProgress_of_waits askLeave_within rfl, hall.only _ (by intro p; cases p <;> decide), hsame.askLeave.pwr⟩

/-- CMD_MEM_CHANNEL_RETIRE that may start. -/
theorem memChannelRetire_starts (h : RingTurn 0x3E a s)
    (hbody : cmdMemChannelRetire env a (begunAs 0x3E a s) (takenBy 0x3E a s) = (.wait, startRetire c false (takenBy 0x3E a s))) (hc : c < 32) :
    ∃ t, onRing 0x3E cmdMemChannelRetire env a s = .next t ∧ InProgress 0x3E a s t ∧ Only [.ring, .memory] s t
      ∧ t.mem = { s.mem with migrating := some (c, false), remaining := pairLines } := by
  have hall : Within 0x530000000000000000002 s (startRetire c false (takenBy 0x3E a s)) :=
    startRetire_within.app rfl ((h.taken_silent objectOf_engine.2.2).weaken rfl)
  have hmem : (takenBy 0x3E a s).mem = s.mem := (h.taken_silent objectOf_engine.2.2).keeps_mem fun _ => rfl
  rw [ring_turn h, hbody]
  refine ⟨_, rfl, inProgress_of_waits startRetire_within rfl, hall.only _ (by intro p; cases p <;> decide), ?_⟩
  show ({ (takenBy 0x3E a s).mem with migrating := some (c % 32, false), remaining := pairLines } : Mem) = _
  rw [hmem, Nat.mod_eq_of_lt hc]

end

/-- Settles O37: the four bodies at their turn. -/
theorem enginesAndChannelsRetire : Obligations.EnginesAndChannelsRetire := by
  unfold Obligations.EnginesAndChannelsRetire
  refine ⟨?_, ?_, ?_⟩
  · intro env a s hturn hwords hengine e hactive
    have hactive' : ((takenBy 0x3C a s).engine e).retired = false := by rwa [takenBy_engine]
    refine ⟨fun hmpe hfew => ?_, fun hcluster hmore => ?_⟩
    · have hfew' : (takenBy 0x3C a s).retiredMpes < 4 := by unfold State.retiredMpes; rwa [takenBy_engines]
      have hbody := cmdEngineRetire_mpe (env := env) (b := begunAs 0x3C a s) hwords hactive' hmpe hfew'
      exact ⟨(ring_turn hturn).trans (by rw [hbody]; rfl), fun hmore => engineRetire_answers hturn hmore hbody⟩
    · have hmore' : 1 < (takenBy 0x3C a s).activeClusters := by
        simpa only [State.activeClusters, takenBy_engine] using hmore
      exact (ring_turn hturn).trans (by rw [cmdEngineRetire_cluster hwords hactive' hengine hcluster hmore']; rfl)
  · intro env a s hturn hwords hengine hretired
    exact engineRestore_asks hturn (cmdEngineRestore_asks hwords (by rwa [takenBy_engine]) hengine)
  · intro env a s hturn hwords hidle hfits
    have hmem : (takenBy 0x3E a s).mem = s.mem := (hturn.taken_silent objectOf_engine.2.2).keeps_mem fun _ => rfl
    have hidle' : (takenBy 0x3E a s).retireIdle (bits a.w1.toNat 4 0) = true := (retireIdle_congr hmem).trans hidle
    have hfits' : (takenBy 0x3E a s).retireFits = true := (retireFits_congr hmem fun _ _ _ => takenBy_raw ..).trans hfits
    exact memChannelRetire_starts hturn (cmdMemChannelRetire_starts hwords hidle' hfits') bits_lt

end Sys2Proof.Machine

namespace Sys2Proof.Machine

/-! ### Commands from outside the ring (R454, R462-R465) -/

section
variable {s : State} {a : CmdArgs} {env : CmdEnv} {chan : Channel} {op mid seq : Nat} {o : Out}

theorem whenRunning_of_running {f : State → State} (h : s.running = true) : whenRunning f s = f s := if_pos h

/-- A message that is no request of a host port goes out. -/
theorem emit_free (h : o.hostPort = none) : s.emit o = { s with out := s.out ++ [o] } := emit_of_goes (by rw [h]; rfl)

theorem sent_within : Within 0x2 s { s with out := s.out ++ [o] } :=
  Within.refl.put (List.prefix_append _ _) (Nat.le_refl _) (Nat.le_refl _) rfl rfl rfl rfl rfl

/-- Where nothing waits and nothing blocks it, a command from outside begins. -/
theorem runOutside_begins (hrsv : a.rsv = 0) (hop : outsideOp op = true) (hnone : s.cmd.outside = [])
    (hfree : s.blocked op a.fence true none (objectOf op a) = false) :
    runOutside chan mid op env a s = beginCmd op chan env { a with mid := mid } (outsideBody op) s := by
  let c : OutsideCmd := { chan := chan, op := op, env := env, args := { a with mid := mid } }
  let v : State := { s with cmd := { s.cmd with outside := [c] } }
  have hrest : { s with cmd := { s.cmd with outside := [] } } = s := by rw [← hnone]
  have hgo : outsideGo v = beginCmd op chan env { a with mid := mid } (outsideBody op) { s with cmd := { s.cmd with outside := [] } } :=
    if_neg (Bool.eq_false_iff.1 (show v.blocked c.op c.args.fence true none (objectOf c.op c.args) = false from hfree))
  unfold runOutside
  rw [if_neg (by simp [hrsv, hop]), hnone]
  exact hgo.trans (by rw [hrest])

theorem execMctpCommand_begins (hrun : s.running = true) (hfew : s.mctpCount < 4) (hop : outsideOp op = true) (hremote : a.remote = false)
    (hrsv : a.rsv = 0) (hnone : s.cmd.outside = []) (hfree : s.blocked op a.fence true none (objectOf op a) = false) :
    execMctpCommand op seq a env s = .next (beginCmd op (.mctp (seq % 256)) env { a with mid := 0x890 } (outsideBody op) s) := by
  unfold execMctpCommand
  rw [whenRunning_of_running hrun]
  dsimp only
  rw [if_neg (by omega), if_neg (by simp [hremote]), runOutside_begins hrsv hop hnone hfree]

/-- CMD_NOP that is admitted answers on its channel and leaves everything else. -/
theorem beginCmd_nop {q : Nat} (haudit : s.auditBlocks = false) (htarget : a.target = 0) (hwords : badWords a [] = false)
    (hgate : s.gateRefuses 0x17 0 1 ⟨a.mid, none, true⟩ = none) (hbegun : ∀ b ∈ s.cmd.begun, b.chan ≠ .mctp q)
    (hworking : ∀ w ∈ s.cmd.working, w.begun.chan ≠ .mctp q) :
    beginCmd 0 (.mctp q) env a cmdNop s = s.emit (.mctp 0x81 q (statusWords 0 0 s.dtimeNs 0 csOk 0 a.tag false)) := by
  let b : Begun := { chan := .mctp q, opcode := 0, tag := a.tag, mid := a.mid, obj := objectOf 0 a }
  let v : State := { s with cmd := { s.cmd with begun := s.cmd.begun ++ [b] } }
  have hadmit : admitCmd b v = (none, v) := by
    unfold admitCmd
    rw [if_neg (by rw [show v.auditBlocks = false from haudit]; decide), if_neg (by simp [b, Channel.isRing])]
    have hgate' : v.gateRefuses 0x17 0 1 ⟨a.mid, none, true⟩ = none := (gateRefuses_congr rfl rfl rfl).trans hgate
    rw [show gateCheck 0x17 b.opcode 1 3 b.mid none v = (none, v) from gateCheck_write (by decide) hgate']
  have hnop : cmdNop env a b v = (.ok, v) := if_neg (by simp [hwords])
  have herase : (s.cmd.begun ++ [b]).erase b = s.cmd.begun := by
    rw [List.erase_append_right _ fun hb => hbegun b hb rfl]
    simp
  have hfilter : s.cmd.working.filter (fun w => w.begun ≠ b) = s.cmd.working :=
    List.filter_eq_self.2 fun w hw => decide_eq_true fun hb => hworking w hw (by rw [hb])
  have hback : { v with cmd := { v.cmd with begun := v.cmd.begun.erase b, working := v.cmd.working.filter (fun w => w.begun ≠ b) } } = s := by
    show { s with cmd := { s.cmd with begun := (s.cmd.begun ++ [b]).erase b, working := s.cmd.working.filter (fun w => w.begun ≠ b) } } = s
    rw [herase, hfilter]
  have hdone : completeCmd b csOk 0 0 0 v = s.emit (.mctp 0x81 q (statusWords 0 0 s.dtimeNs 0 csOk 0 a.tag false)) := by
    unfold completeCmd
    rw [hback]
    rfl
  unfold beginCmd
  extract_lets ring v'
  rw [show admitCmd b v' = (none, v) from hadmit]
  dsimp only
  rw [if_neg (by simp [htarget]), show cmdNop env a b (wakeForCommand b.obj v) = (.ok, v) from hnop]
  exact hdone

theorem execCommandPacketArrival_begins {src : Nat} {ok : Bool} (hrun : s.running = true)
    (hgood : s.fld .cmdFabCtrl 0 63 63 = 1 ∧ src % 2 ^ 27 = s.fld .cmdFabCtrl 0 26 0 ∧ s.sec.fabricKey = true ∧ ok = true)
    (hop : outsideOp op = true) (hrsv : a.rsv = 0) (hnone : s.cmd.outside = []) (hfree : s.blocked op a.fence true none (objectOf op a) = false) :
    execCommandPacketArrival src seq op a ok env s
      = .next (beginCmd op (.packet src (seq % 2 ^ 32)) env { a with mid := 0x891 } (outsideBody op) s) := by
  unfold execCommandPacketArrival
  rw [whenRunning_of_running hrun, if_pos hgood, runOutside_begins hrsv hop hnone hfree]

theorem execCommandPacketArrival_counts {src : Nat} {ok : Bool} (hrun : s.running = true)
    (hbad : s.fld .cmdFabCtrl 0 63 63 = 0 ∨ src % 2 ^ 27 ≠ s.fld .cmdFabCtrl 0 26 0 ∨ s.sec.fabricKey = false ∨ ok = false) :
    execCommandPacketArrival src seq op a ok env s = .next (s.count 54 1) := by
  unfold execCommandPacketArrival
  rw [whenRunning_of_running hrun, if_neg]
  rintro ⟨hen, hsrc, hkey, hok⟩
  rcases hbad with h | h | h | h
  · simp [h] at hen
  · exact h hsrc
  · simp [h] at hkey
  · simp [h] at hok

/-! REMOTE commands (R464). -/

theorem execRemoteStatusArrival_answers {src : Nat} {ws : List Word} {r : RemoteCmd} (hrun : s.running = true)
    (hr : s.cmd.remote.find? (fun r => r.seq = seq) = some r) (hkey : s.sec.fabricKey = true) (hsrc : src % 2 ^ 24 = r.target) :
    let st := bits (wd ws 3) 47 40
    let u := if st = csOk then dropRemote r s else cmdErr 0 r.opcode st r.pos.toNat (dropRemote r s)
    execRemoteStatusArrival src seq ws true s = .next (answer (.ring r.pos) r.mid
      (fun ph => [word (wd ws 0), word (wd ws 1), word (wd ws 2), word (putBits (wd ws 3) 63 63 (b1 ph))]) u) := by
  intro st u
  unfold execRemoteStatusArrival
  rw [whenRunning_of_running hrun, hr]
  dsimp only
  rw [if_neg (by simpa [hkey] using hsrc)]

theorem execRemoteCommandTimeout_answers {r : RemoteCmd} (hrun : s.running = true) (hr : s.cmd.remote.find? (fun r => r.seq = seq) = some r) :
    let u := cmdErr 0 r.opcode csTimeout r.pos.toNat (dropRemote r (s.advanceTo r.deadline))
    execRemoteCommandTimeout seq s
      = .next (answer (.ring r.pos) r.mid (fun ph => statusWords 0 0 u.dtimeNs r.opcode csTimeout 0 r.tag ph) u) := by
  intro u
  unfold execRemoteCommandTimeout
  rw [whenRunning_of_running hrun, hr]

/-! Messages over MCTP (R440, R447, R488, R494). -/

theorem execMctpWarmResetRequest_begins (hbolt : s.sys.deadbolt = .none) (hpwr : s.sys.pwrOk = true) (hstage : s.sys.stage = .run) :
    ∃ t, execMctpWarmResetRequest seq s = .next t ∧ .mctp 0x82 (seq % 256) [] ∈ t.out ∧ t.sys.stage = .warmQuiesce
      ∧ t.sys.resetCause = 3 ∧ t.sys.warmCount = (s.sys.warmCount + 1) % 2 ^ 32 := by
  have hrun : s.running = true := by simp [State.running, hbolt, hstage]
  have hemit : s.emit (.mctp 0x82 (seq % 256) []) = { s with out := s.out ++ [.mctp 0x82 (seq % 256) []] } := emit_free rfl
  unfold execMctpWarmResetRequest
  rw [if_neg (by simp [hbolt, hpwr]), if_pos hstage, hemit]
  refine ⟨_, rfl, beginWarm_within.out.subset ?_, beginWarm_of_running hrun⟩
  exact List.mem_append_right _ (List.mem_singleton_self _)

theorem execMctpFirmwareImage_takes {bytes : List Byte} {final : Bool} {im : ImageInfo} (halive : s.alive = true) (href : s.clk.refOk = true)
    (hstage : s.sys.stage = .fwLoad) (hsel : s.sys.bootSel = 2) (hlen : bytes.length ≤ 1024) :
    let u := { s with sys := { s.sys with mctpImage := (s.sys.mctpImage + 1) % 256, mctpBytes := s.sys.mctpBytes ++ bytes } }
    let im' : ImageInfo := { bytes := u.sys.mctpBytes }
    execMctpFirmwareImage s.sys.mctpImage bytes final im s = .next (if !final then u
      else if imagePasses im' u then bootImage 0 im' (s.sys.boot.elim true (fun b => b.2.counterOk)) (s.sys.boot.elim true (fun b => b.2.hbmOk)) u
      else bootNoImage 0 (u.imageStep im') (audit 0x0002 0 (imgVersion im' + at_ 32 (u.imageStep im')) u)) := by
  intro u im'
  unfold execMctpFirmwareImage
  rw [if_neg (by simp [halive, href, hstage, hsel, hlen])]

/-- Request 5 opens the session of a channel that has none. -/
theorem spdmAnswer_opens {chan : Nat} (hclosed : chan ∉ s.sec.sessions) :
    spdmAnswer chan 5 true s
      = (audit 0x0070 0 chan { s with sec := { s.sec with sessions := chan :: s.sec.sessions } }).emit (.spdm chan 5 []) := by
  simp [spdmAnswer, hclosed]

theorem spdmAnswer_session {chan : Nat} (hclosed : chan ∉ s.sec.sessions) :
    (spdmAnswer chan 5 true s).sec.sessions = chan :: s.sec.sessions ∧ .spdm chan 5 [] ∈ (spdmAnswer chan 5 true s).out
      ∧ Only [.draws, .audit, .access] s (spdmAnswer chan 5 true s) := by
  rw [spdmAnswer_opens hclosed, emit_free rfl]
  have hopen : Within 0x1ff00000000000000 s (audit 0x0070 0 chan { s with sec := { s.sec with sessions := chan :: s.sec.sessions } }) :=
    audit_within.app rfl (Within.upd (e := s) Within.refl rfl rfl rfl rfl rfl rfl rfl rfl)
  refine ⟨audit_within.keeps_sec_sessions rfl, List.mem_append_right _ (List.mem_singleton_self _), ?_⟩
  have hall : Within 0x1ff00000000000002 s _ := (sent_within (o := .spdm chan 5 [])).app rfl (hopen.weaken rfl)
  exact hall.only _ (by intro p; cases p <;> decide)

theorem execSpdmRequest_answers {chan req : Nat} {ok : Bool} (hrun : s.running = true) (hchan : chan < 8 ∨ chan = 0xFF) :
    execSpdmRequest chan req ok s = .next (spdmAnswer chan req ok s) := by
  unfold execSpdmRequest
  rw [pickOf_of_ok (by simpa using hchan)]
  dsimp only
  rw [whenRunning_of_running hrun]

end

/-- Settles O42: each row by its own branch, where nothing that it waits for is missing. -/
theorem outsideCommandsAreAnswered : Obligations.OutsideCommandsAreAnswered := by
  unfold Obligations.OutsideCommandsAreAnswered
  refine ⟨?_, ?_, ?_, ?_, ?_, ?_, ?_⟩
  · intro op seq a env s hrun hfew hop hremote hrsv hnone hfree
    have hbegins := execMctpCommand_begins (seq := seq) (env := env) hrun hfew hop hremote hrsv hnone hfree
    refine ⟨hbegins, fun hnop haudit htarget hwords hgate hbegun hworking => hbegins.trans ?_⟩
    subst hnop
    exact congrArg _ (beginCmd_nop (a := { a with mid := 0x890 }) haudit htarget hwords hgate hbegun hworking)
  · intro src seq op a ok env s hrun
    exact ⟨fun hgood hop hrsv hnone hfree => execCommandPacketArrival_begins hrun hgood hop hrsv hnone hfree,
      fun hbad => execCommandPacketArrival_counts hrun hbad⟩
  · intro src seq ws s r hrun hr hkey hsrc
    exact execRemoteStatusArrival_answers hrun hr hkey hsrc
  · intro seq s r hrun hr
    exact execRemoteCommandTimeout_answers hrun hr
  · intro seq s hbolt hpwr hstage
    exact execMctpWarmResetRequest_begins hbolt hpwr hstage
  · intro bytes final op s halive href hstage hsel hlen
    exact execMctpFirmwareImage_takes (im := op) halive href hstage hsel hlen
  · intro chan req ok s hrun hchan
    have hrow := execSpdmRequest_answers (req := req) (ok := ok) hrun hchan
    refine ⟨hrow, fun hfail => hrow.trans ?_, fun hok hreq hclosed => ?_⟩
    · subst hfail
      rfl
    · subst hok hreq
      exact ⟨_, hrow, spdmAnswer_session hclosed⟩

end Sys2Proof.Machine

namespace Sys2Proof.Machine

/-! ### Event counters (R528, R529) -/

section
variable {s : State} {i j n : Nat}

theorem counter_count_same : ((s.count i n).counter i).count = ((s.counter i).count + n) % 2 ^ 48 := by
  unfold State.count State.counter countIn
  cases s.counters.find? (fun c => c.index = i) <;> simp

theorem counter_count_other (h : j ≠ i) : (s.count i n).counter j = s.counter j := by
  have hkeep : (s.counters.filter (fun c => c.index ≠ i)).find? (fun c => c.index = j) = s.counters.find? (fun c => c.index = j) := by
    rw [List.find?_filter]
    refine List.find?_congr fun c _ => ?_
    by_cases hc : c.index = j
    · simp [hc, h]
    · simp [hc]
  unfold State.count State.counter countIn
  cases s.counters.find? (fun c => c.index = i) with
  | none => simp [Ne.symm h]
  | some c =>
    dsimp only
    rw [List.find?_cons_of_neg (by simpa using Ne.symm h), hkeep]

end

section
variable {α β : Type} {f : State → α → State} {c : State → β} {l : List α} {s : State}

/-- What no element of a list changes, the pass over the list leaves. -/
theorem foldl_leaves (h : ∀ s, ∀ x ∈ l, c (f s x) = c s) : c (l.foldl f s) = c s := by
  induction l generalizing s with
  | nil => rfl
  | cons x l ih => exact (ih fun s y hy => h s y (List.mem_cons_of_mem _ hy)).trans (h s x List.mem_cons_self)

/-- What one element of a list changes and no other does, the pass over the list changes once. -/
theorem foldl_once {x : α} {F : β → β} (hnodup : l.Nodup) (hx : x ∈ l) (hsame : ∀ s, c (f s x) = F (c s))
    (hother : ∀ s, ∀ y ∈ l, y ≠ x → c (f s y) = c s) : c (l.foldl f s) = F (c s) := by
  induction l generalizing s with
  | nil => simp at hx
  | cons y l ih =>
    obtain ⟨hy, hl⟩ := List.nodup_cons.1 hnodup
    rw [List.foldl_cons]
    by_cases hyx : y = x
    · subst hyx
      rw [foldl_leaves fun s z hz => hother s z (List.mem_cons_of_mem _ hz) fun hzy => hy (hzy ▸ hz), hsame]
    · rw [ih hl ((List.mem_cons.1 hx).resolve_left (Ne.symm hyx)) fun s z hz => hother s z (List.mem_cons_of_mem _ hz),
        hother s y List.mem_cons_self hyx]

end

/-! ### Samples (R333) -/

section
variable {s : State} {p v q w : Nat}

/-- The samples of the eight VCs of a port. -/
def samplePort (s : State) (p : Nat) : State := (List.range 8).foldl (fun s v => sampleQueue p v s) s

theorem sampleQueue_counter {j : Nat} : (sampleQueue p v s).counter j =
    (((s.count (cntSample p v 0) (s.depthDelay p v).1).count (cntSample p v 1) (s.depthDelay p v).2).count (cntSample p v 2) 1).counter j := rfl

theorem sampleQueue_counts : ((sampleQueue p v s).counter (cntSample p v 2)).count = ((s.counter (cntSample p v 2)).count + 1) % 2 ^ 48 := by
  rw [sampleQueue_counter, counter_count_same, counter_count_other (by unfold cntSample; omega), counter_count_other (by unfold cntSample; omega)]

/-- The counters of a queue are its own. -/
theorem cntSample_inj {k l : Nat} (hv : v < 8) (hw : w < 8) (hk : k < 3) (hl : l < 3) (h : cntSample p v k = cntSample q w l) : p = q ∧ v = w := by
  unfold cntSample at h
  omega

theorem sampleQueue_leaves (hv : v < 8) (hw : w < 8) (h : ¬ (q = p ∧ w = v)) :
    (sampleQueue q w s).counter (cntSample p v 2) = s.counter (cntSample p v 2) := by
  have hne (k : Nat) (hk : k < 3) : cntSample p v 2 ≠ cntSample q w k := fun heq => by
    obtain ⟨hp, hv'⟩ := cntSample_inj hv hw (by decide) hk heq
    exact h ⟨hp.symm, hv'.symm⟩
  rw [sampleQueue_counter, counter_count_other (hne 2 (by decide)), counter_count_other (hne 1 (by decide)),
    counter_count_other (hne 0 (by decide))]

theorem samplePort_counts (hv : v < 8) : ((samplePort s p).counter (cntSample p v 2)).count = ((s.counter (cntSample p v 2)).count + 1) % 2 ^ 48 :=
  foldl_once (c := fun s => (State.counter s (cntSample p v 2)).count) (F := fun n => (n + 1) % 2 ^ 48) List.nodup_range (List.mem_range.2 hv)
    (fun _ => sampleQueue_counts) fun _ _ hw hne => congrArg _ (sampleQueue_leaves hv (List.mem_range.1 hw) fun hboth => hne hboth.2)

theorem samplePort_leaves (hv : v < 8) (h : q ≠ p) : (samplePort s q).counter (cntSample p v 2) = s.counter (cntSample p v 2) :=
  foldl_leaves (c := fun s => State.counter s (cntSample p v 2)) fun _ _ hw => sampleQueue_leaves hv (List.mem_range.1 hw) fun hboth => h hboth.1

/-- The sample of every VC queue of every fabric port. -/
def samplePorts (s : State) : State := (List.range 128).foldl samplePort s

theorem samplePorts_counts (hp : p < 128) (hv : v < 8) :
    ((samplePorts s).counter (cntSample p v 2)).count = ((s.counter (cntSample p v 2)).count + 1) % 2 ^ 48 :=
  foldl_once (c := fun s => (State.counter s (cntSample p v 2)).count) (F := fun n => (n + 1) % 2 ^ 48) List.nodup_range (List.mem_range.2 hp)
    (fun _ => samplePort_counts hv) fun _ _ _ hne => congrArg _ (samplePort_leaves hv hne)

theorem samplePorts_within : Within 0x200000000000000000100000000000000000000000 s (samplePorts s) :=
  .foldl (fun _ _ => .foldl (fun _ _ => sampleQueue_within) .refl) .refl

theorem advanceTo_now {d : Nat} : (s.advanceTo d).clk.now = max s.clk.now d := by
  show s.clk.now + (d - s.clk.now) = _
  omega

theorem tick_now {code period x : Nat} (h : assoc code s.fab.ticks = some x) : (tick code period s).clk.now = max s.clk.now (x + period) := by
  unfold tick
  rw [h]
  exact advanceTo_now

theorem execQueueSamplePeriod_samples (hrun : s.fabRunning = true) (hon : s.fld .qosSampleCtrl 0 63 63 = 1) :
    execQueueSamplePeriod s = .next (samplePorts (tick 10 (ns (max 100 (s.fld .qosSampleCtrl 0 15 0))) s)) := by
  unfold execQueueSamplePeriod
  rw [whenFab_of_running hrun, if_neg (by omega)]
  rfl

end

/-! ### Shaping and policing (R323-R331) -/

section
variable {s : State} {k : PeerKey} {p : Peer} {e tc : Nat} {d : Deferred} {x : SwPkt} {rest : List SwPkt}

/-- The packets of a class that an endpoint has deferred, before the row takes the first. -/
theorem execPolicerDeferRelease_goes (he : e < 8) (hw : SliceWorks e s) (hd : s.fab.deferred.find? (fun d => d.ep = e && d.tc = tc) = some d) :
    execPolicerDeferRelease e tc s = .next (deferGo e tc (d.pkts.length + 1) s) := by
  unfold execPolicerDeferRelease
  rw [onInstance_of_lt he, hw.source, hd]
  rfl

/-- Those of the other classes. -/
def otherDeferred (e tc : Nat) (s : State) : List Deferred := s.fab.deferred.filter (fun x => !(x.ep = e && x.tc = tc))

theorem deferGo_enters {n c : Nat} {u : State} (hd : s.fab.deferred.find? (fun d => d.ep = e && d.tc = tc) = some d) (hp : d.pkts = x :: rest)
    (hroom : s.roomFor (.ep e) x.vc (cellsOf x.len) = true)
    (ha : d.wait.elim (police e x s) (fun w => chainOn (d.wait.elim s.cmd.gen (fun w => w.2.2)) w.1 x.len w.2.1 s) = (.color c, u)) :
    deferGo e tc (n + 1) s = deferGo e tc n (injectStored (.ep e) c x (updFab (fun f => { f with
      deferred := if rest.isEmpty then otherDeferred e tc s else otherDeferred e tc s ++ [{ d with wait := none, pkts := rest }] }) u)) := by
  rw [deferGo, hd]
  dsimp only
  rw [hp]
  dsimp only
  rw [if_neg (by simp [hroom]), ha]
  rfl

theorem deferGo_waits {n m left : Nat} {u : State} (hd : s.fab.deferred.find? (fun d => d.ep = e && d.tc = tc) = some d) (hp : d.pkts = x :: rest)
    (hroom : s.roomFor (.ep e) x.vc (cellsOf x.len) = true)
    (ha : d.wait.elim (police e x s) (fun w => chainOn (d.wait.elim s.cmd.gen (fun w => w.2.2)) w.1 x.len w.2.1 s) = (.defer m left, u)) :
    deferGo e tc (n + 1) s = updFab (fun f => { f with
      deferred := otherDeferred e tc s ++ [{ d with wait := some (m, left, d.wait.elim s.cmd.gen (fun w => w.2.2)) }] }) u := by
  rw [deferGo, hd]
  dsimp only
  rw [hp]
  dsimp only
  rw [if_neg (by simp [hroom]), ha]
  rfl

/-! The rate of a peer state (R327). -/

theorem peer?_updPeer {f : Peer → Peer} (hf : ∀ y, (f y).key = y.key) : (updPeer k f s).peer? k = (s.peer? k).map f := by
  have hkey : ((fun y : Peer => decide (y.key = k)) ∘ fun y => if decide (y.key = k) = true then f y else y) = fun y => decide (y.key = k) := by
    funext y
    by_cases hy : y.key = k <;> simp [hy, hf]
  show (updAll (fun y => decide (y.key = k)) f s.trn.peers).find? (fun y => decide (y.key = k)) = _
  rw [updAll_eq_map, List.find?_map, hkey]
  cases hfound : s.trn.peers.find? (fun y => decide (y.key = k)) with
  | none => simp [State.peer?, hfound]
  | some y =>
    have hy : y.key = k := by simpa using List.find?_some hfound
    simp [State.peer?, hfound, hy]

/-- The rate of a peer state one step higher, a period after its last mark. -/
def rateRaised (k : PeerKey) (p : Peer) (s : State) : State :=
  let u := s.advanceTo (p.lastMark.elim 0 (fun t => t + us (atLeast1 (s.fld .qosCcCtrl 0 23 16))))
  updPeer k (fun p => { p with rate := min u.rateMax (p.rate + atLeast1 (u.fld .qosCcCtrl 0 15 0)), lastMark := some u.clk.now }) u

theorem execCcIncreasePeriod_raises (hrun : s.running = true) (hp : s.peer? k = some p) (hsend : p.send.isSome = true)
    (hon : s.fld .qosCcCtrl 0 63 63 = 1) : execCcIncreasePeriod k s = .next (settle (rateRaised k p s)) := by
  unfold execCcIncreasePeriod
  rw [trnStep_of_running hrun, hp]
  dsimp only
  rw [if_neg (by simp [hon, Option.isSome_iff_ne_none.1 hsend])]
  rfl

theorem rateRaised_rate (hp : s.peer? k = some p) :
    ((rateRaised k p s).peer? k).map (·.rate) = some (min s.rateMax (p.rate + atLeast1 (s.fld .qosCcCtrl 0 15 0))) := by
  unfold rateRaised
  extract_lets u
  rw [peer?_updPeer, show u.peer? k = some p from hp]
  · rfl
  · exact fun _ => rfl

theorem rateRaised_within : Within 0x10000000000000000000000000000000030 s (rateRaised k p s) := updPeer_within.app rfl (State.advanceTo_within.weaken rfl)

end

/-- Settles O50: each row by its own branch; every sample counts at its queue's counter and at no other. -/
theorem pacingActs : Obligations.PacingActs := by
  unfold Obligations.PacingActs
  refine ⟨?_, ?_, ?_, ?_, ?_⟩
  · intro k s p hup hp
    show Host.Outcome.next (epStep _ s) = _
    rw [epStep_of_up hup, if_pos rfl, hp]
  · intro qid k s q hup hqid hq hkind
    show Host.Outcome.next (epStep _ s) = _
    rw [epStep_of_up hup, if_neg hqid, hq]
    dsimp only
    rw [if_pos hkind]
  · intro e tc s d p rest he hslice hdie hrun hd hpkts hroom
    have hgoes := execPolicerDeferRelease_goes he ⟨hrun, hslice, hdie⟩ hd
    refine ⟨hgoes, ?_⟩
    intro others gen a
    exact ⟨fun c u ha => hgoes.trans (congrArg _ (deferGo_enters hd hpkts hroom ha)),
      fun n left u ha => hgoes.trans (congrArg _ (deferGo_waits hd hpkts hroom ha))⟩
  · intro k s p hrun hp hsend hon
    exact ⟨_, execCcIncreasePeriod_raises hrun hp hsend hon, rateRaised_rate hp, rateRaised_within.only _ (by intro p; cases p <;> decide)⟩
  · intro s hrun hon
    have htick := tick_within (code := 10) (period := ns (max 100 (s.fld .qosSampleCtrl 0 15 0))) (s := s)
    have hall := samplePorts_within.app (m := 0x1200000000000000000100000000000000000000030) rfl (htick.weaken rfl)
    refine ⟨_, execQueueSamplePeriod_samples hrun hon, hall.only _ (by intro p; cases p <;> decide), fun x hx => ?_, fun p v hp hv => ?_⟩
    · rw [samplePorts_within.keeps_clk_now rfl]
      exact tick_now hx
    · rw [samplePorts_counts hp hv]
      unfold State.counter
      rw [htick.keeps_counters rfl]

end Sys2Proof.Machine

namespace Sys2Proof.Machine

/-! ### Host ports (R386-R404, R448) -/

section
variable {s : State} {p n : Nat} {f : State → State}

theorem configRequest_served (h : ConfigServed s) : configRequest p f s = f s := if_pos h

theorem configRequest_retries (hrun : s.sys.stage ≠ .run) (hquiesce : s.sys.stage ≠ .warmQuiesce) (hrestore : s.sys.stage ≠ .warmRestore)
    (halive : s.alive = true) (hup : (s.hport p).up = true) : configRequest p f s = s.emit (.configRetry p) := by
  unfold configRequest
  dsimp only
  rw [if_neg (by simp [hrun, hquiesce, hrestore]), if_pos ⟨halive, hup⟩]

/-- A port that tells itself from an unlisted one is listed. -/
theorem hport_updPort {g : HostPort → HostPort} (h : s.hport p ≠ HostPort.reset) : (updPort p g s).hport p = g (s.hport p) := by
  have hlist : ((updPort p g s).hif.ports)[p]? = (s.hif.ports[p]?).map g := by
    show (s.hif.ports.modify p g)[p]? = _
    rw [List.getElem?_modify_eq]
    rfl
  unfold State.hport at h ⊢
  rw [hlist]
  cases hp : s.hif.ports[p]? with
  | none => simp [hp] at h
  | some x => rfl

theorem listed_of_up (h : (s.hport p).up = true) : s.hport p ≠ HostPort.reset := fun heq => by
  rw [heq] at h
  exact absurd h (by decide)

theorem listed_of_training (h : (s.hport p).training = true) : s.hport p ≠ HostPort.reset := fun heq => by
  rw [heq] at h
  exact absurd h (by decide)

/-! Resets of functions and ports (R400-R404). -/

theorem execFunctionLevelReset_resets {fn : Nat} (hp : p < 8) (hfn : fn < 256) (halive : s.alive = true) (hup : (s.hport p).up = true)
    (h : ConfigServed s) : execFunctionLevelReset p fn s = .next (settle (resetWithVfs false (256 * p + fn) s)) := by
  unfold execFunctionLevelReset
  rw [onInstance_of_lt hp, configRequest_served h, instOf_of_lt hfn]
  dsimp only
  rw [if_pos ⟨halive, hup⟩]

theorem execVfEnableClear_resets (hp : p < 8) (halive : s.alive = true) (hup : (s.hport p).up = true) (hvf : (s.hport p).vfEnable = true)
    (h : ConfigServed s) : execVfEnableClear p s = .next (settle (funcReset false
      (((s.hport p).funcs.filter (fun f => f.mid % 256 ≠ 0)).map (·.mid)) (updPort p (fun x => { x with vfEnable := false, numVfs := 0 }) s))) := by
  unfold execVfEnableClear
  rw [onInstance_of_lt hp, configRequest_served h]
  dsimp only
  rw [if_neg (by simp [halive, hup, hvf])]

theorem execPerstAssert_resets (hp : p < 8) (halive : s.alive = true) (hout : (s.hport p).inReset = false) :
    execPerstAssert p s = .next (updPort p (fun x => { x with inReset := true, training := false }) (portReset p false s)) := by
  unfold execPerstAssert
  rw [onInstance_of_lt hp, if_neg (by simp [halive, hout])]

theorem execPerstDeassert_trains (hp : p < 8) (halive : s.alive = true) (hin : (s.hport p).inReset = true) :
    execPerstDeassert p s = .next (linkTrain p (updPort p (fun x => { x with inReset := false }) s)) := by
  unfold execPerstDeassert
  rw [onInstance_of_lt hp, if_pos ⟨halive, hin⟩]

theorem execHotReset_resets (hp : p < 8) (halive : s.alive = true) (hup : (s.hport p).up = true) :
    execHotReset p s = .next (linkTrain p (portReset p false s)) := by
  unfold execHotReset
  rw [onInstance_of_lt hp, if_pos ⟨halive, hup⟩]

theorem execHifLinkDown_resets (hp : p < 8) (halive : s.alive = true) (hup : (s.hport p).up = true) :
    execHifLinkDown p s = .next (hostLinkDown p s) := by
  unfold execHifLinkDown
  rw [onInstance_of_lt hp, if_pos ⟨halive, hup⟩]

/-! The VFs of a port (R395, R402). -/

/-- The MSI-X table size of the VFs, out of what the table of the PF leaves. -/
def vfSize (p n : Nat) (s : State) : Nat := min (s.fldI .hifMsixAlloc p 0 11 0) ((4096 - (s.hport p).pfTable) / n)

/-- A VF as it is made. -/
def vfMade (p n : Nat) (cfg : FuncCfg) (s : State) (i : Nat) : Func := (Func.fresh (256 * p + (i + 1)) (vfSize p n s)).programmed cfg

/-- The functions of the port once its VFs are made: those that exist stay. -/
def withVfs (p n : Nat) (cfg : FuncCfg) (s : State) : List Func :=
  (s.hport p).funcs ++ ((List.range n).map (vfMade p n cfg s)).filter (fun f => !(s.hport p).funcs.any (fun g => g.mid = f.mid))

/-- VF_ENABLE set. -/
def vfsMade (p n : Nat) (cfg : FuncCfg) (s : State) : State :=
  updPort p (fun x => { x with vfEnable := true, numVfs := n, vfTable := vfSize p n s, funcs := x.funcs ++
    ((List.range n).map (vfMade p n cfg s)).filter (fun f => !(s.hport p).funcs.any (fun g => g.mid = f.mid)) }) s

theorem execVfEnableSet_makes {cfg : FuncCfg} (hp : p < 8) (h1 : 1 ≤ n) (h255 : n ≤ 255) (halive : s.alive = true) (hup : s.funcUp p 0 = true)
    (hvf : (s.hport p).vfEnable = false) (h : ConfigServed s) : execVfEnableSet p n cfg s = .next (vfsMade p n cfg s) := by
  unfold execVfEnableSet
  rw [onInstance_of_lt hp, configRequest_served h, pickOf_of_ok (by simp [h1, h255])]
  dsimp only
  rw [if_neg (by simp [halive, hup, hvf])]
  rfl

theorem vfsMade_funcs {cfg : FuncCfg} (h : s.hport p ≠ HostPort.reset) : ((vfsMade p n cfg s).hport p).funcs = withVfs p n cfg s := by
  unfold vfsMade
  rw [hport_updPort h]
  rfl

/-- Every VF of the port is there; one that was not has the table size. -/
theorem mem_withVfs {cfg : FuncCfg} {i : Nat} (hi : i < n) :
    ∃ f, f ∈ withVfs p n cfg s ∧ f.mid = 256 * p + (i + 1)
      ∧ ((∀ g, g ∈ (s.hport p).funcs → g.mid ≠ 256 * p + (i + 1)) → f.tableSize = vfSize p n s) := by
  by_cases hthere : ∃ g ∈ (s.hport p).funcs, g.mid = 256 * p + (i + 1)
  · obtain ⟨g, hg, hmid⟩ := hthere
    exact ⟨g, List.mem_append_left _ hg, hmid, fun hnone => absurd hmid (hnone g hg)⟩
  · refine ⟨vfMade p n cfg s i, List.mem_append_right _ (List.mem_filter.2 ⟨List.mem_map_of_mem (List.mem_range.2 hi), ?_⟩), rfl, fun _ => rfl⟩
    simp only [Bool.not_eq_true', List.any_eq_false, decide_eq_true_eq]
    exact fun g hg hmid => hthere ⟨g, hg, hmid⟩

/-! Training (R386, R388, R404). -/

theorem execHifLinkTrained_ends {rate width : Nat} {rev : Bool} {cfg : FuncCfg} (hp : p < 8) (halive : s.alive = true)
    (htrain : (s.hport p).training = true) (hout : (s.hport p).inReset = false) (hdown : (s.hport p).up = false) (hon : s.linkEnabled p = true)
    (hloud : s.sys.silenced = false) (hclock : s.clockGood (0x50 + p) = true) :
    (linkOk rate width = true → ∃ t, execHifLinkTrained p rate width rev cfg s = .next t ∧ Only [.hostPorts] s t
        ∧ (t.hport p).up = true ∧ (t.hport p).training = false ∧ (t.hport p).rate = min rate (s.targetRate p) ∧ (t.hport p).width = width
        ∧ (t.hport p).reversed = rev)
      ∧ (linkOk rate width = false → (s.hport p).retraining = false →
        execHifLinkTrained p rate width rev cfg s = .next (report .hifLinkDown 0x09 p 0 s)) := by
  unfold execHifLinkTrained
  rw [onInstance_of_lt hp]
  dsimp only
  rw [if_neg (by simp [halive, htrain, hout, hdown, hon, hloud, hclock])]
  refine ⟨fun hok => ?_, fun hbad hfirst => ?_⟩
  · rw [if_neg (by simp [hok])]
    refine ⟨_, rfl, updPort_within.only _ (by intro p; cases p <;> decide), ?_⟩
    rw [hport_updPort (listed_of_training htrain)]
    exact ⟨rfl, rfl, rfl, rfl, rfl⟩
  · rw [if_pos (by simp [hbad]), if_neg (by simp [hfirst])]

/-! Drains (R401). -/

theorem execFlrDrainEnd_ends {mid t : Nat} {x : Func} (hmid : mid < 2048) (halive : s.alive = true) (hx : s.func? mid = some x)
    (hdrain : x.draining = some t) (hidle : s.funcWork mid = 0) : execFlrDrainEnd mid s = .next (drainFinish mid s) := by
  unfold execFlrDrainEnd
  rw [onInstance_of_lt hmid, if_pos ⟨halive, by simp [hx, hdrain], hidle⟩]

theorem execFlrDrainLimit_ends {mid t : Nat} {x : Func} (hmid : mid < 2048) (halive : s.alive = true) (hx : s.func? mid = some x)
    (hdrain : x.draining = some t) :
    execFlrDrainLimit mid s = .next (settle (drainLimit mid (s.advanceTo (t + ms (s.drainMs (midPort mid)))))) := by
  unfold execFlrDrainLimit
  rw [onInstance_of_lt hmid, if_pos halive, hx, Option.bind_some, hdrain]

end

/-- Settles O51: each row by its own branch, at a port that is there. -/
theorem hostPortsResetAndTrain : Obligations.HostPortsResetAndTrain := by
  unfold Obligations.HostPortsResetAndTrain
  intro p s hp halive
  refine ⟨?_, ?_, ?_, ?_, ?_, ?_, ?_, ?_, ?_⟩
  · intro hrun hquiesce hrestore hup c hc
    have hretry (f : Nat → State → State) : onInstance 8 p (fun port => configRequest port (f port)) s = .next (s.emit (.configRetry p)) := by
      rw [onInstance_of_lt hp, configRequest_retries hrun hquiesce hrestore halive hup]
    obtain ⟨fn, rfl⟩ | rfl | ⟨n, cfg, rfl⟩ := hc
    · show execFunctionLevelReset p fn s = _
      unfold execFunctionLevelReset
      exact hretry _
    · show execVfEnableClear p s = _
      unfold execVfEnableClear
      exact hretry _
    · show execVfEnableSet p n cfg s = _
      unfold execVfEnableSet
      exact hretry _
  · intro fn hfn hup hserved
    exact execFunctionLevelReset_resets hp hfn halive hup hserved
  · intro hup hvf hserved
    exact execVfEnableClear_resets hp halive hup hvf hserved
  · intro n cfg h1 h255 hup hvf hserved
    have hlink : (s.hport p).up = true := by
      simp only [State.funcUp, Bool.and_eq_true] at hup
      obtain ⟨⟨hlink, -⟩, -⟩ := hup
      exact hlink
    have hfuncs := vfsMade_funcs (n := n) (cfg := cfg) (listed_of_up hlink)
    refine ⟨_, execVfEnableSet_makes hp h1 h255 halive hup hvf hserved, updPort_within.only _ (by intro p; cases p <;> decide), ?_, ?_, ?_, ?_⟩
    · rw [vfsMade, hport_updPort (listed_of_up hlink)]
    · rw [vfsMade, hport_updPort (listed_of_up hlink)]
    · intro f hf
      rw [hfuncs]
      exact List.mem_append_left _ hf
    · intro i hi
      rw [hfuncs]
      exact mem_withVfs hi
  · exact execPerstAssert_resets hp halive
  · exact execPerstDeassert_trains hp halive
  · exact fun hup => ⟨execHotReset_resets hp halive hup, execHifLinkDown_resets hp halive hup⟩
  · intro rate width rev cfg htrain hout hdown hon hloud hclock
    exact execHifLinkTrained_ends hp halive htrain hout hdown hon hloud hclock
  · intro mid f t hmid hx hdrain
    exact ⟨execFlrDrainEnd_ends hmid halive hx hdrain, execFlrDrainLimit_ends hmid halive hx hdrain⟩

end Sys2Proof.Machine

namespace Sys2Proof.Machine

/-! ### A fabric port at hand (R337-R354) -/

section
variable {s u : State} {n m : Nat} {f g : Port → Port}

theorem port_of_ports (h : u.fab.ports = s.fab.ports) (m : Nat) : u.port m = s.port m := by
  unfold State.port
  rw [h]

theorem port_updFport_same (hf : ∀ p, (f p).num = p.num) : (updFport n f s).port n = f (s.port n) := (port_updFport hf n).trans (if_pos rfl)

/-- An update of a port is by what it makes of that port. -/
theorem updFport_congr (h : f (s.port n) = g (s.port n)) : updFport n f s = updFport n g s := by
  unfold updFport
  rw [h]

theorem whenFab_row {f : Nat → State → State} (hn : n < 128) (hfab : s.fabRunning = true) :
    onInstance 128 n (fun n => whenFab (f n)) s = .next (f n s) := by
  rw [onInstance_of_lt hn, whenFab_of_running hfab]

/-! What marks a port busy tells no other condition of it apart. -/

theorem linkBusy_port : (linkBusy n s).port n = { s.port n with busyAt := s.clk.now } := port_updFport_same fun _ => rfl

theorem linkBusy_receives : (linkBusy n s).linkReceives n = s.linkReceives n := by
  unfold State.linkReceives
  rw [linkBusy_port]
  rfl

theorem linkBusy_notReached {seq : Nat} : (linkBusy n s).notReached n seq = s.notReached n seq := by
  unfold State.notReached
  rw [linkBusy_port]
  rfl

end

/-! ### Frames (R337, R342-R346) -/

section
variable {s : State} {n seq : Nat} {a : Option Nat} {p : SwPkt} {c : FrameCheck}

/-- What a port that receives makes of a DATA frame, by its check. -/
def dataTaken (n seq : Nat) (a : Option Nat) (p : SwPkt) (s : State) : FrameCheck → State
  | .badHeader => linkError n (frameFailed n s)
  | .badTrailer => sendReplayReq n (linkError n (frameFailed n s))
  | .stomp => (frameFailed n s).count (cntPort n 4) 1
  | .good =>
    let u := a.elim s (fun a => onLinkAck n a s)
    if u.linkReceives n then rxData n seq p u else u

theorem dataFrame_received (hn : n < 128) (hfab : s.fabRunning = true) (hdie : s.dieStopped (n / 16 / 4) = false) (hvc : p.vc < 8)
    (hrx : s.linkReceives n = true) : execLinkDataFrameReceive n seq a p c s = .next (dataTaken n seq a p (linkBusy n s) c) := by
  unfold execLinkDataFrameReceive
  rw [whenFab_row hn hfab, if_neg (by simp [hdie]; omega), if_neg (by simp [hrx])]
  cases c <;> cases a <;> rfl

theorem dataFrame_unset (hn : n < 128) (hfab : s.fabRunning = true) (hdie : s.dieStopped (n / 16 / 4) = false) (hvc : p.vc < 8)
    (hrx : s.linkReceives n = false) : execLinkDataFrameReceive n seq a p c s
      = .next (if s.linkHears n && (c == .badHeader || c == .badTrailer) then linkError n s else s) := by
  unfold execLinkDataFrameReceive
  rw [whenFab_row hn hfab, if_neg (by simp [hdie]; omega), if_pos (by simp [hrx])]

theorem linkAck_received (hn : n < 128) (hfab : s.fabRunning = true) (hrx : s.linkReceives n = true) :
    execLinkAckReceive n seq s = .next (onLinkAck n seq (linkBusy n s)) := by
  unfold execLinkAckReceive
  rw [whenFab_row hn hfab, if_pos hrx]

theorem replayReq_ignored (hn : n < 128) (hfab : s.fabRunning = true) (hrx : s.linkReceives n = true) (h : s.notReached n seq = true) :
    execReplayReqReceive n seq s = .next (linkBusy n s) := by
  unfold execReplayReqReceive
  rw [whenFab_row hn hfab, if_neg (by simp [hrx])]
  dsimp only
  rw [if_pos (linkBusy_notReached.trans h)]

theorem replayReq_replays (hn : n < 128) (hfab : s.fabRunning = true) (hrx : s.linkReceives n = true) (h : s.notReached n seq = false) :
    let u := onLinkAck n (subMod (s.seqMod n) seq 1) (linkBusy n s)
    (u.port n).state = .up → (u.port n).oldest = seq % u.seqMod n → execReplayReqReceive n seq s = .next (startReplay n u) := by
  intro u hup hseq
  have hback : onLinkAck n (subMod ((linkBusy n s).seqMod n) seq 1) (linkBusy n s) = u := rfl
  unfold execReplayReqReceive
  rw [whenFab_row hn hfab, if_neg (by simp [hrx])]
  dsimp only
  rw [if_neg (by rw [linkBusy_notReached, h]; decide), hback, if_pos ⟨hup, hseq⟩]

end

/-! ### Marker blocks (R339, R349, R354, R369) -/

section
variable {s u : State} {n : Nat} {m : Marker} {words : List (Nat × List Int)}

/-- A port as it was, but for its errors. -/
def SamePort (n : Nat) (s u : State) : Prop := ∃ e k, u.port n = { s.port n with errAt := e, errors := k }

theorem SamePort.of_ports (h : u.fab.ports = s.fab.ports) : SamePort n s u := ⟨(s.port n).errAt, (s.port n).errors, port_of_ports h n⟩

theorem SamePort.trans {v : State} (h : SamePort n s u) (k : SamePort n u v) : SamePort n s v := by
  obtain ⟨e, j, h⟩ := h
  obtain ⟨e', j', k⟩ := k
  exact ⟨e', j', by rw [k, h]⟩

/-- A port with one more error in the window that runs now. -/
def errorNoted (now w : Nat) (p : Port) : Port :=
  if now < p.errAt + w then { p with errors := p.errors + 1 } else { p with errAt := p.errAt + (now - p.errAt) / w * w, errors := 1 }

theorem errorNoted_same (now w : Nat) (p : Port) : ∃ e k, errorNoted now w p = { p with errAt := e, errors := k } := by
  unfold errorNoted
  split
  · exact ⟨_, _, rfl⟩
  · exact ⟨_, _, rfl⟩

theorem linkError_same : SamePort n s (linkError n s) := by
  have hport : (linkError n s).port n = errorNoted s.clk.now (us (atLeast1 (s.fldI .llrErrWindow n 0 19 0))) (s.port n) := by
    refine (port_of_ports (s := updFport n (errorNoted s.clk.now _) s) rfl n).trans (port_updFport_same fun p => ?_)
    obtain ⟨e, k, h⟩ := errorNoted_same s.clk.now (us (atLeast1 (s.fldI .llrErrWindow n 0 19 0))) p
    rw [h]
  obtain ⟨e, k, h⟩ := errorNoted_same s.clk.now (us (atLeast1 (s.fldI .llrErrWindow n 0 19 0))) (s.port n)
  exact ⟨e, k, hport.trans h⟩

theorem codewordIn_same (x : Nat × List Int) : SamePort n s (codewordIn n x s) := by
  unfold codewordIn
  extract_lets l
  split
  · split
    · exact .of_ports rfl
    · exact .of_ports rfl
  · exact SamePort.trans (.of_ports (u := s.count (cntLane l 1) 1) rfl) linkError_same

/-- The codewords that came with a block count errors alone. -/
theorem codewords_same : SamePort n s (words.foldl (fun s x => codewordIn n x s) s) := by
  induction words generalizing s with
  | nil => exact .of_ports rfl
  | cons x l ih => exact (codewordIn_same x).trans ih

/-- What a port makes of a marker block under lock. -/
def blockTaken (n : Nat) (m : Marker) (s : State) : State :=
  if !m.crcOk then markerMissed n (linkError n s)
  else if !m.sync ∨ (s.port n).countDue.elim false (fun c => decide (m.count ≠ c)) then markerMissed n s
  else if m.map ≠ (s.port n).map then mapDiffers n m s
  else markerTaken n m s

theorem markerBlock_received (hn : n < 128) (hfab : s.fabRunning = true) (heth : s.ethPort n = false) (hmap : (s.port n).map ≠ 0)
    (hlock : (s.port n).locked = true) :
    let u := words.foldl (fun s x => codewordIn n x s) s
    u.ethPort n = false → execMarkerBlockReceive n ⟨m, words⟩ s = .next (blockTaken n m u) := by
  intro u hueth
  obtain ⟨e, k, hport⟩ : SamePort n s u := codewords_same
  have hulock : (u.port n).locked = true := by rw [hport]; exact hlock
  unfold execMarkerBlockReceive
  rw [whenFab_row hn hfab]
  refine congrArg Host.Outcome.next ?_
  extract_lets block v p
  have hv : v = u := if_neg (by simp [heth, hmap])
  rw [if_neg (by rw [show p = u.port n by rw [← hv], hv]; simp [hueth, hulock])]
  show blockTaken n m v = _
  rw [hv]

theorem blockTaken_crc (h : m.crcOk = false) : blockTaken n m s = markerMissed n (linkError n s) := if_pos (by simp [h])

theorem blockTaken_count (hcrc : m.crcOk = true) (h : m.sync = false ∨ ∃ c, (s.port n).countDue = some c ∧ m.count ≠ c) :
    blockTaken n m s = markerMissed n s := by
  unfold blockTaken
  rw [if_neg (by simp [hcrc]), if_pos]
  rcases h with h | ⟨c, hc, hne⟩
  · exact .inl (by simp [h])
  · exact .inr (by simp [hc, hne])

theorem blockTaken_good (hcrc : m.crcOk = true) (hsync : m.sync = true) (hcount : ∀ c, (s.port n).countDue = some c → m.count = c) :
    blockTaken n m s = if m.map ≠ (s.port n).map then mapDiffers n m s else markerTaken n m s := by
  unfold blockTaken
  rw [if_neg (by simp [hcrc]), if_neg]
  cases h : (s.port n).countDue with
  | none => simp [hsync]
  | some c => simp [hsync, hcount c h]

end

/-- Settles O53: each frame by its check, each block by the first check that it fails; codewords that came with it leave what the port knows
of its partner. -/
theorem linkFramesAreTaken : Obligations.LinkFramesAreTaken := by
  unfold Obligations.LinkFramesAreTaken
  refine ⟨?_, ?_, ?_⟩
  · intro n s hn hfab hrx
    refine ⟨?_, fun seq => linkAck_received hn hfab hrx, fun seq => ⟨replayReq_ignored hn hfab hrx, replayReq_replays hn hfab hrx⟩⟩
    intro seq a p hvc hdie w
    have hrow (a : Option Nat) (c : FrameCheck) : exec (.linkDataFrameReceive n seq a p c) s = .next (dataTaken n seq a p w c) :=
      dataFrame_received hn hfab hdie hvc hrx
    refine ⟨hrow a _, hrow a _, hrow a _, (hrow none _).trans ?_, fun b hb => (hrow (some b) _).trans ?_⟩
    · exact congrArg _ (if_pos (linkBusy_receives.trans hrx))
    · exact congrArg _ (if_pos hb)
  · intro n seq a p c s hn hfab hdie hvc hrx
    have hrow : exec (.linkDataFrameReceive n seq a p c) s = _ := dataFrame_unset hn hfab hdie hvc hrx
    refine ⟨fun hhears hbad => hrow.trans ?_, fun hquiet => hrow.trans ?_⟩
    · rw [if_pos (by simpa [hhears] using hbad)]
    · rw [if_neg]
      rcases hquiet with h | rfl | rfl
      · simp [h]
      · simp
      · simp
  · intro n m words s hn hfab heth hmap hlock u hueth
    obtain ⟨e, k, hport⟩ : SamePort n s u := codewords_same
    have hdue : (u.port n).countDue = (s.port n).countDue := by rw [hport]; rfl
    have hsame : (u.port n).map = (s.port n).map := by rw [hport]
    have hrow : exec (.markerBlockReceive n ⟨m, words⟩) s = .next (blockTaken n m u) := markerBlock_received hn hfab heth hmap hlock hueth
    refine ⟨fun hcrc => hrow.trans (congrArg _ (blockTaken_crc hcrc)), fun hcrc hbad => hrow.trans (congrArg _ (blockTaken_count hcrc (hdue ▸ hbad))),
      fun hcrc hsync hcount => ?_⟩
    have hgood := hrow.trans (congrArg Host.Outcome.next (blockTaken_good hcrc hsync (hdue ▸ hcount)))
    rw [hsame] at hgood
    refine ⟨fun hother => hgood.trans (congrArg _ (if_pos hother)), fun hmaps => ?_⟩
    have htaken := hgood.trans (congrArg Host.Outcome.next (if_neg (not_not_intro hmaps)))
    refine ⟨htaken, fun hno => htaken.trans ?_⟩
    unfold markerTaken
    rw [hno]

end Sys2Proof.Machine

namespace Sys2Proof.Machine

/-! ### Marker blocks go out (R339, R351, R379) -/

section
variable {s u : State} {n : Nat} {marker : List Word}

/-- What sending leaves of a port: the VC of its next audit, and how far an exchange toward quiet has come. -/
def exchange (n : Nat) (s : State) : Nat × Bool × Nat × Bool :=
  ((s.port n).auditVc, (s.port n).quietReq, (s.port n).quietSeen, (s.port n).quiet)

theorem exchange_congr (h : u.port n = s.port n) : exchange n u = exchange n s := by
  unfold exchange
  rw [h]

theorem exchange_updFport {f : Port → Port} (hnum : ∀ p, (f p).num = p.num)
    (hf : ∀ p, ((f p).auditVc, (f p).quietReq, (f p).quietSeen, (f p).quiet) = (p.auditVc, p.quietReq, p.quietSeen, p.quiet)) :
    exchange n (updFport n f s) = exchange n s := by
  unfold exchange
  rw [port_updFport_same hnum]
  exact hf _

/-- Codeword messages change what the lanes carry and how many were cut. -/
theorem sendMessages_exchange {lanes : List Nat} {msgs : List (List Bool)} : exchange n (sendMessages n lanes msgs s) = exchange n s := by
  induction msgs generalizing s with
  | nil => rfl
  | cons m rest ih =>
    rw [sendMessages, ih, exchange_updFport (fun _ => by rfl) (fun _ => by rfl)]
    exact exchange_congr (port_of_ports (laneSend_within.keeps_fab_ports rfl) n)

theorem sendStream_exchange : exchange n (sendStream n marker s) = exchange n s := by
  unfold sendStream
  extract_lets p idle body stream k msgs v
  exact sendMessages_exchange.trans (exchange_updFport (fun _ => by rfl) (fun _ => by rfl))

/-- The stream with a marker block goes out. -/
theorem sent_exchange : exchange n (sendStream n marker (s.emit (.link n 5 marker))) = exchange n s :=
  sendStream_exchange.trans (exchange_congr (port_of_ports (State.emit_within.keeps_fab_ports rfl) n))

/-- The stream that a port sends with a marker block, and what it counts. -/
def markerSent (n audit : Nat) (due : Bool) (s : State) : State :=
  updFport n (fun p => { p with
      sbCount := (p.sbCount + 1) % 65536
      grantedSent := p.granted
      markers := if due then 0 else p.markers + 1
      auditVc := if due then ((s.port n).auditVc + 1) % 8 else (s.port n).auditVc })
    (sendStream n (s.markerWords n audit) (s.emit (.link n 5 (s.markerWords n audit))))

theorem markerSent_plain : markerSent n 0 false s = updFport n (fun p => { p with
      sbCount := (p.sbCount + 1) % 65536, grantedSent := p.granted, markers := p.markers + 1 })
    (sendStream n (s.markerWords n 0) (s.emit (.link n 5 (s.markerWords n 0)))) := by
  refine updFport_congr ?_
  have hvc : ((sendStream n (s.markerWords n 0) (s.emit (.link n 5 (s.markerWords n 0)))).port n).auditVc = (s.port n).auditVc :=
    congrArg Prod.fst sent_exchange
  simp [← hvc]

theorem quietEnds_idle (h : (s.port n).quietReq = false) : quietEnds n s = s := if_neg (by simp [h])

/-- A marker block is due an audit. -/
def State.auditsNow (s : State) (n : Nat) : Bool :=
  decide (s.fldI .llrAudit n 0 63 63 = 1) && decide (atLeast1 (s.fldI .llrAudit n 0 7 0) ≤ (s.port n).markers + 1)

/-- A port that asks for no quiet sends its block. -/
theorem markerBlock_sent (hn : n < 128) (hfab : s.fabRunning = true) (heth : s.ethPort n = false) (hmap : (s.port n).map ≠ 0)
    (hawake : (s.port n).quiet = false) {v : State} (hv : v = if s.quietMay n then s else quietEnds n s) (hreq : (v.port n).quietReq = false) :
    execMarkerBlockSend n s
      = .next (markerSent n (if v.auditsNow n then (v.port n).auditWord (v.port n).auditVc else 0) (v.auditsNow n) v) := by
  have hdark : s.portDark n = false := by unfold State.portDark; simp [hawake]
  unfold execMarkerBlockSend
  rw [whenFab_row hn hfab, if_neg (by simp [heth, hmap, hdark])]
  refine congrArg Host.Outcome.next ?_
  extract_lets w p enter due vc audit x y
  have hw : w = v := hv.symm
  have hstay : enter = false := by
    show ((w.port n).quietReq && _) = false
    rw [hw, hreq, Bool.false_and]
  rw [if_neg (by simp [hstay])]
  show markerSent n (if w.auditsNow n then (w.port n).auditWord (w.port n).auditVc else 0) (w.auditsNow n) w = _
  rw [hw]

theorem quietEnds_asked (h : (s.port n).quietReq = true) :
    quietEnds n s = updFport n (fun p => { p with quietReq := false, quietSeen := 0 }) s := if_pos h

theorem markerSent_within {audit : Nat} {due : Bool} : Within 0x1800000000000000000000000000000000000000000e s (markerSent n audit due s) :=
  updFport_within.app rfl (sendStream_within.app rfl (State.emit_within.weaken rfl))

/-- What a marker block leaves of an exchange toward quiet. -/
theorem markerSent_quiet {audit : Nat} {due : Bool} :
    ((markerSent n audit due s).port n).quietReq = (s.port n).quietReq ∧ ((markerSent n audit due s).port n).quietSeen = (s.port n).quietSeen
      ∧ ((markerSent n audit due s).port n).quiet = (s.port n).quiet := by
  have hsent : exchange n (sendStream n (s.markerWords n audit) (s.emit (.link n 5 (s.markerWords n audit)))) = exchange n s := sent_exchange
  simp only [exchange, Prod.mk.injEq] at hsent
  obtain ⟨-, hreq, hseen, hquiet⟩ := hsent
  unfold markerSent
  rw [port_updFport_same (by exact fun _ => rfl)]
  exact ⟨hreq, hseen, hquiet⟩

end

/-! ### Timers of a port (R342, R345, R346, R351-R356) -/

section
variable {s : State} {n : Nat} {f : LinkInit}

theorem linkReplayTimeout_replays (hn : n < 128) (hfab : s.fabRunning = true) (hup : (s.port n).state = .up) (hawake : (s.port n).quiet = false)
    (hwin : (s.port n).win ≠ []) : execLinkReplayTimeout n s
      = .next (startReplay n (s.advanceTo ((s.port n).timerAt + ns (atLeast1 (s.fldI .llrReplayTmo n 0 19 0))))) := by
  unfold execLinkReplayTimeout
  rw [whenFab_row hn hfab]
  dsimp only
  rw [if_neg (by simp [hup, hawake, hwin])]

theorem replayReqResend_sends (hn : n < 128) (hfab : s.fabRunning = true) (hrx : s.linkReceives n = true)
    (hreq : (s.port n).reqFor = some (s.port n).expected) : execReplayReqResend n s
      = .next (sendReplayReq n (updFport n (fun p => { p with reqFor := none })
        (s.advanceTo ((s.port n).reqAt + ns (atLeast1 (s.fldI .llrReplayTmo n 0 19 0)))))) := by
  unfold execReplayReqResend
  rw [whenFab_row hn hfab]
  dsimp only
  rw [if_neg (by simp [hrx, hreq])]

theorem standaloneAckIdle_sends (hn : n < 128) (hfab : s.fabRunning = true) (hrx : s.linkReceives n = true) (hack : (s.port n).ackPending = true) :
    execStandaloneAckIdle n s = .next (sendLinkAck n (s.advanceTo ((s.port n).ackAt + ns (s.fldI .llrAck n 0 15 0)))) := by
  unfold execStandaloneAckIdle
  rw [whenFab_row hn hfab]
  dsimp only
  rw [if_neg (by simp [hrx, hack])]

theorem creditTimeout_downs {vc t : Nat} (hn : n < 128) (hfab : s.fabRunning = true) (ht : assoc vc (s.port n).blocked = some t)
    (hup : (s.port n).state = .up) (hawake : (s.port n).quiet = false) : execCreditTimeout n vc s
      = .next (linkDown n (some .llrCreditTimeout) 1 vc vc false false (s.advanceTo (t + us (atLeast1 (s.fldI .llrCreditTmo n 0 19 0))))) := by
  unfold execCreditTimeout
  rw [whenFab_row hn hfab, ht]
  dsimp only
  rw [if_neg (by simp [hup, hawake])]

theorem errorWindowLimit_downs (hn : n < 128) (hfab : s.fabRunning = true) (h : atLeast1 (s.fldI .llrErrWindow n 0 47 32) ≤ s.windowErrors n) :
    execErrorWindowLimit n s = .next (linkDown n (some .llrErrorRate) 3 0 (min 65535 (s.windowErrors n)) true false s) := by
  unfold execErrorWindowLimit
  rw [whenFab_row hn hfab]
  dsimp only
  rw [if_neg (by omega)]

theorem initSendTimer_sends (hn : n < 128) (hfab : s.fabRunning = true) (heth : s.ethPort n = false) (hinit : (s.port n).state = .init) :
    let u := s.advanceTo ((s.port n).initAt + us 1)
    execInitSendTimer n s = .next (updFport n (fun p => { p with initAt := u.clk.now }) (sendCtl n 3 (u.initArg n) u)) := by
  intro u
  unfold execInitSendTimer
  rw [whenFab_row hn hfab, if_neg (by simp [heth, hinit])]

theorem graceExpiry_flushes {t : Nat} (hn : n < 128) (hfab : s.fabRunning = true) (ht : (s.port n).downAt = some t) : execGraceExpiry n s
    = .next (flushPort n (updFport n (fun p => { p with downAt := none }) (s.advanceTo (t + us (s.fldI .llrGrace n 0 19 0))))) := by
  unfold execGraceExpiry
  rw [whenFab_row hn hfab, ht]

/-! INIT and INIT_ACK (R353, R356). -/

theorem initReceive_other (hn : n < 128) (hfab : s.fabRunning = true) (heth : s.ethPort n = false) (hlock : (s.port n).locked = true)
    (hmode : modeOf f.mode ≠ s.mode n) (hstate : (s.port n).state = .up ∨ (s.port n).state = .init) :
    execInitReceive n f s = .next (updFport n (fun p => { p with state := .init, again := 0 }) s) := by
  unfold execInitReceive
  rw [whenFab_row hn hfab]
  dsimp only
  rw [if_neg (by rcases hstate with h | h <;> simp [heth, hlock, h]), if_pos hmode]

theorem initReceive_own (hn : n < 128) (hfab : s.fabRunning = true) (heth : s.ethPort n = false) (hlock : (s.port n).locked = true)
    (hmode : modeOf f.mode = s.mode n) (hstate : (s.port n).state = .up ∨ (s.port n).state = .init) :
    let u := updFport n (fun p => { p with state := .init, again := 0 })
      (takeExpected n f (if f.txFresh = true ∨ (s.port n).rxValid = false then resetRx n f.txOldest s else s))
    execInitReceive n f s = .next (sendCtl n 4 (u.initArg n) u) := by
  intro u
  unfold execInitReceive
  rw [whenFab_row hn hfab]
  dsimp only
  rw [if_neg (by rcases hstate with h | h <;> simp [heth, hlock, h]), if_neg (not_not_intro hmode)]
  simp only [Bool.not_eq_true']
  rfl

theorem initAckReceive_ups (hn : n < 128) (hfab : s.fabRunning = true) (heth : s.ethPort n = false) (hlock : (s.port n).locked = true)
    (hmode : modeOf f.mode = s.mode n) (hstate : (s.port n).state = .init) :
    let u := takeExpected n f (if f.txFresh = true then resetRx n f.txOldest s else s)
    let l := mapCount (u.port n).map
    execInitAckReceive n f s = .next (fabSettle (allEndpoints (if l = 4 then evPortUp else evPortDegraded) n l n
      (updFport n (fun p => { p with
        state := .up, fresh := false, downAt := none, timerAt := u.clk.now, busyAt := u.clk.now, replays := 0
        again := p.win.length }) u))) := by
  intro u l
  unfold execInitAckReceive
  rw [whenFab_row hn hfab]
  dsimp only
  rw [if_neg (by simp [heth, hlock, hmode, hstate])]

end

/-- Settles O54: each row by its own branch; a block that is sent leaves the VC of the next audit. -/
theorem linkTimersAct : Obligations.LinkTimersAct := by
  unfold Obligations.LinkTimersAct
  intro n s hn hfab
  refine ⟨?_, ?_, ?_, ?_, ?_, ?_, ?_, ?_, ?_, ?_, ?_⟩
  · intro heth hmap hawake haudit hreq
    have hv : s = if s.quietMay n then s else quietEnds n s := by rw [quietEnds_idle hreq, ite_self]
    have hnone : s.auditsNow n = false := by unfold State.auditsNow; simp [haudit]
    have hrow : exec (.markerBlockSend n) s = _ := markerBlock_sent hn hfab heth hmap hawake hv hreq
    rw [hrow, hnone]
    exact congrArg _ markerSent_plain
  · intro heth hmap hawake hreq hmay
    have hv : quietEnds n s = if s.quietMay n then s else quietEnds n s := (if_neg (by simp [hmay])).symm
    have hport : (quietEnds n s).port n = { s.port n with quietReq := false, quietSeen := 0 } := by
      rw [quietEnds_asked hreq]
      exact port_updFport_same (by exact fun _ => rfl)
    have hrow : exec (.markerBlockSend n) s = _ := markerBlock_sent hn hfab heth hmap hawake hv (by rw [hport])
    refine ⟨_, hrow, (markerSent_within.app (m := 0x1800000000000000000000000000000000000000000e) rfl (quietEnds_within.weaken rfl)).only _
      (by intro p; cases p <;> decide), ?_⟩
    obtain ⟨hr, hseen, hq⟩ := markerSent_quiet (n := n) (s := quietEnds n s) (audit := _) (due := _)
    rw [hr, hseen, hq, hport]
    exact ⟨rfl, rfl, hawake⟩
  · exact linkReplayTimeout_replays hn hfab
  · exact replayReqResend_sends hn hfab
  · exact standaloneAckIdle_sends hn hfab
  · exact fun vc t => creditTimeout_downs hn hfab
  · exact errorWindowLimit_downs hn hfab
  · exact fun f => initReceive_other hn hfab
  · exact fun f heth hlock hmode => ⟨initReceive_own hn hfab heth hlock hmode, initAckReceive_ups hn hfab heth hlock hmode⟩
  · exact initSendTimer_sends hn hfab
  · exact fun t => graceExpiry_flushes hn hfab

end Sys2Proof.Machine

namespace Sys2Proof.Machine

/-! ### A lane at hand (R371) -/

section
variable {s u : State} {l m : Nat} {f g : Lane → Lane}

theorem num_of_lane (l : Nat) : (s.lane l).num = l := by
  unfold State.lane
  cases h : s.fab.lanes.find? (fun x => x.num = l) with
  | none => rfl
  | some x => exact of_decide_eq_true (List.find?_some (p := fun x : Lane => decide (x.num = l)) h)

theorem lane_updLane (hf : ∀ x, (f x).num = x.num) (m : Nat) : (updLane l f s).lane m = if m = l then f (s.lane l) else s.lane m := by
  have hnum : (f (s.lane l)).num = l := (hf _).trans (num_of_lane l)
  show ((f (s.lane l) :: s.fab.lanes.filter (fun x => x.num ≠ l)).find? (fun x => x.num = m)).getD (Lane.reset m) = _
  by_cases hm : m = l
  · rw [List.find?_cons_of_pos (by simp [hnum, hm]), if_pos hm, Option.getD_some]
  · rw [List.find?_cons_of_neg (by simp [hnum, Ne.symm hm]), if_neg hm, List.find?_filter]
    unfold State.lane
    congr 2
    funext x
    grind

theorem lane_updLane_same (hf : ∀ x, (f x).num = x.num) : (updLane l f s).lane l = f (s.lane l) := (lane_updLane hf l).trans (if_pos rfl)

theorem lane_updLane_other (hf : ∀ x, (f x).num = x.num) (hm : m ≠ l) : (updLane l f s).lane m = s.lane m := (lane_updLane hf m).trans (if_neg hm)

theorem lane_of_lanes (h : u.fab.lanes = s.fab.lanes) (l : Nat) : u.lane l = s.lane l := by
  unfold State.lane
  rw [h]

theorem whenFab_laneRow {f : Nat → State → State} (hl : l < 512) (hfab : s.fabRunning = true) :
    onInstance 512 l (fun l => whenFab (f l)) s = .next (f l s) := by
  rw [onInstance_of_lt hl, whenFab_of_running hfab]

/-- An update of a lane is by what it makes of that lane. -/
theorem updLane_congr (h : f (s.lane l) = g (s.lane l)) : updLane l f s = updLane l g s := by
  unfold updLane
  rw [h]

/-- A lane that is not in TEST and whose checker does not compare has nothing to count, and begins nothing. -/
theorem chkTouch_idle (hstate : (s.lane l).state ≠ .test) (hchk : (s.lane l).chk = none) :
    chkTouch l s = updLane l (fun x => { x with chk := none, once := 0 }) s := by
  have hend : chkEnd l s = s := by
    unfold chkEnd
    simp [hchk]
  have hflush : chkFlush l s = updLane l (fun x => { x with chk := none, once := 0 }) s := by
    unfold chkFlush
    rw [hend]
    refine updLane_congr ?_
    simp [hchk]
  have hstill : ((updLane l (fun x => { x with chk := none, once := 0 }) s).lane l).state ≠ .test := by
    rw [lane_updLane_same (by exact fun _ => rfl)]
    exact hstate
  unfold chkTouch
  rw [hflush]
  dsimp only
  rw [if_pos (.inl hstill)]

/-- A training frame goes out and counts; nothing else of the lane changes. -/
theorem sendTraining_frame : Within 0x10000000000000000000000000000000000000000002 s (sendTraining l s) := by
  unfold sendTraining
  extract_lets x
  refine .ite Within.refl ?_
  rw [emit_free rfl]
  exact updLane_within.app rfl (sent_within.weaken rfl)

/-- What tells whether a lane has lock does not change with the frames it sends. -/
theorem sendTraining_lane : ((sendTraining l s).lane l).locked = (s.lane l).locked ∧ ((sendTraining l s).lane l).readyRun = (s.lane l).readyRun := by
  unfold sendTraining
  extract_lets x
  split
  · exact ⟨rfl, rfl⟩
  · have hemit : (s.emit (.train l (trainFrame l x.locked (s.trainRate l) x.trained) (s.txTaps l))).lane l = s.lane l :=
      lane_of_lanes (State.emit_within.keeps_fab_lanes rfl) l
    rw [lane_updLane_same (by exact fun _ => rfl), hemit]
    exact ⟨rfl, rfl⟩

end

/-! ### Training frames (R367, R371) -/

section
variable {s : State} {l status : Nat} {inv sync : Bool}

/-- A lane that acquires. -/
structure Acquires (l : Nat) (s : State) : Prop where
  fabric : s.ethPort (lanePort l) = false
  state : (s.lane l).state = .fast ∨ ((s.lane l).state = .full ∧ (s.lane l).leave = false)

/-- What a good frame tells of a lane. -/
def frameNoted (l status : Nat) (inv : Bool) (run : Nat) (x : Lane) : Lane :=
  { x with locked := true, signal := true, partner := bit status 25, readyRun := run, inverted := inv, miswire := x.miswire || decide (bits status 27 26 ≠ l % 4) }

/-- Frames in a row with RX_READY. -/
def runAfter (l status : Nat) (s : State) : Nat := if bit status 25 then (s.lane l).readyRun + 1 else 0

theorem trainingFrame_bad (hl : l < 512) (hfab : s.fabRunning = true) (h : Acquires l s) (hbad : sync = false ∨ trainGood (s.trainRate l) status = false) :
    execTrainingFrameReceive l status sync inv s = .next (updLane l (fun x => { x with readyRun := 0 }) s) := by
  obtain ⟨hfabric, hstate⟩ := h
  unfold execTrainingFrameReceive
  rw [whenFab_laneRow hl hfab]
  dsimp only
  rw [if_neg (by rcases hstate with h | ⟨h, hleave⟩ <;> simp [*]), if_pos (by rcases hbad with h | h <;> simp [h])]

theorem trainingFrame_good (hl : l < 512) (hfab : s.fabRunning = true) (h : Acquires l s) (hgood : trainGood (s.trainRate l) status = true)
    (hpol : bit (s.raw .lnsCtrl l 0) 5 = true ∨ bit (s.raw .lnsCtrl l 0) 4 = inv) (hlock : (s.lane l).locked = true) :
    let u := updLane l (frameNoted l status inv (runAfter l status s)) s
    execTrainingFrameReceive l status true inv s = .next (if 8 ≤ runAfter l status s ∧ (u.lane l).miswire = false then laneReady l u else u) := by
  obtain ⟨hfabric, hstate⟩ := h
  have htest : (s.lane l).state ≠ .test := by rcases hstate with h | ⟨h, -⟩ <;> simp [h]
  intro u
  unfold execTrainingFrameReceive
  rw [whenFab_laneRow hl hfab]
  refine congrArg Host.Outcome.next ?_
  extract_lets x c acq rx good run was v w
  have hacq : acq = true := by rcases hstate with h | ⟨h, hleave⟩ <;> simp [acq, x, *]
  have hv : v = u := rfl
  have hw : w = u := if_pos hlock
  rw [if_neg (by simp [hfabric, hacq]), if_neg (by rcases hpol with h | h <;> simp [good, c, hgood, h]), if_neg htest, hw]
  simp only [hacq, true_and, Bool.not_eq_true']
  rfl

theorem frameNoted_lane {run : Nat} : (updLane l (frameNoted l status inv run) s).lane l = frameNoted l status inv run (s.lane l) :=
  lane_updLane_same (by exact fun _ => rfl)

end

/-! ### The lock of a port (R369, R373-R375, R379, R380) -/

section
variable {s : State} {n : Nat} {m : Marker}

theorem portLock_formed (hn : n < 128) (hfab : s.fabRunning = true) (hslice : s.sliceDead (n / 16) = false) (heth : s.ethPort n = false)
    (hopen : (s.port n).locked = false) (hmap : (s.port n).map ≠ 0) (htest : (s.port n).testing = false) (hvalid : markerValid m = true)
    (hready : s.readyMap n &&& (s.port n).map = (s.port n).map) (hon : (s.port n).state ≠ .disabled)
    (hup : (s.port n).state = .up → (s.port n).quiet = true) :
    execPortLockFormed n m s = .next (if s.wakeLate n then lockLost n (4 * n) s else markersFound n m s) := by
  have hgoes : ¬((s.port n).state = .disabled ∨ ((s.port n).state = .up ∧ (!(s.port n).quiet) = true)) := by
    rintro (h | ⟨h, hloud⟩)
    · exact hon h
    · simp [hup h] at hloud
  unfold execPortLockFormed
  rw [whenFab_row hn hfab]
  dsimp only
  rw [if_neg (by simp [hslice]), if_neg (by simp [heth]), if_neg (by simp [hopen, hmap, htest, hvalid, hready]), if_neg hgoes]

theorem portLock_ethernet (hn : n < 128) (hfab : s.fabRunning = true) (hslice : s.sliceDead (n / 16) = false) (heth : s.ethPort n = true)
    (hstate : (s.port n).state = .training) (htest : (s.port n).testing = false) (hon : s.portEnabled n = true)
    (hlanes : s.ethLanesAcquire n = true) : execPortLockFormed n m s = .next (ethPortUp n s) := by
  unfold execPortLockFormed
  rw [whenFab_row hn hfab]
  dsimp only
  rw [if_neg (by simp [hslice]), if_pos heth, if_pos ⟨hstate, by simp [htest], hon, hlanes⟩]

theorem portLock_lost (hn : n < 128) (hfab : s.fabRunning = true) (heth : s.ethPort n = false) (hlock : (s.port n).locked = true) :
    execPortLockLoss n s = .next (markersLost n s) := by
  unfold execPortLockLoss
  rw [whenFab_row hn hfab, if_neg (by simp [heth, hlock])]

theorem degradeWait_ends {t : Nat} (hn : n < 128) (hfab : s.fabRunning = true) (ht : (s.port n).readyAt = some t) (hstate : (s.port n).state = .training)
    (hopen : (s.port n).locked = false) (hmap : (s.port n).map = 0) (heth : s.ethPort n = false) :
    execDegradeWaitExpiry n s = .next (tryLock n (s.advanceTo (t + ms (s.fldI .lnsPortCtrl (4 * n) 0 31 16)))) := by
  unfold execDegradeWaitExpiry
  rw [whenFab_row hn hfab]
  dsimp only
  rw [ht]
  dsimp only
  rw [if_neg (by simp [hstate, hopen, hmap, heth])]

theorem rejoinWait_ends (hn : n < 128) (hfab : s.fabRunning = true) (hstate : (s.port n).state = .grace)
    (hopen : (s.port n).locked = false) (hmap : (s.port n).map = 0) :
    execRejoinWaitExpiry n s = .next (tryLock n (s.advanceTo ((s.port n).lostAt + us (s.fldI .lnsPortCtrl (4 * n) 0 15 0)))) := by
  unfold execRejoinWaitExpiry
  rw [whenFab_row hn hfab]
  dsimp only
  rw [if_neg (by simp [hstate, hopen, hmap])]

theorem quietIdle_asks (hn : n < 128) (hfab : s.fabRunning = true) (heth : s.ethPort n = false) (hup : (s.port n).state = .up)
    (hawake : (s.port n).quiet = false) (hreq : (s.port n).quietReq = false) (hmay : s.quietMay n = true) (hwin : (s.port n).win = [])
    (hq : (s.egress (.port n)).q = []) : execQuietIdleExpiry n s = .next (updFport n (fun p => { p with quietReq := true, quietSeen := 0 })
      (s.advanceTo ((s.port n).busyAt + us (atLeast1 (s.fldI .lnsPortCtrl (4 * n) 0 47 32))))) := by
  unfold execQuietIdleExpiry
  rw [whenFab_row hn hfab]
  dsimp only
  rw [if_neg (by simp [heth, hup, hawake, hreq, hmay, hwin, hq])]

theorem quietAsked_within {d : Nat} : Within 0x8000000000000000000000000000000000000000030 s
    (updFport n (fun p => { p with quietReq := true, quietSeen := 0 }) (s.advanceTo d)) :=
  updFport_within.app rfl (State.advanceTo_within.weaken rfl)

theorem quietWake_wakes (hn : n < 128) (hfab : s.fabRunning = true) (hquiet : (s.port n).quiet = true) :
    execQuietWake n s = .next ((portLanes n).foldl (fun s l =>
        if (s.lane l).state = .quiet then toFast l false (updLane l (fun x => { x with signal := true }) s) else s)
        (updFport n (fun p => { p with wakeAt := some (p.wakeAt.getD s.clk.now) }) s)) := by
  unfold execQuietWake
  rw [whenFab_row hn hfab, if_neg (by simp [hquiet])]

end

/-! ### Lock and signal of a lane are lost (R371-R374) -/

section
variable {s : State} {l : Nat}

theorem laneLock_lost (hl : l < 512) (hfab : s.fabRunning = true) (heth : s.ethPort (lanePort l) = false) (huse : (s.lane l).state.inUse = true) :
    execLaneLockLoss l s = .next (laneLost l true true s) := by
  unfold execLaneLockLoss
  rw [whenFab_laneRow hl hfab]
  dsimp only
  rw [if_neg (by simp [heth]), if_neg (by simp [heth]), if_pos huse]

theorem laneSignal_lost (hl : l < 512) (hfab : s.fabRunning = true) (heth : s.ethPort (lanePort l) = false) (huse : (s.lane l).state.inUse = true)
    (hloud : (s.port (lanePort l)).quietReq = false ∨ (s.port (lanePort l)).quietSeen < 4) :
    execLaneSignalLoss l s = .next (laneLost l false false s) := by
  have hgoes : ¬((!(s.lane l).state.inUse) = true ∨ ((s.port (lanePort l)).quietReq = true ∧ 4 ≤ (s.port (lanePort l)).quietSeen)) := by
    rintro (h | ⟨hreq, hseen⟩)
    · simp [huse] at h
    · rcases hloud with h | h
      · simp [h] at hreq
      · omega
  unfold execLaneSignalLoss
  rw [whenFab_laneRow hl hfab]
  dsimp only
  rw [if_neg (by simp [heth]), if_neg (by simp [heth]), if_neg hgoes]

/-- A lane in use of a service port takes the port down. -/
theorem ethLane_lost (hl : l < 512) (hfab : s.fabRunning = true) (heth : s.ethPort (lanePort l) = true) (hstate : (s.lane l).state = .active) :
    execLaneLockLoss l s = .next (activeLeft l (s.count (cntLane l 4) 1))
      ∧ execLaneSignalLoss l s = .next (activeLeft l (s.count (cntLane l 4) 1)) := by
  unfold execLaneLockLoss execLaneSignalLoss
  rw [whenFab_laneRow hl hfab, whenFab_laneRow hl hfab]
  exact ⟨congrArg _ (if_pos ⟨heth, hstate⟩), congrArg _ (if_pos ⟨heth, hstate⟩)⟩

/-- A lane that does not carry the port and does not test. -/
structure OutOfUse (l : Nat) (s : State) : Prop where
  fabric : s.ethPort (lanePort l) = false
  state : (s.lane l).state.inUse = false
  test : (s.lane l).state ≠ .test
  chk : (s.lane l).chk = none

/-- What such a lane is after an update that leaves its state and its checker. -/
theorem touched_unused {f : Lane → Lane} {u : State} (hf : ∀ x, (f x).num = x.num ∧ (f x).state = x.state ∧ (f x).chk = x.chk)
    (hu : u.lane l = s.lane l) (h : OutOfUse l s) :
    chkTouch l (updLane l f u) = updLane l (fun x => { x with chk := none, once := 0 }) (updLane l f u)
      ∧ (chkTouch l (updLane l f u)).lane l = { f (s.lane l) with chk := none, once := 0 } := by
  obtain ⟨-, -, htest, hchk⟩ := h
  have hlane : (updLane l f u).lane l = f (s.lane l) := hu ▸ lane_updLane_same fun x => (hf x).1
  obtain ⟨-, hstate, hrun⟩ := hf (s.lane l)
  have htouch := chkTouch_idle (l := l) (s := updLane l f u) (by rwa [hlane, hstate]) (by rwa [hlane, hrun])
  refine ⟨htouch, ?_⟩
  rw [htouch, lane_updLane_same (by exact fun _ => rfl), hlane]

theorem laneSignal_unused (hl : l < 512) (hfab : s.fabRunning = true) (h : OutOfUse l s) :
    ∃ t, execLaneSignalLoss l s = .next t ∧ Only [.lanes] s t ∧ (t.lane l).signal = false := by
  obtain ⟨htouch, hlane⟩ := touched_unused (f := fun x => { x with signal := false, locked := x.locked && x.state.inUse }) (u := s)
    (fun _ => ⟨rfl, rfl, rfl⟩) rfl h
  refine ⟨chkTouch l (updLane l (fun x => { x with signal := false, locked := x.locked && x.state.inUse }) s), ?_, ?_, ?_⟩
  · obtain ⟨heth, huse, -, -⟩ := h
    unfold execLaneSignalLoss
    rw [whenFab_laneRow hl hfab]
    dsimp only
    rw [if_neg (by simp [heth]), if_neg (by simp [heth]), if_pos (.inl (by simp [huse]))]
  · rw [htouch]
    exact (updLane_within.app (m := 0x10000000000000000000000000000000000000000000) rfl updLane_within).only _ (by intro p; cases p <;> decide)
  · rw [hlane]

/-- The lock of a lane that does not carry the port goes. -/
def laneLockGone (l : Nat) (s : State) : State := chkTouch l (updLane l (fun x => { x with locked := false, readyRun := 0 }) (s.count (cntLane l 4) 1))

theorem laneLockGone_unused (h : OutOfUse l s) :
    Within 0x10000000000000000000100000000000000000000000 s (laneLockGone l s) ∧ (laneLockGone l s).counters = (s.count (cntLane l 4) 1).counters
      ∧ ((laneLockGone l s).lane l).locked = false ∧ ((laneLockGone l s).lane l).readyRun = 0 := by
  obtain ⟨htouch, hlane⟩ := touched_unused (f := fun x => { x with locked := false, readyRun := 0 }) (s := s) (u := s.count (cntLane l 4) 1)
    (fun _ => ⟨rfl, rfl, rfl⟩) rfl h
  unfold laneLockGone
  refine ⟨chkTouch_within.app rfl (updLane_within.app rfl (State.count_within.weaken rfl)), by rw [htouch]; rfl, by rw [hlane], by rw [hlane]⟩

theorem laneLock_unused (hl : l < 512) (hfab : s.fabRunning = true) (h : OutOfUse l s) (hlock : (s.lane l).locked = true) :
    ∃ t, execLaneLockLoss l s = .next t ∧ Only [.lanes, .counters] s t
      ∧ (t.lane l).locked = false ∧ (t.lane l).readyRun = 0 ∧ t.counters = (s.count (cntLane l 4) 1).counters := by
  obtain ⟨hin, hcount, hopen, hrun⟩ := laneLockGone_unused h
  have hrow : execLaneLockLoss l s
      = .next (if (s.lane l).state = .fast ∨ (s.lane l).state = .full then sendTraining l (laneLockGone l s) else laneLockGone l s) := by
    obtain ⟨heth, huse, -, -⟩ := h
    unfold execLaneLockLoss
    rw [whenFab_laneRow hl hfab]
    dsimp only
    rw [if_neg (by simp [heth]), if_neg (by simp [heth]), if_neg (by simp [huse]), if_pos hlock]
    rfl
  refine ⟨_, hrow, ?_⟩
  split
  · have hall : Within 0x10000000000000000000100000000000000000000002 s (sendTraining l (laneLockGone l s)) :=
      sendTraining_frame.app rfl (hin.weaken rfl)
    obtain ⟨hl', hr'⟩ := sendTraining_lane (l := l) (s := laneLockGone l s)
    exact ⟨hall.only _ (by intro p; cases p <;> decide), hl'.trans hopen, hr'.trans hrun, (sendTraining_frame.keeps_counters rfl).trans hcount⟩
  · exact ⟨hin.only _ (by intro p; cases p <;> decide), hopen, hrun, hcount⟩

/-! ### Times of a lane (R371, R372, R376, R384) -/

theorem quietHold_ends (hl : l < 512) (hfab : s.fabRunning = true) (hsilent : (s.lane l).silent = true) :
    execQuietHoldExpiry l s = .next (sendTraining l (updLane l (fun x => { x with silent := false })
      (s.advanceTo ((s.lane l).since + us (atLeast1 (s.fldI .lnsAcq l 0 23 16)))))) := by
  unfold execQuietHoldExpiry
  rw [whenFab_laneRow hl hfab]
  dsimp only
  rw [if_neg (by simp [hsilent])]

/-- FAST passes into full acquisition; a wake that comes to it is a loss of lock. -/
theorem fastTmo_fulls (hl : l < 512) (hfab : s.fabRunning = true) (hstate : (s.lane l).state = .fast) :
    let u := toFull l (s.advanceTo ((s.lane l).since + us (atLeast1 (s.fldI .lnsAcq l 0 63 48))))
    execFastTmoExpiry l s
      = .next (if (u.port (lanePort l)).state = .up ∧ (u.port (lanePort l)).quiet = true then lockLost (lanePort l) l u else u) := by
  intro u
  unfold execFastTmoExpiry
  rw [whenFab_laneRow hl hfab]
  dsimp only
  rw [if_neg (not_not_intro hstate)]

theorem fastTmo_wake {t : Nat} (hl : l < 512) (hfab : s.fabRunning = true) (huse : (s.lane l).state.inUse = true)
    (hquiet : (s.port (lanePort l)).quiet = true) (ht : (s.port (lanePort l)).wakeAt = some t) :
    execFastTmoExpiry l s = .next (lockLost (lanePort l) l (s.advanceTo (t + us (atLeast1 (s.fldI .lnsAcq l 0 63 48))))) := by
  have hstate : (s.lane l).state ≠ .fast := fun h => by rw [h] at huse; exact absurd huse (by decide)
  unfold execFastTmoExpiry
  rw [whenFab_laneRow hl hfab]
  dsimp only
  rw [if_pos hstate, ht]
  dsimp only
  rw [if_pos ⟨hquiet, huse⟩]

/-- A lane whose full acquisition ran out once more. -/
def fullTried (l now : Nat) (s : State) : State :=
  updLane l (fun x => { x with fails := x.fails + 1, since := now, locked := false, partner := false, readyRun := 0 }) s

theorem waited_lane {t i m : Nat} : ((s.advanceTo t).count i 1).lane m = s.lane m := rfl

theorem fullTried_raw {t i now k j : Nat} {r : Reg} : (fullTried l now ((s.advanceTo t).count i 1)).raw r k j = s.raw r k j := rfl

theorem fullTmo_tries (hl : l < 512) (hfab : s.fabRunning = true) (hstate : (s.lane l).state = .full) (hleave : (s.lane l).leave = false)
    (heth : s.ethPort (lanePort l) = false) :
    let v := (s.advanceTo ((s.lane l).since + ms (atLeast1 (s.fldI .lnsAcq l 0 47 32)))).count (cntLane l 5) 1
    let u := fullTried l v.clk.now v
    execFullTmoExpiry l s = .next (if (s.lane l).fails + 1 < atLeast1 (s.fldI .lnsAcq l 0 31 24) then sendTraining l u
      else laneDomainOff (laneDomain l) (tryLock (lanePort l) (updLane l (fun x => { x with state := .failed, signal := false }) u))) := by
  intro v u
  have hlane : v.lane l = s.lane l := waited_lane
  have hfails : (u.lane l).fails = (s.lane l).fails + 1 := by
    rw [← hlane]
    exact congrArg Lane.fails (lane_updLane_same (by exact fun _ => rfl))
  have hacq : u.fldI .lnsAcq l 0 31 24 = s.fldI .lnsAcq l 0 31 24 := by
    have hraw : u.raw .lnsAcq l 0 = s.raw .lnsAcq l 0 := fullTried_raw
    unfold State.fldI
    rw [hraw]
  unfold execFullTmoExpiry
  rw [whenFab_laneRow hl hfab]
  refine congrArg Host.Outcome.next ?_
  rw [if_neg (by simp [hstate, hleave, heth])]
  show (if (u.lane l).fails < atLeast1 (u.fldI .lnsAcq l 0 31 24) then sendTraining l u
      else laneDomainOff (laneDomain l) (tryLock (lanePort l) (updLane l (fun x => { x with state := .failed, signal := false }) u))) = _
  rw [hfails, hacq]

/-- The registers of an eye measurement. -/
def eyeRead (l snr height width : Nat) (s : State) : State :=
  s.setReg .lnsEye l 0 (at_ 48 (snr % 65536) + at_ 16 (height % 65536) + width % 65536)

/-- The measurement and its end stand in the registers. -/
def eyeDone (l snr height width : Nat) (s : State) : State :=
  (eyeRead l snr height width s).setReg .lnsEyeCtrl l 0 (putBits ((eyeRead l snr height width s).raw .lnsEyeCtrl l 0) 62 62 1)

theorem eyeDone_within {snr height width : Nat} : Within 0x2000000000000 s (eyeDone l snr height width s) :=
  State.setReg_within.app rfl State.setReg_within

theorem eyeDone_regs {u : State} {snr height width : Nat} (h : u.regs = s.regs) :
    (eyeDone l snr height width u).regs = (eyeDone l snr height width s).regs := by
  have hset {u s : State} (h : u.regs = s.regs) (r : Reg) (v : Nat) : (u.setReg r l 0 v).regs = (s.setReg r l 0 v).regs := by
    unfold State.setReg
    rw [h]
  have hread : (eyeRead l snr height width u).regs = (eyeRead l snr height width s).regs := hset h _ _
  unfold eyeDone
  rw [raw_congr rfl hread]
  exact hset hread _ _

theorem eyeMeasure_done {snr height width : Nat} (hl : l < 512) (hfab : s.fabRunning = true) (heye : (s.lane l).eye = true) :
    ∃ t, execEyeMeasureDone l snr height width s = .next t ∧ Only [.regs, .lanes] s t
      ∧ (t.lane l).eye = false ∧ t.regs = ((eyeRead l snr height width s).setReg .lnsEyeCtrl l 0
          (putBits ((eyeRead l snr height width s).raw .lnsEyeCtrl l 0) 62 62 1)).regs := by
  have hrow : execEyeMeasureDone l snr height width s = .next (eyeDone l snr height width (updLane l (fun x => { x with eye := false }) s)) := by
    unfold execEyeMeasureDone
    rw [whenFab_laneRow hl hfab, if_neg (by simp [heye])]
    unfold eyeDone eyeRead
    rfl
  have hall : Within 0x10000000000000000000000000000002000000000000 s (eyeDone l snr height width (updLane l (fun x => { x with eye := false }) s)) :=
    eyeDone_within.app rfl (updLane_within.weaken rfl)
  refine ⟨_, hrow, hall.only _ (by intro p; cases p <;> decide), ?_, eyeDone_regs rfl⟩
  refine (congrArg Lane.eye (lane_of_lanes (eyeDone_within.keeps_fab_lanes rfl) l)).trans ?_
  exact congrArg Lane.eye (lane_updLane_same (by exact fun _ => rfl))

end

/-- Settles O56: each row by its own branch, from what the row reads of the lane and of its port. -/
theorem lanesAcquireAndLock : Obligations.LanesAcquireAndLock := by
  unfold Obligations.LanesAcquireAndLock
  refine ⟨?_, ?_, ?_⟩
  · intro l status inv s hl hfab heth hstate
    have hacq : Acquires l s := ⟨heth, hstate⟩
    refine ⟨fun sync hbad => trainingFrame_bad hl hfab hacq hbad, ?_⟩
    intro hgood hpol hlock ready sender u
    have hrow : exec (.trainingFrameReceive l status true inv) s = _ := trainingFrame_good hl hfab hacq hgood hpol hlock
    have hlane : u.lane l = frameNoted l status inv (runAfter l status s) (s.lane l) := frameNoted_lane
    refine ⟨fun hshort => ⟨hrow.trans (congrArg _ (if_neg ?_)), updLane_within.only _ (by intro p; cases p <;> decide), ?_⟩,
      fun hready hrun hsender hwire => hrow.trans (congrArg _ (if_pos ⟨?_, ?_⟩))⟩
    · rintro ⟨hlong, -⟩
      unfold runAfter at hlong
      split at hlong
      next hr =>
        rcases hshort with h | h
        · exact absurd (h.symm.trans hr) (by decide)
        · omega
      next => omega
    · rw [hlane]
      rfl
    · unfold runAfter
      rw [if_pos hready]
      omega
    · show (u.lane l).miswire = false
      rw [hlane]
      simpa [frameNoted, hwire] using hsender
  · intro n s hn hfab
    refine ⟨fun m => portLock_formed hn hfab, fun m => portLock_ethernet hn hfab, portLock_lost hn hfab, fun t => degradeWait_ends hn hfab,
      rejoinWait_ends hn hfab, ?_, quietWake_wakes hn hfab⟩
    intro heth hup hawake hreq hmay hwin hq
    exact ⟨_, quietIdle_asks hn hfab heth hup hawake hreq hmay hwin hq, quietAsked_within.only _ (by intro p; cases p <;> decide),
      congrArg Port.quietReq (port_updFport_same (by exact fun _ => rfl)), advanceTo_now⟩
  · intro l s hl hfab
    refine ⟨fun heth huse => ⟨laneLock_lost hl hfab heth huse, laneSignal_lost hl hfab heth huse⟩, ethLane_lost hl hfab,
      fun heth huse htest hchk => ⟨laneSignal_unused hl hfab ⟨heth, huse, htest, hchk⟩, laneLock_unused hl hfab ⟨heth, huse, htest, hchk⟩⟩,
      quietHold_ends hl hfab, ?_, fun t => fastTmo_wake hl hfab, ?_,
      fun heye snr height width => eyeMeasure_done hl hfab heye⟩
    · intro hstate u
      have hrow : exec (.fastTmoExpiry l) s = _ := fastTmo_fulls hl hfab hstate
      refine ⟨fun hup hquiet => hrow.trans (congrArg _ (if_pos ⟨hup, hquiet⟩)), fun hloud => hrow.trans (congrArg _ (if_neg ?_))⟩
      rintro ⟨hup, hquiet⟩
      rcases hloud with h | h
      · exact h hup
      · exact absurd (h.symm.trans hquiet) (by decide)
    · intro hstate hleave heth v u
      have hrow : exec (.fullTmoExpiry l) s = _ := fullTmo_tries hl hfab hstate hleave heth
      exact ⟨fun hfew => hrow.trans (congrArg _ (if_pos hfew)), fun hmany => hrow.trans (congrArg _ (if_neg (by omega)))⟩

end Sys2Proof.Machine

namespace Sys2Proof.Machine

/-! ### Leave and notices (R411-R416) -/

section
variable {s : State} {demand : List Nat} {r : LeaveReq}

/-- What a request for leave is granted on: the credit has covered its step. -/
def leaveCovered (r : LeaveReq) (v : State) : State := refill (v.advance ((2500 * r.step - v.fab.pwr.credit + v.rampRate - 1) / v.rampRate))

/-- What follows once the credit covers the step of the head of the order. -/
def leaveGoes (r : LeaveReq) (w : State) : State :=
  if !decide (4 * atLeast1 (w.fld .pwrRampLimit 0 39 32) < w.recentSteps + r.step) && !decide (w.fab.pwr.notice = some r.op) then grantLeave r w
  else
    match w.fab.pwr.rampLow with
    | none => (updPwr (fun p => { p with rampLow := some w.clk.now, notice := some r.op }) w).count 50 1
    | some t => grantLeave r (refill (w.advanceTo (t + ns (w.fld .pwrRampLimit 0 63 48))))

/-- The order, once domains at a level have asked. -/
def asked (demand : List Nat) (s : State) : State := (s.atLevel ++ demand).foldl (fun s d => askLevel d s) s

theorem leaveGrant_none (hfab : s.fabRunning = true) (h : (asked demand s).leaveHead = none) : execLeaveGrant demand s = .next (asked demand s) := by
  unfold execLeaveGrant
  rw [whenFab_of_running hfab, show (s.atLevel ++ demand).foldl (fun s d => askLevel d s) s = asked demand s from rfl]
  dsimp only
  rw [h]

theorem leaveGrant_goes (hfab : s.fabRunning = true) (h : (asked demand s).leaveHead = some r) :
    execLeaveGrant demand s = .next (leaveGoes r (leaveCovered r (refill (asked demand s)))) := by
  unfold execLeaveGrant
  rw [whenFab_of_running hfab, show (s.atLevel ++ demand).foldl (fun s d => askLevel d s) s = asked demand s from rfl]
  dsimp only
  rw [h]
  rfl

theorem leaveGoes_grants {w : State} (hfew : ¬ 4 * atLeast1 (w.fld .pwrRampLimit 0 39 32) < w.recentSteps + r.step)
    (hnew : w.fab.pwr.notice ≠ some r.op) : leaveGoes r w = grantLeave r w := if_pos (by simp only [hfew, hnew]; rfl)

/-- Too many steps ask for a notice first. -/
theorem leaveGoes_notice {w : State} (h : 4 * atLeast1 (w.fld .pwrRampLimit 0 39 32) < w.recentSteps + r.step ∨ w.fab.pwr.notice = some r.op)
    (hlow : w.fab.pwr.rampLow = none) :
    leaveGoes r w = (updPwr (fun p => { p with rampLow := some w.clk.now, notice := some r.op }) w).count 50 1 := by
  unfold leaveGoes
  rw [if_neg (by rcases h with h | h <;> simp [h]), hlow]

theorem leaveGoes_noticed {w : State} {t : Nat} (h : 4 * atLeast1 (w.fld .pwrRampLimit 0 39 32) < w.recentSteps + r.step ∨ w.fab.pwr.notice = some r.op)
    (hlow : w.fab.pwr.rampLow = some t) : leaveGoes r w = grantLeave r (refill (w.advanceTo (t + ns (w.fld .pwrRampLimit 0 63 48)))) := by
  unfold leaveGoes
  rw [if_neg (by rcases h with h | h <;> simp [h]), hlow]

theorem noticeHold_ends {t : Nat} (hfab : s.fabRunning = true) (ht : s.fab.pwr.noticeGrant = some t) (hlow : s.fab.pwr.rampLow.isSome = true)
    (hnone : s.fab.pwr.notice = none) : execNoticeHoldExpiry s = .next (updPwr (fun p => { p with rampLow := none, noticeGrant := none })
      (s.advanceTo (t + us (s.fld .pwrRampLimit 0 47 40)))) := by
  unfold execNoticeHoldExpiry
  rw [whenFab_of_running hfab, ht]
  dsimp only
  rw [if_neg (by simp [hnone, Option.isSome_iff_ne_none.1 hlow])]

theorem arbAge_ages (hfab : s.fabRunning = true) :
    let age := us (atLeast1 (s.fld .pwrArbCtrl 0 15 0))
    (s.fab.pwr.reqs.filter (fun r => decide (0 < r.rank) && !s.bcaHeld r)).foldl (firstAge age) none = some r →
      execArbAgeExpiry s = .next (updHolds (updPwr (fun p => { p with
        reqs := updFirst (fun q => q = r) (fun q => { q with aged := true }) p.reqs }) (s.advanceTo (r.ageAt age)))) := by
  intro age hr
  unfold execArbAgeExpiry
  rw [whenFab_of_running hfab]
  dsimp only
  rw [hr]

/-- An update of the power unit after a wait. -/
theorem waitedPwr_within {f : Pwr → Pwr} {d : Nat} : Within 0x20000000000000000000000000000000000000000030 s (updPwr f (s.advanceTo d)) :=
  Within.upd (e := s.advanceTo d) (State.advanceTo_within.weaken rfl) rfl rfl rfl rfl rfl rfl rfl rfl

end

/-! ### Domains (R406-R409) -/

section
variable {s : State} {dom t : Nat} {d : Domain}

/-- At its time a predicted exit starts where its next event still is the one chosen for; else the predictor chooses again. -/
theorem predictorExit_row (hfab : s.fabRunning = true) (hd : s.domain? dom = some d) (ht : d.due = some t) (hidle : d.exiting = none)
    (hon : d.state ≠ .on) (hoff : d.state ≠ .off) :
    let u := s.advanceTo (t - exitTime d.state)
    execPredictorExitStart dom s = .next (if u.nextEvent dom ≠ some t ∧ u.fld .pwrPred 0 63 63 = 1 then domainAgain dom u
      else askExit dom 1 (updDomain dom (fun d => { d with due := none }) u)) := by
  intro u
  unfold execPredictorExitStart
  rw [whenFab_of_running hfab, hd]
  dsimp only
  rw [ht]
  dsimp only
  rw [if_neg (by simp [hidle, hon, hoff])]

theorem advanceTo_fld {d k hi lo : Nat} {r : Reg} : (s.advanceTo d).fld r k hi lo = s.fld r k hi lo := rfl

theorem domainExit_completes (hfab : s.fabRunning = true) (hd : s.domain? dom = some d) (hexit : d.exiting.isSome = true) :
    let u := invalsGo (sleepersGo (portsRelease (domainOnAgain dom d s)))
    let l := u.qmg.queues.filter (fun q => engineDomain q.attr.home = dom && q.fetch.running)
    execDomainExitComplete dom s = .next (stalledGo (settle (l.foldl (fun s q => fetchGo q.qid 2 s) u))) := by
  intro u l
  unfold execDomainExitComplete
  rw [whenFab_of_running hfab, hd]
  dsimp only
  rw [if_neg (by simp [Option.isSome_iff_ne_none.1 hexit])]

/-- A domain that is ON again is listed no more. -/
theorem domainOnAgain_on : (domainOnAgain dom d s).domain? dom = none := by
  have hgone : ({ s with fab := { s.fab with pwr := { s.fab.pwr with domains := s.fab.pwr.domains.filter (fun x => x.num ≠ dom) } } } : State).domain? dom = none := by
    unfold State.domain?
    rw [List.find?_eq_none]
    intro x hx
    obtain ⟨-, hother⟩ := List.mem_filter.1 hx
    simpa using hother
  have hwait (l : List LeaveReq) (u : State) : KeepsLeave u (l.foldl (fun s r => enqueueReq { r with at_ := s.clk.now } s) u) := by
    induction l generalizing u with
    | nil => exact .refl
    | cons r l ih => exact enqueueReq_keepsLeave.trans (ih _)
  unfold domainOnAgain
  extract_lets u v w
  have hu : u.domain? dom = none := hgone
  have hv : v.domain? dom = none := ((hwait d.waiting u).domain? dom).trans hu
  have hw : w.fab.pwr = v.fab.pwr := by
    show (if dom < 16 then (List.range 32).foldl (fun s i => loopOn (32 * dom + i) s) v else v).fab.pwr = _
    split
    · exact (Within.foldl (fun _ _ => loopOn_within) Within.refl).keeps_fab_pwr rfl
    · rfl
  have hkeep : ∀ x : State, x.fab.pwr = v.fab.pwr → x.domain? dom = none := fun x hx => by
    unfold State.domain? at hv ⊢
    rw [hx]
    exact hv
  split
  · exact hkeep _ hw
  · exact hkeep _ hw

theorem activity_dom : (s.activity dom).dom = dom := by
  unfold State.activity
  cases h : s.fab.pwr.levels.find? (fun a => a.dom = dom) with
  | none => rfl
  | some a => simpa using List.find?_some h

/-- The level of a domain one lower. -/
def decayed (u : State) (a : Activity) : State := setActivity { a with level := a.level - 1, demandAt := u.clk.now } u

theorem setActivity_activity (a : Activity) : (setActivity a s).activity a.dom = a := by
  have hlevels : (setActivity a s).fab.pwr.levels = a :: s.fab.pwr.levels.filter (fun x => x.dom ≠ a.dom) := rfl
  rw [State.activity, hlevels, List.find?_cons_of_pos (by simp)]
  rfl

theorem decayed_activity {a : Activity} (h : a.dom = dom) :
    (decayed s a).activity dom = { a with level := a.level - 1, demandAt := s.clk.now } := by
  subst h
  exact setActivity_activity { a with level := a.level - 1, demandAt := s.clk.now }

theorem decayed_within {a : Activity} {d : Nat} : Within 0x20000000000000000000000000000000000000000030 s (decayed (s.advanceTo d) a) :=
  Within.upd (e := s.advanceTo d) (State.advanceTo_within.weaken rfl) rfl rfl rfl rfl rfl rfl rfl rfl

theorem activityDecay_lowers (hfab : s.fabRunning = true) (hlevel : (s.activity dom).level ≠ 0) : execActivityDecayExpiry dom s
    = .next (decayed (s.advanceTo ((s.activity dom).demandAt + us (atLeast1 (s.fld .pwrArbCtrl 0 47 32)))) (s.activity dom)) := by
  unfold execActivityDecayExpiry
  rw [whenFab_of_running hfab]
  dsimp only
  rw [if_neg hlevel]
  rfl

end

/-! ### Floors and violations (R418-R422) -/

section
variable {s : State}

/-- The floors follow a code, after its debounce. -/
def codeTaken (code wait : Nat) (s : State) : State :=
  let u := (updPwr (fun p => { p with bcaRaw := code }) s).advance wait
  let v := if code = s.fab.pwr.bcaCode then u else u.setReg .pwrBcaStatus 0 0 (putBits (u.raw .pwrBcaStatus 0 0) 63 63 1)
  reclass (updHolds (updPwr (fun p => { p with bcaCode := code, bcaOk := true }) v))

theorem bcaCode_same {code : Nat} (hfab : s.fabRunning = true) (hok : s.fab.pwr.bcaOk = true) (hcode : code % 8 = s.fab.pwr.bcaCode) :
    execBcaCodeChange code s = .next (updPwr (fun p => { p with bcaRaw := code % 8 }) s) := by
  unfold execBcaCodeChange
  rw [whenFab_of_running hfab]
  dsimp only
  rw [if_pos ⟨hok, hcode⟩]

theorem bcaCode_changes {code : Nat} (hfab : s.fabRunning = true) (h : s.fab.pwr.bcaOk = false ∨ code % 8 ≠ s.fab.pwr.bcaCode) :
    execBcaCodeChange code s = .next (codeTaken (code % 8) (if s.fab.pwr.bcaOk = false then 0
      else if code % 8 < s.fab.pwr.bcaCode then ns (max 10 (s.fld .pwrBcaCtrl 0 15 0)) else us (atLeast1 (s.fld .pwrBcaCtrl 0 47 32))) s) := by
  have hnew : ¬(s.fab.pwr.bcaOk = true ∧ code % 8 = s.fab.pwr.bcaCode) := by
    rintro ⟨hok, hcode⟩
    rcases h with h | h
    · exact absurd (h.symm.trans hok) (by decide)
    · exact h hcode
  unfold execBcaCodeChange
  rw [whenFab_of_running hfab]
  dsimp only
  rw [if_neg hnew]
  simp only [Bool.not_eq_true']
  rfl

theorem tick_pwr {code period : Nat} : (tick code period s).fab.pwr = s.fab.pwr := by
  unfold tick
  cases assoc code s.fab.ticks <;> rfl

/-- What an estimate above the limits means for a violation in class 7. -/
def overNoted (exceeds : Bool) (u : State) : State :=
  updHolds (updPwr (fun p => { p with
    violated := p.violated && exceeds
    overAt := if exceeds && decide (p.cls = 7) && !p.violated then some (p.overAt.getD u.clk.now) else none }) u)

/-- What an estimate does to the power floor. -/
def floorMoved (watts amps f : Nat) (s : State) : State := reclass (updPwr (fun p => { p with estWatts := watts, estAmps := amps, powerFloor := f }) s)

theorem updPwr_congr {f g : Pwr → Pwr} (h : f s.fab.pwr = g s.fab.pwr) : updPwr f s = updPwr g s := by
  unfold updPwr
  rw [h]

theorem powerFloor_steps {watts amps : Nat} (hfab : s.fabRunning = true) (hw : watts < 4096) (ha : amps < 1024) :
    let exceeds := decide (s.wattsLimit < watts) || decide (s.ampsLimit < amps)
    let h := 100 - s.fld .pwrBudget 0 43 40
    let under := decide (watts * 100 < s.wattsLimit * h) && decide (amps * 100 < s.ampsLimit * h)
    let f := if exceeds then min 7 (s.fab.pwr.powerFloor + 1) else if under then s.fab.pwr.powerFloor - 1 else s.fab.pwr.powerFloor
    execPowerFloorStep watts amps s = .next (overNoted exceeds (floorMoved watts amps f (tick 11 (us (atLeast1 (s.fld .pwrBudget 0 55 48))) s))) := by
  intro exceeds h under f
  generalize hperiod : us (atLeast1 (s.fld .pwrBudget 0 55 48)) = period
  have hfld (hi lo : Nat) : (tick 11 period s).fld .pwrBudget 0 hi lo = s.fld .pwrBudget 0 hi lo := congrArg (bits · hi lo) (tick_raw ..)
  have hwatts : (tick 11 period s).wattsLimit = s.wattsLimit := congrArg atLeast1 (hfld 11 0)
  have hamps : (tick 11 period s).ampsLimit = s.ampsLimit := congrArg atLeast1 (hfld 25 16)
  have hfloor : (tick 11 period s).fab.pwr.powerFloor = s.fab.pwr.powerFloor := congrArg Pwr.powerFloor tick_pwr
  unfold execPowerFloorStep
  rw [whenFab_of_running hfab, hperiod]
  dsimp only
  rw [Nat.mod_eq_of_lt hw, Nat.mod_eq_of_lt ha, hwatts, hamps, hfld]
  refine congrArg (fun u => Host.Outcome.next (overNoted exceeds (reclass u))) (updPwr_congr ?_)
  rw [hfloor]

theorem budgetViolation_reports {t : Nat} (hfab : s.fabRunning = true) (ht : s.fab.pwr.overAt = some t) (hcls : s.fab.pwr.cls = 7) :
    let u := updHolds (updPwr (fun p => { p with overAt := none, violated := true }) (s.advanceTo (t + ms (atLeast1 (s.fld .pwrBudget 0 63 56)))))
    execPwrBudgetViolation s = .next (report .pwrBudgetViolation 0x02 0 (at_ 16 u.fab.pwr.estAmps + u.fab.pwr.estWatts) u) := by
  intro u
  unfold execPwrBudgetViolation
  rw [whenFab_of_running hfab, ht]
  dsimp only
  rw [if_neg (not_not_intro hcls)]

/-- The sensors as a step of the thermal floor reads them. -/
def sensed (temps : List Int) (s : State) : State :=
  updPwr (fun p => { p with sensors := (temps ++ p.sensors.drop temps.length).take 16 }) (tick 12 (us (atLeast1 (s.fld .pwrTherm 0 39 32))) s)

def warnAt (v : State) : Int := 8 * clamp 60 110 (v.fld .pwrTherm 0 7 0)

def lowAt (v : State) : Int := warnAt v - 8 * v.fld .pwrTherm 0 23 16

/-- The thermal floor at a level. -/
def thermStep (f : Nat) (v : State) : State := reclass (v.setReg .pwrBudgetClass 0 0 (putBits (v.raw .pwrBudgetClass 0 0) 34 32 f))

theorem lowAt_le (v : State) : lowAt v ≤ warnAt v := by
  unfold lowAt
  omega

/-- A step of the thermal floor, once the sensors are read. -/
def thermTaken (v : State) : State :=
  let w := thermStep (if warnAt v ≤ v.tj.1 then min 7 (v.thermFloor + 1) else if v.tj.1 < lowAt v then v.thermFloor - 1 else v.thermFloor) v
  if warnAt v ≤ v.tj.1 ∧ (!w.fab.pwr.warned) = true then report .thermWarn 0x02 0 w.tjField (updPwr (fun p => { p with warned := true }) w)
  else if v.tj.1 < lowAt v then updPwr (fun p => { p with warned := false }) w else w

theorem thermFloor_row {temps : List Int} (hfab : s.fabRunning = true) : execThermFloorStep temps s = .next (thermTaken (sensed temps s)) := by
  unfold execThermFloorStep
  rw [whenFab_of_running hfab]
  rfl

variable {v : State}

theorem thermTaken_warns (h : warnAt v ≤ v.tj.1) (hnew : (thermStep (min 7 (v.thermFloor + 1)) v).fab.pwr.warned = false) :
    thermTaken v = report .thermWarn 0x02 0 (thermStep (min 7 (v.thermFloor + 1)) v).tjField
      (updPwr (fun p => { p with warned := true }) (thermStep (min 7 (v.thermFloor + 1)) v)) := by
  unfold thermTaken
  rw [if_pos h]
  dsimp only
  rw [if_pos ⟨h, by rw [hnew]; rfl⟩]

theorem thermTaken_warned (h : warnAt v ≤ v.tj.1) (hold : (thermStep (min 7 (v.thermFloor + 1)) v).fab.pwr.warned = true) :
    thermTaken v = thermStep (min 7 (v.thermFloor + 1)) v := by
  have hle := lowAt_le v
  unfold thermTaken
  rw [if_pos h]
  dsimp only
  rw [if_neg (by simp [hold]), if_neg (by omega)]

theorem thermTaken_holds (hlow : lowAt v ≤ v.tj.1) (hwarn : v.tj.1 < warnAt v) : thermTaken v = thermStep v.thermFloor v := by
  have hwarm : ¬ warnAt v ≤ v.tj.1 := by omega
  have hcool : ¬ v.tj.1 < lowAt v := by omega
  unfold thermTaken
  rw [if_neg hwarm, if_neg hcool]
  dsimp only
  rw [if_neg (fun h => hwarm h.1), if_neg hcool]

theorem thermTaken_cools (hlow : v.tj.1 < lowAt v) (hwarn : v.tj.1 < warnAt v) :
    thermTaken v = updPwr (fun p => { p with warned := false }) (thermStep (v.thermFloor - 1) v) := by
  have hwarm : ¬ warnAt v ≤ v.tj.1 := by omega
  unfold thermTaken
  rw [if_neg hwarm, if_pos hlow]
  dsimp only
  rw [if_neg (fun h => hwarm h.1), if_pos hlow]

/-! ### The trip and the rails (R423, R424) -/

theorem thermTrip_trips {sensor : Nat} (hbolt : s.sys.deadbolt = .none) (hpwr : s.sys.pwrOk = true) :
    ∃ t, execThermTrip sensor s = .next t ∧ t.sys.deadbolt = .thermal ∧ t.sys.silenced = true ∧ t.fab.pwr.reqs = []
      ∧ ∀ d ∈ t.fab.pwr.domains, d.state = .off := by
  unfold execThermTrip
  rw [if_neg (by simp [hbolt, hpwr])]
  exact ⟨_, rfl, rfl, rfl, rfl, allOff_domains⟩

theorem railFault_reports {rail : Nat} {above : Bool} (hrail : rail < 7) (halive : s.alive = true) :
    let u := s.advanceTo (s.sys.pwrAt + us 100)
    execPwrRailFault rail above s
      = .next (report .pwrRailFault 0x02 0 (rail + at_ 3 (b1 above)) { u with sys := { u.sys with railFault := true } }) := by
  intro u
  unfold execPwrRailFault
  rw [onInstance_of_lt hrail, if_neg (by simp [halive])]

theorem railRestored_row (halive : s.alive = true) (hfault : s.sys.railFault = true) :
    let u := { s with sys := { s.sys with railFault := false } }
    execRailRestored s = .next (if s.fld .sysCtrl 0 2 2 = 1 then beginWarm 4 u else u) := by
  intro u
  unfold execRailRestored
  rw [if_neg (by simp [halive, hfault])]
  rfl

end

/-- Settles O57: each row by its own branch, from what it reads when it begins. -/
theorem powerIsArbitrated : Obligations.PowerIsArbitrated := by
  unfold Obligations.PowerIsArbitrated
  refine ⟨?_, ?_, ?_, ?_, ?_, ?_, ?_, ?_, ?_, ?_, ?_, ?_, ?_⟩
  · intro demand s hfab u
    refine ⟨fun h => leaveGrant_none hfab h, ?_⟩
    intro r hr v w tooMany
    have hrow : exec (.leaveGrant demand) s = _ := leaveGrant_goes hfab hr
    exact ⟨fun hfew hnew => hrow.trans (congrArg _ (leaveGoes_grants hfew hnew)), fun h hlow => hrow.trans (congrArg _ (leaveGoes_notice h hlow)),
      fun t h hlow => hrow.trans (congrArg _ (leaveGoes_noticed h hlow))⟩
  · intro s t hfab ht hlow hnone
    exact ⟨_, noticeHold_ends hfab ht hlow hnone, waitedPwr_within.only _ (by intro p; cases p <;> decide), rfl, advanceTo_now⟩
  · intro s r hfab
    exact arbAge_ages hfab
  · intro dom s d t hfab hd ht hidle hon hoff u
    have hrow : exec (.predictorExitStart dom) s = _ := predictorExit_row hfab hd ht hidle hon hoff
    have hpred : u.fld .pwrPred 0 63 63 = s.fld .pwrPred 0 63 63 := advanceTo_fld
    rw [← hpred]
    refine ⟨fun hstill => hrow.trans (congrArg _ (if_neg ?_)), fun hmoved hpred => hrow.trans (congrArg _ (if_pos ⟨hmoved, hpred⟩))⟩
    rintro ⟨hmoved, hon⟩
    rcases hstill with h | h
    · exact hmoved h
    · exact absurd (h.symm.trans hon) (by decide)
  · intro dom s d hfab hd hexit u l
    exact ⟨domainExit_completes hfab hd hexit, domainOnAgain_on⟩
  · intro dom s hfab hlevel
    exact ⟨_, activityDecay_lowers hfab hlevel, decayed_within.only _ (by intro p; cases p <;> decide), decayed_activity activity_dom, advanceTo_now⟩
  · intro code s hfab
    refine ⟨fun hok hcode => ⟨_, bcaCode_same hfab hok hcode, ?_, rfl⟩, fun h => bcaCode_changes hfab h⟩
    exact updPwr_within.only _ (by intro p; cases p <;> decide)
  · intro watts amps s hfab hw ha
    exact powerFloor_steps hfab hw ha
  · intro s t hfab ht hcls
    exact budgetViolation_reports hfab ht hcls
  · intro temps s hfab v
    have hrow : exec (.thermFloorStep temps) s = .next (thermTaken v) := thermFloor_row hfab
    clear_value v
    intro warn low step
    have hstep (f : Nat) : step f = thermStep f v := rfl
    clear_value step
    rw [hstep, hstep, hstep]
    exact ⟨fun h hnew => hrow.trans (congrArg _ (thermTaken_warns h hnew)), fun h hold => hrow.trans (congrArg _ (thermTaken_warned h hold)),
      fun hlow hwarn => hrow.trans (congrArg _ (thermTaken_holds hlow hwarn)), fun hlow hwarn => hrow.trans (congrArg _ (thermTaken_cools hlow hwarn))⟩
  · intro sensor s hbolt hpwr
    exact thermTrip_trips hbolt hpwr
  · intro rail above s hrail halive
    exact railFault_reports hrail halive
  · intro s halive hfault u
    have hrow : exec .railRestored s = _ := railRestored_row halive hfault
    exact ⟨fun hoff => hrow.trans (congrArg _ (if_neg (by rw [hoff]; decide))), fun hon => hrow.trans (congrArg _ (if_pos hon))⟩

end Sys2Proof.Machine

namespace Sys2Proof.Machine

/-! ### REFCLK (R430, R433, R442, R448) -/

section
variable {s : State}

theorem only_clock {k : Clk} : Only [.clock] s { s with clk := k } := by
  refine ⟨rfl, List.prefix_refl _, fun p hp => ?_⟩
  cases p <;> simp_all [Part.same]

/-- REFCLK's presence outside a held boot. -/
theorem refclkPresent_notes (halive : s.alive = true) (hlost : s.clk.refOk = false) (hrun : s.sys.resetN = false) :
    execRefclkPresent s = .next { s with clk := { s.clk with refOk := true, refAt := s.clk.now } } := by
  unfold execRefclkPresent
  rw [if_neg (by simp [halive, hlost])]
  dsimp only
  rw [if_neg (by simp [hrun])]

theorem refclkPresent_judges (halive : s.alive = true) (hlost : s.clk.refOk = false) (hrst : s.sys.resetN = true) (hrom : s.sys.stage = .rom) :
    execRefclkPresent s
      = .next (monitorsStart false false (setStage .clocks { s with clk := { s.clk with refOk := true, refAt := s.clk.now } })) := by
  unfold execRefclkPresent
  rw [if_neg (by simp [halive, hlost])]
  dsimp only
  rw [if_pos ⟨hrst, hrom⟩]

/-- A state whose REFCLK is lost. -/
def refLost (s : State) : State := { s with clk := { s.clk with refOk := false } }

theorem refclkLost_running (halive : s.alive = true) (hok : s.clk.refOk = true) (hrun : s.running = true) :
    let u := report .clkRefLost 0x01 0 0 (refLost s)
    execClkRefLost s = .next (quiesce { u with clk := { u.clk with refWait := true } }) := by
  intro u
  unfold execClkRefLost
  rw [if_neg (by simp [halive, hok]), ← refLost]
  dsimp only
  rw [if_pos (show (refLost s).running = true from hrun)]

theorem not_running_of_stage {g : Stage} (h : s.sys.stage = g) (hg : g ≠ .run) : ¬ s.running = true := by
  unfold State.running
  simp [h, hg]

/-- The report of a lost REFCLK begins no warm reset. -/
theorem report_refLost_quiesced {source inst addr : Nat} : (report .clkRefLost source inst addr s).sys.quiesced = s.sys.quiesced := by
  unfold report
  extract_lets hi u v w
  have hu : Within 0x2001f02000000000000 s u := hubTake_within
  have hv : v.sys.quiesced = s.sys.quiesced := by
    unfold v
    rw [if_pos (by decide)]
    exact (allEndpoints_within.keeps_sys_quiesced rfl).trans (hu.keeps_sys_quiesced rfl)
  clear_value v
  rw [if_pos (by decide), if_neg (fun h => h.2.2 rfl)]
  exact hv

theorem refclkLost_quiescing (halive : s.alive = true) (hok : s.clk.refOk = true) (hstage : s.sys.stage = .warmQuiesce) (hearly : s.sys.quiesced = false) :
    execClkRefLost s = .next (report .clkRefLost 0x01 0 0 (refLost s)) := by
  have hstop : ¬ (refLost s).running = true := not_running_of_stage (s := refLost s) hstage (by decide)
  have hbusy : ¬ (report .clkRefLost 0x01 0 0 (refLost s)).sys.quiesced = true := by
    rw [report_refLost_quiesced]
    exact fun h => absurd (h.symm.trans hearly) (by decide)
  unfold execClkRefLost
  rw [if_neg (by simp [halive, hok]), ← refLost]
  dsimp only
  rw [if_neg hstop, if_pos (show (refLost s).sys.stage = .warmQuiesce from hstage), if_neg hbusy]

theorem refclkLost_booting (halive : s.alive = true) (hok : s.clk.refOk = true) (hstage : s.sys.stage = .clocks ∨ s.sys.stage = .fwLoad) :
    execClkRefLost s = .next (bootHold (refLost s)) := by
  have hne : ∀ g : Stage, g ≠ .clocks → g ≠ .fwLoad → ¬ (refLost s).sys.stage = g := by
    rintro g hclocks hload rfl
    exact hstage.elim hclocks hload
  have hstop : ¬ (refLost s).running = true := by
    intro h
    exact hne .run (by decide) (by decide) (by simpa [State.running] using (Bool.and_eq_true_iff.1 h).1)
  unfold execClkRefLost
  rw [if_neg (by simp [halive, hok]), ← refLost]
  dsimp only
  rw [if_neg hstop, if_neg (hne _ (by decide) (by decide)), if_neg (hne _ (by decide) (by decide)), if_pos (show (refLost s).sys.stage = .clocks ∨ (refLost s).sys.stage = .fwLoad from hstage)]

theorem refclkReturn_row (halive : s.alive = true) (hwait : s.clk.refWait = true) (hok : s.clk.refOk = true) (hquiet : s.sys.quiesced = true) :
    execRefclkReturn s = .next (refReturned (s.clk.refAt + ms 1) s) := by
  unfold execRefclkReturn
  rw [if_neg (by simp [halive, hwait, hok, hquiet])]

theorem refReturned_reads {t : Nat} : (refReturned t s).clk.refWait = false ∧ (refReturned t s).sys.resetCause = 5
    ∧ (refReturned t s).sys.warmCount = (s.sys.warmCount + 1) % 2 ^ 32 ∧ (refReturned t s).sys.silenced = false
    ∧ (refReturned t s).clk.now = max s.clk.now t := ⟨rfl, rfl, rfl, rfl, advanceTo_now⟩

/-! ### Clocks (R378, R431, R432, R448) -/

variable {c : Nat} {ppm : Int}

theorem clockOf_of_monitored (h : monitored c = true) : clockOf c s = (c, s) := pickOf_of_ok h

/-- A monitor's clock once its two windows have passed. -/
def judged (c g : Nat) (ppm : Int) (v : State) : State := setMonitor { src := c, state := g, ppm := ppm, since := v.clk.now } v

theorem setMonitor_monitor {m : Monitor} : (setMonitor m s).monitor m.src = m := by
  have hlist : (setMonitor m s).clk.monitors = m :: s.clk.monitors.filter (fun x => x.src ≠ m.src) := rfl
  rw [State.monitor, hlist, List.find?_cons_of_pos (by simp)]
  rfl

theorem clockJudgedGood_row (hc : monitored c = true) (halive : s.alive = true) (hok : s.clk.refOk = true) (hstate : (s.monitor c).state = 1)
    (hnear : ppm.natAbs ≤ s.windowPpm) (hstage : s.sys.stage ≠ .clocks) :
    let u := judged c 2 ppm (s.advanceTo ((s.monitor c).since + 2 * s.measWindow))
    execClockJudgedGood c ppm s = .next (whenFab (fun s => (s.pllLanes c).foldl (fun s l => laneStart l s) s) u) := by
  intro u
  have hstay : ∀ first b, (if u.sys.stage = .clocks ∧ dieClock c ∧ (List.range 7).all (fun i => u.clockGood (2 + i)) then bootLoad first b u else u) = u :=
    fun _ _ => if_neg (fun h => hstage h.1)
  unfold execClockJudgedGood
  rw [clockOf_of_monitored hc]
  dsimp only
  rw [if_neg (by simp [halive, hok, hstate, hnear])]
  refine congrArg (fun x => Host.Outcome.next (whenFab _ x)) ?_
  split
  · exact hstay _ _
  · rfl

theorem clockOutOfWindow_fails (hc : monitored c = true) (halive : s.alive = true) (hok : s.clk.refOk = true) (hfar : s.windowPpm < ppm.natAbs)
    (hstate : (s.monitor c).state = 2) :
    execClkOutOfWindow c ppm s = .next (clockFailed c ppm (s.advanceTo ((s.monitor c).since + 2 * s.measWindow))) := by
  unfold execClkOutOfWindow
  rw [clockOf_of_monitored hc]
  dsimp only
  rw [if_neg (by simp [halive, hok]; omega), if_neg (by simp [hstate]), if_neg (not_not_intro hstate)]

theorem clockOutOfWindow_boot (hc : monitored c = true) (halive : s.alive = true) (hok : s.clk.refOk = true) (hfar : s.windowPpm < ppm.natAbs)
    (hstate : (s.monitor c).state = 1) (hstage : s.sys.stage = .clocks) (hdie : c < 9) :
    execClkOutOfWindow c ppm s = .next (bootError 0x02 (setMonitor { s.monitor c with state := 3, ppm := ppm }
      (s.advanceTo ((s.monitor c).since + 2 * s.measWindow)))) := by
  have hdie : dieClock c = true := by
    simp only [monitored, dieClock, Bool.or_eq_true, Bool.and_eq_true, decide_eq_true_eq] at hc ⊢
    omega
  unfold execClkOutOfWindow
  rw [clockOf_of_monitored hc]
  dsimp only
  rw [if_neg (by simp [halive, hok]; omega), if_pos ⟨hstate, hstage, hdie⟩]

/-- A PLL of lanes that fails behind a failure latched before takes its lanes down and is reported. -/
theorem clockFailed_pll (hfab : s.fabRunning = true) (hpll : c < 0x50) (hlatched : bit (s.raw .clkStatus 0 0) 62 = true) :
    clockFailed c ppm s = report .clkOutOfWindow 0x01 0 (c + at_ 16 ((ppm % 2 ^ 24).toNat))
      (((judged c 3 ppm s).pllLanes c).foldl (fun s l => pllLost l s) (judged c 3 ppm s)) := by
  have hl : bit ((judged c 3 ppm s).raw .clkStatus 0 0) 62 = true := hlatched
  have hf : (judged c 3 ppm s).fabRunning = true := hfab
  unfold clockFailed
  rw [← judged]
  dsimp only
  rw [if_pos hl, whenFab, if_pos hf, if_neg (by omega)]

/-! ### Device time (R436-R439) -/

/-- The end of a period of exchange, before the next request. -/
def periodEnded (s : State) : State :=
  updClk (fun c => { c with exchAt := c.now, missed := if c.waiting || !s.parentUp then c.missed + 1 else c.missed, waiting := false }) s

theorem periodEnded_counts {n : Nat} (h : (if s.clk.waiting || !s.parentUp then s.clk.missed + 1 else s.clk.missed) = n) :
    periodEnded s = { s with clk := { s.clk with exchAt := s.clk.now, missed := n, waiting := false } } :=
  congrArg (fun n => { s with clk := { s.clk with exchAt := s.clk.now, missed := n, waiting := false } }) h

theorem timeExchange_asks (hfab : s.fabRunning = true) (hrole : s.timeRole = 2) (hup : s.parentUp = true) :
    let u := s.advanceTo (s.clk.exchAt + us s.timePeriod)
    let q := (s.clk.seq + 1) % 2 ^ 32
    execTimeExchangePeriod s = .next (sendTime s.timeParent (timeWords 1 0 q u.dtimeNs 0 0 false)
      { u with clk := { u.clk with
        exchAt := u.clk.now, missed := if s.clk.waiting then s.clk.missed + 1 else s.clk.missed, seq := q, reqAt := u.dtimeNs, waiting := true } }) := by
  intro u q
  have hu : u.parentUp = true := hup
  have hask : (periodEnded u).parentUp = true := hup
  have hended : updClk (fun c => { c with seq := q, reqAt := u.dtimeNs, waiting := true }) (periodEnded u) = { u with clk := { u.clk with
      exchAt := u.clk.now, missed := if s.clk.waiting then s.clk.missed + 1 else s.clk.missed, seq := q, reqAt := u.dtimeNs, waiting := true } } := by
    rw [periodEnded_counts (n := if s.clk.waiting then s.clk.missed + 1 else s.clk.missed) (by rw [hu, Bool.not_true, Bool.or_false]; rfl)]
    rfl
  unfold execTimeExchangePeriod
  rw [whenFab_of_running hfab, ← hended]
  dsimp only
  rw [if_neg (not_not_intro hrole)]
  exact congrArg _ (if_neg (by rw [← periodEnded, hask]; decide))

theorem timeExchange_misses (hfab : s.fabRunning = true) (hrole : s.timeRole = 2) (hdown : s.parentUp = false) :
    let u := s.advanceTo (s.clk.exchAt + us s.timePeriod)
    execTimeExchangePeriod s = .next { u with clk := { u.clk with exchAt := u.clk.now, missed := s.clk.missed + 1, waiting := false } } := by
  intro u
  have hu : u.parentUp = false := hdown
  have hask : (periodEnded u).parentUp = false := hdown
  have hended : periodEnded u = { u with clk := { u.clk with exchAt := u.clk.now, missed := s.clk.missed + 1, waiting := false } } := by
    exact periodEnded_counts (by rw [hu, Bool.not_false, Bool.or_true]; rfl)
  unfold execTimeExchangePeriod
  rw [whenFab_of_running hfab, ← hended]
  dsimp only
  rw [if_neg (not_not_intro hrole)]
  exact congrArg _ (if_pos (by rw [← periodEnded, hask]; decide))

theorem delayReq_answered {n seq ta : Nat} (hn : n < 128) (hfab : s.fabRunning = true) (hup : (s.port n).state = .up) (heth : s.ethPort n = false) :
    execDelayReqReceive n seq ta s = .next (sendTime n (timeWords 2 s.clk.stratum seq ta s.dtimeNs s.dtimeNs
      (decide (s.timeRole = 1) || (decide (s.timeRole = 2) && decide (s.clk.tState = 2)))) s) := by
  unfold execDelayReqReceive
  rw [onInstance_of_lt hn, whenFab_of_running hfab]
  rw [if_neg (by simp [hup, heth])]

theorem delayResp_taken {ta tb tc stratum : Nat} {locked : Bool} (hfab : s.fabRunning = true) (hrole : s.timeRole = 2) (hparent : s.timeParent < 128)
    (hwait : s.clk.waiting = true) :
    let off := (timeDiff tb ta - timeDiff s.dtimeNs tc) / 2
    execDelayRespReceive s.timeParent s.clk.seq ta tb tc stratum locked s = .next (timeAnswer off (locked && decide (stratum < 15))
      { s with clk := { s.clk with
        waiting := false, missed := 0, delay := (timeDiff s.dtimeNs ta - timeDiff tc tb) / 2, offset := off, stratum := min 15 (stratum + 1) } }) := by
  intro off
  unfold execDelayRespReceive
  rw [onInstance_of_lt hparent, whenFab_of_running hfab]
  rw [if_neg (by simp [hrole, hwait])]
  rfl

theorem timeHoldover_row (hfab : s.fabRunning = true) (hrole : s.timeRole = 2) (hlocked : s.clk.tState = 2) (hlost : 8 ≤ s.clk.missed ∨ s.parentUp = false) :
    execTimeHoldover s = .next (updClk (fun c => { c with tState := 3, runLength := 0 }) s) := by
  unfold execTimeHoldover
  rw [whenFab_of_running hfab]
  rw [if_pos ⟨hrole, hlocked, by simpa using hlost⟩]

/-- A write of CLK_DTIME_SET sets DTIME, but at a follower. -/
theorem writeReg_dtimeSet {mid : Nat} {v : Word} (hr : s.regsRising = true) :
    Only [.regs, .clock] s (writeReg ⟨.clkDtimeSet, 0, 0⟩ mid (2 ^ 64 - 1) v.toNat s)
      ∧ (writeReg ⟨.clkDtimeSet, 0, 0⟩ mid (2 ^ 64 - 1) v.toNat s).clk = if s.timeRole = 2 then s.clk else { s.clk with dtime := v.toNat * 65536 } := by
  have hwrite : writeReg ⟨.clkDtimeSet, 0, 0⟩ mid (2 ^ 64 - 1) v.toNat s
      = dtimeSet v.toNat (s.setReg .clkDtimeSet 0 0 (writtenValue ⟨.clkDtimeSet, 0, 0⟩ v.toNat s)) := rfl
  rw [hwrite]
  generalize writtenValue ⟨.clkDtimeSet, 0, 0⟩ v.toNat s = w
  have hrole : (s.setReg .clkDtimeSet 0 0 w).timeRole = s.timeRole := by
    unfold State.timeRole State.fld
    rw [raw_setReg_other hr (by decide)]
  constructor
  · have hset : Within (Nat.lor Part.regs.mask 0x20) s (dtimeSet v.toNat (s.setReg .clkDtimeSet 0 0 w)) :=
      dtimeSet_within.app rfl (State.setReg_within.weaken rfl)
    exact hset.only _ (by intro p; cases p <;> decide)
  · unfold dtimeSet
    rw [hrole, Nat.mod_eq_of_lt v.isLt]
    split <;> rfl

end

/-- Settles O58: each row by the branch that its premises name. -/
theorem clocksAndTimeAreKept : Obligations.ClocksAndTimeAreKept := by
  unfold Obligations.ClocksAndTimeAreKept
  refine ⟨?_, ?_, ?_, ?_, ?_, ?_, ?_, ?_, ?_, ?_, ?_⟩
  · intro s halive hlost hrun
    refine ⟨_, refclkPresent_notes halive hlost hrun, only_clock, rfl⟩
  · intro s halive hlost hrst hrom
    exact refclkPresent_judges halive hlost hrst hrom
  · intro s halive hok l u
    exact ⟨refclkLost_running halive hok, refclkLost_quiescing halive hok, refclkLost_booting halive hok⟩
  · intro s halive hwait hok hquiet
    exact ⟨_, refclkReturn_row halive hwait hok hquiet, refReturned_within.only _ (by intro p; cases p <;> decide), refReturned_reads⟩
  · intro c ppm s hc halive hok hstate hnear hstage v u
    have hrow : exec (.clockJudgedGood c ppm) s = _ := clockJudgedGood_row hc halive hok hstate hnear hstage
    refine ⟨fun hfab => hrow.trans (congrArg _ (if_pos hfab)), fun hfab => ⟨hrow.trans (congrArg _ (if_neg ?_)), only_clock, ?_⟩⟩
    · exact fun h => absurd (h.symm.trans hfab) (by decide)
    · exact congrArg Monitor.state (setMonitor_monitor (m := { src := c, state := 2, ppm := ppm, since := v.clk.now }))
  · intro c ppm s hc halive hok hfar v
    refine ⟨fun hstate => ?_, fun hstate hstage hdie => clockOutOfWindow_boot hc halive hok hfar hstate hstage hdie⟩
    have hrow : exec (.clkOutOfWindow c ppm) s = _ := clockOutOfWindow_fails hc halive hok hfar hstate
    refine ⟨hrow, fun hfab hpll hlatched => ?_⟩
    exact hrow.trans (congrArg _ (clockFailed_pll (s := v) hfab hpll hlatched))
  · intro s hfab hrole u q
    refine ⟨timeExchange_asks hfab hrole, fun hdown => ⟨_, timeExchange_misses hfab hrole hdown, only_clock, rfl⟩⟩
  · intro n seq ta s hn hfab hup heth
    exact delayReq_answered hn hfab hup heth
  · intro ta tb tc stratum locked s hfab hrole hparent hwait
    exact delayResp_taken hfab hrole hparent hwait
  · intro s hfab hrole hlocked hlost
    refine ⟨_, timeHoldover_row hfab hrole hlocked hlost, only_clock, rfl⟩
  · intro p v s hw hr
    have htime : Located ⟨.clkDtimeSet, 0, 0⟩ := located_single rfl (by decide) rfl rfl
    obtain ⟨hframe, hclk⟩ := writeReg_dtimeSet (mid := 256 * p) (v := v) hr
    exact ⟨_, (writeOf_served htime hw).trans rfl, hframe, hclk⟩

end Sys2Proof.Machine

namespace Sys2Proof.Machine

section
variable {s : State} {code ch : Nat}

/-! ### Engines that hang (R514, R517-R519) -/

/-- An engine that hangs is reported and, where it may be, retired. -/
def watchdogServed (code : Nat) (u : State) : State :=
  if code < 0x60 then if u.fld .fltSvcCtrl 0 63 63 = 1 ∧ u.retiredMpes < 4 then retireMpe code u else u
  else if u.activeClusters ≤ 1 then u else retireCluster (code - 0x60) u

theorem watchdog_row (hcode : code < 0x68) (hup : s.epUp = true) (hbusy : s.engineWorks code = true) :
    execEngineWatchdogExpiry code s
      = .next (settle (watchdogServed code (report .engHang 0x10 code 0 (s.advance (us (atLeast1 (s.fld .fltSvcCtrl 0 15 0))))))) := by
  unfold execEngineWatchdogExpiry
  rw [onInstance_of_lt hcode, epStep_of_up hup, if_neg (by simp [hbusy])]
  rfl

variable {u : State}

theorem watchdogServed_mpe (hmpe : code < 0x60) (hauto : u.fld .fltSvcCtrl 0 63 63 = 1) (hfew : u.retiredMpes < 4) :
    watchdogServed code u = retireMpe code u := (if_pos hmpe).trans (if_pos ⟨hauto, hfew⟩)

theorem watchdogServed_mpeStays (hmpe : code < 0x60) (h : u.fld .fltSvcCtrl 0 63 63 ≠ 1 ∨ 4 ≤ u.retiredMpes) : watchdogServed code u = u := by
  refine (if_pos hmpe).trans (if_neg ?_)
  rintro ⟨hauto, hfew⟩
  rcases h with h | h
  · exact h hauto
  · omega

theorem watchdogServed_cluster (hchorus : 0x60 ≤ code) (hmore : 1 < u.activeClusters) : watchdogServed code u = retireCluster (code - 0x60) u :=
  (if_neg (by omega)).trans (if_neg (by omega))

theorem watchdogServed_clusterStays (hchorus : 0x60 ≤ code) (hlast : u.activeClusters ≤ 1) : watchdogServed code u = u :=
  (if_neg (by omega)).trans (if_pos hlast)

theorem mgcHang_one {n : Nat} (hrun : s.running = true) (hn : n < 4) : execMgcHang n s = .next (coreHangs n s) := by
  unfold execMgcHang
  rw [onInstance_of_lt (by omega), whenRunning_of_running hrun, if_pos hn]

theorem mgcHang_all (hrun : s.running = true) :
    let u := haltEp ((List.range 4).foldl (fun s i => report .engHang 0x10 (0x68 + i) 0 s) s)
    execMgcHang 4 s = .next (if u.fld .sysCtrl 0 2 2 = 1 then beginWarm 4 u else u) := by
  intro u
  unfold execMgcHang
  rw [onInstance_of_lt (by decide), whenRunning_of_running hrun, if_neg (by decide)]

/-! ### Memory that fails (R507, R521-R525) -/

theorem memAutoRetire_row {dead : Bool} (hch : ch < 32) (hrun : s.running = true) :
    let u := report .memEccCorrected 0x16 ch (s.drawNat.1 % (24 * 2 ^ 30) + at_ 35 (b1 dead)) s.drawNat.2
    execMemAutoRetire ch dead s = .next (if u.fld .fltSvcCtrl 0 62 62 = 1 ∧ u.retireIdle ch ∧ u.retireFits then startRetire ch true u else u) := by
  intro u
  unfold execMemAutoRetire
  rw [onInstance_of_lt hch, whenRunning_of_running hrun]

theorem startRetire_mem {auto : Bool} (hch : ch < 32) :
    (startRetire ch auto s).mem = { s.mem with migrating := some (ch, auto), remaining := pairLines } := by
  unfold startRetire
  rw [Nat.mod_eq_of_lt hch]

theorem memMigrationComplete_row {auto : Bool} (hrun : s.running = true) (hmig : s.mem.migrating = some (ch, auto)) :
    execMemMigrationComplete s = .next (completeWhere (fun b => b.opcode == 0x3E) csOk 0 0 0 (report .memChannelRetired 0x16 ch (b1 auto)
      { s with mem := { s.mem with migrating := none, remaining := 0, retiredPairs := ch / 2 :: s.mem.retiredPairs } })) := by
  unfold execMemMigrationComplete
  rw [whenRunning_of_running hrun, hmig]

/-- What a memory test that ended leaves in FLT_MEMTEST. -/
def memtestRead (retire f r : Nat) (s : State) : State :=
  let u := { s with mem := { s.mem with testing := none } }
  u.setReg .fltMemtest 0 0 (at_ 62 1 + at_ 61 retire + at_ 32 (s.fld .fltMemtest 0 36 32) + at_ 16 r + f)

theorem memtestDone_row {failed repaired : Nat} (hrun : s.running = true) (htest : s.mem.testing = some ch) :
    let f := failed % 65536
    let r := min f repaired
    let u := { s with mem := { s.mem with testing := none } }
    let retire := decide (r < f) && u.retireIdle ch && u.retireFits
    execMemtestDone failed repaired s = .next (if retire then startRetire ch true (memtestRead (b1 retire) f r s) else memtestRead (b1 retire) f r s) := by
  intro f r u retire
  unfold execMemtestDone
  rw [whenRunning_of_running hrun, htest]
  rfl

theorem memtestDone_repaired {failed repaired : Nat} (hrun : s.running = true) (htest : s.mem.testing = some ch)
    (hall : min (failed % 65536) repaired = failed % 65536) :
    execMemtestDone failed repaired s = .next (memtestRead 0 (failed % 65536) (min (failed % 65536) repaired) s) := by
  rw [memtestDone_row hrun htest]
  dsimp only
  rw [decide_eq_false (Nat.not_lt.2 hall.ge), Bool.false_and, Bool.false_and, if_neg Bool.false_ne_true]
  rfl

theorem memtestDone_retires {failed repaired : Nat} (hrun : s.running = true) (htest : s.mem.testing = some ch)
    (hmore : min (failed % 65536) repaired < failed % 65536)
    (hidle : ({ s with mem := { s.mem with testing := none } } : State).retireIdle ch = true)
    (hfits : ({ s with mem := { s.mem with testing := none } } : State).retireFits = true) :
    execMemtestDone failed repaired s = .next (startRetire ch true (memtestRead 1 (failed % 65536) (min (failed % 65536) repaired) s)) := by
  rw [memtestDone_row hrun htest]
  dsimp only
  rw [decide_eq_true hmore, hidle, hfits, Bool.and_self, Bool.and_self, if_pos rfl]
  rfl

/-- The cells that a rotation newly loses. -/
def cellsLost (i : Nat) (cells : List Nat) (s : State) : State :=
  let lost := ((cells.filter (fun c => decide (c < 131072))).map (fun c => (i, c))).filter (fun x => !decide (x ∈ s.mem.lostCells))
  { s with mem := { s.mem with lostCells := lost.eraseDups ++ s.mem.lostCells } }

theorem sramRotation_row {b i k : Nat} {rows : List (Nat × Bool)} {cells : List Nat} (hb : b < 0x17) (hfab : s.fabRunning = true) :
    execSramBistRotation b i k rows cells s = .next (if b = 0x13 ∧ i < 8 ∧ rows.any (fun r => !r.2) then cellsLost i cells (rows.foldl (sramRow b i k) s)
      else rows.foldl (sramRow b i k) s) := by
  unfold execSramBistRotation
  rw [onInstance_of_lt hb, whenFab_of_running hfab]
  rfl

theorem cellsLost_lists {i c : Nat} {cells : List Nat} (hc : c ∈ cells) (hlt : c < 131072) : (i, c) ∈ (cellsLost i cells s).mem.lostCells := by
  have hcand : (i, c) ∈ (cells.filter (fun c => decide (c < 131072))).map (fun c => (i, c)) :=
    List.mem_map.2 ⟨c, List.mem_filter.2 ⟨hc, decide_eq_true hlt⟩, rfl⟩
  refine List.mem_append.2 ?_
  by_cases hold : (i, c) ∈ s.mem.lostCells
  · exact .inr hold
  · exact .inl (List.mem_eraseDups.2 (List.mem_filter.2 ⟨hcand, by simp [hold]⟩))

/-! ### Dumps (R530, R531) -/

/-- The record of a snapshot that is due at a time of the device. -/
def snapshotTaken (s : State) : State :=
  let p := s.dumpPeriod
  let next := (s.dump.lastT / p + 1) * p
  let u := if s.dtimeNs < next then s.advanceDtime next else s
  let t := u.dtimeNs / p * p
  snapshot t (dumpSkip ((t - next) / p) { u with dump := { u.dump with lastT := t } })

theorem dumpSkip_writing {n : Nat} : (dumpSkip n s).dump.writing = s.dump.writing := by
  unfold dumpSkip
  rfl

theorem advanceDtime_dump {t : Nat} : (s.advanceDtime t).dump = s.dump := by
  unfold State.advanceDtime
  extract_lets need rate
  clear_value need rate
  split
  · rfl
  · exact advance_dump

theorem counterSnapshot_row (hrun : s.running = true) (hon : s.fld .cntDumpBase 0 63 63 = 1) (hfree : s.dump.writing = none) :
    execCounterSnapshot s = .next (snapshotTaken s) := by
  unfold execCounterSnapshot
  rw [whenRunning_of_running hrun, if_neg (by rw [hon]; decide)]
  unfold snapshotTaken
  extract_lets p next u t
  have hu : u.dump.writing = none := by
    unfold u
    split
    · rw [advanceDtime_dump, hfree]
    · exact hfree
  clear_value u t next
  exact congrArg _ (if_neg (by rw [dumpSkip_writing, hu]; decide))

theorem dumpWriteComplete_row {h a : Nat} (hrun : s.running = true) (hw : s.dump.writing = some (h, a)) :
    let u := s.emit (.record h 0x8A0 a [word (at_ 32 0x434E5431 + s.dump.nextSeq)] false)
    let v := { u with dump := { u.dump with writing := none, carried := 0, nextSeq := (u.dump.nextSeq + 1) % 2 ^ 32 } }
    execDumpWriteComplete s = .next (if s.fld .cntDumpPeriod 0 63 63 = 1 then pfMsix h (s.fld .cntDumpPeriod 0 43 32) v else v) := by
  intro u v
  unfold execDumpWriteComplete
  rw [whenRunning_of_running hrun, hw]
  have hfld (hi lo : Nat) : v.fld .cntDumpPeriod 0 hi lo = s.fld .cntDumpPeriod 0 hi lo :=
    congrArg (bits · hi lo) (raw_congr rfl (State.emit_within.keeps_regs rfl))
  rw [← hfld, ← hfld]

/-! ### Samples and telemetry (R535, R537) -/

/-- What the crossing of a sampled engine's counter does. -/
def crossed (code : Nat) (s : State) : State :=
  if s.dump.pendingCap.any (fun x => x.1 = code) then sampleLost s
  else if s.engineWorks code then { s with dump := { s.dump with pendingCap := s.dump.pendingCap ++ [(code, s.dtimeNs)] } }
  else sampleWrite code 0 s.dtimeNs s

theorem sampleCrossing_row (hcode : code < 0x68) (hrun : s.running = true) (hsampled : s.sampled code = true)
    (hawake : s.sleeps (if code < 0x60 then engineDomain (code / 4) else chorusDomain (code - 0x60)) = false) :
    execSampleCrossing code s = .next (crossed code s) := by
  unfold execSampleCrossing
  rw [onInstance_of_lt hcode, whenRunning_of_running hrun, if_neg (by rw [hsampled, hawake]; decide)]
  rfl

theorem crossed_lost {t : Nat} (h : (code, t) ∈ s.dump.pendingCap) : crossed code s = sampleLost s :=
  if_pos (List.any_eq_true.2 ⟨_, h, decide_eq_true rfl⟩)

theorem not_pending (h : ∀ t, (code, t) ∉ s.dump.pendingCap) : ¬ s.dump.pendingCap.any (fun x => x.1 = code) = true := by
  intro hany
  obtain ⟨⟨c, t⟩, hmem, hc⟩ := List.any_eq_true.1 hany
  obtain rfl : c = code := of_decide_eq_true hc
  exact h t hmem

theorem only_dump {d : Dump} : Only [.dump] s { s with dump := d } := by
  refine ⟨rfl, List.prefix_refl _, fun p hp => ?_⟩
  cases p <;> simp_all [Part.same]

theorem sampleCapture_row {obj t : Nat} (hcode : code < 0x68) (hrun : s.running = true)
    (hpend : s.dump.pendingCap.find? (fun x => x.1 = code) = some (code, t)) :
    let u := { s with dump := { s.dump with pendingCap := s.dump.pendingCap.filter (fun x => x.1 ≠ code) } }
    execSampleCapture code obj s = .next (if u.sampled code then sampleWrite code (u.sampleSubject code obj) t u else u) := by
  intro u
  unfold execSampleCapture
  rw [onInstance_of_lt hcode, whenRunning_of_running hrun, hpend]

theorem telemetry_off {ep src : Nat} {ws : List Word} (hep : ep < 8) (hrun : s.running = true) (hoff : s.fld .cntTelemRx ep 63 63 = 0) :
    execTelemetryArrival ep src ws s = .next (settle (s.count 4 1)) := by
  unfold execTelemetryArrival
  rw [onInstance_of_lt hep, trnStep_of_running hrun, if_pos hoff]

theorem telemetry_on {ep src : Nat} {ws : List Word} {taken : Bool} (hep : ep < 8) (hrun : s.running = true) (hon : s.fld .cntTelemRx ep 63 63 ≠ 0)
    (hin : frameIn (s.fld .cntTelemRx ep 19 0) 0 (src % 2 ^ 27) (ws.flatMap (fun w => toBytes 8 w.toNat)) s = (taken, u)) :
    execTelemetryArrival ep src ws s = .next (settle (if taken then u else u.count 4 1)) := by
  unfold execTelemetryArrival
  rw [onInstance_of_lt hep, trnStep_of_running hrun, if_neg hon, hin]
  cases taken <;> rfl

end

/-- Settles O60: each row by the branch that its premises name. -/
theorem serviceAndTelemetryAct : Obligations.ServiceAndTelemetryAct := by
  unfold Obligations.ServiceAndTelemetryAct
  refine ⟨?_, ?_, ?_, ?_, ?_, ?_, ?_, ?_, ?_, ?_, ?_⟩
  · intro code s hcode hup hbusy u
    have hrow : exec (.engineWatchdogExpiry code) s = .next (settle (watchdogServed code u)) := watchdog_row hcode hup hbusy
    clear_value u
    rw [hrow]
    exact ⟨fun hmpe hauto hfew => by rw [watchdogServed_mpe hmpe hauto hfew], fun hmpe h => by rw [watchdogServed_mpeStays hmpe h],
      fun hchorus hmore => by rw [watchdogServed_cluster hchorus hmore], fun hchorus hlast => by rw [watchdogServed_clusterStays hchorus hlast]⟩
  · intro n s hrun
    refine ⟨mgcHang_one hrun, ?_⟩
    intro u
    have hrow : exec (.mgcHang 4) s = _ := mgcHang_all hrun
    exact ⟨fun hauto => hrow.trans (congrArg _ (if_pos hauto)), fun hoff => hrow.trans (congrArg _ (if_neg hoff))⟩
  · intro ch dead s hch hrun u
    have hrow : exec (.memAutoRetire ch dead) s = .next (if u.fld .fltSvcCtrl 0 62 62 = 1 ∧ u.retireIdle ch ∧ u.retireFits then startRetire ch true u else u) :=
      memAutoRetire_row hch hrun
    clear_value u
    refine ⟨fun hauto hidle hfits => ⟨_, hrow.trans (congrArg _ (if_pos ⟨hauto, hidle, hfits⟩)), rfl, startRetire_mem hch⟩, fun h => hrow.trans (congrArg _ (if_neg ?_))⟩
    rintro ⟨hauto, hidle, hfits⟩
    simp [hauto, hidle, hfits] at h
  · intro s ch auto hrun hmig
    exact memMigrationComplete_row hrun hmig
  · intro failed repaired s ch hrun htest f r u
    exact ⟨memtestDone_repaired hrun htest, memtestDone_retires hrun htest⟩
  · intro b i k rows cells s hb hfab h
    refine (sramRotation_row hb hfab).trans (congrArg _ (if_neg ?_))
    rintro ⟨hcell, hi, hbad⟩
    obtain ⟨r, hr, hfail⟩ := List.any_eq_true.1 hbad
    rcases h with h | h | h
    · exact h hcell
    · omega
    · simp [h r hr] at hfail
  · intro i k rows cells s hi hfab ⟨r, hr, hfail⟩
    have hbad : rows.any (fun r => !r.2) = true := List.any_eq_true.2 ⟨r, hr, by rw [hfail]; rfl⟩
    exact ⟨_, (sramRotation_row (by decide) hfab).trans (congrArg _ (if_pos ⟨rfl, hi, hbad⟩)), fun c hc hlt => cellsLost_lists hc hlt⟩
  · intro s hrun hon hfree
    exact counterSnapshot_row hrun hon hfree
  · intro s h a hrun hw
    exact dumpWriteComplete_row hrun hw
  · intro code s hcode hrun
    refine ⟨fun hsampled hawake => ?_, fun obj t hpend => ?_⟩
    · have hrow : exec (.sampleCrossing code) s = .next (crossed code s) := sampleCrossing_row hcode hrun hsampled hawake
      rw [hrow]
      refine ⟨fun ⟨t, ht⟩ => by rw [crossed_lost ht], fun hnone => ⟨fun hbusy => ⟨_, congrArg _ ((if_neg (not_pending hnone)).trans (if_pos hbusy)), only_dump, rfl⟩, fun hidle => ?_⟩⟩
      exact congrArg _ ((if_neg (not_pending hnone)).trans (if_neg (by rw [hidle]; decide)))
    · intro u
      have hrow : exec (.sampleCapture code obj) s = _ := sampleCapture_row hcode hrun hpend
      exact ⟨fun hstill => hrow.trans (congrArg _ (if_pos hstill)), fun hgone => hrow.trans (congrArg _ (if_neg (fun h => absurd (h.symm.trans hgone) (by decide))))⟩
  · intro ep src ws s hep hrun
    refine ⟨telemetry_off hep hrun, fun hon => ⟨fun u hin => ?_, fun u hin => ?_⟩⟩
    · exact (telemetry_on hep hrun hon hin).trans rfl
    · exact (telemetry_on hep hrun hon hin).trans rfl

end Sys2Proof.Machine

namespace Sys2Proof.Machine

/-! ### What a change of one lane leaves of the others (R371) -/

/-- A lane stays in its state, and keeps the lock that it has. -/
structure LaneStays (l : Nat) (s t : State) : Prop where
  state : (t.lane l).state = (s.lane l).state
  locked : (s.lane l).locked = true → (t.lane l).locked = true

section
variable {s t u : State} {l m n : Nat} {f : Lane → Lane}

theorem LaneStays.of_lanes (h : t.fab.lanes = s.fab.lanes) : LaneStays l s t := by
  have hlane := lane_of_lanes h l
  exact ⟨congrArg Lane.state hlane, fun hlock => by rwa [hlane]⟩

theorem LaneStays.trans (h : LaneStays l s t) (k : LaneStays l t u) : LaneStays l s u :=
  ⟨k.state.trans h.state, fun hlock => k.locked (h.locked hlock)⟩

/-- What touches no lane. -/
theorem Within.laneStays {k : Nat} (h : Within k s t) (hk : k.testBit 172 = false) : LaneStays l s t := .of_lanes (h.keeps_fab_lanes hk)

theorem LaneStays.other (hf : ∀ x, (f x).num = x.num) (h : m ≠ l) : LaneStays m s (updLane l f s) := by
  have hlane := lane_updLane_other (s := s) hf h
  exact ⟨congrArg Lane.state hlane, fun hlock => by rwa [hlane]⟩

/-- An update that leaves the state and the lock of its lane. -/
theorem LaneStays.upd (hf : ∀ x, (f x).num = x.num) (hstate : ∀ x, (f x).state = x.state) (hlocked : ∀ x, x.locked = true → (f x).locked = true) :
    LaneStays m s (updLane l f s) := by
  by_cases h : m = l
  · subst h
    have hlane := lane_updLane_same (s := s) (l := m) hf
    exact ⟨(congrArg Lane.state hlane).trans (hstate _), fun hlock => (congrArg Lane.locked hlane).trans (hlocked _ hlock)⟩
  · exact .other hf h

theorem LaneStays.foldl {α : Type} {g : State → α → State} {p : State → Prop} {xs : List α}
    (hg : ∀ x ∈ xs, ∀ u, p u → LaneStays l u (g u x)) (hp : ∀ u v, p u → LaneStays l u v → p v) (hs : p s) : LaneStays l s (xs.foldl g s) := by
  induction xs generalizing s with
  | nil => exact ⟨rfl, id⟩
  | cons x xs ih =>
    have hx := hg x (List.mem_cons_self ..) s hs
    exact hx.trans (ih (fun y hy => hg y (List.mem_cons_of_mem _ hy)) (hp _ _ hs hx))

/-- The end of a domain's lanes takes their coefficients alone. -/
theorem laneDomainOff_lane : ∃ c, (laneDomainOff n s).lane m = { s.lane m with coef := c } := by
  have hgone (ls : List Lane) : ∃ c, ((updAll (fun x : Lane => x.num / 32 = n) (fun x => { x with coef := false }) ls).find? (fun x => x.num = m)).getD (Lane.reset m)
      = { (ls.find? (fun x => x.num = m)).getD (Lane.reset m) with coef := c } := by
    induction ls with
    | nil => exact ⟨_, rfl⟩
    | cons x ls ih =>
      rw [updAll]
      by_cases hx : x.num = m
      · subst hx
        by_cases hd : x.num / 32 = n
        · exact ⟨false, by simp [hd]⟩
        · exact ⟨x.coef, by simp [hd]⟩
      · by_cases hd : x.num / 32 = n
        · simpa [hd, hx] using ih
        · simpa [hd, hx] using ih
  unfold laneDomainOff
  split
  · obtain ⟨c, hc⟩ := hgone (leaveOn n .off none s).fab.lanes
    refine ⟨c, hc.trans ?_⟩
    rw [leaveOn_within.keeps_fab_lanes rfl]
    rfl
  · exact ⟨_, rfl⟩

/-- What a change that leaves the active and the shadow set makes of a configuration register. -/
theorem Within.keeps_raw {k i j : Nat} {r : Reg} (h : Within k s t) (hk : sub k 0xfffffffffffffffffffffdfffffffff3fffffffffbff = true)
    (hcs : r.info.cs = true) : t.raw r i j = s.raw r i j := by
  have h' := h.weaken hk
  unfold State.raw State.bank
  rw [hcs, if_pos rfl, if_pos rfl, h'.keeps_bank0 rfl, h'.keeps_bank1 rfl, h'.keeps_cmd_bank rfl]

/-- A lane's PLL, and whether it is judged good, are no matter of lanes, ports, leave or test registers. -/
theorem Within.keeps_pll {k : Nat} (h : Within k s t) (hk : sub k 0xfffffffffffffffffffffdfffffffff3fffffffffbff = true) :
    t.clockGood (t.lanePll l) = s.clockGood (s.lanePll l) := by
  unfold State.clockGood State.lanePll State.mode
  rw [h.keeps_raw hk rfl, (h.weaken hk).keeps_clk_monitors rfl]

/-! #### Lanes that acquire, stop, or leave a port -/

theorem toFull_stays (h : m ≠ l) : LaneStays m s (toFull l s) := by
  unfold toFull askFull
  exact (LaneStays.other (by exact fun _ => rfl) h).trans ((LaneStays.other (by exact fun _ => rfl) h).trans (askLeave_within.laneStays rfl))

theorem chkFlush_stays : LaneStays m s (chkFlush l s) := by
  unfold chkFlush
  exact (chkEnd_within.laneStays rfl).trans (.upd (by exact fun _ => rfl) (by exact fun _ => rfl) (by exact fun _ h => h))

theorem chkTouch_stays : LaneStays m s (chkTouch l s) := by
  unfold chkTouch
  extract_lets u x own
  have hu : LaneStays m s u := chkFlush_stays
  clear_value u
  split
  · exact hu
  · exact hu.trans (.upd (by exact fun _ => rfl) (by exact fun _ => rfl) (by exact fun _ h => h))

theorem laneOff_lane : ∃ c, (laneOff l s).lane m = if m = l then { Lane.reset l with coef := c } else { s.lane m with coef := c } := by
  unfold laneOff
  extract_lets u
  have hu : u.fab.lanes = s.fab.lanes := chkEnd_within.keeps_fab_lanes rfl
  have hdrop : (dropLaneReq l u).fab.lanes = s.fab.lanes := (dropLaneReq_within.keeps_fab_lanes rfl).trans hu
  have hreset : updLane l (fun x => { Lane.reset l with coef := x.coef }) (dropLaneReq l u)
      = updLane l (fun x => { Lane.reset x.num with coef := x.coef }) (dropLaneReq l u) :=
    updLane_congr (by rw [num_of_lane])
  rw [hreset]
  obtain ⟨c, hc⟩ := laneDomainOff_lane (n := laneDomain l) (m := m) (s := updLane l (fun x => { Lane.reset x.num with coef := x.coef }) (dropLaneReq l u))
  refine ⟨c, ?_⟩
  rw [hc, lane_updLane (by exact fun _ => rfl), lane_of_lanes hdrop, lane_of_lanes hdrop, num_of_lane]
  split
  · rfl
  · rfl

theorem laneOff_stays (h : m ≠ l) : LaneStays m s (laneOff l s) := by
  obtain ⟨c, hc⟩ := laneOff_lane (m := m) (l := l) (s := s)
  rw [if_neg h] at hc
  exact ⟨by rw [hc], fun hlock => by rwa [hc]⟩

/-- A lane that no change of the lanes in use of a port concerns. -/
def Apart (n m : Nat) (s : State) : Prop := lanePort m ≠ n ∨ (s.lane m).state = .test

theorem Apart.stays (h : Apart n m s) (k : LaneStays m s t) : Apart n m t := h.imp_right fun h => k.state.trans h

theorem Apart.ne (h : Apart n m s) (hl : l ∈ portLanes n) (hstate : (s.lane l).state ≠ .test) : m ≠ l := by
  rintro rfl
  obtain ⟨j, hj, rfl⟩ := List.mem_map.1 hl
  have hj := List.mem_range.1 hj
  rcases h with h | h
  · exact h (by unfold lanePort; omega)
  · exact hstate h

theorem ethLanesLost_stays (h : Apart n m s) : LaneStays m s (ethLanesLost n s) := by
  unfold ethLanesLost
  refine (updFport_within.laneStays rfl).trans (.foldl (p := Apart n m) (fun l hl u hu => ?_) (fun _ _ => Apart.stays) (h.stays (updFport_within.laneStays rfl)))
  split
  next hactive =>
    have hne := hu.ne hl (by simp [hactive])
    exact (LaneStays.other (by exact fun _ => rfl) hne).trans (toFull_stays hne)
  next => exact ⟨rfl, id⟩

theorem lanesActive_stays {k : Nat} (h : Apart n m s) : LaneStays m s (lanesActive n k s) := by
  unfold lanesActive
  refine .foldl (p := Apart n m) (fun l hl u hu => ?_) (fun _ _ => Apart.stays) h
  split
  next hready => exact LaneStays.other (by exact fun _ => rfl) (hu.ne hl (by simp [hready.1]))
  next => exact ⟨rfl, id⟩

theorem useLanes_stays (h : Apart n m s) : LaneStays m s (useLanes n s) := by
  unfold useLanes
  exact (lanesActive_stays h).trans ((updFport_within.laneStays rfl).trans (takeMap_within.laneStays rfl))

/-- A link that goes down for its lanes leaves them to the port. -/
theorem linkDown_stays {k : Option FKind} {cause vc addr : Nat} {grace : Bool} : LaneStays m s (linkDown n k cause vc addr grace true s) := by
  refine .of_lanes ?_
  unfold linkDown
  split
  · rfl
  · extract_lets v1 v2 next v3 v4 v5 v6
    have h1 : v1.fab.lanes = s.fab.lanes := State.count_within.keeps_fab_lanes rfl
    clear_value v1
    have h2 : v2.fab.lanes = s.fab.lanes := (State.capture_within.keeps_fab_lanes rfl).trans h1
    clear_value v2
    have h3 : v3.fab.lanes = s.fab.lanes := (updFport_within.keeps_fab_lanes rfl).trans h2
    clear_value v3
    have h4 : v4.fab.lanes = s.fab.lanes := by
      unfold v4
      cases k with
      | none => exact h3
      | some k => exact Eq.trans (report_within.keeps_fab_lanes rfl) h3
    clear_value v4
    have h5 : v5.fab.lanes = s.fab.lanes := by
      unfold v5
      exact (allEndpoints_within.keeps_fab_lanes rfl).trans h4
    clear_value v5
    have h6 : v6 = v5 := if_neg (by simp)
    clear_value v6
    rw [h6]
    split
    · exact h5
    · exact (updFport_within.keeps_fab_lanes rfl).trans ((flushPort_within.keeps_fab_lanes rfl).trans h5)

/-- An active lane that leaves its port leaves lanes in TEST, and lanes of other ports. -/
theorem activeLeft_stays (h : Apart (lanePort l) m s) : LaneStays m s (activeLeft l s) := by
  unfold activeLeft
  extract_lets n u v
  split
  · split
    · have hdown : LaneStays m s (allEndpoints evPortDown n 0 n (s.count (cntPort n 2) 1)) :=
        LaneStays.trans (State.count_within.laneStays rfl) (allEndpoints_within.laneStays rfl)
      exact hdown.trans (ethLanesLost_stays (h.stays hdown))
    · exact ethLanesLost_stays h
  · have hu : LaneStays m s u := by
      unfold u
      split
      · exact linkDown_stays
      · split
        · exact LaneStays.trans (updFport_within.laneStays rfl) (report_within.laneStays rfl)
        · exact updFport_within.laneStays rfl
    have hv : LaneStays m s v := hu.trans (updFport_within.laneStays rfl)
    clear_value v
    split
    · exact hv.trans (useLanes_stays (h.stays hv))
    · exact hv

/-- A lane as it goes to TEST. -/
def toTest (l : Nat) (s : State) : State :=
  askExit (laneDomain l) 3 (updLane l (fun x => { x with
    state := .test, since := s.clk.now, leave := false, silent := true, partner := false, readyRun := 0, once := 0, chk := none, chkBits := 0, chkErrs := 0 })
    (dropLaneReq l s))

theorem laneToTest_judged (h : s.clockGood (s.lanePll l) = true) :
    laneToTest l s = if (s.lane l).state = .active then activeLeft l (toTest l s) else toTest l s := by
  have htest : laneToTest l s = if (s.lane l).state = .active then activeLeft l (toTest l s) else toTest l s := if_neg (by simp [h])
  exact htest

theorem laneToTest_unjudged (h : s.clockGood (s.lanePll l) = false) : laneToTest l s = s := if_pos (by simp [h])

theorem toTest_lane : (toTest l s).lane m = if m = l then { s.lane l with
    state := .test, since := s.clk.now, leave := false, silent := true, partner := false, readyRun := 0, once := 0, chk := none, chkBits := 0, chkErrs := 0 }
    else s.lane m := by
  unfold toTest
  rw [lane_of_lanes (askExit_within.keeps_fab_lanes rfl), lane_updLane (by exact fun _ => rfl), lane_of_lanes (dropLaneReq_within.keeps_fab_lanes rfl),
    lane_of_lanes (dropLaneReq_within.keeps_fab_lanes rfl)]

theorem laneToTest_stays (h : lanePort m ≠ lanePort l) : LaneStays m s (laneToTest l s) := by
  have hne : m ≠ l := fun e => h (by rw [e])
  have hlane : (toTest l s).lane m = s.lane m := toTest_lane.trans (if_neg hne)
  have htest : LaneStays m s (toTest l s) := ⟨by rw [hlane], fun hlock => by rwa [hlane]⟩
  by_cases hclock : s.clockGood (s.lanePll l) = true
  · rw [laneToTest_judged hclock]
    split
    · exact htest.trans (activeLeft_stays (.inl h))
    · exact htest
  · rw [laneToTest_unjudged (by simpa using hclock)]
    exact ⟨rfl, id⟩

/-- Where its PLL is judged good the lane is in TEST, with the lock that it had. -/
theorem laneToTest_lane : ((laneToTest l s).lane l).state = (if s.clockGood (s.lanePll l) = true then .test else (s.lane l).state)
    ∧ ((s.lane l).locked = true → ((laneToTest l s).lane l).locked = true) := by
  have hlane := (toTest_lane (s := s) (m := l)).trans (if_pos rfl)
  have hstate : ((toTest l s).lane l).state = .test := by rw [hlane]
  have hlock : (s.lane l).locked = true → ((toTest l s).lane l).locked = true := fun h => by rwa [hlane]
  by_cases hclock : s.clockGood (s.lanePll l) = true
  · rw [laneToTest_judged hclock, if_pos hclock]
    split
    · have hleft : LaneStays l (toTest l s) (activeLeft l (toTest l s)) := activeLeft_stays (.inr hstate)
      exact ⟨hleft.state.trans hstate, fun h => hleft.locked (hlock h)⟩
    · exact ⟨hstate, hlock⟩
  · rw [laneToTest_unjudged (by simpa using hclock), if_neg hclock]
    exact ⟨rfl, id⟩

theorem injectOnce_stays : LaneStays m s (injectOnce l s) := by
  unfold injectOnce
  split
  · exact (State.emit_within.laneStays rfl).trans (.upd (by exact fun _ => rfl) (by exact fun _ => rfl) (by exact fun _ h => h))
  · exact ⟨rfl, id⟩

theorem applyLaneTest_stays {v user : Word} : LaneStays m s (applyLaneTest l v user s) := by
  unfold applyLaneTest
  extract_lets u w
  have hw : LaneStays m s w := (State.setReg_within.laneStays rfl).trans (State.setReg_within.laneStays rfl)
  split
  · exact hw.trans injectOnce_stays
  · exact hw

theorem testDrives_stays : LaneStays m s (testDrives l s) := by
  unfold testDrives
  refine LaneStays.trans ?_ chkTouch_stays
  split
  · exact (State.emit_within.laneStays rfl).trans (.upd (by exact fun _ => rfl) (by exact fun _ => rfl) (by exact fun _ h => h))
  · exact (State.emit_within.laneStays rfl).trans (.upd (by exact fun _ => rfl) (by exact fun _ => rfl) (by exact fun _ h => by simp [h]))

theorem laneTestDrive_stays : LaneStays m s (laneTestDrive l s) := by
  unfold laneTestDrive
  extract_lets u
  have hu : LaneStays m s u := dropLeave_within.laneStays rfl
  clear_value u
  split
  · exact hu
  · split
    · exact hu.trans testDrives_stays
    · split
      · refine hu.trans (LaneStays.trans ?_ (askLeave_within.laneStays rfl))
        exact (LaneStays.upd (by exact fun _ => rfl) (by exact fun _ => rfl) (by exact fun _ h => h))
      · exact hu.trans (.upd (by exact fun _ => rfl) (by exact fun _ => rfl) (by exact fun _ h => h))

end

end Sys2Proof.Machine

namespace Sys2Proof.Machine

/-! ### CMD_LANE_TEST (R371, R376-R378, R381, R382) -/

section
variable {s t u : State} {l m : Nat} {a : CmdArgs} {env : CmdEnv} {b : Begun} {op : Nat}

/-- A command that wakes no domain and fails changes nothing but the ring and the registers. -/
theorem ring_refuses_silent {body : CmdBody} {status : Nat} (h : RingTurn op a s) (ho : (objectOf op a).1 ∉ [1, 3, 5, 6])
    (hb : body env a (begunAs op a s) (takenBy op a s) = refuse status (takenBy op a s)) :
    ∃ t, onRing op body env a s = .next t ∧ Answered op a s s t status 0 0 0 ∧ Only [.ring, .regs, .held] s t := by
  obtain ⟨t, ht, hanswered, hleft⟩ := ring_settles h hb (.of_within h (m := 0) .refl rfl)
  have hall : Within 0xff00000002000000000006 s t := ((h.taken_silent ho).weaken rfl).trans hleft
  exact ⟨t, ht, hanswered.congr takenBy_regs.symm, hall.only _ (by intro p; cases p <;> decide)⟩

theorem cmdLaneTest_failed (hwords : badWords a [mask 9 0, allBits, allBits] = false) (hstart : bit a.w1.toNat 9 = false)
    (hdead : s.sliceDead (lanePort (bits a.w1.toNat 8 0) / 16) = true) : cmdLaneTest env a b s = refuse csHwFailure s := by
  unfold cmdLaneTest
  dsimp only
  rw [if_neg (by simp [hwords]), if_neg (by simp [hstart]), if_pos hdead]

theorem cmdLaneTest_busy (hwords : badWords a [mask 9 0, allBits, allBits] = false) (hstart : bit a.w1.toNat 9 = false)
    (halive : s.sliceDead (lanePort (bits a.w1.toNat 8 0) / 16) = false) (hneeded : s.laneTestRefused (bits a.w1.toNat 8 0) = true) :
    cmdLaneTest env a b s = refuse csBusy s := by
  unfold cmdLaneTest
  dsimp only
  rw [if_neg (by simp [hwords]), if_neg (by simp [hstart]), if_neg (by rw [halive]; decide), if_pos hneeded]

theorem cmdLaneTest_starts (hwords : badWords a [mask 9 0, allBits, allBits] = false) (hstart : bit a.w1.toNat 9 = false)
    (halive : s.sliceDead (lanePort (bits a.w1.toNat 8 0) / 16) = false) (hspare : s.laneTestRefused (bits a.w1.toNat 8 0) = false) :
    cmdLaneTest env a b s = (.ok, laneTestDrive (bits a.w1.toNat 8 0) (applyLaneTest (bits a.w1.toNat 8 0) a.w2 a.w3 (laneToTest (bits a.w1.toNat 8 0) s))) := by
  unfold cmdLaneTest
  dsimp only
  rw [if_neg (by simp [hwords]), if_neg (by simp [hstart]), if_neg (by rw [halive]; decide), if_neg (by rw [hspare]; decide)]

theorem cmdLaneTest_stops (hwords : badWords a [mask 9 0, allBits, allBits] = false) (hstop : bit a.w1.toNat 9 = true)
    (htest : (s.lane (bits a.w1.toNat 8 0)).state = .test) (hfree : (s.port (lanePort (bits a.w1.toNat 8 0))).testing = false) :
    cmdLaneTest env a b s = (.done csOk 0 (s.testCounts (bits a.w1.toNat 8 0)).1 (s.testCounts (bits a.w1.toNat 8 0)).2,
      laneFromTest (bits a.w1.toNat 8 0) (dropLeave (.laneTest (bits a.w1.toNat 8 0)) s)) := by
  unfold cmdLaneTest
  dsimp only
  rw [if_neg (by simp [hwords]), if_pos hstop, if_neg (by simp [htest, hfree])]

/-- What the lane that a command puts in TEST, and every other lane, is then. -/
theorem laneTested_lanes {v user : Word} :
    (∀ w, w = laneTestDrive l (applyLaneTest l v user (laneToTest l s)) →
      (w.lane l).state = (if s.clockGood (s.lanePll l) = true then .test else (s.lane l).state)
        ∧ ((s.lane l).locked = true → (w.lane l).locked = true)
        ∧ ∀ m, lanePort m ≠ lanePort l → (w.lane m).state = (s.lane m).state) := by
  rintro w rfl
  have hset (m : Nat) : LaneStays m (laneToTest l s) (laneTestDrive l (applyLaneTest l v user (laneToTest l s))) :=
    applyLaneTest_stays.trans laneTestDrive_stays
  obtain ⟨hstate, hlock⟩ := laneToTest_lane (s := s) (l := l)
  exact ⟨(hset l).state.trans hstate, fun h => (hset l).locked (hlock h), fun m hm => (hset m).state.trans (laneToTest_stays hm).state⟩

/-! #### STOP -/

theorem toFull_state : ((toFull l s).lane l).state = .full := by
  unfold toFull askFull
  rw [lane_of_lanes (askLeave_within.keeps_fab_lanes rfl), lane_updLane_same (by exact fun _ => rfl), lane_updLane_same (by exact fun _ => rfl)]

theorem sendTraining_stays : LaneStays m s (sendTraining l s) := by
  unfold sendTraining
  extract_lets x
  split
  · exact ⟨rfl, id⟩
  · exact (State.emit_within.laneStays rfl).trans (.upd (by exact fun _ => rfl) (by exact fun _ => rfl) (by exact fun _ h => h))

theorem sendTraining_coef : ((sendTraining l s).lane l).coef = (s.lane l).coef := by
  unfold sendTraining
  extract_lets x
  split
  · rfl
  · rw [lane_updLane_same (by exact fun _ => rfl), lane_of_lanes (State.emit_within.keeps_fab_lanes rfl)]

theorem toFast_state {silent : Bool} : ((toFast l silent s).lane l).state = if (s.lane l).coef then .fast else .full := by
  unfold toFast
  extract_lets u v
  have hcoef : (v.lane l).coef = (s.lane l).coef := by
    unfold v
    rw [sendTraining_coef]
    unfold u
    rw [lane_updLane_same (by exact fun _ => rfl)]
  have hstate : (v.lane l).state = .fast := by
    unfold v
    rw [sendTraining_stays.state]
    unfold u
    rw [lane_updLane_same (by exact fun _ => rfl)]
  clear_value v
  rw [hcoef]
  split
  · exact hstate
  · exact toFull_state

theorem toFast_stays {silent : Bool} (h : m ≠ l) : LaneStays m s (toFast l silent s) := by
  unfold toFast
  extract_lets u v
  have hv : LaneStays m s v := (LaneStays.other (by exact fun _ => rfl) h).trans sendTraining_stays
  clear_value v
  split
  · exact hv
  · exact hv.trans (toFull_stays h)

theorem laneOff_state : ((laneOff l s).lane l).state = .off := by
  obtain ⟨c, hc⟩ := laneOff_lane (m := l) (l := l) (s := s)
  rw [hc, if_pos rfl]
  rfl

theorem laneFromTest_stays (h : m ≠ l) : LaneStays m s (laneFromTest l s) := by
  unfold laneFromTest
  extract_lets u
  have hu : LaneStays m s u := chkFlush_stays
  clear_value u
  split
  · exact hu.trans (laneOff_stays h)
  · split
    · exact hu.trans (toFull_stays h)
    · exact hu.trans (toFast_stays h)

/-- Whether a port uses a lane is no matter of lanes, leave or test registers. -/
theorem Within.keeps_laneEnabled {k : Nat} (h : Within k s t) (hk : sub k 0xf7fffffffffffffffffffdfffffffff3fffffffffbff = true) :
    t.laneEnabled l = s.laneEnabled l ∧ t.ethPort (lanePort l) = s.ethPort (lanePort l) := by
  have h' : Within 0xfffffffffffffffffffffdfffffffff3fffffffffbff s t := (h.weaken hk).weaken rfl
  have heth : t.ethPort (lanePort l) = s.ethPort (lanePort l) := by
    unfold State.ethPort State.mode
    rw [h'.keeps_raw rfl rfl]
  refine ⟨?_, heth⟩
  unfold State.laneEnabled State.portEnabled State.fldI
  dsimp only
  rw [heth, h'.keeps_raw rfl rfl, h'.keeps_raw rfl rfl, port_of_ports ((h.weaken hk).keeps_fab_ports rfl)]

theorem chkFlush_coef : ((chkFlush l s).lane l).coef = (s.lane l).coef := by
  unfold chkFlush
  dsimp only
  rw [lane_updLane_same (by exact fun _ => rfl), lane_of_lanes (chkEnd_within.keeps_fab_lanes rfl)]

theorem laneFromTest_state : ((laneFromTest l s).lane l).state = (if s.laneEnabled l = false ∨ s.clockGood (s.lanePll l) = false then .off
    else if s.ethPort (lanePort l) then .full else if (s.lane l).coef then .fast else .full) := by
  have hflush : Within 0x10000000000000000000100000000000000000000000 s (chkFlush l s) := chkFlush_within
  obtain ⟨hon, heth⟩ := hflush.keeps_laneEnabled (l := l) rfl
  unfold laneFromTest
  dsimp only
  rw [hon, heth, hflush.keeps_pll rfl]
  simp only [Bool.not_eq_true']
  split
  · exact laneOff_state
  · split
    · exact toFull_state
    · rw [toFast_state, chkFlush_coef]

/-- A lane whose checker does not compare counts nothing as it stops. -/
theorem laneOff_counters (h : (s.lane l).chk = none) : (laneOff l s).counters = s.counters := by
  have hidle : chkEnd l s = s := by
    unfold chkEnd
    dsimp only
    exact if_pos (by rw [h]; rfl)
  unfold laneOff
  rw [hidle]
  exact ((laneDomainOff_within.keeps_counters rfl).trans (updLane_within.keeps_counters rfl)).trans (dropLaneReq_within.keeps_counters rfl)

/-- What its checker counted is counted once. -/
theorem laneFromTest_counters (hchk : (s.lane l).chk.isSome = true) (hbits : (s.lane l).chkBits = 0) (herrs : (s.lane l).chkErrs = 0) :
    (laneFromTest l s).counters = ((s.count (cntLane l 2) (s.testCounts l).1).count (cntLane l 3) (s.testCounts l).2).counters := by
  have hend : chkEnd l s = (s.count (cntLane l 2) (s.testCounts l).1).count (cntLane l 3) (s.testCounts l).2 := by
    unfold chkEnd State.testCounts
    dsimp only
    rw [if_neg (by simpa using Option.isSome_iff_ne_none.1 hchk), hbits, herrs, Nat.zero_add, Nat.zero_add]
  have hflush : (chkFlush l s).counters = (chkEnd l s).counters := rfl
  have hnone : ((chkFlush l s).lane l).chk = none := by
    unfold chkFlush
    dsimp only
    rw [lane_updLane_same (by exact fun _ => rfl)]
  rw [← hend, ← hflush]
  unfold laneFromTest
  extract_lets u
  have hoff : (laneOff l u).counters = u.counters := laneOff_counters hnone
  split
  · exact hoff
  · split
    · exact toFull_within.keeps_counters rfl
    · exact toFast_within.keeps_counters rfl

theorem testCounts_congr (hlane : t.lane l = s.lane l) (hnow : t.clk.now = s.clk.now) : t.testCounts l = s.testCounts l := by
  unfold State.testCounts
  rw [hlane, hnow]

theorem objectOf_lane : (objectOf 0x3B a).1 ∉ [1, 3, 5, 6] := of_decide_eq_true rfl

theorem taken_lane (h : RingTurn op a s) (ho : (objectOf op a).1 ∉ [1, 3, 5, 6]) (m : Nat) : (takenBy op a s).lane m = s.lane m :=
  lane_of_lanes ((h.taken_silent ho).keeps_fab_lanes rfl) m

theorem taken_port (h : RingTurn op a s) (ho : (objectOf op a).1 ∉ [1, 3, 5, 6]) (n : Nat) : (takenBy op a s).port n = s.port n :=
  port_of_ports ((h.taken_silent ho).keeps_fab_ports rfl) n

theorem taken_sliceDead (h : RingTurn op a s) (ho : (objectOf op a).1 ∉ [1, 3, 5, 6]) (n : Nat) : (takenBy op a s).sliceDead n = s.sliceDead n := by
  unfold State.sliceDead
  rw [(h.taken_silent ho).keeps_fab_dead rfl]

/-- A lane that is spared takes the test. -/
theorem laneTest_starts (h : RingTurn 0x3B a s) (hwords : badWords a [mask 9 0, allBits, allBits] = false) (hstart : bit a.w1.toNat 9 = false)
    (halive : s.sliceDead (lanePort (bits a.w1.toNat 8 0) / 16) = false) (hspare : s.laneTestRefused (bits a.w1.toNat 8 0) = false) :
    let l := bits a.w1.toNat 8 0
    onRing 0x3B cmdLaneTest env a s = .next (completeCmd (begunAs 0x3B a s) csOk 0 0 0
        (laneTestDrive l (applyLaneTest l a.w2 a.w3 (laneToTest l (takenBy 0x3B a s)))))
      ∧ ∃ t, onRing 0x3B cmdLaneTest env a s = .next t ∧ (t.lane l).state = (if s.clockGood (s.lanePll l) = true then .test else (s.lane l).state)
        ∧ ((s.lane l).locked = true → (t.lane l).locked = true)
        ∧ ∀ m, lanePort m ≠ lanePort l → (t.lane m).state = (s.lane m).state := by
  intro l
  have hspare' : (takenBy 0x3B a s).laneTestRefused l = false := by
    unfold State.laneTestRefused at hspare ⊢
    rwa [taken_lane h objectOf_lane, taken_port h objectOf_lane]
  have hbody : cmdLaneTest env a (begunAs 0x3B a s) (takenBy 0x3B a s) = (.ok, _) :=
    cmdLaneTest_starts hwords hstart ((taken_sliceDead h objectOf_lane _).trans halive) hspare'
  have hrow : onRing 0x3B cmdLaneTest env a s = .next (completeCmd (begunAs 0x3B a s) csOk 0 0 0
      (laneTestDrive l (applyLaneTest l a.w2 a.w3 (laneToTest l (takenBy 0x3B a s))))) := by
    rw [ring_turn h, hbody]
    rfl
  obtain ⟨hstate, hlock, hothers⟩ := laneTested_lanes (s := takenBy 0x3B a s) (l := l) (v := a.w2) (user := a.w3) _ rfl
  simp only [taken_lane h objectOf_lane, (h.taken_silent objectOf_lane).keeps_pll (l := l) rfl] at hstate hlock hothers
  generalize laneTestDrive l (applyLaneTest l a.w2 a.w3 (laneToTest l (takenBy 0x3B a s))) = w at hrow hstate hlock hothers
  have hdone (m : Nat) : (completeCmd (begunAs 0x3B a s) csOk 0 0 0 w).lane m = w.lane m := lane_of_lanes (completeCmd_within.keeps_fab_lanes rfl) m
  refine ⟨hrow, _, hrow, ?_⟩
  simp only [hdone]
  exact ⟨hstate, hlock, hothers⟩

/-- STOP answers what the checker counted, and the lane acquires or is OFF. -/
theorem laneTest_stops (h : RingTurn 0x3B a s) (hwords : badWords a [mask 9 0, allBits, allBits] = false) (hstop : bit a.w1.toNat 9 = true)
    (htest : (s.lane (bits a.w1.toNat 8 0)).state = .test) (hfree : (s.port (lanePort (bits a.w1.toNat 8 0))).testing = false) :
    let l := bits a.w1.toNat 8 0
    let c := s.testCounts l
    ∃ t, onRing 0x3B cmdLaneTest env a s = .next t ∧ Answered 0x3B a s s t csOk 0 c.1 c.2
      ∧ Only [.ring, .regs, .held, .counters, .lanes, .power] s t
      ∧ ((s.lane l).chkBits = 0 → (s.lane l).chkErrs = 0 → (s.lane l).chk.isSome = true →
        t.counters = ((s.count (cntLane l 2) c.1).count (cntLane l 3) c.2).counters)
      ∧ (t.lane l).state = (if s.laneEnabled l = false ∨ s.clockGood (s.lanePll l) = false then .off
          else if s.ethPort (lanePort l) then .full else if (s.lane l).coef then .fast else .full)
      ∧ ∀ m, m ≠ l → (t.lane m).state = (s.lane m).state := by
  intro l c
  have hlane := taken_lane h objectOf_lane
  have htaken := h.taken_silent objectOf_lane
  have hcounts : (takenBy 0x3B a s).testCounts l = c := testCounts_congr (hlane l) (htaken.keeps_clk_now rfl)
  have hbody := cmdLaneTest_stops (env := env) (b := begunAs 0x3B a s) hwords hstop ((congrArg Lane.state (hlane l)).trans htest)
    ((congrArg Port.testing (taken_port h objectOf_lane _)).trans hfree)
  rw [hcounts] at hbody
  have hdrop : Within 0x20000000000000000000000000000000000000000000 (takenBy 0x3B a s) (dropLeave (.laneTest l) (takenBy 0x3B a s)) := dropLeave_within
  have hfrom : Within 0x30000000000000000000100000000000000000000006 (takenBy 0x3B a s) (laneFromTest l (dropLeave (.laneTest l) (takenBy 0x3B a s))) :=
    laneFromTest_within.app rfl (hdrop.weaken rfl)
  obtain ⟨t, ht, hanswered, hleft⟩ := ring_settles h hbody (.of_within h hfrom rfl)
  have hall : Within 0x3000000000000000000010ff00000002000000000006 s t :=
    (htaken.weaken rfl).trans ((hfrom.weaken rfl).trans (hleft.weaken rfl))
  have hsd : Within 0x20000000000000000000000500000000000000000002 s (dropLeave (.laneTest l) (takenBy 0x3B a s)) := hdrop.app rfl (htaken.weaken rfl)
  have hlane' (m : Nat) : (dropLeave (.laneTest l) (takenBy 0x3B a s)).lane m = s.lane m := lane_of_lanes (hsd.keeps_fab_lanes rfl) m
  have hdone (m : Nat) : t.lane m = (laneFromTest l (dropLeave (.laneTest l) (takenBy 0x3B a s))).lane m := lane_of_lanes (hleft.keeps_fab_lanes rfl) m
  obtain ⟨hon, heth⟩ := hsd.keeps_laneEnabled (l := l) rfl
  refine ⟨t, ht, hanswered.congr ((hfrom.keeps_regs rfl).trans takenBy_regs).symm, hall.only _ (by intro p; cases p <;> decide), ?_, ?_, fun m hm => ?_⟩
  · intro hbits herrs hchk
    rw [hleft.keeps_counters rfl, laneFromTest_counters (by rwa [hlane']) (by rwa [hlane']) (by rwa [hlane']),
      testCounts_congr (hlane' l) (hsd.keeps_clk_now rfl)]
    unfold State.count
    rw [hsd.keeps_counters rfl]
  · rw [hdone, laneFromTest_state, hon, heth, hsd.keeps_pll rfl, hlane']
  · rw [hdone, (laneFromTest_stays hm).state, hlane']

end

/-- Settles O36: the body at its turn puts the lane in TEST, and ends the test with STOP. -/
theorem laneTestHoldsLane : Obligations.LaneTestHoldsLane := by
  unfold Obligations.LaneTestHoldsLane
  refine ⟨?_, ?_⟩
  · intro env a s hturn hwords hstart l
    have hdead := (taken_sliceDead hturn objectOf_lane (lanePort l / 16))
    refine ⟨fun hfailed => ?_, fun halive hneeded => ?_, fun halive hspare => laneTest_starts hturn hwords hstart halive hspare⟩
    · exact ring_refuses_silent hturn objectOf_lane (cmdLaneTest_failed hwords hstart (hdead.trans hfailed))
    · refine ring_refuses_silent hturn objectOf_lane (cmdLaneTest_busy hwords hstart (hdead.trans halive) ?_)
      unfold State.laneTestRefused at hneeded ⊢
      rwa [taken_lane hturn objectOf_lane, taken_port hturn objectOf_lane]
  · intro env a s hturn hwords hstop l htest hfree c
    exact laneTest_stops hturn hwords hstop htest hfree

end Sys2Proof.Machine

namespace Sys2Proof.Machine

/-! ### CMD_PORT_TEST (R353, R378, R461, R521) -/

section
variable {s t u v : State} {l m n : Nat} {a : CmdArgs} {env : CmdEnv} {b : Begun} {xs : List Nat}

/-! #### Loopback -/

theorem regAddr_lnsTest : regAddr .lnsTest l 0 = 0x2000080 + 4096 * l := by
  simp only [regAddr, Reg.info, Block.map]
  omega

theorem setLoops_within {k : Nat} : Within 0x2000000000000 s (xs.foldl (setLoop k) s) := Within.foldl (fun _ _ => setLoop_within) .refl

theorem setLoop_regs {k : Nat} (h : u.regs = v.regs) : (setLoop k u l).regs = (setLoop k v l).regs := by
  unfold setLoop
  rw [raw_congr rfl h]
  exact setReg_congr h

/-- Loopback is off at each lane at which it is turned off. -/
theorem setLoops_off (hr : s.regsRising = true) (hm : m ∈ xs ∨ bits (s.raw .lnsTest m 0) 55 54 = 0) :
    bits ((xs.foldl (setLoop 0) s).raw .lnsTest m 0) 55 54 = 0 := by
  induction xs generalizing s with
  | nil => exact hm.resolve_left (List.not_mem_nil)
  | cons x xs ih =>
    refine ih (setLoop_within.regs hr) ?_
    by_cases hx : m = x
    · subst hx
      refine .inr ?_
      unfold setLoop
      rw [raw_setReg_same rfl hr (by decide)]
      simp only [putBits, bits]
      omega
    · have hapart : regAddr .lnsTest m 0 ≠ regAddr .lnsTest x 0 := by
        rw [regAddr_lnsTest, regAddr_lnsTest]
        omega
      refine hm.imp (fun h => (List.mem_cons.1 h).resolve_left hx) fun h => ?_
      unfold setLoop
      rwa [raw_setReg_other hr hapart]

/-- A register of another place reads as before. -/
theorem setLoops_apart {k i : Nat} {r : Reg} (hr : s.regsRising = true) (h : ∀ x ∈ xs, regAddr r 0 i ≠ regAddr .lnsTest x 0) :
    (xs.foldl (setLoop k) s).raw r 0 i = s.raw r 0 i := by
  induction xs generalizing s with
  | nil => rfl
  | cons x xs ih =>
    obtain ⟨hx, hxs⟩ := List.forall_mem_cons.1 h
    exact (ih (setLoop_within.regs hr) hxs).trans (raw_setReg_other hr hx)

theorem mem_portLanes : l ∈ portLanes n ↔ lanePort l = n := by
  unfold portLanes lanePort
  rw [List.mem_map]
  refine ⟨?_, fun h => ⟨l % 4, List.mem_range.2 (by omega), by omega⟩⟩
  rintro ⟨j, hj, rfl⟩
  have hj := List.mem_range.1 hj
  omega

/-! #### The port -/

theorem sendFrame_portUse {seq : Nat} {p : SwPkt} {stomp : Bool} : (sendFrame n seq p stomp s).portUse = s.portUse := by
  unfold sendFrame
  extract_lets thedex ack
  exact (updFport_portUse (by exact fun _ => rfl) (by exact fun _ => rfl) (by exact fun _ => rfl)).trans (State.emit_within.keeps_portUse rfl)

theorem dropPartial_portUse {x : Stored} : (dropPartial x s).portUse = s.portUse := by
  unfold dropPartial
  extract_lets begun w
  exact foldl_portUse (fun _ _ => count_portUse.trans sendFrame_portUse) begun s

theorem flushPort_portUse : (flushPort n s).portUse = s.portUse := by
  unfold flushPort
  extract_lets p k w x y
  have hw : w.portUse = s.portUse := foldl_portUse (fun _ _ => dropPartial_portUse) _ _
  have hy : y.portUse = x.portUse := updFport_portUse (by exact fun _ => rfl) (by exact fun _ => rfl) (by exact fun _ => rfl)
  exact settleCells_portUse.trans (hy.trans hw)

/-- The fence of a port that leaves service stays. -/
theorem portRelease_port {g : LinkState} : ((portRelease n g s).port n).state = g ∧ ((portRelease n g s).port n).fenced = (s.port n).fenced := by
  unfold portRelease
  extract_lets was w x
  have hw : w.portUse = s.portUse := by
    unfold w
    split
    · exact (allEndpoints_within.keeps_portUse rfl).trans (State.count_within.keeps_portUse rfl)
    · rfl
  have hx : x.portUse = s.portUse := flushPort_portUse.trans hw
  clear_value x
  rw [port_updFport_same (by exact fun _ => rfl)]
  exact ⟨rfl, congrArg Prod.fst (congrFun hx n)⟩

/-! #### Its lanes -/

/-- What the start of a port test makes of a lane. -/
def laneTaken (s : State) (l : Nat) : State :=
  if (s.lane l).state = .off ∧ !s.clockGood (s.lanePll l) then s
  else askExit (laneDomain l) 1 (updLane l (fun x => { Lane.reset l with state := .test, since := s.clk.now, coef := x.coef }) (dropLaneReq l s))

theorem laneTaken_within : Within 0x30000000000000000000000000000000000000000000 s (laneTaken s l) := by
  unfold laneTaken
  refine .ite .refl ?_
  exact askExit_within.app rfl (updLane_within.app rfl (dropLaneReq_within.weaken rfl))

theorem laneTaken_state : ((laneTaken s l).lane m).state
    = if m = l ∧ ((s.lane m).state = .off → s.clockGood (s.lanePll m) = true) then .test else (s.lane m).state := by
  have hdrop : (dropLaneReq l s).fab.lanes = s.fab.lanes := dropLaneReq_within.keeps_fab_lanes rfl
  have hreset : updLane l (fun x => { Lane.reset l with state := .test, since := s.clk.now, coef := x.coef }) (dropLaneReq l s)
      = updLane l (fun x => { Lane.reset x.num with state := .test, since := s.clk.now, coef := x.coef }) (dropLaneReq l s) :=
    updLane_congr (by rw [num_of_lane])
  unfold laneTaken
  rw [hreset]
  by_cases hidle : (s.lane l).state = .off ∧ (!s.clockGood (s.lanePll l)) = true
  · rw [if_pos hidle, if_neg]
    rintro ⟨rfl, hgood⟩
    obtain ⟨hoff, hbad⟩ := hidle
    simp [hgood hoff] at hbad
  · rw [if_neg hidle, lane_of_lanes (askExit_within.keeps_fab_lanes rfl), lane_updLane (by exact fun _ => rfl), lane_of_lanes hdrop, lane_of_lanes hdrop]
    by_cases hm : m = l
    · subst hm
      rw [if_pos rfl, if_pos]
      exact ⟨rfl, fun hoff => by simpa [hoff] using hidle⟩
    · rw [if_neg hm, if_neg (fun h => hm h.1)]

theorem lanesTaken_within : Within 0x30000000000000000000000000000000000000000000 s (xs.foldl laneTaken s) :=
  Within.foldl (fun _ _ => laneTaken_within) .refl

theorem lanesTaken_state : ((xs.foldl laneTaken s).lane m).state
    = if m ∈ xs ∧ ((s.lane m).state = .off → s.clockGood (s.lanePll m) = true) then .test else (s.lane m).state := by
  induction xs generalizing s with
  | nil => simp
  | cons x xs ih =>
    have hpll : (laneTaken s x).clockGood ((laneTaken s x).lanePll m) = s.clockGood (s.lanePll m) := laneTaken_within.keeps_pll rfl
    have hstep := laneTaken_state (s := s) (l := x) (m := m)
    rw [List.foldl_cons, ih, hpll]
    by_cases hm : m = x
    · subst hm
      by_cases hgood : (s.lane m).state = .off → s.clockGood (s.lanePll m) = true
      · rw [if_pos ⟨rfl, hgood⟩] at hstep
        rw [hstep, ite_self, if_pos ⟨List.mem_cons_self .., hgood⟩]
      · rw [if_neg (fun h => hgood h.2)] at hstep
        rw [hstep, if_neg (fun h => hgood h.2), if_neg (fun h => hgood h.2)]
    · rw [if_neg (fun h => hm h.1)] at hstep
      rw [hstep]
      simp [hm]

theorem testLane_stays {loop : Nat} : LaneStays m s (testLane loop s l) := by
  unfold testLane
  split
  · exact ⟨rfl, id⟩
  · extract_lets w
    have hw : LaneStays m s w := by
      unfold w
      split
      · exact setLoop_within.laneStays rfl
      · exact ⟨rfl, id⟩
    exact hw.trans (.upd (by exact fun _ => rfl) (by exact fun _ => rfl) (by exact fun _ h => by simp [h]))

/-! #### Start and end -/

/-- The port is down under test behind its fence, and its lanes are in TEST. -/
theorem portTestStart_reads {loop : Nat} :
    ((portTestStart n loop s).port n).testing = true ∧ ((portTestStart n loop s).port n).state = .disabled
      ∧ ((portTestStart n loop s).port n).fenced = (s.port n).fenced
      ∧ ∀ l, ((portTestStart n loop s).lane l).state
          = if lanePort l = n ∧ ((s.lane l).state = .off → s.clockGood (s.lanePll l) = true) then .test else (s.lane l).state := by
  unfold portTestStart
  extract_lets jobs r p w x
  have hw : w = (portLanes n).foldl laneTaken p := rfl
  have hjobs : Within 0x2000000001060d4227801fff02001f02000000000006 x (jobs.foldl (fun s j => endJob j stCanceled s) x) :=
    Within.foldl (fun _ _ => endJob_within) .refl
  have hx : Within 0x10000000000000000000000000000002000000000006 w x :=
    State.emit_within.app rfl (Within.foldl (fun _ _ => testLane_within.weaken rfl) .refl)
  have hport (m : Nat) : ((jobs.foldl (fun s j => endJob j stCanceled s) x)).port m = p.port m := by
    rw [port_of_ports (hjobs.keeps_fab_ports rfl), port_of_ports (hx.keeps_fab_ports rfl), hw, port_of_ports (lanesTaken_within.keeps_fab_ports rfl)]
  have hrun (l : Nat) : LaneStays l w (jobs.foldl (fun s j => endJob j stCanceled s) x) := by
    refine LaneStays.trans (t := x) ?_ (hjobs.laneStays rfl)
    exact LaneStays.trans (.foldl (p := fun _ => True) (fun _ _ _ _ => testLane_stays) (fun _ _ _ _ => trivial) trivial) (State.emit_within.laneStays rfl)
  have hrelease : Within 0x810028000060d400780100002001f02000000000006 s r := portRelease_within
  have hp : Within 0x810028000060d400780100002001f02000000000006 s p := updFport_within.app rfl hrelease
  obtain ⟨hstate, hfenced⟩ := portRelease_port (s := s) (n := n) (g := .disabled)
  have hpn : p.port n = { r.port n with testing := true } := port_updFport_same (by exact fun _ => rfl)
  refine ⟨by rw [hport, hpn], by rw [hport, hpn]; exact hstate, by rw [hport, hpn]; exact hfenced, fun l => ?_⟩
  rw [(hrun l).state, hw, lanesTaken_state, hp.keeps_pll rfl, lane_of_lanes (hp.keeps_fab_lanes rfl)]
  simp only [mem_portLanes]

/-- The lanes of a port as a test leaves them. -/
theorem lanesEnded_within : Within 0x30000000000000000000100000000002000000000000 s (xs.foldl (fun s l => laneOff l (setLoop 0 s l)) s) :=
  Within.foldl (fun _ _ => laneOff_within.app rfl (setLoop_within.weaken rfl)) .refl

theorem portEnable_port : ((portEnable n s).port n).testing = (s.port n).testing ∧ ((portEnable n s).port n).fenced = (s.port n).fenced := by
  unfold portEnable
  split
  · exact ⟨rfl, rfl⟩
  · extract_lets u
    have hstart : Within 0x30000000000000000000000000000000000000000000 u ((portLanes n).foldl (fun s l => laneStart l s) u) :=
      Within.foldl (fun _ _ => laneStart_within) .refl
    rw [port_of_ports (hstart.keeps_fab_ports rfl)]
    unfold u
    split
    · rw [port_updFport_same (by exact fun _ => rfl)]
      exact ⟨rfl, rfl⟩
    · exact ⟨rfl, rfl⟩

theorem portTestEnd_port {errors : Nat} :
    ((portTestEnd n errors s).port n).testing = false ∧ ((portTestEnd n errors s).port n).fenced = (s.port n).fenced := by
  unfold portTestEnd
  extract_lets u
  obtain ⟨htest, hfence⟩ := portEnable_port (n := n) (s := (portLanes n).foldl (fun s l => laneOff l (setLoop 0 s l)) u)
  have hun : u.port n = { (s.count (cntPort n 0) errors).port n with testing := false } := port_updFport_same (by exact fun _ => rfl)
  rw [htest, hfence, port_of_ports (lanesEnded_within.keeps_fab_ports rfl), hun]
  exact ⟨rfl, rfl⟩

/-- Loopback goes off, and no other register changes. -/
theorem lanesEnded_regs (h : u.regs = v.regs) : (xs.foldl (fun s l => laneOff l (setLoop 0 s l)) u).regs = (xs.foldl (setLoop 0) v).regs := by
  induction xs generalizing u v with
  | nil => exact h
  | cons x xs ih => exact ih ((laneOff_within.keeps_regs rfl).trans (setLoop_regs h))

theorem portTestEnd_regs {errors : Nat} : (portTestEnd n errors s).regs = ((portLanes n).foldl (setLoop 0) s).regs := by
  unfold portTestEnd
  extract_lets u
  exact (portEnable_within.keeps_regs rfl).trans (lanesEnded_regs rfl)

/-- Lanes whose checkers do not compare count nothing. -/
theorem lanesEnded_counters (h : ∀ l ∈ xs, (s.lane l).chk = none) : (xs.foldl (fun s l => laneOff l (setLoop 0 s l)) s).counters = s.counters := by
  induction xs generalizing s with
  | nil => rfl
  | cons x xs ih =>
    have hloop (l : Nat) : (setLoop 0 s x).lane l = s.lane l := lane_of_lanes (setLoop_within.keeps_fab_lanes rfl) l
    refine (ih fun l hl => ?_).trans ((laneOff_counters (by rw [hloop]; exact h x (List.mem_cons_self ..))).trans (setLoop_within.keeps_counters rfl))
    obtain ⟨c, hc⟩ := laneOff_lane (l := x) (m := l) (s := setLoop 0 s x)
    rw [hc, hloop]
    split
    · rfl
    · exact h l (List.mem_cons_of_mem _ hl)

theorem portTestEnd_counters {errors : Nat} (h : ∀ l, lanePort l = n → (s.lane l).chk = none) :
    (portTestEnd n errors s).counters = (s.count (cntPort n 0) errors).counters := by
  unfold portTestEnd
  extract_lets u
  have hu : u.fab.lanes = s.fab.lanes := rfl
  refine (portEnable_within.keeps_counters rfl).trans ((lanesEnded_counters fun l hl => ?_).trans rfl)
  rw [lane_of_lanes hu]
  exact h l (mem_portLanes.1 hl)

/-! #### The command -/

theorem objectOf_port : (objectOf 0x3A a).1 ∉ [1, 3, 5, 6] := of_decide_eq_true rfl

theorem cmdPortTest_failed (hwords : badWords a [mask 6 0 + mask 8 8 + mask 13 12, allBits] = false) (hloop : bits a.w1.toNat 13 12 ≠ 3)
    (hstart : bit a.w1.toNat 8 = false) (hdead : s.sliceDead (bits a.w1.toNat 6 0 / 16) = true) : cmdPortTest env a b s = refuse csHwFailure s := by
  unfold cmdPortTest
  dsimp only
  rw [if_neg (by simp [hwords, hloop]), if_neg (by simp [hstart]), if_pos hdead]

theorem cmdPortTest_busy (hwords : badWords a [mask 6 0 + mask 8 8 + mask 13 12, allBits] = false) (hloop : bits a.w1.toNat 13 12 ≠ 3)
    (hstart : bit a.w1.toNat 8 = false) (halive : s.sliceDead (bits a.w1.toNat 6 0 / 16) = false) (hopen : (s.port (bits a.w1.toNat 6 0)).fenced = false) :
    cmdPortTest env a b s = refuse csBusy s := by
  unfold cmdPortTest
  dsimp only
  rw [if_neg (by simp [hwords, hloop]), if_neg (by simp [hstart]), if_neg (by rw [halive]; decide), if_pos (.inl (by rw [hopen]; rfl))]

theorem cmdPortTest_starts (hwords : badWords a [mask 6 0 + mask 8 8 + mask 13 12, allBits] = false) (hloop : bits a.w1.toNat 13 12 ≠ 3)
    (hstart : bit a.w1.toNat 8 = false) (halive : s.sliceDead (bits a.w1.toNat 6 0 / 16) = false) (hfence : (s.port (bits a.w1.toNat 6 0)).fenced = true)
    (hfree : (s.port (bits a.w1.toNat 6 0)).testing = false) :
    cmdPortTest env a b s =
      (let u := portTestStart (bits a.w1.toNat 6 0) (bits a.w1.toNat 13 12) s
       if a.w2 = 0 then (.ok, u) else if env.slow then (.work, u)
       else (.result env.count, portTestEnd (bits a.w1.toNat 6 0) env.errors (u.advance (us a.w2.toNat)))) := by
  unfold cmdPortTest
  dsimp only
  rw [if_neg (by simp [hwords, hloop]), if_neg (by simp [hstart]), if_neg (by rw [halive]; decide), if_neg (by simp [hfence, hfree])]

theorem cmdPortTest_stops (hwords : badWords a [mask 6 0 + mask 8 8 + mask 13 12, allBits] = false) (hloop : bits a.w1.toNat 13 12 ≠ 3)
    (hstop : bit a.w1.toNat 8 = true) (htest : (s.port (bits a.w1.toNat 6 0)).testing = true) :
    cmdPortTest env a b s = (.done csOk 0 env.count 0, portTestEnd (bits a.w1.toNat 6 0) env.errors s) := by
  unfold cmdPortTest
  dsimp only
  rw [if_neg (by simp [hwords, hloop]), if_pos hstop, if_pos htest]
  rfl

/-- A test without a duration runs on. -/
theorem portTest_runs (h : RingTurn 0x3A a s) {loop : Nat} (hfence : (s.port n).fenced = true)
    (hbody : cmdPortTest env a (begunAs 0x3A a s) (takenBy 0x3A a s) = (.ok, portTestStart n loop (takenBy 0x3A a s))) :
    onRing 0x3A cmdPortTest env a s = .next (completeCmd (begunAs 0x3A a s) csOk 0 0 0 (portTestStart n loop (takenBy 0x3A a s)))
      ∧ ∃ t, onRing 0x3A cmdPortTest env a s = .next t ∧ (t.port n).testing = true ∧ (t.port n).state = .disabled ∧ (t.port n).fenced = true
        ∧ ∀ l, (t.lane l).state = if lanePort l = n ∧ ((s.lane l).state = .off → s.clockGood (s.lanePll l) = true) then .test
          else (s.lane l).state := by
  have hrow : onRing 0x3A cmdPortTest env a s = .next (completeCmd (begunAs 0x3A a s) csOk 0 0 0 (portTestStart n loop (takenBy 0x3A a s))) := by
    rw [ring_turn h, hbody]
    rfl
  obtain ⟨htest, hstate, hkept, hlanes⟩ := portTestStart_reads (s := takenBy 0x3A a s) (n := n) (loop := loop)
  simp only [taken_lane h objectOf_port, taken_port h objectOf_port, (h.taken_silent objectOf_port).keeps_pll rfl, hfence] at hkept hlanes
  generalize portTestStart n loop (takenBy 0x3A a s) = w at hrow htest hstate hkept hlanes
  have hport (m : Nat) : (completeCmd (begunAs 0x3A a s) csOk 0 0 0 w).port m = w.port m := port_of_ports (completeCmd_within.keeps_fab_ports rfl) m
  have hlane (m : Nat) : (completeCmd (begunAs 0x3A a s) csOk 0 0 0 w).lane m = w.lane m := lane_of_lanes (completeCmd_within.keeps_fab_lanes rfl) m
  refine ⟨hrow, _, hrow, ?_⟩
  simp only [hport, hlane]
  exact ⟨htest, hstate, hkept, hlanes⟩

/-- A test with a duration is over in its step. -/
theorem portTest_lasts (h : RingTurn 0x3A a s) {loop d count errors : Nat} (hfence : (s.port n).fenced = true)
    (hbody : cmdPortTest env a (begunAs 0x3A a s) (takenBy 0x3A a s)
      = (.done csOk 0 count 0, portTestEnd n errors ((portTestStart n loop (takenBy 0x3A a s)).advance d))) :
    onRing 0x3A cmdPortTest env a s
        = .next (completeCmd (begunAs 0x3A a s) csOk 0 count 0 (portTestEnd n errors ((portTestStart n loop (takenBy 0x3A a s)).advance d)))
      ∧ ∃ t, onRing 0x3A cmdPortTest env a s = .next t ∧ (t.port n).testing = false ∧ (t.port n).fenced = true ∧ t.clk.now = s.clk.now + d := by
  have hrow : onRing 0x3A cmdPortTest env a s
      = .next (completeCmd (begunAs 0x3A a s) csOk 0 count 0 (portTestEnd n errors ((portTestStart n loop (takenBy 0x3A a s)).advance d))) := by
    rw [ring_turn h, hbody]
  obtain ⟨-, -, hkept, -⟩ := portTestStart_reads (s := takenBy 0x3A a s) (n := n) (loop := loop)
  have hnow : (portTestStart n loop (takenBy 0x3A a s)).clk.now = s.clk.now :=
    (portTestStart_within.keeps_clk_now rfl).trans ((h.taken_silent objectOf_port).keeps_clk_now rfl)
  rw [taken_port h objectOf_port, hfence] at hkept
  generalize portTestStart n loop (takenBy 0x3A a s) = w at hrow hkept hnow
  obtain ⟨hover, hfence'⟩ := portTestEnd_port (s := w.advance d) (n := n) (errors := errors)
  have hlater : (portTestEnd n errors (w.advance d)).clk.now = w.clk.now + d := portTestEnd_within.keeps_clk_now rfl
  have hport : (w.advance d).port n = w.port n := port_of_ports rfl n
  rw [hport, hkept] at hfence'
  generalize portTestEnd n errors (w.advance d) = x at hrow hover hfence' hlater
  have hdone : (completeCmd (begunAs 0x3A a s) csOk 0 count 0 x).port n = x.port n := port_of_ports (completeCmd_within.keeps_fab_ports rfl) n
  refine ⟨hrow, _, hrow, by rw [hdone]; exact hover, by rw [hdone]; exact hfence', ?_⟩
  exact (completeCmd_within.keeps_clk_now rfl).trans (hlater.trans (by rw [hnow]))

theorem setLoops_ringReads (hr : s.regsRising = true) (hn : n < 128) {i : Nat} {r : Reg} (h : RingReads r i) :
    ((portLanes n).foldl (setLoop 0) s).raw r 0 i = s.raw r 0 i := by
  refine setLoops_apart hr fun x hx => ?_
  have hx : x < 512 := by
    have hport := mem_portLanes.1 hx
    unfold lanePort at hport
    omega
  rw [regAddr_lnsTest]
  cases h <;> simp only [regAddr, Reg.info, Block.map] <;> omega

/-- STOP ends the test. -/
theorem portTest_stops (h : RingTurn 0x3A a s) {count errors : Nat} (hn : n < 128) (hr : s.regsRising = true)
    (hbody : cmdPortTest env a (begunAs 0x3A a s) (takenBy 0x3A a s) = (.done csOk 0 count 0, portTestEnd n errors (takenBy 0x3A a s))) :
    ∃ t, onRing 0x3A cmdPortTest env a s = .next t
      ∧ Answered 0x3A a s ((portLanes n).foldl (setLoop 0) s) t csOk 0 count 0
      ∧ Only [.ring, .regs, .held, .counters, .ports, .lanes, .power] s t
      ∧ (t.port n).testing = false ∧ (t.port n).fenced = (s.port n).fenced
      ∧ (∀ l, lanePort l = n → bits (t.raw .lnsTest l 0) 55 54 = 0)
      ∧ ((∀ l, lanePort l = n → (s.lane l).chk = none) → t.counters = (s.count (cntPort n 0) errors).counters) := by
  have htaken := h.taken_silent objectOf_port
  have htr : (takenBy 0x3A a s).regsRising = true := htaken.regs hr
  have hin : Within 0x38000000000000000000100000000002000000000000 (takenBy 0x3A a s) (portTestEnd n errors (takenBy 0x3A a s)) := portTestEnd_within
  have hregs : (portTestEnd n errors (takenBy 0x3A a s)).regs = ((portLanes n).foldl (setLoop 0) (takenBy 0x3A a s)).regs := portTestEnd_regs
  obtain ⟨hover, hfence⟩ := portTestEnd_port (s := takenBy 0x3A a s) (n := n) (errors := errors)
  have hcounters := portTestEnd_counters (s := takenBy 0x3A a s) (n := n) (errors := errors)
  obtain ⟨t, ht, hanswered, hleft⟩ := ring_settles h hbody (.of_reads h hin rfl fun r i hri =>
    (raw_congr hri.plain hregs).trans ((setLoops_ringReads htr hn hri).trans (takenBy_raw ..)))
  have hsame : ((portLanes n).foldl (setLoop 0) (takenBy 0x3A a s)).regs = ((portLanes n).foldl (setLoop 0) s).regs := by
    have hall (xs : List Nat) : ∀ u v : State, u.regs = v.regs → (xs.foldl (setLoop 0) u).regs = (xs.foldl (setLoop 0) v).regs := by
      induction xs with
      | nil => exact fun _ _ h => h
      | cons x xs ih => exact fun u v h => ih _ _ (setLoop_regs h)
    exact hall _ _ _ takenBy_regs
  have hall : Within 0x3800000000000000000010ff00000002000000000006 s t := (htaken.weaken rfl).trans ((hin.weaken rfl).trans (hleft.weaken rfl))
  have hport : t.port n = (portTestEnd n errors (takenBy 0x3A a s)).port n := port_of_ports (hleft.keeps_fab_ports rfl) n
  refine ⟨t, ht, hanswered.congr (hregs.trans hsame).symm, hall.only _ (by intro p; cases p <;> decide), by rw [hport]; exact hover,
    by rw [hport, hfence, taken_port h objectOf_port], fun l hl => ?_, fun hidle => ?_⟩
  · have hapart : regAddr .lnsTest l 0 ≠ regAddr .cmdCi 0 0 := by
      rw [regAddr_lnsTest]
      simp only [regAddr, Reg.info, Block.map]
      omega
    rw [hanswered.raw (hin.regs htr) rfl hapart, raw_congr rfl hregs]
    exact setLoops_off htr (.inl (mem_portLanes.2 hl))
  · rw [hleft.keeps_counters rfl, hcounters fun l hl => (congrArg Lane.chk (taken_lane h objectOf_port l)).trans (hidle l hl)]
    unfold State.count
    rw [htaken.keeps_counters rfl]

end

/-- Settles O35: the body at its turn, by what it finds of the port's slice, its fence and the duration, and at STOP. -/
theorem portTestRunsOnFencedPort : Obligations.PortTestRunsOnFencedPort := by
  unfold Obligations.PortTestRunsOnFencedPort
  refine ⟨?_, ?_⟩
  · intro env a s hturn hwords hstart hloop n b u
    have hdead := taken_sliceDead hturn objectOf_port (n / 16)
    have hport := taken_port hturn objectOf_port n
    refine ⟨fun hfailed => ?_, fun halive hopen => ?_, fun halive hfence hfree => ?_⟩
    · exact ring_refuses_silent hturn objectOf_port (cmdPortTest_failed hwords hloop hstart (hdead.trans hfailed))
    · exact ring_refuses_silent hturn objectOf_port (cmdPortTest_busy hwords hloop hstart (hdead.trans halive) ((congrArg Port.fenced hport).trans hopen))
    · have hbody := cmdPortTest_starts (env := env) (b := b) hwords hloop hstart (hdead.trans halive) ((congrArg Port.fenced hport).trans hfence)
        ((congrArg Port.testing hport).trans hfree)
      refine ⟨fun hforever => portTest_runs hturn hfence (hbody.trans (if_pos hforever)), fun hlasts hquick => ?_⟩
      exact portTest_lasts hturn hfence (hbody.trans ((if_neg hlasts).trans (if_neg (by rw [hquick]; decide))))
  · intro env a s hturn hwords hstop hloop n htest hr
    have hport := taken_port hturn objectOf_port n
    exact portTest_stops hturn bits_lt hr (cmdPortTest_stops hwords hloop hstop ((congrArg Port.testing hport).trans htest))

end Sys2Proof.Machine
